-- ==== Sys2Proof/Word.lean ====
section
/-!
DEFINITION. The word and byte types of Beleno and the plainest arithmetic on them.

A register, a table word, an instruction word and a container are 32 bits; byte memories hold 8 bits a byte.
-/

namespace Sys2Proof

/-- A 32-bit register, table word, instruction word or container (R8). -/
abbrev Word := BitVec 32

/-- A byte of a byte-addressed memory. -/
abbrev Byte := BitVec 8

/-- The signed value of a 32-bit number given as a natural number. -/
def signed32 (n : Nat) : Int :=
  if n % 2 ^ 32 < 2 ^ 31 then Int.ofNat (n % 2 ^ 32) else Int.ofNat (n % 2 ^ 32) - 2 ^ 32

/-- The 32-bit two's complement number of an integer, modulo 2^32. -/
def wrap32 (i : Int) : Nat := (i % 2 ^ 32).toNat

/-- The signed value of a `w`-bit number. -/
def signedN (w n : Nat) : Int :=
  if n % 2 ^ w < 2 ^ (w - 1) then Int.ofNat (n % 2 ^ w) else Int.ofNat (n % 2 ^ w) - 2 ^ w

/-- The `w`-bit two's complement number of an integer, modulo 2^w. -/
def wrapN (w : Nat) (i : Int) : Nat := (i % 2 ^ w).toNat

/-- round(a / b) with a value exactly halfway going away from zero (R596). -/
def roundDiv (a : Int) (b : Nat) : Int :=
  if a < 0 then -(((-a) * 2 + b) / (2 * b)) else (a * 2 + b) / (2 * b)

/-- The least integer at or above a / b (the ceil of the spec's formulas). -/
def ceilDiv (a b : Nat) : Nat := (a + b - 1) / b

/-- An integer held between two bounds. -/
def clampInt (lo hi x : Int) : Int := if x < lo then lo else if hi < x then hi else x

/-- Bit `i` of a natural number. -/
def bit (n i : Nat) : Bool := n / 2 ^ i % 2 == 1

/-- The bits [hi:lo] of a natural number. -/
def bits (n hi lo : Nat) : Nat := n / 2 ^ lo % 2 ^ (hi + 1 - lo)

end Sys2Proof
end

