-- ==== Sys2Proof/Syntax.lean ====
section
/-!
DEFINITION. The commands that the block takes: one constructor of `Instr` per row of spec/opcode_table.json.

A command is a write of the host, an event at a pin, port or timer, a step of the tick pipeline, or one Genah
instruction of one engine. A row's operands carry what the outside world decides: the value written, the frame
received, the phase measured. An event that the state makes impossible changes nothing (DESIGN CHOICE, log entry 1).
-/

namespace Sys2Proof

/-- The two host interfaces (R478, R486). -/
inductive Iface where
  | pcie
  | spi
deriving DecidableEq, Repr

/-- An error found in an on-chip memory (R514): the memory ID, whether it is uncorrectable, the word address, and what it hits: an
engine for memory 6, a tick frame (512 times the buffer, plus the ring slot) for memory 1, a snapshot bank for 11, a cue entry for 12, a local
unit for 14. -/
structure MemErr where
  mem : Nat
  unc : Bool
  addr : Nat
  hit : Nat
deriving DecidableEq, Repr

/-- The second operand of a format S instruction (R105): a register, or imm15. -/
inductive SOperand where
  | reg (gt : Nat)
  | imm (imm15 : Nat)
deriving DecidableEq, Repr

/-- Operand b of a format V instruction (R105): a vector register, or a scalar in every lane. -/
inductive VOperand where
  | vec (vb : Nat)
  | scalar (gt : Nat)
deriving DecidableEq, Repr

/-- The stride mode of a format A access to SXM (R106, R118). -/
inductive Stride where
  | unit
  | chan
  | imm (simm9 : Int)
  | reg (gx : Nat)
deriving DecidableEq, Repr

/-- Where a VLD or VST reaches (R105 format A). -/
inductive VAddr where
  | sxm (h : Nat) (stride : Stride)
  | dmem (gb imm10 : Nat)
  | fbuf (gb imm10 : Nat)
deriving DecidableEq, Repr

/-- One Genah instruction as its 32-bit word spells it (R105, R107). -/
inductive Genah where
  | li (gd : Nat) (high : Bool) (imm16 : Nat)
  | add (gd gs : Nat) (b : SOperand)
  | sub (gd gs : Nat) (b : SOperand)
  | and (gd gs : Nat) (b : SOperand)
  | or (gd gs : Nat) (b : SOperand)
  | xor (gd gs : Nat) (b : SOperand)
  | shl (gd gs : Nat) (b : SOperand)
  | shr (gd gs : Nat) (b : SOperand)
  | sar (gd gs : Nat) (b : SOperand)
  | mul (gd gs : Nat) (b : SOperand)
  | cmp (gs : Nat) (b : SOperand)
  | lw (gd gb : Nat) (simm16 : Int)
  | sw (gs gb : Nat) (simm16 : Int)
  | br (cond offset : Nat)
  | loop (d count : Nat)
  | loopr (gs d max : Nat)
  | endl
  | call (target : Nat)
  | ret
  | endt
  | hset (h : Nat) (out : Bool) (gs imm13 : Nat)
  | hadv (h : Nat) (set : Bool) (gs : Nat) (simm16 : Int)
  | vld (v : Nat) (src : VAddr) (gm : Nat)
  | vst (v : Nat) (dst : VAddr) (gm : Nat)
  | vadd (vd va : Nat) (b : VOperand) (gm : Nat) (neg : Bool)
  | vmul (vd va : Nat) (b : VOperand) (gm : Nat)
  | vmac (ad va : Nat) (b : VOperand) (gm : Nat) (z neg : Bool)
  | vsat (vd as gm sh : Nat)
  | vsel (vd va vb gm : Nat)
  | vpeak (vd va gm : Nat)
  | vramp (vd gs gt gm : Nat)
  | vdith (vd va : Nat) (b : VOperand) (gm w : Nat) (t : Bool)
  | fetch (gf go gx region len : Nat)
  | waitf (k : Nat)
  | put (gf go gx region len : Nat)
  | tkidx (gd sel : Nat)
  | tstat (gd hv mode : Nat)
  | muz (h gm : Nat)
  | mark (gs imm16 : Nat)
deriving DecidableEq, Repr

/-- What a chip that joins a pair receives from the ACTIVE (R466): its restore point, as words of the live copy, the open shadow and the
pending image by key and bytes of DMEM by address, the marker's sequence, words 1 to 3 of every journal entry after it, and the applying
tick of a GO without an outcome. -/
structure PairImage where
  live : List (Nat × Nat)
  shadow : List (Nat × Nat)
  pend : List (Nat × Nat)
  params : List (Nat × Nat)
  marker : Nat
  entries : List (Nat × Nat × Nat)
  fixed : Option Nat
deriving DecidableEq, Repr


/-- A command of the block: one constructor per row of the opcode table. -/
inductive Instr where
  /-- TICK_BOUNDARY (R18): At each boundary B(n) Beleno seals, snapshots, commits, retires, freezes and counts, in that order, and then starts tick-n work. -/
  | tickBoundary (phases : List (Nat × Int))
  /-- GUARD_START (R15): At 512 core cycles before the next boundary the guard begins, with overrun aborts, late-gather marking and the muzzle evaluation. -/
  | guardStart (done : List Nat) (errs : List MemErr)
  /-- PATCH_GATHER_COMPLETE (R21): The Patch Map finishes its gathers for the tick, which makes its output frame ready for run-ahead. -/
  | patchGatherComplete
  /-- RUNAHEAD_START (R79): An idle engine whose next-tick inputs are all ready starts its tick n+1 program with stores held in the RSB. -/
  | runaheadStart (e : Nat)
  /-- DRAM_TRANSACTION_COMPLETE (R74): The DRAM controller completes an engine FETCH or PUT and frees its fetch ticket. -/
  | dramTransactionComplete (e i : Nat) (bad : List Nat) (corr : Nat)
  /-- ILLEGAL_INSN (R145): An engine that fetches an illegal word or one failing its IMEM check is stopped and its outputs invalidated. -/
  | illegalInsn (e : Nat) (imem : Bool)
  /-- LI (R109): Loads a sign-extended immediate, or the upper half of a register. -/
  | li (e gd : Nat) (high : Bool) (imm16 : Nat)
  /-- ADD (R108): Writes the sum of a register and an operand, modulo 2^32. -/
  | add (e gd gs : Nat) (b : SOperand)
  /-- SUB (R108): Writes the difference of a register and an operand, modulo 2^32. -/
  | sub (e gd gs : Nat) (b : SOperand)
  /-- AND (R108): Writes the bitwise AND of a register and an operand. -/
  | and (e gd gs : Nat) (b : SOperand)
  /-- OR (R108): Writes the bitwise OR of a register and an operand. -/
  | or (e gd gs : Nat) (b : SOperand)
  /-- XOR (R108): Writes the bitwise XOR of a register and an operand. -/
  | xor (e gd gs : Nat) (b : SOperand)
  /-- SHL (R108): Writes a register shifted left logically. -/
  | shl (e gd gs : Nat) (b : SOperand)
  /-- SHR (R108): Writes a register shifted right logically. -/
  | shr (e gd gs : Nat) (b : SOperand)
  /-- SAR (R108): Writes a register shifted right arithmetically. -/
  | sar (e gd gs : Nat) (b : SOperand)
  /-- MUL (R108): Writes the low 32 bits of the signed product. -/
  | mul (e gd gs : Nat) (b : SOperand)
  /-- CMP (R110): Sets the Z, N, C and V flags from a subtraction and discards its result. -/
  | cmp (e gs : Nat) (b : SOperand)
  /-- LW (R112): Loads a DMEM word into a scalar register. -/
  | lw (e gd gb : Nat) (simm16 : Int)
  /-- SW (R112): Stores a scalar register to a DMEM word. -/
  | sw (e gs gb : Nat) (simm16 : Int)
  /-- BR (R111): Branches forward when its condition holds. -/
  | br (e cond offset : Nat)
  /-- LOOP (R113): Pushes an immediate count and enters the loop body, or skips it when the count is 0. -/
  | loop (e d count : Nat)
  /-- LOOPR (R113): Pushes a register count limited by max and enters the loop body, or skips it. -/
  | loopr (e gs d max : Nat)
  /-- ENDL (R113): Decrements the innermost loop count and returns to the body start or pops the loop. -/
  | endl (e : Nat)
  /-- CALL (R114): Pushes the return address and jumps to a subroutine. -/
  | call (e target : Nat)
  /-- RET (R114): Pops the call stack and jumps to the popped address. -/
  | ret (e : Nat)
  /-- ENDT (R115): Ends the tick program at once and puts the engine in IDLE. -/
  | endt (e : Nat)
  /-- HSET (R116): Binds a handle to a declared buffer frame and sets its cursor to 0. -/
  | hset (e h : Nat) (out : Bool) (gs imm13 : Nat)
  /-- HADV (R117): Moves or sets a handle cursor. -/
  | hadv (e h : Nat) (set : Bool) (gs : Nat) (simm16 : Int)
  /-- VLD (R121): Loads vector lanes from SXM, DMEM or FBUF and sets their tags. -/
  | vld (e v : Nat) (src : VAddr) (gm wait : Nat)
  /-- VST (R118): Stores enabled in-frame vector lanes to SXM, DMEM or FBUF. -/
  | vst (e v : Nat) (dst : VAddr) (gm wait : Nat)
  /-- VADD (R124): Writes the saturated sum or difference of two vectors. -/
  | vadd (e vd va : Nat) (b : VOperand) (gm : Nat) (neg : Bool)
  /-- VMUL (R125): Multiplies containers by a Q4.28 coefficient with rounding and saturation. -/
  | vmul (e vd va : Nat) (b : VOperand) (gm : Nat)
  /-- VMAC (R126): Multiplies and accumulates exact products into 64-bit accumulator lanes. -/
  | vmac (e ad va : Nat) (b : VOperand) (gm : Nat) (z neg : Bool)
  /-- VSAT (R127): Rounds and saturates an accumulator into containers. -/
  | vsat (e vd src gm sh : Nat)
  /-- VSEL (R128): Selects each lane from one of two vectors by a selector register. -/
  | vsel (e vd va vb gm : Nat)
  /-- VPEAK (R129): Holds the peak magnitude of valid lanes. -/
  | vpeak (e vd va gm : Nat)
  /-- VRAMP (R130): Writes a linear ramp across the lanes. -/
  | vramp (e vd gs gt gm : Nat)
  /-- VDITH (R131): Adds triangular dither from the LFSR and truncates to a width, or truncates only. -/
  | vdith (e vd va : Nat) (b : VOperand) (gm w : Nat) (t : Bool)
  /-- FETCH (R134): Issues a DRAM-to-FBUF transfer from a declared region, holding one fetch ticket. -/
  | fetch (e gf go gx region len wait : Nat)
  /-- WAITF (R136): Waits until all but the k most recent transactions of the engine have completed. -/
  | waitf (e k wait : Nat)
  /-- PUT (R134): Issues an FBUF-to-DRAM transfer into a declared region, holding one fetch ticket. -/
  | put (e gf go gx region len wait : Nat)
  /-- TKIDX (R139): Reads the program's tick index, TICK_LEN or engine number. -/
  | tkidx (e gd sel : Nat)
  /-- TSTAT (R140): Reads frame, muzzle, lane, saturation or handle status into a register. -/
  | tstat (e gd hv mode : Nat)
  /-- MUZ (R141): Requests that lanes of an OUT handle count as invalid in the muzzle evaluation. -/
  | muz (e h gm : Nat)
  /-- MARK (R142): Records a program event carrying an immediate and a register value. -/
  | mark (e gs imm16 : Nat)
  /-- COMMIT_GO (R597): A write of GLB.COMMIT.GO is checked and then captures the open shadow into the pending image, or is refused. -/
  | commitGo (i : Iface) (v : Nat)
  /-- COMMIT_CANCEL (R44): A write of GLB.COMMIT.CANCEL abandons a commit in progress and merges the pending image back. -/
  | commitCancel (i : Iface) (v : Nat)
  /-- COMMIT_VALIDATION_DONE (R40): Validation of the pending image completes and the commit becomes PENDING or is refused. -/
  | commitValidationDone
  /-- SNAPSHOT_REQUEST (R49): A write of GLB.SNAPREQ.REQ requests a snapshot at the next free boundary. -/
  | snapshotRequest (i : Iface)
  /-- SNAPSHOT_FILL_DONE (R52): A snapshot bank is written through its tail word and GLB.SNAPSEQ advances. -/
  | snapshotFillDone
  /-- CKPT_NOW (R58): A write of GLB.JCTL.CKPT_NOW starts a checkpoint at the next boundary. -/
  | ckptNow (i : Iface) (v : Nat)
  /-- CHECKPOINT_COMPLETE (R61): A checkpoint image and CRC are written and verified, and it becomes the restore point. -/
  | checkpointComplete (ok : Bool)
  /-- DEVICE_RECOVERY (R511): A fault of class DEVICE_RECOVERY restores the restore point and replays the journal. -/
  | deviceRecovery (crcBad : Bool)
  /-- REPLAY_DONE (R66): A replay ends, GLB.COMMITHIST.RECOVERED is set and an unresolved GO is validated again. -/
  | replayDone (bad : Bool)
  /-- UNIT_RESTART (R510): A unit fault invalidates the unit's outputs and restores and replays its addresses. -/
  | unitRestart (b e cause : Nat) (crcBad : Bool)
  /-- UNIT_RESTARTED (R510): A restarted unit resumes at the first boundary after its replay. -/
  | unitRestarted (b e : Nat)
  /-- ENGINE_COUNTER_CLEAR (R101): A write of GE.CNTCLR clears the counters and peak cycles of the named engines. -/
  | engineCounterClear (i : Iface) (v : Nat)
  /-- GE_PROFILE_LOAD (R161): A write of GE.PROFILEn.LOAD expands a stock program into the engine's open shadow. -/
  | geProfileLoad (i : Iface) (e v : Nat)
  /-- RX_FRAME (R417): A frame received at a port is checked, matched to a flow, forwarded and delivered in order. -/
  | rxFrame (x : Nat) (bytes : List Nat) (fcsOk : Bool) (corr uncorr : Nat)
  /-- COPY_HEADER_TAKEN (R180): The depacketizer takes a copy's header, computes placement and judges it for format, leash and duplication. -/
  | copyHeaderTaken (p : Nat)
  /-- COPY_CONFIRM (R184): A copy whose last word is committed without error sets the valid bits of its in-time sample frames. -/
  | copyConfirm (p : Nat)
  /-- COPY_REWIND (R185): A copy that fails FCS, checksum or ECC is rewound and none of its valid bits is set. -/
  | copyRewind (p : Nat) (ecc : Option Nat)
  /-- RX_TIMEOUT (R191): A flow with no confirmed copy for TIMEOUT ticks becomes inactive. -/
  | rxTimeout (i : Nat)
  /-- DEEP_FRAME_MOVE (R190): The deep-receive mover copies a frame and its valid bits from the DRAM ring into SXM. -/
  | deepFrameMove (i : Nat) (bad : List Nat) (corr : Nat)
  /-- RX_COUNTER_CLEAR (R196): A write of FLOW.RXCLR.GO clears the counters of one or all receive records. -/
  | rxCounterClear (i : Iface) (v : Nat)
  /-- TX_COUNTER_CLEAR (R221): A write of FLOW.TXCLR.GO clears words 3 to 10 of one or all transmit records. -/
  | txCounterClear (i : Iface) (v : Nat)
  /-- TX_PROFILE_LOAD (R220): A write of FLOW.TXPROFILE.LOAD writes a profile's values into a transmit entry's open shadow. -/
  | txProfileLoad (i : Iface) (v : Nat)
  /-- KENNEL_WORD_PUSH (R232): A producer pushes one word into a kennel, committing the packet on its last word. -/
  | kennelWordPush (k word : Nat) (last : Bool)
  /-- KENNEL_WORD_POP (R233): A consumer pops one word from a kennel. -/
  | kennelWordPop (k err a : Nat)
  /-- KENNEL_BOUNDARY_FAULT (R236): A parity error in a kennel's boundary store resets that kennel. -/
  | kennelBoundaryFault (k : Nat)
  /-- KENNEL_RESET (R238): A write of Kn_RST.RST empties the kennel, unless its unit is enabled. -/
  | kennelReset (i : Iface) (k : Nat)
  /-- KENNEL_PIO_PUSH (R241): A host write to 0x800 and then 0x804 pushes one word into a kennel. -/
  | kennelPioPush (i : Iface) (k lo hi : Nat)
  /-- KENNEL_PIO_PUSHLAST (R242): A host write to 0x808 and then 0x80C pushes the last word and commits the packet. -/
  | kennelPioPushlast (i : Iface) (k lo hi : Nat)
  /-- KENNEL_PIO_POP (R241): A host write to 0x810 pops up to k committed packets. -/
  | kennelPioPop (i : Iface) (k v : Nat)
  /-- FALL_COMPLETE (R250): After F falling samples the lane emits 0 and enters HOLDING, SILENT, GATED or STARTWAIT. -/
  | fallComplete (b c : Nat)
  /-- MUZ_RISE (R251): A lane whose hold count reaches HOLD after its fall enters RISING. -/
  | muzRise (b c : Nat)
  /-- RISE_COMPLETE (R251): After Q rising samples the lane becomes OPEN. -/
  | riseComplete (b c : Nat)
  /-- ZC_TIMEOUT (R257): A zero-crossing wait reaches its limit and rises or falls over 32 × m samples. -/
  | zcTimeout (b c : Nat)
  /-- HERD_ARM (R260): A write of Hk_CMD.ARM moves an enabled herd to ARMED and judges a TICK or TIME trigger. -/
  | herdArm (i : Iface) (k : Nat)
  /-- HERD_GO (R260): A write of Hk_CMD.GO triggers an armed HOST herd to start at n + 2. -/
  | herdGo (i : Iface) (k : Nat)
  /-- HERD_PIN_TRIGGER (R260): A rising edge on the herd's EVIN triggers an armed PIN herd. -/
  | herdPinTrigger (pin : Nat)
  /-- HERD_TIME_TRIGGER (R260): TIME.NS reaching Hk_AT triggers an armed TIME herd. -/
  | herdTimeTrigger (k : Nat)
  /-- HERD_STARTED (R261): At tick S the herd becomes RUNNING and its members and gated lanes start. -/
  | herdStarted (k : Nat)
  /-- HERD_STOP (R262): A write of Hk_CMD.STOP moves the herd's open lanes to STOPWAIT and the herd to STOPPED. -/
  | herdStop (i : Iface) (k : Nat)
  /-- SAP_LOCKED (R281): A clock group completes acquisition and enters LOCKED with its stores centred. -/
  | sapLocked (k : Nat)
  /-- SAP_LOST (R282): A slave clock group loses BCLK, frame length or rate and enters LOST. -/
  | sapLost (k cause : Nat)
  /-- SAP_FRAME_ERROR (R283): An FS frame of wrong length marks its input sample frame invalid. -/
  | sapFrameError (k : Nat)
  /-- ELASTIC_STORE_READ (R286): A read of one sample frame from an elastic store tests the fill. -/
  | elasticStoreRead (u : Nat) (out : Bool)
  /-- AES_FRAME_RECEIVED (R299): An AES3 frame is received and its subframes mapped to containers and labels. -/
  | aesFrameReceived (n a b : Nat) (z parity good : Bool) (ofs : Int)
  /-- MADI_FRAME_RECEIVED (R306): A MADI frame is received and its subframes mapped to containers and labels. -/
  | madiFrameReceived (p : Nat) (subs : List Nat) (parity good : Bool)
  /-- AES_CS_BLOCK (R297): A completed channel-status block is checked for its CRCC and staged for capture. -/
  | aesCsBlock (src : Nat) (a b : List Nat)
  /-- AES_LOCKED (R293): An AES3 or MADI receiver completes acquisition and enters LOCKED. -/
  | aesLocked (src : Nat)
  /-- AES_LOST (R294): An AES3 or MADI receiver loses preamble, sync or rate and enters LOST. -/
  | aesLost (src cause : Nat)
  /-- AES_BLKERR (R303): A LABEL-mode transmitter finds a block start off the 192-frame grid and forces a Z. -/
  | aesBlkerr (n : Nat)
  /-- ASRC_LOCKED (R311): An ASRC group's ratio has been stable for 100 ms and the group enters LOCKED. -/
  | asrcLocked (g ratio : Nat)
  /-- ASRC_LOST (R311): An ASRC group loses its foreign edges or leaves its ratio range. -/
  | asrcLost (g cause : Nat)
  /-- ASRC_RELOCK (R311): A ratio step above 200 ppm returns an ASRC group to ACQUIRE. -/
  | asrcRelock (g ratio : Nat)
  /-- REF_SECOND (R318): Every second REF measures offsets and drift rates of each enabled input. -/
  | refSecond (obs : List (Nat × Int × Nat))
  /-- REF_QUALIFIED (R321): An input that has measured for 11 s with no cause enters QUALIFIED. -/
  | refQualified (k : Nat)
  /-- REF_DISQUALIFIED (R322): An input past a hard limit for DWELL seconds, or glitching, enters DISQUALIFIED. -/
  | refDisqualified (k : Nat)
  /-- REF_CAUSE_CLEARED (R322): A disqualified input whose cause is absent for DWELL seconds enters MEASURING. -/
  | refCauseCleared (k : Nat)
  /-- REF_INACTIVE (R321): An input whose signal stops becomes INACTIVE. -/
  | refInactive (k : Nat)
  /-- REF_SIGNAL_RETURN (R321): An inactive input receives a usable signal and enters MEASURING, restoring. -/
  | refSignalReturn (k : Nat)
  /-- REF_WTR_EXPIRE (R328): A restoring input completes its wait-to-restore and becomes eligible. -/
  | refWtrExpire (k : Nat)
  /-- REF_LOCKED (R331): Phase error within LOCKTHR for LOCKTIME seconds moves ACQUIRE to LOCKED. -/
  | refLocked
  /-- REF_HO_EXPIRED (R335): HOTIME reaching HO_BUDGET moves HOLDOVER to HOLDOVER_EXPIRED. -/
  | refHoExpired
  /-- REF_PROFILE_LOAD (R339): A write of REF.PROFILE.LOAD loads a reference profile into the open shadow. -/
  | refProfileLoad (i : Iface) (v : Nat)
  /-- SLICER_RUNT (R371): A slicer pulse narrower than MINW delivers no edge and counts as a glitch. -/
  | slicerRunt (n : Nat)
  /-- APLL_LOST (R351): The clock monitor detects an APLL out of lock and starts a band search. -/
  | apllLost (x kind : Nat)
  /-- BAND_SEARCH_DONE (R348): An APLL band search chooses its band and the APLL begins to acquire. -/
  | bandSearchDone (x band : Nat) (code : Option Nat)
  /-- APLL_LOCKED (R348): An APLL holds phase for 256 reference periods and becomes LOCKED. -/
  | apllLocked (x : Nat)
  /-- APLL_RELOCK (R350): A write of SYN.APLLx_CTL.RELOCK starts a planned lock loss. -/
  | apllRelock (i : Iface) (x : Nat)
  /-- VTUNE_MEASURE (R349): Every 1 ms the tuning voltage of each running APLL is measured. -/
  | vtuneMeasure (x code : Nat)
  /-- RAMP_GO (R360): A write of SYN.RAMPCTL.GO arms or restarts the ramp generator. -/
  | rampGo (i : Iface) (v : Nat)
  /-- RAMP_STOP (R360): A write of SYN.RAMPCTL.STOP stops the ramp at the next boundary and holds its contribution. -/
  | rampStop (i : Iface) (v : Nat)
  /-- RAMP_SEGMENT_ENTER (R359): The ramp enters its next segment, or stops, when a duration or RAMPAT is reached. -/
  | rampSegmentEnter
  /-- EIM_ARM (R377): A write of EIM.CTL.ARM starts a measurement in the selected mode. -/
  | eimArm (i : Iface)
  /-- EIM_STOP (R379): A write of EIM.CTL.STOP abandons the measurement in progress. -/
  | eimStop (i : Iface)
  /-- EIM_RESULT (R378): A measurement completes and writes its result, then RESSEQ. -/
  | eimResult (interval : Int) (edges : Nat) (cal : Bool)
  /-- EIM_TIMEOUT (R378): A measurement with no result within TIMEOUT ms writes a timed-out result. -/
  | eimTimeout
  /-- EIM_CAL_LOST (R374): The interpolator calibration loop loses lock. -/
  | eimCalLost
  /-- EIM_CAL_LOCKED (R374): The interpolator calibration loop locks. -/
  | eimCalLocked
  /-- REF_JUMP_MEASUREMENT (R379): A meter measurement taken for REF completes into REF.INk_JUMP and releases a held ARM. -/
  | refJumpMeasurement (interval : Int)
  /-- TIME_CAP (R384): A write of TIME.CTL.CAP latches the time counter into the CAP registers. -/
  | timeCap (i : Iface) (v : Nat)
  /-- TIME_SET (R385): A write of TIME.CTL.SET loads the time counter as a step. -/
  | timeSet (i : Iface) (v : Nat)
  /-- TIME_ALIGN (R387): A write of TIME.CTL.ALIGN sets the media-time origin at the next boundary. -/
  | timeAlign (i : Iface) (v : Nat)
  /-- PTP_OFFSET_SAMPLE (R397): A firmware offset sample steps or steers the time counter through the servo. -/
  | ptpOffsetSample (p : Nat) (th : Int) (mpd : Nat)
  /-- SERVO_HOST_SAMPLE (R397): A write of TIME.SRVIN feeds one offset sample to the servo. -/
  | servoHostSample (i : Iface) (v : Nat)
  /-- SRV_HOLD (R398): No sample for 4 expected intervals holds the servo correction. -/
  | srvHold
  /-- PTP_ANNOUNCE_ACCEPTED (R393): Firmware writes the parent's clockClass and clockAccuracy from an accepted Announce. -/
  | ptpAnnounceAccepted (p st steps cls acc : Nat)
  /-- PTP_PROFILE_LOAD (R391): A write of TIME.PTPp_CFG.LOAD writes a PTP profile's defaults into the open shadow. -/
  | ptpProfileLoad (i : Iface) (p v : Nat)
  /-- PG_ARM (R400): A write of PGk_CFG.ARM arms a pulse generator and judges its START. -/
  | pgArm (i : Iface) (k v : Nat)
  /-- PG_STOP (R400): A write of PGk_CFG.STOP ends the generator after any pulse in progress. -/
  | pgStop (i : Iface) (k v : Nat)
  /-- PG_LEADING_EDGE (R399): The counter reaches a pulse time and the generator drives its leading edge. -/
  | pgLeadingEdge (k : Nat)
  /-- PG_TRAILING_EDGE (R399): The counter reaches the pulse end and the generator drives its trailing edge. -/
  | pgTrailingEdge (k : Nat)
  /-- CUE_LINE_HOLD (R403): At a send time minus G the port is held idle for the cue send. -/
  | cueLineHold (i x : Nat)
  /-- CUE_SEND (R403): A cue frame is sent at its scheduled time. -/
  | cueSend (i x : Nat)
  /-- LTC_FRAME_DECODED (R407): A sync word ends an LTC frame and its address, bits, time and rate are written. -/
  | ltcFrameDecoded (tc ub flags rate speed : Nat)
  /-- LTC_LOST (R407): No sync word for 2 frame periods makes the LTC reader LOST. -/
  | ltcLost
  /-- LTC_TX_FRAME (R408): The LTC generator begins its next frame with the next address. -/
  | ltcTxFrame
  /-- LTC_JAM (R408): A write of LTCTX_CFG.JAM loads TC into the next frame. -/
  | ltcJam (i : Iface) (v : Nat)
  /-- LINK_UP (R412): A port's PCS lock has held for 1 ms and auto-negotiation is complete, so the link comes up. -/
  | linkUp (x : Nat)
  /-- LINK_DOWN (R412): A port loses lock or negotiation and its link goes down. -/
  | linkDown (x : Nat)
  /-- PORT_FRAME_TX (R424): A free port chooses its next frame by cue hold, strict priority, gates and credit and sends it. -/
  | portFrameTx (x : Nat)
  /-- GATE_LIST_ADVANCE (R426): The interval of a gate control list entry expires and the next entry takes effect. -/
  | gateListAdvance
  /-- MAC_ENTRY_AGED (R420): A MAC table entry unused for AGE seconds is forgotten. -/
  | macEntryAged (vid mac : Nat)
  /-- GROUP_LEAVE (R421): A port leaves a group after 260 s without a report. -/
  | groupLeave (x vid : Nat) (v6 : Bool) (addr : Nat)
  /-- DRAM_TRAINED (R432): DRAM training completes and TRAINED becomes 1. -/
  | dramTrained
  /-- DRAM_LATE (R436): A guaranteed client misses its deadline and the frames concerned are marked invalid. -/
  | dramLate (c i : Nat)
  /-- DELAY_LINE_SERVICE (R439): A delay line writes its source frame into its ring and reads its destination frame. -/
  | delayLineService (i : Nat) (bad : List Nat) (corr : Nat)
  /-- VOICE_SAMPLE_READ (R443): The cue player reads clip samples for the next frame and applies each voice's gain. -/
  | voiceSampleRead (bad : List (Nat × Nat)) (corr : Nat)
  /-- CAPTURE_RECORD (R446): The capture ring writes the record of a tick into its ring. -/
  | captureRecord (room : Bool)
  /-- VOICE_GO (R443): A write of CUE.VCMD.GO starts a voice at tick n + 2. -/
  | voiceGo (i : Iface) (n : Nat)
  /-- VOICE_STOP (R443): A write of CUE.VCMD.STOP ramps a voice's gain to 0. -/
  | voiceStop (i : Iface) (n : Nat)
  /-- VOICE_START (R443): A voice reaches its start tick and plays its first clip sample. -/
  | voiceStart (v : Nat)
  /-- CUE_VOICE_DONE (R443): A voice finishes its clip or its stop ramp and becomes DONE. -/
  | cueVoiceDone (v : Nat)
  /-- CAPTURE_GO (R447): A write of CUE.CAPCTL.GO starts recording with the tick after the next boundary. -/
  | captureGo (i : Iface) (v : Nat)
  /-- CAPTURE_STOP (R447): A write of CUE.CAPCTL.STOP ends recording after the record in progress. -/
  | captureStop (i : Iface) (v : Nat)
  /-- BARK_RECEIVE (R456): A bark from the littermate is authenticated and its fields are compared. -/
  | barkReceive (ws tag : List Nat) (skew : Int) (rtt : Nat)
  /-- BARK_MISSING (R457): No good bark t has arrived 20 µs after B(t), and a third consecutive miss makes PARTNER LOST. -/
  | barkMissing
  /-- MIRROR_PACKET_RECEIVE (R463): A mirrored journal entry is written into the journal and applied when it concerns this chip. -/
  | mirrorPacketReceive (ws tag : List Nat)
  /-- PAIR_CONVERGING (R466): The STANDBY has replayed the ACTIVE's restore point and journal and enters CONVERGING. -/
  | pairConverging (img : PairImage)
  /-- PAIR_SYNCED (R466): CONVERGE ticks have passed, or the partner reports SYNCED, and PARTNER becomes SYNCED. -/
  | pairSynced
  /-- PATH_B_HANDOVER (R454): At the boundary named in TXB the STANDBY takes over path B. -/
  | pathBHandover
  /-- PAIR_HELLO (R461): A link hello from the partner aligns the first tick to the partner's boundaries. -/
  | pairHello (serial : Nat) (ticks : Bool) (index : Nat)
  /-- PAIR_HELLO_TIMEOUT (R461): No partner answers within 100 ms and the chip starts alone at index 0. -/
  | pairHelloTimeout
  /-- SHEPHERD_PIN_CHANGE (R467): A SHEP_SEL level stable for 1 µs becomes the vote. -/
  | shepherdPinChange (level : Bool)
  /-- WITNESS_MESSAGE (R468): A witness datagram is authenticated and replaces the current vote. -/
  | witnessMessage (bytes : List Nat)
  /-- VOTE_EXPIRE (R469): A witness vote reaches the end of its validity and is withdrawn. -/
  | voteExpire
  /-- VOTE_SAMPLE (R470): Each chip samples its vote once per tick and changes role from the next boundary. -/
  | voteSample
  /-- HOST_WRITE (R485): A host write to a register or table word without a row of its own is applied under its access codes or refused. -/
  | hostWrite (i : Iface) (bar o be v : Nat)
  /-- SET_ALIAS_WRITE (R489): A write to a SET alias sets the written bits of RW and RWS fields. -/
  | setAliasWrite (i : Iface) (k v : Nat)
  /-- CLR_ALIAS_WRITE (R489): A write to a CLR alias clears the written bits of RW and RWS fields. -/
  | clrAliasWrite (i : Iface) (k v : Nat)
  /-- TGL_ALIAS_WRITE (R489): A write to a TGL alias inverts the written bits of RW and RWS fields. -/
  | tglAliasWrite (i : Iface) (k v : Nat)
  /-- SQ_ACKNOWLEDGE (R490): A write to an SQ register clears sticky bits when its SEQ matches, or counts a stale write. -/
  | sqAcknowledge (i : Iface) (k v : Nat)
  /-- WO1_WRITE (R491): A write to a write-once field fixes its value, or records LOCK_VIOL on a later write. -/
  | wo1Write (i : Iface) (k v : Nat)
  /-- SPI_WRITE_FRAME (R488): An SPI write frame is checked by CRC and its words are applied and acknowledged. -/
  | spiWriteFrame (bytes : List Nat)
  /-- SPI_READ_FRAME (R488): An SPI read frame is checked and returns its words after the start byte. -/
  | spiReadFrame (bytes : List Nat) (w : Nat)
  /-- DMA_DOORBELL (R494): A write to a channel's doorbell makes descriptors up to the written index ready. -/
  | dmaDoorbell (c v : Nat)
  /-- DMA_DESCRIPTOR_DONE (R494): A descriptor completes, its words 6 and 7 are written, HEAD advances and its vector may be signalled. -/
  | dmaDescriptorDone (c : Nat) (desc data bad : List Nat) (err : Bool)
  /-- DMA_KENNEL_PUSH (R496): A DMA packet is pushed into a kennel once the kennel has room for all of its words. -/
  | dmaKennelPush (c : Nat) (desc packet : List Nat)
  /-- LOG_RECORD_WRITE (R503): The log writes a waiting report as one record and advances WRSEQ. -/
  | logRecordWrite
  /-- LOG_CONSUME (R504): A write of EVT.RDSEQ consumes records, within the permitted range. -/
  | logConsume (i : Iface) (v : Nat)
  /-- DBG_REQUEST (R544): A write of SEC.DBGCTL.REQ issues a debug-opening nonce. -/
  | dbgRequest (i : Iface)
  /-- DBG_SUBMIT (R544): A write of SEC.DBGCTL.SUBMIT checks the signed opening request. -/
  | dbgSubmit (i : Iface)
  /-- DBG_NONCE_EXPIRE (R544): A debug nonce expires 60 s after issue. -/
  | dbgNonceExpire
  /-- ATTEST_GO (R520): A write of SEC.ATTCTL.GO starts an attestation signature. -/
  | attestGo (i : Iface)
  /-- ATTEST_DONE (R520): The attestation signature is written and DONE is set. -/
  | attestDone
  /-- HCMD_OPEN (R528): A host write of block 0 with OPEN offers an image, which is judged and may claim STAGING. -/
  | hcmdOpen (i : Iface)
  /-- HCMD_BLOCK (R532): A write of UPD.HCMD.BLOCK hands the next 4 KiB block to staging. -/
  | hcmdBlock (i : Iface) (n : Nat)
  /-- STAGING_BLOCK_WRITTEN (R529): A staged block is erased and programmed into flash, after the supply test, and NEXTBLK advances. -/
  | stagingBlockWritten (ok : Bool)
  /-- HCMD_END (R532): A write of UPD.HCMD.END starts verification of the staged image. -/
  | hcmdEnd (i : Iface)
  /-- HCMD_ABORT (R532): A write of UPD.HCMD.ABORT releases the claim and leaves STAGING INVALID. -/
  | hcmdAbort (i : Iface)
  /-- STAGING_VERIFY_DONE (R529): Full verification of STAGING completes, marking it VERIFIED or refusing it. -/
  | stagingVerifyDone
  /-- FUSE_BURN_DONE (R542): A FUSE burn completes, UPD_FUSE_DONE is recorded and the device resets. -/
  | fuseBurnDone
  /-- CHAIN_POLL (R533): Every POLL seconds the firmware sends a HEAD request upstream. -/
  | chainPoll
  /-- CHAIN_HEAD_REPLY (R533): A HEAD reply with a newer VERSION is offered and may start a fetch. -/
  | chainHeadReply (header : List Nat)
  /-- CHAIN_DATA_REPLY (R533): A DATA reply delivers one chunk of the image being fetched. -/
  | chainDataReply (k : Nat) (data : List Nat)
  /-- CHAIN_CHUNK_TIMEOUT (R533): A chunk without reply for 20 ms is requested again, and after 8 failures the fetch fails. -/
  | chainChunkTimeout (k : Nat)
  /-- CHAIN_REQUEST (R535): A HEAD or CHUNK request is answered with DATA from a verified STAGING, or NOTREADY. -/
  | chainRequest (head : Bool) (k : Nat)
  /-- OWNERSET (R549): A write of UPD.CTL.OWNERSET records OWNER_LOCK in the BOOT record. -/
  | ownerset (i : Iface) (v : Nat)
  /-- UNLOCK (R549): A write of UPD.CTL.UNLOCK with a valid token clears OWNER_LOCK and advances LOCKSEQ. -/
  | unlock (i : Iface) (v : Nat)
  /-- ROLLBACK_ADVANCE (R540): A write of UPD.ARB.ADVANCE raises the fused rollback count to the ACTIVE image's. -/
  | rollbackAdvance (i : Iface)
  /-- BOOTOK (R538): A write of UPD.BOOT.BOOTOK stops the boot watchdog and ends boot. -/
  | bootok
  /-- BOOT_WATCHDOG_EXPIRE (R538): The 4 s boot watchdog expires and ROM resets the device, counting the failure. -/
  | bootWatchdogExpire
  /-- POWER_LOSS (R551): PWR_GOOD falls or a rail is removed, resetting the device and clearing retained state. -/
  | powerLoss
  /-- PIN_RESET (R552): RESET_N held low for at least 2 µs resets the device. -/
  | pinReset
  /-- RESET_RELEASE (R556): After reset release ROM senses fuses, initialises memory, loads idle programs and acts on BOOT_SRC. -/
  | resetRelease (straps banks : Nat)
  /-- FIRST_TICK (R557): Once ROM step 3 is done and the media APLLs are locked, B(0) begins the ticks. -/
  | firstTick
  /-- ROM_VERIFY_DONE (R537): ROM completes verification of STAGING or ACTIVE and copies, hands over or enters recovery. -/
  | romVerifyDone
  /-- HOLDUP_ASSERT (R537): HOLDUP_OK rising lets ROM start or resume a copy it was waiting to make. -/
  | holdupAssert
  /-- MON_HOLDUP (R584): A fall of HOLDUP_OK is filtered and recorded. -/
  | monHoldup
  /-- MON_RAIL_MEASURE (R582): Every 100 µs MON measures each rail against its margin and trip limits. -/
  | monRailMeasure (k mv : Nat) (long : Bool)
  /-- MON_TEMP_MEASURE (R583): Every 1 ms MON measures Tj against TWARN and the thermal trip. -/
  | monTempMeasure (tj : Int)
  /-- MON_WEAR (R593): The wear monitor's DEGR first reaching 3,000 after power-up is recorded. -/
  | monWear (d : Nat)
  /-- SAP_FRAME_RECEIVED (R278): An FS frame arrives at a slave SAP group and its slots are written into the group's elastic store, counting towards lock. -/
  | sapFrameReceived (k : Nat) (slots : List (Nat × List Nat)) (ofs : Int)
  /-- SAP_BCLK_RETURN (R281): A BCLK edge arriving at a LOST slave clock group moves it to ACQUIRE. -/
  | sapBclkReturn (k : Nat)
  /-- AES_SIGNAL_RETURN (R293): A signal returning to a LOST AES3 or MADI receiver moves it to ACQUIRE. -/
  | aesSignalReturn (src : Nat)
  /-- ASRC_FOREIGN_EDGE_RETURN (R311): The first foreign edge after LOST returns an ASRC group to ACQUIRE. -/
  | asrcForeignEdgeReturn (g : Nat)
  /-- CKO_DELAY_STEP (R365): At each output period of a running clock output whose DELAY changed, the edge moves by one step towards the new value and DELNOW updates. -/
  | ckoDelayStep (j : Nat)
  /-- FORWARDED_LOCAL_WRITE (R464): The ACTIVE receives a local-block write forwarded by the STANDBY and journals it with the STANDBY's side in ORIGIN. -/
  | forwardedLocalWrite (k v : Nat) (tag : List Nat)
  /-- PARTNER_STAGING_REPORT (R528): A chip receives its partner's report of a verified STAGING VERSION and BODYHASH over the pair link. -/
  | partnerStagingReport (version : Nat) (hash : List Nat)
  /-- PTP_ANNOUNCE_RECEIPT_TIMEOUT (R391): A PTP instance receives no Announce within announceReceiptTimeout intervals and the firmware changes its port state. -/
  | ptpAnnounceReceiptTimeout (p : Nat)
  /-- PTP_MESSAGE_INTERVAL (R395): At each interval set by logSync, logAnnounce or the delay interval, the firmware sends Sync, Announce or a delay request. -/
  | ptpMessageInterval (p kind : Nat)
  /-- PCIE_LINK_TRAINED (R558): PCIe link training completes and HIF.IFSTAT.PCIE_UP, WIDTH and SPEED take their values. -/
  | pcieLinkTrained (width speed : Nat)
deriving DecidableEq, Repr

end Sys2Proof
end

