-- ==== Sys2Proof/Decode.lean ====
section
/-!
DEFINITION. The words of spec/opcode_table.json. Its rows give no bits: a command of Beleno is no word, and the one encoding the spec
gives, that of the Genah instructions in an engine's program memory, is Machine/GenahDecode.lean.
-/

namespace Sys2Proof

/-- The command that a word spells by the table's bits. No row of the table gives bits, so no word spells one. -/
def decodeTableWord (_nbits _w : Nat) : Option Instr := none

end Sys2Proof
end

