-- ==== Sys2Proof/Config.lean ====
section
/-!
DEFINITION. What the spec leaves open, as constants with no body: nothing in Lean can evaluate one.

Each is named in a row of the assumption log. A statement of this model that mentions one holds whatever its value.
-/

namespace Sys2Proof

/-- A fresh open value: applied to a counter of State that the reading step advances (DESIGN CHOICE, log entry 4). -/
opaque Config.freeWord : Nat → Word

/-- A fresh open choice among finitely many alternatives, as a number to be reduced modulo their count (DESIGN CHOICE, log entry 4). -/
opaque Config.freePick : Nat → Nat

/-- What a word of an engine's fetch buffer that the program has not written reads as: FBUF contents are not kept
from one program start to the next (R104). The arguments are the number of the start and the word (DESIGN CHOICE, log entry 5). -/
opaque Config.fbufOpen : Nat → Nat → Word

/-- SHA-384 of a byte string, as 48 bytes (R526, R527, R549): the standard's function, not given by the spec (DESIGN CHOICE, log entry 6). -/
opaque Config.sha384 : List Byte → List Byte

/-- ECDSA P-384 verification of a signature over a digest under a public key (R524, R544, R549; DESIGN CHOICE, log entry 6). -/
opaque Config.ecdsaVerify : (key digest sig : List Byte) → Bool

/-- ECDSA P-384 signature by the attestation key over a message (R520; DESIGN CHOICE, log entry 6). -/
opaque Config.attestSign : (seed message : List Byte) → List Byte

/-- The attestation public key of a seed (R520; DESIGN CHOICE, log entry 6). -/
opaque Config.attestPub : (seed : List Byte) → List Byte

/-- AES-256-GCM opening with additional authenticated data: the plaintext, or none where the tag fails (R525, R527; DESIGN CHOICE, log entry 6). -/
opaque Config.gcmOpen : (key nonce aad cipher tag : List Byte) → Option (List Byte)

/-- HMAC-SHA-256 of a message, as 256 bits, its first byte the most significant (R455, R468; DESIGN CHOICE, log entry 6). -/
opaque Config.hmac256 : (key message : List Byte) → BitVec 256

/-- The pairing key derived from the pairing root and the salt (R521; DESIGN CHOICE, log entry 6). -/
opaque Config.pairKey : (root salt : List Byte) → List Byte

/-- The SHA-384 hash of the ROM root key, which mask ROM holds (R518; DESIGN CHOICE, log entry 6). -/
opaque Config.romRootHash : List Byte

/-- A random byte string drawn by the device: nonces (R544), by draw number (DESIGN CHOICE, log entry 6). -/
opaque Config.nonce : Nat → List Byte

/-- Word `w` (by byte offset in the engine's windows) of the expansion of a stock program of a given size: the spec
names the programs of the stock library but carries their code in the RUNTIME image (R161, R163; DESIGN CHOICE, log entry 7). -/
opaque Config.stockCode : (program size : Nat) → List Nat

/-- The descriptor words of a stock program (R152, R163; DESIGN CHOICE, log entry 7). -/
opaque Config.stockDescriptor : (program size : Nat) → List (Nat × Nat)

/-- The default value of the parameter word of a stock program at a byte offset of its table (R161, R163; DESIGN CHOICE, log entry 7). -/
opaque Config.stockParam : (program size offset : Nat) → Nat

/-- The entry point of a stock program as GE.ENTRYn holds it (R161; DESIGN CHOICE, log entry 7). -/
opaque Config.stockEntry : (program size : Nat) → Nat

/-- The container that the rate converter gives at an instant, from the ratio (8.24) and the foreign or media samples about it, each
with its distance in ns from that instant less the delay of R313: the spec states the delay and bounds the response, not the
coefficients (R313; DESIGN CHOICE, log entry 4). -/
opaque Config.asrcSample : (ratio : Nat) → (window : List (Int × Nat)) → Word

/-- The natural frequency, in 10^-9 rad/s, of the reference loop at a bandwidth in mHz: the spec gives the loop's order and damping, not how a
bandwidth names its natural frequency (R331; DESIGN CHOICE, log entry 8). -/
opaque Config.loopOmega : (bandwidth : Nat) → Nat

end Sys2Proof
end

