-- ==== Sys2Proof/Machine/Store.lean ====
section
/-!
DEFINITION. Sparse stores: a list of (key, value) pairs with rising keys, and what an unlisted key reads as.

Every addressed part of the machine is one of these: the words that a host can address, the byte memories
(`List Host.Cell`), and the per-lane records. A store with default function `d` is canonical when its keys
strictly rise and no listed value equals `d` of its key, so equal stores are equal data.
-/

namespace Sys2Proof.Machine

/-- A sparse store of values of type `β` by number. -/
abbrev Store (β : Type) := List (Nat × β)

/-- The value listed for key `k`. -/
def Store.find {β : Type} : Store β → Nat → Option β
  | [], _ => none
  | (a, v) :: m, k => if a = k then some v else Store.find m k

/-- The store without key `k`. -/
def Store.erase {β : Type} : Store β → Nat → Store β
  | [], _ => []
  | (a, v) :: m, k => if a = k then Store.erase m k else (a, v) :: Store.erase m k

/-- The store with `v` listed for `k`, put where the keys keep rising. -/
def Store.insert {β : Type} : Store β → Nat → β → Store β
  | [], k, v => [(k, v)]
  | (a, x) :: m, k, v =>
    if a = k then (k, v) :: m
    else if k < a then (k, v) :: (a, x) :: m
    else (a, x) :: Store.insert m k v

/-- What key `k` reads as, with default `d`. -/
def Store.get {β : Type} (d : Nat → β) (m : Store β) (k : Nat) : β := (m.find k).getD (d k)

/-- The store after writing `v` at `k`: the default value is held by not listing the key. -/
def Store.set {β : Type} [DecidableEq β] (d : Nat → β) (m : Store β) (k : Nat) (v : β) : Store β :=
  if v = d k then m.erase k else m.insert k v

/-- The keys of a store rise strictly, from above `lo` on. -/
def Store.risingFrom {β : Type} : Option Nat → Store β → Bool
  | _, [] => true
  | none, (a, _) :: m => Store.risingFrom (some a) m
  | some b, (a, _) :: m => decide (b < a) && Store.risingFrom (some a) m

/-- The canonical form of a store with default `d`: rising keys, and no entry at its default. -/
def Store.wf {β : Type} [DecidableEq β] (d : Nat → β) (m : Store β) : Bool :=
  Store.risingFrom none m && m.all (fun p => decide (p.2 ≠ d p.1))

/-- The listed keys. -/
def Store.keys {β : Type} (m : Store β) : List Nat := m.map (·.1)

/-- A byte memory: the cells that differ from what an unlisted address reads as. -/
abbrev Memory := List Host.Cell

/-- What an unlisted byte of an on-chip or external memory reads as (MEMORY: DESIGN CHOICE, log entry 3). -/
def byteZero (_ : Nat) : Byte := 0

/-- The byte of memory `m` at address `a`. -/
def Memory.byte (m : Memory) (a : Nat) : Byte := Store.get byteZero m a

/-- Memory `m` with byte `b` at address `a`. -/
def Memory.setByte (m : Memory) (a : Nat) (b : Byte) : Memory := Store.set byteZero m a b

/-- The 32-bit word at byte address `a`, the byte at the lowest address least significant. -/
def Memory.word (m : Memory) (a : Nat) : Nat :=
  (Memory.byte m a).toNat + 2 ^ 8 * (Memory.byte m (a + 1)).toNat + 2 ^ 16 * (Memory.byte m (a + 2)).toNat
    + 2 ^ 24 * (Memory.byte m (a + 3)).toNat

/-- Memory `m` with the 32-bit word `v` at byte address `a`. -/
def Memory.setWord (m : Memory) (a v : Nat) : Memory :=
  Memory.setByte (Memory.setByte (Memory.setByte (Memory.setByte m a (BitVec.ofNat 8 v)) (a + 1) (BitVec.ofNat 8 (v / 2 ^ 8)))
    (a + 2) (BitVec.ofNat 8 (v / 2 ^ 16))) (a + 3) (BitVec.ofNat 8 (v / 2 ^ 24))

/-- The canonical form of a byte memory. -/
def Memory.wf (m : Memory) : Bool := Store.wf byteZero m

/-- `n` consecutive bytes from address `a`. -/
def Memory.bytes (m : Memory) (a : Nat) : Nat → List Byte
  | 0 => []
  | n + 1 => Memory.byte m a :: Memory.bytes m (a + 1) n

/-- Memory with a list of bytes laid from address `a` up. -/
def Memory.setBytes (m : Memory) (a : Nat) : List Byte → Memory
  | [] => m
  | b :: bs => Memory.setBytes (Memory.setByte m a b) (a + 1) bs

/-- A set of numbers: a strictly rising list. -/
abbrev NatSet := List Nat

/-- Membership in a set of numbers. -/
def NatSet.has (s : NatSet) (k : Nat) : Bool := s.any (fun a => a == k)

/-- The set with `k` added. -/
def NatSet.add : NatSet → Nat → NatSet
  | [], k => [k]
  | a :: s, k => if a = k then a :: s else if k < a then k :: a :: s else a :: NatSet.add s k

/-- The set with every member that satisfies `p` taken out. -/
def NatSet.drop (s : NatSet) (p : Nat → Bool) : NatSet := s.filter (fun a => !p a)

end Sys2Proof.Machine
end

