-- ==== Sys2Proof/Machine/Regs.lean ====
section
/-!
DEFINITION. The names of the words a host can address, and of their fields, from the register tables of the spec.

A word is named by its key: its byte offset in BAR0, or 2^31 plus its byte offset in BAR2, which is the
form of GLB.COMMITADDR (R68). A field is a word and the bits it takes there. Registers of an indexed unit take the
index as an argument. R165, R166, R169, R199, R217, R259, R401, R426, R438, R442 give the tables.
-/

namespace Sys2Proof.Machine

/-- A bit field of an addressed word: the word's key, its lowest bit and its width. -/
structure Fld where
  key : Nat
  lo : Nat
  width : Nat
deriving DecidableEq, Repr

/-- The bits of `w` that field `f` names. -/
def Fld.ext (f : Fld) (w : Word) : Nat := w.toNat / 2 ^ f.lo % 2 ^ f.width

/-- Word `w` with the bits of field `f` set to `v`, modulo the field's width. -/
def Fld.put (f : Fld) (w : Word) (v : Nat) : Word :=
  BitVec.ofNat 32 (w.toNat % 2 ^ f.lo + 2 ^ f.lo * (v % 2 ^ f.width) + 2 ^ (f.lo + f.width) * (w.toNat / 2 ^ (f.lo + f.width)))

/-- The key of BAR2 offset `o`. -/
def bar2 (o : Nat) : Nat := 2 ^ 31 + o

/-- GLB.ID: identity (R564). -/
def GLB.ID : Nat := 0x0
def GLB.ID.PART : Fld := ⟨GLB.ID, 16, 16⟩
def GLB.ID.STEPL : Fld := ⟨GLB.ID, 12, 4⟩
def GLB.ID.STEPN : Fld := ⟨GLB.ID, 8, 4⟩
def GLB.ID.FUSEMAP : Fld := ⟨GLB.ID, 0, 8⟩
/-- GLB.SERIALLO (R564). -/
def GLB.SERIALLO : Nat := 0x4
def GLB.SERIALLO.val : Fld := ⟨GLB.SERIALLO, 0, 32⟩
/-- GLB.SERIALHI (R564). -/
def GLB.SERIALHI : Nat := 0x8
def GLB.SERIALHI.val : Fld := ⟨GLB.SERIALHI, 0, 32⟩
/-- GLB.UNITCAP: units present (R564). -/
def GLB.UNITCAP : Nat := 0xC
def GLB.UNITCAP.PAIRLINK : Fld := ⟨GLB.UNITCAP, 31, 1⟩
def GLB.UNITCAP.DRAMCTL : Fld := ⟨GLB.UNITCAP, 30, 1⟩
def GLB.UNITCAP.CUEPLAYER : Fld := ⟨GLB.UNITCAP, 29, 1⟩
def GLB.UNITCAP.CAPTURE : Fld := ⟨GLB.UNITCAP, 28, 1⟩
def GLB.UNITCAP.DELAYLINES : Fld := ⟨GLB.UNITCAP, 27, 1⟩
def GLB.UNITCAP.ASRC : Fld := ⟨GLB.UNITCAP, 26, 1⟩
def GLB.UNITCAP.MADI : Fld := ⟨GLB.UNITCAP, 25, 1⟩
def GLB.UNITCAP.PORT25G : Fld := ⟨GLB.UNITCAP, 24, 1⟩
def GLB.UNITCAP.DRAMMAX : Fld := ⟨GLB.UNITCAP, 21, 3⟩
def GLB.UNITCAP.CHANLOG2 : Fld := ⟨GLB.UNITCAP, 16, 4⟩
def GLB.UNITCAP.ENGINES : Fld := ⟨GLB.UNITCAP, 0, 16⟩
/-- GLB.STRAPS: latched straps (R564). -/
def GLB.STRAPS : Nat := 0x10
def GLB.STRAPS.SPI_QUAD : Fld := ⟨GLB.STRAPS, 7, 1⟩
def GLB.STRAPS.SPI_ADDR : Fld := ⟨GLB.STRAPS, 5, 2⟩
def GLB.STRAPS.PAIR_HINT : Fld := ⟨GLB.STRAPS, 4, 1⟩
def GLB.STRAPS.HOST_IF : Fld := ⟨GLB.STRAPS, 3, 1⟩
def GLB.STRAPS.BOOT_SRC : Fld := ⟨GLB.STRAPS, 0, 2⟩
/-- GLB.BOOTSTAT: boot progress (R564). -/
def GLB.BOOTSTAT : Nat := 0x14
def GLB.BOOTSTAT.STAGE : Fld := ⟨GLB.BOOTSTAT, 28, 4⟩
def GLB.BOOTSTAT.HALTCAUSE : Fld := ⟨GLB.BOOTSTAT, 24, 4⟩
def GLB.BOOTSTAT.STRAPERR : Fld := ⟨GLB.BOOTSTAT, 23, 1⟩
def GLB.BOOTSTAT.MS : Fld := ⟨GLB.BOOTSTAT, 0, 16⟩
/-- GLB.MEDIA: media clock and tick configuration (R32). -/
def GLB.MEDIA : Nat := 0x40
def GLB.MEDIA.SPEEDCAP : Fld := ⟨GLB.MEDIA, 12, 12⟩
def GLB.MEDIA.FAMILY : Fld := ⟨GLB.MEDIA, 8, 1⟩
def GLB.MEDIA.TICK_LEN : Fld := ⟨GLB.MEDIA, 0, 6⟩
/-- GLB.TICKIDX: tick index (R32). -/
def GLB.TICKIDX : Nat := 0x44
def GLB.TICKIDX.val : Fld := ⟨GLB.TICKIDX, 0, 32⟩
/-- GLB.BUDGET: engine budget (R32). -/
def GLB.BUDGET : Nat := 0x48
def GLB.BUDGET.val : Fld := ⟨GLB.BUDGET, 0, 21⟩
/-- GLB.PROOFLIM: proof limit (R32). -/
def GLB.PROOFLIM : Nat := 0x4C
def GLB.PROOFLIM.val : Fld := ⟨GLB.PROOFLIM, 0, 21⟩
/-- GLB.TICKSTAT: tick clock state (R32). -/
def GLB.TICKSTAT : Nat := 0x50
def GLB.TICKSTAT.CLAMPED : Fld := ⟨GLB.TICKSTAT, 2, 1⟩
def GLB.TICKSTAT.FREERUN : Fld := ⟨GLB.TICKSTAT, 1, 1⟩
def GLB.TICKSTAT.COARSE : Fld := ⟨GLB.TICKSTAT, 0, 1⟩
/-- GLB.TICKHIST: tick history (R32). -/
def GLB.TICKHIST : Nat := 0x54
def GLB.TICKHIST.SEQ : Fld := ⟨GLB.TICKHIST, 24, 8⟩
def GLB.TICKHIST.PATCH_LATE : Fld := ⟨GLB.TICKHIST, 3, 1⟩
def GLB.TICKHIST.OVERRUN : Fld := ⟨GLB.TICKHIST, 2, 1⟩
def GLB.TICKHIST.CLAMPED : Fld := ⟨GLB.TICKHIST, 1, 1⟩
def GLB.TICKHIST.COARSE : Fld := ⟨GLB.TICKHIST, 0, 1⟩
/-- GLB.COMMIT: commit control (R68). -/
def GLB.COMMIT : Nat := 0x80
def GLB.COMMIT.SNAP : Fld := ⟨GLB.COMMIT, 7, 1⟩
def GLB.COMMIT.LATE : Fld := ⟨GLB.COMMIT, 6, 1⟩
def GLB.COMMIT.MODE : Fld := ⟨GLB.COMMIT, 4, 2⟩
def GLB.COMMIT.CANCEL : Fld := ⟨GLB.COMMIT, 1, 1⟩
def GLB.COMMIT.GO : Fld := ⟨GLB.COMMIT, 0, 1⟩
/-- GLB.COMMITAT: commit target (R68). -/
def GLB.COMMITAT : Nat := 0x84
def GLB.COMMITAT.val : Fld := ⟨GLB.COMMITAT, 0, 32⟩
/-- GLB.COMMITSTAT: commit status (R68). -/
def GLB.COMMITSTAT : Nat := 0x88
def GLB.COMMITSTAT.STATE : Fld := ⟨GLB.COMMITSTAT, 28, 4⟩
def GLB.COMMITSTAT.REASON : Fld := ⟨GLB.COMMITSTAT, 16, 8⟩
/-- GLB.COMMITADDR: first offending address (R68). -/
def GLB.COMMITADDR : Nat := 0x8C
def GLB.COMMITADDR.SPACE : Fld := ⟨GLB.COMMITADDR, 31, 1⟩
def GLB.COMMITADDR.OFFSET : Fld := ⟨GLB.COMMITADDR, 0, 26⟩
/-- GLB.EPOCH: applied epochs (R68). -/
def GLB.EPOCH : Nat := 0x90
def GLB.EPOCH.val : Fld := ⟨GLB.EPOCH, 0, 32⟩
/-- GLB.EPOCHTICK: epoch start tick (R68). -/
def GLB.EPOCHTICK : Nat := 0x94
def GLB.EPOCHTICK.val : Fld := ⟨GLB.EPOCHTICK, 0, 32⟩
/-- GLB.COMMITHIST: commit history (R68). -/
def GLB.COMMITHIST : Nat := 0x98
def GLB.COMMITHIST.SEQ : Fld := ⟨GLB.COMMITHIST, 24, 8⟩
def GLB.COMMITHIST.RECOVERED : Fld := ⟨GLB.COMMITHIST, 3, 1⟩
def GLB.COMMITHIST.LATE : Fld := ⟨GLB.COMMITHIST, 2, 1⟩
def GLB.COMMITHIST.REFUSED : Fld := ⟨GLB.COMMITHIST, 1, 1⟩
def GLB.COMMITHIST.APPLIED : Fld := ⟨GLB.COMMITHIST, 0, 1⟩
/-- GLB.SNAPREQ: snapshot request (R68). -/
def GLB.SNAPREQ : Nat := 0xA0
def GLB.SNAPREQ.REQ : Fld := ⟨GLB.SNAPREQ, 0, 1⟩
/-- GLB.SNAPSEQ: last complete snapshot (R68). -/
def GLB.SNAPSEQ : Nat := 0xA4
def GLB.SNAPSEQ.val : Fld := ⟨GLB.SNAPSEQ, 0, 32⟩
/-- GLB.SNAPBASE: snapshot bank base (R68). -/
def GLB.SNAPBASE : Nat := 0xA8
def GLB.SNAPBASE.val : Fld := ⟨GLB.SNAPBASE, 0, 32⟩
/-- GLB.SNAPSTAT: snapshot status (R68). -/
def GLB.SNAPSTAT : Nat := 0xAC
def GLB.SNAPSTAT.PENDING : Fld := ⟨GLB.SNAPSTAT, 1, 1⟩
def GLB.SNAPSTAT.BUSY : Fld := ⟨GLB.SNAPSTAT, 0, 1⟩
/-- GLB.JCTL: journal and checkpoint control (R68). -/
def GLB.JCTL : Nat := 0xC0
def GLB.JCTL.LOC : Fld := ⟨GLB.JCTL, 17, 1⟩
def GLB.JCTL.CKPT_NOW : Fld := ⟨GLB.JCTL, 16, 1⟩
def GLB.JCTL.CKPT_EPOCHS : Fld := ⟨GLB.JCTL, 0, 16⟩
/-- GLB.JSTAT: journal status (R68). -/
def GLB.JSTAT : Nat := 0xC4
def GLB.JSTAT.REFUSED : Fld := ⟨GLB.JSTAT, 16, 16⟩
def GLB.JSTAT.FULL : Fld := ⟨GLB.JSTAT, 15, 1⟩
def GLB.JSTAT.REPLAY : Fld := ⟨GLB.JSTAT, 14, 1⟩
def GLB.JSTAT.FILL : Fld := ⟨GLB.JSTAT, 0, 14⟩
/-- GLB.JSEQ: journal sequence (R68). -/
def GLB.JSEQ : Nat := 0xC8
def GLB.JSEQ.val : Fld := ⟨GLB.JSEQ, 0, 32⟩
/-- GLB.JBASE: journal base (R68). -/
def GLB.JBASE : Nat := 0xCC
def GLB.JBASE.val : Fld := ⟨GLB.JBASE, 0, 32⟩
/-- GLB.CKPTBASE: checkpoint area base (R68). -/
def GLB.CKPTBASE : Nat := 0xD0
def GLB.CKPTBASE.val : Fld := ⟨GLB.CKPTBASE, 0, 32⟩
/-- GLB.CKPTLEN: checkpoint area length (R68). -/
def GLB.CKPTLEN : Nat := 0xD4
def GLB.CKPTLEN.val : Fld := ⟨GLB.CKPTLEN, 0, 32⟩
/-- GLB.CKPTNEED: checkpoint slot size (R68). -/
def GLB.CKPTNEED : Nat := 0xD8
def GLB.CKPTNEED.val : Fld := ⟨GLB.CKPTNEED, 0, 32⟩
/-- GLB.CKPTSTAT: checkpoint status (R68). -/
def GLB.CKPTSTAT : Nat := 0xDC
def GLB.CKPTSTAT.BUSY : Fld := ⟨GLB.CKPTSTAT, 31, 1⟩
def GLB.CKPTSTAT.VALID : Fld := ⟨GLB.CKPTSTAT, 30, 1⟩
def GLB.CKPTSTAT.SLOT : Fld := ⟨GLB.CKPTSTAT, 29, 1⟩
/-- GLB.CKPTSEQ: restore point marker (R68). -/
def GLB.CKPTSEQ : Nat := 0xE0
def GLB.CKPTSEQ.val : Fld := ⟨GLB.CKPTSEQ, 0, 32⟩
/-- HIF.IFSTAT: interface status (R499). -/
def HIF.IFSTAT : Nat := 0x10000
def HIF.IFSTAT.PCIE_UP : Fld := ⟨HIF.IFSTAT, 31, 1⟩
def HIF.IFSTAT.WIDTH : Fld := ⟨HIF.IFSTAT, 24, 4⟩
def HIF.IFSTAT.SPEED : Fld := ⟨HIF.IFSTAT, 20, 4⟩
def HIF.IFSTAT.SPIADDR : Fld := ⟨HIF.IFSTAT, 8, 2⟩
/-- HIF.HIST: host access history (R499). -/
def HIF.HIST : Nat := 0x10004
def HIF.HIST.SEQ : Fld := ⟨HIF.HIST, 24, 8⟩
def HIF.HIST.DMA_ERR : Fld := ⟨HIF.HIST, 4, 1⟩
def HIF.HIST.SPI : Fld := ⟨HIF.HIST, 3, 1⟩
def HIF.HIST.ABSENT : Fld := ⟨HIF.HIST, 2, 1⟩
def HIF.HIST.LOCK_VIOL : Fld := ⟨HIF.HIST, 1, 1⟩
def HIF.HIST.ACC_ERR : Fld := ⟨HIF.HIST, 0, 1⟩
/-- HIF.ACCERRADDR (R499). -/
def HIF.ACCERRADDR : Nat := 0x10008
def HIF.ACCERRADDR.val : Fld := ⟨HIF.ACCERRADDR, 0, 32⟩
/-- HIF.ACCERRINFO (R499). -/
def HIF.ACCERRINFO : Nat := 0x1000C
def HIF.ACCERRINFO.IF : Fld := ⟨HIF.ACCERRINFO, 30, 2⟩
def HIF.ACCERRINFO.CAUSE : Fld := ⟨HIF.ACCERRINFO, 0, 4⟩
/-- HIF.ACCERRCNT (R499). -/
def HIF.ACCERRCNT : Nat := 0x10010
def HIF.ACCERRCNT.val : Fld := ⟨HIF.ACCERRCNT, 0, 32⟩
/-- HIF.LOCKADDR (R499). -/
def HIF.LOCKADDR : Nat := 0x10014
def HIF.LOCKADDR.val : Fld := ⟨HIF.LOCKADDR, 0, 32⟩
/-- HIF.LOCKCNT (R499). -/
def HIF.LOCKCNT : Nat := 0x10018
def HIF.LOCKCNT.val : Fld := ⟨HIF.LOCKCNT, 0, 32⟩
/-- HIF.ACK_STALE (R499). -/
def HIF.ACK_STALE : Nat := 0x1001C
def HIF.ACK_STALE.val : Fld := ⟨HIF.ACK_STALE, 0, 32⟩
/-- HIF.ACKADDR (R499). -/
def HIF.ACKADDR : Nat := 0x10020
def HIF.ACKADDR.val : Fld := ⟨HIF.ACKADDR, 0, 32⟩
/-- HIF.ABSENTCNT (R499). -/
def HIF.ABSENTCNT : Nat := 0x10024
def HIF.ABSENTCNT.val : Fld := ⟨HIF.ABSENTCNT, 0, 32⟩
/-- HIF.SPISTAT (R499). -/
def HIF.SPISTAT : Nat := 0x10030
def HIF.SPISTAT.CRCERR : Fld := ⟨HIF.SPISTAT, 16, 16⟩
def HIF.SPISTAT.FRAMEERR : Fld := ⟨HIF.SPISTAT, 0, 16⟩
/-- HIF.DRAPBASE (R499). -/
def HIF.DRAPBASE : Nat := 0x10034
def HIF.DRAPBASE.BASE : Fld := ⟨HIF.DRAPBASE, 0, 10⟩
/-- HIF.DMAc_RINGLO (R499). -/
def HIF.DMA_RINGLO (c : Nat) : Nat := 0x10100 + c * 0x20
def HIF.DMA_RINGLO.val (c : Nat) : Fld := ⟨HIF.DMA_RINGLO c, 5, 27⟩
/-- HIF.DMAc_RINGHI (R499). -/
def HIF.DMA_RINGHI (c : Nat) : Nat := 0x10104 + c * 0x20
def HIF.DMA_RINGHI.val (c : Nat) : Fld := ⟨HIF.DMA_RINGHI c, 0, 32⟩
/-- HIF.DMAc_CFG (R499). -/
def HIF.DMA_CFG (c : Nat) : Nat := 0x10108 + c * 0x20
def HIF.DMA_CFG.EN (c : Nat) : Fld := ⟨HIF.DMA_CFG c, 31, 1⟩
def HIF.DMA_CFG.LOG2SIZE (c : Nat) : Fld := ⟨HIF.DMA_CFG c, 16, 4⟩
def HIF.DMA_CFG.VEC (c : Nat) : Fld := ⟨HIF.DMA_CFG c, 0, 4⟩
/-- HIF.DMAc_HEAD (R499). -/
def HIF.DMA_HEAD (c : Nat) : Nat := 0x1010C + c * 0x20
def HIF.DMA_HEAD.val (c : Nat) : Fld := ⟨HIF.DMA_HEAD c, 0, 12⟩
/-- HIF.DMAc_STAT (R499). -/
def HIF.DMA_STAT (c : Nat) : Nat := 0x10110 + c * 0x20
def HIF.DMA_STAT.STATE (c : Nat) : Fld := ⟨HIF.DMA_STAT c, 30, 2⟩
def HIF.DMA_STAT.STATUS (c : Nat) : Fld := ⟨HIF.DMA_STAT c, 0, 8⟩
/-- HIF.DMAc_DONE (R499). -/
def HIF.DMA_DONE (c : Nat) : Nat := 0x10114 + c * 0x20
def HIF.DMA_DONE.val (c : Nat) : Fld := ⟨HIF.DMA_DONE c, 0, 32⟩
/-- EVT.CTL: log control (R516). -/
def EVT.CTL : Nat := 0x20000
def EVT.CTL.WMARK : Fld := ⟨EVT.CTL, 16, 10⟩
def EVT.CTL.POLICY : Fld := ⟨EVT.CTL, 0, 1⟩
/-- EVT.WRSEQ (R516). -/
def EVT.WRSEQ : Nat := 0x20004
def EVT.WRSEQ.val : Fld := ⟨EVT.WRSEQ, 0, 32⟩
/-- EVT.RDSEQ (R516). -/
def EVT.RDSEQ : Nat := 0x20008
def EVT.RDSEQ.val : Fld := ⟨EVT.RDSEQ, 0, 32⟩
/-- EVT.DROPPED (R516). -/
def EVT.DROPPED : Nat := 0x2000C
def EVT.DROPPED.val : Fld := ⟨EVT.DROPPED, 0, 32⟩
/-- EVT.FIRSTDROP (R516). -/
def EVT.FIRSTDROP : Nat := 0x20010
def EVT.FIRSTDROP.SOURCE : Fld := ⟨EVT.FIRSTDROP, 16, 16⟩
def EVT.FIRSTDROP.CODE : Fld := ⟨EVT.FIRSTDROP, 0, 16⟩
/-- EVT.OVERWRITTEN (R516). -/
def EVT.OVERWRITTEN : Nat := 0x20014
def EVT.OVERWRITTEN.val : Fld := ⟨EVT.OVERWRITTEN, 0, 32⟩
/-- EVT.HIST: log history (R516). -/
def EVT.HIST : Nat := 0x20018
def EVT.HIST.SEQ : Fld := ⟨EVT.HIST, 24, 8⟩
def EVT.HIST.OVERWRITTEN : Fld := ⟨EVT.HIST, 1, 1⟩
def EVT.HIST.DROPPED : Fld := ⟨EVT.HIST, 0, 1⟩
/-- EVT.BLKPEND (R516). -/
def EVT.BLKPEND : Nat := 0x20020
def EVT.BLKPEND.val : Fld := ⟨EVT.BLKPEND, 0, 24⟩
/-- EVT.VECPEND (R516). -/
def EVT.VECPEND : Nat := 0x20024
def EVT.VECPEND.val : Fld := ⟨EVT.VECPEND, 0, 16⟩
/-- EVT.PIN0 (R516). -/
def EVT.PIN0 : Nat := 0x20028
def EVT.PIN0.PIN : Fld := ⟨EVT.PIN0, 0, 16⟩
/-- EVT.PIN1 (R516). -/
def EVT.PIN1 : Nat := 0x2002C
def EVT.PIN1.PIN : Fld := ⟨EVT.PIN1, 0, 16⟩
/-- EVT.LASTFATAL (R516). -/
def EVT.LASTFATAL : Nat := 0x20030
def EVT.LASTFATAL.VALID : Fld := ⟨EVT.LASTFATAL, 31, 1⟩
def EVT.LASTFATAL.UNIT : Fld := ⟨EVT.LASTFATAL, 8, 8⟩
def EVT.LASTFATAL.CAUSE : Fld := ⟨EVT.LASTFATAL, 0, 8⟩
/-- EVT.IPENDb (R516). -/
def EVT.IPEND (b : Nat) : Nat := 0x20100 + b * 0x4
def EVT.IPEND.SEQ (b : Nat) : Fld := ⟨EVT.IPEND b, 24, 8⟩
def EVT.IPEND.PEND (b : Nat) : Fld := ⟨EVT.IPEND b, 1, 23⟩
/-- EVT.IENb (R516). -/
def EVT.IEN (b : Nat) : Nat := 0x20200 + b * 0x4
def EVT.IEN.EN (b : Nat) : Fld := ⟨EVT.IEN b, 1, 23⟩
/-- EVT.VECb (R516). -/
def EVT.VEC (b : Nat) : Nat := 0x20300 + b * 0x4
def EVT.VEC.val (b : Nat) : Fld := ⟨EVT.VEC b, 0, 4⟩
/-- EVT.BLKCNTb (R516). -/
def EVT.BLKCNT (b : Nat) : Nat := 0x20400 + b * 0x4
def EVT.BLKCNT.val (b : Nat) : Fld := ⟨EVT.BLKCNT b, 0, 32⟩
/-- EVT.MEMCORRm (R516). -/
def EVT.MEMCORR (m : Nat) : Nat := 0x20500 + m * 0x8
def EVT.MEMCORR.val (m : Nat) : Fld := ⟨EVT.MEMCORR m, 0, 32⟩
/-- EVT.MEMUNCORRm (R516). -/
def EVT.MEMUNCORR (m : Nat) : Nat := 0x20504 + m * 0x8
def EVT.MEMUNCORR.val (m : Nat) : Fld := ⟨EVT.MEMUNCORR m, 0, 32⟩
/-- EVT.REPk: repeat count (R516). -/
def EVT.REP (k : Nat) : Nat := 0x22000 + k * 0x4
def EVT.REP.val (k : Nat) : Fld := ⟨EVT.REP k, 0, 32⟩
/-- SEC.LC: lifecycle (R547/R548). -/
def SEC.LC : Nat := 0x30000
def SEC.LC.ROLLBACK : Fld := ⟨SEC.LC, 24, 7⟩
def SEC.LC.REVOKED : Fld := ⟨SEC.LC, 20, 4⟩
def SEC.LC.SLOTS : Fld := ⟨SEC.LC, 16, 4⟩
def SEC.LC.ZEROIZED : Fld := ⟨SEC.LC, 8, 1⟩
def SEC.LC.STATE : Fld := ⟨SEC.LC, 0, 3⟩
/-- SEC.DBGCTL (R547/R548). -/
def SEC.DBGCTL : Nat := 0x30004
def SEC.DBGCTL.STATE : Fld := ⟨SEC.DBGCTL, 16, 2⟩
def SEC.DBGCTL.SUBMIT : Fld := ⟨SEC.DBGCTL, 1, 1⟩
def SEC.DBGCTL.REQ : Fld := ⟨SEC.DBGCTL, 0, 1⟩
/-- SEC.DBGLOCK: debug lock (R547/R548). -/
def SEC.DBGLOCK : Nat := 0x30008
def SEC.DBGLOCK.LOCK : Fld := ⟨SEC.DBGLOCK, 0, 1⟩
/-- SEC.CHALi (R547/R548). -/
def SEC.CHAL (i : Nat) : Nat := 0x30010 + i * 0x4
def SEC.CHAL.val (i : Nat) : Fld := ⟨SEC.CHAL i, 0, 32⟩
/-- SEC.PAIRSALTi (R547/R548). -/
def SEC.PAIRSALT (i : Nat) : Nat := 0x30040 + i * 0x4
def SEC.PAIRSALT.val (i : Nat) : Fld := ⟨SEC.PAIRSALT i, 0, 32⟩
/-- SEC.PAIRSTAT (R547/R548). -/
def SEC.PAIRSTAT : Nat := 0x30050
def SEC.PAIRSTAT.WEAK : Fld := ⟨SEC.PAIRSTAT, 1, 1⟩
def SEC.PAIRSTAT.KEY : Fld := ⟨SEC.PAIRSTAT, 0, 1⟩
/-- SEC.HIST: security history (R547/R548). -/
def SEC.HIST : Nat := 0x30060
def SEC.HIST.SEQ : Fld := ⟨SEC.HIST, 24, 8⟩
def SEC.HIST.ATTEST : Fld := ⟨SEC.HIST, 1, 1⟩
def SEC.HIST.DBGFAIL : Fld := ⟨SEC.HIST, 0, 1⟩
/-- SEC.SIGPUBi (R547/R548). -/
def SEC.SIGPUB (i : Nat) : Nat := 0x30100 + i * 0x4
def SEC.SIGPUB.val (i : Nat) : Fld := ⟨SEC.SIGPUB i, 0, 32⟩
/-- SEC.SIGVALi (R547/R548). -/
def SEC.SIGVAL (i : Nat) : Nat := 0x30180 + i * 0x4
def SEC.SIGVAL.val (i : Nat) : Fld := ⟨SEC.SIGVAL i, 0, 32⟩
/-- SEC.ATTNONCEi (R547/R548). -/
def SEC.ATTNONCE (i : Nat) : Nat := 0x30200 + i * 0x4
def SEC.ATTNONCE.val (i : Nat) : Fld := ⟨SEC.ATTNONCE i, 0, 32⟩
/-- SEC.ATTCTL (R547/R548). -/
def SEC.ATTCTL : Nat := 0x30220
def SEC.ATTCTL.DONE : Fld := ⟨SEC.ATTCTL, 31, 1⟩
def SEC.ATTCTL.ERR : Fld := ⟨SEC.ATTCTL, 30, 1⟩
def SEC.ATTCTL.GO : Fld := ⟨SEC.ATTCTL, 0, 1⟩
/-- SEC.ATTSIGi (R547/R548). -/
def SEC.ATTSIG (i : Nat) : Nat := 0x30240 + i * 0x4
def SEC.ATTSIG.val (i : Nat) : Fld := ⟨SEC.ATTSIG i, 0, 32⟩
/-- SEC.ATTPUBi (R547/R548). -/
def SEC.ATTPUB (i : Nat) : Nat := 0x30300 + i * 0x4
def SEC.ATTPUB.val (i : Nat) : Fld := ⟨SEC.ATTPUB i, 0, 32⟩
/-- UPD.CTL: update control (R547/R548). -/
def UPD.CTL : Nat := 0x40000
def UPD.CTL.LIVE_STAGE : Fld := ⟨UPD.CTL, 31, 1⟩
def UPD.CTL.SHOW : Fld := ⟨UPD.CTL, 30, 1⟩
def UPD.CTL.OWNER : Fld := ⟨UPD.CTL, 29, 1⟩
def UPD.CTL.OWNERSET : Fld := ⟨UPD.CTL, 28, 1⟩
def UPD.CTL.UNLOCK : Fld := ⟨UPD.CTL, 27, 1⟩
/-- UPD.HCMD (R547/R548). -/
def UPD.HCMD : Nat := 0x40004
def UPD.HCMD.OPEN : Fld := ⟨UPD.HCMD, 31, 1⟩
def UPD.HCMD.BLOCK : Fld := ⟨UPD.HCMD, 30, 1⟩
def UPD.HCMD.END : Fld := ⟨UPD.HCMD, 29, 1⟩
def UPD.HCMD.ABORT : Fld := ⟨UPD.HCMD, 28, 1⟩
def UPD.HCMD.INDEX : Fld := ⟨UPD.HCMD, 0, 13⟩
/-- UPD.STAT (R547/R548). -/
def UPD.STAT : Nat := 0x40008
def UPD.STAT.STAGE : Fld := ⟨UPD.STAT, 28, 4⟩
def UPD.STAT.SRC : Fld := ⟨UPD.STAT, 26, 2⟩
def UPD.STAT.RECOVERY : Fld := ⟨UPD.STAT, 25, 1⟩
def UPD.STAT.REFUSAL : Fld := ⟨UPD.STAT, 16, 8⟩
def UPD.STAT.NEXTBLK : Fld := ⟨UPD.STAT, 0, 13⟩
/-- UPD.ACTVER (R547/R548). -/
def UPD.ACTVER : Nat := 0x4000C
def UPD.ACTVER.val : Fld := ⟨UPD.ACTVER, 0, 32⟩
/-- UPD.STGVER (R547/R548). -/
def UPD.STGVER : Nat := 0x40010
def UPD.STGVER.val : Fld := ⟨UPD.STGVER, 0, 32⟩
/-- UPD.LOCKSEQ (R547/R548). -/
def UPD.LOCKSEQ : Nat := 0x40014
def UPD.LOCKSEQ.val : Fld := ⟨UPD.LOCKSEQ, 0, 32⟩
/-- UPD.CHAINCFG (R547/R548). -/
def UPD.CHAINCFG : Nat := 0x40020
def UPD.CHAINCFG.EN : Fld := ⟨UPD.CHAINCFG, 31, 1⟩
def UPD.CHAINCFG.PORTSEL : Fld := ⟨UPD.CHAINCFG, 16, 2⟩
def UPD.CHAINCFG.UDPPORT : Fld := ⟨UPD.CHAINCFG, 0, 16⟩
/-- UPD.UPSTREAM (R547/R548). -/
def UPD.UPSTREAM : Nat := 0x40024
def UPD.UPSTREAM.val : Fld := ⟨UPD.UPSTREAM, 0, 32⟩
/-- UPD.POLL (R547/R548). -/
def UPD.POLL : Nat := 0x40028
def UPD.POLL.val : Fld := ⟨UPD.POLL, 0, 16⟩
/-- UPD.BOOT (R547/R548). -/
def UPD.BOOT : Nat := 0x40030
def UPD.BOOT.BOOTOK : Fld := ⟨UPD.BOOT, 31, 1⟩
def UPD.BOOT.FAILS : Fld := ⟨UPD.BOOT, 0, 2⟩
/-- UPD.ARB (R547/R548). -/
def UPD.ARB : Nat := 0x40034
def UPD.ARB.ADVANCE : Fld := ⟨UPD.ARB, 0, 1⟩
/-- UPD.HIST: update history (R547/R548). -/
def UPD.HIST : Nat := 0x40040
def UPD.HIST.SEQ : Fld := ⟨UPD.HIST, 24, 8⟩
def UPD.HIST.FETCHFAIL : Fld := ⟨UPD.HIST, 3, 1⟩
def UPD.HIST.PREEMPTED : Fld := ⟨UPD.HIST, 2, 1⟩
def UPD.HIST.STAGED : Fld := ⟨UPD.HIST, 1, 1⟩
def UPD.HIST.REFUSED : Fld := ⟨UPD.HIST, 0, 1⟩
/-- UPD.BUFi (R547/R548). -/
def UPD.BUF (i : Nat) : Nat := 0x41000 + i * 0x4
def UPD.BUF.val (i : Nat) : Fld := ⟨UPD.BUF i, 0, 32⟩
/-- REF.CTL: reference control (R341). -/
def REF.CTL : Nat := 0x50000
def REF.CTL.EIMJUMP : Fld := ⟨REF.CTL, 8, 1⟩
def REF.CTL.STEP_ALLOWED : Fld := ⟨REF.CTL, 7, 1⟩
def REF.CTL.QLFIRST : Fld := ⟨REF.CTL, 6, 1⟩
def REF.CTL.REVERT : Fld := ⟨REF.CTL, 5, 1⟩
def REF.CTL.FORCE : Fld := ⟨REF.CTL, 4, 1⟩
def REF.CTL.FORCEIN : Fld := ⟨REF.CTL, 0, 4⟩
/-- REF.PROFILE: reference profile (R341). -/
def REF.PROFILE : Nat := 0x50004
def REF.PROFILE.MODE : Fld := ⟨REF.PROFILE, 31, 1⟩
def REF.PROFILE.LOAD : Fld := ⟨REF.PROFILE, 16, 1⟩
def REF.PROFILE.val : Fld := ⟨REF.PROFILE, 0, 2⟩
/-- REF.BW: loop bandwidths (R341). -/
def REF.BW : Nat := 0x50008
def REF.BW.WIDE : Fld := ⟨REF.BW, 16, 16⟩
def REF.BW.NARROW : Fld := ⟨REF.BW, 0, 16⟩
/-- REF.LOCK: lock criterion (R341). -/
def REF.LOCK : Nat := 0x5000C
def REF.LOCK.LOCKTHR : Fld := ⟨REF.LOCK, 16, 16⟩
def REF.LOCK.LOCKTIME : Fld := ⟨REF.LOCK, 0, 8⟩
/-- REF.TIMERS: wait-to-restore and averaging (R341). -/
def REF.TIMERS : Nat := 0x50010
def REF.TIMERS.WTR : Fld := ⟨REF.TIMERS, 16, 16⟩
def REF.TIMERS.HO_AVG : Fld := ⟨REF.TIMERS, 0, 12⟩
/-- REF.HOBUDGET: holdover budget (R341). -/
def REF.HOBUDGET : Nat := 0x50014
def REF.HOBUDGET.val : Fld := ⟨REF.HOBUDGET, 0, 32⟩
/-- REF.STEPHERDS: herds checked for STEP (R341). -/
def REF.STEPHERDS : Nat := 0x50018
def REF.STEPHERDS.HERDS : Fld := ⟨REF.STEPHERDS, 0, 16⟩
/-- REF.DCOADJ: software steering (R341). -/
def REF.DCOADJ : Nat := 0x5001C
def REF.DCOADJ.val : Fld := ⟨REF.DCOADJ, 0, 32⟩
/-- REF.STATUS: selector status (R341). -/
def REF.STATUS : Nat := 0x50040
def REF.STATUS.STATE : Fld := ⟨REF.STATUS, 29, 3⟩
def REF.STATUS.SEL : Fld := ⟨REF.STATUS, 24, 4⟩
def REF.STATUS.TARGET : Fld := ⟨REF.STATUS, 20, 4⟩
def REF.STATUS.DEGRADED : Fld := ⟨REF.STATUS, 19, 1⟩
def REF.STATUS.FROZEN : Fld := ⟨REF.STATUS, 18, 1⟩
def REF.STATUS.SLEWING : Fld := ⟨REF.STATUS, 17, 1⟩
def REF.STATUS.WTRLEFT : Fld := ⟨REF.STATUS, 0, 16⟩
/-- REF.HIST: selector history (R341). -/
def REF.HIST : Nat := 0x50044
def REF.HIST.SEQ : Fld := ⟨REF.HIST, 24, 8⟩
def REF.HIST.CANCELLED : Fld := ⟨REF.HIST, 10, 1⟩
def REF.HIST.JUMP : Fld := ⟨REF.HIST, 9, 1⟩
def REF.HIST.RATE_CHANGE : Fld := ⟨REF.HIST, 8, 1⟩
def REF.HIST.DISQUAL : Fld := ⟨REF.HIST, 7, 1⟩
def REF.HIST.DEGRADED : Fld := ⟨REF.HIST, 6, 1⟩
def REF.HIST.STATES : Fld := ⟨REF.HIST, 0, 6⟩
/-- REF.DCOPPT (R341). -/
def REF.DCOPPT : Nat := 0x50048
def REF.DCOPPT.val : Fld := ⟨REF.DCOPPT, 0, 32⟩
/-- REF.HOPPT (R341). -/
def REF.HOPPT : Nat := 0x5004C
def REF.HOPPT.val : Fld := ⟨REF.HOPPT, 0, 32⟩
/-- REF.HOTIME: time in holdover (R341). -/
def REF.HOTIME : Nat := 0x50050
def REF.HOTIME.val : Fld := ⟨REF.HOTIME, 0, 32⟩
/-- REF.PHERR: phase error (R341). -/
def REF.PHERR : Nat := 0x50054
def REF.PHERR.val : Fld := ⟨REF.PHERR, 0, 32⟩
/-- REF.PRIOi: priority entry (R341). -/
def REF.PRIO (i : Nat) : Nat := 0x50080 + i * 0x4
def REF.PRIO.EN (i : Nat) : Fld := ⟨REF.PRIO i, 31, 1⟩
def REF.PRIO.QLMIN (i : Nat) : Fld := ⟨REF.PRIO i, 8, 4⟩
def REF.PRIO.INPUT (i : Nat) : Fld := ⟨REF.PRIO i, 0, 4⟩
/-- REF.INk_CFG: input configuration (R341). -/
def REF.IN_CFG (k : Nat) : Nat := 0x50100 + k * 0x40
def REF.IN_CFG.EN (k : Nat) : Fld := ⟨REF.IN_CFG k, 31, 1⟩
def REF.IN_CFG.JUMPPOL (k : Nat) : Fld := ⟨REF.IN_CFG k, 28, 3⟩
def REF.IN_CFG.SLC (k : Nat) : Fld := ⟨REF.IN_CFG k, 26, 2⟩
def REF.IN_CFG.SSMOPT (k : Nat) : Fld := ⟨REF.IN_CFG k, 25, 1⟩
def REF.IN_CFG.ACCMAX (k : Nat) : Fld := ⟨REF.IN_CFG k, 16, 8⟩
def REF.IN_CFG.QLCFG (k : Nat) : Fld := ⟨REF.IN_CFG k, 8, 4⟩
/-- REF.INk_NOMNUM (R341). -/
def REF.IN_NOMNUM (k : Nat) : Nat := 0x50104 + k * 0x40
def REF.IN_NOMNUM.val (k : Nat) : Fld := ⟨REF.IN_NOMNUM k, 0, 32⟩
/-- REF.INk_NOMDEN (R341). -/
def REF.IN_NOMDEN (k : Nat) : Nat := 0x50108 + k * 0x40
def REF.IN_NOMDEN.val (k : Nat) : Fld := ⟨REF.IN_NOMDEN k, 0, 32⟩
/-- REF.INk_LIM: offset limit and dwell (R341). -/
def REF.IN_LIM (k : Nat) : Nat := 0x5010C + k * 0x40
def REF.IN_LIM.DWELL (k : Nat) : Fld := ⟨REF.IN_LIM k, 24, 8⟩
def REF.IN_LIM.OFSLIM (k : Nat) : Fld := ⟨REF.IN_LIM k, 0, 20⟩
/-- REF.INk_DRIFT1 (R341). -/
def REF.IN_DRIFT1 (k : Nat) : Nat := 0x50110 + k * 0x40
def REF.IN_DRIFT1.SOFT (k : Nat) : Fld := ⟨REF.IN_DRIFT1 k, 16, 16⟩
def REF.IN_DRIFT1.HARD (k : Nat) : Fld := ⟨REF.IN_DRIFT1 k, 0, 16⟩
/-- REF.INk_DRIFT10 (R341). -/
def REF.IN_DRIFT10 (k : Nat) : Nat := 0x50114 + k * 0x40
def REF.IN_DRIFT10.SOFT (k : Nat) : Fld := ⟨REF.IN_DRIFT10 k, 16, 16⟩
def REF.IN_DRIFT10.HARD (k : Nat) : Fld := ⟨REF.IN_DRIFT10 k, 0, 16⟩
/-- REF.INk_DRIFT100 (R341). -/
def REF.IN_DRIFT100 (k : Nat) : Nat := 0x50118 + k * 0x40
def REF.IN_DRIFT100.SOFT (k : Nat) : Fld := ⟨REF.IN_DRIFT100 k, 16, 16⟩
def REF.IN_DRIFT100.HARD (k : Nat) : Fld := ⟨REF.IN_DRIFT100 k, 0, 16⟩
/-- REF.INk_JUMPCFG: jump handling (R341). -/
def REF.IN_JUMPCFG (k : Nat) : Nat := 0x5011C + k * 0x40
def REF.IN_JUMPCFG.SLEW_MAX (k : Nat) : Fld := ⟨REF.IN_JUMPCFG k, 16, 16⟩
def REF.IN_JUMPCFG.JUMPTHR (k : Nat) : Fld := ⟨REF.IN_JUMPCFG k, 0, 16⟩
/-- REF.INk_STAT: input status (R341). -/
def REF.IN_STAT (k : Nat) : Nat := 0x50120 + k * 0x40
def REF.IN_STAT.QSTATE (k : Nat) : Fld := ⟨REF.IN_STAT k, 29, 3⟩
def REF.IN_STAT.ELIGIBLE (k : Nat) : Fld := ⟨REF.IN_STAT k, 28, 1⟩
def REF.IN_STAT.RESTORING (k : Nat) : Fld := ⟨REF.IN_STAT k, 27, 1⟩
def REF.IN_STAT.QR (k : Nat) : Fld := ⟨REF.IN_STAT k, 16, 4⟩
def REF.IN_STAT.CAUSE (k : Nat) : Fld := ⟨REF.IN_STAT k, 8, 4⟩
def REF.IN_STAT.GLITCH (k : Nat) : Fld := ⟨REF.IN_STAT k, 0, 8⟩
/-- REF.INk_OFS: offset (R341). -/
def REF.IN_OFS (k : Nat) : Nat := 0x50124 + k * 0x40
def REF.IN_OFS.val (k : Nat) : Fld := ⟨REF.IN_OFS k, 0, 32⟩
/-- REF.INk_D1 (R341). -/
def REF.IN_D1 (k : Nat) : Nat := 0x50128 + k * 0x40
def REF.IN_D1.val (k : Nat) : Fld := ⟨REF.IN_D1 k, 0, 32⟩
/-- REF.INk_D10 (R341). -/
def REF.IN_D10 (k : Nat) : Nat := 0x5012C + k * 0x40
def REF.IN_D10.val (k : Nat) : Fld := ⟨REF.IN_D10 k, 0, 32⟩
/-- REF.INk_D100 (R341). -/
def REF.IN_D100 (k : Nat) : Nat := 0x50130 + k * 0x40
def REF.IN_D100.val (k : Nat) : Fld := ⟨REF.IN_D100 k, 0, 32⟩
/-- REF.INk_JUMP: last jump (R341). -/
def REF.IN_JUMP (k : Nat) : Nat := 0x50134 + k * 0x40
def REF.IN_JUMP.PS (k : Nat) : Fld := ⟨REF.IN_JUMP k, 1, 31⟩
def REF.IN_JUMP.DETECTOR (k : Nat) : Fld := ⟨REF.IN_JUMP k, 0, 1⟩
/-- REF.INk_HIST: input history (R341). -/
def REF.IN_HIST (k : Nat) : Nat := 0x50138 + k * 0x40
def REF.IN_HIST.SEQ (k : Nat) : Fld := ⟨REF.IN_HIST k, 24, 8⟩
def REF.IN_HIST.JUMP (k : Nat) : Fld := ⟨REF.IN_HIST k, 6, 1⟩
def REF.IN_HIST.RATE_CHANGE (k : Nat) : Fld := ⟨REF.IN_HIST k, 5, 1⟩
def REF.IN_HIST.GLITCH (k : Nat) : Fld := ⟨REF.IN_HIST k, 4, 1⟩
def REF.IN_HIST.DISQUALIFIED (k : Nat) : Fld := ⟨REF.IN_HIST k, 3, 1⟩
def REF.IN_HIST.DEGRADED (k : Nat) : Fld := ⟨REF.IN_HIST k, 2, 1⟩
def REF.IN_HIST.QUALIFIED (k : Nat) : Fld := ⟨REF.IN_HIST k, 1, 1⟩
def REF.IN_HIST.INACTIVE (k : Nat) : Fld := ⟨REF.IN_HIST k, 0, 1⟩
/-- REF.INk_RATE: measured rate (R341). -/
def REF.IN_RATE (k : Nat) : Nat := 0x5013C + k * 0x40
def REF.IN_RATE.val (k : Nat) : Fld := ⟨REF.IN_RATE k, 0, 32⟩
/-- SYN.NCSM_DITH (R369). -/
def SYN.NCSM_DITH : Nat := 0x60000
def SYN.NCSM_DITH.EN : Fld := ⟨SYN.NCSM_DITH, 31, 1⟩
def SYN.NCSM_DITH.SEEDMODE : Fld := ⟨SYN.NCSM_DITH, 30, 1⟩
def SYN.NCSM_DITH.SEED : Fld := ⟨SYN.NCSM_DITH, 0, 24⟩
/-- SYN.NCSN_DITH (R369). -/
def SYN.NCSN_DITH : Nat := 0x60004
def SYN.NCSN_DITH.EN : Fld := ⟨SYN.NCSN_DITH, 31, 1⟩
def SYN.NCSN_DITH.SEEDMODE : Fld := ⟨SYN.NCSN_DITH, 30, 1⟩
def SYN.NCSN_DITH.SEED : Fld := ⟨SYN.NCSN_DITH, 0, 24⟩
/-- SYN.NCSN_CFG: network clamp (R369). -/
def SYN.NCSN_CFG : Nat := 0x60008
def SYN.NCSN_CFG.NETCAP : Fld := ⟨SYN.NCSN_CFG, 0, 7⟩
/-- SYN.STAT: synthesis status (R369). -/
def SYN.STAT : Nat := 0x60010
def SYN.STAT.NETCLAMP : Fld := ⟨SYN.STAT, 3, 1⟩
def SYN.STAT.KEEPN : Fld := ⟨SYN.STAT, 2, 1⟩
def SYN.STAT.KEEPM1 : Fld := ⟨SYN.STAT, 1, 1⟩
def SYN.STAT.KEEPM0 : Fld := ⟨SYN.STAT, 0, 1⟩
/-- SYN.HIST: synthesis history (R369). -/
def SYN.HIST : Nat := 0x60014
def SYN.HIST.SEQ : Fld := ⟨SYN.HIST, 24, 8⟩
def SYN.HIST.RAMPDONE : Fld := ⟨SYN.HIST, 5, 1⟩
def SYN.HIST.NETCLAMP : Fld := ⟨SYN.HIST, 4, 1⟩
def SYN.HIST.VTWARN : Fld := ⟨SYN.HIST, 3, 1⟩
def SYN.HIST.KEEPER : Fld := ⟨SYN.HIST, 2, 1⟩
def SYN.HIST.LOCKED : Fld := ⟨SYN.HIST, 1, 1⟩
def SYN.HIST.LOST : Fld := ⟨SYN.HIST, 0, 1⟩
/-- SYN.APLLx_CTL: APLL control (R369). -/
def SYN.APLL_CTL (x : Nat) : Nat := 0x60040 + x * 0x10
def SYN.APLL_CTL.RELOCK (x : Nat) : Fld := ⟨SYN.APLL_CTL x, 0, 1⟩
/-- SYN.APLLx_STAT: APLL status (R369). -/
def SYN.APLL_STAT (x : Nat) : Nat := 0x60044 + x * 0x10
def SYN.APLL_STAT.STATE (x : Nat) : Fld := ⟨SYN.APLL_STAT x, 29, 3⟩
def SYN.APLL_STAT.VTWARN (x : Nat) : Fld := ⟨SYN.APLL_STAT x, 16, 1⟩
def SYN.APLL_STAT.VTUNE (x : Nat) : Fld := ⟨SYN.APLL_STAT x, 8, 8⟩
def SYN.APLL_STAT.BAND (x : Nat) : Fld := ⟨SYN.APLL_STAT x, 0, 6⟩
/-- SYN.APLLx_LOSS: lock losses (R369). -/
def SYN.APLL_LOSS (x : Nat) : Nat := 0x60048 + x * 0x10
def SYN.APLL_LOSS.val (x : Nat) : Fld := ⟨SYN.APLL_LOSS x, 0, 32⟩
/-- SYN.RAMPCTL: ramp control (R369). -/
def SYN.RAMPCTL : Nat := 0x60080
def SYN.RAMPCTL.START : Fld := ⟨SYN.RAMPCTL, 4, 2⟩
def SYN.RAMPCTL.DETACH : Fld := ⟨SYN.RAMPCTL, 2, 1⟩
def SYN.RAMPCTL.STOP : Fld := ⟨SYN.RAMPCTL, 1, 1⟩
def SYN.RAMPCTL.GO : Fld := ⟨SYN.RAMPCTL, 0, 1⟩
/-- SYN.RAMPAT: ramp start tick (R369). -/
def SYN.RAMPAT : Nat := 0x60084
def SYN.RAMPAT.val : Fld := ⟨SYN.RAMPAT, 0, 32⟩
/-- SYN.RAMPSTAT: ramp status (R369). -/
def SYN.RAMPSTAT : Nat := 0x60088
def SYN.RAMPSTAT.RUNNING : Fld := ⟨SYN.RAMPSTAT, 31, 1⟩
def SYN.RAMPSTAT.DETACHED : Fld := ⟨SYN.RAMPSTAT, 30, 1⟩
def SYN.RAMPSTAT.ARMED : Fld := ⟨SYN.RAMPSTAT, 29, 1⟩
def SYN.RAMPSTAT.LATE : Fld := ⟨SYN.RAMPSTAT, 28, 1⟩
def SYN.RAMPSTAT.SEG : Fld := ⟨SYN.RAMPSTAT, 0, 4⟩
/-- SYN.RAMPPPT: ramp contribution (R369). -/
def SYN.RAMPPPT : Nat := 0x6008C
def SYN.RAMPPPT.val : Fld := ⟨SYN.RAMPPPT, 0, 32⟩
/-- SYN.RAMPPHASE: accumulated phase (R369). -/
def SYN.RAMPPHASE : Nat := 0x60090
def SYN.RAMPPHASE.val : Fld := ⟨SYN.RAMPPHASE, 0, 32⟩
/-- SYN.SEGk_TGT: segment target (R369). -/
def SYN.SEG_TGT (k : Nat) : Nat := 0x60100 + k * 0x8
def SYN.SEG_TGT.val (k : Nat) : Fld := ⟨SYN.SEG_TGT k, 0, 32⟩
/-- SYN.SEGk_DUR: segment duration (R369). -/
def SYN.SEG_DUR (k : Nat) : Nat := 0x60104 + k * 0x8
def SYN.SEG_DUR.LAST (k : Nat) : Fld := ⟨SYN.SEG_DUR k, 31, 1⟩
def SYN.SEG_DUR.val (k : Nat) : Fld := ⟨SYN.SEG_DUR k, 0, 24⟩
/-- SYN.CKOj_CFG: clock output configuration (R369). -/
def SYN.CKO_CFG (j : Nat) : Nat := 0x60200 + j * 0x10
def SYN.CKO_CFG.EN (j : Nat) : Fld := ⟨SYN.CKO_CFG j, 31, 1⟩
def SYN.CKO_CFG.SRC (j : Nat) : Fld := ⟨SYN.CKO_CFG j, 28, 2⟩
def SYN.CKO_CFG.DELAY (j : Nat) : Fld := ⟨SYN.CKO_CFG j, 0, 8⟩
/-- SYN.CKOj_DIV: clock output divider (R369). -/
def SYN.CKO_DIV (j : Nat) : Nat := 0x60204 + j * 0x10
def SYN.CKO_DIV.DIVM1 (j : Nat) : Fld := ⟨SYN.CKO_DIV j, 0, 16⟩
/-- SYN.CKOj_STAT: clock output status (R369). -/
def SYN.CKO_STAT (j : Nat) : Nat := 0x60208 + j * 0x10
def SYN.CKO_STAT.RUNNING (j : Nat) : Fld := ⟨SYN.CKO_STAT j, 31, 1⟩
def SYN.CKO_STAT.KEEPER (j : Nat) : Fld := ⟨SYN.CKO_STAT j, 30, 1⟩
def SYN.CKO_STAT.DELNOW (j : Nat) : Fld := ⟨SYN.CKO_STAT j, 0, 8⟩
/-- EIM.SLCn_CFG: slicer configuration (R381). -/
def EIM.SLC_CFG (n : Nat) : Nat := 0x70000 + n * 0x10
def EIM.SLC_CFG.EN (n : Nat) : Fld := ⟨EIM.SLC_CFG n, 31, 1⟩
def EIM.SLC_CFG.TERM (n : Nat) : Fld := ⟨EIM.SLC_CFG n, 30, 1⟩
def EIM.SLC_CFG.SLOPE (n : Nat) : Fld := ⟨EIM.SLC_CFG n, 29, 1⟩
def EIM.SLC_CFG.HYST (n : Nat) : Fld := ⟨EIM.SLC_CFG n, 16, 7⟩
def EIM.SLC_CFG.THR (n : Nat) : Fld := ⟨EIM.SLC_CFG n, 0, 13⟩
/-- EIM.SLCn_MINW: minimum width (R381). -/
def EIM.SLC_MINW (n : Nat) : Nat := 0x70004 + n * 0x10
def EIM.SLC_MINW.val (n : Nat) : Fld := ⟨EIM.SLC_MINW n, 0, 16⟩
/-- EIM.SLCn_STAT: slicer status (R381). -/
def EIM.SLC_STAT (n : Nat) : Nat := 0x70008 + n * 0x10
def EIM.SLC_STAT.LEVEL (n : Nat) : Fld := ⟨EIM.SLC_STAT n, 31, 1⟩
def EIM.SLC_STAT.RUNT (n : Nat) : Fld := ⟨EIM.SLC_STAT n, 0, 16⟩
/-- EIM.CFG: meter configuration (R381). -/
def EIM.CFG : Nat := 0x70100
def EIM.CFG.EN : Fld := ⟨EIM.CFG, 31, 1⟩
def EIM.CFG.MODE : Fld := ⟨EIM.CFG, 24, 2⟩
def EIM.CFG.SIGNED : Fld := ⟨EIM.CFG, 23, 1⟩
def EIM.CFG.STARTSRC : Fld := ⟨EIM.CFG, 16, 4⟩
def EIM.CFG.STOPSRC : Fld := ⟨EIM.CFG, 8, 4⟩
def EIM.CFG.CKOSEL : Fld := ⟨EIM.CFG, 0, 4⟩
/-- EIM.CTL: meter command (R381). -/
def EIM.CTL : Nat := 0x70104
def EIM.CTL.STOP : Fld := ⟨EIM.CTL, 1, 1⟩
def EIM.CTL.ARM : Fld := ⟨EIM.CTL, 0, 1⟩
/-- EIM.TIMEOUT: result timeout (R381). -/
def EIM.TIMEOUT : Nat := 0x70108
def EIM.TIMEOUT.MS : Fld := ⟨EIM.TIMEOUT, 0, 12⟩
/-- EIM.STAT: meter status (R381). -/
def EIM.STAT : Nat := 0x7010C
def EIM.STAT.BUSY : Fld := ⟨EIM.STAT, 31, 1⟩
def EIM.STAT.CALLOCK : Fld := ⟨EIM.STAT, 30, 1⟩
def EIM.STAT.REFUSE : Fld := ⟨EIM.STAT, 29, 1⟩
def EIM.STAT.ARMHELD : Fld := ⟨EIM.STAT, 28, 1⟩
/-- EIM.RESSEQ: result sequence (R381). -/
def EIM.RESSEQ : Nat := 0x70110
def EIM.RESSEQ.val : Fld := ⟨EIM.RESSEQ, 0, 32⟩
/-- EIM.RESNS: result, whole ns (R381). -/
def EIM.RESNS : Nat := 0x70114
def EIM.RESNS.val : Fld := ⟨EIM.RESNS, 0, 32⟩
/-- EIM.RESFRAC: result fraction and flags (R381). -/
def EIM.RESFRAC : Nat := 0x70118
def EIM.RESFRAC.VALID : Fld := ⟨EIM.RESFRAC, 31, 1⟩
def EIM.RESFRAC.ORDER : Fld := ⟨EIM.RESFRAC, 30, 1⟩
def EIM.RESFRAC.COINCIDENT : Fld := ⟨EIM.RESFRAC, 29, 1⟩
def EIM.RESFRAC.TIMEOUT : Fld := ⟨EIM.RESFRAC, 28, 1⟩
def EIM.RESFRAC.CAL : Fld := ⟨EIM.RESFRAC, 27, 1⟩
def EIM.RESFRAC.FRAC : Fld := ⟨EIM.RESFRAC, 0, 10⟩
/-- EIM.RESEDGES: frequency-mode count (R381). -/
def EIM.RESEDGES : Nat := 0x7011C
def EIM.RESEDGES.val : Fld := ⟨EIM.RESEDGES, 0, 32⟩
/-- EIM.HIST: meter history (R381). -/
def EIM.HIST : Nat := 0x70120
def EIM.HIST.SEQ : Fld := ⟨EIM.HIST, 24, 8⟩
def EIM.HIST.CALLOST : Fld := ⟨EIM.HIST, 3, 1⟩
def EIM.HIST.TIMEOUT : Fld := ⟨EIM.HIST, 2, 1⟩
def EIM.HIST.COINCIDENT : Fld := ⟨EIM.HIST, 1, 1⟩
def EIM.HIST.ORDER : Fld := ⟨EIM.HIST, 0, 1⟩
/-- TIME.NS (R410). -/
def TIME.NS : Nat := 0x80000
def TIME.NS.val : Fld := ⟨TIME.NS, 0, 32⟩
/-- TIME.BTICK (R410). -/
def TIME.BTICK : Nat := 0x80004
def TIME.BTICK.val : Fld := ⟨TIME.BTICK, 0, 32⟩
/-- TIME.BNS (R410). -/
def TIME.BNS : Nat := 0x80008
def TIME.BNS.val : Fld := ⟨TIME.BNS, 0, 32⟩
/-- TIME.MTORIGIN (R410). -/
def TIME.MTORIGIN : Nat := 0x8000C
def TIME.MTORIGIN.val : Fld := ⟨TIME.MTORIGIN, 0, 32⟩
/-- TIME.CTL: time control (R410). -/
def TIME.CTL : Nat := 0x80010
def TIME.CTL.ALIGNED : Fld := ⟨TIME.CTL, 31, 1⟩
def TIME.CTL.AUTO : Fld := ⟨TIME.CTL, 8, 1⟩
def TIME.CTL.ALIGN : Fld := ⟨TIME.CTL, 2, 1⟩
def TIME.CTL.SET : Fld := ⟨TIME.CTL, 1, 1⟩
def TIME.CTL.CAP : Fld := ⟨TIME.CTL, 0, 1⟩
/-- TIME.CAPNS (R410). -/
def TIME.CAPNS : Nat := 0x80020
def TIME.CAPNS.val : Fld := ⟨TIME.CAPNS, 0, 32⟩
/-- TIME.CAPSECLO (R410). -/
def TIME.CAPSECLO : Nat := 0x80024
def TIME.CAPSECLO.val : Fld := ⟨TIME.CAPSECLO, 0, 32⟩
/-- TIME.CAPSECHI (R410). -/
def TIME.CAPSECHI : Nat := 0x80028
def TIME.CAPSECHI.val : Fld := ⟨TIME.CAPSECHI, 0, 16⟩
/-- TIME.CAPNSEC (R410). -/
def TIME.CAPNSEC : Nat := 0x8002C
def TIME.CAPNSEC.val : Fld := ⟨TIME.CAPNSEC, 0, 30⟩
/-- TIME.SETSECLO (R410). -/
def TIME.SETSECLO : Nat := 0x80030
def TIME.SETSECLO.val : Fld := ⟨TIME.SETSECLO, 0, 32⟩
/-- TIME.SETSECHI (R410). -/
def TIME.SETSECHI : Nat := 0x80034
def TIME.SETSECHI.val : Fld := ⟨TIME.SETSECHI, 0, 16⟩
/-- TIME.SETNSEC (R410). -/
def TIME.SETNSEC : Nat := 0x80038
def TIME.SETNSEC.val : Fld := ⟨TIME.SETNSEC, 0, 30⟩
/-- TIME.SRVCFG: servo configuration (R410). -/
def TIME.SRVCFG : Nat := 0x80040
def TIME.SRVCFG.EN : Fld := ⟨TIME.SRVCFG, 31, 1⟩
def TIME.SRVCFG.SRC : Fld := ⟨TIME.SRVCFG, 30, 1⟩
def TIME.SRVCFG.PORT : Fld := ⟨TIME.SRVCFG, 29, 1⟩
def TIME.SRVCFG.HOLD : Fld := ⟨TIME.SRVCFG, 0, 1⟩
/-- TIME.SRVGAIN (R410). -/
def TIME.SRVGAIN : Nat := 0x80044
def TIME.SRVGAIN.KP : Fld := ⟨TIME.SRVGAIN, 16, 16⟩
def TIME.SRVGAIN.KI : Fld := ⟨TIME.SRVGAIN, 0, 16⟩
/-- TIME.SRVSTEP (R410). -/
def TIME.SRVSTEP : Nat := 0x80048
def TIME.SRVSTEP.val : Fld := ⟨TIME.SRVSTEP, 0, 32⟩
/-- TIME.SRVIN (R410). -/
def TIME.SRVIN : Nat := 0x8004C
def TIME.SRVIN.val : Fld := ⟨TIME.SRVIN, 0, 32⟩
/-- TIME.SRVPPT (R410). -/
def TIME.SRVPPT : Nat := 0x80050
def TIME.SRVPPT.val : Fld := ⟨TIME.SRVPPT, 0, 32⟩
/-- TIME.SRVOFS (R410). -/
def TIME.SRVOFS : Nat := 0x80054
def TIME.SRVOFS.val : Fld := ⟨TIME.SRVOFS, 0, 32⟩
/-- TIME.PTPp_CFG: PTP instance (R410). -/
def TIME.PTP_CFG (p : Nat) : Nat := 0x80080 + p * 0x20
def TIME.PTP_CFG.EN (p : Nat) : Fld := ⟨TIME.PTP_CFG p, 31, 1⟩
def TIME.PTP_CFG.ONESTEP (p : Nat) : Fld := ⟨TIME.PTP_CFG p, 30, 1⟩
def TIME.PTP_CFG.ROLE (p : Nat) : Fld := ⟨TIME.PTP_CFG p, 29, 1⟩
def TIME.PTP_CFG.IPV6 (p : Nat) : Fld := ⟨TIME.PTP_CFG p, 28, 1⟩
def TIME.PTP_CFG.PROFILE (p : Nat) : Fld := ⟨TIME.PTP_CFG p, 26, 2⟩
def TIME.PTP_CFG.STATE (p : Nat) : Fld := ⟨TIME.PTP_CFG p, 24, 2⟩
def TIME.PTP_CFG.DOMAIN (p : Nat) : Fld := ⟨TIME.PTP_CFG p, 16, 8⟩
def TIME.PTP_CFG.LOGSYNC (p : Nat) : Fld := ⟨TIME.PTP_CFG p, 12, 4⟩
def TIME.PTP_CFG.LOGANN (p : Nat) : Fld := ⟨TIME.PTP_CFG p, 8, 4⟩
def TIME.PTP_CFG.LOGDREQ (p : Nat) : Fld := ⟨TIME.PTP_CFG p, 4, 4⟩
def TIME.PTP_CFG.LOAD (p : Nat) : Fld := ⟨TIME.PTP_CFG p, 3, 1⟩
def TIME.PTP_CFG.MODE (p : Nat) : Fld := ⟨TIME.PTP_CFG p, 2, 1⟩
/-- TIME.PTPp_CLS: announced quality (R410). -/
def TIME.PTP_CLS (p : Nat) : Nat := 0x80084 + p * 0x20
def TIME.PTP_CLS.PRIORITY1 (p : Nat) : Fld := ⟨TIME.PTP_CLS p, 24, 8⟩
def TIME.PTP_CLS.CLASS (p : Nat) : Fld := ⟨TIME.PTP_CLS p, 16, 8⟩
def TIME.PTP_CLS.ACCURACY (p : Nat) : Fld := ⟨TIME.PTP_CLS p, 8, 8⟩
def TIME.PTP_CLS.PRIORITY2 (p : Nat) : Fld := ⟨TIME.PTP_CLS p, 0, 8⟩
/-- TIME.PTPp_PARENT (R410). -/
def TIME.PTP_PARENT (p : Nat) : Nat := 0x80088 + p * 0x20
def TIME.PTP_PARENT.STEPS (p : Nat) : Fld := ⟨TIME.PTP_PARENT p, 16, 8⟩
def TIME.PTP_PARENT.CLASS (p : Nat) : Fld := ⟨TIME.PTP_PARENT p, 8, 8⟩
def TIME.PTP_PARENT.ACCURACY (p : Nat) : Fld := ⟨TIME.PTP_PARENT p, 0, 8⟩
/-- TIME.PTPp_OFS (R410). -/
def TIME.PTP_OFS (p : Nat) : Nat := 0x8008C + p * 0x20
def TIME.PTP_OFS.val (p : Nat) : Fld := ⟨TIME.PTP_OFS p, 0, 32⟩
/-- TIME.PTPp_MPD (R410). -/
def TIME.PTP_MPD (p : Nat) : Nat := 0x80090 + p * 0x20
def TIME.PTP_MPD.val (p : Nat) : Fld := ⟨TIME.PTP_MPD p, 0, 32⟩
/-- TIME.PTPp_SAMPLES (R410). -/
def TIME.PTP_SAMPLES (p : Nat) : Nat := 0x80094 + p * 0x20
def TIME.PTP_SAMPLES.val (p : Nat) : Fld := ⟨TIME.PTP_SAMPLES p, 0, 32⟩
/-- TIME.PGk_CFG: pulse generator (R410). -/
def TIME.PG_CFG (k : Nat) : Nat := 0x80100 + k * 0x10
def TIME.PG_CFG.EN (k : Nat) : Fld := ⟨TIME.PG_CFG k, 31, 1⟩
def TIME.PG_CFG.POL (k : Nat) : Fld := ⟨TIME.PG_CFG k, 30, 1⟩
def TIME.PG_CFG.LATE (k : Nat) : Fld := ⟨TIME.PG_CFG k, 28, 2⟩
def TIME.PG_CFG.RUNNING (k : Nat) : Fld := ⟨TIME.PG_CFG k, 27, 1⟩
def TIME.PG_CFG.ARMED (k : Nat) : Fld := ⟨TIME.PG_CFG k, 26, 1⟩
def TIME.PG_CFG.PIN (k : Nat) : Fld := ⟨TIME.PG_CFG k, 8, 3⟩
def TIME.PG_CFG.STOP (k : Nat) : Fld := ⟨TIME.PG_CFG k, 1, 1⟩
def TIME.PG_CFG.ARM (k : Nat) : Fld := ⟨TIME.PG_CFG k, 0, 1⟩
/-- TIME.PGk_START (R410). -/
def TIME.PG_START (k : Nat) : Nat := 0x80104 + k * 0x10
def TIME.PG_START.val (k : Nat) : Fld := ⟨TIME.PG_START k, 0, 32⟩
/-- TIME.PGk_PERIOD (R410). -/
def TIME.PG_PERIOD (k : Nat) : Nat := 0x80108 + k * 0x10
def TIME.PG_PERIOD.val (k : Nat) : Fld := ⟨TIME.PG_PERIOD k, 0, 32⟩
/-- TIME.PGk_WIDTH (R410). -/
def TIME.PG_WIDTH (k : Nat) : Nat := 0x8010C + k * 0x10
def TIME.PG_WIDTH.val (k : Nat) : Fld := ⟨TIME.PG_WIDTH k, 0, 32⟩
/-- TIME.LTCRX_CFG (R410). -/
def TIME.LTCRX_CFG : Nat := 0x80200
def TIME.LTCRX_CFG.EN : Fld := ⟨TIME.LTCRX_CFG, 31, 1⟩
/-- TIME.LTCRX_STAT (R410). -/
def TIME.LTCRX_STAT : Nat := 0x80204
def TIME.LTCRX_STAT.STATE : Fld := ⟨TIME.LTCRX_STAT, 30, 2⟩
def TIME.LTCRX_STAT.RATE : Fld := ⟨TIME.LTCRX_STAT, 27, 3⟩
def TIME.LTCRX_STAT.FLAGS : Fld := ⟨TIME.LTCRX_STAT, 22, 5⟩
def TIME.LTCRX_STAT.SPEED : Fld := ⟨TIME.LTCRX_STAT, 0, 16⟩
/-- TIME.LTCRX_TC (R410). -/
def TIME.LTCRX_TC : Nat := 0x80208
def TIME.LTCRX_TC.val : Fld := ⟨TIME.LTCRX_TC, 0, 32⟩
/-- TIME.LTCRX_UB (R410). -/
def TIME.LTCRX_UB : Nat := 0x8020C
def TIME.LTCRX_UB.val : Fld := ⟨TIME.LTCRX_UB, 0, 32⟩
/-- TIME.LTCRX_NS (R410). -/
def TIME.LTCRX_NS : Nat := 0x80210
def TIME.LTCRX_NS.val : Fld := ⟨TIME.LTCRX_NS, 0, 32⟩
/-- TIME.LTCRX_SEQ (R410). -/
def TIME.LTCRX_SEQ : Nat := 0x80214
def TIME.LTCRX_SEQ.val : Fld := ⟨TIME.LTCRX_SEQ, 0, 32⟩
/-- TIME.LTCTX_CFG: generator (R410). -/
def TIME.LTCTX_CFG : Nat := 0x80220
def TIME.LTCTX_CFG.EN : Fld := ⟨TIME.LTCTX_CFG, 31, 1⟩
def TIME.LTCTX_CFG.RATE : Fld := ⟨TIME.LTCTX_CFG, 28, 3⟩
def TIME.LTCTX_CFG.LATE : Fld := ⟨TIME.LTCTX_CFG, 27, 1⟩
def TIME.LTCTX_CFG.JAM : Fld := ⟨TIME.LTCTX_CFG, 0, 1⟩
/-- TIME.LTCTX_AT (R410). -/
def TIME.LTCTX_AT : Nat := 0x80224
def TIME.LTCTX_AT.val : Fld := ⟨TIME.LTCTX_AT, 0, 32⟩
/-- TIME.LTCTX_TC (R410). -/
def TIME.LTCTX_TC : Nat := 0x80228
def TIME.LTCTX_TC.val : Fld := ⟨TIME.LTCTX_TC, 0, 32⟩
/-- TIME.LTCTX_UB (R410). -/
def TIME.LTCTX_UB : Nat := 0x8022C
def TIME.LTCTX_UB.val : Fld := ⟨TIME.LTCTX_UB, 0, 32⟩
/-- TIME.HIST: time history (R410). -/
def TIME.HIST : Nat := 0x80300
def TIME.HIST.SEQ : Fld := ⟨TIME.HIST, 24, 8⟩
def TIME.HIST.LTCDISCONT : Fld := ⟨TIME.HIST, 7, 1⟩
def TIME.HIST.LTCLOST : Fld := ⟨TIME.HIST, 6, 1⟩
def TIME.HIST.CUENOFRAME : Fld := ⟨TIME.HIST, 5, 1⟩
def TIME.HIST.CUESLIP : Fld := ⟨TIME.HIST, 4, 1⟩
def TIME.HIST.LATE : Fld := ⟨TIME.HIST, 3, 1⟩
def TIME.HIST.SRVHOLD : Fld := ⟨TIME.HIST, 2, 1⟩
def TIME.HIST.ORIGIN : Fld := ⟨TIME.HIST, 1, 1⟩
def TIME.HIST.STEP : Fld := ⟨TIME.HIST, 0, 1⟩
/-- NETA, NETB, NETM.CFG (R429/R430). -/
def NET.CFG (x : Nat) : Nat := 0x90000 + x * 0x10000
def NET.CFG.EN (x : Nat) : Fld := ⟨NET.CFG x, 31, 1⟩
def NET.CFG.RATE (x : Nat) : Fld := ⟨NET.CFG x, 28, 3⟩
def NET.CFG.FEC (x : Nat) : Fld := ⟨NET.CFG x, 27, 1⟩
def NET.CFG.AN (x : Nat) : Fld := ⟨NET.CFG x, 26, 1⟩
def NET.CFG.MAXFRAME (x : Nat) : Fld := ⟨NET.CFG x, 0, 14⟩
/-- NETA, NETB, NETM.STAT (R429/R430). -/
def NET.STAT (x : Nat) : Nat := 0x90004 + x * 0x10000
def NET.STAT.LINK (x : Nat) : Fld := ⟨NET.STAT x, 31, 1⟩
def NET.STAT.PCSLOCK (x : Nat) : Fld := ⟨NET.STAT x, 30, 1⟩
def NET.STAT.FECLOCK (x : Nat) : Fld := ⟨NET.STAT x, 29, 1⟩
def NET.STAT.IDLE (x : Nat) : Fld := ⟨NET.STAT x, 28, 1⟩
/-- NETA, NETB, NETM.MACLO (R429/R430). -/
def NET.MACLO (x : Nat) : Nat := 0x90008 + x * 0x10000
def NET.MACLO.val (x : Nat) : Fld := ⟨NET.MACLO x, 0, 32⟩
/-- NETA, NETB, NETM.MACHI (R429/R430). -/
def NET.MACHI (x : Nat) : Nat := 0x9000C + x * 0x10000
def NET.MACHI.val (x : Nat) : Fld := ⟨NET.MACHI x, 0, 16⟩
/-- NETA, NETB, NETM.IP4 (R429/R430). -/
def NET.IP4 (x : Nat) : Nat := 0x90010 + x * 0x10000
def NET.IP4.val (x : Nat) : Fld := ⟨NET.IP4 x, 0, 32⟩
/-- NETA, NETB, NETM.IP6_k (R429/R430). -/
def NET.IP6 (x : Nat) (k : Nat) : Nat := 0x90014 + x * 0x10000 + k * 0x4
def NET.IP6.val (x : Nat) (k : Nat) : Fld := ⟨NET.IP6 x k, 0, 32⟩
/-- NETA, NETB, NETM.PTPLAT (R429/R430). -/
def NET.PTPLAT (x : Nat) : Nat := 0x90024 + x * 0x10000
def NET.PTPLAT.EGRESS (x : Nat) : Fld := ⟨NET.PTPLAT x, 16, 16⟩
def NET.PTPLAT.INGRESS (x : Nat) : Fld := ⟨NET.PTPLAT x, 0, 16⟩
/-- NETA, NETB, NETM.RXFRAMES (R429/R430). -/
def NET.RXFRAMES (x : Nat) : Nat := 0x90040 + x * 0x10000
def NET.RXFRAMES.val (x : Nat) : Fld := ⟨NET.RXFRAMES x, 0, 32⟩
/-- NETA, NETB, NETM.RXFCS (R429/R430). -/
def NET.RXFCS (x : Nat) : Nat := 0x90044 + x * 0x10000
def NET.RXFCS.val (x : Nat) : Fld := ⟨NET.RXFCS x, 0, 32⟩
/-- NETA, NETB, NETM.RXDROP (R429/R430). -/
def NET.RXDROP (x : Nat) : Nat := 0x90048 + x * 0x10000
def NET.RXDROP.val (x : Nat) : Fld := ⟨NET.RXDROP x, 0, 32⟩
/-- NETA, NETB, NETM.TXFRAMES (R429/R430). -/
def NET.TXFRAMES (x : Nat) : Nat := 0x9004C + x * 0x10000
def NET.TXFRAMES.val (x : Nat) : Fld := ⟨NET.TXFRAMES x, 0, 32⟩
/-- NETA, NETB, NETM.FECCORR (R429/R430). -/
def NET.FECCORR (x : Nat) : Nat := 0x90050 + x * 0x10000
def NET.FECCORR.val (x : Nat) : Fld := ⟨NET.FECCORR x, 0, 32⟩
/-- NETA, NETB, NETM.FECUNCORR (R429/R430). -/
def NET.FECUNCORR (x : Nat) : Nat := 0x90054 + x * 0x10000
def NET.FECUNCORR.val (x : Nat) : Fld := ⟨NET.FECUNCORR x, 0, 32⟩
/-- NETA, NETB, NETM.LINKDOWNS (R429/R430). -/
def NET.LINKDOWNS (x : Nat) : Nat := 0x90058 + x * 0x10000
def NET.LINKDOWNS.val (x : Nat) : Fld := ⟨NET.LINKDOWNS x, 0, 32⟩
/-- NETA, NETB, NETM.HIST (R429/R430). -/
def NET.HIST (x : Nat) : Nat := 0x9005C + x * 0x10000
def NET.HIST.SEQ (x : Nat) : Fld := ⟨NET.HIST x, 24, 8⟩
def NET.HIST.FECUNCORR (x : Nat) : Fld := ⟨NET.HIST x, 2, 1⟩
def NET.HIST.LINKUP (x : Nat) : Fld := ⟨NET.HIST x, 1, 1⟩
def NET.HIST.LINKDOWN (x : Nat) : Fld := ⟨NET.HIST x, 0, 1⟩
/-- SW.CTL: switch control (R429/R430). -/
def SW.CTL : Nat := 0xC0000
def SW.CTL.NETMODE : Fld := ⟨SW.CTL, 30, 2⟩
def SW.CTL.SNOOP : Fld := ⟨SW.CTL, 29, 1⟩
def SW.CTL.UNREG : Fld := ⟨SW.CTL, 28, 1⟩
def SW.CTL.AGE : Fld := ⟨SW.CTL, 0, 16⟩
/-- SW.PVIDx (R429/R430). -/
def SW.PVID (x : Nat) : Nat := 0xC0004 + x * 0x4
def SW.PVID.val (x : Nat) : Fld := ⟨SW.PVID x, 0, 12⟩
/-- SW.VLANv (R429/R430). -/
def SW.VLAN (v : Nat) : Nat := 0xC0100 + v * 0x4
def SW.VLAN.EN (v : Nat) : Fld := ⟨SW.VLAN v, 31, 1⟩
def SW.VLAN.MEMBER (v : Nat) : Fld := ⟨SW.VLAN v, 24, 4⟩
def SW.VLAN.UNTAG (v : Nat) : Fld := ⟨SW.VLAN v, 20, 4⟩
def SW.VLAN.VID (v : Nat) : Fld := ⟨SW.VLAN v, 0, 12⟩
/-- SW.STEERr (R429/R430). -/
def SW.STEER (r : Nat) : Nat := 0xC0200 + r * 0x4
def SW.STEER.EN (r : Nat) : Fld := ⟨SW.STEER r, 31, 1⟩
def SW.STEER.KIND (r : Nat) : Fld := ⟨SW.STEER r, 30, 1⟩
def SW.STEER.DEST (r : Nat) : Fld := ⟨SW.STEER r, 16, 4⟩
def SW.STEER.VALUE (r : Nat) : Fld := ⟨SW.STEER r, 0, 16⟩
/-- SW.SHAPEx_c: shaper (R429/R430). -/
def SW.SHAPE (x : Nat) (c : Nat) : Nat := 0xC0300 + x * 0x10 + c * 0x4
def SW.SHAPE.IDLESLOPE (x : Nat) (c : Nat) : Fld := ⟨SW.SHAPE x c, 0, 16⟩
/-- SW.GCLCTL (R429/R430). -/
def SW.GCLCTL : Nat := 0xC0400
def SW.GCLCTL.EN : Fld := ⟨SW.GCLCTL, 31, 1⟩
def SW.GCLCTL.NENT : Fld := ⟨SW.GCLCTL, 0, 9⟩
/-- SW.GCLBASE (R429/R430). -/
def SW.GCLBASE : Nat := 0xC0404
def SW.GCLBASE.val : Fld := ⟨SW.GCLBASE, 0, 32⟩
/-- SW.GCLCYCLE (R429/R430). -/
def SW.GCLCYCLE : Nat := 0xC0408
def SW.GCLCYCLE.val : Fld := ⟨SW.GCLCYCLE, 0, 32⟩
/-- SW.GCLSTAT (R429/R430). -/
def SW.GCLSTAT : Nat := 0xC040C
def SW.GCLSTAT.RUNNING : Fld := ⟨SW.GCLSTAT, 31, 1⟩
def SW.GCLSTAT.ENTRY : Fld := ⟨SW.GCLSTAT, 0, 8⟩
/-- SW.MACCNT (R429/R430). -/
def SW.MACCNT : Nat := 0xC0500
def SW.MACCNT.val : Fld := ⟨SW.MACCNT, 0, 13⟩
/-- SW.GRPCNT (R429/R430). -/
def SW.GRPCNT : Nat := 0xC0504
def SW.GRPCNT.val : Fld := ⟨SW.GRPCNT, 0, 11⟩
/-- SW.DROPS (R429/R430). -/
def SW.DROPS : Nat := 0xC0508
def SW.DROPS.val : Fld := ⟨SW.DROPS, 0, 32⟩
/-- SW.HIST (R429/R430). -/
def SW.HIST : Nat := 0xC050C
def SW.HIST.SEQ : Fld := ⟨SW.HIST, 24, 8⟩
def SW.HIST.GRPFULL : Fld := ⟨SW.HIST, 1, 1⟩
def SW.HIST.MACFULL : Fld := ⟨SW.HIST, 0, 1⟩
/-- SW.NHi_HI (R429/R430). -/
def SW.NH_HI (i : Nat) : Nat := 0xC1008 + i * 0x8
def SW.NH_HI.val (i : Nat) : Fld := ⟨SW.NH_HI i, 0, 32⟩
/-- SW.NHi_LO (R429/R430). -/
def SW.NH_LO (i : Nat) : Nat := 0xC100C + i * 0x8
def SW.NH_LO.MACLO16 (i : Nat) : Fld := ⟨SW.NH_LO i, 16, 16⟩
def SW.NH_LO.VALID (i : Nat) : Fld := ⟨SW.NH_LO i, 0, 1⟩
/-- FLOW.RXCTL: receive control (R198). -/
def FLOW.RXCTL : Nat := 0xD0000
def FLOW.RXCTL.CSUM : Fld := ⟨FLOW.RXCTL, 0, 1⟩
/-- FLOW.RXCLR: receive counter clear (R198). -/
def FLOW.RXCLR : Nat := 0xD0004
def FLOW.RXCLR.GO : Fld := ⟨FLOW.RXCLR, 31, 1⟩
def FLOW.RXCLR.ALL : Fld := ⟨FLOW.RXCLR, 30, 1⟩
def FLOW.RXCLR.INDEX : Fld := ⟨FLOW.RXCLR, 0, 12⟩
/-- FLOW.RXNOMATCH: unmatched media frames (R198). -/
def FLOW.RXNOMATCH : Nat := 0xD0008
def FLOW.RXNOMATCH.val : Fld := ⟨FLOW.RXNOMATCH, 0, 32⟩
/-- FLOW.RXCOUNT: receive flow counts (R198). -/
def FLOW.RXCOUNT : Nat := 0xD000C
def FLOW.RXCOUNT.ACTIVE : Fld := ⟨FLOW.RXCOUNT, 16, 12⟩
def FLOW.RXCOUNT.ENABLED : Fld := ⟨FLOW.RXCOUNT, 0, 12⟩
/-- FLOW.RXHIST: receive history (R198). -/
def FLOW.RXHIST : Nat := 0xD0010
def FLOW.RXHIST.SEQ : Fld := ⟨FLOW.RXHIST, 24, 8⟩
def FLOW.RXHIST.LATE : Fld := ⟨FLOW.RXHIST, 5, 1⟩
def FLOW.RXHIST.CMP : Fld := ⟨FLOW.RXHIST, 4, 1⟩
def FLOW.RXHIST.BADFMT : Fld := ⟨FLOW.RXHIST, 3, 1⟩
def FLOW.RXHIST.SSRC : Fld := ⟨FLOW.RXHIST, 2, 1⟩
def FLOW.RXHIST.RESUMED : Fld := ⟨FLOW.RXHIST, 1, 1⟩
def FLOW.RXHIST.TIMEOUT : Fld := ⟨FLOW.RXHIST, 0, 1⟩
/-- FLOW.TXCTL: transmit control (R222). -/
def FLOW.TXCTL : Nat := 0xD0100
def FLOW.TXCTL.CSUM4 : Fld := ⟨FLOW.TXCTL, 0, 1⟩
/-- FLOW.TXCLR: transmit counter clear (R222). -/
def FLOW.TXCLR : Nat := 0xD0104
def FLOW.TXCLR.GO : Fld := ⟨FLOW.TXCLR, 31, 1⟩
def FLOW.TXCLR.ALL : Fld := ⟨FLOW.TXCLR, 30, 1⟩
def FLOW.TXCLR.INDEX : Fld := ⟨FLOW.TXCLR, 0, 12⟩
/-- FLOW.TXCOUNT: transmit flow counts (R222). -/
def FLOW.TXCOUNT : Nat := 0xD0108
def FLOW.TXCOUNT.LOAD : Fld := ⟨FLOW.TXCOUNT, 16, 14⟩
def FLOW.TXCOUNT.ENABLED : Fld := ⟨FLOW.TXCOUNT, 0, 12⟩
/-- FLOW.TXHIST: transmit history (R222). -/
def FLOW.TXHIST : Nat := 0xD010C
def FLOW.TXHIST.SEQ : Fld := ⟨FLOW.TXHIST, 24, 8⟩
def FLOW.TXHIST.INVALID : Fld := ⟨FLOW.TXHIST, 4, 1⟩
def FLOW.TXHIST.KNLFULL : Fld := ⟨FLOW.TXHIST, 3, 1⟩
def FLOW.TXHIST.LOST : Fld := ⟨FLOW.TXHIST, 2, 1⟩
def FLOW.TXHIST.REBUILT : Fld := ⟨FLOW.TXHIST, 1, 1⟩
def FLOW.TXHIST.TRUNC : Fld := ⟨FLOW.TXHIST, 0, 1⟩
/-- FLOW.TXPROFILE: transmit profile (R222). -/
def FLOW.TXPROFILE : Nat := 0xD0110
def FLOW.TXPROFILE.MODE : Fld := ⟨FLOW.TXPROFILE, 31, 1⟩
def FLOW.TXPROFILE.LOAD : Fld := ⟨FLOW.TXPROFILE, 30, 1⟩
def FLOW.TXPROFILE.PROFILE : Fld := ⟨FLOW.TXPROFILE, 16, 2⟩
def FLOW.TXPROFILE.INDEX : Fld := ⟨FLOW.TXPROFILE, 0, 12⟩
/-- FLOW.PATCHSTAT: Patch Map status (R222). -/
def FLOW.PATCHSTAT : Nat := 0xD0114
def FLOW.PATCHSTAT.ENTRIES : Fld := ⟨FLOW.PATCHSTAT, 0, 15⟩
/-- FLOW.PATCHCYC: Patch Map cycles (R222). -/
def FLOW.PATCHCYC : Nat := 0xD0118
def FLOW.PATCHCYC.CYC : Fld := ⟨FLOW.PATCHCYC, 0, 21⟩
/-- FLOW.PATCHLATE: late gathers (R222). -/
def FLOW.PATCHLATE : Nat := 0xD011C
def FLOW.PATCHLATE.val : Fld := ⟨FLOW.PATCHLATE, 0, 32⟩
/-- GE.PRESENT: engines present (R101). -/
def GE.PRESENT : Nat := 0xE0000
def GE.PRESENT.val : Fld := ⟨GE.PRESENT, 0, 16⟩
/-- GE.BRACE: brace control (R101). -/
def GE.BRACE : Nat := 0xE0004
def GE.BRACE.val : Fld := ⟨GE.BRACE, 0, 8⟩
/-- GE.CNTCLR: counter clear (R101). -/
def GE.CNTCLR : Nat := 0xE0008
def GE.CNTCLR.CLR : Fld := ⟨GE.CNTCLR, 0, 16⟩
/-- GE.LOADSTAT: loader status (R165). -/
def GE.LOADSTAT : Nat := 0xE000C
def GE.LOADSTAT.ENGINE : Fld := ⟨GE.LOADSTAT, 28, 4⟩
def GE.LOADSTAT.CODE : Fld := ⟨GE.LOADSTAT, 16, 8⟩
/-- GE.LIBVER: stock library version (R165). -/
def GE.LIBVER : Nat := 0xE0010
def GE.LIBVER.MAJOR : Fld := ⟨GE.LIBVER, 16, 16⟩
def GE.LIBVER.MINOR : Fld := ⟨GE.LIBVER, 0, 16⟩
/-- GE.PROVENn: proven cycles (R165). -/
def GE.PROVEN (n : Nat) : Nat := 0xE0040 + n * 0x4
def GE.PROVEN.CYC (n : Nat) : Fld := ⟨GE.PROVEN n, 0, 21⟩
/-- GE.PROFILEn: engine profile (R165). -/
def GE.PROFILE (n : Nat) : Nat := 0xE0080 + n * 0x4
def GE.PROFILE.MODE (n : Nat) : Fld := ⟨GE.PROFILE n, 31, 1⟩
def GE.PROFILE.LOAD (n : Nat) : Fld := ⟨GE.PROFILE n, 24, 1⟩
def GE.PROFILE.SIZE (n : Nat) : Fld := ⟨GE.PROFILE n, 8, 9⟩
def GE.PROFILE.PROGRAM (n : Nat) : Fld := ⟨GE.PROFILE n, 0, 8⟩
/-- GE.DRAMBn: DRAM charge (R165). -/
def GE.DRAMB (n : Nat) : Nat := 0xE00C0 + n * 0x4
def GE.DRAMB.val (n : Nat) : Fld := ⟨GE.DRAMB n, 0, 32⟩
/-- GE.CTLn: engine control (R101). -/
def GE.CTL (n : Nat) : Nat := 0xE0100 + n * 0x40
def GE.CTL.OVR_LIMIT (n : Nat) : Fld := ⟨GE.CTL n, 8, 8⟩
def GE.CTL.RA_READY (n : Nat) : Fld := ⟨GE.CTL n, 2, 1⟩
def GE.CTL.RA_EN (n : Nat) : Fld := ⟨GE.CTL n, 1, 1⟩
def GE.CTL.EN (n : Nat) : Fld := ⟨GE.CTL n, 0, 1⟩
/-- GE.ENTRYn: program entry (R101). -/
def GE.ENTRY (n : Nat) : Nat := 0xE0104 + n * 0x40
def GE.ENTRY.val (n : Nat) : Fld := ⟨GE.ENTRY n, 2, 14⟩
/-- GE.STATn: engine status (R101). -/
def GE.STAT (n : Nat) : Nat := 0xE0108 + n * 0x40
def GE.STAT.TICKETS (n : Nat) : Fld := ⟨GE.STAT n, 17, 5⟩
def GE.STAT.RSBFILL (n : Nat) : Fld := ⟨GE.STAT n, 8, 9⟩
def GE.STAT.BRACED (n : Nat) : Fld := ⟨GE.STAT n, 4, 1⟩
def GE.STAT.RA (n : Nat) : Fld := ⟨GE.STAT n, 3, 1⟩
def GE.STAT.STATE (n : Nat) : Fld := ⟨GE.STAT n, 0, 3⟩
/-- GE.PCn: program counter (R101). -/
def GE.PC (n : Nat) : Nat := 0xE010C + n * 0x40
def GE.PC.val (n : Nat) : Fld := ⟨GE.PC n, 2, 14⟩
/-- GE.LASTCYCn: cycles of last program (R101). -/
def GE.LASTCYC (n : Nat) : Nat := 0xE0110 + n * 0x40
def GE.LASTCYC.CYC (n : Nat) : Fld := ⟨GE.LASTCYC n, 0, 21⟩
/-- GE.PEAKCYCn: peak cycles (R101). -/
def GE.PEAKCYC (n : Nat) : Nat := 0xE0114 + n * 0x40
def GE.PEAKCYC.CYC (n : Nat) : Fld := ⟨GE.PEAKCYC n, 0, 21⟩
/-- GE.RASTARTn: run-aheads started (R101). -/
def GE.RASTART (n : Nat) : Nat := 0xE0118 + n * 0x40
def GE.RASTART.val (n : Nat) : Fld := ⟨GE.RASTART n, 0, 32⟩
/-- GE.RARETIREn: run-aheads retired (R101). -/
def GE.RARETIRE (n : Nat) : Nat := 0xE011C + n * 0x40
def GE.RARETIRE.val (n : Nat) : Fld := ⟨GE.RARETIRE n, 0, 32⟩
/-- GE.SQEPOCHn: squashes by commit (R101). -/
def GE.SQEPOCH (n : Nat) : Nat := 0xE0120 + n * 0x40
def GE.SQEPOCH.val (n : Nat) : Fld := ⟨GE.SQEPOCH n, 0, 32⟩
/-- GE.SQREWINDn: squashes by input loss (R101). -/
def GE.SQREWIND (n : Nat) : Nat := 0xE0124 + n * 0x40
def GE.SQREWIND.val (n : Nat) : Fld := ⟨GE.SQREWIND n, 0, 32⟩
/-- GE.SQMUZZLEn: squashes by muzzle change (R101). -/
def GE.SQMUZZLE (n : Nat) : Nat := 0xE0128 + n * 0x40
def GE.SQMUZZLE.val (n : Nat) : Fld := ⟨GE.SQMUZZLE n, 0, 32⟩
/-- GE.RSBSTALLn: RSB stalls (R101). -/
def GE.RSBSTALL (n : Nat) : Nat := 0xE012C + n * 0x40
def GE.RSBSTALL.val (n : Nat) : Fld := ⟨GE.RSBSTALL n, 0, 32⟩
/-- GE.OVERRUNn: tick overruns (R101). -/
def GE.OVERRUN (n : Nat) : Nat := 0xE0130 + n * 0x40
def GE.OVERRUN.val (n : Nat) : Fld := ⟨GE.OVERRUN n, 0, 32⟩
/-- GE.SXMWAITn: SXM wait cycles (R101). -/
def GE.SXMWAIT (n : Nat) : Nat := 0xE0134 + n * 0x40
def GE.SXMWAIT.val (n : Nat) : Fld := ⟨GE.SXMWAIT n, 0, 32⟩
/-- GE.HISTn: engine history (R101). -/
def GE.HIST (n : Nat) : Nat := 0xE0138 + n * 0x40
def GE.HIST.SEQ (n : Nat) : Fld := ⟨GE.HIST n, 24, 8⟩
def GE.HIST.HANDLE_FAULT (n : Nat) : Fld := ⟨GE.HIST n, 4, 1⟩
def GE.HIST.PARKED (n : Nat) : Fld := ⟨GE.HIST n, 3, 1⟩
def GE.HIST.RSB_STALL (n : Nat) : Fld := ⟨GE.HIST n, 2, 1⟩
def GE.HIST.SQUASH (n : Nat) : Fld := ⟨GE.HIST n, 1, 1⟩
def GE.HIST.OVERRUN (n : Nat) : Fld := ⟨GE.HIST n, 0, 1⟩
/-- SAP.LOAD: port load (R291). -/
def SAP.LOAD : Nat := 0xF0000
def SAP.LOAD.OUTLOAD : Fld := ⟨SAP.LOAD, 16, 11⟩
def SAP.LOAD.INLOAD : Fld := ⟨SAP.LOAD, 0, 11⟩
/-- SAP.CGk_CFG: clock group configuration (R291). -/
def SAP.CG_CFG (k : Nat) : Nat := 0xF0100 + k * 0x40
def SAP.CG_CFG.EN (k : Nat) : Fld := ⟨SAP.CG_CFG k, 31, 1⟩
def SAP.CG_CFG.MODE (k : Nat) : Fld := ⟨SAP.CG_CFG k, 28, 3⟩
def SAP.CG_CFG.FMT (k : Nat) : Fld := ⟨SAP.CG_CFG k, 26, 2⟩
def SAP.CG_CFG.MULT (k : Nat) : Fld := ⟨SAP.CG_CFG k, 24, 2⟩
def SAP.CG_CFG.SLOTW (k : Nat) : Fld := ⟨SAP.CG_CFG k, 22, 2⟩
def SAP.CG_CFG.SLOTS (k : Nat) : Fld := ⟨SAP.CG_CFG k, 16, 6⟩
def SAP.CG_CFG.BCLKPOL (k : Nat) : Fld := ⟨SAP.CG_CFG k, 4, 1⟩
def SAP.CG_CFG.FSPOL (k : Nat) : Fld := ⟨SAP.CG_CFG k, 3, 1⟩
def SAP.CG_CFG.FSW (k : Nat) : Fld := ⟨SAP.CG_CFG k, 2, 1⟩
def SAP.CG_CFG.DELAY (k : Nat) : Fld := ⟨SAP.CG_CFG k, 1, 1⟩
/-- SAP.CGk_SLIP: elastic store thresholds (R291). -/
def SAP.CG_SLIP (k : Nat) : Nat := 0xF0104 + k * 0x40
def SAP.CG_SLIP.HI (k : Nat) : Fld := ⟨SAP.CG_SLIP k, 8, 6⟩
def SAP.CG_SLIP.LO (k : Nat) : Fld := ⟨SAP.CG_SLIP k, 0, 6⟩
/-- SAP.CGk_STAT: clock group status (R291). -/
def SAP.CG_STAT (k : Nat) : Nat := 0xF0108 + k * 0x40
def SAP.CG_STAT.STATE (k : Nat) : Fld := ⟨SAP.CG_STAT k, 30, 2⟩
def SAP.CG_STAT.FILLIN (k : Nat) : Fld := ⟨SAP.CG_STAT k, 16, 7⟩
def SAP.CG_STAT.FILLOUT (k : Nat) : Fld := ⟨SAP.CG_STAT k, 8, 7⟩
/-- SAP.CGk_OFS: measured rate offset (R291). -/
def SAP.CG_OFS (k : Nat) : Nat := 0xF010C + k * 0x40
def SAP.CG_OFS.val (k : Nat) : Fld := ⟨SAP.CG_OFS k, 0, 32⟩
/-- SAP.CGk_DROPIN: input drops (R291). -/
def SAP.CG_DROPIN (k : Nat) : Nat := 0xF0110 + k * 0x40
def SAP.CG_DROPIN.val (k : Nat) : Fld := ⟨SAP.CG_DROPIN k, 0, 32⟩
/-- SAP.CGk_REPIN: input repeats (R291). -/
def SAP.CG_REPIN (k : Nat) : Nat := 0xF0114 + k * 0x40
def SAP.CG_REPIN.val (k : Nat) : Fld := ⟨SAP.CG_REPIN k, 0, 32⟩
/-- SAP.CGk_DROPOUT: output drops (R291). -/
def SAP.CG_DROPOUT (k : Nat) : Nat := 0xF0118 + k * 0x40
def SAP.CG_DROPOUT.val (k : Nat) : Fld := ⟨SAP.CG_DROPOUT k, 0, 32⟩
/-- SAP.CGk_REPOUT: output repeats (R291). -/
def SAP.CG_REPOUT (k : Nat) : Nat := 0xF011C + k * 0x40
def SAP.CG_REPOUT.val (k : Nat) : Fld := ⟨SAP.CG_REPOUT k, 0, 32⟩
/-- SAP.CGk_FRAMEERR: frame errors (R291). -/
def SAP.CG_FRAMEERR (k : Nat) : Nat := 0xF0120 + k * 0x40
def SAP.CG_FRAMEERR.val (k : Nat) : Fld := ⟨SAP.CG_FRAMEERR k, 0, 32⟩
/-- SAP.CGk_HIST: clock group history (R291). -/
def SAP.CG_HIST (k : Nat) : Nat := 0xF0124 + k * 0x40
def SAP.CG_HIST.SEQ (k : Nat) : Fld := ⟨SAP.CG_HIST k, 24, 8⟩
def SAP.CG_HIST.LOCKED (k : Nat) : Fld := ⟨SAP.CG_HIST k, 4, 1⟩
def SAP.CG_HIST.SYNC_LOST (k : Nat) : Fld := ⟨SAP.CG_HIST k, 3, 1⟩
def SAP.CG_HIST.FRAMEERR (k : Nat) : Fld := ⟨SAP.CG_HIST k, 2, 1⟩
def SAP.CG_HIST.LOST (k : Nat) : Fld := ⟨SAP.CG_HIST k, 1, 1⟩
def SAP.CG_HIST.SLIP (k : Nat) : Fld := ⟨SAP.CG_HIST k, 0, 1⟩
/-- SAP.Pn_CFG: port configuration (R291). -/
def SAP.P_CFG (n : Nat) : Nat := 0xF0400 + n * 0x10
def SAP.P_CFG.IN_EN (n : Nat) : Fld := ⟨SAP.P_CFG n, 31, 1⟩
def SAP.P_CFG.OUT_EN (n : Nat) : Fld := ⟨SAP.P_CFG n, 30, 1⟩
def SAP.P_CFG.DITH (n : Nat) : Fld := ⟨SAP.P_CFG n, 29, 1⟩
def SAP.P_CFG.GROUP (n : Nat) : Fld := ⟨SAP.P_CFG n, 24, 3⟩
/-- SAP.Pn_BUF: port buffers (R291). -/
def SAP.P_BUF (n : Nat) : Nat := 0xF0404 + n * 0x10
def SAP.P_BUF.INBUF (n : Nat) : Fld := ⟨SAP.P_BUF n, 16, 13⟩
def SAP.P_BUF.OUTBUF (n : Nat) : Fld := ⟨SAP.P_BUF n, 0, 13⟩
/-- SAP.Pn_ASRC: ASRC assignment (R291). -/
def SAP.P_ASRC (n : Nat) : Nat := 0xF0408 + n * 0x10
def SAP.P_ASRC.OUTGRP (n : Nat) : Fld := ⟨SAP.P_ASRC n, 8, 4⟩
def SAP.P_ASRC.INGRP (n : Nat) : Fld := ⟨SAP.P_ASRC n, 0, 4⟩
/-- AES.RXn_CFG: receiver configuration (R315/R316). -/
def AES.RX_CFG (n : Nat) : Nat := 0x100100 + n * 0x80
def AES.RX_CFG.EN (n : Nat) : Fld := ⟨AES.RX_CFG n, 31, 1⟩
def AES.RX_CFG.DATA_EN (n : Nat) : Fld := ⟨AES.RX_CFG n, 30, 1⟩
def AES.RX_CFG.MODE (n : Nat) : Fld := ⟨AES.RX_CFG n, 28, 2⟩
def AES.RX_CFG.MULT (n : Nat) : Fld := ⟨AES.RX_CFG n, 26, 2⟩
def AES.RX_CFG.VPOL (n : Nat) : Fld := ⟨AES.RX_CFG n, 25, 1⟩
def AES.RX_CFG.ASRCGRP (n : Nat) : Fld := ⟨AES.RX_CFG n, 16, 4⟩
def AES.RX_CFG.INBUF (n : Nat) : Fld := ⟨AES.RX_CFG n, 0, 13⟩
/-- AES.RXn_SLIP: input store thresholds (R315/R316). -/
def AES.RX_SLIP (n : Nat) : Nat := 0x100104 + n * 0x80
def AES.RX_SLIP.HI (n : Nat) : Fld := ⟨AES.RX_SLIP n, 8, 6⟩
def AES.RX_SLIP.LO (n : Nat) : Fld := ⟨AES.RX_SLIP n, 0, 6⟩
/-- AES.RXn_STAT: receiver status (R315/R316). -/
def AES.RX_STAT (n : Nat) : Nat := 0x100108 + n * 0x80
def AES.RX_STAT.STATE (n : Nat) : Fld := ⟨AES.RX_STAT n, 30, 2⟩
def AES.RX_STAT.PRO (n : Nat) : Fld := ⟨AES.RX_STAT n, 29, 1⟩
def AES.RX_STAT.NONAUDIO (n : Nat) : Fld := ⟨AES.RX_STAT n, 28, 1⟩
def AES.RX_STAT.GRADE (n : Nat) : Fld := ⟨AES.RX_STAT n, 26, 2⟩
def AES.RX_STAT.FILL (n : Nat) : Fld := ⟨AES.RX_STAT n, 16, 7⟩
def AES.RX_STAT.BLKPH (n : Nat) : Fld := ⟨AES.RX_STAT n, 0, 8⟩
/-- AES.RXn_OFS: measured rate offset (R315/R316). -/
def AES.RX_OFS (n : Nat) : Nat := 0x10010C + n * 0x80
def AES.RX_OFS.val (n : Nat) : Fld := ⟨AES.RX_OFS n, 0, 32⟩
/-- AES.RXn_ERR: error counts (R315/R316). -/
def AES.RX_ERR (n : Nat) : Nat := 0x100110 + n * 0x80
def AES.RX_ERR.PARERR (n : Nat) : Fld := ⟨AES.RX_ERR n, 16, 16⟩
def AES.RX_ERR.CRCERR (n : Nat) : Fld := ⟨AES.RX_ERR n, 0, 16⟩
/-- AES.RXn_SLIPCNT: slips (R315/R316). -/
def AES.RX_SLIPCNT (n : Nat) : Nat := 0x100114 + n * 0x80
def AES.RX_SLIPCNT.DROP (n : Nat) : Fld := ⟨AES.RX_SLIPCNT n, 16, 16⟩
def AES.RX_SLIPCNT.REP (n : Nat) : Fld := ⟨AES.RX_SLIPCNT n, 0, 16⟩
/-- AES.RXn_VCNT: validity count (R315/R316). -/
def AES.RX_VCNT (n : Nat) : Nat := 0x100118 + n * 0x80
def AES.RX_VCNT.val (n : Nat) : Fld := ⟨AES.RX_VCNT n, 0, 32⟩
/-- AES.RXn_HIST: receiver history (R315/R316). -/
def AES.RX_HIST (n : Nat) : Nat := 0x10011C + n * 0x80
def AES.RX_HIST.SEQ (n : Nat) : Fld := ⟨AES.RX_HIST n, 24, 8⟩
def AES.RX_HIST.CSCHG (n : Nat) : Fld := ⟨AES.RX_HIST n, 6, 1⟩
def AES.RX_HIST.CRCERR (n : Nat) : Fld := ⟨AES.RX_HIST n, 5, 1⟩
def AES.RX_HIST.PARERR (n : Nat) : Fld := ⟨AES.RX_HIST n, 4, 1⟩
def AES.RX_HIST.SYNC_LOST (n : Nat) : Fld := ⟨AES.RX_HIST n, 3, 1⟩
def AES.RX_HIST.SLIP (n : Nat) : Fld := ⟨AES.RX_HIST n, 2, 1⟩
def AES.RX_HIST.LOST (n : Nat) : Fld := ⟨AES.RX_HIST n, 1, 1⟩
def AES.RX_HIST.LOCKED (n : Nat) : Fld := ⟨AES.RX_HIST n, 0, 1⟩
/-- AES.RXn_CSAk (R315/R316). -/
def AES.RX_CSA (n : Nat) (k : Nat) : Nat := 0x100140 + n * 0x80 + k * 0x4
def AES.RX_CSA.val (n : Nat) (k : Nat) : Fld := ⟨AES.RX_CSA n k, 0, 32⟩
/-- AES.RXn_CSBk (R315/R316). -/
def AES.RX_CSB (n : Nat) (k : Nat) : Nat := 0x100160 + n * 0x80 + k * 0x4
def AES.RX_CSB.val (n : Nat) (k : Nat) : Fld := ⟨AES.RX_CSB n k, 0, 32⟩
/-- AES.TXn_CFG: transmitter configuration (R315/R316). -/
def AES.TX_CFG (n : Nat) : Nat := 0x100500 + n * 0x40
def AES.TX_CFG.EN (n : Nat) : Fld := ⟨AES.TX_CFG n, 31, 1⟩
def AES.TX_CFG.CSSRC (n : Nat) : Fld := ⟨AES.TX_CFG n, 30, 1⟩
def AES.TX_CFG.DITH (n : Nat) : Fld := ⟨AES.TX_CFG n, 29, 1⟩
def AES.TX_CFG.MULT (n : Nat) : Fld := ⟨AES.TX_CFG n, 26, 2⟩
def AES.TX_CFG.OUTBUF (n : Nat) : Fld := ⟨AES.TX_CFG n, 0, 13⟩
/-- AES.TXn_CSk: transmit channel status (R315/R316). -/
def AES.TX_CS (n : Nat) (k : Nat) : Nat := 0x100504 + n * 0x40 + k * 0x4
def AES.TX_CS.val (n : Nat) (k : Nat) : Fld := ⟨AES.TX_CS n k, 0, 32⟩
/-- AES.TXn_BLKERR: block errors (R315/R316). -/
def AES.TX_BLKERR (n : Nat) : Nat := 0x10051C + n * 0x40
def AES.TX_BLKERR.val (n : Nat) : Fld := ⟨AES.TX_BLKERR n, 0, 32⟩
/-- AES.MDp_CFG: MADI configuration (R315/R316). -/
def AES.MD_CFG (p : Nat) : Nat := 0x100800 + p * 0x80
def AES.MD_CFG.IN_EN (p : Nat) : Fld := ⟨AES.MD_CFG p, 31, 1⟩
def AES.MD_CFG.OUT_EN (p : Nat) : Fld := ⟨AES.MD_CFG p, 30, 1⟩
def AES.MD_CFG.MODE (p : Nat) : Fld := ⟨AES.MD_CFG p, 28, 2⟩
def AES.MD_CFG.CHMODE (p : Nat) : Fld := ⟨AES.MD_CFG p, 26, 2⟩
def AES.MD_CFG.VPOL (p : Nat) : Fld := ⟨AES.MD_CFG p, 25, 1⟩
def AES.MD_CFG.DITH (p : Nat) : Fld := ⟨AES.MD_CFG p, 24, 1⟩
def AES.MD_CFG.TXLBL (p : Nat) : Fld := ⟨AES.MD_CFG p, 23, 1⟩
def AES.MD_CFG.CSSEL (p : Nat) : Fld := ⟨AES.MD_CFG p, 16, 6⟩
def AES.MD_CFG.ASRCGRP (p : Nat) : Fld := ⟨AES.MD_CFG p, 8, 4⟩
/-- AES.MDp_BUF: MADI buffers (R315/R316). -/
def AES.MD_BUF (p : Nat) : Nat := 0x100804 + p * 0x80
def AES.MD_BUF.INBUF (p : Nat) : Fld := ⟨AES.MD_BUF p, 16, 13⟩
def AES.MD_BUF.OUTBUF (p : Nat) : Fld := ⟨AES.MD_BUF p, 0, 13⟩
/-- AES.MDp_SLIP: MADI input store thresholds (R315/R316). -/
def AES.MD_SLIP (p : Nat) : Nat := 0x100808 + p * 0x80
def AES.MD_SLIP.HI (p : Nat) : Fld := ⟨AES.MD_SLIP p, 8, 6⟩
def AES.MD_SLIP.LO (p : Nat) : Fld := ⟨AES.MD_SLIP p, 0, 6⟩
/-- AES.MDp_STAT: MADI status (R315/R316). -/
def AES.MD_STAT (p : Nat) : Nat := 0x10080C + p * 0x80
def AES.MD_STAT.STATE (p : Nat) : Fld := ⟨AES.MD_STAT p, 30, 2⟩
def AES.MD_STAT.FILL (p : Nat) : Fld := ⟨AES.MD_STAT p, 16, 7⟩
def AES.MD_STAT.BLKPH (p : Nat) : Fld := ⟨AES.MD_STAT p, 0, 8⟩
/-- AES.MDp_ERR: MADI error counts (R315/R316). -/
def AES.MD_ERR (p : Nat) : Nat := 0x100810 + p * 0x80
def AES.MD_ERR.CODEERR (p : Nat) : Fld := ⟨AES.MD_ERR p, 16, 16⟩
def AES.MD_ERR.PARERR (p : Nat) : Fld := ⟨AES.MD_ERR p, 0, 16⟩
/-- AES.MDp_SLIPCNT: MADI slips (R315/R316). -/
def AES.MD_SLIPCNT (p : Nat) : Nat := 0x100814 + p * 0x80
def AES.MD_SLIPCNT.DROP (p : Nat) : Fld := ⟨AES.MD_SLIPCNT p, 16, 16⟩
def AES.MD_SLIPCNT.REP (p : Nat) : Fld := ⟨AES.MD_SLIPCNT p, 0, 16⟩
/-- AES.MDp_HIST: MADI history (R315/R316). -/
def AES.MD_HIST (p : Nat) : Nat := 0x100818 + p * 0x80
def AES.MD_HIST.SEQ (p : Nat) : Fld := ⟨AES.MD_HIST p, 24, 8⟩
def AES.MD_HIST.STICKY (p : Nat) : Fld := ⟨AES.MD_HIST p, 0, 7⟩
/-- AES.MDp_INACTIVE: inactive channels (R315/R316). -/
def AES.MD_INACTIVE (p : Nat) : Nat := 0x10081C + p * 0x80
def AES.MD_INACTIVE.val (p : Nat) : Fld := ⟨AES.MD_INACTIVE p, 0, 32⟩
/-- AES.MDp_CSk: MADI captured status (R315/R316). -/
def AES.MD_CS (p : Nat) (k : Nat) : Nat := 0x100820 + p * 0x80 + k * 0x4
def AES.MD_CS.val (p : Nat) (k : Nat) : Fld := ⟨AES.MD_CS p k, 0, 32⟩
/-- ASRC.Gk_STAT: group status (R315/R316). -/
def ASRC.G_STAT (k : Nat) : Nat := 0x110100 + k * 0x10
def ASRC.G_STAT.STATE (k : Nat) : Fld := ⟨ASRC.G_STAT k, 30, 2⟩
def ASRC.G_STAT.OWNER (k : Nat) : Fld := ⟨ASRC.G_STAT k, 27, 3⟩
def ASRC.G_STAT.RELOCK (k : Nat) : Fld := ⟨ASRC.G_STAT k, 8, 8⟩
def ASRC.G_STAT.INDEX (k : Nat) : Fld := ⟨ASRC.G_STAT k, 0, 5⟩
/-- ASRC.Gk_RATIO: conversion ratio (R315/R316). -/
def ASRC.G_RATIO (k : Nat) : Nat := 0x110104 + k * 0x10
def ASRC.G_RATIO.val (k : Nat) : Fld := ⟨ASRC.G_RATIO k, 0, 32⟩
/-- ASRC.Gk_HIST: group history (R315/R316). -/
def ASRC.G_HIST (k : Nat) : Nat := 0x110108 + k * 0x10
def ASRC.G_HIST.SEQ (k : Nat) : Fld := ⟨ASRC.G_HIST k, 24, 8⟩
def ASRC.G_HIST.RELOCK (k : Nat) : Fld := ⟨ASRC.G_HIST k, 2, 1⟩
def ASRC.G_HIST.LOST (k : Nat) : Fld := ⟨ASRC.G_HIST k, 1, 1⟩
def ASRC.G_HIST.LOCKED (k : Nat) : Fld := ⟨ASRC.G_HIST k, 0, 1⟩
/-- DRAM.CFG: interface configuration (R449). -/
def DRAM.CFG : Nat := 0x120000
def DRAM.CFG.EN : Fld := ⟨DRAM.CFG, 31, 1⟩
def DRAM.CFG.ECC : Fld := ⟨DRAM.CFG, 30, 1⟩
def DRAM.CFG.RATE : Fld := ⟨DRAM.CFG, 4, 2⟩
def DRAM.CFG.SIZE : Fld := ⟨DRAM.CFG, 0, 3⟩
/-- DRAM.STAT (R449). -/
def DRAM.STAT : Nat := 0x120004
def DRAM.STAT.TRAINED : Fld := ⟨DRAM.STAT, 31, 1⟩
def DRAM.STAT.USABLE : Fld := ⟨DRAM.STAT, 0, 23⟩
/-- DRAM.TDRAM (R449). -/
def DRAM.TDRAM : Nat := 0x120008
def DRAM.TDRAM.val : Fld := ⟨DRAM.TDRAM, 0, 16⟩
/-- DRAM.LOAD (R449). -/
def DRAM.LOAD : Nat := 0x12000C
def DRAM.LOAD.MBS : Fld := ⟨DRAM.LOAD, 16, 16⟩
def DRAM.LOAD.PERMILLE : Fld := ⟨DRAM.LOAD, 0, 10⟩
/-- DRAM.HOSTRESV (R449). -/
def DRAM.HOSTRESV : Nat := 0x120010
def DRAM.HOSTRESV.val : Fld := ⟨DRAM.HOSTRESV, 0, 16⟩
/-- DRAM.RESVn: engine reservation (R449). -/
def DRAM.RESV (n : Nat) : Nat := 0x120040 + n * 0x4
def DRAM.RESV.UNITS (n : Nat) : Fld := ⟨DRAM.RESV n, 0, 16⟩
/-- DRAM.ECCCORR (R449). -/
def DRAM.ECCCORR : Nat := 0x120080
def DRAM.ECCCORR.val : Fld := ⟨DRAM.ECCCORR, 0, 32⟩
/-- DRAM.ECCUNCORR (R449). -/
def DRAM.ECCUNCORR : Nat := 0x120084
def DRAM.ECCUNCORR.val : Fld := ⟨DRAM.ECCUNCORR, 0, 32⟩
/-- DRAM.LATEc (R449). -/
def DRAM.LATE (c : Nat) : Nat := 0x120088 + c * 0x4
def DRAM.LATE.val (c : Nat) : Fld := ⟨DRAM.LATE c, 0, 32⟩
/-- DRAM.HIST (R449). -/
def DRAM.HIST : Nat := 0x1200A0
def DRAM.HIST.SEQ : Fld := ⟨DRAM.HIST, 24, 8⟩
def DRAM.HIST.LATE : Fld := ⟨DRAM.HIST, 2, 1⟩
def DRAM.HIST.UNCORR : Fld := ⟨DRAM.HIST, 1, 1⟩
def DRAM.HIST.TRAINED : Fld := ⟨DRAM.HIST, 0, 1⟩
/-- CUE.CFG (R449). -/
def CUE.CFG : Nat := 0x130000
def CUE.CFG.EN : Fld := ⟨CUE.CFG, 31, 1⟩
def CUE.CFG.MULT : Fld := ⟨CUE.CFG, 25, 2⟩
def CUE.CFG.OUTBUF : Fld := ⟨CUE.CFG, 0, 13⟩
/-- CUE.VCMD (R449). -/
def CUE.VCMD : Nat := 0x130004
def CUE.VCMD.GO : Fld := ⟨CUE.VCMD, 31, 1⟩
def CUE.VCMD.STOP : Fld := ⟨CUE.VCMD, 30, 1⟩
def CUE.VCMD.VOICE : Fld := ⟨CUE.VCMD, 0, 8⟩
/-- CUE.CAPCTL (R449). -/
def CUE.CAPCTL : Nat := 0x130010
def CUE.CAPCTL.EN : Fld := ⟨CUE.CAPCTL, 31, 1⟩
def CUE.CAPCTL.MODE : Fld := ⟨CUE.CAPCTL, 30, 1⟩
def CUE.CAPCTL.MULT : Fld := ⟨CUE.CAPCTL, 25, 2⟩
def CUE.CAPCTL.STOP : Fld := ⟨CUE.CAPCTL, 1, 1⟩
def CUE.CAPCTL.GO : Fld := ⟨CUE.CAPCTL, 0, 1⟩
/-- CUE.CAPBASE (R449). -/
def CUE.CAPBASE : Nat := 0x130014
def CUE.CAPBASE.val : Fld := ⟨CUE.CAPBASE, 0, 22⟩
/-- CUE.CAPLEN (R449). -/
def CUE.CAPLEN : Nat := 0x130018
def CUE.CAPLEN.val : Fld := ⟨CUE.CAPLEN, 0, 23⟩
/-- CUE.CAPSTAT (R449). -/
def CUE.CAPSTAT : Nat := 0x130040
def CUE.CAPSTAT.RUNNING : Fld := ⟨CUE.CAPSTAT, 31, 1⟩
def CUE.CAPSTAT.FULL : Fld := ⟨CUE.CAPSTAT, 30, 1⟩
/-- CUE.CAPWRPTR (R449). -/
def CUE.CAPWRPTR : Nat := 0x130044
def CUE.CAPWRPTR.val : Fld := ⟨CUE.CAPWRPTR, 0, 32⟩
/-- CUE.CAPRECS (R449). -/
def CUE.CAPRECS : Nat := 0x130048
def CUE.CAPRECS.val : Fld := ⟨CUE.CAPRECS, 0, 32⟩
/-- CUE.CAPDROP (R449). -/
def CUE.CAPDROP : Nat := 0x13004C
def CUE.CAPDROP.val : Fld := ⟨CUE.CAPDROP, 0, 32⟩
/-- CUE.HIST (R449). -/
def CUE.HIST : Nat := 0x130050
def CUE.HIST.SEQ : Fld := ⟨CUE.HIST, 24, 8⟩
def CUE.HIST.VOICEDONE : Fld := ⟨CUE.HIST, 2, 1⟩
def CUE.HIST.FULL : Fld := ⟨CUE.HIST, 1, 1⟩
def CUE.HIST.GAP : Fld := ⟨CUE.HIST, 0, 1⟩
/-- CUE.CAPSRCi: capture source (R449). -/
def CUE.CAPSRC (i : Nat) : Nat := 0x130060 + i * 0x8
def CUE.CAPSRC.EN (i : Nat) : Fld := ⟨CUE.CAPSRC i, 31, 1⟩
def CUE.CAPSRC.FIRST (i : Nat) : Fld := ⟨CUE.CAPSRC i, 13, 13⟩
def CUE.CAPSRC.BUFID (i : Nat) : Fld := ⟨CUE.CAPSRC i, 0, 13⟩
/-- CUE.CAPNCHi: capture source width (R449). -/
def CUE.CAPNCH (i : Nat) : Nat := 0x130064 + i * 0x8
def CUE.CAPNCH.NCH (i : Nat) : Fld := ⟨CUE.CAPNCH i, 0, 10⟩
/-- PAIR.CFG: pair configuration (R477). -/
def PAIR.CFG : Nat := 0x140000
def PAIR.CFG.EN : Fld := ⟨PAIR.CFG, 31, 1⟩
def PAIR.CFG.SIDE : Fld := ⟨PAIR.CFG, 30, 1⟩
def PAIR.CFG.SHEP_MODE : Fld := ⟨PAIR.CFG, 28, 2⟩
def PAIR.CFG.HOSTROLE : Fld := ⟨PAIR.CFG, 27, 1⟩
def PAIR.CFG.LEAD : Fld := ⟨PAIR.CFG, 16, 8⟩
/-- PAIR.TAKEOVER_RISE: takeover rise (R477). -/
def PAIR.TAKEOVER_RISE : Nat := 0x140004
def PAIR.TAKEOVER_RISE.val : Fld := ⟨PAIR.TAKEOVER_RISE, 0, 16⟩
/-- PAIR.WITNESS: witness port (R477). -/
def PAIR.WITNESS : Nat := 0x140008
def PAIR.WITNESS.PORTSEL : Fld := ⟨PAIR.WITNESS, 16, 2⟩
def PAIR.WITNESS.WITPORT : Fld := ⟨PAIR.WITNESS, 0, 16⟩
/-- PAIR.PAIRID: pair identifier (R477). -/
def PAIR.PAIRID : Nat := 0x14000C
def PAIR.PAIRID.val : Fld := ⟨PAIR.PAIRID, 0, 32⟩
/-- PAIR.CONVERGE: convergence length (R477). -/
def PAIR.CONVERGE : Nat := 0x140010
def PAIR.CONVERGE.TICKS : Fld := ⟨PAIR.CONVERGE, 0, 24⟩
/-- PAIR.STAT: pair status (R477). -/
def PAIR.STAT : Nat := 0x140040
def PAIR.STAT.ROLE : Fld := ⟨PAIR.STAT, 30, 2⟩
def PAIR.STAT.PARTNER : Fld := ⟨PAIR.STAT, 27, 3⟩
def PAIR.STAT.VOTE : Fld := ⟨PAIR.STAT, 25, 2⟩
def PAIR.STAT.DIVERGED : Fld := ⟨PAIR.STAT, 24, 1⟩
def PAIR.STAT.TXB : Fld := ⟨PAIR.STAT, 23, 1⟩
/-- PAIR.SKEW (R477). -/
def PAIR.SKEW : Nat := 0x140044
def PAIR.SKEW.val : Fld := ⟨PAIR.SKEW, 0, 32⟩
/-- PAIR.RTT (R477). -/
def PAIR.RTT : Nat := 0x140048
def PAIR.RTT.val : Fld := ⟨PAIR.RTT, 0, 32⟩
/-- PAIR.MIRACK (R477). -/
def PAIR.MIRACK : Nat := 0x14004C
def PAIR.MIRACK.val : Fld := ⟨PAIR.MIRACK, 0, 32⟩
/-- PAIR.VOTESEQLO (R477). -/
def PAIR.VOTESEQLO : Nat := 0x140050
def PAIR.VOTESEQLO.val : Fld := ⟨PAIR.VOTESEQLO, 0, 32⟩
/-- PAIR.VOTESEQHI (R477). -/
def PAIR.VOTESEQHI : Nat := 0x140054
def PAIR.VOTESEQHI.val : Fld := ⟨PAIR.VOTESEQHI, 0, 32⟩
/-- PAIR.BARKMISS (R477). -/
def PAIR.BARKMISS : Nat := 0x140060
def PAIR.BARKMISS.val : Fld := ⟨PAIR.BARKMISS, 0, 32⟩
/-- PAIR.DIGESTERR (R477). -/
def PAIR.DIGESTERR : Nat := 0x140064
def PAIR.DIGESTERR.val : Fld := ⟨PAIR.DIGESTERR, 0, 32⟩
/-- PAIR.TAKEOVERS (R477). -/
def PAIR.TAKEOVERS : Nat := 0x140068
def PAIR.TAKEOVERS.val : Fld := ⟨PAIR.TAKEOVERS, 0, 32⟩
/-- PAIR.WITBAD (R477). -/
def PAIR.WITBAD : Nat := 0x14006C
def PAIR.WITBAD.val : Fld := ⟨PAIR.WITBAD, 0, 32⟩
/-- PAIR.BADTAG (R477). -/
def PAIR.BADTAG : Nat := 0x140070
def PAIR.BADTAG.val : Fld := ⟨PAIR.BADTAG, 0, 32⟩
/-- PAIR.HIST: pair history (R477). -/
def PAIR.HIST : Nat := 0x140080
def PAIR.HIST.SEQ : Fld := ⟨PAIR.HIST, 24, 8⟩
def PAIR.HIST.SYNCED : Fld := ⟨PAIR.HIST, 6, 1⟩
def PAIR.HIST.WITBAD : Fld := ⟨PAIR.HIST, 5, 1⟩
def PAIR.HIST.MISALIGNED : Fld := ⟨PAIR.HIST, 4, 1⟩
def PAIR.HIST.STEPDOWN : Fld := ⟨PAIR.HIST, 3, 1⟩
def PAIR.HIST.TAKEOVER : Fld := ⟨PAIR.HIST, 2, 1⟩
def PAIR.HIST.DIVERGED : Fld := ⟨PAIR.HIST, 1, 1⟩
def PAIR.HIST.LOST : Fld := ⟨PAIR.HIST, 0, 1⟩
/-- MON.RAILk: rail k (R595). -/
def MON.RAIL (k : Nat) : Nat := 0x150000 + k * 0x4
def MON.RAIL.LOW (k : Nat) : Fld := ⟨MON.RAIL k, 31, 1⟩
def MON.RAIL.BANK33 (k : Nat) : Fld := ⟨MON.RAIL k, 30, 1⟩
def MON.RAIL.MV (k : Nat) : Fld := ⟨MON.RAIL k, 0, 16⟩
/-- MON.TEMP: junction temperature (R595). -/
def MON.TEMP : Nat := 0x150040
def MON.TEMP.TMAX : Fld := ⟨MON.TEMP, 16, 16⟩
def MON.TEMP.TJ : Fld := ⟨MON.TEMP, 0, 16⟩
/-- MON.TWARN: temperature warning (R595). -/
def MON.TWARN : Nat := 0x150044
def MON.TWARN.WARN : Fld := ⟨MON.TWARN, 0, 16⟩
/-- MON.WEAR: wear monitor (R595). -/
def MON.WEAR : Nat := 0x150048
def MON.WEAR.DEGR : Fld := ⟨MON.WEAR, 0, 16⟩
/-- MON.HIST: monitor history (R595). -/
def MON.HIST : Nat := 0x15004C
def MON.HIST.SEQ : Fld := ⟨MON.HIST, 24, 8⟩
def MON.HIST.WEAR : Fld := ⟨MON.HIST, 3, 1⟩
def MON.HIST.TWARN : Fld := ⟨MON.HIST, 2, 1⟩
def MON.HIST.HOLDUP : Fld := ⟨MON.HIST, 1, 1⟩
def MON.HIST.SUPPLY_LOW : Fld := ⟨MON.HIST, 0, 1⟩
/-- KNL.Kn_CFG: kennel configuration (R244). -/
def KNL.K_CFG (n : Nat) : Nat := 0x160100 + n * 0x40
def KNL.K_CFG.CUT (n : Nat) : Fld := ⟨KNL.K_CFG n, 31, 1⟩
def KNL.K_CFG.BASE (n : Nat) : Fld := ⟨KNL.K_CFG n, 16, 11⟩
def KNL.K_CFG.SIZE (n : Nat) : Fld := ⟨KNL.K_CFG n, 0, 11⟩
/-- KNL.Kn_STAT: kennel status (R244). -/
def KNL.K_STAT (n : Nat) : Nat := 0x160104 + n * 0x40
def KNL.K_STAT.FULL (n : Nat) : Fld := ⟨KNL.K_STAT n, 31, 1⟩
def KNL.K_STAT.LIVE (n : Nat) : Fld := ⟨KNL.K_STAT n, 30, 1⟩
def KNL.K_STAT.LEVEL (n : Nat) : Fld := ⟨KNL.K_STAT n, 0, 20⟩
/-- KNL.Kn_PKTS: committed packets (R244). -/
def KNL.K_PKTS (n : Nat) : Nat := 0x160108 + n * 0x40
def KNL.K_PKTS.val (n : Nat) : Fld := ⟨KNL.K_PKTS n, 0, 20⟩
/-- KNL.Kn_WM: watermark (R244). -/
def KNL.K_WM (n : Nat) : Nat := 0x16010C + n * 0x40
def KNL.K_WM.MARK (n : Nat) : Fld := ⟨KNL.K_WM n, 0, 20⟩
/-- KNL.Kn_HIST: kennel history (R244). -/
def KNL.K_HIST (n : Nat) : Nat := 0x160110 + n * 0x40
def KNL.K_HIST.SEQ (n : Nat) : Fld := ⟨KNL.K_HIST n, 24, 8⟩
def KNL.K_HIST.RESET (n : Nat) : Fld := ⟨KNL.K_HIST n, 4, 1⟩
def KNL.K_HIST.UNCORR (n : Nat) : Fld := ⟨KNL.K_HIST n, 3, 1⟩
def KNL.K_HIST.CORR (n : Nat) : Fld := ⟨KNL.K_HIST n, 2, 1⟩
def KNL.K_HIST.CROSSED (n : Nat) : Fld := ⟨KNL.K_HIST n, 1, 1⟩
def KNL.K_HIST.OVERRUN (n : Nat) : Fld := ⟨KNL.K_HIST n, 0, 1⟩
/-- KNL.Kn_CROSSCNT: rising crossings (R244). -/
def KNL.K_CROSSCNT (n : Nat) : Nat := 0x160114 + n * 0x40
def KNL.K_CROSSCNT.val (n : Nat) : Fld := ⟨KNL.K_CROSSCNT n, 0, 32⟩
/-- KNL.Kn_CECNT: corrected errors (R244). -/
def KNL.K_CECNT (n : Nat) : Nat := 0x160118 + n * 0x40
def KNL.K_CECNT.val (n : Nat) : Fld := ⟨KNL.K_CECNT n, 0, 32⟩
/-- KNL.Kn_UECNT: uncorrectable errors (R244). -/
def KNL.K_UECNT (n : Nat) : Nat := 0x16011C + n * 0x40
def KNL.K_UECNT.val (n : Nat) : Fld := ⟨KNL.K_UECNT n, 0, 32⟩
/-- KNL.Kn_REFUSED: refused packets (R244). -/
def KNL.K_REFUSED (n : Nat) : Nat := 0x160120 + n * 0x40
def KNL.K_REFUSED.val (n : Nat) : Fld := ⟨KNL.K_REFUSED n, 0, 32⟩
/-- KNL.Kn_RSTDROP: packets discarded by reset (R244). -/
def KNL.K_RSTDROP (n : Nat) : Nat := 0x160124 + n * 0x40
def KNL.K_RSTDROP.val (n : Nat) : Fld := ⟨KNL.K_RSTDROP n, 0, 32⟩
/-- KNL.Kn_RST: kennel reset (R244). -/
def KNL.K_RST (n : Nat) : Nat := 0x160128 + n * 0x40
def KNL.K_RST.val (n : Nat) : Fld := ⟨KNL.K_RST n, 0, 1⟩
/-- HRD.MUZCFG: muzzle ramps (R267). -/
def HRD.MUZCFG : Nat := 0x170000
def HRD.MUZCFG.FALL : Fld := ⟨HRD.MUZCFG, 16, 12⟩
def HRD.MUZCFG.RISE : Fld := ⟨HRD.MUZCFG, 0, 16⟩
/-- HRD.MUZHOLD: muzzle hold (R267). -/
def HRD.MUZHOLD : Nat := 0x170004
def HRD.MUZHOLD.HOLD : Fld := ⟨HRD.MUZHOLD, 0, 8⟩
/-- HRD.ZCTHR: zero-crossing threshold (R267). -/
def HRD.ZCTHR : Nat := 0x170008
def HRD.ZCTHR.THR : Fld := ⟨HRD.ZCTHR, 0, 24⟩
/-- HRD.ZCTIME: zero-crossing timeout (R267). -/
def HRD.ZCTIME : Nat := 0x17000C
def HRD.ZCTIME.TIMEOUT : Fld := ⟨HRD.ZCTIME, 0, 16⟩
/-- HRD.LANESEL: lane selector (R267). -/
def HRD.LANESEL : Nat := 0x170010
def HRD.LANESEL.BUFID : Fld := ⟨HRD.LANESEL, 13, 13⟩
def HRD.LANESEL.CH : Fld := ⟨HRD.LANESEL, 0, 13⟩
/-- HRD.LANESTAT: lane state (R267). -/
def HRD.LANESTAT : Nat := 0x170014
def HRD.LANESTAT.POS : Fld := ⟨HRD.LANESTAT, 16, 16⟩
def HRD.LANESTAT.HOLDCNT : Fld := ⟨HRD.LANESTAT, 8, 8⟩
def HRD.LANESTAT.STATE : Fld := ⟨HRD.LANESTAT, 0, 3⟩
/-- HRD.HIST: muzzle history (R267). -/
def HRD.HIST : Nat := 0x170018
def HRD.HIST.SEQ : Fld := ⟨HRD.HIST, 24, 8⟩
def HRD.HIST.HERD_LATE : Fld := ⟨HRD.HIST, 3, 1⟩
def HRD.HIST.ZC_TIMEOUT : Fld := ⟨HRD.HIST, 2, 1⟩
def HRD.HIST.RISE : Fld := ⟨HRD.HIST, 1, 1⟩
def HRD.HIST.FALL : Fld := ⟨HRD.HIST, 0, 1⟩
/-- HRD.Hk_CTL: herd control (R267). -/
def HRD.H_CTL (k : Nat) : Nat := 0x170100 + k * 0x20
def HRD.H_CTL.EN (k : Nat) : Fld := ⟨HRD.H_CTL k, 31, 1⟩
def HRD.H_CTL.FATE (k : Nat) : Fld := ⟨HRD.H_CTL k, 30, 1⟩
def HRD.H_CTL.LATE (k : Nat) : Fld := ⟨HRD.H_CTL k, 29, 1⟩
def HRD.H_CTL.SRC (k : Nat) : Fld := ⟨HRD.H_CTL k, 16, 3⟩
def HRD.H_CTL.PIN (k : Nat) : Fld := ⟨HRD.H_CTL k, 0, 2⟩
/-- HRD.Hk_AT: herd trigger value (R267). -/
def HRD.H_AT (k : Nat) : Nat := 0x170104 + k * 0x20
def HRD.H_AT.val (k : Nat) : Fld := ⟨HRD.H_AT k, 0, 32⟩
/-- HRD.Hk_CMD: herd command (R267). -/
def HRD.H_CMD (k : Nat) : Nat := 0x170108 + k * 0x20
def HRD.H_CMD.GO (k : Nat) : Fld := ⟨HRD.H_CMD k, 2, 1⟩
def HRD.H_CMD.STOP (k : Nat) : Fld := ⟨HRD.H_CMD k, 1, 1⟩
def HRD.H_CMD.ARM (k : Nat) : Fld := ⟨HRD.H_CMD k, 0, 1⟩
/-- HRD.Hk_STAT: herd state (R267). -/
def HRD.H_STAT (k : Nat) : Nat := 0x17010C + k * 0x20
def HRD.H_STAT.MEMBERS (k : Nat) : Fld := ⟨HRD.H_STAT k, 0, 10⟩
/-- HRD.Hk_START: start tick (R267). -/
def HRD.H_START (k : Nat) : Nat := 0x170110 + k * 0x20
def HRD.H_START.val (k : Nat) : Fld := ⟨HRD.H_START k, 0, 32⟩
/-- HRD.Hk_STATE: herd run state (R267). -/
def HRD.H_STATE (k : Nat) : Nat := 0x17011C + k * 0x20
def HRD.H_STATE.val (k : Nat) : Fld := ⟨HRD.H_STATE k, 0, 3⟩
/-- Word `w` of entry `i` of the FT table (R169). -/
def FT.word (i w : Nat) : Nat := 0x80000000 + i * 0x40 + w * 4
def FT.EN (i : Nat) : Fld := ⟨FT.word i 0, 31, 1⟩
def FT.DIR (i : Nat) : Fld := ⟨FT.word i 0, 30, 1⟩
def FT.FMT (i : Nat) : Fld := ⟨FT.word i 0, 27, 3⟩
def FT.MULT (i : Nat) : Fld := ⟨FT.word i 0, 25, 2⟩
def FT.DEEP (i : Nat) : Fld := ⟨FT.word i 0, 24, 1⟩
def FT.PATH (i : Nat) : Fld := ⟨FT.word i 0, 22, 2⟩
def FT.COMPARE (i : Nat) : Fld := ⟨FT.word i 0, 21, 1⟩
def FT.SSRCKEY (i : Nat) : Fld := ⟨FT.word i 0, 20, 1⟩
def FT.IPV6 (i : Nat) : Fld := ⟨FT.word i 0, 19, 1⟩
def FT.CHANNELS (i : Nat) : Fld := ⟨FT.word i 0, 12, 7⟩
def FT.PTIME (i : Nat) : Fld := ⟨FT.word i 0, 0, 8⟩
def FT.PTCHK (i : Nat) : Fld := ⟨FT.word i 1, 31, 1⟩
def FT.PT (i : Nat) : Fld := ⟨FT.word i 1, 24, 7⟩
def FT.UDPPORT (i : Nat) : Fld := ⟨FT.word i 1, 0, 16⟩
def FT.ADDR0 (i : Nat) : Fld := ⟨FT.word i 2, 0, 32⟩
def FT.ADDR1 (i : Nat) : Fld := ⟨FT.word i 3, 0, 32⟩
def FT.ADDR2 (i : Nat) : Fld := ⟨FT.word i 4, 0, 32⟩
def FT.ADDR3 (i : Nat) : Fld := ⟨FT.word i 5, 0, 32⟩
def FT.SSRC (i : Nat) : Fld := ⟨FT.word i 6, 0, 32⟩
def FT.BUFID (i : Nat) : Fld := ⟨FT.word i 7, 0, 13⟩
def FT.EARLY (i : Nat) : Fld := ⟨FT.word i 8, 0, 20⟩
def FT.LINKOFS (i : Nat) : Fld := ⟨FT.word i 9, 0, 24⟩
def FT.TIMEOUT (i : Nat) : Fld := ⟨FT.word i 10, 0, 16⟩
/-- Word `w` of entry `i` of the TX table (R199). -/
def TX.word (i w : Nat) : Nat := 0x80000000 + i * 0x40 + w * 4
def TX.EN (i : Nat) : Fld := ⟨TX.word i 0, 31, 1⟩
def TX.DIR (i : Nat) : Fld := ⟨TX.word i 0, 30, 1⟩
def TX.FMT (i : Nat) : Fld := ⟨TX.word i 0, 27, 3⟩
def TX.MULT (i : Nat) : Fld := ⟨TX.word i 0, 25, 2⟩
def TX.PATH (i : Nat) : Fld := ⟨TX.word i 0, 22, 2⟩
def TX.IPV6 (i : Nat) : Fld := ⟨TX.word i 0, 19, 1⟩
def TX.CHANNELS (i : Nat) : Fld := ⟨TX.word i 0, 12, 7⟩
def TX.DITH (i : Nat) : Fld := ⟨TX.word i 0, 10, 2⟩
def TX.CLASS (i : Nat) : Fld := ⟨TX.word i 0, 8, 2⟩
def TX.PTIME (i : Nat) : Fld := ⟨TX.word i 0, 0, 8⟩
def TX.PT (i : Nat) : Fld := ⟨TX.word i 1, 24, 7⟩
def TX.TTL (i : Nat) : Fld := ⟨TX.word i 1, 16, 8⟩
def TX.UDPDST (i : Nat) : Fld := ⟨TX.word i 1, 0, 16⟩
def TX.UDPSRC (i : Nat) : Fld := ⟨TX.word i 2, 16, 16⟩
def TX.PCP (i : Nat) : Fld := ⟨TX.word i 2, 13, 3⟩
def TX.VLAN (i : Nat) : Fld := ⟨TX.word i 2, 12, 1⟩
def TX.VID (i : Nat) : Fld := ⟨TX.word i 2, 0, 12⟩
def TX.DSCP (i : Nat) : Fld := ⟨TX.word i 3, 26, 6⟩
def TX.SEQINIT (i : Nat) : Fld := ⟨TX.word i 3, 0, 16⟩
def TX.ADDRA0 (i : Nat) : Fld := ⟨TX.word i 4, 0, 32⟩
def TX.ADDRA1 (i : Nat) : Fld := ⟨TX.word i 5, 0, 32⟩
def TX.ADDRA2 (i : Nat) : Fld := ⟨TX.word i 6, 0, 32⟩
def TX.ADDRA3 (i : Nat) : Fld := ⟨TX.word i 7, 0, 32⟩
def TX.ADDRB0 (i : Nat) : Fld := ⟨TX.word i 8, 0, 32⟩
def TX.ADDRB1 (i : Nat) : Fld := ⟨TX.word i 9, 0, 32⟩
def TX.ADDRB2 (i : Nat) : Fld := ⟨TX.word i 10, 0, 32⟩
def TX.ADDRB3 (i : Nat) : Fld := ⟨TX.word i 11, 0, 32⟩
def TX.SSRC (i : Nat) : Fld := ⟨TX.word i 12, 0, 32⟩
def TX.NHB (i : Nat) : Fld := ⟨TX.word i 13, 24, 8⟩
def TX.NHA (i : Nat) : Fld := ⟨TX.word i 13, 16, 8⟩
def TX.BUFID (i : Nat) : Fld := ⟨TX.word i 13, 0, 13⟩
def TX.MTT (i : Nat) : Fld := ⟨TX.word i 14, 0, 24⟩
/-- Word `w` of entry `i` of the BT table (R166). -/
def BT.word (i w : Nat) : Nat := 0x80040000 + i * 0x10 + w * 4
def BT.EN (i : Nat) : Fld := ⟨BT.word i 0, 31, 1⟩
def BT.DEEP (i : Nat) : Fld := ⟨BT.word i 0, 30, 1⟩
def BT.MULT (i : Nat) : Fld := ⟨BT.word i 0, 25, 2⟩
def BT.DEPTH (i : Nat) : Fld := ⟨BT.word i 0, 16, 9⟩
def BT.CHANNELS (i : Nat) : Fld := ⟨BT.word i 0, 0, 14⟩
def BT.BASE (i : Nat) : Fld := ⟨BT.word i 1, 0, 32⟩
def BT.DBASE (i : Nat) : Fld := ⟨BT.word i 2, 0, 22⟩
def BT.DDEPTH (i : Nat) : Fld := ⟨BT.word i 3, 0, 20⟩
/-- Word `w` of entry `i` of the RS table (R194). -/
def RS.word (i w : Nat) : Nat := 0x80060000 + i * 0x80 + w * 4
def RS.ACTIVE (i : Nat) : Fld := ⟨RS.word i 0, 31, 1⟩
def RS.ACTIVE_A (i : Nat) : Fld := ⟨RS.word i 0, 30, 1⟩
def RS.ACTIVE_B (i : Nat) : Fld := ⟨RS.word i 0, 29, 1⟩
def RS.LASTSSRC (i : Nat) : Fld := ⟨RS.word i 1, 0, 32⟩
def RS.LASTTICK (i : Nat) : Fld := ⟨RS.word i 2, 0, 32⟩
def RS.PLACED (i : Nat) : Fld := ⟨RS.word i 3, 0, 32⟩
def RS.COPIES_A (i : Nat) : Fld := ⟨RS.word i 4, 0, 32⟩
def RS.COPIES_B (i : Nat) : Fld := ⟨RS.word i 5, 0, 32⟩
def RS.DUP (i : Nat) : Fld := ⟨RS.word i 6, 0, 32⟩
def RS.EARLY (i : Nat) : Fld := ⟨RS.word i 7, 0, 32⟩
def RS.LATE (i : Nat) : Fld := ⟨RS.word i 8, 0, 32⟩
def RS.PART_LATE (i : Nat) : Fld := ⟨RS.word i 9, 0, 32⟩
def RS.REWIND_CHK (i : Nat) : Fld := ⟨RS.word i 10, 0, 32⟩
def RS.REWIND_ECC (i : Nat) : Fld := ⟨RS.word i 11, 0, 32⟩
def RS.REWIND_EPOCH (i : Nat) : Fld := ⟨RS.word i 12, 0, 32⟩
def RS.BADFMT (i : Nat) : Fld := ⟨RS.word i 13, 0, 32⟩
def RS.SEQGAP_A (i : Nat) : Fld := ⟨RS.word i 14, 0, 32⟩
def RS.SEQGAP_B (i : Nat) : Fld := ⟨RS.word i 15, 0, 32⟩
def RS.OVERLAP (i : Nat) : Fld := ⟨RS.word i 16, 0, 32⟩
def RS.CMP_MISMATCH (i : Nat) : Fld := ⟨RS.word i 17, 0, 32⟩
def RS.CMP_SKIP (i : Nat) : Fld := ⟨RS.word i 18, 0, 32⟩
def RS.MINLEAD (i : Nat) : Fld := ⟨RS.word i 19, 0, 32⟩
def RS.MAXLEAD (i : Nat) : Fld := ⟨RS.word i 20, 0, 32⟩
def RS.STALLS (i : Nat) : Fld := ⟨RS.word i 21, 0, 32⟩
def RS.NOTIME (i : Nat) : Fld := ⟨RS.word i 22, 0, 32⟩
/-- Word `w` of entry `i` of the TS table (R221). -/
def TS.word (i w : Nat) : Nat := 0x80060000 + i * 0x80 + w * 4
def TS.ENABLED (i : Nat) : Fld := ⟨TS.word i 0, 31, 1⟩
def TS.SEQNEXT (i : Nat) : Fld := ⟨TS.word i 0, 0, 16⟩
def TS.TSNEXT (i : Nat) : Fld := ⟨TS.word i 1, 0, 32⟩
def TS.LASTTICK (i : Nat) : Fld := ⟨TS.word i 2, 0, 32⟩
def TS.SENT_A (i : Nat) : Fld := ⟨TS.word i 3, 0, 32⟩
def TS.SENT_B (i : Nat) : Fld := ⟨TS.word i 4, 0, 32⟩
def TS.INVALID (i : Nat) : Fld := ⟨TS.word i 5, 0, 32⟩
def TS.TRUNC (i : Nat) : Fld := ⟨TS.word i 6, 0, 32⟩
def TS.REBUILT (i : Nat) : Fld := ⟨TS.word i 7, 0, 32⟩
def TS.LOST (i : Nat) : Fld := ⟨TS.word i 8, 0, 32⟩
def TS.KNLFULL (i : Nat) : Fld := ⟨TS.word i 9, 0, 32⟩
def TS.LINKDOWN (i : Nat) : Fld := ⟨TS.word i 10, 0, 32⟩
/-- Word `w` of entry `i` of the PM table (R217). -/
def PM.word (i w : Nat) : Nat := 0x80200000 + i * 0x8 + w * 4
def PM.EN (i : Nat) : Fld := ⟨PM.word i 0, 31, 1⟩
def PM.INV (i : Nat) : Fld := ⟨PM.word i 0, 30, 1⟩
def PM.SRCBUF (i : Nat) : Fld := ⟨PM.word i 0, 13, 13⟩
def PM.SRCCH (i : Nat) : Fld := ⟨PM.word i 0, 0, 13⟩
def PM.DSTBUF (i : Nat) : Fld := ⟨PM.word i 1, 13, 13⟩
def PM.DSTCH (i : Nat) : Fld := ⟨PM.word i 1, 0, 13⟩
/-- Word `w` of entry `i` of the HM table (R259). -/
def HM.word (i w : Nat) : Nat := 0x80220000 + i * 0x4 + w * 4
def HM.EN (i : Nat) : Fld := ⟨HM.word i 0, 31, 1⟩
def HM.HERD (i : Nat) : Fld := ⟨HM.word i 0, 27, 4⟩
def HM.KIND (i : Nat) : Fld := ⟨HM.word i 0, 24, 3⟩
def HM.INDEX (i : Nat) : Fld := ⟨HM.word i 0, 0, 13⟩
/-- Word `w` of entry `i` of the MS table (R265). -/
def MS.word (i w : Nat) : Nat := 0x80240000 + i * 0x20 + w * 4
def MS.W0 (i : Nat) : Fld := ⟨MS.word i 0, 0, 32⟩
/-- Word `w` of entry `i` of the CLQ table (R401). -/
def CLQ.word (i w : Nat) : Nat := 0x80340000 + i * 0x10 + w * 4
def CLQ.EN (i : Nat) : Fld := ⟨CLQ.word i 0, 31, 1⟩
def CLQ.PORT (i : Nat) : Fld := ⟨CLQ.word i 0, 29, 2⟩
def CLQ.LATE (i : Nat) : Fld := ⟨CLQ.word i 0, 27, 2⟩
def CLQ.BIND (i : Nat) : Fld := ⟨CLQ.word i 0, 24, 3⟩
def CLQ.BINDIX (i : Nat) : Fld := ⟨CLQ.word i 0, 16, 8⟩
def CLQ.LEAD (i : Nat) : Fld := ⟨CLQ.word i 0, 8, 8⟩
def CLQ.QUEUE (i : Nat) : Fld := ⟨CLQ.word i 0, 0, 4⟩
def CLQ.T (i : Nat) : Fld := ⟨CLQ.word i 1, 0, 32⟩
def CLQ.PERIOD (i : Nat) : Fld := ⟨CLQ.word i 2, 0, 32⟩
def CLQ.REPEAT (i : Nat) : Fld := ⟨CLQ.word i 3, 0, 16⟩
/-- Word `w` of entry `i` of the CLS table (R406). -/
def CLS.word (i w : Nat) : Nat := 0x80341000 + i * 0x10 + w * 4
def CLS.W0 (i : Nat) : Fld := ⟨CLS.word i 0, 0, 32⟩
/-- Word `w` of entry `i` of the GCL table (R426). -/
def GCL.word (i w : Nat) : Nat := 0x80350000 + i * 0x8 + w * 4
def GCL.GATESA (i : Nat) : Fld := ⟨GCL.word i 0, 0, 4⟩
def GCL.GATESB (i : Nat) : Fld := ⟨GCL.word i 0, 4, 4⟩
def GCL.INTERVAL (i : Nat) : Fld := ⟨GCL.word i 1, 0, 32⟩
/-- Word `w` of entry `i` of the DL table (R438). -/
def DL.word (i w : Nat) : Nat := 0x80360000 + i * 0x10 + w * 4
def DL.EN (i : Nat) : Fld := ⟨DL.word i 0, 31, 1⟩
def DL.SRCBUF (i : Nat) : Fld := ⟨DL.word i 0, 13, 13⟩
def DL.SRCCH (i : Nat) : Fld := ⟨DL.word i 0, 0, 13⟩
def DL.DSTBUF (i : Nat) : Fld := ⟨DL.word i 1, 13, 13⟩
def DL.DSTCH (i : Nat) : Fld := ⟨DL.word i 1, 0, 13⟩
def DL.D (i : Nat) : Fld := ⟨DL.word i 2, 0, 21⟩
def DL.LOG2 (i : Nat) : Fld := ⟨DL.word i 3, 27, 5⟩
def DL.RBASE (i : Nat) : Fld := ⟨DL.word i 3, 0, 22⟩
/-- Word `w` of entry `i` of the VT table (R442). -/
def VT.word (i w : Nat) : Nat := 0x80370000 + i * 0x20 + w * 4
def VT.EN (i : Nat) : Fld := ⟨VT.word i 0, 31, 1⟩
def VT.LOOP (i : Nat) : Fld := ⟨VT.word i 0, 30, 1⟩
def VT.FADEIN (i : Nat) : Fld := ⟨VT.word i 0, 29, 1⟩
def VT.CLIPBASE (i : Nat) : Fld := ⟨VT.word i 1, 0, 22⟩
def VT.LEN (i : Nat) : Fld := ⟨VT.word i 2, 0, 28⟩
def VT.LOOPSTART (i : Nat) : Fld := ⟨VT.word i 3, 0, 28⟩
def VT.LOOPEND (i : Nat) : Fld := ⟨VT.word i 4, 0, 28⟩
def VT.GAIN (i : Nat) : Fld := ⟨VT.word i 5, 0, 32⟩
def VT.RAMP (i : Nat) : Fld := ⟨VT.word i 6, 0, 24⟩
/-- Word `w` of entry `i` of the VS table (R445). -/
def VS.word (i w : Nat) : Nat := 0x80372000 + i * 0x10 + w * 4
def VS.STATE (i : Nat) : Fld := ⟨VS.word i 0, 0, 3⟩
def VS.LOOPS (i : Nat) : Fld := ⟨VS.word i 0, 16, 16⟩
def VS.POS (i : Nat) : Fld := ⟨VS.word i 1, 0, 32⟩
def VS.GAIN (i : Nat) : Fld := ⟨VS.word i 2, 0, 32⟩
def VS.S (i : Nat) : Fld := ⟨VS.word i 3, 0, 32⟩
/-- IMEM word `w` of engine `n` (R148). -/
def IMEM.word (n w : Nat) : Nat := 0x82000000 + n * 0x10000 + w * 4
/-- Word `w` of the program descriptor of engine `n` (R148, R152). -/
def DESC.word (n w : Nat) : Nat := 0x82100000 + n * 0x400 + w * 4
/-- The key of the DMEM window of engine `n` at byte offset `o` (R148). -/
def DMEM.key (n o : Nat) : Nat := 0x82800000 + n * 0x40000 + o

end Sys2Proof.Machine
end

