-- ==== Sys2Proof/Machine/RegTable.lean ====
section
/-!
DEFINITION. The register table: for each register of BAR0 the access codes of its fields and its reset value
(R7, R480, and the register tables of every chapter).
-/

namespace Sys2Proof.Machine

/-- A family of like registers of one block: where they stand, the bits under each access code of R7, and
the reset value. Register (i, j) stands at `off + i * s1 + j * s2`. -/
structure RegFam where
  off : Nat
  n1 : Nat
  s1 : Nat
  n2 : Nat
  s2 : Nat
  rw : Nat
  rws : Nat
  wp : Nat
  wo1 : Nat
  sq : Nat
  ro : Nat
  reset : Nat
  step : Nat
  special : List (Nat × Nat)
deriving DecidableEq, Repr

/-- The registers of block 0x00 (R480). -/
def blockRegs0 : List RegFam := [
  /- GLB.ID -/ ⟨0x0, 1, 0x10000, 1, 0x10000, 0x0, 0x0, 0x0, 0x0, 0x0, 0xFFFFFFFF, 0xB800100, 0x0, []⟩,
  /- GLB.SERIALLO -/ ⟨0x4, 1, 0x10000, 1, 0x10000, 0x0, 0x0, 0x0, 0x0, 0x0, 0xFFFFFFFF, 0x0, 0x0, []⟩,
  /- GLB.SERIALHI -/ ⟨0x8, 1, 0x10000, 1, 0x10000, 0x0, 0x0, 0x0, 0x0, 0x0, 0xFFFFFFFF, 0x0, 0x0, []⟩,
  /- GLB.UNITCAP -/ ⟨0xC, 1, 0x10000, 1, 0x10000, 0x0, 0x0, 0x0, 0x0, 0x0, 0xFFEFFFFF, 0xFF8DFFFF, 0x0, []⟩,
  /- GLB.STRAPS -/ ⟨0x10, 1, 0x10000, 1, 0x10000, 0x0, 0x0, 0x0, 0x0, 0x0, 0xFB, 0x0, 0x0, []⟩,
  /- GLB.BOOTSTAT -/ ⟨0x14, 1, 0x10000, 1, 0x10000, 0x0, 0x0, 0x0, 0x0, 0x0, 0xFF80FFFF, 0x0, 0x0, []⟩,
  /- GLB.MEDIA -/ ⟨0x40, 1, 0x10000, 1, 0x10000, 0x0, 0xFFF13F, 0x0, 0x0, 0x0, 0x0, 0x44C006, 0x0, []⟩,
  /- GLB.TICKIDX -/ ⟨0x44, 1, 0x10000, 1, 0x10000, 0x0, 0x0, 0x0, 0x0, 0x0, 0xFFFFFFFF, 0x0, 0x0, []⟩,
  /- GLB.BUDGET -/ ⟨0x48, 1, 0x10000, 1, 0x10000, 0x0, 0x0, 0x0, 0x0, 0x0, 0x1FFFFF, 0x1E648, 0x0, []⟩,
  /- GLB.PROOFLIM -/ ⟨0x4C, 1, 0x10000, 1, 0x10000, 0x0, 0x0, 0x0, 0x0, 0x0, 0x1FFFFF, 0x1E5BE, 0x0, []⟩,
  /- GLB.TICKSTAT -/ ⟨0x50, 1, 0x10000, 1, 0x10000, 0x0, 0x0, 0x0, 0x0, 0x0, 0x7, 0x2, 0x0, []⟩,
  /- GLB.TICKHIST -/ ⟨0x54, 1, 0x10000, 1, 0x10000, 0x0, 0x0, 0x0, 0x0, 0xFF00000F, 0x0, 0x0, 0x0, []⟩,
  /- GLB.COMMIT -/ ⟨0x80, 1, 0x10000, 1, 0x10000, 0xF0, 0x0, 0x3, 0x0, 0x0, 0x0, 0x0, 0x0, []⟩,
  /- GLB.COMMITAT -/ ⟨0x84, 1, 0x10000, 1, 0x10000, 0xFFFFFFFF, 0x0, 0x0, 0x0, 0x0, 0x0, 0x0, 0x0, []⟩,
  /- GLB.COMMITSTAT -/ ⟨0x88, 1, 0x10000, 1, 0x10000, 0x0, 0x0, 0x0, 0x0, 0x0, 0xF0FF0000, 0x0, 0x0, []⟩,
  /- GLB.COMMITADDR -/ ⟨0x8C, 1, 0x10000, 1, 0x10000, 0x0, 0x0, 0x0, 0x0, 0x0, 0x83FFFFFF, 0x0, 0x0, []⟩,
  /- GLB.EPOCH -/ ⟨0x90, 1, 0x10000, 1, 0x10000, 0x0, 0x0, 0x0, 0x0, 0x0, 0xFFFFFFFF, 0x0, 0x0, []⟩,
  /- GLB.EPOCHTICK -/ ⟨0x94, 1, 0x10000, 1, 0x10000, 0x0, 0x0, 0x0, 0x0, 0x0, 0xFFFFFFFF, 0x0, 0x0, []⟩,
  /- GLB.COMMITHIST -/ ⟨0x98, 1, 0x10000, 1, 0x10000, 0x0, 0x0, 0x0, 0x0, 0xFF00000F, 0x0, 0x0, 0x0, []⟩,
  /- GLB.SNAPREQ -/ ⟨0xA0, 1, 0x10000, 1, 0x10000, 0x0, 0x0, 0x1, 0x0, 0x0, 0x0, 0x0, 0x0, []⟩,
  /- GLB.SNAPSEQ -/ ⟨0xA4, 1, 0x10000, 1, 0x10000, 0x0, 0x0, 0x0, 0x0, 0x0, 0xFFFFFFFF, 0x0, 0x0, []⟩,
  /- GLB.SNAPBASE -/ ⟨0xA8, 1, 0x10000, 1, 0x10000, 0x0, 0x0, 0x0, 0x0, 0x0, 0xFFFFFFFF, 0x1000000, 0x0, []⟩,
  /- GLB.SNAPSTAT -/ ⟨0xAC, 1, 0x10000, 1, 0x10000, 0x0, 0x0, 0x0, 0x0, 0x0, 0x3, 0x0, 0x0, []⟩,
  /- GLB.JCTL -/ ⟨0xC0, 1, 0x10000, 1, 0x10000, 0x0, 0x2FFFF, 0x10000, 0x0, 0x0, 0x0, 0x20010, 0x0, []⟩,
  /- GLB.JSTAT -/ ⟨0xC4, 1, 0x10000, 1, 0x10000, 0x0, 0x0, 0x0, 0x0, 0x0, 0xFFFFFFFF, 0x0, 0x0, []⟩,
  /- GLB.JSEQ -/ ⟨0xC8, 1, 0x10000, 1, 0x10000, 0x0, 0x0, 0x0, 0x0, 0x0, 0xFFFFFFFF, 0x0, 0x0, []⟩,
  /- GLB.JBASE -/ ⟨0xCC, 1, 0x10000, 1, 0x10000, 0x0, 0x0, 0x0, 0x0, 0x0, 0xFFFFFFFF, 0x1800000, 0x0, []⟩,
  /- GLB.CKPTBASE -/ ⟨0xD0, 1, 0x10000, 1, 0x10000, 0x0, 0xFFFFFFFF, 0x0, 0x0, 0x0, 0x0, 0x700, 0x0, []⟩,
  /- GLB.CKPTLEN -/ ⟨0xD4, 1, 0x10000, 1, 0x10000, 0x0, 0xFFFFFFFF, 0x0, 0x0, 0x0, 0x0, 0x100, 0x0, []⟩,
  /- GLB.CKPTNEED -/ ⟨0xD8, 1, 0x10000, 1, 0x10000, 0x0, 0x0, 0x0, 0x0, 0x0, 0xFFFFFFFF, 0x0, 0x0, []⟩,
  /- GLB.CKPTSTAT -/ ⟨0xDC, 1, 0x10000, 1, 0x10000, 0x0, 0x0, 0x0, 0x0, 0x0, 0xE0000000, 0x0, 0x0, []⟩,
  /- GLB.CKPTSEQ -/ ⟨0xE0, 1, 0x10000, 1, 0x10000, 0x0, 0x0, 0x0, 0x0, 0x0, 0xFFFFFFFF, 0x0, 0x0, []⟩]

/-- The registers of block 0x01 (R480). -/
def blockRegs1 : List RegFam := [
  /- HIF.IFSTAT -/ ⟨0x0, 1, 0x10000, 1, 0x10000, 0x0, 0x0, 0x0, 0x0, 0x0, 0x8FF00300, 0x0, 0x0, []⟩,
  /- HIF.HIST -/ ⟨0x4, 1, 0x10000, 1, 0x10000, 0x0, 0x0, 0x0, 0x0, 0xFF00001F, 0x0, 0x0, 0x0, []⟩,
  /- HIF.ACCERRADDR -/ ⟨0x8, 1, 0x10000, 1, 0x10000, 0x0, 0x0, 0x0, 0x0, 0x0, 0xFFFFFFFF, 0x0, 0x0, []⟩,
  /- HIF.ACCERRINFO -/ ⟨0xC, 1, 0x10000, 1, 0x10000, 0x0, 0x0, 0x0, 0x0, 0x0, 0xC000000F, 0x0, 0x0, []⟩,
  /- HIF.ACCERRCNT -/ ⟨0x10, 1, 0x10000, 1, 0x10000, 0x0, 0x0, 0x0, 0x0, 0x0, 0xFFFFFFFF, 0x0, 0x0, []⟩,
  /- HIF.LOCKADDR -/ ⟨0x14, 1, 0x10000, 1, 0x10000, 0x0, 0x0, 0x0, 0x0, 0x0, 0xFFFFFFFF, 0x0, 0x0, []⟩,
  /- HIF.LOCKCNT -/ ⟨0x18, 1, 0x10000, 1, 0x10000, 0x0, 0x0, 0x0, 0x0, 0x0, 0xFFFFFFFF, 0x0, 0x0, []⟩,
  /- HIF.ACK_STALE -/ ⟨0x1C, 1, 0x10000, 1, 0x10000, 0x0, 0x0, 0x0, 0x0, 0x0, 0xFFFFFFFF, 0x0, 0x0, []⟩,
  /- HIF.ACKADDR -/ ⟨0x20, 1, 0x10000, 1, 0x10000, 0x0, 0x0, 0x0, 0x0, 0x0, 0xFFFFFFFF, 0x0, 0x0, []⟩,
  /- HIF.ABSENTCNT -/ ⟨0x24, 1, 0x10000, 1, 0x10000, 0x0, 0x0, 0x0, 0x0, 0x0, 0xFFFFFFFF, 0x0, 0x0, []⟩,
  /- HIF.SPISTAT -/ ⟨0x30, 1, 0x10000, 1, 0x10000, 0x0, 0x0, 0x0, 0x0, 0x0, 0xFFFFFFFF, 0x0, 0x0, []⟩,
  /- HIF.DRAPBASE -/ ⟨0x34, 1, 0x10000, 1, 0x10000, 0x3FF, 0x0, 0x0, 0x0, 0x0, 0x0, 0x0, 0x0, []⟩,
  /- HIF.DMA_RINGLO -/ ⟨0x100, 8, 0x20, 1, 0x20, 0xFFFFFFE0, 0x0, 0x0, 0x0, 0x0, 0x0, 0x0, 0x0, []⟩,
  /- HIF.DMA_RINGHI -/ ⟨0x104, 8, 0x20, 1, 0x20, 0xFFFFFFFF, 0x0, 0x0, 0x0, 0x0, 0x0, 0x0, 0x0, []⟩,
  /- HIF.DMA_CFG -/ ⟨0x108, 8, 0x20, 1, 0x20, 0x800F000F, 0x0, 0x0, 0x0, 0x0, 0x0, 0x0, 0x0, []⟩,
  /- HIF.DMA_HEAD -/ ⟨0x10C, 8, 0x20, 1, 0x20, 0x0, 0x0, 0x0, 0x0, 0x0, 0xFFF, 0x0, 0x0, []⟩,
  /- HIF.DMA_STAT -/ ⟨0x110, 8, 0x20, 1, 0x20, 0x0, 0x0, 0x0, 0x0, 0x0, 0xC00000FF, 0x0, 0x0, []⟩,
  /- HIF.DMA_DONE -/ ⟨0x114, 8, 0x20, 1, 0x20, 0x0, 0x0, 0x0, 0x0, 0x0, 0xFFFFFFFF, 0x0, 0x0, []⟩]

/-- The registers of block 0x02 (R480). -/
def blockRegs2 : List RegFam := [
  /- EVT.CTL -/ ⟨0x0, 1, 0x10000, 1, 0x10000, 0x3FF0001, 0x0, 0x0, 0x0, 0x0, 0x0, 0x2000000, 0x0, []⟩,
  /- EVT.WRSEQ -/ ⟨0x4, 1, 0x10000, 1, 0x10000, 0x0, 0x0, 0x0, 0x0, 0x0, 0xFFFFFFFF, 0x0, 0x0, []⟩,
  /- EVT.RDSEQ -/ ⟨0x8, 1, 0x10000, 1, 0x10000, 0xFFFFFFFF, 0x0, 0x0, 0x0, 0x0, 0x0, 0x0, 0x0, []⟩,
  /- EVT.DROPPED -/ ⟨0xC, 1, 0x10000, 1, 0x10000, 0x0, 0x0, 0x0, 0x0, 0x0, 0xFFFFFFFF, 0x0, 0x0, []⟩,
  /- EVT.FIRSTDROP -/ ⟨0x10, 1, 0x10000, 1, 0x10000, 0x0, 0x0, 0x0, 0x0, 0x0, 0xFFFFFFFF, 0x0, 0x0, []⟩,
  /- EVT.OVERWRITTEN -/ ⟨0x14, 1, 0x10000, 1, 0x10000, 0x0, 0x0, 0x0, 0x0, 0x0, 0xFFFFFFFF, 0x0, 0x0, []⟩,
  /- EVT.HIST -/ ⟨0x18, 1, 0x10000, 1, 0x10000, 0x0, 0x0, 0x0, 0x0, 0xFF000003, 0x0, 0x0, 0x0, []⟩,
  /- EVT.BLKPEND -/ ⟨0x20, 1, 0x10000, 1, 0x10000, 0x0, 0x0, 0x0, 0x0, 0x0, 0xFFFFFF, 0x0, 0x0, []⟩,
  /- EVT.VECPEND -/ ⟨0x24, 1, 0x10000, 1, 0x10000, 0x0, 0x0, 0x0, 0x0, 0x0, 0xFFFF, 0x0, 0x0, []⟩,
  /- EVT.PIN0 -/ ⟨0x28, 1, 0x10000, 1, 0x10000, 0xFFFF, 0x0, 0x0, 0x0, 0x0, 0x0, 0x0, 0x0, []⟩,
  /- EVT.PIN1 -/ ⟨0x2C, 1, 0x10000, 1, 0x10000, 0xFFFF, 0x0, 0x0, 0x0, 0x0, 0x0, 0x0, 0x0, []⟩,
  /- EVT.LASTFATAL -/ ⟨0x30, 1, 0x10000, 1, 0x10000, 0x0, 0x0, 0x0, 0x0, 0x0, 0x8000FFFF, 0x0, 0x0, []⟩,
  /- EVT.IPEND -/ ⟨0x100, 24, 0x4, 1, 0x4, 0x0, 0x0, 0x0, 0x0, 0xFFFFFFFE, 0x0, 0x0, 0x0, []⟩,
  /- EVT.IEN -/ ⟨0x200, 24, 0x4, 1, 0x4, 0xFFFFFE, 0x0, 0x0, 0x0, 0x0, 0x0, 0x0, 0x0, []⟩,
  /- EVT.VEC -/ ⟨0x300, 24, 0x4, 1, 0x4, 0xF, 0x0, 0x0, 0x0, 0x0, 0x0, 0x0, 0x0, []⟩,
  /- EVT.BLKCNT -/ ⟨0x400, 24, 0x4, 1, 0x4, 0x0, 0x0, 0x0, 0x0, 0x0, 0xFFFFFFFF, 0x0, 0x0, []⟩,
  /- EVT.MEMCORR -/ ⟨0x500, 15, 0x8, 1, 0x8, 0x0, 0x0, 0x0, 0x0, 0x0, 0xFFFFFFFF, 0x0, 0x0, []⟩,
  /- EVT.MEMUNCORR -/ ⟨0x504, 15, 0x8, 1, 0x8, 0x0, 0x0, 0x0, 0x0, 0x0, 0xFFFFFFFF, 0x0, 0x0, []⟩,
  /- EVT.REP -/ ⟨0x2000, 1024, 0x4, 1, 0x4, 0x0, 0x0, 0x0, 0x0, 0x0, 0xFFFFFFFF, 0x0, 0x0, []⟩]

/-- The registers of block 0x03 (R480). -/
def blockRegs3 : List RegFam := [
  /- SEC.LC -/ ⟨0x0, 1, 0x10000, 1, 0x10000, 0x0, 0x0, 0x0, 0x0, 0x0, 0x7FFF0107, 0x0, 0x0, []⟩,
  /- SEC.DBGCTL -/ ⟨0x4, 1, 0x10000, 1, 0x10000, 0x0, 0x0, 0x3, 0x0, 0x0, 0x30000, 0x0, 0x0, []⟩,
  /- SEC.DBGLOCK -/ ⟨0x8, 1, 0x10000, 1, 0x10000, 0x0, 0x0, 0x0, 0x1, 0x0, 0x0, 0x0, 0x0, []⟩,
  /- SEC.CHAL -/ ⟨0x10, 8, 0x4, 1, 0x4, 0x0, 0x0, 0x0, 0x0, 0x0, 0xFFFFFFFF, 0x0, 0x0, []⟩,
  /- SEC.PAIRSALT -/ ⟨0x40, 4, 0x4, 1, 0x4, 0x0, 0x0, 0x0, 0xFFFFFFFF, 0x0, 0x0, 0x0, 0x0, []⟩,
  /- SEC.PAIRSTAT -/ ⟨0x50, 1, 0x10000, 1, 0x10000, 0x0, 0x0, 0x0, 0x0, 0x0, 0x3, 0x0, 0x0, []⟩,
  /- SEC.HIST -/ ⟨0x60, 1, 0x10000, 1, 0x10000, 0x0, 0x0, 0x0, 0x0, 0xFF000003, 0x0, 0x0, 0x0, []⟩,
  /- SEC.SIGPUB -/ ⟨0x100, 24, 0x4, 1, 0x4, 0xFFFFFFFF, 0x0, 0x0, 0x0, 0x0, 0x0, 0x0, 0x0, []⟩,
  /- SEC.SIGVAL -/ ⟨0x180, 24, 0x4, 1, 0x4, 0xFFFFFFFF, 0x0, 0x0, 0x0, 0x0, 0x0, 0x0, 0x0, []⟩,
  /- SEC.ATTNONCE -/ ⟨0x200, 8, 0x4, 1, 0x4, 0xFFFFFFFF, 0x0, 0x0, 0x0, 0x0, 0x0, 0x0, 0x0, []⟩,
  /- SEC.ATTCTL -/ ⟨0x220, 1, 0x10000, 1, 0x10000, 0x0, 0x0, 0x1, 0x0, 0x0, 0xC0000000, 0x0, 0x0, []⟩,
  /- SEC.ATTSIG -/ ⟨0x240, 24, 0x4, 1, 0x4, 0x0, 0x0, 0x0, 0x0, 0x0, 0xFFFFFFFF, 0x0, 0x0, []⟩,
  /- SEC.ATTPUB -/ ⟨0x300, 24, 0x4, 1, 0x4, 0x0, 0x0, 0x0, 0x0, 0x0, 0xFFFFFFFF, 0x0, 0x0, []⟩]

/-- The registers of block 0x04 (R480). -/
def blockRegs4 : List RegFam := [
  /- UPD.CTL -/ ⟨0x0, 1, 0x10000, 1, 0x10000, 0xC0000000, 0x0, 0x18000000, 0x0, 0x0, 0x20000000, 0x0, 0x0, []⟩,
  /- UPD.HCMD -/ ⟨0x4, 1, 0x10000, 1, 0x10000, 0x1FFF, 0x0, 0xF0000000, 0x0, 0x0, 0x0, 0x0, 0x0, []⟩,
  /- UPD.STAT -/ ⟨0x8, 1, 0x10000, 1, 0x10000, 0x0, 0x0, 0x0, 0x0, 0x0, 0xFEFF1FFF, 0x0, 0x0, []⟩,
  /- UPD.ACTVER -/ ⟨0xC, 1, 0x10000, 1, 0x10000, 0x0, 0x0, 0x0, 0x0, 0x0, 0xFFFFFFFF, 0x0, 0x0, []⟩,
  /- UPD.STGVER -/ ⟨0x10, 1, 0x10000, 1, 0x10000, 0x0, 0x0, 0x0, 0x0, 0x0, 0xFFFFFFFF, 0x0, 0x0, []⟩,
  /- UPD.LOCKSEQ -/ ⟨0x14, 1, 0x10000, 1, 0x10000, 0x0, 0x0, 0x0, 0x0, 0x0, 0xFFFFFFFF, 0x0, 0x0, []⟩,
  /- UPD.CHAINCFG -/ ⟨0x20, 1, 0x10000, 1, 0x10000, 0x8003FFFF, 0x0, 0x0, 0x0, 0x0, 0x0, 0x215EB, 0x0, []⟩,
  /- UPD.UPSTREAM -/ ⟨0x24, 1, 0x10000, 1, 0x10000, 0xFFFFFFFF, 0x0, 0x0, 0x0, 0x0, 0x0, 0x0, 0x0, []⟩,
  /- UPD.POLL -/ ⟨0x28, 1, 0x10000, 1, 0x10000, 0xFFFF, 0x0, 0x0, 0x0, 0x0, 0x0, 0x3C, 0x0, []⟩,
  /- UPD.BOOT -/ ⟨0x30, 1, 0x10000, 1, 0x10000, 0x0, 0x0, 0x80000000, 0x0, 0x0, 0x3, 0x0, 0x0, []⟩,
  /- UPD.ARB -/ ⟨0x34, 1, 0x10000, 1, 0x10000, 0x0, 0x0, 0x1, 0x0, 0x0, 0x0, 0x0, 0x0, []⟩,
  /- UPD.HIST -/ ⟨0x40, 1, 0x10000, 1, 0x10000, 0x0, 0x0, 0x0, 0x0, 0xFF00000F, 0x0, 0x0, 0x0, []⟩,
  /- UPD.BUF -/ ⟨0x1000, 1024, 0x4, 1, 0x4, 0xFFFFFFFF, 0x0, 0x0, 0x0, 0x0, 0x0, 0x0, 0x0, []⟩]

/-- The registers of block 0x05 (R480). -/
def blockRegs5 : List RegFam := [
  /- REF.CTL -/ ⟨0x0, 1, 0x10000, 1, 0x10000, 0x0, 0x1FF, 0x0, 0x0, 0x0, 0x0, 0x20, 0x0, []⟩,
  /- REF.PROFILE -/ ⟨0x4, 1, 0x10000, 1, 0x10000, 0x0, 0x3, 0x10000, 0x0, 0x0, 0x80000000, 0x0, 0x0, []⟩,
  /- REF.BW -/ ⟨0x8, 1, 0x10000, 1, 0x10000, 0x0, 0xFFFFFFFF, 0x0, 0x0, 0x0, 0x0, 0x27100064, 0x0, []⟩,
  /- REF.LOCK -/ ⟨0xC, 1, 0x10000, 1, 0x10000, 0x0, 0xFFFF00FF, 0x0, 0x0, 0x0, 0x0, 0xC80002, 0x0, []⟩,
  /- REF.TIMERS -/ ⟨0x10, 1, 0x10000, 1, 0x10000, 0x0, 0xFFFF0FFF, 0x0, 0x0, 0x0, 0x0, 0x12C003C, 0x0, []⟩,
  /- REF.HOBUDGET -/ ⟨0x14, 1, 0x10000, 1, 0x10000, 0x0, 0xFFFFFFFF, 0x0, 0x0, 0x0, 0x0, 0xE10, 0x0, []⟩,
  /- REF.STEPHERDS -/ ⟨0x18, 1, 0x10000, 1, 0x10000, 0x0, 0xFFFF, 0x0, 0x0, 0x0, 0x0, 0xFFFF, 0x0, []⟩,
  /- REF.DCOADJ -/ ⟨0x1C, 1, 0x10000, 1, 0x10000, 0xFFFFFFFF, 0x0, 0x0, 0x0, 0x0, 0x0, 0x0, 0x0, []⟩,
  /- REF.STATUS -/ ⟨0x40, 1, 0x10000, 1, 0x10000, 0x0, 0x0, 0x0, 0x0, 0x0, 0xEFFEFFFF, 0xFF00000, 0x0, []⟩,
  /- REF.HIST -/ ⟨0x44, 1, 0x10000, 1, 0x10000, 0x0, 0x0, 0x0, 0x0, 0xFF0007FF, 0x0, 0x0, 0x0, []⟩,
  /- REF.DCOPPT -/ ⟨0x48, 1, 0x10000, 1, 0x10000, 0x0, 0x0, 0x0, 0x0, 0x0, 0xFFFFFFFF, 0x0, 0x0, []⟩,
  /- REF.HOPPT -/ ⟨0x4C, 1, 0x10000, 1, 0x10000, 0x0, 0x0, 0x0, 0x0, 0x0, 0xFFFFFFFF, 0x0, 0x0, []⟩,
  /- REF.HOTIME -/ ⟨0x50, 1, 0x10000, 1, 0x10000, 0x0, 0x0, 0x0, 0x0, 0x0, 0xFFFFFFFF, 0x0, 0x0, []⟩,
  /- REF.PHERR -/ ⟨0x54, 1, 0x10000, 1, 0x10000, 0x0, 0x0, 0x0, 0x0, 0x0, 0xFFFFFFFF, 0x0, 0x0, []⟩,
  /- REF.PRIO -/ ⟨0x80, 10, 0x4, 1, 0x4, 0x0, 0x80000F0F, 0x0, 0x0, 0x0, 0x0, 0x0, 0x1, []⟩,
  /- REF.IN_CFG -/ ⟨0x100, 10, 0x40, 1, 0x40, 0x0, 0xFEFF0F00, 0x0, 0x0, 0x0, 0x0, 0xFE0800, 0x0, [(0, 0x10FE0800), (1, 0x10FE0800), (6, 0x4FE0800), (7, 0x18FE0800), (8, 0xCFE0800), (9, 0x10FE0800)]⟩,
  /- REF.IN_NOMNUM -/ ⟨0x104, 10, 0x40, 1, 0x40, 0x0, 0xFFFFFFFF, 0x0, 0x0, 0x0, 0x0, 0x0, 0x0, [(6, 0x3D09), (7, 0x1), (8, 0x989680)]⟩,
  /- REF.IN_NOMDEN -/ ⟨0x108, 10, 0x40, 1, 0x40, 0x0, 0xFFFFFFFF, 0x0, 0x0, 0x0, 0x0, 0x1, 0x0, []⟩,
  /- REF.IN_LIM -/ ⟨0x10C, 10, 0x40, 1, 0x40, 0x0, 0xFF0FFFFF, 0x0, 0x0, 0x0, 0x0, 0xA0186A0, 0x0, []⟩,
  /- REF.IN_DRIFT1 -/ ⟨0x110, 10, 0x40, 1, 0x40, 0x0, 0xFFFFFFFF, 0x0, 0x0, 0x0, 0x0, 0x13884E20, 0x0, []⟩,
  /- REF.IN_DRIFT10 -/ ⟨0x114, 10, 0x40, 1, 0x40, 0x0, 0xFFFFFFFF, 0x0, 0x0, 0x0, 0x0, 0x1F407D0, 0x0, []⟩,
  /- REF.IN_DRIFT100 -/ ⟨0x118, 10, 0x40, 1, 0x40, 0x0, 0xFFFFFFFF, 0x0, 0x0, 0x0, 0x0, 0x6401F4, 0x0, []⟩,
  /- REF.IN_JUMPCFG -/ ⟨0x11C, 10, 0x40, 1, 0x40, 0x0, 0xFFFFFFFF, 0x0, 0x0, 0x0, 0x0, 0x6403E8, 0x0, []⟩,
  /- REF.IN_STAT -/ ⟨0x120, 10, 0x40, 1, 0x40, 0x0, 0x0, 0x0, 0x0, 0x0, 0xF80F0FFF, 0x0, 0x0, []⟩,
  /- REF.IN_OFS -/ ⟨0x124, 10, 0x40, 1, 0x40, 0x0, 0x0, 0x0, 0x0, 0x0, 0xFFFFFFFF, 0x0, 0x0, []⟩,
  /- REF.IN_D1 -/ ⟨0x128, 10, 0x40, 1, 0x40, 0x0, 0x0, 0x0, 0x0, 0x0, 0xFFFFFFFF, 0x0, 0x0, []⟩,
  /- REF.IN_D10 -/ ⟨0x12C, 10, 0x40, 1, 0x40, 0x0, 0x0, 0x0, 0x0, 0x0, 0xFFFFFFFF, 0x0, 0x0, []⟩,
  /- REF.IN_D100 -/ ⟨0x130, 10, 0x40, 1, 0x40, 0x0, 0x0, 0x0, 0x0, 0x0, 0xFFFFFFFF, 0x0, 0x0, []⟩,
  /- REF.IN_JUMP -/ ⟨0x134, 10, 0x40, 1, 0x40, 0x0, 0x0, 0x0, 0x0, 0x0, 0xFFFFFFFF, 0x0, 0x0, []⟩,
  /- REF.IN_HIST -/ ⟨0x138, 10, 0x40, 1, 0x40, 0x0, 0x0, 0x0, 0x0, 0xFF00007F, 0x0, 0x0, 0x0, []⟩,
  /- REF.IN_RATE -/ ⟨0x13C, 10, 0x40, 1, 0x40, 0x0, 0x0, 0x0, 0x0, 0x0, 0xFFFFFFFF, 0x0, 0x0, []⟩]

/-- The registers of block 0x06 (R480). -/
def blockRegs6 : List RegFam := [
  /- SYN.NCSM_DITH -/ ⟨0x0, 1, 0x10000, 1, 0x10000, 0x0, 0xC0FFFFFF, 0x0, 0x0, 0x0, 0x0, 0x80000001, 0x0, []⟩,
  /- SYN.NCSN_DITH -/ ⟨0x4, 1, 0x10000, 1, 0x10000, 0x0, 0xC0FFFFFF, 0x0, 0x0, 0x0, 0x0, 0x80000001, 0x0, []⟩,
  /- SYN.NCSN_CFG -/ ⟨0x8, 1, 0x10000, 1, 0x10000, 0x0, 0x7F, 0x0, 0x0, 0x0, 0x0, 0x32, 0x0, []⟩,
  /- SYN.STAT -/ ⟨0x10, 1, 0x10000, 1, 0x10000, 0x0, 0x0, 0x0, 0x0, 0x0, 0xF, 0x0, 0x0, []⟩,
  /- SYN.HIST -/ ⟨0x14, 1, 0x10000, 1, 0x10000, 0x0, 0x0, 0x0, 0x0, 0xFF00003F, 0x0, 0x0, 0x0, []⟩,
  /- SYN.APLL_CTL -/ ⟨0x40, 4, 0x10, 1, 0x10, 0x0, 0x0, 0x1, 0x0, 0x0, 0x0, 0x0, 0x0, []⟩,
  /- SYN.APLL_STAT -/ ⟨0x44, 4, 0x10, 1, 0x10, 0x0, 0x0, 0x0, 0x0, 0x0, 0xE001FF3F, 0x0, 0x0, []⟩,
  /- SYN.APLL_LOSS -/ ⟨0x48, 4, 0x10, 1, 0x10, 0x0, 0x0, 0x0, 0x0, 0x0, 0xFFFFFFFF, 0x0, 0x0, []⟩,
  /- SYN.RAMPCTL -/ ⟨0x80, 1, 0x10000, 1, 0x10000, 0x0, 0x34, 0x3, 0x0, 0x0, 0x0, 0x4, 0x0, []⟩,
  /- SYN.RAMPAT -/ ⟨0x84, 1, 0x10000, 1, 0x10000, 0x0, 0xFFFFFFFF, 0x0, 0x0, 0x0, 0x0, 0x0, 0x0, []⟩,
  /- SYN.RAMPSTAT -/ ⟨0x88, 1, 0x10000, 1, 0x10000, 0x0, 0x0, 0x0, 0x0, 0x0, 0xF000000F, 0x0, 0x0, []⟩,
  /- SYN.RAMPPPT -/ ⟨0x8C, 1, 0x10000, 1, 0x10000, 0x0, 0x0, 0x0, 0x0, 0x0, 0xFFFFFFFF, 0x0, 0x0, []⟩,
  /- SYN.RAMPPHASE -/ ⟨0x90, 1, 0x10000, 1, 0x10000, 0x0, 0x0, 0x0, 0x0, 0x0, 0xFFFFFFFF, 0x0, 0x0, []⟩,
  /- SYN.SEG_TGT -/ ⟨0x100, 16, 0x8, 1, 0x8, 0x0, 0xFFFFFFFF, 0x0, 0x0, 0x0, 0x0, 0x0, 0x0, []⟩,
  /- SYN.SEG_DUR -/ ⟨0x104, 16, 0x8, 1, 0x8, 0x0, 0x80FFFFFF, 0x0, 0x0, 0x0, 0x0, 0x0, 0x0, []⟩,
  /- SYN.CKO_CFG -/ ⟨0x200, 12, 0x10, 1, 0x10, 0x0, 0xB00000FF, 0x0, 0x0, 0x0, 0x0, 0x0, 0x0, []⟩,
  /- SYN.CKO_DIV -/ ⟨0x204, 12, 0x10, 1, 0x10, 0x0, 0xFFFF, 0x0, 0x0, 0x0, 0x0, 0x5FFF, 0x0, []⟩,
  /- SYN.CKO_STAT -/ ⟨0x208, 12, 0x10, 1, 0x10, 0x0, 0x0, 0x0, 0x0, 0x0, 0xC00000FF, 0x0, 0x0, []⟩]

/-- The registers of block 0x07 (R480). -/
def blockRegs7 : List RegFam := [
  /- EIM.SLC_CFG -/ ⟨0x0, 4, 0x10, 1, 0x10, 0x0, 0xE07F1FFF, 0x0, 0x0, 0x0, 0x0, 0x320578, 0x0, []⟩,
  /- EIM.SLC_MINW -/ ⟨0x4, 4, 0x10, 1, 0x10, 0x0, 0xFFFF, 0x0, 0x0, 0x0, 0x0, 0xA, 0x0, []⟩,
  /- EIM.SLC_STAT -/ ⟨0x8, 4, 0x10, 1, 0x10, 0x0, 0x0, 0x0, 0x0, 0x0, 0x8000FFFF, 0x0, 0x0, []⟩,
  /- EIM.CFG -/ ⟨0x100, 1, 0x10000, 1, 0x10000, 0x838F0F0F, 0x0, 0x0, 0x0, 0x0, 0x0, 0x0, 0x0, []⟩,
  /- EIM.CTL -/ ⟨0x104, 1, 0x10000, 1, 0x10000, 0x0, 0x0, 0x3, 0x0, 0x0, 0x0, 0x0, 0x0, []⟩,
  /- EIM.TIMEOUT -/ ⟨0x108, 1, 0x10000, 1, 0x10000, 0xFFF, 0x0, 0x0, 0x0, 0x0, 0x0, 0x3E8, 0x0, []⟩,
  /- EIM.STAT -/ ⟨0x10C, 1, 0x10000, 1, 0x10000, 0x0, 0x0, 0x0, 0x0, 0x0, 0xF0000000, 0x0, 0x0, []⟩,
  /- EIM.RESSEQ -/ ⟨0x110, 1, 0x10000, 1, 0x10000, 0x0, 0x0, 0x0, 0x0, 0x0, 0xFFFFFFFF, 0x0, 0x0, []⟩,
  /- EIM.RESNS -/ ⟨0x114, 1, 0x10000, 1, 0x10000, 0x0, 0x0, 0x0, 0x0, 0x0, 0xFFFFFFFF, 0x0, 0x0, []⟩,
  /- EIM.RESFRAC -/ ⟨0x118, 1, 0x10000, 1, 0x10000, 0x0, 0x0, 0x0, 0x0, 0x0, 0xF80003FF, 0x0, 0x0, []⟩,
  /- EIM.RESEDGES -/ ⟨0x11C, 1, 0x10000, 1, 0x10000, 0x0, 0x0, 0x0, 0x0, 0x0, 0xFFFFFFFF, 0x0, 0x0, []⟩,
  /- EIM.HIST -/ ⟨0x120, 1, 0x10000, 1, 0x10000, 0x0, 0x0, 0x0, 0x0, 0xFF00000F, 0x0, 0x0, 0x0, []⟩]

/-- The registers of block 0x08 (R480). -/
def blockRegs8 : List RegFam := [
  /- TIME.NS -/ ⟨0x0, 1, 0x10000, 1, 0x10000, 0x0, 0x0, 0x0, 0x0, 0x0, 0xFFFFFFFF, 0x0, 0x0, []⟩,
  /- TIME.BTICK -/ ⟨0x4, 1, 0x10000, 1, 0x10000, 0x0, 0x0, 0x0, 0x0, 0x0, 0xFFFFFFFF, 0x0, 0x0, []⟩,
  /- TIME.BNS -/ ⟨0x8, 1, 0x10000, 1, 0x10000, 0x0, 0x0, 0x0, 0x0, 0x0, 0xFFFFFFFF, 0x0, 0x0, []⟩,
  /- TIME.MTORIGIN -/ ⟨0xC, 1, 0x10000, 1, 0x10000, 0x0, 0x0, 0x0, 0x0, 0x0, 0xFFFFFFFF, 0x0, 0x0, []⟩,
  /- TIME.CTL -/ ⟨0x10, 1, 0x10000, 1, 0x10000, 0x100, 0x0, 0x7, 0x0, 0x0, 0x80000000, 0x100, 0x0, []⟩,
  /- TIME.CAPNS -/ ⟨0x20, 1, 0x10000, 1, 0x10000, 0x0, 0x0, 0x0, 0x0, 0x0, 0xFFFFFFFF, 0x0, 0x0, []⟩,
  /- TIME.CAPSECLO -/ ⟨0x24, 1, 0x10000, 1, 0x10000, 0x0, 0x0, 0x0, 0x0, 0x0, 0xFFFFFFFF, 0x0, 0x0, []⟩,
  /- TIME.CAPSECHI -/ ⟨0x28, 1, 0x10000, 1, 0x10000, 0x0, 0x0, 0x0, 0x0, 0x0, 0xFFFF, 0x0, 0x0, []⟩,
  /- TIME.CAPNSEC -/ ⟨0x2C, 1, 0x10000, 1, 0x10000, 0x0, 0x0, 0x0, 0x0, 0x0, 0x3FFFFFFF, 0x0, 0x0, []⟩,
  /- TIME.SETSECLO -/ ⟨0x30, 1, 0x10000, 1, 0x10000, 0xFFFFFFFF, 0x0, 0x0, 0x0, 0x0, 0x0, 0x0, 0x0, []⟩,
  /- TIME.SETSECHI -/ ⟨0x34, 1, 0x10000, 1, 0x10000, 0xFFFF, 0x0, 0x0, 0x0, 0x0, 0x0, 0x0, 0x0, []⟩,
  /- TIME.SETNSEC -/ ⟨0x38, 1, 0x10000, 1, 0x10000, 0x3FFFFFFF, 0x0, 0x0, 0x0, 0x0, 0x0, 0x0, 0x0, []⟩,
  /- TIME.SRVCFG -/ ⟨0x40, 1, 0x10000, 1, 0x10000, 0x0, 0xE0000000, 0x0, 0x0, 0x0, 0x1, 0x80000000, 0x0, []⟩,
  /- TIME.SRVGAIN -/ ⟨0x44, 1, 0x10000, 1, 0x10000, 0x0, 0xFFFFFFFF, 0x0, 0x0, 0x0, 0x0, 0x3E80064, 0x0, []⟩,
  /- TIME.SRVSTEP -/ ⟨0x48, 1, 0x10000, 1, 0x10000, 0x0, 0xFFFFFFFF, 0x0, 0x0, 0x0, 0x0, 0x186A0, 0x0, []⟩,
  /- TIME.SRVIN -/ ⟨0x4C, 1, 0x10000, 1, 0x10000, 0xFFFFFFFF, 0x0, 0x0, 0x0, 0x0, 0x0, 0x0, 0x0, []⟩,
  /- TIME.SRVPPT -/ ⟨0x50, 1, 0x10000, 1, 0x10000, 0x0, 0x0, 0x0, 0x0, 0x0, 0xFFFFFFFF, 0x0, 0x0, []⟩,
  /- TIME.SRVOFS -/ ⟨0x54, 1, 0x10000, 1, 0x10000, 0x0, 0x0, 0x0, 0x0, 0x0, 0xFFFFFFFF, 0x0, 0x0, []⟩,
  /- TIME.PTP_CFG -/ ⟨0x80, 2, 0x20, 1, 0x20, 0x0, 0xFCFFFFF0, 0x8, 0x0, 0x0, 0x3000004, 0x400D100, 0x0, []⟩,
  /- TIME.PTP_CLS -/ ⟨0x84, 2, 0x20, 1, 0x20, 0x0, 0xFFFFFFFF, 0x0, 0x0, 0x0, 0x0, 0x80F8FE80, 0x0, []⟩,
  /- TIME.PTP_PARENT -/ ⟨0x88, 2, 0x20, 1, 0x20, 0x0, 0x0, 0x0, 0x0, 0x0, 0xFFFFFF, 0x0, 0x0, []⟩,
  /- TIME.PTP_OFS -/ ⟨0x8C, 2, 0x20, 1, 0x20, 0x0, 0x0, 0x0, 0x0, 0x0, 0xFFFFFFFF, 0x0, 0x0, []⟩,
  /- TIME.PTP_MPD -/ ⟨0x90, 2, 0x20, 1, 0x20, 0x0, 0x0, 0x0, 0x0, 0x0, 0xFFFFFFFF, 0x0, 0x0, []⟩,
  /- TIME.PTP_SAMPLES -/ ⟨0x94, 2, 0x20, 1, 0x20, 0x0, 0x0, 0x0, 0x0, 0x0, 0xFFFFFFFF, 0x0, 0x0, []⟩,
  /- TIME.PG_CFG -/ ⟨0x100, 8, 0x10, 1, 0x10, 0xF0000700, 0x0, 0x3, 0x0, 0x0, 0xC000000, 0x0, 0x100, []⟩,
  /- TIME.PG_START -/ ⟨0x104, 8, 0x10, 1, 0x10, 0xFFFFFFFF, 0x0, 0x0, 0x0, 0x0, 0x0, 0x0, 0x0, []⟩,
  /- TIME.PG_PERIOD -/ ⟨0x108, 8, 0x10, 1, 0x10, 0xFFFFFFFF, 0x0, 0x0, 0x0, 0x0, 0x0, 0x0, 0x0, []⟩,
  /- TIME.PG_WIDTH -/ ⟨0x10C, 8, 0x10, 1, 0x10, 0xFFFFFFFF, 0x0, 0x0, 0x0, 0x0, 0x0, 0x0, 0x0, []⟩,
  /- TIME.LTCRX_CFG -/ ⟨0x200, 1, 0x10000, 1, 0x10000, 0x0, 0x80000000, 0x0, 0x0, 0x0, 0x0, 0x0, 0x0, []⟩,
  /- TIME.LTCRX_STAT -/ ⟨0x204, 1, 0x10000, 1, 0x10000, 0x0, 0x0, 0x0, 0x0, 0x0, 0xFFC0FFFF, 0x0, 0x0, []⟩,
  /- TIME.LTCRX_TC -/ ⟨0x208, 1, 0x10000, 1, 0x10000, 0x0, 0x0, 0x0, 0x0, 0x0, 0xFFFFFFFF, 0x0, 0x0, []⟩,
  /- TIME.LTCRX_UB -/ ⟨0x20C, 1, 0x10000, 1, 0x10000, 0x0, 0x0, 0x0, 0x0, 0x0, 0xFFFFFFFF, 0x0, 0x0, []⟩,
  /- TIME.LTCRX_NS -/ ⟨0x210, 1, 0x10000, 1, 0x10000, 0x0, 0x0, 0x0, 0x0, 0x0, 0xFFFFFFFF, 0x0, 0x0, []⟩,
  /- TIME.LTCRX_SEQ -/ ⟨0x214, 1, 0x10000, 1, 0x10000, 0x0, 0x0, 0x0, 0x0, 0x0, 0xFFFFFFFF, 0x0, 0x0, []⟩,
  /- TIME.LTCTX_CFG -/ ⟨0x220, 1, 0x10000, 1, 0x10000, 0x0, 0xF0000000, 0x1, 0x0, 0x0, 0x8000000, 0x0, 0x0, []⟩,
  /- TIME.LTCTX_AT -/ ⟨0x224, 1, 0x10000, 1, 0x10000, 0x0, 0xFFFFFFFF, 0x0, 0x0, 0x0, 0x0, 0x0, 0x0, []⟩,
  /- TIME.LTCTX_TC -/ ⟨0x228, 1, 0x10000, 1, 0x10000, 0xFFFFFFFF, 0x0, 0x0, 0x0, 0x0, 0x0, 0x0, 0x0, []⟩,
  /- TIME.LTCTX_UB -/ ⟨0x22C, 1, 0x10000, 1, 0x10000, 0xFFFFFFFF, 0x0, 0x0, 0x0, 0x0, 0x0, 0x0, 0x0, []⟩,
  /- TIME.HIST -/ ⟨0x300, 1, 0x10000, 1, 0x10000, 0x0, 0x0, 0x0, 0x0, 0xFF0000FF, 0x0, 0x0, 0x0, []⟩]

/-- The registers of block 0x09 (R480). -/
def blockRegs9 : List RegFam := [
  /- NET.CFG -/ ⟨0x0, 1, 0x10000, 1, 0x10000, 0x0, 0xFC003FFF, 0x0, 0x0, 0x0, 0x0, 0x300005F2, 0x0, []⟩,
  /- NET.STAT -/ ⟨0x4, 1, 0x10000, 1, 0x10000, 0x0, 0x0, 0x0, 0x0, 0x0, 0xF0000000, 0x10000000, 0x0, []⟩,
  /- NET.MACLO -/ ⟨0x8, 1, 0x10000, 1, 0x10000, 0x0, 0xFFFFFFFF, 0x0, 0x0, 0x0, 0x0, 0x0, 0x0, []⟩,
  /- NET.MACHI -/ ⟨0xC, 1, 0x10000, 1, 0x10000, 0x0, 0xFFFF, 0x0, 0x0, 0x0, 0x0, 0x0, 0x0, []⟩,
  /- NET.IP4 -/ ⟨0x10, 1, 0x10000, 1, 0x10000, 0x0, 0xFFFFFFFF, 0x0, 0x0, 0x0, 0x0, 0x0, 0x0, []⟩,
  /- NET.IP6 -/ ⟨0x14, 4, 0x4, 1, 0x4, 0x0, 0xFFFFFFFF, 0x0, 0x0, 0x0, 0x0, 0x0, 0x0, []⟩,
  /- NET.PTPLAT -/ ⟨0x24, 1, 0x10000, 1, 0x10000, 0x0, 0xFFFFFFFF, 0x0, 0x0, 0x0, 0x0, 0x0, 0x0, []⟩,
  /- NET.RXFRAMES -/ ⟨0x40, 1, 0x10000, 1, 0x10000, 0x0, 0x0, 0x0, 0x0, 0x0, 0xFFFFFFFF, 0x0, 0x0, []⟩,
  /- NET.RXFCS -/ ⟨0x44, 1, 0x10000, 1, 0x10000, 0x0, 0x0, 0x0, 0x0, 0x0, 0xFFFFFFFF, 0x0, 0x0, []⟩,
  /- NET.RXDROP -/ ⟨0x48, 1, 0x10000, 1, 0x10000, 0x0, 0x0, 0x0, 0x0, 0x0, 0xFFFFFFFF, 0x0, 0x0, []⟩,
  /- NET.TXFRAMES -/ ⟨0x4C, 1, 0x10000, 1, 0x10000, 0x0, 0x0, 0x0, 0x0, 0x0, 0xFFFFFFFF, 0x0, 0x0, []⟩,
  /- NET.FECCORR -/ ⟨0x50, 1, 0x10000, 1, 0x10000, 0x0, 0x0, 0x0, 0x0, 0x0, 0xFFFFFFFF, 0x0, 0x0, []⟩,
  /- NET.FECUNCORR -/ ⟨0x54, 1, 0x10000, 1, 0x10000, 0x0, 0x0, 0x0, 0x0, 0x0, 0xFFFFFFFF, 0x0, 0x0, []⟩,
  /- NET.LINKDOWNS -/ ⟨0x58, 1, 0x10000, 1, 0x10000, 0x0, 0x0, 0x0, 0x0, 0x0, 0xFFFFFFFF, 0x0, 0x0, []⟩,
  /- NET.HIST -/ ⟨0x5C, 1, 0x10000, 1, 0x10000, 0x0, 0x0, 0x0, 0x0, 0xFF000007, 0x0, 0x0, 0x0, []⟩]

/-- The registers of block 0x0a (R480). -/
def blockRegs10 : List RegFam := [
  /- NET.CFG -/ ⟨0x0, 1, 0x10000, 1, 0x10000, 0x0, 0xFC003FFF, 0x0, 0x0, 0x0, 0x0, 0x300005F2, 0x0, []⟩,
  /- NET.STAT -/ ⟨0x4, 1, 0x10000, 1, 0x10000, 0x0, 0x0, 0x0, 0x0, 0x0, 0xF0000000, 0x10000000, 0x0, []⟩,
  /- NET.MACLO -/ ⟨0x8, 1, 0x10000, 1, 0x10000, 0x0, 0xFFFFFFFF, 0x0, 0x0, 0x0, 0x0, 0x0, 0x0, []⟩,
  /- NET.MACHI -/ ⟨0xC, 1, 0x10000, 1, 0x10000, 0x0, 0xFFFF, 0x0, 0x0, 0x0, 0x0, 0x0, 0x0, []⟩,
  /- NET.IP4 -/ ⟨0x10, 1, 0x10000, 1, 0x10000, 0x0, 0xFFFFFFFF, 0x0, 0x0, 0x0, 0x0, 0x0, 0x0, []⟩,
  /- NET.IP6 -/ ⟨0x14, 4, 0x4, 1, 0x4, 0x0, 0xFFFFFFFF, 0x0, 0x0, 0x0, 0x0, 0x0, 0x0, []⟩,
  /- NET.PTPLAT -/ ⟨0x24, 1, 0x10000, 1, 0x10000, 0x0, 0xFFFFFFFF, 0x0, 0x0, 0x0, 0x0, 0x0, 0x0, []⟩,
  /- NET.RXFRAMES -/ ⟨0x40, 1, 0x10000, 1, 0x10000, 0x0, 0x0, 0x0, 0x0, 0x0, 0xFFFFFFFF, 0x0, 0x0, []⟩,
  /- NET.RXFCS -/ ⟨0x44, 1, 0x10000, 1, 0x10000, 0x0, 0x0, 0x0, 0x0, 0x0, 0xFFFFFFFF, 0x0, 0x0, []⟩,
  /- NET.RXDROP -/ ⟨0x48, 1, 0x10000, 1, 0x10000, 0x0, 0x0, 0x0, 0x0, 0x0, 0xFFFFFFFF, 0x0, 0x0, []⟩,
  /- NET.TXFRAMES -/ ⟨0x4C, 1, 0x10000, 1, 0x10000, 0x0, 0x0, 0x0, 0x0, 0x0, 0xFFFFFFFF, 0x0, 0x0, []⟩,
  /- NET.FECCORR -/ ⟨0x50, 1, 0x10000, 1, 0x10000, 0x0, 0x0, 0x0, 0x0, 0x0, 0xFFFFFFFF, 0x0, 0x0, []⟩,
  /- NET.FECUNCORR -/ ⟨0x54, 1, 0x10000, 1, 0x10000, 0x0, 0x0, 0x0, 0x0, 0x0, 0xFFFFFFFF, 0x0, 0x0, []⟩,
  /- NET.LINKDOWNS -/ ⟨0x58, 1, 0x10000, 1, 0x10000, 0x0, 0x0, 0x0, 0x0, 0x0, 0xFFFFFFFF, 0x0, 0x0, []⟩,
  /- NET.HIST -/ ⟨0x5C, 1, 0x10000, 1, 0x10000, 0x0, 0x0, 0x0, 0x0, 0xFF000007, 0x0, 0x0, 0x0, []⟩]

/-- The registers of block 0x0b (R480). -/
def blockRegs11 : List RegFam := [
  /- NET.CFG -/ ⟨0x0, 1, 0x10000, 1, 0x10000, 0x0, 0xFC003FFF, 0x0, 0x0, 0x0, 0x0, 0x5F2, 0x0, []⟩,
  /- NET.STAT -/ ⟨0x4, 1, 0x10000, 1, 0x10000, 0x0, 0x0, 0x0, 0x0, 0x0, 0xF0000000, 0x10000000, 0x0, []⟩,
  /- NET.MACLO -/ ⟨0x8, 1, 0x10000, 1, 0x10000, 0x0, 0xFFFFFFFF, 0x0, 0x0, 0x0, 0x0, 0x0, 0x0, []⟩,
  /- NET.MACHI -/ ⟨0xC, 1, 0x10000, 1, 0x10000, 0x0, 0xFFFF, 0x0, 0x0, 0x0, 0x0, 0x0, 0x0, []⟩,
  /- NET.IP4 -/ ⟨0x10, 1, 0x10000, 1, 0x10000, 0x0, 0xFFFFFFFF, 0x0, 0x0, 0x0, 0x0, 0x0, 0x0, []⟩,
  /- NET.IP6 -/ ⟨0x14, 4, 0x4, 1, 0x4, 0x0, 0xFFFFFFFF, 0x0, 0x0, 0x0, 0x0, 0x0, 0x0, []⟩,
  /- NET.PTPLAT -/ ⟨0x24, 1, 0x10000, 1, 0x10000, 0x0, 0xFFFFFFFF, 0x0, 0x0, 0x0, 0x0, 0x0, 0x0, []⟩,
  /- NET.RXFRAMES -/ ⟨0x40, 1, 0x10000, 1, 0x10000, 0x0, 0x0, 0x0, 0x0, 0x0, 0xFFFFFFFF, 0x0, 0x0, []⟩,
  /- NET.RXFCS -/ ⟨0x44, 1, 0x10000, 1, 0x10000, 0x0, 0x0, 0x0, 0x0, 0x0, 0xFFFFFFFF, 0x0, 0x0, []⟩,
  /- NET.RXDROP -/ ⟨0x48, 1, 0x10000, 1, 0x10000, 0x0, 0x0, 0x0, 0x0, 0x0, 0xFFFFFFFF, 0x0, 0x0, []⟩,
  /- NET.TXFRAMES -/ ⟨0x4C, 1, 0x10000, 1, 0x10000, 0x0, 0x0, 0x0, 0x0, 0x0, 0xFFFFFFFF, 0x0, 0x0, []⟩,
  /- NET.FECCORR -/ ⟨0x50, 1, 0x10000, 1, 0x10000, 0x0, 0x0, 0x0, 0x0, 0x0, 0xFFFFFFFF, 0x0, 0x0, []⟩,
  /- NET.FECUNCORR -/ ⟨0x54, 1, 0x10000, 1, 0x10000, 0x0, 0x0, 0x0, 0x0, 0x0, 0xFFFFFFFF, 0x0, 0x0, []⟩,
  /- NET.LINKDOWNS -/ ⟨0x58, 1, 0x10000, 1, 0x10000, 0x0, 0x0, 0x0, 0x0, 0x0, 0xFFFFFFFF, 0x0, 0x0, []⟩,
  /- NET.HIST -/ ⟨0x5C, 1, 0x10000, 1, 0x10000, 0x0, 0x0, 0x0, 0x0, 0xFF000007, 0x0, 0x0, 0x0, []⟩]

/-- The registers of block 0x0c (R480). -/
def blockRegs12 : List RegFam := [
  /- SW.CTL -/ ⟨0x0, 1, 0x10000, 1, 0x10000, 0x0, 0xF000FFFF, 0x0, 0x0, 0x0, 0x0, 0x3000012C, 0x0, []⟩,
  /- SW.PVID -/ ⟨0x4, 4, 0x4, 1, 0x4, 0x0, 0xFFF, 0x0, 0x0, 0x0, 0x0, 0x1, 0x0, []⟩,
  /- SW.VLAN -/ ⟨0x100, 64, 0x4, 1, 0x4, 0x0, 0x8FF00FFF, 0x0, 0x0, 0x0, 0x0, 0x0, 0x0, [(0, 0x8FF00001)]⟩,
  /- SW.STEER -/ ⟨0x200, 16, 0x4, 1, 0x4, 0x0, 0xC00FFFFF, 0x0, 0x0, 0x0, 0x0, 0x0, 0x0, []⟩,
  /- SW.SHAPE -/ ⟨0x300, 2, 0x10, 4, 0x4, 0x0, 0xFFFF, 0x0, 0x0, 0x0, 0x0, 0x0, 0x0, []⟩,
  /- SW.GCLCTL -/ ⟨0x400, 1, 0x10000, 1, 0x10000, 0x0, 0x800001FF, 0x0, 0x0, 0x0, 0x0, 0x1, 0x0, []⟩,
  /- SW.GCLBASE -/ ⟨0x404, 1, 0x10000, 1, 0x10000, 0x0, 0xFFFFFFFF, 0x0, 0x0, 0x0, 0x0, 0x0, 0x0, []⟩,
  /- SW.GCLCYCLE -/ ⟨0x408, 1, 0x10000, 1, 0x10000, 0x0, 0xFFFFFFFF, 0x0, 0x0, 0x0, 0x0, 0x1E848, 0x0, []⟩,
  /- SW.GCLSTAT -/ ⟨0x40C, 1, 0x10000, 1, 0x10000, 0x0, 0x0, 0x0, 0x0, 0x0, 0x800000FF, 0x0, 0x0, []⟩,
  /- SW.MACCNT -/ ⟨0x500, 1, 0x10000, 1, 0x10000, 0x0, 0x0, 0x0, 0x0, 0x0, 0x1FFF, 0x0, 0x0, []⟩,
  /- SW.GRPCNT -/ ⟨0x504, 1, 0x10000, 1, 0x10000, 0x0, 0x0, 0x0, 0x0, 0x0, 0x7FF, 0x0, 0x0, []⟩,
  /- SW.DROPS -/ ⟨0x508, 1, 0x10000, 1, 0x10000, 0x0, 0x0, 0x0, 0x0, 0x0, 0xFFFFFFFF, 0x0, 0x0, []⟩,
  /- SW.HIST -/ ⟨0x50C, 1, 0x10000, 1, 0x10000, 0x0, 0x0, 0x0, 0x0, 0xFF000003, 0x0, 0x0, 0x0, []⟩,
  /- SW.NH_HI -/ ⟨0x1008, 255, 0x8, 1, 0x8, 0x0, 0xFFFFFFFF, 0x0, 0x0, 0x0, 0x0, 0x0, 0x0, []⟩,
  /- SW.NH_LO -/ ⟨0x100C, 255, 0x8, 1, 0x8, 0x0, 0xFFFF0001, 0x0, 0x0, 0x0, 0x0, 0x0, 0x0, []⟩]

/-- The registers of block 0x0d (R480). -/
def blockRegs13 : List RegFam := [
  /- FLOW.RXCTL -/ ⟨0x0, 1, 0x10000, 1, 0x10000, 0x0, 0x1, 0x0, 0x0, 0x0, 0x0, 0x1, 0x0, []⟩,
  /- FLOW.RXCLR -/ ⟨0x4, 1, 0x10000, 1, 0x10000, 0x40000FFF, 0x0, 0x80000000, 0x0, 0x0, 0x0, 0x0, 0x0, []⟩,
  /- FLOW.RXNOMATCH -/ ⟨0x8, 1, 0x10000, 1, 0x10000, 0x0, 0x0, 0x0, 0x0, 0x0, 0xFFFFFFFF, 0x0, 0x0, []⟩,
  /- FLOW.RXCOUNT -/ ⟨0xC, 1, 0x10000, 1, 0x10000, 0x0, 0x0, 0x0, 0x0, 0x0, 0xFFF0FFF, 0x0, 0x0, []⟩,
  /- FLOW.RXHIST -/ ⟨0x10, 1, 0x10000, 1, 0x10000, 0x0, 0x0, 0x0, 0x0, 0xFF00003F, 0x0, 0x0, 0x0, []⟩,
  /- FLOW.TXCTL -/ ⟨0x100, 1, 0x10000, 1, 0x10000, 0x0, 0x1, 0x0, 0x0, 0x0, 0x0, 0x1, 0x0, []⟩,
  /- FLOW.TXCLR -/ ⟨0x104, 1, 0x10000, 1, 0x10000, 0x40000FFF, 0x0, 0x80000000, 0x0, 0x0, 0x0, 0x0, 0x0, []⟩,
  /- FLOW.TXCOUNT -/ ⟨0x108, 1, 0x10000, 1, 0x10000, 0x0, 0x0, 0x0, 0x0, 0x0, 0x3FFF0FFF, 0x0, 0x0, []⟩,
  /- FLOW.TXHIST -/ ⟨0x10C, 1, 0x10000, 1, 0x10000, 0x0, 0x0, 0x0, 0x0, 0xFF00001F, 0x0, 0x0, 0x0, []⟩,
  /- FLOW.TXPROFILE -/ ⟨0x110, 1, 0x10000, 1, 0x10000, 0x30FFF, 0x0, 0x40000000, 0x0, 0x0, 0x80000000, 0x0, 0x0, []⟩,
  /- FLOW.PATCHSTAT -/ ⟨0x114, 1, 0x10000, 1, 0x10000, 0x0, 0x0, 0x0, 0x0, 0x0, 0x7FFF, 0x0, 0x0, []⟩,
  /- FLOW.PATCHCYC -/ ⟨0x118, 1, 0x10000, 1, 0x10000, 0x0, 0x0, 0x0, 0x0, 0x0, 0x1FFFFF, 0x0, 0x0, []⟩,
  /- FLOW.PATCHLATE -/ ⟨0x11C, 1, 0x10000, 1, 0x10000, 0x0, 0x0, 0x0, 0x0, 0x0, 0xFFFFFFFF, 0x0, 0x0, []⟩]

/-- The registers of block 0x0e (R480). -/
def blockRegs14 : List RegFam := [
  /- GE.PRESENT -/ ⟨0x0, 1, 0x10000, 1, 0x10000, 0x0, 0x0, 0x0, 0x0, 0x0, 0xFFFF, 0xFFFF, 0x0, []⟩,
  /- GE.BRACE -/ ⟨0x4, 1, 0x10000, 1, 0x10000, 0x0, 0xFF, 0x0, 0x0, 0x0, 0x0, 0x0, 0x0, []⟩,
  /- GE.CNTCLR -/ ⟨0x8, 1, 0x10000, 1, 0x10000, 0x0, 0x0, 0xFFFF, 0x0, 0x0, 0x0, 0x0, 0x0, []⟩,
  /- GE.LOADSTAT -/ ⟨0xC, 1, 0x10000, 1, 0x10000, 0x0, 0x0, 0x0, 0x0, 0x0, 0xF0FF0000, 0x0, 0x0, []⟩,
  /- GE.LIBVER -/ ⟨0x10, 1, 0x10000, 1, 0x10000, 0x0, 0x0, 0x0, 0x0, 0x0, 0xFFFFFFFF, 0x0, 0x0, []⟩,
  /- GE.PROVEN -/ ⟨0x40, 16, 0x4, 1, 0x4, 0x0, 0x0, 0x0, 0x0, 0x0, 0x1FFFFF, 0x1, 0x0, []⟩,
  /- GE.PROFILE -/ ⟨0x80, 16, 0x4, 1, 0x4, 0x0, 0x1FFFF, 0x1000000, 0x0, 0x0, 0x80000000, 0x0, 0x0, []⟩,
  /- GE.DRAMB -/ ⟨0xC0, 16, 0x4, 1, 0x4, 0x0, 0x0, 0x0, 0x0, 0x0, 0xFFFFFFFF, 0x0, 0x0, []⟩,
  /- GE.CTL -/ ⟨0x100, 16, 0x40, 1, 0x40, 0x0, 0xFF07, 0x0, 0x0, 0x0, 0x0, 0x803, 0x0, []⟩,
  /- GE.ENTRY -/ ⟨0x104, 16, 0x40, 1, 0x40, 0x0, 0xFFFC, 0x0, 0x0, 0x0, 0x0, 0x0, 0x0, []⟩,
  /- GE.STAT -/ ⟨0x108, 16, 0x40, 1, 0x40, 0x0, 0x0, 0x0, 0x0, 0x0, 0x3FFF1F, 0x1, 0x0, []⟩,
  /- GE.PC -/ ⟨0x10C, 16, 0x40, 1, 0x40, 0x0, 0x0, 0x0, 0x0, 0x0, 0xFFFC, 0x0, 0x0, []⟩,
  /- GE.LASTCYC -/ ⟨0x110, 16, 0x40, 1, 0x40, 0x0, 0x0, 0x0, 0x0, 0x0, 0x1FFFFF, 0x0, 0x0, []⟩,
  /- GE.PEAKCYC -/ ⟨0x114, 16, 0x40, 1, 0x40, 0x0, 0x0, 0x0, 0x0, 0x0, 0x1FFFFF, 0x0, 0x0, []⟩,
  /- GE.RASTART -/ ⟨0x118, 16, 0x40, 1, 0x40, 0x0, 0x0, 0x0, 0x0, 0x0, 0xFFFFFFFF, 0x0, 0x0, []⟩,
  /- GE.RARETIRE -/ ⟨0x11C, 16, 0x40, 1, 0x40, 0x0, 0x0, 0x0, 0x0, 0x0, 0xFFFFFFFF, 0x0, 0x0, []⟩,
  /- GE.SQEPOCH -/ ⟨0x120, 16, 0x40, 1, 0x40, 0x0, 0x0, 0x0, 0x0, 0x0, 0xFFFFFFFF, 0x0, 0x0, []⟩,
  /- GE.SQREWIND -/ ⟨0x124, 16, 0x40, 1, 0x40, 0x0, 0x0, 0x0, 0x0, 0x0, 0xFFFFFFFF, 0x0, 0x0, []⟩,
  /- GE.SQMUZZLE -/ ⟨0x128, 16, 0x40, 1, 0x40, 0x0, 0x0, 0x0, 0x0, 0x0, 0xFFFFFFFF, 0x0, 0x0, []⟩,
  /- GE.RSBSTALL -/ ⟨0x12C, 16, 0x40, 1, 0x40, 0x0, 0x0, 0x0, 0x0, 0x0, 0xFFFFFFFF, 0x0, 0x0, []⟩,
  /- GE.OVERRUN -/ ⟨0x130, 16, 0x40, 1, 0x40, 0x0, 0x0, 0x0, 0x0, 0x0, 0xFFFFFFFF, 0x0, 0x0, []⟩,
  /- GE.SXMWAIT -/ ⟨0x134, 16, 0x40, 1, 0x40, 0x0, 0x0, 0x0, 0x0, 0x0, 0xFFFFFFFF, 0x0, 0x0, []⟩,
  /- GE.HIST -/ ⟨0x138, 16, 0x40, 1, 0x40, 0x0, 0x0, 0x0, 0x0, 0xFF00001F, 0x0, 0x0, 0x0, []⟩]

/-- The registers of block 0x0f (R480). -/
def blockRegs15 : List RegFam := [
  /- SAP.LOAD -/ ⟨0x0, 1, 0x10000, 1, 0x10000, 0x0, 0x0, 0x0, 0x0, 0x0, 0x7FF07FF, 0x0, 0x0, []⟩,
  /- SAP.CG_CFG -/ ⟨0x100, 8, 0x40, 1, 0x40, 0x0, 0xFFFF001E, 0x0, 0x0, 0x0, 0x0, 0x820000, 0x0, []⟩,
  /- SAP.CG_SLIP -/ ⟨0x104, 8, 0x40, 1, 0x40, 0x0, 0x3F3F, 0x0, 0x0, 0x0, 0x0, 0xC04, 0x0, []⟩,
  /- SAP.CG_STAT -/ ⟨0x108, 8, 0x40, 1, 0x40, 0x0, 0x0, 0x0, 0x0, 0x0, 0xC07F7F00, 0x0, 0x0, []⟩,
  /- SAP.CG_OFS -/ ⟨0x10C, 8, 0x40, 1, 0x40, 0x0, 0x0, 0x0, 0x0, 0x0, 0xFFFFFFFF, 0x0, 0x0, []⟩,
  /- SAP.CG_DROPIN -/ ⟨0x110, 8, 0x40, 1, 0x40, 0x0, 0x0, 0x0, 0x0, 0x0, 0xFFFFFFFF, 0x0, 0x0, []⟩,
  /- SAP.CG_REPIN -/ ⟨0x114, 8, 0x40, 1, 0x40, 0x0, 0x0, 0x0, 0x0, 0x0, 0xFFFFFFFF, 0x0, 0x0, []⟩,
  /- SAP.CG_DROPOUT -/ ⟨0x118, 8, 0x40, 1, 0x40, 0x0, 0x0, 0x0, 0x0, 0x0, 0xFFFFFFFF, 0x0, 0x0, []⟩,
  /- SAP.CG_REPOUT -/ ⟨0x11C, 8, 0x40, 1, 0x40, 0x0, 0x0, 0x0, 0x0, 0x0, 0xFFFFFFFF, 0x0, 0x0, []⟩,
  /- SAP.CG_FRAMEERR -/ ⟨0x120, 8, 0x40, 1, 0x40, 0x0, 0x0, 0x0, 0x0, 0x0, 0xFFFFFFFF, 0x0, 0x0, []⟩,
  /- SAP.CG_HIST -/ ⟨0x124, 8, 0x40, 1, 0x40, 0x0, 0x0, 0x0, 0x0, 0xFF00001F, 0x0, 0x0, 0x0, []⟩,
  /- SAP.P_CFG -/ ⟨0x400, 32, 0x10, 1, 0x10, 0x0, 0xE7000000, 0x0, 0x0, 0x0, 0x0, 0x0, 0x0, []⟩,
  /- SAP.P_BUF -/ ⟨0x404, 32, 0x10, 1, 0x10, 0x0, 0x1FFF1FFF, 0x0, 0x0, 0x0, 0x0, 0x0, 0x0, []⟩,
  /- SAP.P_ASRC -/ ⟨0x408, 32, 0x10, 1, 0x10, 0x0, 0xF0F, 0x0, 0x0, 0x0, 0x0, 0x0, 0x0, []⟩]

/-- The registers of block 0x10 (R480). -/
def blockRegs16 : List RegFam := [
  /- AES.RX_CFG -/ ⟨0x100, 8, 0x80, 1, 0x80, 0x0, 0xFE0F1FFF, 0x0, 0x0, 0x0, 0x0, 0x0, 0x0, []⟩,
  /- AES.RX_SLIP -/ ⟨0x104, 8, 0x80, 1, 0x80, 0x0, 0x3F3F, 0x0, 0x0, 0x0, 0x0, 0xC04, 0x0, []⟩,
  /- AES.RX_STAT -/ ⟨0x108, 8, 0x80, 1, 0x80, 0x0, 0x0, 0x0, 0x0, 0x0, 0xFC7F00FF, 0xC000000, 0x0, []⟩,
  /- AES.RX_OFS -/ ⟨0x10C, 8, 0x80, 1, 0x80, 0x0, 0x0, 0x0, 0x0, 0x0, 0xFFFFFFFF, 0x0, 0x0, []⟩,
  /- AES.RX_ERR -/ ⟨0x110, 8, 0x80, 1, 0x80, 0x0, 0x0, 0x0, 0x0, 0x0, 0xFFFFFFFF, 0x0, 0x0, []⟩,
  /- AES.RX_SLIPCNT -/ ⟨0x114, 8, 0x80, 1, 0x80, 0x0, 0x0, 0x0, 0x0, 0x0, 0xFFFFFFFF, 0x0, 0x0, []⟩,
  /- AES.RX_VCNT -/ ⟨0x118, 8, 0x80, 1, 0x80, 0x0, 0x0, 0x0, 0x0, 0x0, 0xFFFFFFFF, 0x0, 0x0, []⟩,
  /- AES.RX_HIST -/ ⟨0x11C, 8, 0x80, 1, 0x80, 0x0, 0x0, 0x0, 0x0, 0xFF00007F, 0x0, 0x0, 0x0, []⟩,
  /- AES.RX_CSA -/ ⟨0x140, 8, 0x80, 6, 0x4, 0x0, 0x0, 0x0, 0x0, 0x0, 0xFFFFFFFF, 0x0, 0x0, []⟩,
  /- AES.RX_CSB -/ ⟨0x160, 8, 0x80, 6, 0x4, 0x0, 0x0, 0x0, 0x0, 0x0, 0xFFFFFFFF, 0x0, 0x0, []⟩,
  /- AES.TX_CFG -/ ⟨0x500, 8, 0x40, 1, 0x40, 0x0, 0xEC001FFF, 0x0, 0x0, 0x0, 0x0, 0x0, 0x0, []⟩,
  /- AES.TX_CS -/ ⟨0x504, 8, 0x40, 6, 0x4, 0x0, 0xFFFFFFFF, 0x0, 0x0, 0x0, 0x0, 0x0, 0x0, []⟩,
  /- AES.TX_BLKERR -/ ⟨0x51C, 8, 0x40, 1, 0x40, 0x0, 0x0, 0x0, 0x0, 0x0, 0xFFFFFFFF, 0x0, 0x0, []⟩,
  /- AES.MD_CFG -/ ⟨0x800, 4, 0x80, 1, 0x80, 0x0, 0xFFBF0F00, 0x0, 0x0, 0x0, 0x0, 0x0, 0x0, []⟩,
  /- AES.MD_BUF -/ ⟨0x804, 4, 0x80, 1, 0x80, 0x0, 0x1FFF1FFF, 0x0, 0x0, 0x0, 0x0, 0x0, 0x0, []⟩,
  /- AES.MD_SLIP -/ ⟨0x808, 4, 0x80, 1, 0x80, 0x0, 0x3F3F, 0x0, 0x0, 0x0, 0x0, 0xC04, 0x0, []⟩,
  /- AES.MD_STAT -/ ⟨0x80C, 4, 0x80, 1, 0x80, 0x0, 0x0, 0x0, 0x0, 0x0, 0xC07F00FF, 0x0, 0x0, []⟩,
  /- AES.MD_ERR -/ ⟨0x810, 4, 0x80, 1, 0x80, 0x0, 0x0, 0x0, 0x0, 0x0, 0xFFFFFFFF, 0x0, 0x0, []⟩,
  /- AES.MD_SLIPCNT -/ ⟨0x814, 4, 0x80, 1, 0x80, 0x0, 0x0, 0x0, 0x0, 0x0, 0xFFFFFFFF, 0x0, 0x0, []⟩,
  /- AES.MD_HIST -/ ⟨0x818, 4, 0x80, 1, 0x80, 0x0, 0x0, 0x0, 0x0, 0xFF00007F, 0x0, 0x0, 0x0, []⟩,
  /- AES.MD_INACTIVE -/ ⟨0x81C, 4, 0x80, 1, 0x80, 0x0, 0x0, 0x0, 0x0, 0x0, 0xFFFFFFFF, 0x0, 0x0, []⟩,
  /- AES.MD_CS -/ ⟨0x820, 4, 0x80, 6, 0x4, 0x0, 0x0, 0x0, 0x0, 0x0, 0xFFFFFFFF, 0x0, 0x0, []⟩]

/-- The registers of block 0x11 (R480). -/
def blockRegs17 : List RegFam := [
  /- ASRC.G_STAT -/ ⟨0x100, 16, 0x10, 1, 0x10, 0x0, 0x0, 0x0, 0x0, 0x0, 0xF800FF1F, 0x0, 0x0, []⟩,
  /- ASRC.G_RATIO -/ ⟨0x104, 16, 0x10, 1, 0x10, 0x0, 0x0, 0x0, 0x0, 0x0, 0xFFFFFFFF, 0x0, 0x0, []⟩,
  /- ASRC.G_HIST -/ ⟨0x108, 16, 0x10, 1, 0x10, 0x0, 0x0, 0x0, 0x0, 0xFF000007, 0x0, 0x0, 0x0, []⟩]

/-- The registers of block 0x12 (R480). -/
def blockRegs18 : List RegFam := [
  /- DRAM.CFG -/ ⟨0x0, 1, 0x10000, 1, 0x10000, 0x0, 0xC0000037, 0x0, 0x0, 0x0, 0x0, 0x24, 0x0, []⟩,
  /- DRAM.STAT -/ ⟨0x4, 1, 0x10000, 1, 0x10000, 0x0, 0x0, 0x0, 0x0, 0x0, 0x807FFFFF, 0x0, 0x0, []⟩,
  /- DRAM.TDRAM -/ ⟨0x8, 1, 0x10000, 1, 0x10000, 0x0, 0x0, 0x0, 0x0, 0x0, 0xFFFF, 0x0, 0x0, []⟩,
  /- DRAM.LOAD -/ ⟨0xC, 1, 0x10000, 1, 0x10000, 0x0, 0x0, 0x0, 0x0, 0x0, 0xFFFF03FF, 0x0, 0x0, []⟩,
  /- DRAM.HOSTRESV -/ ⟨0x10, 1, 0x10000, 1, 0x10000, 0x0, 0xFFFF, 0x0, 0x0, 0x0, 0x0, 0x40, 0x0, []⟩,
  /- DRAM.RESV -/ ⟨0x40, 16, 0x4, 1, 0x4, 0x0, 0xFFFF, 0x0, 0x0, 0x0, 0x0, 0x0, 0x0, []⟩,
  /- DRAM.ECCCORR -/ ⟨0x80, 1, 0x10000, 1, 0x10000, 0x0, 0x0, 0x0, 0x0, 0x0, 0xFFFFFFFF, 0x0, 0x0, []⟩,
  /- DRAM.ECCUNCORR -/ ⟨0x84, 1, 0x10000, 1, 0x10000, 0x0, 0x0, 0x0, 0x0, 0x0, 0xFFFFFFFF, 0x0, 0x0, []⟩,
  /- DRAM.LATE -/ ⟨0x88, 6, 0x4, 1, 0x4, 0x0, 0x0, 0x0, 0x0, 0x0, 0xFFFFFFFF, 0x0, 0x0, []⟩,
  /- DRAM.HIST -/ ⟨0xA0, 1, 0x10000, 1, 0x10000, 0x0, 0x0, 0x0, 0x0, 0xFF000007, 0x0, 0x0, 0x0, []⟩]

/-- The registers of block 0x13 (R480). -/
def blockRegs19 : List RegFam := [
  /- CUE.CFG -/ ⟨0x0, 1, 0x10000, 1, 0x10000, 0x0, 0x86001FFF, 0x0, 0x0, 0x0, 0x0, 0x0, 0x0, []⟩,
  /- CUE.VCMD -/ ⟨0x4, 1, 0x10000, 1, 0x10000, 0xFF, 0x0, 0xC0000000, 0x0, 0x0, 0x0, 0x0, 0x0, []⟩,
  /- CUE.CAPCTL -/ ⟨0x10, 1, 0x10000, 1, 0x10000, 0x0, 0xC6000000, 0x3, 0x0, 0x0, 0x0, 0x0, 0x0, []⟩,
  /- CUE.CAPBASE -/ ⟨0x14, 1, 0x10000, 1, 0x10000, 0x0, 0x3FFFFF, 0x0, 0x0, 0x0, 0x0, 0x0, 0x0, []⟩,
  /- CUE.CAPLEN -/ ⟨0x18, 1, 0x10000, 1, 0x10000, 0x0, 0x7FFFFF, 0x0, 0x0, 0x0, 0x0, 0x0, 0x0, []⟩,
  /- CUE.CAPSTAT -/ ⟨0x40, 1, 0x10000, 1, 0x10000, 0x0, 0x0, 0x0, 0x0, 0x0, 0xC0000000, 0x0, 0x0, []⟩,
  /- CUE.CAPWRPTR -/ ⟨0x44, 1, 0x10000, 1, 0x10000, 0x0, 0x0, 0x0, 0x0, 0x0, 0xFFFFFFFF, 0x0, 0x0, []⟩,
  /- CUE.CAPRECS -/ ⟨0x48, 1, 0x10000, 1, 0x10000, 0x0, 0x0, 0x0, 0x0, 0x0, 0xFFFFFFFF, 0x0, 0x0, []⟩,
  /- CUE.CAPDROP -/ ⟨0x4C, 1, 0x10000, 1, 0x10000, 0x0, 0x0, 0x0, 0x0, 0x0, 0xFFFFFFFF, 0x0, 0x0, []⟩,
  /- CUE.HIST -/ ⟨0x50, 1, 0x10000, 1, 0x10000, 0x0, 0x0, 0x0, 0x0, 0xFF000007, 0x0, 0x0, 0x0, []⟩,
  /- CUE.CAPSRC -/ ⟨0x60, 8, 0x8, 1, 0x8, 0x0, 0x83FFFFFF, 0x0, 0x0, 0x0, 0x0, 0x0, 0x0, []⟩,
  /- CUE.CAPNCH -/ ⟨0x64, 8, 0x8, 1, 0x8, 0x0, 0x3FF, 0x0, 0x0, 0x0, 0x0, 0x0, 0x0, []⟩]

/-- The registers of block 0x14 (R480). -/
def blockRegs20 : List RegFam := [
  /- PAIR.CFG -/ ⟨0x0, 1, 0x10000, 1, 0x10000, 0x0, 0xF8FF0000, 0x0, 0x0, 0x0, 0x0, 0x400000, 0x0, []⟩,
  /- PAIR.TAKEOVER_RISE -/ ⟨0x4, 1, 0x10000, 1, 0x10000, 0x0, 0xFFFF, 0x0, 0x0, 0x0, 0x0, 0x20, 0x0, []⟩,
  /- PAIR.WITNESS -/ ⟨0x8, 1, 0x10000, 1, 0x10000, 0x0, 0x3FFFF, 0x0, 0x0, 0x0, 0x0, 0x215EA, 0x0, []⟩,
  /- PAIR.PAIRID -/ ⟨0xC, 1, 0x10000, 1, 0x10000, 0x0, 0xFFFFFFFF, 0x0, 0x0, 0x0, 0x0, 0x0, 0x0, []⟩,
  /- PAIR.CONVERGE -/ ⟨0x10, 1, 0x10000, 1, 0x10000, 0x0, 0xFFFFFF, 0x0, 0x0, 0x0, 0x0, 0x1F40, 0x0, []⟩,
  /- PAIR.STAT -/ ⟨0x40, 1, 0x10000, 1, 0x10000, 0x0, 0x0, 0x0, 0x0, 0x0, 0xFF800000, 0x0, 0x0, []⟩,
  /- PAIR.SKEW -/ ⟨0x44, 1, 0x10000, 1, 0x10000, 0x0, 0x0, 0x0, 0x0, 0x0, 0xFFFFFFFF, 0x0, 0x0, []⟩,
  /- PAIR.RTT -/ ⟨0x48, 1, 0x10000, 1, 0x10000, 0x0, 0x0, 0x0, 0x0, 0x0, 0xFFFFFFFF, 0x0, 0x0, []⟩,
  /- PAIR.MIRACK -/ ⟨0x4C, 1, 0x10000, 1, 0x10000, 0x0, 0x0, 0x0, 0x0, 0x0, 0xFFFFFFFF, 0x0, 0x0, []⟩,
  /- PAIR.VOTESEQLO -/ ⟨0x50, 1, 0x10000, 1, 0x10000, 0x0, 0x0, 0x0, 0x0, 0x0, 0xFFFFFFFF, 0x0, 0x0, []⟩,
  /- PAIR.VOTESEQHI -/ ⟨0x54, 1, 0x10000, 1, 0x10000, 0x0, 0x0, 0x0, 0x0, 0x0, 0xFFFFFFFF, 0x0, 0x0, []⟩,
  /- PAIR.BARKMISS -/ ⟨0x60, 1, 0x10000, 1, 0x10000, 0x0, 0x0, 0x0, 0x0, 0x0, 0xFFFFFFFF, 0x0, 0x0, []⟩,
  /- PAIR.DIGESTERR -/ ⟨0x64, 1, 0x10000, 1, 0x10000, 0x0, 0x0, 0x0, 0x0, 0x0, 0xFFFFFFFF, 0x0, 0x0, []⟩,
  /- PAIR.TAKEOVERS -/ ⟨0x68, 1, 0x10000, 1, 0x10000, 0x0, 0x0, 0x0, 0x0, 0x0, 0xFFFFFFFF, 0x0, 0x0, []⟩,
  /- PAIR.WITBAD -/ ⟨0x6C, 1, 0x10000, 1, 0x10000, 0x0, 0x0, 0x0, 0x0, 0x0, 0xFFFFFFFF, 0x0, 0x0, []⟩,
  /- PAIR.BADTAG -/ ⟨0x70, 1, 0x10000, 1, 0x10000, 0x0, 0x0, 0x0, 0x0, 0x0, 0xFFFFFFFF, 0x0, 0x0, []⟩,
  /- PAIR.HIST -/ ⟨0x80, 1, 0x10000, 1, 0x10000, 0x0, 0x0, 0x0, 0x0, 0xFF00007F, 0x0, 0x0, 0x0, []⟩]

/-- The registers of block 0x15 (R480). -/
def blockRegs21 : List RegFam := [
  /- MON.RAIL -/ ⟨0x0, 9, 0x4, 1, 0x4, 0x0, 0x0, 0x0, 0x0, 0x0, 0xC000FFFF, 0x0, 0x0, []⟩,
  /- MON.TEMP -/ ⟨0x40, 1, 0x10000, 1, 0x10000, 0x0, 0x0, 0x0, 0x0, 0x0, 0xFFFFFFFF, 0x0, 0x0, []⟩,
  /- MON.TWARN -/ ⟨0x44, 1, 0x10000, 1, 0x10000, 0xFFFF, 0x0, 0x0, 0x0, 0x0, 0x0, 0x3E8, 0x0, []⟩,
  /- MON.WEAR -/ ⟨0x48, 1, 0x10000, 1, 0x10000, 0x0, 0x0, 0x0, 0x0, 0x0, 0xFFFF, 0x0, 0x0, []⟩,
  /- MON.HIST -/ ⟨0x4C, 1, 0x10000, 1, 0x10000, 0x0, 0x0, 0x0, 0x0, 0xFF00000F, 0x0, 0x0, 0x0, []⟩]

/-- The registers of block 0x16 (R480). -/
def blockRegs22 : List RegFam := [
  /- KNL.K_CFG -/ ⟨0x100, 64, 0x40, 1, 0x40, 0x0, 0x7FF07FF, 0x0, 0x0, 0x0, 0x80000000, 0x10, 0x100000, [(0, 0x80000010), (1, 0x80100010)]⟩,
  /- KNL.K_STAT -/ ⟨0x104, 64, 0x40, 1, 0x40, 0x0, 0x0, 0x0, 0x0, 0x0, 0xC00FFFFF, 0x0, 0x0, []⟩,
  /- KNL.K_PKTS -/ ⟨0x108, 64, 0x40, 1, 0x40, 0x0, 0x0, 0x0, 0x0, 0x0, 0xFFFFF, 0x0, 0x0, []⟩,
  /- KNL.K_WM -/ ⟨0x10C, 64, 0x40, 1, 0x40, 0xFFFFF, 0x0, 0x0, 0x0, 0x0, 0x0, 0x1000, 0x0, []⟩,
  /- KNL.K_HIST -/ ⟨0x110, 64, 0x40, 1, 0x40, 0x0, 0x0, 0x0, 0x0, 0xFF00001F, 0x0, 0x0, 0x0, []⟩,
  /- KNL.K_CROSSCNT -/ ⟨0x114, 64, 0x40, 1, 0x40, 0x0, 0x0, 0x0, 0x0, 0x0, 0xFFFFFFFF, 0x0, 0x0, []⟩,
  /- KNL.K_CECNT -/ ⟨0x118, 64, 0x40, 1, 0x40, 0x0, 0x0, 0x0, 0x0, 0x0, 0xFFFFFFFF, 0x0, 0x0, []⟩,
  /- KNL.K_UECNT -/ ⟨0x11C, 64, 0x40, 1, 0x40, 0x0, 0x0, 0x0, 0x0, 0x0, 0xFFFFFFFF, 0x0, 0x0, []⟩,
  /- KNL.K_REFUSED -/ ⟨0x120, 64, 0x40, 1, 0x40, 0x0, 0x0, 0x0, 0x0, 0x0, 0xFFFFFFFF, 0x0, 0x0, []⟩,
  /- KNL.K_RSTDROP -/ ⟨0x124, 64, 0x40, 1, 0x40, 0x0, 0x0, 0x0, 0x0, 0x0, 0xFFFFFFFF, 0x0, 0x0, []⟩,
  /- KNL.K_RST -/ ⟨0x128, 64, 0x40, 1, 0x40, 0x0, 0x0, 0x1, 0x0, 0x0, 0x0, 0x0, 0x0, []⟩]

/-- The registers of block 0x17 (R480). -/
def blockRegs23 : List RegFam := [
  /- HRD.MUZCFG -/ ⟨0x0, 1, 0x10000, 1, 0x10000, 0x0, 0xFFFFFFF, 0x0, 0x0, 0x0, 0x0, 0x3001E0, 0x0, []⟩,
  /- HRD.MUZHOLD -/ ⟨0x4, 1, 0x10000, 1, 0x10000, 0x0, 0xFF, 0x0, 0x0, 0x0, 0x0, 0x8, 0x0, []⟩,
  /- HRD.ZCTHR -/ ⟨0x8, 1, 0x10000, 1, 0x10000, 0x0, 0xFFFFFF, 0x0, 0x0, 0x0, 0x0, 0x10, 0x0, []⟩,
  /- HRD.ZCTIME -/ ⟨0xC, 1, 0x10000, 1, 0x10000, 0x0, 0xFFFF, 0x0, 0x0, 0x0, 0x0, 0x1E0, 0x0, []⟩,
  /- HRD.LANESEL -/ ⟨0x10, 1, 0x10000, 1, 0x10000, 0x3FFFFFF, 0x0, 0x0, 0x0, 0x0, 0x0, 0x0, 0x0, []⟩,
  /- HRD.LANESTAT -/ ⟨0x14, 1, 0x10000, 1, 0x10000, 0x0, 0x0, 0x0, 0x0, 0x0, 0xFFFFFF07, 0x2, 0x0, []⟩,
  /- HRD.HIST -/ ⟨0x18, 1, 0x10000, 1, 0x10000, 0x0, 0x0, 0x0, 0x0, 0xFF00000F, 0x0, 0x0, 0x0, []⟩,
  /- HRD.H_CTL -/ ⟨0x100, 16, 0x20, 1, 0x20, 0x0, 0xE0070003, 0x0, 0x0, 0x0, 0x0, 0x0, 0x0, []⟩,
  /- HRD.H_AT -/ ⟨0x104, 16, 0x20, 1, 0x20, 0x0, 0xFFFFFFFF, 0x0, 0x0, 0x0, 0x0, 0x0, 0x0, []⟩,
  /- HRD.H_CMD -/ ⟨0x108, 16, 0x20, 1, 0x20, 0x0, 0x0, 0x7, 0x0, 0x0, 0x0, 0x0, 0x0, []⟩,
  /- HRD.H_STAT -/ ⟨0x10C, 16, 0x20, 1, 0x20, 0x0, 0x0, 0x0, 0x0, 0x0, 0x3FF, 0x0, 0x0, []⟩,
  /- HRD.H_START -/ ⟨0x110, 16, 0x20, 1, 0x20, 0x0, 0x0, 0x0, 0x0, 0x0, 0xFFFFFFFF, 0x0, 0x0, []⟩,
  /- HRD.H_STATE -/ ⟨0x11C, 16, 0x20, 1, 0x20, 0x0, 0x0, 0x0, 0x0, 0x0, 0x7, 0x0, 0x0, []⟩]

/-- The register families of block `b`. -/
def blockRegs (b : Nat) : List RegFam :=
  match b with
  | 0 => blockRegs0
  | 1 => blockRegs1
  | 2 => blockRegs2
  | 3 => blockRegs3
  | 4 => blockRegs4
  | 5 => blockRegs5
  | 6 => blockRegs6
  | 7 => blockRegs7
  | 8 => blockRegs8
  | 9 => blockRegs9
  | 10 => blockRegs10
  | 11 => blockRegs11
  | 12 => blockRegs12
  | 13 => blockRegs13
  | 14 => blockRegs14
  | 15 => blockRegs15
  | 16 => blockRegs16
  | 17 => blockRegs17
  | 18 => blockRegs18
  | 19 => blockRegs19
  | 20 => blockRegs20
  | 21 => blockRegs21
  | 22 => blockRegs22
  | 23 => blockRegs23
  | _ => []

/-- The index of the register of family `f` at block offset `o`, or none where none of `f` stands there. -/
def RegFam.index (f : RegFam) (o : Nat) : Option Nat :=
  if o < f.off then none
  else
    let d := o - f.off
    let i := d / f.s1
    let r := d % f.s1
    let j := r / f.s2
    if i < f.n1 ∧ j < f.n2 ∧ r % f.s2 = 0 then some (i * f.n2 + j) else none

/-- The first family of a list with a register at offset `o`, with its index. -/
def findReg : List RegFam → Nat → Option (RegFam × Nat)
  | [], _ => none
  | f :: fs, o =>
    match f.index o with
    | some i => some (f, i)
    | none => findReg fs o

/-- The register at BAR0 offset `a` of the normal space, if its chapter lists one (R480, R481). -/
def regAt (a : Nat) : Option (RegFam × Nat) := findReg (blockRegs (a / 0x10000)) (a % 0x10000)

/-- The reset value of register `i` of a family. -/
def RegFam.resetOf (f : RegFam) (i : Nat) : Nat :=
  match Store.find f.special i with
  | some v => v
  | none => f.reset + f.step * i

end Sys2Proof.Machine
end

