-- ==== Sys2Proof/Machine/State.lean ====
section
/-!
DEFINITION. The state of the block: everything the spec gives Beleno, as plain data.

The words that a host can address (registers, tables, program memory, descriptors, status records, the event log
and the journal) are one store, `live`, by their keys (Machine/Regs.lean). The open shadow and the pending image
(R33, R34) are two more stores by the same keys, of the words that differ. State that the spec implies behind the
registers stands in the structures of this file, unit by unit.
-/

namespace Sys2Proof.Machine

/-! ## Words -/

/-- What a word reads as while nothing has changed it: its reset value. BAR0 registers take it from the register
table; IMEM word 0 is ENDT and the descriptor is that of the idle program (R152, R559); MINLEAD and MAXLEAD of a flow record have reset values (R194); the mask bit of
an MSI-X table entry is set (PRESUMED, log entry 9); every other word is 0 (R556). -/
def resetWord (k : Nat) : Word :=
  if k < 2 ^ 31 then
    match regAt k with
    | some (f, i) => BitVec.ofNat 32 (f.resetOf i)
    | none => 0
  else if k < 2 ^ 32 then
    let o := k - 2 ^ 31
    if 0x2000000 ≤ o ∧ o < 0x2100000 then (if o % 0x10000 = 0 then 0x58000000 else 0)
    else if 0x2100000 ≤ o ∧ o < 0x2104000 then
      (match o % 0x400 / 4 with
       | 0 => 0x47454E48
       | 1 => 0x10000
       | 2 => 1
       | 3 => 1
       | 7 => 0x44f406da
       | _ => 0)
    else if 0x60000 ≤ o ∧ o < 0xE0000 then
      (if o % 128 = 76 then 0x7FFFFFFF else if o % 128 = 80 then 0x80000000 else 0)
    else 0
  else if (k - 2 ^ 32) / 0x1000 = 8 ∧ k % 16 = 12 then 1 else 0

/-! ## Ticks and time (R9, R18, R382) -/

/-- Where the tick pipeline stands: no tick yet, the working part of a tick, or its guard (R14, R15). -/
inductive Phase where
  | stopped
  | work
  | guard
deriving DecidableEq, Repr

/-- The clocks. `now` counts core cycles since APLL-C locked, `cycle` those since the latest boundary, and `time`
is the time counter in units of 10^-12 ns. -/
structure Clock where
  now : Nat
  cycle : Nat
  time : Nat
  phase : Phase
deriving DecidableEq, Repr

/-! ## Events (R500 to R508) -/

/-- A report waiting in the report store. -/
structure Report where
  code : Nat
  source : Nat
  data : Nat
  tick : Nat
  ns : Nat
  rep : Nat
  at_ : Nat
deriving DecidableEq, Repr

/-- The report path: the store of 16 reports, the drops since the latest LOG_GAP, whether the latest record was a
LOG_GAP, the cycle from which the log may write again, and the vectors raised. -/
structure Evt where
  waiting : List Report
  gap : Nat
  afterGap : Bool
  freeAt : Nat
  raised : Nat
deriving DecidableEq, Repr

/-! ## Epochs, snapshots, journal, checkpoints (R33 to R67) -/

/-- The commit in progress, as its GO captured it: MODE, COMMITAT, LATE and SNAP, whether T was past (R39), the
value written to GLB.COMMIT, and the results of the proof that the epoch makes live: engine, cycles, DRAM bytes, and
whether they differ from the claim. In a pair, the least applying tick, and the tick that a mirrored GO fixes (R465). -/
structure CommitReq where
  mode : Nat
  target : Nat
  late : Bool
  snap : Bool
  past : Bool
  proven : List (Nat × Nat × Nat × Bool)
  least : Option Nat
  fixed : Option Nat
deriving DecidableEq, Repr

/-- A snapshot bank: its header words, its tail, and the latched words. -/
structure Bank where
  head : Nat
  tail : Nat
  header : List Nat
  image : Store Word
deriving DecidableEq, Repr

/-- The snapshot unit: whether a request waits for a boundary, the image being filled, and the two banks (R49 to R53). -/
structure Snap where
  requested : Bool
  filling : Option Bank
  bank0 : Bank
  bank1 : Bank
deriving DecidableEq, Repr

/-- A checkpoint image: live, open-shadow and pending configuration, the parameter regions of DMEM, the commit in
progress and the journal sequence of its marker (R59). -/
structure Checkpoint where
  live : Store Word
  shadow : Store Word
  pend : Store Word
  params : Memory
  commit : Option CommitReq
  marker : Nat
  sram : Bool
deriving DecidableEq, Repr

/-- The checkpoint and replay unit: epochs since the last checkpoint started, whether one is due, whether the journal has
reached the fill that forces one at the next boundary, the one being written, the restore point, whether an epoch has ever been applied, and the times of restarts (R58, R61, R512). -/
structure Ckpt where
  epochs : Nat
  due : Bool
  forced : Bool
  anyEpoch : Bool
  writing : Option Checkpoint
  restore : Option Checkpoint
deriving DecidableEq, Repr

/-- A unit under restart (R510): block index, engine (16 for the whole GE block), cause, and whether its replay has run. -/
structure Restart where
  block : Nat
  engine : Nat
  cause : Nat
  replayed : Bool
deriving DecidableEq, Repr

/-- Fault handling (R509 to R515): a device recovery, with whether its replay has started; the units under restart; the times (in cycles) of recent
restarts by block, of the latest device recovery, and of firmware watchdog restarts. -/
structure Faults where
  replay : Option Bool
  restarts : List Restart
  history : List (Nat × Nat)
  lastRecovery : Option Nat
  firmware : List Nat
deriving DecidableEq, Repr

/-! ## Genah engines (R69 to R100) -/

/-- The state of an engine, GE.STATn.STATE (R78). -/
inductive EngState where
  | off
  | idle
  | run
  | runahead
  | rsbStall
  | squashed
  | parked
deriving DecidableEq, Repr

/-- A vector lane: its 32-bit value and its tag (R103). -/
structure Lane where
  val : Word
  tag : Bool
deriving DecidableEq, Repr

/-- An accumulator lane: its 64-bit value and its tag (R103). -/
structure AccLane where
  val : BitVec 64
  tag : Bool
deriving DecidableEq, Repr

/-- A buffer handle: the buffer (none for the null handle), the direction, the ring frame it reaches and the cursor
(R116). -/
structure Handle where
  buf : Option Nat
  out : Bool
  frame : Nat
  cursor : Nat
deriving DecidableEq, Repr

/-- A level of the loop stack: the first word of the body and the count left (R113). -/
structure LoopLevel where
  start : Nat
  count : Nat
deriving DecidableEq, Repr

/-- One entry of the run-ahead store buffer (R82, R143). Addresses are byte addresses of words. -/
inductive RsbEntry where
  | sxm (cells : List (Nat × Word))
  | dmem (cells : List (Nat × Word))
  | fbuf (cells : List (Nat × Word))
  | put (dram : List Nat) (fbuf : List Nat)
  | muz (lanes : List (Nat × Nat))
  | mark (data : Nat)
deriving DecidableEq, Repr

/-- A transaction in flight (R74, R137): a PUT or a FETCH, its number in the order of the engine's issues, its DRAM and FBUF word
addresses, the words a PUT carries, and whether it holds a ticket. -/
structure Ticket where
  put : Bool
  seq : Nat
  dram : List Nat
  fbuf : List Nat
  words : List Nat
  held : Bool
deriving DecidableEq, Repr

/-- What an engine holds; `issued` counts its transactions, `waitPuts` holds the PUTs of a retired run-ahead that wait for a ticket, oldest
first (R74), and `taint` lists the ticks whose programs met an uncorrectable DRAM word (R437). Unlisted registers read 0, unlisted lanes read 0 with tag 1, unlisted handles are unbound.
Vector lane i of register v has key 16 v + i, and likewise for accumulators. -/
structure Engine where
  st : EngState
  g : Store Word
  v : Store Lane
  a : Store AccLane
  z : Bool
  n : Bool
  c : Bool
  o : Bool
  handles : Store Handle
  loops : List LoopLevel
  calls : List Nat
  pc : Nat
  tick : Nat
  ahead : Bool
  done : Bool
  okTick : Option Nat
  cycles : Nat
  lfsr : Nat
  sat : Nat
  clampSeen : Bool
  rsb : List RsbEntry
  stalled : Bool
  tickets : List Ticket
  waitPuts : List Ticket
  issued : Nat
  fbuf : Store Word
  fbufStart : Nat
  overruns : Nat
  noAhead : Bool
  taint : List Nat
deriving DecidableEq, Repr

/-- An engine at reset: IDLE, its idle program done (R559). -/
def Engine.reset : Engine :=
  { st := .idle, g := [], v := [], a := [], z := true, n := true, c := true, o := true, handles := [], loops := [],
    calls := [], pc := 0, tick := 0, ahead := false, done := true, okTick := none, cycles := 0, lfsr := 1, sat := 0,
    clampSeen := false, rsb := [], stalled := false, tickets := [], waitPuts := [], issued := 0, fbuf := [], fbufStart := 0, overruns := 0,
    noAhead := false, taint := [] }

/-- A snapshot bank that has never been written. -/
def Bank.reset : Bank := { head := 0, tail := 0, header := [], image := [] }

/-! ## The muzzle and herds (R245 to R264) -/

/-- The state of a lane, HRD.LANESTAT.STATE (R247). -/
inductive LaneState where
  | open_
  | falling
  | silent
  | holding
  | rising
  | gated
  | startwait
  | stopwait
deriving DecidableEq, Repr

/-- A gather of the Patch Map: source buffer, source channel, polarity (R217). -/
structure Route where
  buf : Nat
  ch : Nat
  inv : Bool
deriving DecidableEq, Repr

/-- What a stop or a fall leads to: the plain SILENT or HOLDING of R250, GATED after a stop, STARTWAIT on the new
route after a route change. -/
inductive AfterFall where
  | plain
  | gated
  | startwait
deriving DecidableEq, Repr

/-- A lane of the muzzle: its state, the last container emitted and the one a fall began from, the ramp position and
length, the hold count and the hold length it started with, the samples waited, what follows a stop or a fall, the
previous sample of its data (24-bit signed) where one is known, the retiring route with, while it governs, the previous sample of the new
one, and the state, position and hold count that the latest evaluation left (R250 to R258, R267). -/
structure MuzLane where
  st : LaneState
  last : Nat
  x0 : Nat
  k : Nat
  len : Nat
  hold : Nat
  need : Nat
  waited : Nat
  after : AfterFall
  prev : Option Int
  retiring : Option Route
  next : Option Int
  shown : LaneState × Nat × Nat
deriving DecidableEq, Repr

/-- A lane at reset: SILENT with hold count 0 (R253, R267). -/
def MuzLane.reset : MuzLane :=
  { st := .silent, last := 0, x0 := 0, k := 0, len := 0, hold := 0, need := 1, waited := 0, after := .plain, prev := none,
    retiring := none, next := none, shown := (.silent, 0, 0) }

/-- A lane named for one frame: by MUZ, or by a gather, which tells whether for its own invalid source (R141, R218). -/
structure LaneMark where
  buf : Nat
  ch : Nat
  frame : Nat
  gather : Bool := false
deriving DecidableEq, Repr

/-- A herd behind its registers: the tick of its ARM, the state before it, the start fixed, the frame a stop takes effect
at, and the tick of its first start (R259 to R262). -/
structure Herd where
  armTick : Nat
  prior : Nat
  start : Option Nat
  stopAt : Option Nat
  first : Option Nat
deriving DecidableEq, Repr

/-- A herd that has not been armed. -/
def Herd.reset : Herd := { armTick := 0, prior := 0, start := none, stopAt := none, first := none }
/-! ## Kennels (R224 to R242) -/

/-- What a transmit packet of a flow carries beside its words: the flow, the sequence number, the boundary it was due at
and the path, 0 A and 1 B (R214). -/
structure TxTag where
  flow : Nat
  seq : Nat
  due : Nat
  path : Nat
deriving DecidableEq, Repr

/-- A committed packet of a kennel: the words not yet popped, those its consumer has popped, whether its producer ended it
with a bad FCS (cut-through kennels only), and its tag. -/
structure KPacket where
  words : List Nat
  got : List Nat
  bad : Bool
  tag : Option TxTag
deriving DecidableEq, Repr

/-- A kennel behind its registers: the committed packets, oldest first; the words of the packet being pushed, if one is;
whether the rest of that packet is ignored; the lower half latched by a host push and the register it came through; the
words the host has pushed of its packet; a rewind marker awaiting the consumer; and a DMA channel bound to it. -/
structure Kennel where
  pkts : List KPacket
  cur : List Nat
  pushing : Bool
  ignoring : Bool
  low : Option (Bool × Nat)
  marker : Bool
  bound : Bool
deriving DecidableEq, Repr

/-- An empty kennel. -/
def Kennel.reset : Kennel :=
  { pkts := [], cur := [], pushing := false, ignoring := false, low := none, marker := false, bound := false }

/-! ## The redundant pair (R450 to R474) -/

/-- The pair behind its registers: consecutive missing barks and barks in consecutive ticks, the index of the last bark
and its arrival, whether bark t of this tick has arrived or counts missing, excess-skew barks in a row, the ticks of CONVERGING left, the
boundary of TXB and whether it is this chip's, the role taken at the next boundary, the vote and the cycle it expires
at, the level of SHEP_SEL, local-block writes sent to the ACTIVE and not yet returned, the digest computed for the next
boundary and the one of the latest, with their validity, a bark that came ahead of its boundary, the origin
to adopt, whether path B has been handed over to the STANDBY, whether the vote has been sampled in this tick, and the epoch
that the latest bark sent reported. -/
structure Pair where
  missRun : Nat
  goodRun : Nat
  lastBark : Option Nat
  lastArrival : Nat
  barkHere : Bool
  skewRun : Nat
  converge : Option Nat
  txb : Option Nat
  nextRole : Option Nat
  vote : Option (Nat × Option Nat)
  pin : Bool
  forwarded : List (Nat × Word)
  digestNext : Nat × Bool
  digest : Nat × Bool
  early : Option (List Nat)
  adoptOrigin : Option Nat
  syncedNew : Bool
  divergedCommit : Bool
  handed : Bool
  sampled : Bool
  sentEpoch : Nat
deriving DecidableEq, Repr

/-- The pair at reset. -/
def Pair.reset : Pair :=
  { missRun := 0, goodRun := 0, lastBark := none, lastArrival := 0, barkHere := false, skewRun := 0, converge := none,
    txb := none, nextRole := none, vote := none, pin := false, forwarded := [], digestNext := (0, false),
    digest := (0, false), early := none, adoptOrigin := none, syncedNew := false, divergedCommit := false,
    handed := false, sampled := false, sentEpoch := 0 }

/-! ## Receive flows (R165 to R198) -/

/-- A copy being placed by the depacketizer: its flow, its time R, its sequence number, its SSRC where it has one, the sample
frames it has placed (presentation tick and index), the number that were late, the presentation tick of the first placed,
the CRC of its payload where copies are compared, whether its FCS or its UDP checksum is bad, whether its flow tracked
activity when its header was judged, the tick and the index of its sample 0, and, while words of it are still arriving, those popped so
far (R170, R179 to R191, R230). -/
structure Copy where
  flow : Nat
  r : Nat
  seq : Nat
  ssrc : Option Nat
  frames : List (Nat × Nat)
  late : Nat
  first : Option Nat
  crc : Option Nat
  fcsBad : Bool
  sumBad : Bool
  tracked : Bool
  start : Nat × Nat
  got : List Nat
  arriving : Bool
deriving DecidableEq, Repr

/-- What a receive flow keeps behind its record: per path (A, B) the tick of the latest confirmation, the latest sequence
number, and R and sequence number of the latest placed copy; and R and CRC of the latest 64 first copies, the newest first
(R178, R189, R191). -/
structure RxRec where
  tickA : Option Nat
  tickB : Option Nat
  seqA : Option Nat
  seqB : Option Nat
  placedA : Option (Nat × Nat)
  placedB : Option (Nat × Nat)
  crcs : List (Nat × Nat)
deriving DecidableEq, Repr

/-- A receive flow that has received nothing. -/
def RxRec.reset : RxRec :=
  { tickA := none, tickB := none, seqA := none, seqB := none, placedA := none, placedB := none, crcs := [] }

/-! ## Transmit flows (R199 to R223) -/

/-- A transmit flow behind its record: the anchor, the frames of the packet being accumulated that have passed, the AVTP mr bit, and whether
the record of the Flow Status Table was last a transmit flow's (R202, R209, R221). -/
structure TxRec where
  anchor : Option Nat
  pos : Nat
  mr : Bool
  owns : Bool
deriving DecidableEq, Repr

/-- A transmit flow that is not anchored. -/
def TxRec.reset : TxRec := { anchor := none, pos := 0, mr := false, owns := false }

/-! ## Local audio (R268 to R316) -/

/-- One sample frame at a local port or group: the containers or slots of each port, and whether it is valid. -/
structure LocalFrame where
  words : List (Nat × List Nat)
  valid : Bool
deriving DecidableEq, Repr

/-- A sample frame at the rate converter with its instant in core cycles, and the channels of it that are inactive (R306, R313). -/
structure TimedFrame where
  at_ : Nat
  frame : LocalFrame
  idle : List Nat
deriving DecidableEq, Repr

/-- Channel status bits of a block in progress: how many, and those of each captured channel, the first lowest (R296). -/
structure StatusRun where
  count : Nat
  a : Nat
  b : Nat
deriving DecidableEq, Repr

/-- A clock group, AES3 receiver or MADI receiver behind its registers: good and bad frames in a row, the elastic store in
each direction with the frame last delivered or sent, the grid instants of the tick so far, the instant of the first frame
after the latest entry to LOCKED, the spans of core cycles in which it was LOCKED (newest first, an open one without its
end), the frames of the converter from the foreign and to the foreign side, the channel status bits of the block in
progress, a block completed and not yet checked, and one accepted and not yet captured (R278 to R286, R296, R297, R300,
R312, R313). -/
structure LocalUnit where
  good : Nat
  bad : Nat
  ins : List LocalFrame
  outs : List LocalFrame
  lastIn : LocalFrame
  lastOut : LocalFrame
  pos : Nat
  refAt : Option Nat
  spans : List (Nat × Option Nat)
  hist : List TimedFrame
  sent : List TimedFrame
  cs : Option StatusRun
  bits : Option (List Nat × List Nat)
  block : Option (List Nat × List Nat)
deriving DecidableEq, Repr

/-- A local unit that is off. -/
def LocalUnit.reset : LocalUnit :=
  { good := 0, bad := 0, ins := [], outs := [], lastIn := { words := [], valid := false },
    lastOut := { words := [], valid := false }, pos := 0, refAt := none, spans := [], hist := [], sent := [], cs := none,
    bits := none, block := none }

/-- An AES3 or MADI transmitter: the frame from which it sends, the frames since its latest Z, the channel status and the
CSSRC of the block in progress, those that the next tick's frame takes at its first Z, and block starts found off the grid, by
the frames since the previous Z (R302 to R304). -/
structure AesTx where
  start : Option Nat
  count : Nat
  status : List Nat
  labels : Bool
  next : List Nat × Bool
  errs : List Nat
deriving DecidableEq, Repr

/-- A transmitter that is off. -/
def AesTx.reset : AesTx := { start := none, count := 0, status := [], labels := false, next := ([], false), errs := [] }

/-! ## Clock synthesis, the interval meter and reference selection (R317 to R381) -/

/-- The ramp generator behind its registers: the start value and boundaries since entry of the segment in force, its
target, duration and LAST bit as read at entry, the boundary it waits for, a segment to be entered at the current
boundary, a GO or a STOP that acts at the next boundary, and the phase of the detachment in units of
1 / 7,056,000,000 ns (R358 to R361). -/
structure Ramp where
  v0 : Int
  i : Nat
  tgt : Int
  dur : Nat
  last : Bool
  at_ : Option Nat
  due : Option Nat
  go : Bool
  stop : Bool
  phase : Int
deriving DecidableEq, Repr

/-- A numerically controlled synthesizer: the 48-bit frequency word in force, the dither LFSR, the two accumulators of its modulator
(40 fractional bits) with the latest carry of the second, the latest output period in APLL-C VCO periods, and the part of an output
period since it began, in units of 2^-40 (R338, R343, R345). -/
structure Ncs where
  word : Nat
  lfsr : Nat
  acc1 : Nat
  acc2 : Nat
  carry : Nat
  period : Nat
  part : Nat
deriving DecidableEq, Repr

/-- A synthesizer at reset: nominal, and the reset value of its dither register has seed 1 (R338, R345). -/
def Ncs.reset : Ncs := { word := 2 ^ 47, lfsr := 1, acc1 := 0, acc2 := 0, carry := 0, period := 0, part := 0 }

/-- The synthesizers behind their registers: the cycle at which each APLL's latest band search started, the use of each
keeper during the current tick, the ramp, NCS-M and NCS-N, and the clock outputs that start again at the next boundary
(R343 to R366). -/
structure Syn where
  search : Store Nat
  kept0 : Bool
  kept1 : Bool
  ramp : Ramp
  ncsM : Ncs
  ncsN : Ncs
  restart : NatSet
deriving DecidableEq, Repr

/-- The synthesizers at reset: the reset value of both dither registers has seed 1 (R345). -/
def Syn.reset : Syn :=
  { search := [], kept0 := false, kept1 := false,
    ramp := { v0 := 0, i := 0, tgt := 0, dur := 0, last := false, at_ := none, due := none, go := false, stop := false,
              phase := 0 },
    ncsM := Ncs.reset, ncsN := Ncs.reset, restart := [] }

/-- The interval meter behind its registers: the cycle of the latest ARM or result, an ARM that waits for REF, the
reference input for which REF holds the meter and those that wait for it, the latest stop edges (newest first, in units of 1/1024 ns
of the core clock's count), and a loss of calibration not yet mended (R374 to R379). -/
structure Eim where
  since : Nat
  held : Bool
  forRef : Option Nat
  waits : List Nat
  stops : List Int
  lost : Bool
deriving DecidableEq, Repr

/-- The interval meter at reset. -/
def Eim.reset : Eim := { since := 0, held := false, forRef := none, waits := [], stops := [], lost := false }

/-- A reference input behind its registers: whether it has had a usable signal since it was enabled, the seconds of
measurement held, the offsets of those seconds, newest first, the seconds in a row over the hard offset and drift limits,
the cycles of its latest slicer failures, a failure in this second, the seconds in a row without the cause of its
disqualification, within every soft limit, and of good standing while restoring, the latest SSM code with its cycle, the
latest phase against the DCO-derived clock, that phase at the decision before, the zero of its phase detector, and the
state it had when it was last good and followed, and for a PTP input the cycle of its latest offset sample (R318 to R337). -/
structure RefIn where
  had : Bool
  secs : Nat
  ofs : List Int
  overOfs : Nat
  overDrift : Nat
  overRate : Bool
  glitches : List Nat
  glitched : Bool
  clear : Nat
  soft : Nat
  wtr : Nat
  ssm : Option (Nat × Nat)
  phase : Int
  before : Int
  zero : Int
  was : Nat
  heard : Nat
deriving DecidableEq, Repr

/-- A reference input at reset. -/
def RefIn.reset : RefIn :=
  { had := false, secs := 0, ofs := [], overOfs := 0, overDrift := 0, overRate := false, glitches := [], glitched := false,
    clear := 0, soft := 0, wtr := 0, ssm := none, phase := 0, before := 0, zero := 0, was := 0, heard := 0 }

/-- The reference selector behind its registers: the inputs, the holdover history, newest first, whether the current
second has been spent wholly in LOCKED with FROZEN 0, the input a switch leaves, whether it was no longer selectable, and
whether the switch is committed, the
cycle since which the phase error is within LOCKTHR, the cycle of entry to HOLDOVER, the loop contribution, the loop's integrator in
units of 10^-27 ppt, DCOADJ as of the latest boundary, the latest
bark's word of the partner's state and quality, and a STEP of the DCO at the next boundary, in ps (R326 to R338). -/
structure Ref where
  ins : Store RefIn
  history : List Int
  whole : Bool
  prev : Nat
  lost : Bool
  committed : Bool
  within : Option Nat
  holdFrom : Nat
  contrib : Int
  integ : Int
  adj : Int
  mate : Nat
  step : Option Int
deriving DecidableEq, Repr

/-- The reference selector at reset. -/
def Ref.reset : Ref :=
  { ins := [], history := [], whole := false, prev := 15, lost := false, committed := false, within := none, holdFrom := 0, contrib := 0, integ := 0, adj := 0,
    mate := 0, step := none }

/-! ## Network time, pulses, cues and timecode (R382 to R410) -/

/-- A pulse generator behind its registers: the period, width, pin and polarity taken at its ARM, the time of its next leading
edge and of the one after it where that lies off the period, the trailing edge of a pulse in progress, and a STOP that
waits for it (R399, R400). -/
structure Pulse where
  period : Nat
  width : Nat
  pin : Nat
  pol : Bool
  next : Nat
  then_ : Option Nat
  trail : Option Nat
  stop : Bool
deriving DecidableEq, Repr

/-- A pulse generator that has not been armed. -/
def Pulse.reset : Pulse :=
  { period := 0, width := 0, pin := 0, pol := false, next := 0, then_ := none, trail := none, stop := false }

/-- An entry of the Cue Launch Queue behind its status: its copy of the frame, the sends after the first, the period, the
ports as a mask, the index and time of the next send with the ports it still owes, and the number of the send whose time
comes after a NOW (R402 to R404). -/
structure CueEntry where
  frame : List Nat
  repeats : Nat
  period : Nat
  ports : Nat
  t : Nat
  i : Nat
  at_ : Nat
  owed : Nat
deriving DecidableEq, Repr

/-- The LTC reader and generator behind their registers: sync words in a row with the time of the first, whether a frame has
been decoded since, and the generator's start, running flag, sample periods since its start at the current boundary, next
frame, next address and a JAM (R407, R408). -/
structure Ltc where
  run : Nat
  first : Nat
  seen : Bool
  startAt : Option Nat
  running : Bool
  samples : Nat
  k : Nat
  tc : Nat
  jam : Bool
deriving DecidableEq, Repr

/-- Network time behind its registers: an ALIGN that waits, the servo's integrator with the cycle and offset of the latest
firmware sample, the pulse generators, the cue entries that are armed, and timecode (R387, R397, R398). -/
structure Times where
  align : Bool
  integ : Int
  sampleAt : Nat
  theta : Int
  pg : Store Pulse
  cues : Store CueEntry
  ltc : Ltc
deriving DecidableEq, Repr

/-- Network time at reset. -/
def Times.reset : Times :=
  { align := false, integ := 0, sampleAt := 0, theta := 0, pg := [], cues := [],
    ltc := { run := 0, first := 0, seen := false, startAt := none, running := false, samples := 0, k := 0, tc := 0,
             jam := false } }

/-! ## Network ports and the switch (R411 to R430) -/

/-- A network port behind its registers: the kennel whose head frame is on the wire, the cycle from which the line is free,
whether transmission resumes at the next boundary, the cue entries that hold the line, and per class the credit in
thousandths of a bit with the cycle it stands for (R403, R424, R425, R427). -/
structure Port where
  sending : Option Nat
  freeAt : Nat
  resume : Bool
  holds : List Nat
  credit : Store (Int × Nat)
deriving DecidableEq, Repr

/-- A port at reset. -/
def Port.reset : Port := { sending := none, freeAt := 0, resume := false, holds := [], credit := [] }

/-- The switch behind its registers: the ports; the MAC table by VID and address, with port and cycle of latest use; the group
table by VID and group, with the ports that joined and the cycle of their latest report; the cycle at which each
transmit kennel last became non-empty; the cycle of the latest change of each kennel's level, with the level at its start (R233); the gate list in force, the start of its next cycle where it waits for one,
and the end of the current entry (R420, R421, R426). -/
structure Switch where
  ports : Store Port
  macs : Store (Nat × Nat)
  groups : Store (List (Nat × Nat))
  since : Store Nat
  levels : Store (Nat × Nat)
  gates : List (Nat × Nat)
  cycleAt : Option Nat
  entryEnd : Nat
deriving DecidableEq, Repr

/-- The switch at reset. -/
def Switch.reset : Switch :=
  { ports := [], macs := [], groups := [], since := [], levels := [], gates := [], cycleAt := none, entryEnd := 0 }

/-! ## External memory clients (R431 to R449) -/

/-- A voice of the cue player behind its status: the tick it starts at, whether it plays, its clip as taken at the start (base,
length, loop bounds), its position and loops, its gain with the start, target, length and place of the ramp in progress,
whether the ramp ends the voice, and the frame in which it ends (R443). -/
structure Voice where
  start : Option Nat
  on : Bool
  base : Nat
  len : Nat
  loopStart : Nat
  loopEnd : Nat
  pos : Nat
  loops : Nat
  gain : Int
  g0 : Int
  target : Int
  ramp : Nat
  at_ : Nat
  stopping : Bool
  ends : Option (Nat × Bool)
deriving DecidableEq, Repr

/-- A voice that has not been started. -/
def Voice.reset : Voice :=
  { start := none, on := false, base := 0, len := 0, loopStart := 0, loopEnd := 0, pos := 0, loops := 0, gain := 0, g0 := 0,
    target := 0, ramp := 0, at_ := 0, stopping := false, ends := none }

/-- The clients of external memory behind their registers: the work of this tick not yet done (`clientKey`), the valid maps of
the delay lines, the delay lines whose next frame is invalid, the destination sample frames of this tick found invalid,
the voices, and the capture ring's start, stop, sequence and drops since its latest record (R434 to R447). -/
structure Clients where
  due : NatSet
  dlValid : NatSet
  dlSkip : NatSet
  bad : NatSet
  voices : Store Voice
  capAt : Option Nat
  capStop : Bool
  capSeq : Nat
  capDrops : Nat
  capPos : Nat
deriving DecidableEq, Repr

/-- The clients at reset. -/
def Clients.reset : Clients :=
  { due := [], dlValid := [], dlSkip := [], bad := [], voices := [], capAt := none, capStop := false, capSeq := 0,
    capDrops := 0, capPos := 0 }


/-! ## Security, update and start (R517 to R564) -/

/-- The fuses: the part (FUSEMAP), its stepping and serial; lifecycle (0 BLANK to 4 RETIRED), the ZEROIZED marker, the rollback
count, the hashes of the programmed key slots, the revoked slots, the three secrets, and an integrity word left mismatched by
an interrupted burn (R517 to R519, R540 to R543, R564). -/
structure Fuses where
  map : Nat
  stepL : Nat
  stepN : Nat
  serial : Nat
  lc : Nat
  zeroized : Bool
  rollback : Nat
  slots : Store (List Byte)
  revoked : NatSet
  dik : Option (List Byte)
  seed : Option (List Byte)
  root : Option (List Byte)
  torn : Bool
deriving DecidableEq, Repr

/-- The fuses of the model's part: a BLN-8K-F of stepping A1, serial 0, nothing else programmed. -/
def Fuses.reset : Fuses :=
  { map := 0, stepL := 0, stepN := 1, serial := 0, lc := 0, zeroized := false, rollback := 0, slots := [], revoked := [], dik := none,
    seed := none, root := none, torn := false }

/-- One copy of the BOOT record: its write count, whether its CRC is good, the staging state as UPD.STAT.STAGE codes it, whether a copy to
ACTIVE is under way, OWNER_LOCK and LOCKSEQ (R524). -/
structure BootRec where
  count : Nat
  good : Bool
  stage : Nat
  copying : Bool
  owner : Bool
  lockseq : Nat
deriving DecidableEq, Repr

/-- A BOOT record that says nothing. -/
def BootRec.reset : BootRec := { count := 0, good := false, stage := 0, copying := false, owner := false, lockseq := 0 }

/-- The external flash: both copies of the BOOT record, and the ACTIVE and STAGING partitions by byte (R524). -/
structure Flash where
  boot0 : BootRec
  boot1 : BootRec
  active : Memory
  staging : Memory
deriving DecidableEq, Repr

/-- An erased flash. -/
def Flash.reset : Flash := { boot0 := BootRec.reset, boot1 := BootRec.reset, active := [], staging := [] }

/-- The retention store: the pairing key, the last accepted witness SEQ and the failed boots (R522, R538). -/
structure Retention where
  key : Option (List Byte)
  seq : Nat
  fails : Nat
deriving DecidableEq, Repr

/-- A cleared retention store. -/
def Retention.reset : Retention := { key := none, seq := 0, fails := 0 }

/-- SEC behind its registers: the write-once registers already written, the random draws made, the cycle at which the nonce in force was
issued, and an attestation in progress (R491, R520, R544). -/
structure Sec where
  once : NatSet
  draws : Nat
  nonceAt : Option Nat
  attest : Bool
deriving DecidableEq, Repr

/-- SEC at reset. -/
def Sec.reset : Sec := { once := [], draws := 0, nonceAt := none, attest := false }

/-- A staging in progress behind UPD's registers: the block being consumed; the image where it does not go to flash (a FUSE image, or the
image of a HOST boot), by byte; whether it is a FUSE image or a HOST boot; a chunk or block that did not read back; the chunks of a
chain fetch received, those asked for (failures, cycle of the latest request) and how many were ever asked for; the cycle of the
latest poll; a host offer that waits for a chain claim to end (its interface); the partner's verified STAGING; and the records of a
FUSE burn (R528 to R543). -/
structure Upd where
  busy : Option Nat
  image : Memory
  fuse : Bool
  host : Bool
  bad : Bool
  got : NatSet
  asked : Store (Nat × Nat)
  next : Nat
  polledAt : Nat
  waiting : Option Nat
  partner : Option (Nat × List Byte)
  burn : List (Nat × Nat × List Byte)
deriving DecidableEq, Repr

/-- UPD at reset. -/
def Upd.reset : Upd :=
  { busy := none, image := [], fuse := false, host := false, bad := false, got := [], asked := [], next := 0, polledAt := 0,
    waiting := none, partner := none, burn := [] }

/-- The start of the device: held in reset; ROM has finished step 3; the cycle at which the boot watchdog started; the partner's hello
(its serial, whether it ticks, its tick index); and a thermal trip that holds ROM in step 1 (R461, R538, R556, R583). -/
structure Boot where
  held : Bool
  ready : Bool
  watch : Option Nat
  hello : Option (Nat × Bool × Nat)
  alone : Bool
  hot : Bool
deriving DecidableEq, Repr

/-- A device held in reset. -/
def Boot.reset : Boot := { held := true, ready := false, watch := none, hello := none, alone := false, hot := false }

/-- A host DMA channel: the descriptor in progress, as read from the ring, the bytes it has moved, and the index up to which its doorbell
has made descriptors ready (R493 to R497). -/
structure Dma where
  cur : List Nat
  moved : Nat
  ready : Nat
deriving DecidableEq, Repr

/-- A channel with no descriptor in progress. -/
def Dma.reset : Dma := { cur := [], moved := 0, ready := 0 }

/-- MON behind its registers: the level of HOLDUP_OK, and whether DEGR has been reported since power-up (R584, R593). -/
structure Mon where
  holdup : Bool
  wear : Bool
deriving DecidableEq, Repr

/-- MON at power-up. -/
def Mon.reset : Mon := { holdup := false, wear := false }


/-! ## Outputs -/

/-- What leaves the device. `State.out` is the list of what has left it, the newest first: what the spec calls sent,
signalled or driven and keeps in no register. No rule of the machine reads it. -/
inductive Output where
  /-- The MSI-X message of a vector (R508). -/
  | msix (vector : Nat)
  /-- Bytes driven on SPI_IO in answer to a frame (R486, R488). -/
  | spi (bytes : List Nat)
  /-- Words written to host memory by DMA (R493). -/
  | host (addr : Nat) (words : List Nat)
  /-- A frame sent by port A, B or M (0, 1, 2), without its FCS. -/
  | frame (port : Nat) (bytes : List Nat)
  /-- A frame that a port broke off on the wire: it ended with an inverted FCS (R235, R238). -/
  | cut (port : Nat) (bytes : List Nat)
  /-- A packet sent over the pair link: kind and content. -/
  | pair (kind : Nat) (words : List Nat)
  /-- An edge of an EVOUT ball. -/
  | edge (pin : Nat) (level : Bool)
  /-- Containers played by a local output for one sample frame: kind (0 SAP port, 1 AES3, 2 MADI), number, samples. -/
  | play (kind number : Nat) (words : List Nat)
  /-- The AES10 sync symbols that MADI transmitter `port` sends after a frame (R305). -/
  | sync (port : Nat)
  /-- A word that a consumer took from a kennel: kennel and 64-bit word. -/
  | word (kennel value : Nat)
  /-- An LTC frame sent: its address and user bits. -/
  | ltc (tc ub : Nat)
  /-- A PTP message (0 Sync, 1 Announce, 2 Delay_Req, 3 Follow_Up) or, as kind 4, an IGMP or MLD report sent by the firmware: its content
  words. -/
  | datagram (kind : Nat) (words : List Nat)
  /-- A chain message of the update firmware: port, address and UDP port it goes to (none: those of the requester), and its payload (R534). -/
  | chain (to_ : List Nat) (bytes : List Nat)
  /-- The DCO phase moved by a number of ps (R336). -/
  | dcoStep (ps : Int)
deriving DecidableEq, Repr

/-! ## The state -/

/-- The state of the block. -/
structure State where
  /-- The clocks and the phase of the tick. -/
  clk : Clock
  /-- Every host-addressable word that differs from its reset value. -/
  live : Store Word
  /-- The open shadow, as the words host writes have put there since the latest capture (R33). -/
  shadow : Store Word
  /-- The pending image: the words the commit in progress captured (R34). -/
  pend : Store Word
  /-- The commit in progress. -/
  commit : Option CommitReq
  /-- Snapshots. -/
  snap : Snap
  /-- Checkpoints. -/
  ckpt : Ckpt
  /-- Faults and recovery. -/
  faults : Faults
  /-- The report path. -/
  evt : Evt
  /-- The Sample Exchange Memory (R25), by byte address. -/
  sxm : Memory
  /-- For each container address of SXM, the values written there since reset: what an invalid frame may hold (R24). -/
  sxmPast : Store (List Nat)
  /-- The data memories of the engines, engine n at n times 2^18 (R69). -/
  dmem : Memory
  /-- External memory. -/
  dram : Memory
  /-- The valid store: sample frames whose valid bit is set (R27), by `vkey`. -/
  valid : NatSet
  /-- Sample frames that an uncorrectable error of a memory has made invalid until their slot begins anew (R514), by `vkey`. -/
  spoiled : NatSet
  /-- Sample frames of evaluated frames in which some lane was not OPEN, by buffer, ring slot and index (R212). -/
  shut : NatSet
  /-- Sample frames placed by the depacketizer, confirmed or not (R80), by `vkey`. -/
  placed : NatSet
  /-- The Genah engines; an unlisted engine is as at reset. -/
  ge : Store Engine
  /-- The number of open values taken: the model's own counter for `Config.freeWord` and `Config.freePick`. -/
  free : Nat
  /-- The muzzle lanes, channel c of buffer b at 2^14 b + c (R247). -/
  muz : Store MuzLane
  /-- Lanes that count invalid in a coming evaluation (R141, R218). -/
  marks : List LaneMark
  /-- The sixteen herds behind their registers. -/
  herd : Store Herd
  /-- The Patch Map has finished the gathers of the current tick (R80). -/
  gathered : Bool
  /-- The redundant pair behind its registers. -/
  pair : Pair
  /-- The kennels; an unlisted one is empty. -/
  knl : Store Kennel
  /-- The copy that each path's depacketizer is placing, by path: 0 A, 1 B (R186). -/
  copies : Store Copy
  /-- The paths whose head copy is held (R187). -/
  rxHeld : NatSet
  /-- The receive flows behind their records. -/
  rx : Store RxRec
  /-- Sample frames of DEEP rings in external memory whose valid bit is set (R190), by `deepKey`. -/
  deepValid : NatSet
  /-- The transmit flows behind their records. -/
  tx : Store TxRec
  /-- Local units: SAP group k at k, AES3 receiver n at 8 + n, MADI receiver p at 24 + p. -/
  loc : Store LocalUnit
  /-- AES3 transmitter n at n, MADI transmitter p at 8 + p. -/
  atx : Store AesTx
  /-- The synthesizers behind their registers. -/
  syn : Syn
  /-- The interval meter behind its registers. -/
  eim : Eim
  /-- The reference selector behind its registers. -/
  ref : Ref
  /-- Network time behind its registers. -/
  times : Times
  /-- The network ports and the switch behind their registers. -/
  net : Switch
  /-- The clients of external memory behind their registers. -/
  mem : Clients
  /-- The fuses. -/
  fuse : Fuses
  /-- The external flash. -/
  flash : Flash
  /-- The retention store. -/
  ret : Retention
  /-- SEC behind its registers. -/
  sec : Sec
  /-- UPD behind its registers. -/
  upd : Upd
  /-- The start of the device. -/
  boot : Boot
  /-- The host DMA channels. -/
  dma : Store Dma
  /-- MON behind its registers. -/
  mon : Mon
  /-- The transmit entry that the latest load of FLOW.TXPROFILE wrote (R220). -/
  txLoaded : Option Nat
  out : List Output
  pending : List Instr
deriving DecidableEq, Repr

/-- Why a command stops the machine. No rule of the spec stops the block on every path, so the one reason stands for
the one thing the spec says cannot be done at all. -/
inductive Fault where
  /-- A wrapped list of an engine's stack underflowed: RET or ENDL with an empty stack, which the loader's proof rules
  out (R146). Safe: the machine stops where the spec gives no effect. -/
  | stackUnderflow
  /-- A fifth loop level or a ninth call, which the loader's proof rules out (R69, R146). Safe, as above. -/
  | stackOverflow
deriving DecidableEq, Repr

/-- Why a command is refused. -/
inductive Refusal where
  /-- The command has no meaning in this model. Raised by the dispatch only. Safe. -/
  | notModelled (mnemonic : String)
deriving DecidableEq, Repr

/-- The machine in reset, before it is released (R551 to R556): every word at its reset value, every memory empty,
nothing running and no command waiting. RESET_RELEASE, FIRST_TICK, ROM_VERIFY_DONE and BOOTOK bring it to service. -/
def State.reset : State :=
  { clk := { now := 0, cycle := 0, time := 0, phase := .stopped },
    live := [],
    shadow := [],
    pend := [],
    commit := none,
    snap := { requested := false, filling := none, bank0 := Bank.reset, bank1 := Bank.reset },
    ckpt := { epochs := 0, due := false, forced := false, anyEpoch := false, writing := none, restore := none },
    faults := { replay := none, restarts := [], history := [], lastRecovery := none, firmware := [] },
    evt := { waiting := [], gap := 0, afterGap := false, freeAt := 0, raised := 0 },
    sxm := [],
    sxmPast := [],
    dmem := [],
    dram := [],
    valid := [],
    spoiled := [],
    shut := [],
    placed := [],
    ge := [],
    free := 0,
    muz := [],
    marks := [],
    herd := [],
    gathered := false,
    pair := Pair.reset,
    knl := [],
    copies := [],
    rxHeld := [],
    rx := [],
    deepValid := [],
    tx := [],
    loc := [],
    atx := [],
    syn := Syn.reset,
    eim := Eim.reset,
    ref := Ref.reset,
    times := Times.reset,
    net := Switch.reset,
    mem := Clients.reset,
    fuse := Fuses.reset,
    flash := Flash.reset,
    ret := Retention.reset,
    sec := Sec.reset,
    upd := Upd.reset,
    boot := Boot.reset,
    dma := [],
    mon := Mon.reset,
    txLoaded := none,
    out := [],
    pending := [] }

end Sys2Proof.Machine
end

