-- ==== Sys2Proof/Machine/Ops.lean ====
section
/-!
DEFINITION. The named operations over the state: words and fields, sticky registers, reports, memories, valid bits,
open values. Every meaning reads and writes the state through these.
-/

namespace Sys2Proof.Machine

/-- An outcome of a command of this block. -/
abbrev Res := Host.Outcome State Fault Refusal

/-! ## Words and fields -/

/-- The live value of the word with key `k`. -/
def State.word (s : State) (k : Nat) : Word := Store.get resetWord s.live k

/-- The state with live word `k` at `v`. -/
def State.setWord (s : State) (k : Nat) (v : Word) : State := { s with live := Store.set resetWord s.live k v }

/-- The live value of field `f`. -/
def State.rd (s : State) (f : Fld) : Nat := f.ext (s.word f.key)

/-- The state with field `f` at `v`, modulo the field's width. -/
def State.wr (s : State) (f : Fld) (v : Nat) : State := s.setWord f.key (f.put (s.word f.key) v)

/-- The live value of a one-bit field. -/
def State.flag (s : State) (f : Fld) : Bool := s.rd f == 1

/-- The state with a one-bit field set or clear. -/
def State.wrFlag (s : State) (f : Fld) (b : Bool) : State := s.wr f (if b then 1 else 0)

/-- The state with field `f` advanced by `n`, wrapping at the field's width. -/
def State.add (s : State) (f : Fld) (n : Nat) : State := s.wr f (s.rd f + n)

/-- The state with field `f` advanced by one, wrapping at the field's width. -/
def State.inc (s : State) (f : Fld) : State := s.add f 1

/-- The state with field `f` advanced by `n`, held at the field's greatest value. -/
def State.addSat (s : State) (f : Fld) (n : Nat) : State := s.wr f (min (s.rd f + n) (2 ^ f.width - 1))

/-- The signed value of a field of 32 bits. -/
def State.rdS (s : State) (f : Fld) : Int := signedN f.width (s.rd f)

/-- The state with a field at the two's complement of an integer. -/
def State.wrS (s : State) (f : Fld) (i : Int) : State := s.wr f (wrapN f.width i)

/-- The live value of word `k` as a number. -/
def State.num (s : State) (k : Nat) : Nat := (s.word k).toNat

/-- The state with live word `k` at the number `v`, modulo 2^32. -/
def State.setNum (s : State) (k v : Nat) : State := s.setWord k (BitVec.ofNat 32 v)

/-- The open-shadow value of word `k` (R33): what a host write put there, else what the commit in progress captured,
else the live value. -/
def State.shadowWord (s : State) (k : Nat) : Word :=
  match Store.find s.shadow k with
  | some v => v
  | none =>
    match Store.find s.pend k with
    | some v => v
    | none => s.word k

/-- The open-shadow value of field `f`. -/
def State.rdShadow (s : State) (f : Fld) : Nat := f.ext (s.shadowWord f.key)

/-- What word `k` would read if the commit in progress were applied now. -/
def State.pendWord (s : State) (k : Nat) : Word := (Store.find s.pend k).getD (s.word k)

/-- A field of the configuration that the commit in progress would make live. -/
def State.rdPend (s : State) (f : Fld) : Nat := f.ext (s.pendWord f.key)

/-! ## Time and ticks -/

/-- GLB.TICKIDX, the index of the current tick (R12). -/
def State.tick (s : State) : Nat := s.rd GLB.TICKIDX.val

/-- The time counter in whole ns since its epoch (R382). -/
def State.timeNs (s : State) : Nat := s.clk.time / 10 ^ 12

/-- TIME.NS: the low 32 bits of the time counter in ns (R382). -/
def State.ns (s : State) : Nat := s.timeNs % 2 ^ 32

/-- T is in the future of the 32-bit time or index `now`, by the strict rule of R13. -/
def futureTick (t now : Nat) : Bool :=
  let d := (t + 2 ^ 32 - now % 2 ^ 32) % 2 ^ 32
  decide (1 ≤ d) && decide (d < 2 ^ 31)

/-- T is in the future of TIME.NS by R39 and R383. -/
def futureTime (t now : Nat) : Bool := decide ((t + 2 ^ 32 - now % 2 ^ 32) % 2 ^ 32 < 2 ^ 31)

/-- TIME.NS at `now` has reached the time T (R39, R383). -/
def reachedTime (t now : Nat) : Bool := decide ((now % 2 ^ 32 + 2 ^ 32 - t % 2 ^ 32) % 2 ^ 32 < 2 ^ 31)

/-- Ticks are running: B(0) has passed (R557). -/
def State.ticking (s : State) : Bool := s.clk.phase != .stopped

/-- TICK_LEN of the live epoch (R10). -/
def State.tickLen (s : State) : Nat := s.rd GLB.MEDIA.TICK_LEN

/-- The base rate of a family: 48,000 or 44,100 (R14). -/
def familyRate (family : Nat) : Nat := if family = 1 then 44100 else 48000

/-- fs of the live epoch. -/
def State.fs (s : State) : Nat := familyRate (s.rd GLB.MEDIA.FAMILY)

/-- N, the nominal tick length in core cycles (R14). -/
def nominalCycles (tickLen fs : Nat) : Nat := tickLen * 10 ^ 9 / fs

/-- The engine budget (R14). -/
def engineBudget (tickLen fs : Nat) : Nat := nominalCycles tickLen fs - 512

/-- The proof limit (R16). -/
def proofLimit (tickLen fs speedcap : Nat) : Nat :=
  engineBudget tickLen fs - ceilDiv (nominalCycles tickLen fs * speedcap) (10 ^ 6)

/-! ## Open values -/

/-- A value the spec leaves open, and the state with the model's counter advanced. -/
def State.freeWord (s : State) : Word × State := (Config.freeWord s.free, { s with free := s.free + 1 })

/-- An open choice among `n` alternatives, and the state with the model's counter advanced. -/
def State.freePick (s : State) (n : Nat) : Nat × State := (Config.freePick s.free % n, { s with free := s.free + 1 })

/-- The state after something has left the device. -/
def State.emit (s : State) (o : Output) : State := { s with out := o :: s.out }

/-! ## Sticky registers and reports (R490, R500 to R508) -/

/-- A new event of the SQ register `k`: SEQ advances modulo 256, and the bits of `mask` are set (R490). -/
def sqSet (w : Word) (mask : Nat) : Word :=
  BitVec.ofNat 32 (((w.toNat / 2 ^ 24 + 1) % 256) * 2 ^ 24 + (w.toNat % 2 ^ 24 ||| mask % 2 ^ 24))

/-- The state after one event of the SQ register `k` that sets bit `i` (R490). -/
def State.sq (s : State) (k i : Nat) : State := s.setWord k (sqSet (s.word k) (2 ^ i))

/-- The state after an event with the sticky field `f` (R490). -/
def State.sqf (s : State) (f : Fld) : State := s.sq f.key f.lo

/-- EVT.BLKPEND: the blocks with an enabled event pending (R507). -/
def State.blkPend (s : State) : Nat → Nat → Nat
  | 0, acc => acc
  | b + 1, acc =>
    State.blkPend s b (if (s.num (EVT.IPEND b) &&& s.num (EVT.IEN b)) % 2 ^ 24 / 2 ≠ 0 then acc + 2 ^ b else acc)

/-- EVT.VECPEND: the vectors that some pending block names (R507). -/
def State.vecPend (s : State) : Nat → Nat → Nat
  | 0, acc => acc
  | b + 1, acc =>
    State.vecPend s b
      (if (s.num (EVT.IPEND b) &&& s.num (EVT.IEN b)) % 2 ^ 24 / 2 ≠ 0 then acc ||| 2 ^ (s.rd (EVT.VEC.val b)) else acc)

/-- The vectors raised now. -/
def State.vectors (s : State) : Nat := s.vecPend 24 0

/-- The key of word `w` of entry `v` of the MSI-X table in BAR4 (R478). -/
def msixKey (v w : Nat) : Nat := 2 ^ 32 + 0x8000 + v * 16 + w * 4

/-- The key of the MSI-X pending-bit array in BAR4 (R478). -/
def msixPending : Nat := 2 ^ 32 + 0x9000

/-- The key of the doorbell of DMA channel `c` in BAR4 (R478). -/
def doorbellKey (c : Nat) : Nat := 2 ^ 32 + c * 0x1000

/-- The message of vector `v` is sent, or, where its mask bit is set, its pending bit is set (R508; PRESUMED, log entry 9). -/
def State.msix (s : State) (v : Nat) : State :=
  if s.num (msixKey v 3) % 2 = 1 then s.setNum msixPending (s.num msixPending ||| 2 ^ v)
  else s.emit (.msix v)

/-- The messages of the vectors of `set` below `n`, in ascending order. -/
def State.msixAll (s : State) (set : Nat) : Nat → State
  | 0 => s
  | v + 1 => let s := State.msixAll s set v; if bit set v then s.msix v else s

/-- The interrupt tree after a change of it: the message of each vector that became raised is sent (R508). -/
def State.interrupts (s : State) : State :=
  let now := s.vectors
  let s := s.msixAll (now &&& (2 ^ 16 - 1 - s.evt.raised % 2 ^ 16)) 16
  { s with evt := { s.evt with raised := now } }

/-- The key of word `w` of the log record in slot `k` (R500). -/
def logKey (k w : Nat) : Nat := bar2 (0x380000 + k * 16 + w * 4)

/-- The slot of the newest record, among the `n` latest records below sequence `q`, with a given code, source and tick. -/
def State.findRecord (s : State) (code source tick : Nat) : Nat → Nat → Option Nat
  | 0, _ => none
  | n + 1, q =>
    let slot := (q + 2 ^ 32 - 1) % 1024
    if s.num (logKey slot 0) = code + source * 2 ^ 16 ∧ s.num (logKey slot 1) = tick then some slot
    else State.findRecord s code source tick n (q + 2 ^ 32 - 1)

/-- A waiting report takes one more coalesced report, if it has the same code, source and tick (R502). -/
def coalesceWaiting (code source tick : Nat) : List Report → Option (List Report)
  | [] => none
  | r :: rs =>
    if r.code = code ∧ r.source = source ∧ r.tick = tick then
      some ({ r with rep := min (r.rep + 1) (2 ^ 32 - 1) } :: rs)
    else (coalesceWaiting code source tick rs).map (r :: ·)

/-- The order in which reports of one cycle enter the store: ascending block, then ascending source (R503). -/
def entersBefore (a b : Report) : Bool :=
  a.at_ == b.at_ && (decide (a.code / 256 < b.code / 256) || (a.code / 256 == b.code / 256 && decide (a.source < b.source)))

/-- A report enters the waiting reports (R503). -/
def enter (r : Report) : List Report → List Report
  | [] => [r]
  | x :: xs => if entersBefore r x then r :: x :: xs else x :: enter r xs

/-- A report is dropped (R505): counted, and latched in FIRSTDROP while EVT.HIST.DROPPED is clear. -/
def State.dropReport (s : State) (r : Report) : State :=
  let s := s.inc EVT.DROPPED.val
  let s := if s.flag EVT.HIST.DROPPED then s
    else (s.wr EVT.FIRSTDROP.SOURCE r.source).wr EVT.FIRSTDROP.CODE r.code
  let s := s.sqf EVT.HIST.DROPPED
  { s with evt := { s.evt with gap := s.evt.gap + 1 } }

/-- A report that does not coalesce enters the report store, or is dropped (R503, R505). -/
def State.enterReport (s : State) (r : Report) : State :=
  if s.evt.waiting.length < 16 then { s with evt := { s.evt with waiting := enter r s.evt.waiting } }
  else if s.flag EVT.CTL.POLICY then
    match s.evt.waiting with
    | [] => s
    | old :: rest =>
      let s := s.dropReport old
      { s with evt := { s.evt with waiting := enter r rest } }
  else s.dropReport r

/-- A report goes where it coalesces: with a record of the log, with a waiting report, or it enters the report store (R501 to R505). -/
def State.placeReport (s : State) (code source data : Nat) : State :=
  let tick := s.tick
  match s.findRecord code (source % 2 ^ 16) tick (min (s.rd EVT.WRSEQ.val) 1024) (s.rd EVT.WRSEQ.val) with
  | some slot => s.addSat (EVT.REP.val slot) 1
  | none =>
    match coalesceWaiting code (source % 2 ^ 16) tick s.evt.waiting with
    | some w => { s with evt := { s.evt with waiting := w } }
    | none =>
      s.enterReport { code := code, source := source % 2 ^ 16, data := data % 2 ^ 32, tick := tick, ns := s.ns,
                      rep := 0, at_ := s.clk.now }

/-- Every report of event `code` by `source` with data word `data` (R500 to R507): the block's counter and IPEND bit,
the interrupt tree, and the report store unless the report coalesces. -/
def State.report (s : State) (code source data : Nat) : State :=
  ((s.inc (EVT.BLKCNT.val (code / 256))).sq (EVT.IPEND (code / 256)) (code % 256)).interrupts.placeReport code source data

/-! ## SXM, valid bits and placed marks (R24 to R27) -/

/-- The multiplier that a MULT code names. -/
def multOf (code : Nat) : Nat := 2 ^ code

/-- C of buffer `b`. -/
def State.bufC (s : State) (b : Nat) : Nat := s.rd (BT.CHANNELS b)

/-- The ring depth D of buffer `b`. -/
def State.bufD (s : State) (b : Nat) : Nat := s.rd (BT.DEPTH b)

/-- S of buffer `b`: sample frames in a tick frame, m times TICK_LEN. -/
def State.bufS (s : State) (b : Nat) : Nat := multOf (s.rd (BT.MULT b)) * s.tickLen

/-- Buffer `b` is in use. -/
def State.bufEn (s : State) (b : Nat) : Bool := s.flag (BT.EN b)

/-- The byte address of container `p` of the frame of tick `f` of buffer `b` (R26). -/
def State.sxmAddr (s : State) (b f p : Nat) : Nat :=
  s.rd (BT.BASE b) + ((f % s.bufD b) * s.bufS b * s.bufC b + p) * 4

/-- The key of the valid bit of sample frame `i` in ring slot `slot` of buffer `b`. -/
def vkey (b slot i : Nat) : Nat := (b * 512 + slot) * 1024 + i

/-- An uncorrectable error has made sample frame `i` of the frame of tick `f` of buffer `b` invalid (R514). -/
def State.isSpoiled (s : State) (b f i : Nat) : Bool := NatSet.has s.spoiled (vkey b (f % s.bufD b) i)

/-- The valid bit of sample frame `i` of the frame of tick `f` of buffer `b` (R27). -/
def State.isValid (s : State) (b f i : Nat) : Bool := NatSet.has s.valid (vkey b (f % s.bufD b) i) && !s.isSpoiled b f i

/-- The placed mark of a sample frame (R80). -/
def State.isPlaced (s : State) (b f i : Nat) : Bool := NatSet.has s.placed (vkey b (f % s.bufD b) i)

/-- The state with the valid bit of a sample frame set. -/
def State.setValid (s : State) (b f i : Nat) : State := { s with valid := NatSet.add s.valid (vkey b (f % s.bufD b) i) }

/-- The state with the placed mark of a sample frame set. -/
def State.setPlaced (s : State) (b f i : Nat) : State := { s with placed := NatSet.add s.placed (vkey b (f % s.bufD b) i) }

/-- The state with the valid bit of a sample frame clear. -/
def State.clearValid (s : State) (b f i : Nat) : State :=
  { s with valid := NatSet.drop s.valid (fun k => k == vkey b (f % s.bufD b) i) }

/-- The state with every valid bit and placed mark of the slot of tick `f` of buffer `b` clear (R27). -/
def State.clearFrame (s : State) (b f : Nat) : State :=
  let q := b * 512 + f % s.bufD b
  { s with valid := NatSet.drop s.valid (fun k => k / 1024 == q), spoiled := NatSet.drop s.spoiled (fun k => k / 1024 == q),
           placed := NatSet.drop s.placed (fun k => k / 1024 == q) }

/-- The state with every valid bit and placed mark of buffer `b` clear. -/
def State.clearBuffer (s : State) (b : Nat) : State :=
  { s with valid := NatSet.drop s.valid (fun k => k / 1024 / 512 == b),
           spoiled := NatSet.drop s.spoiled (fun k => k / 1024 / 512 == b),
           placed := NatSet.drop s.placed (fun k => k / 1024 / 512 == b) }

/-- The state with the valid bits of sample frames 0 to n − 1 of a frame set. -/
def State.setFrameValid (s : State) (b f : Nat) : Nat → State
  | 0 => s
  | n + 1 => (State.setFrameValid s b f n).setValid b f n

/-- Every sample frame below `n` satisfies `p`. -/
def allBelow (p : Nat → Bool) : Nat → Bool
  | 0 => true
  | n + 1 => allBelow p n && p n

/-- Some number below `n` satisfies `p`. -/
def anyBelow (p : Nat → Bool) : Nat → Bool
  | 0 => false
  | n + 1 => anyBelow p n || p n

/-- The least number below `n` that satisfies `p`. -/
def firstBelow (p : Nat → Bool) (n : Nat) : Option Nat := (List.range n).find? p

/-- Every sample frame of the frame of tick `f` of buffer `b` is valid. -/
def State.frameValid (s : State) (b f : Nat) : Bool := allBelow (s.isValid b f) (s.bufS b)

/-- The container at SXM byte address `a`. -/
def State.sxmWord (s : State) (a : Nat) : Nat := Memory.word s.sxm a

/-- The state with container `v` at SXM byte address `a`, kept among the values the address has held (R24). -/
def State.setSxm (s : State) (a v : Nat) : State :=
  let past := (Store.find s.sxmPast a).getD []
  { s with sxm := Memory.setWord s.sxm a v,
           sxmPast := if past.contains (v % 2 ^ 32) then s.sxmPast else Store.insert s.sxmPast a (v % 2 ^ 32 :: past) }

/-- A container of a frame whose valid bit is clear: 0 or some value written to its address since reset, and the spec
does not say which (R24). -/
def State.openContainer (s : State) (a : Nat) : Nat × State :=
  let past := (Store.find s.sxmPast a).getD []
  let (i, s) := s.freePick (past.length + 1)
  ((0 :: past).getD i 0, s)

/-- A container read by a consumer of sample frame `i` of the frame of tick `f` of buffer `b`, channel `c`. -/
def State.readSample (s : State) (b f i c : Nat) : Nat × State :=
  let a := s.sxmAddr b f (i * s.bufC b + c)
  if s.isValid b f i then (s.sxmWord a, s) else s.openContainer a

/-! ## Engines -/

/-- Engine `e`. -/
def State.engine (s : State) (e : Nat) : Engine := Store.get (fun _ => Engine.reset) s.ge e

/-- The state with engine `e` at `x`. -/
def State.setEngine (s : State) (e : Nat) (x : Engine) : State :=
  { s with ge := Store.set (fun _ => Engine.reset) s.ge e x }

/-- Engine `e` is present (R1, GE.PRESENT). -/
def State.present (s : State) (e : Nat) : Bool := bit (s.rd GE.PRESENT.val) e

/-- Engine pair `k` is braced in the live epoch (R94). -/
def State.bracedPair (s : State) (k : Nat) : Bool := bit (s.rd GE.BRACE.val) k

/-- Engine `e` belongs to a braced pair. -/
def State.braced (s : State) (e : Nat) : Bool := s.bracedPair (e / 2)

/-- Engine `e` is the follower of a braced pair (R94, R99). -/
def State.follower (s : State) (e : Nat) : Bool := s.braced e && e % 2 == 1

/-- The PAIR_HINT strap, ignored on a part without the pair link (R553). -/
def State.pairHint (s : State) : Bool := s.flag GLB.STRAPS.PAIR_HINT && s.flag GLB.UNITCAP.PAIRLINK

/-! ## Units that are down (R510, R511) -/

/-- A device recovery runs: engines stand, no copy is placed and every muzzled lane counts invalid (R511). -/
def State.recovering (s : State) : Bool := s.faults.replay == some true

/-- Block `b` restarts, or, of the GE block, engine `e` with its pair where braced (R510). -/
def State.unitDown (s : State) (b e : Nat) : Bool :=
  s.faults.restarts.any (fun r => r.block == b && (b != 0x0E || r.engine == 16 || r.engine == e || (s.braced e && r.engine / 2 == e / 2)))

/-- Engine `e` does not run: a recovery runs, or the engine restarts (R510, R511). -/
def State.engineDown (s : State) (e : Nat) : Bool := s.recovering || s.unitDown 0x0E e

/-- L, the number of vector lanes of engine `e`: 8, or 16 braced (R118). -/
def State.lanesOf (s : State) (e : Nat) : Nat := if s.braced e then 16 else 8

end Sys2Proof.Machine
end

