-- ==== Sys2Proof/Machine/Image.lean ====
section
/-!
DEFINITION. Lifecycle, images and their verification (R517 to R519, R524 to R527, R541, R542), over the byte strings that the
flash or SXM holds. The cryptographic functions are the open constants of Config (DESIGN CHOICE, log entry 6).
-/

namespace Sys2Proof.Machine

/-! ## Fuses (R517 to R519, R547) -/

/-- Key slot `k` is programmed and not revoked. -/
def Fuses.slotLive (f : Fuses) (k : Nat) : Bool := (Store.find f.slots k).isSome && !NatSet.has f.revoked k

/-- The slot whose programmed hash is that of a public key, among the slots not revoked. -/
def Fuses.slotOf (f : Fuses) (key : List Byte) : Option Nat :=
  firstBelow (fun k => f.slotLive k && Store.find f.slots k == some (Config.sha384 key)) 4

/-- SEC.LC (R547). -/
def Fuses.lcWord (f : Fuses) : Nat :=
  f.rollback * 2 ^ 24 + (f.revoked.map (fun k => 2 ^ (20 + k))).sum + (f.slots.map (fun p => 2 ^ (16 + p.1))).sum
    + (if f.zeroized then 2 ^ 8 else 0) + f.lc

/-- GLB.ID (R564). -/
def Fuses.idWord (f : Fuses) : Nat :=
  (if f.map < 3 then 0x0B80 + f.map else 0) * 2 ^ 16 + f.stepL * 2 ^ 12 + f.stepN * 2 ^ 8 + f.map

/-- GLB.UNITCAP of a part (R564). -/
def Fuses.unitcap (f : Fuses) : Nat :=
  match f.map with
  | 0 => 0xFF8DFFFF
  | 1 => 0xF84C00FF
  | _ => 0x000A000F

/-- The secrets are gone, and the marker says so (R519). -/
def Fuses.zeroize (f : Fuses) : Fuses := { f with zeroized := true, dik := none, seed := none, root := none }

/-! ## The BOOT record (R524) -/

/-- The BOOT record that governs. -/
def Flash.record (f : Flash) : BootRec :=
  if f.boot0.good && (!f.boot1.good || decide (f.boot1.count ≤ f.boot0.count)) then f.boot0
  else if f.boot1.good then f.boot1 else BootRec.reset

/-- The BOOT record is written to the copy that does not govern. -/
def Flash.write (f : Flash) (r : BootRec) : Flash :=
  let r := { r with count := f.record.count + 1, good := true }
  if f.boot0.good && (!f.boot1.good || decide (f.boot1.count ≤ f.boot0.count)) then { f with boot1 := r } else { f with boot0 := r }

/-! ## Headers and verification (R525, R526) -/

/-- The little-endian word at offset `o` of a byte string. -/
def leWord (bs : List Byte) (o : Nat) : Nat :=
  let b := fun i => ((bs.drop (o + i)).headD 0).toNat
  b 0 + b 1 * 2 ^ 8 + b 2 * 2 ^ 16 + b 3 * 2 ^ 24

/-- `n` bytes from offset `o` of a byte string. -/
def slice (bs : List Byte) (o n : Nat) : List Byte := (bs.drop o).take n

/-- The four bytes of a word, the least significant first. -/
def leBytes (n : Nat) : List Byte := (List.range 4).map (fun i => BitVec.ofNat 8 (n / 2 ^ (8 * i)))

/-- KEY of a header. -/
def hdrKey (h : List Byte) : Nat := bits (leWord h 4) 18 16

/-- ENC of a header. -/
def hdrEnc (h : List Byte) : Bool := bit (leWord h 4) 19

/-- CLASS is FUSE. -/
def hdrFuse (h : List Byte) : Bool := bits (leWord h 4) 15 8 == 2

/-- VERSION of a header. -/
def hdrVersion (h : List Byte) : Nat := leWord h 0xC

/-- BODYLEN of a header. -/
def hdrLen (h : List Byte) : Nat := leWord h 0x14

/-- The key of a header is one that the state accepts (R518, test 2 of R526). -/
def Fuses.keyGood (f : Fuses) (h : List Byte) : Bool :=
  let k := hdrKey h
  let hash := Config.sha384 (slice h 0x64 96)
  match f.lc with
  | 0 => k == 4 && hash == Config.romRootHash
  | 4 => false
  | _ => decide (k < 4) && f.slotLive k && Store.find f.slots k == some hash

/-- CLASS is permitted for the state and the source, and ENC agrees (R518, R543, test 5 of R526); `fuses` tells whether the source may
bring FUSE images. -/
def Fuses.classGood (f : Fuses) (h : List Byte) (fuses : Bool) : Bool :=
  match bits (leWord h 4) 15 8 with
  | 1 =>
    (match f.lc with
     | 0 => !hdrEnc h
     | 1 => true
     | 2 => hdrEnc h
     | 3 => !hdrEnc h
     | _ => false)
  | 2 => fuses && decide (f.lc < 4)
  | _ => false

/-- The header check of R526: 0 where it passes, else the refusal code. -/
def Fuses.headerCheck (f : Fuses) (h : List Byte) (fuses : Bool) : Nat :=
  if leWord h 0 ≠ 0x464C475A ∨ bits (leWord h 4) 7 0 ≠ 1 then 0x10
  else if !f.keyGood h then 0x11
  else if !Config.ecdsaVerify (slice h 0x64 96) (Config.sha384 (slice h 0 256)) (slice h 0x100 96) then 0x12
  else if !bit (leWord h 8) f.map then 0x13
  else if !f.classGood h fuses then 0x14
  else if leWord h 0x10 % 2 ^ 7 < f.rollback then 0x15
  else if hdrLen h % 16 ≠ 0 ∨ 0x1FF7E00 < hdrLen h then 0x16
  else 0

/-- The plain body of an image in memory, decrypted where ENC = 1; none where the tag fails or the key is absent (R525). -/
def Fuses.plain (f : Fuses) (m : Memory) : Option (List Byte) :=
  let h := Memory.bytes m 0 512
  let body := Memory.bytes m 512 (hdrLen h)
  if hdrEnc h then
    match f.dik with
    | some k => Config.gcmOpen k (slice h 0x48 12) (slice h 0 256) body (slice h 0x54 16)
    | none => none
  else some body

/-- The full verification of an image in memory: 0 where it passes, else the refusal code (R526). -/
def Fuses.verify (f : Fuses) (m : Memory) (fuses : Bool) : Nat :=
  let h := Memory.bytes m 0 512
  let c := f.headerCheck h fuses
  if c ≠ 0 then c
  else if Config.sha384 (Memory.bytes m 512 (hdrLen h)) ≠ slice h 0x18 48 then 0x17
  else if (f.plain m).isNone then 0x19
  else 0

/-! ## FUSE images (R541, R542) -/

/-- The records of a FUSE body: OP, ARG and value. -/
def fuseRecords (body : List Byte) : Nat → List (Nat × Nat × List Byte)
  | 0 => []
  | n + 1 =>
    if body.length < 64 then []
    else (bits (leWord body 0) 7 0, bits (leWord body 0) 15 8, slice body 4 48) :: fuseRecords (body.drop 64) n

/-- A change of lifecycle that R517 gives a FUSE image: from a state, with what the image programs beside it. -/
def lifecycleGood (lc to_ : Nat) (rs : List (Nat × Nat × List Byte)) : Bool :=
  match lc, to_ with
  | 0, 1 => rs.any (·.1 == 2) && rs.any (·.1 == 3) && rs.any (·.1 == 4) && rs.any (·.1 == 5)
  | 1, 2 => true
  | _, 4 => decide (lc < 4)
  | _, _ => false

/-- What state `lc` lets a FUSE record do (R518): BLANK and PROVISIONED program secrets and slots, FIELD programs slots, PROVISIONED and
FIELD revoke, OPENED only retires. -/
def opAllowed (lc op arg : Nat) : Bool :=
  match op with
  | 1 => lc != 3 || arg == 4
  | 2 | 3 | 4 => decide (lc < 2)
  | 5 => decide (lc < 3)
  | 6 => lc == 1 || lc == 2
  | _ => false

/-- A record keeps R517 and R518 (R542): `key` is the slot that signed the image, `rs` all records. -/
def Fuses.recordGood (f : Fuses) (key : Nat) (rs : List (Nat × Nat × List Byte)) (r : Nat × Nat × List Byte) : Bool :=
  let once := decide ((rs.filter (fun q => q.1 == r.1 && (r.1 != 5 || q.2.1 == r.2.1))).length ≤ 1)
  opAllowed f.lc r.1 r.2.1 &&
    match r.1 with
    | 1 => once && lifecycleGood f.lc r.2.1 rs
    | 2 => once && f.dik.isNone && !f.zeroized
    | 3 => once && f.seed.isNone && !f.zeroized
    | 4 => once && f.root.isNone && !f.zeroized
    | 5 => once && decide (r.2.1 < 4) && (Store.find f.slots r.2.1).isNone
    | 6 => decide (r.2.1 < 4) && r.2.1 != key
    | _ => false

/-- One record burnt. -/
def Fuses.burn (f : Fuses) (r : Nat × Nat × List Byte) : Fuses :=
  match r.1 with
  | 1 => if r.2.1 = 4 then { f.zeroize with lc := 4 } else { f with lc := r.2.1 }
  | 2 => { f with dik := some (r.2.2.take 32) }
  | 3 => { f with seed := some r.2.2 }
  | 4 => { f with root := some (r.2.2.take 32) }
  | 5 => { f with slots := Store.insert f.slots r.2.1 r.2.2 }
  | 6 => { f with revoked := NatSet.add f.revoked r.2.1 }
  | _ => f

/-- Every record burnt: secrets and slots, then revocations, then the lifecycle (R542). -/
def Fuses.burnAll (f : Fuses) (rs : List (Nat × Nat × List Byte)) : Fuses :=
  let f := (rs.filter (fun r => r.1 != 1 && r.1 != 6)).foldl Fuses.burn f
  let f := (rs.filter (fun r => r.1 == 6)).foldl Fuses.burn f
  (rs.filter (fun r => r.1 == 1)).foldl Fuses.burn f

end Sys2Proof.Machine
end

