-- ==== Sys2Proof/Machine/Cfg.lean ====
section
/-!
DEFINITION. Reading a configuration: the live words, or the words that a commit would make live.

A configuration is a store of words by key, `State.live` itself or the pending image laid over it (R565).
-/

namespace Sys2Proof.Machine

/-- A configuration: the words that differ from reset. -/
abbrev Cfg := Store Word

/-- Word `k` of a configuration. -/
def Cfg.word (c : Cfg) (k : Nat) : Nat := (Store.get resetWord c k).toNat

/-- Field `f` of a configuration. -/
def Cfg.rd (c : Cfg) (f : Fld) : Nat := f.ext (Store.get resetWord c f.key)

/-- A one-bit field of a configuration. -/
def Cfg.flag (c : Cfg) (f : Fld) : Bool := Cfg.rd c f == 1

/-- A store with the words of another laid over it. -/
def Cfg.overlay (c : Cfg) : Store Word → Cfg
  | [] => c
  | (k, v) :: m => Cfg.overlay (Store.set resetWord c k v) m

/-- Key `k` is a word of the IMEM of engine `e`. -/
def inImem (e k : Nat) : Bool := decide (IMEM.word e 0 ≤ k) && decide (k < IMEM.word e 0 + 0x10000)

/-- Key `k` is a word of the descriptor of engine `e`. -/
def inDesc (e k : Nat) : Bool := decide (DESC.word e 0 ≤ k) && decide (k < DESC.word e 0 + 0x400)

/-- An image that turns `old` into `new` takes engine `e` out of a brace as a follower and loads no program for it (R100). -/
def Cfg.leftIdle (old new : Cfg) (pend : Store Word) (e : Nat) : Bool :=
  e % 2 == 1 && bit (Cfg.rd old GE.BRACE.val) (e / 2) && !bit (Cfg.rd new GE.BRACE.val) (e / 2)
    && !pend.any (fun p => inImem e p.1 || inDesc e p.1)

/-- The configuration `new` with the stock idle program in each engine that an image leaves without one (R100): the idle program is what IMEM, the
descriptor and GE.ENTRYn hold after reset (R152, R559). -/
def Cfg.idled (old new : Cfg) (pend : Store Word) : Cfg :=
  let es := (List.range 16).filter (Cfg.leftIdle old new pend)
  if es.isEmpty then new else new.filter (fun p => !es.any (fun e => inImem e p.1 || inDesc e p.1 || p.1 == GE.ENTRY e))

/-- The configuration that the commit in progress would make live (R100, R565). -/
def State.pendCfg (s : State) : Cfg := Cfg.idled s.live (Cfg.overlay s.live s.pend) s.pend

/-- The indexes below `n` of the entries of a table whose word `w` is listed, the word at `base + i * stride`. -/
def Cfg.listed (c : Cfg) (base stride n : Nat) : List Nat :=
  c.filterMap (fun p =>
    if base ≤ p.1 ∧ p.1 < base + stride * n ∧ (p.1 - base) % stride = 0 then some ((p.1 - base) / stride) else none)

/-- The enabled entries of the Flow Table, ascending (R165). -/
def Cfg.flows (c : Cfg) : List Nat := (Cfg.listed c (FT.word 0 0) 64 4096).filter (fun i => Cfg.flag c (FT.EN i))

/-- The enabled receive flows. -/
def Cfg.rxFlows (c : Cfg) : List Nat := (Cfg.flows c).filter (fun i => !Cfg.flag c (FT.DIR i))

/-- The enabled transmit flows. -/
def Cfg.txFlows (c : Cfg) : List Nat := (Cfg.flows c).filter (fun i => Cfg.flag c (FT.DIR i))

/-- The enabled buffers. -/
def Cfg.buffers (c : Cfg) : List Nat := (Cfg.listed c (BT.word 0 0) 16 8192).filter (fun i => Cfg.flag c (BT.EN i))

/-- The enabled Patch Map entries (R217). -/
def Cfg.patches (c : Cfg) : List Nat := (Cfg.listed c (PM.word 0 0) 8 16384).filter (fun i => Cfg.flag c (PM.EN i))

/-- The enabled entries of the Herd Member Table (R259). -/
def Cfg.members (c : Cfg) : List Nat := (Cfg.listed c (HM.word 0 0) 4 1024).filter (fun i => Cfg.flag c (HM.EN i))

/-- The enabled entries of the Cue Launch Queue (R401). -/
def Cfg.cues (c : Cfg) : List Nat := (Cfg.listed c (CLQ.word 0 0) 16 256).filter (fun i => Cfg.flag c (CLQ.EN i))

/-- The enabled delay lines (R438). -/
def Cfg.delayLines (c : Cfg) : List Nat := (Cfg.listed c (DL.word 0 0) 16 1024).filter (fun i => Cfg.flag c (DL.EN i))

/-- The enabled voices (R442). -/
def Cfg.voices (c : Cfg) : List Nat := (Cfg.listed c (VT.word 0 0) 32 256).filter (fun i => Cfg.flag c (VT.EN i))

/-- TICK_LEN of a configuration. -/
def Cfg.tickLen (c : Cfg) : Nat := Cfg.rd c GLB.MEDIA.TICK_LEN

/-- fs of a configuration. -/
def Cfg.fs (c : Cfg) : Nat := familyRate (Cfg.rd c GLB.MEDIA.FAMILY)

/-- The multiplier of a buffer. -/
def Cfg.bufMult (c : Cfg) (b : Nat) : Nat := multOf (Cfg.rd c (BT.MULT b))

/-- S of a buffer. -/
def Cfg.bufS (c : Cfg) (b : Nat) : Nat := Cfg.bufMult c b * Cfg.tickLen c

/-- The number of engines. -/
def engineCount : Nat := 16

/-- Engine `e` is present in a configuration. -/
def Cfg.present (c : Cfg) (e : Nat) : Bool := bit (Cfg.rd c GE.PRESENT.val) e

/-- Engine `e` is the follower of a braced pair in a configuration (R94). -/
def Cfg.follower (c : Cfg) (e : Nat) : Bool := bit (Cfg.rd c GE.BRACE.val) (e / 2) && e % 2 == 1

/-- The engines that run a program of their own: present, enabled, and not followers. -/
def Cfg.engines (c : Cfg) : List Nat :=
  (List.range engineCount).filter (fun e => Cfg.present c e && !Cfg.follower c e)

/-- The declared inputs of engine `e` in a configuration (R152). -/
def Cfg.inputs (c : Cfg) (e : Nat) : List Nat :=
  (List.range (min (bits (Cfg.word c (DESC.word e 5)) 5 0) 32)).map (fun i => bits (Cfg.word c (DESC.word e (8 + i))) 12 0)

/-- The declared outputs of engine `e` in a configuration (R152). -/
def Cfg.outputs (c : Cfg) (e : Nat) : List Nat :=
  (List.range (min (bits (Cfg.word c (DESC.word e 5)) 13 8) 32)).map (fun i => bits (Cfg.word c (DESC.word e (40 + i))) 12 0)

/-- SAP port `n` has its input direction enabled: its own bit and its group's (R277). -/
def Cfg.sapIn (c : Cfg) (n : Nat) : Bool :=
  Cfg.flag c (SAP.P_CFG.IN_EN n) && Cfg.flag c (SAP.CG_CFG.EN (Cfg.rd c (SAP.P_CFG.GROUP n)))

/-- SAP port `n` has its output direction enabled (R277). -/
def Cfg.sapOut (c : Cfg) (n : Nat) : Bool :=
  Cfg.flag c (SAP.P_CFG.OUT_EN n) && Cfg.flag c (SAP.CG_CFG.EN (Cfg.rd c (SAP.P_CFG.GROUP n)))

/-- The buffers that local inputs fill: SAP, AES3 and MADI inputs (R277, R295, R305). -/
def Cfg.localInBufs (c : Cfg) : List Nat :=
  ((List.range 32).filter (Cfg.sapIn c)).map (fun n => Cfg.rd c (SAP.P_BUF.INBUF n))
    ++ ((List.range 8).filter (fun n => Cfg.flag c (AES.RX_CFG.EN n) && Cfg.flag c (AES.RX_CFG.DATA_EN n))).map (fun n => Cfg.rd c (AES.RX_CFG.INBUF n))
    ++ ((List.range 4).filter (fun p => Cfg.flag c (AES.MD_CFG.IN_EN p))).map (fun p => Cfg.rd c (AES.MD_BUF.INBUF p))

/-- The buffers that local outputs play (R277, R301, R305). -/
def Cfg.localOutBufs (c : Cfg) : List Nat :=
  ((List.range 32).filter (Cfg.sapOut c)).map (fun n => Cfg.rd c (SAP.P_BUF.OUTBUF n))
    ++ ((List.range 8).filter (fun n => Cfg.flag c (AES.TX_CFG.EN n))).map (fun n => Cfg.rd c (AES.TX_CFG.OUTBUF n))
    ++ ((List.range 4).filter (fun p => Cfg.flag c (AES.MD_CFG.OUT_EN p))).map (fun p => Cfg.rd c (AES.MD_BUF.OUTBUF p))

/-- The cue player's output buffer, while it is enabled (R442). -/
def Cfg.cueBufs (c : Cfg) : List Nat := if Cfg.flag c CUE.CFG.EN then [Cfg.rd c CUE.CFG.OUTBUF] else []

/-- The buffers that delay lines write (R438). -/
def Cfg.delayBufs (c : Cfg) : List Nat := (Cfg.delayLines c).map (fun i => Cfg.rd c (DL.DSTBUF i))

/-- The buffers that receive flows fill (R168). -/
def Cfg.rxBufs (c : Cfg) : List Nat := (Cfg.rxFlows c).map (fun i => Cfg.rd c (FT.BUFID i))

/-- The buffers that Patch Map entries write (R218). -/
def Cfg.patchBufs (c : Cfg) : List Nat := (Cfg.patches c).map (fun i => Cfg.rd c (PM.DSTBUF i))

/-- The buffers whose lanes the muzzle only observes (R245). -/
def Cfg.observedBufs (c : Cfg) : List Nat :=
  Cfg.rxBufs c ++ Cfg.localInBufs c ++ Cfg.cueBufs c ++ Cfg.delayBufs c

/-- The engine that declares buffer `b` as an output. -/
def Cfg.engineWriting (c : Cfg) (b : Nat) : Option Nat := (Cfg.engines c).find? (fun e => (Cfg.outputs c e).contains b)

/-- Members of herd `k`: KIND and INDEX of the enabled entries of the Herd Member Table that name it (R259, R601). -/
def Cfg.herdMembers (c : Cfg) (k : Nat) : List (Nat × Nat) :=
  ((Cfg.members c).filter (fun i => Cfg.rd c (HM.HERD i) == k)).map (fun i => (Cfg.rd c (HM.KIND i), Cfg.rd c (HM.INDEX i)))

/-- The buffers whose lanes are the muzzled lanes of a member (R259). -/
def Cfg.memberOut (c : Cfg) : Nat × Nat → List Nat
  | (1, i) => if Cfg.flag c (FT.EN i) && Cfg.flag c (FT.DIR i) then [Cfg.rd c (TX.BUFID i)] else []
  | (2, n) => if Cfg.sapOut c n then [Cfg.rd c (SAP.P_BUF.OUTBUF n)] else []
  | (4, n) => if Cfg.flag c (AES.TX_CFG.EN n) then [Cfg.rd c (AES.TX_CFG.OUTBUF n)] else []
  | (5, p) => if Cfg.flag c (AES.MD_CFG.OUT_EN p) then [Cfg.rd c (AES.MD_BUF.OUTBUF p)] else []
  | _ => []

/-- The buffers whose lanes are the observed lanes of a member, whole buffers; a cue voice has lane INDEX of the cue
buffer and is judged by its sample frames (R259, R263, R444). -/
def Cfg.memberIn (c : Cfg) : Nat × Nat → List Nat
  | (0, i) => if Cfg.flag c (FT.EN i) && !Cfg.flag c (FT.DIR i) then [Cfg.rd c (FT.BUFID i)] else []
  | (2, n) => if Cfg.sapIn c n then [Cfg.rd c (SAP.P_BUF.INBUF n)] else []
  | (3, n) => if Cfg.flag c (AES.RX_CFG.EN n) && Cfg.flag c (AES.RX_CFG.DATA_EN n) then [Cfg.rd c (AES.RX_CFG.INBUF n)] else []
  | (5, p) => if Cfg.flag c (AES.MD_CFG.IN_EN p) then [Cfg.rd c (AES.MD_BUF.INBUF p)] else []
  | (6, _) => Cfg.cueBufs c
  | _ => []

/-- The herd that buffer `b` is a muzzled member of, through any member (R259). -/
def Cfg.herdOfBuf (c : Cfg) (b : Nat) : Option Nat :=
  (List.range 16).find? (fun k => (Cfg.herdMembers c k).any (fun m => (Cfg.memberOut c m).contains b))

/-- Buffer `b` is in AM824 form: sent by an AM824 flow, or by an AES3 or MADI output (R175, R249, R290). -/
def Cfg.am824 (c : Cfg) (b : Nat) : Bool :=
  (Cfg.txFlows c).any (fun i => Cfg.rd c (TX.FMT i) == 2 && Cfg.rd c (TX.BUFID i) == b)
    || (List.range 8).any (fun n => Cfg.flag c (AES.TX_CFG.EN n) && Cfg.rd c (AES.TX_CFG.OUTBUF n) == b)
    || (List.range 4).any (fun p => Cfg.flag c (AES.MD_CFG.OUT_EN p) && Cfg.rd c (AES.MD_BUF.OUTBUF p) == b)

/-- The muzzled buffers: enabled, and not observed (R245). -/
def Cfg.muzzledBufs (c : Cfg) : List Nat := (Cfg.buffers c).filter (fun b => !(Cfg.observedBufs c).contains b)

/-- The key of work of one tick for a client of external memory (R434): 1 delay lines, 2 deep receive, 3 cue player, 5 capture,
and the line or flow. -/
def clientKey (c i : Nat) : Nat := c * 2 ^ 20 + i

end Sys2Proof.Machine
end

