-- ==== Sys2Proof/Machine/GenahDecode.lean ====
section
/-!
DEFINITION. The Genah instruction words (R105 to R107, R144): decoding, total on any word, and encoding.

A word that R144 calls illegal decodes to none. `Genah.cost` is the cycle column of R107.
-/

namespace Sys2Proof.Machine

/-- Fields of format S [14:0], [15] (R105): the second operand, where `shift` demands imm15[14:5] = 0 (R108). -/
def decSOperand (w : Nat) (shift : Bool) : Option SOperand :=
  if bit w 15 then
    if shift && bits w 14 5 != 0 then none else some (.imm (bits w 14 0))
  else if bits w 9 0 = 0 then some (.reg (bits w 14 10)) else none

/-- Operand b of format V (R105): [17] S, [16:12] gt or 0 and vb. -/
def decVOperand (w : Nat) : Option VOperand :=
  if bit w 17 then some (.scalar (bits w 16 12))
  else if bit w 16 then none else some (.vec (bits w 15 12))

/-- The place a format A word reaches, and its lane mask register (R105, R106, R122). -/
def decVAddr (w : Nat) : Option (VAddr × Nat) :=
  match bits w 21 20 with
  | 0 =>
    let h := bits w 19 16
    let gm := bits w 13 9
    match bits w 15 14 with
    | 0 => if bits w 8 0 = 0 then some (.sxm h .unit, gm) else none
    | 1 => if bits w 8 0 = 0 then some (.sxm h .chan, gm) else none
    | 2 => some (.sxm h (.imm (signedN 9 (bits w 8 0))), gm)
    | _ => if bits w 8 5 = 0 then some (.sxm h (.reg (bits w 4 0)), gm) else none
  | 1 => some (.dmem (bits w 19 15) (bits w 9 0), bits w 14 10)
  | 2 => some (.fbuf (bits w 19 15) (bits w 9 0), bits w 14 10)
  | _ => none

/-- A format S instruction with destination gd. -/
def decS (w : Nat) (shift : Bool) (f : Nat → Nat → SOperand → Genah) : Option Genah :=
  (decSOperand w shift).map (f (bits w 25 21) (bits w 20 16))

/-- A format V instruction whose function field is 0. -/
def decV0 (w : Nat) (f : Nat → Nat → VOperand → Nat → Genah) : Option Genah :=
  if bits w 6 0 = 0 then (decVOperand w).map (fun b => f (bits w 25 22) (bits w 21 18) b (bits w 11 7)) else none

/-- The instruction that word `w` spells, none where the word is illegal (R144). -/
def Genah.decode (w : Nat) : Option Genah :=
  match bits w 31 26 with
  | 0x01 => if bits w 19 16 = 0 then some (.li (bits w 25 21) (bit w 20) (bits w 15 0)) else none
  | 0x02 => decS w false .add
  | 0x03 => decS w false .sub
  | 0x04 => decS w false .and
  | 0x05 => decS w false .or
  | 0x06 => decS w false .xor
  | 0x07 => decS w true .shl
  | 0x08 => decS w true .shr
  | 0x09 => decS w true .sar
  | 0x0A => decS w false .mul
  | 0x0B => if bits w 25 21 = 0 then (decSOperand w false).map (.cmp (bits w 20 16)) else none
  | 0x0C => some (.lw (bits w 25 21) (bits w 20 16) (signedN 16 (bits w 15 0)))
  | 0x0D => some (.sw (bits w 25 21) (bits w 20 16) (signedN 16 (bits w 15 0)))
  | 0x10 =>
    if bits w 21 16 = 0 ∧ bits w 25 22 < 10 ∧ bits w 15 0 ≠ 0 then some (.br (bits w 25 22) (bits w 15 0)) else none
  | 0x11 => if 2 ≤ bits w 25 16 then some (.loop (bits w 25 16) (bits w 15 0)) else none
  | 0x12 =>
    if 2 ≤ bits w 20 11 ∧ bits w 10 0 ≠ 0 then some (.loopr (bits w 25 21) (bits w 20 11) (bits w 10 0)) else none
  | 0x13 => if bits w 25 0 = 0 then some .endl else none
  | 0x14 => if bits w 25 14 = 0 then some (.call (bits w 13 0)) else none
  | 0x15 => if bits w 25 0 = 0 then some .ret else none
  | 0x16 => if bits w 25 0 = 0 then some .endt else none
  | 0x18 =>
    if bits w 15 13 = 0 then some (.hset (bits w 25 22) (bit w 21) (bits w 20 16) (bits w 12 0)) else none
  | 0x19 => some (.hadv (bits w 25 22) (bit w 21) (bits w 20 16) (signedN 16 (bits w 15 0)))
  | 0x1A => (decVAddr w).map (fun p => .vld (bits w 25 22) p.1 p.2)
  | 0x1B => (decVAddr w).map (fun p => .vst (bits w 25 22) p.1 p.2)
  | 0x20 =>
    if bits w 6 1 = 0 then
      (decVOperand w).map (fun b => .vadd (bits w 25 22) (bits w 21 18) b (bits w 11 7) (bit w 0))
    else none
  | 0x21 => decV0 w .vmul
  | 0x22 =>
    if bits w 25 24 = 0 ∧ bits w 6 2 = 0 then
      (decVOperand w).map (fun b => .vmac (bits w 23 22) (bits w 21 18) b (bits w 11 7) (bit w 0) (bit w 1))
    else none
  | 0x23 =>
    if bits w 21 20 = 0 ∧ bits w 17 12 = 0 ∧ bits w 6 3 = 0 then
      some (.vsat (bits w 25 22) (bits w 19 18) (bits w 11 7) (bits w 2 0))
    else none
  | 0x24 =>
    if bits w 17 16 = 0 ∧ bits w 6 0 = 0 then
      some (.vsel (bits w 25 22) (bits w 21 18) (bits w 15 12) (bits w 11 7))
    else none
  | 0x25 =>
    if bits w 17 12 = 0 ∧ bits w 6 0 = 0 then some (.vpeak (bits w 25 22) (bits w 21 18) (bits w 11 7)) else none
  | 0x26 =>
    if bits w 6 0 = 0 then some (.vramp (bits w 25 22) (bits w 21 17) (bits w 16 12) (bits w 11 7)) else none
  | 0x27 =>
    if bits w 6 6 = 0 ∧ 16 ≤ bits w 4 0 ∧ bits w 4 0 ≤ 24 then
      (decVOperand w).map (fun b => .vdith (bits w 25 22) (bits w 21 18) b (bits w 11 7) (bits w 4 0) (bit w 5))
    else none
  | 0x30 => some (.fetch (bits w 25 21) (bits w 20 16) (bits w 15 11) (bits w 10 5) (bits w 4 0))
  | 0x31 => if bits w 25 4 = 0 then some (.waitf (bits w 3 0)) else none
  | 0x32 => some (.put (bits w 25 21) (bits w 20 16) (bits w 15 11) (bits w 10 5) (bits w 4 0))
  | 0x38 => if bits w 20 2 = 0 ∧ bits w 1 0 ≠ 3 then some (.tkidx (bits w 25 21) (bits w 1 0)) else none
  | 0x39 =>
    if bits w 13 0 = 0 ∧ bits w 16 14 ≠ 7 then some (.tstat (bits w 25 21) (bits w 20 17) (bits w 16 14)) else none
  | 0x3A => if bits w 16 0 = 0 then some (.muz (bits w 25 22) (bits w 21 17)) else none
  | 0x3B => if bits w 20 16 = 0 then some (.mark (bits w 25 21) (bits w 15 0)) else none
  | _ => none

/-- The bits of the second operand of a format S word. -/
def encSOperand : SOperand → Nat
  | .reg gt => gt * 2 ^ 10
  | .imm i => 2 ^ 15 + i

/-- The bits of operand b of a format V word. -/
def encVOperand : VOperand → Nat
  | .vec vb => vb * 2 ^ 12
  | .scalar gt => 2 ^ 17 + gt * 2 ^ 12

/-- A format S word. -/
def encS (op gd gs : Nat) (b : SOperand) : Nat := op * 2 ^ 26 + gd * 2 ^ 21 + gs * 2 ^ 16 + encSOperand b

/-- The bits of a format A word below its vector register. -/
def encVAddr (gm : Nat) : VAddr → Nat
  | .sxm h .unit => h * 2 ^ 16 + gm * 2 ^ 9
  | .sxm h .chan => h * 2 ^ 16 + 2 ^ 14 + gm * 2 ^ 9
  | .sxm h (.imm i) => h * 2 ^ 16 + 2 * 2 ^ 14 + gm * 2 ^ 9 + wrapN 9 i
  | .sxm h (.reg gx) => h * 2 ^ 16 + 3 * 2 ^ 14 + gm * 2 ^ 9 + gx
  | .dmem gb i => 2 ^ 20 + gb * 2 ^ 15 + gm * 2 ^ 10 + i
  | .fbuf gb i => 2 * 2 ^ 20 + gb * 2 ^ 15 + gm * 2 ^ 10 + i

/-- A format V word. -/
def encV (op vd va : Nat) (b : VOperand) (gm fn : Nat) : Nat :=
  op * 2 ^ 26 + vd * 2 ^ 22 + va * 2 ^ 18 + encVOperand b + gm * 2 ^ 7 + fn

/-- A format X word. -/
def encX (op gf go gx region len : Nat) : Nat :=
  op * 2 ^ 26 + gf * 2 ^ 21 + go * 2 ^ 16 + gx * 2 ^ 11 + region * 2 ^ 5 + len

/-- The number of a truth value. -/
def bnum (b : Bool) : Nat := if b then 1 else 0

/-- The word that spells an instruction (R105, R107). -/
def Genah.encode : Genah → Nat
  | .li gd h i => 0x01 * 2 ^ 26 + gd * 2 ^ 21 + bnum h * 2 ^ 20 + i
  | .add gd gs b => encS 0x02 gd gs b
  | .sub gd gs b => encS 0x03 gd gs b
  | .and gd gs b => encS 0x04 gd gs b
  | .or gd gs b => encS 0x05 gd gs b
  | .xor gd gs b => encS 0x06 gd gs b
  | .shl gd gs b => encS 0x07 gd gs b
  | .shr gd gs b => encS 0x08 gd gs b
  | .sar gd gs b => encS 0x09 gd gs b
  | .mul gd gs b => encS 0x0A gd gs b
  | .cmp gs b => encS 0x0B 0 gs b
  | .lw gd gb i => 0x0C * 2 ^ 26 + gd * 2 ^ 21 + gb * 2 ^ 16 + wrapN 16 i
  | .sw gs gb i => 0x0D * 2 ^ 26 + gs * 2 ^ 21 + gb * 2 ^ 16 + wrapN 16 i
  | .br c o => 0x10 * 2 ^ 26 + c * 2 ^ 22 + o
  | .loop d n => 0x11 * 2 ^ 26 + d * 2 ^ 16 + n
  | .loopr gs d m => 0x12 * 2 ^ 26 + gs * 2 ^ 21 + d * 2 ^ 11 + m
  | .endl => 0x13 * 2 ^ 26
  | .call t => 0x14 * 2 ^ 26 + t
  | .ret => 0x15 * 2 ^ 26
  | .endt => 0x16 * 2 ^ 26
  | .hset h out gs i => 0x18 * 2 ^ 26 + h * 2 ^ 22 + bnum out * 2 ^ 21 + gs * 2 ^ 16 + i
  | .hadv h st gs i => 0x19 * 2 ^ 26 + h * 2 ^ 22 + bnum st * 2 ^ 21 + gs * 2 ^ 16 + wrapN 16 i
  | .vld v a gm => 0x1A * 2 ^ 26 + v * 2 ^ 22 + encVAddr gm a
  | .vst v a gm => 0x1B * 2 ^ 26 + v * 2 ^ 22 + encVAddr gm a
  | .vadd vd va b gm neg => encV 0x20 vd va b gm (bnum neg)
  | .vmul vd va b gm => encV 0x21 vd va b gm 0
  | .vmac ad va b gm z neg => encV 0x22 ad va b gm (bnum z + 2 * bnum neg)
  | .vsat vd as gm sh => 0x23 * 2 ^ 26 + vd * 2 ^ 22 + as * 2 ^ 18 + gm * 2 ^ 7 + sh
  | .vsel vd va vb gm => encV 0x24 vd va (.vec vb) gm 0
  | .vpeak vd va gm => encV 0x25 vd va (.vec 0) gm 0
  | .vramp vd gs gt gm => 0x26 * 2 ^ 26 + vd * 2 ^ 22 + gs * 2 ^ 17 + gt * 2 ^ 12 + gm * 2 ^ 7
  | .vdith vd va b gm w t => encV 0x27 vd va b gm (w + 32 * bnum t)
  | .fetch gf go gx r n => encX 0x30 gf go gx r n
  | .waitf k => 0x31 * 2 ^ 26 + k
  | .put gf go gx r n => encX 0x32 gf go gx r n
  | .tkidx gd sel => 0x38 * 2 ^ 26 + gd * 2 ^ 21 + sel
  | .tstat gd hv m => 0x39 * 2 ^ 26 + gd * 2 ^ 21 + hv * 2 ^ 17 + m * 2 ^ 14
  | .muz h gm => 0x3A * 2 ^ 26 + h * 2 ^ 22 + gm * 2 ^ 17
  | .mark gs i => 0x3B * 2 ^ 26 + gs * 2 ^ 21 + i

/-- The core cycles an instruction occupies, without waits; BR, LOOP and LOOPR as when not taken and not skipped
(R107). -/
def Genah.cost : Genah → Nat
  | .mul .. | .lw .. | .call .. | .ret | .vld .. | .vmul .. | .vsat .. | .vramp .. | .vdith .. | .fetch .. | .put ..
  | .tstat .. | .muz .. | .mark .. | .loopr .. => 2
  | .hset .. => 4
  | .li .. | .add .. | .sub .. | .and .. | .or .. | .xor .. | .shl .. | .shr .. | .sar .. | .cmp .. | .sw .. | .br ..
  | .loop .. | .endl | .endt | .hadv .. | .vst .. | .vadd .. | .vmac .. | .vsel .. | .vpeak .. | .waitf ..
  | .tkidx .. => 1

end Sys2Proof.Machine
end

