-- ==== Sys2Proof/Machine/Operands.lean ====
section
/-!
DEFINITION. The operand forms of the Genah instructions: scalar and vector registers, second operands, lane masks,
declared buffers, handles, and the addresses that a lane reaches (R69 to R72, R102, R103, R112, R116 to R122).
-/

namespace Sys2Proof.Machine

/-- The value of scalar register `r`; g0 reads 0 (R69). -/
def Engine.gr (x : Engine) (r : Nat) : Nat := if r = 0 then 0 else (Store.get (fun _ => (0 : Word)) x.g r).toNat

/-- The engine with scalar register `r` at `n` modulo 2^32; a write to g0 is discarded (R108). -/
def Engine.setG (x : Engine) (r n : Nat) : Engine :=
  if r = 0 then x else { x with g := Store.set (fun _ => (0 : Word)) x.g r (BitVec.ofNat 32 n) }

/-- What a vector lane reads as before anything is written: 0 with tag 1 (R70, R103). -/
def laneReset (_ : Nat) : Lane := ⟨0, true⟩

/-- What an accumulator lane reads as before anything is written. -/
def accReset (_ : Nat) : AccLane := ⟨0, true⟩

/-- Lane `i` of vector register `r`. -/
def Engine.lane (x : Engine) (r i : Nat) : Lane := Store.get laneReset x.v (16 * r + i)

/-- The engine with lane `i` of vector register `r` written. -/
def Engine.setLane (x : Engine) (r i : Nat) (l : Lane) : Engine := { x with v := Store.set laneReset x.v (16 * r + i) l }

/-- Lane `i` of accumulator `r`. -/
def Engine.acc (x : Engine) (r i : Nat) : AccLane := Store.get accReset x.a (16 * r + i)

/-- The engine with lane `i` of accumulator `r` written. -/
def Engine.setAcc (x : Engine) (r i : Nat) (l : AccLane) : Engine := { x with a := Store.set accReset x.a (16 * r + i) l }

/-- The second operand of a format S instruction whose imm15 is sign-extended: ADD, SUB, MUL, CMP (R108). -/
def Engine.sSigned (x : Engine) : SOperand → Nat
  | .reg gt => x.gr gt
  | .imm i => wrap32 (signedN 15 i)

/-- The second operand of a format S instruction whose imm15 is zero-extended: AND, OR, XOR (R108). -/
def Engine.sZero (x : Engine) : SOperand → Nat
  | .reg gt => x.gr gt
  | .imm i => i

/-- The shift count of SHL, SHR, SAR (R108). -/
def Engine.sCount (x : Engine) : SOperand → Nat
  | .reg gt => x.gr gt % 32
  | .imm i => i % 32

/-- Operand b of lane `i` of a format V instruction, with its tag; a scalar counts as tag 1 (R103). -/
def Engine.vOperand (x : Engine) (b : VOperand) (i : Nat) : Lane :=
  match b with
  | .vec vb => x.lane vb i
  | .scalar gt => ⟨BitVec.ofNat 32 (x.gr gt), true⟩

/-- The lanes below `n`, ascending, through `f`. -/
def Engine.eachLane (x : Engine) (f : Engine → Nat → Engine) : Nat → Engine
  | 0 => x
  | n + 1 => f (Engine.eachLane x f n) n

/-- Lane `i` is enabled under mask register `gm`; every lane is when gm names g0 (R120). -/
def Engine.enabled (x : Engine) (gm i : Nat) : Bool := gm == 0 || bit (x.gr gm) i

/-- The number of declared inputs of engine `e` (R152). -/
def State.nIn (s : State) (e : Nat) : Nat := bits (s.num (DESC.word e 5)) 5 0

/-- The number of declared outputs of engine `e` (R152). -/
def State.nOut (s : State) (e : Nat) : Nat := bits (s.num (DESC.word e 5)) 13 8

/-- The declared inputs of engine `e` (R152). -/
def State.inputs (s : State) (e : Nat) : List Nat :=
  (List.range (s.nIn e)).map (fun i => bits (s.num (DESC.word e (8 + i))) 12 0)

/-- The declared outputs of engine `e` (R152). -/
def State.outputs (s : State) (e : Nat) : List Nat :=
  (List.range (s.nOut e)).map (fun i => bits (s.num (DESC.word e (40 + i))) 12 0)

/-- The number of declared DRAM regions of engine `e` (R152). -/
def State.nReg (s : State) (e : Nat) : Nat := bits (s.num (DESC.word e 5)) 22 16

/-- The DRAM byte base of region `r` of engine `e` (R152). -/
def State.regionBase (s : State) (e r : Nat) : Nat := bits (s.num (DESC.word e (72 + 2 * r))) 21 0 * 4096

/-- The byte size of region `r` of engine `e` (R152). -/
def State.regionSize (s : State) (e r : Nat) : Nat := bits (s.num (DESC.word e (73 + 2 * r))) 21 0 * 4096

/-- The size of an engine's DMEM in bytes, joined in brace (R96, R112). -/
def State.dmemSize (s : State) (e : Nat) : Nat := if s.braced e then 2 ^ 19 else 2 ^ 18

/-- The size of an engine's FBUF in bytes, joined in brace (R104). -/
def State.fbufSize (s : State) (e : Nat) : Nat := if s.braced e then 2 ^ 15 else 2 ^ 14

/-- The DMEM word address that base `g` and byte offset `o` reach; bits [1:0] are ignored (R112, R122). -/
def State.dmemAddr (s : State) (e : Nat) (g : Nat) (o : Int) : Nat :=
  ((Int.ofNat g + o) % Int.ofNat (s.dmemSize e)).toNat / 4 * 4

/-- The FBUF word address that base `g` and byte offset `o` reach (R122). -/
def State.fbufAddr (s : State) (e : Nat) (g o : Nat) : Nat := (g + o) % s.fbufSize e / 4 * 4

/-- The handle `h` of an engine, if it is bound. -/
def Engine.handle (x : Engine) (h : Nat) : Option Handle := Store.find x.handles h

/-- The stride of an SXM access through a buffer of `c` channels (R118). -/
def Engine.stride (x : Engine) (c : Nat) : Stride → Int
  | .unit => 1
  | .chan => Int.ofNat c
  | .imm i => i
  | .reg gx => signed32 (x.gr gx)

/-- The container index that lane `i` reaches (R118). -/
def Engine.laneIndex (x : Engine) (hd : Handle) (c : Nat) (st : Stride) (i : Nat) : Int :=
  signed32 hd.cursor + Int.ofNat i * x.stride c st

/-- A container index as a frame position, none where it lies out of frame (R119). -/
def inFrame (c n : Nat) (p : Int) : Option Nat :=
  if 0 ≤ p ∧ p < Int.ofNat (c * n) then some p.toNat else none

/-- sat32: an integer clamped to 32 bits, and whether it was clamped (R124). -/
def sat32 (y : Int) : Int := clampInt (-(2 ^ 31)) (2 ^ 31 - 1) y

/-- sat64 (R126). -/
def sat64 (y : Int) : Int := clampInt (-(2 ^ 63)) (2 ^ 63 - 1) y

/-- An arithmetic shift right of an exact integer. -/
def asr (y : Int) (n : Nat) : Int := y / 2 ^ n

end Sys2Proof.Machine
end

