-- ==== Sys2Proof/Machine/Flags.lean ====
section
/-!
DEFINITION. The condition flags of a Genah engine: CMP writes them, BR reads them (R103, R110, R111).
-/

namespace Sys2Proof.Machine

/-- The engine with the flags of the comparison of `a` with `b`, both 32-bit numbers (R110). -/
def Engine.compare (x : Engine) (a b : Nat) : Engine :=
  let r := wrap32 (Int.ofNat a - Int.ofNat b)
  let exact := signed32 a - signed32 b
  { x with z := r == 0, n := bit r 31, c := decide (b ≤ a), o := exact != signed32 r }

/-- The condition of a BR holds (R111). -/
def Engine.condition (x : Engine) (cond : Nat) : Bool :=
  match cond with
  | 0 => true
  | 1 => x.z
  | 2 => !x.z
  | 3 => x.n != x.o
  | 4 => x.n == x.o
  | 5 => !x.z && x.n == x.o
  | 6 => x.z || x.n != x.o
  | 7 => !x.c
  | 8 => x.c
  | _ => false

end Sys2Proof.Machine
end

