-- ==== Sys2Proof/Machine/Engines.lean ====
section
/-!
DEFINITION. How a Genah engine executes (chapter 3): program start, run-ahead, the run-ahead store buffer, squash,
overrun, retirement, DRAM transactions, and the one premise under which an instruction row takes effect.
-/

namespace Sys2Proof.Machine

/-! ## Memory seen by an engine -/

/-- The youngest value held for address `a` among the cells of one entry. -/
def heldCell (a : Nat) (cells : List (Nat × Word)) : Option Word :=
  (cells.reverse.find? (fun p => p.1 == a)).map (·.2)

/-- The youngest held SXM value of address `a`; entries are newest first (R82). -/
def rsbSxm (a : Nat) : List RsbEntry → Option Word
  | [] => none
  | .sxm cells :: r => match heldCell a cells with | some w => some w | none => rsbSxm a r
  | _ :: r => rsbSxm a r

/-- The youngest held DMEM value of address `a` (R82). -/
def rsbDmem (a : Nat) : List RsbEntry → Option Word
  | [] => none
  | .dmem cells :: r => match heldCell a cells with | some w => some w | none => rsbDmem a r
  | _ :: r => rsbDmem a r

/-- The youngest held FBUF value of address `a` (R82). -/
def rsbFbuf (a : Nat) : List RsbEntry → Option Word
  | [] => none
  | .fbuf cells :: r => match heldCell a cells with | some w => some w | none => rsbFbuf a r
  | _ :: r => rsbFbuf a r

/-- The DMEM key of engine `e`'s address `a`; a braced leader's upper half reaches its follower's memory (R96). -/
def dmemKey (e a : Nat) : Nat := e * 2 ^ 18 + a

/-- The DMEM word at address `a` that engine `e` sees. -/
def State.loadDmem (s : State) (e a : Nat) : Nat :=
  match rsbDmem a (s.engine e).rsb with
  | some w => w.toNat
  | none => Memory.word s.dmem (dmemKey e a)

/-- The FBUF word at address `a` of an engine, from memory: what the program has not written is open (R104). -/
def Engine.fbufWord (x : Engine) (a : Nat) : Nat :=
  match Store.find x.fbuf a with
  | some w => w.toNat
  | none => (Config.fbufOpen x.fbufStart a).toNat

/-- The FBUF word at address `a` that an engine sees. -/
def Engine.loadFbuf (x : Engine) (a : Nat) : Nat :=
  match rsbFbuf a x.rsb with
  | some w => w.toNat
  | none => x.fbufWord a

/-! ## Stores -/

/-- The state with cells stored to SXM. -/
def State.storeSxm (s : State) : List (Nat × Word) → State
  | [] => s
  | (a, w) :: r => State.storeSxm (s.setSxm a w.toNat) r

/-- The state with cells stored to the DMEM of engine `e`. -/
def State.storeDmem (s : State) (e : Nat) : List (Nat × Word) → State
  | [] => s
  | (a, w) :: r => State.storeDmem { s with dmem := Memory.setWord s.dmem (dmemKey e a) w.toNat } e r

/-- The engine with cells stored to its FBUF. -/
def Engine.storeFbuf (x : Engine) : List (Nat × Word) → Engine
  | [] => x
  | (a, w) :: r => Engine.storeFbuf { x with fbuf := Store.insert x.fbuf a w } r

/-- The size of the RSB of engine `e` (R69). -/
def State.rsbSize (s : State) (e : Nat) : Nat := if s.braced e then 256 else 128

/-- The number of fetch tickets of engine `e` (R69). -/
def State.ticketCount (s : State) (e : Nat) : Nat := if s.braced e then 16 else 8

/-- The tickets an engine holds (R74). -/
def Engine.ticketsHeld (x : Engine) : Nat := (x.tickets.filter (·.held)).length

/-- The engine stopped on a full RSB, or on a fetch that a held PUT overlaps: GE.RSBSTALLn counts once per run-ahead for a full
RSB (R82, R83), and a stop on a held PUT alone is not counted (DESIGN CHOICE, log entry 64). -/
def State.stallRsb (s : State) (e : Nat) (full : Bool) : State :=
  let x := s.engine e
  let s := s.setEngine e { x with st := .rsbStall, stalled := x.stalled || full }
  if full && !x.stalled then (s.inc (GE.RSBSTALL.val e)).sqf (GE.HIST.RSB_STALL e) else s

/-- Engine `e` performs one effect that a run-ahead holds: at once, or as an RSB entry (R82, R143). `go` is what the
instruction does to the engine once its effect is taken. -/
def State.effect (s : State) (e : Nat) (r : RsbEntry) (go : Engine → Engine) (direct : State → State) : State :=
  let x := s.engine e
  if x.ahead then
    if x.rsb.length < s.rsbSize e then s.setEngine e (go { x with rsb := r :: x.rsb })
    else s.stallRsb e true
  else
    let s := direct s
    s.setEngine e (go (s.engine e))

/-! ## The premise of an instruction row -/

/-- The word that engine `e` fetches next. -/
def State.fetchWord (s : State) (e : Nat) : Nat := s.num (IMEM.word e ((s.engine e).pc % 2 ^ 14))

/-- Engine `e` runs, ahead or not, and does not stand for want of a ticket for a PUT that its retired run-ahead held (R74). -/
def State.executes (s : State) (e : Nat) : Bool :=
  s.ticking && decide (e < 16) && s.present e && !s.follower e
    && ((s.engine e).st == .run || (s.engine e).st == .runahead) && (s.engine e).waitPuts.isEmpty

/-- Engine `e` is about to execute instruction `i`. -/
def State.issues (s : State) (e : Nat) (i : Genah) : Bool :=
  s.executes e && decide (Genah.decode (s.fetchWord e) = some i)

/-- An engine past an instruction of `cycles` core cycles, at the next word. -/
def Engine.next (x : Engine) (cycles : Nat) : Engine := { x with pc := x.pc + 1, cycles := x.cycles + cycles }

/-- An engine past an instruction of `cycles` core cycles, at word `pc`. -/
def Engine.jump (x : Engine) (cycles pc : Nat) : Engine := { x with pc := pc, cycles := x.cycles + cycles }

/-- One instruction of engine `e` that changes only the engine: not due while another word stands there. -/
def State.scalar (s : State) (e : Nat) (i : Genah) (f : Engine → Engine) : State :=
  if s.issues e i then s.setEngine e (f (s.engine e)) else s

/-! ## Program start -/

/-- The seed of the dither LFSR (R132). -/
def ditherSeed (tick e : Nat) : Nat :=
  let v := (tick ^^^ 0x9E3779B9 ^^^ (e * 2 ^ 24)) % 2 ^ 32
  if v = 0 then 1 else v

/-- Engine `e` starts its program for tick `t` in the fixed state of R70, ahead or not. -/
def State.startProgram (s : State) (e t : Nat) (ahead : Bool) : State :=
  let x := s.engine e
  let y : Engine :=
    { x with st := if ahead then .runahead else .run, g := [], v := [], a := [], z := true, n := true, c := true,
             o := true, handles := [], loops := [], calls := [], pc := s.rd (GE.ENTRY.val e), tick := t % 2 ^ 32,
             ahead := ahead, done := false, cycles := 0, lfsr := ditherSeed (t % 2 ^ 32) e, sat := 0, clampSeen := false,
             rsb := [], stalled := false, fbuf := [], fbufStart := s.free,
             taint := x.taint.filter (fun u => (u + 1) % 2 ^ 32 == t) }
  { s with free := s.free + 1 }.setEngine e y

/-- Engine `e` stops: its tickets are freed, FETCH data still to come is discarded, and issued PUTs complete
(R88, R89, R145). -/
def Engine.halt (x : Engine) : Engine :=
  { x with tickets := (x.tickets.filter (·.put)).map (fun t => { t with held := false }), rsb := [] }

/-- The PUTs that wait for a ticket take those free of the engine's `n`, oldest first (R74). -/
def Engine.refill (x : Engine) (n : Nat) : Engine :=
  { x with tickets := x.tickets ++ x.waitPuts.take (n - x.ticketsHeld), waitPuts := x.waitPuts.drop (n - x.ticketsHeld) }

/-- The state with engine `e` at `x`, whose free tickets go to the PUTs that wait for one. -/
def State.setFilled (s : State) (e : Nat) (x : Engine) : State := s.setEngine e (x.refill (s.ticketCount e))

/-- A squash of the run-ahead of engine `e`, counted in `counter` (R88). A run-ahead's own PUTs are still held in its
RSB, so the PUTs in flight are those of earlier programs and complete. -/
def State.squash (s : State) (e : Nat) (counter : Fld) : State :=
  let x := s.engine e
  if x.ahead then
    let s := s.setFilled e { x.halt with st := .squashed, ahead := false, done := false, noAhead := true }
    (s.inc counter).sqf (GE.HIST.SQUASH e)
  else s

/-- The engines numbered below `n`, ascending, through `f`. -/
def State.eachBelow (s : State) (f : State → Nat → State) : Nat → State
  | 0 => s
  | n + 1 => f (State.eachBelow s f n) n

/-- Engine `e` may still read, or has read, buffer `b` as a declared input in its run-ahead. -/
def State.aheadReads (s : State) (e b : Nat) : Bool := (s.engine e).ahead && (s.inputs e).contains b

/-- Every run-ahead that reads buffer `b` in its frame `f` is squashed for an input loss (R87). -/
def State.squashReaders (s : State) (b f : Nat) : State :=
  s.eachBelow (fun s e =>
    if s.aheadReads e b && (s.engine e).tick == f % 2 ^ 32 then s.squash e (GE.SQREWIND.val e) else s) 16

/-- Every run-ahead that reads frame `f` of buffer `b` is squashed for a muzzle change of a lane (R87). -/
def State.squashMuzzle (s : State) (b f : Nat) : State :=
  s.eachBelow (fun s e =>
    if s.aheadReads e b && (s.engine e).tick == f % 2 ^ 32 then s.squash e (GE.SQMUZZLE.val e) else s) 16

/-! ## Overrun and illegal words -/

/-- Engine `e` is stopped with its program for the current tick unfinished: no frame it declares becomes valid. Until the next boundary
GE.STATn.STATE reads IDLE, a state that R78 gives for an engine that has executed ENDT (DESIGN CHOICE, log entry 65). -/
def State.stopEngine (s : State) (e : Nat) : State :=
  let x := s.engine e
  s.setFilled e { x.halt with st := .idle, done := false, ahead := false, noAhead := true }

/-- A tick overrun of engine `e` (R89, R91). -/
def State.overrun (s : State) (e : Nat) : State :=
  let x := s.engine e
  let s := s.stopEngine e
  let s := s.sqf (GE.HIST.OVERRUN e)
  let s := s.sqf GLB.TICKHIST.OVERRUN
  let s := s.inc (GE.OVERRUN.val e)
  let s := s.report 0x0E01 e x.pc
  let n := x.overruns + 1
  let lim := s.rd (GE.CTL.OVR_LIMIT e)
  let s := s.setEngine e { s.engine e with overruns := n }
  if lim ≠ 0 ∧ lim ≤ n then
    let s := s.setEngine e { s.engine e with st := .parked }
    (s.sqf (GE.HIST.PARKED e)).report 0x0E03 e s.tick
  else s

/-- The guard begins: every engine still running its program of the current tick is aborted (R15, R89); for any other the ticks aborted in a row
end (R91). -/
def State.overruns (s : State) : State :=
  s.eachBelow (fun s e =>
    if !s.follower e && (s.engine e).st == .run then s.overrun e else s.setEngine e { s.engine e with overruns := 0 }) 16

/-! ## Retirement -/

/-- A PUT issued by an engine, with the FBUF words it carries. The interlock of R138 keeps those words as they are
until it completes. R138 names no interlock for a PUT from FBUF words that an incomplete FETCH is still to write: the PUT takes
the words as they stand at its issue (DESIGN CHOICE, log entry 66). -/
def Engine.putTicket (x : Engine) (dram fbuf : List Nat) : Ticket :=
  { put := true, seq := x.issued, dram := dram, fbuf := fbuf, words := fbuf.map x.fbufWord, held := true }

/-- The engine with a transaction issued, which has its number. -/
def Engine.issue (x : Engine) (t : Ticket) : Engine := { x with tickets := x.tickets ++ [t], issued := x.issued + 1 }

/-- One held entry of engine `e` is written to its target (R84, R143). A held PUT reads its FBUF source and becomes a transaction in flight as
soon as a ticket is free; until then the engine stands (R74; which of the PUTs waits, and that their sources are read at step 4, is a
DESIGN CHOICE, log entry 67). -/
def State.retireEntry (s : State) (e : Nat) (r : RsbEntry) : State :=
  match r with
  | .sxm cells => s.storeSxm cells
  | .dmem cells => s.storeDmem e cells
  | .fbuf cells => s.setEngine e ((s.engine e).storeFbuf cells)
  | .put d f =>
    let x := s.engine e
    s.setFilled e { x with waitPuts := x.waitPuts ++ [x.putTicket d f], issued := x.issued + 1 }
  | .muz lanes =>
    let x := s.engine e
    { s with marks := lanes.map (fun p => { buf := p.1, ch := p.2, frame := (x.tick + 1) % 2 ^ 32 }) ++ s.marks }
  | .mark d => s.report 0x0E07 e d

/-- Held entries, oldest first, are written to their targets (R84). -/
def State.retireAll (s : State) (e : Nat) : List RsbEntry → State
  | [] => s
  | r :: rs => State.retireAll (s.retireEntry e r) e rs

/-- Step 4 of the boundary for engine `e`: its run-ahead retires, and what still runs goes on as the tick's program
(R84). A run-ahead that has ended counts as the program of the tick that begins; one that goes on makes its output frames ready at
its ENDT and not at its retirement (R80; DESIGN CHOICE, log entry 68). -/
def State.retire (s : State) (e : Nat) : State :=
  let x := s.engine e
  if x.ahead then
    let s := s.setEngine e { x with rsb := [] }
    let s := s.retireAll e x.rsb.reverse
    let y := s.engine e
    let s := s.setEngine e
      { y with ahead := false, st := if y.done then .idle else .run, okTick := if y.done then some y.tick else y.okTick,
               overruns := if y.done then 0 else y.overruns }
    s.inc (GE.RARETIRE.val e)
  else s

/-! ## DRAM transactions -/

/-- The state with words written to DRAM. -/
def State.storeDram (s : State) : List (Nat × Nat) → State
  | [] => s
  | (a, w) :: r => State.storeDram { s with dram := Memory.setWord s.dram a w } r

/-- The DRAM words at given addresses, as cells for FBUF. -/
def State.fetchCells (s : State) : List Nat → List Nat → List (Nat × Word)
  | d :: ds, f :: fs => (f, BitVec.ofNat 32 (Memory.word s.dram d)) :: State.fetchCells s ds fs
  | _, _ => []

/-- Two address lists share an address. -/
def overlap (a b : List Nat) : Bool := a.any (fun x => b.contains x)

/-- Transaction `i` of a list has no earlier one to an overlapping DRAM range (R137). -/
def mayComplete (ts : List Ticket) (i : Nat) : Bool :=
  match ts[i]? with
  | none => false
  | some t => (ts.take i).all (fun u => !overlap u.dram t.dram)

/-- The DRAM transfer of a completed transaction: a PUT writes DRAM, a FETCH writes FBUF. The words of a FETCH whose places
are in `bad` land as 0, and the output frames of the program become invalid (R437). -/
def State.completeTicket (s : State) (e : Nat) (t : Ticket) (bad : List Nat) : State :=
  let x := s.engine e
  if t.put then s.storeDram (t.dram.zip t.words)
  else
    let cells := (s.fetchCells t.dram t.fbuf).zipIdx.map (fun p => if bad.contains p.2 then (p.1.1, 0) else p.1)
    let x := if bad.isEmpty then x else { x with taint := x.tick :: x.taint }
    s.setEngine e (x.storeFbuf cells)

/-- An uncorrectable DRAM word met by client `c`, in the 4 KiB unit `u` (R437, R448, R509, R514). -/
def State.dramUncorr (s : State) (c u : Nat) : State :=
  let s := (s.inc (EVT.MEMUNCORR.val 13)).report 0x0204 13 (u * 1024)
  let s := s.inc DRAM.ECCUNCORR.val
  (s.sqf DRAM.HIST.UNCORR).report 0x1202 c u

/-- `n` words were delivered corrected by the DRAM's ECC (R437, R509). -/
def State.dramCorr (s : State) : Nat → State
  | 0 => s
  | n + 1 => (((State.dramCorr s n).inc DRAM.ECCCORR.val).inc (EVT.MEMCORR.val 13)).report 0x0203 13 0

end Sys2Proof.Machine
end

