-- ==== Sys2Proof/Machine/Frames.lean ====
section
/-!
DEFINITION. Frames as their readers take them: frames that will be sealed, the tags of loaded lanes, the muzzle's
lanes (R80, R121, R123, R247).
-/

namespace Sys2Proof.Machine

/-- The key of the muzzle lane of channel `c` of buffer `b`. -/
def laneKey (b c : Nat) : Nat := b * 2 ^ 14 + c

/-- The muzzle lane of channel `c` of buffer `b`. -/
def State.lane (s : State) (b c : Nat) : MuzLane := Store.get (fun _ => MuzLane.reset) s.muz (laneKey b c)

/-- The state with a muzzle lane written. -/
def State.setLane (s : State) (b c : Nat) (l : MuzLane) : State :=
  { s with muz := Store.set (fun _ => MuzLane.reset) s.muz (laneKey b c) l }

/-- A lane with the state that its ramp or fall has reached: a completed rise is OPEN, a completed plain fall is
HOLDING or SILENT, and a completed stop is GATED (R250, R251). -/
def MuzLane.settled (l : MuzLane) : MuzLane :=
  if l.st = .rising ∧ l.len ≤ l.k then { l with st := .open_ }
  else if l.st = .falling ∧ l.len ≤ l.k then
    match l.after with
    | .plain => { l with st := if 1 ≤ l.hold then .holding else .silent }
    | .gated => { l with st := .gated }
    | .startwait => { l with st := .startwait, waited := 0 }
  else l

/-- A lane whose retiring route no longer governs: the new route's data follows, with its own previous sample (R255, R256). -/
def MuzLane.ontoNew (l : MuzLane) : MuzLane :=
  match l.retiring with
  | some _ => { l with retiring := none, prev := l.next, next := none }
  | none => l

/-- A lane that begins anew, in a given state; what the latest evaluation left is still shown (R253, R267). -/
def MuzLane.renewed (l : MuzLane) (st : LaneState) : MuzLane := { MuzLane.reset with st := st, shown := l.shown }

/-- A lane at the end of an evaluation: its state, position and hold count are what HRD.LANESTAT shows (R267). -/
def MuzLane.show_ (l : MuzLane) : MuzLane :=
  let x := l.settled
  let pos := match x.st with
    | .falling | .rising => x.k
    | .startwait | .stopwait => x.waited
    | _ => 0
  { l with shown := (x.st, pos, x.hold) }

/-- Engine `e` has finished, without an abort or an uncorrectable fetch, the program whose outputs are frame `f` (R123,
R437). -/
def State.engineSealed (s : State) (e f : Nat) : Bool :=
  match (s.engine e).okTick with
  | some t => (t + 1) % 2 ^ 32 == f % 2 ^ 32 && !(s.engine e).taint.contains t
  | none => false

/-- The engine that declares buffer `b` as an output in the live epoch. -/
def State.writer (s : State) (b : Nat) : Option Nat := Cfg.engineWriting s.live b

/-- Buffer `b` is written by the Patch Map in the live epoch (R218). -/
def State.patched (s : State) (b : Nat) : Bool := (Cfg.patchBufs s.live).contains b

/-- Frame `f` of buffer `b` is written, and becomes valid when it is sealed (R18 step 1, R123; DEDUCED, log entry 10). -/
def State.sealing (s : State) (b f : Nat) : Bool :=
  (match s.writer b with
   | some e => s.engineSealed e f
   | none => false)
  || (s.patched b && s.gathered && (s.tick + 1) % 2 ^ 32 == f % 2 ^ 32)

/-- Sample frame `i` of frame `f` of buffer `b` is valid, or will be when the frame is sealed. -/
def State.sampleValid (s : State) (b f i : Nat) : Bool := s.isValid b f i || (s.sealing b f && !s.isSpoiled b f i)

/-- Buffer `b` is filled by a receive flow in the live epoch. -/
def State.rxFilled (s : State) (b : Nat) : Bool := (Cfg.rxBufs s.live).contains b

/-- The tag that a VLD of engine `e` through an IN handle gives a sample frame: its valid bit, or in PLACED mode during
run-ahead its placed state (R121). A run-ahead reads a frame that is ready and not yet sealed by the bits it will be sealed with (R80). -/
def State.inTag (s : State) (e b f i : Nat) : Bool :=
  if !(s.engine e).ahead then s.isValid b f i
  else if s.flag (GE.CTL.RA_READY e) && s.rxFilled b then s.isPlaced b f i || s.isValid b f i
  else s.sampleValid b f i

/-- The container that engine `e` loads at SXM address `a`: the youngest held store, else what the frame holds, which is
open where the sample frame is not valid (R24, R82). -/
def State.loadSxm (s : State) (e a : Nat) (known : Bool) : Nat × State :=
  match rsbSxm a (s.engine e).rsb with
  | some w => (w.toNat, s)
  | none => if known then (s.sxmWord a, s) else s.openContainer a

end Sys2Proof.Machine
end

