-- ==== Sys2Proof/Machine/Epoch.lean ====
section
/-!
DEFINITION. The three copies of the configuration, commits, and the configuration journal (R33 to R48, R54 to R60,
R597).
-/

namespace Sys2Proof.Machine

/-! ## Which words are configuration -/

/-- BAR2 offset `o` stands in a shadowed table: Flow Table, Buffer Table, Patch Map, Herd Member Table, Cue Launch Queue,
gate control list, Delay Line Table, Voice Table, IMEM and descriptors (R33, R149). -/
def shadowedTable (o : Nat) : Bool :=
  decide (o < 0x60000)
    || (decide (0x200000 ≤ o) && decide (o < 0x221000))
    || (decide (0x340000 ≤ o) && decide (o < 0x341000))
    || (decide (0x350000 ≤ o) && decide (o < 0x350800))
    || (decide (0x360000 ≤ o) && decide (o < 0x364000))
    || (decide (0x370000 ≤ o) && decide (o < 0x372000))
    || (decide (0x2000000 ≤ o) && decide (o < 0x2104000))

/-- BAR2 offset `o` stands in a DMEM window (R148). -/
def dmemWindow (o : Nat) : Bool := decide (0x2800000 ≤ o) && decide (o < 0x2C00000)

/-- Key `k` names a word of DMEM. -/
def isDmem (k : Nat) : Bool := decide (2 ^ 31 ≤ k) && decide (k < 2 ^ 32) && dmemWindow (k - 2 ^ 31)

/-- The bits of word `k` that are shadowed: the RWS bits of a register, or a whole table word. -/
def rwsMask (k : Nat) : Nat :=
  if k < 2 ^ 31 then (match regAt k with | some (f, _) => f.rws | none => 0)
  else if shadowedTable (k - 2 ^ 31) then 2 ^ 32 - 1 else 0

/-- Word `w` with the bits of `mask` taken from `v`. -/
def mergeBits (w v : Word) (mask : Nat) : Word :=
  (w &&& BitVec.ofNat 32 (2 ^ 32 - 1 - mask % 2 ^ 32)) ||| (v &&& BitVec.ofNat 32 mask)

/-- Two words agree in the bits of `mask`. -/
def sameBits (a b : Word) (mask : Nat) : Bool := a &&& BitVec.ofNat 32 mask == b &&& BitVec.ofNat 32 mask

/-- The address of key `k` as HIF captures it (R499). -/
def hostAddr (k : Nat) : Nat :=
  if k < 2 ^ 31 then k % 2 ^ 26 else if k < 2 ^ 32 then 2 ^ 30 + (k - 2 ^ 31) % 2 ^ 26 else 2 ^ 31 + (k - 2 ^ 32) % 2 ^ 26

/-! ## The pair, as configuration sees it (R451, R463, R464) -/

/-- PAIR.STAT.ROLE: 0 SOLO, 1 ACTIVE, 2 STANDBY. -/
def State.role (s : State) : Nat := s.rd PAIR.STAT.ROLE

/-- PAIR.STAT.PARTNER. -/
def State.partner (s : State) : Nat := s.rd PAIR.STAT.PARTNER

/-- PARTNER is JOINING, CONVERGING or SYNCED: one journal serves both chips (R464). -/
def State.paired (s : State) : Bool := decide (1 ≤ s.partner) && decide (s.partner ≤ 3)

/-- This chip is a STANDBY that mirrors (R463). -/
def State.standby (s : State) : Bool := s.role == 2 && s.paired

/-- Key `k` stands in a local block (R463). -/
def localBlock (k : Nat) : Bool := decide (k < 2 ^ 31) && [1, 2, 3, 4, 9, 10, 11, 0x14, 0x15].contains (k / 2 ^ 16)

/-- The ORIGIN of a journal entry of key `k` accepted by this chip (R55, R464). -/
def State.origin (s : State) (k : Nat) : Nat :=
  if s.flag PAIR.CFG.EN && localBlock k then 2 + s.rd PAIR.CFG.SIDE else 0

/-! ## The journal (R54 to R57) -/

/-- The types of journal entries (R55). -/
inductive JType where
  | write
  | go
  | applied
  | refused
  | cancelled
  | checkpoint
deriving DecidableEq, Repr

/-- The TYPE code of a journal entry. -/
def JType.code : JType → Nat
  | .write => 0
  | .go => 1
  | .applied => 2
  | .refused => 3
  | .cancelled => 4
  | .checkpoint => 5

/-- The key of word `w` of the journal slot of sequence `q`. -/
def journalKey (q w : Nat) : Nat := bar2 (0x1800000 + q % 8192 * 16 + w * 4)

/-- FULL follows FILL (R57). -/
def State.fillTo (s : State) (n : Nat) : State :=
  (s.wr GLB.JSTAT.FILL n).wrFlag GLB.JSTAT.FULL (decide (8190 ≤ n))

/-- The journal refuses shadow writes, profile loads and GO (R57). -/
def State.journalFull (s : State) : Bool := decide (8190 ≤ s.rd GLB.JSTAT.FILL)

/-- Word 1 of a journal entry (R55). -/
def journalWord1 (t : JType) (origin k : Nat) : Nat :=
  t.code * 2 ^ 29 +
    (if t = .write then (if 2 ^ 31 ≤ k then 2 ^ 28 else 0) + origin * 2 ^ 26 + k % 2 ^ 26 else origin * 2 ^ 26)

/-- The journal with the entry of sequence `q` (R54). The entry that brings FILL to 7,168 forces a checkpoint at the next boundary, unless one is in
progress (R56). -/
def State.journalAt (s : State) (q w1 w2 w3 : Nat) : State :=
  let s := s.setNum (journalKey q 0) q
  let s := s.setNum (journalKey q 1) w1
  let s := s.setNum (journalKey q 2) w2
  let s := s.setNum (journalKey q 3) w3
  let s := s.wr GLB.JSEQ.val q
  let s := s.fillTo (min (s.rd GLB.JSTAT.FILL + 1) 8192)
  if s.rd GLB.JSTAT.FILL = 7168 ∧ s.ckpt.writing.isNone then { s with ckpt := { s.ckpt with forced := true } } else s

/-- A checkpoint that the journal forced falls due at the boundary that begins (R56). -/
def State.ckptForced (s : State) : State :=
  { s with ckpt := { s.ckpt with due := s.ckpt.due || s.ckpt.forced, forced := false } }

/-- The journal with one entry at the next sequence number; on an ACTIVE chip it is sent to the partner, a GO with the tick it fixes
(R54, R463, R465). A mirroring STANDBY allocates no entry (R464). -/
def State.journalRaw (s : State) (w1 w2 w3 : Nat) (fixed : List Nat) : State :=
  if s.standby then s
  else
    let q := (s.rd GLB.JSEQ.val + 1) % 2 ^ 32
    let s := s.journalAt q w1 w2 w3
    if s.role = 1 ∧ s.paired then s.emit (.pair 2 ([q, w1 % 2 ^ 32, w2 % 2 ^ 32, w3 % 2 ^ 32] ++ fixed)) else s

/-- The journal with an entry of this chip. -/
def State.journal (s : State) (t : JType) (k w2 w3 : Nat) : State :=
  s.journalRaw (journalWord1 t (s.origin k) k) w2 w3 []

/-- A write, profile load or GO refused for a full journal: counted and reported with the address (R57). -/
def State.refuseFull (s : State) (k : Nat) : State :=
  (s.addSat GLB.JSTAT.REFUSED 1).report 0x0003 0 (hostAddr k)

/-! ## Checkpoint space (R60) -/

/-- A word of a configuration counts in N_live: it holds shadowed bits, and they differ from reset. -/
def countsLive (p : Nat × Word) : Bool := !isDmem p.1 && rwsMask p.1 != 0 && !sameBits p.2 (resetWord p.1) (rwsMask p.1)

/-- The parameter bytes that the live programs declare. -/
def Cfg.paramBytes (c : Cfg) : Nat :=
  ((Cfg.engines c).map (fun e =>
    ((List.range (min (bits (Cfg.word c (DESC.word e 5)) 27 24) 8)).map
      (fun p => bits (Cfg.word c (DESC.word e (201 + 2 * p))) 18 0)).sum)).sum

/-- The byte address, in the data memories, of the DMEM word with key `k`. -/
def dmemAddr (k : Nat) : Nat := k - DMEM.key 0 0

/-- A word `v` of an open shadow or a pending image differs from the live one: its shadowed bits, or, of a parameter word, its value in DMEM (R60). -/
def differs (live : Store Word) (dmem : Memory) (k : Nat) (v : Word) : Bool :=
  if isDmem k then v.toNat != Memory.word dmem (dmemAddr k) else !sameBits v (Store.get resetWord live k) (rwsMask k)

/-- B of R60, for a live configuration with the data memories, an open shadow laid over a pending image, and that image. A captured word that the
host has not written again is still what the open shadow reads as, and counts in N_shadow as well as in N_pend (DEDUCED, log entry 60). -/
def ckptBytes (live : Store Word) (dmem : Memory) (shadow pend : Store Word) : Nat :=
  let view := Store.keys (pend.filter (fun p => (Store.find shadow p.1).isNone && differs live dmem p.1 p.2))
  4096 + 8 * ((live.filter countsLive).length + ((shadow.filter (fun p => differs live dmem p.1 p.2)).length + view.length)
    + (pend.filter (fun p => differs live dmem p.1 p.2)).length) + Cfg.paramBytes live

/-- CKPTNEED as it stands (R60). -/
def State.ckptNeed (s : State) : Nat := ceilDiv (ckptBytes s.live s.dmem s.shadow s.pend) 4096

/-- The data memories with the captured parameter words in place (R151). -/
def paramsLaid (dmem : Memory) (pend : Store Word) : Memory :=
  pend.foldl (fun d p => if isDmem p.1 then Memory.setWord d (dmemAddr p.1) p.2.toNat else d) dmem

/-- CKPTNEED of the configuration the commit in progress would make live, with the open shadow as it stands (R60). -/
def State.ckptNeedPending (s : State) : Nat := ceilDiv (ckptBytes s.pendCfg (paramsLaid s.dmem s.pend) s.shadow []) 4096

/-! ## Access errors (R485, R498, R499) -/

/-- The causes of an ACC_ERR. -/
inductive AccCause where
  | narrow
  | unmapped
  | readonly
  | refused
  | standby
deriving DecidableEq, Repr

/-- The code of an ACC_ERR cause. -/
def AccCause.code : AccCause → Nat
  | .narrow => 1
  | .unmapped => 2
  | .readonly => 3
  | .refused => 4
  | .standby => 5

/-- An ACC_ERR of interface `i` (0 PCIe, 1 SPI, 2 DMA) at key `k` (R498, R499). -/
def State.accErr (s : State) (i k : Nat) (c : AccCause) : State :=
  let s := s.inc HIF.ACCERRCNT.val
  let s := if s.flag HIF.HIST.ACC_ERR then s
    else ((s.wr HIF.ACCERRADDR.val (hostAddr k)).wr HIF.ACCERRINFO.IF i).wr HIF.ACCERRINFO.CAUSE c.code
  let s := s.sqf HIF.HIST.ACC_ERR
  s.report 0x0101 i (hostAddr k + c.code * 2 ^ 26)

/-! ## Shadow writes (R33, R36, R54, R57, R60) -/

/-- The state with word `k` of the open shadow at `v`, its live bits kept outside the shadowed ones. -/
def State.putShadow (s : State) (k : Nat) (v : Word) : State :=
  let w := if isDmem k then v else mergeBits (s.word k) v (rwsMask k)
  { s with shadow := Store.insert s.shadow k w }

/-- An accepted host write of `v` to the shadowed word `k`: refused for a full journal or for want of checkpoint space,
else journaled and put into the open shadow. `entry` is the value journaled. On a mirroring STANDBY, a local-block
write is sent to the ACTIVE instead (R464). Answers whether the write was taken. -/
def State.shadowWrite (s : State) (i k : Nat) (v : Word) (entry : Nat) : State × Bool :=
  if s.journalFull then (s.refuseFull k, false)
  else
    let t := s.putShadow k v
    if decide (s.rd GLB.CKPTLEN.val / 2 < t.ckptNeed) && decide (ckptBytes s.live s.dmem s.shadow s.pend < ckptBytes t.live t.dmem t.shadow t.pend) then
      (s.accErr i k .refused, false)
    else if s.standby && localBlock k then
      ({ s with pair := { s.pair with forwarded := s.pair.forwarded ++ [(k, v)] } }.emit (.pair 3 [k, v.toNat]), true)
    else ((s.journal .write k entry s.tick).putShadow k v, true)

/-! ## Commits (R34, R38 to R45, R597) -/

/-- GLB.COMMITSTAT.STATE. -/
def State.commitState (s : State) : Nat := s.rd GLB.COMMITSTAT.STATE

/-- A commit is VALIDATING or PENDING. -/
def State.commitBusy (s : State) : Bool := s.commitState == 1 || s.commitState == 2

/-- The status of a refusal: the reason and the first offending address, none for 0 (R41, R47). -/
def State.refusal (s : State) (reason : Nat) (k : Option Nat) : State :=
  let s := s.wr GLB.COMMITSTAT.REASON reason
  match k with
  | none => s.setNum GLB.COMMITADDR 0
  | some k => s.setNum GLB.COMMITADDR (if k < 2 ^ 31 then k % 2 ^ 26 else 2 ^ 31 + k % 2 ^ 26)

/-- The pending image goes back into the open shadow, which wins where both hold a word (R41). -/
def State.mergeBack (s : State) : State :=
  { s with shadow := s.pend.foldl (fun m p => if (Store.find m p.1).isSome then m else Store.insert m p.1 p.2) s.shadow,
           pend := [], commit := none }

/-- The commit in progress is refused: nothing applies, the refusal is journaled with the tick concerned (R41, R54). -/
def State.refuseCommit (s : State) (reason : Nat) (k : Option Nat) (tick : Nat) : State :=
  let s := (s.wr GLB.COMMITSTAT.STATE 4).refusal reason k
  let s := s.sqf GLB.COMMITHIST.REFUSED
  let s := s.journal .refused 0 reason tick
  s.mergeBack

/-- A GO refused before capture: the commit in progress, if any, goes on (R597). -/
def State.refuseGo (s : State) (reason : Nat) : State :=
  let s := if s.commitBusy then s else s.wr GLB.COMMITSTAT.STATE 4
  (s.refusal reason none).sqf GLB.COMMITHIST.REFUSED

/-- The open-shadow words that a GO captures: those that differ from live, and every host-written DMEM word (R34, R151). -/
def State.captured (s : State) : Store Word :=
  s.shadow.filter (fun p => isDmem p.1 || !sameBits p.2 (s.word p.1) (rwsMask p.1))

/-- T of an AT_TICK or AT_TIME commit is past now (R13, R39, R42), or earlier than the least applying tick (R465). -/
def State.targetPast (s : State) (c : CommitReq) : Bool :=
  match c.mode with
  | 1 => !futureTick c.target s.tick ||
      (match c.least with | some l => futureTick l c.target | none => false)
  | 2 => !futureTime c.target s.ns
  | _ => false

/-- The applying tick that an ACTIVE chip fixes for a commit accepted now, where it is known at the GO: that of AT_TICK unless it is
earlier than the least, and the least for IMMEDIATE (R465). The tick of AT_TIME is known only when its time is reached. -/
def State.fixedTick (s : State) (c : CommitReq) : List Nat :=
  match c.least, c.mode with
  | some l, 0 => [l]
  | some l, 1 => [if futureTick l c.target || !futureTick c.target s.tick then l else c.target]
  | _, _ => []

/-- A GO that passed the checks is captured and journaled; a past T with LATE = 0 refuses it (R34, R42, R54). -/
def State.capture (s : State) (v : Nat) (fixed : Option Nat) : State :=
  let c : CommitReq :=
    { mode := s.rd GLB.COMMIT.MODE, target := s.rd GLB.COMMITAT.val, late := s.flag GLB.COMMIT.LATE,
      snap := s.flag GLB.COMMIT.SNAP, past := false, proven := [],
      least := if s.role = 1 ∧ s.paired then some ((s.tick + s.rd PAIR.CFG.LEAD) % 2 ^ 32) else none, fixed := fixed }
  let past := s.targetPast c
  let s := { s with pend := s.captured, shadow := [], commit := some { c with past := past } }
  let s := s.journalRaw (journalWord1 .go (s.origin 0) 0) v (s.rd GLB.COMMITAT.val) (s.fixedTick c)
  let s := s.wr GLB.COMMITSTAT.STATE 1
  if past && !c.late then s.refuseCommit 2 none s.tick else s

/-- A write of `v` that sets GO, after the RW fields of GLB.COMMIT have taken it (R597). -/
def State.go (s : State) (v : Nat) : State :=
  if bit v 1 then s.refuseGo 4
  else if s.commitBusy then s.refuseGo 1
  else if s.journalFull then (s.refuseFull GLB.COMMIT).refuseGo 5
  else if s.rd GLB.COMMIT.MODE = 3 then s.refuseGo 3
  else if s.standby then s.refuseGo 0x70
  else s.capture v none

/-- A write that sets CANCEL and not GO (R44). -/
def State.cancel (s : State) : State :=
  if s.commitBusy then
    let s := s.wr GLB.COMMITSTAT.STATE 5
    let s := s.journal .cancelled 0 0 s.tick
    s.mergeBack
  else s

/-- A write of `v` to GLB.COMMIT (R34, R44, R597). -/
def State.commitWrite (s : State) (v : Nat) : State :=
  if bit v 0 then s.go v else if bit v 1 then s.cancel else s

/-- The least applying tick of a commit is reached at B(n). -/
def leastReached (c : CommitReq) (n : Nat) : Bool :=
  match c.least with
  | some l => !futureTick l n
  | none => true

/-- The commit in progress is due at B(n), `ns` being TIME.NS at step 1 (R38, R39, R42, R465). -/
def State.due (s : State) (n : Nat) : Bool :=
  s.commitState == 2 &&
    match s.commit with
    | none => false
    | some c =>
      match c.fixed with
      | some f => !futureTick f n
      | none =>
        if c.past then leastReached c n
        else
          match c.mode with
          | 1 => c.target == n
          | 2 => reachedTime c.target s.ns && leastReached c n
          | _ => leastReached c n

/-! ## What a commit changes -/

/-- A key's shadowed bits differ between two configurations. -/
def changed (old new : Cfg) (k : Nat) : Bool := !sameBits (Store.get resetWord old k) (Store.get resetWord new k) (rwsMask k)

/-- Some captured key satisfies `p` and changes the live word; a captured DMEM word counts as a change (R151). -/
def State.pendChanges (s : State) (p : Nat → Bool) : Bool :=
  s.pend.any (fun w => p w.1 && (isDmem w.1 || !sameBits w.2 (s.word w.1) (rwsMask w.1)))

/-- Key `k` is a word of the DMEM window of engine `e`. -/
def inDmem (e k : Nat) : Bool := decide (DMEM.key e 0 ≤ k) && decide (k < DMEM.key e 0 + 0x40000)

/-- The engines whose memories a program of engine `e` uses: both of a braced pair (R96). -/
def State.memoriesOf (s : State) (e : Nat) : List Nat := if s.braced e then [e / 2 * 2, e / 2 * 2 + 1] else [e]

/-- Key `k` is a word of the Buffer Table entry of a declared buffer of engine `e`. -/
def State.declaredEntry (s : State) (e k : Nat) : Bool :=
  (s.inputs e ++ s.outputs e).any (fun b => decide (BT.word b 0 ≤ k) && decide (k < BT.word b 0 + 16))

/-- The commit in progress affects engine `e` (R87, the squash table). -/
def State.commitAffects (s : State) (e : Nat) : Bool :=
  s.pendChanges (fun k =>
    inImem e k || (s.memoriesOf e).any (fun m => inDmem m k) || k == GE.CTL e || k == GE.ENTRY e
      || s.declaredEntry e k || k == GLB.MEDIA)
    || bit ((s.word GE.BRACE ^^^ s.pendWord GE.BRACE).toNat) (e / 2)

end Sys2Proof.Machine
end

