-- ==== Sys2Proof/Machine/GenahVector.lean ====
section
/-!
DEFINITION. The vector arithmetic of Genah: VADD, VMUL, VMAC, VSAT, VSEL, VPEAK, VRAMP, VDITH (R124 to R133).
-/

namespace Sys2Proof.Machine

/-- One more saturated lane when `exact` was clamped to `held` (R133, R140 SATCOUNT). -/
def Engine.countSat (x : Engine) (exact held : Int) : Engine :=
  if exact = held then x else { x with sat := min (x.sat + 1) (2 ^ 32 - 1) }

/-- Lane `i` of vd written with the saturated value of `y` and a tag, counted when it saturated. -/
def Engine.putSat (x : Engine) (vd i : Nat) (y : Int) (tag : Bool) : Engine :=
  (x.setLane vd i ⟨BitVec.ofInt 32 (sat32 y), tag⟩).countSat y (sat32 y)

/-- The signed value of a lane. -/
def Lane.int (l : Lane) : Int := l.val.toInt

/-- A vector instruction over the enabled lanes of engine `e`. -/
def State.vector (s : State) (e : Nat) (i : Genah) (gm cycles : Nat) (f : Engine → Nat → Engine) : State :=
  s.scalar e i (fun x =>
    (x.eachLane (fun y j => if x.enabled gm j then f y j else y) (s.lanesOf e)).next cycles)

/-- VADD (R124). -/
def execVadd (e vd va : Nat) (b : VOperand) (gm : Nat) (neg : Bool) (s : State) : Res :=
  .next (s.vector e (.vadd vd va b gm neg) gm 1 (fun x i =>
    let a := x.lane va i
    let c := x.vOperand b i
    x.putSat vd i (if neg then a.int - c.int else a.int + c.int) (a.tag && c.tag)))

/-- VMUL: container times Q4.28 coefficient, rounded (R125). -/
def execVmul (e vd va : Nat) (b : VOperand) (gm : Nat) (s : State) : Res :=
  .next (s.vector e (.vmul vd va b gm) gm 2 (fun x i =>
    let a := x.lane va i
    let c := x.vOperand b i
    x.putSat vd i (asr (a.int * c.int + 2 ^ 27) 28) (a.tag && c.tag)))

/-- VMAC: the exact product into an accumulator (R126, R133). -/
def execVmac (e ad va : Nat) (b : VOperand) (gm : Nat) (z neg : Bool) (s : State) : Res :=
  .next (s.vector e (.vmac ad va b gm z neg) gm 1 (fun x i =>
    let a := x.lane va i
    let c := x.vOperand b i
    let p := if neg then -(a.int * c.int) else a.int * c.int
    let old := x.acc ad i
    if z then x.setAcc ad i ⟨BitVec.ofInt 64 p, a.tag && c.tag⟩
    else
      let y := old.val.toInt + p
      (x.setAcc ad i ⟨BitVec.ofInt 64 (sat64 y), old.tag && (a.tag && c.tag)⟩).countSat y (sat64 y)))

/-- VSAT: an accumulator rounded and saturated into containers (R127). -/
def execVsat (e vd src gm sh : Nat) (s : State) : Res :=
  .next (s.vector e (.vsat vd src gm sh) gm 2 (fun x i =>
    let a := x.acc src i
    x.putSat vd i (asr (a.val.toInt + 2 ^ (27 + sh)) (28 + sh)) a.tag))

/-- VSEL: every lane from va or vb, by the selector g[gm] (R128). -/
def execVsel (e vd va vb gm : Nat) (s : State) : Res :=
  .next (s.scalar e (.vsel vd va vb gm) (fun x =>
    (x.eachLane (fun y i => y.setLane vd i (if bit (x.gr gm) i then x.lane va i else x.lane vb i)) (s.lanesOf e)).next 1))

/-- VPEAK: peak hold in the lanes whose va tag is 1 (R129; the tag, DEDUCED, log entry 11). -/
def execVpeak (e vd va gm : Nat) (s : State) : Res :=
  .next (s.vector e (.vpeak vd va gm) gm 1 (fun x i =>
    let a := x.lane va i
    let d := x.lane vd i
    if a.tag then x.setLane vd i ⟨BitVec.ofInt 32 (max d.int (sat32 (Int.ofNat a.int.natAbs))), d.tag && a.tag⟩ else x))

/-- VRAMP: a linear ramp across the lanes (R130). -/
def execVramp (e vd gs gt gm : Nat) (s : State) : Res :=
  .next (s.vector e (.vramp vd gs gt gm) gm 2 (fun x i =>
    x.setLane vd i ⟨BitVec.ofInt 32 (sat32 (signed32 (x.gr gs) + Int.ofNat i * signed32 (x.gr gt))), true⟩))

/-- One step of a dither LFSR (R131). -/
def lfsrStep (n : Nat) : Nat :=
  let f := (n / 2 ^ 31 + n / 2 ^ 21 + n / 2 + n) % 2
  n * 2 % 2 ^ 32 + f

/-- The dither of a stepped LFSR at width `w` (R131). -/
def dither (n w : Nat) : Int := asr (Int.ofNat (n % 2 ^ 16) - Int.ofNat (n / 2 ^ 16)) (w - 16)

/-- An integer with bits [31−w:0] cleared, as a 32-bit container. -/
def truncTo (w : Nat) (y : Int) : Word := BitVec.ofInt 32 (y / 2 ^ (32 - w) * 2 ^ (32 - w))

/-- Lane `i` of a VDITH: with T = 0 the LFSR steps whether the lane is enabled or not (R131; operand b takes no part). -/
def Engine.ditherLane (x : Engine) (vd va w : Nat) (t on : Bool) (i : Nat) : Engine :=
  let a := x.lane va i
  if t then (if on then x.setLane vd i ⟨truncTo w a.int, a.tag⟩ else x)
  else
    let n := lfsrStep x.lfsr
    let x := { x with lfsr := n }
    let y := a.int + dither n w
    if on then (x.setLane vd i ⟨truncTo w (sat32 y), a.tag⟩).countSat y (sat32 y) else x

/-- VDITH (R131, R133). -/
def execVdith (e vd va : Nat) (b : VOperand) (gm w : Nat) (t : Bool) (s : State) : Res :=
  .next (s.scalar e (.vdith vd va b gm w t) (fun x =>
    (x.eachLane (fun y i => y.ditherLane vd va w t (x.enabled gm i) i) (s.lanesOf e)).next 2))

end Sys2Proof.Machine
end

