-- ==== Sys2Proof/Machine/Muzzle.lean ====
section
/-!
DEFINITION. The muzzle (R245 to R258, R263 to R266): falls, holds, rises, zero-crossing waits, the evaluation of muzzled
lanes in the guard and of observed lanes at step 5, and how an epoch acts on a lane.
-/

namespace Sys2Proof.Machine

/-! ## Gains (R250, R251) -/

/-- pi times 2^80. -/
def pi80 : Int := 3797952473636338580787993

/-- The tail of the cosine series from a term, in units of 2^-80: `x2` is the square of the angle, `i` the term's index. -/
def cosSeries (x2 : Int) : Nat → Nat → Int → Int
  | 0, _, _ => 0
  | n + 1, i, t => t + cosSeries x2 n (i + 1) (-(t * x2 / 2 ^ 80) / (Int.ofNat ((2 * i + 1) * (2 * i + 2))))

/-- cos(pi k / n) in units of 2^-80, for 0 ≤ k ≤ n. -/
def cosPi (k n : Nat) : Int :=
  let half := decide (n < 2 * k)
  let j := if half then n - k else k
  let x := pi80 * Int.ofNat j / Int.ofNat n
  let c := cosSeries (x * x / 2 ^ 80) 16 0 (2 ^ 80)
  if half then -c else c

/-- G of a fall: round(2^28 (1 + cos(pi k / F)) / 2) (R250). -/
def fallGain (k n : Nat) : Int := roundDiv (2 ^ 27 * (2 ^ 80 + cosPi k n)) (2 ^ 80)

/-- G of a rise: round(2^28 (1 − cos(pi k / Q)) / 2) (R251). -/
def riseGain (k n : Nat) : Int := roundDiv (2 ^ 27 * (2 ^ 80 - cosPi k n)) (2 ^ 80)

/-- A container scaled by a Q4.28 gain: sat32((x G + 2^27) >> 28) (R250). -/
def scale (x : Nat) (g : Int) : Nat := wrap32 (sat32 (asr (signed32 x * g + 2 ^ 27) 28))

/-! ## Counting (R265, R266) -/

/-- The tick of the next evaluation of a lane: from the guard on, and so for what an epoch begins at B(e), the next tick (R248, R265). -/
def State.evalTick (s : State) : Nat := if s.clk.phase = .guard then (s.tick + 1) % 2 ^ 32 else s.tick

/-- A fall of channel `c` of buffer `b` is counted and reported (R250, R265, R266). -/
def State.countFall (s : State) (b c : Nat) : State :=
  let s := s.setNum (MS.word b 0) (s.num (MS.word b 0) + 1)
  let s := s.setNum (MS.word b 5) s.evalTick
  (s.sqf HRD.HIST.FALL).report 0x1701 b c

/-- A rise is counted and reported (R251). -/
def State.countRise (s : State) (b c : Nat) : State :=
  let s := s.setNum (MS.word b 1) (s.num (MS.word b 1) + 1)
  (s.sqf HRD.HIST.RISE).report 0x1702 b c

/-- A zero crossing is counted (R256). -/
def State.countCut (s : State) (b : Nat) : State := s.setNum (MS.word b 2) (s.num (MS.word b 2) + 1)

/-- A zero-crossing timeout is counted and reported (R257). -/
def State.countTimeout (s : State) (b c : Nat) : State :=
  let s := s.setNum (MS.word b 3) (s.num (MS.word b 3) + 1)
  (s.sqf HRD.HIST.ZC_TIMEOUT).report 0x1703 b c

/-! ## Transitions of one lane -/

/-- The multiplier of buffer `b`. -/
def State.bufM (s : State) (b : Nat) : Nat := multOf (s.rd (BT.MULT b))

/-- The zero-crossing limit of a lane at multiplier `m`. -/
def State.zcLimit (s : State) (m : Nat) : Nat := m * s.rd HRD.ZCTIME.TIMEOUT

/-- The lane begins a fall of `f` samples from the last container emitted (R250); a route that retires governs until the fall is complete (R255). -/
def State.beginFall (s : State) (b c f : Nat) (after : AfterFall) : State :=
  let l := s.lane b c
  (s.setLane b c { l with st := .falling, x0 := l.last, k := 0, len := f, hold := 0, after := after }).countFall b c

/-- The lane begins a rise of `q` samples; a rise of 0 samples is OPEN at once (R251, R572). -/
def State.beginRise (s : State) (b c q : Nat) : State :=
  let l := s.lane b c
  (s.setLane b c { l with st := if q = 0 then .open_ else .rising, k := 0, len := q }).countRise b c

/-- The lane enters STARTWAIT; with a TIMEOUT of 0 it rises at once (R256, R572). -/
def State.enterStart (s : State) (b c : Nat) : State :=
  let l := (s.lane b c).ontoNew
  let s := s.setLane b c { l with st := .startwait, waited := 0, after := .plain }
  if s.rd HRD.ZCTIME.TIMEOUT = 0 then s.beginRise b c (32 * s.bufM b) else s

/-- The lane enters STOPWAIT towards `after`, on a retiring route where one is named; with a TIMEOUT of 0 it falls at
once (R255, R256, R572). -/
def State.enterStop (s : State) (b c : Nat) (after : AfterFall) (route : Option Route) : State :=
  let l := s.lane b c
  let s := s.setLane b c { l with st := .stopwait, waited := 0, after := after, retiring := route, next := none }
  if s.rd HRD.ZCTIME.TIMEOUT = 0 then s.beginFall b c (32 * s.bufM b) after else s

/-- A completed fall leaves FALLING for what follows it (R250). -/
def State.fallDone (s : State) (b c : Nat) : State :=
  let l := (s.lane b c).ontoNew
  match l.after with
  | .plain => s.setLane b c { l with st := if 1 ≤ l.hold then .holding else .silent }
  | .gated => s.setLane b c { l with st := .gated, after := .plain }
  | .startwait => s.enterStart b c

/-- A zero-crossing wait ends as a timeout: a start rises, a stop falls, over 32 m samples (R257). -/
def State.waitTimeout (s : State) (b c : Nat) : State :=
  let l := s.lane b c
  let m := s.bufM b
  let s := s.countTimeout b c
  if l.st = .startwait then s.beginRise b c (32 * m) else s.beginFall b c (32 * m) l.after

/-- The lane's fall is complete. -/
def MuzLane.fallComplete (l : MuzLane) : Bool := l.st == .falling && decide (l.len ≤ l.k)

/-- The lane's rise is complete. -/
def MuzLane.riseComplete (l : MuzLane) : Bool := l.st == .rising && decide (l.len ≤ l.k)

/-- The lane's wait has reached its limit. -/
def State.waitOver (s : State) (b : Nat) (l : MuzLane) : Bool :=
  (l.st == .startwait || l.st == .stopwait) && decide (s.zcLimit (s.bufM b) ≤ l.waited)

/-- The transition that a lane's completed ramp or wait has made due. -/
def State.settle (s : State) (b c : Nat) : State :=
  let l := s.lane b c
  if l.fallComplete then s.fallDone b c
  else if l.riseComplete then s.setLane b c { l with st := .open_ }
  else if s.waitOver b l then s.waitTimeout b c
  else s

/-- The lane has held long enough, and rises at the next frame evaluated (R251). -/
def MuzLane.riseDue (l : MuzLane) : Bool := (l.st == .silent || l.st == .holding) && decide (l.need ≤ l.hold)

/-- At sample 0 of a frame: a lane that has held long enough begins its rise (R251). -/
def State.riseIfDue (s : State) (b c : Nat) : State :=
  if (s.lane b c).riseDue then s.beginRise b c (s.bufM b * s.rd HRD.MUZCFG.RISE) else s

/-! ## One sample (R250, R251, R256, R257) -/

/-- The data of a lane at one sample: a container and whether it counts invalid. -/
structure LaneSample where
  x : Nat
  bad : Bool
deriving DecidableEq, Repr

/-- The 24-bit signed value of bits [31:8] of a container. -/
def high24 (x : Nat) : Int := signedN 24 (x / 2 ^ 8)

/-- Sample `v` is a zero crossing after `prev` (R256). -/
def State.crossing (s : State) (prev : Option Int) (v : Int) : Bool :=
  decide (v.natAbs ≤ s.rd HRD.ZCTHR.THR) ||
    (match prev with | some p => decide (p < 0) != decide (v < 0) | none => false)

/-- A lane emits `y` (R250: a later fall starts from it). -/
def State.laneOut (s : State) (b c y : Nat) : Nat × State := (y, s.setLane b c { s.lane b c with last := y })

/-- The next sample of a fall; a fall of length 0 emits 0 at once (R250). -/
def State.laneFall (s : State) (b c : Nat) : Nat × State :=
  let l := s.lane b c
  if l.len = 0 then s.laneOut b c 0
  else (s.setLane b c { l with k := l.k + 1 }).laneOut b c (scale l.x0 (fallGain (l.k + 1) l.len))

/-- What a lane emits at one sample, and the state after it; transitions due before the sample have been made. -/
def State.laneSample (s : State) (b c : Nat) (d : LaneSample) : Nat × State :=
  let l := s.lane b c
  let m := s.bufM b
  match l.st with
  | .open_ =>
    if d.bad then (s.beginFall b c (m * s.rd HRD.MUZCFG.FALL) .plain).laneFall b c
    else s.laneOut b c d.x
  | .rising =>
    if d.bad then (s.beginFall b c (m * s.rd HRD.MUZCFG.FALL) .plain).laneFall b c
    else
      (s.setLane b c { l with k := l.k + 1 }).laneOut b c (scale d.x (riseGain (l.k + 1) l.len))
  | .falling => s.laneFall b c
  | .silent | .holding | .gated => s.laneOut b c 0
  | .startwait =>
    if d.bad then (s.setLane b c { l with st := .silent, hold := 0 }).laneOut b c 0
    else if s.crossing l.prev (high24 d.x) then
      ((s.setLane b c { l with st := .open_ }).countCut b).laneOut b c d.x
    else (s.setLane b c { l with waited := l.waited + 1 }).laneOut b c 0
  | .stopwait =>
    if d.bad then (s.beginFall b c (m * s.rd HRD.MUZCFG.FALL) l.after).laneFall b c
    else if s.crossing l.prev (high24 d.x) then
      let s := s.countCut b
      let s := match l.after with
        | .startwait => s.enterStart b c
        | _ => s.setLane b c { l.ontoNew with st := .gated, after := .plain }
      s.laneOut b c 0
    else (s.setLane b c { l with waited := l.waited + 1 }).laneOut b c d.x

/-- The 24-bit value of a sample, where it is valid. -/
def LaneSample.seen (d : LaneSample) : Option Int := if d.bad then none else some (high24 d.x)

/-- A lane after a sample: the sample becomes the previous one of its source, of each route while one retires (`was` tells that one did before
the sample), `d` being the data that governed and `own` that of the new route (R255, R256). -/
def State.recordPrev (s : State) (b c : Nat) (was : Bool) (d own : LaneSample) : State :=
  let l := s.lane b c
  if was && l.retiring.isSome then s.setLane b c { l with prev := d.seen, next := own.seen }
  else s.setLane b c { l with prev := (if was then own else d).seen }

/-- At the end of a frame: an invalid sample sets the hold count to 0, and a frame of valid samples counts while the lane
falls, is silent or holds; a lane whose fall has just ended is in the state that follows it (R251, R252). -/
def State.holdFrame (s : State) (b c : Nat) (clean : Bool) : State :=
  let l := s.lane b c
  let still := l.settled.st
  if !clean then s.setLane b c { l with st := if l.st = .holding then .silent else l.st, hold := 0 }
  else if still = .falling ∨ still = .silent ∨ still = .holding then
    let hold := min (l.hold + 1) 255
    let need := if hold = 1 then max (s.rd HRD.MUZHOLD.HOLD) 1 else l.need
    s.setLane b c { l with st := if l.st = .silent then .holding else l.st, hold := hold, need := need }
  else s

/-! ## Evaluation of a lane's frame (R248, R249) -/

/-- A lane is named invalid for a frame: by MUZ or as late, and with `gather` also by the sources of its gather. -/
def State.marked (s : State) (b c f : Nat) (gather : Bool) : Bool :=
  s.marks.any (fun k => k.buf == b && k.ch == c && k.frame == f % 2 ^ 32 && (gather || !k.gather))

/-- The frame before frame `f`. -/
def frameBefore (f : Nat) : Nat := (f + 2 ^ 32 - 1) % 2 ^ 32

/-- A container with its polarity inverted: negated, −2^31 becoming 2^31 − 1 (R217). -/
def invert (x : Nat) : Nat := wrap32 (sat32 (-(signed32 x)))

/-- Every source sample frame of a route for destination frame `f` is valid (R218). -/
def State.routeValid (s : State) (r : Route) (f : Nat) : Bool := s.frameValid r.buf (frameBefore f)

/-- The data of a lane at sample `i` of frame `f` as its writer left it (R249). `cut` is the sample from which the herd rule of R263 makes it
invalid. -/
def State.ownData (s : State) (b c f cut i : Nat) : LaneSample :=
  { x := s.sxmWord (s.sxmAddr b f (i * s.bufC b + c)),
    bad := !s.sampleValid b f i || s.marked b c f true || decide (cut ≤ i) }

/-- The data that a lane takes at sample `i` of frame `f`: through its retiring route while it has one, whose sources govern in place of those of
the new one (R249, R255). -/
def State.laneData (s : State) (b c f cut i : Nat) : LaneSample :=
  match (s.lane b c).retiring with
  | some r =>
    let x := s.sxmWord (s.sxmAddr r.buf (frameBefore f) (i * s.bufC r.buf + r.ch))
    { x := if r.inv then invert x else x, bad := !s.routeValid r f || s.marked b c f false || decide (cut ≤ i) }
  | none => s.ownData b c f cut i

/-- Sample frame `i` of frame `f` is noted where the lane did not emit it OPEN (R212). -/
def State.noteShut (s : State) (b c f i : Nat) : State :=
  if (s.lane b c).st = .open_ then s else { s with shut := NatSet.add s.shut (vkey b (f % s.bufD b) i) }

/-- The state with no sample frame of frame `f` of buffer `b` noted. -/
def State.clearShut (s : State) (b f : Nat) : State :=
  let q := b * 512 + f % s.bufD b
  { s with shut := NatSet.drop s.shut (fun k => k / 1024 == q) }

/-- Samples below `n` of a lane's frame, ascending: each is emitted into its container, bits [7:0] kept on an AM824
buffer, and the first invalid one is noted (R249). -/
def State.laneSamples (s : State) (b c f cut : Nat) (am : Bool) : Nat → State × Bool
  | 0 => (s, true)
  | n + 1 =>
    let (s, clean) := State.laneSamples s b c f cut am n
    let s := s.settle b c
    let a := s.sxmAddr b f (n * s.bufC b + c)
    let was := (s.lane b c).retiring.isSome
    let d := s.laneData b c f cut n
    let own := s.ownData b c f cut n
    let (y, s) := s.laneSample b c d
    let s := s.noteShut b c f n
    let y := if am then y / 2 ^ 8 * 2 ^ 8 + d.x % 2 ^ 8 else y
    ((s.recordPrev b c was d own).setSxm a y, clean && !d.bad)

/-- A ramp that has begun since the lane's latest evaluation: it has emitted no sample. -/
def MuzLane.fresh (l : MuzLane) : Bool := (l.st == .rising || l.st == .falling) && l.k == 0

/-- The lane at the end of its evaluation. -/
def State.evaluated (s : State) (b c : Nat) : State := s.setLane b c (s.lane b c).show_

/-- The evaluation of one muzzled lane on frame `f`: its run-ahead readers are squashed if its state is no longer that of `l`, the lane before what
takes effect in this guard (R87, R248). -/
def State.evalLane (s : State) (l : MuzLane) (b c f cut : Nat) : State :=
  let fresh := (s.lane b c).fresh
  let s := (s.settle b c).riseIfDue b c
  let (s, clean) := s.laneSamples b c f cut (Cfg.am824 s.live b) (s.bufS b)
  let s := (s.holdFrame b c clean).evaluated b c
  if (s.lane b c).settled.st = l.settled.st ∧ ¬ fresh then s else s.squashMuzzle b f

/-- Samples of an observed lane: its state moves as that of a muzzled lane, its containers stay (R245, R248). -/
def State.observeSamples (s : State) (b c f : Nat) : Nat → State × Bool
  | 0 => (s, true)
  | n + 1 =>
    let (s, clean) := State.observeSamples s b c f n
    let s := s.settle b c
    let bad := !s.isValid b f n
    let (_, s) := s.laneSample b c { x := s.sxmWord (s.sxmAddr b f (n * s.bufC b + c)), bad := bad }
    (s.noteShut b c f n, clean && !bad)

/-- The evaluation of one observed lane on the frame `f` just frozen (R248). -/
def State.observeLane (s : State) (b c f : Nat) : State :=
  let s := (s.settle b c).riseIfDue b c
  let (s, clean) := s.observeSamples b c f (s.bufS b)
  (s.holdFrame b c clean).evaluated b c

/-- Every channel below `n` of a buffer, ascending, through `g`. -/
def State.eachLane (s : State) (g : State → Nat → State) : Nat → State
  | 0 => s
  | n + 1 => g (State.eachLane s g n) n

/-! ## Shared fate (R263) -/

/-- The first sample of a lane's frame that counts invalid, if any, before the herd rule. -/
def State.firstBad (s : State) (b c f : Nat) : Option Nat :=
  firstBelow (fun i => (s.laneData b c f (s.bufS b) i).bad) (s.bufS b)

/-- The members' muzzled buffers of herd `k`. -/
def State.herdBuffers (s : State) (k : Nat) : List Nat :=
  ((Cfg.herdMembers s.live k).flatMap (Cfg.memberOut s.live)).eraseDups

/-- Some observed lane of a member of herd `k` was invalid at step 5 of the boundary that began tick `n`. -/
def State.herdObservedBad (s : State) (k n : Nat) : Bool :=
  ((Cfg.herdMembers s.live k).flatMap (Cfg.memberIn s.live)).any (fun b => !s.frameValid b n)

/-- The first invalid sample of a buffer's lanes, over all its channels. -/
def State.firstBadOf (s : State) (b f : Nat) : Option Nat :=
  ((List.range (s.bufC b)).filterMap (fun c => s.firstBad b c f)).min?

/-- The sample of a lane of buffer `b` from which the SHARED herd `k` makes it invalid in frame `f`: from the first of
its samples at or after the earliest invalid sample of a member (R263). -/
def State.sharedCut (s : State) (k b f : Nat) : Nat :=
  if s.herdObservedBad k (frameBefore f) then 0
  else
    ((s.herdBuffers k).filterMap (fun d =>
      (s.firstBadOf d f).map (fun i => ceilDiv (i * s.bufM b) (s.bufM d)))).min?.getD (s.bufS b)

/-- The sample from which the herd rule makes every lane of buffer `b` invalid in frame `f` (R263). -/
def State.herdCut (s : State) (b f : Nat) : Nat :=
  ((List.range 16).filterMap (fun k =>
    if s.flag (HRD.H_CTL.FATE k) && s.flag (HRD.H_CTL.EN k) && (s.herdBuffers k).contains b then
      some (s.sharedCut k b f) else none)).min?.getD (s.bufS b)

/-! ## How a start, a stop or a change acts on a lane (R253 to R255, R258, R261, R262) -/

/-- What an epoch does to the Patch Map entry of a lane. -/
inductive RouteAct where
  | start
  | stop
  | change
deriving DecidableEq, Repr

/-- Herd `k` is RUNNING. -/
def State.herdRunning (s : State) (k : Nat) : Bool := s.flag (HRD.H_CTL.EN k) && s.rd (HRD.H_STATE.val k) == 2

/-- The lanes of buffer `b` are gated: it belongs to a herd member whose herd is not RUNNING. -/
def State.gatedBuf (s : State) (b : Nat) : Bool :=
  match Cfg.herdOfBuf s.live b with
  | some k => !s.herdRunning k
  | none => false

/-- A wait that an epoch's change meets ends as a timeout (R258). -/
def State.endWait (s : State) (b c : Nat) : State :=
  match (s.lane b c).st with
  | .startwait | .stopwait => s.waitTimeout b c
  | _ => s

/-- An epoch enables, disables or changes the Patch Map entry of a lane; `old` is the route before (R255, R258). -/
def State.routeAct (s : State) (b c : Nat) (act : RouteAct) (old : Option Route) : State :=
  let s := (s.settle b c).endWait b c
  let l := s.lane b c
  let f := s.bufM b * s.rd HRD.MUZCFG.FALL
  match act, l.st with
  | .start, .open_ => (s.setLane b c { l with prev := none }).enterStart b c
  | .start, .gated => if s.gatedBuf b then s else (s.setLane b c { l with prev := none }).enterStart b c
  | .start, .falling =>
    s.setLane b c { l with after := if l.after = .gated then .plain else l.after, prev := none, retiring := none, next := none }
  | .stop, .open_ => s.enterStop b c .gated old
  | .stop, .falling => s.setLane b c { l with after := .gated }
  | .stop, .rising => s.beginFall b c f .gated
  | .stop, .silent => s.setLane b c { l with st := .gated }
  | .stop, .holding => s.setLane b c { l with st := .gated }
  | .change, .open_ => s.enterStop b c .startwait old
  | _, _ => s.setLane b c { l with prev := none, retiring := none, next := none }

/-- A lane starts under its herd at sample 0 of frame S (R261). -/
def State.herdStartLane (s : State) (b c : Nat) : State :=
  let s := s.settle b c
  if (s.lane b c).st = .gated then s.enterStart b c else s

/-- A lane stops under its herd: OPEN waits for a crossing, every other state is GATED (R262). -/
def State.herdStopLane (s : State) (b c : Nat) : State :=
  let s := s.settle b c
  let l := s.lane b c
  if l.st = .open_ then s.enterStop b c .gated none
  else s.setLane b c { l.renewed .gated with last := l.last, hold := l.hold, prev := l.prev }

/-- A lane of a buffer that is enabled, or changed by a hard change: SILENT, or GATED where it belongs to a herd member (R253). -/
def State.freshLane (s : State) (b c : Nat) : State :=
  s.setLane b c ((s.lane b c).renewed (if (Cfg.herdOfBuf s.live b).isSome then .gated else .silent))

/-- The lanes of an enabled buffer that a hard change reaches begin anew (R170, R253, R389). -/
def State.freshBuffer (s : State) (b : Nat) : State :=
  if s.bufEn b then s.eachLane (fun s c => s.freshLane b c) (s.bufC b) else s

/-- A lane of an output of a chip that becomes ACTIVE rises over TAKEOVER_RISE, without a hold (R264). -/
def State.takeoverLane (s : State) (b c : Nat) : State :=
  let s := s.settle b c
  match (s.lane b c).st with
  | .open_ | .rising =>
    let q := s.bufM b * s.rd PAIR.TAKEOVER_RISE.val
    if q = 0 then let l := s.lane b c; s.setLane b c { l with st := .open_ } else s.beginRise b c q
  | _ => s

/-! ## The evaluation in the guard (R22, R248) -/

/-- The configuration whose members start at frame `f`: of the epoch due at B(f), else the live one (R571). -/
def State.startCfg (s : State) (f : Nat) : Cfg := if s.due f then s.pendCfg else s.live

/-- The lanes of the muzzled buffers of the members of herd `k` in configuration `c`, through `g`. -/
def State.herdLanes (s : State) (c : Cfg) (k : Nat) (g : State → Nat → Nat → State) : State :=
  ((Cfg.herdMembers c k).flatMap (Cfg.memberOut c)).eraseDups.foldl
    (fun s b => s.eachLane (fun s i => g s b i) (s.bufC b)) s

/-- Herd `k`. -/
def State.herdOf (s : State) (k : Nat) : Herd := Store.get (fun _ => Herd.reset) s.herd k

/-- The state with herd `k` at `h`. -/
def State.setHerd (s : State) (k : Nat) (h : Herd) : State := { s with herd := Store.set (fun _ => Herd.reset) s.herd k h }

/-- Herd starts and stops that take effect at sample 0 of frame `f` act on their lanes (R261, R262, R571). -/
def State.herdFrame (s : State) (f : Nat) : State :=
  s.eachBelow (fun s k =>
    let h := s.herdOf k
    let s := if h.start = some f then s.herdLanes (s.startCfg f) k State.herdStartLane else s
    if h.stopAt = some f then
      (s.herdLanes s.live k State.herdStopLane).setHerd k { h with stopAt := none }
    else s) 16

/-- The muzzle evaluates every muzzled lane on frame `f`: first what takes effect at its sample 0, then the lanes in
ascending buffer and channel (R248). `was` holds the lanes as the guard found them. Marks of the frame are spent. -/
def State.evaluate (s : State) (was : Store MuzLane) (f : Nat) : State :=
  let s := s.herdFrame f
  let bufs := (Cfg.muzzledBufs s.live).map (fun b => (b, s.herdCut b f))
  let s := bufs.foldl (fun s p =>
    (s.clearShut p.1 f).eachLane (fun s c => s.evalLane (Store.get (fun _ => MuzLane.reset) was (laneKey p.1 c)) p.1 c f p.2) (s.bufC p.1)) s
  { s with marks := s.marks.filter (fun m => m.frame != f % 2 ^ 32) }

/-- Step 5: the muzzle evaluates every observed lane on the frame `n` just frozen (R248). -/
def State.observe (s : State) (n : Nat) : State :=
  ((Cfg.observedBufs s.live).eraseDups.filter (s.bufEn ·)).foldl
    (fun s b => (s.clearShut b n).eachLane (fun s c => s.observeLane b c n) (s.bufC b)) s

/-- Lanes of buffer `b` that are not OPEN, as word 4 of its record shows (R265). -/
def State.lanesNotOpen (s : State) (b : Nat) : Nat :=
  ((List.range (s.bufC b)).filter (fun c => (s.lane b c).settled.st != .open_)).length

/-! ## The rows of the muzzle -/

/-- FALL_COMPLETE: the lane's fall has emitted its F samples (R250). -/
def execFallComplete (b c : Nat) (s : State) : Res :=
  .next (if (s.lane b c).fallComplete then s.fallDone b c else s)

/-- MUZ_RISE: the lane has held long enough, and rises from sample 0 of the next frame that the muzzle evaluates (R251). -/
def execMuzRise (b c : Nat) (s : State) : Res :=
  .next (
    if (s.lane b c).riseDue && (Cfg.muzzledBufs s.live).contains b then
      let l := s.lane b c
      (s.setLane b c { l with st := .rising, k := 0, len := s.bufM b * s.rd HRD.MUZCFG.RISE }).countRise b c
    else s)

/-- RISE_COMPLETE: the lane's rise has emitted its Q samples (R251). -/
def execRiseComplete (b c : Nat) (s : State) : Res :=
  let l := s.lane b c
  .next (if l.riseComplete then s.setLane b c { l with st := .open_ } else s)

/-- ZC_TIMEOUT: the lane's wait has reached its limit (R257). -/
def execZcTimeout (b c : Nat) (s : State) : Res :=
  .next (if s.waitOver b (s.lane b c) then s.waitTimeout b c else s)

end Sys2Proof.Machine
end

