-- ==== Sys2Proof/Machine/Herds.lean ====
section
/-!
DEFINITION. Herds (R259 to R262, R571, R601): arming, triggers, starts and stops.
-/

namespace Sys2Proof.Machine

/-- The state of herd `k`: 0 IDLE, 1 ARMED, 2 RUNNING, 3 STOPPED. -/
def State.herdState (s : State) (k : Nat) : Nat := s.rd (HRD.H_STATE.val k)

/-- Herd `k` is enabled in the live epoch. -/
def State.herdEn (s : State) (k : Nat) : Bool := s.flag (HRD.H_CTL.EN k)

/-- A trigger of herd `k` fixes its start S (R260). -/
def State.fixStart (s : State) (k t : Nat) : State := s.setHerd k { s.herdOf k with start := some (t % 2 ^ 32) }

/-- A late trigger of herd `k` with judged start `j`: reported, and with LATE = 1 the herd starts at n + 2 from ARMED, else
it returns to its state before the ARM (R260). -/
def State.herdLate (s : State) (k j : Nat) : State :=
  let s := (s.sqf HRD.HIST.HERD_LATE).report 0x1705 k j
  if s.flag (HRD.H_CTL.LATE k) then (s.wr (HRD.H_STATE.val k) 1).fixStart k (s.tick + 2)
  else s.wr (HRD.H_STATE.val k) (s.herdOf k).prior

/-- ARM of herd `k`: from IDLE or STOPPED, judged at once for TICK and TIME (R260). -/
def State.herdArm (s : State) (k : Nat) : State :=
  if s.herdEn k && (s.herdState k == 0 || s.herdState k == 3) then
    let n := s.tick
    let at_ := s.rd (HRD.H_AT.val k)
    let s := s.setHerd k { s.herdOf k with armTick := n, prior := s.herdState k, start := none }
    match s.rd (HRD.H_CTL.SRC k) with
    | 1 =>
      let d := (at_ + 2 ^ 32 - n) % 2 ^ 32
      if 2 ≤ d ∧ d < 2 ^ 31 then (s.wr (HRD.H_STATE.val k) 1).fixStart k at_ else s.herdLate k at_
    | 2 => if futureTime at_ s.ns then s.wr (HRD.H_STATE.val k) 1 else s.herdLate k n
    | _ => s.wr (HRD.H_STATE.val k) 1
  else s

/-- Herd `k` is armed, with source `src`, and its start is not fixed. -/
def State.herdWaits (s : State) (k src : Nat) : Bool :=
  s.herdState k == 1 && s.rd (HRD.H_CTL.SRC k) == src && (s.herdOf k).start.isNone

/-- STOP of herd `k` in tick n: its lanes stop at sample 0 of frame n + 2, and a start that an ARMED herd waits for does not come (R262; DEDUCED,
DEDUCED, log entry 16). A disabled herd is IDLE and stays so (R601). -/
def State.herdStop (s : State) (k : Nat) : State :=
  if s.herdEn k || s.herdState k != 0 then
    let f := (s.tick + 2) % 2 ^ 32
    let h := s.herdOf k
    let h : Herd := if s.herdState k = 1 then { h with start := none } else h
    let s := s.wr (HRD.H_STATE.val k) 3
    let s := s.setHerd k { h with stopAt := some f }
    s.report 0x1706 k f
  else s

/-- A write of `v` to HRD.Hk_CMD: ARM, then GO, then STOP (R260, R262; DEDUCED, log entry 16). -/
def State.herdCmd (s : State) (k v : Nat) : State :=
  let s := if bit v 0 then s.herdArm k else s
  let s := if bit v 2 && s.herdWaits k 0 then s.fixStart k (s.tick + 2) else s
  if bit v 1 then s.herdStop k else s

/-- A rising edge on EVIN `pin` triggers the armed PIN herds that name it (R260). -/
def State.herdPin (s : State) (pin : Nat) : State :=
  s.eachBelow (fun s k =>
    if s.herdWaits k 3 && s.rd (HRD.H_CTL.PIN k) == pin then s.fixStart k (s.tick + 2) else s) 16

/-- HERD_PIN_TRIGGER (R260). -/
def execHerdPinTrigger (pin : Nat) (s : State) : Res := .next (if s.ticking then s.herdPin pin else s)

/-- The later of two tick indexes (R13). -/
def laterTick (a b : Nat) : Nat := if futureTick a b then a else b

/-- The first tick whose boundary, as B(a) and the frequency in force project it, is at or after the time `t`, which is not before B(a) (R260,
R405). -/
def State.projectedTick (s : State) (a t : Nat) : Nat :=
  let d := (t + 2 ^ 32 - s.rd TIME.BNS.val) % 2 ^ 32
  let y := (10 ^ 12 + s.rdS REF.DCOPPT.val).toNat
  a + ceilDiv (d * s.fs * y) (max s.tickLen 1 * 10 ^ 21)

/-- The start of an armed TIME herd as it is known in the current tick: the first tick at least two after the ARM whose boundary is at or after
Hk_AT (R260; DEDUCED, log entry 16). -/
def State.herdProjected (s : State) (k : Nat) : Nat :=
  let at_ := s.rd (HRD.H_AT.val k)
  let t := if futureTime at_ (s.rd TIME.BNS.val) then s.projectedTick s.tick at_ else s.tick + 1
  laterTick (t % 2 ^ 32) (((s.herdOf k).armTick + 2) % 2 ^ 32)

/-- Herd `k` waits for a time that the next boundary reaches. -/
def State.timeComes (s : State) (k : Nat) : Bool :=
  s.herdWaits k 2 && (reachedTime (s.rd (HRD.H_AT.val k)) s.ns || !futureTick (s.herdProjected k) ((s.tick + 1) % 2 ^ 32))

/-- The trigger of an armed TIME herd fixes its start: the first boundary at or after Hk_AT is the next one (R260). -/
def State.timeTrigger (s : State) (k : Nat) : State :=
  if s.timeComes k then s.fixStart k (laterTick ((s.tick + 1) % 2 ^ 32) (((s.herdOf k).armTick + 2) % 2 ^ 32)) else s

/-- HERD_TIME_TRIGGER: the boundary that ends this tick is the first at or after Hk_AT; S is also at least two ticks after the ARM (R260; DEDUCED,
DEDUCED, log entry 16). -/
def execHerdTimeTrigger (k : Nat) (s : State) : Res := .next (if k < 16 then s.timeTrigger k else s)

/-- The start of herd `k` as it is known: fixed, or projected for a TIME herd (R260). -/
def State.startKnown (s : State) (k : Nat) : Option Nat :=
  match (s.herdOf k).start with
  | some f => some f
  | none => if s.herdWaits k 2 then some (s.herdProjected k) else none

/-- The frame from which a member may run: its herd's first start, done or known; none while it may not (R259, R601). -/
def State.memberFrom (s : State) (k : Nat) : Option Nat :=
  if s.herdEn k then
    match (s.herdOf k).first with
    | some f => some f
    | none => s.startKnown k
  else none

/-- The unit of KIND `kind` and number `ix` may fill or send frame `f`: it is no herd member, or its herd has started it
(R259). -/
def State.memberOpen (s : State) (kind ix f : Nat) : Bool :=
  match (List.range 16).find? (fun k => (Cfg.herdMembers s.live k).contains (kind, ix)) with
  | none => true
  | some k =>
    match s.memberFrom k with
    | some g => !futureTick g (f % 2 ^ 32)
    | none => false

/-- A first start long past at tick `n` stays past when TICKIDX wraps (R202, R259). -/
def State.ageHerd (s : State) (n k : Nat) : State :=
  let h := s.herdOf k
  match h.first with
  | some f =>
    if futureTick (f + 2 ^ 30) n ∨ futureTick f n then s else s.setHerd k { h with first := some ((n + 2 ^ 32 - 2 ^ 29) % 2 ^ 32) }
  | none => s

/-- HERD_STARTED: tick S has come, and the herd is RUNNING; lanes still GATED start (R261). -/
def execHerdStarted (k : Nat) (s : State) : Res :=
  .next (
    let h := s.herdOf k
    match h.start with
    | some f =>
      if decide (k < 16) && s.ticking && s.herdState k == 1 && !futureTick f s.tick then
        let s := s.wr (HRD.H_STATE.val k) 2
        let s := s.wr (HRD.H_START.val k) f
        let s := s.setHerd k { h with start := none, first := some (h.first.getD f) }
        let s := s.herdLanes s.live k State.herdStartLane
        s.report 0x1704 k f
      else s
    | none => s)

/-- An epoch applied at B(n) changes the members of herd `k`: a disabled herd returns to the state before its first start,
and its members' lanes to GATED (R262, R601). -/
def State.herdEpoch (s : State) (old new : Cfg) (k : Nat) : State :=
  let s := s.wr (HRD.H_STAT.MEMBERS k) (Cfg.herdMembers new k).length
  if Cfg.flag old (HRD.H_CTL.EN k) && !Cfg.flag new (HRD.H_CTL.EN k) then
    let s := s.wr (HRD.H_STATE.val k) 0
    let s := s.setHerd k Herd.reset
    s.herdLanes new k (fun s b c => s.setLane b c ((s.lane b c).renewed .gated))
  else s

/-- The muzzled buffers of members of herd `k` that the epoch adds: their lanes are GATED, and start at once where the herd
is RUNNING or starts at this boundary (R253, R261, R571). -/
def State.herdAdds (s : State) (old new : Cfg) (n k : Nat) : State :=
  let was := ((Cfg.herdMembers old k).flatMap (Cfg.memberOut old))
  let now := ((Cfg.herdMembers new k).flatMap (Cfg.memberOut new)).eraseDups
  (now.filter (fun b => !was.contains b)).foldl
    (fun s b => s.eachLane (fun s c =>
      let s := s.setLane b c ((s.lane b c).renewed .gated)
      if s.herdRunning k || (s.herdOf k).start == some n then s.herdStartLane b c else s) (s.bufC b)) s

/-- The muzzled buffers of members of herd `k` that the epoch takes out of every herd: where the herd has not had its first
start, the closed gate that held their GATED lanes is gone, and they start; a lane that a stop ended stays GATED (R247; 
DEDUCED, log entry 16). -/
def State.herdDrops (s : State) (old new : Cfg) (k : Nat) : State :=
  let was := ((Cfg.herdMembers old k).flatMap (Cfg.memberOut old)).eraseDups
  if (s.herdOf k).first.isNone then
    (was.filter (fun b => s.bufEn b && (Cfg.herdOfBuf new b).isNone)).foldl
      (fun s b => s.eachLane (fun s c => s.herdStartLane b c) (s.bufC b)) s
  else s

end Sys2Proof.Machine
end

