-- ==== Sys2Proof/Machine/Kennels.lean ====
section
/-!
DEFINITION. Kennels (R224 to R242): pushing and popping words, whole packets, refusals, errors, watermarks, resets, and the
host's windows.
-/

namespace Sys2Proof.Machine

/-- Kennel `n`. -/
def State.kennel (s : State) (n : Nat) : Kennel := Store.get (fun _ => Kennel.reset) s.knl n

/-- The words a kennel holds, committed or not; those of a packet that ended with a bad FCS have vanished (R228, R231). -/
def Kennel.level (k : Kennel) : Nat := ((k.pkts.filter (fun p => !p.bad)).map (fun p => p.words.length)).sum + k.cur.length

/-- The size of kennel `n` in words (R240). -/
def State.kennelSize (s : State) (n : Nat) : Nat := s.rd (KNL.K_CFG.SIZE n) * 512

/-- The level of kennel `n` at the start of the current cycle (R233). -/
def State.startLevel (s : State) (n : Nat) : Nat :=
  match Store.find s.net.levels n with
  | some (t, l) => if t = s.clk.now then l else (s.kennel n).level
  | none => (s.kennel n).level

/-- Kennel `n` is full for a push of this cycle: space that a pop frees is usable from the next (R228, R233, R572). -/
def State.kennelFull (s : State) (n : Nat) : Bool := decide (s.kennelSize n ≤ max (s.kennel n).level (s.startLevel n))

/-- Kennel `n` may hold words: K14 and K15 hold none on a part without the pair link (R224). -/
def State.kennelThere (s : State) (n : Nat) : Bool := !(n == 14 || n == 15) || s.flag GLB.UNITCAP.PAIRLINK

/-- K0 and K1 are cut-through kennels (R230). -/
def cutThrough (n : Nat) : Bool := decide (n < 2)

/-- The host may push into kennel `n` (R224). -/
def hostPushes (n : Nat) : Bool := decide (24 ≤ n) && decide (n < 48)

/-- The host may pop kennel `n` (R224). -/
def hostPops (n : Nat) : Bool := decide (16 ≤ n) && decide (n < 24)

/-- A rising crossing of the mark: counted and held (R237). -/
def State.cross (s : State) (n : Nat) : State := (s.inc (KNL.K_CROSSCNT.val n)).sqf (KNL.K_HIST.CROSSED n)

/-- The levels at the start of the current cycle, with that of kennel `n` noted before its first change (R233). -/
def State.noteLevel (s : State) (n : Nat) : Store (Nat × Nat) :=
  match Store.find s.net.levels n with
  | some (t, _) => if t = s.clk.now then s.net.levels else Store.insert s.net.levels n (s.clk.now, (s.kennel n).level)
  | none => Store.insert s.net.levels n (s.clk.now, (s.kennel n).level)

/-- The state with kennel `n` at `k`; its level rising to the mark or above is a crossing (R237, R572). A transmit kennel
that gains its first word notes the cycle, from which its class waits (R425). -/
def State.setKennel (s : State) (n : Nat) (k : Kennel) : State :=
  let mark := s.rd (KNL.K_WM.MARK n)
  let before := (s.kennel n).level
  let s := { s with knl := Store.set (fun _ => Kennel.reset) s.knl n k, net := { s.net with levels := s.noteLevel n } }
  let s := if before = 0 ∧ 0 < k.level ∧ n < 14 then
      { s with net := { s.net with since := Store.insert s.net.since n s.clk.now } } else s
  if mark ≠ 0 ∧ before < mark ∧ mark ≤ k.level then s.cross n else s

/-- A write of MARK from `old`: it makes a crossing where the level was below the old mark and reaches the new (R237). -/
def State.markWritten (s : State) (n old : Nat) : State :=
  let mark := s.rd (KNL.K_WM.MARK n)
  let lv := (s.kennel n).level
  if mark ≠ 0 ∧ lv < old ∧ mark ≤ lv then s.cross n else s

/-- LEN of a packet, from its header word (R227). -/
def headerLen (w : Nat) : Nat := bits w 13 0

/-- The words of a packet of `len` bytes (R227). -/
def packetWords (len : Nat) : Nat := 1 + ceilDiv len 8

/-- A header word (R227). -/
def headerWord (len src queue ts : Nat) : Nat := len % 2 ^ 14 + src * 2 ^ 16 + queue * 2 ^ 20 + ts * 2 ^ 32

/-- The 64-bit word of up to 8 bytes, byte 0 lowest. -/
def wordOfBytes : List Nat → Nat
  | [] => 0
  | b :: bs => b % 2 ^ 8 + 2 ^ 8 * wordOfBytes bs

/-- The data words of a frame (R227): `n` bounds their count. -/
def dataWords : Nat → List Nat → List Nat
  | 0, _ => []
  | n + 1, bs => wordOfBytes (bs.take 8) :: dataWords n (bs.drop 8)

/-- A packet of frame bytes in the form of R227. -/
def packetOf (src queue ts : Nat) (bytes : List Nat) : List Nat :=
  headerWord bytes.length src queue ts :: dataWords (ceilDiv bytes.length 8) bytes

/-- The bytes of a 64-bit word, byte 0 first. -/
def bytesOfWord (w : Nat) : List Nat := (List.range 8).map (fun i => w / 2 ^ (8 * i) % 2 ^ 8)

/-- The frame bytes of a packet (R227). -/
def frameOf (words : List Nat) : List Nat :=
  match words with
  | [] => []
  | h :: ds => (ds.flatMap bytesOfWord).take (headerLen h)

/-- A refusal is counted, held and reported with the length of its packet (R232, R243). -/
def State.countRefused (s : State) (n len : Nat) : State :=
  let s := s.sqf (KNL.K_HIST.OVERRUN n)
  let s := s.inc (KNL.K_REFUSED.val n)
  s.report 0x1601 n len

/-- The depacketizer is in the middle of the packet that is being pushed into K0 or K1 (R230). -/
def State.readingInto (s : State) (n : Nat) : Bool :=
  match Store.find s.copies n with
  | some c => decide (n < 2) && c.arriving
  | none => false

/-- A push finds the kennel full: the whole packet is dropped and the rest of its words ignored (R232, R233); a depacketizer in its middle meets a
rewind marker. `w` is the word refused. -/
def State.refusePush (s : State) (n w : Nat) (last : Bool) : State :=
  let k := s.kennel n
  let len := headerLen (k.cur.headD w)
  (s.setKennel n { k with cur := [], pushing := !last, ignoring := !last, marker := k.marker || s.readingInto n }).countRefused n len

/-- One word pushed into kennel `n`; the last word commits the packet (R229, R232, R233). -/
def State.push (s : State) (n w : Nat) (last bad : Bool) (tag : Option TxTag) : State :=
  let k := s.kennel n
  if k.ignoring then (if last then s.setKennel n { k with pushing := false, ignoring := false } else s)
  else if s.kennelFull n then s.refusePush n w last
  else if last then
    s.setKennel n { k with pkts := k.pkts ++ [{ words := k.cur ++ [w], got := [], bad := bad, tag := tag }],
                           cur := [], pushing := false }
  else s.setKennel n { k with cur := k.cur ++ [w], pushing := true }

/-- The words of a packet, pushed one by one. -/
def State.pushWords (s : State) (n : Nat) (bad : Bool) (tag : Option TxTag) : List Nat → State
  | [] => s
  | [w] => s.push n w true bad tag
  | w :: ws => State.pushWords (s.push n w false bad tag) n bad tag ws

/-- The level a whole packet of `m` words needs is there: its push would not be refused (R233, R496). -/
def State.kennelRoom (s : State) (n m : Nat) : Bool := !s.kennelFull n && decide ((s.kennel n).level + m ≤ s.kennelSize n)

/-- The level of kennel `n` rises to `top` and falls back within the pushes of one packet: a crossing where it reaches the mark (R237). -/
def State.crossTo (s : State) (n top : Nat) : State :=
  let mark := s.rd (KNL.K_WM.MARK n)
  if mark ≠ 0 ∧ (s.kennel n).level < mark ∧ mark ≤ top then s.cross n else s

/-- A packet pushed whole by one unit, beside a packet that another producer is still pushing (R225); answers whether it was taken (R213, R232).
One that ends with a bad FCS leaves no word behind: the depacketizer of K0 and K1, which reads words as they are pushed, meets its
marker (R230, R231). -/
def State.pushPacket (s : State) (n : Nat) (words : List Nat) (bad : Bool) (tag : Option TxTag) : State × Bool :=
  let k := s.kennel n
  let need := words.length - (if bad then 1 else 0)
  if s.kennelRoom n need then
    let s := if bad then s.crossTo n (k.level + need) else s
    (s.setKennel n { k with pkts := k.pkts ++ [{ words := words, got := [], bad := bad, tag := tag }] }, true)
  else
    let s := if s.kennelFull n then s else s.crossTo n (s.kennelSize n)
    (s.countRefused n (headerLen (words.headD 0)), false)

/-- A producer ends the packet it is pushing with a bad FCS: its stored words vanish (R231). -/
def State.abandonPush (s : State) (n : Nat) : State :=
  s.setKennel n { s.kennel n with cur := [], pushing := false, ignoring := false }

/-- The first committed packet of kennel `n`, whole, taken by a consumer (R229). -/
def State.popPacket (s : State) (n : Nat) : Option KPacket × State :=
  let k := s.kennel n
  match k.pkts with
  | [] => (none, s)
  | p :: ps => (some p, s.setKennel n { k with pkts := ps })

/-! ## Reset (R236, R238, R239) -/

/-- Port `x` meets a rewind marker: a frame on the wire ends with an inverted FCS (R235, R238). -/
def State.breakOff (s : State) (x : Nat) (k : Option KPacket) : State :=
  let p := Store.get (fun _ => Port.reset) s.net.ports x
  let s := { s with net := { s.net with ports := Store.set (fun _ => Port.reset) s.net.ports x { p with sending := none } } }
  match k with
  | some q => s.emit (.cut x (frameOf q.got))
  | none => s

/-- Kennel `n` is emptied, and a port that was sending from it breaks its frame off; `fault` is 1 for a boundary-store fault (R238). -/
def State.resetKennel (s : State) (n fault : Nat) : State :=
  let k := s.kennel n
  let dropped := k.pkts.length + (if k.cur.isEmpty then 0 else 1)
  let middle := k.pkts.any (fun p => !p.got.isEmpty) || (decide (n < 2) && (Store.find s.copies n).isSome)
  let s := s.eachBelow (fun s x =>
    let p := Store.get (fun _ => Port.reset) s.net.ports x
    if p.sending = some n then s.breakOff x k.pkts.head? else s) 3
  let s : State := { s with rxHeld := NatSet.drop s.rxHeld (fun x => x == n) }
  let s := s.setKennel n { Kennel.reset with pushing := k.pushing, ignoring := k.pushing, marker := middle, bound := k.bound }
  let s := s.add (KNL.K_RSTDROP.val n) dropped
  let s := s.sqf (KNL.K_HIST.RESET n)
  s.report 0x1603 n (dropped % 2 ^ 31 + fault * 2 ^ 31)

/-- A unit that R239 names as producer or consumer of kennel `n` is enabled in the live epoch. -/
def State.kennelInUse (s : State) (n : Nat) : Bool :=
  let port := fun x => s.flag (NET.CFG.EN x)
  let depack := !(Cfg.rxFlows s.live).isEmpty
  let pack := !(Cfg.txFlows s.live).isEmpty
  if n < 2 then port n || depack
  else if n < 6 then pack || port 0
  else if n < 10 then pack || port 1
  else if n < 13 then port (n - 10)
  else if n = 13 then port 2
  else if n < 16 then s.flag PAIR.CFG.EN
  else if 32 ≤ n ∧ n < 48 then !(Cfg.cues s.live).isEmpty
  else false

/-- A memory error report: a corrected or an uncorrectable word of memory `m` at `addr` (R509, R514). -/
def State.memCorr (s : State) (m addr : Nat) : State := (s.inc (EVT.MEMCORR.val m)).report 0x0203 m addr

/-- As above, for an uncorrectable word. -/
def State.memUncorr (s : State) (m addr : Nat) : State := (s.inc (EVT.MEMUNCORR.val m)).report 0x0204 m addr

/-- A popped word of kennel `n` at word address `a` of kennel SRAM has an uncorrectable error (R235, R509). -/
def State.kennelUncorr (s : State) (n a : Nat) : State :=
  let s := s.memUncorr 2 a
  ((s.inc (KNL.K_UECNT.val n)).sqf (KNL.K_HIST.UNCORR n)).report 0x1602 n (a % 2 ^ 19)

/-- A popped word had a corrected error (R234). -/
def State.kennelCorr (s : State) (n a : Nat) : State :=
  let s := s.memCorr 2 a
  (s.inc (KNL.K_CECNT.val n)).sqf (KNL.K_HIST.CORR n)

/-! ## Host pushes and pops (R241, R242) -/

/-- The host's packet is bad: it is dropped through its PUSHLAST, with ACC_ERR (R242). -/
def State.badHostPacket (s : State) (i n k : Nat) (last : Bool) : State :=
  let q := s.kennel n
  (s.setKennel n { q with cur := [], pushing := !last, ignoring := !last, low := none }).accErr i k .refused

/-- A host write of the upper half of a word through PUSH or PUSHLAST of kennel `n` (R242). -/
def State.hostPushHigh (s : State) (i n k hi : Nat) (last : Bool) : State :=
  let q := s.kennel n
  if q.ignoring then
    if last then s.setKennel n { q with pushing := false, ignoring := false, low := none }
    else s.setKennel n { q with low := none }
  else
    match q.low with
    | some (fromLast, lo) =>
      if fromLast ≠ last then s.badHostPacket i n k last
      else
        let w := lo + hi * 2 ^ 32
        let q' := { q with low := none }
        let s := s.setKennel n q'
        let len := headerLen (q.cur.headD w)
        let count := q.cur.length + 1
        if (q.cur.isEmpty && (len == 0 || decide (9216 < len))) || (last && count != packetWords len) then
          s.badHostPacket i n k last
        else s.push n w last false none
    | none => s.badHostPacket i n k last

/-- A host write of `v` at offset `o` of the window of kennel `n` (R241); `k` is the key written. -/
def State.kennelWindow (s : State) (i n o k v : Nat) : State :=
  let q := s.kennel n
  if o < 0x800 then s.accErr i k .readonly
  else if o = 0x800 ∨ o = 0x808 then
    if hostPushes n && !q.bound then s.setKennel n { q with low := some (o == 0x808, v) } else s.accErr i k .refused
  else if o = 0x804 ∨ o = 0x80C then
    if hostPushes n && !q.bound then s.hostPushHigh i n k v (o == 0x80C) else s.accErr i k .refused
  else if o = 0x810 then
    if hostPops n && !q.bound then s.setKennel n { q with pkts := q.pkts.drop v } else s.accErr i k .refused
  else s

/-- The words that a host reads in the head window of kennel `n` (R241). -/
def State.kennelHead (s : State) (n o : Nat) : Nat :=
  let q := s.kennel n
  if hostPops n && !q.bound && decide (o < 0x800) then
    let w := ((q.pkts.flatMap (fun p => p.words))[o / 8]?).getD 0
    if o % 8 < 4 then w % 2 ^ 32 else w / 2 ^ 32
  else 0

/-- A write of `v` to a register of the KNL block that HIF has accepted, `old` being MARK before (R237, R238). -/
def State.kennelReg (s : State) (k v old : Nat) : State :=
  let n := (k - KNL.K_CFG 0) / 0x40
  if k = KNL.K_WM n then s.markWritten n old
  else if k = KNL.K_RST n ∧ bit v 0 then s.resetKennel n 0
  else s

/-- An applied epoch that changes BASE or SIZE of kennel `n` resets it (R240). -/
def State.kennelEpoch (s : State) (old new : Cfg) (n : Nat) : State :=
  if Cfg.word old (KNL.K_CFG n) = Cfg.word new (KNL.K_CFG n) then s else s.resetKennel n 0

/-! ## The rows of KNL -/

/-- KENNEL_WORD_PUSH: a producer of kennel `k` pushes one word; the host pushes through its window instead (R224, R228, R232). -/
def execKennelWordPush (k word : Nat) (last : Bool) (s : State) : Res :=
  .next (if k < 64 ∧ hostPushes k = false ∧ s.kennelThere k = true then s.push k (word % 2 ^ 64) last false none else s)

/-- KENNEL_BOUNDARY_FAULT: the kennel is reset, and only it restarts (R236, R510). -/
def execKennelBoundaryFault (k : Nat) (s : State) : Res :=
  .next (
    if k < 64 then
      let s := s.inc (EVT.MEMUNCORR.val 3)
      let s := s.resetKennel k 1
      let s := s.report 0x0205 0x16 6
      s.report 0x0206 0x16 s.tick
    else s)

end Sys2Proof.Machine
end

