-- ==== Sys2Proof/Machine/Wire.lean ====
section
/-!
DEFINITION. Frames on the wire, as lists of byte values from the destination MAC address on: Ethernet, IP, UDP, RTP and AVTP
headers (R171), the Internet checksum and the CRCs. The layouts are those of the standards the spec names (PRESUMED, log entry 20).
-/

namespace Sys2Proof.Machine

/-- The number that bytes spell, the first most significant. -/
def be (bs : List Nat) : Nat := bs.foldl (fun a b => a * 256 + b % 256) 0

/-- `n` bytes from offset `o`, as a number, the first most significant. -/
def beAt (bs : List Nat) (o n : Nat) : Nat := be ((bs.drop o).take n)

/-- The `n` bytes of a number, the most significant first. -/
def toBe (n v : Nat) : List Nat := ((List.range n).map (fun i => v / 256 ^ i % 256)).reverse

/-- The `n` bytes of a number, the least significant first. -/
def toLe (n v : Nat) : List Nat := (List.range n).map (fun i => v / 256 ^ i % 256)

/-! ## CRCs -/

/-- `n` steps of a reflected CRC with polynomial `poly` (reflected). -/
def crcBits (poly : Nat) : Nat → Nat → Nat
  | 0, c => c
  | n + 1, c => crcBits poly n (if c % 2 = 1 then (c / 2) ^^^ poly else c / 2)

/-- CRC-32 of IEEE 802.3 (R189, R488). -/
def crc32 (bs : List Nat) : Nat :=
  bs.foldl (fun c b => crcBits 0xEDB88320 8 (c ^^^ (b % 256))) 0xFFFFFFFF ^^^ 0xFFFFFFFF

/-- The ones' complement sum of 16-bit words, folded. -/
def foldSum : Nat → Nat → Nat
  | 0, x => x
  | n + 1, x => if x < 2 ^ 16 then x else foldSum n (x % 2 ^ 16 + x / 2 ^ 16)

/-- The sum of a byte list as 16-bit big-endian words, an odd byte padded with 0. -/
def wordSum : List Nat → Nat
  | [] => 0
  | [a] => a % 256 * 256
  | a :: b :: r => a % 256 * 256 + b % 256 + wordSum r

/-- The Internet checksum of a byte list. -/
def inetSum (bs : List Nat) : Nat := 0xFFFF - foldSum 8 (wordSum bs)

/-! ## Ethernet -/

/-- The header of an Ethernet frame: addresses, the 802.1Q tag if one is there, the EtherType and what follows. -/
structure Ether where
  dst : Nat
  src : Nat
  tag : Option Nat
  etype : Nat
  body : List Nat
deriving DecidableEq, Repr

/-- An Ethernet frame of at most one tag. -/
def etherOf (f : List Nat) : Ether :=
  if beAt f 12 2 = 0x8100 then
    { dst := beAt f 0 6, src := beAt f 6 6, tag := some (beAt f 14 2), etype := beAt f 16 2, body := f.drop 18 }
  else { dst := beAt f 0 6, src := beAt f 6 6, tag := none, etype := beAt f 12 2, body := f.drop 14 }

/-! ## IP and UDP -/

/-- An IP packet: version 6 or 4, addresses, whether it is a fragment (of IPv4) or has an extension header (IPv6), the
upper protocol and its bytes. -/
structure Ip where
  v6 : Bool
  src : Nat
  dst : Nat
  fragment : Bool
  ext : Bool
  proto : Nat
  body : List Nat
deriving DecidableEq, Repr

/-- IPv6 extension headers skipped: the upper protocol, its bytes, and whether one was there. -/
def skipExt : Nat → Nat → List Nat → Bool → Nat × List Nat × Bool
  | 0, p, bs, e => (p, bs, e)
  | n + 1, p, bs, e =>
    if p = 0 ∨ p = 43 ∨ p = 60 then skipExt n (beAt bs 0 1) (bs.drop ((beAt bs 1 1 + 1) * 8)) true
    else if p = 44 then skipExt n (beAt bs 0 1) (bs.drop 8) true
    else (p, bs, e)

/-- The IP packet of an Ethernet frame. -/
def ipOf (e : Ether) : Option Ip :=
  let b := e.body
  if e.etype = 0x0800 ∧ beAt b 0 1 / 16 = 4 ∧ 20 ≤ b.length then
    let h := beAt b 0 1 % 16 * 4
    some { v6 := false, src := beAt b 12 4, dst := beAt b 16 4, fragment := beAt b 6 2 % 2 ^ 14 != 0, ext := false,
           proto := beAt b 9 1, body := (b.take (beAt b 2 2)).drop h }
  else if e.etype = 0x86DD ∧ beAt b 0 1 / 16 = 6 ∧ 40 ≤ b.length then
    let (p, r, x) := skipExt 8 (beAt b 6 1) ((b.drop 40).take (beAt b 4 2)) false
    some { v6 := true, src := beAt b 8 16, dst := beAt b 24 16, fragment := false, ext := x, proto := p, body := r }
  else none

/-- A UDP datagram: its packet, ports, payload, and whether its checksum is non-zero and wrong. -/
structure Udp where
  ip : Ip
  sport : Nat
  dport : Nat
  data : List Nat
  sumBad : Bool
deriving DecidableEq, Repr

/-- The pseudo-header of a UDP datagram of `n` bytes. -/
def pseudo (v6 : Bool) (src dst n : Nat) : List Nat :=
  if v6 then toBe 16 src ++ toBe 16 dst ++ toBe 4 n ++ [0, 0, 0, 17] else toBe 4 src ++ toBe 4 dst ++ [0, 17] ++ toBe 2 n

/-- The UDP datagram of a frame. -/
def udpOf (e : Ether) : Option Udp :=
  match ipOf e with
  | some i =>
    if i.proto = 17 ∧ 8 ≤ i.body.length then
      let n := beAt i.body 4 2
      let d := i.body.take n
      some { ip := i, sport := beAt d 0 2, dport := beAt d 2 2, data := d.drop 8,
             sumBad := beAt d 6 2 != 0 && foldSum 8 (wordSum (pseudo i.v6 i.src i.dst n) + wordSum d) != 0xFFFF }
    else none
  | none => none

/-! ## RTP and AAF (R171, R175, R176, R178) -/

/-- An RTP packet. -/
structure Rtp where
  version : Nat
  pt : Nat
  seq : Nat
  ts : Nat
  ssrc : Nat
  payload : List Nat
deriving DecidableEq, Repr

/-- The RTP packet in a UDP payload: CSRC list and extension skipped, padding honoured (R171). -/
def rtpOf (d : List Nat) : Rtp :=
  let b0 := beAt d 0 1
  let r := d.drop (12 + 4 * (b0 % 16))
  let r := if bit b0 4 then r.drop (4 + 4 * beAt r 2 2) else r
  let r := if bit b0 5 then r.take (r.length - r.getLastD 0) else r
  { version := b0 / 64, pt := beAt d 1 1 % 128, seq := beAt d 2 2, ts := beAt d 4 4, ssrc := beAt d 8 4, payload := r }

/-- An AVTP AAF packet. -/
structure Aaf where
  tv : Bool
  seq : Nat
  stream : Nat
  ts : Nat
  format : Nat
  nsr : Nat
  channels : Nat
  depth : Nat
  payload : List Nat
deriving DecidableEq, Repr

/-- The AAF packet of an Ethernet frame (R171). -/
def aafOf (e : Ether) : Option Aaf :=
  let b := e.body
  if e.etype = 0x22F0 ∧ beAt b 0 1 = 0x02 ∧ 24 ≤ b.length then
    some { tv := bit (beAt b 1 1) 0, seq := beAt b 2 1, stream := beAt b 4 8, ts := beAt b 12 4, format := beAt b 16 1,
           nsr := beAt b 17 1 / 16, channels := beAt b 17 2 % 2 ^ 10, depth := beAt b 19 1,
           payload := (b.drop 24).take (beAt b 20 2) }
  else none

/-- The nominal sample rate code of AAF for a family and a multiplier; 0 names no rate. -/
def nsrOf (family m : Nat) : Nat :=
  match family, m with
  | 1, 1 => 4
  | 1, 2 => 6
  | 1, 4 => 8
  | 0, 1 => 5
  | 0, 2 => 7
  | 0, 4 => 9
  | _, _ => 0

/-- Bytes per sample of a payload format (R175). -/
def fmtBytes (fmt : Nat) : Nat :=
  match fmt with
  | 0 => 3
  | 1 => 2
  | 2 => 4
  | 3 => 3
  | 4 => 4
  | _ => 2

/-- FMT names an AAF format (R175). -/
def fmtAaf (fmt : Nat) : Bool := decide (3 ≤ fmt)

/-- The container of a sample of format `fmt` whose payload bytes spell `v` (R175; the label byte of AM824 comes first on the
wire, PRESUMED, log entry 20). -/
def container (fmt v : Nat) : Nat :=
  match fmt with
  | 0 => v * 2 ^ 8
  | 1 => v * 2 ^ 16
  | 2 => v % 2 ^ 24 * 2 ^ 8 + v / 2 ^ 24
  | 3 => v * 2 ^ 8
  | 4 => v
  | _ => v * 2 ^ 16

end Sys2Proof.Machine
end

