-- ==== Sys2Proof/Machine/RxFlow.lean ====
section
/-!
DEFINITION. Receive flows (R165 to R198): classification, the judgement of a copy's header, placement, confirmation and
rewind, the merge of two paths, DEEP rings, activity and counters, and what an applied epoch does to a flow.
-/

namespace Sys2Proof.Machine

/-! ## Records -/

/-- Receive flow `i` behind its record. -/
def State.rxRec (s : State) (i : Nat) : RxRec := Store.get (fun _ => RxRec.reset) s.rx i

/-- The state with a receive flow's record behind its words written. -/
def State.setRx (s : State) (i : Nat) (r : RxRec) : State := { s with rx := Store.set (fun _ => RxRec.reset) s.rx i r }

/-- R of a bit of RXHIST: a receive event is held (R198). -/
def State.rxHist (s : State) (f : Fld) : State := s.sqf f

/-! ## Classification (R171 to R174) -/

/-- The key of a media frame: RTP by destination address and port with its SSRC, AAF by address and stream. -/
inductive MediaKey where
  | rtp (v6 : Bool) (addr port ssrc : Nat)
  | aaf (mac stream : Nat)
deriving DecidableEq, Repr

/-- The key of a frame that a receive flow may match (R171, R172; DEDUCED, log entry 21). -/
def mediaKey (e : Ether) : Option MediaKey :=
  match aafOf e with
  | some a => some (.aaf e.dst a.stream)
  | none => (udpOf e).map (fun u => .rtp u.ip.v6 u.ip.dst u.dport (rtpOf u.data).ssrc)

/-- The frame has the framing of R171: an unmatched one counts in RXNOMATCH (R174). -/
def mediaFrame (e : Ether) : Bool :=
  match aafOf e with
  | some _ => true
  | none =>
    match udpOf e with
    | some u => !u.ip.fragment && !u.ip.ext && decide (12 ≤ u.data.length) && (rtpOf u.data).version == 2
    | none => false

/-- The 128-bit address of an entry. -/
def Cfg.flowAddr (c : Cfg) (i : Nat) : Nat :=
  if Cfg.flag c (FT.IPV6 i) then
    ((Cfg.rd c (FT.ADDR0 i) * 2 ^ 32 + Cfg.rd c (FT.ADDR1 i)) * 2 ^ 32 + Cfg.rd c (FT.ADDR2 i)) * 2 ^ 32 + Cfg.rd c (FT.ADDR3 i)
  else Cfg.rd c (FT.ADDR0 i)

/-- Receive entry `i` has the key, apart from its SSRC. -/
def Cfg.keyMatches (c : Cfg) (i : Nat) : MediaKey → Bool
  | .rtp v6 addr port _ =>
    !fmtAaf (Cfg.rd c (FT.FMT i)) && Cfg.flag c (FT.IPV6 i) == v6 && Cfg.flowAddr c i == addr
      && Cfg.rd c (FT.UDPPORT i) == port
  | .aaf mac stream =>
    fmtAaf (Cfg.rd c (FT.FMT i)) && Cfg.rd c (FT.ADDR0 i) * 2 ^ 32 + Cfg.rd c (FT.ADDR1 i) == stream
      && Cfg.rd c (FT.ADDR2 i) * 2 ^ 16 + Cfg.rd c (FT.ADDR3 i) / 2 ^ 16 == mac

/-- The SSRC of a key, where it has one. -/
def MediaKey.ssrc : MediaKey → Option Nat
  | .rtp _ _ _ x => some x
  | .aaf _ _ => none

/-- The enabled receive entry that a key matches: an entry with its SSRC takes precedence (R172). -/
def Cfg.classify (c : Cfg) (k : MediaKey) : Option Nat :=
  let cands := (Cfg.rxFlows c).filter (fun i => Cfg.keyMatches c i k)
  match cands.find? (fun i => Cfg.flag c (FT.SSRCKEY i) && k.ssrc == some (Cfg.rd c (FT.SSRC i))) with
  | some i => some i
  | none => cands.find? (fun i => !Cfg.flag c (FT.SSRCKEY i))

/-- PATH of entry `i` includes path `p`: 0 A, 1 B. -/
def Cfg.onPath (c : Cfg) (i p : Nat) : Bool := bit (Cfg.rd c (FT.PATH i)) p

/-! ## The rings -/

/-- The key of the valid bit of a sample frame of a DEEP ring. -/
def deepKey (b slot i : Nat) : Nat := (b * 2 ^ 20 + slot) * 1024 + i

/-- The DRAM byte address of container `x` of the frame of tick `p` of a DEEP ring (R190). -/
def State.deepAddr (s : State) (b p x : Nat) : Nat :=
  s.rd (BT.DBASE b) * 4096 + ((p % s.rd (BT.DDEPTH b)) * s.bufS b * s.bufC b + x) * 4

/-- The valid bit of sample frame `i` of tick `p` in a DEEP ring. -/
def State.deepIs (s : State) (b p i : Nat) : Bool := NatSet.has s.deepValid (deepKey b (p % s.rd (BT.DDEPTH b)) i)

/-- The state with a DEEP valid bit set. -/
def State.setDeep (s : State) (b p i : Nat) : State :=
  { s with deepValid := NatSet.add s.deepValid (deepKey b (p % s.rd (BT.DDEPTH b)) i) }

/-- The state with every valid bit of the slot of tick `p` of a DEEP ring clear. -/
def State.clearDeep (s : State) (b p : Nat) : State :=
  let q := b * 2 ^ 20 + p % s.rd (BT.DDEPTH b)
  { s with deepValid := NatSet.drop s.deepValid (fun k => k / 1024 == q) }

/-- A sample frame is already valid, at `k` ticks after the current one: in SXM, or in the DEEP ring (R183, R187). Frames
before the current tick are no longer valid (R27). -/
def State.rxValid (s : State) (b : Nat) (deep : Bool) (p i : Nat) (k : Int) : Bool :=
  if k < 0 then false
  else if deep then
    (decide (k < Int.ofNat (s.rd (BT.DDEPTH b))) && s.deepIs b p i) || (decide (k ≤ 1) && s.isValid b p i)
  else decide (k < Int.ofNat (s.bufD b)) && s.isValid b p i

/-! ## A copy's header (R175 to R180, R187) -/

/-- A copy as its header gives it: R, or what AAF gives in its place, the sequence number, the SSRC and the payload. -/
structure Header where
  time : Option Nat
  seq : Nat
  ssrc : Option Nat
  payload : List Nat
  sumBad : Bool
deriving DecidableEq, Repr

/-- The payload length that entry `i` requires (R176). -/
def Cfg.payloadLen (c : Cfg) (i : Nat) : Nat :=
  Cfg.rd c (FT.CHANNELS i) * multOf (Cfg.rd c (FT.MULT i)) * Cfg.rd c (FT.PTIME i) * fmtBytes (Cfg.rd c (FT.FMT i))

/-- The AAF fields of a copy agree with entry `i` (R176). -/
def Cfg.aafFields (c : Cfg) (i : Nat) (a : Aaf) : Bool :=
  a.nsr == nsrOf (Cfg.rd c GLB.MEDIA.FAMILY) (multOf (Cfg.rd c (FT.MULT i))) && a.channels == Cfg.rd c (FT.CHANNELS i) &&
    (match Cfg.rd c (FT.FMT i) with
     | 3 => a.format == 3 && a.depth == 24
     | 4 => a.format == 2 && decide (24 ≤ a.depth) && decide (a.depth ≤ 32)
     | _ => a.format == 4 && a.depth == 16)

/-- The detail code of a copy that R176 discards, the lowest that holds; 0 where none does (R197; DEDUCED, log entry 21). -/
def Cfg.badFormat (c : Cfg) (i : Nat) (e : Ether) : Nat :=
  match aafOf e with
  | some a =>
    if a.payload.length ≠ Cfg.payloadLen c i then 3 else if Cfg.aafFields c i a then 0 else 6
  | none =>
    match udpOf e with
    | some u =>
      let r := rtpOf u.data
      if r.version ≠ 2 then 1
      else if Cfg.flag c (FT.PTCHK i) ∧ r.pt ≠ Cfg.rd c (FT.PT i) then 2
      else if r.payload.length ≠ Cfg.payloadLen c i then 3
      else if u.ip.fragment then 4
      else if u.ip.ext then 5
      else 0
    | none => 6

/-- Media time at multiplier `m` of a time in ns since the epoch (R386). -/
def mediaTime (m fs : Nat) (ns : Int) : Nat := wrap32 (roundDiv (ns * Int.ofNat (m * fs)) (10 ^ 9))

/-- The time in ns nearest to now whose low 32 bits are `t`. -/
def State.expandNs (s : State) (t : Nat) : Int := Int.ofNat s.timeNs + signed32 (t + 2 ^ 32 - s.ns)

/-- R of an AAF copy on path `p` (R178): none where it is discarded for want of a time. -/
def State.aafTime (s : State) (i p : Nat) (a : Aaf) : Option Nat :=
  let m := multOf (s.rd (FT.MULT i))
  if a.tv then some (mediaTime m s.fs (s.expandNs a.ts))
  else
    match (if p = 0 then (s.rxRec i).placedA else (s.rxRec i).placedB) with
    | some (r, q) => if (q + 1) % 256 = a.seq then some ((r + m * s.rd (FT.PTIME i)) % 2 ^ 32) else none
    | none => none

/-- The header of a copy of flow `i` on path `p`. -/
def State.headerOf (s : State) (i p : Nat) (e : Ether) : Header :=
  match aafOf e with
  | some a => { time := s.aafTime i p a, seq := a.seq, ssrc := none, payload := a.payload, sumBad := false }
  | none =>
    match udpOf e with
    | some u =>
      let r := rtpOf u.data
      { time := some r.ts, seq := r.seq, ssrc := some r.ssrc, payload := r.payload, sumBad := u.sumBad }
    | none => { time := none, seq := 0, ssrc := none, payload := [], sumBad := false }

/-- A sequence number of a copy of path `p` that does not follow the one before counts in SEQGAP (R189). -/
def State.countSeq (s : State) (i p seq : Nat) (aaf : Bool) : State :=
  let r := s.rxRec i
  let last := if p = 0 then r.seqA else r.seqB
  let gap := match last with
    | some q => (q + 1) % (if aaf then 2 ^ 8 else 2 ^ 16) != seq
    | none => false
  let s := s.setRx i (if p = 0 then { r with seqA := some seq } else { r with seqB := some seq })
  if gap then s.inc (if p = 0 then RS.SEQGAP_A i else RS.SEQGAP_B i) else s

/-- d of R179: the place of sample 0 relative to tick t, for a copy of flow `i` with time `r`. -/
def State.placeOf (s : State) (i r : Nat) : Int :=
  let m := multOf (s.rd (FT.MULT i))
  signed32 (wrap32 (Int.ofNat (r + m * s.rd (FT.LINKOFS i))
    - Int.ofNat (m * (s.tick * s.tickLen + s.rd TIME.MTORIGIN.val))))

/-- A sample frame of a copy: its number j, its tick as an offset k from tick t, and its sample s (R179). -/
structure Spot where
  j : Nat
  k : Int
  p : Nat
  s : Nat
deriving DecidableEq, Repr

/-- The sample frames of a copy, in order (R179): `spf` is S, the flow samples per tick. -/
def State.spots (st : State) (d : Int) (n spf : Nat) : List Spot :=
  (List.range n).map (fun j =>
    let q := d + Int.ofNat j
    { j := j, k := q / Int.ofNat spf, p := wrap32 (Int.ofNat st.tick + q / Int.ofNat spf), s := (q % Int.ofNat spf).toNat })

/-- E of flow `i`: EARLY, or the widest leash of the ring where it is 0 (R180, R572). -/
def State.leash (s : State) (i : Nat) : Nat :=
  let e := s.rd (FT.EARLY i)
  let b := s.rd (FT.BUFID i)
  if e ≠ 0 then e else if s.flag (FT.DEEP i) then s.rd (BT.DDEPTH b) - 1 else s.bufD b - 1

/-- A duplicate with COMPARE = 1: its payload's CRC against the kept one (R189). -/
def State.compareDup (s : State) (i r : Nat) (payload : List Nat) : State :=
  if s.flag (FT.COMPARE i) then
    match (s.rxRec i).crcs.find? (fun p => p.1 == r) with
    | some (_, c) =>
      if c = crc32 payload then s
      else ((s.inc (RS.CMP_MISMATCH i)).sqf FLOW.RXHIST.CMP).report 0x0D05 i r
    | none => s.inc (RS.CMP_SKIP i)
  else s

/-- The containers of one sample frame of a copy, written into the ring (R175, R183). -/
def State.writeFrame (s : State) (i b : Nat) (deep : Bool) (payload : List Nat) (x : Spot) : Nat → State
  | 0 => s
  | c + 1 =>
    let s := State.writeFrame s i b deep payload x c
    let n := fmtBytes (s.rd (FT.FMT i))
    let v := container (s.rd (FT.FMT i)) (beAt payload ((x.j * s.bufC b + c) * n) n)
    if deep then { s with dram := Memory.setWord s.dram (s.deepAddr b x.p (x.s * s.bufC b + c)) v }
    else s.setSxm (s.sxmAddr b x.p (x.s * s.bufC b + c)) v

/-- A first copy is placed: sample frames that are late, that its herd has not started, or that are already valid are not
written (R180, R183, R259). -/
def State.placeSpots (s : State) (i b : Nat) (deep : Bool) (h : Header) (c : Copy) (ovl : Bool) :
    List Spot → State × Copy × Bool
  | [] => (s, c, ovl)
  | x :: xs =>
    if x.k ≤ (if deep then 1 else 0) then State.placeSpots s i b deep h { c with late := c.late + 1 } ovl xs
    else if !s.memberOpen 0 i x.p then State.placeSpots s i b deep h c ovl xs
    else if s.rxValid b deep x.p x.s x.k then State.placeSpots s i b deep h c true xs
    else
      let s := s.writeFrame i b deep h.payload x (s.bufC b)
      let s := if deep then s else s.setPlaced b x.p x.s
      State.placeSpots s i b deep h
        { c with frames := c.frames ++ [(x.p, x.s)], first := some (c.first.getD x.p) } ovl xs

/-- The copy of the other path of flow `i`. -/
def State.otherCopy (s : State) (i p : Nat) : Option Copy :=
  match Store.find s.copies (1 - p) with
  | some c => if c.flow = i then some c else none
  | none => none

/-- The bytes of a frame before its media payload. -/
def headBytes (frame : List Nat) : Nat :=
  let e := etherOf frame
  frame.length -
    (match aafOf e with
     | some a => a.payload.length
     | none =>
       match udpOf e with
       | some u => (rtpOf u.data).payload.length
       | none => 0)

/-- The words of the packet being pushed into K0 or K1, with 0 for those still to come (R230). -/
def arrivingWords (got : List Nat) : List Nat := got ++ List.replicate (packetWords (headerLen (got.headD 0)) - got.length) 0

/-- The copy at the head of kennel `p`: a committed packet, or the packet being pushed once its headers are in (R230). -/
def State.headCopy (s : State) (p : Nat) : Option KPacket :=
  let k := s.kennel p
  match k.pkts with
  | x :: _ => some x
  | [] =>
    if k.cur.isEmpty then none
    else
      let ws := arrivingWords k.cur
      if headBytes (frameOf ws) ≤ 8 * (k.cur.length - 1) then some { words := ws, got := [], bad := false, tag := none } else none

/-- The head copy of path `p` leaves its kennel; of one still being pushed the rest is ignored. -/
def State.takeHead (s : State) (p : Nat) : State :=
  let s := { s with rxHeld := NatSet.drop s.rxHeld (fun x => x == p) }
  let k := s.kennel p
  if k.pkts.isEmpty && k.pushing then s.setKennel p { k with cur := [], ignoring := true } else (s.popPacket p).2

/-- The copy of path `p` ends: words of it still to come are ignored, and a marker that was for it is spent (R185, R230, R238). -/
def State.dropCopy (s : State) (p : Nat) : State :=
  let s := if s.readingInto p then s.takeHead p else s
  let s := { s with copies := s.copies.erase p }
  if (s.kennel p).marker then s.setKennel p { s.kennel p with marker := false } else s

/-- The flow of the head copy of path `p` in a configuration. -/
def State.headFlow (s : State) (c : Cfg) (p : Nat) : Option Nat :=
  (s.headCopy p).bind (fun k => (mediaKey (etherOf (frameOf k.words))).bind (Cfg.classify c))

/-- The depacketizer judges the header of copy `k` of flow `i` on path `p` (R176 to R187). `dup` holds for a held copy whose
first copy has been confirmed. A duplicate to be compared is left until it has been pushed whole (R189). -/
def State.judge (s : State) (i p : Nat) (k : KPacket) (dup : Bool) : State :=
  let e := etherOf (frameOf k.words)
  let held := NatSet.has s.rxHeld p
  let arriving := (s.kennel p).pkts.isEmpty
  let det := Cfg.badFormat s.live i e
  if det ≠ 0 then (((s.takeHead p).inc (RS.BADFMT i)).sqf FLOW.RXHIST.BADFMT).report 0x0D04 i det
  else
    let h := s.headerOf i p e
    let s := if held then s else s.countSeq i p h.seq (fmtAaf (s.rd (FT.FMT i)))
    match h.time with
    | none => (((s.takeHead p).inc (RS.NOTIME i)).sqf FLOW.RXHIST.BADFMT).report 0x0D06 i h.seq
    | some r =>
      let deep := s.flag (FT.DEEP i)
      let b := s.rd (FT.BUFID i)
      let m := multOf (s.rd (FT.MULT i))
      let xs := s.spots (s.placeOf i r) (m * s.rd (FT.PTIME i)) (m * s.tickLen)
      let x0 := xs.headD { j := 0, k := 0, p := 0, s := 0 }
      if dup || s.rxValid b deep x0.p x0.s x0.k then
        if arriving && s.flag (FT.COMPARE i) then s
        else
          let s := (s.takeHead p).inc (RS.DUP i)
          if k.bad || (h.sumBad && s.flag FLOW.RXCTL.CSUM) then s else s.compareDup i r h.payload
      else if (match s.otherCopy i p with | some c => c.frames.contains (x0.p, x0.s) | none => false) then
        if held then s else { (s.inc (RS.STALLS i)) with rxHeld := NatSet.add s.rxHeld p }
      else if xs.any (fun x => decide (Int.ofNat (s.leash i) < x.k)) then (s.takeHead p).inc (RS.EARLY i)
      else
        let got := if arriving then (s.kennel p).cur else []
        let s := if arriving then
            ({ s with rxHeld := NatSet.drop s.rxHeld (fun x => x == p) }).setKennel p { s.kennel p with cur := [] }
          else s.takeHead p
        let c : Copy :=
          { flow := i, r := r, seq := h.seq, ssrc := h.ssrc, frames := [], late := 0, first := none,
            crc := if s.flag (FT.COMPARE i) then some (crc32 h.payload) else none, fcsBad := k.bad,
            sumBad := h.sumBad && s.flag FLOW.RXCTL.CSUM, tracked := s.rd (FT.TIMEOUT i) != 0,
            start := (x0.p, x0.s), got := got, arriving := arriving }
        let (s, c, ovl) := s.placeSpots i b deep h c false xs
        let s := if ovl then s.inc (RS.OVERLAP i) else s
        { s with copies := Store.insert s.copies p c }

/-- The depacketizer takes the head copy of path `p`, if no copy of the path is being placed. A copy that no enabled entry
matches any more, or whose flow's herd has not started, is discarded, as is every copy during a recovery or a restart of FLOW
(R170, R259, R510, R511; DEDUCED, log entry 21). -/
def State.takeCopy (s : State) (p : Nat) (dup : Bool) : State :=
  if s.recovering || s.unitDown 0x0D 0 then s.takeHead p
  else match Store.find s.copies p, s.headCopy p with
  | none, some k =>
    match (mediaKey (etherOf (frameOf k.words))).bind (Cfg.classify s.live) with
    | some i =>
      if Cfg.onPath s.live i p &&
          (match (List.range 16).find? (fun h => (Cfg.herdMembers s.live h).contains (0, i)) with
           | some h => (s.memberFrom h).isSome
           | none => true) then s.judge i p k dup
      else s.takeHead p
    | none => s.takeHead p
  | _, _ => s

/-- Containers of a copy still arriving, written again with the payload known so far (R183, R230). -/
def State.rewriteFrames (s : State) (c : Copy) (payload : List Nat) : List (Nat × Nat) → State
  | [] => s
  | (p, i) :: r =>
    let b := s.rd (FT.BUFID c.flow)
    let j := (p + 2 ^ 32 - c.start.1) % 2 ^ 32 * s.bufS b + i - c.start.2
    State.rewriteFrames (s.writeFrame c.flow b (s.flag (FT.DEEP c.flow)) payload { j := j, k := 0, p := p, s := i } (s.bufC b)) c payload r

/-- The depacketizer pops word `w` of the copy of path `p` that is still arriving; with its last word the checksum and the CRC are known (R183,
R184, R189, R230). -/
def State.feedCopy (s : State) (p : Nat) (c : Copy) (w : Nat) (last : Bool) : State :=
  let got := c.got ++ [w]
  let h := s.headerOf c.flow p (etherOf (frameOf (arrivingWords got)))
  let s := s.rewriteFrames c h.payload c.frames
  let c := if last then
      { c with got := [], arriving := false, sumBad := h.sumBad && s.flag FLOW.RXCTL.CSUM, crc := c.crc.map (fun _ => crc32 h.payload) }
    else { c with got := got }
  { s with copies := Store.insert s.copies p c }

/-- The next word of the packet that the depacketizer reads as it is pushed into kennel `p` (R230, R233). -/
def State.drawCopy (s : State) (p : Nat) (c : Copy) : State :=
  let k := s.kennel p
  match k.pkts with
  | q :: qs =>
    (match q.words with
     | [] => s
     | [w] => (s.setKennel p { k with pkts := qs }).feedCopy p c w true
     | w :: ws => (s.setKennel p { k with pkts := { q with words := ws } :: qs }).feedCopy p c w false)
  | [] =>
    match k.cur with
    | [] => s
    | w :: ws => (s.setKennel p { k with cur := ws }).feedCopy p c w false

/-- The port ends the packet being pushed into kennel `p` with a bad FCS: the words vanish, and a copy that has been taken of it fails (R184, R230,
R231). -/
def State.endBad (s : State) (p : Nat) : State :=
  let s := match Store.find s.copies p with
    | some c => if c.arriving then
        { s with copies := Store.insert s.copies p { c with got := [], arriving := false, fcsBad := true } } else s
    | none => s
  s.abandonPush p

/-- COPY_HEADER_TAKEN: the depacketizer takes a copy's header on path `p` (R180). -/
def execCopyHeaderTaken (p : Nat) (s : State) : Res :=
  .next (if p < 2 ∧ s.ticking then s.takeCopy p false else s)

/-! ## Confirmation and rewind (R181 to R185, R188 to R192) -/

/-- A placed sample frame of a copy being confirmed now meets its deadline (R181). -/
def State.inTime (s : State) (deep : Bool) (p : Nat) : Bool :=
  let d := (p + 2 ^ 32 - s.tick) % 2 ^ 32
  decide ((if deep then 2 else 1) ≤ d) && decide (d < 2 ^ 31)

/-- The valid bits of the sample frames of a confirmed copy that meet their deadline. -/
def State.confirmFrames (s : State) (b : Nat) (deep : Bool) : List (Nat × Nat) → State
  | [] => s
  | (p, i) :: r =>
    let s := if s.inTime deep p then (if deep then s.setDeep b p i else s.setValid b p i) else s
    State.confirmFrames s b deep r

/-- The time in ns from now to B(p0), signed (R194; DEDUCED, log entry 22). -/
def State.leadTo (s : State) (p0 : Nat) : Int :=
  clampInt (-(2 ^ 31)) (2 ^ 31 - 1)
    (signed32 (p0 + 2 ^ 32 - s.tick) * Int.ofNat (s.tickLen * 10 ^ 9) / Int.ofNat s.fs - Int.ofNat s.clk.cycle)

/-- The leads of a record with one more confirmation. -/
def State.countLead (s : State) (i : Nat) (lead : Int) : State :=
  let s := if lead < s.rdS (RS.MINLEAD i) then s.wrS (RS.MINLEAD i) lead else s
  if s.rdS (RS.MAXLEAD i) < lead then s.wrS (RS.MAXLEAD i) lead else s

/-- FLOW.RXCOUNT.ACTIVE follows the records (R191). -/
def State.countActive (s : State) : State :=
  s.wr FLOW.RXCOUNT.ACTIVE ((Cfg.rxFlows s.live).filter (fun i => s.flag (RS.ACTIVE i))).length

/-- A confirmation on path `p` makes the flow and the path active, where activity is tracked: `on` says that it was when the
copy's header was judged (R170, R191, R572). -/
def State.activate (s : State) (i p p0 : Nat) (on : Bool) : State :=
  let r := s.rxRec i
  let s := s.setRx i (if p = 0 then { r with tickA := some s.tick } else { r with tickB := some s.tick })
  let s := s.wr (RS.LASTTICK i) s.tick
  if s.rd (FT.TIMEOUT i) = 0 ∨ ¬ on then s
  else
    let was := s.flag (RS.ACTIVE i)
    let s := (s.wr (RS.ACTIVE i) 1).wr (if p = 0 then RS.ACTIVE_A i else RS.ACTIVE_B i) 1
    let s := s.countActive
    if was then s else (s.sqf FLOW.RXHIST.RESUMED).report 0x0D02 i p0

/-- A confirmed copy with another SSRC (R192). -/
def State.newSsrc (s : State) (i : Nat) (x : Option Nat) : State :=
  match x with
  | some v =>
    if !s.flag (FT.SSRCKEY i) && v != s.rd (RS.LASTSSRC i) then
      ((s.wr (RS.LASTSSRC i) v).sqf FLOW.RXHIST.SSRC).report 0x0D03 i v
    else s
  | none => s

/-- The copy of path `p` is confirmed (R182, R184, R189 to R192). -/
def State.confirm (s : State) (p : Nat) (c : Copy) : State :=
  let i := c.flow
  let b := s.rd (FT.BUFID i)
  let deep := s.flag (FT.DEEP i)
  let s := { s with copies := s.copies.erase p }
  let ok := (c.frames.filter (fun f => s.inTime deep f.1)).length
  let late := c.late + (c.frames.length - ok)
  let s := s.confirmFrames b deep c.frames
  let s := if late = 0 then s
    else (s.inc (if ok = 0 then RS.LATE i else RS.PART_LATE i)).sqf FLOW.RXHIST.LATE
  let s := s.inc (RS.PLACED i)
  let s := match c.first with
    | some p0 => s.countLead i (s.leadTo p0)
    | none => s
  let s := s.activate i p (c.first.getD c.start.1) c.tracked
  let s := s.newSsrc i c.ssrc
  let r := s.rxRec i
  let r := if p = 0 then { r with placedA := some (c.r, c.seq) } else { r with placedB := some (c.r, c.seq) }
  s.setRx i (match c.crc with
    | some x => { r with crcs := ((c.r, x) :: r.crcs).take 64 }
    | none => r)

/-- Frames that a rewound copy had placed lose their placed mark, and run-aheads that read them in PLACED mode are squashed; a frame that another
copy has made valid is left alone (R80, R87, R185). -/
def State.unplace (s : State) (b : Nat) : List (Nat × Nat) → State
  | [] => s
  | (p, i) :: r =>
    let k := vkey b (p % s.bufD b) i
    let s :=
      if s.isValid b p i then s
      else
        ({ s with placed := NatSet.drop s.placed (fun x => x == k) }).eachBelow (fun s e =>
          if s.aheadReads e b && (s.engine e).tick == p % 2 ^ 32 && s.flag (GE.CTL.RA_READY e) then
            s.squash e (GE.SQREWIND.val e) else s) 16
    State.unplace s b r

/-- The copy of path `p` is rewound, counted in `f` where one is named (R185). -/
def State.rewind (s : State) (p : Nat) (c : Copy) (f : Option Fld) : State :=
  let s := s.dropCopy p
  let s := if s.flag (FT.DEEP c.flow) then s else s.unplace (s.rd (FT.BUFID c.flow)) c.frames
  match f with
  | some f => s.inc f
  | none => s

/-- The held copy of the other path is judged once the copy of path `p` has ended (R187). -/
def State.releaseHeld (s : State) (p : Nat) (dup : Bool) : State :=
  if NatSet.has s.rxHeld (1 - p) then s.takeCopy (1 - p) dup else s

/-- COPY_CONFIRM: the last word of the copy on path `p` is committed without error (R184). -/
def execCopyConfirm (p : Nat) (s : State) : Res :=
  .next (
    match Store.find s.copies p with
    | some c =>
      if decide (p < 2) && !c.arriving && !c.fcsBad && !c.sumBad && !(s.kennel p).marker then (s.confirm p c).releaseHeld p true else s
    | none => s)

/-- COPY_REWIND: the copy on path `p` fails a condition of R184; `ecc` is the address of a kennel word of it with
an uncorrectable error, which the kennel counts as R235 says (R185). -/
def execCopyRewind (p : Nat) (ecc : Option Nat) (s : State) : Res :=
  .next (
    match Store.find s.copies p with
    | some c =>
      if p < 2 then
        if (s.kennel p).marker then (s.rewind p c none).releaseHeld p false
        else
          match ecc with
          | some a => ((s.kennelUncorr p a).rewind p c (some (RS.REWIND_ECC c.flow))).releaseHeld p false
          | none =>
            if c.fcsBad || c.sumBad then (s.rewind p c (some (RS.REWIND_CHK c.flow))).releaseHeld p false else s
      else s
    | none => s)

/-! ## Activity (R191) -/

/-- More than TIMEOUT ticks have passed since the tick `t`. -/
def State.quiet (s : State) (i : Nat) (t : Option Nat) : Bool :=
  match t with
  | some x => decide (s.rd (FT.TIMEOUT i) < (s.tick + 2 ^ 32 - x) % 2 ^ 32)
  | none => true

/-- RX_TIMEOUT: no copy of flow `i` has been confirmed in the last TIMEOUT ticks; a path alone may also time out (R191). -/
def execRxTimeout (i : Nat) (s : State) : Res :=
  .next (
    if decide (i < 4096) && s.flag (FT.EN i) && !s.flag (FT.DIR i) && s.rd (FT.TIMEOUT i) != 0 then
      let r := s.rxRec i
      let s := if s.quiet i r.tickA then s.wr (RS.ACTIVE_A i) 0 else s
      let s := if s.quiet i r.tickB then s.wr (RS.ACTIVE_B i) 0 else s
      if s.flag (RS.ACTIVE i) && s.quiet i (some (s.rd (RS.LASTTICK i))) then
        (((s.wr (RS.ACTIVE i) 0).countActive).sqf FLOW.RXHIST.TIMEOUT).report 0x0D01 i (s.rd (RS.LASTTICK i))
      else s
    else s)

/-! ## The deep-receive mover (R190, R437) -/

/-- One sample frame moved from a DEEP ring into SXM, with its valid bit; a sample frame with an uncorrectable word stays
invalid. -/
def State.moveDeep (s : State) (b p : Nat) (bad : List Nat) : Nat → State
  | 0 => s
  | i + 1 =>
    let s := State.moveDeep s b p bad i
    if s.deepIs b p i && !bad.contains i then
      ((List.range (s.bufC b)).foldl (fun s c =>
        s.setSxm (s.sxmAddr b p (i * s.bufC b + c)) (Memory.word s.dram (s.deepAddr b p (i * s.bufC b + c)))) s).setValid b p i
    else s

/-- DEEP_FRAME_MOVE: in tick p − 1 the mover copies the frame of tick p of flow `i`; `bad` lists the sample frames that held
an uncorrectable word, and `corr` words were corrected (R190, R437). -/
def execDeepFrameMove (i : Nat) (bad : List Nat) (corr : Nat) (s : State) : Res :=
  .next (
    if s.ticking && decide (i < 4096) && s.flag (FT.EN i) && !s.flag (FT.DIR i) && s.flag (FT.DEEP i) then
      let b := s.rd (FT.BUFID i)
      let p := (s.tick + 1) % 2 ^ 32
      let ecc := s.flag DRAM.CFG.ECC
      let bad := if ecc then bad else []
      let s := bad.foldl (fun (s : State) j => s.dramUncorr 2 (s.deepAddr b p (j * s.bufC b) / 4096)) s
      let s := s.dramCorr (if ecc then corr else 0)
      let s : State := { s with mem := { s.mem with due := NatSet.drop s.mem.due (fun k => k == clientKey 2 i) } }
      (s.moveDeep b p bad (s.bufS b)).clearDeep b p
    else s)

/-! ## Counters (R196) -/

/-- Key `k` is a counter word of a Flow Status record that RXCLR names: words 3 on (R196). -/
def rxCounterKey (all : Bool) (index k : Nat) : Bool :=
  decide (RS.word 0 0 ≤ k) && decide (k < RS.word 4096 0) && decide (3 ≤ (k - RS.word 0 0) % 0x80 / 4)
    && (all || (k - RS.word 0 0) / 0x80 == index)

/-- A write that sets FLOW.RXCLR.GO: the counters of one record or of every one take their reset values (R196). Records of
transmit flows are FLOW.TXCLR's (R221). -/
def State.rxClear (s : State) : State :=
  let all := s.flag FLOW.RXCLR.ALL
  let ix := s.rd FLOW.RXCLR.INDEX
  { s with live := s.live.filter (fun p =>
      !(rxCounterKey all ix p.1 && !(Store.get (fun _ => TxRec.reset) s.tx ((p.1 - RS.word 0 0) / 0x80)).owns)) }

/-! ## Epochs (R170, R389) -/

/-- A change of entry `i` is hard: any field but LINKOFS, EARLY, TIMEOUT, COMPARE, PATH, PTCHK and PT, or its buffer's entry,
or GLB.MEDIA (R170). -/
def rxHard (old new : Cfg) (i : Nat) : Bool :=
  let soft0 := 2 ^ 21 + 3 * 2 ^ 22
  let soft1 := 255 * 2 ^ 24
  let diff := fun (k mask : Nat) => !sameBits (Store.get resetWord old k) (Store.get resetWord new k) (2 ^ 32 - 1 - mask)
  let b := Cfg.rd new (FT.BUFID i)
  diff (FT.word i 0) soft0 || diff (FT.word i 1) soft1 || (List.range 6).any (fun w => diff (FT.word i (2 + w)) 0)
    || (List.range 4).any (fun w => diff (BT.word b w) 0) || diff GLB.MEDIA 0

/-- The valid bits of every ring of buffer `b`, in SXM and in external memory, are cleared, and run-aheads that read its
frame of tick `n` are squashed (R87, R170). -/
def State.clearRings (s : State) (b n : Nat) : State :=
  let s := (s.clearBuffer b).squashReaders b n
  { s with deepValid := NatSet.drop s.deepValid (fun k => k / 1024 / 2 ^ 20 == b) }

/-- The copies of flow `i` in flight on path `p`, the one being placed and one that is held, are rewound by a hard change; `c` is the configuration
that their headers met (R170, R187). -/
def State.rewindEpoch (s : State) (c : Cfg) (i p : Nat) : State :=
  let s := match Store.find s.copies p with
    | some x => if x.flow = i then (s.dropCopy p).inc (RS.REWIND_EPOCH i) else s
    | none => s
  if NatSet.has s.rxHeld p && s.headFlow c p == some i then (s.takeHead p).inc (RS.REWIND_EPOCH i) else s

/-- Flow `i` and its paths are no longer active, without an event: it is disabled, or its activity is no longer tracked (R572). -/
def State.inactive (s : State) (i : Nat) : State := ((s.wr (RS.ACTIVE i) 0).wr (RS.ACTIVE_A i) 0).wr (RS.ACTIVE_B i) 0

/-- An applied epoch acts on receive flow `i` at step 3 of B(n) (R170, R572). -/
def State.rxEpochOne (s : State) (old new : Cfg) (n i : Nat) : State :=
  let was := Cfg.flag old (FT.EN i) && !Cfg.flag old (FT.DIR i)
  let is := Cfg.flag new (FT.EN i) && !Cfg.flag new (FT.DIR i)
  let s :=
    if (was || is) && rxHard old new i then
      let s := (s.rewindEpoch old i 0).rewindEpoch old i 1
      let s := if was then s.clearRings (Cfg.rd old (FT.BUFID i)) n else s
      let s := if is then s.clearRings (Cfg.rd new (FT.BUFID i)) n else s
      if is then s else (s.inactive i).setRx i RxRec.reset
    else s
  if is && Cfg.rd new (FT.TIMEOUT i) == 0 then s.inactive i else s

/-- An applied epoch acts on every receive flow, old or new (R170). -/
def State.rxEpoch (s : State) (old new : Cfg) (n : Nat) : State :=
  let s := ((Cfg.rxFlows old ++ Cfg.rxFlows new).eraseDups).foldl (fun s i => s.rxEpochOne old new n i) s
  (s.countActive).wr FLOW.RXCOUNT.ENABLED (Cfg.rxFlows new).length

end Sys2Proof.Machine
end

