-- ==== Sys2Proof/Machine/TxFlow.lean ====
section
/-!
DEFINITION. Transmit flows and the Patch Map (R199 to R223): anchors, packets and their headers, dither, counters, lost
packets, profiles, and the gathers of a tick.
-/

namespace Sys2Proof.Machine

/-! ## Which copies this chip sends (R453, R454) -/

/-- This chip puts copies of path `p` (0 A, 1 B, 2 M) on the wire (R453, R454; DEDUCED, log entry 23). -/
def State.sendsPath (s : State) (p : Nat) : Bool :=
  match s.role, p with
  | 0, _ => true
  | 1, 1 => s.partner == 0 || s.partner == 4 || !s.pair.handed
  | 1, _ => true
  | _, 1 => s.pair.handed
  | _, _ => false

/-- This chip drives its local outputs (R452). -/
def State.drives (s : State) : Bool := s.role == 1 || (s.role == 0 && !s.pairHint)

/-! ## Records -/

/-- Transmit flow `i` behind its record. -/
def State.txRec (s : State) (i : Nat) : TxRec := Store.get (fun _ => TxRec.reset) s.tx i

/-- The state with a transmit flow behind its record written. -/
def State.setTx (s : State) (i : Nat) (r : TxRec) : State := { s with tx := Store.set (fun _ => TxRec.reset) s.tx i r }

/-- m of transmit flow `i`. -/
def State.txM (s : State) (i : Nat) : Nat := multOf (s.rd (TX.MULT i))

/-- The RTP timestamp of the sample at base-rate offset `j` of frame `f` of flow `i` (R204). -/
def State.txStamp (s : State) (i f j : Nat) : Nat :=
  s.txM i * (f * s.tickLen + j + s.rd TIME.MTORIGIN.val) % 2 ^ 32

/-- r of flow `i`: the frames of a packet (R201). -/
def State.txFrames (s : State) (i : Nat) : Nat :=
  if s.tickLen < s.rd (TX.PTIME i) then s.rd (TX.PTIME i) / s.tickLen else 1

/-! ## Payload (R210 to R212) -/

/-- The container of channel `c` of sample frame `i` of frame `f` of buffer `b`, as the muzzle left it, or, of a buffer that
it only observes, as its writer did (R212). -/
def State.txContainer (s : State) (b f i c : Nat) : Nat × State :=
  if (Cfg.muzzledBufs s.live).contains b then (s.sxmWord (s.sxmAddr b f (i * s.bufC b + c)), s) else s.readSample b f i c

/-- The seed of a packet's dither (R211). -/
def packetSeed (seq i : Nat) : Nat :=
  let x := (seq ^^^ 0x9E3779B9 ^^^ (i * 2 ^ 16)) % 2 ^ 32
  if x = 0 then 1 else x

/-- The payload bytes of one container, with the dither state after it: `valid` is the valid bit of its sample frame
(R210 to R212; the label byte of AM824 goes first, PRESUMED, log entry 20). -/
def payloadOf (fmt dith lfsr x : Nat) (valid : Bool) : List Nat × Nat :=
  let narrow := fun (w : Nat) =>
    if dith = 1 then
      let n := lfsrStep lfsr
      ((truncTo w (sat32 (signed32 x + dither n w))).toNat, n)
    else (x, lfsr)
  match fmt with
  | 2 => ((toBe 1 (x % 256 ||| (if valid then 0 else 1))) ++ toBe 3 (x / 256), (if dith = 1 then lfsrStep lfsr else lfsr))
  | 4 => (toBe 4 x, lfsr)
  | 0 => let (y, n) := narrow 24; (toBe 3 (y / 2 ^ 8), n)
  | 3 => let (y, n) := narrow 24; (toBe 3 (y / 2 ^ 8), n)
  | _ => let (y, n) := narrow 16; (toBe 2 (y / 2 ^ 16), n)

/-- The channels below `n` of one sample frame, appended to a payload. -/
def State.frameBytes (s : State) (i b f j : Nat) (acc : List Nat) (lfsr : Nat) : Nat → List Nat × Nat × State
  | 0 => (acc, lfsr, s)
  | c + 1 =>
    let (acc, lfsr, s) := State.frameBytes s i b f j acc lfsr c
    let (x, s) := s.txContainer b f j c
    let (p, lfsr) := payloadOf (s.rd (TX.FMT i)) (s.rd (TX.DITH i)) lfsr x (s.isValid b f j)
    (acc ++ p, lfsr, s)

/-- The payload of the sample frames listed (frame and index), in order. -/
def State.packetBytes (s : State) (i b : Nat) (acc : List Nat) (lfsr : Nat) : List (Nat × Nat) → List Nat × State
  | [] => (acc, s)
  | (f, j) :: r =>
    let (acc, lfsr, s) := s.frameBytes i b f j acc lfsr (s.bufC b)
    State.packetBytes s i b acc lfsr r

/-! ## Headers (R200, R209) -/

/-- The MAC address of port `p`. -/
def State.portMac (s : State) (p : Nat) : Nat := s.rd (NET.MACHI.val p) * 2 ^ 32 + s.rd (NET.MACLO.val p)

/-- The IP address of port `p`. -/
def State.portIp (s : State) (p : Nat) (v6 : Bool) : Nat :=
  if v6 then
    ((s.rd (NET.IP6.val p 0) * 2 ^ 32 + s.rd (NET.IP6.val p 1)) * 2 ^ 32 + s.rd (NET.IP6.val p 2)) * 2 ^ 32
      + s.rd (NET.IP6.val p 3)
  else s.rd (NET.IP4.val p)

/-- The four address words of flow `i` on path `p`; ADDRB all zero stands for ADDRA (R199). -/
def State.txAddr (s : State) (i p : Nat) : List Nat :=
  let a := [s.rd (TX.ADDRA0 i), s.rd (TX.ADDRA1 i), s.rd (TX.ADDRA2 i), s.rd (TX.ADDRA3 i)]
  let b := [s.rd (TX.ADDRB0 i), s.rd (TX.ADDRB1 i), s.rd (TX.ADDRB2 i), s.rd (TX.ADDRB3 i)]
  if p = 1 ∧ b ≠ [0, 0, 0, 0] then b else a

/-- Words as one number, the first most significant. -/
def words32 (ws : List Nat) : Nat := ws.foldl (fun a w => a * 2 ^ 32 + w) 0

/-- The destination IP address of flow `i` on path `p`. -/
def State.txIp (s : State) (i p : Nat) : Nat :=
  if s.flag (TX.IPV6 i) then words32 (s.txAddr i p) else (s.txAddr i p).headD 0

/-- The destination MAC address of flow `i` on path `p` (R200). -/
def State.txMac (s : State) (i p : Nat) : Nat :=
  if fmtAaf (s.rd (TX.FMT i)) then
    match s.txAddr i p with
    | [_, _, hi, lo] => hi * 2 ^ 16 + lo / 2 ^ 16
    | _ => 0
  else
    let nh := if p = 0 then s.rd (TX.NHA i) else s.rd (TX.NHB i)
    if nh = 0 then
      if s.flag (TX.IPV6 i) then 0x3333 * 2 ^ 32 + s.txIp i p % 2 ^ 32 else 0x01005E * 2 ^ 24 + s.txIp i p % 2 ^ 23
    else s.rd (SW.NH_HI.val (nh - 1)) * 2 ^ 16 + s.rd (SW.NH_LO.MACLO16 (nh - 1))

/-- The Ethernet header of a frame from port `p` to `mac`, with a tag where one is named. -/
def State.etherHead (s : State) (p mac : Nat) (tag : Option Nat) (etype : Nat) : List Nat :=
  toBe 6 mac ++ toBe 6 (s.portMac p) ++ (match tag with | some t => [0x81, 0x00] ++ toBe 2 t | none => []) ++ toBe 2 etype

/-- The tag of flow `i`. -/
def State.txTag (s : State) (i : Nat) : Option Nat :=
  if s.flag (TX.VLAN i) then some (s.rd (TX.PCP i) * 2 ^ 13 + s.rd (TX.VID i)) else none

/-- The UDP and IP layers of flow `i` on path `p` around a UDP payload (R209). -/
def State.txIpUdp (s : State) (i p : Nat) (data : List Nat) : List Nat :=
  let v6 := s.flag (TX.IPV6 i)
  let src := s.portIp p v6
  let dst := s.txIp i p
  let n := data.length + 8
  let head := toBe 2 (s.rd (TX.UDPSRC i)) ++ toBe 2 (s.rd (TX.UDPDST i)) ++ toBe 2 n
  let sum := if v6 || s.flag FLOW.TXCTL.CSUM4 then
      (let x := inetSum (pseudo v6 src dst n ++ head ++ [0, 0] ++ data); if x = 0 then 0xFFFF else x)
    else 0
  let udp := head ++ toBe 2 sum ++ data
  if v6 then
    toBe 4 (6 * 2 ^ 28 + s.rd (TX.DSCP i) * 4 * 2 ^ 20) ++ toBe 2 n ++ [17, s.rd (TX.TTL i)] ++ toBe 16 src ++ toBe 16 dst ++ udp
  else
    let h := fun (x : Nat) =>
      [0x45, s.rd (TX.DSCP i) * 4] ++ toBe 2 (n + 20) ++ [0, 0, 0x40, 0, s.rd (TX.TTL i), 17] ++ toBe 2 x ++ toBe 4 src ++ toBe 4 dst
    h (inetSum (h 0)) ++ udp

/-- The time in ns of a media time near now, at multiplier `m` (R386). -/
def State.timeOfMedia (s : State) (m mt : Nat) : Int :=
  let now := roundDiv (Int.ofNat s.timeNs * Int.ofNat (m * s.fs)) (10 ^ 9)
  let full := now + signed32 (wrap32 (Int.ofNat mt - now))
  roundDiv (full * 10 ^ 9) (m * s.fs)

/-- The AVTP header of a packet of flow `i`, the same on both paths: its stream_id is that of ADDRA (R209, R215; DEDUCED, log entry 71). -/
def State.avtpHead (s : State) (i seq ts : Nat) (payload : List Nat) : List Nat :=
  let fmt := s.rd (TX.FMT i)
  let m := s.txM i
  let format := match fmt with | 3 => 3 | 4 => 2 | _ => 4
  let depth := match fmt with | 3 => 24 | 4 => 32 | _ => 16
  let ch := s.rd (TX.CHANNELS i)
  let stamp := wrap32 (s.timeOfMedia m ts + Int.ofNat (s.rd (TX.MTT i)))
  [0x02, 0x81 + (if (s.txRec i).mr then 8 else 0), seq % 256, 0] ++ toBe 8 (words32 ((s.txAddr i 0).take 2)) ++ toBe 4 stamp
    ++ [format, nsrOf (s.rd GLB.MEDIA.FAMILY) m * 16 + ch / 256, ch % 256, depth] ++ toBe 2 payload.length ++ [0, 0]

/-- The frame of a packet of flow `i` on path `p`, without its FCS (R209). -/
def State.txFrame (s : State) (i p seq ts : Nat) (payload : List Nat) : List Nat :=
  let mac := s.txMac i p
  if fmtAaf (s.rd (TX.FMT i)) then s.etherHead p mac (s.txTag i) 0x22F0 ++ s.avtpHead i seq ts payload ++ payload
  else
    s.etherHead p mac (s.txTag i) (if s.flag (TX.IPV6 i) then 0x86DD else 0x0800) ++
      s.txIpUdp i p ([0x80, s.rd (TX.PT i)] ++ toBe 2 seq ++ toBe 4 ts ++ toBe 4 (s.rd (TX.SSRC i)) ++ payload)

/-! ## Packets due at a boundary (R203 to R208, R212, R213) -/

/-- A packet due at a boundary: its flow, number, timestamp, and its sample frames, as frame and index. -/
structure Due where
  flow : Nat
  seq : Nat
  ts : Nat
  frames : List (Nat × Nat)
deriving DecidableEq, Repr

/-- Every lane of buffer `b` is open. -/
def State.lanesOpen (s : State) (b : Nat) : Bool := allBelow (fun c => (s.lane b c).settled.st == .open_) (s.bufC b)

/-- The sample frames of `n` base-rate periods from offset `j` of frame `f`, at multiplier `m`: (frame, index). -/
def dueFrames (tickLen m f j n : Nat) : List (Nat × Nat) :=
  (List.range (m * n)).map (fun x =>
    let q := m * j + x
    ((f + q / (m * tickLen)) % 2 ^ 32, q % (m * tickLen)))

/-- A packet of flow `i` from offset `j` of frame `f`: the flow's next number is used (R205). -/
def State.duePacket (s : State) (i f j : Nat) : Due × State :=
  let d : Due :=
    { flow := i, seq := s.rd (TS.SEQNEXT i), ts := s.txStamp i f j,
      frames := dueFrames s.tickLen (s.txM i) f j (s.rd (TX.PTIME i)) }
  (d, s.wr (TS.SEQNEXT i) (d.seq + 1))

/-- The packets of a frame when P is shorter than a tick, in order of their first sample. -/
def State.duePackets (s : State) (i f : Nat) : Nat → List Due × State
  | 0 => ([], s)
  | n + 1 =>
    let (ds, s) := State.duePackets s i f n
    let (d, s) := s.duePacket i f (n * s.rd (TX.PTIME i))
    (ds ++ [d], s)

/-- A partly accumulated packet is discarded (R206). -/
def State.truncate (s : State) (i : Nat) : State :=
  if (s.txRec i).pos = 0 then s
  else ((s.inc (TS.TRUNC i)).sqf FLOW.TXHIST.TRUNC).report 0x0D11 i (s.rd (TS.TSNEXT i))

/-- A flow becomes anchored at frame `f` by an enable; a packet that a closed herd left partly accumulated is discarded (R202,
R205, R206). -/
def State.anchorFlow (s : State) (i f : Nat) : State :=
  let s := s.truncate i
  let s := s.setTx i { s.txRec i with anchor := some (f % 2 ^ 32), pos := 0 }
  (s.wr (TS.SEQNEXT i) (s.rd (TX.SEQINIT i))).wr (TS.TSNEXT i) (s.txStamp i f 0)

/-- A flow whose herd has not started stands unanchored: its next packet will be its first, at its herd's start where that is known, else at the next
frame at the earliest (R205, R221, R259; DESIGN CHOICE, log entry 72). -/
def State.holdFlow (s : State) (i f : Nat) : State :=
  let known := ((List.range 16).find? (fun k => (Cfg.herdMembers s.live k).contains (1, i))).bind s.memberFrom
  ((s.setTx i { s.txRec i with anchor := none }).wr (TS.SEQNEXT i) (s.rd (TX.SEQINIT i))).wr (TS.TSNEXT i)
    (s.txStamp i (known.getD (f + 1)) 0)

/-- Flow `i` at the boundary whose egress frame is `f`: the frame is counted from the anchor on, and the packets it completes are due. A flow
whose herd has not started sends nothing; at its herd's start it is anchored (R202, R203, R259). -/
def State.dueFlow (s : State) (i f : Nat) : List Due × State :=
  if !s.memberOpen 1 i f then
    ([], if (s.txRec i).pos = 0 then s.holdFlow i f else s.setTx i { s.txRec i with anchor := none })
  else
    let s := if (s.txRec i).anchor.isNone then s.anchorFlow i f else s
    let r := s.txRec i
    let n := s.txFrames i
    if s.rd (TX.PTIME i) < s.tickLen then
      let (ds, s) := (s.setTx i { r with pos := 0 }).duePackets i f (s.tickLen / s.rd (TX.PTIME i))
      (ds, s.wr (TS.TSNEXT i) (s.txStamp i (f + 1) 0))
    else if r.pos + 1 < n then ([], s.setTx i { r with pos := r.pos + 1 })
    else
      let (d, s) := (s.setTx i { r with pos := 0 }).duePacket i (f + (2 ^ 32 + 1 - n)) 0
      ([d], s.wr (TS.TSNEXT i) (s.txStamp i (f + 1) 0))

/-- The packets due, over a list of flows. -/
def State.dueAll (s : State) (f : Nat) : List Nat → List Due × State
  | [] => ([], s)
  | i :: r =>
    let (ds, s) := s.dueFlow i f
    let (es, s) := State.dueAll s f r
    (ds ++ es, s)

/-- A packet put into the order of R208: ascending timestamp, then flow; packets of one flow stay in order of their first sample where the timestamp
wraps between them (R203; DEDUCED, log entry 71). -/
def insertDue (d : Due) : List Due → List Due
  | [] => [d]
  | e :: r =>
    if (d.ts < e.ts ∨ (d.ts = e.ts ∧ d.flow < e.flow)) ∧ (e :: r).all (fun x => x.flow != d.flow) = true then d :: e :: r
    else e :: insertDue d r

/-- One copy of a packet on path `p`: built, pushed where this chip sends it and the link is up, and counted (R213, R453). -/
def State.pushCopy (s : State) (d : Due) (payload : List Nat) (now p : Nat) : State :=
  let i := d.flow
  if !bit (s.rd (TX.PATH i)) p then s
  else if !s.flag (NET.STAT.LINK p) then s.inc (TS.LINKDOWN i)
  else
    let sent := if p = 0 then TS.SENT_A i else TS.SENT_B i
    if !s.sendsPath p then s.inc sent
    else
      let k := (if p = 0 then 2 else 6) + s.rd (TX.CLASS i)
      let words := packetOf 3 (s.rd (TX.CLASS i)) 0 (s.txFrame i p d.seq d.ts payload)
      let (s, ok) := s.pushPacket k words false (some { flow := i, seq := d.seq, due := now, path := p })
      if ok then s.inc sent
      else ((s.inc (TS.KNLFULL i)).sqf FLOW.TXHIST.KNLFULL).report 0x0D13 i k

/-- A sample frame of a packet is invalid, or some lane is not OPEN in it; lanes of a buffer that is only observed are not evaluated on the frame
being sent, and count as they stand (R212, R248). -/
def State.badSample (s : State) (b now : Nat) (f j : Nat) : Bool :=
  !s.isValid b f j ||
    (if f = now ∧ (Cfg.muzzledBufs s.live).contains b = false then !s.lanesOpen b else NatSet.has s.shut (vkey b (f % s.bufD b) j))

/-- One due packet, sent at B(now). -/
def State.sendDue (s : State) (now : Nat) (d : Due) : State :=
  let i := d.flow
  let b := s.rd (TX.BUFID i)
  let s := if d.frames.any (fun x => s.badSample b now x.1 x.2) then (s.inc (TS.INVALID i)).sqf FLOW.TXHIST.INVALID else s
  let (payload, s) := s.packetBytes i b [] (packetSeed d.seq i) d.frames
  let s := (s.pushCopy d payload now 0).pushCopy d payload now 1
  s.wr (TS.LASTTICK i) now

/-- The packetizer at B(n), after step 1: every packet whose last sample lies in egress frame n (R203, R208). -/
def State.packetize (s : State) (n : Nat) : State :=
  let (ds, s) := s.dueAll n (Cfg.txFlows s.live)
  (ds.foldl (fun l d => insertDue d l) []).foldl (fun s d => s.sendDue n d) s

/-! ## Epochs (R202, R205 to R207) -/

/-- A change of entry `i` re-anchors the flow, and so does a change of TICK_LEN (R202, R568). -/
def txMoves (old new : Cfg) (i : Nat) : Bool :=
  let b := Cfg.rd new (TX.BUFID i)
  Cfg.tickLen old != Cfg.tickLen new || [TX.FMT i, TX.MULT i, TX.CHANNELS i, TX.PTIME i, TX.BUFID i].any (fun f => Cfg.rd old f != Cfg.rd new f)
    || (List.range 4).any (fun w => Cfg.word old (BT.word b w) != Cfg.word new (BT.word b w))

/-- The record of flow `i` begins anew as that of a transmit flow, whose words 11 to 31 read 0, or of a receive flow (R194, R221). -/
def State.newRecord (s : State) (i : Nat) (tx : Bool) : State :=
  let lo := TS.word i 0
  let s := { s with live := s.live.filter (fun p => decide (p.1 < lo) || decide (lo + 0x80 ≤ p.1)) }
  let s := s.setTx i { TxRec.reset with owns := tx }
  if tx then (s.setNum (TS.word i 19) 0).setNum (TS.word i 20) 0 else s

/-- An applied epoch acts on transmit flow `i` at step 3 of B(e) (R202, R205 to R207, R221). -/
def State.txEpochOne (s : State) (old new : Cfg) (e i : Nat) : State :=
  let was := Cfg.flag old (FT.EN i) && Cfg.flag old (FT.DIR i)
  let is := Cfg.flag new (FT.EN i) && Cfg.flag new (FT.DIR i)
  if !was && is then
    let s := if (s.txRec i).owns then s.setTx i { TxRec.reset with owns := true } else s.newRecord i true
    let s := s.wr (TS.ENABLED i) 1
    if s.memberOpen 1 i (e + 1) then s.anchorFlow i (e + 1) else s.holdFlow i e
  else if was && !is then ((s.truncate i).setTx i { TxRec.reset with owns := true }).wr (TS.ENABLED i) 0
  else if txMoves old new i then
    let s := s.truncate i
    let r := s.txRec i
    if r.anchor.isSome then
      (s.setTx i { r with anchor := some ((e + 1) % 2 ^ 32), pos := 0, mr := !r.mr }).wr (TS.TSNEXT i)
        (s.txStamp i (e + 1) 0)
    else s.setTx i { r with pos := 0 }
  else s

/-- An applied epoch acts on every transmit flow, and on the counts (R202, R222). -/
def State.txEpoch (s : State) (old new : Cfg) (e : Nat) : State :=
  let s := ((Cfg.rxFlows new).filter (fun i => (s.txRec i).owns)).foldl (fun s i => s.newRecord i false) s
  let s := ((Cfg.txFlows old ++ Cfg.txFlows new).eraseDups).foldl (fun s i => s.txEpochOne old new e i) s
  let load := ((Cfg.txFlows new).map (fun i => multOf (Cfg.rd new (TX.MULT i)) * Cfg.rd new (TX.CHANNELS i))).sum
  (s.wr FLOW.TXCOUNT.LOAD load).wr FLOW.TXCOUNT.ENABLED (Cfg.txFlows new).length

/-! ## Packets lost in a kennel (R214) -/

/-- A transmit packet met an uncorrectable word in kennel `k`: before the boundary after its own it is rebuilt at the head of
its queue, later it is lost. `words` is the packet as it was built, which SXM still gives (R201, R214). -/
def State.rebuild (s : State) (k : Nat) (words : List Nat) (t : TxTag) : State :=
  if s.tick = t.due then
    let q := s.kennel k
    if s.kennelRoom k words.length then
      let s := s.setKennel k { q with pkts := { words := words, got := [], bad := false, tag := some t } :: q.pkts }
      let s := s.inc (if t.path = 0 then TS.SENT_A t.flow else TS.SENT_B t.flow)
      (s.inc (TS.REBUILT t.flow)).sqf FLOW.TXHIST.REBUILT
    else (((s.countRefused k (headerLen (words.headD 0))).inc (TS.KNLFULL t.flow)).sqf FLOW.TXHIST.KNLFULL).report 0x0D13 t.flow k
  else ((s.inc (TS.LOST t.flow)).sqf FLOW.TXHIST.LOST).report 0x0D12 t.flow (t.seq + t.path * 2 ^ 16)

/-! ## The Patch Map (R21, R217, R218) -/

/-- The gather of entry `x` in tick `n` (R218). -/
def State.gather (s : State) (n x : Nat) : State :=
  let sb := s.rd (PM.SRCBUF x)
  let sc := s.rd (PM.SRCCH x)
  let db := s.rd (PM.DSTBUF x)
  let dc := s.rd (PM.DSTCH x)
  let f := (n + 1) % 2 ^ 32
  let s := (List.range (s.bufS db)).foldl (fun s i =>
    let (v, s) := s.readSample sb n i sc
    s.setSxm (s.sxmAddr db f (i * s.bufC db + dc)) (if s.flag (PM.INV x) then invert v else v)) s
  if s.frameValid sb n then s else { s with marks := s.marks ++ [{ buf := db, ch := dc, frame := f, gather := true }] }

/-- Channels of a Patch Map destination that no enabled entry writes hold zero (R218). -/
def State.gatherZero (s : State) (n b : Nat) : State :=
  let f := (n + 1) % 2 ^ 32
  let used := ((Cfg.patches s.live).filter (fun x => s.rd (PM.DSTBUF x) == b)).map (fun x => s.rd (PM.DSTCH x))
  s.eachLane (fun s c =>
    if used.contains c then s
    else (List.range (s.bufS b)).foldl (fun s i => s.setSxm (s.sxmAddr b f (i * s.bufC b + c)) 0) s) (s.bufC b)

/-- The gathers of the entries that satisfy `p`. -/
def State.gatherSome (s : State) (p : Nat → Bool) : State :=
  ((Cfg.patches s.live).filter p).foldl (fun s x => s.gather s.tick x) s

/-- Every destination's zero channels. -/
def State.gatherZeros (s : State) : State :=
  (Cfg.patchBufs s.live).eraseDups.foldl (fun s b => s.gatherZero s.tick b) s

/-- PATCH_GATHER_COMPLETE: the Patch Map finishes its gathers, at the current cycle of the tick (R21, R80). -/
def execPatchGatherComplete (s : State) : Res :=
  .next (
    if s.clk.phase = .work ∧ s.gathered = false then
      let s := (s.gatherSome (fun _ => true)).gatherZeros
      let s := s.wr FLOW.PATCHCYC.CYC s.clk.cycle
      { s with gathered := true }
    else s)

/-- At the guard with gathers unfinished: those in `done` had been made, and every other lane of the tick's destination
frames is marked invalid (R21). -/
def State.patchLate (s : State) (done : List Nat) : State :=
  if s.gathered then s
  else
    let s := (s.gatherSome done.contains).gatherZeros
    let f := (s.tick + 1) % 2 ^ 32
    let rest := (Cfg.patches s.live).filter (fun x => !done.contains x)
    let late : List LaneMark := rest.map (fun x => { buf := s.rd (PM.DSTBUF x), ch := s.rd (PM.DSTCH x), frame := f })
    let s := { s with marks := s.marks ++ late, gathered := true }
    let s := (s.inc FLOW.PATCHLATE.val).sqf GLB.TICKHIST.PATCH_LATE
    s.report 0x0004 0 s.tick

/-! ## Host commands of FLOW (R220, R221) -/

/-- A profile load through the register `k` with value `v`: one journal entry, and the words of the profile put into the open
shadow (R57, R60, R161, R220). Answers whether it was taken. -/
def State.profileLoad (s : State) (i k v : Nat) (ws : List (Nat × Word)) : State × Bool :=
  if s.journalFull then (s.refuseFull k, false)
  else
    let t := ws.foldl (fun s p => s.putShadow p.1 p.2) s
    if decide (s.rd GLB.CKPTLEN.val / 2 < t.ckptNeed) &&
        decide (ckptBytes s.live s.dmem s.shadow s.pend < ckptBytes t.live t.dmem t.shadow t.pend) then (s.accErr i k .refused, false)
    else
      let s := s.journal .write k v s.tick
      (ws.foldl (fun s p => s.putShadow p.1 p.2) s, true)

/-- A word of the open shadow with fields set. -/
def State.shadowFields (s : State) (k : Nat) (fs : List (Fld × Nat)) : Nat × Word :=
  (k, fs.foldl (fun w p => p.1.put w p.2) (s.shadowWord k))

/-- The words of transmit profile `p` for entry `i` (R220). -/
def State.txProfileWords (s : State) (p i : Nat) : List (Nat × Word) :=
  let (fmt, ptime, pt, dscp, cls) : Nat × Nat × Option Nat × Option Nat × Nat :=
    match p with
    | 0 => (0, 48, some 96, some 34, 1)
    | 1 => (0, 6, some 97, some 34, 0)
    | 2 => (2, 6, some 98, some 34, 0)
    | _ => (3, 6, none, none, 0)
  [ s.shadowFields (TX.word i 0) [(TX.DIR i, 1), (TX.FMT i, fmt), (TX.DITH i, 0), (TX.CLASS i, cls), (TX.PTIME i, ptime)],
    s.shadowFields (TX.word i 1)
      ([(TX.TTL i, 32), (TX.UDPDST i, 5004)] ++ (match pt with | some x => [(TX.PT i, x)] | none => [])),
    s.shadowFields (TX.word i 2) [(TX.UDPSRC i, 5004)],
    s.shadowFields (TX.word i 3) (match dscp with | some x => [(TX.DSCP i, x)] | none => []) ]

/-- A write of `v` to FLOW.TXPROFILE that sets LOAD, after its RW fields have taken it (R220). -/
def State.txProfile (s : State) (i v : Nat) : State :=
  let (t, ok) := s.profileLoad i FLOW.TXPROFILE v (s.txProfileWords (s.rd FLOW.TXPROFILE.PROFILE) (s.rd FLOW.TXPROFILE.INDEX))
  if ok then { t.wr FLOW.TXPROFILE.MODE 0 with txLoaded := some (s.rd FLOW.TXPROFILE.INDEX) } else t

/-- Key `k` is a counter word of a transmit record that TXCLR names: words 3 to 10 (R221). -/
def txCounterKey (all : Bool) (index k : Nat) : Bool :=
  decide (TS.word 0 0 ≤ k) && decide (k < TS.word 4096 0) && decide (3 ≤ (k - TS.word 0 0) % 0x80 / 4)
    && decide ((k - TS.word 0 0) % 0x80 / 4 ≤ 10) && (all || (k - TS.word 0 0) / 0x80 == index)

/-- A write that sets FLOW.TXCLR.GO: words 3 to 10 of the record INDEX, or of every transmit record (R221, R223). -/
def State.txClear (s : State) : State :=
  let all := s.flag FLOW.TXCLR.ALL
  let ix := s.rd FLOW.TXCLR.INDEX
  { s with live := s.live.filter (fun p =>
      !(txCounterKey all ix p.1 && (!all || (s.txRec ((p.1 - TS.word 0 0) / 0x80)).owns))) }

end Sys2Proof.Machine
end

