-- ==== Sys2Proof/Machine/Local.lean ====
section
/-!
DEFINITION. Serial audio ports, AES3, MADI and the ASRC bank (R268 to R316): states, elastic stores and slips, received
frames, channel status, transmission, and what an applied epoch does.

A local unit is numbered as State.loc keys it: SAP clock group k is k, AES3 receiver n is 8 + n, MADI receiver p is 24 + p,
so that a receiver is 8 above its event source (R314).
-/

namespace Sys2Proof.Machine

/-! ## The registers of a local unit -/

/-- `u` numbers a local unit. -/
def isLocal (u : Nat) : Bool := decide (u < 16) || (decide (24 ≤ u) && decide (u < 28))

/-- The STATE field of a local unit: 0 OFF, 1 ACQUIRE, 2 LOCKED, 3 LOST. -/
def luState (u : Nat) : Fld :=
  if u < 8 then SAP.CG_STAT.STATE u else if u < 24 then AES.RX_STAT.STATE (u - 8) else AES.MD_STAT.STATE (u - 24)

/-- The input fill field. -/
def luFill (u : Nat) : Fld :=
  if u < 8 then SAP.CG_STAT.FILLIN u else if u < 24 then AES.RX_STAT.FILL (u - 8) else AES.MD_STAT.FILL (u - 24)

/-- The upper threshold. -/
def luHi (u : Nat) : Fld :=
  if u < 8 then SAP.CG_SLIP.HI u else if u < 24 then AES.RX_SLIP.HI (u - 8) else AES.MD_SLIP.HI (u - 24)

/-- The lower threshold. -/
def luLo (u : Nat) : Fld :=
  if u < 8 then SAP.CG_SLIP.LO u else if u < 24 then AES.RX_SLIP.LO (u - 8) else AES.MD_SLIP.LO (u - 24)

/-- The history register and the bits of LOCKED, LOST, SYNC_LOST and SLIP. -/
def luHist (u : Nat) : Nat × Nat × Nat × Nat × Nat :=
  if u < 8 then (SAP.CG_HIST u, 4, 1, 3, 0) else if u < 24 then (AES.RX_HIST (u - 8), 0, 1, 3, 2) else (AES.MD_HIST (u - 24), 0, 1, 3, 2)

/-- The mode of a unit in a configuration, as SAP numbers modes: 0 MASTER, 1 SYNC, 2 SLIP, 3 ASRC (R281, R293). -/
def Cfg.luMode (c : Cfg) (u : Nat) : Nat :=
  if u < 8 then Cfg.rd c (SAP.CG_CFG.MODE u)
  else if u < 24 then Cfg.rd c (AES.RX_CFG.MODE (u - 8)) + 1 else Cfg.rd c (AES.MD_CFG.MODE (u - 24)) + 1

/-- The unit is enabled in a configuration. -/
def Cfg.luEn (c : Cfg) (u : Nat) : Bool :=
  if u < 8 then Cfg.flag c (SAP.CG_CFG.EN u)
  else if u < 24 then Cfg.flag c (AES.RX_CFG.EN (u - 8)) else Cfg.flag c (AES.MD_CFG.IN_EN (u - 24))

/-- The multiplier of MADI port `p`: 2 for the 96 kHz frames (R305). -/
def Cfg.madiM (c : Cfg) (p : Nat) : Nat := if Cfg.rd c (AES.MD_CFG.CHMODE p) < 2 then 1 else 2

/-- The channels of MADI port `p` (R305). -/
def Cfg.madiC (c : Cfg) (p : Nat) : Nat :=
  match Cfg.rd c (AES.MD_CFG.CHMODE p) with
  | 0 => 56
  | 1 => 64
  | 2 => 28
  | _ => 32

/-- The multiplier of a unit. -/
def Cfg.luM (c : Cfg) (u : Nat) : Nat :=
  if u < 8 then multOf (Cfg.rd c (SAP.CG_CFG.MULT u))
  else if u < 24 then multOf (Cfg.rd c (AES.RX_CFG.MULT (u - 8))) else Cfg.madiM c (u - 24)

/-- A local unit. -/
def State.lu (s : State) (u : Nat) : LocalUnit := Store.get (fun _ => LocalUnit.reset) s.loc u

/-- The state with a local unit written. -/
def State.setLu (s : State) (u : Nat) (x : LocalUnit) : State :=
  { s with loc := Store.set (fun _ => LocalUnit.reset) s.loc u x }

/-- The unit is LOCKED. -/
def State.locked (s : State) (u : Nat) : Bool := s.rd (luState u) == 2

/-- The event code of a local unit: SAP or AES. -/
def luCode (u sap aes : Nat) : Nat := if u < 8 then sap else aes

/-- The event source of a local unit (R290, R314). -/
def luSource (u : Nat) : Nat := if u < 8 then u else u - 8

/-- The fill registers follow the stores; a master group's and an ASRC unit's read 0 (R288, R293). -/
def State.fills (s : State) (u : Nat) : State :=
  let x := s.lu u
  let s := s.wr (luFill u) x.ins.length
  if u < 8 then s.wr (SAP.CG_STAT.FILLOUT u) x.outs.length else s

/-- The unit uses its elastic store. -/
def State.stored (s : State) (u : Nat) : Bool :=
  let m := Cfg.luMode s.live u
  m == 1 || m == 2

/-! ## The grid and the spans of lock (R278, R279, R312) -/

/-- Sample periods per second of unit `u`: fs × m (R275). -/
def State.luRate (s : State) (u : Nat) : Nat := s.fs * Cfg.luM s.live u

/-- The first grid instant of the tick at or after the current cycle (R279). -/
def State.gridIndex (s : State) (u : Nat) : Nat := ceilDiv (s.clk.cycle * s.luRate u) (10 ^ 9)

/-- The cycle of the latest boundary. -/
def State.boundaryAt (s : State) : Nat := s.clk.now - s.clk.cycle

/-- A span of lock begins. -/
def LocalUnit.opened (x : LocalUnit) (now : Nat) : LocalUnit := { x with spans := (now, none) :: x.spans }

/-- The span of lock in progress ends. -/
def LocalUnit.closed (x : LocalUnit) (now : Nat) : LocalUnit :=
  { x with spans := x.spans.map (fun p => (p.1, some (p.2.getD now))) }

/-- The unit was LOCKED through the whole of grid frame `i` of the tick that began at cycle `b0`, of `rate` a second: from b0 + (i − 1)
× T to b0 + i × T (R278, R279). -/
def LocalUnit.lockedFor (x : LocalUnit) (b0 rate i : Nat) : Bool :=
  x.spans.any (fun p =>
    decide (p.1 * rate + 10 ^ 9 ≤ b0 * rate + i * 10 ^ 9) &&
      (match p.2 with
       | none => true
       | some e => decide (b0 * rate + i * 10 ^ 9 ≤ e * rate)))

/-! ## States (R281, R282, R293, R294) -/

/-- A unit that leaves LOCKED or acquires anew: its stores are empty and its runs begin again; what the line side has captured and the
converter's frames stay. -/
def LocalUnit.emptied (x : LocalUnit) (now : Nat) : LocalUnit :=
  { LocalUnit.reset with pos := x.pos, refAt := x.refAt, spans := (x.closed now).spans, hist := x.hist, sent := x.sent, bits := x.bits,
                         block := x.block }

/-- The unit returns to ACQUIRE. -/
def State.acquire (s : State) (u : Nat) : State :=
  let s := s.setLu u ((s.lu u).emptied s.clk.now)
  (s.fills u).wr (luState u) 1

/-- The unit enters LOCKED: both fills of its store are at CENTRE; the frames put there are invalid (R281; DESIGN CHOICE, log entry 25). -/
def State.lock (s : State) (u : Nat) : State :=
  let centre := if s.stored u then (s.rd (luLo u) + s.rd (luHi u)) / 2 else 0
  let blank : LocalFrame := { words := [], valid := false }
  let x := (s.lu u).opened s.clk.now
  let s := s.setLu u { x with ins := List.replicate centre blank, outs := if u < 8 then List.replicate centre blank else [],
                              bad := 0, refAt := none, pos := if s.stored u then max x.pos (s.gridIndex u) else x.pos }
  let s := (s.fills u).wr (luState u) 2
  let (h, b, _) := luHist u
  (s.sq h b).report (luCode u 0x0F03 0x1001) (luSource u) (s.tick + 1)

/-- The measured offset of a unit's frame rate, in 0.01 ppm; a MADI receiver has no register of it (R291, R314; DESIGN CHOICE, 
DESIGN CHOICE, log entry 76). -/
def State.luOfs (s : State) (u : Nat) : Option Int :=
  if u < 8 then some (s.rdS (SAP.CG_OFS.val u)) else if u < 24 then some (s.rdS (AES.RX_OFS.val (u - 8))) else none

/-- The ratio, as unsigned 8.24, of a rate `ofs` × 0.01 ppm from the media-side rate (R310). -/
def ratioOf (ofs : Int) : Nat := (((10 ^ 8 + ofs).toNat) * 2 ^ 24 + 5 * 10 ^ 7) / 10 ^ 8

/-- A RATIO from 0.125 to 8 (R310). -/
def ratioFits (ratio : Nat) : Bool := decide (2 ^ 21 ≤ ratio) && decide (ratio ≤ 2 ^ 27)

/-- The frame rate is within its limit: 1,000 ppm, or in ASRC mode the range of the bank (R282, R294). -/
def State.rateFits (s : State) (u : Nat) : Bool :=
  match s.luOfs u with
  | none => true
  | some ofs => if Cfg.luMode s.live u = 3 then ratioFits (ratioOf ofs) else decide (ofs.natAbs ≤ 100000)

/-- The unit may lock: a master group at its first grid frame, another after 16 good frames in a row with the rate within its limit
(R281). -/
def State.mayLock (s : State) (u : Nat) : Bool :=
  s.rd (luState u) == 1 && (Cfg.luMode s.live u == 0 || (decide (16 ≤ (s.lu u).good) && s.rateFits u))

/-- A cause of LOST holds: 1, two bad frames in a row; 2, a rate outside the limit (R282, R294). -/
def State.lossHolds (s : State) (u cause : Nat) : Bool :=
  match cause with
  | 0 => true
  | 1 => decide (2 ≤ (s.lu u).bad)
  | 2 => (s.luOfs u).isNone || !s.rateFits u
  | _ => false

/-- The unit enters LOST for a cause that holds (R282, R294). -/
def State.lose (s : State) (u cause : Nat) : State :=
  let st := s.rd (luState u)
  if (st = 1 ∨ st = 2) ∧ Cfg.luMode s.live u ≠ 0 ∧ s.lossHolds u cause then
    let s := s.setLu u ((s.lu u).emptied s.clk.now)
    let s := (s.fills u).wr (luState u) 3
    let (h, _, b, _) := luHist u
    (s.sq h b).report (luCode u 0x0F02 0x1002) (luSource u) cause
  else s

/-- SAP_LOCKED (R281). -/
def execSapLocked (k : Nat) (s : State) : Res := .next (if k < 8 ∧ s.mayLock k then s.lock k else s)

/-- SAP_LOST (R282). -/
def execSapLost (k cause : Nat) (s : State) : Res := .next (if k < 8 then s.lose k cause else s)

/-- SAP_BCLK_RETURN: an edge of BCLK at a LOST group (R281). -/
def execSapBclkReturn (k : Nat) (s : State) : Res := .next (if k < 8 ∧ s.rd (luState k) = 3 then s.acquire k else s)

/-- AES_LOCKED: receiver `src` is AES3 receiver n at n, MADI receiver p at 16 + p (R293). -/
def execAesLocked (src : Nat) (s : State) : Res :=
  .next (if isLocal (src + 8) && s.mayLock (src + 8) then s.lock (src + 8) else s)

/-- AES_LOST (R294). -/
def execAesLost (src cause : Nat) (s : State) : Res := .next (if isLocal (src + 8) then s.lose (src + 8) cause else s)

/-- AES_SIGNAL_RETURN: a signal at a LOST receiver (R293). -/
def execAesSignalReturn (src : Nat) (s : State) : Res :=
  .next (if isLocal (src + 8) && s.rd (luState (src + 8)) == 3 then s.acquire (src + 8) else s)

/-! ## Where frames go -/

/-- The input ports of a unit that write a buffer: port number, KIND and number as a herd member, buffer. -/
def State.inputsOf (s : State) (u : Nat) : List (Nat × Nat × Nat × Nat) :=
  if u < 8 then
    ((List.range 32).filter (fun n => Cfg.sapIn s.live n && s.rd (SAP.P_CFG.GROUP n) == u)).map
      (fun n => (n, 2, n, s.rd (SAP.P_BUF.INBUF n)))
  else if u < 24 then
    (if s.flag (AES.RX_CFG.EN (u - 8)) && s.flag (AES.RX_CFG.DATA_EN (u - 8)) then
      [(0, 3, u - 8, s.rd (AES.RX_CFG.INBUF (u - 8)))] else [])
  else if s.flag (AES.MD_CFG.IN_EN (u - 24)) then [(0, 5, u - 24, s.rd (AES.MD_BUF.INBUF (u - 24)))] else []

/-- The output ports of a SAP group. -/
def State.outputsOf (s : State) (k : Nat) : List Nat :=
  (List.range 32).filter (fun n => Cfg.sapOut s.live n && s.rd (SAP.P_CFG.GROUP n) == k)

/-- A sample frame is captured at grid instant `i` of the tick, into frame n + 1 of each input buffer of the unit (R278,
R279); before its herd's start a port's frames are invalid (R259). -/
def State.capture1 (s : State) (u i : Nat) (x : LocalFrame) : State :=
  let f := (s.tick + 1) % 2 ^ 32
  (s.inputsOf u).foldl (fun s p =>
    match p with
    | (port, kind, ix, b) =>
      if i < s.bufS b then
        let ws := ((x.words.find? (fun q => q.1 == port)).map (·.2)).getD []
        let s := (List.range (s.bufC b)).foldl (fun s c => s.setSxm (s.sxmAddr b f (i * s.bufC b + c)) (ws.getD c 0)) s
        if x.valid && s.memberOpen kind ix f then s.setValid b f i else s
      else s) s

/-! ## Output samples (R273, R274, R301) -/

/-- `n` steps of a dither LFSR. -/
def lfsrSteps : Nat → Nat → Nat
  | 0, x => x
  | n + 1, x => lfsrSteps n (lfsrStep x)

/-- The LFSR of an output at sample `i` of frame `f`, `c` containers a sample: seeded once a tick frame (R274, R301). -/
def outLfsr (f term i c : Nat) : Nat :=
  let x := (f ^^^ 0x9E3779B9 ^^^ (term * 2 ^ 16)) % 2 ^ 32
  lfsrSteps (i * c) (if x = 0 then 1 else x)

/-- A container at width `w` with or without dither, and the LFSR after it (R131, R274). -/
def ditherOut (dith : Bool) (w lfsr x : Nat) : Nat × Nat :=
  if dith then
    let n := lfsrStep lfsr
    ((truncTo w (sat32 (signed32 x + dither n w))).toNat, n)
  else ((truncTo w (signed32 x)).toNat, lfsr)

/-- Containers at width `w`, in order. -/
def ditherAll (dith : Bool) (w lfsr : Nat) : List Nat → List Nat
  | [] => []
  | x :: r => let (y, n) := ditherOut dith w lfsr x; y :: ditherAll dith w n r

/-- The containers of sample frame `i` of frame `f` of buffer `b`. -/
def State.frameWords (s : State) (b f i : Nat) : List Nat :=
  (List.range (s.bufC b)).map (fun c => s.sxmWord (s.sxmAddr b f (i * s.bufC b + c)))

/-- The slots in which port `n` sends containers `ws` as its `i`th sample of tick `f` (R273, R274). -/
def State.sapSlots (s : State) (n f i : Nat) (ws : List Nat) : List Nat :=
  let g := s.rd (SAP.P_CFG.GROUP n)
  let w := if s.rd (SAP.CG_CFG.SLOTW g) = 0 then 16 else 24
  let ys := ditherAll (s.flag (SAP.P_CFG.DITH n)) w (outLfsr f n i ws.length) ws
  match s.rd (SAP.CG_CFG.SLOTW g) with
  | 0 => ys.map (· / 2 ^ 16)
  | 1 => ys.map (· / 2 ^ 8)
  | _ => ys

/-- Slots played by ports of a group, where this chip drives its outputs (R452). -/
def State.playSap (s : State) (x : LocalFrame) : State :=
  if s.drives then x.words.foldl (fun s p => s.emit (.play 0 p.1 p.2)) s else s

/-- The containers of every output port of a group at sample `i` of frame `f`. -/
def State.outWords (s : State) (k f i : Nat) : List (Nat × List Nat) :=
  (s.outputsOf k).map (fun n => (n, s.frameWords (s.rd (SAP.P_BUF.OUTBUF n)) f i))

/-- The output frame of a group at sample `i` of the current tick's frame. -/
def State.outFrame (s : State) (k i : Nat) : LocalFrame :=
  { words := (s.outWords k s.tick i).map (fun p => (p.1, s.sapSlots p.1 s.tick i p.2)), valid := true }

/-- Zeros for every output port of a group (R284). -/
def State.zeroFrame (s : State) (k : Nat) : LocalFrame :=
  { words := (s.outputsOf k).map (fun n => (n, List.replicate (s.rd (SAP.CG_CFG.SLOTS k)) 0)), valid := false }

/-! ## The elastic store (R285, R286) -/

/-- A fill of a SYNC unit has reached a threshold: the unit returns to ACQUIRE; `dir` is 0 input, 1 output (R285). -/
def State.syncCheck (s : State) (u dir : Nat) : State :=
  let fill := if dir = 0 then (s.lu u).ins.length else (s.lu u).outs.length
  if Cfg.luMode s.live u = 1 ∧ s.locked u ∧ (fill ≤ s.rd (luLo u) ∨ s.rd (luHi u) ≤ fill) then
    let (h, _, _, b, _) := luHist u
    let s := (s.sq h b).report (luCode u 0x0F04 0x1006) (luSource u) (fill + (if u < 8 then dir * 2 ^ 8 else 0))
    s.acquire u
  else s

/-- A slip: direction 0 input, 1 output; 0 drop, 1 repeat (R286, R290). -/
def State.slip (s : State) (u dir kind : Nat) : State :=
  let cnt : Fld :=
    if u < 8 then
      (match dir, kind with
       | 0, 0 => SAP.CG_DROPIN.val u
       | 0, _ => SAP.CG_REPIN.val u
       | _, 0 => SAP.CG_DROPOUT.val u
       | _, _ => SAP.CG_REPOUT.val u)
    else if u < 24 then (if kind = 0 then AES.RX_SLIPCNT.DROP (u - 8) else AES.RX_SLIPCNT.REP (u - 8))
    else (if kind = 0 then AES.MD_SLIPCNT.DROP (u - 24) else AES.MD_SLIPCNT.REP (u - 24))
  let s := s.inc cnt
  let (h, _, _, _, b) := luHist u
  (s.sq h b).report (luCode u 0x0F01 0x1003) (luSource u) (dir + 2 * kind + s.tick % 2 ^ 16 * 2 ^ 16)

/-- A test of a fill against the thresholds of a SLIP unit: 0 drop, 1 repeat, 2 neither (R286). -/
def State.slipTest (s : State) (u fill : Nat) : Nat :=
  if Cfg.luMode s.live u = 2 then (if s.rd (luHi u) ≤ fill then 0 else if fill ≤ s.rd (luLo u) then 1 else 2) else 2

/-- The frame that a store delivers at one read, the frames left, and whether it slipped (R286). -/
def readStore (test : Nat) (last : LocalFrame) (xs : List LocalFrame) : LocalFrame × List LocalFrame :=
  match test, xs with
  | 0, _ :: y :: r => (y, r)
  | 1, _ => (last, xs)
  | _, y :: r => (y, r)
  | _, [] => (last, [])

/-- The grid reads one frame of the input store and writes one output frame (R279, R280, R286). -/
def State.gridRead (s : State) (u : Nat) : State :=
  let x := s.lu u
  let i := x.pos
  if (Cfg.luM s.live u) * s.tickLen ≤ i then s
  else
    let t := s.slipTest u x.ins.length
    let s := if t < 2 then s.slip u 0 t else s
    let (y, r) := readStore t x.lastIn x.ins
    let s := s.setLu u { x with ins := r, lastIn := y, pos := i + 1 }
    let s := s.capture1 u i y
    let s :=
      if u < 8 then
        let o := s.outFrame u i
        let z := s.lu u
        s.setLu u { z with outs := (z.outs ++ [o]).take 64 }
      else s
    let s := (s.fills u).syncCheck u 0
    if u < 8 then s.syncCheck u 1 else s

/-- The port side of a SAP group reads one output frame and sends it; zeros while the group is not LOCKED (R284, R286). -/
def State.portRead (s : State) (k : Nat) : State :=
  if s.locked k then
    let x := s.lu k
    let t := s.slipTest k x.outs.length
    let s := if t < 2 then s.slip k 1 t else s
    let (y, r) := readStore t x.lastOut x.outs
    let s := s.setLu k { x with outs := r, lastOut := y }
    let s := s.playSap (if y.words.isEmpty then s.zeroFrame k else y)
    (s.fills k).syncCheck k 1
  else s.playSap (s.zeroFrame k)

/-- ELASTIC_STORE_READ: a read of one sample frame of unit `u`'s store, by the grid (`out` false) or by the port side of a
SAP group (R286; DESIGN CHOICE, log entry 25). While the unit is not LOCKED a grid read delivers nothing and its instant passes
(R279). -/
def execElasticStoreRead (u : Nat) (out : Bool) (s : State) : Res :=
  .next (
    if isLocal u && s.ticking && s.stored u && Cfg.luEn s.live u then
      if out then (if u < 8 then s.portRead u else s)
      else if s.locked u then s.gridRead u
      else s.setLu u { s.lu u with pos := (s.lu u).pos + 1 }
    else s)

/-! ## The owners of the ASRC bank (R288, R309) -/

/-- ceil(C / 8) groups from `g`. -/
def groupsFrom (g c : Nat) : List Nat := (List.range (ceilDiv c 8)).map (g + ·)

/-- The owners of ASRC groups in a configuration: OWNER code, INDEX, groups (R309). -/
def Cfg.asrcOwners (c : Cfg) : List (Nat × Nat × List Nat) :=
  let asrcPort := fun n => Cfg.rd c (SAP.CG_CFG.MODE (Cfg.rd c (SAP.P_CFG.GROUP n))) == 3
  let slots := fun n => Cfg.rd c (SAP.CG_CFG.SLOTS (Cfg.rd c (SAP.P_CFG.GROUP n)))
  ((List.range 32).filter (fun n => Cfg.sapIn c n && asrcPort n)).map
      (fun n => (1, n, groupsFrom (Cfg.rd c (SAP.P_ASRC.INGRP n)) (slots n)))
    ++ ((List.range 32).filter (fun n => Cfg.sapOut c n && asrcPort n)).map
      (fun n => (2, n, groupsFrom (Cfg.rd c (SAP.P_ASRC.OUTGRP n)) (slots n)))
    ++ ((List.range 8).filter (fun n => Cfg.flag c (AES.RX_CFG.EN n) && Cfg.rd c (AES.RX_CFG.MODE n) == 2)).map
      (fun n => (3, n, [Cfg.rd c (AES.RX_CFG.ASRCGRP n)]))
    ++ ((List.range 4).filter (fun p => Cfg.flag c (AES.MD_CFG.IN_EN p) && Cfg.rd c (AES.MD_CFG.MODE p) == 2)).map
      (fun p => (4, p, groupsFrom (Cfg.rd c (AES.MD_CFG.ASRCGRP p)) (Cfg.madiC c p)))

/-- The local unit of an owner of ASRC groups (R309). -/
def Cfg.asrcUnit (c : Cfg) (o : Nat × Nat × List Nat) : Nat :=
  match o.1 with
  | 3 => 8 + o.2.1
  | 4 => 24 + o.2.1
  | _ => Cfg.rd c (SAP.P_CFG.GROUP o.2.1)

/-- How far two numbers lie apart. -/
def apart (a b : Nat) : Nat := if a < b then b - a else a - b

/-! ## SAP frames (R278, R279, R283) -/

/-- The slots of a received frame as containers (R273). -/
def State.slotWords (s : State) (k : Nat) (ws : List Nat) : List Nat :=
  (ws.take (s.rd (SAP.CG_CFG.SLOTS k))).map (fun w =>
    match s.rd (SAP.CG_CFG.SLOTW k) with
    | 0 => w % 2 ^ 16 * 2 ^ 16
    | 1 => w % 2 ^ 24 * 2 ^ 8
    | _ => w % 2 ^ 32)

/-- The first frame after an entry to LOCKED is the reference of BLKPH (R300). -/
def State.refer (s : State) (u : Nat) : State :=
  let x := s.lu u
  if s.locked u && x.refAt.isNone then s.setLu u { x with refAt := some s.clk.now } else s

/-- The delay of the rate converter in ns: 48 foreign-rate and 16 media-side periods, of `rate` a second (R313). -/
def asrcDelay (ratio rate : Nat) : Nat := ceilDiv (48 * 10 ^ 9 * 2 ^ 24) (rate * ratio) + ceilDiv (16 * 10 ^ 9) rate

/-- The ASRC group of channel `c` of an owner whose first group is `g` (R288). -/
def asrcGroupOf (g c : Nat) : Nat := g + c / 8

/-- The container of channel `c` of `port` that the converter gives at cycle `t` from the frames `xs`, by ASRC group `g` (R288,
R313). -/
def State.asrcValue (s : State) (xs : List TimedFrame) (port g c rate t : Nat) : Nat :=
  let ratio := s.rd (ASRC.G_RATIO.val g)
  let back := asrcDelay ratio rate
  (Config.asrcSample ratio ((xs.filter (fun x => decide (x.at_ ≤ t))).map (fun x =>
    ((x.at_ : Int) + back - t, (((x.frame.words.find? (fun q => q.1 == port)).map (·.2)).getD []).getD c 0)))).toNat

/-- What an ASRC group's port side sends at the current cycle as sample `i` of the tick: converted samples of the outputs' frames; zeros
while the clock group is not LOCKED (R280, R284, R288). -/
def State.asrcOut (s : State) (k i : Nat) : LocalFrame :=
  if s.locked k then
    let xs := (s.lu k).sent
    { words := (s.outputsOf k).map (fun n =>
        (n, s.sapSlots n s.tick i ((List.range (s.rd (SAP.CG_CFG.SLOTS k))).map (fun c =>
          s.asrcValue xs n (asrcGroupOf (s.rd (SAP.P_ASRC.OUTGRP n)) c) c (s.luRate k) s.clk.now)))), valid := true }
  else s.zeroFrame k

/-- A frame of an ASRC unit reaches the converter; a SAP group's outputs send a frame with it (R280, R288). -/
def State.arriveAsrc (s : State) (u : Nat) (f : LocalFrame) (idle : List Nat) : State :=
  let x := s.lu u
  let s := s.setLu u { x with hist := { at_ := s.clk.now, frame := f, idle := idle } :: x.hist, pos := x.pos + 1 }
  if u < 8 then s.playSap (s.asrcOut u x.pos) else s

/-- A frame enters the input store of a unit, or, of a master group, is captured on the grid at once, where the group's
outputs play their frame, zeros until it is LOCKED; an ASRC unit's reaches the converter (R280, R284). A store of 64 frames takes no
more. `idle` are its inactive channels. -/
def State.arrive (s : State) (u : Nat) (f : LocalFrame) (idle : List Nat) : State :=
  let s := s.refer u
  let x := s.lu u
  if Cfg.luMode s.live u = 0 then
    if (Cfg.luM s.live u) * s.tickLen ≤ x.pos then s
    else
      let s := (s.setLu u { x with pos := x.pos + 1 }).capture1 u x.pos { f with valid := f.valid && s.locked u }
      s.playSap (if s.locked u then s.outFrame u x.pos else s.zeroFrame u)
  else if s.stored u then
    if s.locked u then
      ((s.setLu u { x with ins := (x.ins ++ [{ f with valid := f.valid && s.locked u }]).take 64 }).fills u).syncCheck u 0
    else s
  else s.arriveAsrc u f idle

/-- The RATIO of the groups that ASRC unit `u` owns follows its measured rate, in the range and short of a step of 200 ppm (R310,
R311). -/
def State.trackRatio (s : State) (u : Nat) : State :=
  match s.luOfs u with
  | none => s
  | some ofs =>
    let ratio := ratioOf ofs
    ((Cfg.asrcOwners s.live).filter (fun o => Cfg.asrcUnit s.live o == u)).foldl (fun s o =>
      o.2.2.foldl (fun (s : State) g =>
        let old := s.rd (ASRC.G_RATIO.val g)
        if s.rd (ASRC.G_STAT.STATE g) = 2 ∧ ratioFits ratio ∧ apart old ratio * 10 ^ 6 ≤ old * 200 then s.wr (ASRC.G_RATIO.val g) ratio
        else s) s) s

/-- SAP_FRAME_RECEIVED: a whole FS frame of group `k` with the slots of each port, and the measured offset in 0.01 ppm (R278,
R282). -/
def execSapFrameReceived (k : Nat) (slots : List (Nat × List Nat)) (ofs : Int) (s : State) : Res :=
  .next (
    if decide (k < 8) && s.ticking && Cfg.luEn s.live k && s.rd (luState k) != 3 then
      let s := s.wrS (SAP.CG_OFS.val k) (if Cfg.luMode s.live k = 0 then 0 else ofs)
      let x := s.lu k
      let s := s.setLu k { x with good := x.good + 1, bad := 0 }
      (s.trackRatio k).arrive k { words := slots.map (fun p => (p.1, s.slotWords k p.2)), valid := true } []
    else s)

/-- SAP_FRAME_ERROR: an FS frame of the wrong length; its sample frame is invalid (R283). -/
def execSapFrameError (k : Nat) (s : State) : Res :=
  .next (
    if decide (k < 8) && s.ticking && Cfg.luEn s.live k && s.rd (luState k) != 3 && Cfg.luMode s.live k != 0 then
      let s := (s.inc (SAP.CG_FRAMEERR.val k)).sqf (SAP.CG_HIST.FRAMEERR k)
      let x := s.lu k
      let s := s.setLu k { x with good := 0, bad := x.bad + 1 }
      s.arrive k { words := [], valid := false } []
    else s)

/-! ## AES3 and MADI frames (R295, R299, R300, R306) -/

/-- A subframe as the line gives it, packed as its container and label would be: audio in [31:8], P [3], C [2], U [1], V [0]. -/
def subContainer (w pac : Nat) : Nat := w / 2 ^ 8 * 2 ^ 8 % 2 ^ 32 + pac * 2 ^ 4 + w % 2 ^ 4

/-- The number of 1 bits below bit `n`. -/
def ones : Nat → Nat → Nat
  | 0, _ => 0
  | n + 1, x => x % 2 + ones n (x / 2)

/-- The subframes of a frame with a parity error: those whose audio, V, U, C and P bits hold an odd number of ones (R299). -/
def oddSubframes (ws : List Nat) : Nat := (ws.filter (fun w => ones 32 (w / 2 ^ 8 * 2 ^ 8 + w % 2 ^ 4) % 2 == 1)).length

/-- The outcome of a received frame of a receiver in the counts and in its validity: each subframe in error counts (R299). -/
def State.frameOutcome (s : State) (u : Nat) (ws : List Nat) (parity v : Bool) : State × Bool :=
  let (h, _) := luHist u
  let s := if parity then
      (s.add (if u < 24 then AES.RX_ERR.PARERR (u - 8) else AES.MD_ERR.PARERR (u - 24)) (max 1 (oddSubframes ws))).sq h 4
    else s
  let s := if v && decide (u < 24) then s.inc (AES.RX_VCNT.val (u - 8)) else s
  let vpol := s.flag (if u < 24 then AES.RX_CFG.VPOL (u - 8) else AES.MD_CFG.VPOL (u - 24))
  (s, !parity && !(v && vpol))

/-- The runs of good and bad frames of a receiver. -/
def State.countGood (s : State) (u : Nat) (good seqErr : Bool) : State :=
  let x := s.lu u
  s.setLu u { x with good := if good then x.good + 1 else 0, bad := if seqErr then x.bad + 1 else 0 }

/-- The start of the herd in RUNNING that a receiver belongs to (R259, R300). -/
def State.herdStartOf (s : State) (u : Nat) : Option Nat :=
  ((List.range 16).find? (fun k => s.herdRunning k &&
    (Cfg.herdMembers s.live k).contains (if u < 24 then (3, u - 8) else (5, u - 24)))).map (fun k => s.rd (HRD.H_START.val k))

/-- The sample periods, modulo 192, from the reference frame of receiver `u` to the frame now received: from sample 0 of frame S of its
running herd, or from the first frame after its latest entry to LOCKED (R300; DESIGN CHOICE, log entry 25). -/
def State.blockPhase (s : State) (u : Nat) : Option Nat :=
  match s.herdStartOf u with
  | some f =>
    some ((((s.tick + 1 + 2 ^ 32 - f) % 2 ^ 32) * (Cfg.luM s.live u * s.tickLen) + s.clk.cycle * s.luRate u / 10 ^ 9) % 192)
  | none => (s.lu u).refAt.map (fun r => ((s.clk.now - r) * s.luRate u + 5 * 10 ^ 8) / 10 ^ 9 % 192)

/-- A block start is received: BLKPH gives its phase, where there is a reference (R300). -/
def State.noteBlock (s : State) (u : Nat) : State :=
  match (s.refer u).blockPhase u with
  | some p => s.wr (if u < 24 then AES.RX_STAT.BLKPH (u - 8) else AES.MD_STAT.BLKPH (u - 24)) p
  | none => s

/-- A completed run of 192 status bits as bytes. -/
def statusBytes (x : Nat) : List Nat := (List.range 24).map (fun i => x / 2 ^ (8 * i) % 2 ^ 8)

/-- The channel status bits of a received frame: a block starts at its Z and completes with its 192nd frame (R296). -/
def LocalUnit.status (x : LocalUnit) (z ca cb : Bool) : LocalUnit :=
  let run := if z then some { count := 0, a := 0, b := 0 } else x.cs
  match run with
  | none => x
  | some r =>
    let r : StatusRun := { count := r.count + 1, a := r.a + (if ca then 2 ^ r.count else 0), b := r.b + (if cb then 2 ^ r.count else 0) }
    if r.count = 192 then { x with cs := none, bits := some (statusBytes r.a, statusBytes r.b) } else { x with cs := some r }

/-- AES_FRAME_RECEIVED: receiver `n` receives subframes `a` and `b`; `z` tells a Z preamble, `parity` a parity error, `good`
that preambles and coding were correct; `ofs` is the measured offset (R293, R295, R299). -/
def execAesFrameReceived (n a b : Nat) (z parity good : Bool) (ofs : Int) (s : State) : Res :=
  .next (
    if decide (n < 8) && s.ticking && Cfg.luEn s.live (8 + n) && s.rd (luState (8 + n)) != 3 then
      let u := 8 + n
      let s := s.wrS (AES.RX_OFS.val n) ofs
      let (s, ok) := s.frameOutcome u [a, b] parity (bit a 0 || bit b 0)
      let s := s.countGood u (good && !parity) (!good)
      let s := s.setLu u ((s.lu u).status z (bit a 2) (bit b 2))
      let s := if z then s.noteBlock u else s
      (s.trackRatio u).arrive u { words := [(0, [subContainer a (if z then 3 else 0), subContainer b 1])],
                                  valid := ok && good && !(Cfg.luMode s.live u == 3 && s.flag (AES.RX_STAT.NONAUDIO n)) } []
    else s)

/-- A MADI subframe as a container, packed as `subContainer` with its block-start bit in [6], A/B in [5] and active in [7]; an
inactive channel is 0 (R306). -/
def madiContainer (w : Nat) : Nat :=
  if bit w 7 then subContainer (w / 2 ^ 8 * 2 ^ 8 + w % 2 ^ 4) (if bit w 6 then 3 else if bit w 5 then 1 else 0) else 0

/-- MADI_FRAME_RECEIVED: MADI receiver `p` receives a frame (R305, R306, R308). -/
def execMadiFrameReceived (p : Nat) (subs : List Nat) (parity good : Bool) (s : State) : Res :=
  .next (
    if decide (p < 4) && s.ticking && Cfg.luEn s.live (24 + p) && s.rd (luState (24 + p)) != 3 then
      let u := 24 + p
      let ws := subs.take (Cfg.madiC s.live p)
      let s := s.add (AES.MD_INACTIVE.val p) (ws.filter (fun w => !bit w 7)).length
      let s := if good then s else s.inc (AES.MD_ERR.CODEERR p)
      let (s, ok) := s.frameOutcome u (ws.filter (fun w => bit w 7)) parity (ws.any (fun w => bit w 7 && bit w 0))
      let s := s.countGood u (good && !parity) (!good)
      let w := ws.getD (s.rd (AES.MD_CFG.CSSEL p)) 0
      let s := s.setLu u ((s.lu u).status (bit w 6) (bit w 2) false)
      let s := if bit w 6 then s.noteBlock u else s
      s.arrive u { words := [(0, ws.map madiContainer)], valid := ok && good }
        ((List.range ws.length).filter (fun c => !bit (ws.getD c 0) 7))
    else s)

/-! ## Channel status (R296 to R298, R308) -/

/-- The CRCC of AES3 channel status over bytes 0 to 22 (R296, R302; the polynomial and preset are AES3's, PRESUMED, log entry 20). -/
def crcc (bs : List Nat) : Nat := (bs.take 23).foldl (fun c b => crcBits 0xB8 8 (c ^^^ (b % 256))) 0xFF

/-- A block needs a CRCC and fails it. -/
def blockBad (bs : List Nat) : Bool := bit (bs.headD 0) 0 && crcc bs != bs.getD 23 0 % 256

/-- The bytes `a` and `b` are those of the block that receiver `u` has completed; a MADI receiver captures one channel (R296, R308). -/
def State.blockIs (s : State) (u : Nat) (a b : List Nat) : Bool :=
  match (s.lu u).bits with
  | some (x, y) => x == a && (decide (24 ≤ u) || y == b)
  | none => false

/-- AES_CS_BLOCK: receiver `src` has completed a block of channel status, whose 24 bytes for each captured channel the command names
(R296 to R298, R308). -/
def execAesCsBlock (src : Nat) (a b : List Nat) (s : State) : Res :=
  .next (
    let u := src + 8
    if isLocal u && decide (8 ≤ u) && Cfg.luEn s.live u && s.blockIs u a b then
      let (h, _) := luHist u
      let s := s.setLu u { s.lu u with bits := none }
      let bad := if blockBad a then some a else if u < 24 ∧ blockBad b then some b else none
      match bad with
      | some x =>
        let s := if u < 24 then s.inc (AES.RX_ERR.CRCERR (u - 8)) else s
        (s.sq h 5).report 0x1005 src (x.getD 23 0 % 256 + crcc x * 2 ^ 8)
      | none =>
        let s := s.setLu u { s.lu u with block := some (a, b) }
        if u < 24 then
          let n := u - 8
          let pro := bit (a.headD 0) 0
          let s := s.wrFlag (AES.RX_STAT.PRO n) pro
          let s := s.wrFlag (AES.RX_STAT.NONAUDIO n) (bit (a.headD 0) 1)
          s.wr (AES.RX_STAT.GRADE n) (if pro then a.getD 4 0 % 4 else 3)
        else s
    else s)

/-- The six words of a 24-byte block. -/
def statusWords (bs : List Nat) : List Nat :=
  (List.range 6).map (fun k => (List.range 4).foldl (fun w i => w + bs.getD (4 * k + i) 0 % 256 * 2 ^ (8 * i)) 0)

/-- Captured status words written at keys `key k`; answers whether any differs from before. -/
def State.capture6 (s : State) (key : Nat → Nat) (ws : List Nat) : State × Bool :=
  ((List.range 6).foldl (fun s k => s.setNum (key k) (ws.getD k 0)) s,
   (List.range 6).any (fun k => s.num (key k) != ws.getD k 0))

/-- Step 5: an accepted block of unit `u` replaces its capture registers (R297). -/
def State.captureStatus (s : State) (u : Nat) : State :=
  let x := s.lu u
  match x.block with
  | none => s
  | some (a, b) =>
    let s := s.setLu u { x with block := none }
    let (s, ca) := s.capture6 (fun k => if u < 24 then AES.RX_CSA (u - 8) k else AES.MD_CS (u - 24) k) (statusWords a)
    let (s, cb) := if u < 24 then s.capture6 (fun k => AES.RX_CSB (u - 8) k) (statusWords b) else (s, false)
    if ca || cb then
      let (h, _) := luHist u
      (s.sq h 6).report 0x1004 (luSource u) ((if ca then 1 else 0) + (if cb then 2 else 0))
    else s

/-! ## Transmitting AES3 and MADI (R301 to R304, R307) -/

/-- A transmitter. -/
def State.atxOf (s : State) (t : Nat) : AesTx := Store.get (fun _ => AesTx.reset) s.atx t

/-- The state with a transmitter written. -/
def State.setAtx (s : State) (t : Nat) (x : AesTx) : State := { s with atx := Store.set (fun _ => AesTx.reset) s.atx t x }

/-- The channel status bytes of transmitter `n` (R302): byte 23 is the CRCC of a professional block. -/
def State.txStatus (s : State) (n : Nat) : List Nat :=
  let bs := (List.range 6).flatMap (fun k => (List.range 4).map (fun i => s.rd (AES.TX_CS.val n k) / 2 ^ (8 * i) % 256))
  if bit (bs.headD 0) 0 then bs.take 23 ++ [crcc bs] else bs

/-- A subframe sent: audio in [31:8], PAC in [5:4], P for even parity over its other bits in [3], C, U, V (R301). -/
def subframe (audio pac c u v : Nat) : Nat :=
  let w := audio / 2 ^ 8 * 2 ^ 8 + c % 2 * 4 + u % 2 * 2 + v % 2
  w + pac * 2 ^ 4 + ones 32 w % 2 * 8

/-- A MADI subframe sent on channel `ch`: audio in [31:8], active in [7], block start in [6], B in [5] for an odd channel, P for even
parity over audio, C, U and V in [3] (R305, R307). -/
def madiSub (audio ch : Nat) (start : Bool) (c u v : Nat) : Nat :=
  subframe audio 0 c u v + 2 ^ 7 + (if start then 2 ^ 6 else 0) + ch % 2 * 2 ^ 5

/-- One sample frame of AES3 transmitter `n` (R301 to R304): it sends, and its block counter moves. Before its first Z a transmitter in
LABEL mode counts from its first frame (DESIGN CHOICE, log entry 25). -/
def State.aesSample (s : State) (n f i : Nat) : State :=
  let b := s.rd (AES.TX_CFG.OUTBUF n)
  let x := s.atxOf n
  let ws := s.frameWords b f i
  let valid := s.isValid b f i
  let first := ws.headD 0 / 16 % 4 == 3
  let z := if x.labels then first || decide (192 ≤ x.count) else decide (192 ≤ x.count) || x.status.isEmpty
  let off := x.labels && z && !(first && (x.count == 192 || x.status.isEmpty))
  let x := if z then
      { x with count := 0, status := x.next.1, labels := x.next.2, errs := if off then x.errs ++ [x.count] else x.errs }
    else x
  let ys := ditherAll (s.flag (AES.TX_CFG.DITH n)) 24 (outLfsr f (0x40 + n) i 2) ws
  let c := x.status.getD (x.count / 8) 0 / 2 ^ (x.count % 8) % 2
  let sub := fun (ch : Nat) =>
    let w := ws.getD ch 0
    let pac := if ch = 1 then 1 else if z then 3 else 0
    let v := if valid then (if x.labels then w % 2 else 0) else 1
    if x.labels then subframe (ys.getD ch 0) pac (w / 4) (w / 2) v else subframe (ys.getD ch 0) pac c 0 v
  let s := s.setAtx n { x with count := x.count + 1 }
  if s.drives then s.emit (.play 1 n [sub 0, sub 1]) else s

/-- One sample frame of MADI transmitter `p` (R305, R307). -/
def State.madiSample (s : State) (p f i : Nat) : State :=
  let b := s.rd (AES.MD_BUF.OUTBUF p)
  let x := s.atxOf (8 + p)
  let ws := s.frameWords b f i
  let valid := s.isValid b f i
  let z := decide (192 ≤ x.count) || x.status.isEmpty
  let ys := ditherAll (s.flag (AES.MD_CFG.DITH p)) 24 (outLfsr f (0x50 + p) i ws.length) ws
  let lbl := s.flag (AES.MD_CFG.TXLBL p)
  let sub := fun (ch : Nat) =>
    let w := ws.getD ch 0
    if lbl then madiSub (ys.getD ch 0) ch (w / 16 % 4 == 3) (w / 4) (w / 2) w
    else madiSub (ys.getD ch 0) ch z 0 0 (if valid then 0 else 1)
  let s := s.setAtx (8 + p) { x with count := if z then 1 else x.count + 1, status := [0] }
  if s.drives then (s.emit (.play 2 p ((List.range ws.length).map sub))).emit (.sync p) else s

/-- The sample frames below `n` of frame `f`, ascending, through `g`. -/
def State.eachSample (s : State) (g : State → Nat → State) : Nat → State
  | 0 => s
  | n + 1 => g (State.eachSample s g n) n

/-- A transmitter has started by frame `f`: from its first egress frame, or its herd's start, where its block begins anew
(R259, R302). -/
def State.startTx (s : State) (t kind ix f : Nat) : State × Bool :=
  let x := s.atxOf t
  let herd := (List.range 16).find? (fun k => (Cfg.herdMembers s.live k).contains (kind, ix))
  let begins := match herd with
    | some k => (s.herdOf k).start == some f
    | none => x.start == some f
  let s := if begins then s.setAtx t { x with count := 0, status := [], labels := x.next.2 } else s
  let run := match x.start with
    | some g => !futureTick g f
    | none => false
  (s, run)

/-- The channel status and CSSRC of the live epoch are those that transmitter `n` takes from the next frame on (R202, R304). -/
def State.latchTx (s : State) (n : Nat) : State :=
  s.setAtx n { s.atxOf n with next := (s.txStatus n, s.flag (AES.TX_CFG.CSSRC n)) }

/-- The frame `n` of every output of an ASRC group goes to the converter, each sample at its instant (R279, R288). -/
def State.feedAsrc (s : State) (n k : Nat) : State :=
  if Cfg.luEn s.live k && Cfg.luMode s.live k == 3 then
    let at_ := fun i => s.clk.now + i * 10 ^ 9 / s.luRate k
    let new := (List.range (Cfg.luM s.live k * s.tickLen)).reverse.map (fun i =>
      { at_ := at_ i, frame := { words := s.outWords k n i, valid := true }, idle := [] : TimedFrame })
    s.setLu k { s.lu k with sent := new ++ (s.lu k).sent }
  else s

/-- Every AES3 and MADI transmitter sends frame `n`, which it plays through tick n, and the ASRC bank reads that of its outputs (R279,
R288, R292; DESIGN CHOICE, log entry 25). -/
def State.transmitAes (s : State) (n : Nat) : State :=
  let s := s.eachBelow (fun s k => s.feedAsrc n k) 8
  let s := s.eachBelow (fun s t =>
    if s.flag (AES.TX_CFG.EN t) then
      let (s, run) := s.startTx t 4 t n
      (if run then s.eachSample (fun s i => s.aesSample t n i) (s.bufS (s.rd (AES.TX_CFG.OUTBUF t))) else s).latchTx t
    else s) 8
  s.eachBelow (fun s p =>
    if s.flag (AES.MD_CFG.OUT_EN p) then
      let (s, run) := s.startTx (8 + p) 5 p n
      if run then s.eachSample (fun s i => s.madiSample p n i) (s.bufS (s.rd (AES.MD_BUF.OUTBUF p))) else s
    else s) 4

/-- AES_BLKERR: transmitter `n` has sent a Z off the 192-frame grid (R303). -/
def execAesBlkerr (n : Nat) (s : State) : Res :=
  .next (
    match (s.atxOf n).errs with
    | e :: r =>
      if n < 8 then ((s.setAtx n { s.atxOf n with errs := r }).inc (AES.TX_BLKERR.val n)).report 0x1007 (8 + n) e else s
    | [] => s)

/-! ## The ASRC bank (R309 to R313) -/

/-- Every ASRC group of a list is LOCKED (R312). -/
def State.asrcLocked (s : State) (gs : List Nat) : Bool := gs.all (fun g => s.rd (ASRC.G_STAT.STATE g) == 2)

/-- ASRC_LOCKED: the ratio of group `g` has been stable for 100 ms (R310, R311). -/
def execAsrcLocked (g ratio : Nat) (s : State) : Res :=
  .next (
    if g < 16 ∧ s.rd (ASRC.G_STAT.STATE g) = 1 ∧ ratioFits ratio then
      let s := (s.wr (ASRC.G_STAT.STATE g) 2).wr (ASRC.G_RATIO.val g) ratio
      let s := s.setLu (32 + g) ((s.lu (32 + g)).opened s.clk.now)
      (s.sqf (ASRC.G_HIST.LOCKED g)).report 0x1101 g ratio
    else s)

/-- Group `g` leaves LOCKED. -/
def State.asrcClose (s : State) (g : Nat) : State := s.setLu (32 + g) ((s.lu (32 + g)).closed s.clk.now)

/-- Group `g` enters LOST (R311). -/
def State.asrcLose (s : State) (g cause : Nat) : State :=
  (((s.asrcClose g).wr (ASRC.G_STAT.STATE g) 3).sqf (ASRC.G_HIST.LOST g)).report 0x1102 g cause

/-- ASRC_LOST: no foreign edge (cause 0), or the ratio out of range (1) (R311). -/
def execAsrcLost (g cause : Nat) (s : State) : Res :=
  .next (
    if g < 16 ∧ (s.rd (ASRC.G_STAT.STATE g) = 1 ∨ s.rd (ASRC.G_STAT.STATE g) = 2) ∧ cause < 2 then
      s.asrcLose g cause
    else s)

/-- ASRC_RELOCK: a ratio step above 200 ppm; one that leaves the range is a loss (R310, R311). -/
def execAsrcRelock (g ratio : Nat) (s : State) : Res :=
  .next (
    let old := s.rd (ASRC.G_RATIO.val g)
    if g < 16 ∧ s.rd (ASRC.G_STAT.STATE g) = 2 ∧ old * 200 < apart old ratio * 10 ^ 6 then
      if ratioFits ratio then
        let s := ((s.asrcClose g).wr (ASRC.G_STAT.STATE g) 1).wr (ASRC.G_RATIO.val g) ratio
        (s.inc (ASRC.G_STAT.RELOCK g)).sqf (ASRC.G_HIST.RELOCK g)
      else s.asrcLose g 1
    else s)

/-- ASRC_FOREIGN_EDGE_RETURN: the first foreign edge after LOST (R311). -/
def execAsrcForeignEdgeReturn (g : Nat) (s : State) : Res :=
  .next (if g < 16 ∧ s.rd (ASRC.G_STAT.STATE g) = 3 then s.wr (ASRC.G_STAT.STATE g) 1 else s)

/-- The frames that the converter's sample at cycle `t` carries: the latest that came the delay earlier, and those of the sample period
before it (R278, R299, R313; DESIGN CHOICE, log entry 25). -/
def LocalUnit.carried (x : LocalUnit) (back rate t : Nat) : List TimedFrame :=
  let past := x.hist.filter (fun y => decide (y.at_ + back ≤ t))
  past.take 1 ++ (past.drop 1).filter (fun y => decide (t < y.at_ + back + 10 ^ 9 / rate))

/-- The ASRC bank writes sample frame `i` of frame `n` of input buffer `b`, that of `port` of unit `u` by groups `gs`: valid where the unit
and its groups were LOCKED through the grid frame and the frames it carries have no error; an inactive channel is 0 (R278, R288, R299,
R306, R312). -/
def State.asrcSampleIn (s : State) (u port b n : Nat) (gs : List Nat) (i : Nat) : State :=
  let x := s.lu u
  let rate := s.luRate u
  let b0 := s.boundaryAt
  let t := b0 + i * 10 ^ 9 / rate - 10 ^ 9 / rate
  let g := gs.headD 0
  let from_ := x.carried (asrcDelay (s.rd (ASRC.G_RATIO.val g)) rate) rate t
  if x.lockedFor b0 rate i && gs.all (fun g => (s.lu (32 + g)).lockedFor b0 rate i) && from_.all (·.frame.valid) then
    let idle := ((from_.head?).map (·.idle)).getD []
    let s := (List.range (s.bufC b)).foldl (fun s c =>
      s.setSxm (s.sxmAddr b n (i * s.bufC b + c)) (if idle.contains c then 0 else s.asrcValue x.hist port (asrcGroupOf g c) c rate t)) s
    s.setValid b n i
  else s

/-- What no later grid frame or sample can depend on is dropped. -/
def LocalUnit.prune (x : LocalUnit) (now : Nat) : LocalUnit :=
  let keep := fun (y : TimedFrame) => decide (now ≤ y.at_ + 20000000)
  { x with spans := x.spans.filter (fun p => match p.2 with | none => true | some e => decide (now ≤ e + 100000)),
           hist := x.hist.filter keep, sent := x.sent.filter keep }

/-- Before the freeze of B(n), under the epoch of the tick now ending, the ASRC bank has written frame `n` of its inputs' buffers, frame by
frame on the grid (R279, R288, R289, R299, R312; DESIGN CHOICE, log entry 25). -/
def State.asrcInputs (s : State) (n : Nat) : State :=
  let s := (Cfg.asrcOwners s.live).foldl (fun s o =>
    let u := Cfg.asrcUnit s.live o
    match o with
    | (1, p, gs) =>
      let b := s.rd (SAP.P_BUF.INBUF p)
      if s.memberOpen 2 p n then s.eachBelow (fun s i => s.asrcSampleIn u p b n gs i) (s.bufS b) else s
    | (3, x, gs) =>
      let b := s.rd (AES.RX_CFG.INBUF x)
      if s.flag (AES.RX_CFG.DATA_EN x) && s.memberOpen 3 x n then
        s.eachBelow (fun s i => s.asrcSampleIn u 0 b n gs i) (s.bufS b) else s
    | (4, p, gs) =>
      let b := s.rd (AES.MD_BUF.INBUF p)
      if s.memberOpen 5 p n then s.eachBelow (fun s i => s.asrcSampleIn u 0 b n gs i) (s.bufS b) else s
    | _ => s) s
  s.eachBelow (fun s u => s.setLu u ((s.lu u).prune s.clk.now)) 48

/-! ## The muzzle and epochs (R281, R284, R289, R312) -/

/-- Output port `n` counts invalid in the muzzle: its group is not LOCKED, or an ASRC group of it is not (R284, R312). -/
def State.sapMuzzled (s : State) (n : Nat) : Bool :=
  let g := s.rd (SAP.P_CFG.GROUP n)
  !s.locked g || (s.rd (SAP.CG_CFG.MODE g) == 3 &&
    !s.asrcLocked (groupsFrom (s.rd (SAP.P_ASRC.OUTGRP n)) (s.rd (SAP.CG_CFG.SLOTS g))))

/-- The lanes of outputs that count invalid in the evaluation of frame `f`, as though MUZ had named them (R284). -/
def State.sapMarks (s : State) (f : Nat) : State :=
  ((List.range 32).filter (fun n => Cfg.sapOut s.live n && s.sapMuzzled n)).foldl (fun s n =>
    let b := s.rd (SAP.P_BUF.OUTBUF n)
    { s with marks := s.marks ++ (List.range (s.bufC b)).map (fun c => { buf := b, ch := c, frame := f % 2 ^ 32 }) }) s

/-- The registers of unit `u` whose change returns it to ACQUIRE, compared (R281). -/
def luChanged (old new : Cfg) (u : Nat) : Bool :=
  let m := Cfg.luMode new u
  let diff := fun k => Cfg.word old k != Cfg.word new k
  let (cfg, slipr) : Nat × Nat :=
    if u < 8 then (SAP.CG_CFG u, SAP.CG_SLIP u)
    else if u < 24 then (AES.RX_CFG (u - 8), AES.RX_SLIP (u - 8)) else (AES.MD_CFG (u - 24), AES.MD_SLIP (u - 24))
  diff cfg || (diff slipr && (m == 1 || m == 2))

/-- An applied epoch acts on local unit `u` (R281, R293). -/
def State.luEpoch (s : State) (old new : Cfg) (u : Nat) : State :=
  if !Cfg.luEn new u then
    if Cfg.luEn old u then
      ((s.setLu u { LocalUnit.reset with spans := ((s.lu u).closed s.clk.now).spans }).fills u).wr (luState u) 0 else s
  else if !Cfg.luEn old u || luChanged old new u then s.acquire u
  else s

/-- The input buffer of port `n`, where its direction is enabled, and whether the epoch changes what fills it (R289). -/
def sapInChanged (old new : Cfg) (n : Nat) : Bool :=
  let v := fun c => (Cfg.sapIn c n, Cfg.rd c (SAP.P_CFG.GROUP n), Cfg.rd c (SAP.P_BUF.INBUF n))
  v old != v new

/-- As above for the output direction. -/
def sapOutChanged (old new : Cfg) (n : Nat) : Bool :=
  let v := fun c => (Cfg.sapOut c n, Cfg.rd c (SAP.P_CFG.GROUP n), Cfg.rd c (SAP.P_BUF.OUTBUF n))
  v old != v new

/-- An applied epoch acts on SAP port `n` at step 3 of B(t): its input frames from t on hold nothing captured before, and the
lanes of a changed output buffer begin anew (R253, R289). -/
def State.sapEpoch (s : State) (old new : Cfg) (n : Nat) : State :=
  let s := if sapInChanged old new n then
      (let s := if Cfg.sapIn old n then s.clearBuffer (Cfg.rd old (SAP.P_BUF.INBUF n)) else s
       if Cfg.sapIn new n then s.clearBuffer (Cfg.rd new (SAP.P_BUF.INBUF n)) else s)
    else s
  if sapOutChanged old new n && Cfg.sapOut new n then
    let b := Cfg.rd new (SAP.P_BUF.OUTBUF n)
    s.freshBuffer b
  else s

/-- An applied epoch acts on ASRC group `g`: its owner and its state (R309, R311). -/
def State.asrcEpoch (s : State) (old new : Cfg) (g : Nat) : State :=
  let own := fun c => ((Cfg.asrcOwners c).find? (fun o => o.2.2.contains g)).map (fun o => (o.1, o.2.1))
  if own old = own new then s
  else
    let s := s.asrcClose g
    match own new with
    | none =>
      ((s.wr (ASRC.G_STAT.STATE g) 0).wr (ASRC.G_STAT.OWNER g) 0).wr (ASRC.G_STAT.INDEX g) 0
    | some (o, i) => ((s.wr (ASRC.G_STAT.STATE g) 1).wr (ASRC.G_STAT.OWNER g) o).wr (ASRC.G_STAT.INDEX g) i

/-- An applied epoch acts on a transmitter at B(e): it sends from frame e + 1 (R302). -/
def State.atxEpoch (s : State) (was is : Bool) (t e : Nat) : State :=
  if !was && is then s.setAtx t { AesTx.reset with start := some ((e + 1) % 2 ^ 32) }
  else if was && !is then s.setAtx t AesTx.reset
  else s

/-- An applied epoch acts on local audio at step 3 of B(e). -/
def State.localEpoch (s : State) (old new : Cfg) (e : Nat) : State :=
  let s := ((List.range 16) ++ [24, 25, 26, 27]).foldl (fun (s : State) u => s.luEpoch old new u) s
  let s := s.eachBelow (fun s n => s.sapEpoch old new n) 32
  let s := s.eachBelow (fun s g => s.asrcEpoch old new g) 16
  let s := s.eachBelow (fun s t => s.atxEpoch (Cfg.flag old (AES.TX_CFG.EN t)) (Cfg.flag new (AES.TX_CFG.EN t)) t e) 8
  let s := s.eachBelow (fun s p =>
    s.atxEpoch (Cfg.flag old (AES.MD_CFG.OUT_EN p)) (Cfg.flag new (AES.MD_CFG.OUT_EN p)) (8 + p) e) 4
  let sum := fun (on : Nat → Bool) =>
    (((List.range 32).filter on).map (fun n =>
      multOf (Cfg.rd new (SAP.CG_CFG.MULT (Cfg.rd new (SAP.P_CFG.GROUP n))))
        * Cfg.rd new (SAP.CG_CFG.SLOTS (Cfg.rd new (SAP.P_CFG.GROUP n))))).sum
  (s.wr SAP.LOAD.INLOAD (sum (Cfg.sapIn new))).wr SAP.LOAD.OUTLOAD (sum (Cfg.sapOut new))

/-- At a boundary each unit's grid instants start again (R279). -/
def State.gridBoundary (s : State) : State :=
  ((List.range 16) ++ [24, 25, 26, 27]).foldl (fun (s : State) u => s.setLu u { s.lu u with pos := 0 }) s

end Sys2Proof.Machine
end

