-- ==== Sys2Proof/Machine/Syn.lean ====
section
/-!
DEFINITION. Clock synthesis and outputs (R342 to R369): APLLs and keepers, the ramp generator, the synthesizers' dither
and the clock outputs.
-/

namespace Sys2Proof.Machine

/-! ## APLLs and keepers (R348 to R357) -/

/-- The state of APLL `x`: 0 OFF, 1 SEARCH, 2 ACQUIRE, 3 LOCKED, 4 LOST (R369). -/
def State.apll (s : State) (x : Nat) : Nat := s.rd (SYN.APLL_STAT.STATE x)

/-- Media domain `d` changes to its keeper: 0 the media domain, to K0, 1 the output domain, to K1 (R352, R353). -/
def State.keeperOn (s : State) (d : Nat) : State :=
  let f := if d = 0 then SYN.STAT.KEEPM0 else SYN.STAT.KEEPM1
  let s := if s.flag f then s else (s.wrFlag f true).sqf SYN.HIST.KEEPER
  if d = 0 then
    let s := { s with syn := { s.syn with kept0 := true } }
    if s.flag GLB.TICKSTAT.COARSE then s else (s.wrFlag GLB.TICKSTAT.COARSE true).sqf GLB.TICKHIST.COARSE
  else
    let s := s.eachBelow (fun s j =>
      if s.flag (SYN.CKO_STAT.RUNNING j) && s.rd (SYN.CKO_CFG.SRC j) == 0 then s.wrFlag (SYN.CKO_STAT.KEEPER j) true else s) 12
    { s with syn := { s.syn with kept1 := true } }

/-- The domain or the SerDes reference that APLL `x` feeds runs from its keeper or from APLL-C (R352, R355). -/
def State.keep (s : State) (x : Nat) : State :=
  if x = 2 then s.keeperOn 0 else if x = 3 then s.keeperOn 1 else if x = 1 then s.wrFlag SYN.STAT.KEEPN true else s

/-- A band search of APLL `x` starts (R348). -/
def State.search (s : State) (x : Nat) : State :=
  let s := s.wr (SYN.APLL_STAT.STATE x) 1
  { s with syn := { s.syn with search := Store.insert s.syn.search x s.clk.now } }

/-- A lock loss of APLL-N, APLL-M0 or APLL-M1: counted, reported with its kind, and a band search starts while its domain
runs from the keeper (R351, R352, R355). -/
def State.apllLoss (s : State) (x kind : Nat) : State :=
  let s := (s.inc (SYN.APLL_LOSS.val x)).sqf SYN.HIST.LOST
  let s := s.report 0x0601 x kind
  (s.search x).keep x

/-- A planned lock loss (R350). Bit 0 of its report tells a frequency error from a phase error and the spec gives no value
for a planned loss: it is open (DEDUCED, log entry 27). -/
def State.apllRelock (s : State) (x : Nat) : State :=
  let (kind, s) := s.freePick 2
  s.apllLoss x kind

/-- A measured tuning voltage `code` of APLL `x`: VTWARN while it is outside the central 80% of its range (R349). -/
def State.vtune (s : State) (x code : Nat) : State :=
  let out := decide (code % 256 * 10 < 256) || decide (256 * 9 < code % 256 * 10)
  let was := s.flag (SYN.APLL_STAT.VTWARN x)
  let s := (s.wr (SYN.APLL_STAT.VTUNE x) code).wrFlag (SYN.APLL_STAT.VTWARN x) out
  if out && !was then (s.sqf SYN.HIST.VTWARN).report 0x0603 x (code % 256) else s

/-- BAND_SEARCH_DONE: the search chooses a band, and the APLL acquires; a tuning voltage measured then may be listed
(R348, R349). Due while the APLL searches. -/
def execBandSearchDone (x band : Nat) (code : Option Nat) (s : State) : Res :=
  .next (if x < 4 ∧ s.apll x = 1 then
    let s := (s.wr (SYN.APLL_STAT.BAND x) band).wr (SYN.APLL_STAT.STATE x) 2
    match code with
    | some c => s.vtune x c
    | none => s
  else s)

/-- APLL_LOCKED: reported with its band and the µs since its search started (R348, R368). Due while it acquires. -/
def execApllLocked (x : Nat) (s : State) : Res :=
  .next (if x < 4 ∧ s.apll x = 2 then
    let us := min ((s.clk.now - (Store.find s.syn.search x).getD 0) / 1000) (2 ^ 16 - 1)
    let s := (s.wr (SYN.APLL_STAT.STATE x) 3).sqf SYN.HIST.LOCKED
    s.report 0x0602 x (s.rd (SYN.APLL_STAT.BAND x) + us * 2 ^ 8)
  else s)

/-- VTUNE_MEASURE: every 1 ms while the APLL is not OFF (R349). -/
def execVtuneMeasure (x code : Nat) (s : State) : Res := .next (if x < 4 ∧ s.apll x ≠ 0 then s.vtune x code else s)

/-- Step 1 of a boundary: what runs from a keeper returns to its APLL once that is LOCKED, and each tick that begins on K0 counts
as COARSE (R353 to R355). -/
def State.keeperReturn (s : State) : State :=
  let s := if s.flag SYN.STAT.KEEPN && s.apll 1 == 3 then s.wrFlag SYN.STAT.KEEPN false else s
  let s :=
    if s.flag SYN.STAT.KEEPM0 then
      if s.apll 2 = 3 then (s.wrFlag SYN.STAT.KEEPM0 false).wrFlag GLB.TICKSTAT.COARSE false else s.sqf GLB.TICKHIST.COARSE
    else s
  let s := if s.flag SYN.STAT.KEEPM1 && s.apll 3 == 3 then
      (s.wrFlag SYN.STAT.KEEPM1 false).eachBelow (fun s j => s.wrFlag (SYN.CKO_STAT.KEEPER j) false) 12
    else s
  { s with syn := { s.syn with kept0 := s.flag SYN.STAT.KEEPM0, kept1 := s.flag SYN.STAT.KEEPM1 } }

/-- K0 or K1 has been in use at some time in this tick (R353). -/
def State.kept (s : State) : Bool := s.syn.kept0 || s.syn.kept1

/-- The lanes of every local output count invalid in the evaluation of frame `f` (R353). -/
def State.keeperMarks (s : State) (f : Nat) : State :=
  if s.kept then
    let ms := (Cfg.localOutBufs s.live).flatMap (fun b => (List.range (s.bufC b)).map (fun c => ({ buf := b, ch := c, frame := f % 2 ^ 32 } : LaneMark)))
    { s with marks := s.marks ++ ms }
  else s

/-- The tick-n local input frames captured in a tick in which a keeper was in use are invalid (R353). -/
def State.keeperInputs (s : State) (n : Nat) (kept : Bool) : State :=
  if kept then (Cfg.localInBufs s.live).foldl (fun s b => s.eachBelow (fun s i => s.clearValid b n i) (s.bufS b)) s else s

/-! ## The ramp generator (R358 to R361) -/

/-- The ramp's contribution to y, in ppt. -/
def State.rampPpt (s : State) : Int := s.rdS SYN.RAMPPPT.val

/-- A write of RAMPCTL.GO: armed for the next boundary, or for B(RAMPAT) where that is future (R360). -/
def State.rampGo (s : State) : State :=
  let at_ := s.rd SYN.RAMPAT.val
  if s.rd SYN.RAMPCTL.START = 1 then
    if futureTick at_ s.tick then
      let s := (s.wrFlag SYN.RAMPSTAT.ARMED true).wrFlag SYN.RAMPSTAT.LATE false
      { s with syn := { s.syn with ramp := { s.syn.ramp with at_ := some at_, go := false } } }
    else
      let s := (s.wrFlag SYN.RAMPSTAT.ARMED false).wrFlag SYN.RAMPSTAT.LATE true
      { s with syn := { s.syn with ramp := { s.syn.ramp with at_ := none, go := true } } }
  else
    let s := (s.wrFlag SYN.RAMPSTAT.ARMED false).wrFlag SYN.RAMPSTAT.LATE false
    { s with syn := { s.syn with ramp := { s.syn.ramp with at_ := none, go := true } } }

/-- A write of RAMPCTL.STOP: the ramp stops at the next boundary, and a start that waits is dropped (R360; DEDUCED, log entry 27). -/
def State.rampStop (s : State) : State :=
  let s := s.wrFlag SYN.RAMPSTAT.ARMED false
  { s with syn := { s.syn with ramp := { s.syn.ramp with stop := true, go := false, at_ := none } } }

/-- The phase of the detachment in ns, rounded (R361). -/
def Ramp.phaseNs (r : Ramp) : Int := roundDiv r.phase 7056000000

/-- Detachment ends at a boundary at which the ramp is stopped with contribution 0: reported, and whether REF takes a new
zero (R361). -/
def State.rampAttach (s : State) : State × Bool :=
  if s.flag SYN.RAMPSTAT.DETACHED && !s.flag SYN.RAMPSTAT.RUNNING && s.syn.ramp.due.isNone && s.rampPpt == 0 then
    let s := (s.wrFlag SYN.RAMPSTAT.DETACHED false).sqf SYN.HIST.RAMPDONE
    (s.report 0x0604 15 (wrap32 (clampInt (-2147483648) 2147483647 s.syn.ramp.phaseNs)), true)
  else (s, false)

/-- The ramp enters segment `k` at the current boundary, and the segments of duration 0 after it, at most `fuel` of them:
a segment's values are read as it is entered (R358, R359). -/
def State.enterSegment (s : State) (k : Nat) : Nat → State
  | 0 => s
  | fuel + 1 =>
    let d := s.rd (SYN.SEG_DUR.val k)
    let t := s.rdS (SYN.SEG_TGT.val k)
    let last := s.flag (SYN.SEG_DUR.LAST k) || k == 15
    let s := if s.flag SYN.RAMPCTL.DETACH && !s.flag SYN.RAMPSTAT.DETACHED then
        let s := (s.wrFlag SYN.RAMPSTAT.DETACHED true).wr SYN.RAMPPHASE.val 0
        { s with syn := { s.syn with ramp := { s.syn.ramp with phase := 0 } } }
      else s
    let s := (s.wr SYN.RAMPSTAT.SEG k).wrFlag SYN.RAMPSTAT.RUNNING (!(d == 0 && last))
    let v0 := s.rampPpt
    let s := { s with syn := { s.syn with ramp := { s.syn.ramp with v0 := v0, i := 0, tgt := t, dur := d, last := last, due := none } } }
    if d = 0 then
      let s := s.wrS SYN.RAMPPPT.val t
      if last then s else State.enterSegment s (k + 1) fuel
    else s

/-- The segment that is due at the current boundary is entered (R358). -/
def State.enterDue (s : State) : State :=
  match s.syn.ramp.due with
  | some k => s.enterSegment k 16
  | none => s

/-- The phase that the contribution of the tick just ended has moved the media clock (R361). -/
def State.rampPhase (s : State) : State :=
  if s.flag SYN.RAMPSTAT.DETACHED then
    let add := s.rampPpt * Int.ofNat (s.tickLen * (7056000 / s.fs))
    let s := { s with syn := { s.syn with ramp := { s.syn.ramp with phase := s.syn.ramp.phase + add } } }
    s.wrS SYN.RAMPPHASE.val (clampInt (-2147483648) 2147483647 s.syn.ramp.phaseNs)
  else s

/-- The segment in progress advances by one boundary (R359). -/
def State.rampAdvance (s : State) : State :=
  let r := s.syn.ramp
  if s.flag SYN.RAMPSTAT.RUNNING then
    let i := r.i + 1
    let s := s.wrS SYN.RAMPPPT.val (roundDiv (r.v0 * Int.ofNat r.dur + (r.tgt - r.v0) * Int.ofNat i) r.dur)
    let due := if i = r.dur ∧ ¬ r.last then some (s.rd SYN.RAMPSTAT.SEG + 1) else none
    let s := { s with syn := { s.syn with ramp := { s.syn.ramp with i := i, due := due } } }
    if i = r.dur ∧ r.last then s.wrFlag SYN.RAMPSTAT.RUNNING false else s
  else s

/-- A tick ends for the ramp, under the epoch of that tick. A segment left due by the boundary before is entered first, as at that boundary
(R361; DEDUCED, log entry 27). -/
def State.rampEnd (s : State) : State := s.enterDue.rampPhase

/-- The ramp at boundary B(n), before any segment due there is entered (R359, R360). -/
def State.rampBoundary (s : State) (n : Nat) : State :=
  let s := if s.syn.ramp.stop then
      let s := s.wrFlag SYN.RAMPSTAT.RUNNING false
      { s with syn := { s.syn with ramp := { s.syn.ramp with stop := false, due := none } } }
    else s.rampAdvance
  if s.syn.ramp.go || s.syn.ramp.at_ == some n then
    let s := s.wrFlag SYN.RAMPSTAT.ARMED false
    { s with syn := { s.syn with ramp := { s.syn.ramp with go := false, at_ := none, due := some 0 } } }
  else s

/-! ## The synthesizers (R338, R343 to R345) -/

/-- One step of the dither LFSR (R345). -/
def ncsStep (l : Nat) : Nat :=
  let f := (l / 2 ^ 23 + l / 2 ^ 22 + l / 2 ^ 21 + l / 2 ^ 16) % 2
  (l * 2 + f) % 2 ^ 24

/-- The seed that a dither register names: SEED or the low bits of the die serial, 0 replaced by 1 (R345). -/
def State.ncsSeed (s : State) (w : Nat) : Nat :=
  let v := if bit w 30 then s.num GLB.SERIALLO % 2 ^ 24 else w % 2 ^ 24
  if v = 0 then 1 else v

/-- The DCO's 48-bit frequency word for total steering `y` (R338). -/
def dcoWord (y : Int) : Nat := wrapN 48 (roundDiv (2 ^ 47 * (10 ^ 12 + y)) (10 ^ 12))

/-- D = D_nom × 2^47 / W in units of 2^-40 APLL-C VCO periods, for a nominal output of `hz` (R342, R343). -/
def ncsDivider (hz word : Nat) : Nat := 5000000000 * 2 ^ 87 / (hz * word)

/-- One output period: the second-order modulator takes D, and with dither one unit of 2^-40 more or less, and chooses a whole number of VCO
periods (R343, R345; the modulator's form is a DEDUCED, log entry 27). -/
def Ncs.step (x : Ncs) (d : Nat) (dither : Bool) : Ncs :=
  let i := if dither then (if x.lfsr % 2 = 1 then d + 1 else d - 1) else d
  let s1 := x.acc1 + i % 2 ^ 40
  let s2 := x.acc2 + s1 % 2 ^ 40
  { x with lfsr := ncsStep x.lfsr, acc1 := s1 % 2 ^ 40, acc2 := s2 % 2 ^ 40, carry := s2 / 2 ^ 40,
           period := i / 2 ^ 40 + s1 / 2 ^ 40 + s2 / 2 ^ 40 - x.carry }

/-- `n` output periods. -/
def Ncs.run (d : Nat) (dither : Bool) : Nat → Ncs → Ncs
  | 0, x => x
  | n + 1, x => Ncs.run d dither n (x.step d dither)

/-- The output periods of `parts` × 2^-40 of one pass, at a nominal output of `hz`. -/
def Ncs.pass (x : Ncs) (hz parts : Nat) (dither : Bool) : Ncs :=
  let all := x.part + parts
  Ncs.run (ncsDivider hz x.word) dither (all / 2 ^ 40) { x with part := all % 2 ^ 40 }

/-- NCS-M's nominal output: 512 × fs (R342). -/
def State.ncsHz (s : State) : Nat := 512 * s.fs

/-- NCS-N's nominal output in Hz (R342). -/
def ncsnHz : Nat := 39062500

/-- NCS-M and NCS-N run on by `pm` and `pn` output periods in units of 2^-40. -/
def State.ncsPass (s : State) (pm pn : Nat) : State :=
  { s with syn := { s.syn with ncsM := s.syn.ncsM.pass s.ncsHz pm (s.flag SYN.NCSM_DITH.EN),
                               ncsN := s.syn.ncsN.pass ncsnHz pn (s.flag SYN.NCSN_DITH.EN) } }

/-- The tick that ends: 512 periods of NCS-M for each base-rate sample, and the periods of NCS-N in that time under the words in force
(R342 to R345). -/
def State.ncsTick (s : State) : State :=
  s.ncsPass (512 * s.tickLen * 2 ^ 40) (ncsnHz * s.tickLen * 2 ^ 40 * s.syn.ncsN.word / (s.fs * s.syn.ncsM.word))

/-- The time before the first tick, from the lock of APLL-C, at the nominal rates (R342, R345). -/
def State.ncsStart (s : State) : State :=
  s.ncsPass (s.clk.now * s.ncsHz * 2 ^ 40 / 10 ^ 9) (s.clk.now * ncsnHz * 2 ^ 40 / 10 ^ 9)

/-- The frequency words for total steering `y`, and `yn` at NCS-N, take effect (R338, R343, R344). -/
def State.ncsSteer (s : State) (y yn : Int) : State :=
  { s with syn := { s.syn with ncsM := { s.syn.ncsM with word := dcoWord y }, ncsN := { s.syn.ncsN with word := dcoWord yn } } }

/-! ## Clock outputs (R362 to R366) -/

/-- Output `j` starts at a boundary: its divider starts with a rising edge after the delay (R364). -/
def State.ckoStart (s : State) (j : Nat) : State :=
  let s := (s.wrFlag (SYN.CKO_STAT.RUNNING j) true).wr (SYN.CKO_STAT.DELNOW j) (s.rd (SYN.CKO_CFG.DELAY j))
  s.wrFlag (SYN.CKO_STAT.KEEPER j) (s.rd (SYN.CKO_CFG.SRC j) == 0 && s.flag SYN.STAT.KEEPM1)

/-- Output `j` completes its high phase and holds low (R366). -/
def State.ckoHalt (s : State) (j : Nat) : State :=
  (s.wrFlag (SYN.CKO_STAT.RUNNING j) false).wrFlag (SYN.CKO_STAT.KEEPER j) false

/-- An applied epoch at output `j` (R364, R366). -/
def State.ckoEpoch (s : State) (old new : Cfg) (j : Nat) : State :=
  let was := Cfg.flag old (SYN.CKO_CFG.EN j)
  let is := Cfg.flag new (SYN.CKO_CFG.EN j)
  let moved := Cfg.rd old (SYN.CKO_CFG.SRC j) != Cfg.rd new (SYN.CKO_CFG.SRC j) || Cfg.rd old (SYN.CKO_DIV.DIVM1 j) != Cfg.rd new (SYN.CKO_DIV.DIVM1 j)
  if is && !was then s.ckoStart j
  else if was && !is then s.ckoHalt j
  else if is && moved then
    let s := s.ckoHalt j
    { s with syn := { s.syn with restart := NatSet.add s.syn.restart j } }
  else s

/-- The outputs whose SRC or DIV changed at the boundary before start again, unless disabled since (R366). -/
def State.ckoRestart (s : State) : State :=
  let s := s.syn.restart.foldl (fun s j => if s.flag (SYN.CKO_CFG.EN j) then s.ckoStart j else s) s
  { s with syn := { s.syn with restart := [] } }

/-- CKO_DELAY_STEP: an output period of output `j` ends, and its delay moves one step towards DELAY (R365). -/
def execCkoDelayStep (j : Nat) (s : State) : Res :=
  .next (if j < 12 ∧ s.flag (SYN.CKO_STAT.RUNNING j) then
    let now := s.rd (SYN.CKO_STAT.DELNOW j)
    let goal := s.rd (SYN.CKO_CFG.DELAY j)
    if now < goal then s.wr (SYN.CKO_STAT.DELNOW j) (now + 1)
    else if goal < now then s.wr (SYN.CKO_STAT.DELNOW j) (now - 1)
    else s
  else s)

/-- An applied epoch at the synthesizers: outputs that changed start, seeds are loaded, and a change of family sends both
media domains to their keepers while their APLLs relock (R345, R357, R364, R366; DEDUCED, log entry 27). Outputs left to restart by
the epoch before start first. -/
def State.synEpoch (s : State) (old new : Cfg) : State :=
  let s := s.eachBelow (fun s j => s.ckoEpoch old new j) 12
  let wm := Cfg.word new SYN.NCSM_DITH
  let wn := Cfg.word new SYN.NCSN_DITH
  let s := if Cfg.word old SYN.NCSM_DITH ≠ wm then { s with syn := { s.syn with ncsM := { s.syn.ncsM with lfsr := s.ncsSeed wm } } } else s
  let s := if Cfg.word old SYN.NCSN_DITH ≠ wn then { s with syn := { s.syn with ncsN := { s.syn.ncsN with lfsr := s.ncsSeed wn } } } else s
  if Cfg.rd old GLB.MEDIA.FAMILY ≠ Cfg.rd new GLB.MEDIA.FAMILY then
    let s := ((s.inc (SYN.APLL_LOSS.val 2)).search 2).keep 2
    ((s.inc (SYN.APLL_LOSS.val 3)).search 3).keep 3
  else s

/-- NCS-N's clamp for total steering `y`, in ppt: each rising edge of NETCLAMP is reported (R344). The report's y in ppm is
rounded toward minus infinity (DEDUCED, log entry 27). -/
def State.netClamp (s : State) (y : Int) : State :=
  let cap : Int := Int.ofNat (s.rd SYN.NCSN_CFG.NETCAP) * 1000000
  let clamped := decide (cap < y) || decide (y < -cap)
  let was := s.flag SYN.STAT.NETCLAMP
  let s := s.wrFlag SYN.STAT.NETCLAMP clamped
  if clamped && !was then (s.sqf SYN.HIST.NETCLAMP).report 0x0605 15 (wrap32 (y / 1000000)) else s

/-- The steering that NCS-N uses for total steering `y` (R344). -/
def State.yNet (s : State) (y : Int) : Int :=
  let cap : Int := Int.ofNat (s.rd SYN.NCSN_CFG.NETCAP) * 1000000
  clampInt (-cap) cap y

end Sys2Proof.Machine
end

