-- ==== Sys2Proof/Machine/Boot.lean ====
section
/-!
DEFINITION. Resets and the start of the device (R461, R513, R537 to R540, R551 to R559), with the monitor (R582 to R584, R593).
-/

namespace Sys2Proof.Machine

/-! ## Resets (R551 to R555) -/

/-- The device held in reset: every register, table and memory at its reset value but what R554 keeps, and the levels of input balls.
An interrupted FUSE burn leaves the integrity word mismatched (R543, R554, R555; DESIGN CHOICE, log entry 38). -/
def State.holdReset (s : State) : State :=
  let keep := s.word EVT.LASTFATAL
  let t : State :=
    { State.reset with
      fuse := if s.upd.burn.isEmpty then s.fuse else { s.fuse with torn := true }, flash := s.flash, ret := s.ret,
      mon := s.mon, boot := { Boot.reset with hot := s.boot.hot }, pair := { Pair.reset with pin := s.pair.pin }, free := s.free,
      out := s.out, pending := s.pending }
  t.setWord EVT.LASTFATAL keep

/-- A FATAL fault: LASTFATAL is written, and the device resets itself (R513). -/
def State.fatal (s : State) (cause unit : Nat) : State := s.holdReset.setNum EVT.LASTFATAL (2 ^ 31 + unit * 2 ^ 8 + cause)

/-- PIN_RESET: RESET_N low for at least 2 µs (R552). -/
def execPinReset (s : State) : Res := .next s.holdReset

/-- POWER_LOSS: PWR_GOOD falls or a rail is removed; the retention store and LASTFATAL are cleared (R551, R554). -/
def execPowerLoss (s : State) : Res :=
  let t := s.holdReset
  .next ({ t with ret := Retention.reset, mon := Mon.reset, boot := Boot.reset }.setWord EVT.LASTFATAL 0)

/-! ## Boot progress (R556 to R558) -/

/-- GLB.BOOTSTAT.STAGE. -/
def State.stage (s : State) : Nat := s.rd GLB.BOOTSTAT.STAGE

/-- STAGE is entered, with the ms since the release of RESET_N (R564). -/
def State.enterStage (s : State) (st : Nat) : State :=
  (s.wr GLB.BOOTSTAT.STAGE st).wr GLB.BOOTSTAT.MS (min (s.clk.now / 10 ^ 6) 65535)

/-- The supply test of step 7 of R528: HOLDUP_OK asserted and no rail below its margin. -/
def State.supplyOk (s : State) : Bool := s.mon.holdup && !anyBelow (fun k => s.flag (MON.RAIL.LOW k)) 9

/-- UPD's registers follow the BOOT record: staging state, versions, OWNER_LOCK and LOCKSEQ (R524, R548). -/
def State.showRecord (s : State) : State :=
  let r := s.flash.record
  let v := hdrVersion (Memory.bytes s.flash.staging 0 512)
  let s := s.wr UPD.STAT.STAGE r.stage
  let s := s.wr UPD.STGVER.val (if r.stage = 3 ∨ r.stage = 5 then v else 0)
  (s.wrFlag UPD.CTL.OWNER r.owner).wr UPD.LOCKSEQ.val r.lockseq

/-- The BOOT record is written. -/
def State.putRecord (s : State) (r : BootRec) : State := { s with flash := s.flash.write r }.showRecord

/-- Zeroization completes: the secrets are gone and the retention store is cleared (R519, R545). -/
def State.zeroize (s : State) : State := { s with fuse := s.fuse.zeroize, ret := Retention.reset }

/-- Steps 3 to 5 of R545 at a start that finds ZEROIZED, once HOLDUP_OK is asserted: the lifecycle is burnt to OPENED, and ROM resets. -/
def State.finishOpening (s : State) : State :=
  let s := s.zeroize
  { s with fuse := { s.fuse with lc := 3 } }.holdReset

/-- A start finds ZEROIZED in PROVISIONED or FIELD (R545). -/
def State.openingLeft (s : State) : Bool := s.fuse.zeroized && (s.fuse.lc == 1 || s.fuse.lc == 2)

/-- Recovery mode is entered (R539). -/
def State.recoveryMode (s : State) : State := (s.wrFlag UPD.STAT.RECOVERY true).enterStage 5

/-- ROM steps 2 to 5: memories and idle programs stand at their reset values, and BOOT_SRC is acted on (R539, R553, R556). -/
def State.romInit (s : State) : State :=
  let s : State := { s with boot := { s.boot with ready := true, hot := false } }
  match s.rd GLB.STRAPS.BOOT_SRC with
  | 0 => if s.ret.fails = 3 then s.recoveryMode else s.enterStage 2
  | 1 => s.enterStage 4
  | _ => s.recoveryMode

/-- ROM step 1: what the fuses give (R517, R520, R521, R556, R560, R564). -/
def State.senseFuses (s : State) : State :=
  let f := s.fuse
  let s := s.setNum GLB.ID f.idWord
  let s := (s.setNum GLB.SERIALLO f.serial).setNum GLB.SERIALHI (f.serial / 2 ^ 32)
  let s := s.setNum GLB.UNITCAP f.unitcap
  let s := s.wr GE.PRESENT.val (s.rd GLB.UNITCAP.ENGINES)
  let s := if s.flag GLB.UNITCAP.PORT25G then s else (s.wr (NET.CFG.RATE 0) 2).wr (NET.CFG.RATE 1) 2
  let s := s.wr DRAM.CFG.SIZE (s.rd GLB.UNITCAP.DRAMMAX)
  let s := s.setNum SEC.LC f.lcWord
  let s := (s.wrFlag SEC.PAIRSTAT.KEY s.ret.key.isSome).wrFlag SEC.PAIRSTAT.WEAK (f.lc == 0 || f.root.isNone)
  let s := match f.seed with
    | some seed => (List.range 24).foldl (fun (s : State) i => s.setNum (SEC.ATTPUB i) (leWord (Config.attestPub seed) (4 * i))) s
    | none => s
  let s := (s.setNum PAIR.VOTESEQLO s.ret.seq).setNum PAIR.VOTESEQHI (s.ret.seq / 2 ^ 32)
  (s.wr UPD.BOOT.FAILS s.ret.fails).showRecord

/-- RESET_RELEASE: the reset ends with straps `straps` (as GLB.STRAPS) and the I/O banks at 3.3 V in `banks`, and ROM runs its first steps
(R461, R553, R556, R575, R583). APLLs begin their band searches (R348). -/
def execResetRelease (straps banks : Nat) (s : State) : Res :=
  .next (
    if s.boot.held then
      let s : State := { s with boot := { s.boot with held := false }, clk := { s.clk with now := 0 } }
      let s := (s.setNum GLB.STRAPS (straps % 2 ^ 8 &&& 0xFB)).senseFuses
      let s := s.wrFlag GLB.BOOTSTAT.STRAPERR
        (s.rd GLB.STRAPS.BOOT_SRC == 3 || (s.flag GLB.STRAPS.PAIR_HINT && !s.flag GLB.UNITCAP.PAIRLINK))
      let s := s.eachBelow (fun s k => s.wrFlag (MON.RAIL.BANK33 (5 + k)) (bit banks k)) 4
      let s := s.eachBelow (fun s x => s.search x) 4
      let s := s.enterStage 1
      if s.fuse.lc = 4 then (s.enterStage 8).wr GLB.BOOTSTAT.HALTCAUSE 1
      else if s.fuse.torn then (s.enterStage 8).wr GLB.BOOTSTAT.HALTCAUSE 2
      else if s.openingLeft then (if s.mon.holdup then s.finishOpening else s)
      else if s.boot.hot then s
      else s.romInit
    else s)

/-- ROM hands over to RUNTIME firmware: the boot watchdog starts, and the version of the running image shows. The version of the stock
library is the image's and open (R538, R556, R161; DESIGN CHOICE, log entry 7). -/
def State.handOver (s : State) (version : Nat) : State :=
  let (lib, s) := s.freeWord
  let s := (s.wr UPD.ACTVER.val version).setWord GE.LIBVER lib
  let s : State := { s with boot := { s.boot with watch := some s.clk.now } }
  s.enterStage 6

/-- The BOOT record calls for a copy of STAGING, which may start only while HOLDUP_OK is asserted: a COPYING record waits for it, a VERIFIED
one is left for another start (R537). -/
def State.copyCalled (s : State) : Bool :=
  let r := s.flash.record
  r.copying || (r.stage == 3 && s.mon.holdup)

/-- ROM starts copying STAGING, verified (R537). -/
def State.copyStart (s : State) : State := (s.putRecord { s.flash.record with copying := true }).enterStage 3

/-- ROM has copied STAGING into ACTIVE and verified it there (R537). A copy made in recovery mode ends in a reset and clears the count of
failed boots (R539; DESIGN CHOICE, log entry 38). -/
def State.copyDone (s : State) : State :=
  let s : State := { s with flash := { s.flash with active := s.flash.staging } }
  let s := s.putRecord { s.flash.record with copying := false, stage := 5 }
  if s.flag UPD.STAT.RECOVERY then { s with ret := { s.ret with fails := 0 } }.holdReset else s.enterStage 2

/-- ROM_VERIFY_DONE: ROM completes the verification it is at: of STAGING before a copy, of ACTIVE after one, or of ACTIVE before the
handover (R537, R539). -/
def execRomVerifyDone (s : State) : Res :=
  .next (
    match s.stage with
    | 2 =>
      if s.copyCalled then
        if s.fuse.verify s.flash.staging false ≠ 0 then s.putRecord { s.flash.record with copying := false, stage := 4 }
        else if s.mon.holdup then s.copyStart
        else s
      else if s.fuse.verify s.flash.active false = 0 then s.handOver (hdrVersion (Memory.bytes s.flash.active 0 512))
      else s.recoveryMode
    | 3 => if s.mon.holdup then s.copyDone else s
    | 5 =>
      if (s.flash.record.stage = 3 ∨ s.flash.record.copying) ∧ s.mon.holdup ∧ s.rd UPD.STAT.SRC = 0 ∧ s.fuse.verify s.flash.staging false = 0 then
        s.copyStart
      else s
    | _ => s)

/-- BOOTOK: the firmware's write ends boot, stops the watchdog and clears the count of failed boots (R538, R558). -/
def State.bootOk (s : State) : State :=
  let s : State := { s with boot := { s.boot with watch := none }, ret := { s.ret with fails := 0 } }
  let s := s.wr UPD.BOOT.FAILS 0
  if s.stage = 6 then s.enterStage 7 else s

/-- BOOTOK (R538): due from the handover on. -/
def execBootok (s : State) : Res := .next (if s.stage = 6 ∨ s.stage = 7 then s.bootOk else s)

/-- BOOT_WATCHDOG_EXPIRE: 4 s after the handover without BOOTOK, ROM counts the failure and resets the device (R538). -/
def execBootWatchdogExpire (s : State) : Res :=
  .next (match s.boot.watch with
    | some t =>
      if t + 4 * 10 ^ 9 ≤ s.clk.now then { s with ret := { s.ret with fails := min (s.ret.fails + 1) 3 } }.holdReset else s
    | none => s)

/-! ## The pair hello (R461) -/

/-- The die serial. -/
def State.serial (s : State) : Nat := s.rd GLB.SERIALHI.val * 2 ^ 32 + s.rd GLB.SERIALLO.val

/-- PAIR_HELLO: the partner's hello gives its serial, whether it ticks, and its tick index. Due before the first tick, with PAIR_HINT. -/
def execPairHello (serial : Nat) (ticks : Bool) (index : Nat) (s : State) : Res :=
  .next (
    if !s.boot.held && s.pairHint && !s.ticking && !s.boot.alone then
      { s with boot := { s.boot with hello := some (serial, ticks, index % 2 ^ 32) } }
    else s)

/-- PAIR_HELLO_TIMEOUT: no partner has answered within 100 ms of the release of RESET_N. -/
def execPairHelloTimeout (s : State) : Res :=
  .next (
    if !s.boot.held && s.pairHint && !s.ticking && s.boot.hello.isNone && decide (10 ^ 8 ≤ s.clk.now) then
      { s with boot := { s.boot with alone := true } }
    else s)

/-- The index of the first tick, where it may come now: 0 alone, 0 for the lower serial of two that do not tick, and t + 1 at the
boundary of a partner that ticks (R461, R557). -/
def State.firstIndex (s : State) : Option Nat :=
  if !s.pairHint || s.boot.alone then some 0
  else match s.boot.hello with
    | some (_, true, t) => some ((t + 1) % 2 ^ 32)
    | some (serial, false, _) => if s.serial < serial then some 0 else none
    | none => none

/-! ## Supplies, temperature and wear (R582 to R584, R593) -/

/-- Operating minimum, nominal value and maximum of rail `k` in mV (R581); an I/O bank's follow its voltage. -/
def State.railRange (s : State) (k : Nat) : Nat × Nat × Nat :=
  match k with
  | 0 => (720, 750, 780)
  | 1 => (820, 850, 880)
  | 2 => (1060, 1100, 1170)
  | 3 => (570, 600, 650)
  | 4 => (1710, 1800, 1890)
  | _ => if s.flag (MON.RAIL.BANK33 k) then (3135, 3300, 3465) else (1710, 1800, 1890)

/-- MON_RAIL_MEASURE: rail `k` measures `mv`; `long` tells that a trip condition has lasted 10 µs (R582, R583). -/
def execMonRailMeasure (k mv : Nat) (long : Bool) (s : State) : Res :=
  .next (
    if k < 9 ∧ s.boot.held = false then
      let (lo, nom, hi) := s.railRange k
      if long ∧ (mv * 100 + 3 * nom < lo * 100 ∨ hi * 100 + 3 * nom < mv * 100) then s.fatal 6 0x15
      else
        let low := decide (mv * 100 < lo * 100 + 2 * nom)
        let was := s.flag (MON.RAIL.LOW k)
        let s := (s.wr (MON.RAIL.MV k) mv).wrFlag (MON.RAIL.LOW k) low
        if low && !was then (s.sqf MON.HIST.SUPPLY_LOW).report 0x1501 k mv else s
    else s)

/-- MON_TEMP_MEASURE: Tj measures `tj`, in 0.1 °C (R583). After a thermal trip ROM goes on once Tj is below 100 °C. -/
def execMonTempMeasure (tj : Int) (s : State) : Res :=
  .next (
    if s.boot.held then s
    else if 1150 < tj ∧ !s.boot.hot then
      let s : State := { s with boot := { s.boot with hot := true } }
      s.fatal 6 0x15
    else
      let was := s.rdS MON.TEMP.TJ
      let warn := s.rdS MON.TWARN.WARN
      let s := s.wrS MON.TEMP.TJ tj
      let s := if s.rdS MON.TEMP.TMAX < tj then s.wrS MON.TEMP.TMAX tj else s
      let s := if was < warn ∧ warn ≤ tj then (s.sqf MON.HIST.TWARN).report 0x1502 0 (wrap32 tj) else s
      if s.boot.hot && decide (tj < 1000) && s.stage == 1 && !s.openingLeft then s.romInit else s)

/-- MON_HOLDUP: HOLDUP_OK has been low for 1 µs (R584). -/
def execMonHoldup (s : State) : Res :=
  .next (
    if s.mon.holdup then
      let s : State := { s with mon := { s.mon with holdup := false } }
      if s.boot.held then s else (s.sqf MON.HIST.HOLDUP).report 0x1504 0 s.tick
    else s)

/-- HOLDUP_ASSERT: HOLDUP_OK has been high for 1 µs. A zeroization that waited completes, and a copy that waited may start (R537, R545). -/
def execHoldupAssert (s : State) : Res :=
  .next (
    let s : State := { s with mon := { s.mon with holdup := true } }
    if !s.boot.held && s.openingLeft then s.finishOpening else s)

/-- MON_WEAR: the wear monitor reports DEGR `d` (R593). -/
def execMonWear (d : Nat) (s : State) : Res :=
  .next (
    if s.boot.held then s
    else
      let s := s.wr MON.WEAR.DEGR d
      if 3000 ≤ d % 2 ^ 16 ∧ !s.mon.wear then
        let s : State := { s with mon := { s.mon with wear := true } }
        (s.sqf MON.HIST.WEAR).report 0x1503 0 (d % 2 ^ 16)
      else s)

/-! ## Loss of an APLL (R351, R356) -/

/-- APLL_LOST: the clock monitor finds APLL `x` out of lock, for a phase (0) or frequency (1) error. Loss of APLL-C is FATAL. -/
def execApllLost (x kind : Nat) (s : State) : Res :=
  .next (
    if x < 4 ∧ s.apll x = 3 then (if x = 0 then s.fatal 1 6 else s.apllLoss x (kind % 2)) else s)

end Sys2Proof.Machine
end

