-- ==== Sys2Proof/Machine/Dram.lean ====
section
/-!
DEFINITION. External memory (R431 to R449): training and figures, engine transactions, delay lines, the cue player, the
capture ring, and missed deadlines.
-/

namespace Sys2Proof.Machine

/-! ## The interface (R431, R432, R435) -/

/-- MT/s of a RATE code (R431). -/
def dramRate (r : Nat) : Nat := if r = 0 then 3200 else if r = 1 then 3733 else 4266

/-- B of a configuration, in bytes per second times 7: 7/8 of the raw figure with ECC (R431). -/
def Cfg.dramB7 (c : Cfg) : Nat :=
  let raw := 4 * dramRate (Cfg.rd c DRAM.CFG.RATE) * 10 ^ 6
  if Cfg.flag c DRAM.CFG.ECC then raw * 7 * 7 / 8 else raw * 7

/-- The usable capacity of a configuration, in 4 KiB units (R431). -/
def Cfg.dramUsable (c : Cfg) : Nat :=
  let raw := 2 ^ (18 + Cfg.rd c DRAM.CFG.SIZE)
  if Cfg.flag c DRAM.CFG.ECC then raw * 7 / 8 else raw

/-- E: fetch-ticket sets whose engine has a reservation, a braced engine counting 2 (R435). -/
def Cfg.ticketSets (c : Cfg) : Nat :=
  ((Cfg.engines c).map (fun e =>
    if Cfg.rd c (DRAM.RESV.UNITS e) = 0 then 0 else if bit (Cfg.rd c GE.BRACE.val) (e / 2) then 2 else 1)).sum

/-- T_DRAM of a configuration in cycles: 580 + ceil(1,536 E / b), b being B in bytes per core cycle (R435). -/
def Cfg.tdram (c : Cfg) : Nat := 580 + ceilDiv (1536 * Cfg.ticketSets c * 7 * 10 ^ 9) (Cfg.dramB7 c)

/-- DRAM_TRAINED: training completes (R432). -/
def execDramTrained (s : State) : Res :=
  .next (if s.flag DRAM.CFG.EN ∧ ¬ s.flag DRAM.STAT.TRAINED ∧ s.flag GLB.UNITCAP.DRAMCTL then
    let s := (s.wrFlag DRAM.STAT.TRAINED true).wr DRAM.STAT.USABLE (Cfg.dramUsable s.live)
    (s.sqf DRAM.HIST.TRAINED).report 0x1201 0 s.tick
  else s)

/-- DRAM_TRANSACTION_COMPLETE: transaction `i` of engine `e` completes, no earlier one to an overlapping range being in flight, and
frees its ticket, which a PUT that waits for one takes; `bad` lists the places of uncorrectable words and `corr` counts corrected ones (R74, R137, R437). -/
def execDramTransactionComplete (e i : Nat) (bad : List Nat) (corr : Nat) (s : State) : Res :=
  .next (
    let x := s.engine e
    match x.tickets[i]? with
    | some t =>
      if e < 16 ∧ mayComplete x.tickets i then
        let ecc := s.flag DRAM.CFG.ECC
        let bad := if ecc && !t.put then bad.filter (fun j => decide (j < t.dram.length)) else []
        let s := s.dramCorr (if ecc then corr else 0)
        let s := bad.foldl (fun s j => s.dramUncorr 0 (t.dram.getD j 0 / 4096)) s
        let s := s.setFilled e { s.engine e with tickets := x.tickets.eraseIdx i }
        s.completeTicket e t bad
      else s
    | none => s)

/-! ## Clients and deadlines (R434, R436) -/

/-- The work of client `c` on line or flow `i` is done for this tick. -/
def State.served (s : State) (c i : Nat) : State :=
  { s with mem := { s.mem with due := NatSet.drop s.mem.due (fun k => k == clientKey c i) } }

/-- The work of client `c` on line or flow `i` is still to be done in this tick. -/
def State.isDue (s : State) (c i : Nat) : Bool := NatSet.has s.mem.due (clientKey c i)

/-- The key of a destination sample frame of this tick in `Clients.bad`. -/
def badKey (b i : Nat) : Nat := b * 1024 + i

/-- Sample frame `i` of buffer `b` will be invalid in the frame that this tick's work fills. -/
def State.markBad (s : State) (b i : Nat) : State := { s with mem := { s.mem with bad := NatSet.add s.mem.bad (badKey b i) } }

/-- Every sample frame of buffer `b` will be invalid. -/
def State.markAllBad (s : State) (b : Nat) : State := s.eachBelow (fun s i => s.markBad b i) (s.bufS b)

/-- A guaranteed client misses its deadline: counted and recorded (R436). -/
def State.countLate (s : State) (c : Nat) : State :=
  ((s.inc (DRAM.LATE.val c)).sqf DRAM.HIST.LATE).report 0x1203 c ((s.tick + 1) % 2 ^ 32)

/-! ## Delay lines (R438 to R440) -/

/-- The key of a slot of delay line `i`'s valid map. -/
def dlKey (i slot : Nat) : Nat := i * 2 ^ 21 + slot

/-- One source sample of line `i` goes into the ring, with its valid bit: sample `j` of the frame of tick `n` (R439). -/
def State.dlWrite (s : State) (i n j : Nat) : State :=
  let b := s.rd (DL.SRCBUF i)
  let slot := (n * s.bufS b + j) % 2 ^ (s.rd (DL.LOG2 i))
  let ok := s.isValid b n j
  let (w, s) := s.readSample b n j (s.rd (DL.SRCCH i))
  let k := dlKey i slot
  { s with dram := Memory.setWord s.dram (s.rd (DL.RBASE i) * 4096 + slot * 4) w,
           mem := { s.mem with dlValid := if ok then NatSet.add s.mem.dlValid k else NatSet.drop s.mem.dlValid (fun x => x == k) } }

/-- One destination sample of line `i`: sample `j` of frame `f` carries the source sample D earlier (R439); `bad` marks it
uncorrectable (R437). -/
def State.dlRead (s : State) (i f j : Nat) (bad : Bool) : State :=
  let b := s.rd (DL.DSTBUF i)
  let m := 2 ^ (s.rd (DL.LOG2 i))
  let slot := (f * s.bufS b + j + m * 2 ^ 21 - s.rd (DL.D i)) % m
  let s := if bad then s.dramUncorr 1 (s.rd (DL.RBASE i) + slot * 4 / 4096) else s
  let ok := NatSet.has s.mem.dlValid (dlKey i slot) && !bad && !NatSet.has s.mem.dlSkip i
  let s := s.setSxm (s.sxmAddr b f (j * s.bufC b + s.rd (DL.DSTCH i))) (Memory.word s.dram (s.rd (DL.RBASE i) * 4096 + slot * 4))
  if ok then s else s.markBad b j

/-- The source frame of tick `n` never reached the ring of line `i`: its slots hold no valid sample (R436, R439; DEDUCED, log entry 80). -/
def State.dlMiss (s : State) (i n : Nat) : State :=
  let c := s.bufS (s.rd (DL.SRCBUF i))
  let m := 2 ^ s.rd (DL.LOG2 i)
  { s with mem := { s.mem with dlValid := NatSet.drop s.mem.dlValid (fun k => anyBelow (fun j => k == dlKey i ((n * c + j) % m)) c) } }

/-- DELAY_LINE_SERVICE: line `i` writes the source frame of this tick and reads the destination frame of the next; `bad` lists the
destination samples that held an uncorrectable word, and `corr` words were corrected (R437, R439). -/
def execDelayLineService (i : Nat) (bad : List Nat) (corr : Nat) (s : State) : Res :=
  .next (if s.ticking ∧ s.isDue 1 i then
    let n := s.tick
    let ecc := s.flag DRAM.CFG.ECC
    let bad := if ecc then bad else []
    let s := s.dramCorr (if ecc then corr else 0)
    let s := s.eachBelow (fun s j => s.dlWrite i n j) (s.bufS (s.rd (DL.SRCBUF i)))
    let s := s.eachBelow (fun s j => s.dlRead i ((n + 1) % 2 ^ 32) j (bad.contains j)) (s.bufS (s.rd (DL.DSTBUF i)))
    let s : State := { s with mem := { s.mem with dlSkip := NatSet.drop s.mem.dlSkip (fun x => x == i) } }
    s.served 1 i
  else s)

/-- An applied epoch at line `i`: a change of its source, ring size or base, or its enabling, clears its valid map, and a change of D
alone makes its next frame invalid (R440). -/
def State.dlEpoch (s : State) (old new : Cfg) (i : Nat) : State :=
  let ch := fun (f : Fld) => Cfg.rd old f != Cfg.rd new f
  if !Cfg.flag new (DL.EN i) then
    { s with mem := { s.mem with dlValid := NatSet.drop s.mem.dlValid (fun k => k / 2 ^ 21 == i) } }
  else if !Cfg.flag old (DL.EN i) || ch (DL.SRCBUF i) || ch (DL.SRCCH i) || ch (DL.LOG2 i) || ch (DL.RBASE i) then
    { s with mem := { s.mem with dlValid := NatSet.drop s.mem.dlValid (fun k => k / 2 ^ 21 == i) } }
  else if ch (DL.D i) then { s with mem := { s.mem with dlSkip := NatSet.add s.mem.dlSkip i } }
  else s

/-! ## The cue player (R442 to R445) -/

/-- Voice `v` behind its status. -/
def State.voice (s : State) (v : Nat) : Voice := Store.get (fun _ => Voice.reset) s.mem.voices v

/-- The state with voice `v` at `x`. -/
def State.setVoice (s : State) (v : Nat) (x : Voice) : State :=
  { s with mem := { s.mem with voices := Store.set (fun _ => Voice.reset) s.mem.voices v x } }

/-- Voice `v` is to start at tick `t` (R443). -/
def State.voiceAt (s : State) (v t : Nat) : State :=
  if s.flag (VT.EN v) then
    let x := s.voice v
    (s.setVoice v { x with start := some (t % 2 ^ 32) }).wr (VS.STATE v) 1
  else s

/-- CUE.VCMD.GO in tick n: voice `v` starts at n + 2 (R443). -/
def State.voiceGo (s : State) (v : Nat) : State := s.voiceAt v (s.tick + 2)

/-- A ramp of a voice from its current gain starts: to `target`, over RAMP samples. -/
def Voice.rampTo (x : Voice) (target : Int) (ramp : Nat) : Voice := { x with g0 := x.gain, target := target, ramp := ramp, at_ := 0 }

/-- CUE.VCMD.STOP: the gain ramps to 0 and the voice is then DONE; a voice that waits is DONE at once (R443; DEDUCED, log entry 30). -/
def State.voiceStop (s : State) (v : Nat) : State :=
  let x := s.voice v
  if x.on then (s.setVoice v { x.rampTo 0 (s.rd (VT.RAMP v)) with stopping := true }).wr (VS.STATE v) 3
  else if x.start.isSome then (s.setVoice v { x with start := none }).wr (VS.STATE v) 4
  else s

/-- The gain of a voice at the sample about to be played: linear, the target after RAMP samples (R443; DEDUCED, log entry 30). -/
def Voice.gainNow (x : Voice) : Int :=
  if x.ramp ≤ x.at_ then x.target else x.g0 + roundDiv ((x.target - x.g0) * Int.ofNat x.at_) x.ramp

/-- Voice `v` takes its clip and starts playing, for frame `f` (R443). -/
def State.voiceBegin (s : State) (v f : Nat) : State :=
  let g := s.rdS (VT.GAIN v)
  let fade := s.flag (VT.FADEIN v)
  let x := s.voice v
  let x := { x with on := true, base := s.rd (VT.CLIPBASE v) * 4096, len := s.rd (VT.LEN v), loopStart := s.rd (VT.LOOPSTART v),
                    loopEnd := s.rd (VT.LOOPEND v), pos := 0, loops := 0, gain := if fade then 0 else g,
                    g0 := if fade then 0 else g, target := g, ramp := if fade then s.rd (VT.RAMP v) else 0, at_ := 0,
                    stopping := false, ends := none, start := some f }
  s.setVoice v x

/-- The herd that starts voice `v` with frame `f` (R259, R443). -/
def State.voiceHerd (s : State) (v f : Nat) : Bool :=
  (List.range 16).any (fun k => s.startKnown k == some f && s.herdEn k && (Cfg.herdMembers s.live k).contains (6, v))

/-- One sample of a playing voice: its container, and the voice after it; `last` says that it ends with this sample. -/
def State.voiceSample (s : State) (v : Nat) (x : Voice) : Nat × Voice × Bool :=
  let g := x.gainNow
  let w := signed32 (Memory.word s.dram (x.base + x.pos * 4))
  let y := wrap32 (sat32 ((w * g + 2 ^ 27) / 2 ^ 28))
  let faded := x.stopping && decide (x.ramp ≤ x.at_ + 1)
  let wraps := s.flag (VT.LOOP v) && x.pos + 1 == x.loopEnd
  let ended := !wraps && decide (x.len ≤ x.pos + 1)
  let x := { x with gain := g, at_ := x.at_ + 1, pos := if wraps then x.loopStart else x.pos + 1,
                    loops := if wraps then x.loops + 1 else x.loops }
  (y, x, faded || ended)

/-- Sample `j` of frame `f` of voice `v`, `bad` telling that its clip word is uncorrectable; a voice that is not playing writes 0 (R437, R443,
R444). -/
def State.voiceFrame (s : State) (v f j : Nat) (bad : Bool) : State :=
  let b := s.rd CUE.CFG.OUTBUF
  let x := s.voice v
  let a := s.sxmAddr b f (j * s.bufC b + v)
  if x.on then
    let s := if bad then (s.dramUncorr 3 ((x.base + x.pos * 4) / 4096)).markBad b j else s
    let (y, z, ends) := s.voiceSample v x
    let z := if ends then { z with on := false, start := none, ends := some (f, !z.stopping || decide (z.len ≤ z.pos)) } else z
    (s.setVoice v z).setSxm a y
  else s.setSxm a 0

/-- The status words of voice `v` after a frame is read (R445). -/
def State.voiceStatus (s : State) (v : Nat) : State :=
  let x := s.voice v
  ((s.wr (VS.POS v) x.pos).wrS (VS.GAIN v) x.gain).wr (VS.LOOPS v) x.loops

/-- The cue player's work of a tick: the next frame of every voice; `bad` lists voice and sample of uncorrectable words (R443). -/
def State.cueRead (s : State) (bad : List (Nat × Nat)) : State :=
  let f := (s.tick + 1) % 2 ^ 32
  let n := s.bufS (s.rd CUE.CFG.OUTBUF)
  s.eachBelow (fun s v =>
    let s := if s.flag (VT.EN v) && (((s.voice v).start == some f && s.memberOpen 6 v f) || s.voiceHerd v f) then s.voiceBegin v f else s
    let s := s.eachBelow (fun s j => s.voiceFrame v f j (bad.contains (v, j))) n
    s.voiceStatus v) 256

/-- VOICE_SAMPLE_READ: the cue player reads the clips of the next frame; `bad` lists voice and sample of uncorrectable words, and
`corr` words were corrected (R437, R443, R444). -/
def execVoiceSampleRead (bad : List (Nat × Nat)) (corr : Nat) (s : State) : Res :=
  .next (if s.ticking ∧ s.isDue 3 0 then
    let ecc := s.flag DRAM.CFG.ECC
    ((s.dramCorr (if ecc then corr else 0)).cueRead (if ecc then bad else [])).served 3 0
  else s)

/-- VOICE_START: tick S comes, and voice `v` plays its first sample (R443, R445). -/
def execVoiceStart (v : Nat) (s : State) : Res :=
  .next (
    let x := s.voice v
    match x.start with
    | some t =>
      if v < 256 ∧ x.on ∧ s.ticking ∧ ¬ futureTick t s.tick then
        let s := s.setVoice v { x with start := none }
        (s.wr (VS.STATE v) (if x.stopping then 3 else 2)).wr (VS.S v) t
      else s
    | none => s)

/-- CUE_VOICE_DONE: the frame in which voice `v` ended is played; a voice that reached the end of its clip is recorded, one stopped is
not (R443, R448). -/
def execCueVoiceDone (v : Nat) (s : State) : Res :=
  .next (
    let x := s.voice v
    match x.ends with
    | some (f, natural) =>
      if v < 256 ∧ ¬ futureTick f s.tick then
        let s := (s.setVoice v { x with ends := none }).wr (VS.STATE v) 4
        if natural then (s.sqf CUE.HIST.VOICEDONE).report 0x1301 v x.pos else s
      else s
    | none => s)

/-- An applied epoch at voice `v`: one disabled stops, as does one that its herd now holds before the first start, and a change of GAIN starts a
new ramp from the current gain (R259, R262, R443). -/
def State.voiceEpoch (s : State) (old new : Cfg) (v : Nat) : State :=
  let held := !s.memberOpen 6 v s.tick && (s.voice v).on
  if !(Cfg.flag new (VT.EN v) && Cfg.flag new CUE.CFG.EN) || held then
    if Cfg.flag old (VT.EN v) || held then (s.setVoice v Voice.reset).wr (VS.STATE v) 0 else s
  else
    let x := s.voice v
    if Cfg.rd old (VT.GAIN v) != Cfg.rd new (VT.GAIN v) && x.on && !x.stopping then
      s.setVoice v (x.rampTo (s.rdS (VT.GAIN v)) (s.rd (VT.RAMP v)))
    else s

/-! ## The capture ring (R446, R447) -/

/-- The enabled capture sources, ascending. -/
def Cfg.capSources (c : Cfg) : List Nat := (List.range 8).filter (fun i => Cfg.flag c (CUE.CAPSRC.EN i))

/-- CH: the channels of a record (R446). -/
def Cfg.capChannels (c : Cfg) : Nat := ((Cfg.capSources c).map (fun i => Cfg.rd c (CUE.CAPNCH.NCH i))).sum

/-- The bytes of a record (R446). -/
def Cfg.capBytes (c : Cfg) : Nat := 32 + 4 * Cfg.capChannels c * (multOf (Cfg.rd c CUE.CAPCTL.MULT) * Cfg.tickLen c)

/-- A recording begins anew (R446, R447). -/
def State.capReset (s : State) : State :=
  let s := ((s.wr CUE.CAPWRPTR.val 0).wr CUE.CAPRECS.val 0).wrFlag CUE.CAPSTAT.FULL false
  { s with mem := { s.mem with capSeq := 0, capDrops := 0, capPos := 0 } }

/-- CAPCTL.GO: recording starts with the tick after the next boundary; a recording that runs goes on until there (R447; DEDUCED, log entry
80). -/
def State.capGo (s : State) : State :=
  if s.flag CUE.CAPCTL.EN then
    let s := if s.flag CUE.CAPSTAT.RUNNING then s else s.capReset
    { s with mem := { s.mem with capAt := some ((s.tick + 1) % 2 ^ 32), capStop := false } }
  else s

/-- CAPCTL.STOP: recording ends after the record in progress (R447). -/
def State.capStopped (s : State) : State := { s with mem := { s.mem with capStop := s.flag CUE.CAPSTAT.RUNNING, capAt := none } }

/-- The containers of source `i` in a record of tick `n`: in R26 order, 0 in invalid sample frames (R446). -/
def State.capData (s : State) (i n : Nat) : List Nat :=
  let b := s.rd (CUE.CAPSRC.BUFID i)
  let c0 := s.rd (CUE.CAPSRC.FIRST i)
  (List.range (s.bufS b)).flatMap (fun j =>
    (List.range (s.rd (CUE.CAPNCH.NCH i))).map (fun c =>
      if s.isValid b n j then s.sxmWord (s.sxmAddr b n (j * s.bufC b + c0 + c)) else 0))

/-- The words of the record of tick `n` (R446). -/
def State.capRecord (s : State) (n : Nat) : List Nat :=
  let src := Cfg.capSources s.live
  let d := s.mem.capDrops
  let valid := (src.map (fun i => if s.frameValid (s.rd (CUE.CAPSRC.BUFID i)) n then 2 ^ i else 0)).sum
  [ (if 0 < d then 2 ^ 31 else 0) + Cfg.capChannels s.live % 2 ^ 10, n, s.rd TIME.BNS.val, s.mem.capSeq % 2 ^ 32, d % 2 ^ 32, valid,
    0, 0 ] ++ src.flatMap (fun i => s.capData i n)

/-- Words stored in the capture ring from byte offset `p` on, wrapping at its length (R446). -/
def State.capStore (s : State) (base len p : Nat) : List Nat → State
  | [] => s
  | w :: ws => State.capStore { s with dram := Memory.setWord s.dram (base + p % len) w } base len (p + 4) ws

/-- Recording ends after a STOP, once its record is done (R447). -/
def State.capEnd (s : State) : State :=
  if s.mem.capStop then
    let s := s.wrFlag CUE.CAPSTAT.RUNNING false
    { s with mem := { s.mem with capStop := false } }
  else s

/-- A record that cannot enter the staging store is dropped (R436). -/
def State.capGap (s : State) : State :=
  let s := (s.inc CUE.CAPDROP.val).served 5 0
  let s : State := { s with mem := { s.mem with capDrops := s.mem.capDrops + 1 } }
  ((s.sqf CUE.HIST.GAP).report 0x1302 0 s.mem.capDrops).capEnd

/-- CAPTURE_RECORD: the record of this tick is written, where the staging store has `room` for it; a ONESHOT ring stops before it would
overwrite its first record (R436, R446, R447). -/
def execCaptureRecord (room : Bool) (s : State) : Res :=
  .next (if s.ticking ∧ s.isDue 5 0 then
    if room then
      let len := s.rd CUE.CAPLEN.val * 4096
      let size := Cfg.capBytes s.live
      let p := s.mem.capPos
      if !s.flag CUE.CAPCTL.MODE && decide (len < p + size) then
        let s := ((s.served 5 0).wrFlag CUE.CAPSTAT.RUNNING false).wrFlag CUE.CAPSTAT.FULL true
        let s : State := { s with mem := { s.mem with capStop := false } }
        (s.sqf CUE.HIST.FULL).report 0x1303 0 (s.rd CUE.CAPRECS.val)
      else
        let s := s.capStore (s.rd CUE.CAPBASE.val * 4096) (max len 4) p (s.capRecord s.tick)
        let s := (s.wr CUE.CAPWRPTR.val (if len = 0 then 0 else (p + size) % len)).inc CUE.CAPRECS.val
        let s : State := { s with mem := { s.mem with capSeq := s.mem.capSeq + 1, capDrops := 0, capPos := p + size } }
        (s.served 5 0).capEnd
    else s.capGap
  else s)

/-! ## Deadlines -/

/-- The work of client `c` on line or flow `i` misses its deadline: the frames concerned are invalid, with the ring slots that a delay line's source
frame did not reach, and voices go on in time; a capture record is dropped, and late host DMA is only counted (R436, R441, R444; DEDUCED, log entry
80). -/
def State.missDeadline (s : State) (c i : Nat) : State :=
  if c = 5 then s.capGap
  else
    let s := (s.countLate c).served c i
    if c = 1 then (s.dlMiss i s.tick).markAllBad (s.rd (DL.DSTBUF i))
    else if c = 3 then (s.cueRead []).markAllBad (s.rd CUE.CFG.OUTBUF)
    else s

/-- DRAM_LATE: a client misses its deadline. Due for work of this tick not yet done, and for host DMA at any time (R436). -/
def execDramLate (c i : Nat) (s : State) : Res :=
  .next (if s.ticking ∧ (s.isDue c i ∨ c = 4) then s.missDeadline c i else s)

/-- Work still undone at the deadline, step 5 of the next boundary, has missed it (R434). -/
def State.missAll (s : State) : State := s.mem.due.foldl (fun s k => s.missDeadline (k / 2 ^ 20) (k % 2 ^ 20)) s

/-- The frames of tick `n` that delay lines and the cue player have delivered become valid, sample frame by sample frame (R439,
R444). A DEEP ring's slot of tick `n`, moved or not, begins to fill anew (R190). -/
def State.memFreeze (s : State) (n : Nat) : State :=
  let s := s.missAll
  let s := ((Cfg.rxFlows s.live).filter (fun i => s.flag (FT.DEEP i))).foldl (fun s i => s.clearDeep (s.rd (FT.BUFID i)) n) s
  let bufs := (Cfg.delayBufs s.live).eraseDups ++ Cfg.cueBufs s.live
  let s := bufs.foldl (fun s b =>
    s.eachBelow (fun s j => if NatSet.has s.mem.bad (badKey b j) then s else s.setValid b n j) (s.bufS b)) s
  { s with mem := { s.mem with bad := [] } }

/-- The work that the clients have in tick `n`, from its boundary on (R434). Channels of a delay buffer that no line writes hold 0
(R439). -/
def State.memStart (s : State) (n : Nat) : State :=
  let trained := s.flag DRAM.STAT.TRAINED
  let run := s.flag CUE.CAPSTAT.RUNNING || s.mem.capAt == some n
  let s := if s.mem.capAt == some n then
      let s := s.capReset.wrFlag CUE.CAPSTAT.RUNNING true
      { s with mem := { s.mem with capAt := none } }
    else s
  let ks := (Cfg.delayLines s.live).map (clientKey 1) ++ ((Cfg.rxFlows s.live).filter (fun i => s.flag (FT.DEEP i))).map (clientKey 2)
    ++ (if s.flag CUE.CFG.EN then [clientKey 3 0] else []) ++ (if run then [clientKey 5 0] else [])
  let f := (n + 1) % 2 ^ 32
  let s := (Cfg.delayBufs s.live).eraseDups.foldl (fun s b =>
    s.eachBelow (fun s x => s.setSxm (s.sxmAddr b f x) 0) (s.bufS b * s.bufC b)) s
  { s with mem := { s.mem with due := if trained then ks.foldl NatSet.add [] else [] } }

/-- An applied epoch at external memory and its clients (R432, R435, R440, R443, R447). -/
def State.memEpoch (s : State) (old new : Cfg) : State :=
  let en := Cfg.flag new DRAM.CFG.EN
  let s := if en && Cfg.flag old DRAM.CFG.EN then s else (s.wrFlag DRAM.STAT.TRAINED false).wr DRAM.STAT.USABLE 0
  let s := s.wr DRAM.TDRAM.val (if en then Cfg.tdram new else 0)
  let s := ((Cfg.delayLines old ++ Cfg.delayLines new).eraseDups).foldl (fun s i => s.dlEpoch old new i) s
  let s := ((Cfg.voices old ++ Cfg.voices new).eraseDups).foldl (fun s v => s.voiceEpoch old new v) s
  if Cfg.flag new CUE.CAPCTL.EN then s
  else
    let s := s.wrFlag CUE.CAPSTAT.RUNNING false
    { s with mem := { s.mem with capAt := none, capStop := false } }

end Sys2Proof.Machine
end

