-- ==== Sys2Proof/Machine/Eim.lean ====
section
/-!
DEFINITION. The edge interval meter (R370 to R381).
-/

namespace Sys2Proof.Machine

/-- The meter starts measuring (R377). -/
def State.eimStart (s : State) : State :=
  let s := (s.wrFlag EIM.STAT.BUSY true).wrFlag EIM.STAT.ARMHELD false
  { s with eim := { s.eim with since := s.clk.now, held := false } }

/-- REF takes the meter for input `k`, or waits for the measurement in progress (R379). -/
def State.eimForRef (s : State) (k : Nat) : State :=
  if s.flag EIM.STAT.BUSY || s.eim.forRef.isSome then { s with eim := { s.eim with waits := s.eim.waits ++ [k] } }
  else
    let s := s.wrFlag EIM.STAT.REFUSE true
    { s with eim := { s.eim with forRef := some k } }

/-- The meter is free of a software measurement: REF's first waiting one starts (R337, R379). -/
def State.eimNext (s : State) : State :=
  match s.eim.waits with
  | k :: r =>
    if s.flag EIM.STAT.BUSY || s.eim.forRef.isSome then s
    else
      let s : State := { s with eim := { s.eim with waits := r } }
      s.eimForRef k
  | [] => s

/-! ## The stop edges (R372, R375) -/

/-- The core clock's count in units of 1/1024 ns. -/
def State.stamp (s : State) : Int := Int.ofNat (s.clk.now * 1024)

/-- A stop edge arrives now: the enabled meter keeps its timestamp (R375). Two are kept, so that the latest one before a start is known when
the edge that ends the measurement has come. -/
def State.noteStop (s : State) : State :=
  if s.flag EIM.CFG.EN then { s with eim := { s.eim with stops := (s.stamp :: s.eim.stops).take 2 } } else s

/-- At a boundary, TICK delivers an edge (R372). -/
def State.eimTick (s : State) : State := if s.rd EIM.CFG.STOPSRC = 5 then s.noteStop else s

/-- The latest stop edge at or before `start`: of MEDIA the base-rate instants, of PPS the rollovers of the second, of any other source
the edges kept (R372, R375; DEDUCED, log entry 28). -/
def State.latestStop (s : State) (start : Int) : Option Int :=
  match s.rd EIM.CFG.STOPSRC with
  | 4 =>
    let b := Int.ofNat (s.boundaryAt * 1024)
    if start < b then none
    else
      let j := (start - b) * Int.ofNat s.fs / (1024 * 10 ^ 9)
      some (b + j * (1024 * 10 ^ 9) / Int.ofNat s.fs)
  | 6 => some (start - (Int.ofNat (s.timeNs * 1024) - (s.stamp - start)) % (1024 * 10 ^ 9))
  | _ => s.eim.stops.find? (fun p => decide (p ≤ start))

/-- 2^31 ns in units of 1/1024 ns. -/
def stopReach : Int := 2 ^ 31 * 1024

/-- The interval t_stop − t_start of a start edge that the first stop edge after it follows, now, by `t` ≥ 0, or that the stop edge before it
leads by −t: the nearer stop edge, the later where both lie equally near, an earlier one no more than 2^31 ns before the start; none
where an earlier edge lies farther back (R375). -/
def State.eimInterval (s : State) (t : Int) : Option Int :=
  if t < 0 then (if t < -stopReach then none else some t)
  else
    match s.latestStop (s.stamp - t) with
    | some p =>
      let d := s.stamp - t - p
      some (if d ≤ stopReach ∧ d < t then -d else t)
    | none => some t

/-- A write of EIM.CTL.ARM: false where it is refused because the meter is BUSY (R379). An ARM of a disabled meter does nothing
(DEDUCED, log entry 28). -/
def State.eimArm (s : State) : State × Bool :=
  if s.flag EIM.STAT.BUSY then (s, false)
  else if !s.flag EIM.CFG.EN then (s, true)
  else if s.flag EIM.STAT.REFUSE then
    let s := s.wrFlag EIM.STAT.ARMHELD true
    ({ s with eim := { s.eim with held := true } }, true)
  else (s.eimStart, true)

/-- A write of EIM.CTL.STOP: the measurement in progress, or an ARM that waits, is abandoned (R379). -/
def State.eimStop (s : State) : State :=
  let s := (s.wrFlag EIM.STAT.BUSY false).wrFlag EIM.STAT.ARMHELD false
  let s : State := { s with eim := { s.eim with held := false } }
  s.eimNext

/-- RESFRAC of a result. -/
def resFrac (valid order coincident timeout cal : Bool) (frac : Nat) : Nat :=
  (if valid then 2 ^ 31 else 0) + (if order then 2 ^ 30 else 0) + (if coincident then 2 ^ 29 else 0)
    + (if timeout then 2 ^ 28 else 0) + (if cal then 2 ^ 27 else 0) + frac % 2 ^ 10

/-- A result is written, RESSEQ advances, and a SINGLE measurement ends (R377, R378). -/
def State.eimWrite (s : State) (ns frac edges : Nat) : State :=
  let s := ((s.wr EIM.RESNS.val ns).setNum EIM.RESFRAC frac).wr EIM.RESEDGES.val edges
  let s := s.inc EIM.RESSEQ.val
  let s : State := { s with eim := { s.eim with since := s.clk.now } }
  let s := if bit frac 30 then s.sqf EIM.HIST.ORDER else s
  let s := if bit frac 29 then s.sqf EIM.HIST.COINCIDENT else s
  if s.rd EIM.CFG.MODE = 0 then (s.wrFlag EIM.STAT.BUSY false).eimNext else s

/-- |t| is below 8 ps, for an interval in 1/1024 ns. -/
def coincident (t : Int) : Bool := decide (t.natAbs * 1000 < 8 * 1024)

/-- A pair of edges an interval `t` apart, in 1/1024 ns, measured with the loop locked at both when `cal` (R374, R376). The
value of a discarded measurement is open (DEDUCED, log entry 28). -/
def State.eimPair (s : State) (t : Int) (cal : Bool) : State :=
  if coincident t then s.eimWrite 0 (resFrac cal false true false (!cal) 0) 0
  else if t < 0 ∧ ¬ s.flag EIM.CFG.SIGNED then
    let (ns, s) := s.freeWord
    let (frac, s) := s.freeWord
    s.eimWrite ns.toNat (resFrac false true false false (!cal) frac.toNat) 0
  else s.eimWrite (wrap32 (t / 1024)) (resFrac cal (decide (t < 0)) false false (!cal) (t % 1024).toNat) 0

/-- EIM_RESULT: the start edge and a stop edge about it, or the gate with its count of edges, of the measurement in progress (R375 to R378).
Due while a measurement is armed or running. -/
def execEimResult (interval : Int) (edges : Nat) (cal : Bool) (s : State) : Res :=
  .next (if s.flag EIM.STAT.BUSY then
    if s.rd EIM.CFG.MODE = 2 then
      s.eimWrite (wrap32 (interval / 1024)) (resFrac cal false false false (!cal) (interval % 1024).toNat) edges
    else
      match s.eimInterval interval with
      | some t => (if interval < 0 then s else s.noteStop).eimPair t cal
      | none => s
  else s)

/-- EIM_TIMEOUT: no result within TIMEOUT ms of the ARM or of the result before (R378). The value written with VALID 0 is open
(DEDUCED, log entry 28). -/
def execEimTimeout (s : State) : Res :=
  .next (if s.flag EIM.STAT.BUSY ∧ s.rd EIM.TIMEOUT.MS ≠ 0 ∧ s.rd EIM.TIMEOUT.MS * 1000000 ≤ s.clk.now - s.eim.since then
    let (ns, s) := s.freeWord
    let (frac, s) := s.freeWord
    let s := s.eimWrite ns.toNat (resFrac false false false true false frac.toNat) 0
    (s.sqf EIM.HIST.TIMEOUT).report 0x0703 0 (s.rd EIM.RESSEQ.val)
  else s)

/-- EIM_CAL_LOST: the calibration loop loses lock (R374). -/
def execEimCalLost (s : State) : Res :=
  .next (if s.flag EIM.STAT.CALLOCK then
    let t := ((s.wrFlag EIM.STAT.CALLOCK false).sqf EIM.HIST.CALLOST).report 0x0701 0 s.tick
    { t with eim := { t.eim with lost := true } }
  else s)

/-- EIM_CAL_LOCKED: the calibration loop locks, after APLL-C; a lock after a loss is reported (R374). -/
def execEimCalLocked (s : State) : Res :=
  .next (if s.apll 0 = 3 ∧ ¬ s.flag EIM.STAT.CALLOCK then
    let t := s.wrFlag EIM.STAT.CALLOCK true
    if t.eim.lost then
      let t := t.report 0x0702 0 t.tick
      { t with eim := { t.eim with lost := false } }
    else t
  else s)

/-- REF's measurement ends, and an ARM that waited starts, else REF's next one (R379). -/
def State.eimRelease (s : State) : State :=
  let s := s.wrFlag EIM.STAT.REFUSE false
  let s : State := { s with eim := { s.eim with forRef := none } }
  if s.eim.held then s.eimStart else s.eimNext

end Sys2Proof.Machine
end

