-- ==== Sys2Proof/Machine/Ref.lean ====
section
/-!
DEFINITION. Reference selection, qualification, holdover and steering (R317 to R341).
-/

namespace Sys2Proof.Machine

/-! ## Inputs (R317 to R325) -/

/-- Reference input `k` behind its registers. -/
def State.refIn (s : State) (k : Nat) : RefIn := Store.get (fun _ => RefIn.reset) s.ref.ins k

/-- The state with reference input `k` at `x`. -/
def State.setRefIn (s : State) (k : Nat) (x : RefIn) : State :=
  { s with ref := { s.ref with ins := Store.set (fun _ => RefIn.reset) s.ref.ins k x } }

/-- QSTATE of input `k` (R320): 0 OFF, 1 INACTIVE, 2 MEASURING, 3 QUALIFIED, 4 DEGRADED, 5 DISQUALIFIED. -/
def State.qstate (s : State) (k : Nat) : Nat := s.rd (REF.IN_STAT.QSTATE k)

/-- Input `k` is QUALIFIED or DEGRADED. -/
def State.refGood (s : State) (k : Nat) : Bool := s.qstate k == 3 || s.qstate k == 4

/-- The state of REF (R330): 0 FREERUN, 1 ACQUIRE, 2 LOCKED, 3 SWITCHING, 4 HOLDOVER, 5 HOLDOVER_EXPIRED. -/
def State.refState (s : State) : Nat := s.rd REF.STATUS.STATE

/-- The selected input; 15 is none. -/
def State.refSel (s : State) : Nat := s.rd REF.STATUS.SEL

/-- Input `k` is an edge input, measured at a slicer (R317). -/
def edgeInput (k : Nat) : Bool := k == 4 || k == 6 || k == 7 || k == 8

/-- QR of an SSM code under option I or II (R319). -/
def ssmRank (opt2 : Bool) (code : Nat) : Nat :=
  if opt2 then
    match code with
    | 0x1 => 14 | 0x7 => 11 | 0x4 => 10 | 0xD => 9 | 0xA => 7 | 0xC => 6 | 0xE => 5 | 0x0 => 4 | _ => 0
  else
    match code with
    | 0x2 => 14 | 0x4 => 12 | 0x8 => 10 | 0xB => 6 | _ => 0

/-- QR of a clockClass (R319). -/
def classRank (c : Nat) : Nat :=
  if c = 6 then 14 else if c = 13 then 13 else if c = 7 then 12 else if c = 14 then 11
  else if c = 52 ∨ c = 58 ∨ c = 187 ∨ c = 193 then 8 else if c = 248 then 4 else if c = 255 then 0 else 2

/-- The quality rank of input `k` now (R319). -/
def State.qualityOf (s : State) (k : Nat) : Nat :=
  let cfg := s.rd (REF.IN_CFG.QLCFG k)
  if k < 2 then
    if s.rd (REF.IN_CFG.ACCMAX k) < s.rd (TIME.PTP_PARENT.ACCURACY k) then 0 else classRank (s.rd (TIME.PTP_PARENT.CLASS k))
  else if k < 4 then
    match (s.refIn k).ssm with
    | some (code, at_) => if s.clk.now - at_ < 5 * 10 ^ 9 then ssmRank (s.flag (REF.IN_CFG.SSMOPT k)) code else 0
    | none => 0
  else if k = 5 then
    match s.rd (AES.RX_STAT.GRADE 0) with
    | 1 => 10 | 2 => 8 | 0 => 0 | _ => cfg
  else if k = 9 then
    let w := s.ref.mate
    if bits w 11 9 = 2 ∧ bits w 15 12 ≠ 9 then bits w 19 16 else 0
  else cfg

/-- Input `k` goes to MEASURING (R321, R322, R328): it is restoring, and a measurement starts. -/
def State.measuring (s : State) (k : Nat) : State :=
  let s := ((s.wr (REF.IN_STAT.QSTATE k) 2).wr (REF.IN_STAT.CAUSE k) 0).wrFlag (REF.IN_STAT.RESTORING k) true
  let s := ((s.wr (REF.IN_D1.val k) 0).wr (REF.IN_D10.val k) 0).wr (REF.IN_D100.val k) 0
  let x := s.refIn k
  s.setRefIn k { x with had := true, secs := 0, ofs := [], overOfs := 0, overDrift := 0, overRate := false, glitches := [],
                        glitched := false, clear := 0, soft := 0, wtr := 0 }

/-- Input `k` goes to QUALIFIED: recorded with its QR (R320, R340). -/
def State.qualified (s : State) (k : Nat) : State :=
  let s := (s.wr (REF.IN_STAT.QSTATE k) 3).sqf (REF.IN_HIST.QUALIFIED k)
  let s := if s.refSel = k then s.wrFlag REF.STATUS.DEGRADED false else s
  s.report 0x0504 k (s.qualityOf k)

/-- Input `k` goes to DISQUALIFIED for a cause (R322). -/
def State.disqualify (s : State) (k cause : Nat) : State :=
  let s := (s.wr (REF.IN_STAT.QSTATE k) 5).wr (REF.IN_STAT.CAUSE k) cause
  let s := if s.refSel = k then s.wrFlag REF.STATUS.DEGRADED false else s
  let x := s.refIn k
  let s := s.setRefIn k { x with clear := 0 }
  let s := (s.sqf (REF.IN_HIST.DISQUALIFIED k)).sqf REF.HIST.DISQUAL
  let s := s.report 0x0503 k cause
  if cause = 5 then
    let s := (s.sqf (REF.IN_HIST.RATE_CHANGE k)).sqf REF.HIST.RATE_CHANGE
    s.report 0x0505 k (s.rd (REF.IN_RATE.val k))
  else s

/-- The drift rate over `w` seconds of the measured offsets in ppt/s, once w + 1 seconds are held (R318). -/
def RefIn.drift (x : RefIn) (w : Nat) : Option Int :=
  match x.ofs[0]?, x.ofs[w]? with
  | some a, some b => some (roundDiv ((a - b) * 1000) w)
  | _, _ => none

/-- Some drift rate held exceeds its limit in 10 ppt/s (R322, R323). -/
def overLimit (d : Option Int) (limit : Nat) : Bool :=
  match d with
  | some v => decide (limit * 10 < v.natAbs)
  | none => false

/-- DWELL of input `k`, at least one second (R322). -/
def State.dwell (s : State) (k : Nat) : Nat := max (s.rd (REF.IN_LIM.DWELL k)) 1

/-- The nominal rate of edge input `k` as a fraction: NOMNUM / NOMDEN edges a second, the rate of the family for a NOMNUM of 0 (R318). -/
def State.nominal (s : State) (k : Nat) : Nat × Nat :=
  let n := s.rd (REF.IN_NOMNUM.val k)
  if n = 0 then (s.fs, 1) else (n, s.rd (REF.IN_NOMDEN.val k))

/-- The measured rate in 0.01 Hz of edge input `k` whose mean offset from nominal is `ofs` ppb (R318). -/
def State.edgeRate (s : State) (k : Nat) (ofs : Int) : Nat :=
  let (n, d) := s.nominal k
  (roundDiv (100 * Int.ofNat n * (10 ^ 9 + ofs)) (d * 10 ^ 9)).toNat

/-- One second of measurement of input `k`: its offset in ppb, its measured rate in 0.01 Hz, the drift rates, and the runs of
seconds past and within the limits (R318, R322, R323, R328). -/
def State.measure (s : State) (k : Nat) (ofs : Int) : State :=
  let x := s.refIn k
  let x := { x with ofs := (ofs :: x.ofs).take 101, secs := x.secs + 1 }
  let d1 := x.drift 1
  let d10 := x.drift 10
  let d100 := x.drift 100
  let past := decide (s.rd (REF.IN_LIM.OFSLIM k) < ofs.natAbs)
  let hard := overLimit d1 (s.rd (REF.IN_DRIFT1.HARD k)) || overLimit d10 (s.rd (REF.IN_DRIFT10.HARD k))
    || overLimit d100 (s.rd (REF.IN_DRIFT100.HARD k))
  let soft := overLimit d1 (s.rd (REF.IN_DRIFT1.SOFT k)) || overLimit d10 (s.rd (REF.IN_DRIFT10.SOFT k))
    || overLimit d100 (s.rd (REF.IN_DRIFT100.SOFT k))
  let fast := decide (5000000 < ofs.natAbs)
  let absent := match s.rd (REF.IN_STAT.CAUSE k) with
    | 2 => !x.glitched
    | 3 => !past
    | 4 => !hard
    | _ => !fast
  let good := s.refGood k
  let x := { x with overOfs := if past then x.overOfs + 1 else 0, overDrift := if hard then x.overDrift + 1 else 0,
                    overRate := fast, glitched := false, clear := if absent then x.clear + 1 else 0,
                    soft := if soft then 0 else x.soft + 1, wtr := if good then x.wtr + 1 else 0 }
  let s := s.setRefIn k x
  let s := (s.wrS (REF.IN_OFS.val k) ofs).wr (REF.IN_RATE.val k) (if edgeInput k then s.edgeRate k ofs else 0)
  let s := (s.wrS (REF.IN_D1.val k) (d1.getD 0)).wrS (REF.IN_D10.val k) (d10.getD 0)
  s.wrS (REF.IN_D100.val k) (d100.getD 0)

/-- The first window of input `k` that is past its SOFT value: 0 D1, 1 D10, 2 D100 (R323, R340). -/
def State.softWindow (s : State) (k : Nat) : Nat :=
  let x := s.refIn k
  if overLimit (x.drift 1) (s.rd (REF.IN_DRIFT1.SOFT k)) then 0
  else if overLimit (x.drift 10) (s.rd (REF.IN_DRIFT10.SOFT k)) then 1 else 2

/-- What the second just measured does to the state of input `k`: RATE_CHANGE, DEGRADED and back (R322, R323). -/
def State.requalify (s : State) (k : Nat) : State :=
  let x := s.refIn k
  if x.overRate then
    if s.qstate k = 5 ∧ s.rd (REF.IN_STAT.CAUSE k) = 5 then s else s.disqualify k 5
  else if s.qstate k = 3 ∧ x.soft = 0 then
    let s := (s.wr (REF.IN_STAT.QSTATE k) 4).sqf (REF.IN_HIST.DEGRADED k)
    let s := if s.refSel = k then (s.sqf REF.HIST.DEGRADED).wrFlag REF.STATUS.DEGRADED true else s
    s.report 0x0502 k (s.softWindow k)
  else if s.qstate k = 4 ∧ s.dwell k ≤ x.soft then s.qualified k
  else s

/-- The enabled priority entries, ascending, with their inputs (R327). -/
def State.priorities (s : State) : List (Nat × Nat) :=
  ((List.range 10).filter (fun i => s.flag (REF.PRIO.EN i))).map (fun i => (i, s.rd (REF.PRIO.INPUT i)))

/-- The best of some priority entries: the lowest index, or with QLFIRST = 1 the highest QR first (R327). -/
def State.bestRanked (s : State) (es : List (Nat × Nat)) : Option Nat :=
  let top := es.foldl (fun m e => max m (s.rd (REF.IN_STAT.QR e.2))) 0
  if s.flag REF.CTL.QLFIRST then (es.find? (fun e => s.rd (REF.IN_STAT.QR e.2) == top)).map (·.2) else es.head?.map (·.2)

/-- WTRLEFT: seconds left of the best-ranked restoring input's WTR (R328). -/
def State.wtrLeft (s : State) : State :=
  let es := s.priorities.filter (fun e => s.flag (REF.IN_STAT.RESTORING e.2))
  let v := match s.bestRanked es with
    | some k => s.rd REF.TIMERS.WTR - (s.refIn k).wtr
    | none => 0
  s.wr REF.STATUS.WTRLEFT v

/-- Input `k` is beyond a hard limit in the latest second (R324). -/
def State.beyondHard (s : State) (k : Nat) : Bool :=
  let x := s.refIn k
  decide (0 < x.overOfs) || decide (0 < x.overDrift) || x.overRate

/-- FROZEN follows the selected input's hard limits (R324). -/
def State.freeze (s : State) : State :=
  let k := s.refSel
  let on := decide (k < 10) && decide (1 ≤ s.refState) && decide (s.refState ≤ 2) && s.beyondHard k
  let s := s.wrFlag REF.STATUS.FROZEN on
  if on then { s with ref := { s.ref with whole := false } } else s

/-! ## Holdover (R334, R335) -/

/-- The values whose mean is the holdover frequency: the newest min(HO_AVG, available) without the 2 newest (R334; log entry
26). -/
def State.holdValues (s : State) : List Int := (s.ref.history.take (s.rd REF.TIMERS.HO_AVG)).drop 2

/-- The holdover frequency, where a value remains (R334). -/
def State.holdFreq (s : State) : Option Int :=
  match s.holdValues with
  | [] => none
  | v :: vs => some (roundDiv ((v :: vs).foldl (· + ·) 0) (v :: vs).length)

/-- HOPPT reports the holdover frequency (R334). -/
def State.reportHold (s : State) : State := s.wrS REF.HOPPT.val (s.holdFreq.getD 0)

/-- A second ends: its contribution is recorded where it was spent wholly in LOCKED with FROZEN = 0 (R334). -/
def State.recordSecond (s : State) : State :=
  let good := s.refState == 2 && !s.flag REF.STATUS.FROZEN
  let s : State := if s.ref.whole && good then
      { s with ref := { s.ref with history := (s.ref.contrib :: s.ref.history).take 4096 } } else s
  let s : State := { s with ref := { s.ref with whole := good } }
  s.reportHold

/-- REF.HOTIME: whole seconds since entry to HOLDOVER (R335). -/
def State.holdTime (s : State) : State :=
  if 4 ≤ s.refState then s.wr REF.HOTIME.val ((s.clk.now - s.ref.holdFrom) / 10 ^ 9) else s

/-- REF enters state `st`: its bit of REF.HIST and its report (R330, R340). -/
def State.setRef (s : State) (st sel target : Nat) : State :=
  let s := ((s.wr REF.STATUS.STATE st).wr REF.STATUS.SEL sel).wr REF.STATUS.TARGET target
  let s := s.wrFlag GLB.TICKSTAT.FREERUN (st == 0)
  let s := s.wrFlag REF.STATUS.DEGRADED (decide (sel < 10) && s.qstate sel == 4)
  let s := if st = 1 ∨ st = 2 then s else (s.wrFlag REF.STATUS.SLEWING false).wrFlag REF.STATUS.FROZEN false
  let s : State := { s with ref := { s.ref with whole := false, within := none } }
  let s := s.sq REF.HIST st
  s.report 0x0501 15 (st + sel * 2 ^ 4 + target * 2 ^ 8)

/-- REF enters HOLDOVER_EXPIRED (R335). -/
def State.expireHold (s : State) : State := (s.setRef 5 15 15).report 0x0508 15 (s.rd REF.HOBUDGET.val)

/-- REF has no selectable input: HOLDOVER with history, else FREERUN (R331). HOTIME restarts; a budget of 0 expires at once
(R335). -/
def State.enterHold (s : State) : State :=
  if s.holdFreq.isSome then
    let s := (s.setRef 4 15 15).wr REF.HOTIME.val 0
    let s : State := { s with ref := { s.ref with holdFrom := s.clk.now } }
    if s.rd REF.HOBUDGET.val = 0 then s.expireHold else s
  else s.setRef 0 15 15

/-! ## Phase jumps (R336, R337) -/

/-- The phase error of input `k` against the zero of its detector, in ps. -/
def State.phaseErr (s : State) (k : Nat) : Int := (s.refIn k).phase - (s.refIn k).zero

/-- Every herd named in STEPHERDS has every muzzled lane in SILENT, HOLDING or GATED (R336). -/
def State.stepAllowed (s : State) : Bool :=
  s.flag REF.CTL.STEP_ALLOWED ||
    ((List.range 16).filter (bit (s.rd REF.STEPHERDS.HERDS))).all (fun h =>
      ((Cfg.herdMembers s.live h).flatMap (Cfg.memberOut s.live)).all (fun b =>
        allBelow (fun c =>
          let st := (s.lane b c).settled.st
          st == .silent || st == .holding || st == .gated) (s.bufC b)))

/-- A jump of input `k` by `diff` ps under its policy: `zero` becomes the zero of the detector, a step waits, or the loop slews (R336). -/
def State.jumpPolicy (s : State) (k : Nat) (diff zero : Int) : State :=
  match s.rd (REF.IN_CFG.JUMPPOL k) with
  | 0 => s.setRefIn k { s.refIn k with zero := zero }
  | 2 => { s with ref := { s.ref with step := some diff } }
  | _ => s.wrFlag REF.STATUS.SLEWING true

/-- The jump of input `k` by `diff` ps is reported and handled under its policy (R336, R337). -/
def State.jumpApply (s : State) (k : Nat) (diff zero : Int) (det : Bool) : State :=
  let s := (s.wr (REF.IN_JUMP.PS k) (wrapN 31 (roundDiv diff 2))).wrFlag (REF.IN_JUMP.DETECTOR k) det
  let s := (s.sqf (REF.IN_HIST.JUMP k)).sqf REF.HIST.JUMP
  (s.report 0x0506 k (wrap32 (clampInt (-2147483648) 2147483647 diff))).jumpPolicy k diff zero

/-- The jump of input `k` by the phase detector's value, its latest phase the zero of a build-out (R336, R337). -/
def State.jumpDetected (s : State) (k : Nat) (det : Bool) : State := s.jumpApply k (s.phaseErr k) (s.refIn k).phase det

/-- A phase jump of input `k`: measured by the meter for a slicer input with EIMJUMP = 1, unless software has the meter in
continuous or frequency mode; else by the phase detector (R337, R379). -/
def State.jump (s : State) (k : Nat) : State :=
  if edgeInput k && s.flag REF.CTL.EIMJUMP then
    if s.flag EIM.STAT.BUSY && s.rd EIM.CFG.MODE != 0 then s.jumpDetected k true
    else s.eimForRef k
  else s.jumpDetected k false

/-- An ARM that waited has put the meter into continuous or frequency mode: REF's waiting jumps take the phase detector's values (R337,
R379). -/
def State.jumpsDetected (s : State) : State :=
  if s.flag EIM.STAT.BUSY && s.rd EIM.CFG.MODE != 0 then
    let s := s.eim.waits.foldl (fun (s : State) k => s.jumpDetected k true) s
    { s with eim := { s.eim with waits := [] } }
  else s

/-- REF_JUMP_MEASUREMENT: the meter's measurement for REF completes, `interval` in 1/1024 ns: the measured difference between the reference edge
and the media clock, which a build-out takes as the new zero (R336, R337, R376, R379). Due while REF holds the meter. -/
def execRefJumpMeasurement (interval : Int) (s : State) : Res :=
  .next (match s.eim.forRef with
    | some k =>
      let ps := if coincident interval then 0 else roundDiv (interval * 1000) 1024
      let s := s.jumpApply k ps ps false
      s.eimRelease.jumpsDetected
    | none => s)

/-- A STEP that waits: at the next boundary the DCO phase moves by the difference where the policy allows it, else REF slews
(R336). -/
def State.dcoStep (s : State) : State :=
  match s.ref.step with
  | some d =>
    let s : State := { s with ref := { s.ref with step := none } }
    if s.stepAllowed then
      let s := s.emit (.dcoStep d)
      s.eachBelow (fun s k =>
        let x := s.refIn k
        s.setRefIn k { x with phase := x.phase - d, before := x.before - d }) 10
    else s.wrFlag REF.STATUS.SLEWING true
  | none => s

/-! ## The decision (R326 to R333) -/

/-- Restoring status is waived in FREERUN, HOLDOVER and HOLDOVER_EXPIRED, and stays waived for the input taken there while it is selected
(R328; DEDUCED, log entry 26). -/
def State.restoreWaived (s : State) (k : Nat) : Bool :=
  s.refState == 0 || decide (4 ≤ s.refState) || ((s.refState == 1 || s.refState == 2) && s.refSel == k)

/-- The input of priority entry `e` is eligible (R325, R328). -/
def State.eligible (s : State) (e : Nat × Nat) : Bool :=
  s.refGood e.2 && decide (s.rd (REF.PRIO.QLMIN e.1) ≤ s.rd (REF.IN_STAT.QR e.2))
    && (!s.flag (REF.IN_STAT.RESTORING e.2) || s.restoreWaived e.2)

/-- The selected input by R327, or none where no input is selectable. -/
def State.select (s : State) : Option Nat :=
  if s.flag REF.CTL.FORCE then
    let k := s.rd REF.CTL.FORCEIN
    if k < 10 ∧ s.refGood k then some k else none
  else s.bestRanked (s.priorities.filter s.eligible)

/-- Input `k` is selectable: the forced one while good, else eligible for an enabled entry (R325, R327). -/
def State.selectable (s : State) (k : Nat) : Bool :=
  if s.flag REF.CTL.FORCE then s.rd REF.CTL.FORCEIN == k && s.refGood k
  else s.priorities.any (fun e => e.2 == k && s.eligible e)

/-- FORCE names FREERUN (R327). -/
def State.forcedFree (s : State) : Bool := s.flag REF.CTL.FORCE && s.rd REF.CTL.FORCEIN == 15

/-- Four of the expected sample intervals of PTP instance `p`, in cycles: 2^LOGSYNC seconds each (R321, R393, R398). -/
def State.fourIntervals (s : State) (p : Nat) : Nat :=
  let l := signedN 4 (s.rd (TIME.PTP_CFG.LOGSYNC p))
  if l < 0 then 4 * 10 ^ 9 / 2 ^ l.natAbs else 4 * 10 ^ 9 * 2 ^ l.natAbs

/-- The unit that feeds input `k` shows that its signal has stopped: no offset sample in four intervals, receiver 0 LOST or disabled, a
port's PCS lock lost, or three barks in a row missing (R298, R321, R393). -/
def State.refStopped (s : State) (k : Nat) : Bool :=
  match k with
  | 0 => decide (s.fourIntervals 0 ≤ s.clk.now - (s.refIn 0).heard)
  | 1 => decide (s.fourIntervals 1 ≤ s.clk.now - (s.refIn 1).heard)
  | 2 => !s.flag (NET.STAT.PCSLOCK 0)
  | 3 => !s.flag (NET.STAT.PCSLOCK 1)
  | 5 => s.rd (luState 8) == 3 || !s.flag (AES.RX_CFG.EN 0)
  | 9 => decide (3 ≤ s.pair.missRun)
  | _ => false

/-- The unit that feeds input `k` is part of the model's state, which then tells whether its signal has stopped. -/
def refFed (k : Nat) : Bool := !edgeInput k

/-- Input `k` becomes INACTIVE (R321); a restoring input stays so (R328). -/
def State.inactivate (s : State) (k : Nat) : State :=
  let s := (s.wr (REF.IN_STAT.QSTATE k) 1).wr (REF.IN_STAT.CAUSE k) (if (s.refIn k).had then 1 else 0)
  let s := ((s.wr (REF.IN_D1.val k) 0).wr (REF.IN_D10.val k) 0).wr (REF.IN_D100.val k) 0
  let x := s.refIn k
  let s := s.setRefIn k { x with secs := 0, ofs := [], overOfs := 0, overDrift := 0, overRate := false, wtr := 0 }
  let s := if s.refSel = k then s.wrFlag REF.STATUS.DEGRADED false else s
  s.sqf (REF.IN_HIST.INACTIVE k)

/-- Qualification and QR at a decision: inputs enabled or disabled since, signals that have stopped, quality, eligibility (R320, R321,
R326). -/
def State.refInputs (s : State) : State :=
  let s := s.eachBelow (fun s k =>
    let s := if s.flag (REF.IN_CFG.EN k) then
        if s.qstate k = 0 then
          let s := (s.wr (REF.IN_STAT.QSTATE k) 1).sqf (REF.IN_HIST.INACTIVE k)
          let x := s.refIn k
          s.setRefIn k { x with had := false }
        else if 2 ≤ s.qstate k ∧ s.refStopped k then s.inactivate k
        else s
      else if s.qstate k = 0 then s
      else
        let s := ((s.wr (REF.IN_STAT.QSTATE k) 0).wr (REF.IN_STAT.CAUSE k) 0).wrFlag (REF.IN_STAT.RESTORING k) false
        let s := ((s.wr (REF.IN_D1.val k) 0).wr (REF.IN_D10.val k) 0).wr (REF.IN_D100.val k) 0
        s.setRefIn k RefIn.reset
    s.wr (REF.IN_STAT.QR k) (if s.qstate k = 0 then 0 else s.qualityOf k)) 10
  s.eachBelow (fun s k => s.wrFlag (REF.IN_STAT.ELIGIBLE k) (s.priorities.any (fun e => e.2 == k && s.eligible e))) 10

/-- A switch from input `p` is decided toward `k`: tick d is the decision window (R331). -/
def State.switchTo (s : State) (p k : Nat) : State :=
  let lost := !s.selectable p
  let s := s.setRef 3 p k
  { s with ref := { s.ref with prev := p, lost := lost, committed := false } }

/-- The previous input with the state it had before the switch, where the condition that removed it has cleared; it is not restoring
(R332). -/
def State.restored (s : State) (p : Nat) : State :=
  if 10 ≤ p then s
  else
    let x := s.refIn p
    let s := if s.qstate p = 2 ∧ (x.was = 3 ∨ x.was = 4) then s.wr (REF.IN_STAT.QSTATE p) x.was else s
    s.wrFlag (REF.IN_STAT.RESTORING p) false

/-- The decision of the boundary that ends a decision window (R332, R333): cancelled, taken again toward another input, or
committed. -/
def State.switchDecision (s : State) : State :=
  let p := s.ref.prev
  let t := s.rd REF.STATUS.TARGET
  let r := s.restored p
  if r.selectable p && (s.ref.lost || r.select == some p) then
    let s := (r.setRef 2 p 15).sqf REF.HIST.CANCELLED
    s.report 0x0507 15 (p + t * 2 ^ 4)
  else
    match s.select with
    | none => s.enterHold
    | some k =>
      if k = t then
        let s := s.jump t
        { s with ref := { s.ref with committed := true } }
      else s.wr REF.STATUS.TARGET k

/-- The change of state of a decision (R331 to R333). A target lost after its commitment opens a window toward another input, from which the
input left behind no longer returns by a cancelled switch. -/
def State.refMachine (s : State) : State :=
  let st := s.refState
  let k := s.refSel
  if s.forcedFree then (if st = 0 then s else s.setRef 0 15 15)
  else if st = 0 ∨ 4 ≤ st then
    match s.select with
    | some b => (s.setRef 1 b 15).jump b
    | none => s
  else if st = 3 then
    if s.ref.committed then
      let t := s.rd REF.STATUS.TARGET
      if s.selectable t then s.setRef 2 t 15
      else
        match s.select with
        | some b =>
          let s := s.wr REF.STATUS.TARGET b
          { s with ref := { s.ref with prev := 15, committed := false } }
        | none => s.enterHold
    else s.switchDecision
  else
    match s.select with
    | none => s.enterHold
    | some b =>
      if !s.selectable k then s.switchTo k b
      else if st = 2 ∧ b ≠ k ∧ (s.flag REF.CTL.REVERT ∨ s.flag REF.CTL.FORCE) then s.switchTo k b
      else s

/-- The phase of PTP input `k` at boundary B(t) against the media time of the boundary, in ps: P(t) − θ − τ* (R390). -/
def State.ptpPhase (s : State) (k t : Nat) : Int :=
  let fs := s.fs
  let m := (t * s.tickLen + s.rd TIME.MTORIGIN.val) % 2 ^ 32
  let half : Int := 2 ^ 31 * 10 ^ 12
  let x : Int := Int.ofNat (s.clk.time / 10 ^ 9 * fs) - Int.ofNat (m * 10 ^ 12)
  let d := (x + half) % (2 * half) - half
  roundDiv d fs - s.rdS (TIME.PTP_OFS.val k) * 1000

/-- The phases observed at boundary B(t), in ps, enter the detectors; a PTP input's is computed from the counter (R331,
R390). -/
def State.takePhases (s : State) (t : Nat) (phases : List (Nat × Int)) : State :=
  let s := s.eachBelow (fun s k =>
    let x := s.refIn k
    s.setRefIn k { x with before := x.phase, phase := if k < 2 then s.ptpPhase k t else x.phase }) 10
  phases.foldl (fun s p =>
    if 2 ≤ p.1 ∧ p.1 < 10 then s.setRefIn p.1 { s.refIn p.1 with phase := p.2 } else s) s

/-- The loop follows its input: the phase jump test, the lock timer and SLEWING (R331, R336). -/
def State.refTrack (s : State) : State :=
  let k := s.refSel
  if (s.refState = 1 ∨ s.refState = 2) ∧ k < 10 then
    let x := s.refIn k
    let s := if s.rd (REF.IN_JUMPCFG.JUMPTHR k) * 1000 < (x.phase - x.before).natAbs then s.jump k else s
    let e := s.phaseErr k
    let ok := decide (e.natAbs ≤ s.rd REF.LOCK.LOCKTHR * 1000)
    let since := if ok then some (s.ref.within.getD s.clk.now) else none
    let s := if ok then s.wrFlag REF.STATUS.SLEWING false else s
    let x := s.refIn k
    let s := s.setRefIn k { x with was := if s.refGood k then s.qstate k else x.was }
    { s with ref := { s.ref with within := since } }
  else s

/-! ## Steering (R333, R338) -/

/-- The contribution is held at `c`, from which the loop resumes (R324, R330, R361). -/
def State.holdLoop (s : State) (c : Int) : State := { s with ref := { s.ref with contrib := c, integ := c * 10 ^ 27 } }

/-- The loop tracks phase error `e` in ps at a bandwidth for one tick: second order with natural frequency w and damping factor 5, so 10 w e in
proportion and w² e a second into the integrator, which is held while y is clamped (R331, R338; that w follows the bandwidth is open,
DESIGN CHOICE, log entry 8). -/
def State.trackLoop (s : State) (bw : Nat) (e : Int) : State :=
  let w : Int := Int.ofNat (Config.loopOmega bw)
  let i := if s.flag GLB.TICKSTAT.CLAMPED then s.ref.integ
    else s.ref.integ + w * w * e * Int.ofNat (nominalCycles s.tickLen s.fs)
  { s with ref := { s.ref with contrib := roundDiv (10 * w * e) (10 ^ 9) + roundDiv i (10 ^ 27), integ := i } }

/-- The contribution under SLEW stays within SLEW_MAX of the holdover frequency `hold` (R336). -/
def State.slewLimit (s : State) (k : Nat) (hold : Int) : State :=
  if s.flag REF.STATUS.SLEWING then
    let m : Int := Int.ofNat (s.rd (REF.IN_JUMPCFG.SLEW_MAX k)) * 1000
    { s with ref := { s.ref with contrib := clampInt (hold - m) (hold + m) s.ref.contrib } }
  else s

/-- A detachment is in force, or begins at this boundary with the segment entered here (R361). -/
def State.detaching (s : State) : Bool :=
  s.flag SYN.RAMPSTAT.DETACHED || (s.syn.ramp.due.isSome && s.flag SYN.RAMPCTL.DETACH)

/-- The loop contribution that takes effect at a boundary (R324, R330 to R336, R361). -/
def State.loopStep (s : State) : State :=
  let k := s.refSel
  let hold := s.holdFreq.getD s.ref.contrib
  if s.detaching then s.holdLoop s.ref.contrib
  else
    match s.refState with
    | 0 => s.holdLoop 0
    | 1 | 2 =>
      if s.flag REF.STATUS.FROZEN then s.holdLoop s.ref.contrib
      else (s.trackLoop (if s.refState = 1 then s.rd REF.BW.WIDE else s.rd REF.BW.NARROW) (s.phaseErr k)).slewLimit k hold
    | _ => s.holdLoop hold

/-- Total steering, clamped, with its report in DCOPPT, NCS-N's clamp and the frequency words (R16, R338, R343, R344). -/
def State.steer (s : State) : State :=
  let y := s.ref.contrib + s.rampPpt + s.ref.adj
  let top := min 2147483647 (Int.ofNat (s.rd GLB.MEDIA.SPEEDCAP) * 1000000)
  let c := clampInt (-2147483648) top y
  let was := s.flag GLB.TICKSTAT.CLAMPED
  let s := (s.wrS REF.DCOPPT.val c).wrFlag GLB.TICKSTAT.CLAMPED (c != y)
  let s := if c ≠ y ∧ ¬ was then s.sqf GLB.TICKHIST.CLAMPED else s
  (s.netClamp c).ncsSteer c (s.yNet c)

/-- REF takes the phase difference of its selected input as the new zero of its detector (R361). -/
def State.newZero (s : State) : State :=
  let k := s.refSel
  if k < 10 then
    let x := s.refIn k
    s.setRefIn k { x with zero := x.phase }
  else s

/-- The end of a detachment, at which REF takes a new zero (R361). -/
def State.endDetach (s : State) : State :=
  let (s, ended) := s.rampAttach
  if ended then s.newZero else s

/-- REF and steering at boundary B(t), after step 6 of R18 (R326, R338): the phases observed, the decision, the loop, the ramp
and the total. -/
def State.refBoundary (s : State) (t : Nat) (phases : List (Nat × Int)) : State :=
  let s := (s.takePhases t phases).dcoStep
  let s := s.refInputs.refMachine.refTrack.freeze.holdTime.wtrLeft
  let e := s.phaseErr s.refSel
  let s := s.wrS REF.PHERR.val (if s.refSel < 10 then clampInt (-2147483648) 2147483647 e else 0)
  let s := (s.rampBoundary t).endDetach
  let s := s.loopStep.reportHold
  let s : State := { s with ref := { s.ref with adj := s.rdS REF.DCOADJ.val } }
  s.steer

/-- RAMP_SEGMENT_ENTER: the segment due at the current boundary is entered, and the contribution it sets takes effect there
(R358, R359). -/
def execRampSegmentEnter (s : State) : Res :=
  .next (match s.syn.ramp.due with
    | some _ => s.enterDue.endDetach.steer
    | none => s)

/-! ## Events of REF -/

/-- REF_SECOND: a second of measurement ends; `obs` lists each measured input with its mean offset in ppb; the rate named beside it is, by R318,
that of the offset and the nominal rate, from which the model takes it (R318, R322 to R324, R328, R334; DEDUCED, log entry 78). -/
def execRefSecond (obs : List (Nat × Int × Nat)) (s : State) : Res :=
  let s := obs.foldl (fun s o =>
    if o.1 < 10 ∧ 2 ≤ s.qstate o.1 ∧ ¬ s.refStopped o.1 then (s.measure o.1 o.2.1).requalify o.1 else s) s
  .next (s.freeze.recordSecond.holdTime.wtrLeft)

/-- The cause for which input `k` must be disqualified now (R322). -/
def State.disqualCause (s : State) (k : Nat) : Option Nat :=
  let x := s.refIn k
  let recent := x.glitches.filter (fun t => decide (s.clk.now - t < 10 ^ 9))
  if x.overRate then some 5
  else if 3 ≤ recent.length then some 2
  else if s.dwell k ≤ x.overOfs then some 3
  else if s.dwell k ≤ x.overDrift then some 4
  else none

/-- REF_QUALIFIED: after 11 s of MEASURING with no cause of R322 (R321). A WTR of 0 ends restoring at once (R572). -/
def execRefQualified (k : Nat) (s : State) : Res :=
  .next (if k < 10 ∧ s.qstate k = 2 ∧ 11 ≤ (s.refIn k).secs ∧ (s.disqualCause k).isNone then
    let s := s.qualified k
    (if s.rd REF.TIMERS.WTR = 0 then s.wrFlag (REF.IN_STAT.RESTORING k) false else s)
  else s)

/-- REF_DISQUALIFIED: a cause of R322 holds for an input that is measured and not yet disqualified. -/
def execRefDisqualified (k : Nat) (s : State) : Res :=
  .next (if k < 10 ∧ 2 ≤ s.qstate k ∧ s.qstate k ≤ 4 then
    match s.disqualCause k with
    | some c => s.disqualify k c
    | none => s
  else s)

/-- REF_CAUSE_CLEARED: the cause has been absent for DWELL seconds (R322, R328). -/
def execRefCauseCleared (k : Nat) (s : State) : Res :=
  .next (if k < 10 ∧ s.qstate k = 5 ∧ s.dwell k ≤ (s.refIn k).clear then s.measuring k else s)

/-- REF_INACTIVE: the signal of input `k` stops by the test of its kind, which for an input fed by another unit is that unit's state (R321). -/
def execRefInactive (k : Nat) (s : State) : Res :=
  .next (if k < 10 ∧ 2 ≤ s.qstate k ∧ (refFed k = true → s.refStopped k = true) then s.inactivate k else s)

/-- REF_SIGNAL_RETURN: the first usable signal of an INACTIVE input (R298, R321, R328). -/
def execRefSignalReturn (k : Nat) (s : State) : Res :=
  .next (if k < 10 ∧ s.qstate k = 1 ∧ ¬ s.refStopped k then s.measuring k else s)

/-- REF_WTR_EXPIRE: the input has been in good standing for WTR seconds (R328). -/
def execRefWtrExpire (k : Nat) (s : State) : Res :=
  .next (if k < 10 ∧ s.flag (REF.IN_STAT.RESTORING k) ∧ s.refGood k ∧ s.rd REF.TIMERS.WTR ≤ (s.refIn k).wtr then
    (s.wrFlag (REF.IN_STAT.RESTORING k) false).wtrLeft
  else s)

/-- REF_LOCKED: the phase error has been within LOCKTHR for LOCKTIME seconds (R331). -/
def execRefLocked (s : State) : Res :=
  .next (match s.ref.within with
    | some t =>
      if s.refState = 1 ∧ s.rd REF.LOCK.LOCKTIME * 10 ^ 9 ≤ s.clk.now - t then s.setRef 2 s.refSel 15 else s
    | none => s)

/-- REF_HO_EXPIRED: HOTIME reaches the budget (R335). -/
def execRefHoExpired (s : State) : Res :=
  .next (if s.refState = 4 ∧ s.rd REF.HOBUDGET.val * 10 ^ 9 ≤ s.clk.now - s.ref.holdFrom then s.holdTime.expireHold else s)

/-- A slicer failure counts at input `k` (R322). -/
def State.glitch (s : State) (k : Nat) : State :=
  let s := (s.inc (REF.IN_STAT.GLITCH k)).sqf (REF.IN_HIST.GLITCH k)
  let x := s.refIn k
  s.setRefIn k { x with glitches := (s.clk.now :: x.glitches).take 3, glitched := true }

/-- A runt comes at an edge input: VREF ignores it where it falls more than 10% of a line period from the expected line instant, which the
command does not tell: an open choice (R321; DESIGN CHOICE, log entry 79). -/
def State.runtAt (s : State) (k : Nat) : State :=
  if k = 6 then
    let (far, s) := s.freePick 2
    if far = 0 then s.glitch k else s
  else s.glitch k

/-- SLICER_RUNT: a pulse narrower than MINW at slicer `n` is counted, and every edge input that uses the slicer counts a
failure (R321, R322, R371, R572). -/
def execSlicerRunt (n : Nat) (s : State) : Res :=
  .next (if n < 4 ∧ s.flag (EIM.SLC_CFG.EN n) ∧ s.rd (EIM.SLC_MINW.val n) ≠ 0 then
    let s := s.inc (EIM.SLC_STAT.RUNT n)
    s.eachBelow (fun s k =>
      if edgeInput k && s.flag (REF.IN_CFG.EN k) && s.rd (REF.IN_CFG.SLC k) == n then s.runtAt k else s) 10
  else s)

/-! ## The profile of REF (R339) -/

/-- The inputs of a profile's PRIO0 to PRIO3, its NARROW, WIDE, REVERT and QLFIRST (R339). -/
def refProfile (p : Nat) : List Nat × Nat × Nat × Nat × Nat :=
  match p with
  | 0 => ([0, 1, 4, 5], 100, 10000, 1, 0)
  | 1 => ([6, 0, 1, 4], 10, 1000, 1, 0)
  | 2 => ([4, 5, 0, 1], 100, 10000, 0, 0)
  | _ => ([2, 3, 0, 1], 100, 10000, 1, 1)

/-- Fields of a word, over its reset value. -/
def resetFields (k : Nat) (fs : List (Fld × Nat)) : Nat × Word := (k, fs.foldl (fun w p => p.1.put w p.2) (resetWord k))

/-- The words that a load of profile `p` puts into the open shadow, written with `v` (R339). -/
def refProfileWords (p v : Nat) : List (Nat × Word) :=
  let (ins, narrow, wide, revert, ql) := refProfile p
  [ resetFields REF.CTL [(REF.CTL.REVERT, revert), (REF.CTL.QLFIRST, ql)], resetFields REF.PROFILE [(REF.PROFILE.val, v % 4)],
    resetFields REF.BW [(REF.BW.NARROW, narrow), (REF.BW.WIDE, wide)], resetFields REF.LOCK [], resetFields REF.TIMERS [],
    resetFields REF.HOBUDGET [], resetFields REF.STEPHERDS [] ]
  ++ (List.range 10).map (fun i =>
      resetFields (REF.PRIO i) (match ins[i]? with
        | some k => [(REF.PRIO.EN i, 1), (REF.PRIO.INPUT i, k)]
        | none => []))
  ++ (List.range 10).flatMap (fun k =>
      [ resetFields (REF.IN_CFG k) (if ins.contains k then [(REF.IN_CFG.EN k, 1)] else []), resetFields (REF.IN_NOMNUM k) [],
        resetFields (REF.IN_NOMDEN k) [], resetFields (REF.IN_LIM k) [], resetFields (REF.IN_DRIFT1 k) [],
        resetFields (REF.IN_DRIFT10 k) [], resetFields (REF.IN_DRIFT100 k) [], resetFields (REF.IN_JUMPCFG k) [] ])

/-- A write of `v` with LOAD = 1 to REF.PROFILE by interface `i` (R339). -/
def State.refProfileLoad (s : State) (i v : Nat) : State :=
  let (t, ok) := s.profileLoad i REF.PROFILE v (refProfileWords (v % 4) v)
  if ok then t.wrFlag REF.PROFILE.MODE false else t

end Sys2Proof.Machine
end

