-- ==== Sys2Proof/Machine/Time.lean ====
section
/-!
DEFINITION. Network time (R382 to R400, R402 to R409): the time counter, media time and its origin, PTP instances, the servo,
pulse generators, the judgement of cue entries, and timecode.
-/

namespace Sys2Proof.Machine

/-! ## Late policies (R383) -/

/-- How far, in ns, the 32-bit time T lies in the past at `now`; 0 where it is future (R383). -/
def lateBy (t now : Nat) : Nat := if futureTime t now then 0 else (now % 2 ^ 32 + 2 ^ 32 - t % 2 ^ 32) % 2 ^ 32

/-- The least number of periods after which a time late by `d` is not past. -/
def periodsPast (d period : Nat) : Nat := if period = 0 then 0 else ceilDiv d period

/-! ## Pulse generators (R399, R400) -/

/-- Pulse generator `k` behind its registers. -/
def State.pulse (s : State) (k : Nat) : Pulse := Store.get (fun _ => Pulse.reset) s.times.pg k

/-- The state with pulse generator `k` at `x`. -/
def State.setPulse (s : State) (k : Nat) (x : Pulse) : State :=
  { s with times := { s.times with pg := Store.set (fun _ => Pulse.reset) s.times.pg k x } }

/-- Generator `k` waits for its START or has pulses in progress. -/
def State.pgLive (s : State) (k : Nat) : Bool := s.flag (TIME.PG_CFG.ARMED k) || s.flag (TIME.PG_CFG.RUNNING k)

/-- The pin of generator `k`: as taken at its ARM while it is armed or running (R400). -/
def State.pgPin (s : State) (k : Nat) : Nat := if s.pgLive k then (s.pulse k).pin else s.rd (TIME.PG_CFG.PIN k)

/-- The polarity of generator `k`. -/
def State.pgPol (s : State) (k : Nat) : Bool := if s.pgLive k then (s.pulse k).pol else s.flag (TIME.PG_CFG.POL k)

/-- The level of EVOUT ball `pin`: the active states of its generators ORed, with the polarity of the lowest-numbered enabled one
(R399). -/
def State.evout (s : State) (pin : Nat) : Bool :=
  let ks := (List.range 8).filter (fun k => s.flag (TIME.PG_CFG.EN k) && s.pgPin k == pin)
  let on := ks.any (fun k => (s.pulse k).trail.isSome)
  match ks with
  | [] => false
  | k :: _ => on != s.pgPol k

/-- The edges that a change from `old` makes at the EVOUT balls that this chip drives (R400, R452). -/
def State.edges (s old : State) : State :=
  if s.drives then
    s.eachBelow (fun s p => if s.evout p = old.evout p then s else s.emit (.edge p (s.evout p))) 8
  else s

/-- Generator `k` ends. -/
def State.pgEnd (s : State) (k : Nat) : State :=
  let s := (s.wrFlag (TIME.PG_CFG.ARMED k) false).wrFlag (TIME.PG_CFG.RUNNING k) false
  let x := s.pulse k
  s.setPulse k { x with trail := none, stop := false }

/-- A leading edge of generator `k` due at `t` is judged: future, or late under its policy (R383, R400). A generator whose edges
are all dropped ends after its pulse in progress. -/
def State.pgJudge (s : State) (k t : Nat) : State :=
  let x := s.pulse k
  let d := lateBy t s.ns
  if d = 0 then s.setPulse k { x with next := t, then_ := none }
  else
    let s := (s.sqf TIME.HIST.LATE).report 0x0804 k (s.rd (TIME.PG_START.val k))
    let grid := (t + periodsPast d x.period * x.period) % 2 ^ 32
    match s.rd (TIME.PG_CFG.LATE k) with
    | 1 => s.setPulse k { x with next := s.ns, then_ := if x.period = 0 then none else some grid }
    | p =>
      if p = 2 ∧ x.period ≠ 0 then s.setPulse k { x with next := grid, then_ := none }
      else if x.trail.isSome then s.setPulse k { x with stop := true }
      else s.pgEnd k

/-- ARM of generator `k`: false where it is refused (R400, R410). -/
def State.pgArm (s : State) (k : Nat) : State × Bool :=
  let period := s.rd (TIME.PG_PERIOD.val k)
  let width := s.rd (TIME.PG_WIDTH.val k)
  if s.rd (TIME.PG_CFG.LATE k) = 3 ∨ (period ≠ 0 ∧ period ≤ width) then (s, false)
  else if !s.flag (TIME.PG_CFG.EN k) then (s, true)
  else
    let old := s
    let x := s.pulse k
    let s := s.setPulse k { x with period := period, width := width, pin := s.rd (TIME.PG_CFG.PIN k),
                                   pol := s.flag (TIME.PG_CFG.POL k), stop := false }
    let s := (s.wrFlag (TIME.PG_CFG.ARMED k) true).wrFlag (TIME.PG_CFG.RUNNING k) false
    ((s.pgJudge k (s.rd (TIME.PG_START.val k))).edges old, true)

/-- STOP of generator `k`, or the end of its EN: it ends after any pulse in progress (R399, R400). -/
def State.pgStop (s : State) (k : Nat) : State :=
  let x := s.pulse k
  if x.trail.isSome then s.setPulse k { x with stop := true } else s.pgEnd k

/-- PG_LEADING_EDGE: the time of generator `k`'s next leading edge is reached (R399, R572). -/
def execPgLeadingEdge (k : Nat) (s : State) : Res :=
  .next (
    let x := s.pulse k
    if k < 8 ∧ s.flag (TIME.PG_CFG.EN k) ∧ s.pgLive k ∧ x.trail = none ∧ ¬ x.stop ∧ reachedTime x.next s.ns then
      let old := s
      let s := (s.wrFlag (TIME.PG_CFG.ARMED k) false).wrFlag (TIME.PG_CFG.RUNNING k) true
      let after := x.then_.getD ((x.next + x.period) % 2 ^ 32)
      let s := s.setPulse k { x with next := after, then_ := none,
                                     trail := if x.width = 0 then none else some ((x.next + x.width) % 2 ^ 32) }
      let s := if x.width = 0 ∧ x.period = 0 then s.pgEnd k else s
      s.edges old
    else s)

/-- PG_TRAILING_EDGE: the time of the trailing edge of the pulse in progress is reached (R399). -/
def execPgTrailingEdge (k : Nat) (s : State) : Res :=
  .next (
    let x := s.pulse k
    match x.trail with
    | some t =>
      if k < 8 ∧ reachedTime t s.ns then
        let old := s
        let s := if x.period = 0 ∨ x.stop then s.pgEnd k else s.setPulse k { x with trail := none }
        s.edges old
      else s
    | none => s)

/-! ## Cue entries (R402 to R404) -/

/-- Entry `i` of the Cue Launch Queue behind its status. -/
def State.cueEntry (s : State) (i : Nat) : Option CueEntry := Store.find s.times.cues i

/-- The state with a pending cue entry. -/
def State.setCue (s : State) (i : Nat) (c : CueEntry) : State :=
  { s with times := { s.times with cues := Store.insert s.times.cues i c } }

/-- The state without the pending sends of entry `i`. -/
def State.dropCue (s : State) (i : Nat) : State := { s with times := { s.times with cues := s.times.cues.erase i } }

/-- STATE of entry `i`, kept at BINDFAIL while its binding has failed (R405, R406). -/
def State.cueState (s : State) (i st : Nat) : State :=
  if s.rd (CLS.W0 i) % 8 = 6 then s else s.wr (CLS.W0 i) (s.rd (CLS.W0 i) / 8 * 8 + st)

/-- The next send of entry `i`, its send `g` due at `t`, is judged under R383; a past one is reported and handled by the entry's
late policy (R404). -/
def State.cueJudge (s : State) (i g t : Nat) (c : CueEntry) : State :=
  let d := lateBy t s.ns
  if d = 0 then s.setCue i { c with at_ := t, i := g + 1 }
  else
    let s := (s.sqf TIME.HIST.LATE).report 0x0805 i (s.rd (CLQ.T i))
    let j := periodsPast d c.period
    match s.rd (CLQ.LATE i) with
    | 1 => s.setCue i { c with at_ := s.ns, i := max (g + 1) (g + j) }
    | p =>
      if p = 2 ∧ g < c.repeats ∧ g + j ≤ c.repeats then
        s.setCue i { c with at_ := (t + j * c.period) % 2 ^ 32, i := g + j + 1 }
      else (s.dropCue i).cueState i 4

/-! ## The counter (R382 to R385) -/

/-- The seconds of the time counter (R382). -/
def State.seconds (s : State) : Nat := s.timeNs / 10 ^ 9 % 2 ^ 48

/-- The nanoseconds within the second (R382). -/
def State.nsec (s : State) : Nat := s.timeNs % 10 ^ 9

/-- TIME.CTL.CAP: the counter is latched at one instant (R384). -/
def State.timeCap (s : State) : State :=
  let s := (s.wr TIME.CAPNS.val s.ns).wr TIME.CAPSECLO.val s.seconds
  (s.wr TIME.CAPSECHI.val (s.seconds / 2 ^ 32)).wr TIME.CAPNSEC.val s.nsec

/-- Times programmed before a step are judged again: armed herds, running generators and pending cue sends (R385). -/
def State.rejudge (s : State) : State :=
  let s := s.eachBelow (fun s k =>
    if s.herdWaits k 2 && !futureTime (s.rd (HRD.H_AT.val k)) s.ns then s.herdLate k s.tick else s) 16
  let s := s.eachBelow (fun s k => if s.pgLive k && !(s.pulse k).stop then s.pgJudge k (s.pulse k).next else s) 8
  s.times.cues.foldl (fun s p => if 0 < p.2.owed then s.cueJudge p.1 (p.2.i - 1) p.2.at_ p.2 else s) s

/-- A step of the counter by `d` units of 10^-12 ns: recorded, and programmed times are judged again (R385). -/
def State.timeStep (s : State) (d : Int) : State :=
  let all : Int := 2 ^ 48 * 10 ^ 21
  let s : State := { s with clk := { s.clk with time := ((Int.ofNat s.clk.time + d) % all).toNat } }
  let s := s.sqf TIME.HIST.STEP
  let s := s.report 0x0801 0 (wrap32 (clampInt (-2147483648) 2147483647 (d / 10 ^ 12)))
  s.rejudge

/-- TIME.CTL.SET: false where it is refused (R385). -/
def State.timeSet (s : State) : State × Bool :=
  if s.flag TIME.SRVCFG.SRC ∧ s.rd TIME.SETNSEC.val < 10 ^ 9 then
    let secs := s.rd TIME.SETSECHI.val * 2 ^ 32 + s.rd TIME.SETSECLO.val
    let goal := (secs * 10 ^ 9 + s.rd TIME.SETNSEC.val) * 10 ^ 12
    let d := Int.ofNat goal - Int.ofNat s.clk.time
    let s := s.wrFlag TIME.CTL.ALIGNED false
    (s.timeStep d, true)
  else (s, false)

/-- A write of `v` to TIME.CTL by interface `i`: CAP, then SET, then ALIGN (R385). -/
def State.timeCtl (s : State) (i v : Nat) : State :=
  let s := if bit v 0 then s.timeCap else s
  let s := if bit v 1 then
      let (t, ok) := s.timeSet
      if ok then t else s.accErr i TIME.CTL .refused
    else s
  if bit v 2 then { s with times := { s.times with align := true } } else s

/-! ## Media time (R386 to R389) -/

/-- Media time of the counter's time P at the base rate (R386, R387). -/
def State.mediaNow (s : State) : Nat := wrap32 (roundDiv (Int.ofNat (s.clk.time * s.fs)) (10 ^ 21))

/-- O is set at B(a) to `o`: a change disturbs every receive flow, moves the timestamps of transmit flows, and is recorded (R387, R389). -/
def State.setOrigin (s : State) (a o : Nat) : State :=
  let old := s.rd TIME.MTORIGIN.val
  let s := s.wrFlag TIME.CTL.ALIGNED true
  if o % 2 ^ 32 = old then s
  else
    let s := s.wr TIME.MTORIGIN.val o
    let s := (Cfg.rxFlows s.live).foldl (fun s i =>
      (((s.rewindEpoch s.live i 0).rewindEpoch s.live i 1).clearRings (s.rd (FT.BUFID i)) a).freshBuffer (s.rd (FT.BUFID i))) s
    let s := (Cfg.txFlows s.live).foldl (fun s i =>
      s.wr (TS.TSNEXT i) (s.rd (TS.TSNEXT i) + multOf (s.rd (TX.MULT i)) * (o + 2 ^ 32 - old))) s
    (s.sqf TIME.HIST.ORIGIN).report 0x0802 0 ((o + 2 ^ 32 - old) % 2 ^ 32)

/-- Alignment at B(a): an ALIGN that waits, or AUTO while REF follows a PTP input (R387). -/
def State.alignBoundary (s : State) (a : Nat) : State :=
  let auto := s.flag TIME.CTL.AUTO && !s.flag TIME.CTL.ALIGNED && (s.refState == 1 || s.refState == 2) && decide (s.refSel < 2)
  if s.times.align || auto then
    let s : State := { s with times := { s.times with align := false } }
    s.setOrigin a ((s.mediaNow + 2 ^ 32 - a * s.tickLen % 2 ^ 32) % 2 ^ 32)
  else s

/-- An epoch applied at B(e) that changes TICK_LEN or the family keeps the media time of B(e); a family change clears ALIGNED
(R387, R388). -/
def State.originEpoch (s : State) (old new : Cfg) (e : Nat) : State :=
  let fam := Cfg.rd old GLB.MEDIA.FAMILY != Cfg.rd new GLB.MEDIA.FAMILY
  let s := if Cfg.tickLen old ≠ Cfg.tickLen new then
      s.wr TIME.MTORIGIN.val (e * Cfg.tickLen old % 2 ^ 32 + s.rd TIME.MTORIGIN.val + 2 ^ 32 - e * Cfg.tickLen new % 2 ^ 32)
    else s
  if fam then s.wrFlag TIME.CTL.ALIGNED false else s

/-! ## The servo (R397, R398) -/

/-- One offset sample θ, in ns (R397). -/
def State.servo (s : State) (th : Int) : State :=
  let s := (s.wrS TIME.SRVOFS.val th).wrFlag TIME.SRVCFG.HOLD false
  if s.rd TIME.SRVSTEP.val < th.natAbs then s.timeStep (-th * 10 ^ 12)
  else
    let i := s.times.integ + Int.ofNat (s.rd TIME.SRVGAIN.KI) * th
    let c := -(Int.ofNat (s.rd TIME.SRVGAIN.KP) * th + i)
    let k := clampInt (-2147483648) 2147483647 c
    let s := s.wrS TIME.SRVPPT.val k
    if k = c then { s with times := { s.times with integ := i } } else s

/-- A write of TIME.SRVIN: one sample when SRC = HOST and the servo runs (R397). -/
def State.servoHost (s : State) : State :=
  if s.flag TIME.SRVCFG.EN && s.flag TIME.SRVCFG.SRC then s.servo (s.rdS TIME.SRVIN.val) else s

/-- PTP_OFFSET_SAMPLE: the firmware of instance `p` produces θ and the mean path delay, in ns (R393, R397). Due while the instance
is a slave. -/
def execPtpOffsetSample (p : Nat) (th : Int) (mpd : Nat) (s : State) : Res :=
  .next (if p < 2 ∧ s.flag (TIME.PTP_CFG.EN p) ∧ s.rd (TIME.PTP_CFG.STATE p) = 1 then
    let s := ((s.wrS (TIME.PTP_OFS.val p) th).wr (TIME.PTP_MPD.val p) mpd).inc (TIME.PTP_SAMPLES.val p)
    let s := s.setRefIn p { s.refIn p with heard := s.clk.now }
    if s.flag TIME.SRVCFG.EN ∧ ¬ s.flag TIME.SRVCFG.SRC ∧ s.rd TIME.SRVCFG.PORT = p then
      let s : State := { s with times := { s.times with sampleAt := s.clk.now, theta := th } }
      s.servo th
    else s
  else s)

/-- SRV_HOLD: no firmware sample for 4 expected intervals, and the servo holds c (R398). -/
def execSrvHold (s : State) : Res :=
  let p := s.rd TIME.SRVCFG.PORT
  .next (if s.flag TIME.SRVCFG.EN ∧ ¬ s.flag TIME.SRVCFG.SRC ∧ ¬ s.flag TIME.SRVCFG.HOLD
      ∧ s.fourIntervals p ≤ s.clk.now - s.times.sampleAt then
    ((s.wrFlag TIME.SRVCFG.HOLD true).sqf TIME.HIST.SRVHOLD).report 0x0803 p (wrap32 s.times.theta)
  else s)

/-! ## PTP instances (R391 to R395) -/

/-- PTP_ANNOUNCE_ACCEPTED: the firmware accepts an Announce and puts instance `p` in state `st` (1 slave, 2 master, 3 passive); as
slave it writes the parent's stepsRemoved, clockClass and clockAccuracy (R392, R393). -/
def execPtpAnnounceAccepted (p st steps cls acc : Nat) (s : State) : Res :=
  .next (if p < 2 ∧ s.flag (TIME.PTP_CFG.EN p) ∧ 1 ≤ st ∧ st < 4 ∧ (st = 2 → s.flag (TIME.PTP_CFG.ROLE p)) then
    let s := s.wr (TIME.PTP_CFG.STATE p) st
    if st = 1 then
      ((s.wr (TIME.PTP_PARENT.STEPS p) steps).wr (TIME.PTP_PARENT.CLASS p) cls).wr (TIME.PTP_PARENT.ACCURACY p) acc
    else s
  else s)

/-- PTP_ANNOUNCE_RECEIPT_TIMEOUT: no Announce in three announce intervals; the firmware makes a master-capable instance master, and
returns any other to listening (R391, R392). -/
def execPtpAnnounceReceiptTimeout (p : Nat) (s : State) : Res :=
  .next (if p < 2 ∧ s.flag (TIME.PTP_CFG.EN p) then
    s.wr (TIME.PTP_CFG.STATE p) (if s.flag (TIME.PTP_CFG.ROLE p) then 2 else 0)
  else s)

/-- The clockIdentity of instance `p`: its port's MAC address with 0xFFFE after the third octet (R391). -/
def State.ptpIdentity (s : State) (p : Nat) : Nat :=
  let mac := s.rd (NET.MACHI.val p) * 2 ^ 32 + s.rd (NET.MACLO.val p)
  mac / 2 ^ 24 * 2 ^ 40 + 0xFFFE * 2 ^ 24 + mac % 2 ^ 24

/-- The egress time at port `x`'s MDI now, in units of 1/1024 ns (R394). -/
def State.egressTime (s : State) (x : Nat) : Nat := s.clk.time * 1024 / 10 ^ 12 + s.rd (NET.PTPLAT.EGRESS x) * 64

/-- PTP_MESSAGE_INTERVAL: the firmware of instance `p` sends a message: 0 Sync, with its egress time in its own fields or in a Follow_Up, or 1
Announce as master; 2 a delay request (R391 to R395). The words of the datagram are the fields the spec gives each. -/
def execPtpMessageInterval (p kind : Nat) (s : State) : Res :=
  .next (if p < 2 ∧ s.flag (TIME.PTP_CFG.EN p) ∧ s.flag (NET.STAT.LINK p) then
    let st := s.rd (TIME.PTP_CFG.STATE p)
    let dom := s.rd (TIME.PTP_CFG.DOMAIN p)
    let id := s.ptpIdentity p
    if kind = 0 ∧ st = 2 then
      let t := s.egressTime p
      let stamp := [t / 1024 / 10 ^ 9 % 2 ^ 48, t / 1024 % 10 ^ 9, t % 1024 * 64]
      if s.flag (TIME.PTP_CFG.ONESTEP p) then s.emit (.datagram 0 ([p, id, dom, 0] ++ stamp))
      else (s.emit (.datagram 0 [p, id, dom, 1, 0, 0, 0])).emit (.datagram 3 ([p, id, dom] ++ stamp))
    else if kind = 1 ∧ st = 2 then
      s.emit (.datagram 1 [p, id, dom, s.rd (TIME.PTP_CLS.PRIORITY1 p), s.rd (TIME.PTP_CLS.CLASS p),
                           s.rd (TIME.PTP_CLS.ACCURACY p), s.rd (TIME.PTP_CLS.PRIORITY2 p)])
    else if kind = 2 ∧ (st = 1 ∨ s.rd (TIME.PTP_CFG.PROFILE p) = 3) then s.emit (.datagram 2 [p, id, dom])
    else s
  else s)

/-- DOMAIN, LOGSYNC, LOGANN and LOGDREQ of a PTP profile (R391). -/
def ptpProfile (f : Nat) : Nat × Int × Int × Int :=
  match f with
  | 0 => (0, 0, 1, 0)
  | 1 => (0, -3, 1, 0)
  | 2 => (127, -3, -2, -3)
  | _ => (0, -3, 0, 0)

/-- The word that a LOAD of `v` leaves for TIME.PTPp_CFG: its profile's values over the rest (R391). -/
def ptpProfileWord (p v : Nat) : Word :=
  let (dom, sync, ann, req) := ptpProfile (bits v 27 26)
  let w := (TIME.PTP_CFG.DOMAIN p).put (BitVec.ofNat 32 v) dom
  let w := (TIME.PTP_CFG.LOGSYNC p).put w (wrapN 4 sync)
  let w := (TIME.PTP_CFG.LOGANN p).put w (wrapN 4 ann)
  (TIME.PTP_CFG.LOGDREQ p).put w (wrapN 4 req)

/-- A write of `v` with LOAD = 1 to TIME.PTPp_CFG by interface `i` (R391). -/
def State.ptpProfileLoad (s : State) (i p v : Nat) : State :=
  let (t, ok) := s.profileLoad i (TIME.PTP_CFG p) v [(TIME.PTP_CFG p, ptpProfileWord p v)]
  if ok then t.wrFlag (TIME.PTP_CFG.MODE p) false else t

/-! ## Timecode (R407, R408) -/

/-- Frames in a second of a timecode rate: of the reader (0 24, 1 25, 2 29.97, 3 30) or of the generator by `ltcTxRate`. -/
def ltcFrames (rate : Nat) : Nat := if rate = 0 then 24 else if rate = 1 then 25 else 30

/-- Two BCD digits as a number. -/
def ofBcd (b : Nat) : Nat := b / 16 % 16 * 10 + b % 16

/-- A number below 100 as two BCD digits. -/
def toBcd (n : Nat) : Nat := n / 10 % 10 * 16 + n % 10

/-- The time address after `tc` at `n` frames a second, skipping frames 0 and 1 at each minute not divisible by 10 in drop-frame
mode (R408). -/
def ltcNext (n : Nat) (drop : Bool) (tc : Nat) : Nat :=
  let f := ofBcd (bits tc 7 0) + 1
  let sec := ofBcd (bits tc 15 8) + f / n
  let mn := ofBcd (bits tc 23 16) + sec / 60
  let hr := (ofBcd (bits tc 31 24) + mn / 60) % 24
  let f := f % n
  let sec := sec % 60
  let mn := mn % 60
  let f := if drop && f == 0 && sec == 0 && mn % 10 != 0 then 2 else f
  toBcd hr * 2 ^ 24 + toBcd mn * 2 ^ 16 + toBcd sec * 2 ^ 8 + toBcd f

/-- LTC_FRAME_DECODED: a sync word ends a frame; its address, user bits, flags, rate and speed are written together, two sync words
in a row lock the reader, and an address out of sequence is recorded (R407). -/
def execLtcFrameDecoded (tc ub flags rate speed : Nat) (s : State) : Res :=
  .next (if s.flag TIME.LTCRX_CFG.EN ∧ 1 ≤ s.rd TIME.LTCRX_STAT.STATE then
    let n := ltcFrames rate
    let prev := s.rd TIME.LTCRX_TC.val
    let drop := bit flags 3
    let follows := if bit flags 4 then ltcNext n drop (tc % 2 ^ 32) == prev else ltcNext n drop prev == tc % 2 ^ 32
    let jump := s.times.ltc.seen && !follows
    let run := s.times.ltc.run + 1
    let first := if s.times.ltc.run = 0 then s.ns else s.times.ltc.first
    let s : State := { s with times := { s.times with ltc := { s.times.ltc with run := run, first := first, seen := true } } }
    let s := (((s.wr TIME.LTCRX_TC.val tc).wr TIME.LTCRX_UB.val ub).wr TIME.LTCRX_STAT.FLAGS flags).wr TIME.LTCRX_NS.val s.ns
    let s := ((s.wr TIME.LTCRX_STAT.RATE rate).wr TIME.LTCRX_STAT.SPEED speed).inc TIME.LTCRX_SEQ.val
    let s := if run = 2 ∧ s.rd TIME.LTCRX_STAT.STATE = 1 then (s.wr TIME.LTCRX_STAT.STATE 2).report 0x0808 0 first else s
    if jump then (s.sqf TIME.HIST.LTCDISCONT).report 0x080A 0 tc else s
  else s)

/-- LTC_LOST: no sync word for 2 nominal frame periods (R407). -/
def execLtcLost (s : State) : Res :=
  .next (if 1 ≤ s.times.ltc.run then
    let was := s.rd TIME.LTCRX_STAT.STATE
    let s : State := { s with times := { s.times with ltc := { s.times.ltc with run := 0, seen := false } } }
    if was = 2 then
      ((s.wr TIME.LTCRX_STAT.STATE 1).sqf TIME.HIST.LTCLOST).report 0x0809 0 (s.rd TIME.LTCRX_NS.val)
    else s
  else s)

/-- Rn and D of the generator's rate (R408). -/
def ltcRatio (rate : Nat) : Nat × Nat := if rate = 0 then (24, 1) else if rate = 1 then (25, 1) else if rate < 4 then (30000, 1001) else (30, 1)

/-- The sample period after its start at which frame `k` of the generator begins (R408). -/
def State.ltcBegin (s : State) (k : Nat) : Nat :=
  let (r, d) := ltcRatio (s.rd TIME.LTCTX_CFG.RATE)
  k * s.fs * d / r

/-- LTC_TX_FRAME: the generator begins its next frame; LTC_OUT is driven where this chip drives its outputs (R400, R408). -/
def execLtcTxFrame (s : State) : Res :=
  let x := s.times.ltc
  .next (if x.running ∧ s.ltcBegin x.k ≤ x.samples + s.clk.cycle * s.fs / 10 ^ 9 then
    let tc := if x.k = 0 ∨ x.jam then s.rd TIME.LTCTX_TC.val else x.tc
    let rate := s.rd TIME.LTCTX_CFG.RATE
    let next := ltcNext (if rate < 2 then ltcFrames rate else 30) (rate == 2) tc
    let s := if s.drives then s.emit (.ltc tc (s.rd TIME.LTCTX_UB.val)) else s
    { s with times := { s.times with ltc := { s.times.ltc with k := x.k + 1, tc := next, jam := false } } }
  else s)

/-- LTCTX_CFG.JAM: TC goes into the next frame (R408). -/
def State.ltcJam (s : State) : State := { s with times := { s.times with ltc := { s.times.ltc with jam := true } } }

/-- A tick ends, under its own epoch: the generator's sample count advances by it (R408). -/
def State.ltcTick (s : State) : State :=
  let x := s.times.ltc
  if x.running then { s with times := { s.times with ltc := { x with samples := x.samples + s.tickLen } } } else s

/-- The generator at B(n): it starts where its start has come (R408). -/
def State.ltcBoundary (s : State) (n : Nat) : State :=
  let x := s.times.ltc
  let x := if x.startAt == some n then { x with running := true, samples := 0, k := 0, startAt := none } else x
  { s with times := { s.times with ltc := x } }

/-- An epoch applied at B(e) at the reader, the generator and the PTP instances (R407, R408). -/
def State.timeEpoch (s : State) (old new : Cfg) (e : Nat) : State :=
  let rx := Cfg.flag new TIME.LTCRX_CFG.EN
  let s := if rx && !Cfg.flag old TIME.LTCRX_CFG.EN then s.wr TIME.LTCRX_STAT.STATE 1
    else if rx then s
    else
      let s := s.wr TIME.LTCRX_STAT.STATE 0
      { s with times := { s.times with ltc := { s.times.ltc with run := 0, seen := false } } }
  let s := if Cfg.flag new TIME.LTCTX_CFG.EN then
      if Cfg.flag old TIME.LTCTX_CFG.EN then s
      else
        let at_ := Cfg.rd new TIME.LTCTX_AT.val
        let late := !futureTick at_ s.tick
        let s := s.wrFlag TIME.LTCTX_CFG.LATE late
        let t := if late then (e + 1) % 2 ^ 32 else at_
        { s with times := { s.times with ltc := { s.times.ltc with startAt := some t, running := false } } }
    else { s with times := { s.times with ltc := { s.times.ltc with startAt := none, running := false } } }
  let s := s.eachBelow (fun s p => if Cfg.flag new (TIME.PTP_CFG.EN p) then s else s.wr (TIME.PTP_CFG.STATE p) 0) 2
  let runs := fun c => (Cfg.flag c TIME.SRVCFG.EN, Cfg.flag c TIME.SRVCFG.SRC, Cfg.rd c TIME.SRVCFG.PORT)
  let s := if Cfg.flag new TIME.SRVCFG.SRC || !Cfg.flag new TIME.SRVCFG.EN then s.wrFlag TIME.SRVCFG.HOLD false else s
  if runs old != runs new then { s with times := { s.times with sampleAt := s.clk.now } } else s

end Sys2Proof.Machine
end

