-- ==== Sys2Proof/Machine/Net.lean ====
section
/-!
DEFINITION. Network ports and the embedded switch (R411 to R430), and what the consumers of kennels do with popped words
(R224, R233 to R235).
-/

namespace Sys2Proof.Machine

/-! ## Ports -/

/-- Port `x` (0 A, 1 B, 2 M) behind its registers. -/
def State.port (s : State) (x : Nat) : Port := Store.get (fun _ => Port.reset) s.net.ports x

/-- The state with port `x` at `p`. -/
def State.setPort (s : State) (x : Nat) (p : Port) : State :=
  { s with net := { s.net with ports := Store.set (fun _ => Port.reset) s.net.ports x p } }

/-- The line rate of port `x` in Mbit/s (R411). -/
def State.lineRate (s : State) (x : Nat) : Nat :=
  match s.rd (NET.CFG.RATE x) with
  | 0 => 1000 | 1 => 2500 | 2 => 10000 | _ => 25000

/-- ns that a frame of `n` bytes without its FCS takes on the line of port `x`, preamble and gap included (R426). -/
def State.wireNs (s : State) (x n : Nat) : Nat := ceilDiv ((n + 24) * 8 * 1000) (s.lineRate x)

/-- The port on the other side of kennel `k`, for a transmit kennel (R224). -/
def portOf (k : Nat) : Option Nat :=
  if 2 ≤ k ∧ k < 6 ∨ k = 10 then some 0
  else if 6 ≤ k ∧ k < 10 ∨ k = 11 then some 1
  else if k = 12 ∨ k = 13 then some 2
  else none

/-- A block index of a port (R428). -/
def portBlock (x : Nat) : Nat := 9 + x

/-- The link of port `x` goes down: frames queued for it are dropped, and its PTP instance returns to listening (R412, R427). -/
def State.linkDown (s : State) (x : Nat) : State :=
  if s.flag (NET.STAT.LINK x) then
    let s := ((s.wrFlag (NET.STAT.LINK x) false).wrFlag (NET.STAT.PCSLOCK x) false).wrFlag (NET.STAT.FECLOCK x) false
    let s := (s.inc (NET.LINKDOWNS.val x)).sqf (NET.HIST.LINKDOWN x)
    let s := s.report (portBlock x * 256 + 1) 0 s.tick
    let s := s.eachBelow (fun s k =>
      if portOf k = some x then
        let q := s.kennel k
        s.setKennel k { q with pkts := [] }
      else s) 14
    let p := s.port x
    let s := s.setPort x { p with sending := none, resume := false }
    if x < 2 then s.wr (TIME.PTP_CFG.STATE x) 0 else s
  else s

/-- LINK_UP: the link of an enabled port comes up; transmission resumes at the next boundary (R412, R427). -/
def execLinkUp (x : Nat) (s : State) : Res :=
  .next (if x < 3 ∧ s.flag (NET.CFG.EN x) ∧ ¬ s.flag (NET.STAT.IDLE x) ∧ ¬ s.flag (NET.STAT.LINK x) then
    let s := ((s.wrFlag (NET.STAT.LINK x) true).wrFlag (NET.STAT.PCSLOCK x) true).wrFlag (NET.STAT.FECLOCK x) (s.flag (NET.CFG.FEC x))
    let p := s.port x
    let s := s.setPort x { p with resume := true }
    (s.sqf (NET.HIST.LINKUP x)).report (portBlock x * 256 + 2) 0 s.tick
  else s)

/-- LINK_DOWN: the PCS loses lock or auto-negotiation (R412, R427). -/
def execLinkDown (x : Nat) (s : State) : Res := .next (if x < 3 then s.linkDown x else s)

/-- The boundary at which a port whose link came up resumes transmission (R427). -/
def State.portsResume (s : State) : State :=
  s.eachBelow (fun s x =>
    let p := s.port x
    if p.resume then s.setPort x { p with resume := false } else s) 3

/-! ## VLANs, MAC table and groups (R419 to R421) -/

/-- The VLAN entry that serves `vid`. -/
def State.vlan (s : State) (vid : Nat) : Option Nat :=
  firstBelow (fun v => s.flag (SW.VLAN.EN v) && s.rd (SW.VLAN.VID v) == vid) 64

/-- The VID of a frame received at port `x`: its tag's, or the port's PVID for an untagged or priority-tagged one (R419). -/
def State.vidOf (s : State) (x : Nat) (e : Ether) : Nat :=
  match e.tag with
  | some t => if t % 2 ^ 12 = 0 then s.rd (SW.PVID.val x) else t % 2 ^ 12
  | none => s.rd (SW.PVID.val x)

/-- The members of the VLAN of `vid`, as a mask, 0 where there is none (R419). -/
def State.members (s : State) (vid : Nat) : Nat :=
  match s.vlan vid with
  | some v => s.rd (SW.VLAN.MEMBER v)
  | none => 0

/-- The key of a MAC table entry. -/
def macKey (vid mac : Nat) : Nat := vid * 2 ^ 48 + mac

/-- The key of a group table entry: VID, IP version and group address. -/
def groupKey (vid : Nat) (v6 : Bool) (addr : Nat) : Nat := (vid * 2 + (if v6 then 1 else 0)) * 2 ^ 128 + addr

/-- The source address of a frame received at port `x` is learned; a full table learns nothing (R420). -/
def State.learn (s : State) (x vid mac : Nat) : State :=
  let k := macKey vid mac
  if (Store.find s.net.macs k).isSome ∨ s.net.macs.length < 4096 then
    let s : State := { s with net := { s.net with macs := Store.insert s.net.macs k (x, s.clk.now) } }
    s.wr SW.MACCNT.val s.net.macs.length
  else (s.sqf SW.HIST.MACFULL).report 0x0C01 0 vid

/-- The MAC table entry by which a frame is forwarded is used (R420; DEDUCED, log entry 29). -/
def State.useMac (s : State) (vid mac : Nat) : State :=
  match Store.find s.net.macs (macKey vid mac) with
  | some (p, _) => { s with net := { s.net with macs := Store.insert s.net.macs (macKey vid mac) (p, s.clk.now) } }
  | none => s

/-- MAC_ENTRY_AGED: an entry unused for AGE seconds is forgotten (R420). -/
def execMacEntryAged (vid mac : Nat) (s : State) : Res :=
  .next (match Store.find s.net.macs (macKey vid mac) with
    | some (_, t) =>
      if s.rd SW.CTL.AGE * 10 ^ 9 ≤ s.clk.now - t then
        let s : State := { s with net := { s.net with macs := s.net.macs.erase (macKey vid mac) } }
        s.wr SW.MACCNT.val s.net.macs.length
      else s
    | none => s)

/-- Port `x` joins a group on a report; a full table leaves new groups unknown (R421). -/
def State.joinGroup (s : State) (x vid : Nat) (v6 : Bool) (addr : Nat) : State :=
  let k := groupKey vid v6 addr
  match Store.find s.net.groups k with
  | some ps =>
    { s with net := { s.net with groups := Store.insert s.net.groups k ((x, s.clk.now) :: ps.filter (fun p => p.1 != x)) } }
  | none =>
    if s.net.groups.length < 1024 then
      let s : State := { s with net := { s.net with groups := Store.insert s.net.groups k [(x, s.clk.now)] } }
      s.wr SW.GRPCNT.val s.net.groups.length
    else (s.sqf SW.HIST.GRPFULL).report 0x0C02 0 vid

/-- GROUP_LEAVE: port `x` has sent no report for a group for 260 s (R421). -/
def execGroupLeave (x vid : Nat) (v6 : Bool) (addr : Nat) (s : State) : Res :=
  .next (
    let k := groupKey vid v6 addr
    match Store.find s.net.groups k with
    | some ps =>
      if ps.any (fun p => p.1 == x && decide (260 * 10 ^ 9 ≤ s.clk.now - p.2)) then
        let rest := ps.filter (fun p => p.1 != x)
        let s : State := { s with net := { s.net with
          groups := if rest.isEmpty then s.net.groups.erase k else Store.insert s.net.groups k rest } }
        s.wr SW.GRPCNT.val s.net.groups.length
      else s
    | none => s)

/-- The group addresses that the records of an IGMPv3 or MLDv2 report join: `n` records of `w`-byte addresses. A record that
includes no source joins nothing (R421; DEDUCED, log entry 29). -/
def groupRecords (w : Nat) : Nat → List Nat → List Nat
  | 0, _ => []
  | n + 1, b =>
    let kind := beAt b 0 1
    let len := 4 + w + beAt b 2 2 * w + beAt b 1 1 * 4
    let rest := groupRecords w n (b.drop len)
    if (kind = 1 ∨ kind = 3) ∧ beAt b 2 2 = 0 then rest else beAt b 4 w :: rest

/-- A frame is an IGMP or MLD message (R418). -/
def groupMessage (e : Ether) : Bool :=
  match ipOf e with
  | some i => (!i.v6 && i.proto == 2) || (i.v6 && i.proto == 58 && [130, 131, 132, 143].contains (beAt i.body 0 1))
  | none => false

/-- Snooping of an IGMPv3 or MLDv2 report received at port `x` (R421). -/
def State.snoop (s : State) (x vid : Nat) (e : Ether) : State :=
  if s.flag SW.CTL.SNOOP then
    match ipOf e with
    | some i =>
      let t := beAt i.body 0 1
      if (!i.v6 && i.proto == 2 && t == 0x22) || (i.v6 && i.proto == 58 && t == 143) then
        (groupRecords (if i.v6 then 16 else 4) (beAt i.body 6 2) (i.body.drop 8)).foldl (fun s a => s.joinGroup x vid i.v6 a) s
      else s
    | none => s
  else s

/-- A frame goes to many: its destination address is a group. -/
def groupAddr (mac : Nat) : Bool := mac / 2 ^ 40 % 2 == 1

/-- The broadcast address. -/
def broadcast : Nat := 2 ^ 48 - 1

/-- The internal port is a member of the group of a frame: that of an enabled receive flow (R422). -/
def State.internalGroup (s : State) (e : Ether) : Bool :=
  (Cfg.rxFlows s.live).any (fun i =>
    if fmtAaf (s.rd (FT.FMT i)) then s.rd (FT.ADDR2 i) * 2 ^ 16 + s.rd (FT.ADDR3 i) / 2 ^ 16 == e.dst
    else match ipOf e with
      | some p => p.v6 == s.flag (FT.IPV6 i) && Cfg.flowAddr s.live i == p.dst
      | none => false)

/-- The firmware reports the group of receive flow `i` on port `x`, where its PATH names the port and its address is a group: port, IP version and
address (R422). -/
def State.reportGroup (s : State) (x i : Nat) : State :=
  let v6 := s.flag (FT.IPV6 i)
  let a := Cfg.flowAddr s.live i
  let group := if v6 then a / 2 ^ 120 == 0xFF else a / 2 ^ 28 == 0xE
  if !fmtAaf (s.rd (FT.FMT i)) && group && Cfg.onPath s.live i x then s.emit (.datagram 4 [x, if v6 then 6 else 4, a]) else s

/-- The firmware answers a membership query received at port `x`: IGMP, or MLD where the query is of IPv6 (R422). -/
def State.answerQuery (s : State) (x : Nat) (e : Ether) : State :=
  match ipOf e with
  | some p =>
    let query := if p.v6 then p.proto == 58 && beAt p.body 0 1 == 130 else p.proto == 2 && beAt p.body 0 1 == 0x11
    if query && decide (x < 2) then
      ((Cfg.rxFlows s.live).filter (fun i => s.flag (FT.IPV6 i) == p.v6)).foldl (fun (s : State) i => s.reportGroup x i) s
    else s
  | none => s

/-- Multicast that is always sent to every member of its VLAN (R421). -/
def alwaysFlooded (e : Ether) : Bool :=
  e.dst / 2 ^ 4 == 0x0180C2000000 / 2 ^ 4 ||
    (match ipOf e with
     | some i => if i.v6 then i.dst / 2 ^ 112 == 0xFF02 else i.dst / 2 ^ 8 == 0xE00000
     | none => false)

/-- The ports that a group frame goes to, as a mask, before its VLAN's members are taken (R421). -/
def State.groupPorts (s : State) (vid : Nat) (e : Ether) : Nat :=
  if e.dst = broadcast ∨ alwaysFlooded e then 15
  else
    let inner := s.internalGroup e
    let joined := if s.flag SW.CTL.SNOOP then
        match ipOf e with
        | some i => Store.find s.net.groups (groupKey vid i.v6 i.dst)
        | none => none
      else none
    match joined with
    | some ps => ((List.range 3).map (fun x => if ps.any (fun p => p.1 == x) then 2 ^ x else 0)).sum + (if inner then 8 else 0)
    | none => if s.flag SW.CTL.SNOOP && inner then 8 else if s.flag SW.CTL.UNREG then 8 else 15

/-- The ports that a frame from port `x` (3 the internal port) is sent to, as a list, by VLAN, MAC table, groups and network mode
(R415, R419 to R421, R396). -/
def State.egressPorts (s : State) (x vid : Nat) (e : Ether) : List Nat :=
  let own := x < 3 ∧ e.dst = s.portMac x
  let mask := if own then 8
    else if groupAddr e.dst then s.groupPorts vid e
    else match Store.find s.net.macs (macKey vid e.dst) with
      | some (p, _) => 2 ^ p
      | none => 7
  let ok := fun q => bit mask q && bit (s.members vid) q && q != x
    && !(e.dst == 0x0180C200000E && decide (q < 3) && decide (x < 3))
    && !((x == 0 && q == 1 || x == 1 && q == 0) && s.rd SW.CTL.NETMODE != 2)
  (List.range 4).filter ok

/-- The bytes of a frame as it leaves a port: tagged with its VID and PCP, or untagged (R419). -/
def egressBytes (e : Ether) (vid : Nat) (untag : Bool) : List Nat :=
  let pcp := match e.tag with | some t => t / 2 ^ 12 | none => 0
  toBe 6 e.dst ++ toBe 6 e.src ++ (if untag then [] else [0x81, 0x00] ++ toBe 2 (pcp * 2 ^ 12 + vid)) ++ toBe 2 e.etype ++ e.body

/-- The traffic class of a frame from another port (R423). -/
def classOf (e : Ether) : Nat :=
  match e.tag with
  | some t => 3 - t / 2 ^ 13 / 2 % 4
  | none => 3

/-- A PTP frame: EtherType 0x88F7, or UDP port 319 or 320 (R418). -/
def isPtp (e : Ether) : Bool :=
  e.etype == 0x88F7 || (match udpOf e with | some u => u.dport == 319 || u.dport == 320 | none => false)

/-- The transmit kennel of a frame for port `q`: the strict-priority one for PTP, else by class (R224, R392). -/
def txKennel (q cls : Nat) (ptp : Bool) : Nat :=
  if ptp then 10 + q else if q = 0 then 2 + cls else if q = 1 then 6 + cls else 13

/-- A frame is queued at port `q`, where its link is up and the port sends frames of its length (R413, R427; that a longer one is dropped is
DEDUCED, log entry 29). -/
def State.queueAt (s : State) (q src cls ts : Nat) (ptp : Bool) (bytes : List Nat) : State :=
  if s.flag (NET.STAT.LINK q) ∧ bytes.length + 4 ≤ s.rd (NET.CFG.MAXFRAME q) then (s.pushPacket (txKennel q cls ptp) (packetOf src cls ts bytes) false none).1 else s

/-- The queue of a frame delivered to the internal port: kennel and queue number (R418). -/
def State.internalQueue (s : State) (x : Nat) (e : Ether) : Nat × Nat :=
  if isPtp e && decide (x < 2) && s.flag (TIME.PTP_CFG.EN x) then (48, 0)
  else if groupMessage e then (49, 1)
  else
    let udp := match udpOf e with | some u => some u.dport | none => none
    match firstBelow (fun r => s.flag (SW.STEER.EN r) &&
        (if s.flag (SW.STEER.KIND r) then udp == some (s.rd (SW.STEER.VALUE r)) else s.rd (SW.STEER.VALUE r) == e.etype)) 16 with
    | some r => let d := s.rd (SW.STEER.DEST r); if d < 8 then (16 + d, d) else (40 + d, d - 8)
    | none => (16, 0)

/-- A frame goes to each of the ports `qs` (R417 to R421, R423). -/
def State.sendTo (s : State) (x vid cls ts : Nat) (e : Ether) (qs : List Nat) : State :=
  let untag := match s.vlan vid with | some v => s.rd (SW.VLAN.UNTAG v) | none => 0
  qs.foldl (fun s q =>
    let bytes := egressBytes e vid (bit untag q)
    if q < 3 then s.queueAt q x cls ts (isPtp e) bytes
    else
      let (k, n) := s.internalQueue x e
      (s.pushPacket k (packetOf x n ts bytes) false none).1) s

/-! ## Ingress (R417) -/

/-- TIME.NS at the timestamp point for a frame now at the PCS of port `x` (R394). -/
def State.ingressNs (s : State) (x : Nat) : Nat :=
  (s.clk.time * 16 / 10 ^ 12 + 2 ^ 36 - s.rd (NET.PTPLAT.INGRESS x)) / 16 % 2 ^ 32

/-- The SSM code of an ESMC information PDU. -/
def esmcCode (e : Ether) : Option Nat :=
  if e.etype = 0x8809 ∧ beAt e.body 0 1 = 0x0A ∧ 14 ≤ e.body.length ∧ beAt e.body 10 1 = 1 then some (beAt e.body 13 1 % 16) else none

/-- The packet of a media frame goes into the kennel of its port, whole, or from the word at which words pushed one by one had come; with a bad FCS it
vanishes (R229 to R232). -/
def State.intoMedia (s : State) (x : Nat) (words : List Nat) (good : Bool) : State :=
  let k := s.kennel x
  if !k.cur.isEmpty || k.ignoring || s.readingInto x then
    if good then
      let got := match Store.find s.copies x with | some c => c.got.length | none => 0
      s.pushWords x false none (words.drop (min (got + k.cur.length) (words.length - 1)))
    else s.endBad x
  else (s.pushPacket x words (!good) none).1

/-- A well-formed frame of a known VLAN: media to its kennel, and the rest by the switch (R174, R417). -/
def State.ingress (s : State) (x vid : Nat) (e : Ether) (bytes : List Nat) (good : Bool) : State :=
  let ts := s.ingressNs x
  let flow := if x < 2 then (mediaKey e).bind (fun k => Cfg.classify s.live k) else none
  let media := decide (x < 2) && mediaFrame e
  let s := match flow with
    | some i =>
      if Cfg.onPath s.live i x then
        (s.inc (if x = 0 then RS.COPIES_A i else RS.COPIES_B i)).intoMedia x (packetOf x 0 ts bytes) good
      else s.inc FLOW.RXNOMATCH.val
    | none => if media then s.inc FLOW.RXNOMATCH.val else s
  if good then
    let s := s.learn x vid e.src
    let s := s.snoop x vid e
    let s := match esmcCode e with
      | some c =>
        if x < 2 then
          let r := s.refIn (2 + x)
          s.setRefIn (2 + x) { r with ssm := some (c, s.clk.now) }
        else s
      | none => s
    let s := (s.answerQuery x e).useMac vid e.dst
    let qs := (s.egressPorts x vid e).filter (fun q => q != 3 || flow.isNone)
    s.sendTo x vid (classOf e) ts e qs
  else s

/-- RX_FRAME: port `x` receives a frame, given without its FCS, whose FCS was good or not; `corr` and `uncorr` count its FEC
codewords (R412, R413, R417, R419). Due while the link is up. -/
def execRxFrame (x : Nat) (bytes : List Nat) (fcsOk : Bool) (corr uncorr : Nat) (s : State) : Res :=
  .next (if x < 3 ∧ s.flag (NET.STAT.LINK x) then
    let s := (s.inc (NET.RXFRAMES.val x)).add (NET.FECCORR.val x) corr
    let s := if uncorr = 0 then s else (s.add (NET.FECUNCORR.val x) uncorr).sqf (NET.HIST.FECUNCORR x)
    let good := fcsOk && uncorr == 0
    let s := if good then s else s.inc (NET.RXFCS.val x)
    let e := etherOf bytes
    let vid := s.vidOf x e
    if s.rd (NET.CFG.MAXFRAME x) < bytes.length + 4 then s.inc (NET.RXDROP.val x)
    else if !bit (s.members vid) x then s.inc SW.DROPS.val
    else s.ingress x vid e bytes good
  else s)

/-! ## Egress (R423 to R426) -/

/-- The class kennels of port A or B, class 0 first. -/
def classKennels (x : Nat) : List Nat := if x = 0 then [2, 3, 4, 5] else [6, 7, 8, 9]

/-- hiCredit of a class, in thousandths of a bit (R425; DEDUCED, log entry 29). -/
def State.hiCredit (s : State) (x slope : Nat) : Int := Int.ofNat (s.rd (NET.CFG.MAXFRAME x) * 8 * 1000 * slope / s.lineRate x)

/-- loCredit of a class (R425; DEDUCED, log entry 29). -/
def State.loCredit (s : State) (x slope : Nat) : Int :=
  -Int.ofNat (s.rd (NET.CFG.MAXFRAME x) * 8 * 1000 * (s.lineRate x - slope) / s.lineRate x)

/-- The credit of class `c` of port `x` now: it rises at idleSlope while negative, and while its kennel holds a frame, and a positive
credit is lost when the kennel is empty (R425; DEDUCED, log entry 29). -/
def State.creditNow (s : State) (x c : Nat) : Int :=
  let slope := s.rd (SW.SHAPE.IDLESLOPE x c)
  let k := (classKennels x).getD c 2
  let (c0, t0) := (Store.find (s.port x).credit c).getD (0, 0)
  let now := s.clk.now
  let rise := if c0 < 0 ∧ slope ≠ 0 then t0 + ceilDiv c0.natAbs slope else t0
  if now < rise then c0 + Int.ofNat (slope * (now - t0))
  else if (s.kennel k).level = 0 then min c0 0 + (if c0 < 0 then Int.ofNat c0.natAbs else 0)
  else
    let since := (Store.find s.net.since k).getD 0
    let base := if c0 < 0 ∨ t0 < since then 0 else c0
    min (s.hiCredit x slope) (base + Int.ofNat (slope * (now - max rise since)))

/-- A frame of `n` bytes of class `c` is sent from now on: its credit falls at sendSlope (R425). -/
def State.spendCredit (s : State) (x c n : Nat) : State :=
  let slope := s.rd (SW.SHAPE.IDLESLOPE x c)
  if slope = 0 then s
  else
    let d := s.wireNs x n
    let v := max (s.loCredit x slope) (s.creditNow x c - Int.ofNat ((s.lineRate x - slope) * d))
    let p := s.port x
    s.setPort x { p with credit := Store.insert p.credit c (v, s.clk.now + d) }

/-- The ns for which the gate of class `c` of port `x` stays open, over the rest of the gate list from entry `i`, or none where it
stays open throughout; `left` is what remains of the current entry (R426). -/
def gateLeft (gates : List (Nat × Nat)) (g i left : Nat) : Nat → Option Nat
  | 0 => none
  | n + 1 =>
    match gates[i % (max gates.length 1)]? with
    | some (m, iv) =>
      if bit m g then (gateLeft gates g (i + 1) iv n).map (· + left) else some 0
    | none => none

/-- Class `c` of port `x` may send a frame of `n` bytes by its gate: open, with time for the frame before it closes (R424, R426). -/
def State.gateAllows (s : State) (x c n : Nat) : Bool :=
  if s.flag SW.GCLCTL.EN && s.flag SW.GCLSTAT.RUNNING then
    let left := if futureTime s.net.entryEnd s.ns then (s.net.entryEnd + 2 ^ 32 - s.ns) % 2 ^ 32 else 0
    match gateLeft s.net.gates (c + 4 * x) (s.rd SW.GCLSTAT.ENTRY) left s.net.gates.length with
    | some t => decide (s.wireNs x n ≤ t)
    | none => true
  else true

/-- The length of the head frame of kennel `k`, where it holds a committed packet. -/
def State.headFrame (s : State) (k : Nat) : Option Nat :=
  match (s.kennel k).pkts with
  | p :: _ => some (headerLen (p.words.headD 0))
  | [] => none

/-- The kennel whose head frame port `x` sends next, with its class (R424). -/
def State.nextFrame (s : State) (x : Nat) : Option (Nat × Option Nat) :=
  if (s.headFrame (10 + x)).isSome then some (10 + x, none)
  else if x = 2 then (if (s.headFrame 13).isSome then some (13, none) else none)
  else
    (firstBelow (fun c =>
      match s.headFrame ((classKennels x).getD c 2) with
      | some n =>
        s.gateAllows x c n && (s.rd (SW.SHAPE.IDLESLOPE x c) == 0 || decide (0 ≤ s.creditNow x c))
      | none => false) 4).map (fun c => ((classKennels x).getD c 2, some c))

/-- The bytes `o` to `o + new.length` of a frame replaced. -/
def patchBytes (bs : List Nat) (o : Nat) (new : List Nat) : List Nat := bs.take o ++ new ++ bs.drop (o + new.length)

/-- The residence time of a forwarded PTP event message, in 1/16 ns, added to its correctionField with the checksum repaired (R395,
R396). Other frames are unchanged. -/
def correctFrame (bytes : List Nat) (residence : Nat) : List Nat :=
  let e := etherOf bytes
  let head := bytes.length - e.body.length
  let (o, ip) : Option Nat × Option Ip :=
    if e.etype = 0x88F7 then (some head, none)
    else match udpOf e with
      | some u => if u.dport = 319 then (some (bytes.length - e.body.length + (if u.ip.v6 then 40 else beAt e.body 0 1 % 16 * 4) + 8), some u.ip)
        else (none, none)
      | none => (none, none)
  match o with
  | some o =>
    if beAt bytes o 1 % 16 < 4 then
      let old := (bytes.drop (o + 8)).take 8
      let new := toBe 8 ((be old + residence * 2 ^ 12) % 2 ^ 64)
      let out := patchBytes bytes (o + 8) new
      match ip with
      | none => out
      | some i =>
        if i.v6 then
          let e2 := o + beAt bytes (o - 4) 2 - 8
          let pad := foldSum 8 (beAt bytes (e2 - 2) 2 + foldSum 8 (wordSum old) + (0xFFFF - foldSum 8 (wordSum new)))
          patchBytes out (e2 - 2) (toBe 2 pad)
        else patchBytes out (o - 2) [0, 0]
    else bytes
  | none => bytes

/-- The head packet of kennel `k`, as port `x` starts to send it: a frame that came from another port carries its residence time
(R396). -/
def State.startFrame (s : State) (x k : Nat) : State :=
  let q := s.kennel k
  match q.pkts with
  | p :: ps =>
    let h := p.words.headD 0
    let src := bits h 19 16
    if src < 3 ∧ p.tag = none then
      let egress := s.clk.time * 16 / 10 ^ 12 + s.rd (NET.PTPLAT.EGRESS x)
      let stay := (egress + 2 ^ 36 - h / 2 ^ 32 * 16) % 2 ^ 36
      let f := correctFrame (frameOf p.words) stay
      s.setKennel k { q with pkts := { p with words := packetOf src (bits h 23 20) (h / 2 ^ 32) f } :: ps }
    else s
  | [] => s

/-- PORT_FRAME_TX: a free port whose line no cue send holds chooses its next frame and starts to send it (R403, R424); the words
leave by KENNEL_WORD_POP. -/
def execPortFrameTx (x : Nat) (s : State) : Res :=
  .next (
    let p := s.port x
    if x < 3 ∧ s.flag (NET.STAT.LINK x) ∧ ¬ p.resume ∧ p.sending = none ∧ p.freeAt ≤ s.clk.now ∧ p.holds = [] then
      match s.nextFrame x with
      | some (k, cls) =>
        let n := (s.headFrame k).getD 0
        let s := match cls with | some c => s.spendCredit x c n | none => s
        let s := s.startFrame x k
        let p := s.port x
        s.setPort x { p with sending := some k, freeAt := s.clk.now + s.wireNs x n }
      | none => s
    else s)

/-! ## The gate control list (R426) -/

/-- The entries of the live gate control list: gates and interval. -/
def State.gateList (s : State) : List (Nat × Nat) :=
  (List.range (s.rd SW.GCLCTL.NENT)).map (fun i => (s.rd (GCL.GATESA i) + s.rd (GCL.GATESB i) * 2 ^ 4, s.rd (GCL.INTERVAL i)))

/-- A cycle of the gate list starts at time `t`, with the live list (R426). -/
def State.gateCycle (s : State) (t : Nat) : State :=
  let gs := s.gateList
  let s := (s.wrFlag SW.GCLSTAT.RUNNING true).wr SW.GCLSTAT.ENTRY 0
  let iv := match gs with | (_, v) :: _ => v | [] => 0
  { s with net := { s.net with gates := gs, entryEnd := (t + iv) % 2 ^ 32,
                               cycleAt := some ((t + s.rd SW.GCLCYCLE.val) % 2 ^ 32) } }

/-- GATE_LIST_ADVANCE: the interval of the current entry expires, or the list's base comes (R426). -/
def execGateListAdvance (s : State) : Res :=
  .next (if s.flag SW.GCLCTL.EN then
    match s.net.cycleAt with
    | some t =>
      if s.flag SW.GCLSTAT.RUNNING then
        if reachedTime s.net.entryEnd s.ns then
          let i := s.rd SW.GCLSTAT.ENTRY + 1
          match s.net.gates[i]? with
          | some (_, iv) =>
            let s := s.wr SW.GCLSTAT.ENTRY i
            { s with net := { s.net with entryEnd := (s.net.entryEnd + iv) % 2 ^ 32 } }
          | none => s.gateCycle t
        else s
      else if reachedTime t s.ns then s.gateCycle t
      else s
    | none => s
  else s)

/-! ## Words popped by units (R224, R233 to R235) -/

/-- The consumer of kennel `k` may pop now: a port the kennel it is sending from, the pair link, the switch's internal port and the
firmware at any time. Hosts pop through their window, the depacketizer by its own rows, and the cue launcher at
arming. -/
def State.mayPop (s : State) (k : Nat) : Bool :=
  match portOf k with
  | some x => (s.port x).sending == some k
  | none => k == 14 || k == 15 || (decide (24 ≤ k) && decide (k < 32)) || (decide (48 ≤ k) && decide (k < 64))

/-- A frame that the host or the firmware has queued reaches the switch (R423). -/
def State.fromInternal (s : State) (words : List Nat) : State :=
  let q := bits (words.headD 0) 23 20
  let bytes := frameOf words
  let e := etherOf bytes
  let d := q / 4
  let cls := q % 4
  if d = 0 then
    let vid := s.vidOf 3 e
    if bit (s.members vid) 3 then (s.useMac vid e.dst).sendTo 3 vid cls 0 e (s.egressPorts 3 vid e) else s.inc SW.DROPS.val
  else s.queueAt (d - 1) 3 cls 0 (isPtp e) bytes

/-- The last word of a packet has been popped: what its consumer does with it. -/
def State.consumed (s : State) (k : Nat) (p : KPacket) : State :=
  match portOf k with
  | some x =>
    let q := s.port x
    let s := s.setPort x { q with sending := none }
    (s.inc (NET.TXFRAMES.val x)).emit (.frame x (frameOf p.got))
  | none =>
    if k = 14 then s.emit (.pair 2 p.got)
    else if 24 ≤ k ∧ k < 32 ∨ 56 ≤ k then s.fromInternal p.got
    else p.got.foldl (fun s w => s.emit (.word k w)) s

/-- An error in a word that a consumer with rows or a window of its own pops: the depacketizer, the host and the cue launcher.
A corrected one is counted (R234). An uncorrectable one takes the packet away; of a copy being placed that is COPY_REWIND (R185, R235). -/
def State.popError (s : State) (k err a : Nat) : State :=
  let q := s.kennel k
  let copy := (Store.find s.copies k).isSome
  if (portOf k).isSome then s
  else if k < 2 then
    (if err = 1 ∧ (copy ∨ (s.headCopy k).isSome) then s.kennelCorr k a
     else if err = 2 ∧ !copy ∧ (s.headCopy k).isSome then
       let s' := s.kennelUncorr k a
       match s.headFlow s.live k with
       | some i => (s'.takeHead k).inc (RS.REWIND_ECC i)
       | none => s'.takeHead k
     else s)
  else
    match q.pkts with
    | [] => s
    | _ :: ps =>
      if err = 1 then s.kennelCorr k a
      else if err = 2 then (s.kennelUncorr k a).setKennel k { q with pkts := ps }
      else s

/-- KENNEL_WORD_POP: the consumer of kennel `k` pops a word, at word address `a` of kennel SRAM; `err` is 1 for a corrected and 2 for an
uncorrectable error (R233 to R235, R214). -/
def execKennelWordPop (k err a : Nat) (s : State) : Res :=
  .next (if k < 64 ∧ s.mayPop k then
    let q := s.kennel k
    match q.pkts with
    | [] => s
    | p :: ps =>
      if err = 2 then
        let s := s.kennelUncorr k a
        let s := s.setKennel k { q with pkts := ps }
        let s := match portOf k with
          | some x => s.breakOff x (some p)
          | none => s
        match p.tag with
        | some t => s.rebuild k (p.got ++ p.words) t
        | none => s
      else
        let s := if err = 1 then s.kennelCorr k a else s
        match p.words with
        | [] => s.setKennel k { q with pkts := ps }
        | w :: ws =>
          let p := { p with words := ws, got := p.got ++ [w] }
          if ws.isEmpty then (s.setKennel k { q with pkts := ps }).consumed k p
          else s.setKennel k { q with pkts := p :: ps }
  else if k < 64 then
    match Store.find s.copies k with
    | some c =>
      if s.readingInto k ∧ err < 2 then (if err = 1 then s.kennelCorr k a else s).drawCopy k c else s.popError k err a
    | none => s.popError k err a
  else s)

/-! ## Epochs -/

/-- Port `x` is idle in a configuration: disabled, or Port B in SINGLE (R415, R427). -/
def Cfg.portIdle (c : Cfg) (x : Nat) : Bool := !Cfg.flag c (NET.CFG.EN x) || (x == 1 && Cfg.rd c SW.CTL.NETMODE == 1)

/-- An applied epoch at the ports and the switch (R414, R426, R427). -/
def State.netEpoch (s : State) (old new : Cfg) : State :=
  let s := s.eachBelow (fun s x =>
    let ch := fun (f : Fld) => Cfg.rd old f != Cfg.rd new f
    let idle := Cfg.portIdle new x
    let s := if idle || ch (NET.CFG.RATE x) || ch (NET.CFG.FEC x) || ch (NET.CFG.AN x) then s.linkDown x else s
    s.wrFlag (NET.STAT.IDLE x) idle) 3
  let s := (Cfg.rxFlows new).foldl (fun s i =>
    let same := Cfg.flag old (FT.EN i) && allBelow (fun w => Cfg.word old (FT.word i w) == Cfg.word new (FT.word i w)) 16
    if same then s else (s.reportGroup 0 i).reportGroup 1 i) s
  if Cfg.flag new SW.GCLCTL.EN then
    if Cfg.flag old SW.GCLCTL.EN then s
    else
      let base := s.rd SW.GCLBASE.val
      let cyc := s.rd SW.GCLCYCLE.val
      let t := (base + periodsPast (lateBy base s.ns) cyc * cyc) % 2 ^ 32
      { s with net := { s.net with cycleAt := some t } }
  else
    let s := (s.wrFlag SW.GCLSTAT.RUNNING false).wr SW.GCLSTAT.ENTRY 0
    { s with net := { s.net with gates := [], cycleAt := none } }

end Sys2Proof.Machine
end

