-- ==== Sys2Proof/Machine/Cue.lean ====
section
/-!
DEFINITION. The Cue Launch Queue (R401 to R406): arming, bindings, the hold of a line and the sends.

The mask `owed` of an entry names the ports its next send still owes; its bit 3 says that some port has already carried
that send. How a send is counted, and when the status words are cleared, is DEDUCED, log entry 31.
-/

namespace Sys2Proof.Machine

/-- The ports of an entry, as a mask (R401). -/
def cuePorts (code : Nat) : Nat := if code = 3 then 3 else 2 ^ code

/-- Port `x` is no longer held for entry `i`. -/
def State.releaseLine (s : State) (i x : Nat) : State :=
  let p := s.port x
  s.setPort x { p with holds := p.holds.filter (fun j => j != i) }

/-- Entry `i` has no sends left: its copy is abandoned and no line is held for it (R402). -/
def State.abandonCue (s : State) (i : Nat) : State := (s.dropCue i).eachBelow (fun s x => s.releaseLine i x) 3

/-- S of a voice or herd binding of entry `i` armed at B(a), for a first send at `t`: the first tick whose projected boundary is at
or after `t`, less LEAD (R405). -/
def State.cueTick (s : State) (i a t : Nat) : Nat :=
  (s.projectedTick a t + 2 ^ 32 - s.rd (CLQ.LEAD i)) % 2 ^ 32

/-- The binding of entry `i`, armed at B(a), whose first send leaves at `t` (R405). -/
def State.cueBind (s : State) (i a t : Nat) : State :=
  let ix := s.rd (CLQ.BINDIX i)
  match s.rd (CLQ.BIND i) with
  | 2 => ((s.wr (TIME.PG_START.val ix) t).pgArm ix).1
  | 1 | 3 =>
    let want := s.cueTick i a t
    let least := (a + 2) % 2 ^ 32
    let late := futureTick least want
    let at_ := if late then least else want
    let s := if late then s.setNum (CLS.word i 0) (s.num (CLS.word i 0) ||| 8) else s
    let s := s.setNum (CLS.word i 3) at_
    if s.rd (CLQ.BIND i) = 1 then s.voiceAt ix at_
    else if s.herdWaits ix 4 then s.fixStart ix at_
    else s.setNum (CLS.word i 0) (s.num (CLS.word i 0) / 8 * 8 + 6)
  | _ => s

/-- Entry `i` finds no frame to send (R402). -/
def State.cueNoFrame (s : State) (i : Nat) (long : Bool) : State :=
  let q := s.rd (CLQ.QUEUE i)
  let s := s.setNum (CLS.word i 0) 5
  (s.sqf TIME.HIST.CUENOFRAME).report 0x0806 i (q + (if long then 2 ^ 31 else 0))

/-- Entry `i` is armed at B(a): it pops its frame, its T is judged and its binding acts (R402, R405). -/
def State.cueArm (s : State) (i a : Nat) : State :=
  let s := s.abandonCue i
  let s := (((s.setNum (CLS.word i 0) 1).setNum (CLS.word i 1) 0).setNum (CLS.word i 2) 0).setNum (CLS.word i 3) 0
  match s.popPacket (32 + s.rd (CLQ.QUEUE i)) with
  | (none, s) => s.cueNoFrame i false
  | (some p, s) =>
    let f := frameOf p.words
    if 2048 < f.length then s.cueNoFrame i true
    else
      let ports := cuePorts (s.rd (CLQ.PORT i))
      let t := s.rd (CLQ.T i)
      let s := s.cueJudge i 0 t
        { frame := f, repeats := s.rd (CLQ.REPEAT i), period := s.rd (CLQ.PERIOD i), ports := ports, t := t, i := 0, at_ := t,
          owed := ports }
      match s.cueEntry i with
      | some c => s.cueBind i a c.at_
      | none => s

/-- The Cue Launch Queue at step 3 of B(a), an epoch being applied (R402). -/
def State.cueEpoch (s : State) (old new : Cfg) (a : Nat) : State :=
  let gone := (Cfg.cues old).filter (fun i => !Cfg.flag new (CLQ.EN i))
  let s := gone.foldl (fun s i => (s.abandonCue i).setNum (CLS.word i 0) (s.num (CLS.word i 0) / 8 * 8)) s
  let armed := (Cfg.cues new).filter (fun i => anyBelow (fun w => Cfg.word old (CLQ.word i w) != Cfg.word new (CLQ.word i w)) 4)
  armed.foldl (fun s i => s.cueArm i a) s

/-- The next send of entry `i` is owed to port `x`. -/
def CueEntry.owes (c : CueEntry) (x : Nat) : Bool := decide (x < 3) && bit c.owed x

/-- CUE_LINE_HOLD: from the time of the next send of entry `i`, less the time of the largest frame, port `x` is held for it (R403). -/
def execCueLineHold (i x : Nat) (s : State) : Res :=
  .next (match s.cueEntry i with
    | some c =>
      let p := s.port x
      let g := s.wireNs x (s.rd (NET.CFG.MAXFRAME x) - 4)
      if c.owes x ∧ ¬ p.holds.contains i ∧ reachedTime ((c.at_ + 2 ^ 32 - g % 2 ^ 32) % 2 ^ 32) s.ns then
        s.setPort x { p with holds := i :: p.holds }
      else s
    | none => s)

/-- The send of entry `i` is the first of those now due at port `x`: in order of time, then of entry (R404). -/
def State.cueFirst (s : State) (i x : Nat) (c : CueEntry) : Bool :=
  let age := fun (d : CueEntry) => (s.ns + 2 ^ 32 - d.at_) % 2 ^ 32
  s.times.cues.all (fun p =>
    p.1 == i || !p.2.owes x || !reachedTime p.2.at_ s.ns || decide (age p.2 < age c) || (age p.2 == age c && decide (i < p.1)))

/-- The send of entry `i` has been dealt with at port `x`; after its last port the next send waits, or the entry is DONE (R403,
R406). -/
def State.cueServed (s : State) (i x : Nat) (c : CueEntry) (sent : Bool) : State :=
  let s := s.releaseLine i x
  let s := if sent ∧ ¬ bit c.owed 3 then s.setNum (CLS.word i 0) (s.num (CLS.word i 0) + 2 ^ 16) else s
  let owed := (if sent ∨ bit c.owed 3 then 8 else 0) + (c.owed % 8 - 2 ^ x)
  if owed % 8 = 0 then
    if c.i ≤ c.repeats then
      (s.setCue i { c with owed := c.ports, at_ := (c.t + c.i * c.period) % 2 ^ 32, i := c.i + 1 }).cueState i 2
    else (s.dropCue i).cueState i 3
  else s.setCue i { c with owed := owed }

/-- CUE_SEND: the send of entry `i` starts at port `x`, once its time has come and the port is free (R403, R404). A chip that does
not send on that port counts the send all the same (R453). -/
def execCueSend (i x : Nat) (s : State) : Res :=
  .next (match s.cueEntry i with
    | some c =>
      let p := s.port x
      if c.owes x ∧ reachedTime c.at_ s.ns ∧ s.cueFirst i x c then
        if ¬ s.flag (NET.STAT.LINK x) then
          let w := s.num (CLS.word i 2)
          (s.setNum (CLS.word i 2) (w % 2 ^ 16 + (w / 2 ^ 16 + 1) % 2 ^ 16 * 2 ^ 16)).cueServed i x c false
        else if p.sending = none ∧ p.freeAt ≤ s.clk.now then
          let late := (s.ns + 2 ^ 32 - c.at_) % 2 ^ 32
          let s := if 8 < late then
              let w := s.num (CLS.word i 2)
              let s := s.setNum (CLS.word i 2) (w / 2 ^ 16 * 2 ^ 16 + (w + 1) % 2 ^ 16)
              (s.sqf TIME.HIST.CUESLIP).report 0x0807 i late
            else s
          let s := s.setNum (CLS.word i 1) s.ns
          let s := if s.sendsPath x then
              let q := s.port x
              let s := s.setPort x { q with freeAt := s.clk.now + s.wireNs x c.frame.length }
              (s.inc (NET.TXFRAMES.val x)).emit (.frame x c.frame)
            else s
          s.cueServed i x c true
        else s
      else s
    | none => s)

end Sys2Proof.Machine
end

