-- ==== Sys2Proof/Machine/Pair.lean ====
section
/-!
DEFINITION. The redundant pair (R450 to R474): roles and votes, barks, digests, and the hand-over of path B. Log entry 35 gives what is read
into the rules.
-/

namespace Sys2Proof.Machine

/-- The state with the pair's hidden part at `p`. -/
def State.setPair (s : State) (p : Pair) : State := { s with pair := p }

/-! ## Packets of the link (R455) -/

/-- A tag is the first 16 bytes of HMAC-SHA-256 under the pairing key; without a key every tag fails (R455, R521). -/
def State.tagGood (s : State) (bytes tag : List Nat) : Bool :=
  match s.ret.key with
  | some key => (toBe 32 (Config.hmac256 key (bytes.map (BitVec.ofNat 8))).toNat).take 16 == tag
  | none => false

/-- The tag that PAIR puts on a packet; without a key there is none to make (R455). -/
def State.tagOf (s : State) (bytes : List Nat) : List Nat :=
  match s.ret.key with
  | some key => (toBe 32 (Config.hmac256 key (bytes.map (BitVec.ofNat 8))).toNat).take 16
  | none => List.replicate 16 0

/-- The tag of a packet of words. -/
def State.packetGood (s : State) (ws tag : List Nat) : Bool := s.tagGood (ws.flatMap (toLe 4)) tag

/-- A packet whose tag fails is dropped and counted (R455). -/
def State.badTag (s : State) : State := s.inc PAIR.BADTAG.val

/-! ## Votes (R467 to R469) -/

/-- The current vote. -/
def State.setVote (s : State) (v : Option (Nat × Option Nat)) : State :=
  let s := s.wr PAIR.STAT.VOTE (match v with | some (side, _) => 1 + side | none => 0)
  s.setPair { s.pair with vote := v }

/-- This chip is voted: the vote names its SIDE and has not expired. -/
def State.voted (s : State) : Bool :=
  match s.pair.vote with
  | some (side, none) => side == s.rd PAIR.CFG.SIDE
  | some (side, some t) => side == s.rd PAIR.CFG.SIDE && decide (s.clk.now < t)
  | none => false

/-- PAIR.CFG.SHEP_MODE of a member of a pair: 0 NONE, 1 PIN, 2 WITNESS; 3 where this chip is no member. -/
def State.shepherd (s : State) : Nat := if s.flag PAIR.CFG.EN then s.rd PAIR.CFG.SHEP_MODE else 3

/-- The level of SHEP_SEL as a vote. -/
def State.pinVote (s : State) : Option (Nat × Option Nat) := some (if s.pair.pin then 1 else 0, none)

/-- SHEPHERD_PIN_CHANGE: SHEP_SEL has been stable at `level` for 1 µs (R467). -/
def execShepherdPinChange (level : Bool) (s : State) : Res :=
  .next (
    let s := s.setPair { s.pair with pin := level }
    if s.shepherd = 1 then s.setVote s.pinVote else s)

/-- Why a witness message is rejected, in the order magic, PAIRID, reserved bytes and SIDE, tag, SEQ (R468, R476). -/
def State.witnessBad (s : State) (m : List Nat) : Option Nat :=
  if beAt m 0 4 ≠ 0x53484550 ∨ m.length ≠ 48 then some 0
  else if beAt m 4 4 ≠ s.rd PAIR.PAIRID.val then some 1
  else if 1 < beAt m 16 1 ∨ beAt m 17 3 ≠ 0 ∨ beAt m 24 8 ≠ 0 then some 4
  else if !s.tagGood (m.take 32) (m.drop 32) then some 2
  else if beAt m 8 8 ≤ s.ret.seq then some 3
  else none

/-- WITNESS_MESSAGE: a datagram to the witness port (R468, R469). -/
def execWitnessMessage (bytes : List Nat) (s : State) : Res :=
  .next (
    if s.shepherd ≠ 2 then s
    else match s.witnessBad bytes with
    | some cause => ((s.inc PAIR.WITBAD.val).sqf PAIR.HIST.WITBAD).report 0x1407 0 cause
    | none =>
      let seq := beAt bytes 8 8
      let s : State := { s with ret := { s.ret with seq := seq } }
      let s := (s.setNum PAIR.VOTESEQLO seq).setNum PAIR.VOTESEQHI (seq / 2 ^ 32)
      let ms := beAt bytes 20 4
      s.setVote (if ms = 0 then none else some (beAt bytes 16 1, some (s.clk.now + ms * 10 ^ 6))))

/-- VOTE_EXPIRE: the validity of a witness vote has passed (R469). -/
def execVoteExpire (s : State) : Res :=
  .next (match s.pair.vote with
    | some (_, some t) => if t ≤ s.clk.now then s.setVote none else s
    | _ => s)

/-! ## Roles (R451, R467, R470 to R473) -/

/-- The role after an epoch that takes a configuration from `old` to `new`, `r` being the role before (R451, R467). -/
def epochRole (old new : Cfg) (r : Nat) : Nat :=
  if !Cfg.flag new PAIR.CFG.EN then 0
  else if Cfg.rd new PAIR.CFG.SHEP_MODE = 0 then
    (if Cfg.word old PAIR.CFG = Cfg.word new PAIR.CFG then r else if Cfg.flag new PAIR.CFG.HOSTROLE then 1 else 2)
  else if !Cfg.flag old PAIR.CFG.EN then 2 else r

/-- The role from B(f) on, as it stands decided in the guard before. -/
def State.roleAt (s : State) (f : Nat) : Nat :=
  let r := match s.pair.nextRole with | some 1 => 1 | some _ => 2 | none => s.role
  if s.due f then epochRole s.live s.pendCfg r else r

/-- The lanes of the local outputs rise from sample 0 of frame `f` where the chip first drives them there as ACTIVE (R264, R472). -/
def State.takeover (s : State) (f : Nat) : State :=
  if s.roleAt f = 1 ∧ !s.drives then
    (Cfg.localOutBufs s.live).eraseDups.foldl (fun s b => s.eachLane (fun s c => s.takeoverLane b c) (s.bufC b)) s
  else s

/-- An applied epoch at the pair (R451, R467): a chip that leaves it forgets its partner. -/
def State.pairEpoch (s : State) (old new : Cfg) : State :=
  let s := s.wr PAIR.STAT.ROLE (epochRole old new s.role)
  if !Cfg.flag new PAIR.CFG.EN then
    (s.setNum PAIR.STAT 0).setPair { Pair.reset with pin := s.pair.pin, digestNext := s.pair.digestNext }
  else if Cfg.flag old PAIR.CFG.EN && Cfg.rd old PAIR.CFG.SHEP_MODE == Cfg.rd new PAIR.CFG.SHEP_MODE then s
  else s.setVote (if Cfg.rd new PAIR.CFG.SHEP_MODE = 1 then s.pinVote else none)

/-- VOTE_SAMPLE: the vote is sampled, on a STANDBY 2,000 ns before the guard and on an ACTIVE at its start (R470). -/
def execVoteSample (s : State) : Res :=
  .next (
    if (s.shepherd = 1 ∨ s.shepherd = 2) ∧ !s.pair.sampled then
      (if s.role = 2 ∧ s.clk.phase = .work ∧ nominalCycles s.tickLen s.fs ≤ s.clk.cycle + 2512 then
        s.setPair { s.pair with sampled := true, nextRole := if s.voted then some 1 else s.pair.nextRole }
       else if s.role = 1 ∧ s.clk.phase = .guard then
        s.setPair { s.pair with sampled := true, nextRole := if s.voted then s.pair.nextRole else some 2 }
       else s)
    else s)

/-- Local-block writes that wait for the ACTIVE are journaled here (R464). -/
def State.keepForwarded (s : State) : State :=
  let ws := s.pair.forwarded
  let s := s.setPair { s.pair with forwarded := [] }
  ws.foldl (fun s p => (s.journal .write p.1 p.2.toNat s.tick).putShadow p.1 p.2) s

/-- The role decided in the tick before takes effect at B(n) (R470 to R473). -/
def State.roleBoundary (s : State) (n : Nat) : State :=
  match s.pair.nextRole with
  | none => s
  | some r =>
    let s := s.setPair { s.pair with nextRole := none }
    if r = 1 then
      let early := s.partner = 1 ∨ s.partner = 2
      let s := (s.wr PAIR.STAT.ROLE 1).setPair { s.pair with txb := none }
      let s := s.keepForwarded
      let s := (s.inc PAIR.TAKEOVERS.val).sqf PAIR.HIST.TAKEOVER
      s.report 0x1404 0 (n % 2 ^ 31 + (if early then 2 ^ 31 else 0))
    else
      let s := s.wr PAIR.STAT.ROLE 2
      if r = 2 then (s.sqf PAIR.HIST.STEPDOWN).report 0x1405 0 n else s

/-! ## Path B (R454) -/

/-- PATH_B_HANDOVER: the boundary that TXB names is reached (R454). -/
def execPathBHandover (s : State) : Res :=
  .next (match s.pair.txb with
    | some t => if s.role ≠ 0 ∧ !futureTick t s.tick then s.setPair { s.pair with handed := true } else s
    | none => s)

/-- At B(n) path B changes hands where TXB names it (R454). -/
def State.handBoundary (s : State) (n : Nat) : State :=
  if s.pair.txb = some n then s.setPair { s.pair with handed := true } else s

/-! ## Digests (R459, R460) -/

/-- The buffers that a digest covers, ascending. -/
def Cfg.digestBufs (c : Cfg) : NatSet :=
  (((Cfg.txFlows c).map (fun i => Cfg.rd c (FT.BUFID i))) ++ Cfg.localOutBufs c
    ++ (Cfg.capSources c).map (fun i => Cfg.rd c (CUE.CAPSRC.BUFID i))).foldl NatSet.add []

/-- The digest of egress frame `f` (R459). -/
def State.frameDigest (s : State) (f : Nat) : Nat :=
  crc32 ((Cfg.digestBufs s.live).flatMap (fun b =>
    (List.range (s.bufS b * s.bufC b)).flatMap (fun p => toLe 4 (s.sxmWord (s.sxmAddr b f p)))
      ++ (List.range (s.bufS b)).map (fun i => if s.isValid b f i then 1 else 0)))

/-- In the guard of tick f − 1 the digest of frame `f` is taken (R459). -/
def State.takeDigest (s : State) (f : Nat) : State :=
  if s.flag PAIR.CFG.EN then
    s.setPair { s.pair with digestNext := (s.frameDigest f, !s.flag GLB.TICKSTAT.COARSE && !s.recovering) }
  else s

/-- Barks t of both chips are compared (R460). -/
def State.compareDigest (s : State) (t epoch digest : Nat) (valid : Bool) : State :=
  if valid && s.pair.digest.2 && epoch == s.pair.sentEpoch && s.partner != 5 then
    (if digest = s.pair.digest.1 then s.wrFlag PAIR.STAT.DIVERGED false
     else (((s.inc PAIR.DIGESTERR.val).wrFlag PAIR.STAT.DIVERGED true).sqf PAIR.HIST.DIVERGED).report 0x1403 0 t)
  else s.wrFlag PAIR.STAT.DIVERGED false

/-! ## Barks (R456 to R458, R462, R471) -/

/-- Word 6 of a bark (R456). -/
def State.barkFlags (s : State) : Nat :=
  let b := fun (x : Bool) i => if x then 2 ^ i else 0
  let sel := s.refSel
  s.role + s.partner * 2 ^ 2 + b s.pair.digest.2 5 + b (s.role == 2 && s.pair.txb.isSome) 6 + b (s.flag GLB.TICKSTAT.COARSE) 7
    + b (s.flag GLB.JSTAT.REPLAY) 8 + s.refState % 8 * 2 ^ 9 + sel % 16 * 2 ^ 12 + (if sel < 10 then s.qualityOf sel % 16 else 0) * 2 ^ 16
    + b s.voted 20 + b (s.flag PAIR.STAT.DIVERGED || s.pair.divergedCommit) 21

/-- Bark `n`, without its tag (R456). -/
def State.barkWords (s : State) (n : Nat) : List Nat :=
  [0x101, n, s.rd GLB.EPOCH.val, s.rd GLB.JSEQ.val, if s.role = 2 ∧ s.paired then s.rd GLB.JSEQ.val else 0, s.pair.digest.1, s.barkFlags,
   if s.pair.lastBark.isSome then (s.clk.now - s.pair.lastArrival) % 2 ^ 32 else 0, s.rd TIME.MTORIGIN.val, s.pair.txb.getD 0, 0, 0]

/-- PARTNER becomes MISALIGNED (R458). -/
def State.misaligned (s : State) (data : Nat) : State :=
  if s.partner = 0 ∨ s.partner = 5 then s
  else (((s.wr PAIR.STAT.PARTNER 5).setPair { s.pair with converge := none }).sqf PAIR.HIST.MISALIGNED).report 0x1406 0 data

/-- What a bark in the right tick says, `ws` being its words (R454, R460, R462, R466, R471). -/
def State.heed (s : State) (ws : List Nat) : State :=
  let w := fun i => ws.getD i 0
  let f := w 6
  let s : State := { s with ref := { s.ref with mate := f } }
  let s := if s.role = 1 ∧ s.paired then s.setNum PAIR.MIRACK (w 4) else s
  let s :=
    if s.role = 1 then
      let seen := bits f 4 2
      let s := if s.pair.handed || !bit f 6 then s else s.setPair { s.pair with txb := some (w 9) }
      if s.partner = 1 ∧ seen = 2 then s.wr PAIR.STAT.PARTNER 2
      else if s.partner = 2 ∧ seen = 3 then s.setPair { s.pair with syncedNew := true }
      else s
    else s
  let s := s.compareDigest (w 1) (w 2) (w 5) (bit f 5)
  let s := if s.role = 2 then s.setPair { s.pair with adoptOrigin := if w 8 = s.rd TIME.MTORIGIN.val then none else some (w 8) } else s
  if s.role = 1 ∧ bits f 1 0 = 1 ∧ s.flag PAIR.CFG.SIDE then (s.setPair { s.pair with nextRole := some 3 }).report 0x1408 0 s.tick else s

/-- A good bark counts: three missing ones no longer run, and eight ticks in a row bring the partner back (R457). -/
def State.barkCame (s : State) (t : Nat) : State :=
  if s.pair.lastBark = some t then s
  else
    let s := s.setPair { s.pair with lastBark := some t, lastArrival := s.clk.now, missRun := 0, goodRun := s.pair.goodRun + 1 }
    if 8 ≤ s.pair.goodRun ∧ (s.partner = 0 ∨ s.partner = 4) then
      let s := s.wr PAIR.STAT.PARTNER 1
      if s.role = 1 then s.setPair { s.pair with handed := false, txb := none, syncedNew := false } else s
    else s

/-- BARK_RECEIVE: a bark of the littermate, words 0 to 11 and the tag, with the skew and the round trip that its arrival gives (R456 to
R458). A bark ahead of its boundary, by the skew that R458 allows, is heeded at the boundary. -/
def execBarkReceive (ws tag : List Nat) (skew : Int) (rtt : Nat) (s : State) : Res :=
  .next (
    if !s.flag PAIR.CFG.EN || !s.ticking then s
    else if !s.packetGood ws tag then s.badTag
    else
      let t := ws.getD 1 0
      let s := (s.wrS PAIR.SKEW.val skew).wr PAIR.RTT.val rtt
      let run := if 1000 < skew.natAbs then s.pair.skewRun + 1 else 0
      let s := s.setPair { s.pair with skewRun := run }
      if t = s.tick then
        let came := s.pair.barkHere
        let s := if came then s else s.barkCame t
        let s := s.setPair { s.pair with barkHere := true }
        let s := if 8 ≤ run then s.misaligned (wrap32 skew) else s
        s.heed ws
      else if t = (s.tick + 1) % 2 ^ 32 ∧ s.clk.phase = .guard then
        let s := (s.barkCame t).setPair { (s.barkCame t).pair with early := some ws }
        if 8 ≤ run then s.misaligned (wrap32 skew) else s
      else (s.setPair { s.pair with goodRun := 0 }).misaligned 0x80000000)

/-- PARTNER becomes LOST (R457, R464). -/
def State.partnerLost (s : State) : State :=
  let last := s.pair.lastBark.getD 0
  let s := (s.wr PAIR.STAT.PARTNER 4).sqf PAIR.HIST.LOST
  let s := s.setPair { s.pair with converge := none, syncedNew := false }
  let s := if s.role = 1 then s.setPair { s.pair with handed := false, txb := none } else s
  s.keepForwarded.report 0x1401 0 last

/-- BARK_MISSING: no good bark t within 20 µs of B(t) (R457). -/
def execBarkMissing (s : State) : Res :=
  .next (
    if s.flag PAIR.CFG.EN && s.ticking && !s.pair.barkHere && decide (20000 ≤ s.clk.cycle) then
      let s := s.inc PAIR.BARKMISS.val
      let run := s.pair.missRun + 1
      let s := s.setPair { s.pair with barkHere := true, goodRun := 0, missRun := run }
      if 3 ≤ run ∧ s.partner ≠ 0 ∧ s.partner ≠ 4 then s.partnerLost else s
    else s)

/-- After step 1 of B(n): bark n goes into K14, from which the pair link sends it (DESIGN CHOICE, log entry 73); a bark that came ahead of the boundary is heeded, and the ticks of CONVERGING count (R456, R466). -/
def State.barkBoundary (s : State) (n : Nat) : State :=
  if !s.flag PAIR.CFG.EN then s
  else
    let p := s.pair
    let valid := p.digestNext.2 && s.partner == 3
    let s := s.setPair { p with digest := (p.digestNext.1, valid), sentEpoch := s.rd GLB.EPOCH.val, barkHere := false, sampled := false,
                                goodRun := if p.barkHere then p.goodRun else 0, early := none,
                                converge := p.converge.map (· - 1) }
    let bytes := (s.barkWords n).flatMap (toLe 4)
    let s := (s.pushPacket 14 (packetOf 3 0 0 (bytes ++ s.tagOf bytes)) false none).1
    match p.early with
    | some ws =>
      let s := s.setPair { s.pair with barkHere := true, goodRun := max s.pair.goodRun 1 }
      s.heed ws
    | none => s

/-- PAIR_SYNCED: on the STANDBY the ticks of CONVERGING have passed; on the ACTIVE the partner has reported SYNCED (R466). -/
def execPairSynced (s : State) : Res :=
  .next (
    if s.partner = 2 ∧ ((s.role = 2 ∧ s.pair.converge = some 0) ∨ (s.role = 1 ∧ s.pair.syncedNew)) then
      let s := (s.wr PAIR.STAT.PARTNER 3).setPair { s.pair with converge := none, syncedNew := false }
      (s.sqf PAIR.HIST.SYNCED).report 0x1402 0 s.tick
    else s)

/-- FORWARDED_LOCAL_WRITE: the STANDBY's write of `v` to word `k` of a local block is journaled with its side in ORIGIN (R464). -/
def execForwardedLocalWrite (k v : Nat) (tag : List Nat) (s : State) : Res :=
  .next (
    if s.role ≠ 1 ∨ !s.paired then s
    else if !s.packetGood [k, v] tag then s.badTag
    else if !localBlock k then s
    else if s.journalFull then s.refuseFull k
    else s.journalRaw (journalWord1 .write (3 - s.rd PAIR.CFG.SIDE) k) v s.tick [])

end Sys2Proof.Machine
end

