-- ==== Sys2Proof/Machine/Program.lean ====
section
/-!
DEFINITION. What the on-chip loader proves of a program's code: its structure (R146, R598), its cycle charge and its DRAM charge
(R147, R157), with the words that a refusal names (R160).

The checker follows every path of the structure of R598 from the entry. A path takes both outcomes of a BR, goes on after a CALL whatever its
subroutine does, and takes every pass of a loop; a LOOPR may run any number of passes up to its maximum. What a path knows of scalar registers,
cursors and transactions in flight decides, word by word, which of the charges of R147 apply; an address that is not
known may overlap any other. The cases of these rules that can be read two ways are DEDUCED, log entry 32.
-/

namespace Sys2Proof.Machine

/-- A transaction that may be in flight: a PUT or a FETCH, with its first FBUF word and its length where they are known. -/
structure Flight where
  put : Bool
  fbuf : Option (Nat × Nat)
deriving DecidableEq, Repr

/-- What is known of the paths that reach a word: the longest cycle and DRAM charge from the entry, the first word of each path at
which it passes its limit, the scalar registers that are the same on all, for each bound handle the residues of its cursor
modulo the width as a mask, the transactions that may be in flight (newest first, each with its alternatives; then
the older ones) and how many tickets may be held. -/
structure Path where
  cyc : Nat
  cycAt : Option Nat
  dram : Nat
  dramAt : Option Nat
  regs : List (Option Nat)
  hs : List (Option Nat)
  flights : List (List Flight)
  older : List Flight
  busy : Nat
deriving DecidableEq, Repr

/-- What a check of a program is made against: its words, their number, the lanes of the engine, T_DRAM, and the cycle and DRAM
limits; `slow` lists the words that carry charges of R147, as bits: 1 a ticket wait, 2 an unaligned SXM access, 4 an
interlock. -/
structure Ctx where
  code : Nat → Option Genah
  len : Nat
  lanes : Nat
  tdram : Nat
  cycLim : Nat
  dramLim : Nat
  slow : Store Nat

/-- What the check has found: refusals as detail code and word, the charges of words, and the words reached. -/
structure Found where
  errs : List (Nat × Nat)
  slow : Store Nat
  seen : NatSet
deriving DecidableEq, Repr

/-- How a piece of a program ends: at the word after it, by RET, and by ENDT. -/
structure Ends where
  out : Option Path
  ret : Option Path
  done : Option Path
deriving DecidableEq, Repr

/-- The tickets of a program's engine (R69). -/
def Ctx.tickets (c : Ctx) : Nat := if c.lanes = 16 then 16 else 8

/-- The words of its FBUF (R104). -/
def Ctx.fbufWords (c : Ctx) : Nat := if c.lanes = 16 then 8192 else 4096

/-- The union of two lists. -/
def unite {α : Type} [DecidableEq α] (a b : List α) : List α := a ++ b.filter (fun x => !a.contains x)

/-- Transactions in flight of two paths that meet, newest with newest. -/
def uniteFlights : List (List Flight) → List (List Flight) → List (List Flight)
  | [], bs => bs
  | as, [] => as
  | a :: as, b :: bs => unite a b :: uniteFlights as bs

/-- Paths meet: the longest charge of each kind, and what is known of both. -/
def Path.meet (p q : Path) : Path :=
  { cyc := max p.cyc q.cyc, cycAt := if q.cyc ≤ p.cyc then p.cycAt else q.cycAt,
    dram := max p.dram q.dram, dramAt := if q.dram ≤ p.dram then p.dramAt else q.dramAt,
    regs := p.regs.zipWith (fun a b => if a = b then a else none) q.regs,
    hs := p.hs.zipWith (fun a b => match a, b with | some x, some y => some (x ||| y) | _, _ => none) q.hs,
    flights := uniteFlights p.flights q.flights, older := unite p.older q.older, busy := max p.busy q.busy }

/-- The meeting of paths that may not exist. -/
def meet? : Option Path → Option Path → Option Path
  | none, q => q
  | p, none => p
  | some p, some q => some (p.meet q)

/-- Known register `r`. -/
def Path.reg (p : Path) (r : Nat) : Option Nat := if r = 0 then some 0 else (p.regs[r]?).getD none

/-- The path with register `r` at a known or unknown value; a write to g0 is discarded. -/
def Path.setReg (p : Path) (r : Nat) (v : Option Nat) : Path := if r = 0 then p else { p with regs := p.regs.set r (v.map (· % 2 ^ 32)) }

/-- The residues of the cursor of handle `h`, none while it is unbound. -/
def Path.cursor (p : Path) (h : Nat) : Option Nat := (p.hs[h]?).getD none

/-- The path with the cursor residues of handle `h`. -/
def Path.setCursor (p : Path) (h : Nat) (m : Nat) : Path := { p with hs := p.hs.set h (some m) }

/-- The path past a word that adds charges; where it first passes a limit, the word is kept, except within loops (R160). -/
def Path.charge (p : Path) (c : Ctx) (pc cyc dram : Nat) (top : Bool) : Path :=
  let p := { p with cyc := p.cyc + cyc, dram := p.dram + dram }
  if top then
    { p with cycAt := if p.cycAt.isNone ∧ c.cycLim < p.cyc then some pc else p.cycAt,
             dramAt := if p.dramAt.isNone ∧ c.dramLim < p.dram then some pc else p.dramAt }
  else p

/-- The second operand of a format S instruction, where known (R108). -/
def Path.operand (p : Path) (b : SOperand) (imm : Nat → Nat) : Option Nat :=
  match b with
  | .reg gt => p.reg gt
  | .imm i => some (imm i)

/-- A scalar result where both operands are known. -/
def Path.scalar (p : Path) (gd gs : Nat) (b : SOperand) (imm : Nat → Nat) (f : Nat → Nat → Nat) : Path :=
  p.setReg gd (match p.reg gs, p.operand b imm with | some x, some y => some (f x y) | _, _ => none)

/-- imm15 sign-extended (R108). -/
def simm15 (i : Nat) : Nat := wrap32 (signedN 15 i)

/-- The registers that an instruction writes, as far as they are known (R108, R109). -/
def Path.write (p : Path) : Genah → Path
  | .li gd h i =>
    p.setReg gd (if h then (p.reg gd).map (fun x => i * 2 ^ 16 + x % 2 ^ 16) else some (wrap32 (signedN 16 i)))
  | .add gd gs b => p.scalar gd gs b simm15 (fun x y => x + y)
  | .sub gd gs b => p.scalar gd gs b simm15 (fun x y => x + (2 ^ 32 - y))
  | .and gd gs b => p.scalar gd gs b id (fun x y => x &&& y)
  | .or gd gs b => p.scalar gd gs b id (fun x y => x ||| y)
  | .xor gd gs b => p.scalar gd gs b id (fun x y => x ^^^ y)
  | .shl gd gs b => p.scalar gd gs b id (fun x y => x * 2 ^ (y % 32))
  | .shr gd gs b => p.scalar gd gs b id (fun x y => x / 2 ^ (y % 32))
  | .sar gd gs b => p.scalar gd gs b id (fun x y => wrap32 (signed32 x / 2 ^ (y % 32)))
  | .mul gd gs b => p.scalar gd gs b simm15 (fun x y => wrap32 (signed32 x * signed32 y))
  | .lw gd .. | .tkidx gd .. | .tstat gd .. => p.setReg gd none
  | _ => p

/-- The residues `m` modulo `l` after a step of the cursor by `k`. -/
def turnMask (l m k : Nat) : Nat :=
  ((List.range l).map (fun i => if bit m i then 2 ^ ((i + k) % l) else 0)).sum

/-- The handle that an instruction uses, which must be bound (R146). -/
def Genah.uses : Genah → Option Nat
  | .vld _ (.sxm h _) _ | .vst _ (.sxm h _) _ | .hadv h .. | .muz h _ => some h
  | .tstat _ h m => if m = 2 ∨ m = 3 then none else some h
  | _ => none

/-- The cursors after an instruction (R116, R117, R147). -/
def Path.move (p : Path) (l : Nat) : Genah → Path
  | .hset h .. => p.setCursor h 1
  | .hadv h set gs i =>
    match p.cursor h with
    | some m =>
      if gs ≠ 0 then p.setCursor h (2 ^ l - 1)
      else
        let k := (i % Int.ofNat l).toNat
        p.setCursor h (if set then 2 ^ k else turnMask l m k)
    | none => p
  | _ => p

/-- The FBUF words that an access of `n` words from base register `gb` and word offset `o` reaches, where known (R122, R134). -/
def Path.fbufRange (p : Path) (c : Ctx) (gb o n : Nat) : Option (Nat × Nat) :=
  (p.reg gb).map (fun g => ((g / 4 + o) % c.fbufWords, n))

/-- Two ranges of FBUF words may share a word. -/
def mayOverlap (w : Nat) : Option (Nat × Nat) → Option (Nat × Nat) → Bool
  | some (a, m), some (b, n) => decide ((b + w - a) % w < m) || decide ((a + w - b) % w < n)
  | _, _ => true

/-- A transaction of the given kind in flight may touch a range of FBUF words. -/
def Path.inFlight (p : Path) (c : Ctx) (put : Bool) (r : Option (Nat × Nat)) : Bool :=
  (p.older ++ p.flights.flatten).any (fun f => f.put == put && mayOverlap c.fbufWords f.fbuf r)

/-- A transaction is issued: it holds a ticket (R74, R136). -/
def Path.issue (p : Path) (c : Ctx) (f : Flight) : Path :=
  { p with flights := ([f] :: p.flights).take 16, older := unite p.older ((([f] :: p.flights).drop 16).flatten),
           busy := min (p.busy + 1) c.tickets }

/-- A WAITF leaves at most the `k` newest transactions (R136). -/
def Path.wait (p : Path) (c : Ctx) (k : Nat) : Path :=
  if c.tickets ≤ k then p else { p with flights := p.flights.take k, older := [], busy := min p.busy k }

/-- The transactions in flight after an instruction. -/
def Path.fly (p : Path) (c : Ctx) : Genah → Path
  | .fetch gf _ _ _ n => p.issue c { put := false, fbuf := p.fbufRange c gf 0 (n + 1) }
  | .put gf _ _ _ n => p.issue c { put := true, fbuf := p.fbufRange c gf 0 (n + 1) }
  | .waitf k => p.wait c k
  | _ => p

/-- Which charges of R147 an instruction carries on the paths that reach it, as bits of `Ctx.slow`. -/
def Path.slow (p : Path) (c : Ctx) : Genah → Nat
  | .vld _ (.sxm h st) _ | .vst _ (.sxm h st) _ => if st = .unit ∧ p.cursor h = some 1 then 0 else 2
  | .vld _ (.fbuf gb o) _ => if p.inFlight c false (p.fbufRange c gb o c.lanes) then 4 else 0
  | .vst _ (.fbuf gb o) _ => if p.inFlight c true (p.fbufRange c gb o c.lanes) then 4 else 0
  | .fetch gf _ _ _ n =>
    (if c.tickets ≤ p.busy then 1 else 0) + (if p.inFlight c true (p.fbufRange c gf 0 (n + 1)) then 4 else 0)
  | .put .. => if c.tickets ≤ p.busy then 1 else 0
  | _ => 0

/-- The cycle charge of one word (R147). A FETCH that may find every ticket busy and is interlocked too is charged one T_DRAM, not two (DESIGN CHOICE, 
DESIGN CHOICE, log entry 62). -/
def Ctx.cost (c : Ctx) (pc : Nat) (i : Genah) : Nat :=
  let f := (Store.find c.slow pc).getD 0
  match i with
  | .vld _ (.sxm ..) _ | .vst _ (.sxm ..) _ => if bit f 1 then 160 else 20
  | .waitf _ => 1 + c.tdram
  | .br .. => 2
  | _ => Genah.cost i + (if bit f 0 || bit f 2 then c.tdram else 0)

/-- The DRAM charge of one word (R157). -/
def Genah.dramCost : Genah → Nat
  | .fetch _ _ _ _ n | .put _ _ _ _ n => 64 * (ceilDiv (4 * (n + 1)) 64 + 1)
  | _ => 0

/-- A refusal is found. -/
def Found.err (f : Found) (code pc : Nat) : Found := { f with errs := (code, pc) :: f.errs }

/-- Word `pc` is reached, with the charges it carries. -/
def Found.visit (f : Found) (pc slow : Nat) : Found :=
  { f with seen := NatSet.add f.seen pc,
           slow := if slow = 0 then f.slow else Store.insert f.slow pc ((Store.find f.slow pc).getD 0 ||| slow) }

/-- The passes of a loop whose body ends at its ENDL, word `e`: `n` passes, or any number up to it. -/
def passes (c : Ctx) (body : Path → Found → Ends × Found) (e : Nat) (any : Bool) : Nat → Path → Found → Ends × Found
  | 0, p, f => ({ out := some p, ret := none, done := none }, f)
  | n + 1, p, f =>
    let (r, f) := body p f
    match r.out with
    | none => ({ r with out := if any then some p else none }, f)
    | some q =>
      let (t, f) := passes c body e any n (q.charge c e 1 0 false) (f.visit e 0)
      ({ out := if any then meet? (some p) t.out else t.out, ret := meet? r.ret t.ret, done := meet? r.done t.done }, f)

/-- A path that ends within a loop is charged at the loop's ENDL (R160). -/
def Path.atEnd (c : Ctx) (e : Nat) (top : Bool) (p : Option Path) : Option Path := p.map (fun p => p.charge c e 0 0 top)

/-- The words reached from here, as the walk goes: for each word still to come the paths that reach it, and how the piece ends. -/
structure Front where
  inc : Store Path
  ends : Ends
  found : Found

/-- Paths go on to word `q` from word `pc` of a piece that ends before word `b`: a loop body ends at its ENDL, and a path that
runs past the program does not end (R598). -/
def Front.go (w : Front) (b : Nat) (body : Bool) (pc q : Nat) (p : Path) : Front :=
  if q < b then { w with inc := Store.insert w.inc q (match Store.find w.inc q with | some r => r.meet p | none => p) }
  else if body ∧ q = b then { w with ends := { w.ends with out := meet? w.ends.out (some p) } }
  else { w with found := w.found.err 0x0B pc }

/-- The code of one word: where its paths go. `sub a b body loops calls` walks another piece. -/
def Ctx.word (c : Ctx) (sub : Nat → Nat → Bool → Nat → List Nat → Path → Found → Ends × Found) (b : Nat) (body : Bool)
    (loops : Nat) (calls : List Nat) (w : Front) (pc : Nat) : Front :=
  match Store.find w.inc pc, c.code pc with
  | some p, some i =>
    let top := loops == 0
    let w := { w with inc := w.inc.erase pc, found := w.found.visit pc (p.slow c i) }
    let w := match Genah.uses i with
      | some h => if (p.cursor h).isNone then { w with found := w.found.err 0x0C pc } else w
      | none => w
    let q := p.charge c pc (c.cost pc i) (Genah.dramCost i) top
    match i with
    | .endt => { w with ends := { w.ends with done := meet? w.ends.done (some q) } }
    | .ret =>
      if calls.isEmpty then { w with found := w.found.err 0x0B pc }
      else { w with ends := { w.ends with ret := meet? w.ends.ret (some q) } }
    | .endl => { w with found := w.found.err 0x0B pc }
    | .br _ o => (w.go b body pc (pc + 1) q).go b body pc (pc + o) q
    | .loop d n | .loopr _ d n =>
      let e := pc + d
      let any := match i with | .loopr .. => true | _ => false
      let w := if 4 ≤ loops then { w with found := w.found.err 0x09 pc } else w
      let pass := sub (pc + 1) e true (loops + 1) calls
      if n = 0 then
        let f := (pass q w.found).2
        { w with found := { f with slow := w.found.slow } }.go b body e (e + 1) (p.charge c pc 2 0 top)
      else
        let (r, f) := passes c pass e any (if 4 ≤ loops then 1 else n) q w.found
        let w := { w with found := f, ends := { w.ends with ret := meet? w.ends.ret (Path.atEnd c e top r.ret),
                                                             done := meet? w.ends.done (Path.atEnd c e top r.done) } }
        match Path.atEnd c e top r.out with
        | some q => w.go b body e (e + 1) q
        | none => w
    | .call t =>
      if calls.contains t ∨ 8 ≤ calls.length then ({ w with found := w.found.err 0x0A pc }).go b body pc (pc + 1) q
      else
        let (r, f) := sub t c.len false loops (t :: calls) q w.found
        let w := { w with found := f, ends := { w.ends with done := meet? w.ends.done r.done } }
        w.go b body pc (pc + 1) ((r.ret <|> r.done).getD q)
    | _ => w.go b body pc (pc + 1) (((q.fly c i).move c.lanes i).write i)
  | _, _ => w

/-- The words from `a` to before `b`, from one path: a loop body, or all that is reachable of the main program or a subroutine.
`fuel` bounds the nesting of loops and calls: calls stop at 8, and no program has room for more loops within loops. -/
def Ctx.walk (c : Ctx) : Nat → Nat → Nat → Bool → Nat → List Nat → Path → Found → Ends × Found
  | 0, _, _, _, _, _, _, f => ({ out := none, ret := none, done := none }, f)
  | fuel + 1, a, b, body, loops, calls, p, f =>
    let w : Front := { inc := [(a, p)], ends := { out := none, ret := none, done := none }, found := f }
    let w := (List.range' a (b - a)).foldl (Ctx.word c (Ctx.walk c fuel) b body loops calls) w
    (w.ends, w.found)

/-- What is known at the start of a program: registers 0, no handle bound, every ticket held by the previous tick (R70, R147). -/
def Ctx.start (c : Ctx) : Path :=
  { cyc := 0, cycAt := none, dram := 0, dramAt := none, regs := List.replicate 32 (some 0), hs := List.replicate 16 none,
    flights := [], older := [{ put := false, fbuf := none }, { put := true, fbuf := none }], busy := c.tickets }

/-- The targets of the CALLs of a program. -/
def Ctx.targets (c : Ctx) : List Nat :=
  ((List.range c.len).filterMap (fun pc => match c.code pc with | some (.call t) => some t | _ => none)).eraseDups

/-- Enough for every nesting: each level of a loop takes a word of the program, and each of at most 8 calls may hold them all. -/
def Ctx.fuel (c : Ctx) : Nat := 9 * (c.len + 1)

/-- The program, from word `entry`, and the subroutines that only unreached words call (R598). A RET that no subroutine holds is refused as one outside a
subroutine (R146, R160). -/
def Ctx.check (c : Ctx) (entry : Nat) : Ends × Found :=
  let (r, f) := c.walk c.fuel entry c.len false 0 [] c.start { errs := [], slow := [], seen := [] }
  let any : Path := { c.start with regs := List.replicate 32 none, hs := List.replicate 16 (some (2 ^ c.lanes - 1)) }
  let f := c.targets.foldl (fun f t => if NatSet.has f.seen t then f else (c.walk c.fuel t c.len false 0 [t] any f).2) f
  (r, ((List.range c.len).filter (fun pc => c.code pc == some .ret && !NatSet.has f.seen pc)).foldl (fun f pc => f.err 0x0B pc) f)

/-- The loops of a program: the word of each LOOP or LOOPR and its distance. -/
def Ctx.loops (c : Ctx) : List (Nat × Nat) :=
  (List.range c.len).filterMap (fun pc =>
    match c.code pc with
    | some (.loop d _) => some (pc, d)
    | some (.loopr _ d _) => some (pc, d)
    | _ => none)

/-- The innermost loop whose body holds word `pc` (R598): the last to begin. -/
def innermost (ls : List (Nat × Nat)) (pc : Nat) : Option Nat :=
  (ls.reverse.find? (fun l => decide (l.1 < pc) && decide (pc ≤ l.1 + l.2))).map (·.1)

/-- The least of a list. -/
def least? : List Nat → Option Nat
  | [] => none
  | a :: as => some ((least? as).elim a (min a))

/-- The checks that need no path, in the order of their codes: illegal words, targets, the scope of a BR, and the matching of loops
(R144, R146, R160). Where bodies nest improperly or share an ENDL, the loop concerned is the one that begins later (DESIGN CHOICE, log entry 63). -/
def Ctx.static (c : Ctx) : Option (Nat × Nat) :=
  let pcs := List.range c.len
  let ls := c.loops
  let illegal := pcs.filter (fun pc => (c.code pc).isNone)
  let range := pcs.filter (fun pc =>
    match c.code pc with
    | some (.br _ o) => decide (c.len ≤ pc + o)
    | some (.call t) => decide (c.len ≤ t)
    | _ => false)
  let scope := pcs.filter (fun pc =>
    match c.code pc with
    | some (.br _ o) => innermost ls pc != innermost ls (pc + o)
    | _ => false)
  let unmatched := ls.filter (fun l =>
    c.code (l.1 + l.2) != some .endl || decide (c.len ≤ l.1 + l.2)
      || ls.any (fun m => decide (m.1 < l.1) && decide (l.1 ≤ m.1 + m.2) && decide (m.1 + m.2 ≤ l.1 + l.2)))
  let orphans := pcs.filter (fun pc => c.code pc == some .endl && !ls.any (fun l => l.1 + l.2 == pc))
  match least? illegal, least? range, least? scope, least? (unmatched.map (·.1) ++ orphans) with
  | some w, _, _, _ => some (0x05, w)
  | none, some w, _, _ => some (0x06, w)
  | none, none, some w, _ => some (0x07, w)
  | none, none, none, some w => some (0x08, w)
  | none, none, none, none => none

/-- The refusal with the lowest detail code, at its lowest word (R155). -/
def worst (errs : List (Nat × Nat)) : Option (Nat × Nat) :=
  match least? (errs.map (·.1)) with
  | none => none
  | some k => (least? ((errs.filter (fun e => e.1 == k)).map (·.2))).map (fun w => (k, w))

/-- Check 4 of R155, and the charges: the detail and word of a refusal, or the charges with the words at which they pass their
limits. The charges of the words are found first, and then the longest paths. -/
def Ctx.prove (c : Ctx) (entry : Nat) : Sum (Nat × Nat) Path :=
  match c.static with
  | some e => .inl e
  | none =>
    let (_, f) := c.check entry
    match worst f.errs with
    | some e => .inl e
    | none =>
      let c := { c with slow := f.slow }
      match (c.walk c.fuel entry c.len false 0 [] c.start { errs := [], slow := [], seen := [] }).1.done with
      | some p => .inr p
      | none => .inr c.start

end Sys2Proof.Machine
end

