-- ==== Sys2Proof/Machine/Loader.lean ====
section
/-!
DEFINITION. The on-chip loader (R148 to R164): descriptors, the order of the proof, the chip-wide checks, what an epoch does to an
engine whose program it changes, and the stock library. Readings of these rules are DEDUCED, log entry 33.
-/

namespace Sys2Proof.Machine

/-! ## Descriptors (R152) -/

/-- Word `w` of the descriptor of engine `e`. -/
def Cfg.desc (c : Cfg) (e w : Nat) : Nat := Cfg.word c (DESC.word e w)

/-- WIDTH of the descriptor: the program is W16. -/
def Cfg.wide (c : Cfg) (e : Nat) : Bool := bit (Cfg.desc c e 1) 0

/-- CODELEN. -/
def Cfg.codeLen (c : Cfg) (e : Nat) : Nat := bits (Cfg.desc c e 2) 14 0

/-- NIN, NOUT, NREG and NPARAM. -/
def Cfg.nIn (c : Cfg) (e : Nat) : Nat := bits (Cfg.desc c e 5) 5 0
/-- NOUT. -/
def Cfg.nOut (c : Cfg) (e : Nat) : Nat := bits (Cfg.desc c e 5) 13 8
/-- NREG. -/
def Cfg.nReg (c : Cfg) (e : Nat) : Nat := bits (Cfg.desc c e 5) 22 16
/-- NPARAM. -/
def Cfg.nParam (c : Cfg) (e : Nat) : Nat := bits (Cfg.desc c e 5) 27 24

/-- Byte offset and length of parameter region `p` of engine `e`. -/
def Cfg.param (c : Cfg) (e p : Nat) : Nat × Nat :=
  (bits (Cfg.desc c e (200 + 2 * p)) 18 0, bits (Cfg.desc c e (201 + 2 * p)) 18 0)

/-- The parameter regions of engine `e`. -/
def Cfg.params (c : Cfg) (e : Nat) : List (Nat × Nat) := (List.range (min (Cfg.nParam c e) 8)).map (Cfg.param c e)

/-- DRAM region `r` of engine `e`: put, fetched, base and size in 4 KiB units. -/
def Cfg.region (c : Cfg) (e r : Nat) : Bool × Bool × Nat × Nat :=
  let w := Cfg.desc c e (72 + 2 * r)
  (bit w 31, bit w 30, bits w 21 0, bits (Cfg.desc c e (73 + 2 * r)) 21 0)

/-- The bytes of the code words of engine `e`. -/
def Cfg.codeBytes (c : Cfg) (e n : Nat) : List Nat := (List.range n).flatMap (fun i => toLe 4 (Cfg.word c (IMEM.word e i)))

/-- Word `w` of the descriptor of engine `e` offends against R152. -/
def Cfg.descOffends (c : Cfg) (e w : Nat) : Bool :=
  let v := Cfg.desc c e w
  if w = 0 then v != 0x47454E48
  else if w = 1 then bits v 31 16 != 1 || bits v 15 1 != 0
  else if w = 2 then bits v 31 15 != 0 || decide (Cfg.codeLen c e = 0) || decide (16384 < Cfg.codeLen c e)
  else if w = 3 then bits v 31 21 != 0
  else if w = 5 then bits v 31 28 != 0 || bit v 23 || bits v 15 14 != 0 || bits v 7 6 != 0
  else if w = 6 then bits v 31 16 != 0
  else if w = 7 then
    decide (1 ≤ Cfg.codeLen c e) && decide (Cfg.codeLen c e ≤ 16384) && crc32 (Cfg.codeBytes c e (Cfg.codeLen c e)) != v
  else if w < 8 then false
  else if w < 40 then (if w - 8 < Cfg.nIn c e then bits v 31 13 != 0 else v != 0)
  else if w < 72 then (if w - 40 < Cfg.nOut c e then bits v 31 13 != 0 else v != 0)
  else if w < 200 then
    if (w - 72) / 2 < Cfg.nReg c e then
      (if w % 2 = 0 then bits v 29 22 != 0 else bits v 31 22 != 0 || bits v 21 0 == 0)
    else v != 0
  else if w < 216 then (if (w - 200) / 2 < Cfg.nParam c e then bits v 31 19 != 0 else v != 0)
  else v != 0

/-- Parameter region `p` of engine `e` lies outside DMEM, is misaligned or overlaps a lower-numbered one (R152, R155). A region of length 0 strictly
inside another is taken to overlap it (DESIGN CHOICE, log entry 61). -/
def Cfg.paramOffends (c : Cfg) (e p : Nat) : Bool :=
  let (a, n) := Cfg.param c e p
  let size := if Cfg.wide c e then 2 ^ 19 else 2 ^ 18
  a % 4 != 0 || n % 4 != 0 || decide (size ≤ a) || decide (size < a + n)
    || anyBelow (fun q => let (b, m) := Cfg.param c e q; decide (a < b + m) && decide (b < a + n)) p

/-! ## The stock library (R161 to R163) -/

/-- The idle program's descriptor words that are not 0 (R152, R163). -/
def idleDescriptor : List (Nat × Nat) :=
  [(0, 0x47454E48), (1, 0x10000), (2, 1), (3, 1), (7, 0x44F406DA)]

/-- A program and a size that the library holds (R163). -/
def inLibrary (program size : Nat) : Bool :=
  match program with
  | 0 => size == 0
  | 1 | 3 | 5 => decide (1 ≤ size) && decide (size ≤ 256)
  | 2 => decide (1 ≤ size) && decide (size ≤ 64)
  | 4 => decide (1 ≤ size) && decide (size ≤ 8)
  | _ => false

/-- The bytes of the parameter table of a stock program, which starts at DMEM offset 0 (R163): two words per output of ROUTE and per source of
MIXMINUS, the release word of METER (its result table, from 0x0400, is the program's own), g_k, D_k and the warm-up counter of the worked amplifier
feed, three words per voice of CUEMIX. -/
def stockTable (program size : Nat) : Nat :=
  match program with
  | 1 | 2 => 8 * size
  | 3 => 4
  | 4 => 0x44
  | 5 => 12 * size
  | _ => 0

/-- The bits of the parameter word at byte offset `a` that the table of R163 gives a meaning: ROUTE's input list index and channel, CUEMIX's buses, none
of DELAY's warm-up counter, which is 0 when the parameters are loaded. -/
def stockParamMask (program a : Nat) : Nat :=
  match program with
  | 1 => if a % 8 = 0 then 0x1F003F else 2 ^ 32 - 1
  | 4 => if a = 0x40 then 0 else 2 ^ 32 - 1
  | 5 => if a % 12 = 0 then 3 else 2 ^ 32 - 1
  | _ => 2 ^ 32 - 1

/-- The cycle charge that R163 gives a stock program at 48 kHz with TICK_LEN 6; `t` is T_DRAM. -/
def stockCycles (program size t : Nat) : Nat :=
  match program with
  | 0 => 1
  | 1 => 18 + 336 * size
  | 2 => 340 + 670 * size
  | 3 => 24 + 180 * size
  | 4 => 34 + 2 * t + 352 * size
  | _ => 40 + 340 * size

/-- The code of a stock program (R161, R163). -/
def stockCode (program size : Nat) : List Nat := if program = 0 then [0x58000000] else Config.stockCode program size

/-- Word `w` of the descriptor of a stock program other than IDLE: the header of its code, its one parameter region, and the claim that R163 gives for the
T_DRAM of word 6; the library gives the rest (R152, R163; DESIGN CHOICE, log entry 7). -/
def stockDescriptor (program size w : Nat) : Nat :=
  let own := (Store.find (Config.stockDescriptor program size) w).getD 0
  let code := stockCode program size
  if w = 0 then 0x47454E48
  else if w = 1 then 0x10000 + own % 2
  else if w = 2 then code.length
  else if w = 3 then stockCycles program size ((Store.find (Config.stockDescriptor program size) 6).getD 0)
  else if w = 5 then own % 2 ^ 23 + 2 ^ 24
  else if w = 7 then crc32 (code.flatMap (toLe 4))
  else if w = 200 then 0
  else if w = 201 then stockTable program size
  else own

/-- The words of stock program `program` at size `size` on engine `e`: descriptor, code, parameter defaults and entry (R161). -/
def stockWords (e program size : Nat) : List (Nat × Word) :=
  let desc := fun w => if program = 0 then (Store.find idleDescriptor w).getD 0 else stockDescriptor program size w
  let entry := if program = 0 then 0 else Config.stockEntry program size
  (List.range 256).map (fun w => (DESC.word e w, BitVec.ofNat 32 (desc w)))
    ++ ((stockCode program size).zipIdx).map (fun p => (IMEM.word e p.2, BitVec.ofNat 32 p.1))
    ++ (List.range (stockTable program size / 4)).map (fun i =>
        (DMEM.key e (4 * i), BitVec.ofNat 32 (Config.stockParam program size (4 * i) &&& stockParamMask program (4 * i))))
    ++ [(GE.ENTRY e, (GE.ENTRY.val e).put 0 entry)]

/-- The loader's figure for engine `e` where it holds a stock program unchanged, at 48 kHz with TICK_LEN 6 (R163). -/
def Cfg.stockCharge (c : Cfg) (e : Nat) : Option Nat :=
  let p := Cfg.rd c (GE.PROFILE.PROGRAM e)
  let n := Cfg.rd c (GE.PROFILE.SIZE e)
  if Cfg.fs c = 48000 ∧ Cfg.tickLen c = 6 ∧ inLibrary p n
      ∧ (stockWords e p n).all (fun w => isDmem w.1 || Store.get resetWord c w.1 == w.2) then
    some (stockCycles p n (Cfg.tdram c))
  else none

/-! ## The proof of one engine (R155) -/

/-- The checker's context for engine `e` (R147, R155). -/
def Cfg.proofCtx (c : Cfg) (e : Nat) : Ctx :=
  { code := fun i => if i < Cfg.codeLen c e then Genah.decode (Cfg.word c (IMEM.word e i)) else none,
    len := Cfg.codeLen c e, lanes := if Cfg.wide c e then 16 else 8, tdram := Cfg.tdram c,
    cycLim := proofLimit (Cfg.tickLen c) (Cfg.fs c) (Cfg.rd c GLB.MEDIA.SPEEDCAP),
    dramLim := Cfg.rd c (DRAM.RESV.UNITS e) * 64, slow := [] }

/-- The proof of engine `e`: a refusal as detail code and key, or the cycle and DRAM charges (R155, R160). -/
def Cfg.proveEngine (c : Cfg) (e : Nat) : Sum (Nat × Nat) (Nat × Nat) :=
  match firstBelow (Cfg.descOffends c e) 256 with
  | some w => .inl (0x01, DESC.word e w)
  | none =>
    if 32 < Cfg.nIn c e ∨ 32 < Cfg.nOut c e ∨ 64 < Cfg.nReg c e ∨ 8 < Cfg.nParam c e then .inl (0x02, DESC.word e 5)
    else match firstBelow (Cfg.paramOffends c e) (Cfg.nParam c e) with
    | some p => .inl (0x03, DESC.word e (200 + 2 * p))
    | none =>
      let entry := Cfg.rd c (GE.ENTRY.val e)
      if Cfg.codeLen c e ≤ entry then .inl (0x04, GE.ENTRY e)
      else
        let x := Cfg.proofCtx c e
        match x.prove entry with
        | .inl (k, w) => .inl (k, IMEM.word e w)
        | .inr p =>
          if Cfg.wide c e ≠ bit (Cfg.rd c GE.BRACE.val) (e / 2) then .inl (0x0D, DESC.word e 1)
          else
            let (cyc, late) := match Cfg.stockCharge c e with
              | some n => (n, if x.cycLim < n then some entry else none)
              | none => (p.cyc, p.cycAt)
            match late, p.dramAt with
            | some w, _ => .inl (0x0E, IMEM.word e w)
            | none, some w => .inl (0x0F, IMEM.word e w)
            | none, none => .inr (cyc, p.dram)

/-! ## Chip-wide checks (R156 to R158, R436) -/

/-- Two spans of numbers share one. -/
def spansMeet (a m b n : Nat) : Bool := decide (a < b + n) && decide (b < a + m)

/-- The outputs of the engines with another writer: descriptor word, engine (R156). -/
def Cfg.ownerOffenders (c : Cfg) : List (Nat × Nat) :=
  let fills := Cfg.observedBufs c
  (Cfg.engines c).flatMap (fun e =>
    ((Cfg.outputs c e).zipIdx).filterMap (fun p =>
      if fills.contains p.1 ∨ (Cfg.engines c).any (fun f => decide (f < e) && (Cfg.outputs c f).contains p.1) then
        some (DESC.word e (40 + p.2), e)
      else none))

/-- The declared regions of the engines: engine, number, put, base, size. -/
def Cfg.regions (c : Cfg) : List (Nat × Nat × Bool × Nat × Nat) :=
  (Cfg.engines c).flatMap (fun e =>
    (List.range (min (Cfg.nReg c e) 64)).map (fun r => let (w, _, b, n) := Cfg.region c e r; (e, r, w, b, n)))

/-- Regions that one engine puts and a lower-numbered engine uses, or the other way round (R73): the region of the
higher-numbered engine. -/
def Cfg.regionOverlaps (c : Cfg) : List (Nat × Nat) :=
  (Cfg.regions c).filterMap (fun (e, r, w, b, n) =>
    if (Cfg.regions c).any (fun (f, _, v, a, m) => decide (f < e) && (w || v) && spansMeet a m b n) then
      some (DESC.word e (72 + 2 * r), e)
    else none)

/-- Regions beyond the installed DRAM (R156, R431). -/
def Cfg.regionsBeyond (c : Cfg) : List (Nat × Nat) :=
  (Cfg.regions c).filterMap (fun (e, r, _, b, n) =>
    if Cfg.dramUsable c < b + n then some (DESC.word e (72 + 2 * r), e) else none)

/-- The static worst case of the clients other than engines, in bytes per tick (R436). -/
def Cfg.clientBytes (c : Cfg) : Nat :=
  ((Cfg.delayLines c).map (fun i => 128 * (ceilDiv (4 * Cfg.bufS c (Cfg.rd c (DL.SRCBUF i))) 64 + 1))).sum
    + (((Cfg.rxFlows c).filter (fun i => Cfg.flag c (FT.DEEP i))).map (fun i =>
        128 * (ceilDiv (4 * Cfg.rd c (FT.CHANNELS i) * Cfg.bufS c (Cfg.rd c (FT.BUFID i))) 64 + 1))).sum
    + (Cfg.voices c).length * (64 * (ceilDiv (4 * Cfg.bufS c (Cfg.rd c CUE.CFG.OUTBUF)) 64 + 2))
    + 64 * Cfg.rd c DRAM.HOSTRESV.val
    + (if Cfg.flag c CUE.CAPCTL.EN then 64 * (ceilDiv (Cfg.capBytes c) 64 + 1) else 0)

/-- The sums of R158 and of its second form with the reservations (R436), in bytes per tick; `charge` gives the DRAM charge of an
engine. -/
def Cfg.bandSums (c : Cfg) (charge : Nat → Nat) : Nat × Nat :=
  (((Cfg.engines c).map charge).sum + Cfg.clientBytes c,
   ((Cfg.engines c).map (fun e => Cfg.rd c (DRAM.RESV.UNITS e) * 64)).sum + Cfg.clientBytes c)

/-- The larger sum exceeds 80% of B (R158, R436). -/
def Cfg.bandOver (c : Cfg) (charge : Nat → Nat) : Bool :=
  let (a, b) := Cfg.bandSums c charge
  decide (8 * Cfg.dramB7 c * Cfg.tickLen c < max a b * Cfg.fs c * 70)

/-- The engine that a bandwidth refusal names: the highest-numbered with a reservation or a charge (R160). -/
def Cfg.bandEngine (c : Cfg) (charge : Nat → Nat) : Nat :=
  (((Cfg.engines c).filter (fun e => charge e != 0 || Cfg.rd c (DRAM.RESV.UNITS e) != 0)).getLast?).getD 0

/-- The least of a list of keys with their engines. -/
def leastKey : List (Nat × Nat) → Option (Nat × Nat)
  | [] => none
  | a :: as => some (match leastKey as with | some b => if b.1 < a.1 then b else a | none => a)

/-- The first chip-wide check to fail: detail code, key, engine (R156, R160). -/
def Cfg.chipCheck (c : Cfg) (charge : Nat → Nat) : Option (Nat × Nat × Nat) :=
  match leastKey (Cfg.ownerOffenders c), leastKey (Cfg.regionOverlaps c), leastKey (Cfg.regionsBeyond c) with
  | some (k, e), _, _ => some (0x10, k, e)
  | none, some (k, e), _ => some (0x11, k, e)
  | none, none, some (k, e) => some (0x12, k, e)
  | none, none, none =>
    if Cfg.bandOver c charge then
      let e := Cfg.bandEngine c charge
      some (0x13, DRAM.RESV e, e)
    else none

/-! ## The proof of a commit (R153, R155) -/

/-- The pending image changes the program, the descriptor or the entry of engine `e`, its brace bit, GLB.MEDIA or its reservation
(R153). -/
def State.needsProof (s : State) (e : Nat) : Bool :=
  s.pendChanges (fun k => inImem e k || inDesc e k || k == GE.ENTRY e || k == GLB.MEDIA || k == DRAM.RESV e)
    || bit ((s.word GE.BRACE ^^^ s.pendWord GE.BRACE).toNat) (e / 2)

/-- The figures of the engines of a list: engine, cycles, DRAM bytes, and whether they differ from the claims (R155, R159); or
the first refusal as detail code, key and engine. -/
def Cfg.proveAll (c : Cfg) : List Nat → Sum (Nat × Nat × Nat) (List (Nat × Nat × Nat × Bool))
  | [] => .inr []
  | e :: es =>
    let one : Sum (Nat × Nat) (Nat × Nat × Nat × Bool) :=
      match Cfg.proveEngine c e with
      | .inl x => .inl x
      | .inr (cyc, dram) => .inr (e, cyc, dram, bits (Cfg.desc c e 3) 20 0 != cyc || Cfg.desc c e 4 != dram)
    match one with
    | .inl (k, w) => .inl (k, w, e)
    | .inr r =>
      match Cfg.proveAll c es with
      | .inl x => .inl x
      | .inr rs => .inr (r :: rs)

/-- The DRAM charge of engine `e` given the figures just proven. -/
def State.chargeOf (s : State) (rs : List (Nat × Nat × Nat × Bool)) (e : Nat) : Nat :=
  match rs.find? (fun r => r.1 == e) with
  | some r => r.2.2.1
  | none => s.rd (GE.DRAMB.val e)

/-- The proof of the commit in progress: the figures, or detail code, key and engine (R153 to R158). -/
def State.prove (s : State) : Sum (Nat × Nat × Nat) (List (Nat × Nat × Nat × Bool)) :=
  let c := s.pendCfg
  let es := (Cfg.engines c).filter s.needsProof
  if es.isEmpty then .inr []
  else match Cfg.proveAll c es with
  | .inl x => .inl x
  | .inr rs =>
    match Cfg.chipCheck c (s.chargeOf rs) with
    | some x => .inl x
    | none => .inr rs

/-! ## Loading a stock program (R161, R162) -/

/-- A write of `v` with LOAD = 1 to GE.PROFILEn by interface `i`: the program expands into the open shadow (R161, R162). -/
def State.geProfile (s : State) (i e v : Nat) : State :=
  let size := bits v 16 8
  let prog := bits v 7 0
  if inLibrary prog size then
    let (t, ok) := s.profileLoad i (GE.PROFILE e) v
      (stockWords e prog size ++ [s.shadowFields (GE.PROFILE e) [(GE.PROFILE.SIZE e, size), (GE.PROFILE.PROGRAM e, prog)]])
    if ok then t.wr (GE.PROFILE.MODE e) 0 else t
  else s.accErr i (GE.PROFILE e) .refused

/-! ## Parameter words (R150, R154) -/

/-- The descriptor that governs address `a` of the DMEM window of engine `e`, with the address in that program's DMEM: the upper half of a W16
program lies in the follower's window, and its leader's open-shadow descriptor judges it, whether GE.BRACE is written before it or after
(R150; DEDUCED, log entry 33). -/
def State.paramHome (s : State) (e a : Nat) : Nat × Nat :=
  if e % 2 = 1 ∧ bit (s.shadowWord (DESC.word (e - 1) 1)).toNat 0 then (e - 1, a + 2 ^ 18) else (e, a)

/-- Address `a` of the DMEM of engine `e` lies in a parameter region of its open-shadow descriptor (R150). -/
def State.inShadowParam (s : State) (e a : Nat) : Bool :=
  let w := fun k => (s.shadowWord (DESC.word e k)).toNat
  (List.range (min (bits (w 5) 27 24) 8)).any (fun p =>
    let o := bits (w (200 + 2 * p)) 18 0
    decide (o ≤ a) && decide (a < o + bits (w (201 + 2 * p)) 18 0))

/-- A host write of key `k` of a DMEM window reaches a parameter region (R150). -/
def State.dmemWritable (s : State) (k : Nat) : Bool :=
  let o := k - DMEM.key 0 0
  let (e, a) := s.paramHome (o / 2 ^ 18) (o % 2 ^ 18)
  s.inShadowParam e a

/-- The DMEM of engine `e` with every byte 0. -/
def State.clearDmem (s : State) (e : Nat) : State :=
  { s with dmem := s.dmem.filter (fun c => c.1 / 2 ^ 18 != e) }

/-- The captured parameter words of the commit being applied are written where they lie in a region of the live descriptor, or, with
`any`, anywhere (R151, R154). -/
def State.applyParams (s : State) (e : Nat) (pend : Store Word) : State :=
  pend.foldl (fun s p =>
    if inDmem e p.1 then
      let o := p.1 - DMEM.key e 0
      let lead := e % 2 == 1 && s.bracedPair (e / 2)
      let home := if lead then e - 1 else e
      let a := if lead then o + 2 ^ 18 else o
      if (Cfg.params s.live home).any (fun r => decide (r.1 ≤ a) && decide (a < r.1 + r.2)) then
        { s with dmem := Memory.setWord s.dmem (e * 2 ^ 18 + o) p.2.toNat }
      else s
    else s) s

/-- Step 3 of the boundary at engine `e`: a changed program sees DMEM zero outside its captured parameters; that of an engine that only enters or
leaves a brace stays in place (R96, R154). `pend` is the image applied. -/
def State.programEpoch (s : State) (old new : Cfg) (pend : Store Word) (e : Nat) : State :=
  let loaded := fun x => pend.any (fun p => (inImem x p.1 || inDesc x p.1) && changed old new p.1)
  let lead := if e % 2 == 1 && bit (Cfg.rd new GE.BRACE.val) (e / 2) then e - 1 else e
  let s := if loaded lead then s.clearDmem e else s
  s.applyParams e pend

/-- Step 3 of the boundary at the programs of the engines that `new` has. -/
def State.programEpochs (s : State) (old new : Cfg) (pend : Store Word) : State :=
  ((List.range engineCount).filter (Cfg.present new)).foldl (fun s e => s.programEpoch old new pend e) s

/-- The figures of the proof become live (R159, R164). -/
def State.provenEpoch (s : State) (rs : List (Nat × Nat × Nat × Bool)) : State :=
  rs.foldl (fun s r =>
    let (e, cyc, dram, differs) := r
    let s := (s.wr (GE.PROVEN.CYC e) cyc).wr (GE.DRAMB.val e) dram
    if differs then s.report 0x0E08 e (e * 2 ^ 28 + cyc % 2 ^ 21) else s) s

/-- DRAM.LOAD follows the larger sum of R436 (DEDUCED, log entry 33). -/
def State.loadEpoch (s : State) : State :=
  let c := s.live
  if Cfg.flag c DRAM.CFG.EN then
    let (a, b) := Cfg.bandSums c (fun e => s.rd (GE.DRAMB.val e))
    let bytes := max a b * Cfg.fs c / max (Cfg.tickLen c) 1
    let s := s.wr DRAM.LOAD.MBS (bytes / 10 ^ 6)
    s.wr DRAM.LOAD.PERMILLE (bytes * 7 * 1000 / Cfg.dramB7 c)
  else (s.wr DRAM.LOAD.MBS 0).wr DRAM.LOAD.PERMILLE 0

end Sys2Proof.Machine
end

