-- ==== Sys2Proof/Machine/Validate.lean ====
section
/-!
DEFINITION. Validation of the pending image (R40, R565 to R569): one definition per reason code, each the keys that break the rule,
and the choice of the reason and the address reported. Which fields a rule names is DEDUCED, log entry 34.
-/

namespace Sys2Proof.Machine

/-! ## Tools -/

/-- A unit bit of GLB.UNITCAP is set. -/
def Cfg.has (c : Cfg) (f : Fld) : Bool := Cfg.flag c f

/-- The indexes below `n` that satisfy `p`. -/
def those (n : Nat) (p : Nat → Bool) : List Nat := (List.range n).filter p

/-- Keys of the indexes below `n` that satisfy `p`. -/
def keysOf (n : Nat) (k : Nat → Nat) (p : Nat → Bool) : List Nat := (those n p).map k

/-- The least of a list of keys. -/
def least : List Nat → Option Nat
  | [] => none
  | a :: as => some (match least as with | some b => min a b | none => a)

/-- Every element of a list that meets some other element. -/
def clashing {α : Type} (p : α → α → Bool) (l : List α) : List α :=
  (l.zipIdx.filter (fun x => l.zipIdx.any (fun y => x.2 != y.2 && p x.1 y.1))).map (·.1)

/-- The bits of a table word outside `mask` are 0. -/
def Cfg.clearOutside (c : Cfg) (k mask : Nat) : Bool := Cfg.word c k &&& (2 ^ 32 - 1 - mask) == 0

/-- The words of a table entry with a reserved bit set: `masks` gives the bits that have a meaning, word by word. -/
def Cfg.reserved (c : Cfg) (word : Nat → Nat) (masks : List Nat) : List Nat :=
  (masks.zipIdx.filter (fun m => !Cfg.clearOutside c (word m.2) m.1)).map (fun m => word m.2)

/-- All 32 bits. -/
def allBits : Nat := 2 ^ 32 - 1

/-! ## Writers of a buffer (R168, R219, R277) -/

/-- The fields that name buffer `b` as filled by an enabled unit other than an engine or the Patch Map: kind (0 receive flow,
1 SAP, 2 AES3, 3 MADI, 4 cue player, 5 delay line), index and key. -/
def Cfg.fillers (c : Cfg) (b : Nat) : List (Nat × Nat × Nat) :=
  ((Cfg.rxFlows c).filter (fun i => Cfg.rd c (FT.BUFID i) == b)).map (fun i => (0, i, FT.word i 7))
    ++ (those 32 (fun n => Cfg.sapIn c n && Cfg.rd c (SAP.P_BUF.INBUF n) == b)).map (fun n => (1, n, SAP.P_BUF n))
    ++ (those 8 (fun n => Cfg.flag c (AES.RX_CFG.EN n) && Cfg.flag c (AES.RX_CFG.DATA_EN n) && Cfg.rd c (AES.RX_CFG.INBUF n) == b)).map
        (fun n => (2, n, AES.RX_CFG n))
    ++ (those 4 (fun p => Cfg.flag c (AES.MD_CFG.IN_EN p) && Cfg.rd c (AES.MD_BUF.INBUF p) == b)).map (fun p => (3, p, AES.MD_BUF p))
    ++ (if (Cfg.cueBufs c).contains b then [(4, 0, CUE.CFG)] else [])
    ++ ((Cfg.delayLines c).filter (fun i => Cfg.rd c (DL.DSTBUF i) == b)).map (fun i => (5, i, DL.word i 1))

/-- The descriptor words that declare buffer `b` as an output, with their engines. -/
def Cfg.outputWords (c : Cfg) (b : Nat) : List (Nat × Nat) :=
  (Cfg.engines c).flatMap (fun e => ((Cfg.outputs c e).zipIdx.filter (fun p => p.1 == b)).map (fun p => (e, DESC.word e (40 + p.2))))

/-- The Patch Map words that name buffer `b` as their destination. -/
def Cfg.patchWords (c : Cfg) (b : Nat) : List Nat :=
  ((Cfg.patches c).filter (fun x => Cfg.rd c (PM.DSTBUF x) == b)).map (fun x => PM.word x 1)

/-- The writers of buffer `b` other than filler (`kind`, `i`), as keys: for a buffer that one unit must fill alone. -/
def Cfg.otherWriters (c : Cfg) (b kind i : Nat) : List Nat :=
  ((Cfg.fillers c b).filter (fun f => !(f.1 == kind && f.2.1 == i))).map (·.2.2)
    ++ (Cfg.outputWords c b).map (·.2) ++ Cfg.patchWords c b

/-- Buffer `b` is enabled. -/
def Cfg.bufEn (c : Cfg) (b : Nat) : Bool := Cfg.flag c (BT.EN b)

/-- A buffer's C and MULT are those given. -/
def Cfg.bufIs (c : Cfg) (b ch mult : Nat) : Bool := Cfg.rd c (BT.CHANNELS b) == ch && Cfg.rd c (BT.MULT b) == mult

/-! ## 0x10 to 0x14 (R6, R17, R567, R568) -/

/-- Uses of the DRAM controller by the pending image, as the fields that enable them: those of tables, then device-wide. -/
def Cfg.dramUses (c : Cfg) : List Nat :=
  let own := ((Cfg.rxFlows c).filter (fun i => Cfg.flag c (FT.DEEP i))).map (fun i => FT.word i 0)
    ++ (Cfg.delayLines c).map (fun i => DL.word i 0) ++ (Cfg.voices c).map (fun i => VT.word i 0)
    ++ ((Cfg.engines c).filter (fun e => Cfg.nReg c e != 0)).map (fun e => DESC.word e 5)
  if own.isEmpty then
    (if Cfg.flag c CUE.CAPCTL.EN then [CUE.CAPCTL] else []) ++ (if Cfg.flag c GLB.JCTL.LOC then [] else [GLB.JCTL])
  else own

/-- ABSENT_UNIT: the commit enables or uses an absent unit (R6, R567). -/
def Cfg.absentUnit (c : Cfg) : List Nat :=
  (if anyBelow (fun k => bit (Cfg.rd c GE.BRACE.val) k && !(Cfg.present c (2 * k) && Cfg.present c (2 * k + 1))) 8 then [GE.BRACE] else [])
    ++ (if Cfg.has c GLB.UNITCAP.ASRC then [] else
          keysOf 8 SAP.CG_CFG (fun k => Cfg.rd c (SAP.CG_CFG.MODE k) == 3) ++ keysOf 8 AES.RX_CFG (fun n => Cfg.rd c (AES.RX_CFG.MODE n) == 2)
            ++ keysOf 4 AES.MD_CFG (fun p => Cfg.rd c (AES.MD_CFG.MODE p) == 2))
    ++ ((Cfg.members c).filter (fun i =>
          (Cfg.rd c (HM.KIND i) == 5 && !Cfg.has c GLB.UNITCAP.MADI) || (Cfg.rd c (HM.KIND i) == 6 && !Cfg.has c GLB.UNITCAP.CUEPLAYER))).map (fun i => HM.word i 0)
    ++ ((Cfg.cues c).filter (fun i => Cfg.rd c (CLQ.BIND i) == 1 && !Cfg.has c GLB.UNITCAP.CUEPLAYER)).map (fun i => CLQ.word i 0)
    ++ (if Cfg.has c GLB.UNITCAP.DRAMCTL then [] else Cfg.dramUses c)
    ++ (if Cfg.flag c PAIR.CFG.EN && !Cfg.has c GLB.UNITCAP.PAIRLINK then [PAIR.CFG] else [])
    ++ keysOf 10 REF.PRIO (fun i => Cfg.flag c (REF.PRIO.EN i) && Cfg.rd c (REF.PRIO.INPUT i) == 9 && !Cfg.has c GLB.UNITCAP.PAIRLINK)
    ++ (if Cfg.rd c GLB.UNITCAP.DRAMMAX < Cfg.rd c DRAM.CFG.SIZE ∧ Cfg.rd c DRAM.CFG.SIZE ≤ 4 then [DRAM.CFG] else [])

/-- The tick lengths of R10. -/
def tickLens : List Nat := [1, 2, 3, 4, 6, 8, 12, 16, 24, 32, 48]

/-- FIELD_RANGE over the registers (R566, R567, R572). -/
def Cfg.registerRange (c : Cfg) : List Nat :=
  let r := fun f => Cfg.rd c f
  let one := fun (k : Nat) (b : Bool) => if b then [k] else []
  one GLB.MEDIA (!tickLens.contains (r GLB.MEDIA.TICK_LEN) || decide (2147 < r GLB.MEDIA.SPEEDCAP))
    ++ keysOf 16 HRD.H_CTL (fun k => decide (4 < r (HRD.H_CTL.SRC k)))
    ++ keysOf 8 SAP.CG_CFG (fun k => decide (3 < r (SAP.CG_CFG.MODE k)) || r (SAP.CG_CFG.FMT k) == 3 || r (SAP.CG_CFG.SLOTW k) == 3
          || r (SAP.CG_CFG.SLOTS k) == 0 || decide (32 < r (SAP.CG_CFG.SLOTS k))
          || (decide (r (SAP.CG_CFG.FMT k) < 2) && r (SAP.CG_CFG.SLOTS k) != 2))
    ++ keysOf 8 AES.RX_CFG (fun n => r (AES.RX_CFG.MODE n) == 3 || r (AES.RX_CFG.MULT n) == 3)
    ++ keysOf 8 AES.TX_CFG (fun n => r (AES.TX_CFG.MULT n) == 3)
    ++ keysOf 4 AES.MD_CFG (fun p => r (AES.MD_CFG.MODE p) == 3 || decide (Cfg.madiC c p ≤ r (AES.MD_CFG.CSSEL p)))
    ++ one REF.CTL (decide (10 ≤ r REF.CTL.FORCEIN) && decide (r REF.CTL.FORCEIN < 15))
    ++ one REF.TIMERS (r REF.TIMERS.HO_AVG == 0)
    ++ keysOf 10 REF.PRIO (fun i => decide (9 < r (REF.PRIO.INPUT i)))
    ++ keysOf 10 REF.IN_CFG (fun k => decide (2 < r (REF.IN_CFG.JUMPPOL k)))
    ++ keysOf 10 REF.IN_NOMDEN (fun k => Cfg.word c (REF.IN_NOMDEN k) == 0)
    ++ one SYN.NCSN_CFG (r SYN.NCSN_CFG.NETCAP == 0 || decide (100 < r SYN.NCSN_CFG.NETCAP))
    ++ one SYN.RAMPCTL (decide (1 < r SYN.RAMPCTL.START))
    ++ one EIM.CFG (decide (10 < r EIM.CFG.STARTSRC) || decide (10 < r EIM.CFG.STOPSRC))
    ++ one TIME.LTCTX_CFG (decide (4 < r TIME.LTCTX_CFG.RATE))
    ++ keysOf 3 NET.CFG (fun x => decide (r (NET.CFG.MAXFRAME x) < 64) || decide (9216 < r (NET.CFG.MAXFRAME x)))
    ++ one SW.CTL (r SW.CTL.NETMODE == 3)
    ++ one SW.GCLCTL (r SW.GCLCTL.NENT == 0 || decide (256 < r SW.GCLCTL.NENT))
    ++ one DRAM.CFG (r DRAM.CFG.RATE == 3 || decide (4 < r DRAM.CFG.SIZE))
    ++ one PAIR.CFG (r PAIR.CFG.SHEP_MODE == 3 || decide (r PAIR.CFG.LEAD < 2))
    ++ one PAIR.WITNESS (r PAIR.WITNESS.PORTSEL == 3)

/-- FIELD_RANGE of an enabled receive entry (R169, R175, R572). -/
def Cfg.rxRange (c : Cfg) (i : Nat) : List Nat :=
  let r := fun f => Cfg.rd c f
  (if r (FT.PATH i) = 0 ∨ 5 < r (FT.FMT i) ∨ r (FT.CHANNELS i) = 0 ∨ 64 < r (FT.CHANNELS i) ∨ r (FT.PTIME i) = 0 ∨ 192 < r (FT.PTIME i)
    then [FT.word i 0] else [])
    ++ (if ¬ fmtAaf (r (FT.FMT i)) ∧ ¬ Cfg.flag c (FT.IPV6 i) then
          [3, 4, 5].filterMap (fun w => if Cfg.word c (FT.word i w) = 0 then none else some (FT.word i w)) else [])
    ++ Cfg.reserved c (FT.word i)
        [0xFFFFF0FF, 0xFF00FFFF, allBits, allBits, allBits, allBits, allBits, 0x1FFF, 0xFFFFF, 0xFFFFFF, 0xFFFF, 0, 0, 0, 0, 0]

/-- FIELD_RANGE of an enabled transmit entry (R199, R572). -/
def Cfg.txRange (c : Cfg) (i : Nat) : List Nat :=
  let r := fun f => Cfg.rd c f
  (if r (TX.PATH i) = 0 ∨ 5 < r (TX.FMT i) ∨ r (TX.CHANNELS i) = 0 ∨ 64 < r (TX.CHANNELS i) ∨ r (TX.PTIME i) = 0 ∨ 192 < r (TX.PTIME i)
      ∨ 1 < r (TX.DITH i) then [TX.word i 0] else [])
    ++ (if ¬ fmtAaf (r (TX.FMT i)) ∧ ¬ Cfg.flag c (TX.IPV6 i) then
          [5, 6, 7, 9, 10, 11].filterMap (fun w => if Cfg.word c (TX.word i w) = 0 then none else some (TX.word i w)) else [])
    ++ Cfg.reserved c (TX.word i)
        [0xFECFFFFF, 0x7FFFFFFF, allBits, 0xFC00FFFF, allBits, allBits, allBits, allBits, allBits, allBits, allBits, allBits, allBits,
         0xFFFF1FFF, 0xFFFFFF, 0]

/-- FIELD_RANGE over the shadowed tables: enabled entries only (R567). -/
def Cfg.tableRange (c : Cfg) : List Nat :=
  (Cfg.rxFlows c).flatMap (Cfg.rxRange c) ++ (Cfg.txFlows c).flatMap (Cfg.txRange c)
    ++ (Cfg.buffers c).flatMap (fun b => Cfg.reserved c (BT.word b) [0xC7FF3FFF, allBits, 0x3FFFFF, 0xFFFFF])
    ++ (Cfg.patches c).flatMap (fun x => Cfg.reserved c (PM.word x) [0xC3FFFFFF, 0x03FFFFFF])
    ++ (Cfg.members c).flatMap (fun i => Cfg.reserved c (HM.word i) [0xFF001FFF])
    ++ (Cfg.cues c).flatMap (fun i =>
          (if Cfg.rd c (CLQ.LATE i) = 3 ∨ 3 < Cfg.rd c (CLQ.BIND i) then [CLQ.word i 0] else [])
            ++ Cfg.reserved c (CLQ.word i) [0xFFFFFF0F, allBits, allBits, 0xFFFF])
    ++ (those 256 (fun i => decide (i < Cfg.rd c SW.GCLCTL.NENT))).flatMap (fun i => Cfg.reserved c (GCL.word i) [0xFF, allBits])
    ++ (Cfg.delayLines c).flatMap (fun i =>
          (if Cfg.rd c (DL.LOG2 i) < 10 ∨ 20 < Cfg.rd c (DL.LOG2 i) then [DL.word i 3] else [])
            ++ Cfg.reserved c (DL.word i) [0x83FFFFFF, 0x03FFFFFF, 0x1FFFFF, 0xF83FFFFF])
    ++ (Cfg.voices c).flatMap (fun i =>
          Cfg.reserved c (VT.word i) [0xE0000000, 0x3FFFFF, 0xFFFFFFF, 0xFFFFFFF, 0xFFFFFFF, allBits, 0xFFFFFF, 0])

/-- FIELD_RANGE. -/
def Cfg.fieldRange (c : Cfg) : List Nat := Cfg.registerRange c ++ Cfg.tableRange c

/-- PTIME_TICK (R17): named at word 0 of the flow. -/
def Cfg.ptimeTick (c : Cfg) : List Nat :=
  ((Cfg.flows c).filter (fun i =>
    let p := Cfg.rd c (FT.PTIME i)
    p % Cfg.tickLen c != 0 && Cfg.tickLen c % p != 0)).map (fun i => FT.word i 0)

/-- FAMILY_LIVE (R568). -/
def Cfg.familyLive (old c : Cfg) : List Nat :=
  if Cfg.rd old GLB.MEDIA.FAMILY = Cfg.rd c GLB.MEDIA.FAMILY then [] else
    let own := (Cfg.flows c).map (fun i => FT.word i 0) ++ keysOf 8 SAP.CG_CFG (fun k => Cfg.flag c (SAP.CG_CFG.EN k))
      ++ keysOf 8 AES.RX_CFG (fun n => Cfg.flag c (AES.RX_CFG.EN n)) ++ keysOf 8 AES.TX_CFG (fun n => Cfg.flag c (AES.TX_CFG.EN n))
      ++ keysOf 4 AES.MD_CFG (fun p => Cfg.flag c (AES.MD_CFG.IN_EN p) || Cfg.flag c (AES.MD_CFG.OUT_EN p))
      ++ (Cfg.delayLines c).map (fun i => DL.word i 0) ++ keysOf 16 HRD.H_CTL (fun k => Cfg.flag c (HRD.H_CTL.EN k))
      ++ keysOf 12 SYN.CKO_CFG (fun j => Cfg.flag c (SYN.CKO_CFG.EN j) && Cfg.rd c (SYN.CKO_CFG.SRC j) == 0)
    if own.isEmpty then
      (if Cfg.flag c CUE.CFG.EN || Cfg.flag c CUE.CAPCTL.EN || Cfg.flag c TIME.LTCTX_CFG.EN then [GLB.MEDIA] else [])
    else own

/-- TICK_LIVE (R568): a tick-counted activity runs while TICK_LEN changes. -/
def State.tickLive (s : State) (c : Cfg) : List Nat :=
  if s.tickLen = Cfg.tickLen c then [] else
    match firstBelow (fun k => s.rd (HRD.H_STATE.val k) == 1 || s.rd (HRD.H_STATE.val k) == 2) 16 with
    | some k => [HRD.H_CTL k]
    | none =>
      if s.flag CUE.CAPSTAT.RUNNING || s.flag SYN.RAMPSTAT.RUNNING || s.flag SYN.RAMPSTAT.ARMED then [GLB.MEDIA] else []

/-! ## 0x18 to 0x1E: buffers (R167, R168, R201, R246, R277, R295, R301, R305) -/

/-- The bytes of the ring of buffer `b`. -/
def Cfg.ringBytes (c : Cfg) (b : Nat) : Nat := Cfg.rd c (BT.DEPTH b) * Cfg.bufS c b * Cfg.rd c (BT.CHANNELS b) * 4

/-- BUF_RANGE (R166, R167). -/
def Cfg.bufRange (c : Cfg) : List Nat :=
  (Cfg.buffers c).flatMap (fun b =>
    let r := fun f => Cfg.rd c f
    (if r (BT.DEPTH b) < 2 ∨ 256 < r (BT.DEPTH b) ∨ r (BT.CHANNELS b) = 0 ∨ 8192 < r (BT.CHANNELS b)
        ∨ 2 ^ 23 < r (BT.BASE b) + Cfg.ringBytes c b then [BT.word b 0] else [])
      ++ (if r (BT.BASE b) % 32 ≠ 0 then [BT.word b 1] else [])
      ++ (if Cfg.flag c (BT.DEEP b) then [] else
            (if r (BT.DBASE b) ≠ 0 then [BT.word b 2] else []) ++ (if r (BT.DDEPTH b) ≠ 0 then [BT.word b 3] else [])))

/-- The rings of the enabled buffers: key, start, length. -/
def Cfg.rings (c : Cfg) : List (Nat × Nat × Nat) :=
  (Cfg.buffers c).map (fun b => (BT.word b 0, Cfg.rd c (BT.BASE b), Cfg.ringBytes c b))

/-- The checkpoint area: start and length in bytes. -/
def Cfg.ckptArea (c : Cfg) : Nat × Nat := (Cfg.rd c GLB.CKPTBASE.val * 4096, Cfg.rd c GLB.CKPTLEN.val * 4096)

/-- BUF_OVERLAP (R167). -/
def Cfg.bufOverlap (c : Cfg) : List Nat :=
  let rs := Cfg.rings c
  let (a, n) := Cfg.ckptArea c
  (clashing (fun x y => spansMeet x.2.1 x.2.2 y.2.1 y.2.2) rs).map (·.1)
    ++ (if Cfg.flag c GLB.JCTL.LOC then (rs.filter (fun x => spansMeet x.2.1 x.2.2 a n)).map (·.1) else [])

/-- RXBUF_MISMATCH (R168). -/
def Cfg.rxbufMismatch (c : Cfg) : List Nat :=
  (Cfg.rxFlows c).flatMap (fun i =>
    let b := Cfg.rd c (FT.BUFID i)
    if !Cfg.bufEn c b then [FT.word i 7]
    else
      (if Cfg.bufIs c b (Cfg.rd c (FT.CHANNELS i)) (Cfg.rd c (FT.MULT i)) && Cfg.flag c (BT.DEEP b) == Cfg.flag c (FT.DEEP i) then []
        else [FT.word i 0])
        ++ (let o := Cfg.otherWriters c b 0 i
            if o.isEmpty then [] else FT.word i 7 :: o))

/-- r of a transmit flow (R201). -/
def Cfg.txR (c : Cfg) (i : Nat) : Nat :=
  if Cfg.tickLen c < Cfg.rd c (TX.PTIME i) then Cfg.rd c (TX.PTIME i) / Cfg.tickLen c else 1

/-- TXBUF_MISMATCH (R201). -/
def Cfg.txbufMismatch (c : Cfg) : List Nat :=
  (Cfg.txFlows c).flatMap (fun i =>
    let b := Cfg.rd c (TX.BUFID i)
    if !Cfg.bufEn c b then [TX.word i 13]
    else
      (if Cfg.bufIs c b (Cfg.rd c (TX.CHANNELS i)) (Cfg.rd c (TX.MULT i)) && decide (Cfg.txR c i + 1 ≤ Cfg.rd c (BT.DEPTH b)) then []
        else [TX.word i 0])
        ++ (if Cfg.flag c (BT.DEEP b) then [TX.word i 13] else []))

/-- OUTPUT_SOURCE (R246). -/
def Cfg.outputSource (c : Cfg) : List Nat :=
  let seen := Cfg.observedBufs c
  let both := fun (b k : Nat) => if seen.contains b then k :: (Cfg.fillers c b).map (·.2.2) else []
  (Cfg.txFlows c).flatMap (fun i => both (Cfg.rd c (TX.BUFID i)) (TX.word i 13))
    ++ (those 32 (Cfg.sapOut c)).flatMap (fun n => both (Cfg.rd c (SAP.P_BUF.OUTBUF n)) (SAP.P_BUF n))
    ++ (those 8 (fun n => Cfg.flag c (AES.TX_CFG.EN n))).flatMap (fun n => both (Cfg.rd c (AES.TX_CFG.OUTBUF n)) (AES.TX_CFG n))
    ++ (those 4 (fun p => Cfg.flag c (AES.MD_CFG.OUT_EN p))).flatMap (fun p => both (Cfg.rd c (AES.MD_BUF.OUTBUF p)) (AES.MD_BUF p))

/-- The writers of an output buffer when they are more than one: the fields that name them (R277). -/
def Cfg.twoWriters (c : Cfg) (b : Nat) : List Nat :=
  let es := (Cfg.outputWords c b).map (·.1)
  let n := es.eraseDups.length + (if (Cfg.patchWords c b).isEmpty then 0 else 1)
  if n ≤ 1 then [] else (Cfg.outputWords c b).map (·.2) ++ Cfg.patchWords c b

/-- A local buffer that must have the C and MULT given: the key `shape` of the fields that set them, the key `name` of the one that
names it. -/
def Cfg.localBuf (c : Cfg) (b ch mult shape name : Nat) : List Nat :=
  if !Cfg.bufEn c b then [name]
  else (if Cfg.bufIs c b ch mult then [] else [shape]) ++ (if Cfg.flag c (BT.DEEP b) then [name] else [])

/-- SAPBUF_MISMATCH (R277). -/
def Cfg.sapbufMismatch (c : Cfg) : List Nat :=
  (List.range 32).flatMap (fun n =>
    let g := Cfg.rd c (SAP.P_CFG.GROUP n)
    let shape := fun b => Cfg.localBuf c b (Cfg.rd c (SAP.CG_CFG.SLOTS g)) (Cfg.rd c (SAP.CG_CFG.MULT g)) (SAP.CG_CFG g) (SAP.P_BUF n)
    (if Cfg.sapIn c n then
        let b := Cfg.rd c (SAP.P_BUF.INBUF n)
        shape b ++ (let o := Cfg.otherWriters c b 1 n; if o.isEmpty then [] else SAP.P_BUF n :: o)
      else [])
      ++ (if Cfg.sapOut c n then
            let b := Cfg.rd c (SAP.P_BUF.OUTBUF n)
            shape b ++ (let o := Cfg.twoWriters c b; if o.isEmpty then [] else SAP.P_BUF n :: o)
          else []))

/-- AESBUF_MISMATCH (R295, R301, R305). A buffer that two AES3 or MADI inputs, or one of them and the cue player, would fill has more
than the one writer of R219. -/
def Cfg.aesbufMismatch (c : Cfg) : List Nat :=
  let alone := fun (b kind i k : Nat) =>
    let o := ((Cfg.fillers c b).filter (fun f => !(f.1 == kind && f.2.1 == i) && decide (2 ≤ f.1) && decide (f.1 ≤ 4))).map (·.2.2)
    if o.isEmpty then [] else k :: o
  (those 8 (fun n => Cfg.flag c (AES.RX_CFG.EN n) && Cfg.flag c (AES.RX_CFG.DATA_EN n))).flatMap (fun n =>
      let b := Cfg.rd c (AES.RX_CFG.INBUF n)
      Cfg.localBuf c b 2 (Cfg.rd c (AES.RX_CFG.MULT n)) (AES.RX_CFG n) (AES.RX_CFG n) ++ alone b 2 n (AES.RX_CFG n))
    ++ (those 8 (fun n => Cfg.flag c (AES.TX_CFG.EN n))).flatMap (fun n =>
      Cfg.localBuf c (Cfg.rd c (AES.TX_CFG.OUTBUF n)) 2 (Cfg.rd c (AES.TX_CFG.MULT n)) (AES.TX_CFG n) (AES.TX_CFG n))
    ++ (those 4 (fun p => Cfg.flag c (AES.MD_CFG.IN_EN p))).flatMap (fun p =>
      let b := Cfg.rd c (AES.MD_BUF.INBUF p)
      Cfg.localBuf c b (Cfg.madiC c p) (if Cfg.madiM c p = 1 then 0 else 1) (AES.MD_CFG p) (AES.MD_BUF p) ++ alone b 3 p (AES.MD_BUF p))
    ++ (those 4 (fun p => Cfg.flag c (AES.MD_CFG.OUT_EN p))).flatMap (fun p =>
      Cfg.localBuf c (Cfg.rd c (AES.MD_BUF.OUTBUF p)) (Cfg.madiC c p) (if Cfg.madiM c p = 1 then 0 else 1) (AES.MD_CFG p) (AES.MD_BUF p))

/-! ## 0x20 to 0x28: flows and ports (R31, R173, R176, R180, R200, R201, R411, R415, R416, R599) -/

/-- Two receive entries share a key (R173). -/
def Cfg.sameFlowKey (c : Cfg) (i j : Nat) : Bool :=
  let aaf := fmtAaf (Cfg.rd c (FT.FMT i))
  aaf == fmtAaf (Cfg.rd c (FT.FMT j))
    && (if aaf then [2, 3, 4].all (fun w => Cfg.word c (FT.word i w) == Cfg.word c (FT.word j w))
          && Cfg.rd c (FT.ADDR3 i) / 2 ^ 16 == Cfg.rd c (FT.ADDR3 j) / 2 ^ 16
        else Cfg.flag c (FT.IPV6 i) == Cfg.flag c (FT.IPV6 j) && Cfg.flowAddr c i == Cfg.flowAddr c j
          && Cfg.rd c (FT.UDPPORT i) == Cfg.rd c (FT.UDPPORT j))
    && Cfg.flag c (FT.SSRCKEY i) == Cfg.flag c (FT.SSRCKEY j)
    && (!Cfg.flag c (FT.SSRCKEY i) || Cfg.rd c (FT.SSRC i) == Cfg.rd c (FT.SSRC j))

/-- DUP_FLOW_KEY (R173). -/
def Cfg.dupFlowKey (c : Cfg) : List Nat := (clashing (Cfg.sameFlowKey c) (Cfg.rxFlows c)).map (fun i => FT.word i 0)

/-- RX_PAYLOAD (R176). -/
def Cfg.rxPayload (c : Cfg) : List Nat := ((Cfg.rxFlows c).filter (fun i => decide (1440 < Cfg.payloadLen c i))).map (fun i => FT.word i 0)

/-- TX_PAYLOAD (R201). -/
def Cfg.txPayload (c : Cfg) : List Nat := ((Cfg.txFlows c).filter (fun i => decide (1440 < Cfg.payloadLen c i))).map (fun i => FT.word i 0)

/-- LEASH_RANGE (R180). -/
def Cfg.leashRange (c : Cfg) : List Nat :=
  ((Cfg.rxFlows c).filter (fun i =>
    let b := Cfg.rd c (FT.BUFID i)
    let lim := if Cfg.flag c (FT.DEEP i) then Cfg.rd c (BT.DDEPTH b) else Cfg.rd c (BT.DEPTH b)
    decide (lim ≤ Cfg.rd c (FT.EARLY i)) && Cfg.rd c (FT.EARLY i) != 0)).map (fun i => FT.word i 8)

/-- The first address word of transmit entry `i` on path `p`, with its next-hop index: words 8 to 11 all zero stand for ADDRA. -/
def Cfg.txDest (c : Cfg) (i p : Nat) : Nat × Nat :=
  let own := p = 1 && [8, 9, 10, 11].any (fun w => Cfg.word c (TX.word i w) != 0)
  (TX.word i (if own then 8 else 4), if p = 0 then Cfg.rd c (TX.NHA i) else Cfg.rd c (TX.NHB i))

/-- An IP destination is a multicast group. -/
def multicast (v6 : Bool) (top : Nat) : Bool := if v6 then top / 2 ^ 24 == 0xFF else top / 2 ^ 28 == 0xE

/-- TX_ADDR (R200, R430). -/
def Cfg.txAddrBad (c : Cfg) : List Nat :=
  ((Cfg.txFlows c).filter (fun i => !fmtAaf (Cfg.rd c (TX.FMT i)))).flatMap (fun i =>
    (those 2 (fun p => bit (Cfg.rd c (TX.PATH i)) p)).flatMap (fun p =>
      let (k, nh) := Cfg.txDest c i p
      if nh = 0 then (if multicast (Cfg.flag c (TX.IPV6 i)) (Cfg.word c k) then [] else [k])
      else if Cfg.flag c (SW.NH_LO.VALID (nh - 1)) then [] else [TX.word i 13, SW.NH_LO (nh - 1)]))

/-- FLOW_LOAD (R31, R567). -/
def Cfg.flowLoad (c : Cfg) : List Nat :=
  [Cfg.rxFlows c, Cfg.txFlows c].flatMap (fun fs =>
    let n := (fs.map (fun i => multOf (Cfg.rd c (FT.MULT i)) * Cfg.rd c (FT.CHANNELS i))).sum
    if min 8192 (2 ^ Cfg.rd c GLB.UNITCAP.CHANLOG2) < n ∨ 2048 < fs.length then fs.map (fun i => FT.word i 0) else [])

/-- PATH values that a network mode allows (R415). -/
def pathsOf (mode : Nat) : List Nat := if mode = 0 then [1, 2, 3] else if mode = 1 then [1] else [1, 2]

/-- PATH_MODE (R415). -/
def Cfg.pathMode (c : Cfg) : List Nat :=
  ((Cfg.flows c).filter (fun i => !(pathsOf (Cfg.rd c SW.CTL.NETMODE)).contains (Cfg.rd c (FT.PATH i)))).map (fun i => FT.word i 0)

/-- Bytes of a packet of transmit flow `i` on the wire: headers of R209, FCS, minimum frame, preamble and inter-frame gap (R416; 
DEDUCED, log entry 34). -/
def Cfg.wireBytes (c : Cfg) (i : Nat) : Nat :=
  let head := if fmtAaf (Cfg.rd c (TX.FMT i)) then 24
    else (if Cfg.flag c (TX.IPV6 i) then 40 else 20) + 8 + 12
  max (14 + (if Cfg.flag c (TX.VLAN i) then 4 else 0) + head + Cfg.payloadLen c i + 4) 64 + 20

/-- The line rate of a RATE code, in Mbit/s (R411). -/
def lineRateOf (rate : Nat) : Nat := if rate = 0 then 1000 else if rate = 1 then 2500 else if rate = 2 then 10000 else 25000

/-- PORT_LOAD (R416): packets of P sample periods, fs a second. -/
def Cfg.portLoad (c : Cfg) : List Nat :=
  (those 2 (fun x => Cfg.flag c (NET.CFG.EN x))).flatMap (fun x =>
    let fs := (Cfg.txFlows c).filter (fun i => bit (Cfg.rd c (TX.PATH i)) x)
    -- the load in bits per second, over a common denominator of all packet times
    let den := (fs.map (fun i => max (Cfg.rd c (TX.PTIME i)) 1)).foldl Nat.lcm 1
    let load := (fs.map (fun i => Cfg.wireBytes c i * 8 * Cfg.fs c * (den / max (Cfg.rd c (TX.PTIME i)) 1))).sum
    if 3 * lineRateOf (Cfg.rd c (NET.CFG.RATE x)) * 10 ^ 6 * den < 4 * load then NET.CFG x :: fs.map (fun i => FT.word i 0) else [])

/-- PORT_RATE (R411, R599). -/
def Cfg.portRate (c : Cfg) : List Nat :=
  keysOf 3 NET.CFG (fun x =>
    let r := Cfg.rd c (NET.CFG.RATE x)
    let ok := if x = 2 then decide (r < 2) else r == 0 || r == 2 || (r == 3 && Cfg.has c GLB.UNITCAP.PORT25G)
    !ok || (Cfg.flag c (NET.CFG.FEC x) && (x == 2 || r != 3)))

/-! ## 0x30 to 0x34: the Patch Map (R219) -/

/-- PATCH_RANGE. -/
def Cfg.patchRange (c : Cfg) : List Nat :=
  (Cfg.patches c).flatMap (fun x =>
    let side := fun (b ch k : Nat) => if Cfg.bufEn c b && decide (ch < Cfg.rd c (BT.CHANNELS b)) then [] else [k]
    side (Cfg.rd c (PM.SRCBUF x)) (Cfg.rd c (PM.SRCCH x)) (PM.word x 0) ++ side (Cfg.rd c (PM.DSTBUF x)) (Cfg.rd c (PM.DSTCH x)) (PM.word x 1))

/-- PATCH_RATE. -/
def Cfg.patchRate (c : Cfg) : List Nat :=
  ((Cfg.patches c).filter (fun x => Cfg.rd c (BT.MULT (Cfg.rd c (PM.SRCBUF x))) != Cfg.rd c (BT.MULT (Cfg.rd c (PM.DSTBUF x))))).map (fun x => PM.word x 0)

/-- PATCH_DUP. -/
def Cfg.patchDup (c : Cfg) : List Nat :=
  (clashing (fun x y => Cfg.rd c (PM.DSTBUF x) == Cfg.rd c (PM.DSTBUF y) && Cfg.rd c (PM.DSTCH x) == Cfg.rd c (PM.DSTCH y)) (Cfg.patches c)).map
    (fun x => PM.word x 1)

/-- PATCH_OWNER: word 1 of the entry. -/
def Cfg.patchOwner (c : Cfg) : List Nat :=
  let filled := Cfg.observedBufs c
  let sources := (Cfg.patches c).map (fun x => Cfg.rd c (PM.SRCBUF x))
  ((Cfg.patches c).filter (fun x =>
    let b := Cfg.rd c (PM.DSTBUF x)
    (Cfg.engineWriting c b).isSome || filled.contains b || sources.contains b)).map (fun x => PM.word x 1)

/-- PATCH_LOAD: the load of R21, each entry that the commit changes counted once more (R255). -/
def Cfg.patchLoad (old c : Cfg) : List Nat :=
  let m := fun (g : Cfg) (x : Nat) => Cfg.bufMult g (Cfg.rd g (PM.DSTBUF x))
  let touched := ((Cfg.patches old ++ Cfg.patches c).eraseDups).filter (fun x =>
    changed old c (PM.word x 0) || changed old c (PM.word x 1))
  let n := ((Cfg.patches c).map (m c)).sum + (touched.map (fun x => if Cfg.flag c (PM.EN x) then m c x else m old x)).sum
  if 4 * proofLimit (Cfg.tickLen c) (Cfg.fs c) (Cfg.rd c GLB.MEDIA.SPEEDCAP) < n * Cfg.tickLen c + 4 * 256 then
    (if (Cfg.patches c).isEmpty then touched else Cfg.patches c).map (fun x => PM.word x 0)
  else []

/-! ## 0x38 to 0x48: kennels, local audio, herds (R240, R259, R275, R276, R287, R288, R309) -/

/-- KNL_RANGE. -/
def Cfg.knlRange (c : Cfg) : List Nat :=
  keysOf 64 KNL.K_CFG (fun n => decide (1024 < Cfg.rd c (KNL.K_CFG.BASE n) + Cfg.rd c (KNL.K_CFG.SIZE n)) || decide (1024 < Cfg.rd c (KNL.K_CFG.SIZE n)))

/-- KNL_OVERLAP. -/
def Cfg.knlOverlap (c : Cfg) : List Nat :=
  (clashing (fun a b => spansMeet (Cfg.rd c (KNL.K_CFG.BASE a)) (Cfg.rd c (KNL.K_CFG.SIZE a)) (Cfg.rd c (KNL.K_CFG.BASE b)) (Cfg.rd c (KNL.K_CFG.SIZE b))
      && Cfg.rd c (KNL.K_CFG.SIZE a) != 0 && Cfg.rd c (KNL.K_CFG.SIZE b) != 0) (List.range 64)).map KNL.K_CFG

/-- SLOTW in bits (R273). -/
def slotBits (code : Nat) : Nat := if code = 0 then 16 else if code = 1 then 24 else 32

/-- SAP_CLOCK (R275). -/
def Cfg.sapClock (c : Cfg) : List Nat :=
  keysOf 8 SAP.CG_CFG (fun k =>
    decide (1024 < multOf (Cfg.rd c (SAP.CG_CFG.MULT k)) * Cfg.rd c (SAP.CG_CFG.SLOTS k) * slotBits (Cfg.rd c (SAP.CG_CFG.SLOTW k))))

/-- SAP_LOAD (R276). -/
def Cfg.sapLoad (c : Cfg) : List Nat :=
  [those 32 (Cfg.sapIn c), those 32 (Cfg.sapOut c)].flatMap (fun ns =>
    let g := fun n => Cfg.rd c (SAP.P_CFG.GROUP n)
    if 1024 < (ns.map (fun n => multOf (Cfg.rd c (SAP.CG_CFG.MULT (g n))) * Cfg.rd c (SAP.CG_CFG.SLOTS (g n)))).sum then
      ns.map (fun n => SAP.CG_CFG (g n))
    else [])

/-- SLIP_RANGE (R287). -/
def Cfg.slipRange (c : Cfg) : List Nat :=
  let bad := fun (hi lo : Fld) => decide (Cfg.rd c lo < 2) || decide (62 < Cfg.rd c hi) || decide (Cfg.rd c hi < Cfg.rd c lo + 4)
  keysOf 8 SAP.CG_SLIP (fun k => bad (SAP.CG_SLIP.HI k) (SAP.CG_SLIP.LO k))
    ++ keysOf 8 AES.RX_SLIP (fun n => bad (AES.RX_SLIP.HI n) (AES.RX_SLIP.LO n))
    ++ keysOf 4 AES.MD_SLIP (fun p => bad (AES.MD_SLIP.HI p) (AES.MD_SLIP.LO p))

/-- The claims on ASRC groups: the key of the field that names the first group, and the groups (R288, R309). -/
def Cfg.asrcClaims (c : Cfg) : List (Nat × List Nat) :=
  let g := fun n => Cfg.rd c (SAP.P_CFG.GROUP n)
  let sap := fun n => Cfg.rd c (SAP.CG_CFG.MODE (g n)) == 3
  let slots := fun n => Cfg.rd c (SAP.CG_CFG.SLOTS (g n))
  (those 32 (fun n => Cfg.sapIn c n && sap n)).map (fun n => (SAP.P_ASRC n, groupsFrom (Cfg.rd c (SAP.P_ASRC.INGRP n)) (slots n)))
    ++ (those 32 (fun n => Cfg.sapOut c n && sap n)).map (fun n => (SAP.P_ASRC n, groupsFrom (Cfg.rd c (SAP.P_ASRC.OUTGRP n)) (slots n)))
    ++ (those 8 (fun n => Cfg.rd c (AES.RX_CFG.MODE n) == 2)).map (fun n => (AES.RX_CFG n, [Cfg.rd c (AES.RX_CFG.ASRCGRP n)]))
    ++ (those 4 (fun p => Cfg.rd c (AES.MD_CFG.MODE p) == 2)).map
        (fun p => (AES.MD_CFG p, groupsFrom (Cfg.rd c (AES.MD_CFG.ASRCGRP p)) (Cfg.madiC c p)))

/-- ASRC_GROUP. -/
def Cfg.asrcGroup (c : Cfg) : List Nat :=
  let cs := Cfg.asrcClaims c
  (cs.filter (fun x => x.2.any (fun g => decide (15 < g)))).map (·.1)
    ++ (clashing (fun x y => x.2.any (fun g => y.2.contains g)) cs).map (·.1)

/-- How many members a KIND has. -/
def kindCount (kind : Nat) : Nat :=
  if kind < 2 then 4096 else if kind = 2 then 32 else if kind < 5 then 8 else if kind = 5 then 4 else if kind = 6 then 256 else 0

/-- HERD_MEMBER (R259). -/
def Cfg.herdMember (c : Cfg) : List Nat :=
  let ms := Cfg.members c
  let id := fun i => (Cfg.rd c (HM.KIND i), Cfg.rd c (HM.INDEX i))
  ((ms.filter (fun i => decide (kindCount (id i).1 ≤ (id i).2))) ++ clashing (fun i j => id i == id j) ms).map (fun i => HM.word i 0)

/-! ## 0x50 to 0x59: clocks, ports in time, cues (R327, R331, R362, R370, R391, R401, R426) -/

/-- REF_PRIO (R327): the entries, and the input registers that are not enabled. -/
def Cfg.refPrio (c : Cfg) : List Nat :=
  let es := those 10 (fun i => Cfg.flag c (REF.PRIO.EN i))
  let inp := fun i => Cfg.rd c (REF.PRIO.INPUT i)
  (clashing (fun i j => inp i == inp j) es).map REF.PRIO
    ++ ((es.filter (fun i => decide (inp i < 10) && !Cfg.flag c (REF.IN_CFG.EN (inp i)))).map REF.PRIO)

/-- REF_BW (R331). -/
def Cfg.refBw (c : Cfg) : List Nat :=
  let w := Cfg.rd c REF.BW.WIDE
  let n := Cfg.rd c REF.BW.NARROW
  if w < 1000 ∨ 40000 < w ∨ n < 10 ∨ 1000 < n ∨ w < n then [REF.BW] else []

/-- SLC_RANGE (R370). -/
def Cfg.slcRange (c : Cfg) : List Nat :=
  keysOf 4 EIM.SLC_CFG (fun n =>
    let t := signedN 13 (Cfg.rd c (EIM.SLC_CFG.THR n))
    decide (t < -1000) || decide (2500 < t) || decide (100 < Cfg.rd c (EIM.SLC_CFG.HYST n)))

/-- The frequency of the source of clock output `j`, in Hz (R362). -/
def Cfg.ckoSource (c : Cfg) (j : Nat) : Nat :=
  match Cfg.rd c (SYN.CKO_CFG.SRC j) with
  | 0 => if Cfg.rd c GLB.MEDIA.FAMILY = 0 then 24576 * Cfg.fs c else 26624 * Cfg.fs c
  | 1 => 156250000
  | 2 => 10 ^ 9
  | _ => 25 * 10 ^ 6

/-- CKO_FREQ (R362). -/
def Cfg.ckoFreq (c : Cfg) : List Nat :=
  keysOf 12 SYN.CKO_CFG (fun j => decide (160 * 10 ^ 6 * (Cfg.rd c (SYN.CKO_DIV.DIVM1 j) + 1) < Cfg.ckoSource c j))

/-- GCL_CYCLE (R426): judged while the list is enabled, since its reset value is legal (R567). -/
def Cfg.gclCycle (c : Cfg) : List Nat :=
  let es := List.range (min (Cfg.rd c SW.GCLCTL.NENT) 256)
  if Cfg.flag c SW.GCLCTL.EN && (es.map (fun i => Cfg.word c (GCL.word i 1))).sum != Cfg.word c SW.GCLCYCLE then es.map (fun i => GCL.word i 1)
  else []

/-- PTP_RANGE (R391). -/
def Cfg.ptpRange (c : Cfg) : List Nat :=
  keysOf 2 TIME.PTP_CFG (fun p =>
    let f := fun (x : Fld) => signedN 4 (Cfg.rd c x)
    let s := f (TIME.PTP_CFG.LOGSYNC p)
    let a := f (TIME.PTP_CFG.LOGANN p)
    let d := f (TIME.PTP_CFG.LOGDREQ p)
    decide (s < -7) || decide (1 < s) || decide (a < -3) || decide (4 < a) || decide (d < -7) || decide (5 < d))

/-- CUE_BIND (R401). -/
def Cfg.cueBindBad (c : Cfg) : List Nat :=
  ((Cfg.cues c).filter (fun i =>
    let x := Cfg.rd c (CLQ.BINDIX i)
    (Cfg.rd c (CLQ.BIND i) == 2 && decide (8 ≤ x)) || (Cfg.rd c (CLQ.BIND i) == 3 && decide (16 ≤ x)))).map (fun i => CLQ.word i 0)

/-- CUE_PERIOD (R401). -/
def Cfg.cuePeriodBad (c : Cfg) : List Nat :=
  ((Cfg.cues c).filter (fun i => Cfg.rd c (CLQ.REPEAT i) != 0 && decide (Cfg.rd c (CLQ.PERIOD i) < 1000))).map (fun i => CLQ.word i 2)

/-! ## 0x60 to 0x66: external memory (R432, R433, R439, R441, R442, R447) -/

/-- DRAM_NOT_READY (R432). -/
def State.dramNotReady (s : State) (c : Cfg) : List Nat := if s.flag DRAM.STAT.TRAINED then [] else Cfg.dramUses c

/-- DRAM_LIVE (R432). -/
def Cfg.dramLive (old c : Cfg) : List Nat :=
  if Cfg.flag old DRAM.CFG.EN ∧ (Cfg.rd old DRAM.CFG.SIZE ≠ Cfg.rd c DRAM.CFG.SIZE ∨ Cfg.rd old DRAM.CFG.RATE ≠ Cfg.rd c DRAM.CFG.RATE
      ∨ Cfg.rd old DRAM.CFG.ECC ≠ Cfg.rd c DRAM.CFG.ECC) then [DRAM.CFG] else []

/-- An area of external memory: key, kind (0 region put, 1 region fetched only, 2 clip, 3 other), engine, first byte, length. -/
structure Area where
  key : Nat
  kind : Nat
  engine : Nat
  base : Nat
  size : Nat
deriving DecidableEq, Repr

/-- The bytes of a deep ring with its valid map (R441). -/
def Cfg.deepBytes (c : Cfg) (b : Nat) : Nat :=
  let n := Cfg.rd c (BT.DDEPTH b) * Cfg.bufS c b
  n * Cfg.rd c (BT.CHANNELS b) * 4 + ceilDiv n 8

/-- The areas of external memory of a configuration (R433). -/
def Cfg.areas (c : Cfg) : List Area :=
  ((Cfg.regions c).map (fun (e, r, w, b, n) => ⟨DESC.word e (72 + 2 * r), if w then 0 else 1, e, b * 4096, n * 4096⟩))
    ++ (Cfg.delayLines c).map (fun i =>
        ⟨DL.word i 3, 3, 0, Cfg.rd c (DL.RBASE i) * 4096, 4 * 2 ^ Cfg.rd c (DL.LOG2 i) + 2 ^ Cfg.rd c (DL.LOG2 i) / 8⟩)
    ++ ((Cfg.buffers c).filter (fun b => Cfg.flag c (BT.DEEP b))).map (fun b => ⟨BT.word b 2, 3, 0, Cfg.rd c (BT.DBASE b) * 4096, Cfg.deepBytes c b⟩)
    ++ (Cfg.voices c).map (fun v => ⟨VT.word v 1, 2, 0, Cfg.rd c (VT.CLIPBASE v) * 4096, 4 * Cfg.rd c (VT.LEN v)⟩)
    ++ (if Cfg.flag c CUE.CAPCTL.EN then [⟨CUE.CAPBASE, 3, 0, Cfg.rd c CUE.CAPBASE.val * 4096, Cfg.rd c CUE.CAPLEN.val * 4096⟩] else [])
    ++ (if Cfg.flag c GLB.JCTL.LOC then [] else [⟨GLB.CKPTBASE, 3, 0, (Cfg.ckptArea c).1, (Cfg.ckptArea c).2⟩])

/-- Two areas may not overlap: not two clips, and not two regions that R73 judges. -/
def areasClash (x y : Area) : Bool :=
  spansMeet x.base x.size y.base y.size && !(x.kind == 2 && y.kind == 2)
    && !(decide (x.kind < 2) && decide (y.kind < 2) && x.engine != y.engine && (x.kind == 0 || y.kind == 0))

/-- A key is a table word or a register of one unit: the two that are not stand last in a joint rule (R565). -/
def deviceWide (k : Nat) : Bool := k == CUE.CAPBASE || k == GLB.CKPTBASE

/-- DRAM_OVERLAP (R433). -/
def Cfg.dramOverlap (c : Cfg) : List Nat :=
  let ks := (clashing areasClash (Cfg.areas c)).map (·.key)
  let own := ks.filter (fun k => !deviceWide k)
  if own.isEmpty then ks else own

/-- DL_RANGE (R439). -/
def Cfg.dlRange (c : Cfg) : List Nat :=
  let ls := Cfg.delayLines c
  let r := fun f => Cfg.rd c f
  ls.flatMap (fun i =>
    let b := r (DL.DSTBUF i)
    let src := r (DL.SRCBUF i)
    let lane := fun (b ch k : Nat) => if Cfg.bufEn c b && decide (ch < Cfg.rd c (BT.CHANNELS b)) then [] else [k]
    lane src (r (DL.SRCCH i)) (DL.word i 0) ++ lane b (r (DL.DSTCH i)) (DL.word i 1)
      ++ (if r (BT.MULT src) ≠ r (BT.MULT b) then [DL.word i 0] else [])
      ++ (if r (DL.D i) < 2 * Cfg.bufS c src ∨ 2 ^ r (DL.LOG2 i) < r (DL.D i) + Cfg.bufS c src then [DL.word i 2] else [])
      ++ (let o := ((Cfg.fillers c b).filter (fun f => f.1 != 5)).map (·.2.2) ++ (Cfg.outputWords c b).map (·.2) ++ Cfg.patchWords c b
          if o.isEmpty then [] else DL.word i 1 :: o))
    ++ (clashing (fun i j => r (DL.DSTBUF i) == r (DL.DSTBUF j) && r (DL.DSTCH i) == r (DL.DSTCH j)) ls).map (fun i => DL.word i 1)

/-- DEEP_RANGE (R441). -/
def Cfg.deepRange (c : Cfg) : List Nat :=
  ((Cfg.buffers c).filter (fun b => Cfg.flag c (BT.DEEP b))).flatMap (fun b =>
    (if Cfg.rd c (BT.DDEPTH b) < 4 ∨ 2 * Cfg.fs c < Cfg.rd c (BT.DDEPTH b) * Cfg.tickLen c then [BT.word b 3] else [])
      ++ (if Cfg.dramUsable c * 4096 < Cfg.rd c (BT.DBASE b) * 4096 + Cfg.deepBytes c b then [BT.word b 2] else []))

/-- CUE_CLIP (R442). -/
def Cfg.cueClip (c : Cfg) : List Nat :=
  (Cfg.voices c).flatMap (fun v =>
    let r := fun f => Cfg.rd c f
    (if Cfg.dramUsable c * 4096 < r (VT.CLIPBASE v) * 4096 + 4 * r (VT.LEN v) then [VT.word v 1] else [])
      ++ (if r (VT.LEN v) = 0 ∨ r (VT.LEN v) < r (VT.LOOPEND v) then [VT.word v 2] else [])
      ++ (if r (VT.LOOPEND v) ≤ r (VT.LOOPSTART v) then [VT.word v 3] else []))

/-- CAP_RANGE (R446, R447, R572). -/
def Cfg.capRange (c : Cfg) : List Nat :=
  let src := Cfg.capSources c
  let r := fun f => Cfg.rd c f
  (if Cfg.dramUsable c < r CUE.CAPBASE.val + r CUE.CAPLEN.val ∧ (Cfg.flag c CUE.CAPCTL.EN ∨ r CUE.CAPLEN.val ≠ 0) then [CUE.CAPBASE] else [])
    ++ (if 512 < Cfg.capChannels c then src.map CUE.CAPNCH else [])
    ++ (src.filter (fun i => r (CUE.CAPNCH.NCH i) == 0)).map CUE.CAPNCH
    ++ (src.filter (fun i =>
          let b := r (CUE.CAPSRC.BUFID i)
          !Cfg.bufEn c b || decide (r (BT.CHANNELS b) < r (CUE.CAPSRC.FIRST i) + r (CUE.CAPNCH.NCH i))
            || r (BT.MULT b) != r CUE.CAPCTL.MULT)).map CUE.CAPSRC

/-! ## 0x71, 0x72: pairs (R569) -/

/-- PAIR_NETMODE. -/
def Cfg.pairNetmode (c : Cfg) : List Nat := if Cfg.flag c PAIR.CFG.EN && Cfg.rd c SW.CTL.NETMODE != 0 then [SW.CTL] else []

/-- PAIR_SLIP: the clock groups and receivers that slip. -/
def Cfg.pairSlip (c : Cfg) : List Nat :=
  if Cfg.flag c PAIR.CFG.EN then
    keysOf 8 SAP.CG_CFG (fun k => Cfg.rd c (SAP.CG_CFG.MODE k) == 2) ++ keysOf 8 AES.RX_CFG (fun n => Cfg.rd c (AES.RX_CFG.MODE n) == 1)
      ++ keysOf 4 AES.MD_CFG (fun p => Cfg.rd c (AES.MD_CFG.MODE p) == 1)
  else []

/-! ## The verdict (R565) -/

/-- CKPT_SPACE (R60). -/
def State.ckptSpace (s : State) (c : Cfg) : List Nat :=
  if Cfg.rd c GLB.CKPTLEN.val < 2 * s.ckptNeedPending then [GLB.CKPTLEN] else []

/-- The rules in ascending order of their codes (R47, R566). -/
def rules : List (Nat × (State → Cfg → List Nat)) :=
  [ (0x06, State.ckptSpace), (0x10, fun _ c => Cfg.absentUnit c), (0x11, fun _ c => Cfg.fieldRange c), (0x12, fun _ c => Cfg.ptimeTick c),
    (0x13, fun s c => Cfg.familyLive s.live c), (0x14, State.tickLive), (0x18, fun _ c => Cfg.bufRange c),
    (0x19, fun _ c => Cfg.bufOverlap c), (0x1A, fun _ c => Cfg.rxbufMismatch c), (0x1B, fun _ c => Cfg.txbufMismatch c),
    (0x1C, fun _ c => Cfg.outputSource c), (0x1D, fun _ c => Cfg.sapbufMismatch c), (0x1E, fun _ c => Cfg.aesbufMismatch c),
    (0x20, fun _ c => Cfg.dupFlowKey c), (0x21, fun _ c => Cfg.rxPayload c), (0x22, fun _ c => Cfg.txPayload c),
    (0x23, fun _ c => Cfg.leashRange c), (0x24, fun _ c => Cfg.txAddrBad c), (0x25, fun _ c => Cfg.flowLoad c),
    (0x26, fun _ c => Cfg.pathMode c), (0x27, fun _ c => Cfg.portLoad c), (0x28, fun _ c => Cfg.portRate c) ]
  ++ [ (0x30, fun _ c => Cfg.patchRange c), (0x31, fun _ c => Cfg.patchRate c), (0x32, fun _ c => Cfg.patchDup c),
    (0x33, fun _ c => Cfg.patchOwner c), (0x34, fun s c => Cfg.patchLoad s.live c), (0x38, fun _ c => Cfg.knlRange c),
    (0x39, fun _ c => Cfg.knlOverlap c), (0x40, fun _ c => Cfg.sapClock c), (0x41, fun _ c => Cfg.sapLoad c),
    (0x42, fun _ c => Cfg.slipRange c), (0x43, fun _ c => Cfg.asrcGroup c), (0x48, fun _ c => Cfg.herdMember c),
    (0x50, fun _ c => Cfg.refPrio c), (0x51, fun _ c => Cfg.refBw c), (0x52, fun _ c => Cfg.slcRange c), (0x53, fun _ c => Cfg.ckoFreq c),
    (0x54, fun _ c => Cfg.gclCycle c), (0x55, fun _ c => Cfg.ptpRange c), (0x58, fun _ c => Cfg.cueBindBad c),
    (0x59, fun _ c => Cfg.cuePeriodBad c) ]
  ++ [ (0x60, State.dramNotReady), (0x61, fun s c => Cfg.dramLive s.live c), (0x62, fun _ c => Cfg.dramOverlap c),
    (0x63, fun _ c => Cfg.dlRange c), (0x64, fun _ c => Cfg.deepRange c), (0x65, fun _ c => Cfg.cueClip c), (0x66, fun _ c => Cfg.capRange c),
    (0x71, fun _ c => Cfg.pairNetmode c), (0x72, fun _ c => Cfg.pairSlip c) ]

/-- The first rule of a list that is broken: its code and the least key that breaks it. -/
def State.broken (s : State) (c : Cfg) : List (Nat × (State → Cfg → List Nat)) → Option (Nat × Nat)
  | [] => none
  | (code, f) :: rs => match least (f s c) with | some k => some (code, k) | none => State.broken s c rs

/-- The reason and key for which the commit in progress is refused at validation, short of the proof (R565). -/
def State.illegal (s : State) : Option (Nat × Nat) := s.broken s.pendCfg rules

end Sys2Proof.Machine
end

