-- ==== Sys2Proof/Machine/Apply.lean ====
section
/-!
DEFINITION. Step 3 of the boundary: an epoch is applied whole, and every unit acts on what it changes (R18, R45, R87, R91,
R253, R255, R568).
-/

namespace Sys2Proof.Machine

/-- The words that an image makes live: their shadowed bits, and the idle program of an engine that it leaves without one (R33, R45, R100). DMEM
words go through `State.applyParams`. -/
def State.applyWords (s : State) (pend : Store Word) : State :=
  let t := pend.foldl (fun s p => if isDmem p.1 then s else s.setWord p.1 (mergeBits (s.word p.1) p.2 (rwsMask p.1))) s
  { t with live := Cfg.idled s.live t.live pend }

/-- The Buffer Table entry of buffer `b` differs between two configurations. -/
def bufMoved (old new : Cfg) (b : Nat) : Bool :=
  (List.range 4).any (fun w => Cfg.word old (BT.word b w) != Cfg.word new (BT.word b w))

/-- An applied epoch at buffer `b`: what a changed ring held has no place in the new one, and its lanes begin anew, as do those of a
receive buffer under a hard change (R170, R253, R568; DEDUCED, log entry 36). -/
def State.bufferEpoch (s : State) (old new : Cfg) (b : Nat) : State :=
  let moved := bufMoved old new b
  let s := if moved || Cfg.tickLen old != Cfg.tickLen new then s.clearBuffer b else s
  let s : State := if moved then
      { s with muz := s.muz.filter (fun p => p.1 / 2 ^ 14 != b || (s.bufEn b && decide (p.1 % 2 ^ 14 < s.bufC b))) }
    else s
  let hard := (Cfg.rxFlows new).any (fun i => Cfg.rd new (FT.BUFID i) == b && rxHard old new i)
    || (Cfg.rxFlows old).any (fun i => Cfg.rd old (FT.BUFID i) == b && (rxHard old new i || !(Cfg.rxFlows new).contains i))
  if moved || hard then s.freshBuffer b else s

/-- The routes of a configuration: destination buffer and channel of each enabled entry, and its gather (R217). -/
def Cfg.routes (c : Cfg) : List ((Nat × Nat) × Route) :=
  (Cfg.patches c).map (fun x =>
    ((Cfg.rd c (PM.DSTBUF x), Cfg.rd c (PM.DSTCH x)),
      { buf := Cfg.rd c (PM.SRCBUF x), ch := Cfg.rd c (PM.SRCCH x), inv := Cfg.flag c (PM.INV x) }))

/-- The route of a lane in a list of routes. -/
def routeOf (rs : List ((Nat × Nat) × Route)) (d : Nat × Nat) : Option Route := (rs.find? (fun r => r.1 == d)).map (·.2)

/-- An applied epoch at the Patch Map, lane by lane (R254, R255; DEDUCED, log entry 36). -/
def State.patchEpoch (s : State) (old new : Cfg) : State :=
  let was := Cfg.routes old
  let is := Cfg.routes new
  ((was ++ is).map (·.1)).eraseDups.foldl (fun s d =>
    if !Cfg.flag new (BT.EN d.1) then s
    else match routeOf was d, routeOf is d with
    | none, some _ => s.routeAct d.1 d.2 .start none
    | some r, none => s.routeAct d.1 d.2 .stop (some r)
    | some r, some q => if r = q then s else s.routeAct d.1 d.2 .change (some r)
    | none, none => s) s

/-- An applied epoch at engine `e`: OFF follows EN, and a change of its IMEM, GE.CTLn or GE.ENTRYn ends PARKED (R77, R91). A follower
runs nothing of its own (R99). -/
def State.engineEpoch (s : State) (old new : Cfg) (e : Nat) : State :=
  let x := s.engine e
  if Cfg.follower new e then
    if Cfg.follower old e then s else s.setEngine e { x.halt with st := .idle, done := false, ahead := false, okTick := none }
  else if !Cfg.flag new (GE.CTL.EN e) then s.setEngine e { x.halt with st := .off, done := false, ahead := false, okTick := none }
  else
    let touched := (s.pend.any (fun p => (inImem e p.1 || p.1 == GE.CTL e || p.1 == GE.ENTRY e) && changed old new p.1))
    if x.st = .off ∨ (x.st = .parked ∧ touched) then s.setEngine e { x with st := .idle, done := false, overruns := 0 } else s

/-- The budget and proof limit that GLB.MEDIA gives (R14, R16). -/
def State.mediaEpoch (s : State) : State :=
  let s := s.wr GLB.BUDGET.val (engineBudget s.tickLen s.fs)
  s.wr GLB.PROOFLIM.val (proofLimit s.tickLen s.fs (s.rd GLB.MEDIA.SPEEDCAP))

/-- Every unit acts on the change from `old` to the live configuration at step 3 of B(n); `rs` holds the figures of the proof and
`s.pend` the image applied. -/
def State.unitEpochs (s : State) (old : Cfg) (n : Nat) (rs : List (Nat × Nat × Nat × Bool)) : State :=
  let new := s.live
  let s := s.mediaEpoch
  let s := s.pairEpoch old new
  let s := s.programEpochs old new s.pend
  let s := ((List.range engineCount).filter (Cfg.present new)).foldl (fun s e => s.engineEpoch old new e) s
  let s := (s.provenEpoch rs).loadEpoch
  let s := s.originEpoch old new n
  let s := s.eachBelow (fun s k => s.kennelEpoch old new k) 64
  let s := ((Cfg.buffers old ++ Cfg.buffers new).eraseDups).foldl (fun s b => s.bufferEpoch old new b) s
  let s := s.rxEpoch old new n
  let s := s.localEpoch old new n
  let s := s.eachBelow (fun s k => s.herdEpoch old new k) 16
  let s := s.eachBelow (fun s k => s.herdAdds old new n k) 16
  let s := s.eachBelow (fun s k => s.herdDrops old new k) 16
  let s := s.patchEpoch old new
  let s := s.txEpoch old new n
  let s := s.netEpoch old new
  let s := s.memEpoch old new
  let s := s.synEpoch old new
  let s := s.timeEpoch old new n
  s.cueEpoch old new n

/-- An epoch that affects engine `e` at B(n): its run-ahead is squashed, and a run-ahead that an illegal word ended starts afresh (R87, R145). -/
def State.epochAhead (s : State) (e n : Nat) : State :=
  let x := s.engine e
  if x.ahead then s.squash e (GE.SQEPOCH.val e)
  else if x.done && x.tick == n then s.setEngine e { x with done := false } else s

/-- Step 3 of B(n) with an image to apply: run-aheads that it affects are squashed, its words become live, and every unit acts on the
change (R18, R45, R87). -/
def State.applyCfg (s : State) (n : Nat) (rs : List (Nat × Nat × Nat × Bool)) : State :=
  let s := s.eachBelow (fun s e => if s.commitAffects e then s.epochAhead e n else s) 16
  let old := s.live
  (s.applyWords s.pend).unitEpochs old n rs

/-- A change of the checkpoint area makes a checkpoint due (R58). -/
def areaChanged (old new : Cfg) : Bool :=
  Cfg.rd old GLB.CKPTBASE.val != Cfg.rd new GLB.CKPTBASE.val || Cfg.rd old GLB.CKPTLEN.val != Cfg.rd new GLB.CKPTLEN.val
    || Cfg.rd old GLB.JCTL.LOC != Cfg.rd new GLB.JCTL.LOC

/-- The commit in progress is applied at B(n) (R45, R54, R58). -/
def State.applyEpoch (s : State) (n : Nat) (c : CommitReq) : State :=
  let old := s.live
  let s := s.applyCfg n c.proven
  let s : State := { s with pend := [], commit := none }
  let s := (s.inc GLB.EPOCH.val).wr GLB.EPOCHTICK.val n
  let s := s.wr GLB.COMMITSTAT.STATE 3
  let s := s.sqf GLB.COMMITHIST.APPLIED
  let s := if c.past then s.sqf GLB.COMMITHIST.LATE else s
  let s := s.journal .applied 0 (s.rd GLB.EPOCH.val) n
  let s := s.report 0x0001 0 (s.rd GLB.EPOCH.val)
  let k := s.ckpt.epochs + 1
  let every := s.rd GLB.JCTL.CKPT_EPOCHS
  let due := s.ckpt.due || !s.ckpt.anyEpoch || (every != 0 && decide (every ≤ k)) || areaChanged old s.live
  { s with ckpt := { s.ckpt with epochs := k, due := due, anyEpoch := true } }

end Sys2Proof.Machine
end

