-- ==== Sys2Proof/Machine/Replay.lean ====
section
/-!
DEFINITION. Checkpoints and replay (R58 to R67), with the MODE fields that writes and replayed entries set (R162, R220, R492).
-/

namespace Sys2Proof.Machine

/-! ## Basic and expert level (R162, R492) -/

/-- The MODE fields after an accepted host write of `k` that reached the bits of `mask` (R162, R220, R339, R391, R492). -/
def State.setModes (s : State) (k mask : Nat) : State :=
  let s := match firstBelow (fun e => inImem e k || inDesc e k || k == GE.ENTRY e || k == GE.CTL e) 16 with
    | some e => s.wr (GE.PROFILE.MODE e) 1
    | none => s
  let s := match s.txLoaded with
    | some i => if decide (FT.word i 0 ≤ k) && decide (k < FT.word i 0 + 16) then s.wr FLOW.TXPROFILE.MODE 1 else s
    | none => s
  let s := if decide (k < 2 ^ 31) && k / 2 ^ 16 == 5 && k != REF.PROFILE then s.wr REF.PROFILE.MODE 1 else s
  match firstBelow (fun p => k == TIME.PTP_CFG p) 2 with
  | some p => if mask &&& 0x10FFFFF0 ≠ 0 then s.wr (TIME.PTP_CFG.MODE p) 1 else s
  | none => s

/-- The words that a journaled write of `v` to `k` put into the open shadow, and the state with the MODE that it set: a LOAD expands its
profile (R161, R220, R339, R391, R492). -/
def State.entryWords (s : State) (k v : Nat) : List (Nat × Word) × State :=
  match firstBelow (fun e => k == GE.PROFILE e) 16, firstBelow (fun p => k == TIME.PTP_CFG p) 2 with
  | some e, _ =>
    if bit v 24 then
      (stockWords e (bits v 7 0) (bits v 16 8)
        ++ [s.shadowFields k [(GE.PROFILE.SIZE e, bits v 16 8), (GE.PROFILE.PROGRAM e, bits v 7 0)]], s.wr (GE.PROFILE.MODE e) 0)
    else ([(k, BitVec.ofNat 32 v)], s.setModes k (2 ^ 32 - 1))
  | none, some p =>
    if bit v 3 then ([(k, ptpProfileWord p v)], s.wr (TIME.PTP_CFG.MODE p) 0)
    else ([(k, BitVec.ofNat 32 v)], s.setModes k (2 ^ 32 - 1))
  | none, none =>
    let w := BitVec.ofNat 32 v
    if k = FLOW.TXPROFILE ∧ FLOW.TXPROFILE.LOAD.ext w = 1 then
      let i := FLOW.TXPROFILE.INDEX.ext w
      (s.txProfileWords (FLOW.TXPROFILE.PROFILE.ext w) i, { s.wr FLOW.TXPROFILE.MODE 0 with txLoaded := some i })
    else if k = REF.PROFILE ∧ REF.PROFILE.LOAD.ext w = 1 then (refProfileWords (v % 4) v, s.wr REF.PROFILE.MODE 0)
    else ([(k, w)], s.setModes k (2 ^ 32 - 1))

/-- The words of an accepted write, put into the open shadow. -/
def State.putEntry (s : State) (k v : Nat) : State :=
  let (ws, s) := s.entryWords k v
  ws.foldl (fun s p => s.putShadow p.1 p.2) s

/-! ## Checkpoints (R58 to R62) -/

/-- Byte `x` of the DMEM memories lies in a parameter region of a configuration (R59, R96). -/
def Cfg.paramByte (c : Cfg) (x : Nat) : Bool :=
  let e := x / 2 ^ 18
  let lead := e % 2 == 1 && bit (Cfg.rd c GE.BRACE.val) (e / 2)
  let home := if lead then e - 1 else e
  let a := if lead then x % 2 ^ 18 + 2 ^ 18 else x % 2 ^ 18
  (Cfg.params c home).any (fun r => decide (r.1 ≤ a) && decide (a < r.1 + r.2))

/-- The configuration that a checkpoint holds: the words with shadowed bits (R59). -/
def cfgOf (live : Store Word) : Store Word := live.filter (fun p => rwsMask p.1 != 0)

/-- A due checkpoint starts after step 3 of B(n), unless one is being written (R58, R59). On a mirroring STANDBY, which allocates no
entry, its marker is the newest entry (R464; DEDUCED, log entry 37). -/
def State.ckptStart (s : State) (n : Nat) : State :=
  if s.ckpt.due && s.ckpt.writing.isNone then
    let s := s.journal .checkpoint 0 (s.rd GLB.EPOCH.val) n
    let img : Checkpoint :=
      { live := cfgOf s.live, shadow := s.shadow, pend := s.pend, params := s.dmem.filter (fun c => Cfg.paramByte s.live c.1),
        commit := s.commit, marker := s.rd GLB.JSEQ.val, sram := s.flag GLB.JCTL.LOC }
    let s := s.wrFlag GLB.CKPTSTAT.BUSY true
    { s with ckpt := { s.ckpt with due := false, epochs := 0, writing := some img } }
  else s

/-- CHECKPOINT_COMPLETE: the image and its CRC are written, and verified when `ok`; it becomes the restore point. A failed image is
written again from the next boundary (R61; DEDUCED, log entry 37). -/
def execCheckpointComplete (ok : Bool) (s : State) : Res :=
  .next (match s.ckpt.writing with
    | some img =>
      let s := s.wrFlag GLB.CKPTSTAT.BUSY false
      if ok then
        let s := if s.flag GLB.CKPTSTAT.VALID then s.wr GLB.CKPTSTAT.SLOT (1 - s.rd GLB.CKPTSTAT.SLOT) else s
        let s := (s.wrFlag GLB.CKPTSTAT.VALID true).wr GLB.CKPTSEQ.val img.marker
        let s := s.fillTo ((s.rd GLB.JSEQ.val + 2 ^ 32 - img.marker) % 2 ^ 32)
        { s with ckpt := { s.ckpt with writing := none, restore := some img, due := s.ckpt.due || decide (7168 ≤ s.rd GLB.JSTAT.FILL) } }
      else { s with ckpt := { s.ckpt with writing := none, due := true } }
    | none => s)

/-- The step 6 recomputation of CKPTNEED (R60). -/
def State.ckptCount (s : State) : State := s.wr GLB.CKPTNEED.val s.ckptNeed

/-! ## Replay (R63 to R66) -/

/-- The shadowed bits of every word of the live copy taken from configuration `c`. -/
def State.restoreLive (s : State) (c : Cfg) : State :=
  ((Store.keys s.live ++ Store.keys c).filter (fun k => rwsMask k != 0)).foldl (fun s k =>
    s.setWord k (mergeBits (s.word k) (Store.get resetWord c k) (rwsMask k))) s

/-- The parameter bytes of configuration `c` taken from `m`. -/
def State.restoreParams (s : State) (c : Cfg) (m : Memory) : State :=
  { s with dmem := m.foldl (fun d p => Memory.setByte d p.1 p.2) (s.dmem.filter (fun p => !Cfg.paramByte c p.1)) }

/-- The restore point: the newest complete checkpoint, or before the first one the configuration after reset, from which every journal
entry follows (R59, R61; DEDUCED, log entry 37). -/
def State.restorePoint (s : State) : Checkpoint :=
  s.ckpt.restore.getD { live := [], shadow := [], pend := [], params := [], commit := none, marker := 0, sram := true }

/-- An APPLIED entry: the pending image is applied to live, and the programs that it changes see DMEM as R154 gives (R63). -/
def State.replayApplied (s : State) : State :=
  let t := s.applyWords s.pend
  { t.programEpochs s.live t.live s.pend with pend := [] }

/-- An entry whose word 1 is `w` concerns this chip: no local block, or a local block of its own side (R464). -/
def State.concerns (s : State) (w : Nat) : Bool := !bit w 27 || bits w 26 26 == s.rd PAIR.CFG.SIDE

/-- The journal entry of sequence `q` is replayed (R63, R464). -/
def State.replayEntry (s : State) (q : Nat) : State :=
  let w1 := s.num (journalKey q 1)
  match w1 / 2 ^ 29 with
  | 0 => if !s.concerns w1 then s else s.putEntry ((if bit w1 28 then 2 ^ 31 else 0) + w1 % 2 ^ 26) (s.num (journalKey q 2))
  | 1 => { s with pend := s.captured, shadow := [] }
  | 2 => s.replayApplied
  | 3 => s.mergeBack
  | 4 => s.mergeBack
  | _ => s

/-- The entries of `n` sequence numbers from `q` on. -/
def State.replayFrom (s : State) (q : Nat) : Nat → State
  | 0 => s
  | n + 1 => State.replayFrom (s.replayEntry (q % 2 ^ 32)) (q + 1) n

/-- The state with its configuration as the restore point and the journal after it give it; the commit in progress keeps what its GO
fixed (R63, R65, R67). -/
def State.replayed (s : State) : State :=
  let r := s.restorePoint
  let c := s.commit
  let s := (s.restoreLive r.live).restoreParams r.live r.params
  let s : State := { s with shadow := r.shadow, pend := r.pend }
  let s := s.replayFrom (r.marker + 1) ((s.rd GLB.JSEQ.val + 2 ^ 32 - r.marker) % 2 ^ 32)
  { s with commit := c }

/-- The block that owns BAR2 offset `o` of a shadowed table, and the engine for GE (R64; DEDUCED, log entry 37). -/
def ownerOf (o : Nat) : Nat × Nat :=
  if 0x2000000 ≤ o then
    (0x0E, if o < 0x2100000 then (o - 0x2000000) / 0x10000 else if o < 0x2104000 then (o - 0x2100000) / 0x400 else (o - 0x2800000) / 2 ^ 18)
  else if o < 0x220000 then (0x0D, 0)
  else if o < 0x221000 then (0x17, 0)
  else if o < 0x341000 then (0x08, 0)
  else if o < 0x350800 then (0x0C, 0)
  else if o < 0x364000 then (0x12, 0)
  else (0x13, 0)

/-- Key `k` belongs to the unit under restart: block `b`, and in GE engine `e`, all of them for 16 (R64). -/
def State.unitKey (s : State) (b e k : Nat) : Bool :=
  let mine := fun x => e == 16 || x == e || (s.braced e && x / 2 == e / 2)
  if k < 2 ^ 31 then
    k / 2 ^ 16 == b &&
      (b != 0x0E || e == 16 || anyBelow (fun x => mine x && (k == GE.CTL x || k == GE.ENTRY x || k == GE.PROFILE x)) 16)
  else
    let (ob, oe) := ownerOf (k - 2 ^ 31)
    ob == b && (b != 0x0E || mine oe)

/-- The entries of a store whose keys satisfy `p` taken from another. -/
def takeKeys (p : Nat → Bool) (mine other : Store Word) : Store Word :=
  (other.filter (fun x => p x.1)).foldl (fun m x => Store.insert m x.1 x.2) (mine.filter (fun x => !p x.1))

/-- Restore and replay of the addresses of one unit; an engine's DMEM outside the parameter regions is zeroed (R64, R510). -/
def State.replayUnit (s : State) (b e : Nat) : State :=
  let t := s.replayed
  let p := s.unitKey b e
  let s := (Store.keys s.live ++ Store.keys t.live).foldl (fun s k =>
    if p k && rwsMask k != 0 then s.setWord k (mergeBits (s.word k) (t.word k) (rwsMask k)) else s) s
  let s : State := { s with shadow := takeKeys p s.shadow t.shadow, pend := takeKeys p s.pend t.pend }
  if b = 0x0E then
    let mine := fun x => e == 16 || x / 2 ^ 18 == e || (s.braced e && x / 2 ^ 18 / 2 == e / 2)
    let params := t.dmem.filter (fun c => mine c.1 && Cfg.paramByte s.live c.1)
    { s with dmem := params.foldl (fun d c => Memory.setByte d c.1 c.2) (s.dmem.filter (fun c => !mine c.1)) }
  else s

end Sys2Proof.Machine
end

