-- ==== Sys2Proof/Machine/Sec.lean ====
section
/-!
DEFINITION. The security block (R519 to R523, R544 to R546): pairing key, attestation and debug opening. Log entry 40 gives the
byte order of the signed strings and what a repeated command does.
-/

namespace Sys2Proof.Machine

/-- The bytes of `n` consecutive words of the configuration, from word `key 0` on (R547). -/
def State.wordBytes (s : State) (key : Nat → Nat) (n : Nat) : List Byte := (List.range n).flatMap (fun i => leBytes (s.num (key i)))

/-- Words `key 0` to `key (n − 1)` take the bytes of a string (R547). -/
def State.putBytes (s : State) (key : Nat → Nat) (bs : List Byte) (n : Nat) : State :=
  s.eachBelow (fun s i => s.setNum (key i) (leWord bs (4 * i))) n

/-- The ASCII bytes of a word of four letters. -/
def ascii4 (a b c d : Nat) : List Byte := [BitVec.ofNat 8 a, BitVec.ofNat 8 b, BitVec.ofNat 8 c, BitVec.ofNat 8 d]

/-- The write of PAIRSALT3 derives the pairing key; the retention store is cleared first (R521, R522). -/
def State.derivePairKey (s : State) : State :=
  let root :=
    match s.fuse.lc, s.fuse.root with
    | 0, _ => List.replicate 32 0
    | _, some r => r
    | _, none => List.replicate 32 0
  let key := Config.pairKey root (s.wordBytes SEC.PAIRSALT 4)
  let s : State := { s with ret := { Retention.reset with key := some key } }
  let s := (s.setNum PAIR.VOTESEQLO 0).setNum PAIR.VOTESEQHI 0
  (s.wr UPD.BOOT.FAILS 0).wrFlag SEC.PAIRSTAT.KEY true

/-! ## Debug opening (R544, R545) -/

/-- An opening is refused, for the reason of R546. -/
def State.openFail (s : State) (i reason : Nat) : State := (s.sqf SEC.HIST.DBGFAIL).report 0x0302 i reason

/-- The lifecycle is PROVISIONED or FIELD. -/
def State.openable (s : State) : Bool := s.fuse.lc == 1 || s.fuse.lc == 2

/-- A write of SEC.DBGCTL.REQ by interface `i`: a nonce, or the refusal that its state already means (R544). -/
def State.dbgRequest (s : State) (i : Nat) : State :=
  if !s.openable then s.openFail i 0
  else if s.flag SEC.DBGLOCK.LOCK then s.openFail i 1
  else
    let s := s.putBytes SEC.CHAL (Config.nonce s.sec.draws) 8
    let s : State := { s with sec := { s.sec with draws := s.sec.draws + 1, nonceAt := some s.clk.now } }
    s.wr SEC.DBGCTL.STATE 1

/-- The nonce is still good: 60 s have not passed. -/
def State.nonceGood (s : State) : Bool :=
  match s.sec.nonceAt with
  | some t => decide (s.clk.now < t + 60 * 10 ^ 9)
  | none => false

/-- SIGVAL is a signature under SIGPUB over SHA-384 of a string. -/
def State.signed (s : State) (msg : List Byte) : Bool :=
  Config.ecdsaVerify (s.wordBytes SEC.SIGPUB 24) (Config.sha384 msg) (s.wordBytes SEC.SIGVAL 24)

/-- SIGPUB is a slot key (R518). -/
def State.slotKey (s : State) : Bool := (s.fuse.slotOf (s.wordBytes SEC.SIGPUB 24)).isSome

/-- Why a SUBMIT is refused, by the order of R546. -/
def State.submitRefusal (s : State) : Option Nat :=
  if !s.openable then some 0
  else if s.flag SEC.DBGLOCK.LOCK then some 1
  else if !s.nonceGood then some 2
  else if !s.slotKey then some 3
  else if !s.signed (s.wordBytes SEC.CHAL 8 ++ leBytes (s.num GLB.ID) ++ ascii4 0x4F 0x50 0x45 0x4E) then some 4
  else if !s.supplyOk then some 5
  else none

/-- An opening that passes: secrets zeroized, memories scrubbed, the lifecycle burnt to OPENED, and a reset (R545). -/
def State.opening (s : State) (i : Nat) : State :=
  let s := (s.wr SEC.DBGCTL.STATE 2).report 0x0301 i s.tick
  s.finishOpening

/-- A write of SEC.DBGCTL.SUBMIT by interface `i`; the nonce serves one SUBMIT (R544). -/
def State.dbgSubmit (s : State) (i : Nat) : State :=
  match s.submitRefusal with
  | none => s.opening i
  | some r =>
    let s : State := { s with sec := { s.sec with nonceAt := none } }
    (s.wr SEC.DBGCTL.STATE 0).openFail i r

/-- A write of `v` to SEC.DBGCTL by interface `i`. -/
def State.dbgWrite (s : State) (i v : Nat) : State :=
  let s := if bit v 0 then s.dbgRequest i else s
  if bit v 1 then s.dbgSubmit i else s

/-- DBG_NONCE_EXPIRE: 60 s after its issue a nonce not submitted expires (R544). -/
def execDbgNonceExpire (s : State) : Res :=
  .next (
    if s.sec.nonceAt.isSome && !s.nonceGood then
      let s : State := { s with sec := { s.sec with nonceAt := none } }
      (s.wr SEC.DBGCTL.STATE 0).openFail 3 2
    else s)

/-! ## Attestation (R520) -/

/-- A write of SEC.ATTCTL.GO. -/
def State.attestGo (s : State) : State :=
  let s : State := { s with sec := { s.sec with attest := true } }
  (s.wrFlag SEC.ATTCTL.DONE false).wrFlag SEC.ATTCTL.ERR false

/-- ATTEST_DONE: the signature is written, or the seed is found absent (R520). -/
def execAttestDone (s : State) : Res :=
  .next (
    if s.sec.attest then
      let header := Config.sha384 (Memory.bytes s.flash.active 0 256)
      let msg := s.wordBytes SEC.ATTNONCE 8 ++ leBytes (s.num GLB.ID) ++ leBytes (s.num SEC.LC) ++ header
      let s : State := { s with sec := { s.sec with attest := false } }
      let s := match s.fuse.seed with
        | some seed => s.putBytes SEC.ATTSIG (Config.attestSign seed (Config.sha384 msg)) 24
        | none => s.wrFlag SEC.ATTCTL.ERR true
      (s.wrFlag SEC.ATTCTL.DONE true).sqf SEC.HIST.ATTEST
    else s)

end Sys2Proof.Machine
end

