-- ==== Sys2Proof/Machine/View.lean ====
section
/-!
DEFINITION. What a host reads (R4, R37, R478 to R484, R558): the address map, and the value of every word of it. A read changes nothing (R484).
-/

namespace Sys2Proof.Machine

/-! ## The address map (R478, R480 to R482) -/

/-- What stands at a host address. A word of the store `live` is named by its key. -/
inductive Place where
  /-- No block, window or area (R480, R482). -/
  | unmapped
  /-- A register of a block by its normal offset, reached normally (0) or by the SET, CLR or TGL alias (1, 2, 3) (R481). -/
  | reg (k side : Nat)
  /-- A word of a shadowed table. -/
  | shadowed (k : Nat)
  /-- A word of DMEM. -/
  | dmem (k : Nat)
  /-- A word of a read-only window that shows live words: the status tables, the event log, the journal. -/
  | status (k : Nat)
  /-- Offset `o` of snapshot bank `q`. -/
  | bank (q o : Nat)
  /-- The word of snapshot bank `q` of a status table. -/
  | statusBank (q k : Nat)
  /-- Offset `o` of the window of kennel `n`. -/
  | kennel (n o : Nat)
  /-- Offset `o` of the DRAM aperture. -/
  | aperture (o : Nat)
  /-- The doorbell of DMA channel `c`. -/
  | doorbell (c : Nat)
  /-- A word of the MSI-X table or of the pending-bit array. -/
  | msix (k : Nat)
deriving DecidableEq, Repr

/-- What stands at offset `o` of BAR2 (R482). -/
def placeBar2 (o : Nat) : Place :=
  if shadowedTable o then .shadowed (bar2 o)
  else if o < 0xE0000 then .status (bar2 o)
  else if o < 0x1E0000 then .statusBank ((o - 0xE0000) / 0x80000) (bar2 (0x60000 + (o - 0xE0000) % 0x80000))
  else if o < 0x240000 then .unmapped
  else if o < 0x280000 then .status (bar2 o)
  else if o < 0x300000 then .statusBank ((o - 0x280000) / 0x40000) (bar2 (0x240000 + (o - 0x280000) % 0x40000))
  else if o < 0x340000 then .kennel ((o - 0x300000) / 0x1000) (o % 0x1000)
  else if 0x341000 ≤ o ∧ o < 0x342000 then .status (bar2 o)
  else if 0x372000 ≤ o ∧ o < 0x373000 then .status (bar2 o)
  else if 0x380000 ≤ o ∧ o < 0x384000 then .status (bar2 o)
  else if 0x1000000 ≤ o ∧ o < 0x10C8000 then .bank ((o - 0x1000000) / 0x64000) ((o - 0x1000000) % 0x64000)
  else if 0x1800000 ≤ o ∧ o < 0x1820000 then .status (bar2 o)
  else if dmemWindow o then .dmem (bar2 o)
  else if 0x3000000 ≤ o ∧ o < 0x4000000 then .aperture (o - 0x3000000)
  else .unmapped

/-- What stands at offset `o` of a BAR: 0 BAR0, 1 BAR2, 2 BAR4 (R478, R480 to R482). -/
def hostPlace (bar o : Nat) : Place :=
  let o := o / 4 * 4
  if bar = 0 then
    if o < 0x180000 then .reg (o / 0x10000 * 0x10000 + o % 0x4000) (o % 0x10000 / 0x4000) else .unmapped
  else if bar = 1 then placeBar2 o
  else if o < 0x8000 ∧ o % 0x1000 = 0 then .doorbell (o / 0x1000)
  else if (0x8000 ≤ o ∧ o < 0x8100) ∨ (0x9000 ≤ o ∧ o < 0x9008) then .msix (2 ^ 32 + o)
  else .unmapped

/-! ## Removed units (R4, R560) -/

/-- The word with key `k` belongs to a removed unit (R560): of an absent engine GE.PROVENn, PROFILEn and DRAMBn too (R164). -/
def State.removedKey (s : State) (k : Nat) : Bool :=
  let no := fun (f : Fld) => !s.flag f
  if k < 2 ^ 31 then
    match k / 0x10000 with
    | 0x0E =>
      if k < 0xE0040 ∨ 0xE0500 ≤ k then false
      else !s.present (if k < 0xE0100 then (k - 0xE0040) / 4 % 16 else (k - 0xE0100) / 0x40)
    | 0x10 => no GLB.UNITCAP.MADI && decide (0x100800 ≤ k) && decide (k < 0x100A00)
    | 0x11 => no GLB.UNITCAP.ASRC
    | 0x12 => no GLB.UNITCAP.DRAMCTL
    | 0x13 => no GLB.UNITCAP.DRAMCTL
    | 0x14 => no GLB.UNITCAP.PAIRLINK
    | _ => false
  else
    let o := k - 2 ^ 31
    if 0x2000000 ≤ o ∧ o < 0x2100000 then !s.present ((o - 0x2000000) / 0x10000)
    else if 0x2100000 ≤ o ∧ o < 0x2104000 then !s.present ((o - 0x2100000) / 0x400)
    else if dmemWindow o then !s.present ((o - 0x2800000) / 0x40000)
    else if 0x360000 ≤ o ∧ o < 0x373000 then no GLB.UNITCAP.DRAMCTL
    else false

/-- A place belongs to a removed unit. -/
def State.removedPlace (s : State) : Place → Bool
  | .reg k _ | .shadowed k | .dmem k | .status k => s.removedKey k
  | _ => false

/-- What stands at an address, on this part: without DRAM the aperture is unmapped (R483, R560). -/
def State.placeAt (s : State) (bar o : Nat) : Place :=
  match hostPlace bar o with
  | .aperture a => if s.flag GLB.UNITCAP.DRAMCTL then .aperture a else .unmapped
  | p => p

/-! ## Registers that show what stands elsewhere -/

/-- GE.STATn.STATE (R78). -/
def EngState.code : EngState → Nat
  | .off => 0
  | .idle => 1
  | .run => 2
  | .runahead => 3
  | .rsbStall => 4
  | .squashed => 5
  | .parked => 6

/-- HRD.LANESTAT.STATE (R247). -/
def LaneState.code : LaneState → Nat
  | .open_ => 0
  | .falling => 1
  | .silent => 2
  | .holding => 3
  | .rising => 4
  | .gated => 5
  | .startwait => 6
  | .stopwait => 7

/-- GE.STATn (R78, R99, R101). -/
def State.engineStat (s : State) (e : Nat) : Nat :=
  if s.follower e then (s.engine (e - 1)).st.code + 2 ^ 4
  else
    let x := s.engine e
    let held := if x.ahead then x.rsb.length else 0
    x.st.code + (if x.st = .runahead ∨ x.st = .rsbStall then 2 ^ 3 else 0) + held % 2 ^ 9 * 2 ^ 8 + x.ticketsHeld % 2 ^ 5 * 2 ^ 17

/-- HRD.LANESTAT for the lane that HRD.LANESEL selects: as its latest evaluation left it (R267). -/
def State.laneStat (s : State) : Nat :=
  let (st, pos, hold) := (s.lane (s.rd HRD.LANESEL.BUFID) (s.rd HRD.LANESEL.CH)).shown
  min pos (2 ^ 16 - 1) * 2 ^ 16 + hold % 2 ^ 8 * 2 ^ 8 + st.code

/-- KNL.Kn_STAT (R228, R237, R244, R572). -/
def State.kennelStat (s : State) (n : Nat) : Nat :=
  let lv := (s.kennel n).level
  lv % 2 ^ 20 + (if s.rd (KNL.K_WM.MARK n) ≤ lv then 2 ^ 30 else 0) + (if lv = s.kennelSize n then 2 ^ 31 else 0)

/-- The value of a register that shows what stands elsewhere in the state. -/
def State.computed (s : State) (k : Nat) : Option Nat :=
  if k = TIME.NS then some s.ns
  else if k = EVT.BLKPEND then some (s.blkPend 24 0)
  else if k = EVT.VECPEND then some s.vectors
  else if k = FLOW.PATCHSTAT then some (Cfg.patches s.live).length
  else if k = HRD.LANESTAT then some s.laneStat
  else if k = HIF.IFSTAT then some ((HIF.IFSTAT.SPIADDR.put (s.word k) (s.rd GLB.STRAPS.SPI_ADDR)).toNat)
  else if k = PAIR.STAT then some ((PAIR.STAT.TXB.put (s.word k) (if s.flag PAIR.CFG.EN && s.sendsPath 1 then 1 else 0)).toNat)
  else if k / 0x10000 = 0x0E ∧ 0xE0100 ≤ k ∧ k < 0xE0500 ∧ k % 0x40 = 8 then some (s.engineStat ((k - 0xE0100) / 0x40))
  else if k / 0x10000 = 0x0E ∧ 0xE0100 ≤ k ∧ k < 0xE0500 ∧ k % 0x40 = 12 then
    let e := (k - 0xE0100) / 0x40
    some (if s.follower e then 0 else (s.engine e).pc % 2 ^ 14 * 4)
  else if k / 0x10000 = 0x16 ∧ 0x160100 ≤ k ∧ k < 0x161100 ∧ k % 0x40 = 4 then some (s.kennelStat ((k - 0x160100) / 0x40))
  else if k / 0x10000 = 0x16 ∧ 0x160100 ≤ k ∧ k < 0x161100 ∧ k % 0x40 = 8 then
    some (((s.kennel ((k - 0x160100) / 0x40)).pkts.filter (fun p => !p.bad)).length % 2 ^ 20)
  else match firstBelow (fun n => k == EIM.SLC_STAT n) 4 with
    | some n => some ((EIM.SLC_STAT.LEVEL n).put (s.word k) ((Config.freeWord s.free).toNat % 2)).toNat
    | none => none

/-- The keys of the registers whose value is computed. -/
def State.computedKeys (s : State) : List Nat :=
  [TIME.NS, EVT.BLKPEND, EVT.VECPEND, FLOW.PATCHSTAT, HRD.LANESTAT, HIF.IFSTAT, PAIR.STAT]
    ++ ((List.range 16).flatMap (fun e => [GE.STAT e, GE.PC e])) ++ ((List.range 64).flatMap (fun n => [KNL.K_STAT n, KNL.K_PKTS n]))
    ++ ((List.range 4).map EIM.SLC_STAT) ++ (Cfg.buffers s.live).map (fun b => MS.word b 4)

/-- The bits of a register that a read returns: neither WP nor RSV (R7). -/
def RegFam.readMask (f : RegFam) : Nat := f.rw ||| f.rws ||| f.wo1 ||| f.sq ||| f.ro

/-! ## Values -/

/-- A live word of BAR0 or of a status table as a read returns it (R4, R37, R265, R480). -/
def State.view (s : State) (k : Nat) : Word :=
  if s.removedKey k then 0
  else if k < 2 ^ 31 then
    match regAt k with
    | none => 0
    | some (f, _) => BitVec.ofNat 32 ((s.computed k).getD (s.num k)) &&& BitVec.ofNat 32 f.readMask
  else if 0x80240000 ≤ k ∧ k < 0x80280000 ∧ k % 32 = 16 then
    let b := (k - 0x80240000) / 32
    BitVec.ofNat 32 (if s.bufEn b then s.lanesNotOpen b else 0)
  else s.word k

/-- The word at offset `o` of snapshot bank `q` (R53). A bank that has not been filled reads 0. The bank shows 0 for a register of a removed unit, as
a read of it would (R4; DESIGN CHOICE, log entry 59). -/
def State.bankWord (s : State) (q o : Nat) : Nat :=
  let b := if q = 0 then s.snap.bank0 else s.snap.bank1
  if o = 0 then b.head
  else if o < 0xFC then (b.header[o / 4]?).getD 0
  else if o = 0xFC then b.tail
  else if o < 0x4000 ∨ b.tail = 0 then 0
  else
    let k := (o / 0x4000 - 1) * 0x10000 + o % 0x4000
    if s.removedKey k then 0
    else
      match regAt k with
      | some (f, _) => (Store.get resetWord b.image k &&& BitVec.ofNat 32 f.readMask).toNat
      | none => 0

/-- The byte address in DRAM of offset `o` of the aperture (R483). -/
def State.apertureAddr (s : State) (o : Nat) : Nat := s.rd HIF.DRAPBASE.BASE * 2 ^ 24 + o

/-- Byte address `a` of DRAM lies within the usable capacity (R431, R483). -/
def State.usable (s : State) (a : Nat) : Bool := decide (a < s.rd DRAM.STAT.USABLE * 4096)

/-- The word that stands at a place. -/
def State.valueAt (s : State) : Place → Nat
  | .unmapped => 0
  | .reg k _ => (s.view k).toNat
  | .shadowed k => if s.removedKey k then 0 else s.num k
  | .dmem k => if s.removedKey k then 0 else Memory.word s.dmem (k - 2 ^ 31 - 0x2800000)
  | .status k => (s.view k).toNat
  | .bank q o => s.bankWord q o
  | .statusBank q k =>
    let b := if q = 0 then s.snap.bank0 else s.snap.bank1
    if b.tail = 0 then 0 else (Store.get resetWord b.image k).toNat
  | .kennel n o => s.kennelHead n o
  | .aperture o => if s.usable (s.apertureAddr o) then Memory.word s.dram (s.apertureAddr o) else 0
  | .doorbell c => s.num (doorbellKey c)
  | .msix k => s.num k

/-- Before the end of boot, only GLB 0x0000 to 0x0014 and HIF respond, and SEC and UPD in a HOST boot, a halt and recovery mode (R558); the
whole device from then on. -/
def State.responds (s : State) (bar o : Nat) : Bool :=
  let b := o / 0x10000
  s.stage == 7 ||
    (bar == 0 && !s.boot.held &&
      ((b == 0 && decide (o % 0x4000 ≤ 0x14)) || b == 1 || ((b == 3 || b == 4) && (s.stage == 4 || s.stage == 5 || s.stage == 8))))

/-- Interface `i` (0 PCIe, 1 SPI) is enabled by the HOST_IF strap (R553). -/
def State.ifaceOn (s : State) (i : Nat) : Bool := i == 1 || !s.flag GLB.STRAPS.HOST_IF

/-- The identity that the PCIe endpoint shows: Vendor ID, Device ID and class code (R478). -/
def State.pcieIdentity (s : State) : Nat × Nat × Nat := (0x1D9A, s.rd GLB.ID.PART, 0x0401)

/-- A configuration request is completed with Configuration Request Retry Status: ROM has not finished step 1 (R558). -/
def State.configRetry (s : State) : Bool := s.boot.held || s.openingLeft

/-- The word that a host reads at an aligned address (R37, R484, R558). -/
def State.hostRead (s : State) (bar o : Nat) : Nat := if s.responds bar o then s.valueAt (s.placeAt bar o) else 0

/-- Byte enables that name one contiguous run of bytes of a dword. -/
def oneRun (be : Nat) : Bool := [1, 2, 3, 4, 6, 7, 8, 12, 14, 15].contains be

/-- The byte lanes of word `w` that byte enables `be` name; the others show 0. -/
def byteLanes (be w : Nat) : Nat := ((List.range 4).map (fun j => if bit be j then w / 2 ^ (8 * j) % 2 ^ 8 * 2 ^ (8 * j) else 0)).sum

/-- A read TLP from offset `o` of a BAR, with the byte enables of its dwords: whole dwords, or one run of bytes of one dword; any other read is
completed as an Unsupported Request, without data (R484, R485). -/
def State.readTlp (s : State) (bar o : Nat) (bes : List Nat) : Option (List Nat) :=
  match bes with
  | [be] => if oneRun be then some [byteLanes be (s.hostRead bar (o / 4 * 4))] else none
  | _ => if bes.all (· == 15) then some ((List.range bes.length).map (fun j => s.hostRead bar (o / 4 * 4 + 4 * j))) else none

end Sys2Proof.Machine
end

