-- ==== Sys2Proof/Machine/Snapshot.lean ====
section
/-!
DEFINITION. Snapshots (R49 to R53, R195, R265): a request, the latch at step 2 of a boundary, and the end of the fill.
-/

namespace Sys2Proof.Machine

/-- A write of GLB.SNAPREQ.REQ: served at the next boundary, or, while a bank is being filled, at the first boundary after that
(R49, R50). -/
def State.snapshotRequest (s : State) : State :=
  let s : State := { s with snap := { s.snap with requested := true } }
  if s.snap.filling.isSome then s.wrFlag GLB.SNAPSTAT.PENDING true else s

/-- The header of the bank of snapshot `q`, latched at B(n) (R53). -/
def State.bankHeader (s : State) (q n : Nat) : List Nat :=
  let b := fun (x : Bool) (i : Nat) => if x then 2 ^ i else 0
  [q, n, s.ns, s.seconds % 2 ^ 32, s.seconds / 2 ^ 32, s.nsec, s.rd GLB.EPOCH.val, s.rd GLB.JSEQ.val,
   b (s.flag GLB.TICKSTAT.COARSE) 0 + b (s.flag GLB.TICKSTAT.FREERUN) 1 + b (s.flag GLB.JSTAT.REPLAY) 2]

/-- Key `k` is latched by a snapshot: a normal register, or a word of the Flow Status or Muzzle Status Table (R53, R195, R265, R481). -/
def latched (k : Nat) : Bool :=
  if k < 2 ^ 31 then decide (k < 0x180000) && decide (k % 0x10000 < 0x4000)
  else (decide (bar2 0x60000 ≤ k) && decide (k < bar2 0xE0000)) || (decide (bar2 0x240000 ≤ k) && decide (k < bar2 0x280000))

/-- The latched words: what each would have read as (R53). -/
def State.bankImage (s : State) : Store Word :=
  ((s.live.filter (fun p => latched p.1)).map (·.1) ++ s.computedKeys).foldl (fun m k => Store.set resetWord m k (s.view k)) []

/-- Bank `q` mod 2 is given. -/
def State.setBank (s : State) (q : Nat) (b : Bank) : State :=
  if q % 2 = 0 then { s with snap := { s.snap with bank0 := b } } else { s with snap := { s.snap with bank1 := b } }

/-- Snapshot s is latched at step 2 of B(n): the bank's header is written first (R49, R52). -/
def State.latch (s : State) (n : Nat) : State :=
  let q := (s.rd GLB.SNAPSEQ.val + 1) % 2 ^ 32
  let h := s.bankHeader q n
  let s : State := { s with snap := { s.snap with requested := false, filling := some { head := q, tail := q, header := h, image := s.bankImage } } }
  let s := s.setBank q { (if q % 2 = 0 then s.snap.bank0 else s.snap.bank1) with head := q, header := h }
  (s.wrFlag GLB.SNAPSTAT.BUSY true).wrFlag GLB.SNAPSTAT.PENDING false

/-- Step 2 of B(n). `snap` tells that the epoch applied at this boundary asked for a snapshot (R49 to R51, R67). -/
def State.snapshotBoundary (s : State) (n : Nat) (snap : Bool) : State :=
  if !s.snap.requested && !snap then s
  else if s.snap.filling.isSome || s.recovering then s.snapshotRequest
  else s.latch n

/-- SNAPSHOT_FILL_DONE: the bank's images and then its tail word are written (R50, R52). -/
def execSnapshotFillDone (s : State) : Res :=
  .next (match s.snap.filling with
    | some b =>
      let s := s.setBank b.head b
      let s : State := { s with snap := { s.snap with filling := none } }
      (s.wr GLB.SNAPSEQ.val b.head).wrFlag GLB.SNAPSTAT.BUSY false
    | none => s)

end Sys2Proof.Machine
end

