-- ==== Sys2Proof/Machine/Upd.lean ====
section
/-!
DEFINITION. Update and staging (R528 to R543, R549). A FUSE image and the image of a HOST boot stand apart from the flash, and the BOOT
record does not know of them (R542, R553). Log entry 39 gives what is read into the rules.
-/

namespace Sys2Proof.Machine

/-! ## Claims and refusals (R527 to R530) -/

/-- The claim source, UPD.STAT.SRC: 0 none, 1 PCIe, 2 SPI, 3 chain. -/
def State.claim (s : State) : Nat := s.rd UPD.STAT.SRC

/-- UPD.STAT.STAGE. -/
def State.staging (s : State) : Nat := s.rd UPD.STAT.STAGE

/-- A HOST boot waits for its image, or recovery mode runs: only RUNTIME images, and steps 3 to 6 of R528 are skipped (R539, R553). -/
def State.limitedUpd (s : State) : Bool := s.stage == 4 || s.stage == 5

/-- A refusal with a code, of a source by its event code (R527, R528, R546). -/
def State.updRefuse (s : State) (src code : Nat) : State :=
  ((s.wr UPD.STAT.REFUSAL code).sqf UPD.HIST.REFUSED).report 0x0401 src code

/-- The claim ends: the registers show the BOOT record again, and what has been received is forgotten. -/
def State.unclaim (s : State) : State :=
  let s : State := { s with upd := { Upd.reset with polledAt := s.upd.polledAt, waiting := s.upd.waiting, partner := s.upd.partner } }
  let s := (s.wr UPD.STAT.SRC 0).showRecord
  s

/-- The claim ends with STAGING, or the image that stood apart, INVALID. -/
def State.unclaimInvalid (s : State) : State := s.unclaim.wr UPD.STAT.STAGE 4

/-- The header in the block buffer. -/
def State.bufHeader (s : State) : List Byte := s.wordBytes UPD.BUF 128

/-- Any herd is RUNNING (R261). -/
def State.anyHerd (s : State) : Bool := anyBelow (fun k => s.herdState k == 2) 16

/-- Steps 2 to 7 of R528 on a header from a source: 0 where the offer passes, else the code. -/
def State.updJudge (s : State) (src : Nat) (h : List Byte) : Nat :=
  let c := s.fuse.headerCheck h (decide (src < 2) && !s.limitedUpd)
  if c ≠ 0 then c
  else if !s.limitedUpd && s.flag UPD.CTL.SHOW then 1
  else if !s.limitedUpd && s.flag UPD.CTL.OWNER then 2
  else if !s.limitedUpd && s.anyHerd && (!s.flag UPD.CTL.LIVE_STAGE || hdrFuse h) then 4
  else if !s.limitedUpd && s.role == 1 && s.paired &&
      (match s.upd.partner with | some (_, hash) => hash != slice h 0x18 48 | none => true) then 5
  else if !s.supplyOk then 3
  else 0

/-- An offer that passes claims STAGING: the BOOT record says INVALID before the first sector is erased, unless the image stands apart
(R529, R542). -/
def State.claimStaging (s : State) (src : Nat) (h : List Byte) : State :=
  let apart := hdrFuse h || s.stage == 4
  let s := if apart then s else
    let s : State := { s with flash := { s.flash.write { s.flash.record with stage := 4 } with staging := [] } }
    s.showRecord
  let s : State := { s with upd := { Upd.reset with polledAt := s.upd.polledAt, partner := s.upd.partner, fuse := hdrFuse h, host := s.stage == 4 && !hdrFuse h } }
  ((s.wr UPD.STAT.SRC (src + 1)).wr UPD.STAT.STAGE 1).wr UPD.STAT.NEXTBLK 0

/-- The header `h` that the host offers through interface `i` was judged with code `c`: refused, or its block is taken (R528, R532). -/
def State.judged (s : State) (i c : Nat) (h : List Byte) : State :=
  if c ≠ 0 then s.updRefuse i c
  else
    let s := s.claimStaging i h
    { s with upd := { s.upd with busy := some 0 } }

/-- A header offered by the host through interface `i` is judged from step 2 on (R528, R532). -/
def State.judgeHost (s : State) (i : Nat) : State := s.judged i (s.updJudge i s.bufHeader) s.bufHeader

/-- A host offer that waited for a chain claim is judged once the claim has ended (R536). -/
def State.judgeWaiting (s : State) : State :=
  match s.upd.waiting with
  | some i =>
    let s : State := { s with upd := { s.upd with waiting := none } }
    s.judgeHost i
  | none => s

/-- A host offer by interface `i` (R528 step 1, R536). -/
def State.hostOffer (s : State) (i : Nat) : State :=
  match s.claim with
  | 0 => s.judgeHost i
  | 3 => if s.upd.waiting.isSome then s.updRefuse i 6 else { s with upd := { s.upd with waiting := some i } }
  | _ => s.updRefuse i 6

/-- The claim ends in a refusal (R529, R530). -/
def State.refuseClaim (s : State) (code : Nat) : State :=
  let src := s.claim - 1
  (s.updRefuse src code).unclaimInvalid.judgeWaiting

/-! ## The host's commands (R532) -/

/-- Interface `i` holds the claim and its image is being received. -/
def State.receiving (s : State) (i : Nat) : Bool := s.claim == i + 1 && s.staging == 1

/-- A write of BLOCK with INDEX `n` and OPEN `first`. -/
def State.hcmdBlock (s : State) (i n : Nat) (first : Bool) : State :=
  if first && n == 0 then s.hostOffer i
  else if s.receiving i && s.upd.busy.isNone && s.rd UPD.STAT.NEXTBLK == n then { s with upd := { s.upd with busy := some n } }
  else s.accErr i UPD.HCMD .refused

/-- A write of END. -/
def State.hcmdEnd (s : State) (i : Nat) : State :=
  if s.receiving i && s.upd.busy.isNone then s.wr UPD.STAT.STAGE 2 else s.accErr i UPD.HCMD .refused

/-- A write of ABORT. -/
def State.hcmdAbort (s : State) (i : Nat) : State :=
  if s.upd.waiting = some i then { s with upd := { s.upd with waiting := none } }
  else if s.claim == i + 1 && (s.staging == 1 || s.staging == 2) then s.unclaimInvalid
  else s.accErr i UPD.HCMD .refused

/-- A write of `v` to UPD.HCMD by interface `i`, INDEX having been taken. -/
def State.hcmdWrite (s : State) (i v : Nat) : State :=
  let s := if bit v 30 then s.hcmdBlock i (bits v 12 0) (bit v 31) else s
  let s := if bit v 29 then s.hcmdEnd i else s
  if bit v 28 then s.hcmdAbort i else s

/-! ## Blocks (R529 to R532) -/

/-- The bytes of an image: its header and body. -/
def imageLen (m : Memory) : Nat := 512 + hdrLen (Memory.bytes m 0 512)

/-- Block `b` of an image as it stands is written, up to the image's end. -/
def putBlock (m : Memory) (b : Nat) (bytes : List Byte) : Memory :=
  if b = 0 then
    let m := Memory.setBytes m 0 (bytes.take 512)
    Memory.setBytes m 512 ((bytes.drop 512).take (imageLen m - 512))
  else Memory.setBytes m (4096 * b) (bytes.take (imageLen m - 4096 * b))

/-- Every chunk of block `b` of a chain image has come, of `n` bytes in all. -/
def State.blockHere (s : State) (b n : Nat) : Bool :=
  allBelow (fun j => decide (n ≤ 1024 * (4 * b + j)) || NatSet.has s.upd.got (4 * b + j)) 4

/-- The next block of a chain image starts to be written once it is here; after the last, verification starts (R529, R533). -/
def State.chainNext (s : State) : State :=
  let b := s.rd UPD.STAT.NEXTBLK
  let n := imageLen s.upd.image
  if s.claim = 3 ∧ s.staging = 1 ∧ s.upd.busy = none then
    (if n ≤ 4096 * b then s.wr UPD.STAT.STAGE 2
     else if s.blockHere b n then { s with upd := { s.upd with busy := some b } }
     else s)
  else s

/-- A chain claim is preempted at a block boundary (R536). -/
def State.preempt (s : State) : State :=
  let n := s.rd UPD.STAT.NEXTBLK
  let s := (s.sqf UPD.HIST.PREEMPTED).report 0x0403 2 n
  s.unclaimInvalid.judgeWaiting

/-- STAGING_BLOCK_WRITTEN: the block being consumed is written; `ok` tells that it reads back (R529, R530, R532). -/
def execStagingBlockWritten (ok : Bool) (s : State) : Res :=
  .next (
    match s.upd.busy with
    | none => s
    | some b =>
      if !s.upd.fuse && !s.upd.host && !s.supplyOk then s.refuseClaim 3
      else
        let bytes := if s.claim = 3 then Memory.bytes s.upd.image (4096 * b) 4096 else s.wordBytes UPD.BUF 1024
        let s : State :=
          if s.upd.fuse || s.upd.host then { s with upd := { s.upd with image := putBlock s.upd.image b bytes } }
          else { s with flash := { s.flash with staging := putBlock s.flash.staging b bytes } }
        let s : State := { s with upd := { s.upd with busy := none, bad := s.upd.bad || !ok } }
        let s := s.wr UPD.STAT.NEXTBLK (b + 1)
        if s.claim = 3 ∧ s.upd.waiting.isSome then s.preempt else s.chainNext)

/-! ## Verification and burns (R529, R540 to R543) -/

/-- The image being verified. -/
def State.candidate (s : State) : Memory := if s.upd.fuse || s.upd.host then s.upd.image else s.flash.staging

/-- STAGING is VERIFIED: the record, the version, the event, and the report to a partner (R464, R529). -/
def State.staged (s : State) : State :=
  let src := s.claim - 1
  let h := Memory.bytes s.flash.staging 0 512
  let s : State := { s with flash := s.flash.write { s.flash.record with stage := 3 } }
  let s := (s.unclaim.sqf UPD.HIST.STAGED).report 0x0402 src (hdrVersion h)
  let s := if s.paired then s.emit (.pair 4 (hdrVersion h :: (slice h 0x18 48).map BitVec.toNat)) else s
  s.judgeWaiting

/-- The burn of the records `rs` starts, where the checks of them passed and the supplies are good (R542). -/
def State.burnRecords (s : State) (ok : Bool) (rs : List (Nat × Nat × List Byte)) : State :=
  if !ok then s.refuseClaim 0x1A
  else if s.supplyOk then
    let s : State := { s with upd := { s.upd with burn := rs } }
    s.wr UPD.STAT.STAGE 6
  else s

/-- The decrypted body of a FUSE image, where its tag was good: its records are all checked before a burn starts (R542). -/
def State.burnBody (s : State) (body : Option (List Byte)) : State :=
  match body with
  | none => s.refuseClaim 0x19
  | some body =>
    let rs := fuseRecords body (body.length / 64)
    s.burnRecords (rs.all (s.fuse.recordGood (hdrKey (Memory.bytes s.upd.image 0 512)) rs)) rs

/-- The burn of a verified FUSE image (R542). -/
def State.burnStart (s : State) : State := s.burnBody (s.fuse.plain s.upd.image)

/-- STAGING_VERIFY_DONE: the full verification ends (R529, R542, R553). -/
def execStagingVerifyDone (s : State) : Res :=
  .next (
    if s.staging ≠ 2 then s
    else if s.upd.bad then s.refuseClaim 0x18
    else
      let c := s.fuse.verify s.candidate s.upd.fuse
      if c ≠ 0 then s.refuseClaim c
      else if s.upd.fuse then s.burnStart
      else if s.upd.host then
        let v := hdrVersion (Memory.bytes s.upd.image 0 512)
        s.unclaim.handOver v
      else s.staged)

/-- FUSE_BURN_DONE: the burn ends, and the device resets (R542); entry to RETIRED clears the retention store (R545). -/
def execFuseBurnDone (s : State) : Res :=
  .next (
    if s.staging = 6 then
      let src := s.claim - 1
      let s : State := { s with fuse := s.fuse.burnAll s.upd.burn, upd := { s.upd with burn := [] } }
      let s : State := if s.fuse.lc = 4 then { s with ret := Retention.reset } else s
      (s.report 0x0405 src s.fuse.lcWord).holdReset
    else s)

/-- A write of UPD.ARB.ADVANCE by interface `i` (R540). -/
def State.rollbackAdvance (s : State) (i : Nat) : State :=
  if s.supplyOk then
    let n := leWord (Memory.bytes s.flash.active 0 512) 0x10 % 2 ^ 7
    let s : State := { s with fuse := { s.fuse with rollback := max s.fuse.rollback (min n 64) } }
    s.setNum SEC.LC s.fuse.lcWord
  else s.updRefuse i 3

/-! ## The owner's lock (R549) -/

/-- OWNER_LOCK and LOCKSEQ are written to the BOOT record. -/
def State.setOwner (s : State) (owner : Bool) (seq : Nat) : State :=
  let s : State := { s with flash := s.flash.write { s.flash.record with owner := owner, lockseq := seq } }
  (s.wrFlag UPD.CTL.OWNER owner).wr UPD.LOCKSEQ.val seq

/-- A write of OWNERSET. -/
def State.ownerSet (s : State) : State := s.setOwner true (s.rd UPD.LOCKSEQ.val)

/-- A write of UNLOCK by interface `i`. -/
def State.unlock (s : State) (i : Nat) : State :=
  let seq := s.rd UPD.LOCKSEQ.val
  if s.slotKey && s.signed (ascii4 0x55 0x4E 0x4C 0x4B ++ leBytes (s.num GLB.ID) ++ leBytes seq) then
    s.setOwner false ((seq + 1) % 2 ^ 32)
  else s.updRefuse i 2

/-- A write of `v` to UPD.CTL by interface `i`, its RW fields having been taken. -/
def State.updCtlWrite (s : State) (i v : Nat) : State :=
  let s := if bit v 28 then s.ownerSet else s
  if bit v 27 then s.unlock i else s

/-! ## The chain (R533 to R535) -/

/-- RUNTIME firmware runs. -/
def State.runtime (s : State) : Bool := s.stage == 6 || s.stage == 7

/-- Where chain messages go: port, address and UDP port. -/
def State.chainTo (s : State) : List Nat := [s.rd UPD.CHAINCFG.PORTSEL, s.rd UPD.UPSTREAM.val, s.rd UPD.CHAINCFG.UDPPORT]

/-- The big-endian bytes of a word. -/
def be4 (w : Nat) : List Nat := [w / 2 ^ 24 % 256, w / 2 ^ 16 % 256, w / 2 ^ 8 % 256, w % 256]

/-- A chain message of a TYPE about chunk `k`, with what follows it (R534). -/
def chainBytes (type k : Nat) (rest : List Nat) : List Nat := be4 0x46455443 ++ [type, 0, 0, 0] ++ be4 k ++ rest

/-- A reply with data, or the reply that nothing is ready, of no data (R534, R535). -/
def chainReply (type k : Nat) (data : List Byte) : List Nat := chainBytes type k (be4 data.length ++ data.map BitVec.toNat)

/-- CHAIN_POLL: a HEAD request, every POLL seconds (R533). -/
def execChainPoll (s : State) : Res :=
  .next (
    if s.runtime && s.flag UPD.CHAINCFG.EN && decide (s.upd.polledAt + s.rd UPD.POLL.val * 10 ^ 9 ≤ s.clk.now) then
      let s : State := { s with upd := { s.upd with polledAt := s.clk.now } }
      s.emit (.chain s.chainTo (chainBytes 1 0 []))
    else s)

/-- A chunk is asked for. -/
def State.askChunk (s : State) (k fails : Nat) : State :=
  let s : State := { s with upd := { s.upd with asked := Store.insert s.upd.asked k (fails, s.clk.now) } }
  s.emit (.chain s.chainTo (chainBytes 2 k []))

/-- Requests go out until 8 are outstanding or every chunk of `n` bytes has been asked for. -/
def State.askChunks (s : State) (n : Nat) : Nat → State
  | 0 => s
  | m + 1 =>
    let s := State.askChunks s n m
    if s.upd.asked.length < 8 ∧ s.upd.next * 1024 < n then
      let t := s.askChunk s.upd.next 0
      { t with upd := { t.upd with next := t.upd.next + 1 } }
    else s

/-- CHAIN_HEAD_REPLY: the header of the neighbour's image, offered where its VERSION is greater than both versions held (R533, R536). -/
def execChainHeadReply (header : List Nat) (s : State) : Res :=
  let h : List Byte := header.map (BitVec.ofNat 8)
  .next (
    if s.runtime && s.flag UPD.CHAINCFG.EN && decide (s.rd UPD.ACTVER.val < hdrVersion h) && decide (s.rd UPD.STGVER.val < hdrVersion h) then
      if s.claim ≠ 0 then s.updRefuse 2 6
      else
        let c := s.updJudge 2 h
        if c ≠ 0 then s.updRefuse 2 c
        else
          let s := s.claimStaging 2 h
          let s : State := { s with upd := { s.upd with image := Memory.setBytes [] 0 (h.take 512) } }
          s.askChunks (512 + hdrLen h) 8
    else s)

/-- CHAIN_DATA_REPLY: chunk `k` comes (R533, R534). -/
def execChainDataReply (k : Nat) (data : List Nat) (s : State) : Res :=
  .next (
    if s.claim = 3 ∧ s.staging = 1 ∧ (Store.find s.upd.asked k).isSome then
      let bytes : List Byte := (data.take 1024).map (BitVec.ofNat 8)
      let n := imageLen s.upd.image
      let u := s.upd
      let s : State := { s with upd := { u with image := Memory.setBytes u.image (1024 * k) bytes, got := NatSet.add u.got k, asked := Store.erase u.asked k } }
      (s.askChunks n 1).chainNext
    else s)

/-- CHAIN_CHUNK_TIMEOUT: chunk `k` has had no reply for 20 ms (R533). -/
def execChainChunkTimeout (k : Nat) (s : State) : Res :=
  .next (
    match Store.find s.upd.asked k with
    | some (fails, t) =>
      if t + 2 * 10 ^ 7 ≤ s.clk.now then
        if fails + 1 < 8 then s.askChunk k (fails + 1)
        else ((s.sqf UPD.HIST.FETCHFAIL).report 0x0404 2 k).unclaimInvalid.judgeWaiting
      else s
    | none => s)

/-- CHAIN_REQUEST: the downstream neighbour asks for the header, or for chunk `k` (R534, R535). -/
def execChainRequest (head : Bool) (k : Nat) (s : State) : Res :=
  .next (
    if !s.runtime then s
    else
      let st := s.flash.record.stage
      let m := s.flash.staging
      if st = 3 ∨ st = 5 then
        s.emit (.chain [] (if head then chainReply 3 0 (Memory.bytes m 0 512)
          else chainReply 3 k (Memory.bytes m (1024 * k) (min 1024 (imageLen m - 1024 * k)))))
      else s.emit (.chain [] (chainReply 4 (if head then 0 else k) [])))

/-- PARTNER_STAGING_REPORT: the partner reports a verified STAGING, with its version and BODYHASH (R464, R528). -/
def execPartnerStagingReport (version : Nat) (hash : List Nat) (s : State) : Res :=
  .next (if s.paired then { s with upd := { s.upd with partner := some (version, hash.map (BitVec.ofNat 8)) } } else s)

end Sys2Proof.Machine
end

