-- ==== Sys2Proof/Machine/HostWrite.lean ====
section
/-!
DEFINITION. A host write (R7, R33, R478 to R492, R600): one path for every dword that a PCIe write or an SPI frame carries, whichever register or
window it names. Log entry 43 gives what is read into the rules.
-/

namespace Sys2Proof.Machine

/-! ## Records of writes that are not taken (R5, R491, R561) -/

/-- A write to a removed unit, at host address `addr` as a key (R5, R561). -/
def State.absentAccess (s : State) (i addr : Nat) : State :=
  ((s.inc HIF.ABSENTCNT.val).sqf HIF.HIST.ABSENT).report 0x0103 i (hostAddr addr)

/-- A repeated write of a WO1 register (R491). -/
def State.lockViol (s : State) (i addr : Nat) : State :=
  let s := s.inc HIF.LOCKCNT.val
  let s := if s.flag HIF.HIST.LOCK_VIOL then s else s.setNum HIF.LOCKADDR (hostAddr addr)
  (s.sqf HIF.HIST.LOCK_VIOL).report 0x0102 i (hostAddr addr)

/-! ## Fields by their access codes (R7, R489 to R491) -/

/-- Word `w` after a write of `v` to the bits of `mask`, by side: 0 direct, 1 SET, 2 CLR, 3 TGL (R489). -/
def sideWrite (side : Nat) (w v : Word) (mask : Nat) : Word :=
  let m := BitVec.ofNat 32 mask
  match side with
  | 0 => mergeBits w v mask
  | 1 => w ||| (v &&& m)
  | 2 => w &&& ~~~(v &&& m)
  | _ => w ^^^ (v &&& m)

/-- A write of `v` to the SQ register `k` (R490). A write to an IPENDb that leaves its vector raised sends that vector again (R508). -/
def State.sqWrite (s : State) (k : Nat) (v : Word) : State :=
  let w := s.word k
  let s := if w.toNat / 2 ^ 24 = v.toNat / 2 ^ 24 then s.setWord k (w &&& ~~~(v &&& 0xFFFFFF#32))
    else (s.inc HIF.ACK_STALE.val).setNum HIF.ACKADDR (hostAddr k)
  match firstBelow (fun b => k == EVT.IPEND b) 24 with
  | some b =>
    let s := s.interrupts
    let vec := s.rd (EVT.VEC.val b)
    if bit s.vectors vec then s.msix vec else s
  | none => s

/-- A write of `v` to the WO1 bits `mask` of register `k`; the first write of PAIRSALT3 derives the pairing key (R491, R521). -/
def State.wo1Write (s : State) (i k mask : Nat) (v : Word) : State :=
  if NatSet.has s.sec.once k then s.lockViol i k
  else
    let s := s.setWord k (mergeBits (s.word k) v mask)
    let s : State := { s with sec := { s.sec with once := NatSet.add s.sec.once k } }
    if k = SEC.PAIRSALT 3 then s.derivePairKey else s

/-- The RW bits of `k` take word `w`; a value of EVT.RDSEQ below the present one leaves it unchanged (R504). -/
def State.rwWrite (s : State) (k : Nat) (w : Word) : State :=
  if k = EVT.RDSEQ then
    let wr := s.rd EVT.WRSEQ.val
    if (wr + 2 ^ 32 - s.rd EVT.RDSEQ.val) % 2 ^ 32 < (wr + 2 ^ 32 - w.toNat) % 2 ^ 32 then s else s.setWord k w
  else s.setWord k w

/-! ## What units refuse (R239, R350, R377, R379, R499, R504) -/

/-- A unit refuses a write that would leave the RW bits of `k` at `w`; `v` is the value of a direct write, whose WP bits count. -/
def State.unitRefuses (s : State) (k : Nat) (w : Word) (v : Nat) (direct : Bool) : Bool :=
  let go := fun (b : Nat) => direct && bit v b
  if k = EIM.CFG then s.flag EIM.STAT.BUSY || EIM.CFG.MODE.ext w == 3
  else if k = EIM.CTL then go 0 && s.flag EIM.STAT.BUSY
  else if k = UPD.CHAINCFG then UPD.CHAINCFG.PORTSEL.ext w == 3
  else if k = EVT.RDSEQ then decide (1024 < (s.rd EVT.WRSEQ.val + 2 ^ 32 - w.toNat) % 2 ^ 32)
  else if k = SYN.APLL_CTL 0 then go 0
  else if anyBelow (fun c => k == HIF.DMA_CFG c) 8 then
    let n := (HIF.DMA_CFG.LOG2SIZE 0).ext w
    decide (n < 2) || decide (12 < n)
  else match firstBelow (fun n => k == KNL.K_RST n) 64 with
    | some n => go 0 && s.kennelInUse n
    | none => false

/-! ## DMA registers (R494, R497) -/

/-- DMA channel `c`. -/
def State.dmaCh (s : State) (c : Nat) : Dma := Store.get (fun _ => Dma.reset) s.dma c

/-- The state with DMA channel `c` at `x`. -/
def State.setDma (s : State) (c : Nat) (x : Dma) : State := { s with dma := Store.set (fun _ => Dma.reset) s.dma c x }

/-- The number of descriptors in the ring of channel `c`. -/
def State.ringSize (s : State) (c : Nat) : Nat := 2 ^ s.rd (HIF.DMA_CFG.LOG2SIZE c)

/-- Channel `c` has a ready descriptor (R494). -/
def State.dmaReady (s : State) (c : Nat) : Bool := s.rd (HIF.DMA_HEAD.val c) != (s.dmaCh c).ready % s.ringSize c

/-- DMAc_STAT.STATE of a channel that has no error (R494). -/
def State.dmaState (s : State) (c : Nat) : State :=
  let run := !(s.dmaCh c).cur.isEmpty || (s.flag (HIF.DMA_CFG.EN c) && s.dmaReady c)
  s.wr (HIF.DMA_STAT.STATE c) (if run then 1 else 0)

/-- DMAc_CFG has been written, EN having been `was`: EN written 0 and then 1 ends an error (R497). -/
def State.dmaCfg (s : State) (c : Nat) (was : Bool) : State :=
  if s.rd (HIF.DMA_STAT.STATE c) = 2 ∧ ¬(s.flag (HIF.DMA_CFG.EN c) ∧ !was) then s else s.dmaState c

/-- A write of index `v` to the doorbell of channel `c` (R494, R497). -/
def State.doorbell (s : State) (c v : Nat) : State :=
  let s := s.setNum (doorbellKey c) v
  if s.rd (HIF.DMA_STAT.STATE c) = 2 then s
  else (s.setDma c { s.dmaCh c with ready := v % 2 ^ 32 }).dmaState c

/-! ## Other areas -/

/-- A write of `v` to a word of the MSI-X table or of the pending-bit array, which is read-only (R478, R508; PRESUMED, log entry 9). -/
def State.msixWrite (s : State) (k v : Nat) : State :=
  if msixPending ≤ k then s
  else if k % 16 = 12 then
    let n := (k - msixKey 0 0) / 16
    let s := s.setNum k (v % 2)
    if v % 2 = 0 ∧ bit (s.num msixPending) n then (s.setNum msixPending (s.num msixPending - 2 ^ n)).msix n else s
  else s.setNum k v

/-! ## Commands of registers (R7: WP fields) -/

/-- GE.CNTCLR: the counters and the peak cycles of the engines named (R101). -/
def State.clearEngines (s : State) (v : Nat) : State :=
  s.eachBelow (fun s e =>
    if bit v e then ((List.range 8).map (fun j => GE.RASTART e + 4 * j)).foldl (fun (s : State) k => s.setNum k 0) (s.setNum (GE.PEAKCYC e) 0)
    else s) 16

/-- A direct write of `v` to TIME.PGk_CFG, or a change of EN through another side: EN written 0 ends the generator as STOP does (R400; DEDUCED, log entry 43). -/
def State.pgWrite (s : State) (i k v : Nat) (was direct : Bool) : State :=
  let s := if was && !s.flag (TIME.PG_CFG.EN k) then s.pgStop k else s
  if !direct then s
  else
    let s := if bit v 0 then
        let (t, ok) := s.pgArm k
        if ok then t else s.accErr i (TIME.PG_CFG k) .refused
      else s
    if bit v 1 then s.pgStop k else s

/-- What an accepted write to register `k` makes its unit do beyond its fields: `old` is the word before, `v` the value written, and only a
direct write triggers WP fields (R7, R489). -/
def State.act (s : State) (i k v : Nat) (old : Word) (direct : Bool) : State :=
  let go := fun (b : Nat) => direct && bit v b
  match k / 0x10000 with
  | 0x00 =>
    if k = GLB.COMMIT then (if direct then s.commitWrite v else s)
    else if k = GLB.SNAPREQ then (if go 0 then s.snapshotRequest else s)
    else if k = GLB.JCTL ∧ go 16 then { s with ckpt := { s.ckpt with due := true } }
    else s
  | 0x01 => match firstBelow (fun c => k == HIF.DMA_CFG c) 8 with
    | some c => s.dmaCfg c ((HIF.DMA_CFG.EN c).ext old == 1)
    | none => s
  | 0x02 => s.interrupts
  | 0x03 =>
    if k = SEC.DBGCTL then (if direct then s.dbgWrite i v else s)
    else if k = SEC.ATTCTL ∧ go 0 then s.attestGo
    else s
  | 0x04 =>
    if !direct then s
    else if k = UPD.CTL then s.updCtlWrite i v
    else if k = UPD.HCMD then s.hcmdWrite i v
    else if k = UPD.BOOT ∧ bit v 31 ∧ s.stage = 7 then s.bootOk
    else if k = UPD.ARB ∧ bit v 0 then s.rollbackAdvance i
    else s
  | 0x06 =>
    if k = SYN.RAMPCTL then
      let s := if go 0 then s.rampGo else s
      if go 1 then s.rampStop else s
    else match firstBelow (fun x => k == SYN.APLL_CTL x) 4 with
      | some x => if go 0 then s.apllRelock x else s
      | none => s
  | 0x07 =>
    if k = EIM.CFG then { s with eim := { s.eim with stops := [] } }
    else if k = EIM.CTL then
      let s := if go 0 then s.eimArm.1 else s
      if go 1 then s.eimStop else s
    else s
  | 0x08 =>
    if k = TIME.CTL then (if direct then s.timeCtl i v else s)
    else if k = TIME.SRVIN then s.servoHost
    else if k = TIME.LTCTX_CFG then (if go 0 then s.ltcJam else s)
    else match firstBelow (fun p => k == TIME.PG_CFG p) 8 with
      | some p => s.pgWrite i p v ((TIME.PG_CFG.EN p).ext old == 1) direct
      | none => s
  | 0x0D =>
    if k = FLOW.RXCLR ∧ go 31 then s.rxClear
    else if k = FLOW.TXCLR ∧ go 31 then s.txClear
    else if k = FLOW.TXPROFILE ∧ go 30 then s.txProfile i v
    else s
  | 0x0E => if k = GE.CNTCLR ∧ direct then s.clearEngines v else s
  | 0x13 =>
    if k = CUE.VCMD then
      let n := s.rd CUE.VCMD.VOICE
      let s := if go 31 then s.voiceGo n else s
      if go 30 then s.voiceStop n else s
    else if k = CUE.CAPCTL then
      let s := if go 0 then s.capGo else s
      if go 1 then s.capStopped else s
    else s
  | 0x16 => s.kennelReg k (if direct then v else 0) ((KNL.K_WM.MARK 0).ext old)
  | 0x17 => match firstBelow (fun h => k == HRD.H_CMD h) 16 with
    | some h => if direct then s.herdCmd h v else s
    | none => s
  | _ => s

/-- A direct write of `v` to `k` with LOAD set: the profile expands in place of a plain write of the RWS fields (R161, R339, R391, R492). -/
def State.loadAt (s : State) (i k v : Nat) : Option State :=
  if k = REF.PROFILE then (if bit v 16 then some (s.refProfileLoad i v) else none)
  else match firstBelow (fun e => k == GE.PROFILE e) 16, firstBelow (fun p => k == TIME.PTP_CFG p) 2 with
  | some e, _ => if bit v 24 then some (s.geProfile i e v) else none
  | none, some p => if bit v 3 then some (s.ptpProfileLoad i p v) else none
  | none, none => none

/-- The RWS bits `mask` of register `k` take `v` in the open shadow, by side, and the journal the word after the write; a direct LOAD
expands its profile (R33, R36, R54, R55, R489). -/
def State.rwsWrite (s : State) (i k side : Nat) (v : Word) (mask : Nat) : State :=
  match (if side = 0 then s.loadAt i k v.toNat else none) with
  | some t => t
  | none =>
    let w := sideWrite side (s.shadowWord k) v mask
    let (t, ok) := s.shadowWrite i k w (mergeBits (s.word k) w mask).toNat
    if ok then t.setModes k (if side = 0 then 2 ^ 32 - 1 else v.toNat) else t

/-- A write of `v` to register `k`, by side, that HIF has let through: each field acts under its own code (R7, R489, R491). `addr` is the
address written. -/
def State.regWrite (s : State) (i k side addr : Nat) (v : Word) : State :=
  match regAt k with
  | none => s
  | some (f, _) =>
    let old := s.word k
    let direct := side == 0
    let reach := fun (m : Nat) => if direct then m else m &&& v.toNat
    let w := sideWrite side old v f.rw
    if s.unitRefuses k w v.toNat direct then s.accErr i addr .refused
    else
      let s := if reach f.rw = 0 then s else (s.rwWrite k w).setModes k (if direct then 2 ^ 32 - 1 else v.toNat)
      let s := if direct && f.wo1 != 0 then s.wo1Write i k f.wo1 v else s
      let s := if direct && f.sq != 0 then (s.sqWrite k v).setModes k 0 else s
      let s := if reach f.rws = 0 then s else s.rwsWrite i k side v f.rws
      if direct || reach f.rw != 0 then s.act i k v.toNat old direct else s

/-- A write of `v` to a shadowed table word or a parameter word (R33, R54, R149, R162). -/
def State.tableWrite (s : State) (i k : Nat) (v : Word) : State :=
  let (t, ok) := s.shadowWrite i k v v.toNat
  if ok then t.setModes k (2 ^ 32 - 1) else t

/-- The size of a BAR (R478). -/
def barSize (bar : Nat) : Nat := if bar = 0 then 2 ^ 24 else if bar = 1 then 2 ^ 26 else 2 ^ 16

/-- A host address as a key, for what HIF captures (R499). -/
def hostKey (bar o : Nat) : Nat := if bar = 0 then o else if bar = 1 then bar2 o else 2 ^ 32 + o

/-- A whole dword `w` written by interface `i` to the place `p` of a present unit; `addr` is the address written (R54, R241, R458, R480 to R483,
R489). -/
def State.writePlace (s : State) (i addr : Nat) (w : Word) (p : Place) : State :=
  match p with
  | .unmapped => s
  | .reg k side =>
    if s.standby && !localBlock k && !(k == GLB.COMMIT && side == 0 && bit w.toNat 0) then s.accErr i addr .standby
    else s.regWrite i k side addr w
  | .shadowed k => if s.standby then s.accErr i addr .standby else s.tableWrite i k w
  | .dmem k =>
    if s.standby then s.accErr i addr .standby
    else if s.dmemWritable k then s.tableWrite i k w
    else s.accErr i addr .refused
  | .status _ => s.accErr i addr .readonly
  | .bank _ _ => s.accErr i addr .readonly
  | .statusBank _ _ => s.accErr i addr .readonly
  | .kennel n x => s.kennelWindow i n x addr w.toNat
  | .aperture x =>
    if s.usable (s.apertureAddr x) then { s with dram := Memory.setWord s.dram (s.apertureAddr x) w.toNat }
    else s.accErr i addr .refused
  | .doorbell c => s.doorbell c w.toNat
  | .msix k => s.msixWrite k w.toNat

/-- A dword written by interface `i` (0 PCIe, 1 SPI) at offset `o` of a BAR (0 BAR0, 1 BAR2, 2 BAR4), with byte enables `be` (R479, R485, R558,
R600). -/
def State.hostWrite (s : State) (i bar o be v : Nat) : State :=
  let o := o % barSize bar / 4 * 4
  let addr := hostKey bar o
  let p := s.placeAt bar o
  if be % 16 = 0 ∨ !s.responds bar o ∨ !s.ifaceOn i then s
  else if p = .unmapped then s.accErr i addr .unmapped
  else if s.removedPlace p then s.absentAccess i addr
  else if be % 16 ≠ 15 then s.accErr i addr .narrow
  else s.writePlace i addr (BitVec.ofNat 32 v) p

/-- A whole dword written directly to register `k` of BAR0. -/
def State.regCommand (s : State) (i : Iface) (k v : Nat) : State :=
  s.hostWrite (match i with | .pcie => 0 | .spi => 1) 0 k 15 v

end Sys2Proof.Machine
end

