-- ==== Sys2Proof/Machine/EventLog.lean ====
section
/-!
DEFINITION. The event log (R500 to R505, R516): the writing of records, and their consumption by the host.
-/

namespace Sys2Proof.Machine

/-- Records that the host has not consumed (R504). -/
def State.unread (s : State) : Nat := (s.rd EVT.WRSEQ.val + 2 ^ 32 - s.rd EVT.RDSEQ.val) % 2 ^ 32

/-- The log is full. The record that follows a LOG_GAP may use the kept slot (R504, R505; DEDUCED, log entry 45). -/
def State.logFull (s : State) : Bool := decide ((if s.evt.afterGap then 1024 else 1023) ≤ s.unread)

/-- A record is written in the next slot, its four words before WRSEQ advances; at WMARK unread records LOG_WMARK is reported (R500, R503, R516,
R572). -/
def State.record (s : State) (r : Report) : State :=
  let q := s.rd EVT.WRSEQ.val
  let k := q % 1024
  let s := (s.setNum (logKey k 0) (r.code + r.source * 2 ^ 16)).setNum (logKey k 1) r.tick
  let s := (s.setNum (logKey k 2) r.ns).setNum (logKey k 3) r.data
  let s := (s.setNum (EVT.REP k) r.rep).wr EVT.WRSEQ.val (q + 1)
  let s : State := { s with evt := { s.evt with freeAt := s.clk.now + 8 } }
  let m := s.rd EVT.CTL.WMARK
  if m ≠ 0 ∧ s.unread = m then s.report 0x0202 0 m else s

/-- Under OVERWRITE the oldest unread record gives up its slot (R505). -/
def State.overwrite (s : State) : State :=
  let s := s.wr EVT.RDSEQ.val (s.rd EVT.RDSEQ.val + 1)
  (s.inc EVT.OVERWRITTEN.val).sqf EVT.HIST.OVERWRITTEN

/-- Waiting reports are dropped at a full log under KEEP_OLDEST (R505). -/
def State.dropWaiting (s : State) : State :=
  let rs := s.evt.waiting
  rs.foldl State.dropReport { s with evt := { s.evt with waiting := [] } }

/-- LOG_RECORD_WRITE: the log writes the oldest waiting report, or first a LOG_GAP for the reports dropped before it (R503, R505). -/
def execLogRecordWrite (s : State) : Res :=
  .next (match s.evt.waiting with
    | [] => s
    | r :: rest =>
      if s.clk.now < s.evt.freeAt then s
      else if s.logFull && !s.flag EVT.CTL.POLICY then s.dropWaiting
      else
        let s := if s.logFull then s.overwrite else s
        if s.evt.gap ≠ 0 ∧ !s.evt.afterGap then
          let g : Report := { code := 0x0201, source := 0, data := s.evt.gap % 2 ^ 32, tick := s.tick, ns := s.ns, rep := 0, at_ := s.clk.now }
          let s : State := { s with evt := { s.evt with gap := 0, afterGap := true } }
          s.record g
        else
          let s : State := { s with evt := { s.evt with waiting := rest, afterGap := false } }
          s.record r)

/-- LOG_CONSUME: a write of EVT.RDSEQ (R504). -/
def execLogConsume (i : Iface) (v : Nat) (s : State) : Res := .next (s.regCommand i EVT.RDSEQ v)

end Sys2Proof.Machine
end

