-- ==== Sys2Proof/Machine/Join.lean ====
section
/-!
DEFINITION. Mirroring and joining a pair (R463 to R466): the journal entries that a STANDBY receives, and its entry to CONVERGING. Log entry 35
gives what is read into the rules.
-/

namespace Sys2Proof.Machine

/-- A key of configuration that both chips of a pair share. -/
def sharedKey (k : Nat) : Bool := rwsMask k != 0 && !localBlock k

/-- The key that word 1 of a WRITE entry names (R55). -/
def entryKey (w1 : Nat) : Nat := (if bit w1 28 then 2 ^ 31 else 0) + w1 % 2 ^ 26

/-- A write sent to the ACTIVE has returned (R464). -/
def State.returned (s : State) (k v : Nat) : State :=
  s.setPair { s.pair with forwarded := s.pair.forwarded.erase (k, BitVec.ofNat 32 v) }

/-- A mirrored GO, with the tick that the ACTIVE fixed where its packet carries one (R465). -/
def State.mirroredGo (s : State) (w2 w3 : Nat) (fixed : Option Nat) : State :=
  let mode := bits w2 5 4
  let past := mode == 1 && (match fixed with | some f => f != w3 | none => false)
  let c : CommitReq :=
    { mode := mode, target := w3, late := bit w2 6, snap := bit w2 7, past := past, proven := [],
      least := some ((s.tick + s.rd PAIR.CFG.LEAD) % 2 ^ 32), fixed := fixed }
  { s with pend := s.captured, shadow := [], commit := some c }.wr GLB.COMMITSTAT.STATE 1

/-- A mirrored entry is applied where it concerns this chip (R463, R464). An APPLIED entry is the outcome that this chip reaches itself
at the same tick (R465). -/
def State.mirrorApply (s : State) (w1 w2 w3 : Nat) (fixed : Option Nat) : State :=
  match w1 / 2 ^ 29 with
  | 0 => if s.concerns w1 then (s.returned (entryKey w1) w2).putEntry (entryKey w1) w2 else s
  | 1 => s.mirroredGo w2 w3 fixed
  | 3 => if s.commitBusy then ((s.wr GLB.COMMITSTAT.STATE 4).refusal w2 none |>.sqf GLB.COMMITHIST.REFUSED).mergeBack else s
  | 4 => if s.commitBusy then (s.wr GLB.COMMITSTAT.STATE 5).mergeBack else s
  | _ => s

/-- MIRROR_PACKET_RECEIVE: words 0 to 3 of a journal entry of the ACTIVE, and after a GO the applying tick where it is fixed (R463). While
the chip joins, the entry only takes its place: it is replayed at CONVERGING. -/
def execMirrorPacketReceive (ws tag : List Nat) (s : State) : Res :=
  .next (
    if s.role ≠ 2 ∨ !s.paired then s
    else if !s.packetGood ws tag then s.badTag
    else
      let w := fun i => ws.getD i 0
      let s := s.journalAt (w 0) (w 1) (w 2) (w 3)
      if s.partner = 1 then s else s.mirrorApply (w 1) (w 2) (w 3) ws[4]?)

/-! ## CONVERGING (R464, R466) -/

/-- The shared words of a list, as a store. -/
def sharedStore (ws : List (Nat × Nat)) : Store Word :=
  ws.foldl (fun m p => if sharedKey p.1 || isDmem p.1 then Store.insert m p.1 (BitVec.ofNat 32 p.2) else m) []

/-- One entry of the ACTIVE's journal is replayed for a chip that joins: of local blocks only its own writes that wait to return. -/
def State.joinEntry (s : State) (w1 w2 : Nat) : State :=
  match w1 / 2 ^ 29 with
  | 0 =>
    let k := entryKey w1
    if !bit w1 27 then s.putEntry k w2
    else if s.concerns w1 && s.pair.forwarded.contains (k, BitVec.ofNat 32 w2) then (s.returned k w2).putEntry k w2
    else s
  | 1 => { s with pend := s.captured, shadow := [] }
  | 2 => s.replayApplied
  | 3 => s.mergeBack
  | 4 => s.mergeBack
  | _ => s

/-- The entries of a journal from sequence `q` on take their places and are replayed. -/
def State.joinEntries (s : State) (q : Nat) : List (Nat × Nat × Nat) → State
  | [] => s
  | (w1, w2, w3) :: es => State.joinEntries ((s.journalAt (q % 2 ^ 32) w1 w2 w3).joinEntry w1 w2) (q + 1) es

/-- The configuration that a chip has once it has replayed what it received: shared words from the ACTIVE, local blocks its own. -/
def State.joined (s : State) (img : PairImage) : State :=
  let s := s.mergeBack
  let live := sharedStore img.live
  let keep := fun (m : Store Word) => m.filter (fun p => !sharedKey p.1 && !isDmem p.1)
  let t := ((Store.keys s.live ++ Store.keys live).filter sharedKey).foldl (fun s k =>
    s.setWord k (mergeBits (s.word k) (Store.get resetWord live k) (rwsMask k))) s
  let params : Memory := img.params.map (fun p => (p.1, BitVec.ofNat 8 p.2))
  let t := t.restoreParams t.live params
  let t : State := { t with shadow := (keep s.shadow).foldl (fun m p => Store.insert m p.1 p.2) (sharedStore img.shadow), pend := sharedStore img.pend }
  t.joinEntries (img.marker + 1) img.entries

/-- The engines begin the tick anew with the programs just received. -/
def State.restartEngines (s : State) (n : Nat) : State :=
  s.eachBelow (fun s e =>
    let st := (s.engine e).st
    if s.present e && !s.follower e && st != .off && st != .parked then (s.stopEngine e).startProgram e n false else s) 16

/-- The figures that the proof of the image in `s.pend` gives. -/
def State.figures (s : State) : List (Nat × Nat × Nat × Bool) :=
  match s.prove with
  | .inr rs => rs
  | .inl _ => []

/-- PAIR_CONVERGING: at a boundary the STANDBY has received and replayed the ACTIVE's restore point and journal. It makes that configuration
live, starts a checkpoint, and names the boundary of path B (R454, R464, R466). -/
def execPairConverging (img : PairImage) (s : State) : Res :=
  .next (
    if s.role = 2 ∧ s.partner = 1 ∧ s.clk.phase = .work ∧ s.clk.cycle = 0 then
      let n := s.tick
      let t := s.joined img
      let keys := (Store.keys s.live ++ Store.keys t.live).filter (fun k => sharedKey k && !sameBits (s.word k) (t.word k) (rwsMask k))
      let old := s.live
      let s : State := { t with live := old, pend := keys.foldl (fun m k => Store.insert m k (t.word k)) [] }
      let s := s.applyCfg n s.figures
      let go : CommitReq := { mode := 1, target := img.fixed.getD 0, late := true, snap := false, past := false, proven := [], least := none, fixed := img.fixed }
      let s : State := { s with shadow := t.shadow, pend := t.pend, commit := img.fixed.map (fun _ => go) }
      let s := s.wr GLB.COMMITSTAT.STATE (if img.fixed.isSome then 1 else 0)
      let s := s.restartEngines n
      let p := s.pair
      let s := s.setPair { p with converge := some (s.rd PAIR.CONVERGE.TICKS), txb := if p.handed then none else some ((n + 9) % 2 ^ 32) }
      let s : State := { (s.wr PAIR.STAT.PARTNER 2) with ckpt := { s.ckpt with due := true, writing := none } }
      s.ckptStart n
    else s)

end Sys2Proof.Machine
end

