-- ==== Sys2Proof/Machine/Faults.lean ====
section
/-!
DEFINITION. Faults and recovery (R145, R509 to R515): unit restarts, the recovery of the device, and the replay that follows. Log entry 41 gives
what is read into the rules.
-/

namespace Sys2Proof.Machine

/-- The memory that a restart cause concerns (R514). -/
def causeMemory (cause : Nat) : Option Nat :=
  match cause with
  | 1 => some 7
  | 2 => some 9
  | 3 => some 4
  | 4 => some 5
  | 5 => some 6
  | 16 => some 8
  | _ => none

/-- The uncorrectable error behind a restart or a recovery is counted. -/
def State.countCause (s : State) (cause : Nat) : State :=
  match causeMemory cause with
  | some m => s.inc (EVT.MEMUNCORR.val m)
  | none => s

/-- DEVICE_RECOVERY for a cause, unless it becomes FATAL: `crcBad` tells that the restore point fails its CRC (R511, R512). -/
def State.recover (s : State) (cause : Nat) (crcBad : Bool) : State :=
  let again := s.faults.replay.isSome ||
    (match s.faults.lastRecovery with | some t => decide (s.clk.now < t + 10 ^ 10) | none => false)
  if again then s.fatal 4 0
  else if !s.flag GLB.CKPTSTAT.VALID then s.fatal 2 0
  else if crcBad then s.fatal 3 0
  else
    let s : State := { s with faults := { s.faults with replay := some false, restarts := [], lastRecovery := some s.clk.now } }
    s.report 0x0207 0 cause

/-- DEVICE_RECOVERY: a word of the open shadow or of the pending image is uncorrectable (R514). -/
def execDeviceRecovery (crcBad : Bool) (s : State) : Res :=
  .next (if s.ticking then (s.countCause 16).recover 16 crcBad else s)

/-- The unit, as restarts of one unit are counted (R512). -/
def restartUnit (b e : Nat) : Nat := b * 32 + e

/-- The program of an engine under restart stops, and what it wrote for the next frame is invalid (R510). -/
def State.dropEngine (s : State) (e : Nat) : State :=
  let s := s.stopEngine e
  s.setEngine e { s.engine e with okTick := none }

/-- The engines of a unit. -/
def State.unitEngines (s : State) (b e : Nat) : List Nat :=
  if b ≠ 0x0E then []
  else if e = 16 then (List.range engineCount).filter s.present
  else if s.braced e then [e / 2 * 2, e / 2 * 2 + 1] else [e]

/-- A unit goes down: its engines stop, and a restart of FLOW disturbs every receive flow (R510). -/
def State.goDown (s : State) (b e : Nat) : State :=
  let s := (s.unitEngines b e).foldl State.dropEngine s
  if b = 0x0D then
    (Cfg.rxFlows s.live).foldl (fun s i =>
      (((s.rewindEpoch s.live i 0).rewindEpoch s.live i 1).clearRings (s.rd (FT.BUFID i)) s.tick).freshBuffer (s.rd (FT.BUFID i))) s
  else s

/-- The supervisor firmware restarts: the third time within 10 s is FATAL (R512, R515). -/
def State.firmwareRestart (s : State) : State :=
  let past := s.faults.firmware.filter (fun t => decide (s.clk.now < t + 10 ^ 10))
  if 2 ≤ past.length then s.fatal 7 4
  else
    let r : Restart := { block := 4, engine := 16, cause := 7, replayed := false }
    let s : State := { s with faults := { s.faults with firmware := s.clk.now :: past, restarts := s.faults.restarts ++ [r] } }
    s.report 0x0205 4 7

/-- UNIT_RESTART: unit `b`, and of GE engine `e` (16: the block), restarts for a cause 1 to 5 of R514; 7 is the firmware watchdog. A third
restart within 1 s is a recovery of the device (R510, R512). -/
def execUnitRestart (b e cause : Nat) (crcBad : Bool) (s : State) : Res :=
  .next (
    if !s.ticking || s.faults.replay.isSome then s
    else if cause = 7 then (if s.unitDown 4 16 then s else s.firmwareRestart)
    else if cause = 0 ∨ 5 < cause ∨ 23 < b ∨ (e ≠ 16 ∧ (b ≠ 0x0E ∨ 16 < e ∨ !s.present e)) ∨ s.unitDown b e then s
    else
      let s := s.countCause cause
      let unit := restartUnit b (if e < 16 ∧ s.braced e then e / 2 * 2 else e)
      let past := s.faults.history.filter (fun h => decide (s.clk.now < h.2 + 10 ^ 9))
      if 2 ≤ (past.filter (fun h => h.1 == unit)).length then s.recover cause crcBad
      else
        let r : Restart := { block := b, engine := e, cause := cause, replayed := false }
        let s : State := { s with faults := { s.faults with history := (unit, s.clk.now) :: past, restarts := s.faults.restarts ++ [r] } }
        (s.report 0x0205 b (cause + (if e < 16 then e * 2 ^ 8 else 0))).goDown b e)

/-- At a boundary, units that went down in the tick before are restored and replayed (R510). The firmware has nothing to replay (R515). -/
def State.replayUnits (s : State) : State :=
  let rs := s.faults.restarts
  let s := (rs.filter (fun r => !r.replayed && r.cause != 7)).foldl (fun s r => s.replayUnit r.block r.engine) s
  { s with faults := { s.faults with restarts := rs.map (fun r => { r with replayed := true }) } }

/-- At a boundary, a recovery begins its replay: engines stand and the copies in flight are dropped (R66, R511). -/
def State.recoverBoundary (s : State) : State :=
  if s.faults.replay = some false then
    let s : State := { s with faults := { s.faults with replay := some true } }
    let s : State := { (s.dropCopy 0).dropCopy 1 with rxHeld := [] }
    let s := s.wrFlag GLB.JSTAT.REPLAY true
    ((List.range engineCount).filter (fun e => s.present e && (s.engine e).st != .off && (s.engine e).st != .parked)).foldl State.stopEngine s
  else s

/-- Engine `e` starts the program of the tick that has begun, unless it is off, parked, down or a follower, or already runs. -/
def State.startTick (s : State) (e n : Nat) : State :=
  let x := s.engine e
  if s.present e && !s.follower e && x.st != .off && x.st != .parked && !s.engineDown e && !(x.done && x.tick == n && x.st == .idle)
      && x.st != .run then
    s.startProgram e n false
  else s

/-- UNIT_RESTARTED: at a boundary after its replay, the unit resumes (R510). -/
def execUnitRestarted (b e : Nat) (s : State) : Res :=
  .next (
    if s.clk.phase = .work ∧ s.clk.cycle = 0 ∧ s.faults.restarts.any (fun r => r.block == b && r.engine == e && r.replayed) then
      let left := s.faults.restarts.filter (fun r => !(r.block == b && r.engine == e))
      let s : State := { s with faults := { s.faults with restarts := left } }
      let s := s.report 0x0206 b s.tick
      (s.unitEngines b e).foldl (fun s x => s.startTick x s.tick) s
    else s)

/-- REPLAY_DONE: at a boundary the replay of the device ends; `bad` tells that it met an uncorrectable journal entry (R63 to R67, R511). -/
def execReplayDone (bad : Bool) (s : State) : Res :=
  .next (
    if s.recovering ∧ s.clk.phase = .work ∧ s.clk.cycle = 0 then
      if bad then s.fatal 5 0
      else
        let s := s.replayed
        let s : State := { s with faults := { s.faults with replay := none } }
        let s := (s.wrFlag GLB.JSTAT.REPLAY false).sqf GLB.COMMITHIST.RECOVERED
        let s := s.report 0x0002 0 (s.rd GLB.JSEQ.val)
        let s := if s.commit.isSome then s.wr GLB.COMMITSTAT.STATE 1 else s
        s.eachBelow (fun s e => s.startTick e s.tick) 16
    else s)

/-- ILLEGAL_INSN: engine `e` fetches a word that is illegal or, with `imem`, fails its IMEM check (R145). The output frames that become invalid are
those of the program that is stopped: a run-ahead is over for its tick and does not start again in it, and the frames of the program
before it, which has reached ENDT, stand (DEDUCED, log entry 70). The restart that follows a failed check is UNIT_RESTART's. -/
def execIllegalInsn (e : Nat) (imem : Bool) (s : State) : Res :=
  .next (
    if s.executes e && (imem || (Genah.decode (s.fetchWord e)).isNone) then
      let x := s.engine e
      let s := s.stopEngine e
      let s := if x.ahead then s.setEngine e { s.engine e with done := true } else s
      s.report 0x0E06 e x.pc
    else s)

end Sys2Proof.Machine
end

