-- ==== Sys2Proof/Machine/GenahControl.lean ====
section
/-!
DEFINITION. The control instructions of Genah: BR, LOOP, LOOPR, ENDL, CALL, RET, ENDT (R111, R113 to R115).
-/

namespace Sys2Proof.Machine

/-- BR: forward when the condition holds (R111). -/
def execBr (e cond offset : Nat) (s : State) : Res :=
  .next (s.scalar e (.br cond offset) (fun x => if x.condition cond then x.jump 2 (x.pc + offset) else x.next 1))

/-- A loop is entered with a count: its body is skipped at 0, one cycle dearer (R107, R113). -/
def Engine.enterLoop (x : Engine) (d count cycles : Nat) : Engine :=
  if count = 0 then x.jump (cycles + 1) (x.pc + d + 1)
  else { x with loops := { start := x.pc + 1, count := count } :: x.loops }.next cycles

/-- The loop stack of an engine has room (R69). -/
def Engine.loopRoom (x : Engine) (count : Nat) : Bool := count == 0 || decide (x.loops.length < 4)

/-- LOOP (R113). -/
def execLoop (e d count : Nat) (s : State) : Res :=
  if s.issues e (.loop d count) then
    if (s.engine e).loopRoom count then .next (s.setEngine e ((s.engine e).enterLoop d count 1))
    else .fault .stackOverflow
  else .next s

/-- LOOPR: the register count, limited to max; the first clamp of a program run is reported (R113). -/
def execLoopr (e gs d max : Nat) (s : State) : Res :=
  if s.issues e (.loopr gs d max) then
    let x := s.engine e
    let count := min (x.gr gs) max
    if x.loopRoom count then
      let clamp := decide (max < x.gr gs) && !x.clampSeen
      let s := s.setEngine e ({ x with clampSeen := x.clampSeen || clamp }.enterLoop d count 2)
      .next (if clamp then s.report 0x0E04 e x.pc else s)
    else .fault .stackOverflow
  else .next s

/-- ENDL: another pass while the count is not 0, else the loop is left (R113). -/
def execEndl (e : Nat) (s : State) : Res :=
  if s.issues e .endl then
    let x := s.engine e
    match x.loops with
    | [] => .fault .stackUnderflow
    | l :: ls =>
      if l.count - 1 = 0 then .next (s.setEngine e ({ x with loops := ls }.next 1))
      else .next (s.setEngine e ({ x with loops := { l with count := l.count - 1 } :: ls }.jump 1 l.start))
  else .next s

/-- CALL (R114). -/
def execCall (e target : Nat) (s : State) : Res :=
  if s.issues e (.call target) then
    let x := s.engine e
    if x.calls.length < 8 then .next (s.setEngine e ({ x with calls := (x.pc + 1) :: x.calls }.jump 2 target))
    else .fault .stackOverflow
  else .next s

/-- RET (R114). -/
def execRet (e : Nat) (s : State) : Res :=
  if s.issues e .ret then
    let x := s.engine e
    match x.calls with
    | [] => .fault .stackUnderflow
    | p :: ps => .next (s.setEngine e ({ x with calls := ps }.jump 2 p))
  else .next s

/-- ENDT: the program ends at once, its cycles are recorded, and its transactions go on (R76, R115, R123). -/
def execEndt (e : Nat) (s : State) : Res :=
  .next (
    if s.issues e .endt then
      let x := s.engine e
      let cyc := x.cycles + 1
      let s := s.setEngine e
        { x with st := .idle, done := true, cycles := cyc,
                 okTick := if x.ahead then x.okTick else some x.tick,
                 overruns := if x.ahead then x.overruns else 0 }
      let s := s.wr (GE.LASTCYC.CYC e) cyc
      if s.rd (GE.PEAKCYC.CYC e) < cyc % 2 ^ 21 then s.wr (GE.PEAKCYC.CYC e) cyc else s
    else s)

end Sys2Proof.Machine
end

