-- ==== Sys2Proof/Machine/GenahMemory.lean ====
section
/-!
DEFINITION. The memory instructions of Genah: HSET, HADV, VLD, VST, FETCH, WAITF, PUT (R116 to R123, R134 to R138,
R143). The `wait` operand is the number of cycles the instruction waited: for SXM grants (R92), or for a ticket or a
transaction. An instruction whose wait is not over is not due.
-/

namespace Sys2Proof.Machine

/-- HSET: a declared buffer is bound in the direction named, any other binds the null handle and is reported (R72,
R116). -/
def execHset (e h : Nat) (out : Bool) (gs imm13 : Nat) (s : State) : Res :=
  .next (
    if s.issues e (.hset h out gs imm13) then
      let x := s.engine e
      let b := (x.gr gs + imm13) % 8192
      let ok := if out then (s.outputs e).contains b else (s.inputs e).contains b
      let hd : Handle :=
        { buf := if ok then some b else none, out := out, frame := if out then (x.tick + 1) % 2 ^ 32 else x.tick,
          cursor := 0 }
      let s := s.setEngine e ({ x with handles := Store.insert x.handles h hd }.next 4)
      if ok then s else (s.sqf (GE.HIST.HANDLE_FAULT e)).report 0x0E02 e b
    else s)

/-- A handle as an instruction finds it: an unbound one is taken as the null handle (DESIGN CHOICE, log entry 12). -/
def Engine.handleOf (x : Engine) (h : Nat) : Handle :=
  (x.handle h).getD { buf := none, out := false, frame := 0, cursor := 0 }

/-- HADV: the cursor moves or is set, modulo 2^32 (R117). -/
def execHadv (e h : Nat) (set : Bool) (gs : Nat) (simm16 : Int) (s : State) : Res :=
  .next (s.scalar e (.hadv h set gs simm16) (fun x =>
    let hd := x.handleOf h
    let d := wrap32 (Int.ofNat (x.gr gs) + simm16)
    let hd : Handle := { hd with cursor := if set then d else (hd.cursor + d) % 2 ^ 32 }
    { x with handles := Store.insert x.handles h hd }.next 1))

/-- The frame position that lane `i` of an SXM access reaches, none out of frame (R118, R119). -/
def State.lanePos (s : State) (x : Engine) (hd : Handle) (b : Nat) (st : Stride) (i : Nat) : Option Nat :=
  inFrame (s.bufC b) (s.bufS b) (x.laneIndex hd (s.bufC b) st i)

/-- Lane `i` loaded from SXM through handle `hd` (R119, R121). -/
def State.loadLane (s : State) (e v : Nat) (hd : Handle) (st : Stride) (i : Nat) : State :=
  let x := s.engine e
  match hd.buf with
  | none => s.setEngine e (x.setLane v i ⟨0, false⟩)
  | some b =>
    match s.lanePos x hd b st i with
    | none => s.setEngine e (x.setLane v i ⟨0, false⟩)
    | some p =>
      let tag := hd.out || s.inTag e b hd.frame (p / s.bufC b)
      let (w, s) := s.loadSxm e (s.sxmAddr b hd.frame p) tag
      s.setEngine e ((s.engine e).setLane v i ⟨BitVec.ofNat 32 w, tag⟩)

/-- The enabled lanes below `n`, ascending, through `f`. -/
def State.eachEnabled (s : State) (x : Engine) (gm : Nat) (f : State → Nat → State) : Nat → State
  | 0 => s
  | n + 1 => let s := State.eachEnabled s x gm f n; if x.enabled gm n then f s n else s

/-- The enabled lanes below `n`, ascending. -/
def Engine.lanes (x : Engine) (gm n : Nat) : List Nat := (List.range n).filter (x.enabled gm)

/-- The DMEM or FBUF byte offset of lane `i` (R122). -/
def laneOffset (imm10 i : Nat) : Nat := imm10 * 4 + 4 * i

/-- An FBUF range is still to be written by an incomplete FETCH (R138). -/
def Engine.fetching (x : Engine) (addrs : List Nat) : Bool := x.tickets.any (fun t => !t.put && overlap t.fbuf addrs)

/-- An FBUF range is being read by an incomplete PUT (R138). -/
def Engine.putting (x : Engine) (addrs : List Nat) : Bool := x.tickets.any (fun t => t.put && overlap t.fbuf addrs)

/-- An SXM wait that the proof allows for (R93). -/
def waitOk (wait : Nat) : Bool := decide (wait < 160)

/-- VLD (R120 to R122, R138). -/
def execVld (e v : Nat) (src : VAddr) (gm wait : Nat) (s : State) : Res :=
  .next (
    if s.issues e (.vld v src gm) then
      let x := s.engine e
      let n := s.lanesOf e
      match src with
      | .sxm h st =>
        if waitOk wait then
          let s := s.eachEnabled x gm (fun s i => s.loadLane e v (x.handleOf h) st i) n
          let s := s.setEngine e ((s.engine e).next (2 + wait))
          s.add (GE.SXMWAIT.val e) wait
        else s
      | .dmem gb imm =>
        s.setEngine e
          ((x.eachLane (fun y i =>
            if x.enabled gm i then
              y.setLane v i ⟨BitVec.ofNat 32 (s.loadDmem e (s.dmemAddr e (x.gr gb) (laneOffset imm i))), true⟩
            else y) n).next 2)
      | .fbuf gb imm =>
        let at_ := fun i => s.fbufAddr e (x.gr gb) (laneOffset imm i)
        if x.fetching ((x.lanes gm n).map at_) then s
        else
          s.setEngine e
            ((x.eachLane (fun y i =>
              if x.enabled gm i then y.setLane v i ⟨BitVec.ofNat 32 (x.loadFbuf (at_ i)), true⟩ else y) n).next (2 + wait))
    else s)

/-- The cells that a VST to SXM stores: the enabled in-frame lanes, in ascending order (R118 to R120). -/
def State.sxmCells (s : State) (x : Engine) (v : Nat) (hd : Handle) (st : Stride) (gm n : Nat) : List (Nat × Word) :=
  match hd.buf with
  | none => []
  | some b =>
    (x.lanes gm n).filterMap (fun i =>
      (s.lanePos x hd b st i).map (fun p => (s.sxmAddr b hd.frame p, (x.lane v i).val)))

/-- VST: one entry of the RSB during run-ahead, whatever it stores (R118 to R122, R138, R143). -/
def execVst (e v : Nat) (dst : VAddr) (gm wait : Nat) (s : State) : Res :=
  .next (
    if s.issues e (.vst v dst gm) then
      let x := s.engine e
      let n := s.lanesOf e
      match dst with
      | .sxm h st =>
        if waitOk wait then
          let cells := s.sxmCells x v (x.handleOf h) st gm n
          let t := s.effect e (.sxm cells) (fun x => x.next (1 + wait)) (fun s => s.storeSxm cells)
          if (t.engine e).pc = x.pc then t else t.add (GE.SXMWAIT.val e) wait
        else s
      | .dmem gb imm =>
        let cells := (x.lanes gm n).map (fun i => (s.dmemAddr e (x.gr gb) (laneOffset imm i), (x.lane v i).val))
        s.effect e (.dmem cells) (fun x => x.next 1) (fun s => s.storeDmem e cells)
      | .fbuf gb imm =>
        let cells := (x.lanes gm n).map (fun i => (s.fbufAddr e (x.gr gb) (laneOffset imm i), (x.lane v i).val))
        if x.putting (cells.map (·.1)) then s
        else
          s.effect e (.fbuf cells) (fun x => x.next (1 + wait))
            (fun s => s.setEngine e ((s.engine e).storeFbuf cells))
    else s)

/-- The DRAM word addresses of a transfer of `n` words in region `r` from offset `o`, wrapping at its size (R134). -/
def State.regionWords (s : State) (e r o : Nat) (n : Nat) : List Nat :=
  (List.range n).map (fun i => s.regionBase e r + (o / 4 * 4 + 4 * i) % s.regionSize e r)

/-- The FBUF word addresses of a transfer of `n` words from `g` (R134). -/
def State.fbufWords (s : State) (e g : Nat) (n : Nat) : List Nat :=
  (List.range n).map (fun i => s.fbufAddr e g (4 * i))

/-- A FETCH or PUT names an undeclared region: no data, no ticket, a report (R135). -/
def State.regionFault (s : State) (e r : Nat) : State :=
  let s := s.setEngine e ((s.engine e).next 2)
  s.report 0x0E05 e r

/-- A held PUT overlaps a FETCH in DRAM or in its FBUF source (R82, R138). -/
def rsbPutOverlap (d f : List Nat) : List RsbEntry → Bool
  | [] => false
  | .put pd pf :: r => overlap pd d || overlap pf f || rsbPutOverlap d f r
  | _ :: r => rsbPutOverlap d f r

/-- FETCH (R134 to R138). -/
def execFetch (e gf go gx region len wait : Nat) (s : State) : Res :=
  .next (
    if s.issues e (.fetch gf go gx region len) then
      let x := s.engine e
      let r := (region + x.gr gx) % 64
      if s.nReg e ≤ r then s.regionFault e r
      else
        let d := s.regionWords e r (x.gr go % s.regionSize e r) (len + 1)
        let f := s.fbufWords e (x.gr gf) (len + 1)
        if rsbPutOverlap d f x.rsb then s.stallRsb e false
        else if s.ticketCount e ≤ x.ticketsHeld || x.putting f then s
        else
          let t : Ticket := { put := false, seq := x.issued, dram := d, fbuf := f, words := [], held := true }
          s.setEngine e ((x.issue t).next (2 + wait))
    else s)

/-- PUT: held in the RSB during run-ahead, with its FBUF source read at retirement (R82, R134 to R138). One that names an undeclared region
moves nothing: ahead too, it takes no entry of the RSB, and its REGION_FAULT is reported at once (R135, R143; DESIGN CHOICE, log entry 69). -/
def execPut (e gf go gx region len wait : Nat) (s : State) : Res :=
  .next (
    if s.issues e (.put gf go gx region len) then
      let x := s.engine e
      let r := (region + x.gr gx) % 64
      if s.nReg e ≤ r then s.regionFault e r
      else
        let d := s.regionWords e r (x.gr go % s.regionSize e r) (len + 1)
        let f := s.fbufWords e (x.gr gf) (len + 1)
        if !x.ahead && decide (s.ticketCount e ≤ x.ticketsHeld) then s
        else
          s.effect e (.put d f) (fun x => x.next (2 + wait))
            (fun s => let x := s.engine e; s.setEngine e (x.issue (x.putTicket d f)))
    else s)

/-- Every transaction of the engine but the `k` most recently issued has completed (R136). -/
def Engine.settledTo (x : Engine) (k : Nat) : Bool := (x.tickets ++ x.waitPuts).all (fun t => decide (x.issued ≤ t.seq + k))

/-- WAITF k: due once every transaction but the k most recent has completed; on an engine that is not braced a k of 8 or more waits for
nothing (R136). -/
def execWaitf (e k wait : Nat) (s : State) : Res :=
  .next (
    if s.issues e (.waitf k) && ((s.engine e).settledTo k || (!s.braced e && decide (8 ≤ k))) then
      s.setEngine e ((s.engine e).next (1 + wait))
    else s)

end Sys2Proof.Machine
end

