-- ==== Sys2Proof/Machine/GenahScalar.lean ====
section
/-!
DEFINITION. The scalar instructions of Genah: LI, ADD, SUB, AND, OR, XOR, SHL, SHR, SAR, MUL, CMP, LW, SW (R108 to R110,
R112). Each takes effect when engine `e` is about to execute exactly that word, and is not due otherwise.
-/

namespace Sys2Proof.Machine

/-- A scalar result of engine `x`: gd is written, the next word follows. -/
def Engine.result (x : Engine) (gd value cycles : Nat) : Engine := (x.setG gd value).next cycles

/-- LI (R109). -/
def execLi (e gd : Nat) (high : Bool) (imm16 : Nat) (s : State) : Res :=
  .next (s.scalar e (.li gd high imm16) (fun x =>
    x.result gd (if high then imm16 * 2 ^ 16 + x.gr gd % 2 ^ 16 else wrap32 (signedN 16 imm16)) 1))

/-- ADD (R108). -/
def execAdd (e gd gs : Nat) (b : SOperand) (s : State) : Res :=
  .next (s.scalar e (.add gd gs b) (fun x => x.result gd (x.gr gs + x.sSigned b) 1))

/-- SUB (R108). -/
def execSub (e gd gs : Nat) (b : SOperand) (s : State) : Res :=
  .next (s.scalar e (.sub gd gs b) (fun x => x.result gd (x.gr gs + (2 ^ 32 - x.sSigned b)) 1))

/-- AND (R108). -/
def execAnd (e gd gs : Nat) (b : SOperand) (s : State) : Res :=
  .next (s.scalar e (.and gd gs b) (fun x => x.result gd (x.gr gs &&& x.sZero b) 1))

/-- OR (R108). -/
def execOr (e gd gs : Nat) (b : SOperand) (s : State) : Res :=
  .next (s.scalar e (.or gd gs b) (fun x => x.result gd (x.gr gs ||| x.sZero b) 1))

/-- XOR (R108). -/
def execXor (e gd gs : Nat) (b : SOperand) (s : State) : Res :=
  .next (s.scalar e (.xor gd gs b) (fun x => x.result gd (x.gr gs ^^^ x.sZero b) 1))

/-- SHL, a logical shift (R108). -/
def execShl (e gd gs : Nat) (b : SOperand) (s : State) : Res :=
  .next (s.scalar e (.shl gd gs b) (fun x => x.result gd (x.gr gs * 2 ^ x.sCount b) 1))

/-- SHR, a logical shift (R108). -/
def execShr (e gd gs : Nat) (b : SOperand) (s : State) : Res :=
  .next (s.scalar e (.shr gd gs b) (fun x => x.result gd (x.gr gs / 2 ^ x.sCount b) 1))

/-- SAR, an arithmetic shift (R108). -/
def execSar (e gd gs : Nat) (b : SOperand) (s : State) : Res :=
  .next (s.scalar e (.sar gd gs b) (fun x => x.result gd (wrap32 (asr (signed32 (x.gr gs)) (x.sCount b))) 1))

/-- MUL: the low 32 bits of the signed product (R108). -/
def execMul (e gd gs : Nat) (b : SOperand) (s : State) : Res :=
  .next (s.scalar e (.mul gd gs b) (fun x =>
    x.result gd (wrap32 (signed32 (x.gr gs) * signed32 (x.sSigned b))) 2))

/-- CMP: the one instruction that writes the flags (R110). -/
def execCmp (e gs : Nat) (b : SOperand) (s : State) : Res :=
  .next (s.scalar e (.cmp gs b) (fun x => (x.compare (x.gr gs) (x.sSigned b)).next 1))

/-- LW: the DMEM word at g[gb] + simm16, as the engine sees it (R82, R112). -/
def execLw (e gd gb : Nat) (simm16 : Int) (s : State) : Res :=
  .next (s.scalar e (.lw gd gb simm16) (fun x =>
    x.result gd (s.loadDmem e (s.dmemAddr e (x.gr gb) simm16)) 2))

/-- SW: one DMEM word, held during run-ahead (R112, R143). -/
def execSw (e gs gb : Nat) (simm16 : Int) (s : State) : Res :=
  .next (
    if s.issues e (.sw gs gb simm16) then
      let x := s.engine e
      let cells := [(s.dmemAddr e (x.gr gb) simm16, BitVec.ofNat 32 (x.gr gs))]
      s.effect e (.dmem cells) (fun x => x.next 1) (fun s => s.storeDmem e cells)
    else s)

end Sys2Proof.Machine
end

