-- ==== Sys2Proof/Machine/GenahSystem.lean ====
section
/-!
DEFINITION. The status and request instructions of Genah: TKIDX, TSTAT, MUZ, MARK (R139 to R142).
-/

namespace Sys2Proof.Machine

/-- TKIDX (R139). -/
def execTkidx (e gd sel : Nat) (s : State) : Res :=
  .next (s.scalar e (.tkidx gd sel) (fun x =>
    (x.setG gd (match sel with | 0 => x.tick | 1 => s.tickLen | _ => e)).next 1))

/-- The bits of the numbers below `n` that satisfy `p`. -/
def maskOf (p : Nat → Bool) : Nat → Nat
  | 0 => 0
  | n + 1 => maskOf p n + (if p n then 2 ^ n else 0)

/-- TSTAT FRAME of a bound handle: all valid, some valid, the first invalid sample frame (R140). -/
def State.tstatFrame (s : State) (e b : Nat) (hd : Handle) : Nat :=
  let ok := fun i => if hd.out then s.isValid b hd.frame i else s.inTag e b hd.frame i
  let n := s.bufS b
  (if allBelow ok n then 1 else 0) + (if anyBelow ok n then 2 else 0)
    + 2 ^ 16 * (match firstBelow (fun i => !ok i) n with | some i => i | none => 0xFFFF)

/-- The first channel that lane 0 of a handle names: cursor mod C, the cursor signed (R140, R141). -/
def State.firstChannel (s : State) (b : Nat) (hd : Handle) : Nat :=
  (signed32 hd.cursor % Int.ofNat (s.bufC b)).toNat

/-- TSTAT MUZZLE of a bound handle: the lanes that are not fully open (R140, R247). -/
def State.tstatMuzzle (s : State) (b : Nat) (hd : Handle) (n : Nat) : Nat :=
  let c0 := s.firstChannel b hd
  maskOf (fun i => decide (c0 + i < s.bufC b) && (s.lane b (c0 + i)).settled.st != .open_) n

/-- The value that TSTAT reads (R140). -/
def State.tstat (s : State) (e : Nat) (x : Engine) (hv mode : Nat) : Nat :=
  let hd := x.handleOf hv
  match mode with
  | 2 => maskOf (fun i => (x.lane hv i).tag) (s.lanesOf e)
  | 3 => x.sat
  | 6 => hd.cursor
  | _ =>
    match hd.buf with
    | none => 0
    | some b =>
      match mode with
      | 0 => s.tstatFrame e b hd
      | 1 => s.tstatMuzzle b hd (s.lanesOf e)
      | 4 => s.bufC b
      | _ => s.bufS b

/-- TSTAT (R140). -/
def execTstat (e gd hv mode : Nat) (s : State) : Res :=
  .next (s.scalar e (.tstat gd hv mode) (fun x => (x.setG gd (s.tstat e x hv mode)).next 2))

/-- The lanes that MUZ names: none through an IN or null handle (R141). -/
def State.muzLanes (s : State) (e : Nat) (x : Engine) (h gm : Nat) : List (Nat × Nat) :=
  let hd := x.handleOf h
  match hd.buf with
  | none => []
  | some b =>
    if hd.out then
      ((x.lanes gm (s.lanesOf e)).map (fun i => (b, s.firstChannel b hd + i))).filter (fun p => decide (p.2 < s.bufC b))
    else []

/-- MUZ: its lanes count invalid in the evaluation of the frame the program writes (R141, R143). -/
def execMuz (e h gm : Nat) (s : State) : Res :=
  .next (
    if s.issues e (.muz h gm) then
      let x := s.engine e
      let lanes := s.muzLanes e x h gm
      s.effect e (.muz lanes) (fun x => x.next 2)
        (fun s => { s with marks := lanes.map (fun p => { buf := p.1, ch := p.2, frame := (x.tick + 1) % 2 ^ 32 }) ++ s.marks })
    else s)

/-- MARK: a program event, held during run-ahead (R142, R143). -/
def execMark (e gs imm16 : Nat) (s : State) : Res :=
  .next (
    if s.issues e (.mark gs imm16) then
      let d := imm16 * 2 ^ 16 + (s.engine e).gr gs % 2 ^ 16
      s.effect e (.mark d) (fun x => x.next 2) (fun s => s.report 0x0E07 e d)
    else s)

end Sys2Proof.Machine
end

