-- ==== Sys2Proof/Machine/HostDma.lean ====
section
/-!
DEFINITION. Host DMA (R493 to R497, R561). A descriptor comes with the command that first acts on it, as the channel read it from the ring. Log
entry 46 gives what is read into the rules.
-/

namespace Sys2Proof.Machine

/-- A descriptor (R493). -/
structure Descriptor where
  host : Nat
  space : Nat
  toHost : Bool
  irq : Bool
  kennel : Nat
  addr : Nat
  len : Nat
deriving DecidableEq, Repr

/-- The descriptor that eight words spell. -/
def descriptorOf (ws : List Nat) : Descriptor :=
  let w := fun i => ws.getD i 0 % 2 ^ 32
  { host := w 0 + w 1 * 2 ^ 32, space := bits (w 2) 31 30, toHost := bit (w 2) 29, irq := bit (w 2) 28, kennel := bits (w 2) 5 0,
    addr := w 3 / 4 * 4, len := w 4 % 2 ^ 25 / 4 * 4 }

/-- Channel `c` is at work on a descriptor, or may begin the next, of words `desc` (R494, R497). -/
def State.dmaWork (s : State) (c : Nat) (desc : List Nat) : Option (List Nat) :=
  let x := s.dmaCh c
  if 8 ≤ c ∨ s.boot.held ∨ !s.ifaceOn 0 ∨ s.rd (HIF.DMA_STAT.STATE c) = 2 then none
  else if !x.cur.isEmpty then some x.cur
  else if s.flag (HIF.DMA_CFG.EN c) ∧ s.dmaReady c then some (desc.take 8)
  else none

/-- The state with the binding of kennel `n` set or ended (R241, R496). -/
def State.bindKennel (s : State) (n : Nat) (b : Bool) : State :=
  s.setKennel n { s.kennel n with bound := b }

/-- A descriptor of channel `c` completes with `status` after `n` bytes: words 6 and 7, HEAD, and the vector (R494, R497, R498). -/
def State.dmaDone (s : State) (c : Nat) (d : Descriptor) (status n : Nat) : State :=
  let head := s.rd (HIF.DMA_HEAD.val c)
  let ring := s.rd (HIF.DMA_RINGHI.val c) * 2 ^ 32 + s.rd (HIF.DMA_RINGLO.val c) * 32
  let s := if d.space = 1 then s.bindKennel d.kennel false else s
  let s := s.emit (.host (ring + head * 32 + 24) [n % 2 ^ 25, 2 ^ 31 + status])
  let s := s.wr (HIF.DMA_HEAD.val c) ((head + 1) % s.ringSize c)
  let s := (s.inc (HIF.DMA_DONE.val c)).wr (HIF.DMA_STAT.STATUS c) status
  let s := s.setDma c { s.dmaCh c with cur := [], moved := 0 }
  let s := if status = 0 then s.dmaState c
    else ((s.wr (HIF.DMA_STAT.STATE c) 2).sqf HIF.HIST.DMA_ERR).report 0x0105 (2 + c) (status + head * 2 ^ 8)
  if d.irq then s.msix (s.rd (HIF.DMA_CFG.VEC c)) else s

/-- `n` consecutive word addresses from `a`. -/
def wordAddrs (a n : Nat) : List Nat := (List.range n).map (fun j => a + 4 * j)

/-- A DRAM descriptor completes (R437, R495, R497): `data` are words that came from the host, `bad` the places of uncorrectable words, `err` a
completion error of the host. -/
def State.dmaDram (s : State) (c : Nat) (d : Descriptor) (data bad : List Nat) (err : Bool) : State :=
  if !s.flag GLB.UNITCAP.DRAMCTL then s.dmaDone c d 2 0
  else if s.rd DRAM.STAT.USABLE * 4096 < d.addr + d.len then s.dmaDone c d 1 0
  else if d.toHost then
    let as := wordAddrs d.addr (d.len / 4)
    let bad := if s.flag DRAM.CFG.ECC then (bad.filter (· < d.len / 4)).eraseDups else []
    let ws := as.zipIdx.map (fun p => if bad.contains p.2 then 0 else Memory.word s.dram p.1)
    let s := bad.foldl (fun (s : State) j => s.dramUncorr 4 ((d.addr + 4 * j) / 4096)) s
    if err then s.dmaDone c d 7 0
    else (s.emit (.host d.host ws)).dmaDone c d (if bad.isEmpty then 0 else 6) d.len
  else
    let n := if err then min data.length (d.len / 4) else d.len / 4
    let s := s.storeDram ((wordAddrs d.addr n).zipIdx.map (fun p => (p.1, data.getD p.2 0)))
    s.dmaDone c d (if err then 7 else 0) (n * 4)

/-- The windows that SPACE 2 may read: base and size of each (R495). -/
def readWindows : List (Nat × Nat) :=
  [(0x60000, 0x80000), (0xE0000, 0x100000), (0x240000, 0x40000), (0x280000, 0x80000), (0x341000, 0x1000), (0x372000, 0x1000), (0x380000, 0x4000),
   (0x1000000, 0xC8000), (0x1800000, 0x20000)]

/-- A descriptor that reads a BAR2 window completes (R495, R497, R561). -/
def State.dmaWindow (s : State) (c : Nat) (d : Descriptor) (err : Bool) : State :=
  if !d.toHost then s.dmaDone c d 2 0
  else if !readWindows.any (fun w => decide (w.1 ≤ d.addr) && decide (d.addr + d.len ≤ w.1 + w.2)) || s.removedKey (bar2 d.addr) then s.dmaDone c d 1 0
  else if err then s.dmaDone c d 7 0
  else (s.emit (.host d.host ((wordAddrs d.addr (d.len / 4)).map (s.hostRead 1)))).dmaDone c d 0 d.len

/-- The words of a 64-bit word, low half first. -/
def halves (w : Nat) : List Nat := [w % 2 ^ 32, w / 2 ^ 32]

/-- Whole packets are popped while the next fits in `room` bytes (R496). -/
def packetsIn (room : Nat) : List KPacket → List KPacket
  | [] => []
  | p :: ps => if 8 * p.words.length ≤ room then p :: packetsIn (room - 8 * p.words.length) ps else []

/-- A descriptor that pops a kennel completes (R496, R497). -/
def State.dmaPop (s : State) (c : Nat) (d : Descriptor) (err : Bool) : State :=
  if !hostPops d.kennel then s.dmaDone c d 3 0
  else
    let k := s.kennel d.kennel
    let ps := packetsIn d.len k.pkts
    if err then s.dmaDone c d 7 0
    else if ps.isEmpty && !k.pkts.isEmpty then s.dmaDone c d 5 0
    else
      let ws := ps.flatMap (fun p => p.words.flatMap halves)
      let s := s.setKennel d.kennel { k with pkts := k.pkts.drop ps.length }
      (s.emit (.host d.host ws)).dmaDone c d 0 (ws.length * 4)

/-- The next packet of a push breaks R242, of which `data` are the words of the buffer that remain and `room` the bytes. -/
def packetBad (data : List Nat) (room : Nat) : Bool :=
  let len := headerLen (data.headD 0)
  len == 0 || decide (9216 < len) || decide (room < 8 * packetWords len)

/-- DMA_DESCRIPTOR_DONE: a descriptor of channel `c` completes (R494 to R497). A push into a kennel completes once its packets are in, or at one
that breaks R242; `data` is then what remains of the buffer. -/
def execDmaDescriptorDone (c : Nat) (desc data bad : List Nat) (err : Bool) (s : State) : Res :=
  .next (match s.dmaWork c desc with
    | none => s
    | some ws =>
      let d := descriptorOf ws
      if d.len = 0 then s.dmaDone c d 0 0
      else match d.space with
      | 0 => s.dmaDram c d data bad err
      | 1 =>
        if d.toHost then s.dmaPop c d err
        else if !hostPushes d.kennel then s.dmaDone c d 3 0
        else
          let moved := (s.dmaCh c).moved
          if d.len ≤ moved then s.dmaDone c d 0 moved
          else if err then s.dmaDone c d 7 moved
          else if packetBad data (d.len - moved) then s.dmaDone c d 4 moved
          else s
      | 2 => s.dmaWindow c d err
      | _ => s.dmaDone c d 2 0)

/-- DMA_KENNEL_PUSH: a packet of channel `c`'s buffer, as 64-bit words, is pushed once the kennel has room for all of it (R496). -/
def execDmaKennelPush (c : Nat) (desc packet : List Nat) (s : State) : Res :=
  .next (match s.dmaWork c desc with
    | none => s
    | some ws =>
      let d := descriptorOf ws
      let x := s.dmaCh c
      let len := headerLen (packet.headD 0)
      if d.space = 1 ∧ !d.toHost ∧ hostPushes d.kennel ∧ 0 < len ∧ len ≤ 9216 ∧ packet.length = packetWords len
          ∧ x.moved + 8 * packet.length ≤ d.len ∧ s.kennelRoom d.kennel packet.length then
        let s := (s.setDma c { x with cur := ws, moved := x.moved + 8 * packet.length }).bindKennel d.kennel true
        (s.pushPacket d.kennel (packet.map (· % 2 ^ 64)) false none).1.dmaState c
      else s)

/-- DMA_DOORBELL: a write of index `v` to the doorbell of channel `c` (R494). -/
def execDmaDoorbell (c v : Nat) (s : State) : Res := .next (if c < 8 then s.hostWrite 0 2 (c * 0x1000) 15 v else s)

end Sys2Proof.Machine
end

