-- ==== Sys2Proof/Machine/HostRows.lean ====
section
/-!
DEFINITION. The host's commands: one row per register write that has a row of its own (opcode table), each through the one path of a host write.
An operand `v` is the value written; the row's command bit is set in it whatever the operand says.
-/

namespace Sys2Proof.Machine

/-- A dword written through interface `i` at an offset of a BAR. -/
def State.ifaceWrite (s : State) (i : Iface) (bar o be v : Nat) : State :=
  s.hostWrite (match i with | .pcie => 0 | .spi => 1) bar o be v

/-- A value without bit `b`. -/
def clearBit (v b : Nat) : Nat := if bit v b then v - 2 ^ b else v

/-! ## GLB (R34, R44, R49, R58) -/

/-- COMMIT_GO: a write of GLB.COMMIT with GO set (R34, R597). -/
def execCommitGo (i : Iface) (v : Nat) (s : State) : Res := .next (s.regCommand i GLB.COMMIT (v ||| 1))

/-- COMMIT_CANCEL: a write of GLB.COMMIT with CANCEL set and GO clear (R44). -/
def execCommitCancel (i : Iface) (v : Nat) (s : State) : Res := .next (s.regCommand i GLB.COMMIT (clearBit v 0 ||| 2))

/-- SNAPSHOT_REQUEST: a write of GLB.SNAPREQ.REQ (R49). -/
def execSnapshotRequest (i : Iface) (s : State) : Res := .next (s.regCommand i GLB.SNAPREQ 1)

/-- CKPT_NOW: a write of GLB.JCTL with CKPT_NOW set (R58). -/
def execCkptNow (i : Iface) (v : Nat) (s : State) : Res := .next (s.regCommand i GLB.JCTL (v ||| 2 ^ 16))

/-! ## GE and FLOW (R101, R161, R196, R220, R221) -/

/-- ENGINE_COUNTER_CLEAR: a write of GE.CNTCLR (R101). -/
def execEngineCounterClear (i : Iface) (v : Nat) (s : State) : Res := .next (s.regCommand i GE.CNTCLR v)

/-- GE_PROFILE_LOAD: a write of GE.PROFILEe with LOAD set (R161). -/
def execGeProfileLoad (i : Iface) (e v : Nat) (s : State) : Res :=
  .next (if e < 16 then s.regCommand i (GE.PROFILE e) (v ||| 2 ^ 24) else s)

/-- RX_COUNTER_CLEAR: a write of FLOW.RXCLR with GO set (R196). -/
def execRxCounterClear (i : Iface) (v : Nat) (s : State) : Res := .next (s.regCommand i FLOW.RXCLR (v ||| 2 ^ 31))

/-- TX_COUNTER_CLEAR: a write of FLOW.TXCLR with GO set (R221). -/
def execTxCounterClear (i : Iface) (v : Nat) (s : State) : Res := .next (s.regCommand i FLOW.TXCLR (v ||| 2 ^ 31))

/-- TX_PROFILE_LOAD: a write of FLOW.TXPROFILE with LOAD set (R220). -/
def execTxProfileLoad (i : Iface) (v : Nat) (s : State) : Res := .next (s.regCommand i FLOW.TXPROFILE (v ||| 2 ^ 30))

/-! ## Kennels (R238 to R242) -/

/-- KENNEL_RESET: a write of Kk_RST.RST (R238, R239). -/
def execKennelReset (i : Iface) (k : Nat) (s : State) : Res := .next (if k < 64 then s.regCommand i (KNL.K_RST k) 1 else s)

/-- The BAR2 offset of offset `o` of the window of kennel `k` (R241). -/
def kennelOffset (k o : Nat) : Nat := 0x300000 + k * 0x1000 + o

/-- KENNEL_PIO_PUSH: writes to 0x800 and 0x804 of the window of kennel `k` (R241). -/
def execKennelPioPush (i : Iface) (k lo hi : Nat) (s : State) : Res :=
  .next (if k < 64 then (s.ifaceWrite i 1 (kennelOffset k 0x800) 15 lo).ifaceWrite i 1 (kennelOffset k 0x804) 15 hi else s)

/-- KENNEL_PIO_PUSHLAST: writes to 0x808 and 0x80C (R241, R242). -/
def execKennelPioPushlast (i : Iface) (k lo hi : Nat) (s : State) : Res :=
  .next (if k < 64 then (s.ifaceWrite i 1 (kennelOffset k 0x808) 15 lo).ifaceWrite i 1 (kennelOffset k 0x80C) 15 hi else s)

/-- KENNEL_PIO_POP: a write of `v` to 0x810 (R241). -/
def execKennelPioPop (i : Iface) (k v : Nat) (s : State) : Res :=
  .next (if k < 64 then s.ifaceWrite i 1 (kennelOffset k 0x810) 15 v else s)

/-! ## Herds (R260, R262) -/

/-- HERD_ARM: a write of Hk_CMD.ARM (R260). -/
def execHerdArm (i : Iface) (k : Nat) (s : State) : Res := .next (if k < 16 then s.regCommand i (HRD.H_CMD k) 1 else s)

/-- HERD_GO: a write of Hk_CMD.GO (R260). -/
def execHerdGo (i : Iface) (k : Nat) (s : State) : Res := .next (if k < 16 then s.regCommand i (HRD.H_CMD k) 4 else s)

/-- HERD_STOP: a write of Hk_CMD.STOP (R262). -/
def execHerdStop (i : Iface) (k : Nat) (s : State) : Res := .next (if k < 16 then s.regCommand i (HRD.H_CMD k) 2 else s)

/-! ## REF, SYN and EIM (R339, R350, R360, R377, R379) -/

/-- REF_PROFILE_LOAD: a write of REF.PROFILE with LOAD set (R339). -/
def execRefProfileLoad (i : Iface) (v : Nat) (s : State) : Res := .next (s.regCommand i REF.PROFILE (v ||| 2 ^ 16))

/-- APLL_RELOCK: a write of SYN.APLLx_CTL.RELOCK (R350). -/
def execApllRelock (i : Iface) (x : Nat) (s : State) : Res := .next (if x < 4 then s.regCommand i (SYN.APLL_CTL x) 1 else s)

/-- RAMP_GO: a write of SYN.RAMPCTL with GO set (R360). -/
def execRampGo (i : Iface) (v : Nat) (s : State) : Res := .next (s.regCommand i SYN.RAMPCTL (v ||| 1))

/-- RAMP_STOP: a write of SYN.RAMPCTL with STOP set and GO clear (R360). -/
def execRampStop (i : Iface) (v : Nat) (s : State) : Res := .next (s.regCommand i SYN.RAMPCTL (clearBit v 0 ||| 2))

/-- EIM_ARM: a write of EIM.CTL.ARM (R377). -/
def execEimArm (i : Iface) (s : State) : Res := .next (s.regCommand i EIM.CTL 1)

/-- EIM_STOP: a write of EIM.CTL.STOP (R379). -/
def execEimStop (i : Iface) (s : State) : Res := .next (s.regCommand i EIM.CTL 2)

/-! ## TIME (R384 to R387, R391, R397, R400, R408) -/

/-- TIME_CAP: a write of TIME.CTL with CAP set (R384). -/
def execTimeCap (i : Iface) (v : Nat) (s : State) : Res := .next (s.regCommand i TIME.CTL (v ||| 1))

/-- TIME_SET: a write of TIME.CTL with SET set (R385). -/
def execTimeSet (i : Iface) (v : Nat) (s : State) : Res := .next (s.regCommand i TIME.CTL (v ||| 2))

/-- TIME_ALIGN: a write of TIME.CTL with ALIGN set (R387). -/
def execTimeAlign (i : Iface) (v : Nat) (s : State) : Res := .next (s.regCommand i TIME.CTL (v ||| 4))

/-- SERVO_HOST_SAMPLE: a write of TIME.SRVIN (R397). -/
def execServoHostSample (i : Iface) (v : Nat) (s : State) : Res := .next (s.regCommand i TIME.SRVIN v)

/-- PTP_PROFILE_LOAD: a write of TIME.PTPp_CFG with LOAD set (R391). -/
def execPtpProfileLoad (i : Iface) (p v : Nat) (s : State) : Res :=
  .next (if p < 2 then s.regCommand i (TIME.PTP_CFG p) (v ||| 8) else s)

/-- PG_ARM: a write of TIME.PGk_CFG with ARM set (R400). -/
def execPgArm (i : Iface) (k v : Nat) (s : State) : Res := .next (if k < 8 then s.regCommand i (TIME.PG_CFG k) (v ||| 1) else s)

/-- PG_STOP: a write of TIME.PGk_CFG with STOP set and ARM clear (R400). -/
def execPgStop (i : Iface) (k v : Nat) (s : State) : Res :=
  .next (if k < 8 then s.regCommand i (TIME.PG_CFG k) (clearBit v 0 ||| 2) else s)

/-- LTC_JAM: a write of TIME.LTCTX_CFG with JAM set (R408). -/
def execLtcJam (i : Iface) (v : Nat) (s : State) : Res := .next (s.regCommand i TIME.LTCTX_CFG (v ||| 1))

/-! ## CUE (R443, R447) -/

/-- VOICE_GO: a write of CUE.VCMD with GO set, for voice `n` (R443). -/
def execVoiceGo (i : Iface) (n : Nat) (s : State) : Res := .next (s.regCommand i CUE.VCMD (2 ^ 31 + n % 2 ^ 8))

/-- VOICE_STOP: a write of CUE.VCMD with STOP set, for voice `n` (R443). -/
def execVoiceStop (i : Iface) (n : Nat) (s : State) : Res := .next (s.regCommand i CUE.VCMD (2 ^ 30 + n % 2 ^ 8))

/-- CAPTURE_GO: a write of CUE.CAPCTL with GO set (R447). -/
def execCaptureGo (i : Iface) (v : Nat) (s : State) : Res := .next (s.regCommand i CUE.CAPCTL (v ||| 1))

/-- CAPTURE_STOP: a write of CUE.CAPCTL with STOP set and GO clear (R447). -/
def execCaptureStop (i : Iface) (v : Nat) (s : State) : Res := .next (s.regCommand i CUE.CAPCTL (clearBit v 0 ||| 2))

/-! ## Any register or window (R485, R489 to R491) -/

/-- HOST_WRITE: a dword with byte enables `be` at offset `o` of a BAR: 0 BAR0, 1 BAR2, 2 BAR4 (R485, R600). -/
def execHostWrite (i : Iface) (bar o be v : Nat) (s : State) : Res := .next (if bar < 3 then s.ifaceWrite i bar o be v else s)

/-- The address of a side of the register at BAR0 offset `k` (R481). -/
def sideOffset (k side : Nat) : Nat := k / 0x10000 * 0x10000 + k % 0x4000 + side * 0x4000

/-- SET_ALIAS_WRITE (R489). -/
def execSetAliasWrite (i : Iface) (k v : Nat) (s : State) : Res := .next (s.ifaceWrite i 0 (sideOffset k 1) 15 v)

/-- CLR_ALIAS_WRITE (R489). -/
def execClrAliasWrite (i : Iface) (k v : Nat) (s : State) : Res := .next (s.ifaceWrite i 0 (sideOffset k 2) 15 v)

/-- TGL_ALIAS_WRITE (R489). -/
def execTglAliasWrite (i : Iface) (k v : Nat) (s : State) : Res := .next (s.ifaceWrite i 0 (sideOffset k 3) 15 v)

/-- SQ_ACKNOWLEDGE: a write to the SQ register `k` (R490). -/
def execSqAcknowledge (i : Iface) (k v : Nat) (s : State) : Res :=
  .next (match regAt k with
    | some (f, _) => if f.sq ≠ 0 then s.regCommand i k v else s
    | none => s)

/-- WO1_WRITE: a write to the register `k` that has a write-once field (R491). -/
def execWo1Write (i : Iface) (k v : Nat) (s : State) : Res :=
  .next (match regAt k with
    | some (f, _) => if f.wo1 ≠ 0 then s.regCommand i k v else s
    | none => s)

/-! ## SEC and UPD (R520, R528, R532, R540, R544, R549) -/

/-- DBG_REQUEST: a write of SEC.DBGCTL.REQ (R544). -/
def execDbgRequest (i : Iface) (s : State) : Res := .next (s.regCommand i SEC.DBGCTL 1)

/-- DBG_SUBMIT: a write of SEC.DBGCTL.SUBMIT (R544). -/
def execDbgSubmit (i : Iface) (s : State) : Res := .next (s.regCommand i SEC.DBGCTL 2)

/-- ATTEST_GO: a write of SEC.ATTCTL.GO (R520). -/
def execAttestGo (i : Iface) (s : State) : Res := .next (s.regCommand i SEC.ATTCTL 1)

/-- HCMD_OPEN: a write of UPD.HCMD with BLOCK and OPEN set and INDEX 0 (R528, R532). -/
def execHcmdOpen (i : Iface) (s : State) : Res := .next (s.regCommand i UPD.HCMD (2 ^ 31 + 2 ^ 30))

/-- HCMD_BLOCK: a write of UPD.HCMD with BLOCK set and INDEX `n` (R532). -/
def execHcmdBlock (i : Iface) (n : Nat) (s : State) : Res := .next (s.regCommand i UPD.HCMD (2 ^ 30 + n % 2 ^ 13))

/-- HCMD_END: a write of UPD.HCMD.END (R532). -/
def execHcmdEnd (i : Iface) (s : State) : Res := .next (s.regCommand i UPD.HCMD (2 ^ 29))

/-- HCMD_ABORT: a write of UPD.HCMD.ABORT (R532). -/
def execHcmdAbort (i : Iface) (s : State) : Res := .next (s.regCommand i UPD.HCMD (2 ^ 28))

/-- OWNERSET: a write of UPD.CTL with OWNERSET set (R549). -/
def execOwnerset (i : Iface) (v : Nat) (s : State) : Res := .next (s.regCommand i UPD.CTL (v ||| 2 ^ 28))

/-- UNLOCK: a write of UPD.CTL with UNLOCK set (R549). -/
def execUnlock (i : Iface) (v : Nat) (s : State) : Res := .next (s.regCommand i UPD.CTL (v ||| 2 ^ 27))

/-- ROLLBACK_ADVANCE: a write of UPD.ARB.ADVANCE (R540). -/
def execRollbackAdvance (i : Iface) (s : State) : Res := .next (s.regCommand i UPD.ARB 1)

/-! ## The PCIe link (R499, R558) -/

/-- PCIE_LINK_TRAINED: the link is in L0, with `width` lanes (1 or 2) at `speed` (1 2.5, 2 5, 3 8 GT/s), where HOST_IF leaves PCIe enabled (R478, R499, R553, R558). -/
def execPcieLinkTrained (width speed : Nat) (s : State) : Res :=
  .next (
    if !s.boot.held ∧ s.ifaceOn 0 ∧ s.apll 0 = 3 ∧ (width = 1 ∨ width = 2) ∧ 1 ≤ speed ∧ speed ≤ 3 then
      ((s.wrFlag HIF.IFSTAT.PCIE_UP true).wr HIF.IFSTAT.WIDTH width).wr HIF.IFSTAT.SPEED speed
    else s)

end Sys2Proof.Machine
end

