-- ==== Sys2Proof/Machine/HostSpi.lean ====
section
/-!
DEFINITION. The SPI host port (R486 to R488). Log entry 44 gives what is read into the rules.
-/

namespace Sys2Proof.Machine

/-- One byte into the CRC of R487, a bit at a time. -/
def crc8Bits : Nat → Nat → Nat
  | 0, c => c
  | n + 1, c => crc8Bits n (if 128 ≤ c then (c * 2) % 256 ^^^ 0x07 else c * 2)

/-- The CRC-8 of R487. -/
def crc8 (bs : List Nat) : Nat := bs.foldl (fun c b => crc8Bits 8 ((c ^^^ b) % 256)) 0

/-- `n` bytes as a big-endian number. -/
def beNumber : List Nat → Nat
  | [] => 0
  | b :: bs => b % 256 * 256 ^ bs.length + beNumber bs

/-- The big-endian bytes of a word. -/
def beBytes (w : Nat) : List Nat := [w / 2 ^ 24 % 256, w / 2 ^ 16 % 256, w / 2 ^ 8 % 256, w % 256]

/-- A frame as its first bytes spell it: device address, operation, word count, and the ADDR field. -/
structure SpiHead where
  dev : Nat
  op : Nat
  count : Nat
  addr : Nat
deriving DecidableEq, Repr

/-- CMD and ADDR of a frame (R486). -/
def spiHead (bytes : List Nat) : SpiHead :=
  let cmd := bytes.headD 0
  { dev := bits cmd 7 6, op := bits cmd 5 4, count := bits cmd 3 0 + 1, addr := beNumber ((bytes.drop 1).take 4) }

/-- The BAR that ADDR names. -/
def SpiHead.bar (h : SpiHead) : Nat := h.addr / 2 ^ 31

/-- The byte offset of word `j`. -/
def SpiHead.word (h : SpiHead) (j : Nat) : Nat := h.addr % 2 ^ 26 + 4 * j

/-- The offset is a multiple of 4 and the reserved bits are 0 (R488). -/
def SpiHead.addrGood (h : SpiHead) : Bool := h.addr % 4 == 0 && bits h.addr 30 26 == 0

/-- A failed frame: 1 a CRC failure, 2 a frame error (R488). -/
def State.spiFail (s : State) (kind : Nat) : State :=
  let s := if kind = 1 then s.inc HIF.SPISTAT.CRCERR else s.inc HIF.SPISTAT.FRAMEERR
  ((s.sqf HIF.HIST.SPI).report 0x0104 1 kind).emit (.spi [if kind = 1 then 0xE1 else 0xE2])

/-- The words of a write frame, written in ascending order (R479). -/
def State.spiWords (s : State) (h : SpiHead) : Nat → List Nat → State
  | _, [] => s
  | j, w :: ws => State.spiWords (s.hostWrite 1 h.bar (h.word j) 15 w) h (j + 1) ws

/-- `n` big-endian words at the head of a byte list. -/
def wordsOf : Nat → List Nat → List Nat
  | 0, _ => []
  | n + 1, bs => beNumber (bs.take 4) :: wordsOf n (bs.drop 4)

/-- The device takes part in a frame: it is out of reset, and CMD names its address (R488). -/
def State.spiMine (s : State) (bytes : List Nat) : Bool :=
  !s.boot.held && !bytes.isEmpty && (spiHead bytes).dev == s.rd GLB.STRAPS.SPI_ADDR

/-- SPI_WRITE_FRAME: the bytes that the host clocks in a frame whose operation is a write or none (R486 to R488). -/
def execSpiWriteFrame (bytes : List Nat) (s : State) : Res :=
  .next (
    let h := spiHead bytes
    let m := 5 + 4 * h.count
    if !s.spiMine bytes ∨ h.op = 0 then s
    else if h.op ≠ 1 ∨ bytes.length ≠ m + 2 then s.spiFail 2
    else if crc8 (bytes.take m) ≠ bytes.getD m 0 then s.spiFail 1
    else if !h.addrGood then s.spiFail 2
    else (s.spiWords h 0 (wordsOf h.count (bytes.drop 5))).emit (.spi [0x5A]))

/-- SPI_READ_FRAME: the bytes that the host clocks in a read frame, of which `w` pass before the start byte (R486 to R488). -/
def execSpiReadFrame (bytes : List Nat) (w : Nat) (s : State) : Res :=
  .next (
    let h := spiHead bytes
    if !s.spiMine bytes ∨ h.op ≠ 0 then s
    else if bytes.length < 6 then s.spiFail 2
    else if crc8 (bytes.take 5) ≠ bytes.getD 5 0 then s.spiFail 1
    else if !h.addrGood ∨ bytes.length ≠ 6 + w + 4 * h.count + 2 then s.spiFail 2
    else
      let data := (List.range h.count).flatMap (fun j => beBytes (s.hostRead h.bar (h.word j)))
      let body := 0x5A :: data
      s.emit (.spi (List.replicate w 0 ++ body ++ [crc8 body])))

end Sys2Proof.Machine
end

