-- ==== Sys2Proof/Machine/MemErrors.lean ====
section
/-!
DEFINITION. Errors of on-chip memories that no other row carries (R509, R514): every corrected error but those of kennel SRAM, and the
uncorrectable ones of the CONTAINED class: SXM, the valid store, FBUF, the journal, the event log and the snapshot banks, the cue copy stores,
and the port, ASRC and elastic stores. The errors found in a tick come with GUARD_START (DESIGN CHOICE, log entry 13).
-/

namespace Sys2Proof.Machine

/-- A memory whose single-bit errors are corrected, other than kennel SRAM and DRAM (R514). -/
def secDed (m : Nat) : Bool := [0, 5, 6, 7, 8, 10, 12].contains m

/-- The data word of a memory error: the word address, with the engine in [31:28] for memories 4 to 6 (R501). -/
def memErrData (x : MemErr) : Nat := if 4 ≤ x.mem ∧ x.mem ≤ 6 then x.hit % 16 * 2 ^ 28 + x.addr % 2 ^ 28 else x.addr

/-- Sample frames of the frame in ring slot `q` of buffer `b` are invalid until the slot begins anew, and a run-ahead that may read them is squashed
(R87, R514). -/
def State.spoilFrames (s : State) (b q : Nat) (is : List Nat) : State :=
  let f := (s.tick + 1) % 2 ^ 32
  let s : State := { s with spoiled := is.foldl (fun m i => NatSet.add m (vkey b q i)) s.spoiled }
  if s.bufEn b && f % s.bufD b == q then s.squashReaders b f else s

/-- The sample frames of buffer `b` that hold the byte at SXM address `a` are invalid (R514). -/
def State.spoilSxm (s : State) (a b : Nat) : State :=
  let row := s.bufC b * 4
  let frame := s.bufS b * row
  let base := s.rd (BT.BASE b)
  if base ≤ a ∧ a < base + s.bufD b * frame then s.spoilFrames b ((a - base) / frame) [(a - base) % frame / row] else s

/-- A checkpoint is due at the next boundary (R58, R514). -/
def State.forceCkpt (s : State) : State := { s with ckpt := { s.ckpt with due := true } }

/-- The checkpoint area stands in SXM and holds byte address `a` (R60). -/
def State.inCkpt (s : State) (a : Nat) : Bool :=
  s.flag GLB.JCTL.LOC && decide (s.rd GLB.CKPTBASE.val * 4096 ≤ a) &&
    decide (a < (s.rd GLB.CKPTBASE.val + s.rd GLB.CKPTLEN.val) * 4096)

/-- The image of snapshot bank `q` reads 0 in the word with key `k` (R514). -/
def State.spoilBank (s : State) (q k : Nat) : State :=
  let b := if q = 0 then s.snap.bank0 else s.snap.bank1
  let b := { b with image := Store.insert b.image k 0 }
  if q = 0 then { s with snap := { s.snap with bank0 := b } } else { s with snap := { s.snap with bank1 := b } }

/-- A sample frame held by local unit `u` is invalid: the oldest of its store, or, of a unit without one, the latest captured (R514). -/
def State.spoilLocal (s : State) (u : Nat) : State :=
  let x := s.lu u
  match x.ins with
  | y :: r => s.setLu u { x with ins := { y with valid := false } :: r }
  | [] => (s.inputsOf u).foldl (fun s p => s.clearValid p.2.2.2 (s.tick + 1) (x.pos - 1)) s

/-- What an uncorrectable error of a memory of the CONTAINED class touches (R514). -/
def State.spoil (s : State) (x : MemErr) : State :=
  match x.mem with
  | 0 =>
    let s := (Cfg.buffers s.live).foldl (fun s b => (s.spoilSxm (x.addr * 8) b).spoilSxm (x.addr * 8 + 4) b) s
    if s.inCkpt (x.addr * 8) then s.forceCkpt else s
  | 1 => s.spoilFrames (x.hit / 512) (x.hit % 512) (List.range (s.bufS (x.hit / 512)))
  | 6 =>
    let e := if s.follower x.hit then x.hit - 1 else x.hit
    let y := s.engine e
    let a := x.addr * 4 + (if s.follower x.hit then 2 ^ 14 else 0)
    s.setEngine e { y with fbuf := Store.insert y.fbuf a 0, taint := y.tick :: y.taint }
  | 10 => s.forceCkpt
  | 11 => if 0x380000 ≤ x.addr * 4 ∧ x.addr * 4 < 0x384000 then s.setNum (bar2 (x.addr * 4)) 0 else s.spoilBank x.hit (x.addr * 4)
  | 12 => (s.abandonCue x.hit).cueState x.hit 5
  | _ => s.spoilLocal x.hit

/-- One error found in a memory: a corrected word is counted and reported, an uncorrectable one also spoils what it touches (R509, R514). -/
def State.memError (s : State) (x : MemErr) : State :=
  if x.unc then (if [0, 1, 6, 10, 11, 12, 14].contains x.mem then (s.memUncorr x.mem (memErrData x)).spoil x else s)
  else if secDed x.mem then s.memCorr x.mem (memErrData x)
  else s

end Sys2Proof.Machine
end

