-- ==== Sys2Proof/Machine/Tick.lean ====
section
/-!
DEFINITION. The tick pipeline (R18 to R23, R71, R78 to R88): the boundary, the guard, the first tick, the start of a run-ahead, and the end of a
commit's validation. Log entry 42 gives what is read into the rules.
-/

namespace Sys2Proof.Machine

/-! ## Validation (R40 to R42, R465) -/

/-- A commit is refused for a broken rule. On a STANDBY whose ACTIVE applies it, the chips now diverge (R41, R465). -/
def State.failCommit (s : State) (c : CommitReq) (reason : Nat) (k : Option Nat) (tick : Nat) : State :=
  let mirrored := s.standby && c.fixed.isSome
  let s := s.refuseCommit reason k tick
  if mirrored then
    ((s.setPair { s.pair with divergedCommit := true }).sqf PAIR.HIST.DIVERGED).report 0x1403 0 tick
  else s

/-- COMMIT_VALIDATION_DONE: the pending image has been held against every rule and its programs proven (R40 to R42, R153, R160). -/
def execCommitValidationDone (s : State) : Res :=
  .next (match s.commit with
    | none => s
    | some c =>
      if s.commitState ≠ 1 ∨ s.recovering then s
      else match s.illegal with
      | some (code, k) => s.failCommit c code (some k) s.tick
      | none =>
        match s.prove with
        | .inl (code, k, e) => ((s.wr GE.LOADSTAT.ENGINE e).wr GE.LOADSTAT.CODE code).failCommit c 7 (some k) s.tick
        | .inr rs =>
          let past := c.past || (c.fixed.isNone && s.targetPast c)
          if past && !c.late then s.failCommit c 2 none s.tick
          else { s with commit := some { c with past := past, proven := rs } }.wr GLB.COMMITSTAT.STATE 2)

/-- The commit in progress is applied at B(n): it is due, and its TICK_LIVE judgement stands (R18, R67, R568). -/
def State.applies (s : State) (n : Nat) : Option CommitReq :=
  if s.due n && !s.recovering && (s.tickLive s.pendCfg).isEmpty then s.commit else none

/-- Step 3 of B(n) (R18, R45, R568). -/
def State.commitBoundary (s : State) (n : Nat) : State :=
  if s.due n && !s.recovering then
    match s.commit with
    | none => s
    | some c =>
      match least (s.tickLive s.pendCfg) with
      | some k => s.failCommit c 0x14 (some k) n
      | none => s.applyEpoch n c
  else s

/-! ## The steps of a boundary (R18) -/

/-- Step 1: the frames of tick `n` that were written in the tick before become committed, with their valid bits (R18, R123). -/
def State.seal (s : State) (n : Nat) : State :=
  ((Cfg.buffers s.live).filter (fun b => s.sealing b n)).foldl (fun s b => s.setFrameValid b n (s.bufS b)) s

/-- Step 4 for engine `e`: a run-ahead that read a frame by its placed marks is squashed where the frame is not confirmed; any other
retires (R84, R87). -/
def State.retireOrSquash (s : State) (e n : Nat) : State :=
  if (s.engine e).ahead && s.flag (GE.CTL.RA_READY e) && (s.inputs e).any (fun b => s.rxFilled b && !s.frameValid b n) then
    s.squash e (GE.SQREWIND.val e)
  else s.retire e

/-- The input buffers of units that are down (R510). -/
def State.downInputs (s : State) : List Nat :=
  let c := s.live
  let sap := ((List.range 32).filter (Cfg.sapIn c)).map (fun n => s.rd (SAP.P_BUF.INBUF n))
  let rest := (Cfg.localInBufs c).drop sap.length
  (if s.unitDown 0x0F 0 then sap else [])
    ++ (if s.unitDown 0x10 0 then rest else [])
    ++ (if s.unitDown 0x11 0 then (Cfg.asrcOwners c).filterMap (fun o =>
          match o with
          | (1, n, _) => some (s.rd (SAP.P_BUF.INBUF n))
          | (3, n, _) => some (s.rd (AES.RX_CFG.INBUF n))
          | (4, p, _) => some (s.rd (AES.MD_BUF.INBUF p))
          | _ => none) else [])
    ++ (if s.unitDown 0x12 0 then Cfg.delayBufs c ++ Cfg.cueBufs c else [])
    ++ (if s.unitDown 0x13 0 then Cfg.cueBufs c else [])

/-- Step 5: the local input frames of tick `n`, and those of the clients of external memory, are committed, and the observed lanes are
evaluated on them. `kept` tells that a keeper was in use in the tick before (R18, R248, R279, R297, R353, R439, R444). -/
def State.freezeInputs (s : State) (n : Nat) (kept : Bool) : State :=
  let s := (s.memFreeze n).keeperInputs n kept
  let s := ((List.range 28).drop 8).foldl State.captureStatus s
  let s := s.downInputs.foldl (fun s b => s.eachBelow (fun s i => s.clearValid b n i) (s.bufS b)) s
  s.observe n

/-- The ring slots that begin to fill in tick `n` have no valid sample frame: of a receive ring the slot of frame n − 1, of every other ring
that of frame n + 1 (R27; DEDUCED, log entry 42). -/
def State.clearSlots (s : State) (n : Nat) : State :=
  (Cfg.buffers s.live).foldl (fun s b => s.clearFrame b ((if s.rxFilled b then n + s.bufD b - 1 else n + 1) % 2 ^ 32)) s

/-- Step 6 and what follows it at once: TICKIDX becomes `n`, the programs and gathers of tick `n` start, and REF decides and steers with the
phases observed (R18, R20, R21, R71, R88, R326, R338). -/
def State.beginTick (s : State) (n : Nat) (phases : List (Nat × Int)) : State :=
  let s := s.wr GLB.TICKIDX.val n
  let s := (s.clearSlots n).eachBelow (fun s k => s.ageHerd n k) 16
  let s : State := { s with clk := { s.clk with phase := .work, cycle := 0 }, gathered := false }
  let s := s.eachBelow (fun s e => s.setEngine e { s.engine e with noAhead := false }) 16
  let s := s.eachBelow (fun s e => s.startTick e n) 16
  let s := ((s.memStart n).transmitAes n).gridBoundary.portsResume
  (s.refBoundary n phases).ckptCount

/-- The origin of media time that the ACTIVE chip's bark named is adopted (R462). -/
def State.adopt (s : State) (n : Nat) : State :=
  match s.pair.adoptOrigin with
  | some o => (s.setPair { s.pair with adoptOrigin := none }).setOrigin n o
  | none => s

/-- TICK_BOUNDARY: the steps of R18 at B(n), the guard of tick n − 1 having ended; `phases` are the phases that the reference inputs show at
B(n), in ps. -/
def execTickBoundary (phases : List (Nat × Int)) (s : State) : Res :=
  .next (
    if s.clk.phase = .guard then
      let n := (s.tick + 1) % 2 ^ 32
      let kept := s.kept
      let s := ((s.ckptForced.seal n).keeperReturn).barkBoundary n
      let s := s.snapshotBoundary n ((s.applies n).any (·.snap))
      let s := (s.wr TIME.BTICK.val n).wr TIME.BNS.val s.ns
      let s := ((s.roleBoundary n).handBoundary n).packetize n
      let s := ((s.recoverBoundary.replayUnits.ckoRestart).asrcInputs n).rampEnd.ncsTick.eimTick.ltcTick
      let s := s.commitBoundary n
      let s := ((s.alignBoundary n).adopt n).ltcBoundary n
      let s := s.ckptStart n
      let s := s.eachBelow (fun s e => s.retireOrSquash e n) 16
      let s := s.freezeInputs n kept
      s.beginTick n phases
    else s)

/-- FIRST_TICK: ticks start at B(0), or beside a partner that ticks at its next index (R12, R461, R557). -/
def execFirstTick (s : State) : Res :=
  .next (
    if s.boot.ready ∧ s.clk.phase = .stopped ∧ s.apll 2 = 3 ∧ s.apll 3 = 3 then
      match s.firstIndex with
      | none => s
      | some n =>
        let s := (s.wr TIME.BTICK.val n).wr TIME.BNS.val s.ns
        let s := s.eachBelow (fun s e => s.setEngine e { s.engine e with done := false }) 16
        let s := (s.ckptForced.keeperReturn.ncsStart.eimTick).ckptStart n
        s.beginTick n []
    else s)

/-! ## The guard (R15, R21, R22, R248) -/

/-- The lanes of a list of buffers count invalid in the evaluation of frame `f`. -/
def State.markBufs (s : State) (f : Nat) (bs : List Nat) : State :=
  let ms := bs.flatMap (fun b => (List.range (s.bufC b)).map (fun c => ({ buf := b, ch := c, frame := f % 2 ^ 32 } : LaneMark)))
  { s with marks := s.marks ++ ms }

/-- The muzzled lanes that count invalid in frame `f` for a recovery or for units that are down (R510, R511; DEDUCED, log entry 41). -/
def State.downMarks (s : State) (f : Nat) : State :=
  let c := s.live
  let out := Cfg.localOutBufs c
  let sap := ((List.range 32).filter (Cfg.sapOut c)).map (fun n => s.rd (SAP.P_BUF.OUTBUF n))
  if s.recovering || s.unitDown 0x17 0 then s.markBufs f (Cfg.muzzledBufs c)
  else
    let bs := (if s.unitDown 0x0D 0 then Cfg.patchBufs c else [])
      ++ (if s.unitDown 0x0F 0 then sap else [])
      ++ (if s.unitDown 0x10 0 then out.drop sap.length else [])
      ++ (if s.unitDown 0x11 0 then (Cfg.asrcOwners c).filterMap (fun o =>
            match o with | (2, n, _) => some (s.rd (SAP.P_BUF.OUTBUF n)) | _ => none) else [])
    if bs.isEmpty then s else s.markBufs f bs.eraseDups

/-- GUARD_START: 512 core cycles before B(n+1). Programs still running are aborted, gathers still unfinished (all but those of the entries
`done`) are marked late, and the muzzle evaluates frame n + 1 (R15, R21, R22, R89, R248). `errs` lists the errors that the accesses of the tick
have found in memories (R514). -/
def execGuardStart (done : List Nat) (errs : List MemErr) (s : State) : Res :=
  .next (
    if s.clk.phase = .work then
      let f := (s.tick + 1) % 2 ^ 32
      let s := errs.foldl State.memError s
      let s := s.overruns.patchLate done
      let s := ((s.sapMarks f).keeperMarks f).downMarks f
      let was := s.muz
      let s := s.eachBelow State.timeTrigger 16
      let s := ((s.takeover f).evaluate was f).takeDigest f
      { s with clk := { s.clk with phase := .guard } }
    else s)

/-! ## Run-ahead (R79, R80) -/

/-- The declared input frame `f` of buffer `b` is ready for a run-ahead of engine `e` in tick `n` = f − 1 (R80). -/
def State.inputReady (s : State) (e b n f : Nat) : Bool :=
  if s.rxFilled b then
    if s.flag (GE.CTL.RA_READY e) then allBelow (s.isPlaced b f) (s.bufS b) else s.frameValid b f
  else
    match s.writer b with
    | some w => (s.engine w).okTick == some n && (!s.patched b || s.gathered)
    | none => s.patched b && s.gathered

/-- RUNAHEAD_START: engine `e` starts its program for the next tick (R79 to R81). -/
def execRunaheadStart (e : Nat) (s : State) : Res :=
  .next (
    let x := s.engine e
    let n := s.tick
    let f := (n + 1) % 2 ^ 32
    if s.clk.phase = .work ∧ e < 16 ∧ s.present e ∧ !s.follower e ∧ x.st = .idle ∧ x.done ∧ !x.ahead ∧ x.okTick = some n
        ∧ s.flag (GE.CTL.RA_EN e) ∧ !x.noAhead ∧ !s.engineDown e ∧ (s.inputs e).all (fun b => s.inputReady e b n f)
        ∧ !(s.due f && s.commitAffects e) then
      (s.startProgram e f true).inc (GE.RASTART.val e)
    else s)

end Sys2Proof.Machine
end

