-- ==== Sys2Proof/Machine/Dispatch.lean ====
section
/-!
DEFINITION. The dispatch: one arm per command, each a direct call of the command's meaning.
-/

namespace Sys2Proof.Machine

def exec (i : Instr) (s : State) : Host.Outcome State Fault Refusal :=
  match i with
  | .tickBoundary phases => Sys2Proof.Machine.execTickBoundary phases s
  | .guardStart done errs => Sys2Proof.Machine.execGuardStart done errs s
  | .patchGatherComplete => Sys2Proof.Machine.execPatchGatherComplete s
  | .runaheadStart e => Sys2Proof.Machine.execRunaheadStart e s
  | .dramTransactionComplete e ix bad corr => Sys2Proof.Machine.execDramTransactionComplete e ix bad corr s
  | .illegalInsn e imem => Sys2Proof.Machine.execIllegalInsn e imem s
  | .li e gd high imm16 => Sys2Proof.Machine.execLi e gd high imm16 s
  | .add e gd gs b => Sys2Proof.Machine.execAdd e gd gs b s
  | .sub e gd gs b => Sys2Proof.Machine.execSub e gd gs b s
  | .and e gd gs b => Sys2Proof.Machine.execAnd e gd gs b s
  | .or e gd gs b => Sys2Proof.Machine.execOr e gd gs b s
  | .xor e gd gs b => Sys2Proof.Machine.execXor e gd gs b s
  | .shl e gd gs b => Sys2Proof.Machine.execShl e gd gs b s
  | .shr e gd gs b => Sys2Proof.Machine.execShr e gd gs b s
  | .sar e gd gs b => Sys2Proof.Machine.execSar e gd gs b s
  | .mul e gd gs b => Sys2Proof.Machine.execMul e gd gs b s
  | .cmp e gs b => Sys2Proof.Machine.execCmp e gs b s
  | .lw e gd gb simm16 => Sys2Proof.Machine.execLw e gd gb simm16 s
  | .sw e gs gb simm16 => Sys2Proof.Machine.execSw e gs gb simm16 s
  | .br e cond offset => Sys2Proof.Machine.execBr e cond offset s
  | .loop e d count => Sys2Proof.Machine.execLoop e d count s
  | .loopr e gs d max => Sys2Proof.Machine.execLoopr e gs d max s
  | .endl e => Sys2Proof.Machine.execEndl e s
  | .call e target => Sys2Proof.Machine.execCall e target s
  | .ret e => Sys2Proof.Machine.execRet e s
  | .endt e => Sys2Proof.Machine.execEndt e s
  | .hset e h out gs imm13 => Sys2Proof.Machine.execHset e h out gs imm13 s
  | .hadv e h set gs simm16 => Sys2Proof.Machine.execHadv e h set gs simm16 s
  | .vld e v src gm wait => Sys2Proof.Machine.execVld e v src gm wait s
  | .vst e v dst gm wait => Sys2Proof.Machine.execVst e v dst gm wait s
  | .vadd e vd va b gm neg => Sys2Proof.Machine.execVadd e vd va b gm neg s
  | .vmul e vd va b gm => Sys2Proof.Machine.execVmul e vd va b gm s
  | .vmac e ad va b gm z neg => Sys2Proof.Machine.execVmac e ad va b gm z neg s
  | .vsat e vd src gm sh => Sys2Proof.Machine.execVsat e vd src gm sh s
  | .vsel e vd va vb gm => Sys2Proof.Machine.execVsel e vd va vb gm s
  | .vpeak e vd va gm => Sys2Proof.Machine.execVpeak e vd va gm s
  | .vramp e vd gs gt gm => Sys2Proof.Machine.execVramp e vd gs gt gm s
  | .vdith e vd va b gm w t => Sys2Proof.Machine.execVdith e vd va b gm w t s
  | .fetch e gf go gx region len wait => Sys2Proof.Machine.execFetch e gf go gx region len wait s
  | .waitf e k wait => Sys2Proof.Machine.execWaitf e k wait s
  | .put e gf go gx region len wait => Sys2Proof.Machine.execPut e gf go gx region len wait s
  | .tkidx e gd sel => Sys2Proof.Machine.execTkidx e gd sel s
  | .tstat e gd hv mode => Sys2Proof.Machine.execTstat e gd hv mode s
  | .muz e h gm => Sys2Proof.Machine.execMuz e h gm s
  | .mark e gs imm16 => Sys2Proof.Machine.execMark e gs imm16 s
  | .commitGo ix v => Sys2Proof.Machine.execCommitGo ix v s
  | .commitCancel ix v => Sys2Proof.Machine.execCommitCancel ix v s
  | .commitValidationDone => Sys2Proof.Machine.execCommitValidationDone s
  | .snapshotRequest ix => Sys2Proof.Machine.execSnapshotRequest ix s
  | .snapshotFillDone => Sys2Proof.Machine.execSnapshotFillDone s
  | .ckptNow ix v => Sys2Proof.Machine.execCkptNow ix v s
  | .checkpointComplete ok => Sys2Proof.Machine.execCheckpointComplete ok s
  | .deviceRecovery crcBad => Sys2Proof.Machine.execDeviceRecovery crcBad s
  | .replayDone bad => Sys2Proof.Machine.execReplayDone bad s
  | .unitRestart b e cause crcBad => Sys2Proof.Machine.execUnitRestart b e cause crcBad s
  | .unitRestarted b e => Sys2Proof.Machine.execUnitRestarted b e s
  | .engineCounterClear ix v => Sys2Proof.Machine.execEngineCounterClear ix v s
  | .geProfileLoad ix e v => Sys2Proof.Machine.execGeProfileLoad ix e v s
  | .rxFrame x bytes fcsOk corr uncorr => Sys2Proof.Machine.execRxFrame x bytes fcsOk corr uncorr s
  | .copyHeaderTaken p => Sys2Proof.Machine.execCopyHeaderTaken p s
  | .copyConfirm p => Sys2Proof.Machine.execCopyConfirm p s
  | .copyRewind p ecc => Sys2Proof.Machine.execCopyRewind p ecc s
  | .rxTimeout ix => Sys2Proof.Machine.execRxTimeout ix s
  | .deepFrameMove ix bad corr => Sys2Proof.Machine.execDeepFrameMove ix bad corr s
  | .rxCounterClear ix v => Sys2Proof.Machine.execRxCounterClear ix v s
  | .txCounterClear ix v => Sys2Proof.Machine.execTxCounterClear ix v s
  | .txProfileLoad ix v => Sys2Proof.Machine.execTxProfileLoad ix v s
  | .kennelWordPush k word last => Sys2Proof.Machine.execKennelWordPush k word last s
  | .kennelWordPop k err a => Sys2Proof.Machine.execKennelWordPop k err a s
  | .kennelBoundaryFault k => Sys2Proof.Machine.execKennelBoundaryFault k s
  | .kennelReset ix k => Sys2Proof.Machine.execKennelReset ix k s
  | .kennelPioPush ix k lo hi => Sys2Proof.Machine.execKennelPioPush ix k lo hi s
  | .kennelPioPushlast ix k lo hi => Sys2Proof.Machine.execKennelPioPushlast ix k lo hi s
  | .kennelPioPop ix k v => Sys2Proof.Machine.execKennelPioPop ix k v s
  | .fallComplete b c => Sys2Proof.Machine.execFallComplete b c s
  | .muzRise b c => Sys2Proof.Machine.execMuzRise b c s
  | .riseComplete b c => Sys2Proof.Machine.execRiseComplete b c s
  | .zcTimeout b c => Sys2Proof.Machine.execZcTimeout b c s
  | .herdArm ix k => Sys2Proof.Machine.execHerdArm ix k s
  | .herdGo ix k => Sys2Proof.Machine.execHerdGo ix k s
  | .herdPinTrigger pin => Sys2Proof.Machine.execHerdPinTrigger pin s
  | .herdTimeTrigger k => Sys2Proof.Machine.execHerdTimeTrigger k s
  | .herdStarted k => Sys2Proof.Machine.execHerdStarted k s
  | .herdStop ix k => Sys2Proof.Machine.execHerdStop ix k s
  | .sapLocked k => Sys2Proof.Machine.execSapLocked k s
  | .sapLost k cause => Sys2Proof.Machine.execSapLost k cause s
  | .sapFrameError k => Sys2Proof.Machine.execSapFrameError k s
  | .elasticStoreRead u out => Sys2Proof.Machine.execElasticStoreRead u out s
  | .aesFrameReceived n a b z parity good ofs => Sys2Proof.Machine.execAesFrameReceived n a b z parity good ofs s
  | .madiFrameReceived p subs parity good => Sys2Proof.Machine.execMadiFrameReceived p subs parity good s
  | .aesCsBlock src a b => Sys2Proof.Machine.execAesCsBlock src a b s
  | .aesLocked src => Sys2Proof.Machine.execAesLocked src s
  | .aesLost src cause => Sys2Proof.Machine.execAesLost src cause s
  | .aesBlkerr n => Sys2Proof.Machine.execAesBlkerr n s
  | .asrcLocked g ratio => Sys2Proof.Machine.execAsrcLocked g ratio s
  | .asrcLost g cause => Sys2Proof.Machine.execAsrcLost g cause s
  | .asrcRelock g ratio => Sys2Proof.Machine.execAsrcRelock g ratio s
  | .refSecond obs => Sys2Proof.Machine.execRefSecond obs s
  | .refQualified k => Sys2Proof.Machine.execRefQualified k s
  | .refDisqualified k => Sys2Proof.Machine.execRefDisqualified k s
  | .refCauseCleared k => Sys2Proof.Machine.execRefCauseCleared k s
  | .refInactive k => Sys2Proof.Machine.execRefInactive k s
  | .refSignalReturn k => Sys2Proof.Machine.execRefSignalReturn k s
  | .refWtrExpire k => Sys2Proof.Machine.execRefWtrExpire k s
  | .refLocked => Sys2Proof.Machine.execRefLocked s
  | .refHoExpired => Sys2Proof.Machine.execRefHoExpired s
  | .refProfileLoad ix v => Sys2Proof.Machine.execRefProfileLoad ix v s
  | .slicerRunt n => Sys2Proof.Machine.execSlicerRunt n s
  | .apllLost x kind => Sys2Proof.Machine.execApllLost x kind s
  | .bandSearchDone x band code => Sys2Proof.Machine.execBandSearchDone x band code s
  | .apllLocked x => Sys2Proof.Machine.execApllLocked x s
  | .apllRelock ix x => Sys2Proof.Machine.execApllRelock ix x s
  | .vtuneMeasure x code => Sys2Proof.Machine.execVtuneMeasure x code s
  | .rampGo ix v => Sys2Proof.Machine.execRampGo ix v s
  | .rampStop ix v => Sys2Proof.Machine.execRampStop ix v s
  | .rampSegmentEnter => Sys2Proof.Machine.execRampSegmentEnter s
  | .eimArm ix => Sys2Proof.Machine.execEimArm ix s
  | .eimStop ix => Sys2Proof.Machine.execEimStop ix s
  | .eimResult interval edges cal => Sys2Proof.Machine.execEimResult interval edges cal s
  | .eimTimeout => Sys2Proof.Machine.execEimTimeout s
  | .eimCalLost => Sys2Proof.Machine.execEimCalLost s
  | .eimCalLocked => Sys2Proof.Machine.execEimCalLocked s
  | .refJumpMeasurement interval => Sys2Proof.Machine.execRefJumpMeasurement interval s
  | .timeCap ix v => Sys2Proof.Machine.execTimeCap ix v s
  | .timeSet ix v => Sys2Proof.Machine.execTimeSet ix v s
  | .timeAlign ix v => Sys2Proof.Machine.execTimeAlign ix v s
  | .ptpOffsetSample p th mpd => Sys2Proof.Machine.execPtpOffsetSample p th mpd s
  | .servoHostSample ix v => Sys2Proof.Machine.execServoHostSample ix v s
  | .srvHold => Sys2Proof.Machine.execSrvHold s
  | .ptpAnnounceAccepted p st steps cls acc => Sys2Proof.Machine.execPtpAnnounceAccepted p st steps cls acc s
  | .ptpProfileLoad ix p v => Sys2Proof.Machine.execPtpProfileLoad ix p v s
  | .pgArm ix k v => Sys2Proof.Machine.execPgArm ix k v s
  | .pgStop ix k v => Sys2Proof.Machine.execPgStop ix k v s
  | .pgLeadingEdge k => Sys2Proof.Machine.execPgLeadingEdge k s
  | .pgTrailingEdge k => Sys2Proof.Machine.execPgTrailingEdge k s
  | .cueLineHold ix x => Sys2Proof.Machine.execCueLineHold ix x s
  | .cueSend ix x => Sys2Proof.Machine.execCueSend ix x s
  | .ltcFrameDecoded tc ub flags rate speed => Sys2Proof.Machine.execLtcFrameDecoded tc ub flags rate speed s
  | .ltcLost => Sys2Proof.Machine.execLtcLost s
  | .ltcTxFrame => Sys2Proof.Machine.execLtcTxFrame s
  | .ltcJam ix v => Sys2Proof.Machine.execLtcJam ix v s
  | .linkUp x => Sys2Proof.Machine.execLinkUp x s
  | .linkDown x => Sys2Proof.Machine.execLinkDown x s
  | .portFrameTx x => Sys2Proof.Machine.execPortFrameTx x s
  | .gateListAdvance => Sys2Proof.Machine.execGateListAdvance s
  | .macEntryAged vid mac => Sys2Proof.Machine.execMacEntryAged vid mac s
  | .groupLeave x vid v6 addr => Sys2Proof.Machine.execGroupLeave x vid v6 addr s
  | .dramTrained => Sys2Proof.Machine.execDramTrained s
  | .dramLate c ix => Sys2Proof.Machine.execDramLate c ix s
  | .delayLineService ix bad corr => Sys2Proof.Machine.execDelayLineService ix bad corr s
  | .voiceSampleRead bad corr => Sys2Proof.Machine.execVoiceSampleRead bad corr s
  | .captureRecord room => Sys2Proof.Machine.execCaptureRecord room s
  | .voiceGo ix n => Sys2Proof.Machine.execVoiceGo ix n s
  | .voiceStop ix n => Sys2Proof.Machine.execVoiceStop ix n s
  | .voiceStart v => Sys2Proof.Machine.execVoiceStart v s
  | .cueVoiceDone v => Sys2Proof.Machine.execCueVoiceDone v s
  | .captureGo ix v => Sys2Proof.Machine.execCaptureGo ix v s
  | .captureStop ix v => Sys2Proof.Machine.execCaptureStop ix v s
  | .barkReceive ws tag skew rtt => Sys2Proof.Machine.execBarkReceive ws tag skew rtt s
  | .barkMissing => Sys2Proof.Machine.execBarkMissing s
  | .mirrorPacketReceive ws tag => Sys2Proof.Machine.execMirrorPacketReceive ws tag s
  | .pairConverging img => Sys2Proof.Machine.execPairConverging img s
  | .pairSynced => Sys2Proof.Machine.execPairSynced s
  | .pathBHandover => Sys2Proof.Machine.execPathBHandover s
  | .pairHello serial ticks index => Sys2Proof.Machine.execPairHello serial ticks index s
  | .pairHelloTimeout => Sys2Proof.Machine.execPairHelloTimeout s
  | .shepherdPinChange level => Sys2Proof.Machine.execShepherdPinChange level s
  | .witnessMessage bytes => Sys2Proof.Machine.execWitnessMessage bytes s
  | .voteExpire => Sys2Proof.Machine.execVoteExpire s
  | .voteSample => Sys2Proof.Machine.execVoteSample s
  | .hostWrite ix bar o be v => Sys2Proof.Machine.execHostWrite ix bar o be v s
  | .setAliasWrite ix k v => Sys2Proof.Machine.execSetAliasWrite ix k v s
  | .clrAliasWrite ix k v => Sys2Proof.Machine.execClrAliasWrite ix k v s
  | .tglAliasWrite ix k v => Sys2Proof.Machine.execTglAliasWrite ix k v s
  | .sqAcknowledge ix k v => Sys2Proof.Machine.execSqAcknowledge ix k v s
  | .wo1Write ix k v => Sys2Proof.Machine.execWo1Write ix k v s
  | .spiWriteFrame bytes => Sys2Proof.Machine.execSpiWriteFrame bytes s
  | .spiReadFrame bytes w => Sys2Proof.Machine.execSpiReadFrame bytes w s
  | .dmaDoorbell c v => Sys2Proof.Machine.execDmaDoorbell c v s
  | .dmaDescriptorDone c desc data bad err => Sys2Proof.Machine.execDmaDescriptorDone c desc data bad err s
  | .dmaKennelPush c desc packet => Sys2Proof.Machine.execDmaKennelPush c desc packet s
  | .logRecordWrite => Sys2Proof.Machine.execLogRecordWrite s
  | .logConsume ix v => Sys2Proof.Machine.execLogConsume ix v s
  | .dbgRequest ix => Sys2Proof.Machine.execDbgRequest ix s
  | .dbgSubmit ix => Sys2Proof.Machine.execDbgSubmit ix s
  | .dbgNonceExpire => Sys2Proof.Machine.execDbgNonceExpire s
  | .attestGo ix => Sys2Proof.Machine.execAttestGo ix s
  | .attestDone => Sys2Proof.Machine.execAttestDone s
  | .hcmdOpen ix => Sys2Proof.Machine.execHcmdOpen ix s
  | .hcmdBlock ix n => Sys2Proof.Machine.execHcmdBlock ix n s
  | .stagingBlockWritten ok => Sys2Proof.Machine.execStagingBlockWritten ok s
  | .hcmdEnd ix => Sys2Proof.Machine.execHcmdEnd ix s
  | .hcmdAbort ix => Sys2Proof.Machine.execHcmdAbort ix s
  | .stagingVerifyDone => Sys2Proof.Machine.execStagingVerifyDone s
  | .fuseBurnDone => Sys2Proof.Machine.execFuseBurnDone s
  | .chainPoll => Sys2Proof.Machine.execChainPoll s
  | .chainHeadReply header => Sys2Proof.Machine.execChainHeadReply header s
  | .chainDataReply k data => Sys2Proof.Machine.execChainDataReply k data s
  | .chainChunkTimeout k => Sys2Proof.Machine.execChainChunkTimeout k s
  | .chainRequest head k => Sys2Proof.Machine.execChainRequest head k s
  | .ownerset ix v => Sys2Proof.Machine.execOwnerset ix v s
  | .unlock ix v => Sys2Proof.Machine.execUnlock ix v s
  | .rollbackAdvance ix => Sys2Proof.Machine.execRollbackAdvance ix s
  | .bootok => Sys2Proof.Machine.execBootok s
  | .bootWatchdogExpire => Sys2Proof.Machine.execBootWatchdogExpire s
  | .powerLoss => Sys2Proof.Machine.execPowerLoss s
  | .pinReset => Sys2Proof.Machine.execPinReset s
  | .resetRelease straps banks => Sys2Proof.Machine.execResetRelease straps banks s
  | .firstTick => Sys2Proof.Machine.execFirstTick s
  | .romVerifyDone => Sys2Proof.Machine.execRomVerifyDone s
  | .holdupAssert => Sys2Proof.Machine.execHoldupAssert s
  | .monHoldup => Sys2Proof.Machine.execMonHoldup s
  | .monRailMeasure k mv long => Sys2Proof.Machine.execMonRailMeasure k mv long s
  | .monTempMeasure tj => Sys2Proof.Machine.execMonTempMeasure tj s
  | .monWear d => Sys2Proof.Machine.execMonWear d s
  | .sapFrameReceived k slots ofs => Sys2Proof.Machine.execSapFrameReceived k slots ofs s
  | .sapBclkReturn k => Sys2Proof.Machine.execSapBclkReturn k s
  | .aesSignalReturn src => Sys2Proof.Machine.execAesSignalReturn src s
  | .asrcForeignEdgeReturn g => Sys2Proof.Machine.execAsrcForeignEdgeReturn g s
  | .ckoDelayStep j => Sys2Proof.Machine.execCkoDelayStep j s
  | .forwardedLocalWrite k v tag => Sys2Proof.Machine.execForwardedLocalWrite k v tag s
  | .partnerStagingReport version hash => Sys2Proof.Machine.execPartnerStagingReport version hash s
  | .ptpAnnounceReceiptTimeout p => Sys2Proof.Machine.execPtpAnnounceReceiptTimeout p s
  | .ptpMessageInterval p kind => Sys2Proof.Machine.execPtpMessageInterval p kind s
  | .pcieLinkTrained width speed => Sys2Proof.Machine.execPcieLinkTrained width speed s

end Sys2Proof.Machine
end

