-- ==== Sys2Proof/Machine/Idle.lean ====
section
/-!
DEFINITION. What passes while no command waits: one core cycle.
-/

namespace Sys2Proof.Machine

/-- One core cycle (R6, R382): the cycle counts advance while the device is out of reset, and the time counter advances by 1 ns with the
servo correction TIME.SRVPPT once APLL-C is locked. That an idle step is one core cycle is a design choice (DESIGN CHOICE, log entry 2). -/
def State.coreCycle (s : State) : State :=
  if s.boot.held then s
  else
    let s : State := { s with clk := { s.clk with now := s.clk.now + 1, cycle := s.clk.cycle + 1 } }
    if s.apll 0 = 3 then
      { s with clk := { s.clk with time := ((Int.ofNat s.clk.time + 10 ^ 12 + s.rdS TIME.SRVPPT.val) % (2 ^ 48 * 10 ^ 21)).toNat } }
    else s

end Sys2Proof.Machine
end

