-- ==== Sys2Proof/Safety.lean ====
section
/-!
DEFINITION. What claims about the block speak of: a state whose step answers a next state, a state whose stores are in their one
canonical form, the hard-wired register of an engine, and which parts of the state a command leaves alone.
-/

namespace Sys2Proof.Machine

/-- The step from `s` answers a next state. -/
def Runs (s : State) : Prop := ∃ t, step s = .next t

/-- Every byte memory of the block is in its canonical form: rising addresses, no byte at what an unlisted address reads as. -/
def State.memoriesWf (s : State) : Bool :=
  Memory.wf s.sxm && Memory.wf s.dmem && Memory.wf s.dram && Memory.wf s.flash.active && Memory.wf s.flash.staging && Memory.wf s.upd.image

/-- The store of host-addressable words is in its canonical form. -/
def State.wordsWf (s : State) : Bool := Store.wf resetWord s.live

/-- Scalar register g0 of every engine holds nothing, so it reads 0 (R69). -/
def State.g0Zero (s : State) : Bool := s.ge.all (fun p => (p.2.g.find 0).isNone)

/-- The state's words and byte memories are all in canonical form, so equal contents are equal data. -/
def State.canonical (s : State) : Bool := s.wordsWf && s.memoriesWf

/-- The parts of the state, one for each field but the queue of commands. -/
inductive Part where
  | clk | live | shadow | pend | commit | snap | ckpt | faults | evt | sxm | sxmPast | dmem | dram | valid | spoiled | shut | placed
  | ge | free | muz | marks | herd | gathered | pair | knl | copies | rxHeld | rx | deepValid | tx | loc | atx | syn
  | eim | ref | times | net | mem | fuse | flash | ret | sec | upd | boot | dma | mon | txLoaded | out
deriving DecidableEq, Repr

/-- Part `p` of two states is the same. -/
def Part.same (s t : State) : Part → Prop
  | .clk => t.clk = s.clk
  | .live => t.live = s.live
  | .shadow => t.shadow = s.shadow
  | .pend => t.pend = s.pend
  | .commit => t.commit = s.commit
  | .snap => t.snap = s.snap
  | .ckpt => t.ckpt = s.ckpt
  | .faults => t.faults = s.faults
  | .evt => t.evt = s.evt
  | .sxm => t.sxm = s.sxm
  | .sxmPast => t.sxmPast = s.sxmPast
  | .dmem => t.dmem = s.dmem
  | .dram => t.dram = s.dram
  | .valid => t.valid = s.valid
  | .spoiled => t.spoiled = s.spoiled
  | .shut => t.shut = s.shut
  | .placed => t.placed = s.placed
  | .ge => t.ge = s.ge
  | .free => t.free = s.free
  | .muz => t.muz = s.muz
  | .marks => t.marks = s.marks
  | .herd => t.herd = s.herd
  | .gathered => t.gathered = s.gathered
  | .pair => t.pair = s.pair
  | .knl => t.knl = s.knl
  | .copies => t.copies = s.copies
  | .rxHeld => t.rxHeld = s.rxHeld
  | .rx => t.rx = s.rx
  | .deepValid => t.deepValid = s.deepValid
  | .tx => t.tx = s.tx
  | .loc => t.loc = s.loc
  | .atx => t.atx = s.atx
  | .syn => t.syn = s.syn
  | .eim => t.eim = s.eim
  | .ref => t.ref = s.ref
  | .times => t.times = s.times
  | .net => t.net = s.net
  | .mem => t.mem = s.mem
  | .fuse => t.fuse = s.fuse
  | .flash => t.flash = s.flash
  | .ret => t.ret = s.ret
  | .sec => t.sec = s.sec
  | .upd => t.upd = s.upd
  | .boot => t.boot = s.boot
  | .dma => t.dma = s.dma
  | .mon => t.mon = s.mon
  | .txLoaded => t.txLoaded = s.txLoaded
  | .out => t.out = s.out

/-- What `t` may differ in from `s`: only the parts listed, and never the queue; and canonical stores stay canonical. -/
structure Frame (ps : List Part) (s t : State) : Prop where
  /-- Every part that is not listed is unchanged. -/
  same : ∀ p, ps.contains p = false → p.same s t
  /-- The commands that wait are the same. -/
  queue : t.pending = s.pending
  /-- Words and memories in canonical form stay so. -/
  canon : s.canonical = true → t.canonical = true

/-- Where the outcome is a next state, it differs from `s` only in the parts listed. -/
def Framed (ps : List Part) (s : State) (r : Res) : Prop := ∀ t, r = .next t → Frame ps s t

/-! ## What statements speak of -/

/-- Word `k` is one that a report may write: in the EVT block, or the MSI-X pending-bit array. -/
def reportKey (k : Nat) : Bool := (decide (0x20000 ≤ k) && decide (k < 0x23000)) || k == msixPending

/-- From `s` to `t` the event `code` was reported once: its block counts one more and its IPEND bit is set by one more event (R490, R501,
R507). -/
def Reported (code : Nat) (s t : State) : Prop :=
  t.rd (EVT.BLKCNT.val (code / 256)) = (s.rd (EVT.BLKCNT.val (code / 256)) + 1) % 2 ^ 32 ∧
    t.word (EVT.IPEND (code / 256)) = sqSet (s.word (EVT.IPEND (code / 256))) (2 ^ (code % 256))

end Sys2Proof.Machine
end

