-- ==== Sys2Proof/WellFormed.lean ====
section
/-!
DEFINITION. Which commands are well formed: every operand lies in the range that its encoding, its register or its port gives it.

The meanings are total and do not test this. A command that names a unit Beleno does not have leaves the units it has as they are (DESIGN CHOICE, log entry
1), and the bits of a value beyond its field are lost where the value reaches a register.
-/

namespace Sys2Proof

/-- A scalar register g0 to g31 (R69). -/
def gReg (g : Nat) : Bool := decide (g < 32)

/-- A vector register or a buffer handle, 0 to 15 (R69). -/
def vReg (v : Nat) : Bool := decide (v < 16)

/-- An engine (R68). -/
def engineOk (e : Nat) : Bool := decide (e < 16)

/-- A 32-bit value. -/
def wordOk (v : Nat) : Bool := decide (v < 2 ^ 32)

/-- A list of bytes. -/
def bytesOk (b : List Nat) : Bool := b.all (fun x => decide (x < 256))

/-- A list of 32-bit values. -/
def wordsOk (ws : List Nat) : Bool := ws.all wordOk

/-- A signed immediate of `w` bits. -/
def simmOk (w : Nat) (i : Int) : Bool := decide (-2 ^ (w - 1) ≤ i) && decide (i < 2 ^ (w - 1))

/-- The key of a host-addressable word (R489): a BAR0 offset, or 2^31 plus a BAR2 offset, on a word boundary. -/
def keyOk (k : Nat) : Bool := decide (k < 2 ^ 32) && decide (k % 4 = 0)

/-- The second operand of a format S word; a shift has a 5-bit immediate (R105, R108). -/
def SOperand.wf (shift : Bool) : SOperand → Bool
  | .reg gt => gReg gt
  | .imm i => decide (i < if shift then 32 else 2 ^ 15)

/-- Operand b of a format V word (R105). -/
def VOperand.wf : VOperand → Bool
  | .vec v => vReg v
  | .scalar gt => gReg gt

/-- The stride of a format A word (R106). -/
def Stride.wf : Stride → Bool
  | .unit => true
  | .chan => true
  | .imm i => simmOk 9 i
  | .reg gx => gReg gx

/-- The place a format A word reaches (R105). -/
def VAddr.wf : VAddr → Bool
  | .sxm h st => vReg h && st.wf
  | .dmem gb i => gReg gb && decide (i < 2 ^ 10)
  | .fbuf gb i => gReg gb && decide (i < 2 ^ 10)

/-- A format X word's operands (R105). -/
def xOk (gf go gx region len : Nat) : Bool :=
  gReg gf && gReg go && gReg gx && decide (region < 64) && decide (len < 32)

/-- Whether an instruction's operands lie in the fields of its word, at legal values (R105 to R109, R144). -/
def Genah.wf : Genah → Bool
  | .li gd _ i => gReg gd && decide (i < 2 ^ 16)
  | .add gd gs b | .sub gd gs b | .and gd gs b | .or gd gs b | .xor gd gs b | .mul gd gs b => gReg gd && gReg gs && b.wf false
  | .shl gd gs b | .shr gd gs b | .sar gd gs b => gReg gd && gReg gs && b.wf true
  | .cmp gs b => gReg gs && b.wf false
  | .lw gd gb i | .sw gd gb i => gReg gd && gReg gb && simmOk 16 i
  | .br c o => decide (c < 10) && decide (0 < o) && decide (o < 2 ^ 16)
  | .loop d n => decide (2 ≤ d) && decide (d < 2 ^ 10) && decide (n < 2 ^ 16)
  | .loopr gs d m => gReg gs && decide (2 ≤ d) && decide (d < 2 ^ 10) && decide (0 < m) && decide (m < 2 ^ 11)
  | .endl | .ret | .endt => true
  | .call t => decide (t < 2 ^ 14)
  | .hset h _ gs i => vReg h && gReg gs && decide (i < 2 ^ 13)
  | .hadv h _ gs i => vReg h && gReg gs && simmOk 16 i
  | .vld v a gm | .vst v a gm => vReg v && a.wf && gReg gm
  | .vadd vd va b gm _ => vReg vd && vReg va && b.wf && gReg gm
  | .vmul vd va b gm => vReg vd && vReg va && b.wf && gReg gm
  | .vmac ad va b gm _ _ => decide (ad < 4) && vReg va && b.wf && gReg gm
  | .vsat vd as gm sh => vReg vd && decide (as < 4) && gReg gm && decide (sh < 8)
  | .vsel vd va vb gm => vReg vd && vReg va && vReg vb && gReg gm
  | .vpeak vd va gm => vReg vd && vReg va && gReg gm
  | .vramp vd gs gt gm => vReg vd && gReg gs && gReg gt && gReg gm
  | .vdith vd va b gm w _ => vReg vd && vReg va && b.wf && gReg gm && decide (16 ≤ w) && decide (w ≤ 24)
  | .fetch gf go gx r n | .put gf go gx r n => xOk gf go gx r n
  | .waitf k => decide (k < 16)
  | .tkidx gd sel => gReg gd && decide (sel < 3)
  | .tstat gd hv m => gReg gd && vReg hv && decide (m < 7)
  | .muz h gm => vReg h && gReg gm
  | .mark gs i => gReg gs && decide (i < 2 ^ 16)

/-- An instruction of engine `e`. -/
def Genah.on (g : Genah) (e : Nat) : Bool := engineOk e && g.wf

/-- An AES3 receiver n at n, or a MADI receiver p at 16 + p (R293). -/
def aesReceiver (src : Nat) : Bool := decide (src < 8) || (decide (16 ≤ src) && decide (src < 20))

/-- A lane of a buffer (R24, R247). -/
def laneOk (b c : Nat) : Bool := decide (b < 8192) && decide (c < 8192)

/-- A memory error names a memory of R514, and hits something that exists. -/
def MemErr.wf (x : MemErr) : Bool :=
  decide (x.mem < 15) && decide (x.hit < (match x.mem with | 1 => 8192 * 512 | 6 => 16 | 11 => 2 | 12 => 256 | 14 => 28 | _ => 16))

/-- Whether a command is well formed. -/
def Instr.wf : Instr → Bool
  | .tickBoundary phases => phases.all (fun p => decide (p.1 < 10))
  | .guardStart done errs => done.all (fun x => decide (x < 16384)) && errs.all MemErr.wf
  | .patchGatherComplete => true
  | .runaheadStart e => engineOk e
  | .dramTransactionComplete e _ _ _ => engineOk e
  | .illegalInsn e _ => engineOk e
  | .li e gd high imm16 => (Genah.li gd high imm16).on e
  | .add e gd gs b => (Genah.add gd gs b).on e
  | .sub e gd gs b => (Genah.sub gd gs b).on e
  | .and e gd gs b => (Genah.and gd gs b).on e
  | .or e gd gs b => (Genah.or gd gs b).on e
  | .xor e gd gs b => (Genah.xor gd gs b).on e
  | .shl e gd gs b => (Genah.shl gd gs b).on e
  | .shr e gd gs b => (Genah.shr gd gs b).on e
  | .sar e gd gs b => (Genah.sar gd gs b).on e
  | .mul e gd gs b => (Genah.mul gd gs b).on e
  | .cmp e gs b => (Genah.cmp gs b).on e
  | .lw e gd gb simm16 => (Genah.lw gd gb simm16).on e
  | .sw e gs gb simm16 => (Genah.sw gs gb simm16).on e
  | .br e cond offset => (Genah.br cond offset).on e
  | .loop e d count => (Genah.loop d count).on e
  | .loopr e gs d max => (Genah.loopr gs d max).on e
  | .endl e => (Genah.endl).on e
  | .call e target => (Genah.call target).on e
  | .ret e => (Genah.ret).on e
  | .endt e => (Genah.endt).on e
  | .hset e h out gs imm13 => (Genah.hset h out gs imm13).on e
  | .hadv e h set gs simm16 => (Genah.hadv h set gs simm16).on e
  | .vld e v src gm _ => (Genah.vld v src gm).on e
  | .vst e v dst gm _ => (Genah.vst v dst gm).on e
  | .vadd e vd va b gm neg => (Genah.vadd vd va b gm neg).on e
  | .vmul e vd va b gm => (Genah.vmul vd va b gm).on e
  | .vmac e ad va b gm z neg => (Genah.vmac ad va b gm z neg).on e
  | .vsat e vd src gm sh => (Genah.vsat vd src gm sh).on e
  | .vsel e vd va vb gm => (Genah.vsel vd va vb gm).on e
  | .vpeak e vd va gm => (Genah.vpeak vd va gm).on e
  | .vramp e vd gs gt gm => (Genah.vramp vd gs gt gm).on e
  | .vdith e vd va b gm w t => (Genah.vdith vd va b gm w t).on e
  | .fetch e gf go gx region len _ => (Genah.fetch gf go gx region len).on e
  | .waitf e k _ => (Genah.waitf k).on e
  | .put e gf go gx region len _ => (Genah.put gf go gx region len).on e
  | .tkidx e gd sel => (Genah.tkidx gd sel).on e
  | .tstat e gd hv mode => (Genah.tstat gd hv mode).on e
  | .muz e h gm => (Genah.muz h gm).on e
  | .mark e gs imm16 => (Genah.mark gs imm16).on e
  | .commitGo _ v => wordOk v
  | .commitCancel _ v => wordOk v
  | .commitValidationDone => true
  | .snapshotRequest _ => true
  | .snapshotFillDone => true
  | .ckptNow _ v => wordOk v
  | .checkpointComplete _ => true
  | .deviceRecovery _ => true
  | .replayDone _ => true
  | .unitRestart b e cause _ => decide (b < 24) && decide (e ≤ 16) && decide (cause < 8)
  | .unitRestarted b e => decide (b < 24) && decide (e ≤ 16)
  | .engineCounterClear _ v => wordOk v
  | .geProfileLoad _ e v => engineOk e && wordOk v
  | .rxFrame x bytes _ _ _ => decide (x < 3) && bytesOk bytes
  | .copyHeaderTaken p => decide (p < 2)
  | .copyConfirm p => decide (p < 2)
  | .copyRewind p _ => decide (p < 2)
  | .rxTimeout i => decide (i < 4096)
  | .deepFrameMove i _ _ => decide (i < 4096)
  | .rxCounterClear _ v => wordOk v
  | .txCounterClear _ v => wordOk v
  | .txProfileLoad _ v => wordOk v
  | .kennelWordPush k word _ => decide (k < 64) && decide (word < 2 ^ 64)
  | .kennelWordPop k _ _ => decide (k < 64)
  | .kennelBoundaryFault k => decide (k < 64)
  | .kennelReset _ k => decide (k < 64)
  | .kennelPioPush _ k lo hi => decide (k < 64) && wordOk lo && wordOk hi
  | .kennelPioPushlast _ k lo hi => decide (k < 64) && wordOk lo && wordOk hi
  | .kennelPioPop _ k v => decide (k < 64) && wordOk v
  | .fallComplete b c => laneOk b c
  | .muzRise b c => laneOk b c
  | .riseComplete b c => laneOk b c
  | .zcTimeout b c => laneOk b c
  | .herdArm _ k => decide (k < 16)
  | .herdGo _ k => decide (k < 16)
  | .herdPinTrigger pin => decide (pin < 4)
  | .herdTimeTrigger k => decide (k < 16)
  | .herdStarted k => decide (k < 16)
  | .herdStop _ k => decide (k < 16)
  | .sapLocked k => decide (k < 8)
  | .sapLost k _ => decide (k < 8)
  | .sapFrameError k => decide (k < 8)
  | .elasticStoreRead u _ => decide (u < 28)
  | .aesFrameReceived n a b _ _ _ _ => decide (n < 8) && wordOk a && wordOk b
  | .madiFrameReceived p subs _ _ => decide (p < 4) && wordsOk subs
  | .aesCsBlock src _ _ => aesReceiver src
  | .aesLocked src => aesReceiver src
  | .aesLost src _ => aesReceiver src
  | .aesBlkerr n => decide (n < 8)
  | .asrcLocked g _ => decide (g < 16)
  | .asrcLost g _ => decide (g < 16)
  | .asrcRelock g _ => decide (g < 16)
  | .refSecond obs => obs.all (fun p => decide (p.1 < 10))
  | .refQualified k => decide (k < 10)
  | .refDisqualified k => decide (k < 10)
  | .refCauseCleared k => decide (k < 10)
  | .refInactive k => decide (k < 10)
  | .refSignalReturn k => decide (k < 10)
  | .refWtrExpire k => decide (k < 10)
  | .refLocked => true
  | .refHoExpired => true
  | .refProfileLoad _ v => wordOk v
  | .slicerRunt n => decide (n < 4)
  | .apllLost x kind => decide (x < 4) && decide (kind < 2)
  | .bandSearchDone x band _ => decide (x < 4) && decide (band < 64)
  | .apllLocked x => decide (x < 4)
  | .apllRelock _ x => decide (x < 4)
  | .vtuneMeasure x _ => decide (x < 4)
  | .rampGo _ v => wordOk v
  | .rampStop _ v => wordOk v
  | .rampSegmentEnter => true
  | .eimArm _ => true
  | .eimStop _ => true
  | .eimResult _ _ _ => true
  | .eimTimeout => true
  | .eimCalLost => true
  | .eimCalLocked => true
  | .refJumpMeasurement _ => true
  | .timeCap _ v => wordOk v
  | .timeSet _ v => wordOk v
  | .timeAlign _ v => wordOk v
  | .ptpOffsetSample p _ _ => decide (p < 2)
  | .servoHostSample _ v => wordOk v
  | .srvHold => true
  | .ptpAnnounceAccepted p _ _ _ _ => decide (p < 2)
  | .ptpProfileLoad _ p v => decide (p < 2) && wordOk v
  | .pgArm _ k v => decide (k < 8) && wordOk v
  | .pgStop _ k v => decide (k < 8) && wordOk v
  | .pgLeadingEdge k => decide (k < 8)
  | .pgTrailingEdge k => decide (k < 8)
  | .cueLineHold i x => decide (i < 256) && decide (x < 3)
  | .cueSend i x => decide (i < 256) && decide (x < 3)
  | .ltcFrameDecoded tc ub flags rate speed => wordOk tc && wordOk ub && decide (flags < 2 ^ 5) && decide (rate < 4) && decide (speed < 2 ^ 16)
  | .ltcLost => true
  | .ltcTxFrame => true
  | .ltcJam _ v => wordOk v
  | .linkUp x => decide (x < 3)
  | .linkDown x => decide (x < 3)
  | .portFrameTx x => decide (x < 3)
  | .gateListAdvance => true
  | .macEntryAged vid mac => decide (vid < 2 ^ 12) && decide (mac < 2 ^ 48)
  | .groupLeave x vid _ _ => decide (x < 3) && decide (vid < 2 ^ 12)
  | .dramTrained => true
  | .dramLate _ _ => true
  | .delayLineService i _ _ => decide (i < 1024)
  | .voiceSampleRead bad _ => bad.all (fun p => decide (p.1 < 256))
  | .captureRecord _ => true
  | .voiceGo _ n => decide (n < 256)
  | .voiceStop _ n => decide (n < 256)
  | .voiceStart v => decide (v < 256)
  | .cueVoiceDone v => decide (v < 256)
  | .captureGo _ v => wordOk v
  | .captureStop _ v => wordOk v
  | .barkReceive ws tag _ _ => wordsOk ws && bytesOk tag
  | .barkMissing => true
  | .mirrorPacketReceive ws tag => wordsOk ws && bytesOk tag
  | .pairConverging img => img.live.all (fun p => wordOk p.2) && img.shadow.all (fun p => wordOk p.2) && img.pend.all (fun p => wordOk p.2)
  | .pairSynced => true
  | .pathBHandover => true
  | .pairHello _ _ _ => true
  | .pairHelloTimeout => true
  | .shepherdPinChange _ => true
  | .witnessMessage bytes => bytesOk bytes
  | .voteExpire => true
  | .voteSample => true
  | .hostWrite _ bar o be v => decide (bar < 3) && decide (o % 4 = 0) && decide (be < 16) && wordOk v
  | .setAliasWrite _ k v => keyOk k && wordOk v
  | .clrAliasWrite _ k v => keyOk k && wordOk v
  | .tglAliasWrite _ k v => keyOk k && wordOk v
  | .sqAcknowledge _ k v => keyOk k && wordOk v
  | .wo1Write _ k v => keyOk k && wordOk v
  | .spiWriteFrame bytes => bytesOk bytes
  | .spiReadFrame bytes w => bytesOk bytes && wordOk w
  | .dmaDoorbell c v => decide (c < 8) && wordOk v
  | .dmaDescriptorDone c desc data _ _ => decide (c < 8) && wordsOk desc && bytesOk data
  | .dmaKennelPush c desc packet => decide (c < 8) && wordsOk desc && packet.all (fun w => decide (w < 2 ^ 64))
  | .logRecordWrite => true
  | .logConsume _ v => wordOk v
  | .dbgRequest _ => true
  | .dbgSubmit _ => true
  | .dbgNonceExpire => true
  | .attestGo _ => true
  | .attestDone => true
  | .hcmdOpen _ => true
  | .hcmdBlock _ n => decide (n < 2 ^ 13)
  | .stagingBlockWritten _ => true
  | .hcmdEnd _ => true
  | .hcmdAbort _ => true
  | .stagingVerifyDone => true
  | .fuseBurnDone => true
  | .chainPoll => true
  | .chainHeadReply header => bytesOk header
  | .chainDataReply _ data => bytesOk data
  | .chainChunkTimeout k => decide (k < 2 ^ 15)
  | .chainRequest _ k => decide (k < 2 ^ 15)
  | .ownerset _ v => wordOk v
  | .unlock _ v => wordOk v
  | .rollbackAdvance _ => true
  | .bootok => true
  | .bootWatchdogExpire => true
  | .powerLoss => true
  | .pinReset => true
  | .resetRelease straps banks => decide (straps < 256) && decide (banks < 16)
  | .firstTick => true
  | .romVerifyDone => true
  | .holdupAssert => true
  | .monHoldup => true
  | .monRailMeasure k _ _ => decide (k < 9)
  | .monTempMeasure _ => true
  | .monWear _ => true
  | .sapFrameReceived k _ _ => decide (k < 8)
  | .sapBclkReturn k => decide (k < 8)
  | .aesSignalReturn src => aesReceiver src
  | .asrcForeignEdgeReturn g => decide (g < 16)
  | .ckoDelayStep j => decide (j < 12)
  | .forwardedLocalWrite k v tag => keyOk k && wordOk v && bytesOk tag
  | .partnerStagingReport version hash => wordOk version && bytesOk hash
  | .ptpAnnounceReceiptTimeout p => decide (p < 2)
  | .ptpMessageInterval p _ => decide (p < 2)
  | .pcieLinkTrained _ _ => true

end Sys2Proof
end

