-- ==== Sys2Proof/Certificates/Slice0/Obligations.lean ====
section
/-!
DEFINITION. What the model is claimed to do: one statement for each group of commands, and those about every command and every step. Each
docstring names the rules of spec/ that the statement rests on, and the log entries of the readings it shares with the model.
-/

open Sys2Proof Sys2Proof.Machine

/-! ## Terms of the statements -/

namespace Sys2Proof.Machine

/-- Scalar register `r` of an engine as a 32-bit word; g0 is 0 (R69). -/
def Engine.reg (x : Engine) (r : Nat) : Word := BitVec.ofNat 32 (x.gr r)

/-- The second operand of ADD, SUB, MUL and CMP: a register, or imm15 sign-extended (R108). -/
def Engine.operandSigned (x : Engine) : SOperand → Word
  | .reg gt => x.reg gt
  | .imm i => (BitVec.ofNat 15 i).signExtend 32

/-- The second operand of AND, OR and XOR: a register, or imm15 zero-extended (R108). -/
def Engine.operandZero (x : Engine) : SOperand → Word
  | .reg gt => x.reg gt
  | .imm i => (BitVec.ofNat 15 i).setWidth 32

/-- The shift count: bits [4:0] of a register or of imm15 (R108). -/
def Engine.operandShift (x : Engine) : SOperand → Nat
  | .reg gt => ((x.reg gt).setWidth 5).toNat
  | .imm i => (BitVec.ofNat 5 i).toNat

/-- From `s` to `t` only engine `e` changes, and it becomes `y`. -/
structure EngineOnly (e : Nat) (y : Engine) (s t : State) : Prop where
  engine : t.engine e = y
  others : ∀ j, j ≠ e → t.engine j = s.engine j
  frame : Frame [.ge] s t

/-- From `s` to `t` engine `e` writes `v` to gd, a write to g0 being discarded, and goes on at the next word `cycles` core cycles later; its
flags, lanes, handles, stacks and everything else of the block stay. -/
structure ScalarResult (e gd : Nat) (v : Word) (cycles : Nat) (s t : State) : Prop where
  reg : ∀ r, (t.engine e).reg r = if r = gd ∧ r ≠ 0 then v else (s.engine e).reg r
  pc : (t.engine e).pc = (s.engine e).pc + 1
  cycles : (t.engine e).cycles = (s.engine e).cycles + cycles
  rest : { t.engine e with g := (s.engine e).g, pc := (s.engine e).pc, cycles := (s.engine e).cycles } = s.engine e
  others : ∀ j, j ≠ e → t.engine j = s.engine j
  frame : Frame [.ge] s t

/-- A vector instruction of engine `e` has written lanes of vd: from `s` to `t` the lanes above L and the other vector registers stay, SATCOUNT
advances once for each of `sats` saturated lanes and holds at its greatest value, and the engine goes on at the next word; its scalar registers,
flags, accumulators, handles and stacks and everything else of the block stay, its LFSR being said beside (R123, R133, R140). -/
structure VectorResult (e vd cycles sats : Nat) (s t : State) : Prop where
  lanes : ∀ r i, i < 16 → r ≠ vd ∨ s.lanesOf e ≤ i → (t.engine e).lane r i = (s.engine e).lane r i
  sat : (t.engine e).sat = (fun n => min (n + 1) (2 ^ 32 - 1))^[sats] (s.engine e).sat
  pc : (t.engine e).pc = (s.engine e).pc + 1
  cycles : (t.engine e).cycles = (s.engine e).cycles + cycles
  rest : { t.engine e with v := (s.engine e).v, sat := (s.engine e).sat, lfsr := (s.engine e).lfsr, pc := (s.engine e).pc, cycles := (s.engine e).cycles }
    = s.engine e
  others : ∀ j, j ≠ e → t.engine j = s.engine j
  frame : Frame [.ge] s t

/-- The number of enabled lanes of engine `e` that satisfy `f`. -/
def State.lanesWith (s : State) (e gm : Nat) (f : Nat → Bool) : Nat :=
  ((List.range (s.lanesOf e)).filter (fun i => (s.engine e).enabled gm i && f i)).length

/-- A store of the run-ahead of engine `e` found the store buffer full: the engine stands in RSB_STALL at the same word and stores nothing; the first
such store of a run-ahead counts (R82, R83). -/
structure RunAheadStalls (e : Nat) (s t : State) : Prop where
  engine : t.engine e = { s.engine e with st := .rsbStall, stalled := true }
  others : ∀ j, j ≠ e → t.engine j = s.engine j
  counted : (s.engine e).stalled = false → t.rd (GE.RSBSTALL.val e) = (s.rd (GE.RSBSTALL.val e) + 1) % 2 ^ 32 ∧
    t.flag (GE.HIST.RSB_STALL e) = true ∧ ∀ k, k ≠ GE.RSBSTALL e → k ≠ GE.HIST e → t.word k = s.word k
  again : (s.engine e).stalled = true → t.live = s.live
  frame : Frame [.live, .ge] s t

end Sys2Proof.Machine

namespace Sys2Proof.Machine

/-- Interface `i` is enabled by the straps (R553). -/
def State.ifaceEnabled (s : State) (i : Iface) : Bool := s.ifaceOn (match i with | .pcie => 0 | .spi => 1)

/-- A write of interface `i` to register `k` of BAR0 gets through HIF: the interface is enabled, the block responds, the unit is on this part, and a
mirroring STANDBY takes it only for a local block (R458, R553, R558, R560). -/
def State.hostReaches (s : State) (i : Iface) (k : Nat) : Bool :=
  s.ifaceEnabled i && s.responds 0 k && !s.removedKey k && (!s.standby || localBlock k)

/-- The configuration journal and the checkpoint space have room for these shadow words (R57, R60). -/
def State.hasRoom (s : State) (ws : List (Nat × Word)) : Bool :=
  let t := ws.foldl (fun s p => s.putShadow p.1 p.2) s
  !s.journalFull && !(decide (s.rd GLB.CKPTLEN.val / 2 < t.ckptNeed)
    && decide (ckptBytes s.live s.dmem s.shadow s.pend < ckptBytes t.live t.dmem t.shadow t.pend))

/-- A profile load has been taken: one journal entry of the write `v` to `k`, and the words in the open shadow (R161, R220). -/
def ProfileTaken (k v : Nat) (ws : List (Nat × Word)) (s t : State) : Prop :=
  t.shadow = (ws.foldl (fun s p => s.putShadow p.1 p.2) (s.journal .write k v s.tick)).shadow

end Sys2Proof.Machine

/-! ## The statements -/

/-- A step takes the command at the front of the queue and answers what it does to the state with the queue's rest; on an empty queue one core cycle
passes: the cycle counts advance while the device is out of reset and nothing but the clocks changes (the model's choice, log entry 2). Model
readings: log entry 2. -/
def Obligations.StepTakesTheFrontCommand : Prop :=
  (∀ (c : Instr) (q : List Instr) (s : State), s.pending = c :: q → step s = exec c { s with pending := q }) ∧
    ∀ s : State, s.pending = [] → ∃ t, step s = .next t ∧ Frame [.clk] s t ∧ (s.boot.held = true → t = s) ∧
      (s.boot.held = false → t.clk.now = s.clk.now + 1 ∧ t.clk.cycle = s.clk.cycle + 1 ∧ t.clk.phase = s.clk.phase ∧
        (s.apll 0 ≠ 3 → t.clk.time = s.clk.time))

/-- The reset state: no command waits, the device is held in reset and nothing runs; the registers named hold the reset values of their tables, every
engine's program is the idle program, the shadow and the kennels are empty, and the stores are in canonical form. Model readings: log entries 3, 38,
56. -/
def Obligations.ResetLeavesTheSpecifiedState : Prop :=
  let s := State.reset
  s.pending = [] ∧ s.boot.held = true ∧ s.ticking = false ∧ s.canonical = true ∧ s.shadow = [] ∧ s.pend = [] ∧ s.commit = none ∧
    s.rd GLB.MEDIA.TICK_LEN = 6 ∧ s.fs = 48000 ∧ s.rd GLB.BUDGET.val = 124488 ∧ s.rd GLB.PROOFLIM.val = 124350 ∧
    s.rd GLB.JBASE.val = 0x1800000 ∧ s.rd GLB.SNAPBASE.val = 0x1000000 ∧ s.num EVT.CTL = 0x2000000 ∧ s.num UPD.CHAINCFG = 0x215EB ∧
    s.rd UPD.POLL.val = 60 ∧ s.num HRD.MUZCFG = 0x3001E0 ∧ s.num HRD.MUZHOLD = 8 ∧ s.rdS MON.TWARN.WARN = 1000 ∧
    (∀ e, e < 16 → s.executes e = false ∧ (s.engine e).st = .idle ∧ s.fetchWord e = 0x58000000) ∧
    (∀ n, n < 64 → (s.kennel n).pkts = [] ∧ (s.kennel n).cur = [])

/-- Words of Genah, written out field by field from the formats of R105 and the opcodes of R107, decode to the instructions they stand for; the four
worked encodings of R107 among them; and a word with an opcode that R107 calls illegal, or with a reserved bit set, decodes to none (R144). -/
def Obligations.GenahWordsDecodeAsTheFormatsSay : Prop :=
  Genah.decode 0b000001_00101_1_0000_0001001000110100 = some (.li 5 true 0x1234) ∧
    Genah.decode 0b000010_00011_00010_0_00111_0000000000 = some (.add 3 2 (.reg 7)) ∧
    Genah.decode 0b001001_00011_00010_1_000000000000101 = some (.sar 3 2 (.imm 5)) ∧
    Genah.decode 0b001100_00100_00001_1111111111111100 = some (.lw 4 1 (-4)) ∧
    Genah.decode 0b010000_0011_000000_0000000000000111 = some (.br 3 7) ∧
    Genah.decode 0b010010_00110_0000000011_00000100000 = some (.loopr 6 3 32) ∧
    Genah.decode 0b010100_000000000000_00000000001001 = some (.call 9) ∧
    Genah.decode 0x60600041 = some (.hset 1 true 0 0x41) ∧ Genah.decode 0x440A0040 = some (.loop 10 64) ∧
    Genah.decode 0x68004000 = some (.vld 0 (.sxm 0 .chan) 0) ∧ Genah.decode 0x88022000 = some (.vmac 0 0 (.scalar 2) 0 false false) ∧
    Genah.decode 0b011011_0010_01_00011_00100_0000000101 = some (.vst 2 (.dmem 3 5) 4) ∧
    Genah.decode 0b100000_0001_0010_0_0_0011_00000_0000001 = some (.vadd 1 2 (.vec 3) 0 true) ∧
    Genah.decode 0b110000_00001_00010_00011_000100_00111 = some (.fetch 1 2 3 4 7) ∧
    Genah.decode 0b111001_00101_0001_010_00000000000000 = some (.tstat 5 1 2) ∧
    Genah.decode 0b111011_00101_00000_0000000000001000 = some (.mark 5 8) ∧
    Genah.decode 0b000000_00000000000000000000000000 = none ∧ Genah.decode 0b001110_00000000000000000000000000 = none ∧
    Genah.decode 0b000010_00011_00010_0_00111_0000000001 = none ∧ Genah.decode 0b010000_1010_000000_0000000000000111 = none

/-- Decoding the word that encodes a well-formed Genah instruction gives it back, whatever the operands; and every word that decodes is the encoding of
the well-formed instruction it decodes to, so a reserved bit that is set makes the word illegal (R105 to R107, R144). -/
def Obligations.GenahDecodeAndEncodeAgree : Prop :=
  (∀ i : Genah, i.wf = true → Machine.Genah.decode (Machine.Genah.encode i) = some i) ∧
    ∀ (w : Nat) (i : Genah), w < 2 ^ 32 → Genah.decode w = some i → i.wf = true ∧ Machine.Genah.encode i = w

/-- Every step keeps the canonical form of the state: the host-addressable words and the byte memories hold rising addresses and no entry at what an
unlisted address reads as, so that equal contents are equal data; and a command touches no command that waits behind it. Model readings: log entry
3. -/
def Obligations.EveryStepKeepsTheStoresCanonical : Prop :=
  (∀ s t : State, s.canonical = true → step s = .next t → t.canonical = true ∧ t.pending = s.pending.tail) ∧
    ∀ (c : Instr) (s t : State), exec c s = .next t → t.pending = s.pending ∧ (s.canonical = true → t.canonical = true)

/-- No command is refused, and only LOOP, LOOPR, ENDL, CALL and RET fault, each on the stack it uses alone: every other command answers a next state in
every state (the faults are the model's, log entry 57). Model readings: log entry 57. -/
def Obligations.EveryCommandAnswersExceptOnGenahStacks : Prop :=
  ∀ (c : Instr) (s : State),
    (∀ r, exec c s ≠ .refused r) ∧
    (∀ f, exec c s = .fault f →
      (∃ e d n, c = .loop e d n ∧ f = .stackOverflow ∧ n ≠ 0 ∧ 4 ≤ (s.engine e).loops.length) ∨
      (∃ e g d n, c = .loopr e g d n ∧ f = .stackOverflow ∧ 4 ≤ (s.engine e).loops.length) ∨
      (∃ e, c = .endl e ∧ f = .stackUnderflow ∧ (s.engine e).loops = []) ∨
      (∃ e a, c = .call e a ∧ f = .stackOverflow ∧ 8 ≤ (s.engine e).calls.length) ∨
      (∃ e, c = .ret e ∧ f = .stackUnderflow ∧ (s.engine e).calls = []))

/-- A report counts in its block and sets its IPEND bit; it goes with a record or a waiting report of the same code, source and tick, or enters the
report store while that has room; and it writes no word outside the EVT block but the MSI-X pending bits (R500 to R503, R507, R508). Model readings:
log entry 9. -/
def Obligations.ReportsCountCoalesceAndWait : Prop :=
  ∀ (code source data : Nat) (s : State), code < 0x1800 → source < 2 ^ 16 →
    let t := s.report code source data
    let q := s.rd EVT.WRSEQ.val
    let r : Report := { code := code, source := source, data := data % 2 ^ 32, tick := s.tick, ns := s.ns, rep := 0, at_ := s.clk.now }
    let same (x : Report) : Prop := x.code = code ∧ x.source = source ∧ x.tick = s.tick
    Reported code s t ∧ (∀ k, reportKey k = false → t.word k = s.word k) ∧ Frame [.live, .evt, .out] s t ∧
      (∀ slot, s.findRecord code source s.tick (min q 1024) q = some slot →
        t.rd (EVT.REP.val slot) = min (s.rd (EVT.REP.val slot) + 1) (2 ^ 32 - 1) ∧ t.evt.waiting = s.evt.waiting) ∧
      (s.findRecord code source s.tick (min q 1024) q = none →
        ((∃ x ∈ s.evt.waiting, same x) → t.evt.waiting.length = s.evt.waiting.length ∧ t.rd EVT.DROPPED.val = s.rd EVT.DROPPED.val) ∧
        ((∀ x ∈ s.evt.waiting, ¬ same x) → s.evt.waiting.length < 16 →
          t.evt.waiting.length = s.evt.waiting.length + 1 ∧ r ∈ t.evt.waiting ∧ (∀ x ∈ s.evt.waiting, x ∈ t.evt.waiting)))

/-- LI, ADD, SUB, AND, OR, XOR, SHL, SHR, SAR and MUL (R108, R109): where engine `e` is about to execute the word, the command answers a next state in
which gd holds the result, g0 stays 0, and nothing else of the block changes but the engine's pc and cycle count. -/
def Obligations.ScalarResultsAreExact : Prop :=
  ∀ (e gd gs imm16 : Nat) (b : SOperand) (s : State),
    let x := s.engine e
    (s.issues e (.li gd false imm16) = true → ∃ t, exec (.li e gd false imm16) s = .next t ∧
      ScalarResult e gd ((BitVec.ofNat 16 imm16).signExtend 32) 1 s t) ∧
    (s.issues e (.li gd true imm16) = true → ∃ t, exec (.li e gd true imm16) s = .next t ∧
      ScalarResult e gd (BitVec.ofNat 16 imm16 ++ (x.reg gd).setWidth 16) 1 s t) ∧
    (s.issues e (.add gd gs b) = true → ∃ t, exec (.add e gd gs b) s = .next t ∧
      ScalarResult e gd (x.reg gs + x.operandSigned b) 1 s t) ∧
    (s.issues e (.sub gd gs b) = true → ∃ t, exec (.sub e gd gs b) s = .next t ∧
      ScalarResult e gd (x.reg gs - x.operandSigned b) 1 s t) ∧
    (s.issues e (.and gd gs b) = true → ∃ t, exec (.and e gd gs b) s = .next t ∧
      ScalarResult e gd (x.reg gs &&& x.operandZero b) 1 s t) ∧
    (s.issues e (.or gd gs b) = true → ∃ t, exec (.or e gd gs b) s = .next t ∧
      ScalarResult e gd (x.reg gs ||| x.operandZero b) 1 s t) ∧
    (s.issues e (.xor gd gs b) = true → ∃ t, exec (.xor e gd gs b) s = .next t ∧
      ScalarResult e gd (x.reg gs ^^^ x.operandZero b) 1 s t) ∧
    (s.issues e (.shl gd gs b) = true → ∃ t, exec (.shl e gd gs b) s = .next t ∧
      ScalarResult e gd (x.reg gs <<< x.operandShift b) 1 s t) ∧
    (s.issues e (.shr gd gs b) = true → ∃ t, exec (.shr e gd gs b) s = .next t ∧
      ScalarResult e gd (x.reg gs >>> x.operandShift b) 1 s t) ∧
    (s.issues e (.sar gd gs b) = true → ∃ t, exec (.sar e gd gs b) s = .next t ∧
      ScalarResult e gd ((x.reg gs).sshiftRight (x.operandShift b)) 1 s t) ∧
    (s.issues e (.mul gd gs b) = true → ∃ t, exec (.mul e gd gs b) s = .next t ∧
      ScalarResult e gd (x.reg gs * x.operandSigned b) 2 s t)

/-- CMP sets Z, N, C and V from a subtraction and writes no register; BR is taken exactly as the flags and its condition say; no other part of the
engine or of the block changes (R110, R111). Model readings: log entry 14. -/
def Obligations.CompareSetsFlagsAndBranchReadsThem : Prop :=
  ∀ (e gs cond offset : Nat) (b : SOperand) (s : State),
    let x := s.engine e
    let a := x.reg gs
    let c := x.operandSigned b
    (s.issues e (.cmp gs b) = true → ∃ t, exec (.cmp e gs b) s = .next t ∧
      EngineOnly e { x with z := a - c == 0, n := (a - c).msb, c := c.ule a,
                            o := (a.toInt - c.toInt) != (a - c).toInt, pc := x.pc + 1, cycles := x.cycles + 1 } s t) ∧
    (s.issues e (.br cond offset) = true →
      let taken : Prop :=
        (cond = 0) ∨ (cond = 1 ∧ x.z = true) ∨ (cond = 2 ∧ x.z = false) ∨ (cond = 3 ∧ x.n ≠ x.o) ∨ (cond = 4 ∧ x.n = x.o)
          ∨ (cond = 5 ∧ x.z = false ∧ x.n = x.o) ∨ (cond = 6 ∧ (x.z = true ∨ x.n ≠ x.o)) ∨ (cond = 7 ∧ x.c = false)
          ∨ (cond = 8 ∧ x.c = true)
      ∃ t, exec (.br e cond offset) s = .next t ∧
        (taken → EngineOnly e { x with pc := x.pc + offset, cycles := x.cycles + 2 } s t) ∧
        (¬ taken → EngineOnly e { x with pc := x.pc + 1, cycles := x.cycles + 1 } s t))

/-- LW and SW reach the DMEM word at (g[gb] + simm16) mod the DMEM size, address bits [1:0] ignored (R112). LW gives the youngest store that the
engine's run-ahead holds there, or else the memory's word (R82). SW stores its word outside run-ahead and holds it as one RSB entry during run-ahead
(R143), which stalls on a full RSB (R82, R83); no other byte of DMEM and nothing else changes. -/
def Obligations.DmemWordLoadsAndStores : Prop :=
  ∀ (e r gb : Nat) (simm16 : Int) (s : State),
    let x := s.engine e
    let a := ((Int.ofNat (x.gr gb) + simm16) % Int.ofNat (if s.braced e then 2 ^ 19 else 2 ^ 18)).toNat / 4 * 4
    (s.issues e (.lw r gb simm16) = true →
      ∃ t, exec (.lw e r gb simm16) s = .next t ∧
        (∀ w, rsbDmem a x.rsb = some w → ScalarResult e r w 2 s t) ∧
        (rsbDmem a x.rsb = none → ScalarResult e r (BitVec.ofNat 32 (Memory.word s.dmem (dmemKey e a))) 2 s t)) ∧
    (s.issues e (.sw r gb simm16) = true → x.ahead = false →
      ∃ t, exec (.sw e r gb simm16) s = .next t ∧ t.engine e = { x with pc := x.pc + 1, cycles := x.cycles + 1 } ∧
        (∀ j, j ≠ e → t.engine j = s.engine j) ∧ Memory.word t.dmem (dmemKey e a) = (x.reg r).toNat ∧
        (∀ k, ¬ (dmemKey e a ≤ k ∧ k < dmemKey e a + 4) → Memory.byte t.dmem k = Memory.byte s.dmem k) ∧ Frame [.ge, .dmem] s t) ∧
    (s.issues e (.sw r gb simm16) = true → x.ahead = true → x.rsb.length < s.rsbSize e →
      ∃ t, exec (.sw e r gb simm16) s = .next t ∧
        EngineOnly e { x with rsb := .dmem [(a, x.reg r)] :: x.rsb, pc := x.pc + 1, cycles := x.cycles + 1 } s t) ∧
    (s.issues e (.sw r gb simm16) = true → x.ahead = true → s.rsbSize e ≤ x.rsb.length →
      ∃ t, exec (.sw e r gb simm16) s = .next t ∧ RunAheadStalls e s t)

/-- LOOP and LOOPR push a loop level, or skip the body at a count of 0; LOOPR limits its count to max and reports the first clamp of a run; ENDL goes
back while the count stays above 0 and pops the level when it reaches 0 (R113). A push on a full loop stack and an ENDL on an empty one stop under
their own names (the model's faults, log entry 57). CALL pushes PC + 1 and jumps; RET pops and jumps to the popped address (R114). A full or empty
call stack stops under its own name (the model's faults, log entry 57). ENDT ends the program at once, keeps the transactions in flight, and records
its cycles and their peak (R76, R115). Model readings: log entry 57. -/
def Obligations.LoopsCallsAndTheEndOfTheTick : Prop :=
  (∀ (e gs d count max : Nat) (s : State),
     let x := s.engine e
     let n := min (x.gr gs) max
     let clamp := decide (max < x.gr gs) && !x.clampSeen
     let skip (k : Nat) (y : Engine) : Engine := { y with pc := x.pc + d + 1, cycles := x.cycles + k + 1 }
     let enter (n k : Nat) (y : Engine) : Engine :=
       { y with loops := { start := x.pc + 1, count := n } :: x.loops, pc := x.pc + 1, cycles := x.cycles + k }
     (s.issues e (.loop d count) = true →
       (count = 0 → ∃ t, exec (.loop e d count) s = .next t ∧ EngineOnly e (skip 1 x) s t) ∧
       (count ≠ 0 → x.loops.length < 4 → ∃ t, exec (.loop e d count) s = .next t ∧ EngineOnly e (enter count 1 x) s t) ∧
       (count ≠ 0 → 4 ≤ x.loops.length → exec (.loop e d count) s = .fault .stackOverflow)) ∧
     (s.issues e (.loopr gs d max) = true →
       (n = 0 → ∃ t, exec (.loopr e gs d max) s = .next t ∧ EngineOnly e (skip 2 x) s t) ∧
       (n ≠ 0 → x.loops.length < 4 → clamp = false →
         ∃ t, exec (.loopr e gs d max) s = .next t ∧ EngineOnly e (enter n 2 x) s t) ∧
       (n ≠ 0 → x.loops.length < 4 → clamp = true →
         ∃ t, exec (.loopr e gs d max) s = .next t ∧ t.engine e = enter n 2 { x with clampSeen := true } ∧
           (∀ j, j ≠ e → t.engine j = s.engine j) ∧ Reported 0x0E04 s t ∧
           (∀ k, reportKey k = false → t.word k = s.word k) ∧ Frame [.live, .evt, .ge, .out] s t) ∧
       (n ≠ 0 → 4 ≤ x.loops.length → exec (.loopr e gs d max) s = .fault .stackOverflow)) ∧
     (s.issues e .endl = true →
       (∀ l ls, x.loops = l :: ls → l.count ≤ 1 →
         ∃ t, exec (.endl e) s = .next t ∧ EngineOnly e { x with loops := ls, pc := x.pc + 1, cycles := x.cycles + 1 } s t) ∧
       (∀ l ls, x.loops = l :: ls → 1 < l.count →
         ∃ t, exec (.endl e) s = .next t ∧
           EngineOnly e { x with loops := { l with count := l.count - 1 } :: ls, pc := l.start, cycles := x.cycles + 1 } s t) ∧
       (x.loops = [] → exec (.endl e) s = .fault .stackUnderflow))) ∧
  (∀ (e target : Nat) (s : State),
     let x := s.engine e
     (s.issues e (.call target) = true →
       (x.calls.length < 8 → ∃ t, exec (.call e target) s = .next t ∧
         EngineOnly e { x with calls := (x.pc + 1) :: x.calls, pc := target, cycles := x.cycles + 2 } s t) ∧
       (8 ≤ x.calls.length → exec (.call e target) s = .fault .stackOverflow)) ∧
     (s.issues e .ret = true →
       (∀ p ps, x.calls = p :: ps → ∃ t, exec (.ret e) s = .next t ∧
         EngineOnly e { x with calls := ps, pc := p, cycles := x.cycles + 2 } s t) ∧
       (x.calls = [] → exec (.ret e) s = .fault .stackUnderflow))) ∧
  (∀ (e : Nat) (s : State), s.issues e .endt = true →
     let x := s.engine e
     let cyc := (x.cycles + 1) % 2 ^ 21
     ∃ t, exec (.endt e) s = .next t ∧
       (t.engine e).st = .idle ∧ (t.engine e).done = true ∧ (t.engine e).tickets = x.tickets ∧
       (x.ahead = false → (t.engine e).okTick = some x.tick) ∧ (x.ahead = true → (t.engine e).okTick = x.okTick) ∧
       (∀ j, j ≠ e → t.engine j = s.engine j) ∧
       t.rd (GE.LASTCYC.CYC e) = cyc ∧ t.rd (GE.PEAKCYC.CYC e) = max (s.rd (GE.PEAKCYC.CYC e)) cyc ∧
       (∀ k, k ≠ GE.LASTCYC e → k ≠ GE.PEAKCYC e → t.word k = s.word k) ∧ Frame [.live, .ge] s t)

/-- HSET binds a buffer declared in the direction named, in frame n or n + 1, with its cursor at 0, and any other buffer as the null handle with a
report; HADV moves or sets the cursor modulo 2^32 (R72, R116, R117). TKIDX and TSTAT read the values that the rules name; MUZ and MARK act at once
outside run-ahead and take one RSB entry during it (R139 to R143). Model readings: log entries 12, 14, 15. -/
def Obligations.HandlesStatusMuzzleAndMarks : Prop :=
  (∀ (e h gs imm13 : Nat) (out set : Bool) (simm16 : Int) (s : State),
     let x := s.engine e
     let b := (x.gr gs + imm13) % 8192
     let declared := if out then (s.outputs e).contains b else (s.inputs e).contains b
     let bound (b : Option Nat) : Handle :=
       { buf := b, out := out, frame := if out then (x.tick + 1) % 2 ^ 32 else x.tick, cursor := 0 }
     (s.issues e (.hset h out gs imm13) = true → declared = true →
       ∃ t, exec (.hset e h out gs imm13) s = .next t ∧ (t.engine e).handle h = some (bound (some b)) ∧
         (∀ i, i ≠ h → (t.engine e).handle i = x.handle i) ∧
         { t.engine e with handles := x.handles, pc := x.pc, cycles := x.cycles } = x ∧ (t.engine e).pc = x.pc + 1 ∧
         (t.engine e).cycles = x.cycles + 4 ∧ (∀ j, j ≠ e → t.engine j = s.engine j) ∧ Frame [.ge] s t) ∧
     (s.issues e (.hset h out gs imm13) = true → declared = false →
       ∃ t, exec (.hset e h out gs imm13) s = .next t ∧ (t.engine e).handle h = some (bound none) ∧
         t.flag (GE.HIST.HANDLE_FAULT e) = true ∧ Reported 0x0E02 s t ∧ Frame [.live, .evt, .ge, .out] s t) ∧
     (s.issues e (.hadv h set gs simm16) = true →
       ∃ t, exec (.hadv e h set gs simm16) s = .next t ∧
         (∀ hd, x.handle h = some hd → hd.cursor < 2 ^ 32 → (t.engine e).handle h = some { hd with cursor :=
           ((if set then (0 : Word) else BitVec.ofNat 32 hd.cursor) + x.reg gs + BitVec.ofInt 32 simm16).toNat }) ∧
         (∀ i, i ≠ h → (t.engine e).handle i = x.handle i) ∧
         { t.engine e with handles := x.handles, pc := x.pc, cycles := x.cycles } = x ∧ (t.engine e).pc = x.pc + 1 ∧
         (t.engine e).cycles = x.cycles + 1 ∧ (∀ j, j ≠ e → t.engine j = s.engine j) ∧ Frame [.ge] s t)) ∧
  (∀ (e gd hv sel gs gm imm16 : Nat) (s : State),
     let x := s.engine e
     let d := imm16 * 2 ^ 16 + x.gr gs % 2 ^ 16
     let lanes := s.muzLanes e x hv gm
     let hd := x.handleOf hv
     (s.issues e (.tkidx gd sel) = true → ∃ t, exec (.tkidx e gd sel) s = .next t ∧
       ScalarResult e gd (BitVec.ofNat 32 (if sel = 0 then x.tick else if sel = 1 then s.tickLen else e)) 1 s t) ∧
     (s.issues e (.tstat gd hv 2) = true → ∃ v t, exec (.tstat e gd hv 2) s = .next t ∧ ScalarResult e gd v 2 s t ∧
       ∀ i, i < 32 → v.getLsbD i = (decide (i < s.lanesOf e) && (x.lane hv i).tag)) ∧
     (s.issues e (.tstat gd hv 3) = true → ∃ t, exec (.tstat e gd hv 3) s = .next t ∧
       ScalarResult e gd (BitVec.ofNat 32 x.sat) 2 s t) ∧
     (∀ m, s.issues e (.tstat gd hv m) = true → m = 0 ∨ m = 1 ∨ m = 4 ∨ m = 5 → hd.buf = none →
       ∃ t, exec (.tstat e gd hv m) s = .next t ∧ ScalarResult e gd 0 2 s t) ∧
     (∀ b, s.issues e (.tstat gd hv 0) = true → hd.buf = some b → ∃ t, exec (.tstat e gd hv 0) s = .next t ∧
       ScalarResult e gd (BitVec.ofNat 32 (s.tstatFrame e b hd)) 2 s t) ∧
     (∀ b, s.issues e (.tstat gd hv 1) = true → hd.buf = some b → ∃ t, exec (.tstat e gd hv 1) s = .next t ∧
       ScalarResult e gd (BitVec.ofNat 32 (s.tstatMuzzle b hd (s.lanesOf e))) 2 s t) ∧
     (∀ b, s.issues e (.tstat gd hv 4) = true → hd.buf = some b → ∃ t, exec (.tstat e gd hv 4) s = .next t ∧
       ScalarResult e gd (BitVec.ofNat 32 (s.bufC b)) 2 s t) ∧
     (∀ b, s.issues e (.tstat gd hv 5) = true → hd.buf = some b → ∃ t, exec (.tstat e gd hv 5) s = .next t ∧
       ScalarResult e gd (BitVec.ofNat 32 (s.bufS b)) 2 s t) ∧
     (s.issues e (.tstat gd hv 6) = true → ∃ t, exec (.tstat e gd hv 6) s = .next t ∧
       ScalarResult e gd (BitVec.ofNat 32 hd.cursor) 2 s t) ∧
     (s.issues e (.muz hv gm) = true → x.ahead = false → ∃ t, exec (.muz e hv gm) s = .next t ∧
       t.engine e = { x with pc := x.pc + 1, cycles := x.cycles + 2 } ∧ (∀ j, j ≠ e → t.engine j = s.engine j) ∧
       (∀ b c f, (∃ m ∈ t.marks, m.buf = b ∧ m.ch = c ∧ m.frame = f) ↔
         ((b, c) ∈ lanes ∧ f = (x.tick + 1) % 2 ^ 32) ∨ ∃ m ∈ s.marks, m.buf = b ∧ m.ch = c ∧ m.frame = f) ∧ Frame [.ge, .marks] s t) ∧
     (s.issues e (.muz hv gm) = true → x.ahead = true → x.rsb.length < s.rsbSize e → ∃ t, exec (.muz e hv gm) s = .next t ∧
       EngineOnly e { x with rsb := .muz lanes :: x.rsb, pc := x.pc + 1, cycles := x.cycles + 2 } s t) ∧
     (s.issues e (.mark gs imm16) = true → x.ahead = false → ∃ t, exec (.mark e gs imm16) s = .next t ∧
       t.engine e = { x with pc := x.pc + 1, cycles := x.cycles + 2 } ∧ (∀ j, j ≠ e → t.engine j = s.engine j) ∧ Reported 0x0E07 s t ∧
       (∀ k, reportKey k = false → t.word k = s.word k) ∧ Frame [.live, .evt, .ge, .out] s t) ∧
     (s.issues e (.mark gs imm16) = true → x.ahead = true → x.rsb.length < s.rsbSize e → ∃ t, exec (.mark e gs imm16) s = .next t ∧
       EngineOnly e { x with rsb := .mark d :: x.rsb, pc := x.pc + 1, cycles := x.cycles + 2 } s t))

/-- VLD writes each enabled lane from SXM, DMEM or FBUF and leaves the others (R118 to R122). Through a handle, an out-of-frame lane and every lane of
the null handle become 0 with tag 0; an in-frame lane takes the tag of its sample frame (1 through an OUT handle) and, where the tag is 1 and no
run-ahead store is held there, the container in SXM. A DMEM or FBUF lane has tag 1. The SXM wait is counted. Model readings: log entries 4, 5, 12,
15. -/
def Obligations.VectorLoadsFillEnabledLanes : Prop :=
  ∀ (e v h gm gb imm10 wait : Nat) (st : Stride) (s : State),
    let x := s.engine e
    let hd := x.handleOf h
    (s.issues e (.vld v (.sxm h st) gm) = true → wait < 160 → v < 16 →
      ∃ t, exec (.vld e v (.sxm h st) gm wait) s = .next t ∧
        (t.engine e).pc = x.pc + 1 ∧ (t.engine e).cycles = x.cycles + 2 + wait ∧
        (∀ i, i < s.lanesOf e →
          (x.enabled gm i = false → (t.engine e).lane v i = x.lane v i) ∧
          (x.enabled gm i = true → hd.buf = none → (t.engine e).lane v i = ⟨0, false⟩) ∧
          (∀ b, x.enabled gm i = true → hd.buf = some b →
            let p := signed32 hd.cursor + Int.ofNat i * x.stride (s.bufC b) st
            (p < 0 ∨ Int.ofNat (s.bufC b * s.bufS b) ≤ p → (t.engine e).lane v i = ⟨0, false⟩) ∧
            (0 ≤ p → p < Int.ofNat (s.bufC b * s.bufS b) →
              let a := s.sxmAddr b hd.frame p.toNat
              let tag := hd.out || s.inTag e b hd.frame (p.toNat / s.bufC b)
              ((t.engine e).lane v i).tag = tag ∧
              (∀ w, rsbSxm a x.rsb = some w → ((t.engine e).lane v i).val = w) ∧
              (rsbSxm a x.rsb = none → tag = true → ((t.engine e).lane v i).val.toNat = s.sxmWord a)))) ∧
        (∀ r i, i < 16 → r ≠ v ∨ s.lanesOf e ≤ i → (t.engine e).lane r i = x.lane r i) ∧
        { t.engine e with v := x.v, pc := x.pc, cycles := x.cycles } = x ∧
        t.rd (GE.SXMWAIT.val e) = (s.rd (GE.SXMWAIT.val e) + wait) % 2 ^ 32 ∧ (∀ k, k ≠ GE.SXMWAIT e → t.word k = s.word k) ∧
        (∀ j, j ≠ e → t.engine j = s.engine j) ∧ Frame [.live, .ge, .free] s t) ∧
    (s.issues e (.vld v (.dmem gb imm10) gm) = true →
      ∃ t, exec (.vld e v (.dmem gb imm10) gm wait) s = .next t ∧ VectorResult e v 2 0 s t ∧ (t.engine e).lfsr = x.lfsr ∧
        (∀ i, i < s.lanesOf e → (t.engine e).lane v i = if x.enabled gm i then
          ⟨BitVec.ofNat 32 (s.loadDmem e ((x.gr gb + imm10 * 4 + 4 * i) % s.dmemSize e / 4 * 4)), true⟩ else x.lane v i)) ∧
    (s.issues e (.vld v (.fbuf gb imm10) gm) = true →
      let at_ (i : Nat) := (x.gr gb + imm10 * 4 + 4 * i) % s.fbufSize e / 4 * 4
      (x.fetching ((x.lanes gm (s.lanesOf e)).map at_) = true → exec (.vld e v (.fbuf gb imm10) gm wait) s = .next s) ∧
      (x.fetching ((x.lanes gm (s.lanesOf e)).map at_) = false →
        ∃ t, exec (.vld e v (.fbuf gb imm10) gm wait) s = .next t ∧ VectorResult e v (2 + wait) 0 s t ∧ (t.engine e).lfsr = x.lfsr ∧
          (∀ i, i < s.lanesOf e → (t.engine e).lane v i = if x.enabled gm i then
            ⟨BitVec.ofNat 32 (x.loadFbuf (at_ i)), true⟩ else x.lane v i)))

/-- VST stores its enabled, in-frame lanes whatever their tags: outside run-ahead into SXM, DMEM or FBUF, and during run-ahead as one RSB entry (R118 to
R122, R138, R143); on a full store buffer the run-ahead stalls (R82, R83). The bytes stored to are those of the addresses that the meaning computes;
every other byte stays. Model readings: log entries 12, 15. -/
def Obligations.VectorStoresReachTheirAddresses : Prop :=
  ∀ (e v h gm gb imm10 wait : Nat) (st : Stride) (s : State),
    let x := s.engine e
    let n := s.lanesOf e
    let sx := s.sxmCells x v (x.handleOf h) st gm n
    let dm := (x.lanes gm n).map (fun i => (s.dmemAddr e (x.gr gb) (laneOffset imm10 i), (x.lane v i).val))
    let fb := (x.lanes gm n).map (fun i => (s.fbufAddr e (x.gr gb) (laneOffset imm10 i), (x.lane v i).val))
    let after (k : Nat) : Engine := { x with pc := x.pc + 1, cycles := x.cycles + k }
    let others (t : State) : Prop := ∀ j, j ≠ e → t.engine j = s.engine j
    let waited (t : State) : Prop := t.rd (GE.SXMWAIT.val e) = (s.rd (GE.SXMWAIT.val e) + wait) % 2 ^ 32 ∧
      (∀ k, k ≠ GE.SXMWAIT e → t.word k = s.word k) ∧ others t
    (s.issues e (.vst v (.sxm h st) gm) = true → wait < 160 → x.ahead = false →
      ∃ t, exec (.vst e v (.sxm h st) gm wait) s = .next t ∧ t.engine e = after (1 + wait) ∧ waited t ∧
        (∀ p, sx.getLast? = some p → t.sxmWord p.1 = p.2.toNat) ∧
        (∀ a, (∀ p, p ∈ sx → ¬ (p.1 ≤ a ∧ a < p.1 + 4)) → Memory.byte t.sxm a = Memory.byte s.sxm a) ∧
        Frame [.live, .sxm, .sxmPast, .ge] s t) ∧
    (s.issues e (.vst v (.dmem gb imm10) gm) = true → x.ahead = false →
      ∃ t, exec (.vst e v (.dmem gb imm10) gm wait) s = .next t ∧ t.engine e = after 1 ∧ others t ∧
        (∀ p, dm.getLast? = some p → Memory.word t.dmem (dmemKey e p.1) = p.2.toNat) ∧
        (∀ a, (∀ p, p ∈ dm → ¬ (dmemKey e p.1 ≤ a ∧ a < dmemKey e p.1 + 4)) → Memory.byte t.dmem a = Memory.byte s.dmem a) ∧
        Frame [.dmem, .ge] s t) ∧
    (s.issues e (.vst v (.fbuf gb imm10) gm) = true → x.ahead = false →
      (x.putting (fb.map (·.1)) = true → exec (.vst e v (.fbuf gb imm10) gm wait) s = .next s) ∧
      (x.putting (fb.map (·.1)) = false →
        ∃ t, exec (.vst e v (.fbuf gb imm10) gm wait) s = .next t ∧
          (∀ p, fb.getLast? = some p → (t.engine e).fbufWord p.1 = p.2.toNat) ∧
          (∀ a, (∀ p, p ∈ fb → p.1 ≠ a) → (t.engine e).fbufWord a = x.fbufWord a) ∧
          { t.engine e with fbuf := x.fbuf } = after (1 + wait) ∧ others t ∧ Frame [.ge] s t)) ∧
    (x.ahead = true → x.rsb.length < s.rsbSize e →
      (s.issues e (.vst v (.sxm h st) gm) = true → wait < 160 →
        ∃ t, exec (.vst e v (.sxm h st) gm wait) s = .next t ∧ t.engine e = { after (1 + wait) with rsb := .sxm sx :: x.rsb } ∧
          waited t ∧ Frame [.live, .ge] s t) ∧
      (s.issues e (.vst v (.dmem gb imm10) gm) = true →
        ∃ t, exec (.vst e v (.dmem gb imm10) gm wait) s = .next t ∧
          EngineOnly e { after 1 with rsb := .dmem dm :: x.rsb } s t) ∧
      (s.issues e (.vst v (.fbuf gb imm10) gm) = true → x.putting (fb.map (·.1)) = false →
        ∃ t, exec (.vst e v (.fbuf gb imm10) gm wait) s = .next t ∧
          EngineOnly e { after (1 + wait) with rsb := .fbuf fb :: x.rsb } s t)) ∧
    (x.ahead = true → s.rsbSize e ≤ x.rsb.length →
      (s.issues e (.vst v (.sxm h st) gm) = true → wait < 160 →
        ∃ t, exec (.vst e v (.sxm h st) gm wait) s = .next t ∧ RunAheadStalls e s t) ∧
      (s.issues e (.vst v (.dmem gb imm10) gm) = true →
        ∃ t, exec (.vst e v (.dmem gb imm10) gm wait) s = .next t ∧ RunAheadStalls e s t))

/-- The vector arithmetic: every enabled lane takes the exact result, rounded and saturated as the rules say, with the AND of the operands' tags, and
each saturated lane counts; a disabled lane keeps its value and tag; VSEL writes every lane by its selector, VPEAK holds the peak of valid lanes,
VRAMP writes a ramp of valid lanes, and VDITH with T = 0 steps the LFSR once for every lane, enabled or not (R103, R123 to R131, R133). What VPEAK
does with a tag is read into R129 (log entry 11), and its tags are not stated. Model readings: log entry 11. -/
def Obligations.VectorResultsAreExactPerLane : Prop :=
  ∀ (e vd va vb ad gs gt gm sh w : Nat) (b : VOperand) (z neg : Bool) (s : State),
    let x := s.engine e
    let top : Int := 2 ^ 31 - 1
    let clamp (y : Int) : Int := max (-(2 ^ 31)) (min top y)
    let sat (y : Int) : Word := BitVec.ofInt 32 (clamp y)
    let A (i : Nat) : Lane := x.lane va i
    let B (i : Nat) : Lane := x.vOperand b i
    let tag (i : Nat) : Bool := (A i).tag && (B i).tag
    let prod (i : Nat) : Int := (A i).val.toInt * (B i).val.toInt
    let sum (i : Nat) : Int := if neg then (A i).val.toInt - (B i).val.toInt else (A i).val.toInt + (B i).val.toInt
    let term (i : Nat) : Int := if neg then - prod i else prod i
    let wide (i : Nat) : Int := (x.acc ad i).val.toInt + term i
    let narrow (i : Nat) : Int := ((x.acc ad i).val.toInt + 2 ^ (27 + sh)) / 2 ^ (28 + sh)
    let ramp (i : Nat) : Int := (x.reg gs).toInt + Int.ofNat i * (x.reg gt).toInt
    let steps (i : Nat) : Nat := lfsrStep^[i + 1] x.lfsr
    let noisy (i : Nat) : Int := (A i).val.toInt + (Int.ofNat (steps i % 2 ^ 16) - Int.ofNat (steps i / 2 ^ 16)) / 2 ^ (w - 16)
    let cut (v : Word) : Word := (v >>> (32 - w)) <<< (32 - w)
    let off (y : Nat → Int) : Nat := s.lanesWith e gm (fun i => clamp (y i) != y i)
    let writes (t : State) (f : Nat → Lane) : Prop :=
      ∀ i, i < s.lanesOf e → (t.engine e).lane vd i = if x.enabled gm i then f i else x.lane vd i
    (s.issues e (.vadd vd va b gm neg) = true → ∃ t, exec (.vadd e vd va b gm neg) s = .next t ∧
      VectorResult e vd 1 (off sum) s t ∧ (t.engine e).lfsr = x.lfsr ∧ writes t (fun i => ⟨sat (sum i), tag i⟩)) ∧
    (s.issues e (.vmul vd va b gm) = true → ∃ t, exec (.vmul e vd va b gm) s = .next t ∧
      VectorResult e vd 2 (off (fun i => (prod i + 2 ^ 27) / 2 ^ 28)) s t ∧ (t.engine e).lfsr = x.lfsr ∧
        writes t (fun i => ⟨sat ((prod i + 2 ^ 27) / 2 ^ 28), tag i⟩)) ∧
    (s.issues e (.vmac ad va b gm z neg) = true → ∃ t, exec (.vmac e ad va b gm z neg) s = .next t ∧
      { t.engine e with a := x.a, sat := x.sat, pc := x.pc, cycles := x.cycles } = x ∧ (t.engine e).pc = x.pc + 1 ∧
        (t.engine e).cycles = x.cycles + 1 ∧
        (∀ r i, i < 16 → r ≠ ad ∨ s.lanesOf e ≤ i → (t.engine e).acc r i = x.acc r i) ∧
        (∀ i, i < s.lanesOf e → (t.engine e).acc ad i = if x.enabled gm i then
          (if z then ⟨BitVec.ofInt 64 (term i), tag i⟩
           else ⟨BitVec.ofInt 64 (max (-(2 ^ 63)) (min (2 ^ 63 - 1) (wide i))), (x.acc ad i).tag && tag i⟩) else x.acc ad i) ∧
        (∀ j, j ≠ e → t.engine j = s.engine j) ∧ Frame [.ge] s t) ∧
    (s.issues e (.vsat vd ad gm sh) = true → ∃ t, exec (.vsat e vd ad gm sh) s = .next t ∧
      VectorResult e vd 2 (off narrow) s t ∧ (t.engine e).lfsr = x.lfsr ∧ writes t (fun i => ⟨sat (narrow i), (x.acc ad i).tag⟩)) ∧
    (s.issues e (.vsel vd va vb gm) = true → ∃ t, exec (.vsel e vd va vb gm) s = .next t ∧
      VectorResult e vd 1 0 s t ∧ (t.engine e).lfsr = x.lfsr ∧
        ∀ i, i < s.lanesOf e → (t.engine e).lane vd i = if (x.reg gm).getLsbD i then A i else x.lane vb i) ∧
    (s.issues e (.vpeak vd va gm) = true → ∃ t, exec (.vpeak e vd va gm) s = .next t ∧
      VectorResult e vd 1 0 s t ∧ (t.engine e).lfsr = x.lfsr ∧
        ∀ i, i < s.lanesOf e → ((t.engine e).lane vd i).val = if x.enabled gm i && (A i).tag then
          BitVec.ofInt 32 (max (x.lane vd i).val.toInt (min top |(A i).val.toInt|)) else (x.lane vd i).val) ∧
    (s.issues e (.vramp vd gs gt gm) = true → ∃ t, exec (.vramp e vd gs gt gm) s = .next t ∧
      VectorResult e vd 2 0 s t ∧ (t.engine e).lfsr = x.lfsr ∧ writes t (fun i => ⟨sat (ramp i), true⟩)) ∧
    (s.issues e (.vdith vd va b gm w true) = true → ∃ t, exec (.vdith e vd va b gm w true) s = .next t ∧
      VectorResult e vd 2 0 s t ∧ (t.engine e).lfsr = x.lfsr ∧ writes t (fun i => ⟨cut (A i).val, (A i).tag⟩)) ∧
    (s.issues e (.vdith vd va b gm w false) = true → ∃ t, exec (.vdith e vd va b gm w false) s = .next t ∧
      VectorResult e vd 2 (off noisy) s t ∧ (t.engine e).lfsr = lfsrStep^[s.lanesOf e] x.lfsr ∧
        writes t (fun i => ⟨cut (sat (noisy i)), (A i).tag⟩))

/-- FETCH and PUT: an undeclared region moves nothing, takes no ticket and is reported; else, with a ticket free and no interlock, the transfer is
issued, with its number, over the region's words, wrapping at its size, and FBUF's words; a PUT of a run-ahead is held, and a FETCH that one
overlaps stalls. WAITF goes on once every transaction but the k most recently issued has completed (R74, R134 to R138). DRAM_TRANSACTION_COMPLETE,
met by no ECC error: a transaction that no earlier overlapping one precedes leaves the engine's list, and a PUT that waits for a ticket takes a free
one; a PUT writes its words to DRAM and touches no other byte of it, a FETCH writes FBUF and no DRAM (R74, R134, R137). Model readings: log entries
47, 58, 67. -/
def Obligations.TransfersTakeTicketsAndComplete : Prop :=
  (∀ (e gf go gx region len k wait : Nat) (s : State),
     let x := s.engine e
     let r := (region + x.gr gx) % 64
     let d := (List.range (len + 1)).map (fun i => s.regionBase e r + (x.gr go % s.regionSize e r / 4 * 4 + 4 * i) % s.regionSize e r)
     let f := (List.range (len + 1)).map (fun i => (x.gr gf + 4 * i) % s.fbufSize e / 4 * 4)
     let fetch : Genah := .fetch gf go gx region len
     let put : Genah := .put gf go gx region len
     (s.issues e fetch = true →
       (s.nReg e ≤ r → ∃ t, exec (.fetch e gf go gx region len wait) s = .next t ∧ Reported 0x0E05 s t ∧
         t.engine e = { x with pc := x.pc + 1, cycles := x.cycles + 2 } ∧ (∀ j, j ≠ e → t.engine j = s.engine j) ∧
         (∀ j, reportKey j = false → t.word j = s.word j) ∧ Frame [.live, .evt, .ge, .out] s t) ∧
       (r < s.nReg e → rsbPutOverlap d f x.rsb = false → x.ticketsHeld < s.ticketCount e → x.putting f = false →
         ∃ t, exec (.fetch e gf go gx region len wait) s = .next t ∧
           EngineOnly e { x with tickets := x.tickets ++ [{ put := false, seq := x.issued, dram := d, fbuf := f, words := [], held := true }],
                                 issued := x.issued + 1, pc := x.pc + 1, cycles := x.cycles + (2 + wait) } s t) ∧
       (r < s.nReg e → rsbPutOverlap d f x.rsb = false → s.ticketCount e ≤ x.ticketsHeld ∨ x.putting f = true →
         exec (.fetch e gf go gx region len wait) s = .next s) ∧
       (r < s.nReg e → rsbPutOverlap d f x.rsb = true →
         ∃ t, exec (.fetch e gf go gx region len wait) s = .next t ∧ EngineOnly e { x with st := .rsbStall } s t)) ∧
     (s.issues e put = true →
       (s.nReg e ≤ r → ∃ t, exec (.put e gf go gx region len wait) s = .next t ∧ Reported 0x0E05 s t ∧
         t.engine e = { x with pc := x.pc + 1, cycles := x.cycles + 2 } ∧ (∀ j, j ≠ e → t.engine j = s.engine j) ∧
         (∀ j, reportKey j = false → t.word j = s.word j) ∧ Frame [.live, .evt, .ge, .out] s t) ∧
       (r < s.nReg e → x.ahead = false → x.ticketsHeld < s.ticketCount e →
         ∃ t, exec (.put e gf go gx region len wait) s = .next t ∧
           EngineOnly e { x with
             tickets := x.tickets ++ [{ put := true, seq := x.issued, dram := d, fbuf := f, words := f.map x.fbufWord, held := true }],
             issued := x.issued + 1, pc := x.pc + 1, cycles := x.cycles + (2 + wait) } s t) ∧
       (r < s.nReg e → x.ahead = false → s.ticketCount e ≤ x.ticketsHeld →
         exec (.put e gf go gx region len wait) s = .next s) ∧
       (r < s.nReg e → x.ahead = true → x.rsb.length < s.rsbSize e →
         ∃ t, exec (.put e gf go gx region len wait) s = .next t ∧
           EngineOnly e { x with rsb := .put d f :: x.rsb, pc := x.pc + 1, cycles := x.cycles + (2 + wait) } s t)) ∧
     (s.issues e (.waitf k) = true →
       ((∀ u ∈ x.tickets, x.issued ≤ u.seq + k) ∨ (s.braced e = false ∧ 8 ≤ k) →
         ∃ t, exec (.waitf e k wait) s = .next t ∧ EngineOnly e { x with pc := x.pc + 1, cycles := x.cycles + (1 + wait) } s t) ∧
       ((∃ u ∈ x.tickets, u.seq + k < x.issued) → (s.braced e = true ∨ k < 8) → exec (.waitf e k wait) s = .next s))) ∧
  (∀ (e i : Nat) (u : Ticket) (s : State),
     let x := s.engine e
     let left := x.tickets.eraseIdx i
     let free := s.ticketCount e - (left.filter (·.held)).length
     let after : Engine := { x with tickets := left ++ x.waitPuts.take free, waitPuts := x.waitPuts.drop free }
     e < 16 → x.tickets[i]? = some u → mayComplete x.tickets i = true →
       ∃ t, exec (.dramTransactionComplete e i [] 0) s = .next t ∧
         (∀ j, j ≠ e → t.engine j = s.engine j) ∧
         (u.put = true → t.engine e = after ∧
           (∀ p, (u.dram.zip u.words).getLast? = some p → p.2 < 2 ^ 32 → Memory.word t.dram p.1 = p.2) ∧
           (∀ a, (∀ d ∈ u.dram, ¬ (d ≤ a ∧ a < d + 4)) → Memory.byte t.dram a = Memory.byte s.dram a) ∧ Frame [.dram, .ge] s t) ∧
         (u.put = false → { t.engine e with fbuf := x.fbuf } = after ∧
           (∀ p, (u.dram.zip u.fbuf).getLast? = some p → ((t.engine e).fbufWord p.2) = Memory.word s.dram p.1) ∧
           (∀ a, a ∉ u.fbuf → (t.engine e).fbufWord a = x.fbufWord a) ∧ Frame [.ge] s t))

/-- TICK_BOUNDARY begins the next tick after a guard: TICKIDX advances modulo 2^32, no engine is ahead any more, and an idle engine of this part starts
its program from GE.ENTRYn in the fixed state of a program start. GUARD_START ends the work of a tick: no engine still runs its program, one that
did is counted and flagged, and every gather of the tick is done or its lane marked for frame n + 1 (R12, R15, R18, R21, R70, R84, R89). Model
readings: log entries 13, 42. -/
def Obligations.TicksAndGuardsAlternate : Prop :=
  ∀ (phases : List (Nat × Int)) (done : List Nat) (errs : List MemErr) (s : State),
    (s.clk.phase = .guard → ∃ t, exec (.tickBoundary phases) s = .next t ∧
      t.tick = (s.tick + 1) % 2 ^ 32 ∧ t.clk.phase = .work ∧ t.clk.cycle = 0 ∧ t.gathered = false ∧
      (∀ e, e < 16 → (t.engine e).ahead = false ∧ (t.engine e).noAhead = false) ∧
      (s.commit = none → s.faults.replay = none → s.faults.restarts = [] →
        ∀ e, e < 16 → s.present e = true → s.follower e = false → (s.engine e).st = .idle → (s.engine e).ahead = false →
          (s.engine e).done = false → (t.engine e).st = .run ∧ (t.engine e).tick = (s.tick + 1) % 2 ^ 32 ∧
            (t.engine e).pc = s.rd (GE.ENTRY.val e) ∧ (t.engine e).cycles = 0 ∧ (t.engine e).loops = [] ∧ (t.engine e).calls = [] ∧
            (∀ r, (t.engine e).reg r = 0))) ∧
    (s.clk.phase = .work → ∃ t, exec (.guardStart done errs) s = .next t ∧
      t.clk = { s.clk with phase := .guard } ∧ t.gathered = true ∧ t.tick = s.tick ∧
      (∀ e, e < 16 → s.follower e = false → (t.engine e).st ≠ .run) ∧
      (errs = [] → ∀ e, e < 16 → s.follower e = false → (s.engine e).st = .run →
        (t.engine e).done = false ∧ t.flag (GE.HIST.OVERRUN e) = true ∧ t.flag GLB.TICKHIST.OVERRUN = true ∧
        t.rd (GE.OVERRUN.val e) = (s.rd (GE.OVERRUN.val e) + 1) % 2 ^ 32) ∧
      (errs = [] → s.gathered = false → t.flag GLB.TICKHIST.PATCH_LATE = true ∧
        t.rd FLOW.PATCHLATE.val = (s.rd FLOW.PATCHLATE.val + 1) % 2 ^ FLOW.PATCHLATE.val.width))

/-- PATCH_GATHER_COMPLETE makes the gathers of tick n: each source channel of frame n goes to its destination channel of frame n + 1, inverted where INV
is set, a lane whose source frame is not valid is marked, no byte outside the destination frames changes, and the cycle is recorded (R21, R218).
RUNAHEAD_START starts an idle engine, whose next-tick inputs are all ready, on the program of the next tick in the fixed state of a program start.
ILLEGAL_INSN stops the engine, discards its RSB and reports (R70, R79 to R81, R145). Model readings: log entries 10, 58, 70. -/
def Obligations.EngineEventsOfTheTick : Prop :=
  ∀ (e : Nat) (imem : Bool) (s : State),
    let x := s.engine e
    let f := (s.tick + 1) % 2 ^ 32
    (s.clk.phase = .work → s.gathered = false → ∃ t, exec .patchGatherComplete s = .next t ∧
      t.gathered = true ∧ t.rd FLOW.PATCHCYC.CYC = s.clk.cycle % 2 ^ FLOW.PATCHCYC.CYC.width ∧
      (∀ m ∈ s.marks, m ∈ t.marks) ∧
      (∀ k ∈ Cfg.patches s.live, s.frameValid (s.rd (PM.SRCBUF k)) s.tick = false →
        { buf := s.rd (PM.DSTBUF k), ch := s.rd (PM.DSTCH k), frame := f, gather := true } ∈ t.marks) ∧
      (∀ k, Cfg.patches s.live = [k] → let sb := s.rd (PM.SRCBUF k); let db := s.rd (PM.DSTBUF k)
        let src (j : Nat) := s.sxmAddr sb s.tick (j * s.bufC sb + s.rd (PM.SRCCH k))
        let dst (j c : Nat) := s.sxmAddr db f (j * s.bufC db + c)
        s.frameValid sb s.tick = true → s.bufS sb = s.bufS db → s.rd (PM.DSTCH k) < s.bufC db →
        (∀ i j c, i < s.bufS db → j < s.bufS db → c < s.bufC db → src i + 4 ≤ dst j c ∨ dst j c + 4 ≤ src i) →
        ∀ j, j < s.bufS db → t.sxmWord (dst j (s.rd (PM.DSTCH k))) =
          if s.flag (PM.INV k) then invert (s.sxmWord (src j)) else s.sxmWord (src j)) ∧
      (∀ a, (∀ k ∈ Cfg.patches s.live, ∀ j c, j < s.bufS (s.rd (PM.DSTBUF k)) → c < max (s.bufC (s.rd (PM.DSTBUF k))) (s.rd (PM.DSTCH k) + 1) →
          let d := s.sxmAddr (s.rd (PM.DSTBUF k)) f (j * s.bufC (s.rd (PM.DSTBUF k)) + c)
          a < d ∨ d + 4 ≤ a) → Memory.byte t.sxm a = Memory.byte s.sxm a) ∧
      (∀ k, k ≠ FLOW.PATCHCYC → t.word k = s.word k) ∧ Frame [.live, .sxm, .sxmPast, .free, .marks, .gathered] s t) ∧
    (s.clk.phase = .work → e < 16 → s.present e = true → s.follower e = false → x.st = .idle → x.done = true → x.ahead = false →
      x.okTick = some s.tick → s.flag (GE.CTL.RA_EN e) = true → x.noAhead = false → s.engineDown e = false →
      (∀ b ∈ s.inputs e, s.inputReady e b s.tick f = true) → (s.due f && s.commitAffects e) = false →
      ∃ t, exec (.runaheadStart e) s = .next t ∧ (t.engine e).st = .runahead ∧ (t.engine e).ahead = true ∧
        (t.engine e).tick = f ∧ (t.engine e).pc = s.rd (GE.ENTRY.val e) ∧ (∀ r, (t.engine e).reg r = 0) ∧
        (t.engine e).rsb = [] ∧ (t.engine e).loops = [] ∧ (t.engine e).calls = [] ∧ (t.engine e).cycles = 0 ∧
        t.rd (GE.RASTART.val e) = (s.rd (GE.RASTART.val e) + 1) % 2 ^ 32 ∧
        (∀ j, j ≠ e → t.engine j = s.engine j) ∧ (∀ k, k ≠ GE.RASTART e → t.word k = s.word k) ∧ Frame [.live, .ge, .free] s t) ∧
    (s.executes e = true → (imem = true ∨ Genah.decode (s.fetchWord e) = none) →
      ∃ t, exec (.illegalInsn e imem) s = .next t ∧ (t.engine e).st = .idle ∧ (t.engine e).done = x.ahead ∧ (t.engine e).ahead = false ∧
        (t.engine e).noAhead = true ∧ (t.engine e).rsb = [] ∧ (∀ j, j ≠ e → t.engine j = s.engine j) ∧ Reported 0x0E06 s t ∧
        (∀ k, reportKey k = false → t.word k = s.word k) ∧ Frame [.live, .evt, .ge, .out] s t)

/-- A GO that is free to be taken captures the open shadow into the pending image, empties the open shadow and starts validation with the mode written,
IMMEDIATE or with LATE set (R34, R597). CANCEL gives the pending image back to the open shadow, which wins where both hold a word (R41, R44).
COMMIT_VALIDATION_DONE: a pending image that breaks no rule and whose programs are proven becomes PENDING; one that breaks a rule is refused with
that rule's reason, nothing of it applies, and it goes back to the open shadow (R40, R41). Model readings: log entries 33, 34. -/
def Obligations.CommitsAreCapturedValidatedOrCancelled : Prop :=
  (∀ (i : Iface) (v : Nat) (s : State),
     let w := mergeBits (s.word GLB.COMMIT) (BitVec.ofNat 32 (v ||| 1)) 0xF0
     (v < 2 ^ 32 → s.hostReaches i GLB.COMMIT = true → v.testBit 1 = false → s.commitBusy = false → s.journalFull = false →
       s.standby = false → (GLB.COMMIT.MODE.ext w = 0 ∨ (GLB.COMMIT.MODE.ext w ≠ 3 ∧ GLB.COMMIT.LATE.ext w = 1)) →
       ∃ t c, exec (.commitGo i v) s = .next t ∧ t.commitState = 1 ∧ t.shadow = [] ∧
         t.pend = s.shadow.filter (fun p => isDmem p.1 || !sameBits p.2 (s.word p.1) (rwsMask p.1)) ∧
         t.commit = some c ∧ c.mode = GLB.COMMIT.MODE.ext w ∧ c.target = s.rd GLB.COMMITAT.val ∧ c.snap = (GLB.COMMIT.SNAP.ext w == 1) ∧
         Frame [.live, .shadow, .pend, .commit, .ckpt, .out] s t) ∧
     (v < 2 ^ 32 → s.hostReaches i GLB.COMMIT = true → s.standby = false → s.commitBusy = true →
       ∃ t, exec (.commitCancel i v) s = .next t ∧ t.commitState = 5 ∧ t.commit = none ∧ t.pend = [] ∧
         (∀ k, Store.find t.shadow k = (Store.find s.shadow k).or (Store.find s.pend k)) ∧
         Frame [.live, .shadow, .pend, .commit, .ckpt, .out] s t)) ∧
  (∀ (c : CommitReq) (s : State), s.commit = some c → s.commitState = 1 → s.recovering = false →
     (∀ rs, s.illegal = none → s.prove = .inr rs → (c.past || (c.fixed.isNone && s.targetPast c)) = false →
       ∃ t, exec .commitValidationDone s = .next t ∧ t.commitState = 2 ∧ t.commit = some { c with past := false, proven := rs } ∧
         (∀ k, k ≠ GLB.COMMITSTAT → t.word k = s.word k) ∧ Frame [.live, .commit] s t) ∧
     (∀ reason k, s.illegal = some (reason, k) → c.fixed = none →
       ∃ t, exec .commitValidationDone s = .next t ∧ t.commitState = 4 ∧ t.rd GLB.COMMITSTAT.REASON = reason % 2 ^ 8 ∧
         t.flag GLB.COMMITHIST.REFUSED = true ∧ t.commit = none ∧ t.pend = [] ∧
         (∀ k, Store.find t.shadow k = (Store.find s.shadow k).or (Store.find s.pend k)) ∧
         (∀ f, f < 16 → t.rd (GE.ENTRY.val f) = s.rd (GE.ENTRY.val f)) ∧ Frame [.live, .shadow, .pend, .commit, .ckpt, .out] s t))

/-- Snapshots and checkpoints: a request waits for a boundary; a filled bank advances SNAPSEQ and ends BUSY; CKPT_NOW makes a checkpoint due; a
checkpoint that is written and verified becomes the restore point, and a failed one is due again (R49, R52, R58, R61). Model readings: log entry 37. -/
def Obligations.SnapshotsAndCheckpointsComplete : Prop :=
  ∀ (i : Iface) (v : Nat) (s : State),
    (s.hostReaches i GLB.SNAPREQ = true → s.standby = false → ∃ t, exec (.snapshotRequest i) s = .next t ∧ t.snap.requested = true ∧
      (s.snap.filling.isSome = true → t.flag GLB.SNAPSTAT.PENDING = true) ∧
      (∀ k, k ≠ GLB.SNAPSTAT → t.word k = s.word k) ∧ Frame [.live, .snap] s t) ∧
    (∀ b, s.snap.filling = some b → ∃ t, exec .snapshotFillDone s = .next t ∧ t.snap.filling = none ∧
      (if b.head % 2 = 0 then t.snap.bank0 = b ∧ t.snap.bank1 = s.snap.bank1 else t.snap.bank1 = b ∧ t.snap.bank0 = s.snap.bank0) ∧
      t.rd GLB.SNAPSEQ.val = b.head % 2 ^ 32 ∧ t.flag GLB.SNAPSTAT.BUSY = false ∧
      (∀ k, k ≠ GLB.SNAPSTAT → k ≠ GLB.SNAPSEQ → t.word k = s.word k) ∧ Frame [.live, .snap] s t) ∧
    (v < 2 ^ 32 → s.hostReaches i GLB.JCTL = true → s.standby = false → ∃ t, exec (.ckptNow i v) s = .next t ∧ t.ckpt.due = true ∧
      t.ckpt.restore = s.ckpt.restore ∧ t.ckpt.writing = s.ckpt.writing ∧
      (s.hasRoom [(GLB.JCTL, BitVec.ofNat 32 (v ||| 2 ^ 16))] = true →
        (Store.find t.shadow GLB.JCTL).map (fun w => (GLB.JCTL.LOC.ext w, GLB.JCTL.CKPT_EPOCHS.ext w)) =
          some (v / 2 ^ 17 % 2, v % 2 ^ 16)) ∧
      (∀ k, k ≠ GLB.JCTL → Store.find t.shadow k = Store.find s.shadow k) ∧ Frame [.live, .evt, .shadow, .ckpt, .out] s t) ∧
    (∀ img, s.ckpt.writing = some img →
      (∃ t, exec (.checkpointComplete true) s = .next t ∧ t.ckpt.restore = some img ∧ t.ckpt.writing = none ∧
        t.flag GLB.CKPTSTAT.VALID = true ∧ t.flag GLB.CKPTSTAT.BUSY = false ∧ t.rd GLB.CKPTSEQ.val = img.marker % 2 ^ 32 ∧
        (∀ k, k ≠ GLB.CKPTSTAT → k ≠ GLB.CKPTSEQ → k ≠ GLB.JSTAT → t.word k = s.word k) ∧ Frame [.live, .ckpt] s t) ∧
      (∃ t, exec (.checkpointComplete false) s = .next t ∧ t.ckpt.restore = s.ckpt.restore ∧ t.ckpt.writing = none ∧ t.ckpt.due = true ∧
        t.flag GLB.CKPTSTAT.BUSY = false ∧ Frame [.live, .ckpt] s t))

/-- Faults: a recovery begins where a complete checkpoint stands and no recovery ran in the 10 s before; its replay ends with the configuration replayed
and RECOVERED set; a unit that is not down goes down, with its cause counted and its engines stopped, and resumes after its replay (R509 to R512).
Model readings: log entry 41. -/
def Obligations.RecoveryAndUnitRestarts : Prop :=
  ∀ (b e cause : Nat) (s : State),
    (s.ticking = true → s.faults.replay = none → (∀ t, s.faults.lastRecovery = some t → t + 10 ^ 10 ≤ s.clk.now) →
      s.flag GLB.CKPTSTAT.VALID = true → ∃ t, exec (.deviceRecovery false) s = .next t ∧ t.faults.replay = some false ∧
        t.faults.restarts = [] ∧ t.faults.lastRecovery = some s.clk.now ∧ Reported 0x0207 s t ∧
        (∀ k, reportKey k = false → t.word k = s.word k) ∧ Frame [.live, .faults, .evt, .out] s t) ∧
    (s.recovering = true → s.clk.phase = .work → s.clk.cycle = 0 → ∃ t, exec (.replayDone false) s = .next t ∧
      t.faults.replay = none ∧ t.flag GLB.JSTAT.REPLAY = false ∧ t.flag GLB.COMMITHIST.RECOVERED = true ∧
      t.shadow = s.replayed.shadow ∧ t.pend = s.replayed.pend ∧ t.commit = s.commit) ∧
    (s.ticking = true → s.faults.replay = none → 1 ≤ cause → cause ≤ 5 → b ≤ 23 → (e = 16 ∨ (b = 0x0E ∧ e < 16 ∧ s.present e = true)) →
      s.unitDown b e = false →
      (s.faults.history.filter (fun h => decide (s.clk.now < h.2 + 10 ^ 9) &&
        h.1 == restartUnit b (if e < 16 ∧ s.braced e then e / 2 * 2 else e))).length < 2 →
      ∃ t, exec (.unitRestart b e cause false) s = .next t ∧
        t.faults.restarts = s.faults.restarts ++ [{ block := b, engine := e, cause := cause, replayed := false }] ∧
        (∀ x ∈ s.unitEngines b e, (t.engine x).st = .idle ∧ (t.engine x).okTick = none) ∧
        (∀ x, x ∉ s.unitEngines b e → t.engine x = s.engine x) ∧
        Frame [.live, .faults, .evt, .valid, .spoiled, .placed, .ge, .muz, .knl, .copies, .rxHeld, .deepValid, .net, .out] s t) ∧
    (s.clk.phase = .work → s.clk.cycle = 0 →
      (∃ r ∈ s.faults.restarts, r.block = b ∧ r.engine = e ∧ r.replayed = true) → b < 24 →
      ∃ t, exec (.unitRestarted b e) s = .next t ∧
        t.faults.restarts = s.faults.restarts.filter (fun r => !(r.block == b && r.engine == e)) ∧
        Reported 0x0206 s t ∧ (∀ k, reportKey k = false → t.word k = s.word k) ∧ Frame [.live, .faults, .evt, .ge, .free, .out] s t)

/-- GE's host commands: CNTCLR clears the eight counters and the peak of the engines named and of no other; a LOAD of a stock program puts its words
into the open shadow under one journal entry and sets MODE to basic (R101, R161). FLOW's host commands: RXCLR clears words 3 on of one or of every
record that is a receive record, and TXCLR words 3 to 10 of the record named or of every transmit record, and no other; a TXPROFILE load puts the
profile's words into the open shadow (R196, R220, R221). Model readings: log entries 7, 48. -/
def Obligations.CountersClearAndProfilesLoad : Prop :=
  (∀ (i : Iface) (e v : Nat) (s : State), v < 2 ^ 32 →
     (s.hostReaches i GE.CNTCLR = true → s.standby = false → ∃ t, exec (.engineCounterClear i v) s = .next t ∧
       (∀ j, j < 16 → v.testBit j = true → t.word (GE.PEAKCYC j) = 0 ∧ ∀ c, c < 8 → t.word (GE.RASTART j + 4 * c) = 0) ∧
       (∀ k, (∀ j, j < 16 → v.testBit j = true → k ≠ GE.PEAKCYC j ∧ ∀ c, c < 8 → k ≠ GE.RASTART j + 4 * c) → t.word k = s.word k) ∧
       Frame [.live] s t) ∧
     (let ws := stockWords e (v % 2 ^ 8) (v / 2 ^ 8 % 2 ^ 9)
         ++ [s.shadowFields (GE.PROFILE e) [(GE.PROFILE.SIZE e, v / 2 ^ 8 % 2 ^ 9), (GE.PROFILE.PROGRAM e, v % 2 ^ 8)]]
      e < 16 → s.hostReaches i (GE.PROFILE e) = true → s.standby = false → inLibrary (v % 2 ^ 8) (v / 2 ^ 8 % 2 ^ 9) = true →
       s.hasRoom ws = true →
       ∃ t, exec (.geProfileLoad i e v) s = .next t ∧ ProfileTaken (GE.PROFILE e) (v ||| 2 ^ 24) ws s t ∧ t.rd (GE.PROFILE.MODE e) = 0 ∧
         Frame [.live, .shadow, .ckpt, .out] s t)) ∧
  (∀ (i : Iface) (v k : Nat) (s : State), v < 2 ^ 32 →
     (s.hostReaches i FLOW.RXCLR = true → ∃ t, exec (.rxCounterClear i v) s = .next t ∧
       (k ≠ FLOW.RXCLR → t.word k =
         if rxCounterKey (v.testBit 30) (v % 2 ^ 12) k && !(s.txRec ((k - RS.word 0 0) / 0x80)).owns then resetWord k else s.word k) ∧
       Frame [.live] s t) ∧
     (s.hostReaches i FLOW.TXCLR = true → ∃ t, exec (.txCounterClear i v) s = .next t ∧
       (k ≠ FLOW.TXCLR → t.word k =
         if txCounterKey (v.testBit 30) (v % 2 ^ 12) k && (!v.testBit 30 || (s.txRec ((k - TS.word 0 0) / 0x80)).owns) then resetWord k else s.word k) ∧
       Frame [.live] s t) ∧
     (let ix := v % 2 ^ 12
      let ws := s.txProfileWords (v / 2 ^ 16 % 4) ix
      s.hostReaches i FLOW.TXPROFILE = true → s.hasRoom ws = true → ∃ t, exec (.txProfileLoad i v) s = .next t ∧
       ProfileTaken FLOW.TXPROFILE (v ||| 2 ^ 30) ws s t ∧ t.txLoaded = some ix ∧ t.rd FLOW.TXPROFILE.MODE = 0 ∧
         Frame [.live, .shadow, .ckpt, .txLoaded, .out] s t))

/-- RX_FRAME counts every frame of a port whose link is up. A frame too long, or of a VLAN the port is not a member of, is dropped and counted; a media
frame that an enabled flow on that path matches is counted and put whole into the port's kennel, marked bad where its FCS or FEC was (R174, R417,
R419). Model readings: log entry 20. -/
def Obligations.ReceivedFramesAreCountedAndDelivered : Prop :=
  ∀ (x i : Nat) (bytes : List Nat) (fcsOk : Bool) (s : State),
    let e := etherOf bytes
    let vid := s.vidOf x e
    x < 3 → s.flag (NET.STAT.LINK x) = true →
      (s.rd (NET.CFG.MAXFRAME x) < bytes.length + 4 →
        ∃ t, exec (.rxFrame x bytes true 0 0) s = .next t ∧ t.rd (NET.RXFRAMES.val x) = (s.rd (NET.RXFRAMES.val x) + 1) % 2 ^ 32 ∧
          t.rd (NET.RXDROP.val x) = (s.rd (NET.RXDROP.val x) + 1) % 2 ^ 32 ∧ t.rd (NET.FECCORR.val x) = s.rd (NET.FECCORR.val x) ∧
          (∀ k, k ≠ NET.RXFRAMES x → k ≠ NET.RXDROP x → k ≠ NET.FECCORR x → t.word k = s.word k) ∧ Frame [.live] s t) ∧
      (bytes.length + 4 ≤ s.rd (NET.CFG.MAXFRAME x) → bit (s.members vid) x = false →
        ∃ t, exec (.rxFrame x bytes true 0 0) s = .next t ∧ t.rd (NET.RXFRAMES.val x) = (s.rd (NET.RXFRAMES.val x) + 1) % 2 ^ 32 ∧
          t.rd SW.DROPS.val = (s.rd SW.DROPS.val + 1) % 2 ^ 32 ∧
          (∀ k, k ≠ NET.RXFRAMES x → k ≠ SW.DROPS → k ≠ NET.FECCORR x → t.word k = s.word k) ∧ Frame [.live] s t) ∧
      (bytes.length + 4 ≤ s.rd (NET.CFG.MAXFRAME x) → bit (s.members vid) x = true → x < 2 →
        (mediaKey e).bind (Cfg.classify s.live) = some i → Cfg.onPath s.live i x = true →
        (s.kennel x).ignoring = false → (s.kennel x).cur = [] → s.readingInto x = false →
        s.kennelRoom x (packetOf x 0 (s.ingressNs x) bytes).length = true →
        ∃ t, exec (.rxFrame x bytes fcsOk 0 0) s = .next t ∧
          t.rd (NET.RXFRAMES.val x) = (s.rd (NET.RXFRAMES.val x) + 1) % 2 ^ 32 ∧
          (let copies := if x = 0 then RS.COPIES_A i else RS.COPIES_B i; t.rd copies = (s.rd copies + 1) % 2 ^ 32) ∧
          (t.kennel x).pkts = (s.kennel x).pkts ++ [{ words := packetOf x 0 (s.ingressNs x) bytes, got := [], bad := !fcsOk, tag := none }] ∧
          (∀ k, k ≠ x → t.kennel k = s.kennel k) ∧ Frame [.live, .knl, .net] s t)

/-- COPY_HEADER_TAKEN: a copy of a wrong format leaves its kennel counted in BADFMT; one whose first sample frame is valid already is discarded and
counted in DUP; one within the leash, with no copy of the other path in its way, is being placed: its sample frames that are not late and not valid,
and the late ones counted (R176, R180, R183, R187). COPY_CONFIRM, once all of the copy has been read, makes valid every sample frame of the copy
that meets its deadline, and only those, counts one of which none does in LATE, and makes the flow active; COPY_REWIND makes none valid, takes the
placed marks of those not valid away and counts the copy; both end the placing of the copy (R181, R184, R185, R191). Model readings: log entries 20,
21, 22. -/
def Obligations.CopiesAreJudgedConfirmedOrRewound : Prop :=
  (∀ (p i r : Nat) (k : KPacket) (rest : List KPacket) (s : State),
     let e := etherOf (frameOf k.words)
     let h := s.headerOf i p e
     let b := s.rd (FT.BUFID i)
     let deep := s.flag (FT.DEEP i)
     let m := multOf (s.rd (FT.MULT i))
     let xs := s.spots (s.placeOf i r) (m * s.rd (FT.PTIME i)) (m * s.tickLen)
     let x0 := xs.headD { j := 0, k := 0, p := 0, s := 0 }
     let ch := s.bufC b
     let at_ (x : Spot) (c : Nat) := if deep then s.deepAddr b x.p (x.s * ch + c) else s.sxmAddr b x.p (x.s * ch + c)
     let held (t : State) (a : Nat) := if deep then Memory.word t.dram a else t.sxmWord a
     let size := fmtBytes (s.rd (FT.FMT i))
     p < 2 → s.ticking = true → s.recovering = false → s.unitDown 0x0D 0 = false → Store.find s.copies p = none →
       (s.kennel p).pkts = k :: rest → (mediaKey e).bind (Cfg.classify s.live) = some i → Cfg.onPath s.live i p = true →
       ((List.range 16).find? (fun g => (Cfg.herdMembers s.live g).contains (0, i))) = none →
       (Cfg.badFormat s.live i e ≠ 0 →
         ∃ t, exec (.copyHeaderTaken p) s = .next t ∧ t.rd (RS.BADFMT i) = (s.rd (RS.BADFMT i) + 1) % 2 ^ 32 ∧
           Reported 0x0D04 s t ∧ (t.kennel p).pkts = rest ∧ (∀ q, q ≠ p → t.kennel q = s.kennel q) ∧
           Frame [.live, .evt, .knl, .rxHeld, .net, .out] s t) ∧
       (Cfg.badFormat s.live i e = 0 → h.time = some r → s.rxValid b deep x0.p x0.s x0.k = true → s.flag (FT.COMPARE i) = false →
         ∃ t, exec (.copyHeaderTaken p) s = .next t ∧ t.rd (RS.DUP i) = (s.rd (RS.DUP i) + 1) % 2 ^ 32 ∧
           (t.kennel p).pkts = rest ∧ (∀ q, q ≠ p → t.kennel q = s.kennel q) ∧ Frame [.live, .knl, .rxHeld, .rx, .net] s t) ∧
       (Cfg.badFormat s.live i e = 0 → h.time = some r → s.rxValid b deep x0.p x0.s x0.k = false → s.otherCopy i p = none →
         (∀ x ∈ xs, x.k ≤ Int.ofNat (s.leash i)) →
         ∃ t c, exec (.copyHeaderTaken p) s = .next t ∧ Store.find t.copies p = some c ∧ c.flow = i ∧ c.r = r ∧ c.fcsBad = k.bad ∧
           c.seq = h.seq ∧ c.arriving = false ∧
           ((∀ x ∈ xs, (if deep then 1 else 0) < x.k ∧ s.rxValid b deep x.p x.s x.k = false) →
             c.frames = xs.map (fun x => (x.p, x.s)) ∧ c.late = 0 ∧
             ∀ x ∈ xs, ∀ c, c < ch →
               (∀ y ∈ xs, ∀ d, d < ch → (y ≠ x ∨ d ≠ c) → at_ y d + 4 ≤ at_ x c ∨ at_ x c + 4 ≤ at_ y d) →
               held t (at_ x c) = container (s.rd (FT.FMT i)) (beAt h.payload ((x.j * ch + c) * size) size) % 2 ^ 32) ∧
           (if deep then t.sxm = s.sxm else t.dram = s.dram) ∧
           (∀ a, (∀ x ∈ xs, ∀ c, c < ch → a < at_ x c ∨ at_ x c + 4 ≤ a) →
             if deep then Memory.byte t.dram a = Memory.byte s.dram a else Memory.byte t.sxm a = Memory.byte s.sxm a) ∧
           ((∀ x ∈ xs, x.k ≤ (if deep then 1 else 0)) → c.frames = [] ∧ c.late = xs.length) ∧
           (∀ q, q ≠ p → Store.find t.copies q = Store.find s.copies q) ∧ (t.kennel p).pkts = rest ∧ t.valid = s.valid ∧
           Frame [.live, .sxm, .sxmPast, .dram, .placed, .knl, .net, .copies, .rxHeld, .rx] s t)) ∧
  (∀ (p a : Nat) (c : Copy) (s : State),
     let b := s.rd (FT.BUFID c.flow)
     let deep := s.flag (FT.DEEP c.flow)
     let unplaced (t : State) : Prop :=
       (deep = false → ∀ f ∈ c.frames, s.isValid b f.1 f.2 = false → NatSet.has t.placed (vkey b (f.1 % s.bufD b) f.2) = false) ∧
         (∀ q, q ≠ p → Store.find t.copies q = Store.find s.copies q) ∧
         Frame [.live, .evt, .placed, .ge, .knl, .copies, .rxHeld, .net, .out] s t
     p < 2 → c.flow < 4096 → Store.find s.copies p = some c → NatSet.has s.rxHeld (1 - p) = false → (s.kennel p).marker = false →
       (c.fcsBad = false → c.sumBad = false → c.arriving = false →
         ∃ t, exec (.copyConfirm p) s = .next t ∧ Store.find t.copies p = none ∧
           t.rd (RS.PLACED c.flow) = (s.rd (RS.PLACED c.flow) + 1) % 2 ^ 32 ∧ t.rd (RS.LASTTICK c.flow) = s.tick ∧
           (s.rd (FT.TIMEOUT c.flow) ≠ 0 → c.tracked = true → t.flag (RS.ACTIVE c.flow) = true) ∧
           (0 < c.late + c.frames.length → (∀ f ∈ c.frames, s.inTime deep f.1 = false) →
             t.rd (RS.LATE c.flow) = (s.rd (RS.LATE c.flow) + 1) % 2 ^ 32 ∧ t.flag FLOW.RXHIST.LATE = true) ∧
           (deep = false → (∀ f ∈ c.frames, s.inTime false f.1 = true → t.isValid b f.1 f.2 = true) ∧
             (∀ q, NatSet.has t.valid q = true → NatSet.has s.valid q = true ∨
               ∃ f ∈ c.frames, s.inTime false f.1 = true ∧ q = vkey b (f.1 % s.bufD b) f.2)) ∧
           (deep = true → (∀ f ∈ c.frames, s.inTime true f.1 = true → t.deepIs b f.1 f.2 = true) ∧ t.valid = s.valid) ∧
           Frame [.live, .evt, .valid, .placed, .copies, .rx, .deepValid, .out] s t) ∧
       (c.fcsBad = true ∨ c.sumBad = true →
         ∃ t, exec (.copyRewind p none) s = .next t ∧ Store.find t.copies p = none ∧
           t.rd (RS.REWIND_CHK c.flow) = (s.rd (RS.REWIND_CHK c.flow) + 1) % 2 ^ 32 ∧ unplaced t) ∧
       (∃ t, exec (.copyRewind p (some a)) s = .next t ∧ Store.find t.copies p = none ∧
           t.rd (RS.REWIND_ECC c.flow) = (s.rd (RS.REWIND_ECC c.flow) + 1) % 2 ^ 32 ∧ unplaced t))

/-- RX_TIMEOUT makes a flow without a confirmed copy for TIMEOUT ticks inactive and reports it; DEEP_FRAME_MOVE carries a DEEP ring's frame and its
valid bits into SXM (R190, R191). Model readings: log entry 58. -/
def Obligations.FlowsTimeOutAndDeepFramesMove : Prop :=
  ∀ (i : Nat) (s : State),
    let b := s.rd (FT.BUFID i)
    let p := (s.tick + 1) % 2 ^ 32
    let ch := s.bufC b
    i < 4096 → s.flag (FT.EN i) = true → s.flag (FT.DIR i) = false →
      (s.rd (FT.TIMEOUT i) ≠ 0 → s.flag (RS.ACTIVE i) = true →
        s.rd (FT.TIMEOUT i) < (s.tick + 2 ^ 32 - s.rd (RS.LASTTICK i)) % 2 ^ 32 →
        ∃ t, exec (.rxTimeout i) s = .next t ∧ t.flag (RS.ACTIVE i) = false ∧ Reported 0x0D01 s t ∧ Frame [.live, .evt, .out] s t) ∧
      (s.ticking = true → s.flag (FT.DEEP i) = true →
        ∃ t, exec (.deepFrameMove i [] 0) s = .next t ∧
          (∀ j, j < s.bufS b → s.deepIs b p j = true → t.isValid b p j = true) ∧ (∀ j, j < 1024 → t.deepIs b p j = false) ∧
          (∀ q, NatSet.has t.valid q = true → NatSet.has s.valid q = true ∨
            ∃ j, j < s.bufS b ∧ s.deepIs b p j = true ∧ q = vkey b (p % s.bufD b) j) ∧
          (∀ j c, j < s.bufS b → c < ch → s.deepIs b p j = true →
            t.sxmWord (s.sxmAddr b p (j * ch + c)) = Memory.word s.dram (s.deepAddr b p (j * ch + c))) ∧
          (∀ a, (∀ j c, j < s.bufS b → c < ch → a < s.sxmAddr b p (j * ch + c) ∨ s.sxmAddr b p (j * ch + c) + 4 ≤ a) →
            Memory.byte t.sxm a = Memory.byte s.sxm a) ∧
          Frame [.sxm, .sxmPast, .valid, .deepValid, .mem] s t)

/-- KENNEL_WORD_PUSH: a word joins the packet being pushed, and a last word commits it; on a full kennel the whole packet is refused, counted and
reported, and the rest of its words are ignored; no other kennel changes. The kennel is there: K14 and K15 only with the pair link (R224, R228,
R229, R232, R233). KENNEL_WORD_POP gives the consumer the oldest word of the oldest committed packet, and a port that has popped the last puts the
frame on the wire; a corrected error is counted, an uncorrectable one takes the rest of the packet away and is reported, and a transmit packet met
by it after its boundary is lost (R214, R229, R234, R235). Model readings: log entries 58, 74. -/
def Obligations.KennelPushesAndPops : Prop :=
  (∀ (n w : Nat) (last : Bool) (s : State),
     let k := s.kennel n
     n < 64 → hostPushes n = false → s.kennelThere n = true →
       (k.ignoring = false → s.kennelFull n = false → ∃ t, exec (.kennelWordPush n w last) s = .next t ∧
         t.kennel n = (if last then { k with pkts := k.pkts ++ [{ words := k.cur ++ [w % 2 ^ 64], got := [], bad := false, tag := none }],
                                             cur := [], pushing := false }
                       else { k with cur := k.cur ++ [w % 2 ^ 64], pushing := true }) ∧
         (∀ m, m ≠ n → t.kennel m = s.kennel m) ∧ Frame [.live, .knl, .net] s t) ∧
       (k.ignoring = false → s.kennelFull n = true → ∃ t, exec (.kennelWordPush n w last) s = .next t ∧
         t.kennel n = { k with cur := [], pushing := !last, ignoring := !last, marker := k.marker || s.readingInto n } ∧
         t.rd (KNL.K_REFUSED.val n) = (s.rd (KNL.K_REFUSED.val n) + 1) % 2 ^ 32 ∧ t.flag (KNL.K_HIST.OVERRUN n) = true ∧
         Reported 0x1601 s t ∧ (∀ m, m ≠ n → t.kennel m = s.kennel m) ∧ Frame [.live, .evt, .knl, .net, .out] s t) ∧
       (k.ignoring = true → ∃ t, exec (.kennelWordPush n w last) s = .next t ∧
         t.kennel n = (if last then { k with pushing := false, ignoring := false } else k) ∧
         (∀ m, m ≠ n → t.kennel m = s.kennel m) ∧ Frame [.live, .knl, .net] s t)) ∧
  (∀ (n a w : Nat) (ws : List Nat) (p : KPacket) (ps : List KPacket) (s : State),
     let k := s.kennel n
     n < 64 → s.mayPop n = true → k.pkts = p :: ps →
       (p.words = w :: ws → ws ≠ [] → ∃ t, exec (.kennelWordPop n 0 a) s = .next t ∧
         t.kennel n = { k with pkts := { p with words := ws, got := p.got ++ [w] } :: ps } ∧
         (∀ m, m ≠ n → t.kennel m = s.kennel m) ∧ Frame [.live, .knl, .net] s t) ∧
       (p.words = w :: ws → ws ≠ [] → ∃ t, exec (.kennelWordPop n 1 a) s = .next t ∧
         t.kennel n = { k with pkts := { p with words := ws, got := p.got ++ [w] } :: ps } ∧
         t.rd (KNL.K_CECNT.val n) = (s.rd (KNL.K_CECNT.val n) + 1) % 2 ^ 32 ∧ t.flag (KNL.K_HIST.CORR n) = true ∧ Reported 0x0203 s t ∧
         Frame [.live, .evt, .knl, .net, .out] s t) ∧
       (p.words = [w] → n = 15 → ∃ t, exec (.kennelWordPop n 0 a) s = .next t ∧ t.kennel n = { k with pkts := ps } ∧
         t.out = ((p.got ++ [w]).map (Output.word 15)).reverse ++ s.out ∧
         (∀ m, m ≠ n → t.kennel m = s.kennel m) ∧ Frame [.live, .knl, .net, .out] s t) ∧
       (∀ x, p.words = [w] → portOf n = some x → ∃ t, exec (.kennelWordPop n 0 a) s = .next t ∧ t.kennel n = { k with pkts := ps } ∧
         (t.port x).sending = none ∧ t.out = .frame x (frameOf (p.got ++ [w])) :: s.out ∧
         t.rd (NET.TXFRAMES.val x) = (s.rd (NET.TXFRAMES.val x) + 1) % 2 ^ 32 ∧
         (∀ m, m ≠ n → t.kennel m = s.kennel m) ∧ Frame [.live, .knl, .net, .out] s t) ∧
       (∀ g, p.tag = some g → s.tick ≠ g.due → ∃ t, exec (.kennelWordPop n 2 a) s = .next t ∧ t.kennel n = { k with pkts := ps } ∧
         t.rd (TS.LOST g.flow) = (s.rd (TS.LOST g.flow) + 1) % 2 ^ 32 ∧ t.flag FLOW.TXHIST.LOST = true ∧ Reported 0x0D12 s t ∧
         (∀ m, m ≠ n → t.kennel m = s.kennel m) ∧ Frame [.live, .evt, .knl, .net, .out] s t) ∧
       (p.tag = none → ∃ t, exec (.kennelWordPop n 2 a) s = .next t ∧ t.kennel n = { k with pkts := ps } ∧
         t.rd (KNL.K_UECNT.val n) = (s.rd (KNL.K_UECNT.val n) + 1) % 2 ^ 32 ∧ t.flag (KNL.K_HIST.UNCORR n) = true ∧
         Reported 0x1602 s t ∧ Frame [.live, .evt, .knl, .net, .out] s t))

/-- A kennel reset, by KENNEL_RESET or by KENNEL_BOUNDARY_FAULT, empties that kennel alone and counts the packets discarded; HIF refuses the reset of a
kennel in use (R236, R238, R239). The host's window of a kennel: a pair of writes through PUSH, or PUSHLAST, is one word of the packet; the word
that completes the length of the header commits it through PUSHLAST; POP discards the oldest packets; a push into a kennel the host may not push
into is refused (R224, R241, R242). Model readings: log entry 43. -/
def Obligations.KennelResetsAndHostWindows : Prop :=
  (∀ (i : Iface) (n : Nat) (s : State),
     let k := s.kennel n
     let dropped := k.pkts.length + (if k.cur.isEmpty then 0 else 1)
     let emptied (t : State) : Prop :=
       (t.kennel n).pkts = [] ∧ (t.kennel n).cur = [] ∧ (t.kennel n).ignoring = k.pushing ∧ (t.kennel n).bound = k.bound ∧
         t.rd (KNL.K_RSTDROP.val n) = (s.rd (KNL.K_RSTDROP.val n) + dropped) % 2 ^ 32 ∧ t.flag (KNL.K_HIST.RESET n) = true ∧
         (∀ m, m ≠ n → t.kennel m = s.kennel m) ∧ (2 ≤ n → t.rxHeld = s.rxHeld) ∧ Frame [.live, .evt, .knl, .rxHeld, .net, .out] s t
     n < 64 →
       (s.hostReaches i (KNL.K_RST n) = true → s.kennelInUse n = false →
         ∃ t, exec (.kennelReset i n) s = .next t ∧ emptied t ∧ Reported 0x1603 s t) ∧
       (s.hostReaches i (KNL.K_RST n) = true → s.kennelInUse n = true →
         ∃ t, exec (.kennelReset i n) s = .next t ∧ Reported 0x0101 s t ∧ t.flag HIF.HIST.ACC_ERR = true ∧
           Frame [.live, .evt, .out] s t) ∧
       (∃ t, exec (.kennelBoundaryFault n) s = .next t ∧ emptied t)) ∧
  (∀ (i : Iface) (n lo hi v : Nat) (s : State),
     let k := s.kennel n
     let w := lo + hi * 2 ^ 32
     let len := headerLen (k.cur.headD w)
     lo < 2 ^ 32 → hi < 2 ^ 32 → v < 2 ^ 32 → n < 64 → s.stage = 7 → s.ifaceEnabled i = true →
       (hostPushes n = true → k.bound = false → k.ignoring = false → s.kennelFull n = false → (k.cur = [] → 1 ≤ len ∧ len ≤ 9216) →
         ∃ t, exec (.kennelPioPush i n lo hi) s = .next t ∧
           t.kennel n = { k with cur := k.cur ++ [w], pushing := true, low := none } ∧
           (∀ m, m ≠ n → t.kennel m = s.kennel m) ∧ Frame [.live, .knl, .net] s t) ∧
       (hostPushes n = true → k.bound = false → k.ignoring = false → s.kennelFull n = false → (k.cur = [] → 1 ≤ len ∧ len ≤ 9216) →
         k.cur.length + 1 = packetWords len →
         ∃ t, exec (.kennelPioPushlast i n lo hi) s = .next t ∧
           t.kennel n = { k with pkts := k.pkts ++ [{ words := k.cur ++ [w], got := [], bad := false, tag := none }],
                                 cur := [], pushing := false, low := none } ∧
           (∀ m, m ≠ n → t.kennel m = s.kennel m) ∧ Frame [.live, .knl, .net] s t) ∧
       (hostPops n = true → k.bound = false →
         ∃ t, exec (.kennelPioPop i n v) s = .next t ∧ t.kennel n = { k with pkts := k.pkts.drop v } ∧
           (∀ m, m ≠ n → t.kennel m = s.kennel m) ∧ Frame [.live, .knl, .net] s t) ∧
       (hostPops n = false ∨ k.bound = true →
         ∃ t, exec (.kennelPioPop i n v) s = .next t ∧ Reported 0x0101 s t ∧ t.knl = s.knl ∧ Frame [.live, .evt, .out] s t))

/-- The muzzle's transitions of one lane: a complete fall leaves FALLING for what follows it, the lane then taking its new route, a lane that has held
long enough begins its rise, a complete rise is OPEN, and a wait that reaches its limit ends as a timeout over 32 m samples, a stop's fall keeping
the route that retires (R250, R251, R255 to R257). Model readings: log entry 51. -/
def Obligations.MuzzleLanesFallRiseAndTimeOut : Prop :=
  ∀ (b c : Nat) (s : State),
    let l := s.lane b c
    let others (t : State) : Prop := ∀ x y, y < 2 ^ 14 → (x, y) ≠ (b, c) → t.lane x y = s.lane x y
    b < 8192 → c < 2 ^ 14 →
      (l.st = .falling → l.len ≤ l.k →
        ∃ t, exec (.fallComplete b c) s = .next t ∧ others t ∧
          (l.after = .plain → t.lane b c = { l.ontoNew with st := if 1 ≤ l.hold then .holding else .silent } ∧ Frame [.muz] s t) ∧
          (l.after = .gated → t.lane b c = { l.ontoNew with st := .gated, after := .plain } ∧ Frame [.muz] s t) ∧
          (l.after = .startwait → s.rd HRD.ZCTIME.TIMEOUT ≠ 0 →
            t.lane b c = { l.ontoNew with st := .startwait, waited := 0, after := .plain } ∧ Frame [.muz] s t) ∧
          (l.after = .startwait → s.rd HRD.ZCTIME.TIMEOUT = 0 →
            t.lane b c = { l.ontoNew with st := .rising, waited := 0, after := .plain, k := 0, len := 32 * s.bufM b } ∧
            t.num (MS.word b 1) = (s.num (MS.word b 1) + 1) % 2 ^ 32 ∧ Reported 0x1702 s t ∧ Frame [.live, .evt, .muz, .out] s t)) ∧
      (l.st = .silent ∨ l.st = .holding → l.need ≤ l.hold → (Cfg.muzzledBufs s.live).contains b = true →
        ∃ t, exec (.muzRise b c) s = .next t ∧ others t ∧
          t.lane b c = { l with st := .rising, k := 0, len := s.bufM b * s.rd HRD.MUZCFG.RISE } ∧
          t.num (MS.word b 1) = (s.num (MS.word b 1) + 1) % 2 ^ 32 ∧ t.flag HRD.HIST.RISE = true ∧ Reported 0x1702 s t ∧
          Frame [.live, .evt, .muz, .out] s t) ∧
      (l.st = .rising → l.len ≤ l.k →
        ∃ t, exec (.riseComplete b c) s = .next t ∧ others t ∧ t.lane b c = { l with st := .open_ } ∧ Frame [.muz] s t) ∧
      (l.st = .startwait → s.zcLimit (s.bufM b) ≤ l.waited →
        ∃ t, exec (.zcTimeout b c) s = .next t ∧ others t ∧ t.lane b c = { l with st := .rising, k := 0, len := 32 * s.bufM b } ∧
          t.num (MS.word b 3) = (s.num (MS.word b 3) + 1) % 2 ^ 32 ∧ Frame [.live, .evt, .muz, .out] s t) ∧
      (l.st = .stopwait → s.zcLimit (s.bufM b) ≤ l.waited →
        ∃ t, exec (.zcTimeout b c) s = .next t ∧ others t ∧
          t.lane b c = { l with st := .falling, x0 := l.last, k := 0, len := 32 * s.bufM b, hold := 0 } ∧
          t.num (MS.word b 3) = (s.num (MS.word b 3) + 1) % 2 ^ 32 ∧ Frame [.live, .evt, .muz, .out] s t)

/-- Herds: ARM takes an enabled herd from IDLE or STOPPED to ARMED, or, where its start is late, reports it and starts at n + 2 or returns; a trigger
fixes the start; the start makes it RUNNING; STOP makes it STOPPED, whatever it was, and its lanes stop from frame n + 2 (R260 to R262). Model
readings: log entry 16. -/
def Obligations.HerdsArmTriggerStartAndStop : Prop :=
  ∀ (i : Iface) (k pin : Nat) (s : State),
    let h := s.herdOf k
    let at_ := s.rd (HRD.H_AT.val k)
    let d := (at_ + 2 ^ 32 - s.tick) % 2 ^ 32
    let src := s.rd (HRD.H_CTL.SRC k)
    let next2 := (s.tick + 2) % 2 ^ 32
    let free := s.herdEn k = true ∧ (s.herdState k = 0 ∨ s.herdState k = 3)
    let onTime := (src = 1 ∧ 2 ≤ d ∧ d < 2 ^ 31) ∨ (src = 2 ∧ futureTime at_ s.ns = true) ∨ src = 0 ∨ src = 3
    let host := s.hostReaches i (HRD.H_CMD k) = true
    k < 16 →
      (host → free → onTime → ∃ t, exec (.herdArm i k) s = .next t ∧ t.herdState k = 1 ∧
        (t.herdOf k).start = (if src = 1 then some (at_ % 2 ^ 32) else none) ∧
        (∀ j, j ≠ HRD.H_STATE k → t.word j = s.word j) ∧ Frame [.live, .herd] s t) ∧
      (host → free → ¬ onTime → ∃ t, exec (.herdArm i k) s = .next t ∧ Reported 0x1705 s t ∧
        (s.flag (HRD.H_CTL.LATE k) = true → t.herdState k = 1 ∧ (t.herdOf k).start = some next2) ∧
        (s.flag (HRD.H_CTL.LATE k) = false → t.herdState k = s.herdState k) ∧ Frame [.live, .evt, .herd, .out] s t) ∧
      (host → s.herdState k = 1 → src = 0 → h.start = none → ∃ t, exec (.herdGo i k) s = .next t ∧
        t.herdOf k = { h with start := some next2 } ∧ (∀ j, j ≠ k → t.herdOf j = s.herdOf j) ∧ Frame [.herd] s t) ∧
      (s.herdState k = 1 → src = 3 → s.rd (HRD.H_CTL.PIN k) = pin → h.start = none → s.ticking = true →
        ∃ t, exec (.herdPinTrigger pin) s = .next t ∧ t.herdOf k = { h with start := some next2 } ∧ Frame [.herd] s t) ∧
      (s.herdState k = 1 → src = 2 → reachedTime at_ s.ns = true → h.start = none → ∃ t, exec (.herdTimeTrigger k) s = .next t ∧
        t.herdOf k = { h with start := some (laterTick ((s.tick + 1) % 2 ^ 32) ((h.armTick + 2) % 2 ^ 32) % 2 ^ 32) } ∧
        (∀ j, j ≠ k → t.herdOf j = s.herdOf j) ∧ Frame [.herd] s t) ∧
      (∀ f, h.start = some f → s.ticking = true → s.herdState k = 1 → futureTick f s.tick = false →
        ∃ t, exec (.herdStarted k) s = .next t ∧ t.herdState k = 2 ∧ t.rd (HRD.H_START.val k) = f % 2 ^ 32 ∧ t.herdOf k = { h with start := none, first := some (h.first.getD f) } ∧
          (∀ j, j ≠ k → t.herdOf j = s.herdOf j) ∧ Frame [.live, .evt, .muz, .herd, .out] s t) ∧
      (host → s.herdEn k = true ∨ s.herdState k ≠ 0 → ∃ t, exec (.herdStop i k) s = .next t ∧ t.herdState k = 3 ∧
        t.herdOf k = { h with start := if s.herdState k = 1 then none else h.start, stopAt := some next2 } ∧
        Reported 0x1706 s t ∧ (∀ j, j ≠ k → t.herdOf j = s.herdOf j) ∧ Frame [.live, .evt, .herd, .out] s t)

/-- SAP clock groups, AES3 and MADI receivers: a unit in ACQUIRE becomes LOCKED with its input store at CENTRE, a unit that loses its signal becomes
LOST with its stores empty, and a signal at a LOST unit brings it back to ACQUIRE (R281, R282, R293, R294). That the frames put into the store at
the lock are invalid is the model's choice (log entry 25). Model readings: log entry 25. -/
def Obligations.LocalUnitsLockLoseAndReturn : Prop :=
  ∀ (u cause : Nat) (s : State),
    let x := s.lu u
    let st := s.rd (luState u)
    let centre := if s.stored u then (s.rd (luLo u) + s.rd (luHi u)) / 2 else 0
    let emptied (y : LocalUnit) : Prop := y = x.emptied s.clk.now ∧ y.ins = [] ∧ y.outs = [] ∧ y.good = 0 ∧ y.bad = 0
    let others (t : State) : Prop := ∀ w, w ≠ u → t.lu w = s.lu w
    let command (a b : Instr) : Instr := if u < 8 then a else b
    isLocal u = true →
      (st = 1 → Cfg.luMode s.live u = 0 ∨ (16 ≤ x.good ∧ s.rateFits u = true) →
        ∃ t, exec (command (.sapLocked u) (.aesLocked (u - 8))) s = .next t ∧ t.rd (luState u) = 2 ∧
          (t.lu u).ins = List.replicate centre { words := [], valid := false } ∧ (t.lu u).bad = 0 ∧ (t.lu u).refAt = none ∧ others t ∧
          Reported (if u < 8 then 0x0F03 else 0x1001) s t ∧ Frame [.live, .evt, .loc, .out] s t) ∧
      (st = 1 ∨ st = 2 → Cfg.luMode s.live u ≠ 0 → s.lossHolds u cause = true →
        ∃ t, exec (command (.sapLost u cause) (.aesLost (u - 8) cause)) s = .next t ∧ t.rd (luState u) = 3 ∧ emptied (t.lu u) ∧ others t ∧
          Reported (if u < 8 then 0x0F02 else 0x1002) s t ∧ Frame [.live, .evt, .loc, .out] s t) ∧
      (st = 3 →
        ∃ t, exec (command (.sapBclkReturn u) (.aesSignalReturn (u - 8))) s = .next t ∧ t.rd (luState u) = 1 ∧ emptied (t.lu u) ∧ others t ∧
          Frame [.live, .loc] s t)

/-- SAP frames and the elastic store: a frame enters the input store of a LOCKED SLIP group, reaches the converter of an ASRC group, and otherwise only
counts; a frame of the wrong length is counted and enters as an invalid one; a read of a SLIP store, by the grid or by the port side, takes the
oldest frame, drops one where the fill is at HI or above, or repeats the latest where it is at LO or below, each slip being reported; a grid read of
a unit that is not LOCKED takes nothing, and its outputs play zeros (R278, R279, R281 to R284, R286). Model readings: log entry 25. -/
def Obligations.SapFramesEnterAndLeaveTheStore : Prop :=
  ∀ (k u : Nat) (slots : List (Nat × List Nat)) (ofs : Int) (s : State),
    let x := s.lu k
    let got : LocalUnit := { x with good := x.good + 1, bad := 0 }
    let wrong : LocalUnit := { x with good := 0, bad := x.bad + 1 }
    let frame : LocalFrame := { words := slots.map (fun p => (p.1, s.slotWords k p.2)), valid := true }
    let noFrame : LocalFrame := { words := [], valid := false }
    let ref := some (x.refAt.getD s.clk.now)
    let y := s.lu u
    let fill := y.ins.length
    let stored := s.stored k = true
    (k < 8 → s.ticking = true → Cfg.luEn s.live k = true →
      (s.rd (luState k) = 2 → Cfg.luMode s.live k = 2 →
        (∃ t, exec (.sapFrameReceived k slots ofs) s = .next t ∧ t.lu k = { got with refAt := ref, ins := (x.ins ++ [frame]).take 64 } ∧
          Frame [.live, .loc] s t) ∧
        (∃ t, exec (.sapFrameError k) s = .next t ∧ t.lu k = { wrong with refAt := ref, ins := (x.ins ++ [noFrame]).take 64 } ∧
          t.rd (SAP.CG_FRAMEERR.val k) = (s.rd (SAP.CG_FRAMEERR.val k) + 1) % 2 ^ (SAP.CG_FRAMEERR.val k).width ∧
          t.flag (SAP.CG_HIST.FRAMEERR k) = true ∧ Frame [.live, .loc] s t)) ∧
      (s.rd (luState k) < 2 → stored →
        (∃ t, exec (.sapFrameReceived k slots ofs) s = .next t ∧ t.lu k = got ∧ Frame [.live, .loc] s t) ∧
        (∃ t, exec (.sapFrameError k) s = .next t ∧ t.lu k = wrong ∧ t.flag (SAP.CG_HIST.FRAMEERR k) = true ∧ Frame [.live, .loc] s t)) ∧
      (s.rd (luState k) < 2 → Cfg.luMode s.live k = 3 →
        ∃ t, exec (.sapFrameReceived k slots ofs) s = .next t ∧
          t.lu k = { got with pos := x.pos + 1, hist := { at_ := s.clk.now, frame := frame, idle := [] } :: x.hist } ∧
          Frame [.live, .loc, .out] s t) ∧
      (s.rd (luState k) ≠ 2 → stored →
        (∃ t, exec (.elasticStoreRead k false) s = .next t ∧ t.lu k = { x with pos := x.pos + 1 } ∧ Frame [.loc] s t) ∧
        (∃ t, exec (.elasticStoreRead k true) s = .next t ∧ Frame [.out] s t ∧
          (s.drives = true → t.out =
            ((s.outputsOf k).map (fun n => Output.play 0 n (List.replicate (s.rd (SAP.CG_CFG.SLOTS k)) 0))).reverse ++ s.out))) ∧
      (s.rd (luState k) = 2 → Cfg.luMode s.live k = 2 →
        ∃ t, exec (.elasticStoreRead k true) s = .next t ∧
          (s.rd (luHi k) ≤ x.outs.length → ∀ a b r, x.outs = a :: b :: r → (t.lu k).lastOut = b ∧ (t.lu k).outs = r ∧ Reported 0x0F01 s t) ∧
          (x.outs.length < s.rd (luHi k) → x.outs.length ≤ s.rd (luLo k) → (t.lu k).lastOut = x.lastOut ∧ (t.lu k).outs = x.outs ∧
            Reported 0x0F01 s t) ∧
          (x.outs.length < s.rd (luHi k) → s.rd (luLo k) < x.outs.length → ∀ a r, x.outs = a :: r →
            (t.lu k).lastOut = a ∧ (t.lu k).outs = r) ∧
          Frame [.live, .evt, .loc, .out] s t)) ∧
    (isLocal u = true → s.ticking = true → Cfg.luEn s.live u = true → Cfg.luMode s.live u = 2 → s.rd (luState u) = 2 →
      y.pos < Cfg.luM s.live u * s.tickLen →
      ∃ t, exec (.elasticStoreRead u false) s = .next t ∧ (t.lu u).pos = y.pos + 1 ∧
        (s.rd (luHi u) ≤ fill → ∀ a b r, y.ins = a :: b :: r → (t.lu u).lastIn = b ∧ (t.lu u).ins = r ∧
          Reported (if u < 8 then 0x0F01 else 0x1003) s t) ∧
        (fill < s.rd (luHi u) → fill ≤ s.rd (luLo u) → (t.lu u).lastIn = y.lastIn ∧ (t.lu u).ins = y.ins ∧
          Reported (if u < 8 then 0x0F01 else 0x1003) s t) ∧
        (fill < s.rd (luHi u) → s.rd (luLo u) < fill → ∀ a r, y.ins = a :: r → (t.lu u).lastIn = a ∧ (t.lu u).ins = r) ∧
        Frame [.live, .evt, .sxm, .sxmPast, .valid, .loc, .out] s t)

/-- AES3 and MADI receivers: every received frame is counted as good or bad, with its validity bits and each subframe of wrong parity, its channel
status bits join the block in progress, and a block start gives its phase; a completed block is kept until it is captured, and one that fails its
CRCC is counted and reported instead; a transmitter's Z off the grid is counted and reported (R293, R295 to R300, R303, R306, R308). Model readings:
log entries 25, 58, 76. -/
def Obligations.ReceiversCountFramesAndStatusBlocks : Prop :=
  ∀ (n a b p : Nat) (z parity good : Bool) (ofs : Int) (subs bs cs : List Nat) (s : State),
    let ax := s.lu (8 + n)
    let mx := s.lu (24 + n)
    let ws := subs.take (Cfg.madiC s.live n)
    let w := ws.getD (s.rd (AES.MD_CFG.CSSEL n)) 0
    let after (x : LocalUnit) : LocalUnit :=
      { x with good := if good && !parity then x.good + 1 else 0, bad := if good then 0 else x.bad + 1 }
    let ends (u : Nat) (y : LocalUnit) (t : State) : Prop :=
      (s.stored u = true → t.lu u = y) ∧
        (s.stored u = false → (t.lu u).pos = y.pos + 1 ∧ { t.lu u with pos := y.pos, hist := y.hist } = y) ∧
        (∀ v, v ≠ u → t.lu v = s.lu v) ∧ Frame [.live, .loc] s t
    (n < 8 → s.ticking = true → Cfg.luEn s.live (8 + n) = true → s.rd (luState (8 + n)) < 2 →
      ∃ t, exec (.aesFrameReceived n a b z parity good ofs) s = .next t ∧ ends (8 + n) ((after ax).status z (bit a 2) (bit b 2)) t ∧
        t.rd (AES.RX_ERR.PARERR n) = (s.rd (AES.RX_ERR.PARERR n) + if parity then max 1 (oddSubframes [a, b]) else 0) %
          2 ^ (AES.RX_ERR.PARERR n).width ∧
        t.rd (AES.RX_VCNT.val n) = (s.rd (AES.RX_VCNT.val n) + if bit a 0 || bit b 0 then 1 else 0) % 2 ^ (AES.RX_VCNT.val n).width ∧
        (z = true → s.blockPhase (8 + n) = some p → t.rd (AES.RX_STAT.BLKPH n) = p % 2 ^ (AES.RX_STAT.BLKPH n).width)) ∧
    (n < 4 → s.ticking = true → Cfg.luEn s.live (24 + n) = true → s.rd (luState (24 + n)) < 2 →
      ∃ t, exec (.madiFrameReceived n subs parity good) s = .next t ∧ ends (24 + n) ((after mx).status (bit w 6) (bit w 2) false) t ∧
        t.rd (AES.MD_ERR.CODEERR n) = (s.rd (AES.MD_ERR.CODEERR n) + if good then 0 else 1) % 2 ^ (AES.MD_ERR.CODEERR n).width ∧
        t.rd (AES.MD_ERR.PARERR n) = (s.rd (AES.MD_ERR.PARERR n) + if parity then max 1 (oddSubframes (ws.filter (fun w => bit w 7))) else 0) %
          2 ^ (AES.MD_ERR.PARERR n).width) ∧
    (n < 8 → Cfg.luEn s.live (8 + n) = true → s.blockIs (8 + n) bs cs = true →
      (blockBad bs = false → blockBad cs = false → ∃ t, exec (.aesCsBlock n bs cs) s = .next t ∧
        t.lu (8 + n) = { ax with bits := none, block := some (bs, cs) } ∧ (∀ w, w ≠ 8 + n → t.lu w = s.lu w) ∧
        t.rd (AES.RX_STAT.GRADE n) = (if bit (bs.headD 0) 0 then bs.getD 4 0 % 4 else 3) ∧
        (∀ k, k ≠ AES.RX_STAT n → t.word k = s.word k) ∧ Frame [.live, .loc] s t) ∧
      (blockBad bs = true ∨ blockBad cs = true → ∃ t, exec (.aesCsBlock n bs cs) s = .next t ∧ Reported 0x1005 s t ∧
        t.rd (AES.RX_ERR.CRCERR n) = (s.rd (AES.RX_ERR.CRCERR n) + 1) % 2 ^ (AES.RX_ERR.CRCERR n).width ∧
        t.lu (8 + n) = { ax with bits := none } ∧ Frame [.live, .evt, .loc, .out] s t)) ∧
    (n < 4 → Cfg.luEn s.live (24 + n) = true → s.blockIs (24 + n) bs cs = true → blockBad bs = false →
      ∃ t, exec (.aesCsBlock (16 + n) bs cs) s = .next t ∧ t.lu (24 + n) = { mx with bits := none, block := some (bs, cs) } ∧
        (∀ w, w ≠ 24 + n → t.lu w = s.lu w) ∧ Frame [.loc] s t) ∧
    (∀ e r, n < 8 → (s.atxOf n).errs = e :: r → ∃ t, exec (.aesBlkerr n) s = .next t ∧ t.atxOf n = { s.atxOf n with errs := r } ∧
      t.rd (AES.TX_BLKERR.val n) = (s.rd (AES.TX_BLKERR.val n) + 1) % 2 ^ (AES.TX_BLKERR.val n).width ∧ Reported 0x1007 s t ∧
      (∀ m, m ≠ n → t.atxOf m = s.atxOf m) ∧ Frame [.live, .evt, .atx, .out] s t)

/-- ASRC groups: a group in ACQUIRE becomes LOCKED with its ratio, a group that loses its foreign edges or its range becomes LOST, an edge brings it
back to ACQUIRE, and a ratio step above 200 ppm makes a LOCKED group acquire again, counted, or lose its lock where it leaves the range (R310,
R311). Model readings: log entry 58. -/
def Obligations.AsrcGroupsLockLoseAndRelock : Prop :=
  ∀ (g ratio cause : Nat) (s : State),
    let st := s.rd (ASRC.G_STAT.STATE g)
    let old := s.rd (ASRC.G_RATIO.val g)
    let step := old * 200 < (if old < ratio then ratio - old else old - ratio) * 10 ^ 6
    let only (t : State) : Prop := ∀ k, k ≠ ASRC.G_STAT g → k ≠ ASRC.G_RATIO g → k ≠ ASRC.G_HIST g → reportKey k = false → t.word k = s.word k
    let lost (t : State) : Prop := t.rd (ASRC.G_STAT.STATE g) = 3 ∧ t.flag (ASRC.G_HIST.LOST g) = true ∧ t.rd (ASRC.G_RATIO.val g) = old ∧
      only t ∧ Reported 0x1102 s t ∧ Frame [.live, .evt, .loc, .out] s t
    g < 16 → ratio < 2 ^ 32 →
      (st = 1 → 2 ^ 21 ≤ ratio → ratio ≤ 2 ^ 27 → ∃ t, exec (.asrcLocked g ratio) s = .next t ∧ t.rd (ASRC.G_STAT.STATE g) = 2 ∧
        t.rd (ASRC.G_RATIO.val g) = ratio ∧ t.flag (ASRC.G_HIST.LOCKED g) = true ∧ only t ∧ Reported 0x1101 s t ∧
        Frame [.live, .evt, .loc, .out] s t) ∧
      (st = 1 ∨ st = 2 → cause < 2 → ∃ t, exec (.asrcLost g cause) s = .next t ∧ lost t) ∧
      (st = 2 → step → 2 ^ 21 ≤ ratio → ratio ≤ 2 ^ 27 →
        ∃ t, exec (.asrcRelock g ratio) s = .next t ∧ t.rd (ASRC.G_STAT.STATE g) = 1 ∧ t.rd (ASRC.G_RATIO.val g) = ratio ∧
          t.rd (ASRC.G_STAT.RELOCK g) = (s.rd (ASRC.G_STAT.RELOCK g) + 1) % 2 ^ (ASRC.G_STAT.RELOCK g).width ∧
          t.flag (ASRC.G_HIST.RELOCK g) = true ∧ only t ∧ Frame [.live, .loc] s t) ∧
      (st = 2 → step → ratio < 2 ^ 21 ∨ 2 ^ 27 < ratio → ∃ t, exec (.asrcRelock g ratio) s = .next t ∧ lost t) ∧
      (st = 3 → ∃ t, exec (.asrcForeignEdgeReturn g) s = .next t ∧ t.rd (ASRC.G_STAT.STATE g) = 1 ∧
        (∀ k, k ≠ ASRC.G_STAT g → t.word k = s.word k) ∧ Frame [.live] s t)

/-- Reference inputs: a second of measurement is recorded; an input in MEASURING becomes QUALIFIED; a cause disqualifies a measured input; the cause's
absence, or the signal's return, starts a measurement with RESTORING set; a lost signal makes it INACTIVE; WTR ends RESTORING (R318, R320 to R322,
R328). Model readings: log entries 26, 58, 78. -/
def Obligations.ReferenceInputsQualifyAndDisqualify : Prop :=
  ∀ (k rate : Nat) (ofs : Int) (s : State),
    let x := s.refIn k
    let q := s.qstate k
    let others (t : State) : Prop := ∀ j, j ≠ k → t.refIn j = s.refIn j
    let noDrift (t : State) : Prop :=
      (t.refIn k).secs = 0 ∧ (t.refIn k).ofs = [] ∧ t.rd (REF.IN_D1.val k) = 0 ∧ t.rd (REF.IN_D10.val k) = 0 ∧ t.rd (REF.IN_D100.val k) = 0
    let restarts (t : State) : Prop :=
      t.qstate k = 2 ∧ t.flag (REF.IN_STAT.RESTORING k) = true ∧ t.rd (REF.IN_STAT.CAUSE k) = 0 ∧ noDrift t ∧
        (∀ j, [REF.IN_STAT k, REF.IN_D1 k, REF.IN_D10 k, REF.IN_D100 k].contains j = false → t.word j = s.word j) ∧ others t ∧
        Frame [.live, .ref] s t
    k < 10 →
      (q = 2 → s.refStopped k = false → ofs.natAbs ≤ 5000000 →
        ∃ t, exec (.refSecond [(k, ofs, rate)]) s = .next t ∧ (t.refIn k).secs = x.secs + 1 ∧ (t.refIn k).ofs = (ofs :: x.ofs).take 101 ∧
          t.rdS (REF.IN_OFS.val k) = ofs ∧ t.rd (REF.IN_RATE.val k) = (if edgeInput k then s.edgeRate k ofs % 2 ^ 32 else 0) ∧ t.qstate k = 2 ∧
          others t ∧ Frame [.live, .ref] s t) ∧
      (q = 2 → 11 ≤ x.secs → s.disqualCause k = none →
        ∃ t, exec (.refQualified k) s = .next t ∧ t.qstate k = 3 ∧ t.flag (REF.IN_HIST.QUALIFIED k) = true ∧
          t.flag (REF.IN_STAT.RESTORING k) = (s.flag (REF.IN_STAT.RESTORING k) && s.rd REF.TIMERS.WTR != 0) ∧ Reported 0x0504 s t ∧
          Frame [.live, .evt, .out] s t) ∧
      (∀ c, 2 ≤ q → q ≤ 4 → s.disqualCause k = some c → c ≠ 5 →
        ∃ t, exec (.refDisqualified k) s = .next t ∧ t.qstate k = 5 ∧ t.rd (REF.IN_STAT.CAUSE k) = c ∧ t.refIn k = { x with clear := 0 } ∧
          t.flag REF.HIST.DISQUAL = true ∧ others t ∧ Reported 0x0503 s t ∧ Frame [.live, .evt, .ref, .out] s t) ∧
      (q = 5 → s.dwell k ≤ x.clear → ∃ t, exec (.refCauseCleared k) s = .next t ∧ restarts t) ∧
      (q = 1 → s.refStopped k = false → ∃ t, exec (.refSignalReturn k) s = .next t ∧ restarts t) ∧
      (2 ≤ q → (refFed k = true → s.refStopped k = true) →
        ∃ t, exec (.refInactive k) s = .next t ∧ t.qstate k = 1 ∧ t.rd (REF.IN_STAT.CAUSE k) = (if x.had then 1 else 0) ∧
        t.flag (REF.IN_STAT.RESTORING k) = s.flag (REF.IN_STAT.RESTORING k) ∧ noDrift t ∧ t.flag (REF.IN_HIST.INACTIVE k) = true ∧ others t ∧
        Frame [.live, .ref] s t) ∧
      (s.flag (REF.IN_STAT.RESTORING k) = true → s.refGood k = true → s.rd REF.TIMERS.WTR ≤ x.wtr →
        ∃ t, exec (.refWtrExpire k) s = .next t ∧ t.flag (REF.IN_STAT.RESTORING k) = false ∧ t.qstate k = q ∧
          (∀ j, j ≠ REF.IN_STAT k → j ≠ REF.STATUS → t.word j = s.word j) ∧ Frame [.live] s t)

/-- The reference selector: it is LOCKED after LOCKTIME within LOCKTHR, its holdover expires at the budget, a measured phase jump is reported and
handled by the input's policy, a load of REF.PROFILE puts the profile's words into the open shadow, and a runt is counted at its slicer and at the
inputs that use it, of which VREF may ignore one that comes away from its line instants (R321, R322, R331, R335 to R337, R339, R371; log entry 79).
Model readings: log entries 26, 79. -/
def Obligations.ReferenceSelectorLocksHoldsAndJumps : Prop :=
  ∀ (i : Iface) (k n v : Nat) (interval : Int) (s : State),
    let d := if coincident interval then 0 else roundDiv (interval * 1000) 1024
    let w := v ||| 2 ^ 16
    let counts (k : Nat) (t : State) : Prop :=
      t.rd (REF.IN_STAT.GLITCH k) = (s.rd (REF.IN_STAT.GLITCH k) + 1) % 2 ^ 8 ∧
        t.refIn k = { s.refIn k with glitches := (s.clk.now :: (s.refIn k).glitches).take 3, glitched := true }
    let spares (k : Nat) (t : State) : Prop := t.refIn k = s.refIn k ∧ t.word (REF.IN_STAT k) = s.word (REF.IN_STAT k)
    let uses (k : Nat) : Bool := edgeInput k && s.flag (REF.IN_CFG.EN k) && s.rd (REF.IN_CFG.SLC k) == n
    (∀ t0, s.ref.within = some t0 → s.refState = 1 → s.rd REF.LOCK.LOCKTIME * 10 ^ 9 ≤ s.clk.now - t0 →
      ∃ t, exec .refLocked s = .next t ∧ t.refState = 2 ∧ t.refSel = s.refSel ∧ Reported 0x0501 s t ∧ Frame [.live, .evt, .ref, .out] s t) ∧
    (s.refState = 4 → s.rd REF.HOBUDGET.val * 10 ^ 9 ≤ s.clk.now - s.ref.holdFrom →
      ∃ t, exec .refHoExpired s = .next t ∧ t.refState = 5 ∧ t.refSel = 15 ∧
        t.rd REF.HOTIME.val = (s.clk.now - s.ref.holdFrom) / 10 ^ 9 % 2 ^ 32 ∧ Frame [.live, .evt, .ref, .out] s t) ∧
    (∀ j r, j < 10 → s.eim.forRef = some k → s.eim.waits = j :: r → s.eim.held = false → s.flag EIM.STAT.BUSY = false →
      ∃ t, exec (.refJumpMeasurement interval) s = .next t ∧ t.eim.forRef = some j ∧ t.eim.waits = r ∧ t.flag EIM.STAT.REFUSE = true ∧
        Reported 0x0506 s t ∧ t.flag (REF.IN_HIST.JUMP k) = true ∧ Frame [.live, .evt, .eim, .ref, .out] s t) ∧
    (k < 10 → s.eim.forRef = some k → s.eim.waits = [] →
      ∃ t, exec (.refJumpMeasurement interval) s = .next t ∧ t.eim.forRef = none ∧ t.flag EIM.STAT.REFUSE = false ∧ Reported 0x0506 s t ∧
        t.flag (REF.IN_HIST.JUMP k) = true ∧
        (s.rd (REF.IN_CFG.JUMPPOL k) = 0 → t.refIn k = { s.refIn k with zero := d }) ∧
        (s.rd (REF.IN_CFG.JUMPPOL k) = 2 → t.ref = { s.ref with step := some d }) ∧
        (s.rd (REF.IN_CFG.JUMPPOL k) = 1 → t.flag REF.STATUS.SLEWING = true ∧ t.ref = s.ref) ∧
        Frame [.live, .evt, .eim, .ref, .out] s t) ∧
    (v < 2 ^ 32 → s.hostReaches i REF.PROFILE = true → s.hasRoom (refProfileWords (w % 4) w) = true →
      ∃ t, exec (.refProfileLoad i v) s = .next t ∧ ProfileTaken REF.PROFILE w (refProfileWords (w % 4) w) s t ∧
        t.flag REF.PROFILE.MODE = false ∧ Frame [.live, .shadow, .ckpt, .out] s t) ∧
    (n < 4 → s.flag (EIM.SLC_CFG.EN n) = true → s.rd (EIM.SLC_MINW.val n) ≠ 0 →
      ∃ t, exec (.slicerRunt n) s = .next t ∧ t.rd (EIM.SLC_STAT.RUNT n) = (s.rd (EIM.SLC_STAT.RUNT n) + 1) % 2 ^ 16 ∧
        (∀ k, k < 10 → uses k = true → k ≠ 6 → counts k t) ∧ (uses 6 = true → counts 6 t ∨ spares 6 t) ∧
        (∀ k, k < 10 → uses k = false → spares k t) ∧ Frame [.live, .free, .ref] s t)

/-- The APLLs: a lock loss, or a planned one by RELOCK, counts, is reported and starts a band search; the search's end makes the APLL acquire; its lock
is reported; a tuning voltage outside the central 80% of its range is a warning; an output's delay moves by one step (R348 to R351, R365). RELOCK of
APLL-C is refused. The ramp generator: GO starts the ramp at the next boundary, or arms it for a future RAMPAT, STOP stops it at the next boundary,
and a segment that is due is entered with the target, duration and LAST that its registers hold then (R358 to R360). Model readings: log entries 27,
58. -/
def Obligations.ApllsAndRampsMove : Prop :=
  (∀ (i : Iface) (x band kind code j : Nat) (s : State),
     let lost (t : State) : Prop :=
       t.apll x = 1 ∧ t.rd (SYN.APLL_LOSS.val x) = (s.rd (SYN.APLL_LOSS.val x) + 1) % 2 ^ 32 ∧ t.flag SYN.HIST.LOST = true ∧ Reported 0x0601 s t
     let out := code % 256 * 10 < 256 ∨ 256 * 9 < code % 256 * 10
     x < 4 →
       (s.apll x = 3 → x ≠ 0 → ∃ t, exec (.apllLost x kind) s = .next t ∧ lost t ∧ Frame [.live, .evt, .syn, .out] s t) ∧
       (s.hostReaches i (SYN.APLL_CTL x) = true → x ≠ 0 →
         ∃ t, exec (.apllRelock i x) s = .next t ∧ lost t ∧ Frame [.live, .evt, .free, .syn, .out] s t) ∧
       (s.hostReaches i (SYN.APLL_CTL x) = true → x = 0 →
         ∃ t, exec (.apllRelock i x) s = .next t ∧ Reported 0x0101 s t ∧ t.apll x = s.apll x ∧ Frame [.live, .evt, .out] s t) ∧
       (s.apll x = 1 → ∃ t, exec (.bandSearchDone x band none) s = .next t ∧ t.apll x = 2 ∧ t.rd (SYN.APLL_STAT.BAND x) = band % 2 ^ 6 ∧
         (∀ k, k ≠ SYN.APLL_STAT x → t.word k = s.word k) ∧ Frame [.live] s t) ∧
       (s.apll x = 2 → ∃ t, exec (.apllLocked x) s = .next t ∧ t.apll x = 3 ∧ t.flag SYN.HIST.LOCKED = true ∧ Reported 0x0602 s t ∧
         (∀ k, k ≠ SYN.APLL_STAT x → k ≠ SYN.HIST → reportKey k = false → t.word k = s.word k) ∧ Frame [.live, .evt, .out] s t) ∧
       (s.apll x ≠ 0 → ∃ t, exec (.vtuneMeasure x code) s = .next t ∧ t.rd (SYN.APLL_STAT.VTUNE x) = code % 256 ∧
         (t.flag (SYN.APLL_STAT.VTWARN x) = true ↔ out) ∧ (out → s.flag (SYN.APLL_STAT.VTWARN x) = false → Reported 0x0603 s t) ∧
         (¬ out → ∀ k, k ≠ SYN.APLL_STAT x → t.word k = s.word k) ∧ Frame [.live, .evt, .out] s t) ∧
       (j < 12 → s.flag (SYN.CKO_STAT.RUNNING j) = true → ∃ t, exec (.ckoDelayStep j) s = .next t ∧
         (let now := s.rd (SYN.CKO_STAT.DELNOW j)
          let goal := s.rd (SYN.CKO_CFG.DELAY j)
          t.rd (SYN.CKO_STAT.DELNOW j) = if now < goal then now + 1 else if goal < now then now - 1 else now) ∧
         (∀ k, k ≠ SYN.CKO_STAT j → t.word k = s.word k) ∧ Frame [.live] s t)) ∧
  (∀ (i : Iface) (v : Nat) (s : State),
     let r := s.syn.ramp
     let at_ := s.rd SYN.RAMPAT.val
     let host := v < 2 ^ 32 ∧ s.hostReaches i SYN.RAMPCTL = true
     let waits := s.rd SYN.RAMPCTL.START = 1 ∧ futureTick at_ s.tick = true
     (host → v.testBit 1 = false → waits → ∃ t, exec (.rampGo i v) s = .next t ∧ t.syn = { s.syn with ramp := { r with at_ := some at_, go := false } } ∧
       t.flag SYN.RAMPSTAT.ARMED = true ∧ t.flag SYN.RAMPSTAT.LATE = false ∧ Frame [.live, .shadow, .ckpt, .evt, .syn, .out] s t) ∧
     (host → v.testBit 1 = false → ¬ waits → ∃ t, exec (.rampGo i v) s = .next t ∧ t.syn = { s.syn with ramp := { r with at_ := none, go := true } } ∧
       t.flag SYN.RAMPSTAT.ARMED = false ∧ (t.flag SYN.RAMPSTAT.LATE = true ↔ s.rd SYN.RAMPCTL.START = 1) ∧
       Frame [.live, .shadow, .ckpt, .evt, .syn, .out] s t) ∧
     (host → ∃ t, exec (.rampStop i v) s = .next t ∧ t.syn = { s.syn with ramp := { r with stop := true, go := false, at_ := none } } ∧
       t.flag SYN.RAMPSTAT.ARMED = false ∧ Frame [.live, .shadow, .ckpt, .evt, .syn, .out] s t) ∧
     (∀ k, k < 16 → r.due = some k → s.rd (SYN.SEG_DUR.val k) ≠ 0 → ∃ t, exec .rampSegmentEnter s = .next t ∧
       t.rd SYN.RAMPSTAT.SEG = k ∧ t.flag SYN.RAMPSTAT.RUNNING = true ∧ t.syn.ramp.v0 = s.rampPpt ∧ t.syn.ramp.i = 0 ∧
       t.syn.ramp.tgt = s.rdS (SYN.SEG_TGT.val k) ∧ t.syn.ramp.dur = s.rd (SYN.SEG_DUR.val k) ∧
       t.syn.ramp.last = (s.flag (SYN.SEG_DUR.LAST k) || k == 15) ∧ t.syn.ramp.due = none ∧ t.rampPpt = s.rampPpt ∧
       Frame [.live, .evt, .syn, .ref, .out] s t))

/-- The interval meter: ARM starts a measurement, waits while REF holds the meter and is refused while it is BUSY; STOP abandons it; a result and a
timeout advance RESSEQ, and a SINGLE measurement ends; a loss of calibration and the lock after it are reported (R374, R375, R377 to R379). Model
readings: log entries 28, 58. -/
def Obligations.MeterArmsMeasuresAndTimesOut : Prop :=
  ∀ (i : Iface) (edges : Nat) (interval : Int) (s : State),
    let busy := s.flag EIM.STAT.BUSY
    let host := s.hostReaches i EIM.CTL = true
    let counted (t : State) : Prop := t.rd EIM.RESSEQ.val = (s.rd EIM.RESSEQ.val + 1) % 2 ^ 32 ∧ t.eim.since = s.clk.now
    (host → busy = false → s.flag EIM.CFG.EN = true → s.flag EIM.STAT.REFUSE = false →
      ∃ t, exec (.eimArm i) s = .next t ∧ t.flag EIM.STAT.BUSY = true ∧ t.eim = { s.eim with since := s.clk.now, held := false } ∧
        (∀ k, k ≠ EIM.STAT → t.word k = s.word k) ∧ Frame [.live, .eim] s t) ∧
    (host → busy = false → s.flag EIM.CFG.EN = true → s.flag EIM.STAT.REFUSE = true →
      ∃ t, exec (.eimArm i) s = .next t ∧ t.flag EIM.STAT.ARMHELD = true ∧ t.eim = { s.eim with held := true } ∧
        (∀ k, k ≠ EIM.STAT → t.word k = s.word k) ∧ Frame [.live, .eim] s t) ∧
    (host → busy = true → ∃ t, exec (.eimArm i) s = .next t ∧ t.eim = s.eim ∧ Reported 0x0101 s t ∧ Frame [.live, .evt, .out] s t) ∧
    (host → s.eim.waits = [] → ∃ t, exec (.eimStop i) s = .next t ∧ t.flag EIM.STAT.BUSY = false ∧ t.flag EIM.STAT.ARMHELD = false ∧
      t.eim = { s.eim with held := false } ∧ (∀ k, k ≠ EIM.STAT → t.word k = s.word k) ∧ Frame [.live, .eim] s t) ∧
    (0 ≤ interval → ∀ p, s.latestStop (s.stamp - interval) = some p → s.eimInterval interval =
      some (if s.stamp - interval - p ≤ 2 ^ 31 * 1024 ∧ s.stamp - interval - p < interval then p - (s.stamp - interval) else interval)) ∧
    (0 ≤ interval → s.latestStop (s.stamp - interval) = none → s.eimInterval interval = some interval) ∧
    (interval < 0 → s.eimInterval interval = if interval < -(2 ^ 31 * 1024) then none else some interval) ∧
    (∀ g, busy = true → s.eimInterval interval = some g → ∃ t, exec (.eimResult interval edges true) s = .next t ∧ counted t ∧
      (s.rd EIM.CFG.MODE ≠ 2 → 0 ≤ interval → s.flag EIM.CFG.EN = true → t.eim.stops = (s.stamp :: s.eim.stops).take 2) ∧
      (s.rd EIM.CFG.MODE = 2 → t.rd EIM.RESNS.val = wrap32 (interval / 1024) ∧ t.rd EIM.RESEDGES.val = edges % 2 ^ 32 ∧
        t.num EIM.RESFRAC = 2 ^ 31 + (interval % 1024).toNat) ∧
      (s.rd EIM.CFG.MODE ≠ 2 → coincident g = false → 0 ≤ g →
        t.rd EIM.RESNS.val = wrap32 (g / 1024) ∧ t.num EIM.RESFRAC = 2 ^ 31 + (g % 1024).toNat) ∧
      (s.rd EIM.CFG.MODE ≠ 2 → coincident g = false → g < 0 → s.flag EIM.CFG.SIGNED = true →
        t.rd EIM.RESNS.val = wrap32 (g / 1024) ∧ t.num EIM.RESFRAC = 2 ^ 31 + 2 ^ 30 + (g % 1024).toNat) ∧
      (s.rd EIM.CFG.MODE ≠ 2 → coincident g = true →
        t.rd EIM.RESNS.val = 0 ∧ t.num EIM.RESFRAC = 2 ^ 31 + 2 ^ 29 ∧ t.flag EIM.HIST.COINCIDENT = true) ∧
      (s.rd EIM.CFG.MODE = 0 → t.flag EIM.STAT.BUSY = false) ∧ (s.rd EIM.CFG.MODE ≠ 0 → t.flag EIM.STAT.BUSY = true) ∧
      Frame [.live, .free, .eim] s t) ∧
    (busy = true → s.rd EIM.TIMEOUT.MS ≠ 0 → s.rd EIM.TIMEOUT.MS * 1000000 ≤ s.clk.now - s.eim.since →
      ∃ t, exec .eimTimeout s = .next t ∧ counted t ∧ t.flag EIM.RESFRAC.TIMEOUT = true ∧ t.flag EIM.RESFRAC.VALID = false ∧
        t.flag EIM.HIST.TIMEOUT = true ∧ Reported 0x0703 s t ∧ Frame [.live, .evt, .free, .eim, .out] s t) ∧
    (s.flag EIM.STAT.CALLOCK = true → ∃ t, exec .eimCalLost s = .next t ∧ t.flag EIM.STAT.CALLOCK = false ∧
      t.eim = { s.eim with lost := true } ∧ Reported 0x0701 s t ∧ Frame [.live, .evt, .eim, .out] s t) ∧
    (s.apll 0 = 3 → s.flag EIM.STAT.CALLOCK = false → ∃ t, exec .eimCalLocked s = .next t ∧ t.flag EIM.STAT.CALLOCK = true ∧
      t.eim = { s.eim with lost := false } ∧ (s.eim.lost = true → Reported 0x0702 s t) ∧
      (s.eim.lost = false → ∀ k, k ≠ EIM.STAT → t.word k = s.word k) ∧ Frame [.live, .evt, .eim, .out] s t)

/-- The time counter: CAP latches it, SET steps it to the programmed time and clears ALIGNED, and is refused unless the servo follows the host and the
time is one, and ALIGN waits for a boundary (R384, R385, R387). Model readings: log entry 24. -/
def Obligations.CounterIsCapturedSetAndAligned : Prop :=
  ∀ (i : Iface) (v : Nat) (s : State),
    let goal := ((s.rd TIME.SETSECHI.val * 2 ^ 32 + s.rd TIME.SETSECLO.val) * 10 ^ 9 + s.rd TIME.SETNSEC.val) * 10 ^ 12
    let may := s.flag TIME.SRVCFG.SRC = true ∧ s.rd TIME.SETNSEC.val < 10 ^ 9
    v < 2 ^ 32 → s.hostReaches i TIME.CTL = true →
      (v.testBit 1 = false → v.testBit 2 = false → ∃ t, exec (.timeCap i v) s = .next t ∧ t.rd TIME.CAPNS.val = s.ns ∧
        t.rd TIME.CAPSECLO.val = s.seconds % 2 ^ 32 ∧ t.rd TIME.CAPSECHI.val = s.seconds / 2 ^ 32 ∧ t.rd TIME.CAPNSEC.val = s.nsec ∧
        Frame [.live] s t) ∧
      (v.testBit 0 = false → v.testBit 2 = false → may → ∃ t, exec (.timeSet i v) s = .next t ∧ t.clk = { s.clk with time := goal } ∧
        t.flag TIME.CTL.ALIGNED = false ∧ t.flag TIME.HIST.STEP = true ∧ Frame [.clk, .live, .evt, .herd, .times, .out] s t) ∧
      (v.testBit 0 = false → v.testBit 2 = false → ¬ may → ∃ t, exec (.timeSet i v) s = .next t ∧ t.clk = s.clk ∧ Reported 0x0101 s t ∧
        Frame [.live, .evt, .out] s t) ∧
      (v.testBit 0 = false → v.testBit 1 = false → ∃ t, exec (.timeAlign i v) s = .next t ∧ t.times = { s.times with align := true } ∧
        Frame [.live, .times] s t)

/-- The servo and the PTP instances: a sample of the followed instance, or of the host, sets the correction by the gains, or steps the counter where it
exceeds SRVSTEP; missing samples hold the servo; the firmware's decisions set an instance's state, and its messages are sent; a load of PTPp_CFG
puts its profile into the open shadow (R391 to R393, R395, R397, R398). Model readings: log entries 24, 58. -/
def Obligations.ServoFollowsSamplesAndPtpKeepsItsState : Prop :=
  ∀ (i : Iface) (p st steps cls acc mpd v : Nat) (th : Int) (s : State),
    let P := Int.ofNat (s.rd TIME.SRVGAIN.KP) * th
    let I := s.times.integ + Int.ofNat (s.rd TIME.SRVGAIN.KI) * th
    let c := max (-(2 ^ 31)) (min (2 ^ 31 - 1) (-(P + I)))
    let slave := s.flag (TIME.PTP_CFG.EN p) = true ∧ s.rd (TIME.PTP_CFG.STATE p) = 1
    let feeds := s.flag TIME.SRVCFG.EN = true ∧ s.flag TIME.SRVCFG.SRC = false ∧ s.rd TIME.SRVCFG.PORT = p
    let small := th.natAbs ≤ s.rd TIME.SRVSTEP.val
    let steered (t : State) : Prop :=
      t.rdS TIME.SRVOFS.val = th ∧ t.flag TIME.SRVCFG.HOLD = false ∧ t.rdS TIME.SRVPPT.val = c ∧
        t.times.integ = (if c = -(P + I) then I else s.times.integ)
    let heard (t : State) : Prop := t.refIn p = { s.refIn p with heard := s.clk.now } ∧ ∀ j, j ≠ p → t.refIn j = s.refIn j
    let w := v ||| 8
    let id := s.ptpIdentity p
    let dom := s.rd (TIME.PTP_CFG.DOMAIN p)
    let at_ := s.egressTime p
    let stamp := [at_ / 1024 / 10 ^ 9 % 2 ^ 48, at_ / 1024 % 10 ^ 9, at_ % 1024 * 64]
    let sends (kind : Nat) (ds : List Output) : Prop :=
      ∃ t, exec (.ptpMessageInterval p kind) s = .next t ∧ t.out = ds ++ s.out ∧ Frame [.out] s t
    p < 2 → -(2 ^ 31) ≤ th → th < 2 ^ 31 →
      (slave → ¬ feeds → ∃ t, exec (.ptpOffsetSample p th mpd) s = .next t ∧ t.rdS (TIME.PTP_OFS.val p) = th ∧
        t.rd (TIME.PTP_MPD.val p) = mpd % 2 ^ 32 ∧ t.rd (TIME.PTP_SAMPLES.val p) = (s.rd (TIME.PTP_SAMPLES.val p) + 1) % 2 ^ 32 ∧
        heard t ∧ (∀ k, k ≠ TIME.PTP_OFS p → k ≠ TIME.PTP_MPD p → k ≠ TIME.PTP_SAMPLES p → t.word k = s.word k) ∧ Frame [.live, .ref] s t) ∧
      (slave → feeds → small → ∃ t, exec (.ptpOffsetSample p th mpd) s = .next t ∧ t.rdS (TIME.PTP_OFS.val p) = th ∧ steered t ∧
        heard t ∧ t.times.sampleAt = s.clk.now ∧ t.times.theta = th ∧ Frame [.live, .ref, .times] s t) ∧
      (s.hostReaches i TIME.SRVIN = true → s.flag TIME.SRVCFG.EN = true → s.flag TIME.SRVCFG.SRC = true →
        (small → ∃ t, exec (.servoHostSample i (wrap32 th)) s = .next t ∧ steered t ∧ Frame [.live, .times] s t) ∧
        (¬ small → ∃ t, exec (.servoHostSample i (wrap32 th)) s = .next t ∧
          t.clk = { s.clk with time := ((Int.ofNat s.clk.time - th * 10 ^ 12) % (2 ^ 48 * 10 ^ 21)).toNat } ∧
          t.flag TIME.HIST.STEP = true ∧ Frame [.clk, .live, .evt, .herd, .times, .out] s t)) ∧
      (feeds → s.flag TIME.SRVCFG.HOLD = false → s.fourIntervals p ≤ s.clk.now - s.times.sampleAt →
        ∃ t, exec .srvHold s = .next t ∧ t.flag TIME.SRVCFG.HOLD = true ∧ t.flag TIME.HIST.SRVHOLD = true ∧ Reported 0x0803 s t ∧
          t.rd TIME.SRVPPT.val = s.rd TIME.SRVPPT.val ∧ Frame [.live, .evt, .out] s t) ∧
      (s.flag (TIME.PTP_CFG.EN p) = true → 1 ≤ st → st < 4 → (st = 2 → s.flag (TIME.PTP_CFG.ROLE p) = true) →
        ∃ t, exec (.ptpAnnounceAccepted p st steps cls acc) s = .next t ∧ t.rd (TIME.PTP_CFG.STATE p) = st ∧
          (st = 1 → t.rd (TIME.PTP_PARENT.STEPS p) = steps % 2 ^ 8 ∧ t.rd (TIME.PTP_PARENT.CLASS p) = cls % 2 ^ 8 ∧
            t.rd (TIME.PTP_PARENT.ACCURACY p) = acc % 2 ^ 8) ∧
          (∀ k, k ≠ TIME.PTP_CFG p → k ≠ TIME.PTP_PARENT p → t.word k = s.word k) ∧ Frame [.live] s t) ∧
      (s.flag (TIME.PTP_CFG.EN p) = true → ∃ t, exec (.ptpAnnounceReceiptTimeout p) s = .next t ∧
        t.rd (TIME.PTP_CFG.STATE p) = (if s.flag (TIME.PTP_CFG.ROLE p) then 2 else 0) ∧
        (∀ k, k ≠ TIME.PTP_CFG p → t.word k = s.word k) ∧ Frame [.live] s t) ∧
      (s.flag (TIME.PTP_CFG.EN p) = true → s.flag (NET.STAT.LINK p) = true → s.rd (TIME.PTP_CFG.STATE p) = 2 →
        sends 1 [.datagram 1 [p, id, dom, s.rd (TIME.PTP_CLS.PRIORITY1 p), s.rd (TIME.PTP_CLS.CLASS p), s.rd (TIME.PTP_CLS.ACCURACY p),
          s.rd (TIME.PTP_CLS.PRIORITY2 p)]] ∧
        (s.flag (TIME.PTP_CFG.ONESTEP p) = true → sends 0 [.datagram 0 ([p, id, dom, 0] ++ stamp)]) ∧
        (s.flag (TIME.PTP_CFG.ONESTEP p) = false → sends 0 [.datagram 3 ([p, id, dom] ++ stamp), .datagram 0 [p, id, dom, 1, 0, 0, 0]])) ∧
      (s.flag (TIME.PTP_CFG.EN p) = true → s.flag (NET.STAT.LINK p) = true → s.rd (TIME.PTP_CFG.STATE p) = 1 →
        sends 2 [.datagram 2 [p, id, dom]]) ∧
      (v < 2 ^ 32 → s.hostReaches i (TIME.PTP_CFG p) = true → s.hasRoom [(TIME.PTP_CFG p, ptpProfileWord p w)] = true →
        ∃ t, exec (.ptpProfileLoad i p v) s = .next t ∧ ProfileTaken (TIME.PTP_CFG p) w [(TIME.PTP_CFG p, ptpProfileWord p w)] s t ∧
          t.rd (TIME.PTP_CFG.MODE p) = 0 ∧ Frame [.live, .shadow, .ckpt, .out] s t)

/-- Pulse generators: ARM takes the programmed period, width, pin and polarity with the fields it writes, a START in the past is reported and dropped
where LATE says so, and ARM is refused where its values are not legal; edges follow one another by the period and the width; STOP ends a generator
after the pulse in progress (R383, R399, R400). Model readings: log entries 43, 50. -/
def Obligations.PulseGeneratorsArmPulseAndStop : Prop :=
  ∀ (i : Iface) (k v : Nat) (s : State),
    let x := s.pulse k
    let start := s.rd (TIME.PG_START.val k)
    let period := s.rd (TIME.PG_PERIOD.val k)
    let width := s.rd (TIME.PG_WIDTH.val k)
    let u := s.setWord (TIME.PG_CFG k) (mergeBits (s.word (TIME.PG_CFG k)) (BitVec.ofNat 32 (v ||| 1)) 0xF0000700)
    let legal := u.rd (TIME.PG_CFG.LATE k) ≠ 3 ∧ (period = 0 ∨ width < period)
    let host := v < 2 ^ 32 ∧ s.hostReaches i (TIME.PG_CFG k) = true
    let ended (t : State) : Prop := t.flag (TIME.PG_CFG.ARMED k) = false ∧ t.flag (TIME.PG_CFG.RUNNING k) = false
    k < 8 →
      (host → v.testBit 1 = false → legal → u.flag (TIME.PG_CFG.EN k) = true → futureTime start s.ns = true →
        ∃ t, exec (.pgArm i k v) s = .next t ∧
          t.pulse k = { x with period := period, width := width, pin := u.rd (TIME.PG_CFG.PIN k), pol := u.flag (TIME.PG_CFG.POL k),
                               stop := false, next := start, then_ := none } ∧
          t.flag (TIME.PG_CFG.ARMED k) = true ∧ t.flag (TIME.PG_CFG.RUNNING k) = false ∧ (∀ j, j ≠ k → t.pulse j = s.pulse j) ∧
          Frame [.live, .times, .out] s t) ∧
      (host → v.testBit 1 = false → legal → u.flag (TIME.PG_CFG.EN k) = true → 0 < lateBy start s.ns → u.rd (TIME.PG_CFG.LATE k) = 0 →
        x.trail = none → ∃ t, exec (.pgArm i k v) s = .next t ∧ ended t ∧ t.flag TIME.HIST.LATE = true ∧ Reported 0x0804 s t ∧
          Frame [.live, .evt, .times, .out] s t) ∧
      (host → v.testBit 1 = false → ¬ legal → u.flag (TIME.PG_CFG.EN k) = true →
        ∃ t, exec (.pgArm i k v) s = .next t ∧ Reported 0x0101 s t ∧ t.times = s.times ∧ Frame [.live, .evt, .out] s t) ∧
      (host → ∃ t, exec (.pgStop i k v) s = .next t ∧ (∀ j, j ≠ k → t.pulse j = s.pulse j) ∧
        (x.trail.isSome = true → t.pulse k = { x with stop := true }) ∧
        (x.trail = none → t.pulse k = { x with stop := false } ∧ ended t) ∧ Frame [.live, .times] s t) ∧
      (s.flag (TIME.PG_CFG.EN k) = true → s.pgLive k = true → x.trail = none → x.stop = false → reachedTime x.next s.ns = true →
        (x.width ≠ 0 ∨ x.period ≠ 0) →
        ∃ t, exec (.pgLeadingEdge k) s = .next t ∧ t.flag (TIME.PG_CFG.ARMED k) = false ∧ t.flag (TIME.PG_CFG.RUNNING k) = true ∧
          t.pulse k = { x with next := x.then_.getD ((x.next + x.period) % 2 ^ 32), then_ := none,
                               trail := if x.width = 0 then none else some ((x.next + x.width) % 2 ^ 32) } ∧
          (∀ j, j ≠ k → t.pulse j = s.pulse j) ∧ Frame [.live, .times, .out] s t) ∧
      (∀ t0, x.trail = some t0 → reachedTime t0 s.ns = true →
        ∃ t, exec (.pgTrailingEdge k) s = .next t ∧ (t.pulse k).trail = none ∧ (x.period = 0 ∨ x.stop = true → ended t) ∧
          (x.period ≠ 0 → x.stop = false → t.live = s.live) ∧ (∀ j, j ≠ k → t.pulse j = s.pulse j) ∧ Frame [.live, .times, .out] s t)

/-- Cue sends and timecode: a port keeps its line free before a send; a send that is due, and first in order, leaves on a free port whose link is up,
and counts as missed where the link is down; a decoded frame of timecode is recorded, a loss of it is reported, and the generator's frames follow
one another from TC, or from TC again after JAM (R403, R404, R407, R408). Model readings: log entries 31, 49. -/
def Obligations.CueSendsAndTimecodeFrames : Prop :=
  ∀ (i : Iface) (n x tc ub flags rate speed v : Nat) (c : CueEntry) (s : State),
    let p := s.port x
    let guard := s.wireNs x (s.rd (NET.CFG.MAXFRAME x) - 4)
    let l := s.times.ltc
    n < 256 →
      (s.cueEntry n = some c → x < 3 → c.owes x = true →
        (p.holds.contains n = false → reachedTime ((c.at_ + 2 ^ 32 - guard % 2 ^ 32) % 2 ^ 32) s.ns = true →
          ∃ t, exec (.cueLineHold n x) s = .next t ∧ t.port x = { p with holds := n :: p.holds } ∧ (∀ y, y ≠ x → t.port y = s.port y) ∧
            Frame [.net] s t) ∧
        (reachedTime c.at_ s.ns = true → s.cueFirst n x c = true → s.flag (NET.STAT.LINK x) = true → p.sending = none →
          p.freeAt ≤ s.clk.now → s.sendsPath x = true →
          ∃ t, exec (.cueSend n x) s = .next t ∧ t.num (CLS.word n 1) = s.ns ∧
            t.rd (NET.TXFRAMES.val x) = (s.rd (NET.TXFRAMES.val x) + 1) % 2 ^ 32 ∧ Output.frame x c.frame ∈ t.out ∧
            Frame [.live, .evt, .times, .net, .out] s t) ∧
        (reachedTime c.at_ s.ns = true → s.cueFirst n x c = true → s.flag (NET.STAT.LINK x) = false →
          ∃ t, exec (.cueSend n x) s = .next t ∧
            t.num (CLS.word n 2) / 2 ^ 16 = (s.num (CLS.word n 2) / 2 ^ 16 + 1) % 2 ^ 16 ∧ t.out = s.out ∧ Frame [.live, .times, .net] s t)) ∧
      (s.flag TIME.LTCRX_CFG.EN = true → 1 ≤ s.rd TIME.LTCRX_STAT.STATE →
        ∃ t, exec (.ltcFrameDecoded tc ub flags rate speed) s = .next t ∧ t.rd TIME.LTCRX_TC.val = tc % 2 ^ 32 ∧
          t.rd TIME.LTCRX_UB.val = ub % 2 ^ 32 ∧ t.rd TIME.LTCRX_NS.val = s.ns ∧
          t.rd TIME.LTCRX_SEQ.val = (s.rd TIME.LTCRX_SEQ.val + 1) % 2 ^ 32 ∧ t.times.ltc.run = l.run + 1 ∧
          (l.run = 1 → t.rd TIME.LTCRX_STAT.STATE = 2 ∨ s.rd TIME.LTCRX_STAT.STATE = 3) ∧ Frame [.live, .evt, .times, .out] s t) ∧
      (1 ≤ l.run → ∃ t, exec .ltcLost s = .next t ∧ t.times = { s.times with ltc := { l with run := 0, seen := false } } ∧
        (s.rd TIME.LTCRX_STAT.STATE = 2 → t.rd TIME.LTCRX_STAT.STATE = 1 ∧ t.flag TIME.HIST.LTCLOST = true ∧ Reported 0x0809 s t) ∧
        (s.rd TIME.LTCRX_STAT.STATE ≠ 2 → t.live = s.live) ∧ Frame [.live, .evt, .times, .out] s t) ∧
      (l.running = true → s.ltcBegin l.k ≤ l.samples + s.clk.cycle * s.fs / 10 ^ 9 →
        ∃ t, exec .ltcTxFrame s = .next t ∧ t.times.ltc.k = l.k + 1 ∧ t.times.ltc.jam = false ∧
          t.out = (if s.drives then [Output.ltc (if l.k = 0 ∨ l.jam then s.rd TIME.LTCTX_TC.val else l.tc) (s.rd TIME.LTCTX_UB.val)] else [])
            ++ s.out ∧ Frame [.times, .out] s t) ∧
      (v < 2 ^ 32 → s.hostReaches i TIME.LTCTX_CFG = true →
        ∃ t, exec (.ltcJam i v) s = .next t ∧ t.times = { s.times with ltc := { l with jam := true } } ∧
          Frame [.live, .shadow, .ckpt, .evt, .times, .out] s t)

/-- Network ports, the gate list and the tables: a link comes up and goes down, its loss emptying the port's transmit kennels; a free port starts to
send its next frame; the gate list goes to its next entry or begins its cycle; an unused MAC entry and a group member that no longer reports are
forgotten; the PCIe link's width and speed are recorded (R412, R420, R421, R424, R426, R427, R499). Model readings: log entries 29, 58. -/
def Obligations.LinksFramesGatesAndTables : Prop :=
  ∀ (x vid mac addr width speed : Nat) (v6 : Bool) (s : State),
    let p := s.port x
    (x < 3 → s.flag (NET.CFG.EN x) = true → s.flag (NET.STAT.IDLE x) = false → s.flag (NET.STAT.LINK x) = false →
      ∃ t, exec (.linkUp x) s = .next t ∧ t.flag (NET.STAT.LINK x) = true ∧ t.port x = { p with resume := true } ∧
        t.flag (NET.HIST.LINKUP x) = true ∧ Reported (portBlock x * 256 + 2) s t ∧ Frame [.live, .evt, .net, .out] s t) ∧
    (x < 3 → s.flag (NET.STAT.LINK x) = true →
      ∃ t, exec (.linkDown x) s = .next t ∧ t.flag (NET.STAT.LINK x) = false ∧
        t.rd (NET.LINKDOWNS.val x) = (s.rd (NET.LINKDOWNS.val x) + 1) % 2 ^ 32 ∧ t.flag (NET.HIST.LINKDOWN x) = true ∧
        Reported (portBlock x * 256 + 1) s t ∧ t.port x = { p with sending := none, resume := false } ∧
        (∀ k, portOf k = some x → (t.kennel k).pkts = []) ∧ (∀ k, portOf k ≠ some x → t.kennel k = s.kennel k) ∧
        (x < 2 → t.rd (TIME.PTP_CFG.STATE x) = 0) ∧ Frame [.live, .evt, .knl, .net, .out] s t) ∧
    (x < 3 → s.flag (NET.STAT.LINK x) = true → p.resume = false → p.sending = none → p.freeAt ≤ s.clk.now → p.holds = [] →
      (∀ k c, s.nextFrame x = some (k, c) →
        ∃ t, exec (.portFrameTx x) s = .next t ∧ (t.port x).sending = some k ∧
          (t.port x).freeAt = s.clk.now + s.wireNs x ((s.headFrame k).getD 0) ∧ (∀ y, y ≠ x → t.port y = s.port y) ∧
          (∀ j, j ≠ k → t.kennel j = s.kennel j) ∧ Frame [.live, .knl, .net] s t) ∧
      (s.nextFrame x = none → exec (.portFrameTx x) s = .next s)) ∧
    (s.flag SW.GCLCTL.EN = true → ∀ t0, s.net.cycleAt = some t0 →
      (∀ m iv, s.flag SW.GCLSTAT.RUNNING = true → reachedTime s.net.entryEnd s.ns = true →
        s.net.gates[s.rd SW.GCLSTAT.ENTRY + 1]? = some (m, iv) →
        ∃ t, exec .gateListAdvance s = .next t ∧ t.rd SW.GCLSTAT.ENTRY = (s.rd SW.GCLSTAT.ENTRY + 1) % 2 ^ SW.GCLSTAT.ENTRY.width ∧
          t.net = { s.net with entryEnd := (s.net.entryEnd + iv) % 2 ^ 32 } ∧ (∀ k, k ≠ SW.GCLSTAT → t.word k = s.word k) ∧
          Frame [.live, .net] s t) ∧
      (s.flag SW.GCLSTAT.RUNNING = false → reachedTime t0 s.ns = true →
        ∃ t, exec .gateListAdvance s = .next t ∧ t.flag SW.GCLSTAT.RUNNING = true ∧ t.rd SW.GCLSTAT.ENTRY = 0 ∧
          t.net.gates = s.gateList ∧ t.net.cycleAt = some ((t0 + s.rd SW.GCLCYCLE.val) % 2 ^ 32) ∧
          (∀ k, k ≠ SW.GCLSTAT → t.word k = s.word k) ∧ Frame [.live, .net] s t)) ∧
    (∀ y t0, Store.find s.net.macs (macKey vid mac) = some (y, t0) → s.rd SW.CTL.AGE * 10 ^ 9 ≤ s.clk.now - t0 →
      ∃ t, exec (.macEntryAged vid mac) s = .next t ∧ Store.find t.net.macs (macKey vid mac) = none ∧
        (∀ k, k ≠ macKey vid mac → Store.find t.net.macs k = Store.find s.net.macs k) ∧
        t.rd SW.MACCNT.val = t.net.macs.length % 2 ^ SW.MACCNT.val.width ∧ Frame [.live, .net] s t) ∧
    (∀ ps t0, Store.find s.net.groups (groupKey vid v6 addr) = some ps → (x, t0) ∈ ps → 260 * 10 ^ 9 ≤ s.clk.now - t0 →
      ∃ t, exec (.groupLeave x vid v6 addr) s = .next t ∧
        Store.find t.net.groups (groupKey vid v6 addr)
          = (if (ps.filter (fun q => q.1 != x)).isEmpty then none else some (ps.filter (fun q => q.1 != x))) ∧
        (∀ k, k ≠ groupKey vid v6 addr → Store.find t.net.groups k = Store.find s.net.groups k) ∧ Frame [.live, .net] s t) ∧
    (s.boot.held = false → s.ifaceOn 0 = true → s.apll 0 = 3 → (width = 1 ∨ width = 2) → 1 ≤ speed → speed ≤ 3 →
      ∃ t, exec (.pcieLinkTrained width speed) s = .next t ∧ t.flag HIF.IFSTAT.PCIE_UP = true ∧ t.rd HIF.IFSTAT.WIDTH = width ∧
        t.rd HIF.IFSTAT.SPEED = speed ∧ (∀ k, k ≠ HIF.IFSTAT → t.word k = s.word k) ∧ Frame [.live] s t)

/-- External memory and its clients: training is recorded; missed work is counted and reported, and its frames are invalid; a delay line writes its
valid source samples into its ring and its ring's delayed samples into its destination frame, and touches no other byte; the cue player reads its
voices into the next frame of its buffer, and starts those whose tick has come; a capture record goes into the ring, or is dropped for want of room
(R432, R436, R439, R443, R446, R447). Model readings: log entries 30, 58. -/
def Obligations.MemoryClientsDoTheirWork : Prop :=
  ∀ (c i : Nat) (s : State),
    let b := s.rd (DL.SRCBUF i)
    let ring := s.rd (DL.RBASE i) * 4096
    let f := (s.tick + 1) % 2 ^ 32
    let len := s.rd CUE.CAPLEN.val * 4096
    let p := s.mem.capPos
    let size := Cfg.capBytes s.live
    let b2 := s.rd (DL.DSTBUF i)
    let dst (j : Nat) := s.sxmAddr b2 f (j * s.bufC b2 + s.rd (DL.DSTCH i))
    let slot (j : Nat) := (f * s.bufS b2 + j + 2 ^ s.rd (DL.LOG2 i) * 2 ^ 21 - s.rd (DL.D i)) % 2 ^ s.rd (DL.LOG2 i)
    let ob := s.rd CUE.CFG.OUTBUF
    let cue (v j : Nat) := s.sxmAddr ob f (j * s.bufC ob + v)
    let at_ (j : Nat) := s.rd CUE.CAPBASE.val * 4096 + (p + 4 * j) % max len 4
    let starts (v : Nat) : Bool := ((s.voice v).start == some f && s.memberOpen 6 v f) || s.voiceHerd v f
    i < 4096 →
    (s.flag DRAM.CFG.EN = true → s.flag DRAM.STAT.TRAINED = false → s.flag GLB.UNITCAP.DRAMCTL = true →
      ∃ t, exec .dramTrained s = .next t ∧ t.flag DRAM.STAT.TRAINED = true ∧
        t.rd DRAM.STAT.USABLE = Cfg.dramUsable s.live % 2 ^ DRAM.STAT.USABLE.width ∧ t.flag DRAM.HIST.TRAINED = true ∧
        Reported 0x1201 s t ∧ Frame [.live, .evt, .out] s t) ∧
    (s.ticking = true → (s.isDue c i = true ∨ c = 4) → c < 5 →
      ∃ t, exec (.dramLate c i) s = .next t ∧ t.rd (DRAM.LATE.val c) = (s.rd (DRAM.LATE.val c) + 1) % 2 ^ 32 ∧ t.isDue c i = false ∧
        (c = 1 → ∀ j, j < s.bufS (s.rd (DL.DSTBUF i)) → NatSet.has t.mem.bad (badKey (s.rd (DL.DSTBUF i)) j) = true) ∧
        (c = 3 → ∀ j, j < s.bufS (s.rd CUE.CFG.OUTBUF) → NatSet.has t.mem.bad (badKey (s.rd CUE.CFG.OUTBUF) j) = true) ∧
        t.flag DRAM.HIST.LATE = true ∧ Reported 0x1203 s t ∧
        Frame (if c = 3 then [.live, .evt, .sxm, .sxmPast, .mem, .out] else [.live, .evt, .mem, .out]) s t) ∧
    (s.ticking = true → s.isDue 1 i = true → s.bufS b ≤ 2 ^ s.rd (DL.LOG2 i) →
      ∃ t, exec (.delayLineService i [] 0) s = .next t ∧ t.isDue 1 i = false ∧
        (∀ j, j < s.bufS b → s.isValid b s.tick j = true →
          Memory.word t.dram (ring + (s.tick * s.bufS b + j) % 2 ^ s.rd (DL.LOG2 i) * 4)
            = s.sxmWord (s.sxmAddr b s.tick (j * s.bufC b + s.rd (DL.SRCCH i)))) ∧
        (∀ a, a < ring ∨ ring + 4 * 2 ^ s.rd (DL.LOG2 i) ≤ a → Memory.byte t.dram a = Memory.byte s.dram a) ∧
        (0 < s.bufC b2 → ∀ j, j < s.bufS b2 → t.sxmWord (dst j) = Memory.word t.dram (ring + slot j * 4) ∧
          (NatSet.has t.mem.dlValid (dlKey i (slot j)) = false → NatSet.has t.mem.bad (badKey b2 j) = true)) ∧
        (∀ a, (∀ j, j < s.bufS b2 → a < dst j ∨ dst j + 4 ≤ a) → Memory.byte t.sxm a = Memory.byte s.sxm a) ∧
        Frame [.sxm, .sxmPast, .dram, .free, .mem] s t) ∧
    (s.ticking = true → s.isDue 3 0 = true →
      ∃ t, exec (.voiceSampleRead [] 0) s = .next t ∧ t.isDue 3 0 = false ∧
        (∀ v, v < 256 → (s.voice v).on = false → (s.flag (VT.EN v) && starts v) = false → t.voice v = s.voice v ∧
          (256 ≤ s.bufC ob → ∀ j, j < s.bufS ob → t.sxmWord (cue v j) = 0)) ∧
        (∀ v, v < 256 → (s.voice v).on = true → (s.flag (VT.EN v) && starts v) = false → 256 ≤ s.bufC ob → 0 < s.bufS ob →
          t.sxmWord (cue v 0) = (s.voiceSample v (s.voice v)).1) ∧
        (∀ a, (∀ v j, v < 256 → j < s.bufS ob → a < cue v j ∨ cue v j + 4 ≤ a) → Memory.byte t.sxm a = Memory.byte s.sxm a) ∧
        (∀ v, v < 256 → (s.flag (VT.EN v) && starts v) = true →
          (t.voice v).base = s.rd (VT.CLIPBASE v) * 4096 ∧ (t.voice v).len = s.rd (VT.LEN v)) ∧ Frame [.live, .sxm, .sxmPast, .mem] s t) ∧
    (s.ticking = true → s.isDue 5 0 = true →
      (s.flag CUE.CAPCTL.MODE = true ∨ p + size ≤ len →
        ∃ t, exec (.captureRecord true) s = .next t ∧ t.rd CUE.CAPRECS.val = (s.rd CUE.CAPRECS.val + 1) % 2 ^ 32 ∧
          t.rd CUE.CAPWRPTR.val = (if len = 0 then 0 else (p + size) % len) % 2 ^ 32 ∧ t.mem.capSeq = s.mem.capSeq + 1 ∧
          (0 < len → 4 * (s.capRecord s.tick).length ≤ len → ∀ j w, (s.capRecord s.tick)[j]? = some w → Memory.word t.dram (at_ j) = w % 2 ^ 32) ∧
          (∀ a, (∀ j, j < (s.capRecord s.tick).length → a < at_ j ∨ at_ j + 4 ≤ a) → Memory.byte t.dram a = Memory.byte s.dram a) ∧
          t.mem.capPos = p + size ∧ t.mem.capDrops = 0 ∧ t.isDue 5 0 = false ∧ Frame [.live, .dram, .mem] s t) ∧
      (s.flag CUE.CAPCTL.MODE = false → len < p + size →
        ∃ t, exec (.captureRecord true) s = .next t ∧ t.flag CUE.CAPSTAT.RUNNING = false ∧ t.flag CUE.CAPSTAT.FULL = true ∧
          t.dram = s.dram ∧ Reported 0x1303 s t ∧ Frame [.live, .evt, .mem, .out] s t) ∧
      (∃ t, exec (.captureRecord false) s = .next t ∧ t.rd CUE.CAPDROP.val = (s.rd CUE.CAPDROP.val + 1) % 2 ^ 32 ∧
        t.mem.capDrops = s.mem.capDrops + 1 ∧ t.flag CUE.HIST.GAP = true ∧ Reported 0x1302 s t ∧ Frame [.live, .evt, .mem, .out] s t))

/-- The host's commands of the cue player and the capture ring, and what voices make of them: GO fixes the start at n + 2, STOP ramps a playing voice
down and ends one that waits, a voice plays from its tick on and is DONE after the frame in which it ended; a capture GO begins an empty ring, STOP
ends the recording (R443, R447). Model readings: log entries 30, 80. -/
def Obligations.VoicesAndCaptureObeyTheirCommands : Prop :=
  ∀ (i : Iface) (n v : Nat) (s : State),
    let x := s.voice n
    let others (t : State) : Prop := ∀ w, w ≠ n → t.voice w = s.voice w
    n < 256 →
      (s.hostReaches i CUE.VCMD = true → s.flag (VT.EN n) = true →
        ∃ t, exec (.voiceGo i n) s = .next t ∧ t.voice n = { x with start := some ((s.tick + 2) % 2 ^ 32) } ∧ t.rd (VS.STATE n) = 1 ∧
          others t ∧ Frame [.live, .mem] s t) ∧
      (s.hostReaches i CUE.VCMD = true → s.flag (VT.EN n) = false →
        ∃ t, exec (.voiceGo i n) s = .next t ∧ t.mem = s.mem ∧ Frame [.live] s t) ∧
      (s.hostReaches i CUE.VCMD = true → x.on = true →
        ∃ t, exec (.voiceStop i n) s = .next t ∧
          t.voice n = { x with g0 := x.gain, target := 0, ramp := s.rd (VT.RAMP n), at_ := 0, stopping := true } ∧
          t.rd (VS.STATE n) = 3 ∧ others t ∧ Frame [.live, .mem] s t) ∧
      (s.hostReaches i CUE.VCMD = true → x.on = false → x.start.isSome = true →
        ∃ t, exec (.voiceStop i n) s = .next t ∧ t.voice n = { x with start := none } ∧ t.rd (VS.STATE n) = 4 ∧ others t ∧
          Frame [.live, .mem] s t) ∧
      (∀ f, x.start = some f → x.on = true → s.ticking = true → futureTick f s.tick = false →
        ∃ t, exec (.voiceStart n) s = .next t ∧ t.voice n = { x with start := none } ∧
          t.rd (VS.STATE n) = (if x.stopping then 3 else 2) ∧ t.rd (VS.S n) = f % 2 ^ 32 ∧ others t ∧ Frame [.live, .mem] s t) ∧
      (∀ f natural, x.ends = some (f, natural) → futureTick f s.tick = false →
        ∃ t, exec (.cueVoiceDone n) s = .next t ∧ t.voice n = { x with ends := none } ∧ t.rd (VS.STATE n) = 4 ∧ others t ∧
          (natural = true → t.flag CUE.HIST.VOICEDONE = true ∧ Reported 0x1301 s t) ∧ Frame [.live, .evt, .mem, .out] s t) ∧
      (v < 2 ^ 32 → s.hostReaches i CUE.CAPCTL = true → v.testBit 1 = false → s.flag CUE.CAPCTL.EN = true → s.flag CUE.CAPSTAT.RUNNING = true →
        ∃ t, exec (.captureGo i v) s = .next t ∧ t.mem = { s.mem with capAt := some ((s.tick + 1) % 2 ^ 32), capStop := false } ∧
          t.rd CUE.CAPWRPTR.val = s.rd CUE.CAPWRPTR.val ∧ Frame [.live, .shadow, .ckpt, .evt, .mem, .out] s t) ∧
      (v < 2 ^ 32 → s.hostReaches i CUE.CAPCTL = true → v.testBit 1 = false → s.flag CUE.CAPCTL.EN = true → s.flag CUE.CAPSTAT.RUNNING = false →
        ∃ t, exec (.captureGo i v) s = .next t ∧ t.rd CUE.CAPWRPTR.val = 0 ∧ t.rd CUE.CAPRECS.val = 0 ∧ t.flag CUE.CAPSTAT.FULL = false ∧
          t.mem = { s.mem with capAt := some ((s.tick + 1) % 2 ^ 32), capStop := false, capSeq := 0, capDrops := 0, capPos := 0 } ∧
          Frame [.live, .shadow, .ckpt, .evt, .mem, .out] s t) ∧
      (v < 2 ^ 32 → s.hostReaches i CUE.CAPCTL = true →
        ∃ t, exec (.captureStop i v) s = .next t ∧ t.mem = { s.mem with capStop := s.flag CUE.CAPSTAT.RUNNING, capAt := none } ∧
          Frame [.live, .shadow, .ckpt, .evt, .mem, .out] s t)

/-- The pair's barks: a bark of the tick is recorded with its skew and round trip, one with a bad tag only counts, a missing bark counts and the third
in a row loses the partner; the partner becomes SYNCED, the STANDBY enters CONVERGING with the boundary that TXB names, and path B changes hands
there (R454, R455, R457, R458, R464, R466). Model readings: log entries 23, 37. -/
def Obligations.BarksConvergenceAndPathB : Prop :=
  ∀ (ws tag : List Nat) (skew : Int) (rtt : Nat) (img : PairImage) (s : State),
    let p := s.pair
    let en := s.flag PAIR.CFG.EN = true ∧ s.ticking = true
    (en → s.packetGood ws tag = false →
      ∃ t, exec (.barkReceive ws tag skew rtt) s = .next t ∧ t.rd PAIR.BADTAG.val = (s.rd PAIR.BADTAG.val + 1) % 2 ^ 32 ∧
        (∀ k, k ≠ PAIR.BADTAG → t.word k = s.word k) ∧ Frame [.live] s t) ∧
    (en → s.packetGood ws tag = true → ws.getD 1 0 = s.tick → skew.natAbs ≤ 1000 → rtt < 2 ^ 32 →
      ∃ t, exec (.barkReceive ws tag skew rtt) s = .next t ∧ t.rdS PAIR.SKEW.val = skew ∧ t.rd PAIR.RTT.val = rtt ∧
        t.pair.barkHere = true ∧ t.pair.skewRun = 0 ∧ t.ref = { s.ref with mate := ws.getD 6 0 } ∧
        (p.barkHere = false → t.pair.lastBark = some s.tick ∧ (p.lastBark ≠ some s.tick → t.pair.missRun = 0)) ∧
        Frame [.live, .evt, .pair, .ref, .out] s t) ∧
    (en → p.barkHere = false → 20000 ≤ s.clk.cycle →
      ∃ t, exec .barkMissing s = .next t ∧ t.rd PAIR.BARKMISS.val = (s.rd PAIR.BARKMISS.val + 1) % 2 ^ 32 ∧ t.pair.barkHere = true ∧
        t.pair.goodRun = 0 ∧ t.pair.missRun = p.missRun + 1 ∧
        (p.missRun < 2 → (∀ k, k ≠ PAIR.BARKMISS → t.word k = s.word k) ∧ Frame [.live, .pair] s t) ∧
        (2 ≤ p.missRun → s.partner ≠ 0 → s.partner ≠ 4 → t.partner = 4 ∧ t.flag PAIR.HIST.LOST = true ∧ t.pair.converge = none ∧ Reported 0x1401 s t)) ∧
    (s.partner = 2 → ((s.role = 2 ∧ p.converge = some 0) ∨ (s.role = 1 ∧ p.syncedNew = true)) →
      ∃ t, exec .pairSynced s = .next t ∧ t.partner = 3 ∧ t.pair = { p with converge := none, syncedNew := false } ∧
        t.flag PAIR.HIST.SYNCED = true ∧ Reported 0x1402 s t ∧ Frame [.live, .evt, .pair, .out] s t) ∧
    (∀ b, p.txb = some b → s.role ≠ 0 → futureTick b s.tick = false →
      ∃ t, exec .pathBHandover s = .next t ∧ t.pair = { p with handed := true } ∧ Frame [.pair] s t) ∧
    (s.role = 2 → s.partner = 1 → s.clk.phase = .work → s.clk.cycle = 0 → p.handed = false →
      ∃ t, exec (.pairConverging img) s = .next t ∧ t.partner = 2 ∧ t.pair.txb = some ((s.tick + 9) % 2 ^ 32) ∧ t.pair.converge.isSome = true ∧
        Frame [.live, .shadow, .pend, .commit, .ckpt, .evt, .dmem, .valid, .placed, .spoiled, .ge, .free, .muz, .herd, .pair, .knl, .copies, .rxHeld, .rx,
               .deepValid, .tx, .loc, .atx, .syn, .times, .net, .mem, .txLoaded, .out] s t)

/-- Roles and votes: the shepherd's pin is the vote where the mode is PIN; a witness message is judged, and a good one gives a vote for its validity;
the vote expires; the vote is sampled before the guard on a STANDBY, and at its start on an ACTIVE; before the first tick the partner's hello, or
its silence, is noted (R461, R467 to R470). Model readings: log entry 58. -/
def Obligations.VotesAndRolesFollowTheShepherd : Prop :=
  ∀ (level ticks : Bool) (bytes : List Nat) (serial index : Nat) (s : State),
    let p := s.pair
    let ms := beAt bytes 20 4
    let seq := beAt bytes 8 8
    let waits := s.boot.held = false ∧ s.pairHint = true ∧ s.ticking = false
    (s.shepherd = 1 → ∃ t, exec (.shepherdPinChange level) s = .next t ∧
      t.pair = { p with pin := level, vote := some (if level then 1 else 0, none) } ∧
      t.rd PAIR.STAT.VOTE = (if level then 2 else 1) ∧ (∀ k, k ≠ PAIR.STAT → t.word k = s.word k) ∧ Frame [.live, .pair] s t) ∧
    (s.shepherd ≠ 1 → ∃ t, exec (.shepherdPinChange level) s = .next t ∧ t.pair = { p with pin := level } ∧ Frame [.pair] s t) ∧
    (s.shepherd = 2 → ∀ cause, s.witnessBad bytes = some cause →
      ∃ t, exec (.witnessMessage bytes) s = .next t ∧ t.rd PAIR.WITBAD.val = (s.rd PAIR.WITBAD.val + 1) % 2 ^ 32 ∧
        t.flag PAIR.HIST.WITBAD = true ∧ Reported 0x1407 s t ∧ Frame [.live, .evt, .out] s t) ∧
    (s.shepherd = 2 → s.witnessBad bytes = none →
      ∃ t, exec (.witnessMessage bytes) s = .next t ∧ t.ret = { s.ret with seq := seq } ∧ t.num PAIR.VOTESEQLO = seq % 2 ^ 32 ∧
        t.pair = { p with vote := if ms = 0 then none else some (beAt bytes 16 1, some (s.clk.now + ms * 10 ^ 6)) } ∧ Frame [.live, .pair, .ret] s t) ∧
    (∀ side t0, p.vote = some (side, some t0) → t0 ≤ s.clk.now →
      ∃ t, exec .voteExpire s = .next t ∧ t.pair = { p with vote := none } ∧ t.rd PAIR.STAT.VOTE = 0 ∧
        (∀ k, k ≠ PAIR.STAT → t.word k = s.word k) ∧ Frame [.live, .pair] s t) ∧
    (s.shepherd = 1 ∨ s.shepherd = 2 → p.sampled = false →
      (s.role = 2 → s.clk.phase = .work → nominalCycles s.tickLen s.fs ≤ s.clk.cycle + 2512 →
        ∃ t, exec .voteSample s = .next t ∧ t.pair = { p with sampled := true, nextRole := if s.voted then some 1 else p.nextRole } ∧
          Frame [.pair] s t) ∧
      (s.role = 1 → s.clk.phase = .guard →
        ∃ t, exec .voteSample s = .next t ∧ t.pair = { p with sampled := true, nextRole := if s.voted then p.nextRole else some 2 } ∧
          Frame [.pair] s t)) ∧
    (waits → s.boot.alone = false → ∃ t, exec (.pairHello serial ticks index) s = .next t ∧
      t.boot = { s.boot with hello := some (serial, ticks, index % 2 ^ 32) } ∧ Frame [.boot] s t) ∧
    (waits → s.boot.hello = none → 10 ^ 8 ≤ s.clk.now → ∃ t, exec .pairHelloTimeout s = .next t ∧ t.boot = { s.boot with alone := true } ∧
      Frame [.boot] s t)

/-- Mirroring: a journal entry of the ACTIVE takes its place in the STANDBY's journal, and a write to a table word goes into its open shadow once the
chip has joined; a forwarded write to a local block is journaled on the ACTIVE; a bad tag is only counted (R455, R463, R464). Model readings: log
entry 37. -/
def Obligations.MirroredEntriesAreTakenAndForwardedOnesJournaled : Prop :=
  ∀ (ws tag : List Nat) (k v : Nat) (s : State),
    let w (i : Nat) := ws.getD i 0
    let key := entryKey (w 1)
    let rejected (t : State) : Prop := t.rd PAIR.BADTAG.val = (s.rd PAIR.BADTAG.val + 1) % 2 ^ 32 ∧
      (∀ j, j ≠ PAIR.BADTAG → t.word j = s.word j) ∧ Frame [.live] s t
    (s.role = 2 → s.paired = true →
      (s.packetGood ws tag = false → ∃ t, exec (.mirrorPacketReceive ws tag) s = .next t ∧ rejected t) ∧
      (s.packetGood ws tag = true → s.partner = 1 → ∃ t, exec (.mirrorPacketReceive ws tag) s = .next t ∧
        t.rd GLB.JSEQ.val = w 0 % 2 ^ 32 ∧ t.num (journalKey (w 0) 2) = w 2 % 2 ^ 32 ∧ Frame [.live, .ckpt] s t) ∧
      (s.packetGood ws tag = true → s.partner ≠ 1 → w 1 / 2 ^ 29 = 0 → bit (w 1) 28 = true → bit (w 1) 27 = false →
        ∃ t u, exec (.mirrorPacketReceive ws tag) s = .next t ∧ t.rd GLB.JSEQ.val = w 0 % 2 ^ 32 ∧ Store.find t.shadow key = some u ∧
          sameBits u (BitVec.ofNat 32 (w 2)) (rwsMask key) = true ∧ (∀ j, j ≠ key → Store.find t.shadow j = Store.find s.shadow j) ∧
          Frame [.live, .shadow, .ckpt, .pair] s t)) ∧
    (s.role = 1 → s.paired = true →
      (s.packetGood [k, v] tag = false → ∃ t, exec (.forwardedLocalWrite k v tag) s = .next t ∧ rejected t) ∧
      (s.packetGood [k, v] tag = true → localBlock k = true → s.journalFull = false →
        ∃ t, exec (.forwardedLocalWrite k v tag) s = .next t ∧ t.rd GLB.JSEQ.val = (s.rd GLB.JSEQ.val + 1) % 2 ^ 32 ∧
          t.num (journalKey ((s.rd GLB.JSEQ.val + 1) % 2 ^ 32) 2) = v % 2 ^ 32 ∧ t.shadow = s.shadow ∧ Frame [.live, .ckpt, .out] s t) ∧
      (s.packetGood [k, v] tag = true → localBlock k = true → s.journalFull = true →
        ∃ t, exec (.forwardedLocalWrite k v tag) s = .next t ∧ t.rd GLB.JSEQ.val = s.rd GLB.JSEQ.val ∧ Reported 0x0003 s t ∧
          Frame [.live, .evt, .out] s t))

/-- A dword of the host: without byte enables it does nothing; outside the map, in a removed unit, narrower than a dword or in a read-only window it is
not taken and is recorded; a whole dword to a table word goes into the open shadow and to no live word; to a register of RW fields it takes those
fields, and through an alias it sets, clears or inverts their written bits (R5, R33, R485, R489, R498, R499, R600). Model readings: log entry 43. -/
def Obligations.HostWritesReachWordsOrAreRefused : Prop :=
  ∀ (i : Iface) (bar o be v k : Nat) (s : State),
    let place := s.placeAt bar o
    let quiet (t : State) (ks : List Nat) : Prop := ∀ j, j ∉ ks → reportKey j = false → t.word j = s.word j
    let refused (t : State) (cause : Nat) : Prop :=
      t.rd HIF.ACCERRCNT.val = (s.rd HIF.ACCERRCNT.val + 1) % 2 ^ 32 ∧ t.flag HIF.HIST.ACC_ERR = true ∧
        (s.flag HIF.HIST.ACC_ERR = false → t.rd HIF.ACCERRINFO.CAUSE = cause ∧ t.rd HIF.ACCERRADDR.val = hostAddr (hostKey bar o)) ∧
        Reported 0x0101 s t ∧ quiet t [HIF.ACCERRCNT, HIF.HIST, HIF.ACCERRADDR, HIF.ACCERRINFO] ∧ Frame [.live, .evt, .out] s t
    let runs (c : Instr) (w : Word) : Prop := ∃ t, exec c s = .next t ∧ t.word k = w ∧ (∀ j, j ≠ k → t.word j = s.word j) ∧ Frame [.live] s t
    (bar < 3 → o < barSize bar → o % 4 = 0 → s.ifaceEnabled i = true → s.responds bar o = true →
      (be % 16 = 0 → exec (.hostWrite i bar o be v) s = .next s) ∧
      (be % 16 ≠ 0 → place = .unmapped → ∃ t, exec (.hostWrite i bar o be v) s = .next t ∧ refused t 2) ∧
      (be % 16 ≠ 0 → place ≠ .unmapped → s.removedPlace place = true →
        ∃ t, exec (.hostWrite i bar o be v) s = .next t ∧ t.rd HIF.ABSENTCNT.val = (s.rd HIF.ABSENTCNT.val + 1) % 2 ^ 32 ∧
          t.flag HIF.HIST.ABSENT = true ∧ Reported 0x0103 s t ∧ quiet t [HIF.ABSENTCNT, HIF.HIST] ∧ Frame [.live, .evt, .out] s t) ∧
      (be % 16 ≠ 0 → be % 16 ≠ 15 → place ≠ .unmapped → s.removedPlace place = false →
        ∃ t, exec (.hostWrite i bar o be v) s = .next t ∧ refused t 1) ∧
      (be % 16 = 15 → place = .status k → s.removedPlace place = false →
        ∃ t, exec (.hostWrite i bar o be v) s = .next t ∧ refused t 3) ∧
      (be % 16 = 15 → place = .shadowed k → s.removedPlace place = false → s.standby = false → s.hasRoom [(k, BitVec.ofNat 32 v)] = true →
        ∃ t, exec (.hostWrite i bar o be v) s = .next t ∧ Store.find t.shadow k = some (BitVec.ofNat 32 v) ∧
          (∀ j, j ≠ k → Store.find t.shadow j = Store.find s.shadow j) ∧ t.word k = s.word k ∧ Frame [.live, .shadow, .ckpt, .out] s t)) ∧
    (∀ f n, regAt k = some (f, n) → f.rw ≠ 0 → f.rws = 0 → f.wo1 = 0 → f.sq = 0 → f.wp = 0 →
      (k / 2 ^ 16 = 0 ∨ k / 2 ^ 16 = 3 ∨ k / 2 ^ 16 = 0x17) → s.hostReaches i k = true →
        (let w := s.word k
         let b := BitVec.ofNat 32 v &&& BitVec.ofNat 32 f.rw
         runs (.hostWrite i 0 k 15 v) (mergeBits w (BitVec.ofNat 32 v) f.rw) ∧ runs (.setAliasWrite i k v) (w ||| b) ∧
           runs (.clrAliasWrite i k v) (w &&& ~~~b) ∧ runs (.tglAliasWrite i k v) (w ^^^ b)))

/-- Sticky and write-once registers: an acknowledgement with the register's SEQ clears the bits written, with another it only counts; the first write of
a write-once register takes its value, a second one is recorded and changes nothing; the first write of PAIRSALT3 derives the pairing key after the
retention store is cleared (R490, R491, R521, R522). Model readings: log entries 40, 43. -/
def Obligations.StickyBitsAndWriteOnceRegisters : Prop :=
  ∀ (i : Iface) (k v : Nat) (s : State) (f : RegFam) (n : Nat),
    let w := s.word k
    let cleared := w &&& ~~~(BitVec.ofNat 32 v &&& 0xFFFFFF#32)
    regAt k = some (f, n) → v < 2 ^ 32 → s.hostReaches i k = true →
      (f.sq ≠ 0 → k / 2 ^ 16 = 5 → ∃ t, exec (.sqAcknowledge i k v) s = .next t ∧ t.flag REF.PROFILE.MODE = true ∧
        (w.toNat / 2 ^ 24 = v / 2 ^ 24 → t.word k = cleared ∧ ∀ j, j ≠ k → j ≠ REF.PROFILE → t.word j = s.word j) ∧ Frame [.live] s t) ∧
      (f.sq ≠ 0 → k / 2 ^ 16 ≠ 2 → k / 2 ^ 16 ≠ 5 →
        (w.toNat / 2 ^ 24 = v / 2 ^ 24 → ∃ t, exec (.sqAcknowledge i k v) s = .next t ∧ t.word k = cleared ∧
          (∀ j, j ≠ k → t.word j = s.word j) ∧ Frame [.live] s t) ∧
        (w.toNat / 2 ^ 24 ≠ v / 2 ^ 24 → ∃ t, exec (.sqAcknowledge i k v) s = .next t ∧
          t.rd HIF.ACK_STALE.val = (s.rd HIF.ACK_STALE.val + 1) % 2 ^ 32 ∧ t.num HIF.ACKADDR = hostAddr k ∧
          (∀ j, j ≠ HIF.ACK_STALE → j ≠ HIF.ACKADDR → t.word j = s.word j) ∧ Frame [.live] s t)) ∧
      (f.sq ≠ 0 → k / 2 ^ 16 = 2 → w.toNat / 2 ^ 24 = v / 2 ^ 24 → ∃ t, exec (.sqAcknowledge i k v) s = .next t ∧ t.word k = cleared ∧
        (∀ j, j ≠ k → j ≠ msixPending → t.word j = s.word j) ∧ Frame [.live, .evt, .out] s t) ∧
      (f.wo1 ≠ 0 → NatSet.has s.sec.once k = false → k ≠ SEC.PAIRSALT 3 → ∃ t, exec (.wo1Write i k v) s = .next t ∧
        t.word k = mergeBits w (BitVec.ofNat 32 v) f.wo1 ∧ t.sec = { s.sec with once := NatSet.add s.sec.once k } ∧
        (∀ j, j ≠ k → t.word j = s.word j) ∧ Frame [.live, .sec] s t) ∧
      (k = SEC.PAIRSALT 3 → NatSet.has s.sec.once k = false → ∃ t, exec (.wo1Write i k v) s = .next t ∧
        t.ret = { Retention.reset with key := some (Config.pairKey (if s.fuse.lc = 0 then List.replicate 32 0 else
          s.fuse.root.getD (List.replicate 32 0)) (leBytes (s.num (SEC.PAIRSALT 0)) ++ leBytes (s.num (SEC.PAIRSALT 1))
            ++ leBytes (s.num (SEC.PAIRSALT 2)) ++ leBytes v)) } ∧
        t.flag SEC.PAIRSTAT.KEY = true ∧ t.num (SEC.PAIRSALT 3) = v ∧ t.num PAIR.VOTESEQLO = 0 ∧ t.num PAIR.VOTESEQHI = 0 ∧
        t.rd UPD.BOOT.FAILS = 0 ∧ Frame [.live, .ret, .sec] s t) ∧
      (f.wo1 ≠ 0 → NatSet.has s.sec.once k = true → ∃ t, exec (.wo1Write i k v) s = .next t ∧
        t.rd HIF.LOCKCNT.val = (s.rd HIF.LOCKCNT.val + 1) % 2 ^ 32 ∧ t.flag HIF.HIST.LOCK_VIOL = true ∧ Reported 0x0102 s t ∧
        (∀ j, j ≠ HIF.LOCKCNT → j ≠ HIF.LOCKADDR → j ≠ HIF.HIST → reportKey j = false → t.word j = s.word j) ∧ Frame [.live, .evt, .out] s t)

/-- The SPI port: a frame for another device does nothing; a good one-word write frame is the write of its word, acknowledged with 5A; a good read frame
answers its words and their CRC and changes nothing; a frame of wrong length or CRC is counted, reported and answered with its error code (R486 to
R488). Model readings: log entry 44. -/
def Obligations.SpiFramesWriteReadOrFail : Prop :=
  ∀ (bytes : List Nat) (gap : Nat) (s : State),
    let h := spiHead bytes
    let m := 5 + 4 * h.count
    let data := (List.range h.count).flatMap (fun j => beBytes (s.hostRead h.bar (h.word j)))
    let failed (t : State) (f : Fld) (code : Nat) : Prop := t.rd f = (s.rd f + 1) % 2 ^ f.width ∧ t.flag HIF.HIST.SPI = true ∧
      Reported 0x0104 s t ∧ t.out.head? = some (.spi [code]) ∧
      (∀ j, j ≠ HIF.SPISTAT → j ≠ HIF.HIST → reportKey j = false → t.word j = s.word j) ∧ Frame [.live, .evt, .out] s t
    (s.spiMine bytes = false → exec (.spiWriteFrame bytes) s = .next s ∧ exec (.spiReadFrame bytes gap) s = .next s) ∧
    (s.spiMine bytes = true → h.op = 1 →
      (bytes.length ≠ m + 2 → ∃ t, exec (.spiWriteFrame bytes) s = .next t ∧ failed t HIF.SPISTAT.FRAMEERR 0xE2) ∧
      (bytes.length = m + 2 → crc8 (bytes.take m) ≠ bytes.getD m 0 →
        ∃ t, exec (.spiWriteFrame bytes) s = .next t ∧ failed t HIF.SPISTAT.CRCERR 0xE1) ∧
      (bytes.length = m + 2 → crc8 (bytes.take m) = bytes.getD m 0 → h.addrGood = true → h.count = 1 →
        ∃ t, exec (.hostWrite .spi h.bar (h.word 0) 15 (beNumber ((bytes.drop 5).take 4))) s = .next t ∧
          exec (.spiWriteFrame bytes) s = .next (t.emit (.spi [0x5A])))) ∧
    (s.spiMine bytes = true → h.op = 0 → 6 ≤ bytes.length →
      (crc8 (bytes.take 5) ≠ bytes.getD 5 0 → ∃ t, exec (.spiReadFrame bytes gap) s = .next t ∧ failed t HIF.SPISTAT.CRCERR 0xE1) ∧
      (crc8 (bytes.take 5) = bytes.getD 5 0 → h.addrGood = true → bytes.length = 6 + gap + 4 * h.count + 2 →
        ∃ t, exec (.spiReadFrame bytes gap) s = .next t ∧ Frame [.out] s t ∧
          t.out = .spi (List.replicate gap 0 ++ 0x5A :: data ++ [crc8 (0x5A :: data)]) :: s.out))

/-- Host DMA: a doorbell makes descriptors ready; a descriptor of length 0 completes, one of reserved space ends the channel in error, a DRAM descriptor
moves its words and touches no byte of DRAM outside them; each completion writes words 6 and 7, advances HEAD and counts; a packet that fits is
pushed into its kennel and counted as moved (R494 to R497). Model readings: log entry 46. -/
def Obligations.DmaDescriptorsAndDoorbells : Prop :=
  ∀ (c v : Nat) (desc data packet ws : List Nat) (s : State),
    let d := descriptorOf ws
    let x := s.dmaCh c
    let head := s.rd (HIF.DMA_HEAD.val c)
    let others (t : State) : Prop := ∀ y, y ≠ c → t.dmaCh y = s.dmaCh y
    let completed (t : State) (status n : Nat) : Prop :=
      t.rd (HIF.DMA_HEAD.val c) = (head + 1) % s.ringSize c % 2 ^ (HIF.DMA_HEAD.val c).width ∧
        t.rd (HIF.DMA_DONE.val c) = (s.rd (HIF.DMA_DONE.val c) + 1) % 2 ^ 32 ∧ t.rd (HIF.DMA_STAT.STATUS c) = status ∧ others t ∧
        t.dmaCh c = { x with cur := [], moved := 0 } ∧
        .host (s.rd (HIF.DMA_RINGHI.val c) * 2 ^ 32 + s.rd (HIF.DMA_RINGLO.val c) * 32 + head * 32 + 24) [n % 2 ^ 25, 2 ^ 31 + status] ∈ t.out ∧
        (status ≠ 0 → t.rd (HIF.DMA_STAT.STATE c) = 2 ∧ t.flag HIF.HIST.DMA_ERR = true ∧ Reported 0x0105 s t)
    (c < 8 → v < 2 ^ 32 → s.ifaceOn 0 = true → s.stage = 7 → ∃ t, exec (.dmaDoorbell c v) s = .next t ∧ t.num (doorbellKey c) = v ∧ others t ∧
      (s.rd (HIF.DMA_STAT.STATE c) = 2 → t.dmaCh c = x ∧ ∀ k, k ≠ doorbellKey c → t.word k = s.word k) ∧
      (s.rd (HIF.DMA_STAT.STATE c) ≠ 2 → t.dmaCh c = { x with ready := v } ∧
        t.rd (HIF.DMA_STAT.STATE c) = (if !x.cur.isEmpty || (s.flag (HIF.DMA_CFG.EN c) && head != v % s.ringSize c) then 1 else 0) ∧
        ∀ k, k ≠ doorbellKey c → k ≠ HIF.DMA_STAT c → t.word k = s.word k) ∧ Frame [.live, .dma] s t) ∧
    (s.dmaWork c desc = some ws →
      (d.len = 0 → ∃ t, exec (.dmaDescriptorDone c desc data [] false) s = .next t ∧ completed t 0 0 ∧
        Frame [.live, .evt, .knl, .dma, .out] s t) ∧
      (d.len ≠ 0 → d.space = 3 → ∃ t, exec (.dmaDescriptorDone c desc data [] false) s = .next t ∧ completed t 2 0 ∧
        Frame [.live, .evt, .dma, .out] s t) ∧
      (d.len ≠ 0 → d.space = 0 → s.flag GLB.UNITCAP.DRAMCTL = true → d.addr + d.len ≤ s.rd DRAM.STAT.USABLE * 4096 →
        ∃ t, exec (.dmaDescriptorDone c desc data [] false) s = .next t ∧ completed t 0 d.len ∧
          (d.toHost = true → .host d.host ((wordAddrs d.addr (d.len / 4)).map (Memory.word s.dram)) ∈ t.out ∧ t.dram = s.dram) ∧
          (d.toHost = false → (∀ j, j < d.len / 4 → Memory.word t.dram (d.addr + 4 * j) = data.getD j 0 % 2 ^ 32) ∧
            ∀ a, (a < d.addr ∨ d.addr + d.len ≤ a) → Memory.byte t.dram a = Memory.byte s.dram a) ∧
          Frame [.live, .evt, .dram, .dma, .out] s t) ∧
      (let len := headerLen (packet.headD 0)
       let k := s.kennel d.kennel
       d.space = 1 → d.toHost = false → hostPushes d.kennel = true → 0 < len → len ≤ 9216 → packet.length = packetWords len →
        x.moved + 8 * packet.length ≤ d.len → s.kennelRoom d.kennel packet.length = true → k.ignoring = false → k.cur = [] →
        ∃ t, exec (.dmaKennelPush c desc packet) s = .next t ∧ others t ∧
          t.dmaCh c = { x with cur := ws, moved := x.moved + 8 * packet.length } ∧ (t.kennel d.kennel).bound = true ∧
          (t.kennel d.kennel).cur = [] ∧ (t.kennel d.kennel).pkts.map (·.words) = k.pkts.map (·.words) ++ [packet.map (· % 2 ^ 64)] ∧
          (∀ j, j ≠ d.kennel → t.kennel j = s.kennel j) ∧ Frame [.live, .knl, .dma, .net] s t))

/-- The event log: the oldest waiting report becomes the record of the next slot and WRSEQ advances; a LOG_GAP goes before it where reports were
dropped; at a full log the waiting reports are dropped, or the oldest record gives up its slot; a write of RDSEQ is refused beyond 1,024 unread
records and ignored below its present value (R500, R503 to R505). Model readings: log entry 45. -/
def Obligations.LogRecordsAreWrittenAndConsumed : Prop :=
  ∀ (i : Iface) (v : Nat) (r : Report) (rest : List Report) (s : State),
    let q := s.rd EVT.WRSEQ.val
    let m := s.rd EVT.CTL.WMARK
    let unread (w : Nat) : Nat := (q + 2 ^ 32 - w) % 2 ^ 32
    let written (t : State) (a b c d : Nat) : Prop := t.rd EVT.WRSEQ.val = (q + 1) % 2 ^ 32 ∧ t.num (logKey (q % 1024) 0) = a % 2 ^ 32 ∧
      t.num (logKey (q % 1024) 1) = b % 2 ^ 32 ∧ t.num (logKey (q % 1024) 2) = c % 2 ^ 32 ∧ t.num (logKey (q % 1024) 3) = d % 2 ^ 32
    (s.evt.waiting = r :: rest → s.evt.freeAt ≤ s.clk.now →
      (s.logFull = false → (s.evt.gap = 0 ∨ s.evt.afterGap = true) → ∃ t, exec .logRecordWrite s = .next t ∧
        written t (r.code + r.source * 2 ^ 16) r.tick r.ns r.data ∧
        (m = 0 ∨ (unread (s.rd EVT.RDSEQ.val) + 1) % 2 ^ 32 ≠ m → t.evt = { s.evt with waiting := rest, afterGap := false, freeAt := s.clk.now + 8 } ∧
          t.num (EVT.REP (q % 1024)) = r.rep % 2 ^ 32) ∧
        Frame [.live, .evt, .out] s t) ∧
      (s.logFull = false → s.evt.gap ≠ 0 → s.evt.afterGap = false → ∃ t, exec .logRecordWrite s = .next t ∧
        written t 0x0201 s.tick s.ns (s.evt.gap % 2 ^ 32) ∧
        (m = 0 ∨ (unread (s.rd EVT.RDSEQ.val) + 1) % 2 ^ 32 ≠ m →
          t.evt = { s.evt with gap := 0, afterGap := true, freeAt := s.clk.now + 8 }) ∧ Frame [.live, .evt, .out] s t) ∧
      (s.logFull = true → s.flag EVT.CTL.POLICY = false → ∃ t, exec .logRecordWrite s = .next t ∧ t.evt.waiting = [] ∧
        t.rd EVT.DROPPED.val = (s.rd EVT.DROPPED.val + s.evt.waiting.length) % 2 ^ 32 ∧ t.flag EVT.HIST.DROPPED = true ∧
        t.rd EVT.WRSEQ.val = q ∧ t.evt.gap = s.evt.gap + s.evt.waiting.length ∧ Frame [.live, .evt] s t) ∧
      (s.logFull = true → s.flag EVT.CTL.POLICY = true → ∃ t, exec .logRecordWrite s = .next t ∧
        t.rd EVT.RDSEQ.val = (s.rd EVT.RDSEQ.val + 1) % 2 ^ 32 ∧ t.rd EVT.OVERWRITTEN.val = (s.rd EVT.OVERWRITTEN.val + 1) % 2 ^ 32 ∧
        t.flag EVT.HIST.OVERWRITTEN = true ∧ t.rd EVT.WRSEQ.val = (q + 1) % 2 ^ 32 ∧ Frame [.live, .evt, .out] s t)) ∧
    (v < 2 ^ 32 → s.hostReaches i EVT.RDSEQ = true →
      (1024 < unread v → ∃ t, exec (.logConsume i v) s = .next t ∧ t.rd EVT.RDSEQ.val = s.rd EVT.RDSEQ.val ∧ Reported 0x0101 s t ∧
        Frame [.live, .evt, .out] s t) ∧
      (unread v ≤ 1024 → ∃ t, exec (.logConsume i v) s = .next t ∧
        t.rd EVT.RDSEQ.val = (if unread (s.rd EVT.RDSEQ.val) < unread v then s.rd EVT.RDSEQ.val else v) ∧
        (∀ k, k ≠ EVT.RDSEQ → k ≠ msixPending → t.word k = s.word k) ∧ Frame [.live, .evt, .out] s t))

/-- Debug opening and attestation: REQ issues a nonce in an unlocked PROVISIONED or FIELD part, or is refused; SUBMIT is judged once and, where nothing
refuses it, burns the lifecycle to OPENED and resets; a nonce expires after 60 s; ATTCTL.GO starts a signature, whose end sets DONE, and ERR where
the seed is absent (R520, R544 to R546). Model readings: log entries 6, 40. -/
def Obligations.DebugOpeningAndAttestation : Prop :=
  ∀ (i : Iface) (s : State),
    let refused (t : State) : Prop := t.flag SEC.HIST.DBGFAIL = true ∧ Reported 0x0302 s t ∧
      (∀ k, k ≠ SEC.HIST → k ≠ SEC.DBGCTL → reportKey k = false → t.word k = s.word k) ∧ t.fuse = s.fuse
    let late (t0 : Nat) : Prop := t0 + 60 * 10 ^ 9 ≤ s.clk.now
    (s.hostReaches i SEC.DBGCTL = true →
      (s.openable = true → s.flag SEC.DBGLOCK.LOCK = false → ∃ t, exec (.dbgRequest i) s = .next t ∧ t.rd SEC.DBGCTL.STATE = 1 ∧
        t.sec = { s.sec with draws := s.sec.draws + 1, nonceAt := some s.clk.now } ∧
        (∀ k, k ≠ SEC.DBGCTL → (∀ j, j < 8 → k ≠ SEC.CHAL j) → t.word k = s.word k) ∧ Frame [.live, .sec] s t) ∧
      (s.openable = false ∨ s.flag SEC.DBGLOCK.LOCK = true → ∃ t, exec (.dbgRequest i) s = .next t ∧ refused t ∧
        Frame [.live, .evt, .out] s t) ∧
      (s.upd.burn = [] → ∃ t, exec (.dbgSubmit i) s = .next t ∧
        (s.submitRefusal.isSome = true → refused t ∧ t.rd SEC.DBGCTL.STATE = 0 ∧ t.sec = { s.sec with nonceAt := none } ∧
          Frame [.live, .evt, .sec, .out] s t) ∧
        (s.submitRefusal = none → t.fuse = { s.fuse.zeroize with lc := 3 } ∧ t.ret = Retention.reset ∧ t.boot.held = true))) ∧
    (∀ t0, s.sec.nonceAt = some t0 → late t0 → ∃ t, exec .dbgNonceExpire s = .next t ∧ refused t ∧ t.rd SEC.DBGCTL.STATE = 0 ∧
      t.sec = { s.sec with nonceAt := none } ∧ Frame [.live, .evt, .sec, .out] s t) ∧
    (s.hostReaches i SEC.ATTCTL = true → ∃ t, exec (.attestGo i) s = .next t ∧ t.sec = { s.sec with attest := true } ∧
      t.flag SEC.ATTCTL.DONE = false ∧ t.flag SEC.ATTCTL.ERR = false ∧ (∀ k, k ≠ SEC.ATTCTL → t.word k = s.word k) ∧
      Frame [.live, .sec] s t) ∧
    (s.sec.attest = true → ∃ t, exec .attestDone s = .next t ∧ t.sec = { s.sec with attest := false } ∧ t.flag SEC.ATTCTL.DONE = true ∧
      t.flag SEC.HIST.ATTEST = true ∧ Frame [.live, .sec] s t ∧
      (s.fuse.seed = none → t.flag SEC.ATTCTL.ERR = true ∧ ∀ k, k ≠ SEC.ATTCTL → k ≠ SEC.HIST → t.word k = s.word k) ∧
      (∀ seed, s.fuse.seed = some seed →
        (let msg := s.wordBytes SEC.ATTNONCE 8 ++ leBytes (s.num GLB.ID) ++ leBytes (s.num SEC.LC)
          ++ Config.sha384 (Memory.bytes s.flash.active 0 256)
         ∀ j, j < 24 → t.word (SEC.ATTSIG j) = BitVec.ofNat 32 (leWord (Config.attestSign seed (Config.sha384 msg)) (4 * j)))))

/-- A host image: an offer is judged, claims STAGING or is refused with its code; while another host interface holds the claim it is refused, and while
the chain does it waits; a BLOCK in order is taken, END starts verification, ABORT leaves STAGING INVALID, and what comes out of order is refused
(R528, R532, R536). Model readings: log entries 6, 39. -/
def Obligations.HostImagesAreOfferedAndTransferred : Prop :=
  ∀ (i : Iface) (n : Nat) (s : State),
    let a := match i with | .pcie => 0 | .spi => 1
    let h := s.bufHeader
    let c := s.updJudge a h
    let apart := hdrFuse h || s.stage == 4
    let refused (t : State) (code : Nat) : Prop := t.rd UPD.STAT.REFUSAL = code ∧ t.flag UPD.HIST.REFUSED = true ∧ Reported 0x0401 s t ∧
      t.upd = s.upd ∧ Frame [.live, .evt, .out] s t
    let turned (t : State) : Prop := Reported 0x0101 s t ∧ t.claim = s.claim ∧ t.staging = s.staging ∧ Frame [.live, .evt, .out] s t
    let open_ := s.receiving a && s.upd.busy.isNone
    s.hostReaches i UPD.HCMD = true →
      (s.claim = 0 → ∃ t, exec (.hcmdOpen i) s = .next t ∧ (c ≠ 0 → refused t c) ∧
        (c = 0 → t.claim = a + 1 ∧ t.staging = 1 ∧ t.rd UPD.STAT.NEXTBLK = 0 ∧ t.upd.busy = some 0 ∧ t.flash.active = s.flash.active ∧
          (if apart then t.flash = s.flash else t.flash.record.stage = 4 ∧ t.flash.staging = []) ∧ Frame [.live, .flash, .upd] s t)) ∧
      (s.claim = 3 → s.upd.waiting = none → ∃ t, exec (.hcmdOpen i) s = .next t ∧ t.upd = { s.upd with waiting := some a } ∧
        Frame [.live, .upd] s t) ∧
      (s.claim = 1 ∨ s.claim = 2 ∨ (s.claim = 3 ∧ s.upd.waiting ≠ none) → ∃ t, exec (.hcmdOpen i) s = .next t ∧ refused t 6) ∧
      (open_ = true → s.rd UPD.STAT.NEXTBLK = n % 2 ^ 13 → ∃ t, exec (.hcmdBlock i n) s = .next t ∧
        t.upd = { s.upd with busy := some (n % 2 ^ 13) } ∧ (∀ k, k ≠ UPD.HCMD → t.word k = s.word k) ∧ Frame [.live, .upd] s t) ∧
      (open_ = false ∨ s.rd UPD.STAT.NEXTBLK ≠ n % 2 ^ 13 → ∃ t, exec (.hcmdBlock i n) s = .next t ∧ turned t) ∧
      (open_ = true → ∃ t, exec (.hcmdEnd i) s = .next t ∧ t.staging = 2 ∧ t.claim = s.claim ∧
        (∀ k, k ≠ UPD.HCMD → k ≠ UPD.STAT → t.word k = s.word k) ∧ Frame [.live] s t) ∧
      (open_ = false → ∃ t, exec (.hcmdEnd i) s = .next t ∧ turned t) ∧
      (s.upd.waiting ≠ some a → s.claim = a + 1 → (s.staging = 1 ∨ s.staging = 2) → ∃ t, exec (.hcmdAbort i) s = .next t ∧ t.claim = 0 ∧
        t.staging = 4 ∧ t.upd.busy = none ∧ Frame [.live, .upd] s t) ∧
      (s.upd.waiting = some a → ∃ t, exec (.hcmdAbort i) s = .next t ∧ t.upd = { s.upd with waiting := none } ∧
        (∀ k, k ≠ UPD.HCMD → t.word k = s.word k) ∧ Frame [.live, .upd] s t)

/-- Staging: a block goes to its place in the staged image and nowhere else and NEXTBLK advances, unless the supplies fail, which ends the claim;
verification marks STAGING VERIFIED or refuses it with its code; the end of a burn leaves the fuses burnt and the device in reset (R529, R530, R542,
R543). Model readings: log entries 6, 39. -/
def Obligations.StagedBlocksVerificationAndBurns : Prop :=
  ∀ (ok : Bool) (b : Nat) (s : State),
    let apart := s.upd.fuse || s.upd.host
    let bytes := s.wordBytes UPD.BUF 1024
    let c := s.fuse.verify s.candidate s.upd.fuse
    let refused (t : State) (code : Nat) : Prop := t.rd UPD.STAT.REFUSAL = code ∧ t.flag UPD.HIST.REFUSED = true ∧ Reported 0x0401 s t ∧
      t.claim = 0 ∧ t.staging = 4 ∧ t.upd.busy = none ∧ t.flash = s.flash ∧ t.fuse = s.fuse
    (s.upd.busy = some b → s.upd.waiting = none → s.claim ≠ 3 →
      (apart = false → s.supplyOk = false → ∃ t, exec (.stagingBlockWritten ok) s = .next t ∧ refused t 3 ∧ Frame [.live, .evt, .upd, .out] s t) ∧
      (apart = false → s.supplyOk = true → ∃ t, exec (.stagingBlockWritten ok) s = .next t ∧
        t.flash = { s.flash with staging := putBlock s.flash.staging b bytes } ∧
        (∀ x, x < 4096 * b ∨ 4096 * (b + 1) ≤ x → Memory.byte t.flash.staging x = Memory.byte s.flash.staging x) ∧
        t.upd = { s.upd with busy := none, bad := s.upd.bad || !ok } ∧ t.rd UPD.STAT.NEXTBLK = (b + 1) % 2 ^ 13 ∧
        (∀ k, k ≠ UPD.STAT → t.word k = s.word k) ∧ Frame [.live, .flash, .upd] s t) ∧
      (apart = true → ∃ t, exec (.stagingBlockWritten ok) s = .next t ∧
        t.upd = { s.upd with image := putBlock s.upd.image b bytes, busy := none, bad := s.upd.bad || !ok } ∧
        t.rd UPD.STAT.NEXTBLK = (b + 1) % 2 ^ 13 ∧ (∀ k, k ≠ UPD.STAT → t.word k = s.word k) ∧ Frame [.live, .upd] s t)) ∧
    (s.staging = 2 → s.upd.waiting = none →
      (s.upd.bad = true → ∃ t, exec .stagingVerifyDone s = .next t ∧ refused t 0x18 ∧ Frame [.live, .evt, .upd, .out] s t) ∧
      (s.upd.bad = false → ∃ t, exec .stagingVerifyDone s = .next t ∧ (c ≠ 0 → refused t c ∧ Frame [.live, .evt, .upd, .out] s t) ∧
        (c = 0 → apart = false → t.flash.record.stage = 3 ∧ t.staging = 3 ∧ t.claim = 0 ∧ t.flag UPD.HIST.STAGED = true ∧
          t.flash.staging = s.flash.staging ∧ t.flash.active = s.flash.active ∧ Reported 0x0402 s t ∧ Frame [.live, .evt, .flash, .upd, .out] s t) ∧
        (c = 0 → s.upd.fuse = false → s.upd.host = true → t.stage = 6 ∧ t.boot.watch = some s.clk.now ∧
          t.rd UPD.ACTVER.val = hdrVersion (Memory.bytes s.upd.image 0 512) % 2 ^ 32 ∧ t.flash = s.flash))) ∧
    (s.staging = 6 → ∃ t, exec .fuseBurnDone s = .next t ∧ t.fuse = s.fuse.burnAll s.upd.burn ∧ t.boot.held = true ∧ t.flash = s.flash ∧
      t.ret = (if (s.fuse.burnAll s.upd.burn).lc = 4 then Retention.reset else s.ret) ∧
      ∀ k, k ≠ EVT.LASTFATAL → t.word k = State.reset.word k)

/-- The owner's lock, the rollback count and the partner's report: OWNERSET records the lock; UNLOCK with a good token clears it and advances LOCKSEQ,
and another is refused; ADVANCE raises the fused count to the ACTIVE image's under good supplies, and is refused under others; a partner's report is
kept (R528, R540, R549). Model readings: log entries 6, 39, 40. -/
def Obligations.OwnerLockRollbackAndPartner : Prop :=
  ∀ (i : Iface) (v version : Nat) (hash : List Nat) (s : State),
    let good := s.slotKey && s.signed (ascii4 0x55 0x4E 0x4C 0x4B ++ leBytes (s.num GLB.ID) ++ leBytes (s.rd UPD.LOCKSEQ.val))
    let count := max s.fuse.rollback (min (leWord (Memory.bytes s.flash.active 0 512) 0x10 % 2 ^ 7) 64)
    let refused (t : State) (code : Nat) : Prop := t.rd UPD.STAT.REFUSAL = code ∧ t.flag UPD.HIST.REFUSED = true ∧ Reported 0x0401 s t ∧
      Frame [.live, .evt, .out] s t
    let owner (t : State) (b : Bool) (seq : Nat) : Prop := t.flag UPD.CTL.OWNER = b ∧ t.flash.record.owner = b ∧ t.flash.record.lockseq = seq ∧
      t.rd UPD.LOCKSEQ.val = seq ∧ t.flash.active = s.flash.active ∧ t.flash.staging = s.flash.staging ∧
      (∀ k, k ≠ UPD.CTL → k ≠ UPD.LOCKSEQ → t.word k = s.word k) ∧ Frame [.live, .flash] s t
    (v < 2 ^ 32 → s.hostReaches i UPD.CTL = true →
      (v.testBit 27 = false → ∃ t, exec (.ownerset i v) s = .next t ∧ owner t true (s.rd UPD.LOCKSEQ.val)) ∧
      (v.testBit 28 = false → ∃ t, exec (.unlock i v) s = .next t ∧
        (good = true → owner t false ((s.rd UPD.LOCKSEQ.val + 1) % 2 ^ 32)) ∧ (good = false → refused t 2))) ∧
    (s.hostReaches i UPD.ARB = true →
      (s.supplyOk = true → ∃ t, exec (.rollbackAdvance i) s = .next t ∧ t.fuse = { s.fuse with rollback := count } ∧
        t.word SEC.LC = BitVec.ofNat 32 t.fuse.lcWord ∧ (∀ k, k ≠ SEC.LC → t.word k = s.word k) ∧ Frame [.live, .fuse] s t) ∧
      (s.supplyOk = false → ∃ t, exec (.rollbackAdvance i) s = .next t ∧ refused t 3)) ∧
    (s.paired = true → ∃ t, exec (.partnerStagingReport version hash) s = .next t ∧
      t.upd = { s.upd with partner := some (version, hash.map (BitVec.ofNat 8)) } ∧ Frame [.upd] s t)

/-- The update chain: a poll asks the neighbour for its header; a newer header is judged and starts a fetch; a chunk that was asked for goes to its
place in the image; a chunk without reply is asked for again and the eighth failure ends the fetch; a neighbour's request is answered from a
verified STAGING, or NOTREADY (R533 to R536). Model readings: log entry 39. -/
def Obligations.ChainFetchesAndServesImages : Prop :=
  ∀ (header data : List Nat) (head : Bool) (k : Nat) (s : State),
    let h : List Byte := header.map (BitVec.ofNat 8)
    let c := s.updJudge 2 h
    let bytes : List Byte := (data.take 1024).map (BitVec.ofNat 8)
    let m := s.flash.staging
    let here := s.flash.record.stage = 3 ∨ s.flash.record.stage = 5
    let refused (t : State) (code : Nat) : Prop := t.rd UPD.STAT.REFUSAL = code ∧ t.flag UPD.HIST.REFUSED = true ∧ Reported 0x0401 s t ∧
      t.upd = s.upd ∧ Frame [.live, .evt, .out] s t
    (s.runtime = true → s.flag UPD.CHAINCFG.EN = true →
      (s.upd.polledAt + s.rd UPD.POLL.val * 10 ^ 9 ≤ s.clk.now → ∃ t, exec .chainPoll s = .next t ∧
        t.upd = { s.upd with polledAt := s.clk.now } ∧ t.out = .chain s.chainTo (chainBytes 1 0 []) :: s.out ∧ Frame [.upd, .out] s t) ∧
      (s.rd UPD.ACTVER.val < hdrVersion h → s.rd UPD.STGVER.val < hdrVersion h →
        (s.claim ≠ 0 → ∃ t, exec (.chainHeadReply header) s = .next t ∧ refused t 6) ∧
        (s.claim = 0 → ∃ t, exec (.chainHeadReply header) s = .next t ∧ (c ≠ 0 → refused t c) ∧
          (c = 0 → t.claim = 3 ∧ t.staging = 1 ∧ t.rd UPD.STAT.NEXTBLK = 0 ∧ t.upd.image = Memory.setBytes [] 0 (h.take 512) ∧
            Store.find t.upd.asked 0 = some (0, s.clk.now) ∧ t.flash.active = s.flash.active ∧ Frame [.live, .flash, .upd, .out] s t)))) ∧
    (s.claim = 3 → s.staging = 1 → (Store.find s.upd.asked k).isSome = true → ∃ t, exec (.chainDataReply k data) s = .next t ∧
      Memory.bytes t.upd.image (1024 * k) bytes.length = bytes ∧ NatSet.has t.upd.got k = true ∧
      (∀ x, x < 1024 * k ∨ 1024 * k + bytes.length ≤ x → Memory.byte t.upd.image x = Memory.byte s.upd.image x) ∧
      (∀ j, j ≠ k → j ≠ s.upd.next → Store.find t.upd.asked j = Store.find s.upd.asked j) ∧ Frame [.live, .upd, .out] s t) ∧
    (∀ fails t0, Store.find s.upd.asked k = some (fails, t0) → t0 + 2 * 10 ^ 7 ≤ s.clk.now →
      (fails < 7 → ∃ t, exec (.chainChunkTimeout k) s = .next t ∧ Store.find t.upd.asked k = some (fails + 1, s.clk.now) ∧
        (∀ j, j ≠ k → Store.find t.upd.asked j = Store.find s.upd.asked j) ∧ t.out = .chain s.chainTo (chainBytes 2 k []) :: s.out ∧
        Frame [.upd, .out] s t) ∧
      (7 ≤ fails → s.upd.waiting = none → ∃ t, exec (.chainChunkTimeout k) s = .next t ∧ t.flag UPD.HIST.FETCHFAIL = true ∧
        Reported 0x0404 s t ∧ t.claim = 0 ∧ t.staging = 4 ∧ t.upd.asked = [] ∧ Frame [.live, .evt, .upd, .out] s t)) ∧
    (s.runtime = true →
      (here → ∃ t, exec (.chainRequest head k) s = .next t ∧ Frame [.out] s t ∧
        t.out = .chain [] (if head then chainReply 3 0 (Memory.bytes m 0 512)
          else chainReply 3 k (Memory.bytes m (1024 * k) (min 1024 (imageLen m - 1024 * k)))) :: s.out) ∧
      (¬ here → ∃ t, exec (.chainRequest head k) s = .next t ∧ t.out = .chain [] (chainReply 4 (if head then 0 else k) []) :: s.out ∧ Frame [.out] s t))

/-- Resets: RESET_N holds the device in reset, with every register and memory at its reset value but what R554 keeps; a loss of power also clears the
retention store and LASTFATAL; the release of reset takes the straps and the fuses and acts on the lifecycle and BOOT_SRC; the ticks begin at B(0)
once ROM and the media APLLs are ready, and idle engines start their programs (R551 to R557). Model readings: log entry 38. -/
def Obligations.ResetsAndTheFirstTick : Prop :=
  ∀ (straps banks n : Nat) (s : State),
    let word := BitVec.ofNat 32 (straps % 2 ^ 8 &&& 0xFB)
    let src := GLB.STRAPS.BOOT_SRC.ext word
    let cold (t : State) : Prop := t.boot.held = true ∧ (∀ k, k ≠ EVT.LASTFATAL → t.word k = State.reset.word k) ∧ t.shadow = [] ∧ t.pend = [] ∧
      t.commit = none ∧ t.clk = State.reset.clk ∧ t.sxm = [] ∧ t.dmem = [] ∧ t.dram = State.reset.dram ∧ t.ge = State.reset.ge ∧
      t.knl = State.reset.knl ∧ t.flash = s.flash ∧ t.pending = s.pending ∧ (s.upd.burn = [] → t.fuse = s.fuse)
    (∃ t, exec .pinReset s = .next t ∧ cold t ∧ t.word EVT.LASTFATAL = s.word EVT.LASTFATAL ∧ t.ret = s.ret ∧ t.mon = s.mon) ∧
    (∃ t, exec .powerLoss s = .next t ∧ cold t ∧ t.word EVT.LASTFATAL = 0 ∧ t.ret = Retention.reset ∧ t.mon = Mon.reset) ∧
    (s.boot.held = true → s.openingLeft = false → s.boot.hot = false → ∃ t, exec (.resetRelease straps banks) s = .next t ∧
      t.boot.held = false ∧ t.word GLB.STRAPS = word ∧ t.word GLB.ID = BitVec.ofNat 32 s.fuse.idWord ∧ t.fuse = s.fuse ∧ t.ret = s.ret ∧
      (∀ k, k < 4 → t.flag (MON.RAIL.BANK33 (5 + k)) = banks.testBit k) ∧
      t.stage = (if s.fuse.lc = 4 ∨ s.fuse.torn = true then 8 else if src = 1 then 4 else if src = 0 ∧ s.ret.fails ≠ 3 then 2 else 5) ∧
      (s.fuse.lc = 4 → t.rd GLB.BOOTSTAT.HALTCAUSE = 1) ∧ (s.fuse.lc ≠ 4 → s.fuse.torn = true → t.rd GLB.BOOTSTAT.HALTCAUSE = 2) ∧
      (t.stage = 5 → t.flag UPD.STAT.RECOVERY = true)) ∧
    (s.boot.ready = true → s.clk.phase = .stopped → s.apll 2 = 3 → s.apll 3 = 3 → s.firstIndex = some n →
      ∃ t, exec .firstTick s = .next t ∧ t.tick = n % 2 ^ 32 ∧ t.clk = { s.clk with phase := .work, cycle := 0 } ∧ t.gathered = false ∧
        t.rd TIME.BTICK.val = n % 2 ^ 32 ∧ t.rd TIME.BNS.val = s.ns ∧
        (s.faults.replay = none → s.faults.restarts = [] →
          ∀ e, e < 16 → s.present e = true → s.follower e = false → (s.engine e).st = .idle → (s.engine e).ahead = false →
            (t.engine e).st = .run ∧ (t.engine e).tick = n % 2 ^ 32 ∧ (t.engine e).pc = s.rd (GE.ENTRY.val e)) ∧
        Frame [.clk, .live, .ckpt, .evt, .sxm, .sxmPast, .valid, .spoiled, .placed, .ge, .free, .herd, .gathered, .loc, .atx, .syn, .eim,
               .ref, .net, .mem, .out] s t)

/-- Boot: ROM verifies ACTIVE and hands over, or enters recovery mode; a copy that is called for starts from a verified STAGING under good hold-up, and
its end makes ACTIVE the staged image; BOOTOK ends boot and clears the count of failures; the watchdog counts one and resets; a rise of HOLDUP_OK is
noted, and lets an interrupted opening complete (R537 to R539, R545, R558). Model readings: log entries 6, 38. -/
def Obligations.RomVerifiesCopiesAndHandsOver : Prop :=
  ∀ (t0 : Nat) (s : State),
    let a := s.fuse.verify s.flash.active false
    let g := s.fuse.verify s.flash.staging false
    (s.stage = 2 → s.copyCalled = false → ∃ t, exec .romVerifyDone s = .next t ∧ t.flash = s.flash ∧
      (a = 0 → t.stage = 6 ∧ t.boot.watch = some s.clk.now ∧ t.rd UPD.ACTVER.val = hdrVersion (Memory.bytes s.flash.active 0 512) % 2 ^ 32) ∧
      (a ≠ 0 → t.stage = 5 ∧ t.flag UPD.STAT.RECOVERY = true)) ∧
    (s.stage = 2 → s.copyCalled = true → ∃ t, exec .romVerifyDone s = .next t ∧
      (g ≠ 0 → t.stage = 2 ∧ t.flash.record.stage = 4 ∧ t.flash.record.copying = false) ∧
      (g = 0 → s.mon.holdup = true → t.stage = 3 ∧ t.flash.record.copying = true) ∧ (g = 0 → s.mon.holdup = false → t = s) ∧
      t.flash.active = s.flash.active ∧ t.flash.staging = s.flash.staging ∧ Frame [.live, .flash] s t) ∧
    (s.stage = 3 → s.mon.holdup = true → s.flag UPD.STAT.RECOVERY = false → ∃ t, exec .romVerifyDone s = .next t ∧ t.stage = 2 ∧
      t.flash.active = s.flash.staging ∧ t.flash.staging = s.flash.staging ∧ t.flash.record.stage = 5 ∧ t.flash.record.copying = false ∧
      t.rd UPD.STAT.STAGE = 5 ∧ Frame [.live, .flash] s t) ∧
    (s.stage = 3 → s.mon.holdup = true → s.flag UPD.STAT.RECOVERY = true → ∃ t, exec .romVerifyDone s = .next t ∧ t.boot.held = true ∧
      t.flash.active = s.flash.staging ∧ t.ret = { s.ret with fails := 0 }) ∧
    (s.stage = 6 ∨ s.stage = 7 → ∃ t, exec .bootok s = .next t ∧ t.stage = 7 ∧ t.boot = { s.boot with watch := none } ∧
      t.ret = { s.ret with fails := 0 } ∧ t.rd UPD.BOOT.FAILS = 0 ∧
      (∀ k, k ≠ UPD.BOOT → k ≠ GLB.BOOTSTAT → t.word k = s.word k) ∧ Frame [.live, .ret, .boot] s t) ∧
    (s.boot.watch = some t0 → t0 + 4 * 10 ^ 9 ≤ s.clk.now → ∃ t, exec .bootWatchdogExpire s = .next t ∧ t.boot.held = true ∧
      t.ret = { s.ret with fails := min (s.ret.fails + 1) 3 } ∧ t.flash = s.flash ∧ ∀ k, k ≠ EVT.LASTFATAL → t.word k = State.reset.word k) ∧
    (s.boot.held = true ∨ s.openingLeft = false → ∃ t, exec .holdupAssert s = .next t ∧ t.mon = { s.mon with holdup := true } ∧ Frame [.mon] s t) ∧
    (s.boot.held = false → s.openingLeft = true → s.upd.burn = [] → ∃ t, exec .holdupAssert s = .next t ∧ t.boot.held = true ∧
      t.fuse = { s.fuse.zeroize with lc := 3 } ∧ t.ret = Retention.reset)

/-- The monitor: a rail shows its millivolts and is LOW below its margin, which is reported once as it falls; a rail past its trip for long, or a Tj
above 115 °C, is FATAL; Tj, its maximum and its warning crossing; the fall of HOLDUP_OK; and the first wear above 3,000 (R513, R582 to R584, R593).
Model readings: log entry 58. -/
def Obligations.MonitorMeasuresWarnsAndTrips : Prop :=
  ∀ (k mv d : Nat) (long : Bool) (tj : Int) (s : State),
    let r := s.railRange k
    let trip := mv * 100 + 3 * r.2.1 < r.1 * 100 ∨ r.2.2 * 100 + 3 * r.2.1 < mv * 100
    let low := decide (mv * 100 < r.1 * 100 + 2 * r.2.1)
    let was := s.rdS MON.TEMP.TJ
    let warn := s.rdS MON.TWARN.WARN
    let crosses := was < warn ∧ warn ≤ tj
    let quiet (t : State) (ks : List Nat) : Prop := ∀ j, j ∉ ks → reportKey j = false → t.word j = s.word j
    let tripped (t : State) : Prop := t.boot.held = true ∧ t.num EVT.LASTFATAL = 2 ^ 31 + 0x15 * 2 ^ 8 + 6 ∧
      (∀ j, j ≠ EVT.LASTFATAL → t.word j = State.reset.word j) ∧ t.flash = s.flash ∧ t.ret = s.ret
    s.boot.held = false →
      (k < 9 → long = true → trip → ∃ t, exec (.monRailMeasure k mv long) s = .next t ∧ tripped t) ∧
      (k < 9 → (long = false ∨ ¬ trip) → ∃ t, exec (.monRailMeasure k mv long) s = .next t ∧ t.rd (MON.RAIL.MV k) = mv % 2 ^ 16 ∧
        t.flag (MON.RAIL.LOW k) = low ∧ Frame [.live, .evt, .out] s t ∧
        ((low && !s.flag (MON.RAIL.LOW k)) = true → t.flag MON.HIST.SUPPLY_LOW = true ∧ Reported 0x1501 s t ∧ quiet t [MON.RAIL k, MON.HIST]) ∧
        ((low && !s.flag (MON.RAIL.LOW k)) = false → (∀ j, j ≠ MON.RAIL k → t.word j = s.word j) ∧ Frame [.live] s t)) ∧
      (1150 < tj → s.boot.hot = false → ∃ t, exec (.monTempMeasure tj) s = .next t ∧ tripped t ∧ t.boot.hot = true) ∧
      (tj ≤ 1150 → -32768 ≤ tj → s.boot.hot = false → ∃ t, exec (.monTempMeasure tj) s = .next t ∧ t.rdS MON.TEMP.TJ = tj ∧
        t.rdS MON.TEMP.TMAX = max (s.rdS MON.TEMP.TMAX) tj ∧ Frame [.live, .evt, .out] s t ∧
        (crosses → t.flag MON.HIST.TWARN = true ∧ Reported 0x1502 s t ∧ quiet t [MON.TEMP, MON.HIST]) ∧
        (¬ crosses → (∀ j, j ≠ MON.TEMP → t.word j = s.word j) ∧ Frame [.live] s t)) ∧
      (s.mon.holdup = true → ∃ t, exec .monHoldup s = .next t ∧ t.mon = { s.mon with holdup := false } ∧ t.flag MON.HIST.HOLDUP = true ∧
        Reported 0x1504 s t ∧ quiet t [MON.HIST] ∧ Frame [.live, .evt, .mon, .out] s t) ∧
      (∃ t, exec (.monWear d) s = .next t ∧ t.rd MON.WEAR.DEGR = d % 2 ^ 16 ∧
        (3000 ≤ d % 2 ^ 16 → s.mon.wear = false → t.mon = { s.mon with wear := true } ∧ t.flag MON.HIST.WEAR = true ∧ Reported 0x1503 s t ∧
          quiet t [MON.WEAR, MON.HIST] ∧ Frame [.live, .evt, .mon, .out] s t) ∧
        (d % 2 ^ 16 < 3000 ∨ s.mon.wear = true → (∀ j, j ≠ MON.WEAR → t.word j = s.word j) ∧ Frame [.live] s t))
end

