-- ==== Sys2Proof/Laws/Store.lean ====
section
/-!
SUPPORT. The laws of sparse stores and of byte memories: a key just written reads as the value written, every other key reads as
before, and every operation keeps the canonical form.
-/

namespace Sys2Proof.Machine

variable {β : Type}

theorem Store.find_erase_same (m : Store β) (k : Nat) : Store.find (Store.erase m k) k = none := by
  induction m with
  | nil => rfl
  | cons p m ih => obtain ⟨a, v⟩ := p; by_cases h : a = k <;> simp [Store.erase, Store.find, h, ih]

theorem Store.find_erase_ne (m : Store β) {k j : Nat} (h : j ≠ k) : Store.find (Store.erase m k) j = Store.find m j := by
  induction m with
  | nil => rfl
  | cons p m ih =>
    obtain ⟨a, v⟩ := p
    by_cases hk : a = k
    · subst hk; simp [Store.erase, Store.find, h.symm, ih]
    · by_cases hj : a = j
      · subst hj; simp [Store.erase, Store.find, hk]
      · simp [Store.erase, Store.find, hk, hj, ih]

theorem Store.find_insert_same (m : Store β) (k : Nat) (v : β) : Store.find (Store.insert m k v) k = some v := by
  induction m with
  | nil => simp [Store.insert, Store.find]
  | cons p m ih =>
    obtain ⟨a, x⟩ := p
    by_cases hk : a = k
    · simp [Store.insert, Store.find, hk]
    · by_cases hl : k < a <;> simp [Store.insert, Store.find, hk, hl, ih]

theorem Store.find_insert_ne (m : Store β) {k j : Nat} (v : β) (h : j ≠ k) :
    Store.find (Store.insert m k v) j = Store.find m j := by
  induction m with
  | nil => simp [Store.insert, Store.find, h.symm]
  | cons p m ih =>
    obtain ⟨a, x⟩ := p
    by_cases hk : a = k
    · subst hk; simp [Store.insert, Store.find, h.symm]
    · by_cases hl : k < a
      · simp [Store.insert, Store.find, hk, hl, h.symm]
      · by_cases hj : a = j
        · subst hj; simp [Store.insert, Store.find, hk, hl]
        · simp [Store.insert, Store.find, hk, hl, hj, ih]

/-- A key just written reads as the value written. -/
@[simp] theorem Store.get_set_same [DecidableEq β] (d : Nat → β) (m : Store β) (k : Nat) (v : β) :
    Store.get d (Store.set d m k v) k = v := by
  by_cases h : v = d k <;> simp [Store.get, Store.set, h, Store.find_erase_same, Store.find_insert_same]

/-- A write leaves every other key alone. -/
theorem Store.get_set_ne [DecidableEq β] (d : Nat → β) (m : Store β) {k j : Nat} (v : β) (h : j ≠ k) :
    Store.get d (Store.set d m k v) j = Store.get d m j := by
  by_cases hv : v = d k <;> simp [Store.get, Store.set, hv, Store.find_erase_ne _ h, Store.find_insert_ne _ _ h]

/-! ## Canonical form -/

/-- The least key a canonical list may start with. -/
def Store.above (lo : Option Nat) (k : Nat) : Prop := ∀ b, lo = some b → b < k

theorem Store.risingFrom_cons (lo : Option Nat) (a : Nat) (v : β) (m : Store β) :
    Store.risingFrom lo ((a, v) :: m) = true ↔ Store.above lo a ∧ Store.risingFrom (some a) m = true := by
  cases lo with
  | none => simp [Store.risingFrom, Store.above]
  | some b => simp [Store.risingFrom, Store.above]

theorem Store.risingFrom_weaken {lo : Option Nat} {a : Nat} {m : Store β} (h : Store.above lo a)
    (hr : Store.risingFrom (some a) m = true) : Store.risingFrom lo m = true := by
  cases m with
  | nil => cases lo <;> rfl
  | cons p m =>
    obtain ⟨b, v⟩ := p
    rw [Store.risingFrom_cons] at hr ⊢
    exact ⟨fun c hc => Nat.lt_trans (h c hc) (hr.1 a rfl), hr.2⟩

theorem Store.rising_erase {lo : Option Nat} (m : Store β) (k : Nat) (h : Store.risingFrom lo m = true) :
    Store.risingFrom lo (Store.erase m k) = true := by
  induction m generalizing lo with
  | nil => exact h
  | cons p m ih =>
    obtain ⟨a, v⟩ := p
    rw [Store.risingFrom_cons] at h
    by_cases hk : a = k
    · simp only [Store.erase, hk, if_true]; exact Store.risingFrom_weaken (hk ▸ h.1) (hk ▸ ih h.2)
    · simp only [Store.erase, hk, if_false]; rw [Store.risingFrom_cons]; exact ⟨h.1, ih h.2⟩

theorem Store.rising_insert {lo : Option Nat} (m : Store β) (k : Nat) (v : β) (hlo : Store.above lo k)
    (h : Store.risingFrom lo m = true) : Store.risingFrom lo (Store.insert m k v) = true := by
  induction m generalizing lo with
  | nil => simp only [Store.insert]; rw [Store.risingFrom_cons]; exact ⟨hlo, rfl⟩
  | cons p m ih =>
    obtain ⟨a, x⟩ := p
    rw [Store.risingFrom_cons] at h
    by_cases hk : a = k
    · subst hk; simp only [Store.insert, if_true]; rw [Store.risingFrom_cons]; exact h
    · by_cases hl : k < a
      · simp only [Store.insert, hk, hl, if_true, if_false]
        rw [Store.risingFrom_cons, Store.risingFrom_cons]
        exact ⟨hlo, fun b hb => by cases hb; exact hl, h.2⟩
      · simp only [Store.insert, hk, hl, if_false]
        rw [Store.risingFrom_cons]
        exact ⟨h.1, ih (fun b hb => by cases hb; omega) h.2⟩

theorem Store.all_erase {q : Nat × β → Bool} (m : Store β) (k : Nat) (h : m.all q = true) :
    (Store.erase m k).all q = true := by
  induction m with
  | nil => rfl
  | cons p m ih =>
    obtain ⟨a, v⟩ := p
    simp only [List.all_cons, Bool.and_eq_true] at h
    by_cases hk : a = k
    · simp only [Store.erase, hk, if_true]; exact ih h.2
    · simp only [Store.erase, hk, if_false, List.all_cons, Bool.and_eq_true]; exact ⟨h.1, ih h.2⟩

theorem Store.all_insert {q : Nat × β → Bool} (m : Store β) (k : Nat) (v : β) (hv : q (k, v) = true) (h : m.all q = true) :
    (Store.insert m k v).all q = true := by
  induction m with
  | nil => simp [Store.insert, hv]
  | cons p m ih =>
    obtain ⟨a, x⟩ := p
    simp only [List.all_cons, Bool.and_eq_true] at h
    by_cases hk : a = k
    · simp only [Store.insert, hk, if_true, List.all_cons, Bool.and_eq_true]; exact ⟨hv, h.2⟩
    · by_cases hl : k < a
      · simp only [Store.insert, hk, hl, if_true, if_false, List.all_cons, Bool.and_eq_true]; exact ⟨hv, h.1, h.2⟩
      · simp only [Store.insert, hk, hl, if_false, List.all_cons, Bool.and_eq_true]; exact ⟨h.1, ih h.2⟩

/-- A write keeps the canonical form. -/
theorem Store.wf_set [DecidableEq β] (d : Nat → β) (m : Store β) (k : Nat) (v : β) (h : Store.wf d m = true) :
    Store.wf d (Store.set d m k v) = true := by
  simp only [Store.wf, Bool.and_eq_true] at h ⊢
  by_cases hv : v = d k
  · simp only [Store.set, hv, if_true]; exact ⟨Store.rising_erase m k h.1, Store.all_erase m k h.2⟩
  · simp only [Store.set, hv, if_false]
    exact ⟨Store.rising_insert m k v (fun _ hb => by cases hb) h.1, Store.all_insert m k v (by simpa using hv) h.2⟩

theorem Store.rising_filter {lo : Option Nat} (p : Nat × β → Bool) (m : Store β) (h : Store.risingFrom lo m = true) :
    Store.risingFrom lo (m.filter p) = true := by
  induction m generalizing lo with
  | nil => exact h
  | cons q m ih =>
    obtain ⟨a, v⟩ := q
    rw [Store.risingFrom_cons] at h
    by_cases hp : p (a, v) = true
    · rw [List.filter_cons_of_pos hp, Store.risingFrom_cons]; exact ⟨h.1, ih h.2⟩
    · rw [List.filter_cons_of_neg hp]; exact Store.risingFrom_weaken h.1 (ih h.2)

/-- Taking entries out keeps the canonical form. -/
theorem Store.wf_filter [DecidableEq β] (d : Nat → β) (p : Nat × β → Bool) (m : Store β) (h : Store.wf d m = true) :
    Store.wf d (m.filter p) = true := by
  simp only [Store.wf, Bool.and_eq_true] at h ⊢
  refine ⟨Store.rising_filter p m h.1, ?_⟩
  rw [List.all_eq_true] at h ⊢
  exact fun x hx => h.2 x (List.mem_of_mem_filter hx)

/-- The empty store is canonical. -/
theorem Store.wf_nil [DecidableEq β] (d : Nat → β) : Store.wf d ([] : Store β) = true := rfl

/-! ## Byte memories -/

@[simp] theorem Memory.byte_setByte_same (m : Memory) (a : Nat) (b : Byte) : Memory.byte (Memory.setByte m a b) a = b :=
  Store.get_set_same _ _ _ _

theorem Memory.byte_setByte_ne (m : Memory) {a c : Nat} (b : Byte) (h : c ≠ a) :
    Memory.byte (Memory.setByte m a b) c = Memory.byte m c := Store.get_set_ne _ _ _ h

theorem Memory.wf_setByte (m : Memory) (a : Nat) (b : Byte) (h : Memory.wf m = true) : Memory.wf (Memory.setByte m a b) = true :=
  Store.wf_set _ _ _ _ h

theorem Memory.wf_setWord (m : Memory) (a v : Nat) (h : Memory.wf m = true) : Memory.wf (Memory.setWord m a v) = true :=
  Memory.wf_setByte _ _ _ (Memory.wf_setByte _ _ _ (Memory.wf_setByte _ _ _ (Memory.wf_setByte _ _ _ h)))

theorem Memory.wf_setBytes (m : Memory) (a : Nat) (bs : List Byte) (h : Memory.wf m = true) :
    Memory.wf (Memory.setBytes m a bs) = true := by
  induction bs generalizing m a with
  | nil => exact h
  | cons b bs ih => exact ih _ _ (Memory.wf_setByte _ _ _ h)

/-- A stored word leaves every byte outside its four alone. -/
theorem Memory.byte_setWord_ne (m : Memory) {a c : Nat} (v : Nat) (h : c < a ∨ a + 4 ≤ c) :
    Memory.byte (Memory.setWord m a v) c = Memory.byte m c := by
  unfold Memory.setWord
  rw [Memory.byte_setByte_ne _ _ (by omega), Memory.byte_setByte_ne _ _ (by omega), Memory.byte_setByte_ne _ _ (by omega),
    Memory.byte_setByte_ne _ _ (by omega)]

/-- A stored word reads back, modulo 2^32. -/
theorem Memory.word_setWord_same (m : Memory) (a v : Nat) : Memory.word (Memory.setWord m a v) a = v % 2 ^ 32 := by
  unfold Memory.word Memory.setWord
  rw [Memory.byte_setByte_ne _ _ (show a ≠ a + 3 by omega), Memory.byte_setByte_ne _ _ (show a ≠ a + 2 by omega),
    Memory.byte_setByte_ne _ _ (show a ≠ a + 1 by omega), Memory.byte_setByte_same,
    Memory.byte_setByte_ne _ _ (show a + 1 ≠ a + 3 by omega), Memory.byte_setByte_ne _ _ (show a + 1 ≠ a + 2 by omega),
    Memory.byte_setByte_same, Memory.byte_setByte_ne _ _ (show a + 2 ≠ a + 3 by omega), Memory.byte_setByte_same,
    Memory.byte_setByte_same]
  simp only [BitVec.toNat_ofNat]
  omega

/-- A stored word leaves words clear of it alone. -/
theorem Memory.word_setWord_ne (m : Memory) {a c : Nat} (v : Nat) (h : c + 4 ≤ a ∨ a + 4 ≤ c) :
    Memory.word (Memory.setWord m a v) c = Memory.word m c := by
  unfold Memory.word
  rw [Memory.byte_setWord_ne m v (by omega), Memory.byte_setWord_ne m v (by omega), Memory.byte_setWord_ne m v (by omega),
    Memory.byte_setWord_ne m v (by omega)]

end Sys2Proof.Machine
end

