-- ==== Sys2Proof/Laws/Frame.lean ====
section
/-!
SUPPORT. How the parts of the state that an operation may change are put together: `Frame` is reflexive and composes, one law for
each part that is set, and the laws of lets, branches, folds and outcomes that the lemmas of the other files of Laws/ use.
-/

namespace Sys2Proof.Machine

theorem canonical_iff (s : State) : s.canonical = true ↔
    (((((((Store.wf resetWord s.live = true ∧ Memory.wf s.sxm = true) ∧ Memory.wf s.dmem = true) ∧ Memory.wf s.dram = true)
      ∧ Memory.wf s.flash.active = true) ∧ Memory.wf s.flash.staging = true) ∧ Memory.wf s.upd.image = true)) := by
  simp [State.canonical, State.wordsWf, State.memoriesWf, and_assoc]

/-- Every part of `qs` is one of `ps`. -/
def Part.sub (qs ps : List Part) : Bool := qs.all (fun p => ps.contains p)

theorem Frame.refl (ps : List Part) (s : State) : Frame ps s s :=
  ⟨fun p _ => by cases p <;> exact rfl, rfl, id⟩

theorem Frame.trans {ps : List Part} {s t u : State} (h : Frame ps s t) (k : Frame ps t u) : Frame ps s u := by
  refine ⟨fun p hp => ?_, k.queue.trans h.queue, fun c => k.canon (h.canon c)⟩
  have a := h.same p hp
  have b := k.same p hp
  cases p <;> exact Eq.trans b a

theorem Frame.weaken {ps qs : List Part} {s t : State} (h : Frame qs s t) (hm : Part.sub qs ps = true) :
    Frame ps s t := by
  refine ⟨fun p hp => h.same p ?_, h.queue, h.canon⟩
  cases hq : qs.contains p with
  | false => rfl
  | true =>
    rw [Part.sub, List.all_eq_true] at hm
    rw [hm p (by simpa using hq)] at hp
    cases hp

/-- The change of an operation after another: what the second may change must be listed. -/
theorem Frame.seq {ps qs : List Part} {s t u : State} (h : Frame ps s t) (k : Frame qs t u)
    (hm : Part.sub qs ps = true) : Frame ps s u := h.trans (k.weaken hm)

theorem Frame.ite {ps : List Part} {s a b : State} {c : Prop} [Decidable c] (h : c → Frame ps s a) (k : ¬ c → Frame ps s b) :
    Frame ps s (if c then a else b) := by
  split
  · exact h ‹_›
  · exact k ‹_›

theorem Frame.ite1 {α : Type} {ps : List Part} {s : State} {a b : State × α} {c : Prop} [Decidable c] (h : c → Frame ps s a.1)
    (k : ¬ c → Frame ps s b.1) : Frame ps s (if c then a else b).1 := by
  split
  · exact h ‹_›
  · exact k ‹_›

theorem Frame.ite2 {α : Type} {ps : List Part} {s : State} {a b : α × State} {c : Prop} [Decidable c] (h : c → Frame ps s a.2)
    (k : ¬ c → Frame ps s b.2) : Frame ps s (if c then a else b).2 := by
  split
  · exact h ‹_›
  · exact k ‹_›

theorem Frame.cut {ps : List Part} {s v : State} {t : State → State} (h : ∀ x, Frame ps s x → Frame ps s (t x))
    (k : Frame ps s v) : ∀ x, x = v → Frame ps s (t x) := fun x e => h x (e ▸ k)

theorem Frame.cut1 {α : Type} {ps : List Part} {s v : State} {t : State → State × α}
    (h : ∀ x, Frame ps s x → Frame ps s (t x).1) (k : Frame ps s v) : ∀ x, x = v → Frame ps s (t x).1 := fun x e => h x (e ▸ k)

theorem Framed.cut {ps : List Part} {s v : State} {r : State → Res} (h : ∀ x, Frame ps s x → Framed ps s (r x))
    (k : Frame ps s v) : ∀ x, x = v → Framed ps s (r x) := fun x e => h x (e ▸ k)

theorem Frame.of_fst {α : Type} {ps : List Part} {s x : State} {a : α} {p : State × α} (e : p = (x, a)) (h : Frame ps s p.1) :
    Frame ps s x := by subst e; exact h

theorem Frame.of_snd {α : Type} {ps : List Part} {s x : State} {a : α} {p : α × State} (e : p = (a, x)) (h : Frame ps s p.2) :
    Frame ps s x := by subst e; exact h

theorem Frame.of_snd2 {α β : Type} {ps : List Part} {s x : State} {a : α} {b : β} {p : α × β × State} (e : p = (a, b, x))
    (h : Frame ps s p.2.2) : Frame ps s x := by subst e; exact h

theorem Frame.foldl {α : Type} {ps : List Part} {s u : State} {f : State → α → State} (l : List α)
    (hf : ∀ x a, Frame ps s x → Frame ps s (f x a)) (h : Frame ps s u) : Frame ps s (l.foldl f u) := by
  induction l generalizing u with
  | nil => exact h
  | cons a l ih => exact ih (hf _ _ h)

theorem Frame.foldr {α : Type} {ps : List Part} {s u : State} {f : α → State → State} (l : List α)
    (hf : ∀ x a, Frame ps s x → Frame ps s (f a x)) (h : Frame ps s u) : Frame ps s (l.foldr f u) := by
  induction l with
  | nil => exact h
  | cons a l ih => exact hf _ _ ih

theorem Frame.foldl1 {α β : Type} {ps : List Part} {s : State} {u : State × β} {f : State × β → α → State × β} (l : List α)
    (hf : ∀ x a, Frame ps s x.1 → Frame ps s (f x a).1) (h : Frame ps s u.1) : Frame ps s (l.foldl f u).1 := by
  induction l generalizing u with
  | nil => exact h
  | cons a l ih => exact ih (hf _ _ h)

theorem Frame.foldl2 {α β : Type} {ps : List Part} {s : State} {u : β × State} {f : β × State → α → β × State} (l : List α)
    (hf : ∀ x a, Frame ps s x.2 → Frame ps s (f x a).2) (h : Frame ps s u.2) : Frame ps s (l.foldl f u).2 := by
  induction l generalizing u with
  | nil => exact h
  | cons a l ih => exact ih (hf _ _ h)

theorem Frame.eachBelow {ps : List Part} {s u : State} {f : State → Nat → State} (n : Nat)
    (hf : ∀ x a, Frame ps s x → Frame ps s (f x a)) (h : Frame ps s u) : Frame ps s (u.eachBelow f n) := by
  induction n with
  | zero => exact h
  | succ n ih => exact hf _ _ ih

theorem Memory.wf_filter (m : Memory) (p : Host.Cell → Bool) (h : Memory.wf m = true) : Memory.wf (m.filter p) = true :=
  Store.wf_filter _ p m h

theorem Memory.wf_fold (l : List Host.Cell) (m : Memory) (h : Memory.wf m = true) :
    Memory.wf (l.foldl (fun d c => Memory.setByte d c.1 c.2) m) = true := by
  induction l generalizing m with
  | nil => exact h
  | cons c l ih => exact ih _ (Memory.wf_setByte _ _ _ h)

/-! ## Images of the flash -/

theorem Flash.wf_write (f : Flash) (r : BootRec) (h : Memory.wf f.active = true) (k : Memory.wf f.staging = true) :
    Memory.wf (f.write r).active = true ∧ Memory.wf (f.write r).staging = true := by
  unfold Flash.write
  split <;> exact ⟨h, k⟩

theorem Memory.wf_putBlock (m : Memory) (b : Nat) (bs : List Byte) (h : Memory.wf m = true) : Memory.wf (putBlock m b bs) = true := by
  unfold putBlock
  split
  · exact Memory.wf_setBytes _ _ _ (Memory.wf_setBytes _ _ _ h)
  · exact Memory.wf_setBytes _ _ _ h

/-! ## Outcomes -/

theorem Framed.next {ps : List Part} {s t : State} (h : Frame ps s t) : Framed ps s (.next t) := by
  intro u e; cases e; exact h

theorem Framed.fault {ps : List Part} {s : State} {f : Fault} : Framed ps s (.fault f) := by intro u e; cases e

theorem Framed.refused {ps : List Part} {s : State} {f : Refusal} : Framed ps s (.refused f) := by intro u e; cases e

theorem Framed.ite {ps : List Part} {s : State} {a b : Res} {c : Prop} [Decidable c] (h : c → Framed ps s a)
    (k : ¬ c → Framed ps s b) : Framed ps s (if c then a else b) := by
  split
  · exact h ‹_›
  · exact k ‹_›

theorem Framed.weaken {ps qs : List Part} {s : State} {r : Res} (k : Framed qs s r)
    (hm : Part.sub qs ps = true) : Framed ps s r := fun u e => (k u e).weaken hm

theorem Framed.seq {ps qs : List Part} {s t : State} {r : Res} (h : Frame ps s t) (k : Framed qs t r)
    (hm : Part.sub qs ps = true) : Framed ps s r := fun u e => h.seq (k u e) hm

/-! ## One part set -/

theorem Part.has {p : Part} {ps : List Part} (h : Part.sub [p] ps = true) : ps.contains p = true := by
  simpa [Part.sub] using h

theorem Frame.back_live {ps : List Part} {s u : State} {x : Store Word} (h : Frame ps s u) (hm : Part.sub [.live, .pend] ps = true) :
    Frame ps s { u with live := s.live, pend := x } := by
  have hl : Part.sub [.live] ps = true := by simp only [Part.sub, List.all_cons, List.all_nil, Bool.and_true, Bool.and_eq_true] at hm ⊢; exact hm.1
  have hp : Part.sub [.pend] ps = true := by simp only [Part.sub, List.all_cons, List.all_nil, Bool.and_true, Bool.and_eq_true] at hm ⊢; exact hm.2
  refine ⟨fun p hq => ?_, h.queue, fun c => ?_⟩
  · have a := h.same p hq
    cases p <;> first | exact a | exact rfl | (rw [Part.has hp] at hq; cases hq)
  · have d := h.canon c
    rw [canonical_iff] at c d ⊢
    obtain ⟨⟨⟨⟨⟨⟨-, d2⟩, d3⟩, d4⟩, d5⟩, d6⟩, d7⟩ := d
    exact ⟨⟨⟨⟨⟨⟨c.1.1.1.1.1.1, d2⟩, d3⟩, d4⟩, d5⟩, d6⟩, d7⟩

theorem Frame.set_clk {ps : List Part} {s u : State} {x : Clock} (h : Frame ps s u) (hm : Part.sub [.clk] ps = true) :
    Frame ps s { u with clk := x } :=
  ⟨fun p hp => by cases p <;> first | exact h.same _ hp | (rw [Part.has hm] at hp; cases hp), h.queue, fun c => h.canon c⟩

theorem Frame.set_live {ps : List Part} {s u : State} {x : Store Word} (h : Frame ps s u) (hx : Store.wf resetWord u.live = true → Store.wf resetWord x = true)
    (hm : Part.sub [.live] ps = true) :
    Frame ps s { u with live := x } :=
  ⟨fun p hp => by cases p <;> first | exact h.same _ hp | (rw [Part.has hm] at hp; cases hp), h.queue, fun c => by
    have c := h.canon c
    rw [canonical_iff] at c ⊢
    obtain ⟨⟨⟨⟨⟨⟨c1, c2⟩, c3⟩, c4⟩, c5⟩, c6⟩, c7⟩ := c
    exact ⟨⟨⟨⟨⟨⟨hx c1, c2⟩, c3⟩, c4⟩, c5⟩, c6⟩, c7⟩⟩

theorem Frame.set_shadow {ps : List Part} {s u : State} {x : Store Word} (h : Frame ps s u) (hm : Part.sub [.shadow] ps = true) :
    Frame ps s { u with shadow := x } :=
  ⟨fun p hp => by cases p <;> first | exact h.same _ hp | (rw [Part.has hm] at hp; cases hp), h.queue, fun c => h.canon c⟩

theorem Frame.set_pend {ps : List Part} {s u : State} {x : Store Word} (h : Frame ps s u) (hm : Part.sub [.pend] ps = true) :
    Frame ps s { u with pend := x } :=
  ⟨fun p hp => by cases p <;> first | exact h.same _ hp | (rw [Part.has hm] at hp; cases hp), h.queue, fun c => h.canon c⟩

theorem Frame.set_commit {ps : List Part} {s u : State} {x : Option CommitReq} (h : Frame ps s u) (hm : Part.sub [.commit] ps = true) :
    Frame ps s { u with commit := x } :=
  ⟨fun p hp => by cases p <;> first | exact h.same _ hp | (rw [Part.has hm] at hp; cases hp), h.queue, fun c => h.canon c⟩

theorem Frame.set_snap {ps : List Part} {s u : State} {x : Snap} (h : Frame ps s u) (hm : Part.sub [.snap] ps = true) :
    Frame ps s { u with snap := x } :=
  ⟨fun p hp => by cases p <;> first | exact h.same _ hp | (rw [Part.has hm] at hp; cases hp), h.queue, fun c => h.canon c⟩

theorem Frame.set_ckpt {ps : List Part} {s u : State} {x : Ckpt} (h : Frame ps s u) (hm : Part.sub [.ckpt] ps = true) :
    Frame ps s { u with ckpt := x } :=
  ⟨fun p hp => by cases p <;> first | exact h.same _ hp | (rw [Part.has hm] at hp; cases hp), h.queue, fun c => h.canon c⟩

theorem Frame.set_faults {ps : List Part} {s u : State} {x : Faults} (h : Frame ps s u) (hm : Part.sub [.faults] ps = true) :
    Frame ps s { u with faults := x } :=
  ⟨fun p hp => by cases p <;> first | exact h.same _ hp | (rw [Part.has hm] at hp; cases hp), h.queue, fun c => h.canon c⟩

theorem Frame.set_evt {ps : List Part} {s u : State} {x : Evt} (h : Frame ps s u) (hm : Part.sub [.evt] ps = true) :
    Frame ps s { u with evt := x } :=
  ⟨fun p hp => by cases p <;> first | exact h.same _ hp | (rw [Part.has hm] at hp; cases hp), h.queue, fun c => h.canon c⟩

theorem Frame.set_sxm {ps : List Part} {s u : State} {x : Memory} (h : Frame ps s u) (hx : Memory.wf u.sxm = true → Memory.wf x = true)
    (hm : Part.sub [.sxm] ps = true) :
    Frame ps s { u with sxm := x } :=
  ⟨fun p hp => by cases p <;> first | exact h.same _ hp | (rw [Part.has hm] at hp; cases hp), h.queue, fun c => by
    have c := h.canon c
    rw [canonical_iff] at c ⊢
    obtain ⟨⟨⟨⟨⟨⟨c1, c2⟩, c3⟩, c4⟩, c5⟩, c6⟩, c7⟩ := c
    exact ⟨⟨⟨⟨⟨⟨c1, hx c2⟩, c3⟩, c4⟩, c5⟩, c6⟩, c7⟩⟩

theorem Frame.set_sxmPast {ps : List Part} {s u : State} {x : Store (List Nat)} (h : Frame ps s u) (hm : Part.sub [.sxmPast] ps = true) :
    Frame ps s { u with sxmPast := x } :=
  ⟨fun p hp => by cases p <;> first | exact h.same _ hp | (rw [Part.has hm] at hp; cases hp), h.queue, fun c => h.canon c⟩

theorem Frame.set_dmem {ps : List Part} {s u : State} {x : Memory} (h : Frame ps s u) (hx : Memory.wf u.dmem = true → Memory.wf x = true)
    (hm : Part.sub [.dmem] ps = true) :
    Frame ps s { u with dmem := x } :=
  ⟨fun p hp => by cases p <;> first | exact h.same _ hp | (rw [Part.has hm] at hp; cases hp), h.queue, fun c => by
    have c := h.canon c
    rw [canonical_iff] at c ⊢
    obtain ⟨⟨⟨⟨⟨⟨c1, c2⟩, c3⟩, c4⟩, c5⟩, c6⟩, c7⟩ := c
    exact ⟨⟨⟨⟨⟨⟨c1, c2⟩, hx c3⟩, c4⟩, c5⟩, c6⟩, c7⟩⟩

theorem Frame.set_dram {ps : List Part} {s u : State} {x : Memory} (h : Frame ps s u) (hx : Memory.wf u.dram = true → Memory.wf x = true)
    (hm : Part.sub [.dram] ps = true) :
    Frame ps s { u with dram := x } :=
  ⟨fun p hp => by cases p <;> first | exact h.same _ hp | (rw [Part.has hm] at hp; cases hp), h.queue, fun c => by
    have c := h.canon c
    rw [canonical_iff] at c ⊢
    obtain ⟨⟨⟨⟨⟨⟨c1, c2⟩, c3⟩, c4⟩, c5⟩, c6⟩, c7⟩ := c
    exact ⟨⟨⟨⟨⟨⟨c1, c2⟩, c3⟩, hx c4⟩, c5⟩, c6⟩, c7⟩⟩

theorem Frame.set_valid {ps : List Part} {s u : State} {x : NatSet} (h : Frame ps s u) (hm : Part.sub [.valid] ps = true) :
    Frame ps s { u with valid := x } :=
  ⟨fun p hp => by cases p <;> first | exact h.same _ hp | (rw [Part.has hm] at hp; cases hp), h.queue, fun c => h.canon c⟩

theorem Frame.set_spoiled {ps : List Part} {s u : State} {x : NatSet} (h : Frame ps s u) (hm : Part.sub [.spoiled] ps = true) :
    Frame ps s { u with spoiled := x } :=
  ⟨fun p hp => by cases p <;> first | exact h.same _ hp | (rw [Part.has hm] at hp; cases hp), h.queue, fun c => h.canon c⟩

theorem Frame.set_shut {ps : List Part} {s u : State} {x : NatSet} (h : Frame ps s u) (hm : Part.sub [.shut] ps = true) :
    Frame ps s { u with shut := x } :=
  ⟨fun p hp => by cases p <;> first | exact h.same _ hp | (rw [Part.has hm] at hp; cases hp), h.queue, fun c => h.canon c⟩

theorem Frame.set_placed {ps : List Part} {s u : State} {x : NatSet} (h : Frame ps s u) (hm : Part.sub [.placed] ps = true) :
    Frame ps s { u with placed := x } :=
  ⟨fun p hp => by cases p <;> first | exact h.same _ hp | (rw [Part.has hm] at hp; cases hp), h.queue, fun c => h.canon c⟩

theorem Frame.set_ge {ps : List Part} {s u : State} {x : Store Engine} (h : Frame ps s u) (hm : Part.sub [.ge] ps = true) :
    Frame ps s { u with ge := x } :=
  ⟨fun p hp => by cases p <;> first | exact h.same _ hp | (rw [Part.has hm] at hp; cases hp), h.queue, fun c => h.canon c⟩

theorem Frame.set_free {ps : List Part} {s u : State} {x : Nat} (h : Frame ps s u) (hm : Part.sub [.free] ps = true) :
    Frame ps s { u with free := x } :=
  ⟨fun p hp => by cases p <;> first | exact h.same _ hp | (rw [Part.has hm] at hp; cases hp), h.queue, fun c => h.canon c⟩

theorem Frame.set_muz {ps : List Part} {s u : State} {x : Store MuzLane} (h : Frame ps s u) (hm : Part.sub [.muz] ps = true) :
    Frame ps s { u with muz := x } :=
  ⟨fun p hp => by cases p <;> first | exact h.same _ hp | (rw [Part.has hm] at hp; cases hp), h.queue, fun c => h.canon c⟩

theorem Frame.set_marks {ps : List Part} {s u : State} {x : List LaneMark} (h : Frame ps s u) (hm : Part.sub [.marks] ps = true) :
    Frame ps s { u with marks := x } :=
  ⟨fun p hp => by cases p <;> first | exact h.same _ hp | (rw [Part.has hm] at hp; cases hp), h.queue, fun c => h.canon c⟩

theorem Frame.set_herd {ps : List Part} {s u : State} {x : Store Herd} (h : Frame ps s u) (hm : Part.sub [.herd] ps = true) :
    Frame ps s { u with herd := x } :=
  ⟨fun p hp => by cases p <;> first | exact h.same _ hp | (rw [Part.has hm] at hp; cases hp), h.queue, fun c => h.canon c⟩

theorem Frame.set_gathered {ps : List Part} {s u : State} {x : Bool} (h : Frame ps s u) (hm : Part.sub [.gathered] ps = true) :
    Frame ps s { u with gathered := x } :=
  ⟨fun p hp => by cases p <;> first | exact h.same _ hp | (rw [Part.has hm] at hp; cases hp), h.queue, fun c => h.canon c⟩

theorem Frame.set_pair {ps : List Part} {s u : State} {x : Pair} (h : Frame ps s u) (hm : Part.sub [.pair] ps = true) :
    Frame ps s { u with pair := x } :=
  ⟨fun p hp => by cases p <;> first | exact h.same _ hp | (rw [Part.has hm] at hp; cases hp), h.queue, fun c => h.canon c⟩

theorem Frame.set_knl {ps : List Part} {s u : State} {x : Store Kennel} (h : Frame ps s u) (hm : Part.sub [.knl] ps = true) :
    Frame ps s { u with knl := x } :=
  ⟨fun p hp => by cases p <;> first | exact h.same _ hp | (rw [Part.has hm] at hp; cases hp), h.queue, fun c => h.canon c⟩

theorem Frame.set_copies {ps : List Part} {s u : State} {x : Store Copy} (h : Frame ps s u) (hm : Part.sub [.copies] ps = true) :
    Frame ps s { u with copies := x } :=
  ⟨fun p hp => by cases p <;> first | exact h.same _ hp | (rw [Part.has hm] at hp; cases hp), h.queue, fun c => h.canon c⟩

theorem Frame.set_rxHeld {ps : List Part} {s u : State} {x : NatSet} (h : Frame ps s u) (hm : Part.sub [.rxHeld] ps = true) :
    Frame ps s { u with rxHeld := x } :=
  ⟨fun p hp => by cases p <;> first | exact h.same _ hp | (rw [Part.has hm] at hp; cases hp), h.queue, fun c => h.canon c⟩

theorem Frame.set_rx {ps : List Part} {s u : State} {x : Store RxRec} (h : Frame ps s u) (hm : Part.sub [.rx] ps = true) :
    Frame ps s { u with rx := x } :=
  ⟨fun p hp => by cases p <;> first | exact h.same _ hp | (rw [Part.has hm] at hp; cases hp), h.queue, fun c => h.canon c⟩

theorem Frame.set_deepValid {ps : List Part} {s u : State} {x : NatSet} (h : Frame ps s u) (hm : Part.sub [.deepValid] ps = true) :
    Frame ps s { u with deepValid := x } :=
  ⟨fun p hp => by cases p <;> first | exact h.same _ hp | (rw [Part.has hm] at hp; cases hp), h.queue, fun c => h.canon c⟩

theorem Frame.set_tx {ps : List Part} {s u : State} {x : Store TxRec} (h : Frame ps s u) (hm : Part.sub [.tx] ps = true) :
    Frame ps s { u with tx := x } :=
  ⟨fun p hp => by cases p <;> first | exact h.same _ hp | (rw [Part.has hm] at hp; cases hp), h.queue, fun c => h.canon c⟩

theorem Frame.set_loc {ps : List Part} {s u : State} {x : Store LocalUnit} (h : Frame ps s u) (hm : Part.sub [.loc] ps = true) :
    Frame ps s { u with loc := x } :=
  ⟨fun p hp => by cases p <;> first | exact h.same _ hp | (rw [Part.has hm] at hp; cases hp), h.queue, fun c => h.canon c⟩

theorem Frame.set_atx {ps : List Part} {s u : State} {x : Store AesTx} (h : Frame ps s u) (hm : Part.sub [.atx] ps = true) :
    Frame ps s { u with atx := x } :=
  ⟨fun p hp => by cases p <;> first | exact h.same _ hp | (rw [Part.has hm] at hp; cases hp), h.queue, fun c => h.canon c⟩

theorem Frame.set_syn {ps : List Part} {s u : State} {x : Syn} (h : Frame ps s u) (hm : Part.sub [.syn] ps = true) :
    Frame ps s { u with syn := x } :=
  ⟨fun p hp => by cases p <;> first | exact h.same _ hp | (rw [Part.has hm] at hp; cases hp), h.queue, fun c => h.canon c⟩

theorem Frame.set_eim {ps : List Part} {s u : State} {x : Eim} (h : Frame ps s u) (hm : Part.sub [.eim] ps = true) :
    Frame ps s { u with eim := x } :=
  ⟨fun p hp => by cases p <;> first | exact h.same _ hp | (rw [Part.has hm] at hp; cases hp), h.queue, fun c => h.canon c⟩

theorem Frame.set_ref {ps : List Part} {s u : State} {x : Ref} (h : Frame ps s u) (hm : Part.sub [.ref] ps = true) :
    Frame ps s { u with ref := x } :=
  ⟨fun p hp => by cases p <;> first | exact h.same _ hp | (rw [Part.has hm] at hp; cases hp), h.queue, fun c => h.canon c⟩

theorem Frame.set_times {ps : List Part} {s u : State} {x : Times} (h : Frame ps s u) (hm : Part.sub [.times] ps = true) :
    Frame ps s { u with times := x } :=
  ⟨fun p hp => by cases p <;> first | exact h.same _ hp | (rw [Part.has hm] at hp; cases hp), h.queue, fun c => h.canon c⟩

theorem Frame.set_net {ps : List Part} {s u : State} {x : Switch} (h : Frame ps s u) (hm : Part.sub [.net] ps = true) :
    Frame ps s { u with net := x } :=
  ⟨fun p hp => by cases p <;> first | exact h.same _ hp | (rw [Part.has hm] at hp; cases hp), h.queue, fun c => h.canon c⟩

theorem Frame.set_mem {ps : List Part} {s u : State} {x : Clients} (h : Frame ps s u) (hm : Part.sub [.mem] ps = true) :
    Frame ps s { u with mem := x } :=
  ⟨fun p hp => by cases p <;> first | exact h.same _ hp | (rw [Part.has hm] at hp; cases hp), h.queue, fun c => h.canon c⟩

theorem Frame.set_fuse {ps : List Part} {s u : State} {x : Fuses} (h : Frame ps s u) (hm : Part.sub [.fuse] ps = true) :
    Frame ps s { u with fuse := x } :=
  ⟨fun p hp => by cases p <;> first | exact h.same _ hp | (rw [Part.has hm] at hp; cases hp), h.queue, fun c => h.canon c⟩

theorem Frame.set_flash {ps : List Part} {s u : State} {x : Flash} (h : Frame ps s u) (hx : Memory.wf u.flash.active = true → Memory.wf u.flash.staging = true → Memory.wf x.active = true ∧ Memory.wf x.staging = true)
    (hm : Part.sub [.flash] ps = true) :
    Frame ps s { u with flash := x } :=
  ⟨fun p hp => by cases p <;> first | exact h.same _ hp | (rw [Part.has hm] at hp; cases hp), h.queue, fun c => by
    have c := h.canon c
    rw [canonical_iff] at c ⊢
    obtain ⟨⟨⟨⟨⟨⟨c1, c2⟩, c3⟩, c4⟩, c5⟩, c6⟩, c7⟩ := c
    exact ⟨⟨⟨⟨⟨⟨c1, c2⟩, c3⟩, c4⟩, (hx c5 c6).1⟩, (hx c5 c6).2⟩, c7⟩⟩

theorem Frame.set_ret {ps : List Part} {s u : State} {x : Retention} (h : Frame ps s u) (hm : Part.sub [.ret] ps = true) :
    Frame ps s { u with ret := x } :=
  ⟨fun p hp => by cases p <;> first | exact h.same _ hp | (rw [Part.has hm] at hp; cases hp), h.queue, fun c => h.canon c⟩

theorem Frame.set_sec {ps : List Part} {s u : State} {x : Sec} (h : Frame ps s u) (hm : Part.sub [.sec] ps = true) :
    Frame ps s { u with sec := x } :=
  ⟨fun p hp => by cases p <;> first | exact h.same _ hp | (rw [Part.has hm] at hp; cases hp), h.queue, fun c => h.canon c⟩

theorem Frame.set_upd {ps : List Part} {s u : State} {x : Upd} (h : Frame ps s u) (hx : Memory.wf u.upd.image = true → Memory.wf x.image = true)
    (hm : Part.sub [.upd] ps = true) :
    Frame ps s { u with upd := x } :=
  ⟨fun p hp => by cases p <;> first | exact h.same _ hp | (rw [Part.has hm] at hp; cases hp), h.queue, fun c => by
    have c := h.canon c
    rw [canonical_iff] at c ⊢
    obtain ⟨⟨⟨⟨⟨⟨c1, c2⟩, c3⟩, c4⟩, c5⟩, c6⟩, c7⟩ := c
    exact ⟨⟨⟨⟨⟨⟨c1, c2⟩, c3⟩, c4⟩, c5⟩, c6⟩, hx c7⟩⟩

theorem Frame.set_boot {ps : List Part} {s u : State} {x : Boot} (h : Frame ps s u) (hm : Part.sub [.boot] ps = true) :
    Frame ps s { u with boot := x } :=
  ⟨fun p hp => by cases p <;> first | exact h.same _ hp | (rw [Part.has hm] at hp; cases hp), h.queue, fun c => h.canon c⟩

theorem Frame.set_dma {ps : List Part} {s u : State} {x : Store Dma} (h : Frame ps s u) (hm : Part.sub [.dma] ps = true) :
    Frame ps s { u with dma := x } :=
  ⟨fun p hp => by cases p <;> first | exact h.same _ hp | (rw [Part.has hm] at hp; cases hp), h.queue, fun c => h.canon c⟩

theorem Frame.set_mon {ps : List Part} {s u : State} {x : Mon} (h : Frame ps s u) (hm : Part.sub [.mon] ps = true) :
    Frame ps s { u with mon := x } :=
  ⟨fun p hp => by cases p <;> first | exact h.same _ hp | (rw [Part.has hm] at hp; cases hp), h.queue, fun c => h.canon c⟩

theorem Frame.set_txLoaded {ps : List Part} {s u : State} {x : Option Nat} (h : Frame ps s u) (hm : Part.sub [.txLoaded] ps = true) :
    Frame ps s { u with txLoaded := x } :=
  ⟨fun p hp => by cases p <;> first | exact h.same _ hp | (rw [Part.has hm] at hp; cases hp), h.queue, fun c => h.canon c⟩

theorem Frame.set_out {ps : List Part} {s u : State} {x : List Output} (h : Frame ps s u) (hm : Part.sub [.out] ps = true) :
    Frame ps s { u with out := x } :=
  ⟨fun p hp => by cases p <;> first | exact h.same _ hp | (rw [Part.has hm] at hp; cases hp), h.queue, fun c => h.canon c⟩

theorem Frame.set_valid_spoiled_placed {ps : List Part} {s u : State} {x0 : NatSet} {x1 : NatSet} {x2 : NatSet} (h : Frame ps s u) (m0 : Part.sub [.valid] ps = true) (m1 : Part.sub [.spoiled] ps = true) (m2 : Part.sub [.placed] ps = true) :
    Frame ps s { u with valid := x0, spoiled := x1, placed := x2 } :=
  Frame.set_placed (x := x2) (Frame.set_spoiled (x := x1) (Frame.set_valid (x := x0) (h) m0) m1) m2

theorem Frame.set_marks_gathered {ps : List Part} {s u : State} {x0 : List LaneMark} {x1 : Bool} (h : Frame ps s u) (m0 : Part.sub [.marks] ps = true) (m1 : Part.sub [.gathered] ps = true) :
    Frame ps s { u with marks := x0, gathered := x1 } :=
  Frame.set_gathered (x := x1) (Frame.set_marks (x := x0) (h) m0) m1

theorem Frame.set_faults_copies_rxHeld {ps : List Part} {s u : State} {x0 : Faults} {x1 : Store Copy} {x2 : NatSet} (h : Frame ps s u) (m0 : Part.sub [.faults] ps = true) (m1 : Part.sub [.copies] ps = true) (m2 : Part.sub [.rxHeld] ps = true) :
    Frame ps s { u with faults := x0, copies := x1, rxHeld := x2 } :=
  Frame.set_rxHeld (x := x2) (Frame.set_copies (x := x1) (Frame.set_faults (x := x0) (h) m0) m1) m2

theorem Frame.set_valid_placed {ps : List Part} {s u : State} {x0 : NatSet} {x1 : NatSet} (h : Frame ps s u) (m0 : Part.sub [.valid] ps = true) (m1 : Part.sub [.placed] ps = true) :
    Frame ps s { u with valid := x0, placed := x1 } :=
  Frame.set_placed (x := x1) (Frame.set_valid (x := x0) (h) m0) m1

theorem Frame.set_knl_net {ps : List Part} {s u : State} {x0 : Store Kennel} {x1 : Switch} (h : Frame ps s u) (m0 : Part.sub [.knl] ps = true) (m1 : Part.sub [.net] ps = true) :
    Frame ps s { u with knl := x0, net := x1 } :=
  Frame.set_net (x := x1) (Frame.set_knl (x := x0) (h) m0) m1

theorem Frame.set_clk_gathered {ps : List Part} {s u : State} {x0 : Clock} {x1 : Bool} (h : Frame ps s u) (m0 : Part.sub [.clk] ps = true) (m1 : Part.sub [.gathered] ps = true) :
    Frame ps s { u with clk := x0, gathered := x1 } :=
  Frame.set_gathered (x := x1) (Frame.set_clk (x := x0) (h) m0) m1

theorem Frame.set_shadow_pend {ps : List Part} {s u : State} {x0 : Store Word} {x1 : Store Word} (h : Frame ps s u) (m0 : Part.sub [.shadow] ps = true) (m1 : Part.sub [.pend] ps = true) :
    Frame ps s { u with shadow := x0, pend := x1 } :=
  Frame.set_pend (x := x1) (Frame.set_shadow (x := x0) (h) m0) m1

theorem Frame.set_shadow_pend_commit {ps : List Part} {s u : State} {x0 : Store Word} {x1 : Store Word} {x2 : Option CommitReq} (h : Frame ps s u) (m0 : Part.sub [.shadow] ps = true) (m1 : Part.sub [.pend] ps = true) (m2 : Part.sub [.commit] ps = true) :
    Frame ps s { u with shadow := x0, pend := x1, commit := x2 } :=
  Frame.set_commit (x := x2) (Frame.set_pend (x := x1) (Frame.set_shadow (x := x0) (h) m0) m1) m2

theorem Frame.set_pend_commit {ps : List Part} {s u : State} {x0 : Store Word} {x1 : Option CommitReq} (h : Frame ps s u) (m0 : Part.sub [.pend] ps = true) (m1 : Part.sub [.commit] ps = true) :
    Frame ps s { u with pend := x0, commit := x1 } :=
  Frame.set_commit (x := x1) (Frame.set_pend (x := x0) (h) m0) m1

theorem Frame.set_clk_boot {ps : List Part} {s u : State} {x0 : Clock} {x1 : Boot} (h : Frame ps s u) (m0 : Part.sub [.clk] ps = true) (m1 : Part.sub [.boot] ps = true) :
    Frame ps s { u with clk := x0, boot := x1 } :=
  Frame.set_boot (x := x1) (Frame.set_clk (x := x0) (h) m0) m1

theorem Frame.set_ret_boot {ps : List Part} {s u : State} {x0 : Retention} {x1 : Boot} (h : Frame ps s u) (m0 : Part.sub [.ret] ps = true) (m1 : Part.sub [.boot] ps = true) :
    Frame ps s { u with ret := x0, boot := x1 } :=
  Frame.set_boot (x := x1) (Frame.set_ret (x := x0) (h) m0) m1

theorem Frame.set_fuse_ret {ps : List Part} {s u : State} {x0 : Fuses} {x1 : Retention} (h : Frame ps s u) (m0 : Part.sub [.fuse] ps = true) (m1 : Part.sub [.ret] ps = true) :
    Frame ps s { u with fuse := x0, ret := x1 } :=
  Frame.set_ret (x := x1) (Frame.set_fuse (x := x0) (h) m0) m1

theorem Frame.set_fuse_upd {ps : List Part} {s u : State} {x0 : Fuses} {x1 : Upd} (h : Frame ps s u)
    (hx1 : Memory.wf u.upd.image = true → Memory.wf x1.image = true) (m0 : Part.sub [.fuse] ps = true) (m1 : Part.sub [.upd] ps = true) :
    Frame ps s { u with fuse := x0, upd := x1 } :=
  Frame.set_upd (x := x1) (Frame.set_fuse (x := x0) (h) m0) hx1 m1

theorem Frame.set_live_pend {ps : List Part} {s u : State} {x0 : Store Word} {x1 : Store Word} (h : Frame ps s u)
    (hx0 : Store.wf resetWord u.live = true → Store.wf resetWord x0 = true) (m0 : Part.sub [.live] ps = true) (m1 : Part.sub [.pend] ps = true) :
    Frame ps s { u with live := x0, pend := x1 } :=
  Frame.set_pend (x := x1) (Frame.set_live (x := x0) (h) hx0 m0) m1

theorem Frame.set_rxHeld_copies {ps : List Part} {s u : State} {x0 : NatSet} {x1 : Store Copy} (h : Frame ps s u) (m0 : Part.sub [.rxHeld] ps = true) (m1 : Part.sub [.copies] ps = true) :
    Frame ps s { u with rxHeld := x0, copies := x1 } :=
  Frame.set_copies (x := x1) (Frame.set_rxHeld (x := x0) (h) m0) m1

theorem Frame.set_pend_commit_ckpt {ps : List Part} {s u : State} {x0 : Store Word} {x1 : Option CommitReq} {x2 : Ckpt} (h : Frame ps s u) (m0 : Part.sub [.pend] ps = true) (m1 : Part.sub [.commit] ps = true) (m2 : Part.sub [.ckpt] ps = true) :
    Frame ps s { u with pend := x0, commit := x1, ckpt := x2 } :=
  Frame.set_ckpt (x := x2) (Frame.set_commit (x := x1) (Frame.set_pend (x := x0) (h) m0) m1) m2

theorem Frame.set_commit_ckpt {ps : List Part} {s u : State} {x0 : Option CommitReq} {x1 : Ckpt} (h : Frame ps s u) (m0 : Part.sub [.commit] ps = true) (m1 : Part.sub [.ckpt] ps = true) :
    Frame ps s { u with commit := x0, ckpt := x1 } :=
  Frame.set_ckpt (x := x1) (Frame.set_commit (x := x0) (h) m0) m1

theorem Frame.set_dram_mem {ps : List Part} {s u : State} {x0 : Memory} {x1 : Clients} (h : Frame ps s u)
    (hx0 : Memory.wf u.dram = true → Memory.wf x0 = true) (m0 : Part.sub [.dram] ps = true) (m1 : Part.sub [.mem] ps = true) :
    Frame ps s { u with dram := x0, mem := x1 } :=
  Frame.set_mem (x := x1) (Frame.set_dram (x := x0) (h) hx0 m0) m1

theorem Frame.set_sxm_sxmPast {ps : List Part} {s u : State} {x0 : Memory} {x1 : Store (List Nat)} (h : Frame ps s u)
    (hx0 : Memory.wf u.sxm = true → Memory.wf x0 = true) (m0 : Part.sub [.sxm] ps = true) (m1 : Part.sub [.sxmPast] ps = true) :
    Frame ps s { u with sxm := x0, sxmPast := x1 } :=
  Frame.set_sxmPast (x := x1) (Frame.set_sxm (x := x0) (h) hx0 m0) m1

theorem Frame.set_ret_boot_mon {ps : List Part} {s u : State} {x0 : Retention} {x1 : Boot} {x2 : Mon} (h : Frame ps s u) (m0 : Part.sub [.ret] ps = true) (m1 : Part.sub [.boot] ps = true) (m2 : Part.sub [.mon] ps = true) :
    Frame ps s { u with ret := x0, boot := x1, mon := x2 } :=
  Frame.set_mon (x := x2) (Frame.set_boot (x := x1) (Frame.set_ret (x := x0) (h) m0) m1) m2

/-- Every part of the state. -/
def Part.all : List Part :=
  [.clk, .live, .shadow, .pend, .commit, .snap, .ckpt, .faults, .evt, .sxm, .sxmPast, .dmem,
   .dram, .valid, .spoiled, .shut, .placed, .ge, .free, .muz, .marks, .herd, .gathered, .pair,
   .knl, .copies, .rxHeld, .rx, .deepValid, .tx, .loc, .atx, .syn, .eim, .ref, .times,
   .net, .mem, .fuse, .flash, .ret, .sec, .upd, .boot, .dma, .mon, .txLoaded, .out]

end Sys2Proof.Machine
end

