-- ==== Sys2Proof/Laws/OpsFrame.lean ====
section
/-!
SUPPORT. What each operation of Machine/Ops.lean may change: the parts of the state listed, and never the queue.
-/

namespace Sys2Proof.Machine

theorem State.setWord_frame (s : State) (k v) : Frame [.live] s (s.setWord k v) :=
  Frame.set_live (Frame.refl _ _) (Store.wf_set _ _ _ _) rfl

theorem State.sq_frame (s : State) (a1) (a2) : Frame [.live] s (State.sq s a1 a2) := by
  unfold State.sq
  with_reducible repeat' first
    | assumption
    | exact Frame.refl _ _
    | intro _
    | extract_lets +onlyGivenNames y
    | apply Frame.ite
    | (apply Frame.seq ?_ (State.setWord_frame ..) ?_; on_goal 2 => with_unfolding_all exact rfl)

theorem State.sqf_frame (s : State) (a1) : Frame [.live] s (State.sqf s a1) := by
  unfold State.sqf
  with_reducible repeat' first
    | assumption
    | exact Frame.refl _ _
    | intro _
    | extract_lets +onlyGivenNames y
    | apply Frame.ite
    | (apply Frame.seq ?_ (State.sq_frame ..) ?_; on_goal 2 => with_unfolding_all exact rfl)

theorem State.wr_frame (s : State) (a1) (a2) : Frame [.live] s (State.wr s a1 a2) := by
  unfold State.wr
  with_reducible repeat' first
    | assumption
    | exact Frame.refl _ _
    | intro _
    | extract_lets +onlyGivenNames y
    | apply Frame.ite
    | (apply Frame.seq ?_ (State.setWord_frame ..) ?_; on_goal 2 => with_unfolding_all exact rfl)

theorem State.add_frame (s : State) (a1) (a2) : Frame [.live] s (State.add s a1 a2) := by
  unfold State.add
  with_reducible repeat' first
    | assumption
    | exact Frame.refl _ _
    | intro _
    | extract_lets +onlyGivenNames y
    | apply Frame.ite
    | (apply Frame.seq ?_ (State.wr_frame ..) ?_; on_goal 2 => with_unfolding_all exact rfl)

theorem State.inc_frame (s : State) (a1) : Frame [.live] s (State.inc s a1) := by
  unfold State.inc
  with_reducible repeat' first
    | assumption
    | exact Frame.refl _ _
    | intro _
    | extract_lets +onlyGivenNames y
    | apply Frame.ite
    | (apply Frame.seq ?_ (State.add_frame ..) ?_; on_goal 2 => with_unfolding_all exact rfl)

theorem State.addSat_frame (s : State) (a1) (a2) : Frame [.live] s (State.addSat s a1 a2) := by
  unfold State.addSat
  with_reducible repeat' first
    | assumption
    | exact Frame.refl _ _
    | intro _
    | extract_lets +onlyGivenNames y
    | apply Frame.ite
    | (apply Frame.seq ?_ (State.wr_frame ..) ?_; on_goal 2 => with_unfolding_all exact rfl)

theorem State.dropReport_frame (s : State) (a1) : Frame [.live, .evt] s (State.dropReport s a1) := by
  unfold State.dropReport
  with_reducible repeat' first
    | assumption
    | exact Frame.refl _ _
    | intro _
    | (extract_lets +onlyGivenNames y; clear_value (e : y = _); revert y; apply Frame.cut)
    | extract_lets +onlyGivenNames y
    | apply Frame.ite
    | (apply Frame.seq ?_ (State.inc_frame ..) ?_; on_goal 2 => with_unfolding_all exact rfl)
    | (apply Frame.seq ?_ (State.wr_frame ..) ?_; on_goal 2 => with_unfolding_all exact rfl)
    | (apply Frame.seq ?_ (State.sqf_frame ..) ?_; on_goal 2 => with_unfolding_all exact rfl)
    | (fail_if_no_progress (apply Frame.set_evt ?_ ?_; (on_goal 2 => with_unfolding_all exact rfl)))

theorem State.enterReport_frame (s : State) (a1) : Frame [.live, .evt] s (State.enterReport s a1) := by
  unfold State.enterReport
  with_reducible repeat' first
    | assumption
    | exact Frame.refl _ _
    | intro _
    | (extract_lets +onlyGivenNames y; clear_value (e : y = _); revert y; apply Frame.cut)
    | extract_lets +onlyGivenNames y
    | apply Frame.ite
    | (apply Frame.seq ?_ (State.dropReport_frame ..) ?_; on_goal 2 => with_unfolding_all exact rfl)
    | (fail_if_no_progress (apply Frame.set_evt ?_ ?_; (on_goal 2 => with_unfolding_all exact rfl)))
    | (apply Frame.of_snd (by assumption))
    | (apply Frame.of_fst (by assumption))
    | (apply Frame.of_snd2 (by assumption))
    | apply Frame.ite1
    | apply Frame.ite2
    | split

theorem State.placeReport_frame (s : State) (a1) (a2) (a3) : Frame [.live, .evt] s (State.placeReport s a1 a2 a3) := by
  unfold State.placeReport
  with_reducible repeat' first
    | assumption
    | exact Frame.refl _ _
    | intro _
    | extract_lets +onlyGivenNames y
    | apply Frame.ite
    | (apply Frame.seq ?_ (State.addSat_frame ..) ?_; on_goal 2 => with_unfolding_all exact rfl)
    | (apply Frame.seq ?_ (State.enterReport_frame ..) ?_; on_goal 2 => with_unfolding_all exact rfl)
    | (fail_if_no_progress (apply Frame.set_evt ?_ ?_; (on_goal 2 => with_unfolding_all exact rfl)))
    | (apply Frame.of_snd (by assumption))
    | (apply Frame.of_fst (by assumption))
    | (apply Frame.of_snd2 (by assumption))
    | apply Frame.ite1
    | apply Frame.ite2
    | split

theorem State.setNum_frame (s : State) (a1) (a2) : Frame [.live] s (State.setNum s a1 a2) := by
  unfold State.setNum
  with_reducible repeat' first
    | assumption
    | exact Frame.refl _ _
    | intro _
    | extract_lets +onlyGivenNames y
    | apply Frame.ite
    | (apply Frame.seq ?_ (State.setWord_frame ..) ?_; on_goal 2 => with_unfolding_all exact rfl)

theorem State.emit_frame (s : State) (a1) : Frame [.out] s (State.emit s a1) := by
  unfold State.emit
  with_reducible repeat' first
    | assumption
    | exact Frame.refl _ _
    | intro _
    | extract_lets +onlyGivenNames y
    | apply Frame.ite
    | (fail_if_no_progress (apply Frame.set_out ?_ ?_; (on_goal 2 => with_unfolding_all exact rfl)))

theorem State.msix_frame (s : State) (a1) : Frame [.live, .out] s (State.msix s a1) := by
  unfold State.msix
  with_reducible repeat' first
    | assumption
    | exact Frame.refl _ _
    | intro _
    | extract_lets +onlyGivenNames y
    | apply Frame.ite
    | (apply Frame.seq ?_ (State.setNum_frame ..) ?_; on_goal 2 => with_unfolding_all exact rfl)
    | (apply Frame.seq ?_ (State.emit_frame ..) ?_; on_goal 2 => with_unfolding_all exact rfl)

theorem State.msixAll_frame (s : State) (a1) (a2) : Frame [.live, .out] s (State.msixAll s a1 a2) := by
  fun_induction State.msixAll s a1 a2
  all_goals
    with_reducible repeat' first
      | assumption
      | exact Frame.refl _ _
      | intro _
      | extract_lets +onlyGivenNames y
      | apply Frame.ite
      | (apply Frame.seq ?_ (State.msix_frame ..) ?_; on_goal 2 => with_unfolding_all exact rfl)

theorem State.interrupts_frame (s : State) : Frame [.live, .evt, .out] s (State.interrupts s) := by
  unfold State.interrupts
  with_reducible repeat' first
    | assumption
    | exact Frame.refl _ _
    | intro _
    | (extract_lets +onlyGivenNames y; clear_value (e : y = _); revert y; apply Frame.cut)
    | extract_lets +onlyGivenNames y
    | apply Frame.ite
    | (apply Frame.seq ?_ (State.msixAll_frame ..) ?_; on_goal 2 => with_unfolding_all exact rfl)
    | (fail_if_no_progress (apply Frame.set_evt ?_ ?_; (on_goal 2 => with_unfolding_all exact rfl)))

theorem State.report_frame (s : State) (a1) (a2) (a3) : Frame [.live, .evt, .out] s (State.report s a1 a2 a3) := by
  unfold State.report
  with_reducible repeat' first
    | assumption
    | exact Frame.refl _ _
    | intro _
    | extract_lets +onlyGivenNames y
    | apply Frame.ite
    | (apply Frame.seq ?_ (State.placeReport_frame ..) ?_; on_goal 2 => with_unfolding_all exact rfl)
    | (apply Frame.seq ?_ (State.interrupts_frame ..) ?_; on_goal 2 => with_unfolding_all exact rfl)
    | (apply Frame.seq ?_ (State.sq_frame ..) ?_; on_goal 2 => with_unfolding_all exact rfl)
    | (apply Frame.seq ?_ (State.inc_frame ..) ?_; on_goal 2 => with_unfolding_all exact rfl)

theorem State.wrFlag_frame (s : State) (a1) (a2) : Frame [.live] s (State.wrFlag s a1 a2) := by
  unfold State.wrFlag
  with_reducible repeat' first
    | assumption
    | exact Frame.refl _ _
    | intro _
    | extract_lets +onlyGivenNames y
    | apply Frame.ite
    | (apply Frame.seq ?_ (State.wr_frame ..) ?_; on_goal 2 => with_unfolding_all exact rfl)

theorem State.freePick_frame (s : State) (a1) : Frame [.free] s (State.freePick s a1).2 := by
  unfold State.freePick
  with_reducible repeat' first
    | assumption
    | exact Frame.refl _ _
    | intro _
    | extract_lets +onlyGivenNames y
    | apply Frame.ite
    | (fail_if_no_progress (apply Frame.set_free ?_ ?_; (on_goal 2 => with_unfolding_all exact rfl)))

theorem State.wrS_frame (s : State) (a1) (a2) : Frame [.live] s (State.wrS s a1 a2) := by
  unfold State.wrS
  with_reducible repeat' first
    | assumption
    | exact Frame.refl _ _
    | intro _
    | extract_lets +onlyGivenNames y
    | apply Frame.ite
    | (apply Frame.seq ?_ (State.wr_frame ..) ?_; on_goal 2 => with_unfolding_all exact rfl)

theorem State.setEngine_frame (s : State) (a1) (a2) : Frame [.ge] s (State.setEngine s a1 a2) := by
  unfold State.setEngine
  with_reducible repeat' first
    | assumption
    | exact Frame.refl _ _
    | intro _
    | extract_lets +onlyGivenNames y
    | apply Frame.ite
    | (fail_if_no_progress (apply Frame.set_ge ?_ ?_; (on_goal 2 => with_unfolding_all exact rfl)))

theorem State.clearBuffer_frame (s : State) (a1) : Frame [.valid, .spoiled, .placed] s (State.clearBuffer s a1) := by
  unfold State.clearBuffer
  with_reducible repeat' first
    | assumption
    | exact Frame.refl _ _
    | intro _
    | extract_lets +onlyGivenNames y
    | apply Frame.ite
    | (fail_if_no_progress (apply Frame.set_valid_spoiled_placed ?_ ?_ ?_ ?_; (on_goal 4 => with_unfolding_all exact rfl); (on_goal 3 => with_unfolding_all exact rfl); (on_goal 2 => with_unfolding_all exact rfl)))

theorem State.setSxm_frame (s : State) (a v) : Frame [.sxm, .sxmPast] s (s.setSxm a v) :=
  Frame.set_sxmPast (Frame.set_sxm (Frame.refl _ _) (Memory.wf_setWord _ _ _) rfl) rfl

theorem State.setValid_frame (s : State) (a1) (a2) (a3) : Frame [.valid] s (State.setValid s a1 a2 a3) := by
  unfold State.setValid
  with_reducible repeat' first
    | assumption
    | exact Frame.refl _ _
    | intro _
    | extract_lets +onlyGivenNames y
    | apply Frame.ite
    | (fail_if_no_progress (apply Frame.set_valid ?_ ?_; (on_goal 2 => with_unfolding_all exact rfl)))

theorem State.clearFrame_frame (s : State) (a1) (a2) : Frame [.valid, .spoiled, .placed] s (State.clearFrame s a1 a2) := by
  unfold State.clearFrame
  with_reducible repeat' first
    | assumption
    | exact Frame.refl _ _
    | intro _
    | extract_lets +onlyGivenNames y
    | apply Frame.ite
    | (fail_if_no_progress (apply Frame.set_valid_spoiled_placed ?_ ?_ ?_ ?_; (on_goal 4 => with_unfolding_all exact rfl); (on_goal 3 => with_unfolding_all exact rfl); (on_goal 2 => with_unfolding_all exact rfl)))

theorem State.clearValid_frame (s : State) (a1) (a2) (a3) : Frame [.valid] s (State.clearValid s a1 a2 a3) := by
  unfold State.clearValid
  with_reducible repeat' first
    | assumption
    | exact Frame.refl _ _
    | intro _
    | extract_lets +onlyGivenNames y
    | apply Frame.ite
    | (fail_if_no_progress (apply Frame.set_valid ?_ ?_; (on_goal 2 => with_unfolding_all exact rfl)))

theorem State.openContainer_frame (s : State) (a1) : Frame [.free] s (State.openContainer s a1).2 := by
  unfold State.openContainer
  with_reducible repeat' first
    | assumption
    | exact Frame.refl _ _
    | intro _
    | extract_lets +onlyGivenNames y
    | apply Frame.ite
    | (apply Frame.seq ?_ (State.freePick_frame ..) ?_; on_goal 2 => with_unfolding_all exact rfl)

theorem State.readSample_frame (s : State) (a1) (a2) (a3) (a4) : Frame [.free] s (State.readSample s a1 a2 a3 a4).2 := by
  unfold State.readSample
  with_reducible repeat' first
    | assumption
    | exact Frame.refl _ _
    | intro _
    | extract_lets +onlyGivenNames y
    | apply Frame.ite
    | (apply Frame.seq ?_ (State.openContainer_frame ..) ?_; on_goal 2 => with_unfolding_all exact rfl)
    | (apply Frame.of_snd (by assumption))
    | (apply Frame.of_fst (by assumption))
    | (apply Frame.of_snd2 (by assumption))
    | apply Frame.ite1
    | apply Frame.ite2

theorem State.freeWord_frame (s : State) : Frame [.free] s (State.freeWord s).2 := by
  unfold State.freeWord
  with_reducible repeat' first
    | assumption
    | exact Frame.refl _ _
    | intro _
    | extract_lets +onlyGivenNames y
    | apply Frame.ite
    | (fail_if_no_progress (apply Frame.set_free ?_ ?_; (on_goal 2 => with_unfolding_all exact rfl)))

theorem State.setPlaced_frame (s : State) (a1) (a2) (a3) : Frame [.placed] s (State.setPlaced s a1 a2 a3) := by
  unfold State.setPlaced
  with_reducible repeat' first
    | assumption
    | exact Frame.refl _ _
    | intro _
    | extract_lets +onlyGivenNames y
    | apply Frame.ite
    | (fail_if_no_progress (apply Frame.set_placed ?_ ?_; (on_goal 2 => with_unfolding_all exact rfl)))

theorem State.setFrameValid_frame (s : State) (a1) (a2) (a3) : Frame [.valid] s (State.setFrameValid s a1 a2 a3) := by
  fun_induction State.setFrameValid s a1 a2 a3
  all_goals
    with_reducible repeat' first
      | assumption
      | exact Frame.refl _ _
      | intro _
      | extract_lets +onlyGivenNames y
      | apply Frame.ite
      | (apply Frame.seq ?_ (State.setValid_frame ..) ?_; on_goal 2 => with_unfolding_all exact rfl)

end Sys2Proof.Machine
end

