-- ==== Sys2Proof/Laws/EnginesFrame.lean ====
section
/-!
SUPPORT. What each operation of Machine/Engines.lean may change: the parts of the state listed, and never the queue.
-/

namespace Sys2Proof.Machine

theorem State.setFilled_frame (s : State) (a1) (a2) : Frame [.ge] s (State.setFilled s a1 a2) := by
  unfold State.setFilled
  with_reducible repeat' first
    | assumption
    | exact Frame.refl _ _
    | intro _
    | extract_lets +onlyGivenNames y
    | apply Frame.ite
    | (apply Frame.seq ?_ (State.setEngine_frame ..) ?_; on_goal 2 => with_unfolding_all exact rfl)

theorem State.squash_frame (s : State) (a1) (a2) : Frame [.live, .ge] s (State.squash s a1 a2) := by
  unfold State.squash
  with_reducible repeat' first
    | assumption
    | exact Frame.refl _ _
    | intro _
    | (extract_lets +onlyGivenNames y; clear_value (e : y = _); revert y; apply Frame.cut)
    | extract_lets +onlyGivenNames y
    | apply Frame.ite
    | (apply Frame.seq ?_ (State.setFilled_frame ..) ?_; on_goal 2 => with_unfolding_all exact rfl)
    | (apply Frame.seq ?_ (State.sqf_frame ..) ?_; on_goal 2 => with_unfolding_all exact rfl)
    | (apply Frame.seq ?_ (State.inc_frame ..) ?_; on_goal 2 => with_unfolding_all exact rfl)

theorem State.squashReaders_frame (s : State) (a1) (a2) : Frame [.live, .ge] s (State.squashReaders s a1 a2) := by
  unfold State.squashReaders
  with_reducible repeat' first
    | assumption
    | exact Frame.refl _ _
    | intro _
    | extract_lets +onlyGivenNames y
    | apply Frame.ite
    | (apply Frame.seq ?_ (State.squash_frame ..) ?_; on_goal 2 => with_unfolding_all exact rfl)
    | apply Frame.eachBelow

theorem State.startProgram_frame (s : State) (a1) (a2) (a3) : Frame [.ge, .free] s (State.startProgram s a1 a2 a3) := by
  unfold State.startProgram
  with_reducible repeat' first
    | assumption
    | exact Frame.refl _ _
    | intro _
    | extract_lets +onlyGivenNames y
    | apply Frame.ite
    | (apply Frame.seq ?_ (State.setEngine_frame ..) ?_; on_goal 2 => with_unfolding_all exact rfl)
    | (fail_if_no_progress (apply Frame.set_free ?_ ?_; (on_goal 2 => with_unfolding_all exact rfl)))

theorem State.storeDram_frame (s : State) (a1) : Frame [.dram] s (State.storeDram s a1) := by
  fun_induction State.storeDram s a1
  all_goals
    with_reducible repeat' first
      | assumption
      | exact Frame.refl _ _
      | exact Memory.wf_setWord _ _ _
      | exact Store.wf_filter _ _ _
      | exact fun h => h
      | exact fun h k => ⟨h, k⟩
      | exact Memory.wf_setBytes _ _ _
      | intro _
      | extract_lets +onlyGivenNames y
      | apply Frame.ite
      | (apply Frame.trans ?_ (by assumption))
      | (apply Frame.of_snd (by assumption))
      | (apply Frame.of_fst (by assumption))
      | (apply Frame.of_snd2 (by assumption))
      | apply Frame.ite1
      | apply Frame.ite2
      | split
      | dsimp only
      | (fail_if_no_progress (apply Frame.set_dram ?_ ?_ ?_; (on_goal 3 => with_unfolding_all exact rfl)))

theorem State.completeTicket_frame (s : State) (a1) (a2) (a3) : Frame [.dram, .ge] s (State.completeTicket s a1 a2 a3) := by
  unfold State.completeTicket
  with_reducible repeat' first
    | assumption
    | exact Frame.refl _ _
    | intro _
    | extract_lets +onlyGivenNames y
    | apply Frame.ite
    | (apply Frame.seq ?_ (State.storeDram_frame ..) ?_; on_goal 2 => with_unfolding_all exact rfl)
    | (apply Frame.seq ?_ (State.setEngine_frame ..) ?_; on_goal 2 => with_unfolding_all exact rfl)

theorem State.dramUncorr_frame (s : State) (a1) (a2) : Frame [.live, .evt, .out] s (State.dramUncorr s a1 a2) := by
  unfold State.dramUncorr
  with_reducible repeat' first
    | assumption
    | exact Frame.refl _ _
    | intro _
    | (extract_lets +onlyGivenNames y; clear_value (e : y = _); revert y; apply Frame.cut)
    | extract_lets +onlyGivenNames y
    | apply Frame.ite
    | (apply Frame.seq ?_ (State.report_frame ..) ?_; on_goal 2 => with_unfolding_all exact rfl)
    | (apply Frame.seq ?_ (State.inc_frame ..) ?_; on_goal 2 => with_unfolding_all exact rfl)
    | (apply Frame.seq ?_ (State.sqf_frame ..) ?_; on_goal 2 => with_unfolding_all exact rfl)

theorem State.dramCorr_frame (s : State) (a1) : Frame [.live, .evt, .out] s (State.dramCorr s a1) := by
  fun_induction State.dramCorr s a1
  all_goals
    with_reducible repeat' first
      | assumption
      | exact Frame.refl _ _
      | intro _
      | extract_lets +onlyGivenNames y
      | apply Frame.ite
      | (apply Frame.seq ?_ (State.report_frame ..) ?_; on_goal 2 => with_unfolding_all exact rfl)
      | (apply Frame.seq ?_ (State.inc_frame ..) ?_; on_goal 2 => with_unfolding_all exact rfl)

theorem State.stopEngine_frame (s : State) (a1) : Frame [.ge] s (State.stopEngine s a1) := by
  unfold State.stopEngine
  with_reducible repeat' first
    | assumption
    | exact Frame.refl _ _
    | intro _
    | extract_lets +onlyGivenNames y
    | apply Frame.ite
    | (apply Frame.seq ?_ (State.setFilled_frame ..) ?_; on_goal 2 => with_unfolding_all exact rfl)

theorem State.stallRsb_frame (s : State) (a1) (a2) : Frame [.live, .ge] s (State.stallRsb s a1 a2) := by
  unfold State.stallRsb
  with_reducible repeat' first
    | assumption
    | exact Frame.refl _ _
    | intro _
    | (extract_lets +onlyGivenNames y; clear_value (e : y = _); revert y; apply Frame.cut)
    | extract_lets +onlyGivenNames y
    | apply Frame.ite
    | (apply Frame.seq ?_ (State.setEngine_frame ..) ?_; on_goal 2 => with_unfolding_all exact rfl)
    | (apply Frame.seq ?_ (State.sqf_frame ..) ?_; on_goal 2 => with_unfolding_all exact rfl)
    | (apply Frame.seq ?_ (State.inc_frame ..) ?_; on_goal 2 => with_unfolding_all exact rfl)

theorem Frame.effect {ps : List Part} {s u : State} {e : Nat} {r : RsbEntry} {go : Engine → Engine} {direct : State → State}
    (hf : ∀ x, Frame ps s x → Frame ps s (direct x)) (h : Frame ps s u) (hm : Part.sub [.live, .ge] ps = true) :
    Frame ps s (u.effect e r go direct) := by
  have hs : Part.sub [.ge] ps = true := by
    simp only [Part.sub, List.all_cons, List.all_nil, Bool.and_true, Bool.and_eq_true] at hm ⊢
    tauto
  unfold State.effect
  extract_lets x
  refine Frame.ite (fun _ => Frame.ite (fun _ => ?_) (fun _ => ?_)) (fun _ => ?_)
  · exact h.seq (State.setEngine_frame ..) hs
  · exact h.seq (State.stallRsb_frame ..) hm
  · exact (hf _ h).seq (State.setEngine_frame ..) hs

theorem State.squashMuzzle_frame (s : State) (a1) (a2) : Frame [.live, .ge] s (State.squashMuzzle s a1 a2) := by
  unfold State.squashMuzzle
  with_reducible repeat' first
    | assumption
    | exact Frame.refl _ _
    | intro _
    | extract_lets +onlyGivenNames y
    | apply Frame.ite
    | (apply Frame.seq ?_ (State.squash_frame ..) ?_; on_goal 2 => with_unfolding_all exact rfl)
    | apply Frame.eachBelow

theorem State.overrun_frame (s : State) (a1) : Frame [.live, .evt, .ge, .out] s (State.overrun s a1) := by
  unfold State.overrun
  with_reducible repeat' first
    | assumption
    | exact Frame.refl _ _
    | intro _
    | (extract_lets +onlyGivenNames y; clear_value (e : y = _); revert y; apply Frame.cut)
    | extract_lets +onlyGivenNames y
    | apply Frame.ite
    | (apply Frame.seq ?_ (State.stopEngine_frame ..) ?_; on_goal 2 => with_unfolding_all exact rfl)
    | (apply Frame.seq ?_ (State.sqf_frame ..) ?_; on_goal 2 => with_unfolding_all exact rfl)
    | (apply Frame.seq ?_ (State.inc_frame ..) ?_; on_goal 2 => with_unfolding_all exact rfl)
    | (apply Frame.seq ?_ (State.report_frame ..) ?_; on_goal 2 => with_unfolding_all exact rfl)
    | (apply Frame.seq ?_ (State.setEngine_frame ..) ?_; on_goal 2 => with_unfolding_all exact rfl)

theorem State.overruns_frame (s : State) : Frame [.live, .evt, .ge, .out] s (State.overruns s) := by
  unfold State.overruns
  with_reducible repeat' first
    | assumption
    | exact Frame.refl _ _
    | intro _
    | extract_lets +onlyGivenNames y
    | apply Frame.ite
    | (apply Frame.seq ?_ (State.overrun_frame ..) ?_; on_goal 2 => with_unfolding_all exact rfl)
    | (apply Frame.seq ?_ (State.setEngine_frame ..) ?_; on_goal 2 => with_unfolding_all exact rfl)
    | apply Frame.eachBelow

theorem State.storeSxm_frame (s : State) (a1) : Frame [.sxm, .sxmPast] s (State.storeSxm s a1) := by
  fun_induction State.storeSxm s a1
  all_goals
    with_reducible repeat' first
      | assumption
      | exact Frame.refl _ _
      | intro _
      | extract_lets +onlyGivenNames y
      | apply Frame.ite
      | (apply Frame.seq ?_ (State.setSxm_frame ..) ?_; on_goal 2 => with_unfolding_all exact rfl)
      | (apply Frame.trans ?_ (by assumption))

theorem State.storeDmem_frame (s : State) (a1) (a2) : Frame [.dmem] s (State.storeDmem s a1 a2) := by
  fun_induction State.storeDmem s a1 a2
  all_goals
    with_reducible repeat' first
      | assumption
      | exact Frame.refl _ _
      | exact Memory.wf_setWord _ _ _
      | exact Store.wf_filter _ _ _
      | exact fun h => h
      | exact fun h k => ⟨h, k⟩
      | exact Memory.wf_setBytes _ _ _
      | intro _
      | extract_lets +onlyGivenNames y
      | apply Frame.ite
      | (apply Frame.trans ?_ (by assumption))
      | (apply Frame.of_snd (by assumption))
      | (apply Frame.of_fst (by assumption))
      | (apply Frame.of_snd2 (by assumption))
      | apply Frame.ite1
      | apply Frame.ite2
      | split
      | dsimp only
      | (fail_if_no_progress (apply Frame.set_dmem ?_ ?_ ?_; (on_goal 3 => with_unfolding_all exact rfl)))

theorem State.retireEntry_frame (s : State) (a1) (a2) : Frame [.live, .evt, .sxm, .sxmPast, .dmem, .ge, .marks, .out] s (State.retireEntry s a1 a2) := by
  unfold State.retireEntry
  with_reducible repeat' first
    | assumption
    | exact Frame.refl _ _
    | intro _
    | extract_lets +onlyGivenNames y
    | apply Frame.ite
    | (apply Frame.seq ?_ (State.storeSxm_frame ..) ?_; on_goal 2 => with_unfolding_all exact rfl)
    | (apply Frame.seq ?_ (State.storeDmem_frame ..) ?_; on_goal 2 => with_unfolding_all exact rfl)
    | (apply Frame.seq ?_ (State.setEngine_frame ..) ?_; on_goal 2 => with_unfolding_all exact rfl)
    | (apply Frame.seq ?_ (State.setFilled_frame ..) ?_; on_goal 2 => with_unfolding_all exact rfl)
    | (apply Frame.seq ?_ (State.report_frame ..) ?_; on_goal 2 => with_unfolding_all exact rfl)
    | (fail_if_no_progress (apply Frame.set_marks ?_ ?_; (on_goal 2 => with_unfolding_all exact rfl)))
    | (apply Frame.of_snd (by assumption))
    | (apply Frame.of_fst (by assumption))
    | (apply Frame.of_snd2 (by assumption))
    | apply Frame.ite1
    | apply Frame.ite2
    | split

theorem State.retireAll_frame (s : State) (a1) (a2) : Frame [.live, .evt, .sxm, .sxmPast, .dmem, .ge, .marks, .out] s (State.retireAll s a1 a2) := by
  fun_induction State.retireAll s a1 a2
  all_goals
    with_reducible repeat' first
      | assumption
      | exact Frame.refl _ _
      | intro _
      | extract_lets +onlyGivenNames y
      | apply Frame.ite
      | (apply Frame.seq ?_ (State.retireEntry_frame ..) ?_; on_goal 2 => with_unfolding_all exact rfl)
      | (apply Frame.trans ?_ (by assumption))

theorem State.retire_frame (s : State) (a1) : Frame [.live, .evt, .sxm, .sxmPast, .dmem, .ge, .marks, .out] s (State.retire s a1) := by
  unfold State.retire
  with_reducible repeat' first
    | assumption
    | exact Frame.refl _ _
    | intro _
    | (extract_lets +onlyGivenNames y; clear_value (e : y = _); revert y; apply Frame.cut)
    | extract_lets +onlyGivenNames y
    | apply Frame.ite
    | (apply Frame.seq ?_ (State.setEngine_frame ..) ?_; on_goal 2 => with_unfolding_all exact rfl)
    | (apply Frame.seq ?_ (State.retireAll_frame ..) ?_; on_goal 2 => with_unfolding_all exact rfl)
    | (apply Frame.seq ?_ (State.inc_frame ..) ?_; on_goal 2 => with_unfolding_all exact rfl)

theorem State.scalar_frame (s : State) (a1) (a2) (a3) : Frame [.ge] s (State.scalar s a1 a2 a3) := by
  unfold State.scalar
  with_reducible repeat' first
    | assumption
    | exact Frame.refl _ _
    | intro _
    | extract_lets +onlyGivenNames y
    | apply Frame.ite
    | (apply Frame.seq ?_ (State.setEngine_frame ..) ?_; on_goal 2 => with_unfolding_all exact rfl)

end Sys2Proof.Machine
end

