-- ==== Sys2Proof/Laws/FramesFrame.lean ====
section
/-!
SUPPORT. What each operation of Machine/Frames.lean may change: the parts of the state listed, and never the queue.
-/

namespace Sys2Proof.Machine

theorem State.setLane_frame (s : State) (a1) (a2) (a3) : Frame [.muz] s (State.setLane s a1 a2 a3) := by
  unfold State.setLane
  with_reducible repeat' first
    | assumption
    | exact Frame.refl _ _
    | intro _
    | extract_lets +onlyGivenNames y
    | apply Frame.ite
    | (fail_if_no_progress (apply Frame.set_muz ?_ ?_; (on_goal 2 => with_unfolding_all exact rfl)))

theorem State.loadSxm_frame (s : State) (a1) (a2) (a3) : Frame [.free] s (State.loadSxm s a1 a2 a3).2 := by
  unfold State.loadSxm
  with_reducible repeat' first
    | assumption
    | exact Frame.refl _ _
    | intro _
    | extract_lets +onlyGivenNames y
    | apply Frame.ite
    | (apply Frame.seq ?_ (State.openContainer_frame ..) ?_; on_goal 2 => with_unfolding_all exact rfl)
    | (apply Frame.of_snd (by assumption))
    | (apply Frame.of_fst (by assumption))
    | (apply Frame.of_snd2 (by assumption))
    | apply Frame.ite1
    | apply Frame.ite2
    | split

end Sys2Proof.Machine
end

