-- ==== Sys2Proof/Laws/EpochFrame.lean ====
section
/-!
SUPPORT. What each operation of Machine/Epoch.lean may change: the parts of the state listed, and never the queue.
-/

namespace Sys2Proof.Machine

theorem State.accErr_frame (s : State) (a1) (a2) (a3) : Frame [.live, .evt, .out] s (State.accErr s a1 a2 a3) := by
  unfold State.accErr
  with_reducible repeat' first
    | assumption
    | exact Frame.refl _ _
    | intro _
    | (extract_lets +onlyGivenNames y; clear_value (e : y = _); revert y; apply Frame.cut)
    | extract_lets +onlyGivenNames y
    | apply Frame.ite
    | (apply Frame.seq ?_ (State.inc_frame ..) ?_; on_goal 2 => with_unfolding_all exact rfl)
    | (apply Frame.seq ?_ (State.wr_frame ..) ?_; on_goal 2 => with_unfolding_all exact rfl)
    | (apply Frame.seq ?_ (State.sqf_frame ..) ?_; on_goal 2 => with_unfolding_all exact rfl)
    | (apply Frame.seq ?_ (State.report_frame ..) ?_; on_goal 2 => with_unfolding_all exact rfl)

theorem State.refusal_frame (s : State) (a1) (a2) : Frame [.live] s (State.refusal s a1 a2) := by
  unfold State.refusal
  with_reducible repeat' first
    | assumption
    | exact Frame.refl _ _
    | intro _
    | (extract_lets +onlyGivenNames y; clear_value (e : y = _); revert y; apply Frame.cut)
    | extract_lets +onlyGivenNames y
    | apply Frame.ite
    | (apply Frame.seq ?_ (State.wr_frame ..) ?_; on_goal 2 => with_unfolding_all exact rfl)
    | (apply Frame.seq ?_ (State.setNum_frame ..) ?_; on_goal 2 => with_unfolding_all exact rfl)
    | (apply Frame.of_snd (by assumption))
    | (apply Frame.of_fst (by assumption))
    | (apply Frame.of_snd2 (by assumption))
    | apply Frame.ite1
    | apply Frame.ite2
    | split

theorem State.refuseGo_frame (s : State) (a1) : Frame [.live] s (State.refuseGo s a1) := by
  unfold State.refuseGo
  with_reducible repeat' first
    | assumption
    | exact Frame.refl _ _
    | intro _
    | (extract_lets +onlyGivenNames y; clear_value (e : y = _); revert y; apply Frame.cut)
    | extract_lets +onlyGivenNames y
    | apply Frame.ite
    | (apply Frame.seq ?_ (State.wr_frame ..) ?_; on_goal 2 => with_unfolding_all exact rfl)
    | (apply Frame.seq ?_ (State.sqf_frame ..) ?_; on_goal 2 => with_unfolding_all exact rfl)
    | (apply Frame.seq ?_ (State.refusal_frame ..) ?_; on_goal 2 => with_unfolding_all exact rfl)

theorem State.refuseFull_frame (s : State) (a1) : Frame [.live, .evt, .out] s (State.refuseFull s a1) := by
  unfold State.refuseFull
  with_reducible repeat' first
    | assumption
    | exact Frame.refl _ _
    | intro _
    | extract_lets +onlyGivenNames y
    | apply Frame.ite
    | (apply Frame.seq ?_ (State.report_frame ..) ?_; on_goal 2 => with_unfolding_all exact rfl)
    | (apply Frame.seq ?_ (State.addSat_frame ..) ?_; on_goal 2 => with_unfolding_all exact rfl)

theorem State.fillTo_frame (s : State) (a1) : Frame [.live] s (State.fillTo s a1) := by
  unfold State.fillTo
  with_reducible repeat' first
    | assumption
    | exact Frame.refl _ _
    | intro _
    | extract_lets +onlyGivenNames y
    | apply Frame.ite
    | (apply Frame.seq ?_ (State.wrFlag_frame ..) ?_; on_goal 2 => with_unfolding_all exact rfl)
    | (apply Frame.seq ?_ (State.wr_frame ..) ?_; on_goal 2 => with_unfolding_all exact rfl)

theorem State.journalAt_frame (s : State) (a1) (a2) (a3) (a4) : Frame [.live, .ckpt] s (State.journalAt s a1 a2 a3 a4) := by
  unfold State.journalAt
  with_reducible repeat' first
    | assumption
    | exact Frame.refl _ _
    | intro _
    | (extract_lets +onlyGivenNames y; clear_value (e : y = _); revert y; apply Frame.cut)
    | extract_lets +onlyGivenNames y
    | apply Frame.ite
    | (apply Frame.seq ?_ (State.setNum_frame ..) ?_; on_goal 2 => with_unfolding_all exact rfl)
    | (apply Frame.seq ?_ (State.wr_frame ..) ?_; on_goal 2 => with_unfolding_all exact rfl)
    | (apply Frame.seq ?_ (State.fillTo_frame ..) ?_; on_goal 2 => with_unfolding_all exact rfl)
    | (fail_if_no_progress (apply Frame.set_ckpt ?_ ?_; (on_goal 2 => with_unfolding_all exact rfl)))

theorem State.journalRaw_frame (s : State) (a1) (a2) (a3) (a4) : Frame [.live, .ckpt, .out] s (State.journalRaw s a1 a2 a3 a4) := by
  unfold State.journalRaw
  with_reducible repeat' first
    | assumption
    | exact Frame.refl _ _
    | intro _
    | (extract_lets +onlyGivenNames y; clear_value (e : y = _); revert y; apply Frame.cut)
    | extract_lets +onlyGivenNames y
    | apply Frame.ite
    | (apply Frame.seq ?_ (State.journalAt_frame ..) ?_; on_goal 2 => with_unfolding_all exact rfl)
    | (apply Frame.seq ?_ (State.emit_frame ..) ?_; on_goal 2 => with_unfolding_all exact rfl)

theorem State.journal_frame (s : State) (a1) (a2) (a3) (a4) : Frame [.live, .ckpt, .out] s (State.journal s a1 a2 a3 a4) := by
  unfold State.journal
  with_reducible repeat' first
    | assumption
    | exact Frame.refl _ _
    | intro _
    | extract_lets +onlyGivenNames y
    | apply Frame.ite
    | (apply Frame.seq ?_ (State.journalRaw_frame ..) ?_; on_goal 2 => with_unfolding_all exact rfl)

theorem State.mergeBack_frame (s : State) : Frame [.shadow, .pend, .commit] s (State.mergeBack s) := by
  unfold State.mergeBack
  with_reducible repeat' first
    | assumption
    | exact Frame.refl _ _
    | intro _
    | extract_lets +onlyGivenNames y
    | apply Frame.ite
    | apply Frame.foldl
    | apply Frame.foldl1
    | apply Frame.foldl2
    | (fail_if_no_progress (apply Frame.set_shadow_pend_commit ?_ ?_ ?_ ?_; (on_goal 4 => with_unfolding_all exact rfl); (on_goal 3 => with_unfolding_all exact rfl); (on_goal 2 => with_unfolding_all exact rfl)))

theorem State.refuseCommit_frame (s : State) (a1) (a2) (a3) : Frame [.live, .shadow, .pend, .commit, .ckpt, .out] s (State.refuseCommit s a1 a2 a3) := by
  unfold State.refuseCommit
  with_reducible repeat' first
    | assumption
    | exact Frame.refl _ _
    | intro _
    | (extract_lets +onlyGivenNames y; clear_value (e : y = _); revert y; apply Frame.cut)
    | extract_lets +onlyGivenNames y
    | apply Frame.ite
    | (apply Frame.seq ?_ (State.refusal_frame ..) ?_; on_goal 2 => with_unfolding_all exact rfl)
    | (apply Frame.seq ?_ (State.wr_frame ..) ?_; on_goal 2 => with_unfolding_all exact rfl)
    | (apply Frame.seq ?_ (State.sqf_frame ..) ?_; on_goal 2 => with_unfolding_all exact rfl)
    | (apply Frame.seq ?_ (State.journal_frame ..) ?_; on_goal 2 => with_unfolding_all exact rfl)
    | (apply Frame.seq ?_ (State.mergeBack_frame ..) ?_; on_goal 2 => with_unfolding_all exact rfl)

theorem State.capture_frame (s : State) (a1) (a2) : Frame [.live, .shadow, .pend, .commit, .ckpt, .out] s (State.capture s a1 a2) := by
  unfold State.capture
  with_reducible repeat' first
    | assumption
    | exact Frame.refl _ _
    | intro _
    | (extract_lets +onlyGivenNames y; clear_value (e : y = _); revert y; apply Frame.cut)
    | extract_lets +onlyGivenNames y
    | apply Frame.ite
    | (apply Frame.seq ?_ (State.journalRaw_frame ..) ?_; on_goal 2 => with_unfolding_all exact rfl)
    | (apply Frame.seq ?_ (State.wr_frame ..) ?_; on_goal 2 => with_unfolding_all exact rfl)
    | (apply Frame.seq ?_ (State.refuseCommit_frame ..) ?_; on_goal 2 => with_unfolding_all exact rfl)
    | (fail_if_no_progress (apply Frame.set_shadow_pend_commit ?_ ?_ ?_ ?_; (on_goal 4 => with_unfolding_all exact rfl); (on_goal 3 => with_unfolding_all exact rfl); (on_goal 2 => with_unfolding_all exact rfl)))

theorem State.go_frame (s : State) (a1) : Frame [.live, .shadow, .pend, .commit, .ckpt, .evt, .out] s (State.go s a1) := by
  unfold State.go
  with_reducible repeat' first
    | assumption
    | exact Frame.refl _ _
    | intro _
    | extract_lets +onlyGivenNames y
    | apply Frame.ite
    | (apply Frame.seq ?_ (State.refuseGo_frame ..) ?_; on_goal 2 => with_unfolding_all exact rfl)
    | (apply Frame.seq ?_ (State.refuseFull_frame ..) ?_; on_goal 2 => with_unfolding_all exact rfl)
    | (apply Frame.seq ?_ (State.capture_frame ..) ?_; on_goal 2 => with_unfolding_all exact rfl)

theorem State.cancel_frame (s : State) : Frame [.live, .shadow, .pend, .commit, .ckpt, .out] s (State.cancel s) := by
  unfold State.cancel
  with_reducible repeat' first
    | assumption
    | exact Frame.refl _ _
    | intro _
    | (extract_lets +onlyGivenNames y; clear_value (e : y = _); revert y; apply Frame.cut)
    | extract_lets +onlyGivenNames y
    | apply Frame.ite
    | (apply Frame.seq ?_ (State.wr_frame ..) ?_; on_goal 2 => with_unfolding_all exact rfl)
    | (apply Frame.seq ?_ (State.journal_frame ..) ?_; on_goal 2 => with_unfolding_all exact rfl)
    | (apply Frame.seq ?_ (State.mergeBack_frame ..) ?_; on_goal 2 => with_unfolding_all exact rfl)

theorem State.commitWrite_frame (s : State) (a1) : Frame [.live, .shadow, .pend, .commit, .ckpt, .evt, .out] s (State.commitWrite s a1) := by
  unfold State.commitWrite
  with_reducible repeat' first
    | assumption
    | exact Frame.refl _ _
    | intro _
    | extract_lets +onlyGivenNames y
    | apply Frame.ite
    | (apply Frame.seq ?_ (State.go_frame ..) ?_; on_goal 2 => with_unfolding_all exact rfl)
    | (apply Frame.seq ?_ (State.cancel_frame ..) ?_; on_goal 2 => with_unfolding_all exact rfl)

theorem State.putShadow_frame (s : State) (a1) (a2) : Frame [.shadow] s (State.putShadow s a1 a2) := by
  unfold State.putShadow
  with_reducible repeat' first
    | assumption
    | exact Frame.refl _ _
    | intro _
    | extract_lets +onlyGivenNames y
    | apply Frame.ite
    | (fail_if_no_progress (apply Frame.set_shadow ?_ ?_; (on_goal 2 => with_unfolding_all exact rfl)))

theorem State.ckptForced_frame (s : State) : Frame [.ckpt] s (State.ckptForced s) := by
  unfold State.ckptForced
  with_reducible repeat' first
    | assumption
    | exact Frame.refl _ _
    | intro _
    | extract_lets +onlyGivenNames y
    | apply Frame.ite
    | (fail_if_no_progress (apply Frame.set_ckpt ?_ ?_; (on_goal 2 => with_unfolding_all exact rfl)))

theorem State.shadowWrite_frame (s : State) (a1) (a2) (a3) (a4) : Frame [.live, .shadow, .ckpt, .evt, .pair, .out] s (State.shadowWrite s a1 a2 a3 a4).1 := by
  unfold State.shadowWrite
  with_reducible repeat' first
    | assumption
    | exact Frame.refl _ _
    | intro _
    | (extract_lets +onlyGivenNames y; clear_value (e : y = _); revert y; apply Frame.cut)
    | extract_lets +onlyGivenNames y
    | apply Frame.ite
    | (apply Frame.seq ?_ (State.refuseFull_frame ..) ?_; on_goal 2 => with_unfolding_all exact rfl)
    | (apply Frame.seq ?_ (State.putShadow_frame ..) ?_; on_goal 2 => with_unfolding_all exact rfl)
    | (apply Frame.seq ?_ (State.accErr_frame ..) ?_; on_goal 2 => with_unfolding_all exact rfl)
    | (apply Frame.seq ?_ (State.emit_frame ..) ?_; on_goal 2 => with_unfolding_all exact rfl)
    | (apply Frame.seq ?_ (State.journal_frame ..) ?_; on_goal 2 => with_unfolding_all exact rfl)
    | (fail_if_no_progress (apply Frame.set_pair ?_ ?_; (on_goal 2 => with_unfolding_all exact rfl)))
    | (apply Frame.of_snd (by assumption))
    | (apply Frame.of_fst (by assumption))
    | (apply Frame.of_snd2 (by assumption))
    | apply Frame.ite1

end Sys2Proof.Machine
end

