-- ==== Sys2Proof/Laws/MuzzleFrame.lean ====
section
/-!
SUPPORT. What each operation of Machine/Muzzle.lean may change: the parts of the state listed, and never the queue.
-/

namespace Sys2Proof.Machine

theorem State.setHerd_frame (s : State) (a1) (a2) : Frame [.herd] s (State.setHerd s a1 a2) := by
  unfold State.setHerd
  with_reducible repeat' first
    | assumption
    | exact Frame.refl _ _
    | intro _
    | extract_lets +onlyGivenNames y
    | apply Frame.ite
    | (fail_if_no_progress (apply Frame.set_herd ?_ ?_; (on_goal 2 => with_unfolding_all exact rfl)))

theorem Frame.eachLane {ps : List Part} {s u : State} {f : State → Nat → State} (n : Nat)
    (hf : ∀ x a, Frame ps s x → Frame ps s (f x a)) (h : Frame ps s u) : Frame ps s (u.eachLane f n) := by
  induction n with
  | zero => exact h
  | succ n ih => exact hf _ _ ih

theorem State.freshLane_frame (s : State) (a1) (a2) : Frame [.muz] s (State.freshLane s a1 a2) := by
  unfold State.freshLane
  with_reducible repeat' first
    | assumption
    | exact Frame.refl _ _
    | intro _
    | extract_lets +onlyGivenNames y
    | apply Frame.ite
    | (apply Frame.seq ?_ (State.setLane_frame ..) ?_; on_goal 2 => with_unfolding_all exact rfl)

theorem State.freshBuffer_frame (s : State) (a1) : Frame [.muz] s (State.freshBuffer s a1) := by
  unfold State.freshBuffer
  with_reducible repeat' first
    | assumption
    | exact Frame.refl _ _
    | intro _
    | extract_lets +onlyGivenNames y
    | apply Frame.ite
    | (apply Frame.seq ?_ (State.freshLane_frame ..) ?_; on_goal 2 => with_unfolding_all exact rfl)
    | apply Frame.eachLane

theorem Frame.herdLanes {ps : List Part} {s u : State} {c : Cfg} {k : Nat} {g : State → Nat → Nat → State}
    (hf : ∀ x a b, Frame ps s x → Frame ps s (g x a b)) (h : Frame ps s u) : Frame ps s (u.herdLanes c k g) :=
  Frame.foldl _ (fun _ _ hx => Frame.eachLane _ (fun _ _ hy => hf _ _ _ hy) hx) h

theorem State.countRise_frame (s : State) (a1) (a2) : Frame [.live, .evt, .out] s (State.countRise s a1 a2) := by
  unfold State.countRise
  with_reducible repeat' first
    | assumption
    | exact Frame.refl _ _
    | intro _
    | (extract_lets +onlyGivenNames y; clear_value (e : y = _); revert y; apply Frame.cut)
    | extract_lets +onlyGivenNames y
    | apply Frame.ite
    | (apply Frame.seq ?_ (State.setNum_frame ..) ?_; on_goal 2 => with_unfolding_all exact rfl)
    | (apply Frame.seq ?_ (State.report_frame ..) ?_; on_goal 2 => with_unfolding_all exact rfl)
    | (apply Frame.seq ?_ (State.sqf_frame ..) ?_; on_goal 2 => with_unfolding_all exact rfl)

theorem State.beginRise_frame (s : State) (a1) (a2) (a3) : Frame [.live, .evt, .muz, .out] s (State.beginRise s a1 a2 a3) := by
  unfold State.beginRise
  with_reducible repeat' first
    | assumption
    | exact Frame.refl _ _
    | intro _
    | extract_lets +onlyGivenNames y
    | apply Frame.ite
    | (apply Frame.seq ?_ (State.countRise_frame ..) ?_; on_goal 2 => with_unfolding_all exact rfl)
    | (apply Frame.seq ?_ (State.setLane_frame ..) ?_; on_goal 2 => with_unfolding_all exact rfl)

theorem State.enterStart_frame (s : State) (a1) (a2) : Frame [.live, .evt, .muz, .out] s (State.enterStart s a1 a2) := by
  unfold State.enterStart
  with_reducible repeat' first
    | assumption
    | exact Frame.refl _ _
    | intro _
    | (extract_lets +onlyGivenNames y; clear_value (e : y = _); revert y; apply Frame.cut)
    | extract_lets +onlyGivenNames y
    | apply Frame.ite
    | (apply Frame.seq ?_ (State.setLane_frame ..) ?_; on_goal 2 => with_unfolding_all exact rfl)
    | (apply Frame.seq ?_ (State.beginRise_frame ..) ?_; on_goal 2 => with_unfolding_all exact rfl)

theorem State.fallDone_frame (s : State) (a1) (a2) : Frame [.live, .evt, .muz, .out] s (State.fallDone s a1 a2) := by
  unfold State.fallDone
  with_reducible repeat' first
    | assumption
    | exact Frame.refl _ _
    | intro _
    | extract_lets +onlyGivenNames y
    | apply Frame.ite
    | (apply Frame.seq ?_ (State.setLane_frame ..) ?_; on_goal 2 => with_unfolding_all exact rfl)
    | (apply Frame.seq ?_ (State.enterStart_frame ..) ?_; on_goal 2 => with_unfolding_all exact rfl)
    | (apply Frame.of_snd (by assumption))
    | (apply Frame.of_fst (by assumption))
    | (apply Frame.of_snd2 (by assumption))
    | apply Frame.ite1
    | apply Frame.ite2
    | split

theorem State.countTimeout_frame (s : State) (a1) (a2) : Frame [.live, .evt, .out] s (State.countTimeout s a1 a2) := by
  unfold State.countTimeout
  with_reducible repeat' first
    | assumption
    | exact Frame.refl _ _
    | intro _
    | (extract_lets +onlyGivenNames y; clear_value (e : y = _); revert y; apply Frame.cut)
    | extract_lets +onlyGivenNames y
    | apply Frame.ite
    | (apply Frame.seq ?_ (State.setNum_frame ..) ?_; on_goal 2 => with_unfolding_all exact rfl)
    | (apply Frame.seq ?_ (State.report_frame ..) ?_; on_goal 2 => with_unfolding_all exact rfl)
    | (apply Frame.seq ?_ (State.sqf_frame ..) ?_; on_goal 2 => with_unfolding_all exact rfl)

theorem State.countFall_frame (s : State) (a1) (a2) : Frame [.live, .evt, .out] s (State.countFall s a1 a2) := by
  unfold State.countFall
  with_reducible repeat' first
    | assumption
    | exact Frame.refl _ _
    | intro _
    | (extract_lets +onlyGivenNames y; clear_value (e : y = _); revert y; apply Frame.cut)
    | extract_lets +onlyGivenNames y
    | apply Frame.ite
    | (apply Frame.seq ?_ (State.setNum_frame ..) ?_; on_goal 2 => with_unfolding_all exact rfl)
    | (apply Frame.seq ?_ (State.report_frame ..) ?_; on_goal 2 => with_unfolding_all exact rfl)
    | (apply Frame.seq ?_ (State.sqf_frame ..) ?_; on_goal 2 => with_unfolding_all exact rfl)

theorem State.beginFall_frame (s : State) (a1) (a2) (a3) (a4) : Frame [.live, .evt, .muz, .out] s (State.beginFall s a1 a2 a3 a4) := by
  unfold State.beginFall
  with_reducible repeat' first
    | assumption
    | exact Frame.refl _ _
    | intro _
    | extract_lets +onlyGivenNames y
    | apply Frame.ite
    | (apply Frame.seq ?_ (State.countFall_frame ..) ?_; on_goal 2 => with_unfolding_all exact rfl)
    | (apply Frame.seq ?_ (State.setLane_frame ..) ?_; on_goal 2 => with_unfolding_all exact rfl)

theorem State.waitTimeout_frame (s : State) (a1) (a2) : Frame [.live, .evt, .muz, .out] s (State.waitTimeout s a1 a2) := by
  unfold State.waitTimeout
  with_reducible repeat' first
    | assumption
    | exact Frame.refl _ _
    | intro _
    | (extract_lets +onlyGivenNames y; clear_value (e : y = _); revert y; apply Frame.cut)
    | extract_lets +onlyGivenNames y
    | apply Frame.ite
    | (apply Frame.seq ?_ (State.countTimeout_frame ..) ?_; on_goal 2 => with_unfolding_all exact rfl)
    | (apply Frame.seq ?_ (State.beginRise_frame ..) ?_; on_goal 2 => with_unfolding_all exact rfl)
    | (apply Frame.seq ?_ (State.beginFall_frame ..) ?_; on_goal 2 => with_unfolding_all exact rfl)

theorem State.settle_frame (s : State) (a1) (a2) : Frame [.live, .evt, .muz, .out] s (State.settle s a1 a2) := by
  unfold State.settle
  with_reducible repeat' first
    | assumption
    | exact Frame.refl _ _
    | intro _
    | extract_lets +onlyGivenNames y
    | apply Frame.ite
    | (apply Frame.seq ?_ (State.fallDone_frame ..) ?_; on_goal 2 => with_unfolding_all exact rfl)
    | (apply Frame.seq ?_ (State.setLane_frame ..) ?_; on_goal 2 => with_unfolding_all exact rfl)
    | (apply Frame.seq ?_ (State.waitTimeout_frame ..) ?_; on_goal 2 => with_unfolding_all exact rfl)

theorem State.herdStartLane_frame (s : State) (a1) (a2) : Frame [.live, .evt, .muz, .out] s (State.herdStartLane s a1 a2) := by
  unfold State.herdStartLane
  with_reducible repeat' first
    | assumption
    | exact Frame.refl _ _
    | intro _
    | (extract_lets +onlyGivenNames y; clear_value (e : y = _); revert y; apply Frame.cut)
    | extract_lets +onlyGivenNames y
    | apply Frame.ite
    | (apply Frame.seq ?_ (State.settle_frame ..) ?_; on_goal 2 => with_unfolding_all exact rfl)
    | (apply Frame.seq ?_ (State.enterStart_frame ..) ?_; on_goal 2 => with_unfolding_all exact rfl)

theorem State.endWait_frame (s : State) (a1) (a2) : Frame [.live, .evt, .muz, .out] s (State.endWait s a1 a2) := by
  unfold State.endWait
  with_reducible repeat' first
    | assumption
    | exact Frame.refl _ _
    | intro _
    | extract_lets +onlyGivenNames y
    | apply Frame.ite
    | (apply Frame.seq ?_ (State.waitTimeout_frame ..) ?_; on_goal 2 => with_unfolding_all exact rfl)
    | (apply Frame.of_snd (by assumption))
    | (apply Frame.of_fst (by assumption))
    | (apply Frame.of_snd2 (by assumption))
    | apply Frame.ite1
    | apply Frame.ite2
    | split

theorem State.enterStop_frame (s : State) (a1) (a2) (a3) (a4) : Frame [.live, .evt, .muz, .out] s (State.enterStop s a1 a2 a3 a4) := by
  unfold State.enterStop
  with_reducible repeat' first
    | assumption
    | exact Frame.refl _ _
    | intro _
    | (extract_lets +onlyGivenNames y; clear_value (e : y = _); revert y; apply Frame.cut)
    | extract_lets +onlyGivenNames y
    | apply Frame.ite
    | (apply Frame.seq ?_ (State.setLane_frame ..) ?_; on_goal 2 => with_unfolding_all exact rfl)
    | (apply Frame.seq ?_ (State.beginFall_frame ..) ?_; on_goal 2 => with_unfolding_all exact rfl)

theorem State.routeAct_frame (s : State) (a1) (a2) (a3) (a4) : Frame [.live, .evt, .muz, .out] s (State.routeAct s a1 a2 a3 a4) := by
  unfold State.routeAct
  with_reducible repeat' first
    | assumption
    | exact Frame.refl _ _
    | intro _
    | (extract_lets +onlyGivenNames y; clear_value (e : y = _); revert y; apply Frame.cut)
    | extract_lets +onlyGivenNames y
    | apply Frame.ite
    | (apply Frame.seq ?_ (State.endWait_frame ..) ?_; on_goal 2 => with_unfolding_all exact rfl)
    | (apply Frame.seq ?_ (State.settle_frame ..) ?_; on_goal 2 => with_unfolding_all exact rfl)
    | (apply Frame.seq ?_ (State.enterStart_frame ..) ?_; on_goal 2 => with_unfolding_all exact rfl)
    | (apply Frame.seq ?_ (State.setLane_frame ..) ?_; on_goal 2 => with_unfolding_all exact rfl)
    | (apply Frame.seq ?_ (State.enterStop_frame ..) ?_; on_goal 2 => with_unfolding_all exact rfl)
    | (apply Frame.seq ?_ (State.beginFall_frame ..) ?_; on_goal 2 => with_unfolding_all exact rfl)
    | (apply Frame.of_snd (by assumption))
    | (apply Frame.of_fst (by assumption))
    | (apply Frame.of_snd2 (by assumption))
    | apply Frame.ite1
    | apply Frame.ite2
    | split

theorem State.clearShut_frame (s : State) (a1) (a2) : Frame [.shut] s (State.clearShut s a1 a2) := by
  unfold State.clearShut
  with_reducible repeat' first
    | assumption
    | exact Frame.refl _ _
    | intro _
    | extract_lets +onlyGivenNames y
    | apply Frame.ite
    | (fail_if_no_progress (apply Frame.set_shut ?_ ?_; (on_goal 2 => with_unfolding_all exact rfl)))

theorem State.countCut_frame (s : State) (a1) : Frame [.live] s (State.countCut s a1) := by
  unfold State.countCut
  with_reducible repeat' first
    | assumption
    | exact Frame.refl _ _
    | intro _
    | extract_lets +onlyGivenNames y
    | apply Frame.ite
    | (apply Frame.seq ?_ (State.setNum_frame ..) ?_; on_goal 2 => with_unfolding_all exact rfl)

theorem State.riseIfDue_frame (s : State) (a1) (a2) : Frame [.live, .evt, .muz, .out] s (State.riseIfDue s a1 a2) := by
  unfold State.riseIfDue
  with_reducible repeat' first
    | assumption
    | exact Frame.refl _ _
    | intro _
    | extract_lets +onlyGivenNames y
    | apply Frame.ite
    | (apply Frame.seq ?_ (State.beginRise_frame ..) ?_; on_goal 2 => with_unfolding_all exact rfl)

theorem State.laneOut_frame (s : State) (a1) (a2) (a3) : Frame [.muz] s (State.laneOut s a1 a2 a3).2 := by
  unfold State.laneOut
  with_reducible repeat' first
    | assumption
    | exact Frame.refl _ _
    | intro _
    | extract_lets +onlyGivenNames y
    | apply Frame.ite
    | (apply Frame.seq ?_ (State.setLane_frame ..) ?_; on_goal 2 => with_unfolding_all exact rfl)

theorem State.laneFall_frame (s : State) (a1) (a2) : Frame [.muz] s (State.laneFall s a1 a2).2 := by
  unfold State.laneFall
  with_reducible repeat' first
    | assumption
    | exact Frame.refl _ _
    | intro _
    | extract_lets +onlyGivenNames y
    | apply Frame.ite
    | (apply Frame.seq ?_ (State.laneOut_frame ..) ?_; on_goal 2 => with_unfolding_all exact rfl)
    | (apply Frame.seq ?_ (State.setLane_frame ..) ?_; on_goal 2 => with_unfolding_all exact rfl)
    | (apply Frame.of_snd (by assumption))
    | (apply Frame.of_fst (by assumption))
    | (apply Frame.of_snd2 (by assumption))
    | apply Frame.ite1
    | apply Frame.ite2

theorem State.laneSample_frame (s : State) (a1) (a2) (a3) : Frame [.live, .evt, .muz, .out] s (State.laneSample s a1 a2 a3).2 := by
  unfold State.laneSample
  with_reducible repeat' first
    | assumption
    | exact Frame.refl _ _
    | intro _
    | (extract_lets +onlyGivenNames y; clear_value (e : y = _); revert y; apply Frame.cut)
    | extract_lets +onlyGivenNames y
    | apply Frame.ite
    | (apply Frame.seq ?_ (State.laneFall_frame ..) ?_; on_goal 2 => with_unfolding_all exact rfl)
    | (apply Frame.seq ?_ (State.beginFall_frame ..) ?_; on_goal 2 => with_unfolding_all exact rfl)
    | (apply Frame.seq ?_ (State.laneOut_frame ..) ?_; on_goal 2 => with_unfolding_all exact rfl)
    | (apply Frame.seq ?_ (State.setLane_frame ..) ?_; on_goal 2 => with_unfolding_all exact rfl)
    | (apply Frame.seq ?_ (State.countCut_frame ..) ?_; on_goal 2 => with_unfolding_all exact rfl)
    | (apply Frame.seq ?_ (State.enterStart_frame ..) ?_; on_goal 2 => with_unfolding_all exact rfl)
    | (apply Frame.of_snd (by assumption))
    | (apply Frame.of_fst (by assumption))
    | (apply Frame.of_snd2 (by assumption))
    | apply Frame.ite1
    | apply Frame.ite2
    | split

theorem State.noteShut_frame (s : State) (a1) (a2) (a3) (a4) : Frame [.shut] s (State.noteShut s a1 a2 a3 a4) := by
  unfold State.noteShut
  with_reducible repeat' first
    | assumption
    | exact Frame.refl _ _
    | intro _
    | extract_lets +onlyGivenNames y
    | apply Frame.ite
    | (fail_if_no_progress (apply Frame.set_shut ?_ ?_; (on_goal 2 => with_unfolding_all exact rfl)))

theorem State.recordPrev_frame (s : State) (a1) (a2) (a3) (a4) (a5) : Frame [.muz] s (State.recordPrev s a1 a2 a3 a4 a5) := by
  unfold State.recordPrev
  with_reducible repeat' first
    | assumption
    | exact Frame.refl _ _
    | intro _
    | extract_lets +onlyGivenNames y
    | apply Frame.ite
    | (apply Frame.seq ?_ (State.setLane_frame ..) ?_; on_goal 2 => with_unfolding_all exact rfl)

theorem State.laneSamples_frame (s : State) (a1) (a2) (a3) (a4) (a5) (a6) : Frame [.live, .evt, .sxm, .sxmPast, .shut, .muz, .out] s (State.laneSamples s a1 a2 a3 a4 a5 a6).1 := by
  fun_induction State.laneSamples s a1 a2 a3 a4 a5 a6
  all_goals
    with_reducible repeat' first
      | assumption
      | exact Frame.refl _ _
      | intro _
      | extract_lets +onlyGivenNames y
      | apply Frame.ite
      | (apply Frame.seq ?_ (State.settle_frame ..) ?_; on_goal 2 => with_unfolding_all exact rfl)
      | (apply Frame.seq ?_ (State.laneSample_frame ..) ?_; on_goal 2 => with_unfolding_all exact rfl)
      | (apply Frame.seq ?_ (State.noteShut_frame ..) ?_; on_goal 2 => with_unfolding_all exact rfl)
      | (apply Frame.seq ?_ (State.setSxm_frame ..) ?_; on_goal 2 => with_unfolding_all exact rfl)
      | (apply Frame.seq ?_ (State.recordPrev_frame ..) ?_; on_goal 2 => with_unfolding_all exact rfl)
      | (apply Frame.trans ?_ (by assumption))
      | (apply Frame.of_snd (by assumption))
      | (apply Frame.of_fst (by assumption))

theorem State.evaluated_frame (s : State) (a1) (a2) : Frame [.muz] s (State.evaluated s a1 a2) := by
  unfold State.evaluated
  with_reducible repeat' first
    | assumption
    | exact Frame.refl _ _
    | intro _
    | extract_lets +onlyGivenNames y
    | apply Frame.ite
    | (apply Frame.seq ?_ (State.setLane_frame ..) ?_; on_goal 2 => with_unfolding_all exact rfl)

theorem State.holdFrame_frame (s : State) (a1) (a2) (a3) : Frame [.muz] s (State.holdFrame s a1 a2 a3) := by
  unfold State.holdFrame
  with_reducible repeat' first
    | assumption
    | exact Frame.refl _ _
    | intro _
    | extract_lets +onlyGivenNames y
    | apply Frame.ite
    | (apply Frame.seq ?_ (State.setLane_frame ..) ?_; on_goal 2 => with_unfolding_all exact rfl)

theorem State.evalLane_frame (s : State) (a1) (a2) (a3) (a4) (a5) : Frame [.live, .evt, .sxm, .sxmPast, .shut, .ge, .muz, .out] s (State.evalLane s a1 a2 a3 a4 a5) := by
  unfold State.evalLane
  with_reducible repeat' first
    | assumption
    | exact Frame.refl _ _
    | intro _
    | (extract_lets +onlyGivenNames y; clear_value (e : y = _); revert y; apply Frame.cut)
    | extract_lets +onlyGivenNames y
    | apply Frame.ite
    | (apply Frame.seq ?_ (State.riseIfDue_frame ..) ?_; on_goal 2 => with_unfolding_all exact rfl)
    | (apply Frame.seq ?_ (State.settle_frame ..) ?_; on_goal 2 => with_unfolding_all exact rfl)
    | (apply Frame.seq ?_ (State.laneSamples_frame ..) ?_; on_goal 2 => with_unfolding_all exact rfl)
    | (apply Frame.seq ?_ (State.evaluated_frame ..) ?_; on_goal 2 => with_unfolding_all exact rfl)
    | (apply Frame.seq ?_ (State.holdFrame_frame ..) ?_; on_goal 2 => with_unfolding_all exact rfl)
    | (apply Frame.seq ?_ (State.squashMuzzle_frame ..) ?_; on_goal 2 => with_unfolding_all exact rfl)

theorem State.herdStopLane_frame (s : State) (a1) (a2) : Frame [.live, .evt, .muz, .out] s (State.herdStopLane s a1 a2) := by
  unfold State.herdStopLane
  with_reducible repeat' first
    | assumption
    | exact Frame.refl _ _
    | intro _
    | (extract_lets +onlyGivenNames y; clear_value (e : y = _); revert y; apply Frame.cut)
    | extract_lets +onlyGivenNames y
    | apply Frame.ite
    | (apply Frame.seq ?_ (State.settle_frame ..) ?_; on_goal 2 => with_unfolding_all exact rfl)
    | (apply Frame.seq ?_ (State.enterStop_frame ..) ?_; on_goal 2 => with_unfolding_all exact rfl)
    | (apply Frame.seq ?_ (State.setLane_frame ..) ?_; on_goal 2 => with_unfolding_all exact rfl)

theorem State.herdFrame_frame (s : State) (a1) : Frame [.live, .evt, .muz, .herd, .out] s (State.herdFrame s a1) := by
  unfold State.herdFrame
  with_reducible repeat' first
    | assumption
    | exact Frame.refl _ _
    | intro _
    | (extract_lets +onlyGivenNames y; clear_value (e : y = _); revert y; apply Frame.cut)
    | extract_lets +onlyGivenNames y
    | apply Frame.ite
    | (apply Frame.seq ?_ (State.herdStartLane_frame ..) ?_; on_goal 2 => with_unfolding_all exact rfl)
    | (apply Frame.seq ?_ (State.setHerd_frame ..) ?_; on_goal 2 => with_unfolding_all exact rfl)
    | (apply Frame.seq ?_ (State.herdStopLane_frame ..) ?_; on_goal 2 => with_unfolding_all exact rfl)
    | apply Frame.eachBelow
    | apply Frame.herdLanes

theorem State.evaluate_frame (s : State) (a1) (a2) : Frame [.live, .evt, .sxm, .sxmPast, .shut, .ge, .muz, .marks, .herd, .out] s (State.evaluate s a1 a2) := by
  unfold State.evaluate
  with_reducible repeat' first
    | assumption
    | exact Frame.refl _ _
    | intro _
    | (extract_lets +onlyGivenNames y; clear_value (e : y = _); revert y; apply Frame.cut)
    | extract_lets +onlyGivenNames y
    | apply Frame.ite
    | (apply Frame.seq ?_ (State.herdFrame_frame ..) ?_; on_goal 2 => with_unfolding_all exact rfl)
    | (apply Frame.seq ?_ (State.clearShut_frame ..) ?_; on_goal 2 => with_unfolding_all exact rfl)
    | (apply Frame.seq ?_ (State.evalLane_frame ..) ?_; on_goal 2 => with_unfolding_all exact rfl)
    | apply Frame.eachLane
    | apply Frame.foldl
    | apply Frame.foldl1
    | apply Frame.foldl2
    | (fail_if_no_progress (apply Frame.set_marks ?_ ?_; (on_goal 2 => with_unfolding_all exact rfl)))

theorem State.observeSamples_frame (s : State) (a1) (a2) (a3) (a4) : Frame [.live, .evt, .shut, .muz, .out] s (State.observeSamples s a1 a2 a3 a4).1 := by
  fun_induction State.observeSamples s a1 a2 a3 a4
  all_goals
    with_reducible repeat' first
      | assumption
      | exact Frame.refl _ _
      | intro _
      | extract_lets +onlyGivenNames y
      | apply Frame.ite
      | (apply Frame.seq ?_ (State.settle_frame ..) ?_; on_goal 2 => with_unfolding_all exact rfl)
      | (apply Frame.seq ?_ (State.laneSample_frame ..) ?_; on_goal 2 => with_unfolding_all exact rfl)
      | (apply Frame.seq ?_ (State.noteShut_frame ..) ?_; on_goal 2 => with_unfolding_all exact rfl)
      | (apply Frame.trans ?_ (by assumption))
      | (apply Frame.of_snd (by assumption))
      | (apply Frame.of_fst (by assumption))

theorem State.observeLane_frame (s : State) (a1) (a2) (a3) : Frame [.live, .evt, .shut, .muz, .out] s (State.observeLane s a1 a2 a3) := by
  unfold State.observeLane
  with_reducible repeat' first
    | assumption
    | exact Frame.refl _ _
    | intro _
    | (extract_lets +onlyGivenNames y; clear_value (e : y = _); revert y; apply Frame.cut)
    | extract_lets +onlyGivenNames y
    | apply Frame.ite
    | (apply Frame.seq ?_ (State.riseIfDue_frame ..) ?_; on_goal 2 => with_unfolding_all exact rfl)
    | (apply Frame.seq ?_ (State.settle_frame ..) ?_; on_goal 2 => with_unfolding_all exact rfl)
    | (apply Frame.seq ?_ (State.observeSamples_frame ..) ?_; on_goal 2 => with_unfolding_all exact rfl)
    | (apply Frame.seq ?_ (State.evaluated_frame ..) ?_; on_goal 2 => with_unfolding_all exact rfl)
    | (apply Frame.seq ?_ (State.holdFrame_frame ..) ?_; on_goal 2 => with_unfolding_all exact rfl)

theorem State.observe_frame (s : State) (a1) : Frame [.live, .evt, .shut, .muz, .out] s (State.observe s a1) := by
  unfold State.observe
  with_reducible repeat' first
    | assumption
    | exact Frame.refl _ _
    | intro _
    | extract_lets +onlyGivenNames y
    | apply Frame.ite
    | (apply Frame.seq ?_ (State.clearShut_frame ..) ?_; on_goal 2 => with_unfolding_all exact rfl)
    | (apply Frame.seq ?_ (State.observeLane_frame ..) ?_; on_goal 2 => with_unfolding_all exact rfl)
    | apply Frame.eachLane
    | apply Frame.foldl

theorem State.takeoverLane_frame (s : State) (a1) (a2) : Frame [.live, .evt, .muz, .out] s (State.takeoverLane s a1 a2) := by
  unfold State.takeoverLane
  with_reducible repeat' first
    | assumption
    | exact Frame.refl _ _
    | intro _
    | (extract_lets +onlyGivenNames y; clear_value (e : y = _); revert y; apply Frame.cut)
    | extract_lets +onlyGivenNames y
    | apply Frame.ite
    | (apply Frame.seq ?_ (State.settle_frame ..) ?_; on_goal 2 => with_unfolding_all exact rfl)
    | (apply Frame.seq ?_ (State.setLane_frame ..) ?_; on_goal 2 => with_unfolding_all exact rfl)
    | (apply Frame.seq ?_ (State.beginRise_frame ..) ?_; on_goal 2 => with_unfolding_all exact rfl)
    | (apply Frame.of_snd (by assumption))
    | (apply Frame.of_fst (by assumption))
    | (apply Frame.of_snd2 (by assumption))
    | apply Frame.ite1
    | apply Frame.ite2
    | split

theorem execFallComplete_frame (a0) (a1) (s : State) : Framed [.live, .evt, .muz, .out] s (execFallComplete a0 a1 s) := by
  unfold execFallComplete
  with_reducible repeat' first
    | assumption
    | exact Frame.refl _ _
    | intro _
    | apply Framed.next
    | apply Framed.ite
    | exact Framed.fault
    | exact Framed.refused
    | extract_lets +onlyGivenNames y
    | apply Frame.ite
    | (apply Frame.seq ?_ (State.fallDone_frame ..) ?_; on_goal 2 => with_unfolding_all exact rfl)

theorem execMuzRise_frame (a0) (a1) (s : State) : Framed [.live, .evt, .muz, .out] s (execMuzRise a0 a1 s) := by
  unfold execMuzRise
  with_reducible repeat' first
    | assumption
    | exact Frame.refl _ _
    | intro _
    | apply Framed.next
    | apply Framed.ite
    | exact Framed.fault
    | exact Framed.refused
    | extract_lets +onlyGivenNames y
    | apply Frame.ite
    | (apply Frame.seq ?_ (State.countRise_frame ..) ?_; on_goal 2 => with_unfolding_all exact rfl)
    | (apply Frame.seq ?_ (State.setLane_frame ..) ?_; on_goal 2 => with_unfolding_all exact rfl)

theorem execRiseComplete_frame (a0) (a1) (s : State) : Framed [.muz] s (execRiseComplete a0 a1 s) := by
  unfold execRiseComplete
  with_reducible repeat' first
    | assumption
    | exact Frame.refl _ _
    | intro _
    | apply Framed.next
    | apply Framed.ite
    | exact Framed.fault
    | exact Framed.refused
    | extract_lets +onlyGivenNames y
    | apply Frame.ite
    | (apply Frame.seq ?_ (State.setLane_frame ..) ?_; on_goal 2 => with_unfolding_all exact rfl)

theorem execZcTimeout_frame (a0) (a1) (s : State) : Framed [.live, .evt, .muz, .out] s (execZcTimeout a0 a1 s) := by
  unfold execZcTimeout
  with_reducible repeat' first
    | assumption
    | exact Frame.refl _ _
    | intro _
    | apply Framed.next
    | apply Framed.ite
    | exact Framed.fault
    | exact Framed.refused
    | extract_lets +onlyGivenNames y
    | apply Frame.ite
    | (apply Frame.seq ?_ (State.waitTimeout_frame ..) ?_; on_goal 2 => with_unfolding_all exact rfl)

end Sys2Proof.Machine
end

