-- ==== Sys2Proof/Laws/HerdsFrame.lean ====
section
/-!
SUPPORT. What each operation of Machine/Herds.lean may change: the parts of the state listed, and never the queue.
-/

namespace Sys2Proof.Machine

theorem State.fixStart_frame (s : State) (a1) (a2) : Frame [.herd] s (State.fixStart s a1 a2) := by
  unfold State.fixStart
  with_reducible repeat' first
    | assumption
    | exact Frame.refl _ _
    | intro _
    | extract_lets +onlyGivenNames y
    | apply Frame.ite
    | (apply Frame.seq ?_ (State.setHerd_frame ..) ?_; on_goal 2 => with_unfolding_all exact rfl)

theorem State.herdLate_frame (s : State) (a1) (a2) : Frame [.live, .evt, .herd, .out] s (State.herdLate s a1 a2) := by
  unfold State.herdLate
  with_reducible repeat' first
    | assumption
    | exact Frame.refl _ _
    | intro _
    | (extract_lets +onlyGivenNames y; clear_value (e : y = _); revert y; apply Frame.cut)
    | extract_lets +onlyGivenNames y
    | apply Frame.ite
    | (apply Frame.seq ?_ (State.report_frame ..) ?_; on_goal 2 => with_unfolding_all exact rfl)
    | (apply Frame.seq ?_ (State.sqf_frame ..) ?_; on_goal 2 => with_unfolding_all exact rfl)
    | (apply Frame.seq ?_ (State.fixStart_frame ..) ?_; on_goal 2 => with_unfolding_all exact rfl)
    | (apply Frame.seq ?_ (State.wr_frame ..) ?_; on_goal 2 => with_unfolding_all exact rfl)

theorem State.herdArm_frame (s : State) (a1) : Frame [.live, .evt, .herd, .out] s (State.herdArm s a1) := by
  unfold State.herdArm
  with_reducible repeat' first
    | assumption
    | exact Frame.refl _ _
    | intro _
    | (extract_lets +onlyGivenNames y; clear_value (e : y = _); revert y; apply Frame.cut)
    | extract_lets +onlyGivenNames y
    | apply Frame.ite
    | (apply Frame.seq ?_ (State.setHerd_frame ..) ?_; on_goal 2 => with_unfolding_all exact rfl)
    | (apply Frame.seq ?_ (State.fixStart_frame ..) ?_; on_goal 2 => with_unfolding_all exact rfl)
    | (apply Frame.seq ?_ (State.wr_frame ..) ?_; on_goal 2 => with_unfolding_all exact rfl)
    | (apply Frame.seq ?_ (State.herdLate_frame ..) ?_; on_goal 2 => with_unfolding_all exact rfl)
    | (apply Frame.of_snd (by assumption))
    | (apply Frame.of_fst (by assumption))
    | (apply Frame.of_snd2 (by assumption))
    | apply Frame.ite1
    | apply Frame.ite2
    | split

theorem State.herdStop_frame (s : State) (a1) : Frame [.live, .evt, .herd, .out] s (State.herdStop s a1) := by
  unfold State.herdStop
  with_reducible repeat' first
    | assumption
    | exact Frame.refl _ _
    | intro _
    | (extract_lets +onlyGivenNames y; clear_value (e : y = _); revert y; apply Frame.cut)
    | extract_lets +onlyGivenNames y
    | apply Frame.ite
    | (apply Frame.seq ?_ (State.wr_frame ..) ?_; on_goal 2 => with_unfolding_all exact rfl)
    | (apply Frame.seq ?_ (State.setHerd_frame ..) ?_; on_goal 2 => with_unfolding_all exact rfl)
    | (apply Frame.seq ?_ (State.report_frame ..) ?_; on_goal 2 => with_unfolding_all exact rfl)

theorem State.herdCmd_frame (s : State) (a1) (a2) : Frame [.live, .evt, .herd, .out] s (State.herdCmd s a1 a2) := by
  unfold State.herdCmd
  with_reducible repeat' first
    | assumption
    | exact Frame.refl _ _
    | intro _
    | (extract_lets +onlyGivenNames y; clear_value (e : y = _); revert y; apply Frame.cut)
    | extract_lets +onlyGivenNames y
    | apply Frame.ite
    | (apply Frame.seq ?_ (State.herdArm_frame ..) ?_; on_goal 2 => with_unfolding_all exact rfl)
    | (apply Frame.seq ?_ (State.fixStart_frame ..) ?_; on_goal 2 => with_unfolding_all exact rfl)
    | (apply Frame.seq ?_ (State.herdStop_frame ..) ?_; on_goal 2 => with_unfolding_all exact rfl)

theorem State.ageHerd_frame (s : State) (a1) (a2) : Frame [.herd] s (State.ageHerd s a1 a2) := by
  unfold State.ageHerd
  with_reducible repeat' first
    | assumption
    | exact Frame.refl _ _
    | intro _
    | extract_lets +onlyGivenNames y
    | apply Frame.ite
    | (apply Frame.seq ?_ (State.setHerd_frame ..) ?_; on_goal 2 => with_unfolding_all exact rfl)
    | (apply Frame.of_snd (by assumption))
    | (apply Frame.of_fst (by assumption))
    | (apply Frame.of_snd2 (by assumption))
    | apply Frame.ite1
    | apply Frame.ite2
    | split

theorem State.herdEpoch_frame (s : State) (a1) (a2) (a3) : Frame [.live, .muz, .herd] s (State.herdEpoch s a1 a2 a3) := by
  unfold State.herdEpoch
  with_reducible repeat' first
    | assumption
    | exact Frame.refl _ _
    | intro _
    | (extract_lets +onlyGivenNames y; clear_value (e : y = _); revert y; apply Frame.cut)
    | extract_lets +onlyGivenNames y
    | apply Frame.ite
    | (apply Frame.seq ?_ (State.wr_frame ..) ?_; on_goal 2 => with_unfolding_all exact rfl)
    | (apply Frame.seq ?_ (State.setHerd_frame ..) ?_; on_goal 2 => with_unfolding_all exact rfl)
    | (apply Frame.seq ?_ (State.setLane_frame ..) ?_; on_goal 2 => with_unfolding_all exact rfl)
    | apply Frame.herdLanes

theorem State.herdAdds_frame (s : State) (a1) (a2) (a3) (a4) : Frame [.live, .evt, .muz, .out] s (State.herdAdds s a1 a2 a3 a4) := by
  unfold State.herdAdds
  with_reducible repeat' first
    | assumption
    | exact Frame.refl _ _
    | intro _
    | (extract_lets +onlyGivenNames y; clear_value (e : y = _); revert y; apply Frame.cut)
    | extract_lets +onlyGivenNames y
    | apply Frame.ite
    | (apply Frame.seq ?_ (State.setLane_frame ..) ?_; on_goal 2 => with_unfolding_all exact rfl)
    | (apply Frame.seq ?_ (State.herdStartLane_frame ..) ?_; on_goal 2 => with_unfolding_all exact rfl)
    | apply Frame.eachLane
    | apply Frame.foldl

theorem State.herdDrops_frame (s : State) (a1) (a2) (a3) : Frame [.live, .evt, .muz, .out] s (State.herdDrops s a1 a2 a3) := by
  unfold State.herdDrops
  with_reducible repeat' first
    | assumption
    | exact Frame.refl _ _
    | intro _
    | extract_lets +onlyGivenNames y
    | apply Frame.ite
    | (apply Frame.seq ?_ (State.herdStartLane_frame ..) ?_; on_goal 2 => with_unfolding_all exact rfl)
    | apply Frame.eachLane
    | apply Frame.foldl

theorem State.herdPin_frame (s : State) (a1) : Frame [.herd] s (State.herdPin s a1) := by
  unfold State.herdPin
  with_reducible repeat' first
    | assumption
    | exact Frame.refl _ _
    | intro _
    | extract_lets +onlyGivenNames y
    | apply Frame.ite
    | (apply Frame.seq ?_ (State.fixStart_frame ..) ?_; on_goal 2 => with_unfolding_all exact rfl)
    | apply Frame.eachBelow

theorem State.timeTrigger_frame (s : State) (a1) : Frame [.herd] s (State.timeTrigger s a1) := by
  unfold State.timeTrigger
  with_reducible repeat' first
    | assumption
    | exact Frame.refl _ _
    | intro _
    | extract_lets +onlyGivenNames y
    | apply Frame.ite
    | (apply Frame.seq ?_ (State.fixStart_frame ..) ?_; on_goal 2 => with_unfolding_all exact rfl)

theorem execHerdPinTrigger_frame (a0) (s : State) : Framed [.herd] s (execHerdPinTrigger a0 s) := by
  unfold execHerdPinTrigger
  with_reducible repeat' first
    | assumption
    | exact Frame.refl _ _
    | intro _
    | apply Framed.next
    | apply Framed.ite
    | exact Framed.fault
    | exact Framed.refused
    | extract_lets +onlyGivenNames y
    | apply Frame.ite
    | (apply Frame.seq ?_ (State.herdPin_frame ..) ?_; on_goal 2 => with_unfolding_all exact rfl)

theorem execHerdTimeTrigger_frame (a0) (s : State) : Framed [.herd] s (execHerdTimeTrigger a0 s) := by
  unfold execHerdTimeTrigger
  with_reducible repeat' first
    | assumption
    | exact Frame.refl _ _
    | intro _
    | apply Framed.next
    | apply Framed.ite
    | exact Framed.fault
    | exact Framed.refused
    | extract_lets +onlyGivenNames y
    | apply Frame.ite
    | (apply Frame.seq ?_ (State.timeTrigger_frame ..) ?_; on_goal 2 => with_unfolding_all exact rfl)

theorem execHerdStarted_frame (a0) (s : State) : Framed [.live, .evt, .muz, .herd, .out] s (execHerdStarted a0 s) := by
  unfold execHerdStarted
  with_reducible repeat' first
    | assumption
    | exact Frame.refl _ _
    | intro _
    | apply Framed.next
    | apply Framed.ite
    | exact Framed.fault
    | exact Framed.refused
    | (extract_lets +onlyGivenNames y; clear_value (e : y = _); revert y; apply Frame.cut)
    | extract_lets +onlyGivenNames y
    | apply Frame.ite
    | (apply Frame.seq ?_ (State.wr_frame ..) ?_; on_goal 2 => with_unfolding_all exact rfl)
    | (apply Frame.seq ?_ (State.setHerd_frame ..) ?_; on_goal 2 => with_unfolding_all exact rfl)
    | (apply Frame.seq ?_ (State.herdStartLane_frame ..) ?_; on_goal 2 => with_unfolding_all exact rfl)
    | (apply Frame.seq ?_ (State.report_frame ..) ?_; on_goal 2 => with_unfolding_all exact rfl)
    | apply Frame.herdLanes
    | (apply Frame.of_snd (by assumption))
    | (apply Frame.of_fst (by assumption))
    | (apply Frame.of_snd2 (by assumption))
    | apply Frame.ite1
    | apply Frame.ite2
    | split

end Sys2Proof.Machine
end

