-- ==== Sys2Proof/Laws/KennelsFrame.lean ====
section
/-!
SUPPORT. What each operation of Machine/Kennels.lean may change: the parts of the state listed, and never the queue.
-/

namespace Sys2Proof.Machine

theorem State.cross_frame (s : State) (a1) : Frame [.live] s (State.cross s a1) := by
  unfold State.cross
  with_reducible repeat' first
    | assumption
    | exact Frame.refl _ _
    | intro _
    | extract_lets +onlyGivenNames y
    | apply Frame.ite
    | (apply Frame.seq ?_ (State.sqf_frame ..) ?_; on_goal 2 => with_unfolding_all exact rfl)
    | (apply Frame.seq ?_ (State.inc_frame ..) ?_; on_goal 2 => with_unfolding_all exact rfl)

theorem State.setKennel_frame (s : State) (a1) (a2) : Frame [.live, .knl, .net] s (State.setKennel s a1 a2) := by
  unfold State.setKennel
  with_reducible repeat' first
    | assumption
    | exact Frame.refl _ _
    | intro _
    | (extract_lets +onlyGivenNames y; clear_value (e : y = _); revert y; apply Frame.cut)
    | extract_lets +onlyGivenNames y
    | apply Frame.ite
    | (apply Frame.seq ?_ (State.cross_frame ..) ?_; on_goal 2 => with_unfolding_all exact rfl)
    | (fail_if_no_progress (apply Frame.set_knl_net ?_ ?_ ?_; (on_goal 3 => with_unfolding_all exact rfl); (on_goal 2 => with_unfolding_all exact rfl)))

theorem State.abandonPush_frame (s : State) (a1) : Frame [.live, .knl, .net] s (State.abandonPush s a1) := by
  unfold State.abandonPush
  with_reducible repeat' first
    | assumption
    | exact Frame.refl _ _
    | intro _
    | extract_lets +onlyGivenNames y
    | apply Frame.ite
    | (apply Frame.seq ?_ (State.setKennel_frame ..) ?_; on_goal 2 => with_unfolding_all exact rfl)

theorem State.markWritten_frame (s : State) (a1) (a2) : Frame [.live] s (State.markWritten s a1 a2) := by
  unfold State.markWritten
  with_reducible repeat' first
    | assumption
    | exact Frame.refl _ _
    | intro _
    | extract_lets +onlyGivenNames y
    | apply Frame.ite
    | (apply Frame.seq ?_ (State.cross_frame ..) ?_; on_goal 2 => with_unfolding_all exact rfl)

theorem State.breakOff_frame (s : State) (a1) (a2) : Frame [.net, .out] s (State.breakOff s a1 a2) := by
  unfold State.breakOff
  with_reducible repeat' first
    | assumption
    | exact Frame.refl _ _
    | intro _
    | (extract_lets +onlyGivenNames y; clear_value (e : y = _); revert y; apply Frame.cut)
    | extract_lets +onlyGivenNames y
    | apply Frame.ite
    | (apply Frame.seq ?_ (State.emit_frame ..) ?_; on_goal 2 => with_unfolding_all exact rfl)
    | (fail_if_no_progress (apply Frame.set_net ?_ ?_; (on_goal 2 => with_unfolding_all exact rfl)))
    | (apply Frame.of_snd (by assumption))
    | (apply Frame.of_fst (by assumption))
    | (apply Frame.of_snd2 (by assumption))
    | apply Frame.ite1
    | apply Frame.ite2
    | split

theorem State.resetKennel_frame (s : State) (a1) (a2) : Frame [.live, .evt, .knl, .rxHeld, .net, .out] s (State.resetKennel s a1 a2) := by
  unfold State.resetKennel
  with_reducible repeat' first
    | assumption
    | exact Frame.refl _ _
    | intro _
    | (extract_lets +onlyGivenNames y; clear_value (e : y = _); revert y; apply Frame.cut)
    | extract_lets +onlyGivenNames y
    | apply Frame.ite
    | (apply Frame.seq ?_ (State.breakOff_frame ..) ?_; on_goal 2 => with_unfolding_all exact rfl)
    | (apply Frame.seq ?_ (State.setKennel_frame ..) ?_; on_goal 2 => with_unfolding_all exact rfl)
    | (apply Frame.seq ?_ (State.add_frame ..) ?_; on_goal 2 => with_unfolding_all exact rfl)
    | (apply Frame.seq ?_ (State.sqf_frame ..) ?_; on_goal 2 => with_unfolding_all exact rfl)
    | (apply Frame.seq ?_ (State.report_frame ..) ?_; on_goal 2 => with_unfolding_all exact rfl)
    | apply Frame.eachBelow
    | (fail_if_no_progress (apply Frame.set_rxHeld ?_ ?_; (on_goal 2 => with_unfolding_all exact rfl)))

theorem State.kennelReg_frame (s : State) (a1) (a2) (a3) : Frame [.live, .evt, .knl, .rxHeld, .net, .out] s (State.kennelReg s a1 a2 a3) := by
  unfold State.kennelReg
  with_reducible repeat' first
    | assumption
    | exact Frame.refl _ _
    | intro _
    | extract_lets +onlyGivenNames y
    | apply Frame.ite
    | (apply Frame.seq ?_ (State.markWritten_frame ..) ?_; on_goal 2 => with_unfolding_all exact rfl)
    | (apply Frame.seq ?_ (State.resetKennel_frame ..) ?_; on_goal 2 => with_unfolding_all exact rfl)

theorem State.popPacket_frame (s : State) (a1) : Frame [.live, .knl, .net] s (State.popPacket s a1).2 := by
  unfold State.popPacket
  with_reducible repeat' first
    | assumption
    | exact Frame.refl _ _
    | intro _
    | extract_lets +onlyGivenNames y
    | apply Frame.ite
    | (apply Frame.seq ?_ (State.setKennel_frame ..) ?_; on_goal 2 => with_unfolding_all exact rfl)
    | (apply Frame.of_snd (by assumption))
    | (apply Frame.of_fst (by assumption))
    | (apply Frame.of_snd2 (by assumption))
    | apply Frame.ite1
    | apply Frame.ite2
    | split

theorem State.kennelEpoch_frame (s : State) (a1) (a2) (a3) : Frame [.live, .evt, .knl, .rxHeld, .net, .out] s (State.kennelEpoch s a1 a2 a3) := by
  unfold State.kennelEpoch
  with_reducible repeat' first
    | assumption
    | exact Frame.refl _ _
    | intro _
    | extract_lets +onlyGivenNames y
    | apply Frame.ite
    | (apply Frame.seq ?_ (State.resetKennel_frame ..) ?_; on_goal 2 => with_unfolding_all exact rfl)

theorem State.badHostPacket_frame (s : State) (a1) (a2) (a3) (a4) : Frame [.live, .evt, .knl, .net, .out] s (State.badHostPacket s a1 a2 a3 a4) := by
  unfold State.badHostPacket
  with_reducible repeat' first
    | assumption
    | exact Frame.refl _ _
    | intro _
    | extract_lets +onlyGivenNames y
    | apply Frame.ite
    | (apply Frame.seq ?_ (State.accErr_frame ..) ?_; on_goal 2 => with_unfolding_all exact rfl)
    | (apply Frame.seq ?_ (State.setKennel_frame ..) ?_; on_goal 2 => with_unfolding_all exact rfl)

theorem State.crossTo_frame (s : State) (a1) (a2) : Frame [.live] s (State.crossTo s a1 a2) := by
  unfold State.crossTo
  with_reducible repeat' first
    | assumption
    | exact Frame.refl _ _
    | intro _
    | extract_lets +onlyGivenNames y
    | apply Frame.ite
    | (apply Frame.seq ?_ (State.cross_frame ..) ?_; on_goal 2 => with_unfolding_all exact rfl)

theorem State.countRefused_frame (s : State) (a1) (a2) : Frame [.live, .evt, .out] s (State.countRefused s a1 a2) := by
  unfold State.countRefused
  with_reducible repeat' first
    | assumption
    | exact Frame.refl _ _
    | intro _
    | (extract_lets +onlyGivenNames y; clear_value (e : y = _); revert y; apply Frame.cut)
    | extract_lets +onlyGivenNames y
    | apply Frame.ite
    | (apply Frame.seq ?_ (State.sqf_frame ..) ?_; on_goal 2 => with_unfolding_all exact rfl)
    | (apply Frame.seq ?_ (State.inc_frame ..) ?_; on_goal 2 => with_unfolding_all exact rfl)
    | (apply Frame.seq ?_ (State.report_frame ..) ?_; on_goal 2 => with_unfolding_all exact rfl)

theorem State.pushPacket_frame (s : State) (a1) (a2) (a3) (a4) : Frame [.live, .evt, .knl, .net, .out] s (State.pushPacket s a1 a2 a3 a4).1 := by
  unfold State.pushPacket
  with_reducible repeat' first
    | assumption
    | exact Frame.refl _ _
    | intro _
    | (extract_lets +onlyGivenNames y; clear_value (e : y = _); revert y; apply Frame.cut)
    | extract_lets +onlyGivenNames y
    | apply Frame.ite
    | (apply Frame.seq ?_ (State.crossTo_frame ..) ?_; on_goal 2 => with_unfolding_all exact rfl)
    | (apply Frame.seq ?_ (State.setKennel_frame ..) ?_; on_goal 2 => with_unfolding_all exact rfl)
    | (apply Frame.seq ?_ (State.countRefused_frame ..) ?_; on_goal 2 => with_unfolding_all exact rfl)
    | (apply Frame.of_snd (by assumption))
    | (apply Frame.of_fst (by assumption))
    | (apply Frame.of_snd2 (by assumption))
    | apply Frame.ite1

theorem State.refusePush_frame (s : State) (a1) (a2) (a3) : Frame [.live, .evt, .knl, .net, .out] s (State.refusePush s a1 a2 a3) := by
  unfold State.refusePush
  with_reducible repeat' first
    | assumption
    | exact Frame.refl _ _
    | intro _
    | extract_lets +onlyGivenNames y
    | apply Frame.ite
    | (apply Frame.seq ?_ (State.countRefused_frame ..) ?_; on_goal 2 => with_unfolding_all exact rfl)
    | (apply Frame.seq ?_ (State.setKennel_frame ..) ?_; on_goal 2 => with_unfolding_all exact rfl)

theorem State.push_frame (s : State) (a1) (a2) (a3) (a4) (a5) : Frame [.live, .evt, .knl, .net, .out] s (State.push s a1 a2 a3 a4 a5) := by
  unfold State.push
  with_reducible repeat' first
    | assumption
    | exact Frame.refl _ _
    | intro _
    | extract_lets +onlyGivenNames y
    | apply Frame.ite
    | (apply Frame.seq ?_ (State.setKennel_frame ..) ?_; on_goal 2 => with_unfolding_all exact rfl)
    | (apply Frame.seq ?_ (State.refusePush_frame ..) ?_; on_goal 2 => with_unfolding_all exact rfl)

theorem State.hostPushHigh_frame (s : State) (a1) (a2) (a3) (a4) (a5) : Frame [.live, .evt, .knl, .net, .out] s (State.hostPushHigh s a1 a2 a3 a4 a5) := by
  unfold State.hostPushHigh
  with_reducible repeat' first
    | assumption
    | exact Frame.refl _ _
    | intro _
    | (extract_lets +onlyGivenNames y; clear_value (e : y = _); revert y; apply Frame.cut)
    | extract_lets +onlyGivenNames y
    | apply Frame.ite
    | (apply Frame.seq ?_ (State.setKennel_frame ..) ?_; on_goal 2 => with_unfolding_all exact rfl)
    | (apply Frame.seq ?_ (State.badHostPacket_frame ..) ?_; on_goal 2 => with_unfolding_all exact rfl)
    | (apply Frame.seq ?_ (State.push_frame ..) ?_; on_goal 2 => with_unfolding_all exact rfl)
    | (apply Frame.of_snd (by assumption))
    | (apply Frame.of_fst (by assumption))
    | (apply Frame.of_snd2 (by assumption))
    | apply Frame.ite1
    | apply Frame.ite2
    | split

theorem State.kennelWindow_frame (s : State) (a1) (a2) (a3) (a4) (a5) : Frame [.live, .evt, .knl, .net, .out] s (State.kennelWindow s a1 a2 a3 a4 a5) := by
  unfold State.kennelWindow
  with_reducible repeat' first
    | assumption
    | exact Frame.refl _ _
    | intro _
    | extract_lets +onlyGivenNames y
    | apply Frame.ite
    | (apply Frame.seq ?_ (State.accErr_frame ..) ?_; on_goal 2 => with_unfolding_all exact rfl)
    | (apply Frame.seq ?_ (State.setKennel_frame ..) ?_; on_goal 2 => with_unfolding_all exact rfl)
    | (apply Frame.seq ?_ (State.hostPushHigh_frame ..) ?_; on_goal 2 => with_unfolding_all exact rfl)

theorem State.pushWords_frame (s : State) (a1) (a2) (a3) (a4) : Frame [.live, .evt, .knl, .net, .out] s (State.pushWords s a1 a2 a3 a4) := by
  fun_induction State.pushWords s a1 a2 a3 a4
  all_goals
    with_reducible repeat' first
      | assumption
      | exact Frame.refl _ _
      | intro _
      | extract_lets +onlyGivenNames y
      | apply Frame.ite
      | (apply Frame.seq ?_ (State.push_frame ..) ?_; on_goal 2 => with_unfolding_all exact rfl)
      | (apply Frame.trans ?_ (by assumption))

theorem State.memCorr_frame (s : State) (a1) (a2) : Frame [.live, .evt, .out] s (State.memCorr s a1 a2) := by
  unfold State.memCorr
  with_reducible repeat' first
    | assumption
    | exact Frame.refl _ _
    | intro _
    | extract_lets +onlyGivenNames y
    | apply Frame.ite
    | (apply Frame.seq ?_ (State.report_frame ..) ?_; on_goal 2 => with_unfolding_all exact rfl)
    | (apply Frame.seq ?_ (State.inc_frame ..) ?_; on_goal 2 => with_unfolding_all exact rfl)

theorem State.kennelCorr_frame (s : State) (a1) (a2) : Frame [.live, .evt, .out] s (State.kennelCorr s a1 a2) := by
  unfold State.kennelCorr
  with_reducible repeat' first
    | assumption
    | exact Frame.refl _ _
    | intro _
    | (extract_lets +onlyGivenNames y; clear_value (e : y = _); revert y; apply Frame.cut)
    | extract_lets +onlyGivenNames y
    | apply Frame.ite
    | (apply Frame.seq ?_ (State.memCorr_frame ..) ?_; on_goal 2 => with_unfolding_all exact rfl)
    | (apply Frame.seq ?_ (State.sqf_frame ..) ?_; on_goal 2 => with_unfolding_all exact rfl)
    | (apply Frame.seq ?_ (State.inc_frame ..) ?_; on_goal 2 => with_unfolding_all exact rfl)

theorem State.memUncorr_frame (s : State) (a1) (a2) : Frame [.live, .evt, .out] s (State.memUncorr s a1 a2) := by
  unfold State.memUncorr
  with_reducible repeat' first
    | assumption
    | exact Frame.refl _ _
    | intro _
    | extract_lets +onlyGivenNames y
    | apply Frame.ite
    | (apply Frame.seq ?_ (State.report_frame ..) ?_; on_goal 2 => with_unfolding_all exact rfl)
    | (apply Frame.seq ?_ (State.inc_frame ..) ?_; on_goal 2 => with_unfolding_all exact rfl)

theorem State.kennelUncorr_frame (s : State) (a1) (a2) : Frame [.live, .evt, .out] s (State.kennelUncorr s a1 a2) := by
  unfold State.kennelUncorr
  with_reducible repeat' first
    | assumption
    | exact Frame.refl _ _
    | intro _
    | (extract_lets +onlyGivenNames y; clear_value (e : y = _); revert y; apply Frame.cut)
    | extract_lets +onlyGivenNames y
    | apply Frame.ite
    | (apply Frame.seq ?_ (State.memUncorr_frame ..) ?_; on_goal 2 => with_unfolding_all exact rfl)
    | (apply Frame.seq ?_ (State.report_frame ..) ?_; on_goal 2 => with_unfolding_all exact rfl)
    | (apply Frame.seq ?_ (State.sqf_frame ..) ?_; on_goal 2 => with_unfolding_all exact rfl)
    | (apply Frame.seq ?_ (State.inc_frame ..) ?_; on_goal 2 => with_unfolding_all exact rfl)

theorem execKennelWordPush_frame (a0) (a1) (a2) (s : State) : Framed [.live, .evt, .knl, .net, .out] s (execKennelWordPush a0 a1 a2 s) := by
  unfold execKennelWordPush
  with_reducible repeat' first
    | assumption
    | exact Frame.refl _ _
    | intro _
    | apply Framed.next
    | apply Framed.ite
    | exact Framed.fault
    | exact Framed.refused
    | extract_lets +onlyGivenNames y
    | apply Frame.ite
    | (apply Frame.seq ?_ (State.push_frame ..) ?_; on_goal 2 => with_unfolding_all exact rfl)

theorem execKennelBoundaryFault_frame (a0) (s : State) : Framed [.live, .evt, .knl, .rxHeld, .net, .out] s (execKennelBoundaryFault a0 s) := by
  unfold execKennelBoundaryFault
  with_reducible repeat' first
    | assumption
    | exact Frame.refl _ _
    | intro _
    | apply Framed.next
    | apply Framed.ite
    | exact Framed.fault
    | exact Framed.refused
    | (extract_lets +onlyGivenNames y; clear_value (e : y = _); revert y; apply Frame.cut)
    | extract_lets +onlyGivenNames y
    | apply Frame.ite
    | (apply Frame.seq ?_ (State.inc_frame ..) ?_; on_goal 2 => with_unfolding_all exact rfl)
    | (apply Frame.seq ?_ (State.resetKennel_frame ..) ?_; on_goal 2 => with_unfolding_all exact rfl)
    | (apply Frame.seq ?_ (State.report_frame ..) ?_; on_goal 2 => with_unfolding_all exact rfl)

end Sys2Proof.Machine
end

