-- ==== Sys2Proof/Laws/RxFlowFrame.lean ====
section
/-!
SUPPORT. What each operation of Machine/RxFlow.lean may change: the parts of the state listed, and never the queue.
-/

namespace Sys2Proof.Machine

theorem State.rxClear_frame (s : State) : Frame [.live] s (State.rxClear s) := by
  unfold State.rxClear
  with_reducible repeat' first
    | assumption
    | exact Frame.refl _ _
    | exact Memory.wf_setWord _ _ _
    | exact Store.wf_filter _ _ _
    | exact fun h => h
    | exact fun h k => ⟨h, k⟩
    | exact Memory.wf_setBytes _ _ _
    | intro _
    | extract_lets +onlyGivenNames y
    | apply Frame.ite
    | (apply Frame.of_snd (by assumption))
    | (apply Frame.of_fst (by assumption))
    | (apply Frame.of_snd2 (by assumption))
    | apply Frame.ite1
    | apply Frame.ite2
    | split
    | dsimp only
    | (fail_if_no_progress (apply Frame.set_live ?_ ?_ ?_; (on_goal 3 => with_unfolding_all exact rfl)))

theorem State.setRx_frame (s : State) (a1) (a2) : Frame [.rx] s (State.setRx s a1 a2) := by
  unfold State.setRx
  with_reducible repeat' first
    | assumption
    | exact Frame.refl _ _
    | intro _
    | extract_lets +onlyGivenNames y
    | apply Frame.ite
    | (fail_if_no_progress (apply Frame.set_rx ?_ ?_; (on_goal 2 => with_unfolding_all exact rfl)))

theorem State.countActive_frame (s : State) : Frame [.live] s (State.countActive s) := by
  unfold State.countActive
  with_reducible repeat' first
    | assumption
    | exact Frame.refl _ _
    | intro _
    | extract_lets +onlyGivenNames y
    | apply Frame.ite
    | (apply Frame.seq ?_ (State.wr_frame ..) ?_; on_goal 2 => with_unfolding_all exact rfl)

theorem State.activate_frame (s : State) (a1) (a2) (a3) (a4) : Frame [.live, .evt, .rx, .out] s (State.activate s a1 a2 a3 a4) := by
  unfold State.activate
  with_reducible repeat' first
    | assumption
    | exact Frame.refl _ _
    | intro _
    | (extract_lets +onlyGivenNames y; clear_value (e : y = _); revert y; apply Frame.cut)
    | extract_lets +onlyGivenNames y
    | apply Frame.ite
    | (apply Frame.seq ?_ (State.setRx_frame ..) ?_; on_goal 2 => with_unfolding_all exact rfl)
    | (apply Frame.seq ?_ (State.wr_frame ..) ?_; on_goal 2 => with_unfolding_all exact rfl)
    | (apply Frame.seq ?_ (State.countActive_frame ..) ?_; on_goal 2 => with_unfolding_all exact rfl)
    | (apply Frame.seq ?_ (State.report_frame ..) ?_; on_goal 2 => with_unfolding_all exact rfl)
    | (apply Frame.seq ?_ (State.sqf_frame ..) ?_; on_goal 2 => with_unfolding_all exact rfl)

theorem State.clearRings_frame (s : State) (a1) (a2) : Frame [.live, .valid, .spoiled, .placed, .ge, .deepValid] s (State.clearRings s a1 a2) := by
  unfold State.clearRings
  with_reducible repeat' first
    | assumption
    | exact Frame.refl _ _
    | intro _
    | (extract_lets +onlyGivenNames y; clear_value (e : y = _); revert y; apply Frame.cut)
    | extract_lets +onlyGivenNames y
    | apply Frame.ite
    | (apply Frame.seq ?_ (State.squashReaders_frame ..) ?_; on_goal 2 => with_unfolding_all exact rfl)
    | (apply Frame.seq ?_ (State.clearBuffer_frame ..) ?_; on_goal 2 => with_unfolding_all exact rfl)
    | (fail_if_no_progress (apply Frame.set_deepValid ?_ ?_; (on_goal 2 => with_unfolding_all exact rfl)))

theorem State.takeHead_frame (s : State) (a1) : Frame [.live, .knl, .rxHeld, .net] s (State.takeHead s a1) := by
  unfold State.takeHead
  with_reducible repeat' first
    | assumption
    | exact Frame.refl _ _
    | intro _
    | (extract_lets +onlyGivenNames y; clear_value (e : y = _); revert y; apply Frame.cut)
    | extract_lets +onlyGivenNames y
    | apply Frame.ite
    | (apply Frame.seq ?_ (State.setKennel_frame ..) ?_; on_goal 2 => with_unfolding_all exact rfl)
    | (apply Frame.seq ?_ (State.popPacket_frame ..) ?_; on_goal 2 => with_unfolding_all exact rfl)
    | (fail_if_no_progress (apply Frame.set_rxHeld ?_ ?_; (on_goal 2 => with_unfolding_all exact rfl)))

theorem State.dropCopy_frame (s : State) (a1) : Frame [.live, .knl, .copies, .rxHeld, .net] s (State.dropCopy s a1) := by
  unfold State.dropCopy
  with_reducible repeat' first
    | assumption
    | exact Frame.refl _ _
    | intro _
    | (extract_lets +onlyGivenNames y; clear_value (e : y = _); revert y; apply Frame.cut)
    | extract_lets +onlyGivenNames y
    | apply Frame.ite
    | (apply Frame.seq ?_ (State.takeHead_frame ..) ?_; on_goal 2 => with_unfolding_all exact rfl)
    | (apply Frame.seq ?_ (State.setKennel_frame ..) ?_; on_goal 2 => with_unfolding_all exact rfl)
    | (fail_if_no_progress (apply Frame.set_copies ?_ ?_; (on_goal 2 => with_unfolding_all exact rfl)))

theorem State.rewindEpoch_frame (s : State) (a1) (a2) (a3) : Frame [.live, .knl, .copies, .rxHeld, .net] s (State.rewindEpoch s a1 a2 a3) := by
  unfold State.rewindEpoch
  with_reducible repeat' first
    | assumption
    | exact Frame.refl _ _
    | intro _
    | (extract_lets +onlyGivenNames y; clear_value (e : y = _); revert y; apply Frame.cut)
    | extract_lets +onlyGivenNames y
    | apply Frame.ite
    | (apply Frame.seq ?_ (State.inc_frame ..) ?_; on_goal 2 => with_unfolding_all exact rfl)
    | (apply Frame.seq ?_ (State.dropCopy_frame ..) ?_; on_goal 2 => with_unfolding_all exact rfl)
    | (apply Frame.seq ?_ (State.takeHead_frame ..) ?_; on_goal 2 => with_unfolding_all exact rfl)
    | (apply Frame.of_snd (by assumption))
    | (apply Frame.of_fst (by assumption))
    | (apply Frame.of_snd2 (by assumption))
    | apply Frame.ite1
    | apply Frame.ite2
    | split

theorem State.inactive_frame (s : State) (a1) : Frame [.live] s (State.inactive s a1) := by
  unfold State.inactive
  with_reducible repeat' first
    | assumption
    | exact Frame.refl _ _
    | intro _
    | extract_lets +onlyGivenNames y
    | apply Frame.ite
    | (apply Frame.seq ?_ (State.wr_frame ..) ?_; on_goal 2 => with_unfolding_all exact rfl)

theorem State.rxEpochOne_frame (s : State) (a1) (a2) (a3) (a4) : Frame [.live, .valid, .spoiled, .placed, .ge, .knl, .copies, .rxHeld, .rx, .deepValid, .net] s (State.rxEpochOne s a1 a2 a3 a4) := by
  unfold State.rxEpochOne
  with_reducible repeat' first
    | assumption
    | exact Frame.refl _ _
    | intro _
    | (extract_lets +onlyGivenNames y; clear_value (e : y = _); revert y; apply Frame.cut)
    | extract_lets +onlyGivenNames y
    | apply Frame.ite
    | (apply Frame.seq ?_ (State.rewindEpoch_frame ..) ?_; on_goal 2 => with_unfolding_all exact rfl)
    | (apply Frame.seq ?_ (State.clearRings_frame ..) ?_; on_goal 2 => with_unfolding_all exact rfl)
    | (apply Frame.seq ?_ (State.setRx_frame ..) ?_; on_goal 2 => with_unfolding_all exact rfl)
    | (apply Frame.seq ?_ (State.inactive_frame ..) ?_; on_goal 2 => with_unfolding_all exact rfl)

theorem State.rxEpoch_frame (s : State) (a1) (a2) (a3) : Frame [.live, .valid, .spoiled, .placed, .ge, .knl, .copies, .rxHeld, .rx, .deepValid, .net] s (State.rxEpoch s a1 a2 a3) := by
  unfold State.rxEpoch
  with_reducible repeat' first
    | assumption
    | exact Frame.refl _ _
    | intro _
    | (extract_lets +onlyGivenNames y; clear_value (e : y = _); revert y; apply Frame.cut)
    | extract_lets +onlyGivenNames y
    | apply Frame.ite
    | (apply Frame.seq ?_ (State.rxEpochOne_frame ..) ?_; on_goal 2 => with_unfolding_all exact rfl)
    | (apply Frame.seq ?_ (State.wr_frame ..) ?_; on_goal 2 => with_unfolding_all exact rfl)
    | (apply Frame.seq ?_ (State.countActive_frame ..) ?_; on_goal 2 => with_unfolding_all exact rfl)
    | apply Frame.foldl

theorem State.clearDeep_frame (s : State) (a1) (a2) : Frame [.deepValid] s (State.clearDeep s a1 a2) := by
  unfold State.clearDeep
  with_reducible repeat' first
    | assumption
    | exact Frame.refl _ _
    | intro _
    | extract_lets +onlyGivenNames y
    | apply Frame.ite
    | (fail_if_no_progress (apply Frame.set_deepValid ?_ ?_; (on_goal 2 => with_unfolding_all exact rfl)))

theorem State.compareDup_frame (s : State) (a1) (a2) (a3) : Frame [.live, .evt, .out] s (State.compareDup s a1 a2 a3) := by
  unfold State.compareDup
  with_reducible repeat' first
    | assumption
    | exact Frame.refl _ _
    | intro _
    | extract_lets +onlyGivenNames y
    | apply Frame.ite
    | (apply Frame.seq ?_ (State.report_frame ..) ?_; on_goal 2 => with_unfolding_all exact rfl)
    | (apply Frame.seq ?_ (State.sqf_frame ..) ?_; on_goal 2 => with_unfolding_all exact rfl)
    | (apply Frame.seq ?_ (State.inc_frame ..) ?_; on_goal 2 => with_unfolding_all exact rfl)
    | (apply Frame.of_snd (by assumption))
    | (apply Frame.of_fst (by assumption))
    | (apply Frame.of_snd2 (by assumption))
    | apply Frame.ite1
    | apply Frame.ite2
    | split

theorem State.setDeep_frame (s : State) (a1) (a2) (a3) : Frame [.deepValid] s (State.setDeep s a1 a2 a3) := by
  unfold State.setDeep
  with_reducible repeat' first
    | assumption
    | exact Frame.refl _ _
    | intro _
    | extract_lets +onlyGivenNames y
    | apply Frame.ite
    | (fail_if_no_progress (apply Frame.set_deepValid ?_ ?_; (on_goal 2 => with_unfolding_all exact rfl)))

theorem State.confirmFrames_frame (s : State) (a1) (a2) (a3) : Frame [.valid, .deepValid] s (State.confirmFrames s a1 a2 a3) := by
  fun_induction State.confirmFrames s a1 a2 a3
  all_goals
    with_reducible repeat' first
      | assumption
      | exact Frame.refl _ _
      | intro _
      | extract_lets +onlyGivenNames y
      | apply Frame.ite
      | (apply Frame.seq ?_ (State.setDeep_frame ..) ?_; on_goal 2 => with_unfolding_all exact rfl)
      | (apply Frame.seq ?_ (State.setValid_frame ..) ?_; on_goal 2 => with_unfolding_all exact rfl)
      | (apply Frame.trans ?_ (by assumption))

theorem State.countLead_frame (s : State) (a1) (a2) : Frame [.live] s (State.countLead s a1 a2) := by
  unfold State.countLead
  with_reducible repeat' first
    | assumption
    | exact Frame.refl _ _
    | intro _
    | (extract_lets +onlyGivenNames y; clear_value (e : y = _); revert y; apply Frame.cut)
    | extract_lets +onlyGivenNames y
    | apply Frame.ite
    | (apply Frame.seq ?_ (State.wrS_frame ..) ?_; on_goal 2 => with_unfolding_all exact rfl)

theorem State.newSsrc_frame (s : State) (a1) (a2) : Frame [.live, .evt, .out] s (State.newSsrc s a1 a2) := by
  unfold State.newSsrc
  with_reducible repeat' first
    | assumption
    | exact Frame.refl _ _
    | intro _
    | extract_lets +onlyGivenNames y
    | apply Frame.ite
    | (apply Frame.seq ?_ (State.report_frame ..) ?_; on_goal 2 => with_unfolding_all exact rfl)
    | (apply Frame.seq ?_ (State.sqf_frame ..) ?_; on_goal 2 => with_unfolding_all exact rfl)
    | (apply Frame.seq ?_ (State.wr_frame ..) ?_; on_goal 2 => with_unfolding_all exact rfl)
    | (apply Frame.of_snd (by assumption))
    | (apply Frame.of_fst (by assumption))
    | (apply Frame.of_snd2 (by assumption))
    | apply Frame.ite1
    | apply Frame.ite2
    | split

theorem State.confirm_frame (s : State) (a1) (a2) : Frame [.live, .evt, .valid, .copies, .rx, .deepValid, .out] s (State.confirm s a1 a2) := by
  unfold State.confirm
  with_reducible repeat' first
    | assumption
    | exact Frame.refl _ _
    | intro _
    | (extract_lets +onlyGivenNames y; clear_value (e : y = _); revert y; apply Frame.cut)
    | extract_lets +onlyGivenNames y
    | apply Frame.ite
    | (apply Frame.seq ?_ (State.confirmFrames_frame ..) ?_; on_goal 2 => with_unfolding_all exact rfl)
    | (apply Frame.seq ?_ (State.sqf_frame ..) ?_; on_goal 2 => with_unfolding_all exact rfl)
    | (apply Frame.seq ?_ (State.inc_frame ..) ?_; on_goal 2 => with_unfolding_all exact rfl)
    | (apply Frame.seq ?_ (State.countLead_frame ..) ?_; on_goal 2 => with_unfolding_all exact rfl)
    | (apply Frame.seq ?_ (State.activate_frame ..) ?_; on_goal 2 => with_unfolding_all exact rfl)
    | (apply Frame.seq ?_ (State.newSsrc_frame ..) ?_; on_goal 2 => with_unfolding_all exact rfl)
    | (apply Frame.seq ?_ (State.setRx_frame ..) ?_; on_goal 2 => with_unfolding_all exact rfl)
    | (fail_if_no_progress (apply Frame.set_copies ?_ ?_; (on_goal 2 => with_unfolding_all exact rfl)))
    | (apply Frame.of_snd (by assumption))
    | (apply Frame.of_fst (by assumption))
    | (apply Frame.of_snd2 (by assumption))
    | apply Frame.ite1
    | apply Frame.ite2
    | split

theorem State.countSeq_frame (s : State) (a1) (a2) (a3) (a4) : Frame [.live, .rx] s (State.countSeq s a1 a2 a3 a4) := by
  unfold State.countSeq
  with_reducible repeat' first
    | assumption
    | exact Frame.refl _ _
    | intro _
    | (extract_lets +onlyGivenNames y; clear_value (e : y = _); revert y; apply Frame.cut)
    | extract_lets +onlyGivenNames y
    | apply Frame.ite
    | (apply Frame.seq ?_ (State.setRx_frame ..) ?_; on_goal 2 => with_unfolding_all exact rfl)
    | (apply Frame.seq ?_ (State.inc_frame ..) ?_; on_goal 2 => with_unfolding_all exact rfl)

theorem State.writeFrame_frame (s : State) (a1) (a2) (a3) (a4) (a5) (a6) : Frame [.sxm, .sxmPast, .dram] s (State.writeFrame s a1 a2 a3 a4 a5 a6) := by
  fun_induction State.writeFrame s a1 a2 a3 a4 a5 a6
  all_goals
    with_reducible repeat' first
      | assumption
      | exact Frame.refl _ _
      | exact Memory.wf_setWord _ _ _
      | exact Store.wf_filter _ _ _
      | exact fun h => h
      | exact fun h k => ⟨h, k⟩
      | exact Memory.wf_setBytes _ _ _
      | intro _
      | extract_lets +onlyGivenNames y
      | apply Frame.ite
      | (apply Frame.seq ?_ (State.setSxm_frame ..) ?_; on_goal 2 => with_unfolding_all exact rfl)
      | (apply Frame.trans ?_ (by assumption))
      | (apply Frame.of_snd (by assumption))
      | (apply Frame.of_fst (by assumption))
      | (apply Frame.of_snd2 (by assumption))
      | apply Frame.ite1
      | apply Frame.ite2
      | split
      | dsimp only
      | (fail_if_no_progress (apply Frame.set_dram ?_ ?_ ?_; (on_goal 3 => with_unfolding_all exact rfl)))

theorem State.rewriteFrames_frame (s : State) (a1) (a2) (a3) : Frame [.sxm, .sxmPast, .dram] s (State.rewriteFrames s a1 a2 a3) := by
  fun_induction State.rewriteFrames s a1 a2 a3
  all_goals
    with_reducible repeat' first
      | assumption
      | exact Frame.refl _ _
      | intro _
      | extract_lets +onlyGivenNames y
      | apply Frame.ite
      | (apply Frame.seq ?_ (State.writeFrame_frame ..) ?_; on_goal 2 => with_unfolding_all exact rfl)
      | (apply Frame.trans ?_ (by assumption))

theorem State.feedCopy_frame (s : State) (a1) (a2) (a3) (a4) : Frame [.sxm, .sxmPast, .dram, .copies] s (State.feedCopy s a1 a2 a3 a4) := by
  unfold State.feedCopy
  with_reducible repeat' first
    | assumption
    | exact Frame.refl _ _
    | intro _
    | (extract_lets +onlyGivenNames y; clear_value (e : y = _); revert y; apply Frame.cut)
    | extract_lets +onlyGivenNames y
    | apply Frame.ite
    | (apply Frame.seq ?_ (State.rewriteFrames_frame ..) ?_; on_goal 2 => with_unfolding_all exact rfl)
    | (fail_if_no_progress (apply Frame.set_copies ?_ ?_; (on_goal 2 => with_unfolding_all exact rfl)))

theorem State.drawCopy_frame (s : State) (a1) (a2) : Frame [.live, .sxm, .sxmPast, .dram, .knl, .copies, .net] s (State.drawCopy s a1 a2) := by
  unfold State.drawCopy
  with_reducible repeat' first
    | assumption
    | exact Frame.refl _ _
    | intro _
    | extract_lets +onlyGivenNames y
    | apply Frame.ite
    | (apply Frame.seq ?_ (State.feedCopy_frame ..) ?_; on_goal 2 => with_unfolding_all exact rfl)
    | (apply Frame.seq ?_ (State.setKennel_frame ..) ?_; on_goal 2 => with_unfolding_all exact rfl)
    | (apply Frame.of_snd (by assumption))
    | (apply Frame.of_fst (by assumption))
    | (apply Frame.of_snd2 (by assumption))
    | apply Frame.ite1
    | apply Frame.ite2
    | split

theorem State.endBad_frame (s : State) (a1) : Frame [.live, .knl, .copies, .net] s (State.endBad s a1) := by
  unfold State.endBad
  with_reducible repeat' first
    | assumption
    | exact Frame.refl _ _
    | intro _
    | (extract_lets +onlyGivenNames y; clear_value (e : y = _); revert y; apply Frame.cut)
    | extract_lets +onlyGivenNames y
    | apply Frame.ite
    | (apply Frame.seq ?_ (State.abandonPush_frame ..) ?_; on_goal 2 => with_unfolding_all exact rfl)
    | (fail_if_no_progress (apply Frame.set_copies ?_ ?_; (on_goal 2 => with_unfolding_all exact rfl)))
    | (apply Frame.of_snd (by assumption))
    | (apply Frame.of_fst (by assumption))
    | (apply Frame.of_snd2 (by assumption))
    | apply Frame.ite1
    | apply Frame.ite2
    | split

theorem State.placeSpots_frame (s : State) (a1) (a2) (a3) (a4) (a5) (a6) (a7) : Frame [.sxm, .sxmPast, .dram, .placed] s (State.placeSpots s a1 a2 a3 a4 a5 a6 a7).1 := by
  fun_induction State.placeSpots s a1 a2 a3 a4 a5 a6 a7
  all_goals
    with_reducible repeat' first
      | assumption
      | exact Frame.refl _ _
      | intro _
      | extract_lets +onlyGivenNames y
      | apply Frame.ite
      | (apply Frame.seq ?_ (State.writeFrame_frame ..) ?_; on_goal 2 => with_unfolding_all exact rfl)
      | (apply Frame.seq ?_ (State.setPlaced_frame ..) ?_; on_goal 2 => with_unfolding_all exact rfl)
      | (apply Frame.trans ?_ (by assumption))

theorem State.judge_frame (s : State) (a1) (a2) (a3) (a4) : Frame [.live, .evt, .sxm, .sxmPast, .dram, .placed, .knl, .copies, .rxHeld, .rx, .net, .out] s (State.judge s a1 a2 a3 a4) := by
  unfold State.judge
  with_reducible repeat' first
    | assumption
    | exact Frame.refl _ _
    | intro _
    | (extract_lets +onlyGivenNames y; clear_value (e : y = _); revert y; apply Frame.cut)
    | extract_lets +onlyGivenNames y
    | apply Frame.ite
    | (apply Frame.seq ?_ (State.report_frame ..) ?_; on_goal 2 => with_unfolding_all exact rfl)
    | (apply Frame.seq ?_ (State.sqf_frame ..) ?_; on_goal 2 => with_unfolding_all exact rfl)
    | (apply Frame.seq ?_ (State.inc_frame ..) ?_; on_goal 2 => with_unfolding_all exact rfl)
    | (apply Frame.seq ?_ (State.takeHead_frame ..) ?_; on_goal 2 => with_unfolding_all exact rfl)
    | (apply Frame.seq ?_ (State.countSeq_frame ..) ?_; on_goal 2 => with_unfolding_all exact rfl)
    | (apply Frame.seq ?_ (State.compareDup_frame ..) ?_; on_goal 2 => with_unfolding_all exact rfl)
    | (apply Frame.seq ?_ (State.setKennel_frame ..) ?_; on_goal 2 => with_unfolding_all exact rfl)
    | (apply Frame.seq ?_ (State.placeSpots_frame ..) ?_; on_goal 2 => with_unfolding_all exact rfl)
    | (fail_if_no_progress (apply Frame.set_rxHeld_copies ?_ ?_ ?_; (on_goal 3 => with_unfolding_all exact rfl); (on_goal 2 => with_unfolding_all exact rfl)))
    | (fail_if_no_progress (apply Frame.set_rxHeld ?_ ?_; (on_goal 2 => with_unfolding_all exact rfl)))
    | (fail_if_no_progress (apply Frame.set_copies ?_ ?_; (on_goal 2 => with_unfolding_all exact rfl)))
    | (apply Frame.of_snd (by assumption))
    | (apply Frame.of_fst (by assumption))
    | (apply Frame.of_snd2 (by assumption))
    | apply Frame.ite1
    | apply Frame.ite2
    | split

theorem State.moveDeep_frame (s : State) (a1) (a2) (a3) (a4) : Frame [.sxm, .sxmPast, .valid] s (State.moveDeep s a1 a2 a3 a4) := by
  fun_induction State.moveDeep s a1 a2 a3 a4
  all_goals
    with_reducible repeat' first
      | assumption
      | exact Frame.refl _ _
      | intro _
      | extract_lets +onlyGivenNames y
      | apply Frame.ite
      | (apply Frame.seq ?_ (State.setValid_frame ..) ?_; on_goal 2 => with_unfolding_all exact rfl)
      | (apply Frame.seq ?_ (State.setSxm_frame ..) ?_; on_goal 2 => with_unfolding_all exact rfl)
      | (apply Frame.trans ?_ (by assumption))
      | apply Frame.foldl

theorem State.takeCopy_frame (s : State) (a1) (a2) : Frame [.live, .evt, .sxm, .sxmPast, .dram, .placed, .knl, .copies, .rxHeld, .rx, .net, .out] s (State.takeCopy s a1 a2) := by
  unfold State.takeCopy
  with_reducible repeat' first
    | assumption
    | exact Frame.refl _ _
    | intro _
    | extract_lets +onlyGivenNames y
    | apply Frame.ite
    | (apply Frame.seq ?_ (State.takeHead_frame ..) ?_; on_goal 2 => with_unfolding_all exact rfl)
    | (apply Frame.seq ?_ (State.judge_frame ..) ?_; on_goal 2 => with_unfolding_all exact rfl)
    | (apply Frame.of_snd (by assumption))
    | (apply Frame.of_fst (by assumption))
    | (apply Frame.of_snd2 (by assumption))
    | apply Frame.ite1
    | apply Frame.ite2
    | split

theorem State.releaseHeld_frame (s : State) (a1) (a2) : Frame [.live, .evt, .sxm, .sxmPast, .dram, .placed, .knl, .copies, .rxHeld, .rx, .net, .out] s (State.releaseHeld s a1 a2) := by
  unfold State.releaseHeld
  with_reducible repeat' first
    | assumption
    | exact Frame.refl _ _
    | intro _
    | extract_lets +onlyGivenNames y
    | apply Frame.ite
    | (apply Frame.seq ?_ (State.takeCopy_frame ..) ?_; on_goal 2 => with_unfolding_all exact rfl)

theorem State.unplace_frame (s : State) (a1) (a2) : Frame [.live, .placed, .ge] s (State.unplace s a1 a2) := by
  fun_induction State.unplace s a1 a2
  all_goals
    with_reducible repeat' first
      | assumption
      | exact Frame.refl _ _
      | intro _
      | extract_lets +onlyGivenNames y
      | apply Frame.ite
      | (apply Frame.seq ?_ (State.squash_frame ..) ?_; on_goal 2 => with_unfolding_all exact rfl)
      | (apply Frame.trans ?_ (by assumption))
      | apply Frame.eachBelow
      | (fail_if_no_progress (apply Frame.set_placed ?_ ?_; (on_goal 2 => with_unfolding_all exact rfl)))

theorem State.rewind_frame (s : State) (a1) (a2) (a3) : Frame [.live, .placed, .ge, .knl, .copies, .rxHeld, .net] s (State.rewind s a1 a2 a3) := by
  unfold State.rewind
  with_reducible repeat' first
    | assumption
    | exact Frame.refl _ _
    | intro _
    | (extract_lets +onlyGivenNames y; clear_value (e : y = _); revert y; apply Frame.cut)
    | extract_lets +onlyGivenNames y
    | apply Frame.ite
    | (apply Frame.seq ?_ (State.dropCopy_frame ..) ?_; on_goal 2 => with_unfolding_all exact rfl)
    | (apply Frame.seq ?_ (State.unplace_frame ..) ?_; on_goal 2 => with_unfolding_all exact rfl)
    | (apply Frame.seq ?_ (State.inc_frame ..) ?_; on_goal 2 => with_unfolding_all exact rfl)
    | (apply Frame.of_snd (by assumption))
    | (apply Frame.of_fst (by assumption))
    | (apply Frame.of_snd2 (by assumption))
    | apply Frame.ite1
    | apply Frame.ite2
    | split

theorem State.rxHist_frame (s : State) (a1) : Frame [.live] s (State.rxHist s a1) := by
  unfold State.rxHist
  with_reducible repeat' first
    | assumption
    | exact Frame.refl _ _
    | intro _
    | extract_lets +onlyGivenNames y
    | apply Frame.ite
    | (apply Frame.seq ?_ (State.sqf_frame ..) ?_; on_goal 2 => with_unfolding_all exact rfl)

theorem execCopyHeaderTaken_frame (a0) (s : State) : Framed [.live, .evt, .sxm, .sxmPast, .dram, .placed, .knl, .copies, .rxHeld, .rx, .net, .out] s (execCopyHeaderTaken a0 s) := by
  unfold execCopyHeaderTaken
  with_reducible repeat' first
    | assumption
    | exact Frame.refl _ _
    | intro _
    | apply Framed.next
    | apply Framed.ite
    | exact Framed.fault
    | exact Framed.refused
    | extract_lets +onlyGivenNames y
    | apply Frame.ite
    | (apply Frame.seq ?_ (State.takeCopy_frame ..) ?_; on_goal 2 => with_unfolding_all exact rfl)

theorem execCopyConfirm_frame (a0) (s : State) : Framed [.live, .evt, .sxm, .sxmPast, .dram, .valid, .placed, .knl, .copies, .rxHeld, .rx, .deepValid, .net, .out] s (execCopyConfirm a0 s) := by
  unfold execCopyConfirm
  with_reducible repeat' first
    | assumption
    | exact Frame.refl _ _
    | intro _
    | apply Framed.next
    | apply Framed.ite
    | exact Framed.fault
    | exact Framed.refused
    | extract_lets +onlyGivenNames y
    | apply Frame.ite
    | (apply Frame.seq ?_ (State.releaseHeld_frame ..) ?_; on_goal 2 => with_unfolding_all exact rfl)
    | (apply Frame.seq ?_ (State.confirm_frame ..) ?_; on_goal 2 => with_unfolding_all exact rfl)
    | (apply Frame.of_snd (by assumption))
    | (apply Frame.of_fst (by assumption))
    | (apply Frame.of_snd2 (by assumption))
    | apply Frame.ite1
    | apply Frame.ite2
    | split

theorem execCopyRewind_frame (a0) (a1) (s : State) : Framed [.live, .evt, .sxm, .sxmPast, .dram, .placed, .ge, .knl, .copies, .rxHeld, .rx, .net, .out] s (execCopyRewind a0 a1 s) := by
  unfold execCopyRewind
  with_reducible repeat' first
    | assumption
    | exact Frame.refl _ _
    | intro _
    | apply Framed.next
    | apply Framed.ite
    | exact Framed.fault
    | exact Framed.refused
    | extract_lets +onlyGivenNames y
    | apply Frame.ite
    | (apply Frame.seq ?_ (State.releaseHeld_frame ..) ?_; on_goal 2 => with_unfolding_all exact rfl)
    | (apply Frame.seq ?_ (State.rewind_frame ..) ?_; on_goal 2 => with_unfolding_all exact rfl)
    | (apply Frame.seq ?_ (State.kennelUncorr_frame ..) ?_; on_goal 2 => with_unfolding_all exact rfl)
    | (apply Frame.of_snd (by assumption))
    | (apply Frame.of_fst (by assumption))
    | (apply Frame.of_snd2 (by assumption))
    | apply Frame.ite1
    | apply Frame.ite2
    | split

theorem execRxTimeout_frame (a0) (s : State) : Framed [.live, .evt, .out] s (execRxTimeout a0 s) := by
  unfold execRxTimeout
  with_reducible repeat' first
    | assumption
    | exact Frame.refl _ _
    | intro _
    | apply Framed.next
    | apply Framed.ite
    | exact Framed.fault
    | exact Framed.refused
    | (extract_lets +onlyGivenNames y; clear_value (e : y = _); revert y; apply Frame.cut)
    | extract_lets +onlyGivenNames y
    | apply Frame.ite
    | (apply Frame.seq ?_ (State.wr_frame ..) ?_; on_goal 2 => with_unfolding_all exact rfl)
    | (apply Frame.seq ?_ (State.report_frame ..) ?_; on_goal 2 => with_unfolding_all exact rfl)
    | (apply Frame.seq ?_ (State.sqf_frame ..) ?_; on_goal 2 => with_unfolding_all exact rfl)
    | (apply Frame.seq ?_ (State.countActive_frame ..) ?_; on_goal 2 => with_unfolding_all exact rfl)

theorem execDeepFrameMove_frame (a0) (a1) (a2) (s : State) : Framed [.live, .evt, .sxm, .sxmPast, .valid, .deepValid, .mem, .out] s (execDeepFrameMove a0 a1 a2 s) := by
  unfold execDeepFrameMove
  with_reducible repeat' first
    | assumption
    | exact Frame.refl _ _
    | intro _
    | apply Framed.next
    | apply Framed.ite
    | exact Framed.fault
    | exact Framed.refused
    | (extract_lets +onlyGivenNames y; clear_value (e : y = _); revert y; apply Frame.cut)
    | extract_lets +onlyGivenNames y
    | apply Frame.ite
    | (apply Frame.seq ?_ (State.dramUncorr_frame ..) ?_; on_goal 2 => with_unfolding_all exact rfl)
    | (apply Frame.seq ?_ (State.dramCorr_frame ..) ?_; on_goal 2 => with_unfolding_all exact rfl)
    | (apply Frame.seq ?_ (State.clearDeep_frame ..) ?_; on_goal 2 => with_unfolding_all exact rfl)
    | (apply Frame.seq ?_ (State.moveDeep_frame ..) ?_; on_goal 2 => with_unfolding_all exact rfl)
    | apply Frame.foldl
    | apply Frame.foldl1
    | apply Frame.foldl2
    | (fail_if_no_progress (apply Frame.set_mem ?_ ?_; (on_goal 2 => with_unfolding_all exact rfl)))

end Sys2Proof.Machine
end

