-- ==== Sys2Proof/Laws/DramFrame.lean ====
section
/-!
SUPPORT. What each operation of Machine/Dram.lean may change: the parts of the state listed, and never the queue.
-/

namespace Sys2Proof.Machine

theorem State.setVoice_frame (s : State) (a1) (a2) : Frame [.mem] s (State.setVoice s a1 a2) := by
  unfold State.setVoice
  with_reducible repeat' first
    | assumption
    | exact Frame.refl _ _
    | intro _
    | extract_lets +onlyGivenNames y
    | apply Frame.ite
    | (fail_if_no_progress (apply Frame.set_mem ?_ ?_; (on_goal 2 => with_unfolding_all exact rfl)))

theorem State.voiceAt_frame (s : State) (a1) (a2) : Frame [.live, .mem] s (State.voiceAt s a1 a2) := by
  unfold State.voiceAt
  with_reducible repeat' first
    | assumption
    | exact Frame.refl _ _
    | intro _
    | extract_lets +onlyGivenNames y
    | apply Frame.ite
    | (apply Frame.seq ?_ (State.wr_frame ..) ?_; on_goal 2 => with_unfolding_all exact rfl)
    | (apply Frame.seq ?_ (State.setVoice_frame ..) ?_; on_goal 2 => with_unfolding_all exact rfl)

theorem State.voiceGo_frame (s : State) (a1) : Frame [.live, .mem] s (State.voiceGo s a1) := by
  unfold State.voiceGo
  with_reducible repeat' first
    | assumption
    | exact Frame.refl _ _
    | intro _
    | extract_lets +onlyGivenNames y
    | apply Frame.ite
    | (apply Frame.seq ?_ (State.voiceAt_frame ..) ?_; on_goal 2 => with_unfolding_all exact rfl)

theorem State.voiceStop_frame (s : State) (a1) : Frame [.live, .mem] s (State.voiceStop s a1) := by
  unfold State.voiceStop
  with_reducible repeat' first
    | assumption
    | exact Frame.refl _ _
    | intro _
    | extract_lets +onlyGivenNames y
    | apply Frame.ite
    | (apply Frame.seq ?_ (State.wr_frame ..) ?_; on_goal 2 => with_unfolding_all exact rfl)
    | (apply Frame.seq ?_ (State.setVoice_frame ..) ?_; on_goal 2 => with_unfolding_all exact rfl)

theorem State.capReset_frame (s : State) : Frame [.live, .mem] s (State.capReset s) := by
  unfold State.capReset
  with_reducible repeat' first
    | assumption
    | exact Frame.refl _ _
    | intro _
    | (extract_lets +onlyGivenNames y; clear_value (e : y = _); revert y; apply Frame.cut)
    | extract_lets +onlyGivenNames y
    | apply Frame.ite
    | (apply Frame.seq ?_ (State.wrFlag_frame ..) ?_; on_goal 2 => with_unfolding_all exact rfl)
    | (apply Frame.seq ?_ (State.wr_frame ..) ?_; on_goal 2 => with_unfolding_all exact rfl)
    | (fail_if_no_progress (apply Frame.set_mem ?_ ?_; (on_goal 2 => with_unfolding_all exact rfl)))

theorem State.capGo_frame (s : State) : Frame [.live, .mem] s (State.capGo s) := by
  unfold State.capGo
  with_reducible repeat' first
    | assumption
    | exact Frame.refl _ _
    | intro _
    | (extract_lets +onlyGivenNames y; clear_value (e : y = _); revert y; apply Frame.cut)
    | extract_lets +onlyGivenNames y
    | apply Frame.ite
    | (apply Frame.seq ?_ (State.capReset_frame ..) ?_; on_goal 2 => with_unfolding_all exact rfl)
    | (fail_if_no_progress (apply Frame.set_mem ?_ ?_; (on_goal 2 => with_unfolding_all exact rfl)))

theorem State.capStopped_frame (s : State) : Frame [.mem] s (State.capStopped s) := by
  unfold State.capStopped
  with_reducible repeat' first
    | assumption
    | exact Frame.refl _ _
    | intro _
    | extract_lets +onlyGivenNames y
    | apply Frame.ite
    | (fail_if_no_progress (apply Frame.set_mem ?_ ?_; (on_goal 2 => with_unfolding_all exact rfl)))

theorem State.dlEpoch_frame (s : State) (a1) (a2) (a3) : Frame [.mem] s (State.dlEpoch s a1 a2 a3) := by
  unfold State.dlEpoch
  with_reducible repeat' first
    | assumption
    | exact Frame.refl _ _
    | intro _
    | extract_lets +onlyGivenNames y
    | apply Frame.ite
    | (fail_if_no_progress (apply Frame.set_mem ?_ ?_; (on_goal 2 => with_unfolding_all exact rfl)))

theorem State.voiceEpoch_frame (s : State) (a1) (a2) (a3) : Frame [.live, .mem] s (State.voiceEpoch s a1 a2 a3) := by
  unfold State.voiceEpoch
  with_reducible repeat' first
    | assumption
    | exact Frame.refl _ _
    | intro _
    | extract_lets +onlyGivenNames y
    | apply Frame.ite
    | (apply Frame.seq ?_ (State.wr_frame ..) ?_; on_goal 2 => with_unfolding_all exact rfl)
    | (apply Frame.seq ?_ (State.setVoice_frame ..) ?_; on_goal 2 => with_unfolding_all exact rfl)

theorem State.memEpoch_frame (s : State) (a1) (a2) : Frame [.live, .mem] s (State.memEpoch s a1 a2) := by
  unfold State.memEpoch
  with_reducible repeat' first
    | assumption
    | exact Frame.refl _ _
    | intro _
    | (extract_lets +onlyGivenNames y; clear_value (e : y = _); revert y; apply Frame.cut)
    | extract_lets +onlyGivenNames y
    | apply Frame.ite
    | (apply Frame.seq ?_ (State.wr_frame ..) ?_; on_goal 2 => with_unfolding_all exact rfl)
    | (apply Frame.seq ?_ (State.wrFlag_frame ..) ?_; on_goal 2 => with_unfolding_all exact rfl)
    | (apply Frame.seq ?_ (State.dlEpoch_frame ..) ?_; on_goal 2 => with_unfolding_all exact rfl)
    | (apply Frame.seq ?_ (State.voiceEpoch_frame ..) ?_; on_goal 2 => with_unfolding_all exact rfl)
    | apply Frame.foldl
    | apply Frame.foldl1
    | apply Frame.foldl2
    | (fail_if_no_progress (apply Frame.set_mem ?_ ?_; (on_goal 2 => with_unfolding_all exact rfl)))

theorem State.memStart_frame (s : State) (a1) : Frame [.live, .sxm, .sxmPast, .mem] s (State.memStart s a1) := by
  unfold State.memStart
  with_reducible repeat' first
    | assumption
    | exact Frame.refl _ _
    | intro _
    | (extract_lets +onlyGivenNames y; clear_value (e : y = _); revert y; apply Frame.cut)
    | extract_lets +onlyGivenNames y
    | apply Frame.ite
    | (apply Frame.seq ?_ (State.wrFlag_frame ..) ?_; on_goal 2 => with_unfolding_all exact rfl)
    | (apply Frame.seq ?_ (State.capReset_frame ..) ?_; on_goal 2 => with_unfolding_all exact rfl)
    | (apply Frame.seq ?_ (State.setSxm_frame ..) ?_; on_goal 2 => with_unfolding_all exact rfl)
    | apply Frame.eachBelow
    | apply Frame.foldl
    | apply Frame.foldl1
    | apply Frame.foldl2
    | (fail_if_no_progress (apply Frame.set_mem ?_ ?_; (on_goal 2 => with_unfolding_all exact rfl)))

theorem State.capEnd_frame (s : State) : Frame [.live, .mem] s (State.capEnd s) := by
  unfold State.capEnd
  with_reducible repeat' first
    | assumption
    | exact Frame.refl _ _
    | intro _
    | (extract_lets +onlyGivenNames y; clear_value (e : y = _); revert y; apply Frame.cut)
    | extract_lets +onlyGivenNames y
    | apply Frame.ite
    | (apply Frame.seq ?_ (State.wrFlag_frame ..) ?_; on_goal 2 => with_unfolding_all exact rfl)
    | (fail_if_no_progress (apply Frame.set_mem ?_ ?_; (on_goal 2 => with_unfolding_all exact rfl)))

theorem State.served_frame (s : State) (a1) (a2) : Frame [.mem] s (State.served s a1 a2) := by
  unfold State.served
  with_reducible repeat' first
    | assumption
    | exact Frame.refl _ _
    | intro _
    | extract_lets +onlyGivenNames y
    | apply Frame.ite
    | (fail_if_no_progress (apply Frame.set_mem ?_ ?_; (on_goal 2 => with_unfolding_all exact rfl)))

theorem State.capGap_frame (s : State) : Frame [.live, .evt, .mem, .out] s (State.capGap s) := by
  unfold State.capGap
  with_reducible repeat' first
    | assumption
    | exact Frame.refl _ _
    | intro _
    | (extract_lets +onlyGivenNames y; clear_value (e : y = _); revert y; apply Frame.cut)
    | extract_lets +onlyGivenNames y
    | apply Frame.ite
    | (apply Frame.seq ?_ (State.served_frame ..) ?_; on_goal 2 => with_unfolding_all exact rfl)
    | (apply Frame.seq ?_ (State.inc_frame ..) ?_; on_goal 2 => with_unfolding_all exact rfl)
    | (apply Frame.seq ?_ (State.capEnd_frame ..) ?_; on_goal 2 => with_unfolding_all exact rfl)
    | (apply Frame.seq ?_ (State.report_frame ..) ?_; on_goal 2 => with_unfolding_all exact rfl)
    | (apply Frame.seq ?_ (State.sqf_frame ..) ?_; on_goal 2 => with_unfolding_all exact rfl)
    | (fail_if_no_progress (apply Frame.set_mem ?_ ?_; (on_goal 2 => with_unfolding_all exact rfl)))

theorem State.capStore_frame (s : State) (a1) (a2) (a3) (a4) : Frame [.dram] s (State.capStore s a1 a2 a3 a4) := by
  fun_induction State.capStore s a1 a2 a3 a4
  all_goals
    with_reducible repeat' first
      | assumption
      | exact Frame.refl _ _
      | exact Memory.wf_setWord _ _ _
      | exact Store.wf_filter _ _ _
      | exact fun h => h
      | exact fun h k => ⟨h, k⟩
      | exact Memory.wf_setBytes _ _ _
      | intro _
      | extract_lets +onlyGivenNames y
      | apply Frame.ite
      | (apply Frame.trans ?_ (by assumption))
      | (apply Frame.of_snd (by assumption))
      | (apply Frame.of_fst (by assumption))
      | (apply Frame.of_snd2 (by assumption))
      | apply Frame.ite1
      | apply Frame.ite2
      | split
      | dsimp only
      | (fail_if_no_progress (apply Frame.set_dram ?_ ?_ ?_; (on_goal 3 => with_unfolding_all exact rfl)))

theorem State.countLate_frame (s : State) (a1) : Frame [.live, .evt, .out] s (State.countLate s a1) := by
  unfold State.countLate
  with_reducible repeat' first
    | assumption
    | exact Frame.refl _ _
    | intro _
    | extract_lets +onlyGivenNames y
    | apply Frame.ite
    | (apply Frame.seq ?_ (State.report_frame ..) ?_; on_goal 2 => with_unfolding_all exact rfl)
    | (apply Frame.seq ?_ (State.sqf_frame ..) ?_; on_goal 2 => with_unfolding_all exact rfl)
    | (apply Frame.seq ?_ (State.inc_frame ..) ?_; on_goal 2 => with_unfolding_all exact rfl)

theorem State.voiceBegin_frame (s : State) (a1) (a2) : Frame [.mem] s (State.voiceBegin s a1 a2) := by
  unfold State.voiceBegin
  with_reducible repeat' first
    | assumption
    | exact Frame.refl _ _
    | intro _
    | extract_lets +onlyGivenNames y
    | apply Frame.ite
    | (apply Frame.seq ?_ (State.setVoice_frame ..) ?_; on_goal 2 => with_unfolding_all exact rfl)

theorem State.markBad_frame (s : State) (a1) (a2) : Frame [.mem] s (State.markBad s a1 a2) := by
  unfold State.markBad
  with_reducible repeat' first
    | assumption
    | exact Frame.refl _ _
    | intro _
    | extract_lets +onlyGivenNames y
    | apply Frame.ite
    | (fail_if_no_progress (apply Frame.set_mem ?_ ?_; (on_goal 2 => with_unfolding_all exact rfl)))

theorem State.voiceFrame_frame (s : State) (a1) (a2) (a3) (a4) : Frame [.live, .evt, .sxm, .sxmPast, .mem, .out] s (State.voiceFrame s a1 a2 a3 a4) := by
  unfold State.voiceFrame
  with_reducible repeat' first
    | assumption
    | exact Frame.refl _ _
    | intro _
    | (extract_lets +onlyGivenNames y; clear_value (e : y = _); revert y; apply Frame.cut)
    | extract_lets +onlyGivenNames y
    | apply Frame.ite
    | (apply Frame.seq ?_ (State.markBad_frame ..) ?_; on_goal 2 => with_unfolding_all exact rfl)
    | (apply Frame.seq ?_ (State.dramUncorr_frame ..) ?_; on_goal 2 => with_unfolding_all exact rfl)
    | (apply Frame.seq ?_ (State.setSxm_frame ..) ?_; on_goal 2 => with_unfolding_all exact rfl)
    | (apply Frame.seq ?_ (State.setVoice_frame ..) ?_; on_goal 2 => with_unfolding_all exact rfl)

theorem State.voiceStatus_frame (s : State) (a1) : Frame [.live] s (State.voiceStatus s a1) := by
  unfold State.voiceStatus
  with_reducible repeat' first
    | assumption
    | exact Frame.refl _ _
    | intro _
    | extract_lets +onlyGivenNames y
    | apply Frame.ite
    | (apply Frame.seq ?_ (State.wr_frame ..) ?_; on_goal 2 => with_unfolding_all exact rfl)
    | (apply Frame.seq ?_ (State.wrS_frame ..) ?_; on_goal 2 => with_unfolding_all exact rfl)

theorem State.cueRead_frame (s : State) (a1) : Frame [.live, .evt, .sxm, .sxmPast, .mem, .out] s (State.cueRead s a1) := by
  unfold State.cueRead
  with_reducible repeat' first
    | assumption
    | exact Frame.refl _ _
    | intro _
    | (extract_lets +onlyGivenNames y; clear_value (e : y = _); revert y; apply Frame.cut)
    | extract_lets +onlyGivenNames y
    | apply Frame.ite
    | (apply Frame.seq ?_ (State.voiceBegin_frame ..) ?_; on_goal 2 => with_unfolding_all exact rfl)
    | (apply Frame.seq ?_ (State.voiceFrame_frame ..) ?_; on_goal 2 => with_unfolding_all exact rfl)
    | (apply Frame.seq ?_ (State.voiceStatus_frame ..) ?_; on_goal 2 => with_unfolding_all exact rfl)
    | apply Frame.eachBelow

theorem State.dlMiss_frame (s : State) (a1) (a2) : Frame [.mem] s (State.dlMiss s a1 a2) := by
  unfold State.dlMiss
  with_reducible repeat' first
    | assumption
    | exact Frame.refl _ _
    | intro _
    | extract_lets +onlyGivenNames y
    | apply Frame.ite
    | (fail_if_no_progress (apply Frame.set_mem ?_ ?_; (on_goal 2 => with_unfolding_all exact rfl)))

theorem State.dlRead_frame (s : State) (a1) (a2) (a3) (a4) : Frame [.live, .evt, .sxm, .sxmPast, .mem, .out] s (State.dlRead s a1 a2 a3 a4) := by
  unfold State.dlRead
  with_reducible repeat' first
    | assumption
    | exact Frame.refl _ _
    | intro _
    | (extract_lets +onlyGivenNames y; clear_value (e : y = _); revert y; apply Frame.cut)
    | extract_lets +onlyGivenNames y
    | apply Frame.ite
    | (apply Frame.seq ?_ (State.dramUncorr_frame ..) ?_; on_goal 2 => with_unfolding_all exact rfl)
    | (apply Frame.seq ?_ (State.setSxm_frame ..) ?_; on_goal 2 => with_unfolding_all exact rfl)
    | (apply Frame.seq ?_ (State.markBad_frame ..) ?_; on_goal 2 => with_unfolding_all exact rfl)

theorem State.dlWrite_frame (s : State) (a1) (a2) (a3) : Frame [.dram, .free, .mem] s (State.dlWrite s a1 a2 a3) := by
  unfold State.dlWrite
  with_reducible repeat' first
    | assumption
    | exact Frame.refl _ _
    | exact Memory.wf_setWord _ _ _
    | exact Store.wf_filter _ _ _
    | exact fun h => h
    | exact fun h k => ⟨h, k⟩
    | exact Memory.wf_setBytes _ _ _
    | intro _
    | extract_lets +onlyGivenNames y
    | apply Frame.ite
    | (apply Frame.seq ?_ (State.readSample_frame ..) ?_; on_goal 2 => with_unfolding_all exact rfl)
    | (fail_if_no_progress (apply Frame.set_mem ?_ ?_; (on_goal 2 => with_unfolding_all exact rfl)))
    | (apply Frame.of_snd (by assumption))
    | (apply Frame.of_fst (by assumption))
    | (apply Frame.of_snd2 (by assumption))
    | apply Frame.ite1
    | apply Frame.ite2
    | split
    | dsimp only
    | (fail_if_no_progress (apply Frame.set_dram_mem ?_ ?_ ?_ ?_; (on_goal 4 => with_unfolding_all exact rfl); (on_goal 3 => with_unfolding_all exact rfl)))

theorem State.markAllBad_frame (s : State) (a1) : Frame [.mem] s (State.markAllBad s a1) := by
  unfold State.markAllBad
  with_reducible repeat' first
    | assumption
    | exact Frame.refl _ _
    | intro _
    | extract_lets +onlyGivenNames y
    | apply Frame.ite
    | (apply Frame.seq ?_ (State.markBad_frame ..) ?_; on_goal 2 => with_unfolding_all exact rfl)
    | apply Frame.eachBelow

theorem State.missDeadline_frame (s : State) (a1) (a2) : Frame [.live, .evt, .sxm, .sxmPast, .mem, .out] s (State.missDeadline s a1 a2) := by
  unfold State.missDeadline
  with_reducible repeat' first
    | assumption
    | exact Frame.refl _ _
    | intro _
    | (extract_lets +onlyGivenNames y; clear_value (e : y = _); revert y; apply Frame.cut)
    | extract_lets +onlyGivenNames y
    | apply Frame.ite
    | (apply Frame.seq ?_ (State.capGap_frame ..) ?_; on_goal 2 => with_unfolding_all exact rfl)
    | (apply Frame.seq ?_ (State.served_frame ..) ?_; on_goal 2 => with_unfolding_all exact rfl)
    | (apply Frame.seq ?_ (State.countLate_frame ..) ?_; on_goal 2 => with_unfolding_all exact rfl)
    | (apply Frame.seq ?_ (State.markAllBad_frame ..) ?_; on_goal 2 => with_unfolding_all exact rfl)
    | (apply Frame.seq ?_ (State.dlMiss_frame ..) ?_; on_goal 2 => with_unfolding_all exact rfl)
    | (apply Frame.seq ?_ (State.cueRead_frame ..) ?_; on_goal 2 => with_unfolding_all exact rfl)

theorem State.missAll_frame (s : State) : Frame [.live, .evt, .sxm, .sxmPast, .mem, .out] s (State.missAll s) := by
  unfold State.missAll
  with_reducible repeat' first
    | assumption
    | exact Frame.refl _ _
    | intro _
    | extract_lets +onlyGivenNames y
    | apply Frame.ite
    | (apply Frame.seq ?_ (State.missDeadline_frame ..) ?_; on_goal 2 => with_unfolding_all exact rfl)
    | apply Frame.foldl

theorem State.memFreeze_frame (s : State) (a1) : Frame [.live, .evt, .sxm, .sxmPast, .valid, .deepValid, .mem, .out] s (State.memFreeze s a1) := by
  unfold State.memFreeze
  with_reducible repeat' first
    | assumption
    | exact Frame.refl _ _
    | intro _
    | (extract_lets +onlyGivenNames y; clear_value (e : y = _); revert y; apply Frame.cut)
    | extract_lets +onlyGivenNames y
    | apply Frame.ite
    | (apply Frame.seq ?_ (State.missAll_frame ..) ?_; on_goal 2 => with_unfolding_all exact rfl)
    | (apply Frame.seq ?_ (State.clearDeep_frame ..) ?_; on_goal 2 => with_unfolding_all exact rfl)
    | (apply Frame.seq ?_ (State.setValid_frame ..) ?_; on_goal 2 => with_unfolding_all exact rfl)
    | apply Frame.eachBelow
    | apply Frame.foldl
    | apply Frame.foldl1
    | apply Frame.foldl2
    | (fail_if_no_progress (apply Frame.set_mem ?_ ?_; (on_goal 2 => with_unfolding_all exact rfl)))

theorem execDramTransactionComplete_frame (a0) (a1) (a2) (a3) (s : State) : Framed [.live, .evt, .dram, .ge, .out] s (execDramTransactionComplete a0 a1 a2 a3 s) := by
  unfold execDramTransactionComplete
  with_reducible repeat' first
    | assumption
    | exact Frame.refl _ _
    | intro _
    | apply Framed.next
    | apply Framed.ite
    | exact Framed.fault
    | exact Framed.refused
    | (extract_lets +onlyGivenNames y; clear_value (e : y = _); revert y; apply Frame.cut)
    | extract_lets +onlyGivenNames y
    | apply Frame.ite
    | (apply Frame.seq ?_ (State.dramCorr_frame ..) ?_; on_goal 2 => with_unfolding_all exact rfl)
    | (apply Frame.seq ?_ (State.dramUncorr_frame ..) ?_; on_goal 2 => with_unfolding_all exact rfl)
    | (apply Frame.seq ?_ (State.setFilled_frame ..) ?_; on_goal 2 => with_unfolding_all exact rfl)
    | (apply Frame.seq ?_ (State.completeTicket_frame ..) ?_; on_goal 2 => with_unfolding_all exact rfl)
    | apply Frame.foldl
    | apply Frame.foldl1
    | apply Frame.foldl2
    | (apply Frame.of_snd (by assumption))
    | (apply Frame.of_fst (by assumption))
    | (apply Frame.of_snd2 (by assumption))
    | apply Frame.ite1
    | apply Frame.ite2
    | split

theorem execDramTrained_frame (s : State) : Framed [.live, .evt, .out] s (execDramTrained s) := by
  unfold execDramTrained
  with_reducible repeat' first
    | assumption
    | exact Frame.refl _ _
    | intro _
    | apply Framed.next
    | apply Framed.ite
    | exact Framed.fault
    | exact Framed.refused
    | (extract_lets +onlyGivenNames y; clear_value (e : y = _); revert y; apply Frame.cut)
    | extract_lets +onlyGivenNames y
    | apply Frame.ite
    | (apply Frame.seq ?_ (State.wr_frame ..) ?_; on_goal 2 => with_unfolding_all exact rfl)
    | (apply Frame.seq ?_ (State.wrFlag_frame ..) ?_; on_goal 2 => with_unfolding_all exact rfl)
    | (apply Frame.seq ?_ (State.report_frame ..) ?_; on_goal 2 => with_unfolding_all exact rfl)
    | (apply Frame.seq ?_ (State.sqf_frame ..) ?_; on_goal 2 => with_unfolding_all exact rfl)

theorem execDramLate_frame (a0) (a1) (s : State) : Framed [.live, .evt, .sxm, .sxmPast, .mem, .out] s (execDramLate a0 a1 s) := by
  unfold execDramLate
  with_reducible repeat' first
    | assumption
    | exact Frame.refl _ _
    | intro _
    | apply Framed.next
    | apply Framed.ite
    | exact Framed.fault
    | exact Framed.refused
    | extract_lets +onlyGivenNames y
    | apply Frame.ite
    | (apply Frame.seq ?_ (State.missDeadline_frame ..) ?_; on_goal 2 => with_unfolding_all exact rfl)

theorem execDelayLineService_frame (a0) (a1) (a2) (s : State) : Framed [.live, .evt, .sxm, .sxmPast, .dram, .free, .mem, .out] s (execDelayLineService a0 a1 a2 s) := by
  unfold execDelayLineService
  with_reducible repeat' first
    | assumption
    | exact Frame.refl _ _
    | intro _
    | apply Framed.next
    | apply Framed.ite
    | exact Framed.fault
    | exact Framed.refused
    | (extract_lets +onlyGivenNames y; clear_value (e : y = _); revert y; apply Frame.cut)
    | extract_lets +onlyGivenNames y
    | apply Frame.ite
    | (apply Frame.seq ?_ (State.dramCorr_frame ..) ?_; on_goal 2 => with_unfolding_all exact rfl)
    | (apply Frame.seq ?_ (State.dlWrite_frame ..) ?_; on_goal 2 => with_unfolding_all exact rfl)
    | (apply Frame.seq ?_ (State.dlRead_frame ..) ?_; on_goal 2 => with_unfolding_all exact rfl)
    | (apply Frame.seq ?_ (State.served_frame ..) ?_; on_goal 2 => with_unfolding_all exact rfl)
    | apply Frame.eachBelow
    | (fail_if_no_progress (apply Frame.set_mem ?_ ?_; (on_goal 2 => with_unfolding_all exact rfl)))

theorem execVoiceSampleRead_frame (a0) (a1) (s : State) : Framed [.live, .evt, .sxm, .sxmPast, .mem, .out] s (execVoiceSampleRead a0 a1 s) := by
  unfold execVoiceSampleRead
  with_reducible repeat' first
    | assumption
    | exact Frame.refl _ _
    | intro _
    | apply Framed.next
    | apply Framed.ite
    | exact Framed.fault
    | exact Framed.refused
    | extract_lets +onlyGivenNames y
    | apply Frame.ite
    | (apply Frame.seq ?_ (State.served_frame ..) ?_; on_goal 2 => with_unfolding_all exact rfl)
    | (apply Frame.seq ?_ (State.cueRead_frame ..) ?_; on_goal 2 => with_unfolding_all exact rfl)
    | (apply Frame.seq ?_ (State.dramCorr_frame ..) ?_; on_goal 2 => with_unfolding_all exact rfl)

theorem execCaptureRecord_frame (a0) (s : State) : Framed [.live, .evt, .dram, .mem, .out] s (execCaptureRecord a0 s) := by
  unfold execCaptureRecord
  with_reducible repeat' first
    | assumption
    | exact Frame.refl _ _
    | intro _
    | apply Framed.next
    | apply Framed.ite
    | exact Framed.fault
    | exact Framed.refused
    | (extract_lets +onlyGivenNames y; clear_value (e : y = _); revert y; apply Frame.cut)
    | extract_lets +onlyGivenNames y
    | apply Frame.ite
    | (apply Frame.seq ?_ (State.wrFlag_frame ..) ?_; on_goal 2 => with_unfolding_all exact rfl)
    | (apply Frame.seq ?_ (State.served_frame ..) ?_; on_goal 2 => with_unfolding_all exact rfl)
    | (apply Frame.seq ?_ (State.report_frame ..) ?_; on_goal 2 => with_unfolding_all exact rfl)
    | (apply Frame.seq ?_ (State.sqf_frame ..) ?_; on_goal 2 => with_unfolding_all exact rfl)
    | (apply Frame.seq ?_ (State.capStore_frame ..) ?_; on_goal 2 => with_unfolding_all exact rfl)
    | (apply Frame.seq ?_ (State.inc_frame ..) ?_; on_goal 2 => with_unfolding_all exact rfl)
    | (apply Frame.seq ?_ (State.wr_frame ..) ?_; on_goal 2 => with_unfolding_all exact rfl)
    | (apply Frame.seq ?_ (State.capEnd_frame ..) ?_; on_goal 2 => with_unfolding_all exact rfl)
    | (apply Frame.seq ?_ (State.capGap_frame ..) ?_; on_goal 2 => with_unfolding_all exact rfl)
    | (fail_if_no_progress (apply Frame.set_mem ?_ ?_; (on_goal 2 => with_unfolding_all exact rfl)))

theorem execVoiceStart_frame (a0) (s : State) : Framed [.live, .mem] s (execVoiceStart a0 s) := by
  unfold execVoiceStart
  with_reducible repeat' first
    | assumption
    | exact Frame.refl _ _
    | intro _
    | apply Framed.next
    | apply Framed.ite
    | exact Framed.fault
    | exact Framed.refused
    | (extract_lets +onlyGivenNames y; clear_value (e : y = _); revert y; apply Frame.cut)
    | extract_lets +onlyGivenNames y
    | apply Frame.ite
    | (apply Frame.seq ?_ (State.setVoice_frame ..) ?_; on_goal 2 => with_unfolding_all exact rfl)
    | (apply Frame.seq ?_ (State.wr_frame ..) ?_; on_goal 2 => with_unfolding_all exact rfl)
    | (apply Frame.of_snd (by assumption))
    | (apply Frame.of_fst (by assumption))
    | (apply Frame.of_snd2 (by assumption))
    | apply Frame.ite1
    | apply Frame.ite2
    | split

theorem execCueVoiceDone_frame (a0) (s : State) : Framed [.live, .evt, .mem, .out] s (execCueVoiceDone a0 s) := by
  unfold execCueVoiceDone
  with_reducible repeat' first
    | assumption
    | exact Frame.refl _ _
    | intro _
    | apply Framed.next
    | apply Framed.ite
    | exact Framed.fault
    | exact Framed.refused
    | (extract_lets +onlyGivenNames y; clear_value (e : y = _); revert y; apply Frame.cut)
    | extract_lets +onlyGivenNames y
    | apply Frame.ite
    | (apply Frame.seq ?_ (State.wr_frame ..) ?_; on_goal 2 => with_unfolding_all exact rfl)
    | (apply Frame.seq ?_ (State.setVoice_frame ..) ?_; on_goal 2 => with_unfolding_all exact rfl)
    | (apply Frame.seq ?_ (State.report_frame ..) ?_; on_goal 2 => with_unfolding_all exact rfl)
    | (apply Frame.seq ?_ (State.sqf_frame ..) ?_; on_goal 2 => with_unfolding_all exact rfl)
    | (apply Frame.of_snd (by assumption))
    | (apply Frame.of_fst (by assumption))
    | (apply Frame.of_snd2 (by assumption))
    | apply Frame.ite1
    | apply Frame.ite2
    | split

end Sys2Proof.Machine
end

