-- ==== Sys2Proof/Laws/GenahVectorFrame.lean ====
section
/-!
SUPPORT. What each operation of Machine/GenahVector.lean may change: the parts of the state listed, and never the queue.
-/

namespace Sys2Proof.Machine

theorem State.vector_frame (s : State) (a1) (a2) (a3) (a4) (a5) : Frame [.ge] s (State.vector s a1 a2 a3 a4 a5) := by
  unfold State.vector
  with_reducible repeat' first
    | assumption
    | exact Frame.refl _ _
    | intro _
    | extract_lets +onlyGivenNames y
    | apply Frame.ite
    | (apply Frame.seq ?_ (State.scalar_frame ..) ?_; on_goal 2 => with_unfolding_all exact rfl)

theorem execVadd_frame (a0) (a1) (a2) (a3) (a4) (a5) (s : State) : Framed [.ge] s (execVadd a0 a1 a2 a3 a4 a5 s) := by
  unfold execVadd
  with_reducible repeat' first
    | assumption
    | exact Frame.refl _ _
    | intro _
    | apply Framed.next
    | apply Framed.ite
    | exact Framed.fault
    | exact Framed.refused
    | extract_lets +onlyGivenNames y
    | apply Frame.ite
    | (apply Frame.seq ?_ (State.vector_frame ..) ?_; on_goal 2 => with_unfolding_all exact rfl)

theorem execVmul_frame (a0) (a1) (a2) (a3) (a4) (s : State) : Framed [.ge] s (execVmul a0 a1 a2 a3 a4 s) := by
  unfold execVmul
  with_reducible repeat' first
    | assumption
    | exact Frame.refl _ _
    | intro _
    | apply Framed.next
    | apply Framed.ite
    | exact Framed.fault
    | exact Framed.refused
    | extract_lets +onlyGivenNames y
    | apply Frame.ite
    | (apply Frame.seq ?_ (State.vector_frame ..) ?_; on_goal 2 => with_unfolding_all exact rfl)

theorem execVmac_frame (a0) (a1) (a2) (a3) (a4) (a5) (a6) (s : State) : Framed [.ge] s (execVmac a0 a1 a2 a3 a4 a5 a6 s) := by
  unfold execVmac
  with_reducible repeat' first
    | assumption
    | exact Frame.refl _ _
    | intro _
    | apply Framed.next
    | apply Framed.ite
    | exact Framed.fault
    | exact Framed.refused
    | extract_lets +onlyGivenNames y
    | apply Frame.ite
    | (apply Frame.seq ?_ (State.vector_frame ..) ?_; on_goal 2 => with_unfolding_all exact rfl)

theorem execVsat_frame (a0) (a1) (a2) (a3) (a4) (s : State) : Framed [.ge] s (execVsat a0 a1 a2 a3 a4 s) := by
  unfold execVsat
  with_reducible repeat' first
    | assumption
    | exact Frame.refl _ _
    | intro _
    | apply Framed.next
    | apply Framed.ite
    | exact Framed.fault
    | exact Framed.refused
    | extract_lets +onlyGivenNames y
    | apply Frame.ite
    | (apply Frame.seq ?_ (State.vector_frame ..) ?_; on_goal 2 => with_unfolding_all exact rfl)

theorem execVsel_frame (a0) (a1) (a2) (a3) (a4) (s : State) : Framed [.ge] s (execVsel a0 a1 a2 a3 a4 s) := by
  unfold execVsel
  with_reducible repeat' first
    | assumption
    | exact Frame.refl _ _
    | intro _
    | apply Framed.next
    | apply Framed.ite
    | exact Framed.fault
    | exact Framed.refused
    | extract_lets +onlyGivenNames y
    | apply Frame.ite
    | (apply Frame.seq ?_ (State.scalar_frame ..) ?_; on_goal 2 => with_unfolding_all exact rfl)

theorem execVpeak_frame (a0) (a1) (a2) (a3) (s : State) : Framed [.ge] s (execVpeak a0 a1 a2 a3 s) := by
  unfold execVpeak
  with_reducible repeat' first
    | assumption
    | exact Frame.refl _ _
    | intro _
    | apply Framed.next
    | apply Framed.ite
    | exact Framed.fault
    | exact Framed.refused
    | extract_lets +onlyGivenNames y
    | apply Frame.ite
    | (apply Frame.seq ?_ (State.vector_frame ..) ?_; on_goal 2 => with_unfolding_all exact rfl)

theorem execVramp_frame (a0) (a1) (a2) (a3) (a4) (s : State) : Framed [.ge] s (execVramp a0 a1 a2 a3 a4 s) := by
  unfold execVramp
  with_reducible repeat' first
    | assumption
    | exact Frame.refl _ _
    | intro _
    | apply Framed.next
    | apply Framed.ite
    | exact Framed.fault
    | exact Framed.refused
    | extract_lets +onlyGivenNames y
    | apply Frame.ite
    | (apply Frame.seq ?_ (State.vector_frame ..) ?_; on_goal 2 => with_unfolding_all exact rfl)

theorem execVdith_frame (a0) (a1) (a2) (a3) (a4) (a5) (a6) (s : State) : Framed [.ge] s (execVdith a0 a1 a2 a3 a4 a5 a6 s) := by
  unfold execVdith
  with_reducible repeat' first
    | assumption
    | exact Frame.refl _ _
    | intro _
    | apply Framed.next
    | apply Framed.ite
    | exact Framed.fault
    | exact Framed.refused
    | extract_lets +onlyGivenNames y
    | apply Frame.ite
    | (apply Frame.seq ?_ (State.scalar_frame ..) ?_; on_goal 2 => with_unfolding_all exact rfl)

end Sys2Proof.Machine
end

