-- ==== Sys2Proof/Laws/TxFlowFrame.lean ====
section
/-!
SUPPORT. What each operation of Machine/TxFlow.lean may change: the parts of the state listed, and never the queue.
-/

namespace Sys2Proof.Machine

theorem State.txClear_frame (s : State) : Frame [.live] s (State.txClear s) := by
  unfold State.txClear
  with_reducible repeat' first
    | assumption
    | exact Frame.refl _ _
    | exact Memory.wf_setWord _ _ _
    | exact Store.wf_filter _ _ _
    | exact fun h => h
    | exact fun h k => ⟨h, k⟩
    | exact Memory.wf_setBytes _ _ _
    | intro _
    | extract_lets +onlyGivenNames y
    | apply Frame.ite
    | (apply Frame.of_snd (by assumption))
    | (apply Frame.of_fst (by assumption))
    | (apply Frame.of_snd2 (by assumption))
    | apply Frame.ite1
    | apply Frame.ite2
    | split
    | dsimp only
    | (fail_if_no_progress (apply Frame.set_live ?_ ?_ ?_; (on_goal 3 => with_unfolding_all exact rfl)))

theorem State.profileLoad_frame (s : State) (a1) (a2) (a3) (a4) : Frame [.live, .shadow, .ckpt, .evt, .out] s (State.profileLoad s a1 a2 a3 a4).1 := by
  unfold State.profileLoad
  with_reducible repeat' first
    | assumption
    | exact Frame.refl _ _
    | intro _
    | (extract_lets +onlyGivenNames y; clear_value (e : y = _); revert y; apply Frame.cut)
    | extract_lets +onlyGivenNames y
    | apply Frame.ite
    | (apply Frame.seq ?_ (State.refuseFull_frame ..) ?_; on_goal 2 => with_unfolding_all exact rfl)
    | (apply Frame.seq ?_ (State.putShadow_frame ..) ?_; on_goal 2 => with_unfolding_all exact rfl)
    | (apply Frame.seq ?_ (State.accErr_frame ..) ?_; on_goal 2 => with_unfolding_all exact rfl)
    | (apply Frame.seq ?_ (State.journal_frame ..) ?_; on_goal 2 => with_unfolding_all exact rfl)
    | apply Frame.foldl
    | apply Frame.foldl1
    | apply Frame.foldl2
    | (apply Frame.of_snd (by assumption))
    | (apply Frame.of_fst (by assumption))
    | (apply Frame.of_snd2 (by assumption))
    | apply Frame.ite1

theorem State.txProfile_frame (s : State) (a1) (a2) : Frame [.live, .shadow, .ckpt, .evt, .txLoaded, .out] s (State.txProfile s a1 a2) := by
  unfold State.txProfile
  with_reducible repeat' first
    | assumption
    | exact Frame.refl _ _
    | intro _
    | (extract_lets +onlyGivenNames y; clear_value (e : y = _); revert y; apply Frame.cut)
    | extract_lets +onlyGivenNames y
    | apply Frame.ite
    | (apply Frame.seq ?_ (State.profileLoad_frame ..) ?_; on_goal 2 => with_unfolding_all exact rfl)
    | (apply Frame.seq ?_ (State.wr_frame ..) ?_; on_goal 2 => with_unfolding_all exact rfl)
    | (fail_if_no_progress (apply Frame.set_txLoaded ?_ ?_; (on_goal 2 => with_unfolding_all exact rfl)))

theorem State.truncate_frame (s : State) (a1) : Frame [.live, .evt, .out] s (State.truncate s a1) := by
  unfold State.truncate
  with_reducible repeat' first
    | assumption
    | exact Frame.refl _ _
    | intro _
    | extract_lets +onlyGivenNames y
    | apply Frame.ite
    | (apply Frame.seq ?_ (State.report_frame ..) ?_; on_goal 2 => with_unfolding_all exact rfl)
    | (apply Frame.seq ?_ (State.sqf_frame ..) ?_; on_goal 2 => with_unfolding_all exact rfl)
    | (apply Frame.seq ?_ (State.inc_frame ..) ?_; on_goal 2 => with_unfolding_all exact rfl)

theorem State.setTx_frame (s : State) (a1) (a2) : Frame [.tx] s (State.setTx s a1 a2) := by
  unfold State.setTx
  with_reducible repeat' first
    | assumption
    | exact Frame.refl _ _
    | intro _
    | extract_lets +onlyGivenNames y
    | apply Frame.ite
    | (fail_if_no_progress (apply Frame.set_tx ?_ ?_; (on_goal 2 => with_unfolding_all exact rfl)))

theorem State.anchorFlow_frame (s : State) (a1) (a2) : Frame [.live, .evt, .tx, .out] s (State.anchorFlow s a1 a2) := by
  unfold State.anchorFlow
  with_reducible repeat' first
    | assumption
    | exact Frame.refl _ _
    | intro _
    | (extract_lets +onlyGivenNames y; clear_value (e : y = _); revert y; apply Frame.cut)
    | extract_lets +onlyGivenNames y
    | apply Frame.ite
    | (apply Frame.seq ?_ (State.truncate_frame ..) ?_; on_goal 2 => with_unfolding_all exact rfl)
    | (apply Frame.seq ?_ (State.setTx_frame ..) ?_; on_goal 2 => with_unfolding_all exact rfl)
    | (apply Frame.seq ?_ (State.wr_frame ..) ?_; on_goal 2 => with_unfolding_all exact rfl)

theorem State.newRecord_frame (s : State) (a1) (a2) : Frame [.live, .tx] s (State.newRecord s a1 a2) := by
  unfold State.newRecord
  with_reducible repeat' first
    | assumption
    | exact Frame.refl _ _
    | exact Memory.wf_setWord _ _ _
    | exact Store.wf_filter _ _ _
    | exact fun h => h
    | exact fun h k => ⟨h, k⟩
    | exact Memory.wf_setBytes _ _ _
    | intro _
    | (extract_lets +onlyGivenNames y; clear_value (e : y = _); revert y; apply Frame.cut)
    | extract_lets +onlyGivenNames y
    | apply Frame.ite
    | (apply Frame.seq ?_ (State.setTx_frame ..) ?_; on_goal 2 => with_unfolding_all exact rfl)
    | (apply Frame.seq ?_ (State.setNum_frame ..) ?_; on_goal 2 => with_unfolding_all exact rfl)
    | (apply Frame.of_snd (by assumption))
    | (apply Frame.of_fst (by assumption))
    | (apply Frame.of_snd2 (by assumption))
    | apply Frame.ite1
    | apply Frame.ite2
    | split
    | dsimp only
    | (fail_if_no_progress (apply Frame.set_live ?_ ?_ ?_; (on_goal 3 => with_unfolding_all exact rfl)))

theorem State.holdFlow_frame (s : State) (a1) (a2) : Frame [.live, .tx] s (State.holdFlow s a1 a2) := by
  unfold State.holdFlow
  with_reducible repeat' first
    | assumption
    | exact Frame.refl _ _
    | intro _
    | extract_lets +onlyGivenNames y
    | apply Frame.ite
    | (apply Frame.seq ?_ (State.wr_frame ..) ?_; on_goal 2 => with_unfolding_all exact rfl)
    | (apply Frame.seq ?_ (State.setTx_frame ..) ?_; on_goal 2 => with_unfolding_all exact rfl)

theorem State.txEpochOne_frame (s : State) (a1) (a2) (a3) (a4) : Frame [.live, .evt, .tx, .out] s (State.txEpochOne s a1 a2 a3 a4) := by
  unfold State.txEpochOne
  with_reducible repeat' first
    | assumption
    | exact Frame.refl _ _
    | intro _
    | (extract_lets +onlyGivenNames y; clear_value (e : y = _); revert y; apply Frame.cut)
    | extract_lets +onlyGivenNames y
    | apply Frame.ite
    | (apply Frame.seq ?_ (State.setTx_frame ..) ?_; on_goal 2 => with_unfolding_all exact rfl)
    | (apply Frame.seq ?_ (State.newRecord_frame ..) ?_; on_goal 2 => with_unfolding_all exact rfl)
    | (apply Frame.seq ?_ (State.wr_frame ..) ?_; on_goal 2 => with_unfolding_all exact rfl)
    | (apply Frame.seq ?_ (State.anchorFlow_frame ..) ?_; on_goal 2 => with_unfolding_all exact rfl)
    | (apply Frame.seq ?_ (State.holdFlow_frame ..) ?_; on_goal 2 => with_unfolding_all exact rfl)
    | (apply Frame.seq ?_ (State.truncate_frame ..) ?_; on_goal 2 => with_unfolding_all exact rfl)

theorem State.txEpoch_frame (s : State) (a1) (a2) (a3) : Frame [.live, .evt, .tx, .out] s (State.txEpoch s a1 a2 a3) := by
  unfold State.txEpoch
  with_reducible repeat' first
    | assumption
    | exact Frame.refl _ _
    | intro _
    | (extract_lets +onlyGivenNames y; clear_value (e : y = _); revert y; apply Frame.cut)
    | extract_lets +onlyGivenNames y
    | apply Frame.ite
    | (apply Frame.seq ?_ (State.newRecord_frame ..) ?_; on_goal 2 => with_unfolding_all exact rfl)
    | (apply Frame.seq ?_ (State.txEpochOne_frame ..) ?_; on_goal 2 => with_unfolding_all exact rfl)
    | (apply Frame.seq ?_ (State.wr_frame ..) ?_; on_goal 2 => with_unfolding_all exact rfl)
    | apply Frame.foldl

theorem State.duePacket_frame (s : State) (a1) (a2) (a3) : Frame [.live] s (State.duePacket s a1 a2 a3).2 := by
  unfold State.duePacket
  with_reducible repeat' first
    | assumption
    | exact Frame.refl _ _
    | intro _
    | extract_lets +onlyGivenNames y
    | apply Frame.ite
    | (apply Frame.seq ?_ (State.wr_frame ..) ?_; on_goal 2 => with_unfolding_all exact rfl)

theorem State.duePackets_frame (s : State) (a1) (a2) (a3) : Frame [.live] s (State.duePackets s a1 a2 a3).2 := by
  fun_induction State.duePackets s a1 a2 a3
  all_goals
    with_reducible repeat' first
      | assumption
      | exact Frame.refl _ _
      | intro _
      | extract_lets +onlyGivenNames y
      | apply Frame.ite
      | (apply Frame.seq ?_ (State.duePacket_frame ..) ?_; on_goal 2 => with_unfolding_all exact rfl)
      | (apply Frame.trans ?_ (by assumption))
      | (apply Frame.of_snd (by assumption))

theorem State.dueFlow_frame (s : State) (a1) (a2) : Frame [.live, .evt, .tx, .out] s (State.dueFlow s a1 a2).2 := by
  unfold State.dueFlow
  with_reducible repeat' first
    | assumption
    | exact Frame.refl _ _
    | intro _
    | (extract_lets +onlyGivenNames y; clear_value (e : y = _); revert y; apply Frame.cut)
    | extract_lets +onlyGivenNames y
    | apply Frame.ite
    | (apply Frame.seq ?_ (State.holdFlow_frame ..) ?_; on_goal 2 => with_unfolding_all exact rfl)
    | (apply Frame.seq ?_ (State.setTx_frame ..) ?_; on_goal 2 => with_unfolding_all exact rfl)
    | (apply Frame.seq ?_ (State.anchorFlow_frame ..) ?_; on_goal 2 => with_unfolding_all exact rfl)
    | (apply Frame.seq ?_ (State.duePackets_frame ..) ?_; on_goal 2 => with_unfolding_all exact rfl)
    | (apply Frame.seq ?_ (State.wr_frame ..) ?_; on_goal 2 => with_unfolding_all exact rfl)
    | (apply Frame.seq ?_ (State.duePacket_frame ..) ?_; on_goal 2 => with_unfolding_all exact rfl)
    | (apply Frame.of_snd (by assumption))
    | (apply Frame.of_fst (by assumption))
    | (apply Frame.of_snd2 (by assumption))
    | apply Frame.ite1
    | apply Frame.ite2

theorem State.dueAll_frame (s : State) (a1) (a2) : Frame [.live, .evt, .tx, .out] s (State.dueAll s a1 a2).2 := by
  fun_induction State.dueAll s a1 a2
  all_goals
    with_reducible repeat' first
      | assumption
      | exact Frame.refl _ _
      | intro _
      | extract_lets +onlyGivenNames y
      | apply Frame.ite
      | (apply Frame.seq ?_ (State.dueFlow_frame ..) ?_; on_goal 2 => with_unfolding_all exact rfl)
      | (apply Frame.trans ?_ (by assumption))
      | (apply Frame.of_snd (by assumption))

theorem State.txContainer_frame (s : State) (a1) (a2) (a3) (a4) : Frame [.free] s (State.txContainer s a1 a2 a3 a4).2 := by
  unfold State.txContainer
  with_reducible repeat' first
    | assumption
    | exact Frame.refl _ _
    | intro _
    | extract_lets +onlyGivenNames y
    | apply Frame.ite
    | (apply Frame.seq ?_ (State.readSample_frame ..) ?_; on_goal 2 => with_unfolding_all exact rfl)
    | (apply Frame.of_snd (by assumption))
    | (apply Frame.of_fst (by assumption))
    | (apply Frame.of_snd2 (by assumption))
    | apply Frame.ite1
    | apply Frame.ite2

theorem State.frameBytes_frame (s : State) (a1) (a2) (a3) (a4) (a5) (a6) (a7) : Frame [.free] s (State.frameBytes s a1 a2 a3 a4 a5 a6 a7).2.2 := by
  fun_induction State.frameBytes s a1 a2 a3 a4 a5 a6 a7
  all_goals
    with_reducible repeat' first
      | assumption
      | exact Frame.refl _ _
      | intro _
      | extract_lets +onlyGivenNames y
      | apply Frame.ite
      | (apply Frame.seq ?_ (State.txContainer_frame ..) ?_; on_goal 2 => with_unfolding_all exact rfl)
      | (apply Frame.trans ?_ (by assumption))
      | (apply Frame.of_snd (by assumption))
      | (apply Frame.of_fst (by assumption))
      | (apply Frame.of_snd2 (by assumption))

theorem State.gather_frame (s : State) (a1) (a2) : Frame [.sxm, .sxmPast, .free, .marks] s (State.gather s a1 a2) := by
  unfold State.gather
  with_reducible repeat' first
    | assumption
    | exact Frame.refl _ _
    | intro _
    | (extract_lets +onlyGivenNames y; clear_value (e : y = _); revert y; apply Frame.cut)
    | extract_lets +onlyGivenNames y
    | apply Frame.ite
    | (apply Frame.seq ?_ (State.readSample_frame ..) ?_; on_goal 2 => with_unfolding_all exact rfl)
    | (apply Frame.seq ?_ (State.setSxm_frame ..) ?_; on_goal 2 => with_unfolding_all exact rfl)
    | apply Frame.foldl
    | apply Frame.foldl1
    | apply Frame.foldl2
    | (fail_if_no_progress (apply Frame.set_marks ?_ ?_; (on_goal 2 => with_unfolding_all exact rfl)))

theorem State.gatherSome_frame (s : State) (a1) : Frame [.sxm, .sxmPast, .free, .marks] s (State.gatherSome s a1) := by
  unfold State.gatherSome
  with_reducible repeat' first
    | assumption
    | exact Frame.refl _ _
    | intro _
    | extract_lets +onlyGivenNames y
    | apply Frame.ite
    | (apply Frame.seq ?_ (State.gather_frame ..) ?_; on_goal 2 => with_unfolding_all exact rfl)
    | apply Frame.foldl

theorem State.gatherZero_frame (s : State) (a1) (a2) : Frame [.sxm, .sxmPast] s (State.gatherZero s a1 a2) := by
  unfold State.gatherZero
  with_reducible repeat' first
    | assumption
    | exact Frame.refl _ _
    | intro _
    | extract_lets +onlyGivenNames y
    | apply Frame.ite
    | (apply Frame.seq ?_ (State.setSxm_frame ..) ?_; on_goal 2 => with_unfolding_all exact rfl)
    | apply Frame.eachLane
    | apply Frame.foldl

theorem State.gatherZeros_frame (s : State) : Frame [.sxm, .sxmPast] s (State.gatherZeros s) := by
  unfold State.gatherZeros
  with_reducible repeat' first
    | assumption
    | exact Frame.refl _ _
    | intro _
    | extract_lets +onlyGivenNames y
    | apply Frame.ite
    | (apply Frame.seq ?_ (State.gatherZero_frame ..) ?_; on_goal 2 => with_unfolding_all exact rfl)
    | apply Frame.foldl

theorem State.packetBytes_frame (s : State) (a1) (a2) (a3) (a4) (a5) : Frame [.free] s (State.packetBytes s a1 a2 a3 a4 a5).2 := by
  fun_induction State.packetBytes s a1 a2 a3 a4 a5
  all_goals
    with_reducible repeat' first
      | assumption
      | exact Frame.refl _ _
      | intro _
      | extract_lets +onlyGivenNames y
      | apply Frame.ite
      | (apply Frame.seq ?_ (State.frameBytes_frame ..) ?_; on_goal 2 => with_unfolding_all exact rfl)
      | (apply Frame.trans ?_ (by assumption))
      | (apply Frame.of_snd (by assumption))
      | (apply Frame.of_fst (by assumption))
      | (apply Frame.of_snd2 (by assumption))

theorem State.pushCopy_frame (s : State) (a1) (a2) (a3) (a4) : Frame [.live, .evt, .knl, .net, .out] s (State.pushCopy s a1 a2 a3 a4) := by
  unfold State.pushCopy
  with_reducible repeat' first
    | assumption
    | exact Frame.refl _ _
    | intro _
    | extract_lets +onlyGivenNames y
    | apply Frame.ite
    | (apply Frame.seq ?_ (State.inc_frame ..) ?_; on_goal 2 => with_unfolding_all exact rfl)
    | (apply Frame.seq ?_ (State.pushPacket_frame ..) ?_; on_goal 2 => with_unfolding_all exact rfl)
    | (apply Frame.seq ?_ (State.report_frame ..) ?_; on_goal 2 => with_unfolding_all exact rfl)
    | (apply Frame.seq ?_ (State.sqf_frame ..) ?_; on_goal 2 => with_unfolding_all exact rfl)

theorem State.sendDue_frame (s : State) (a1) (a2) : Frame [.live, .evt, .free, .knl, .net, .out] s (State.sendDue s a1 a2) := by
  unfold State.sendDue
  with_reducible repeat' first
    | assumption
    | exact Frame.refl _ _
    | intro _
    | (extract_lets +onlyGivenNames y; clear_value (e : y = _); revert y; apply Frame.cut)
    | extract_lets +onlyGivenNames y
    | apply Frame.ite
    | (apply Frame.seq ?_ (State.sqf_frame ..) ?_; on_goal 2 => with_unfolding_all exact rfl)
    | (apply Frame.seq ?_ (State.inc_frame ..) ?_; on_goal 2 => with_unfolding_all exact rfl)
    | (apply Frame.seq ?_ (State.packetBytes_frame ..) ?_; on_goal 2 => with_unfolding_all exact rfl)
    | (apply Frame.seq ?_ (State.pushCopy_frame ..) ?_; on_goal 2 => with_unfolding_all exact rfl)
    | (apply Frame.seq ?_ (State.wr_frame ..) ?_; on_goal 2 => with_unfolding_all exact rfl)

theorem State.packetize_frame (s : State) (a1) : Frame [.live, .evt, .free, .knl, .tx, .net, .out] s (State.packetize s a1) := by
  unfold State.packetize
  with_reducible repeat' first
    | assumption
    | exact Frame.refl _ _
    | intro _
    | extract_lets +onlyGivenNames y
    | apply Frame.ite
    | (apply Frame.seq ?_ (State.dueAll_frame ..) ?_; on_goal 2 => with_unfolding_all exact rfl)
    | (apply Frame.seq ?_ (State.sendDue_frame ..) ?_; on_goal 2 => with_unfolding_all exact rfl)
    | apply Frame.foldl

theorem State.patchLate_frame (s : State) (a1) : Frame [.live, .evt, .sxm, .sxmPast, .free, .marks, .gathered, .out] s (State.patchLate s a1) := by
  unfold State.patchLate
  with_reducible repeat' first
    | assumption
    | exact Frame.refl _ _
    | intro _
    | (extract_lets +onlyGivenNames y; clear_value (e : y = _); revert y; apply Frame.cut)
    | extract_lets +onlyGivenNames y
    | apply Frame.ite
    | (apply Frame.seq ?_ (State.gatherZeros_frame ..) ?_; on_goal 2 => with_unfolding_all exact rfl)
    | (apply Frame.seq ?_ (State.gatherSome_frame ..) ?_; on_goal 2 => with_unfolding_all exact rfl)
    | (apply Frame.seq ?_ (State.sqf_frame ..) ?_; on_goal 2 => with_unfolding_all exact rfl)
    | (apply Frame.seq ?_ (State.inc_frame ..) ?_; on_goal 2 => with_unfolding_all exact rfl)
    | (apply Frame.seq ?_ (State.report_frame ..) ?_; on_goal 2 => with_unfolding_all exact rfl)
    | (fail_if_no_progress (apply Frame.set_marks_gathered ?_ ?_ ?_; (on_goal 3 => with_unfolding_all exact rfl); (on_goal 2 => with_unfolding_all exact rfl)))

theorem State.rebuild_frame (s : State) (a1) (a2) (a3) : Frame [.live, .evt, .knl, .net, .out] s (State.rebuild s a1 a2 a3) := by
  unfold State.rebuild
  with_reducible repeat' first
    | assumption
    | exact Frame.refl _ _
    | intro _
    | (extract_lets +onlyGivenNames y; clear_value (e : y = _); revert y; apply Frame.cut)
    | extract_lets +onlyGivenNames y
    | apply Frame.ite
    | (apply Frame.seq ?_ (State.setKennel_frame ..) ?_; on_goal 2 => with_unfolding_all exact rfl)
    | (apply Frame.seq ?_ (State.inc_frame ..) ?_; on_goal 2 => with_unfolding_all exact rfl)
    | (apply Frame.seq ?_ (State.sqf_frame ..) ?_; on_goal 2 => with_unfolding_all exact rfl)
    | (apply Frame.seq ?_ (State.report_frame ..) ?_; on_goal 2 => with_unfolding_all exact rfl)
    | (apply Frame.seq ?_ (State.countRefused_frame ..) ?_; on_goal 2 => with_unfolding_all exact rfl)

theorem execPatchGatherComplete_frame (s : State) : Framed [.live, .sxm, .sxmPast, .free, .marks, .gathered] s (execPatchGatherComplete s) := by
  unfold execPatchGatherComplete
  with_reducible repeat' first
    | assumption
    | exact Frame.refl _ _
    | intro _
    | apply Framed.next
    | apply Framed.ite
    | exact Framed.fault
    | exact Framed.refused
    | (extract_lets +onlyGivenNames y; clear_value (e : y = _); revert y; apply Frame.cut)
    | extract_lets +onlyGivenNames y
    | apply Frame.ite
    | (apply Frame.seq ?_ (State.gatherZeros_frame ..) ?_; on_goal 2 => with_unfolding_all exact rfl)
    | (apply Frame.seq ?_ (State.gatherSome_frame ..) ?_; on_goal 2 => with_unfolding_all exact rfl)
    | (apply Frame.seq ?_ (State.wr_frame ..) ?_; on_goal 2 => with_unfolding_all exact rfl)
    | (fail_if_no_progress (apply Frame.set_gathered ?_ ?_; (on_goal 2 => with_unfolding_all exact rfl)))

end Sys2Proof.Machine
end

