-- ==== Sys2Proof/Laws/LocalFrame.lean ====
section
/-!
SUPPORT. What each operation of Machine/Local.lean may change: the parts of the state listed, and never the queue.
-/

namespace Sys2Proof.Machine

theorem State.setLu_frame (s : State) (a1) (a2) : Frame [.loc] s (State.setLu s a1 a2) := by
  unfold State.setLu
  with_reducible repeat' first
    | assumption
    | exact Frame.refl _ _
    | intro _
    | extract_lets +onlyGivenNames y
    | apply Frame.ite
    | (fail_if_no_progress (apply Frame.set_loc ?_ ?_; (on_goal 2 => with_unfolding_all exact rfl)))

theorem State.fills_frame (s : State) (a1) : Frame [.live] s (State.fills s a1) := by
  unfold State.fills
  with_reducible repeat' first
    | assumption
    | exact Frame.refl _ _
    | intro _
    | (extract_lets +onlyGivenNames y; clear_value (e : y = _); revert y; apply Frame.cut)
    | extract_lets +onlyGivenNames y
    | apply Frame.ite
    | (apply Frame.seq ?_ (State.wr_frame ..) ?_; on_goal 2 => with_unfolding_all exact rfl)

theorem State.acquire_frame (s : State) (a1) : Frame [.live, .loc] s (State.acquire s a1) := by
  unfold State.acquire
  with_reducible repeat' first
    | assumption
    | exact Frame.refl _ _
    | intro _
    | (extract_lets +onlyGivenNames y; clear_value (e : y = _); revert y; apply Frame.cut)
    | extract_lets +onlyGivenNames y
    | apply Frame.ite
    | (apply Frame.seq ?_ (State.setLu_frame ..) ?_; on_goal 2 => with_unfolding_all exact rfl)
    | (apply Frame.seq ?_ (State.wr_frame ..) ?_; on_goal 2 => with_unfolding_all exact rfl)
    | (apply Frame.seq ?_ (State.fills_frame ..) ?_; on_goal 2 => with_unfolding_all exact rfl)

theorem State.setAtx_frame (s : State) (a1) (a2) : Frame [.atx] s (State.setAtx s a1 a2) := by
  unfold State.setAtx
  with_reducible repeat' first
    | assumption
    | exact Frame.refl _ _
    | intro _
    | extract_lets +onlyGivenNames y
    | apply Frame.ite
    | (fail_if_no_progress (apply Frame.set_atx ?_ ?_; (on_goal 2 => with_unfolding_all exact rfl)))

theorem State.aesSample_frame (s : State) (a1) (a2) (a3) : Frame [.atx, .out] s (State.aesSample s a1 a2 a3) := by
  unfold State.aesSample
  with_reducible repeat' first
    | assumption
    | exact Frame.refl _ _
    | intro _
    | (extract_lets +onlyGivenNames y; clear_value (e : y = _); revert y; apply Frame.cut)
    | extract_lets +onlyGivenNames y
    | apply Frame.ite
    | (apply Frame.seq ?_ (State.setAtx_frame ..) ?_; on_goal 2 => with_unfolding_all exact rfl)
    | (apply Frame.seq ?_ (State.emit_frame ..) ?_; on_goal 2 => with_unfolding_all exact rfl)

theorem State.luEpoch_frame (s : State) (a1) (a2) (a3) : Frame [.live, .loc] s (State.luEpoch s a1 a2 a3) := by
  unfold State.luEpoch
  with_reducible repeat' first
    | assumption
    | exact Frame.refl _ _
    | intro _
    | extract_lets +onlyGivenNames y
    | apply Frame.ite
    | (apply Frame.seq ?_ (State.wr_frame ..) ?_; on_goal 2 => with_unfolding_all exact rfl)
    | (apply Frame.seq ?_ (State.fills_frame ..) ?_; on_goal 2 => with_unfolding_all exact rfl)
    | (apply Frame.seq ?_ (State.setLu_frame ..) ?_; on_goal 2 => with_unfolding_all exact rfl)
    | (apply Frame.seq ?_ (State.acquire_frame ..) ?_; on_goal 2 => with_unfolding_all exact rfl)

theorem State.sapEpoch_frame (s : State) (a1) (a2) (a3) : Frame [.valid, .spoiled, .placed, .muz] s (State.sapEpoch s a1 a2 a3) := by
  unfold State.sapEpoch
  with_reducible repeat' first
    | assumption
    | exact Frame.refl _ _
    | intro _
    | (extract_lets +onlyGivenNames y; clear_value (e : y = _); revert y; apply Frame.cut)
    | extract_lets +onlyGivenNames y
    | apply Frame.ite
    | (apply Frame.seq ?_ (State.clearBuffer_frame ..) ?_; on_goal 2 => with_unfolding_all exact rfl)
    | (apply Frame.seq ?_ (State.freshBuffer_frame ..) ?_; on_goal 2 => with_unfolding_all exact rfl)

theorem State.asrcClose_frame (s : State) (a1) : Frame [.loc] s (State.asrcClose s a1) := by
  unfold State.asrcClose
  with_reducible repeat' first
    | assumption
    | exact Frame.refl _ _
    | intro _
    | extract_lets +onlyGivenNames y
    | apply Frame.ite
    | (apply Frame.seq ?_ (State.setLu_frame ..) ?_; on_goal 2 => with_unfolding_all exact rfl)

theorem State.asrcEpoch_frame (s : State) (a1) (a2) (a3) : Frame [.live, .loc] s (State.asrcEpoch s a1 a2 a3) := by
  unfold State.asrcEpoch
  with_reducible repeat' first
    | assumption
    | exact Frame.refl _ _
    | intro _
    | (extract_lets +onlyGivenNames y; clear_value (e : y = _); revert y; apply Frame.cut)
    | extract_lets +onlyGivenNames y
    | apply Frame.ite
    | (apply Frame.seq ?_ (State.asrcClose_frame ..) ?_; on_goal 2 => with_unfolding_all exact rfl)
    | (apply Frame.seq ?_ (State.wr_frame ..) ?_; on_goal 2 => with_unfolding_all exact rfl)
    | (apply Frame.of_snd (by assumption))
    | (apply Frame.of_fst (by assumption))
    | (apply Frame.of_snd2 (by assumption))
    | apply Frame.ite1
    | apply Frame.ite2
    | split

theorem State.atxEpoch_frame (s : State) (a1) (a2) (a3) (a4) : Frame [.atx] s (State.atxEpoch s a1 a2 a3 a4) := by
  unfold State.atxEpoch
  with_reducible repeat' first
    | assumption
    | exact Frame.refl _ _
    | intro _
    | extract_lets +onlyGivenNames y
    | apply Frame.ite
    | (apply Frame.seq ?_ (State.setAtx_frame ..) ?_; on_goal 2 => with_unfolding_all exact rfl)

theorem State.localEpoch_frame (s : State) (a1) (a2) (a3) : Frame [.live, .valid, .spoiled, .placed, .muz, .loc, .atx] s (State.localEpoch s a1 a2 a3) := by
  unfold State.localEpoch
  with_reducible repeat' first
    | assumption
    | exact Frame.refl _ _
    | intro _
    | (extract_lets +onlyGivenNames y; clear_value (e : y = _); revert y; apply Frame.cut)
    | extract_lets +onlyGivenNames y
    | apply Frame.ite
    | (apply Frame.seq ?_ (State.luEpoch_frame ..) ?_; on_goal 2 => with_unfolding_all exact rfl)
    | (apply Frame.seq ?_ (State.sapEpoch_frame ..) ?_; on_goal 2 => with_unfolding_all exact rfl)
    | (apply Frame.seq ?_ (State.asrcEpoch_frame ..) ?_; on_goal 2 => with_unfolding_all exact rfl)
    | (apply Frame.seq ?_ (State.atxEpoch_frame ..) ?_; on_goal 2 => with_unfolding_all exact rfl)
    | (apply Frame.seq ?_ (State.wr_frame ..) ?_; on_goal 2 => with_unfolding_all exact rfl)
    | apply Frame.eachBelow
    | apply Frame.foldl

theorem State.refer_frame (s : State) (a1) : Frame [.loc] s (State.refer s a1) := by
  unfold State.refer
  with_reducible repeat' first
    | assumption
    | exact Frame.refl _ _
    | intro _
    | extract_lets +onlyGivenNames y
    | apply Frame.ite
    | (apply Frame.seq ?_ (State.setLu_frame ..) ?_; on_goal 2 => with_unfolding_all exact rfl)

theorem State.capture1_frame (s : State) (a1) (a2) (a3) : Frame [.sxm, .sxmPast, .valid] s (State.capture1 s a1 a2 a3) := by
  unfold State.capture1
  with_reducible repeat' first
    | assumption
    | exact Frame.refl _ _
    | intro _
    | (extract_lets +onlyGivenNames y; clear_value (e : y = _); revert y; apply Frame.cut)
    | extract_lets +onlyGivenNames y
    | apply Frame.ite
    | (apply Frame.seq ?_ (State.setSxm_frame ..) ?_; on_goal 2 => with_unfolding_all exact rfl)
    | (apply Frame.seq ?_ (State.setValid_frame ..) ?_; on_goal 2 => with_unfolding_all exact rfl)
    | apply Frame.foldl

theorem State.playSap_frame (s : State) (a1) : Frame [.out] s (State.playSap s a1) := by
  unfold State.playSap
  with_reducible repeat' first
    | assumption
    | exact Frame.refl _ _
    | intro _
    | extract_lets +onlyGivenNames y
    | apply Frame.ite
    | (apply Frame.seq ?_ (State.emit_frame ..) ?_; on_goal 2 => with_unfolding_all exact rfl)
    | apply Frame.foldl

theorem State.syncCheck_frame (s : State) (a1) (a2) : Frame [.live, .evt, .loc, .out] s (State.syncCheck s a1 a2) := by
  unfold State.syncCheck
  with_reducible repeat' first
    | assumption
    | exact Frame.refl _ _
    | intro _
    | extract_lets +onlyGivenNames y
    | apply Frame.ite
    | (apply Frame.seq ?_ (State.report_frame ..) ?_; on_goal 2 => with_unfolding_all exact rfl)
    | (apply Frame.seq ?_ (State.sq_frame ..) ?_; on_goal 2 => with_unfolding_all exact rfl)
    | (apply Frame.seq ?_ (State.acquire_frame ..) ?_; on_goal 2 => with_unfolding_all exact rfl)

theorem State.arriveAsrc_frame (s : State) (a1) (a2) (a3) : Frame [.loc, .out] s (State.arriveAsrc s a1 a2 a3) := by
  unfold State.arriveAsrc
  with_reducible repeat' first
    | assumption
    | exact Frame.refl _ _
    | intro _
    | (extract_lets +onlyGivenNames y; clear_value (e : y = _); revert y; apply Frame.cut)
    | extract_lets +onlyGivenNames y
    | apply Frame.ite
    | (apply Frame.seq ?_ (State.setLu_frame ..) ?_; on_goal 2 => with_unfolding_all exact rfl)
    | (apply Frame.seq ?_ (State.playSap_frame ..) ?_; on_goal 2 => with_unfolding_all exact rfl)

theorem State.arrive_frame (s : State) (a1) (a2) (a3) : Frame [.live, .evt, .sxm, .sxmPast, .valid, .loc, .out] s (State.arrive s a1 a2 a3) := by
  unfold State.arrive
  with_reducible repeat' first
    | assumption
    | exact Frame.refl _ _
    | intro _
    | (extract_lets +onlyGivenNames y; clear_value (e : y = _); revert y; apply Frame.cut)
    | extract_lets +onlyGivenNames y
    | apply Frame.ite
    | (apply Frame.seq ?_ (State.refer_frame ..) ?_; on_goal 2 => with_unfolding_all exact rfl)
    | (apply Frame.seq ?_ (State.capture1_frame ..) ?_; on_goal 2 => with_unfolding_all exact rfl)
    | (apply Frame.seq ?_ (State.setLu_frame ..) ?_; on_goal 2 => with_unfolding_all exact rfl)
    | (apply Frame.seq ?_ (State.playSap_frame ..) ?_; on_goal 2 => with_unfolding_all exact rfl)
    | (apply Frame.seq ?_ (State.syncCheck_frame ..) ?_; on_goal 2 => with_unfolding_all exact rfl)
    | (apply Frame.seq ?_ (State.fills_frame ..) ?_; on_goal 2 => with_unfolding_all exact rfl)
    | (apply Frame.seq ?_ (State.arriveAsrc_frame ..) ?_; on_goal 2 => with_unfolding_all exact rfl)

theorem State.asrcSampleIn_frame (s : State) (a1) (a2) (a3) (a4) (a5) (a6) : Frame [.sxm, .sxmPast, .valid] s (State.asrcSampleIn s a1 a2 a3 a4 a5 a6) := by
  unfold State.asrcSampleIn
  with_reducible repeat' first
    | assumption
    | exact Frame.refl _ _
    | intro _
    | (extract_lets +onlyGivenNames y; clear_value (e : y = _); revert y; apply Frame.cut)
    | extract_lets +onlyGivenNames y
    | apply Frame.ite
    | (apply Frame.seq ?_ (State.setSxm_frame ..) ?_; on_goal 2 => with_unfolding_all exact rfl)
    | (apply Frame.seq ?_ (State.setValid_frame ..) ?_; on_goal 2 => with_unfolding_all exact rfl)
    | apply Frame.foldl

theorem State.asrcInputs_frame (s : State) (a1) : Frame [.sxm, .sxmPast, .valid, .loc] s (State.asrcInputs s a1) := by
  unfold State.asrcInputs
  with_reducible repeat' first
    | assumption
    | exact Frame.refl _ _
    | intro _
    | (extract_lets +onlyGivenNames y; clear_value (e : y = _); revert y; apply Frame.cut)
    | extract_lets +onlyGivenNames y
    | apply Frame.ite
    | (apply Frame.seq ?_ (State.asrcSampleIn_frame ..) ?_; on_goal 2 => with_unfolding_all exact rfl)
    | (apply Frame.seq ?_ (State.setLu_frame ..) ?_; on_goal 2 => with_unfolding_all exact rfl)
    | apply Frame.eachBelow
    | apply Frame.foldl
    | apply Frame.foldl1
    | apply Frame.foldl2
    | (apply Frame.of_snd (by assumption))
    | (apply Frame.of_fst (by assumption))
    | (apply Frame.of_snd2 (by assumption))
    | apply Frame.ite1
    | apply Frame.ite2
    | split

theorem State.asrcLose_frame (s : State) (a1) (a2) : Frame [.live, .evt, .loc, .out] s (State.asrcLose s a1 a2) := by
  unfold State.asrcLose
  with_reducible repeat' first
    | assumption
    | exact Frame.refl _ _
    | intro _
    | extract_lets +onlyGivenNames y
    | apply Frame.ite
    | (apply Frame.seq ?_ (State.report_frame ..) ?_; on_goal 2 => with_unfolding_all exact rfl)
    | (apply Frame.seq ?_ (State.sqf_frame ..) ?_; on_goal 2 => with_unfolding_all exact rfl)
    | (apply Frame.seq ?_ (State.wr_frame ..) ?_; on_goal 2 => with_unfolding_all exact rfl)
    | (apply Frame.seq ?_ (State.asrcClose_frame ..) ?_; on_goal 2 => with_unfolding_all exact rfl)

theorem State.gridBoundary_frame (s : State) : Frame [.loc] s (State.gridBoundary s) := by
  unfold State.gridBoundary
  with_reducible repeat' first
    | assumption
    | exact Frame.refl _ _
    | intro _
    | extract_lets +onlyGivenNames y
    | apply Frame.ite
    | (apply Frame.seq ?_ (State.setLu_frame ..) ?_; on_goal 2 => with_unfolding_all exact rfl)
    | apply Frame.foldl

theorem State.feedAsrc_frame (s : State) (a1) (a2) : Frame [.loc] s (State.feedAsrc s a1 a2) := by
  unfold State.feedAsrc
  with_reducible repeat' first
    | assumption
    | exact Frame.refl _ _
    | intro _
    | extract_lets +onlyGivenNames y
    | apply Frame.ite
    | (apply Frame.seq ?_ (State.setLu_frame ..) ?_; on_goal 2 => with_unfolding_all exact rfl)

theorem State.startTx_frame (s : State) (a1) (a2) (a3) (a4) : Frame [.atx] s (State.startTx s a1 a2 a3 a4).1 := by
  unfold State.startTx
  with_reducible repeat' first
    | assumption
    | exact Frame.refl _ _
    | intro _
    | (extract_lets +onlyGivenNames y; clear_value (e : y = _); revert y; apply Frame.cut)
    | extract_lets +onlyGivenNames y
    | apply Frame.ite
    | (apply Frame.seq ?_ (State.setAtx_frame ..) ?_; on_goal 2 => with_unfolding_all exact rfl)

theorem State.latchTx_frame (s : State) (a1) : Frame [.atx] s (State.latchTx s a1) := by
  unfold State.latchTx
  with_reducible repeat' first
    | assumption
    | exact Frame.refl _ _
    | intro _
    | extract_lets +onlyGivenNames y
    | apply Frame.ite
    | (apply Frame.seq ?_ (State.setAtx_frame ..) ?_; on_goal 2 => with_unfolding_all exact rfl)

theorem Frame.eachSample {ps : List Part} {s u : State} {f : State → Nat → State} (n : Nat)
    (hf : ∀ x a, Frame ps s x → Frame ps s (f x a)) (h : Frame ps s u) : Frame ps s (u.eachSample f n) := by
  induction n with
  | zero => exact h
  | succ n ih => exact hf _ _ ih

theorem State.madiSample_frame (s : State) (a1) (a2) (a3) : Frame [.atx, .out] s (State.madiSample s a1 a2 a3) := by
  unfold State.madiSample
  with_reducible repeat' first
    | assumption
    | exact Frame.refl _ _
    | intro _
    | (extract_lets +onlyGivenNames y; clear_value (e : y = _); revert y; apply Frame.cut)
    | extract_lets +onlyGivenNames y
    | apply Frame.ite
    | (apply Frame.seq ?_ (State.setAtx_frame ..) ?_; on_goal 2 => with_unfolding_all exact rfl)
    | (apply Frame.seq ?_ (State.emit_frame ..) ?_; on_goal 2 => with_unfolding_all exact rfl)

theorem State.transmitAes_frame (s : State) (a1) : Frame [.loc, .atx, .out] s (State.transmitAes s a1) := by
  unfold State.transmitAes
  with_reducible repeat' first
    | assumption
    | exact Frame.refl _ _
    | intro _
    | (extract_lets +onlyGivenNames y; clear_value (e : y = _); revert y; apply Frame.cut)
    | extract_lets +onlyGivenNames y
    | apply Frame.ite
    | (apply Frame.seq ?_ (State.feedAsrc_frame ..) ?_; on_goal 2 => with_unfolding_all exact rfl)
    | (apply Frame.seq ?_ (State.startTx_frame ..) ?_; on_goal 2 => with_unfolding_all exact rfl)
    | (apply Frame.seq ?_ (State.latchTx_frame ..) ?_; on_goal 2 => with_unfolding_all exact rfl)
    | (apply Frame.seq ?_ (State.aesSample_frame ..) ?_; on_goal 2 => with_unfolding_all exact rfl)
    | (apply Frame.seq ?_ (State.madiSample_frame ..) ?_; on_goal 2 => with_unfolding_all exact rfl)
    | apply Frame.eachBelow
    | apply Frame.eachSample

theorem State.capture6_frame (s : State) (a1) (a2) : Frame [.live] s (State.capture6 s a1 a2).1 := by
  unfold State.capture6
  with_reducible repeat' first
    | assumption
    | exact Frame.refl _ _
    | intro _
    | extract_lets +onlyGivenNames y
    | apply Frame.ite
    | (apply Frame.seq ?_ (State.setNum_frame ..) ?_; on_goal 2 => with_unfolding_all exact rfl)
    | apply Frame.foldl

theorem State.captureStatus_frame (s : State) (a1) : Frame [.live, .evt, .loc, .out] s (State.captureStatus s a1) := by
  unfold State.captureStatus
  with_reducible repeat' first
    | assumption
    | exact Frame.refl _ _
    | intro _
    | (extract_lets +onlyGivenNames y; clear_value (e : y = _); revert y; apply Frame.cut)
    | extract_lets +onlyGivenNames y
    | apply Frame.ite
    | (apply Frame.seq ?_ (State.setLu_frame ..) ?_; on_goal 2 => with_unfolding_all exact rfl)
    | (apply Frame.seq ?_ (State.capture6_frame ..) ?_; on_goal 2 => with_unfolding_all exact rfl)
    | (apply Frame.seq ?_ (State.report_frame ..) ?_; on_goal 2 => with_unfolding_all exact rfl)
    | (apply Frame.seq ?_ (State.sq_frame ..) ?_; on_goal 2 => with_unfolding_all exact rfl)
    | (apply Frame.of_snd (by assumption))
    | (apply Frame.of_fst (by assumption))
    | (apply Frame.of_snd2 (by assumption))
    | apply Frame.ite1
    | apply Frame.ite2
    | split

theorem State.countGood_frame (s : State) (a1) (a2) (a3) : Frame [.loc] s (State.countGood s a1 a2 a3) := by
  unfold State.countGood
  with_reducible repeat' first
    | assumption
    | exact Frame.refl _ _
    | intro _
    | extract_lets +onlyGivenNames y
    | apply Frame.ite
    | (apply Frame.seq ?_ (State.setLu_frame ..) ?_; on_goal 2 => with_unfolding_all exact rfl)

theorem State.frameOutcome_frame (s : State) (a1) (a2) (a3) (a4) : Frame [.live] s (State.frameOutcome s a1 a2 a3 a4).1 := by
  unfold State.frameOutcome
  with_reducible repeat' first
    | assumption
    | exact Frame.refl _ _
    | intro _
    | extract_lets +onlyGivenNames y
    | apply Frame.ite
    | (apply Frame.seq ?_ (State.sq_frame ..) ?_; on_goal 2 => with_unfolding_all exact rfl)
    | (apply Frame.seq ?_ (State.add_frame ..) ?_; on_goal 2 => with_unfolding_all exact rfl)
    | (apply Frame.seq ?_ (State.inc_frame ..) ?_; on_goal 2 => with_unfolding_all exact rfl)

theorem State.slip_frame (s : State) (a1) (a2) (a3) : Frame [.live, .evt, .out] s (State.slip s a1 a2 a3) := by
  unfold State.slip
  with_reducible repeat' first
    | assumption
    | exact Frame.refl _ _
    | intro _
    | (extract_lets +onlyGivenNames y; clear_value (e : y = _); revert y; apply Frame.cut)
    | extract_lets +onlyGivenNames y
    | apply Frame.ite
    | (apply Frame.seq ?_ (State.inc_frame ..) ?_; on_goal 2 => with_unfolding_all exact rfl)
    | (apply Frame.seq ?_ (State.report_frame ..) ?_; on_goal 2 => with_unfolding_all exact rfl)
    | (apply Frame.seq ?_ (State.sq_frame ..) ?_; on_goal 2 => with_unfolding_all exact rfl)

theorem State.gridRead_frame (s : State) (a1) : Frame [.live, .evt, .sxm, .sxmPast, .valid, .loc, .out] s (State.gridRead s a1) := by
  unfold State.gridRead
  with_reducible repeat' first
    | assumption
    | exact Frame.refl _ _
    | intro _
    | (extract_lets +onlyGivenNames y; clear_value (e : y = _); revert y; apply Frame.cut)
    | extract_lets +onlyGivenNames y
    | apply Frame.ite
    | (apply Frame.seq ?_ (State.slip_frame ..) ?_; on_goal 2 => with_unfolding_all exact rfl)
    | (apply Frame.seq ?_ (State.setLu_frame ..) ?_; on_goal 2 => with_unfolding_all exact rfl)
    | (apply Frame.seq ?_ (State.capture1_frame ..) ?_; on_goal 2 => with_unfolding_all exact rfl)
    | (apply Frame.seq ?_ (State.syncCheck_frame ..) ?_; on_goal 2 => with_unfolding_all exact rfl)
    | (apply Frame.seq ?_ (State.fills_frame ..) ?_; on_goal 2 => with_unfolding_all exact rfl)

theorem State.lock_frame (s : State) (a1) : Frame [.live, .evt, .loc, .out] s (State.lock s a1) := by
  unfold State.lock
  with_reducible repeat' first
    | assumption
    | exact Frame.refl _ _
    | intro _
    | (extract_lets +onlyGivenNames y; clear_value (e : y = _); revert y; apply Frame.cut)
    | extract_lets +onlyGivenNames y
    | apply Frame.ite
    | (apply Frame.seq ?_ (State.setLu_frame ..) ?_; on_goal 2 => with_unfolding_all exact rfl)
    | (apply Frame.seq ?_ (State.wr_frame ..) ?_; on_goal 2 => with_unfolding_all exact rfl)
    | (apply Frame.seq ?_ (State.fills_frame ..) ?_; on_goal 2 => with_unfolding_all exact rfl)
    | (apply Frame.seq ?_ (State.report_frame ..) ?_; on_goal 2 => with_unfolding_all exact rfl)
    | (apply Frame.seq ?_ (State.sq_frame ..) ?_; on_goal 2 => with_unfolding_all exact rfl)

theorem State.lose_frame (s : State) (a1) (a2) : Frame [.live, .evt, .loc, .out] s (State.lose s a1 a2) := by
  unfold State.lose
  with_reducible repeat' first
    | assumption
    | exact Frame.refl _ _
    | intro _
    | (extract_lets +onlyGivenNames y; clear_value (e : y = _); revert y; apply Frame.cut)
    | extract_lets +onlyGivenNames y
    | apply Frame.ite
    | (apply Frame.seq ?_ (State.setLu_frame ..) ?_; on_goal 2 => with_unfolding_all exact rfl)
    | (apply Frame.seq ?_ (State.wr_frame ..) ?_; on_goal 2 => with_unfolding_all exact rfl)
    | (apply Frame.seq ?_ (State.fills_frame ..) ?_; on_goal 2 => with_unfolding_all exact rfl)
    | (apply Frame.seq ?_ (State.report_frame ..) ?_; on_goal 2 => with_unfolding_all exact rfl)
    | (apply Frame.seq ?_ (State.sq_frame ..) ?_; on_goal 2 => with_unfolding_all exact rfl)

theorem State.noteBlock_frame (s : State) (a1) : Frame [.live, .loc] s (State.noteBlock s a1) := by
  unfold State.noteBlock
  with_reducible repeat' first
    | assumption
    | exact Frame.refl _ _
    | intro _
    | extract_lets +onlyGivenNames y
    | apply Frame.ite
    | (apply Frame.seq ?_ (State.wr_frame ..) ?_; on_goal 2 => with_unfolding_all exact rfl)
    | (apply Frame.of_snd (by assumption))
    | (apply Frame.of_fst (by assumption))
    | (apply Frame.of_snd2 (by assumption))
    | apply Frame.ite1
    | apply Frame.ite2
    | split

theorem State.portRead_frame (s : State) (a1) : Frame [.live, .evt, .loc, .out] s (State.portRead s a1) := by
  unfold State.portRead
  with_reducible repeat' first
    | assumption
    | exact Frame.refl _ _
    | intro _
    | (extract_lets +onlyGivenNames y; clear_value (e : y = _); revert y; apply Frame.cut)
    | extract_lets +onlyGivenNames y
    | apply Frame.ite
    | (apply Frame.seq ?_ (State.slip_frame ..) ?_; on_goal 2 => with_unfolding_all exact rfl)
    | (apply Frame.seq ?_ (State.setLu_frame ..) ?_; on_goal 2 => with_unfolding_all exact rfl)
    | (apply Frame.seq ?_ (State.playSap_frame ..) ?_; on_goal 2 => with_unfolding_all exact rfl)
    | (apply Frame.seq ?_ (State.syncCheck_frame ..) ?_; on_goal 2 => with_unfolding_all exact rfl)
    | (apply Frame.seq ?_ (State.fills_frame ..) ?_; on_goal 2 => with_unfolding_all exact rfl)

theorem State.sapMarks_frame (s : State) (a1) : Frame [.marks] s (State.sapMarks s a1) := by
  unfold State.sapMarks
  with_reducible repeat' first
    | assumption
    | exact Frame.refl _ _
    | intro _
    | extract_lets +onlyGivenNames y
    | apply Frame.ite
    | apply Frame.foldl
    | apply Frame.foldl1
    | apply Frame.foldl2
    | (fail_if_no_progress (apply Frame.set_marks ?_ ?_; (on_goal 2 => with_unfolding_all exact rfl)))

theorem State.trackRatio_frame (s : State) (a1) : Frame [.live] s (State.trackRatio s a1) := by
  unfold State.trackRatio
  with_reducible repeat' first
    | assumption
    | exact Frame.refl _ _
    | intro _
    | extract_lets +onlyGivenNames y
    | apply Frame.ite
    | (apply Frame.seq ?_ (State.wr_frame ..) ?_; on_goal 2 => with_unfolding_all exact rfl)
    | apply Frame.foldl
    | apply Frame.foldl1
    | apply Frame.foldl2
    | (apply Frame.of_snd (by assumption))
    | (apply Frame.of_fst (by assumption))
    | (apply Frame.of_snd2 (by assumption))
    | apply Frame.ite1
    | apply Frame.ite2
    | split

theorem execSapLocked_frame (a0) (s : State) : Framed [.live, .evt, .loc, .out] s (execSapLocked a0 s) := by
  unfold execSapLocked
  with_reducible repeat' first
    | assumption
    | exact Frame.refl _ _
    | intro _
    | apply Framed.next
    | apply Framed.ite
    | exact Framed.fault
    | exact Framed.refused
    | extract_lets +onlyGivenNames y
    | apply Frame.ite
    | (apply Frame.seq ?_ (State.lock_frame ..) ?_; on_goal 2 => with_unfolding_all exact rfl)

theorem execSapLost_frame (a0) (a1) (s : State) : Framed [.live, .evt, .loc, .out] s (execSapLost a0 a1 s) := by
  unfold execSapLost
  with_reducible repeat' first
    | assumption
    | exact Frame.refl _ _
    | intro _
    | apply Framed.next
    | apply Framed.ite
    | exact Framed.fault
    | exact Framed.refused
    | extract_lets +onlyGivenNames y
    | apply Frame.ite
    | (apply Frame.seq ?_ (State.lose_frame ..) ?_; on_goal 2 => with_unfolding_all exact rfl)

theorem execSapFrameError_frame (a0) (s : State) : Framed [.live, .evt, .sxm, .sxmPast, .valid, .loc, .out] s (execSapFrameError a0 s) := by
  unfold execSapFrameError
  with_reducible repeat' first
    | assumption
    | exact Frame.refl _ _
    | intro _
    | apply Framed.next
    | apply Framed.ite
    | exact Framed.fault
    | exact Framed.refused
    | (extract_lets +onlyGivenNames y; clear_value (e : y = _); revert y; apply Frame.cut)
    | extract_lets +onlyGivenNames y
    | apply Frame.ite
    | (apply Frame.seq ?_ (State.sqf_frame ..) ?_; on_goal 2 => with_unfolding_all exact rfl)
    | (apply Frame.seq ?_ (State.inc_frame ..) ?_; on_goal 2 => with_unfolding_all exact rfl)
    | (apply Frame.seq ?_ (State.setLu_frame ..) ?_; on_goal 2 => with_unfolding_all exact rfl)
    | (apply Frame.seq ?_ (State.arrive_frame ..) ?_; on_goal 2 => with_unfolding_all exact rfl)

theorem execElasticStoreRead_frame (a0) (a1) (s : State) : Framed [.live, .evt, .sxm, .sxmPast, .valid, .loc, .out] s (execElasticStoreRead a0 a1 s) := by
  unfold execElasticStoreRead
  with_reducible repeat' first
    | assumption
    | exact Frame.refl _ _
    | intro _
    | apply Framed.next
    | apply Framed.ite
    | exact Framed.fault
    | exact Framed.refused
    | extract_lets +onlyGivenNames y
    | apply Frame.ite
    | (apply Frame.seq ?_ (State.portRead_frame ..) ?_; on_goal 2 => with_unfolding_all exact rfl)
    | (apply Frame.seq ?_ (State.gridRead_frame ..) ?_; on_goal 2 => with_unfolding_all exact rfl)
    | (apply Frame.seq ?_ (State.setLu_frame ..) ?_; on_goal 2 => with_unfolding_all exact rfl)

theorem execAesFrameReceived_frame (a0) (a1) (a2) (a3) (a4) (a5) (a6) (s : State) : Framed [.live, .evt, .sxm, .sxmPast, .valid, .loc, .out] s (execAesFrameReceived a0 a1 a2 a3 a4 a5 a6 s) := by
  unfold execAesFrameReceived
  with_reducible repeat' first
    | assumption
    | exact Frame.refl _ _
    | intro _
    | apply Framed.next
    | apply Framed.ite
    | exact Framed.fault
    | exact Framed.refused
    | (extract_lets +onlyGivenNames y; clear_value (e : y = _); revert y; apply Frame.cut)
    | extract_lets +onlyGivenNames y
    | apply Frame.ite
    | (apply Frame.seq ?_ (State.wrS_frame ..) ?_; on_goal 2 => with_unfolding_all exact rfl)
    | (apply Frame.seq ?_ (State.frameOutcome_frame ..) ?_; on_goal 2 => with_unfolding_all exact rfl)
    | (apply Frame.seq ?_ (State.countGood_frame ..) ?_; on_goal 2 => with_unfolding_all exact rfl)
    | (apply Frame.seq ?_ (State.setLu_frame ..) ?_; on_goal 2 => with_unfolding_all exact rfl)
    | (apply Frame.seq ?_ (State.noteBlock_frame ..) ?_; on_goal 2 => with_unfolding_all exact rfl)
    | (apply Frame.seq ?_ (State.arrive_frame ..) ?_; on_goal 2 => with_unfolding_all exact rfl)
    | (apply Frame.seq ?_ (State.trackRatio_frame ..) ?_; on_goal 2 => with_unfolding_all exact rfl)

theorem execMadiFrameReceived_frame (a0) (a1) (a2) (a3) (s : State) : Framed [.live, .evt, .sxm, .sxmPast, .valid, .loc, .out] s (execMadiFrameReceived a0 a1 a2 a3 s) := by
  unfold execMadiFrameReceived
  with_reducible repeat' first
    | assumption
    | exact Frame.refl _ _
    | intro _
    | apply Framed.next
    | apply Framed.ite
    | exact Framed.fault
    | exact Framed.refused
    | (extract_lets +onlyGivenNames y; clear_value (e : y = _); revert y; apply Frame.cut)
    | extract_lets +onlyGivenNames y
    | apply Frame.ite
    | (apply Frame.seq ?_ (State.add_frame ..) ?_; on_goal 2 => with_unfolding_all exact rfl)
    | (apply Frame.seq ?_ (State.inc_frame ..) ?_; on_goal 2 => with_unfolding_all exact rfl)
    | (apply Frame.seq ?_ (State.frameOutcome_frame ..) ?_; on_goal 2 => with_unfolding_all exact rfl)
    | (apply Frame.seq ?_ (State.countGood_frame ..) ?_; on_goal 2 => with_unfolding_all exact rfl)
    | (apply Frame.seq ?_ (State.setLu_frame ..) ?_; on_goal 2 => with_unfolding_all exact rfl)
    | (apply Frame.seq ?_ (State.noteBlock_frame ..) ?_; on_goal 2 => with_unfolding_all exact rfl)
    | (apply Frame.seq ?_ (State.arrive_frame ..) ?_; on_goal 2 => with_unfolding_all exact rfl)

theorem execAesCsBlock_frame (a0) (a1) (a2) (s : State) : Framed [.live, .evt, .loc, .out] s (execAesCsBlock a0 a1 a2 s) := by
  unfold execAesCsBlock
  with_reducible repeat' first
    | assumption
    | exact Frame.refl _ _
    | intro _
    | apply Framed.next
    | apply Framed.ite
    | exact Framed.fault
    | exact Framed.refused
    | (extract_lets +onlyGivenNames y; clear_value (e : y = _); revert y; apply Frame.cut)
    | extract_lets +onlyGivenNames y
    | apply Frame.ite
    | (apply Frame.seq ?_ (State.setLu_frame ..) ?_; on_goal 2 => with_unfolding_all exact rfl)
    | (apply Frame.seq ?_ (State.inc_frame ..) ?_; on_goal 2 => with_unfolding_all exact rfl)
    | (apply Frame.seq ?_ (State.report_frame ..) ?_; on_goal 2 => with_unfolding_all exact rfl)
    | (apply Frame.seq ?_ (State.sq_frame ..) ?_; on_goal 2 => with_unfolding_all exact rfl)
    | (apply Frame.seq ?_ (State.wrFlag_frame ..) ?_; on_goal 2 => with_unfolding_all exact rfl)
    | (apply Frame.seq ?_ (State.wr_frame ..) ?_; on_goal 2 => with_unfolding_all exact rfl)
    | (apply Frame.of_snd (by assumption))
    | (apply Frame.of_fst (by assumption))
    | (apply Frame.of_snd2 (by assumption))
    | apply Frame.ite1
    | apply Frame.ite2
    | split
    | dsimp only
    | dsimp +zetaDelta only

theorem execAesLocked_frame (a0) (s : State) : Framed [.live, .evt, .loc, .out] s (execAesLocked a0 s) := by
  unfold execAesLocked
  with_reducible repeat' first
    | assumption
    | exact Frame.refl _ _
    | intro _
    | apply Framed.next
    | apply Framed.ite
    | exact Framed.fault
    | exact Framed.refused
    | extract_lets +onlyGivenNames y
    | apply Frame.ite
    | (apply Frame.seq ?_ (State.lock_frame ..) ?_; on_goal 2 => with_unfolding_all exact rfl)

theorem execAesLost_frame (a0) (a1) (s : State) : Framed [.live, .evt, .loc, .out] s (execAesLost a0 a1 s) := by
  unfold execAesLost
  with_reducible repeat' first
    | assumption
    | exact Frame.refl _ _
    | intro _
    | apply Framed.next
    | apply Framed.ite
    | exact Framed.fault
    | exact Framed.refused
    | extract_lets +onlyGivenNames y
    | apply Frame.ite
    | (apply Frame.seq ?_ (State.lose_frame ..) ?_; on_goal 2 => with_unfolding_all exact rfl)

theorem execAesBlkerr_frame (a0) (s : State) : Framed [.live, .evt, .atx, .out] s (execAesBlkerr a0 s) := by
  unfold execAesBlkerr
  with_reducible repeat' first
    | assumption
    | exact Frame.refl _ _
    | intro _
    | apply Framed.next
    | apply Framed.ite
    | exact Framed.fault
    | exact Framed.refused
    | extract_lets +onlyGivenNames y
    | apply Frame.ite
    | (apply Frame.seq ?_ (State.report_frame ..) ?_; on_goal 2 => with_unfolding_all exact rfl)
    | (apply Frame.seq ?_ (State.inc_frame ..) ?_; on_goal 2 => with_unfolding_all exact rfl)
    | (apply Frame.seq ?_ (State.setAtx_frame ..) ?_; on_goal 2 => with_unfolding_all exact rfl)
    | (apply Frame.of_snd (by assumption))
    | (apply Frame.of_fst (by assumption))
    | (apply Frame.of_snd2 (by assumption))
    | apply Frame.ite1
    | apply Frame.ite2
    | split

theorem execAsrcLocked_frame (a0) (a1) (s : State) : Framed [.live, .evt, .loc, .out] s (execAsrcLocked a0 a1 s) := by
  unfold execAsrcLocked
  with_reducible repeat' first
    | assumption
    | exact Frame.refl _ _
    | intro _
    | apply Framed.next
    | apply Framed.ite
    | exact Framed.fault
    | exact Framed.refused
    | (extract_lets +onlyGivenNames y; clear_value (e : y = _); revert y; apply Frame.cut)
    | extract_lets +onlyGivenNames y
    | apply Frame.ite
    | (apply Frame.seq ?_ (State.wr_frame ..) ?_; on_goal 2 => with_unfolding_all exact rfl)
    | (apply Frame.seq ?_ (State.setLu_frame ..) ?_; on_goal 2 => with_unfolding_all exact rfl)
    | (apply Frame.seq ?_ (State.report_frame ..) ?_; on_goal 2 => with_unfolding_all exact rfl)
    | (apply Frame.seq ?_ (State.sqf_frame ..) ?_; on_goal 2 => with_unfolding_all exact rfl)

theorem execAsrcLost_frame (a0) (a1) (s : State) : Framed [.live, .evt, .loc, .out] s (execAsrcLost a0 a1 s) := by
  unfold execAsrcLost
  with_reducible repeat' first
    | assumption
    | exact Frame.refl _ _
    | intro _
    | apply Framed.next
    | apply Framed.ite
    | exact Framed.fault
    | exact Framed.refused
    | extract_lets +onlyGivenNames y
    | apply Frame.ite
    | (apply Frame.seq ?_ (State.asrcLose_frame ..) ?_; on_goal 2 => with_unfolding_all exact rfl)

theorem execAsrcRelock_frame (a0) (a1) (s : State) : Framed [.live, .evt, .loc, .out] s (execAsrcRelock a0 a1 s) := by
  unfold execAsrcRelock
  with_reducible repeat' first
    | assumption
    | exact Frame.refl _ _
    | intro _
    | apply Framed.next
    | apply Framed.ite
    | exact Framed.fault
    | exact Framed.refused
    | (extract_lets +onlyGivenNames y; clear_value (e : y = _); revert y; apply Frame.cut)
    | extract_lets +onlyGivenNames y
    | apply Frame.ite
    | (apply Frame.seq ?_ (State.wr_frame ..) ?_; on_goal 2 => with_unfolding_all exact rfl)
    | (apply Frame.seq ?_ (State.asrcClose_frame ..) ?_; on_goal 2 => with_unfolding_all exact rfl)
    | (apply Frame.seq ?_ (State.sqf_frame ..) ?_; on_goal 2 => with_unfolding_all exact rfl)
    | (apply Frame.seq ?_ (State.inc_frame ..) ?_; on_goal 2 => with_unfolding_all exact rfl)
    | (apply Frame.seq ?_ (State.asrcLose_frame ..) ?_; on_goal 2 => with_unfolding_all exact rfl)

theorem execSapFrameReceived_frame (a0) (a1) (a2) (s : State) : Framed [.live, .evt, .sxm, .sxmPast, .valid, .loc, .out] s (execSapFrameReceived a0 a1 a2 s) := by
  unfold execSapFrameReceived
  with_reducible repeat' first
    | assumption
    | exact Frame.refl _ _
    | intro _
    | apply Framed.next
    | apply Framed.ite
    | exact Framed.fault
    | exact Framed.refused
    | (extract_lets +onlyGivenNames y; clear_value (e : y = _); revert y; apply Frame.cut)
    | extract_lets +onlyGivenNames y
    | apply Frame.ite
    | (apply Frame.seq ?_ (State.wrS_frame ..) ?_; on_goal 2 => with_unfolding_all exact rfl)
    | (apply Frame.seq ?_ (State.setLu_frame ..) ?_; on_goal 2 => with_unfolding_all exact rfl)
    | (apply Frame.seq ?_ (State.arrive_frame ..) ?_; on_goal 2 => with_unfolding_all exact rfl)
    | (apply Frame.seq ?_ (State.trackRatio_frame ..) ?_; on_goal 2 => with_unfolding_all exact rfl)

theorem execSapBclkReturn_frame (a0) (s : State) : Framed [.live, .loc] s (execSapBclkReturn a0 s) := by
  unfold execSapBclkReturn
  with_reducible repeat' first
    | assumption
    | exact Frame.refl _ _
    | intro _
    | apply Framed.next
    | apply Framed.ite
    | exact Framed.fault
    | exact Framed.refused
    | extract_lets +onlyGivenNames y
    | apply Frame.ite
    | (apply Frame.seq ?_ (State.acquire_frame ..) ?_; on_goal 2 => with_unfolding_all exact rfl)

theorem execAesSignalReturn_frame (a0) (s : State) : Framed [.live, .loc] s (execAesSignalReturn a0 s) := by
  unfold execAesSignalReturn
  with_reducible repeat' first
    | assumption
    | exact Frame.refl _ _
    | intro _
    | apply Framed.next
    | apply Framed.ite
    | exact Framed.fault
    | exact Framed.refused
    | extract_lets +onlyGivenNames y
    | apply Frame.ite
    | (apply Frame.seq ?_ (State.acquire_frame ..) ?_; on_goal 2 => with_unfolding_all exact rfl)

theorem execAsrcForeignEdgeReturn_frame (a0) (s : State) : Framed [.live] s (execAsrcForeignEdgeReturn a0 s) := by
  unfold execAsrcForeignEdgeReturn
  with_reducible repeat' first
    | assumption
    | exact Frame.refl _ _
    | intro _
    | apply Framed.next
    | apply Framed.ite
    | exact Framed.fault
    | exact Framed.refused
    | extract_lets +onlyGivenNames y
    | apply Frame.ite
    | (apply Frame.seq ?_ (State.wr_frame ..) ?_; on_goal 2 => with_unfolding_all exact rfl)

end Sys2Proof.Machine
end

