-- ==== Sys2Proof/Laws/SynFrame.lean ====
section
/-!
SUPPORT. What each operation of Machine/Syn.lean may change: the parts of the state listed, and never the queue.
-/

namespace Sys2Proof.Machine

theorem State.rampGo_frame (s : State) : Frame [.live, .syn] s (State.rampGo s) := by
  unfold State.rampGo
  with_reducible repeat' first
    | assumption
    | exact Frame.refl _ _
    | intro _
    | (extract_lets +onlyGivenNames y; clear_value (e : y = _); revert y; apply Frame.cut)
    | extract_lets +onlyGivenNames y
    | apply Frame.ite
    | (apply Frame.seq ?_ (State.wrFlag_frame ..) ?_; on_goal 2 => with_unfolding_all exact rfl)
    | (fail_if_no_progress (apply Frame.set_syn ?_ ?_; (on_goal 2 => with_unfolding_all exact rfl)))

theorem State.rampStop_frame (s : State) : Frame [.live, .syn] s (State.rampStop s) := by
  unfold State.rampStop
  with_reducible repeat' first
    | assumption
    | exact Frame.refl _ _
    | intro _
    | (extract_lets +onlyGivenNames y; clear_value (e : y = _); revert y; apply Frame.cut)
    | extract_lets +onlyGivenNames y
    | apply Frame.ite
    | (apply Frame.seq ?_ (State.wrFlag_frame ..) ?_; on_goal 2 => with_unfolding_all exact rfl)
    | (fail_if_no_progress (apply Frame.set_syn ?_ ?_; (on_goal 2 => with_unfolding_all exact rfl)))

theorem State.keeperOn_frame (s : State) (a1) : Frame [.live, .syn] s (State.keeperOn s a1) := by
  unfold State.keeperOn
  with_reducible repeat' first
    | assumption
    | exact Frame.refl _ _
    | intro _
    | (extract_lets +onlyGivenNames y; clear_value (e : y = _); revert y; apply Frame.cut)
    | extract_lets +onlyGivenNames y
    | apply Frame.ite
    | (apply Frame.seq ?_ (State.sqf_frame ..) ?_; on_goal 2 => with_unfolding_all exact rfl)
    | (apply Frame.seq ?_ (State.wrFlag_frame ..) ?_; on_goal 2 => with_unfolding_all exact rfl)
    | apply Frame.eachBelow
    | (fail_if_no_progress (apply Frame.set_syn ?_ ?_; (on_goal 2 => with_unfolding_all exact rfl)))

theorem State.keep_frame (s : State) (a1) : Frame [.live, .syn] s (State.keep s a1) := by
  unfold State.keep
  with_reducible repeat' first
    | assumption
    | exact Frame.refl _ _
    | intro _
    | extract_lets +onlyGivenNames y
    | apply Frame.ite
    | (apply Frame.seq ?_ (State.keeperOn_frame ..) ?_; on_goal 2 => with_unfolding_all exact rfl)
    | (apply Frame.seq ?_ (State.wrFlag_frame ..) ?_; on_goal 2 => with_unfolding_all exact rfl)

theorem State.search_frame (s : State) (a1) : Frame [.live, .syn] s (State.search s a1) := by
  unfold State.search
  with_reducible repeat' first
    | assumption
    | exact Frame.refl _ _
    | intro _
    | (extract_lets +onlyGivenNames y; clear_value (e : y = _); revert y; apply Frame.cut)
    | extract_lets +onlyGivenNames y
    | apply Frame.ite
    | (apply Frame.seq ?_ (State.wr_frame ..) ?_; on_goal 2 => with_unfolding_all exact rfl)
    | (fail_if_no_progress (apply Frame.set_syn ?_ ?_; (on_goal 2 => with_unfolding_all exact rfl)))

theorem State.apllLoss_frame (s : State) (a1) (a2) : Frame [.live, .evt, .syn, .out] s (State.apllLoss s a1 a2) := by
  unfold State.apllLoss
  with_reducible repeat' first
    | assumption
    | exact Frame.refl _ _
    | intro _
    | (extract_lets +onlyGivenNames y; clear_value (e : y = _); revert y; apply Frame.cut)
    | extract_lets +onlyGivenNames y
    | apply Frame.ite
    | (apply Frame.seq ?_ (State.sqf_frame ..) ?_; on_goal 2 => with_unfolding_all exact rfl)
    | (apply Frame.seq ?_ (State.inc_frame ..) ?_; on_goal 2 => with_unfolding_all exact rfl)
    | (apply Frame.seq ?_ (State.report_frame ..) ?_; on_goal 2 => with_unfolding_all exact rfl)
    | (apply Frame.seq ?_ (State.keep_frame ..) ?_; on_goal 2 => with_unfolding_all exact rfl)
    | (apply Frame.seq ?_ (State.search_frame ..) ?_; on_goal 2 => with_unfolding_all exact rfl)

theorem State.apllRelock_frame (s : State) (a1) : Frame [.live, .evt, .free, .syn, .out] s (State.apllRelock s a1) := by
  unfold State.apllRelock
  with_reducible repeat' first
    | assumption
    | exact Frame.refl _ _
    | intro _
    | extract_lets +onlyGivenNames y
    | apply Frame.ite
    | (apply Frame.seq ?_ (State.freePick_frame ..) ?_; on_goal 2 => with_unfolding_all exact rfl)
    | (apply Frame.seq ?_ (State.apllLoss_frame ..) ?_; on_goal 2 => with_unfolding_all exact rfl)

theorem State.ckoStart_frame (s : State) (a1) : Frame [.live] s (State.ckoStart s a1) := by
  unfold State.ckoStart
  with_reducible repeat' first
    | assumption
    | exact Frame.refl _ _
    | intro _
    | (extract_lets +onlyGivenNames y; clear_value (e : y = _); revert y; apply Frame.cut)
    | extract_lets +onlyGivenNames y
    | apply Frame.ite
    | (apply Frame.seq ?_ (State.wr_frame ..) ?_; on_goal 2 => with_unfolding_all exact rfl)
    | (apply Frame.seq ?_ (State.wrFlag_frame ..) ?_; on_goal 2 => with_unfolding_all exact rfl)

theorem State.ckoHalt_frame (s : State) (a1) : Frame [.live] s (State.ckoHalt s a1) := by
  unfold State.ckoHalt
  with_reducible repeat' first
    | assumption
    | exact Frame.refl _ _
    | intro _
    | extract_lets +onlyGivenNames y
    | apply Frame.ite
    | (apply Frame.seq ?_ (State.wrFlag_frame ..) ?_; on_goal 2 => with_unfolding_all exact rfl)

theorem State.ckoEpoch_frame (s : State) (a1) (a2) (a3) : Frame [.live, .syn] s (State.ckoEpoch s a1 a2 a3) := by
  unfold State.ckoEpoch
  with_reducible repeat' first
    | assumption
    | exact Frame.refl _ _
    | intro _
    | (extract_lets +onlyGivenNames y; clear_value (e : y = _); revert y; apply Frame.cut)
    | extract_lets +onlyGivenNames y
    | apply Frame.ite
    | (apply Frame.seq ?_ (State.ckoStart_frame ..) ?_; on_goal 2 => with_unfolding_all exact rfl)
    | (apply Frame.seq ?_ (State.ckoHalt_frame ..) ?_; on_goal 2 => with_unfolding_all exact rfl)
    | (fail_if_no_progress (apply Frame.set_syn ?_ ?_; (on_goal 2 => with_unfolding_all exact rfl)))

theorem State.synEpoch_frame (s : State) (a1) (a2) : Frame [.live, .syn] s (State.synEpoch s a1 a2) := by
  unfold State.synEpoch
  with_reducible repeat' first
    | assumption
    | exact Frame.refl _ _
    | intro _
    | (extract_lets +onlyGivenNames y; clear_value (e : y = _); revert y; apply Frame.cut)
    | extract_lets +onlyGivenNames y
    | apply Frame.ite
    | (apply Frame.seq ?_ (State.ckoEpoch_frame ..) ?_; on_goal 2 => with_unfolding_all exact rfl)
    | (apply Frame.seq ?_ (State.keep_frame ..) ?_; on_goal 2 => with_unfolding_all exact rfl)
    | (apply Frame.seq ?_ (State.search_frame ..) ?_; on_goal 2 => with_unfolding_all exact rfl)
    | (apply Frame.seq ?_ (State.inc_frame ..) ?_; on_goal 2 => with_unfolding_all exact rfl)
    | apply Frame.eachBelow
    | (fail_if_no_progress (apply Frame.set_syn ?_ ?_; (on_goal 2 => with_unfolding_all exact rfl)))

theorem State.rampAttach_frame (s : State) : Frame [.live, .evt, .out] s (State.rampAttach s).1 := by
  unfold State.rampAttach
  with_reducible repeat' first
    | assumption
    | exact Frame.refl _ _
    | intro _
    | (extract_lets +onlyGivenNames y; clear_value (e : y = _); revert y; apply Frame.cut)
    | extract_lets +onlyGivenNames y
    | apply Frame.ite
    | (apply Frame.seq ?_ (State.sqf_frame ..) ?_; on_goal 2 => with_unfolding_all exact rfl)
    | (apply Frame.seq ?_ (State.wrFlag_frame ..) ?_; on_goal 2 => with_unfolding_all exact rfl)
    | (apply Frame.seq ?_ (State.report_frame ..) ?_; on_goal 2 => with_unfolding_all exact rfl)
    | (apply Frame.of_snd (by assumption))
    | (apply Frame.of_fst (by assumption))
    | (apply Frame.of_snd2 (by assumption))
    | apply Frame.ite1

theorem State.rampAdvance_frame (s : State) : Frame [.live, .syn] s (State.rampAdvance s) := by
  unfold State.rampAdvance
  with_reducible repeat' first
    | assumption
    | exact Frame.refl _ _
    | intro _
    | (extract_lets +onlyGivenNames y; clear_value (e : y = _); revert y; apply Frame.cut)
    | extract_lets +onlyGivenNames y
    | apply Frame.ite
    | (apply Frame.seq ?_ (State.wrS_frame ..) ?_; on_goal 2 => with_unfolding_all exact rfl)
    | (apply Frame.seq ?_ (State.wrFlag_frame ..) ?_; on_goal 2 => with_unfolding_all exact rfl)
    | (fail_if_no_progress (apply Frame.set_syn ?_ ?_; (on_goal 2 => with_unfolding_all exact rfl)))

theorem State.rampBoundary_frame (s : State) (a1) : Frame [.live, .syn] s (State.rampBoundary s a1) := by
  unfold State.rampBoundary
  with_reducible repeat' first
    | assumption
    | exact Frame.refl _ _
    | intro _
    | (extract_lets +onlyGivenNames y; clear_value (e : y = _); revert y; apply Frame.cut)
    | extract_lets +onlyGivenNames y
    | apply Frame.ite
    | (apply Frame.seq ?_ (State.wrFlag_frame ..) ?_; on_goal 2 => with_unfolding_all exact rfl)
    | (apply Frame.seq ?_ (State.rampAdvance_frame ..) ?_; on_goal 2 => with_unfolding_all exact rfl)
    | (fail_if_no_progress (apply Frame.set_syn ?_ ?_; (on_goal 2 => with_unfolding_all exact rfl)))

theorem State.ncsSteer_frame (s : State) (a1) (a2) : Frame [.syn] s (State.ncsSteer s a1 a2) := by
  unfold State.ncsSteer
  with_reducible repeat' first
    | assumption
    | exact Frame.refl _ _
    | intro _
    | extract_lets +onlyGivenNames y
    | apply Frame.ite
    | (fail_if_no_progress (apply Frame.set_syn ?_ ?_; (on_goal 2 => with_unfolding_all exact rfl)))

theorem State.netClamp_frame (s : State) (a1) : Frame [.live, .evt, .out] s (State.netClamp s a1) := by
  unfold State.netClamp
  with_reducible repeat' first
    | assumption
    | exact Frame.refl _ _
    | intro _
    | (extract_lets +onlyGivenNames y; clear_value (e : y = _); revert y; apply Frame.cut)
    | extract_lets +onlyGivenNames y
    | apply Frame.ite
    | (apply Frame.seq ?_ (State.wrFlag_frame ..) ?_; on_goal 2 => with_unfolding_all exact rfl)
    | (apply Frame.seq ?_ (State.report_frame ..) ?_; on_goal 2 => with_unfolding_all exact rfl)
    | (apply Frame.seq ?_ (State.sqf_frame ..) ?_; on_goal 2 => with_unfolding_all exact rfl)

theorem State.ckoRestart_frame (s : State) : Frame [.live, .syn] s (State.ckoRestart s) := by
  unfold State.ckoRestart
  with_reducible repeat' first
    | assumption
    | exact Frame.refl _ _
    | intro _
    | (extract_lets +onlyGivenNames y; clear_value (e : y = _); revert y; apply Frame.cut)
    | extract_lets +onlyGivenNames y
    | apply Frame.ite
    | (apply Frame.seq ?_ (State.ckoStart_frame ..) ?_; on_goal 2 => with_unfolding_all exact rfl)
    | apply Frame.foldl
    | apply Frame.foldl1
    | apply Frame.foldl2
    | (fail_if_no_progress (apply Frame.set_syn ?_ ?_; (on_goal 2 => with_unfolding_all exact rfl)))

theorem State.enterSegment_frame (s : State) (a1) (a2) : Frame [.live, .syn] s (State.enterSegment s a1 a2) := by
  fun_induction State.enterSegment s a1 a2
  all_goals
    with_reducible repeat' first
      | assumption
      | exact Frame.refl _ _
      | intro _
      | (extract_lets +onlyGivenNames y; clear_value (e : y = _); revert y; apply Frame.cut)
      | extract_lets +onlyGivenNames y
      | apply Frame.ite
      | (apply Frame.seq ?_ (State.wr_frame ..) ?_; on_goal 2 => with_unfolding_all exact rfl)
      | (apply Frame.seq ?_ (State.wrFlag_frame ..) ?_; on_goal 2 => with_unfolding_all exact rfl)
      | (apply Frame.seq ?_ (State.wrS_frame ..) ?_; on_goal 2 => with_unfolding_all exact rfl)
      | (apply Frame.trans ?_ (by assumption))
      | (fail_if_no_progress (apply Frame.set_syn ?_ ?_; (on_goal 2 => with_unfolding_all exact rfl)))

theorem State.enterDue_frame (s : State) : Frame [.live, .syn] s (State.enterDue s) := by
  unfold State.enterDue
  with_reducible repeat' first
    | assumption
    | exact Frame.refl _ _
    | intro _
    | extract_lets +onlyGivenNames y
    | apply Frame.ite
    | (apply Frame.seq ?_ (State.enterSegment_frame ..) ?_; on_goal 2 => with_unfolding_all exact rfl)
    | (apply Frame.of_snd (by assumption))
    | (apply Frame.of_fst (by assumption))
    | (apply Frame.of_snd2 (by assumption))
    | apply Frame.ite1
    | apply Frame.ite2
    | split

theorem State.keeperInputs_frame (s : State) (a1) (a2) : Frame [.valid] s (State.keeperInputs s a1 a2) := by
  unfold State.keeperInputs
  with_reducible repeat' first
    | assumption
    | exact Frame.refl _ _
    | intro _
    | extract_lets +onlyGivenNames y
    | apply Frame.ite
    | (apply Frame.seq ?_ (State.clearValid_frame ..) ?_; on_goal 2 => with_unfolding_all exact rfl)
    | apply Frame.eachBelow
    | apply Frame.foldl

theorem State.keeperMarks_frame (s : State) (a1) : Frame [.marks] s (State.keeperMarks s a1) := by
  unfold State.keeperMarks
  with_reducible repeat' first
    | assumption
    | exact Frame.refl _ _
    | intro _
    | extract_lets +onlyGivenNames y
    | apply Frame.ite
    | (fail_if_no_progress (apply Frame.set_marks ?_ ?_; (on_goal 2 => with_unfolding_all exact rfl)))

theorem State.keeperReturn_frame (s : State) : Frame [.live, .syn] s (State.keeperReturn s) := by
  unfold State.keeperReturn
  with_reducible repeat' first
    | assumption
    | exact Frame.refl _ _
    | intro _
    | (extract_lets +onlyGivenNames y; clear_value (e : y = _); revert y; apply Frame.cut)
    | extract_lets +onlyGivenNames y
    | apply Frame.ite
    | (apply Frame.seq ?_ (State.wrFlag_frame ..) ?_; on_goal 2 => with_unfolding_all exact rfl)
    | (apply Frame.seq ?_ (State.sqf_frame ..) ?_; on_goal 2 => with_unfolding_all exact rfl)
    | apply Frame.eachBelow
    | (fail_if_no_progress (apply Frame.set_syn ?_ ?_; (on_goal 2 => with_unfolding_all exact rfl)))

theorem State.ncsPass_frame (s : State) (a1) (a2) : Frame [.syn] s (State.ncsPass s a1 a2) := by
  unfold State.ncsPass
  with_reducible repeat' first
    | assumption
    | exact Frame.refl _ _
    | intro _
    | extract_lets +onlyGivenNames y
    | apply Frame.ite
    | (fail_if_no_progress (apply Frame.set_syn ?_ ?_; (on_goal 2 => with_unfolding_all exact rfl)))

theorem State.ncsStart_frame (s : State) : Frame [.syn] s (State.ncsStart s) := by
  unfold State.ncsStart
  with_reducible repeat' first
    | assumption
    | exact Frame.refl _ _
    | intro _
    | extract_lets +onlyGivenNames y
    | apply Frame.ite
    | (apply Frame.seq ?_ (State.ncsPass_frame ..) ?_; on_goal 2 => with_unfolding_all exact rfl)

theorem State.ncsTick_frame (s : State) : Frame [.syn] s (State.ncsTick s) := by
  unfold State.ncsTick
  with_reducible repeat' first
    | assumption
    | exact Frame.refl _ _
    | intro _
    | extract_lets +onlyGivenNames y
    | apply Frame.ite
    | (apply Frame.seq ?_ (State.ncsPass_frame ..) ?_; on_goal 2 => with_unfolding_all exact rfl)

theorem State.rampPhase_frame (s : State) : Frame [.live, .syn] s (State.rampPhase s) := by
  unfold State.rampPhase
  with_reducible repeat' first
    | assumption
    | exact Frame.refl _ _
    | intro _
    | (extract_lets +onlyGivenNames y; clear_value (e : y = _); revert y; apply Frame.cut)
    | extract_lets +onlyGivenNames y
    | apply Frame.ite
    | (apply Frame.seq ?_ (State.wrS_frame ..) ?_; on_goal 2 => with_unfolding_all exact rfl)
    | (fail_if_no_progress (apply Frame.set_syn ?_ ?_; (on_goal 2 => with_unfolding_all exact rfl)))

theorem State.rampEnd_frame (s : State) : Frame [.live, .syn] s (State.rampEnd s) := by
  unfold State.rampEnd
  with_reducible repeat' first
    | assumption
    | exact Frame.refl _ _
    | intro _
    | extract_lets +onlyGivenNames y
    | apply Frame.ite
    | (apply Frame.seq ?_ (State.rampPhase_frame ..) ?_; on_goal 2 => with_unfolding_all exact rfl)
    | (apply Frame.seq ?_ (State.enterDue_frame ..) ?_; on_goal 2 => with_unfolding_all exact rfl)

theorem State.vtune_frame (s : State) (a1) (a2) : Frame [.live, .evt, .out] s (State.vtune s a1 a2) := by
  unfold State.vtune
  with_reducible repeat' first
    | assumption
    | exact Frame.refl _ _
    | intro _
    | (extract_lets +onlyGivenNames y; clear_value (e : y = _); revert y; apply Frame.cut)
    | extract_lets +onlyGivenNames y
    | apply Frame.ite
    | (apply Frame.seq ?_ (State.wrFlag_frame ..) ?_; on_goal 2 => with_unfolding_all exact rfl)
    | (apply Frame.seq ?_ (State.wr_frame ..) ?_; on_goal 2 => with_unfolding_all exact rfl)
    | (apply Frame.seq ?_ (State.report_frame ..) ?_; on_goal 2 => with_unfolding_all exact rfl)
    | (apply Frame.seq ?_ (State.sqf_frame ..) ?_; on_goal 2 => with_unfolding_all exact rfl)

theorem execBandSearchDone_frame (a0) (a1) (a2) (s : State) : Framed [.live, .evt, .out] s (execBandSearchDone a0 a1 a2 s) := by
  unfold execBandSearchDone
  with_reducible repeat' first
    | assumption
    | exact Frame.refl _ _
    | intro _
    | apply Framed.next
    | apply Framed.ite
    | exact Framed.fault
    | exact Framed.refused
    | (extract_lets +onlyGivenNames y; clear_value (e : y = _); revert y; apply Frame.cut)
    | extract_lets +onlyGivenNames y
    | apply Frame.ite
    | (apply Frame.seq ?_ (State.wr_frame ..) ?_; on_goal 2 => with_unfolding_all exact rfl)
    | (apply Frame.seq ?_ (State.vtune_frame ..) ?_; on_goal 2 => with_unfolding_all exact rfl)
    | (apply Frame.of_snd (by assumption))
    | (apply Frame.of_fst (by assumption))
    | (apply Frame.of_snd2 (by assumption))
    | apply Frame.ite1
    | apply Frame.ite2
    | split

theorem execApllLocked_frame (a0) (s : State) : Framed [.live, .evt, .out] s (execApllLocked a0 s) := by
  unfold execApllLocked
  with_reducible repeat' first
    | assumption
    | exact Frame.refl _ _
    | intro _
    | apply Framed.next
    | apply Framed.ite
    | exact Framed.fault
    | exact Framed.refused
    | (extract_lets +onlyGivenNames y; clear_value (e : y = _); revert y; apply Frame.cut)
    | extract_lets +onlyGivenNames y
    | apply Frame.ite
    | (apply Frame.seq ?_ (State.sqf_frame ..) ?_; on_goal 2 => with_unfolding_all exact rfl)
    | (apply Frame.seq ?_ (State.wr_frame ..) ?_; on_goal 2 => with_unfolding_all exact rfl)
    | (apply Frame.seq ?_ (State.report_frame ..) ?_; on_goal 2 => with_unfolding_all exact rfl)

theorem execVtuneMeasure_frame (a0) (a1) (s : State) : Framed [.live, .evt, .out] s (execVtuneMeasure a0 a1 s) := by
  unfold execVtuneMeasure
  with_reducible repeat' first
    | assumption
    | exact Frame.refl _ _
    | intro _
    | apply Framed.next
    | apply Framed.ite
    | exact Framed.fault
    | exact Framed.refused
    | extract_lets +onlyGivenNames y
    | apply Frame.ite
    | (apply Frame.seq ?_ (State.vtune_frame ..) ?_; on_goal 2 => with_unfolding_all exact rfl)

theorem execCkoDelayStep_frame (a0) (s : State) : Framed [.live] s (execCkoDelayStep a0 s) := by
  unfold execCkoDelayStep
  with_reducible repeat' first
    | assumption
    | exact Frame.refl _ _
    | intro _
    | apply Framed.next
    | apply Framed.ite
    | exact Framed.fault
    | exact Framed.refused
    | extract_lets +onlyGivenNames y
    | apply Frame.ite
    | (apply Frame.seq ?_ (State.wr_frame ..) ?_; on_goal 2 => with_unfolding_all exact rfl)

end Sys2Proof.Machine
end

