-- ==== Sys2Proof/Laws/LoaderFrame.lean ====
section
/-!
SUPPORT. What each operation of Machine/Loader.lean may change: the parts of the state listed, and never the queue.
-/

namespace Sys2Proof.Machine

theorem State.clearDmem_frame (s : State) (a1) : Frame [.dmem] s (State.clearDmem s a1) := by
  unfold State.clearDmem
  with_reducible repeat' first
    | assumption
    | exact Frame.refl _ _
    | exact Memory.wf_filter _ _
    | exact Memory.wf_setWord _ _ _
    | exact Store.wf_filter _ _ _
    | exact fun h => h
    | exact fun h k => ⟨h, k⟩
    | exact Memory.wf_setBytes _ _ _
    | intro _
    | extract_lets +onlyGivenNames y
    | apply Frame.ite
    | (apply Frame.of_snd (by assumption))
    | (apply Frame.of_fst (by assumption))
    | (apply Frame.of_snd2 (by assumption))
    | apply Frame.ite1
    | apply Frame.ite2
    | split
    | dsimp only
    | (fail_if_no_progress (apply Frame.set_dmem ?_ ?_ ?_; (on_goal 3 => with_unfolding_all exact rfl)))

theorem State.applyParams_frame (s : State) (a1) (a2) : Frame [.dmem] s (State.applyParams s a1 a2) := by
  unfold State.applyParams
  with_reducible repeat' first
    | assumption
    | exact Frame.refl _ _
    | exact Memory.wf_setWord _ _ _
    | exact Store.wf_filter _ _ _
    | exact fun h => h
    | exact fun h k => ⟨h, k⟩
    | exact Memory.wf_setBytes _ _ _
    | intro _
    | extract_lets +onlyGivenNames y
    | apply Frame.ite
    | apply Frame.foldl
    | apply Frame.foldl1
    | apply Frame.foldl2
    | (apply Frame.of_snd (by assumption))
    | (apply Frame.of_fst (by assumption))
    | (apply Frame.of_snd2 (by assumption))
    | apply Frame.ite1
    | apply Frame.ite2
    | split
    | dsimp only
    | (fail_if_no_progress (apply Frame.set_dmem ?_ ?_ ?_; (on_goal 3 => with_unfolding_all exact rfl)))

theorem State.programEpoch_frame (s : State) (a1) (a2) (a3) (a4) : Frame [.dmem] s (State.programEpoch s a1 a2 a3 a4) := by
  unfold State.programEpoch
  with_reducible repeat' first
    | assumption
    | exact Frame.refl _ _
    | intro _
    | (extract_lets +onlyGivenNames y; clear_value (e : y = _); revert y; apply Frame.cut)
    | extract_lets +onlyGivenNames y
    | apply Frame.ite
    | (apply Frame.seq ?_ (State.clearDmem_frame ..) ?_; on_goal 2 => with_unfolding_all exact rfl)
    | (apply Frame.seq ?_ (State.applyParams_frame ..) ?_; on_goal 2 => with_unfolding_all exact rfl)

theorem State.programEpochs_frame (s : State) (a1) (a2) (a3) : Frame [.dmem] s (State.programEpochs s a1 a2 a3) := by
  unfold State.programEpochs
  with_reducible repeat' first
    | assumption
    | exact Frame.refl _ _
    | intro _
    | extract_lets +onlyGivenNames y
    | apply Frame.ite
    | (apply Frame.seq ?_ (State.programEpoch_frame ..) ?_; on_goal 2 => with_unfolding_all exact rfl)
    | apply Frame.foldl

theorem State.loadEpoch_frame (s : State) : Frame [.live] s (State.loadEpoch s) := by
  unfold State.loadEpoch
  with_reducible repeat' first
    | assumption
    | exact Frame.refl _ _
    | intro _
    | extract_lets +onlyGivenNames y
    | apply Frame.ite
    | (apply Frame.seq ?_ (State.wr_frame ..) ?_; on_goal 2 => with_unfolding_all exact rfl)

theorem State.provenEpoch_frame (s : State) (a1) : Frame [.live, .evt, .out] s (State.provenEpoch s a1) := by
  unfold State.provenEpoch
  with_reducible repeat' first
    | assumption
    | exact Frame.refl _ _
    | intro _
    | extract_lets +onlyGivenNames y
    | apply Frame.ite
    | (apply Frame.seq ?_ (State.wr_frame ..) ?_; on_goal 2 => with_unfolding_all exact rfl)
    | (apply Frame.seq ?_ (State.report_frame ..) ?_; on_goal 2 => with_unfolding_all exact rfl)
    | apply Frame.foldl

theorem State.geProfile_frame (s : State) (a1) (a2) (a3) : Frame [.live, .shadow, .ckpt, .evt, .out] s (State.geProfile s a1 a2 a3) := by
  unfold State.geProfile
  with_reducible repeat' first
    | assumption
    | exact Frame.refl _ _
    | intro _
    | extract_lets +onlyGivenNames y
    | apply Frame.ite
    | (apply Frame.seq ?_ (State.profileLoad_frame ..) ?_; on_goal 2 => with_unfolding_all exact rfl)
    | (apply Frame.seq ?_ (State.wr_frame ..) ?_; on_goal 2 => with_unfolding_all exact rfl)
    | (apply Frame.seq ?_ (State.accErr_frame ..) ?_; on_goal 2 => with_unfolding_all exact rfl)

end Sys2Proof.Machine
end

