-- ==== Sys2Proof/Laws/ApplyFrame.lean ====
section
/-!
SUPPORT. What each operation of Machine/Apply.lean may change: the parts of the state listed, and never the queue.
-/

namespace Sys2Proof.Machine

theorem State.epochAhead_frame (s : State) (a1) (a2) : Frame [.live, .ge] s (State.epochAhead s a1 a2) := by
  unfold State.epochAhead
  with_reducible repeat' first
    | assumption
    | exact Frame.refl _ _
    | intro _
    | extract_lets +onlyGivenNames y
    | apply Frame.ite
    | (apply Frame.seq ?_ (State.squash_frame ..) ?_; on_goal 2 => with_unfolding_all exact rfl)
    | (apply Frame.seq ?_ (State.setEngine_frame ..) ?_; on_goal 2 => with_unfolding_all exact rfl)

theorem State.mediaEpoch_frame (s : State) : Frame [.live] s (State.mediaEpoch s) := by
  unfold State.mediaEpoch
  with_reducible repeat' first
    | assumption
    | exact Frame.refl _ _
    | intro _
    | (extract_lets +onlyGivenNames y; clear_value (e : y = _); revert y; apply Frame.cut)
    | extract_lets +onlyGivenNames y
    | apply Frame.ite
    | (apply Frame.seq ?_ (State.wr_frame ..) ?_; on_goal 2 => with_unfolding_all exact rfl)

theorem State.engineEpoch_frame (s : State) (a1) (a2) (a3) : Frame [.ge] s (State.engineEpoch s a1 a2 a3) := by
  unfold State.engineEpoch
  with_reducible repeat' first
    | assumption
    | exact Frame.refl _ _
    | intro _
    | extract_lets +onlyGivenNames y
    | apply Frame.ite
    | (apply Frame.seq ?_ (State.setEngine_frame ..) ?_; on_goal 2 => with_unfolding_all exact rfl)

theorem State.bufferEpoch_frame (s : State) (a1) (a2) (a3) : Frame [.valid, .spoiled, .placed, .muz] s (State.bufferEpoch s a1 a2 a3) := by
  unfold State.bufferEpoch
  with_reducible repeat' first
    | assumption
    | exact Frame.refl _ _
    | intro _
    | (extract_lets +onlyGivenNames y; clear_value (e : y = _); revert y; apply Frame.cut)
    | extract_lets +onlyGivenNames y
    | apply Frame.ite
    | (apply Frame.seq ?_ (State.clearBuffer_frame ..) ?_; on_goal 2 => with_unfolding_all exact rfl)
    | (apply Frame.seq ?_ (State.freshBuffer_frame ..) ?_; on_goal 2 => with_unfolding_all exact rfl)
    | (fail_if_no_progress (apply Frame.set_muz ?_ ?_; (on_goal 2 => with_unfolding_all exact rfl)))

theorem State.patchEpoch_frame (s : State) (a1) (a2) : Frame [.live, .evt, .muz, .out] s (State.patchEpoch s a1 a2) := by
  unfold State.patchEpoch
  with_reducible repeat' first
    | assumption
    | exact Frame.refl _ _
    | intro _
    | extract_lets +onlyGivenNames y
    | apply Frame.ite
    | (apply Frame.seq ?_ (State.routeAct_frame ..) ?_; on_goal 2 => with_unfolding_all exact rfl)
    | apply Frame.foldl
    | apply Frame.foldl1
    | apply Frame.foldl2
    | (apply Frame.of_snd (by assumption))
    | (apply Frame.of_fst (by assumption))
    | (apply Frame.of_snd2 (by assumption))
    | apply Frame.ite1
    | apply Frame.ite2
    | split

theorem State.unitEpochs_frame (s : State) (a1) (a2) (a3) : Frame [.live, .evt, .dmem, .valid, .spoiled, .placed, .ge, .muz, .herd, .pair, .knl, .copies, .rxHeld, .rx, .deepValid, .tx, .loc, .atx, .syn, .times, .net, .mem, .out] s (State.unitEpochs s a1 a2 a3) := by
  unfold State.unitEpochs
  with_reducible repeat' first
    | assumption
    | exact Frame.refl _ _
    | intro _
    | (extract_lets +onlyGivenNames y; clear_value (e : y = _); revert y; apply Frame.cut)
    | extract_lets +onlyGivenNames y
    | apply Frame.ite
    | (apply Frame.seq ?_ (State.mediaEpoch_frame ..) ?_; on_goal 2 => with_unfolding_all exact rfl)
    | (apply Frame.seq ?_ (State.pairEpoch_frame ..) ?_; on_goal 2 => with_unfolding_all exact rfl)
    | (apply Frame.seq ?_ (State.programEpochs_frame ..) ?_; on_goal 2 => with_unfolding_all exact rfl)
    | (apply Frame.seq ?_ (State.engineEpoch_frame ..) ?_; on_goal 2 => with_unfolding_all exact rfl)
    | (apply Frame.seq ?_ (State.loadEpoch_frame ..) ?_; on_goal 2 => with_unfolding_all exact rfl)
    | (apply Frame.seq ?_ (State.provenEpoch_frame ..) ?_; on_goal 2 => with_unfolding_all exact rfl)
    | (apply Frame.seq ?_ (State.originEpoch_frame ..) ?_; on_goal 2 => with_unfolding_all exact rfl)
    | (apply Frame.seq ?_ (State.kennelEpoch_frame ..) ?_; on_goal 2 => with_unfolding_all exact rfl)
    | (apply Frame.seq ?_ (State.bufferEpoch_frame ..) ?_; on_goal 2 => with_unfolding_all exact rfl)
    | (apply Frame.seq ?_ (State.rxEpoch_frame ..) ?_; on_goal 2 => with_unfolding_all exact rfl)
    | (apply Frame.seq ?_ (State.localEpoch_frame ..) ?_; on_goal 2 => with_unfolding_all exact rfl)
    | (apply Frame.seq ?_ (State.herdEpoch_frame ..) ?_; on_goal 2 => with_unfolding_all exact rfl)
    | (apply Frame.seq ?_ (State.herdAdds_frame ..) ?_; on_goal 2 => with_unfolding_all exact rfl)
    | (apply Frame.seq ?_ (State.herdDrops_frame ..) ?_; on_goal 2 => with_unfolding_all exact rfl)
    | (apply Frame.seq ?_ (State.patchEpoch_frame ..) ?_; on_goal 2 => with_unfolding_all exact rfl)
    | (apply Frame.seq ?_ (State.txEpoch_frame ..) ?_; on_goal 2 => with_unfolding_all exact rfl)
    | (apply Frame.seq ?_ (State.netEpoch_frame ..) ?_; on_goal 2 => with_unfolding_all exact rfl)
    | (apply Frame.seq ?_ (State.memEpoch_frame ..) ?_; on_goal 2 => with_unfolding_all exact rfl)
    | (apply Frame.seq ?_ (State.synEpoch_frame ..) ?_; on_goal 2 => with_unfolding_all exact rfl)
    | (apply Frame.seq ?_ (State.timeEpoch_frame ..) ?_; on_goal 2 => with_unfolding_all exact rfl)
    | (apply Frame.seq ?_ (State.cueEpoch_frame ..) ?_; on_goal 2 => with_unfolding_all exact rfl)
    | apply Frame.eachBelow
    | apply Frame.foldl

theorem Cfg.wf_idled (old new : Cfg) (pend : Store Word) (h : Store.wf resetWord new = true) :
    Store.wf resetWord (Cfg.idled old new pend) = true := by
  unfold Cfg.idled
  extract_lets es
  split
  · exact h
  · exact Store.wf_filter _ _ _ h

theorem State.applyWords_frame (s : State) (pend : Store Word) : Frame [.live] s (State.applyWords s pend) :=
  Frame.set_live (Frame.foldl _ (fun _ _ hx => Frame.ite (fun _ => hx) (fun _ => hx.seq (State.setWord_frame ..) rfl)) (Frame.refl _ _))
    (Cfg.wf_idled _ _ _) rfl

theorem State.applyCfg_frame (s : State) (a1) (a2) : Frame [.live, .evt, .dmem, .valid, .spoiled, .placed, .ge, .muz, .herd, .pair, .knl, .copies, .rxHeld, .rx, .deepValid, .tx, .loc, .atx, .syn, .times, .net, .mem, .out] s (State.applyCfg s a1 a2) := by
  unfold State.applyCfg
  with_reducible repeat' first
    | assumption
    | exact Frame.refl _ _
    | intro _
    | (extract_lets +onlyGivenNames y; clear_value (e : y = _); revert y; apply Frame.cut)
    | extract_lets +onlyGivenNames y
    | apply Frame.ite
    | (apply Frame.seq ?_ (State.epochAhead_frame ..) ?_; on_goal 2 => with_unfolding_all exact rfl)
    | (apply Frame.seq ?_ (State.unitEpochs_frame ..) ?_; on_goal 2 => with_unfolding_all exact rfl)
    | (apply Frame.seq ?_ (State.applyWords_frame ..) ?_; on_goal 2 => with_unfolding_all exact rfl)
    | apply Frame.eachBelow

theorem State.applyEpoch_frame (s : State) (a1) (a2) : Frame [.live, .pend, .commit, .ckpt, .evt, .dmem, .valid, .spoiled, .placed, .ge, .muz, .herd, .pair, .knl, .copies, .rxHeld, .rx, .deepValid, .tx, .loc, .atx, .syn, .times, .net, .mem, .out] s (State.applyEpoch s a1 a2) := by
  unfold State.applyEpoch
  with_reducible repeat' first
    | assumption
    | exact Frame.refl _ _
    | intro _
    | (extract_lets +onlyGivenNames y; clear_value (e : y = _); revert y; apply Frame.cut)
    | extract_lets +onlyGivenNames y
    | apply Frame.ite
    | (apply Frame.seq ?_ (State.applyCfg_frame ..) ?_; on_goal 2 => with_unfolding_all exact rfl)
    | (apply Frame.seq ?_ (State.wr_frame ..) ?_; on_goal 2 => with_unfolding_all exact rfl)
    | (apply Frame.seq ?_ (State.inc_frame ..) ?_; on_goal 2 => with_unfolding_all exact rfl)
    | (apply Frame.seq ?_ (State.sqf_frame ..) ?_; on_goal 2 => with_unfolding_all exact rfl)
    | (apply Frame.seq ?_ (State.journal_frame ..) ?_; on_goal 2 => with_unfolding_all exact rfl)
    | (apply Frame.seq ?_ (State.report_frame ..) ?_; on_goal 2 => with_unfolding_all exact rfl)
    | (fail_if_no_progress (apply Frame.set_pend_commit_ckpt ?_ ?_ ?_ ?_; (on_goal 4 => with_unfolding_all exact rfl); (on_goal 3 => with_unfolding_all exact rfl); (on_goal 2 => with_unfolding_all exact rfl)))

end Sys2Proof.Machine
end

