-- ==== Sys2Proof/Laws/SnapshotFrame.lean ====
section
/-!
SUPPORT. What each operation of Machine/Snapshot.lean may change: the parts of the state listed, and never the queue.
-/

namespace Sys2Proof.Machine

theorem State.snapshotRequest_frame (s : State) : Frame [.live, .snap] s (State.snapshotRequest s) := by
  unfold State.snapshotRequest
  with_reducible repeat' first
    | assumption
    | exact Frame.refl _ _
    | intro _
    | (extract_lets +onlyGivenNames y; clear_value (e : y = _); revert y; apply Frame.cut)
    | extract_lets +onlyGivenNames y
    | apply Frame.ite
    | (apply Frame.seq ?_ (State.wrFlag_frame ..) ?_; on_goal 2 => with_unfolding_all exact rfl)
    | (fail_if_no_progress (apply Frame.set_snap ?_ ?_; (on_goal 2 => with_unfolding_all exact rfl)))

theorem State.setBank_frame (s : State) (a1) (a2) : Frame [.snap] s (State.setBank s a1 a2) := by
  unfold State.setBank
  with_reducible repeat' first
    | assumption
    | exact Frame.refl _ _
    | intro _
    | extract_lets +onlyGivenNames y
    | apply Frame.ite
    | (fail_if_no_progress (apply Frame.set_snap ?_ ?_; (on_goal 2 => with_unfolding_all exact rfl)))

theorem State.latch_frame (s : State) (a1) : Frame [.live, .snap] s (State.latch s a1) := by
  unfold State.latch
  with_reducible repeat' first
    | assumption
    | exact Frame.refl _ _
    | intro _
    | (extract_lets +onlyGivenNames y; clear_value (e : y = _); revert y; apply Frame.cut)
    | extract_lets +onlyGivenNames y
    | apply Frame.ite
    | (apply Frame.seq ?_ (State.setBank_frame ..) ?_; on_goal 2 => with_unfolding_all exact rfl)
    | (apply Frame.seq ?_ (State.wrFlag_frame ..) ?_; on_goal 2 => with_unfolding_all exact rfl)
    | (fail_if_no_progress (apply Frame.set_snap ?_ ?_; (on_goal 2 => with_unfolding_all exact rfl)))

theorem State.snapshotBoundary_frame (s : State) (a1) (a2) : Frame [.live, .snap] s (State.snapshotBoundary s a1 a2) := by
  unfold State.snapshotBoundary
  with_reducible repeat' first
    | assumption
    | exact Frame.refl _ _
    | intro _
    | extract_lets +onlyGivenNames y
    | apply Frame.ite
    | (apply Frame.seq ?_ (State.snapshotRequest_frame ..) ?_; on_goal 2 => with_unfolding_all exact rfl)
    | (apply Frame.seq ?_ (State.latch_frame ..) ?_; on_goal 2 => with_unfolding_all exact rfl)

theorem execSnapshotFillDone_frame (s : State) : Framed [.live, .snap] s (execSnapshotFillDone s) := by
  unfold execSnapshotFillDone
  with_reducible repeat' first
    | assumption
    | exact Frame.refl _ _
    | intro _
    | apply Framed.next
    | apply Framed.ite
    | exact Framed.fault
    | exact Framed.refused
    | (extract_lets +onlyGivenNames y; clear_value (e : y = _); revert y; apply Frame.cut)
    | extract_lets +onlyGivenNames y
    | apply Frame.ite
    | (apply Frame.seq ?_ (State.setBank_frame ..) ?_; on_goal 2 => with_unfolding_all exact rfl)
    | (apply Frame.seq ?_ (State.wrFlag_frame ..) ?_; on_goal 2 => with_unfolding_all exact rfl)
    | (apply Frame.seq ?_ (State.wr_frame ..) ?_; on_goal 2 => with_unfolding_all exact rfl)
    | (fail_if_no_progress (apply Frame.set_snap ?_ ?_; (on_goal 2 => with_unfolding_all exact rfl)))
    | (apply Frame.of_snd (by assumption))
    | (apply Frame.of_fst (by assumption))
    | (apply Frame.of_snd2 (by assumption))
    | apply Frame.ite1
    | apply Frame.ite2
    | split

end Sys2Proof.Machine
end

