-- ==== Sys2Proof/Laws/UpdFrame.lean ====
section
/-!
SUPPORT. What each operation of Machine/Upd.lean may change: the parts of the state listed, and never the queue.
-/

namespace Sys2Proof.Machine

theorem State.setOwner_frame (s : State) (a1) (a2) : Frame [.live, .flash] s (State.setOwner s a1 a2) := by
  unfold State.setOwner
  with_reducible repeat' first
    | assumption
    | exact Frame.refl _ _
    | exact Flash.wf_write _ _
    | exact Memory.wf_setWord _ _ _
    | exact Store.wf_filter _ _ _
    | exact fun h => h
    | exact fun h k => ⟨h, k⟩
    | exact Memory.wf_setBytes _ _ _
    | intro _
    | (extract_lets +onlyGivenNames y; clear_value (e : y = _); revert y; apply Frame.cut)
    | extract_lets +onlyGivenNames y
    | apply Frame.ite
    | (apply Frame.seq ?_ (State.wr_frame ..) ?_; on_goal 2 => with_unfolding_all exact rfl)
    | (apply Frame.seq ?_ (State.wrFlag_frame ..) ?_; on_goal 2 => with_unfolding_all exact rfl)
    | (apply Frame.of_snd (by assumption))
    | (apply Frame.of_fst (by assumption))
    | (apply Frame.of_snd2 (by assumption))
    | apply Frame.ite1
    | apply Frame.ite2
    | split
    | dsimp only
    | (fail_if_no_progress (apply Frame.set_flash ?_ ?_ ?_; (on_goal 3 => with_unfolding_all exact rfl)))

theorem State.ownerSet_frame (s : State) : Frame [.live, .flash] s (State.ownerSet s) := by
  unfold State.ownerSet
  with_reducible repeat' first
    | assumption
    | exact Frame.refl _ _
    | intro _
    | extract_lets +onlyGivenNames y
    | apply Frame.ite
    | (apply Frame.seq ?_ (State.setOwner_frame ..) ?_; on_goal 2 => with_unfolding_all exact rfl)

theorem State.updRefuse_frame (s : State) (a1) (a2) : Frame [.live, .evt, .out] s (State.updRefuse s a1 a2) := by
  unfold State.updRefuse
  with_reducible repeat' first
    | assumption
    | exact Frame.refl _ _
    | intro _
    | extract_lets +onlyGivenNames y
    | apply Frame.ite
    | (apply Frame.seq ?_ (State.report_frame ..) ?_; on_goal 2 => with_unfolding_all exact rfl)
    | (apply Frame.seq ?_ (State.sqf_frame ..) ?_; on_goal 2 => with_unfolding_all exact rfl)
    | (apply Frame.seq ?_ (State.wr_frame ..) ?_; on_goal 2 => with_unfolding_all exact rfl)

theorem State.unlock_frame (s : State) (a1) : Frame [.live, .evt, .flash, .out] s (State.unlock s a1) := by
  unfold State.unlock
  with_reducible repeat' first
    | assumption
    | exact Frame.refl _ _
    | intro _
    | extract_lets +onlyGivenNames y
    | apply Frame.ite
    | (apply Frame.seq ?_ (State.setOwner_frame ..) ?_; on_goal 2 => with_unfolding_all exact rfl)
    | (apply Frame.seq ?_ (State.updRefuse_frame ..) ?_; on_goal 2 => with_unfolding_all exact rfl)

theorem State.updCtlWrite_frame (s : State) (a1) (a2) : Frame [.live, .evt, .flash, .out] s (State.updCtlWrite s a1 a2) := by
  unfold State.updCtlWrite
  with_reducible repeat' first
    | assumption
    | exact Frame.refl _ _
    | intro _
    | (extract_lets +onlyGivenNames y; clear_value (e : y = _); revert y; apply Frame.cut)
    | extract_lets +onlyGivenNames y
    | apply Frame.ite
    | (apply Frame.seq ?_ (State.ownerSet_frame ..) ?_; on_goal 2 => with_unfolding_all exact rfl)
    | (apply Frame.seq ?_ (State.unlock_frame ..) ?_; on_goal 2 => with_unfolding_all exact rfl)

theorem State.claimStaging_frame (s : State) (a1) (a2) : Frame [.live, .flash, .upd] s (State.claimStaging s a1 a2) := by
  unfold State.claimStaging
  with_reducible repeat' first
    | assumption
    | exact Frame.refl _ _
    | exact fun h k => ⟨(Flash.wf_write _ _ h k).1, rfl⟩
    | exact fun _ => rfl
    | (with_unfolding_all exact rfl)
    | exact Memory.wf_setWord _ _ _
    | exact Store.wf_filter _ _ _
    | exact fun h => h
    | exact fun h k => ⟨h, k⟩
    | exact Memory.wf_setBytes _ _ _
    | intro _
    | (extract_lets +onlyGivenNames y; clear_value (e : y = _); revert y; apply Frame.cut)
    | extract_lets +onlyGivenNames y
    | apply Frame.ite
    | (apply Frame.seq ?_ (State.showRecord_frame ..) ?_; on_goal 2 => with_unfolding_all exact rfl)
    | (apply Frame.seq ?_ (State.wr_frame ..) ?_; on_goal 2 => with_unfolding_all exact rfl)
    | (apply Frame.of_snd (by assumption))
    | (apply Frame.of_fst (by assumption))
    | (apply Frame.of_snd2 (by assumption))
    | apply Frame.ite1
    | apply Frame.ite2
    | split
    | dsimp only
    | (fail_if_no_progress (apply Frame.set_flash ?_ ?_ ?_; (on_goal 3 => with_unfolding_all exact rfl)))
    | (fail_if_no_progress (apply Frame.set_upd ?_ ?_ ?_; (on_goal 3 => with_unfolding_all exact rfl)))

theorem State.judged_frame (s : State) (a1) (a2) (a3) : Frame [.live, .evt, .flash, .upd, .out] s (State.judged s a1 a2 a3) := by
  unfold State.judged
  with_reducible repeat' first
    | assumption
    | exact Frame.refl _ _
    | exact Memory.wf_setWord _ _ _
    | exact Store.wf_filter _ _ _
    | exact fun h => h
    | exact fun h k => ⟨h, k⟩
    | exact Memory.wf_setBytes _ _ _
    | intro _
    | (extract_lets +onlyGivenNames y; clear_value (e : y = _); revert y; apply Frame.cut)
    | extract_lets +onlyGivenNames y
    | apply Frame.ite
    | (apply Frame.seq ?_ (State.updRefuse_frame ..) ?_; on_goal 2 => with_unfolding_all exact rfl)
    | (apply Frame.seq ?_ (State.claimStaging_frame ..) ?_; on_goal 2 => with_unfolding_all exact rfl)
    | (apply Frame.of_snd (by assumption))
    | (apply Frame.of_fst (by assumption))
    | (apply Frame.of_snd2 (by assumption))
    | apply Frame.ite1
    | apply Frame.ite2
    | split
    | dsimp only
    | (fail_if_no_progress (apply Frame.set_upd ?_ ?_ ?_; (on_goal 3 => with_unfolding_all exact rfl)))

theorem State.judgeHost_frame (s : State) (a1) : Frame [.live, .evt, .flash, .upd, .out] s (State.judgeHost s a1) := by
  unfold State.judgeHost
  with_reducible repeat' first
    | assumption
    | exact Frame.refl _ _
    | intro _
    | extract_lets +onlyGivenNames y
    | apply Frame.ite
    | (apply Frame.seq ?_ (State.judged_frame ..) ?_; on_goal 2 => with_unfolding_all exact rfl)

theorem State.hostOffer_frame (s : State) (a1) : Frame [.live, .evt, .flash, .upd, .out] s (State.hostOffer s a1) := by
  unfold State.hostOffer
  with_reducible repeat' first
    | assumption
    | exact Frame.refl _ _
    | exact Memory.wf_setWord _ _ _
    | exact Store.wf_filter _ _ _
    | exact fun h => h
    | exact fun h k => ⟨h, k⟩
    | exact Memory.wf_setBytes _ _ _
    | intro _
    | extract_lets +onlyGivenNames y
    | apply Frame.ite
    | (apply Frame.seq ?_ (State.judgeHost_frame ..) ?_; on_goal 2 => with_unfolding_all exact rfl)
    | (apply Frame.seq ?_ (State.updRefuse_frame ..) ?_; on_goal 2 => with_unfolding_all exact rfl)
    | (apply Frame.of_snd (by assumption))
    | (apply Frame.of_fst (by assumption))
    | (apply Frame.of_snd2 (by assumption))
    | apply Frame.ite1
    | apply Frame.ite2
    | split
    | dsimp only
    | (fail_if_no_progress (apply Frame.set_upd ?_ ?_ ?_; (on_goal 3 => with_unfolding_all exact rfl)))

theorem State.hcmdBlock_frame (s : State) (a1) (a2) (a3) : Frame [.live, .evt, .flash, .upd, .out] s (State.hcmdBlock s a1 a2 a3) := by
  unfold State.hcmdBlock
  with_reducible repeat' first
    | assumption
    | exact Frame.refl _ _
    | exact Memory.wf_setWord _ _ _
    | exact Store.wf_filter _ _ _
    | exact fun h => h
    | exact fun h k => ⟨h, k⟩
    | exact Memory.wf_setBytes _ _ _
    | intro _
    | extract_lets +onlyGivenNames y
    | apply Frame.ite
    | (apply Frame.seq ?_ (State.hostOffer_frame ..) ?_; on_goal 2 => with_unfolding_all exact rfl)
    | (apply Frame.seq ?_ (State.accErr_frame ..) ?_; on_goal 2 => with_unfolding_all exact rfl)
    | (apply Frame.of_snd (by assumption))
    | (apply Frame.of_fst (by assumption))
    | (apply Frame.of_snd2 (by assumption))
    | apply Frame.ite1
    | apply Frame.ite2
    | split
    | dsimp only
    | (fail_if_no_progress (apply Frame.set_upd ?_ ?_ ?_; (on_goal 3 => with_unfolding_all exact rfl)))

theorem State.hcmdEnd_frame (s : State) (a1) : Frame [.live, .evt, .out] s (State.hcmdEnd s a1) := by
  unfold State.hcmdEnd
  with_reducible repeat' first
    | assumption
    | exact Frame.refl _ _
    | intro _
    | extract_lets +onlyGivenNames y
    | apply Frame.ite
    | (apply Frame.seq ?_ (State.wr_frame ..) ?_; on_goal 2 => with_unfolding_all exact rfl)
    | (apply Frame.seq ?_ (State.accErr_frame ..) ?_; on_goal 2 => with_unfolding_all exact rfl)

theorem State.unclaim_frame (s : State) : Frame [.live, .upd] s (State.unclaim s) := by
  unfold State.unclaim
  with_reducible repeat' first
    | assumption
    | exact Frame.refl _ _
    | exact fun _ => rfl
    | (with_unfolding_all exact rfl)
    | exact Memory.wf_setWord _ _ _
    | exact Store.wf_filter _ _ _
    | exact fun h => h
    | exact fun h k => ⟨h, k⟩
    | exact Memory.wf_setBytes _ _ _
    | intro _
    | (extract_lets +onlyGivenNames y; clear_value (e : y = _); revert y; apply Frame.cut)
    | extract_lets +onlyGivenNames y
    | apply Frame.ite
    | (apply Frame.seq ?_ (State.showRecord_frame ..) ?_; on_goal 2 => with_unfolding_all exact rfl)
    | (apply Frame.seq ?_ (State.wr_frame ..) ?_; on_goal 2 => with_unfolding_all exact rfl)
    | (apply Frame.of_snd (by assumption))
    | (apply Frame.of_fst (by assumption))
    | (apply Frame.of_snd2 (by assumption))
    | apply Frame.ite1
    | apply Frame.ite2
    | split
    | dsimp only
    | (fail_if_no_progress (apply Frame.set_upd ?_ ?_ ?_; (on_goal 3 => with_unfolding_all exact rfl)))

theorem State.unclaimInvalid_frame (s : State) : Frame [.live, .upd] s (State.unclaimInvalid s) := by
  unfold State.unclaimInvalid
  with_reducible repeat' first
    | assumption
    | exact Frame.refl _ _
    | intro _
    | extract_lets +onlyGivenNames y
    | apply Frame.ite
    | (apply Frame.seq ?_ (State.wr_frame ..) ?_; on_goal 2 => with_unfolding_all exact rfl)
    | (apply Frame.seq ?_ (State.unclaim_frame ..) ?_; on_goal 2 => with_unfolding_all exact rfl)

theorem State.hcmdAbort_frame (s : State) (a1) : Frame [.live, .evt, .upd, .out] s (State.hcmdAbort s a1) := by
  unfold State.hcmdAbort
  with_reducible repeat' first
    | assumption
    | exact Frame.refl _ _
    | exact Memory.wf_setWord _ _ _
    | exact Store.wf_filter _ _ _
    | exact fun h => h
    | exact fun h k => ⟨h, k⟩
    | exact Memory.wf_setBytes _ _ _
    | intro _
    | extract_lets +onlyGivenNames y
    | apply Frame.ite
    | (apply Frame.seq ?_ (State.unclaimInvalid_frame ..) ?_; on_goal 2 => with_unfolding_all exact rfl)
    | (apply Frame.seq ?_ (State.accErr_frame ..) ?_; on_goal 2 => with_unfolding_all exact rfl)
    | (apply Frame.of_snd (by assumption))
    | (apply Frame.of_fst (by assumption))
    | (apply Frame.of_snd2 (by assumption))
    | apply Frame.ite1
    | apply Frame.ite2
    | split
    | dsimp only
    | (fail_if_no_progress (apply Frame.set_upd ?_ ?_ ?_; (on_goal 3 => with_unfolding_all exact rfl)))

theorem State.hcmdWrite_frame (s : State) (a1) (a2) : Frame [.live, .evt, .flash, .upd, .out] s (State.hcmdWrite s a1 a2) := by
  unfold State.hcmdWrite
  with_reducible repeat' first
    | assumption
    | exact Frame.refl _ _
    | intro _
    | (extract_lets +onlyGivenNames y; clear_value (e : y = _); revert y; apply Frame.cut)
    | extract_lets +onlyGivenNames y
    | apply Frame.ite
    | (apply Frame.seq ?_ (State.hcmdBlock_frame ..) ?_; on_goal 2 => with_unfolding_all exact rfl)
    | (apply Frame.seq ?_ (State.hcmdEnd_frame ..) ?_; on_goal 2 => with_unfolding_all exact rfl)
    | (apply Frame.seq ?_ (State.hcmdAbort_frame ..) ?_; on_goal 2 => with_unfolding_all exact rfl)

theorem State.rollbackAdvance_frame (s : State) (a1) : Frame [.live, .evt, .fuse, .out] s (State.rollbackAdvance s a1) := by
  unfold State.rollbackAdvance
  with_reducible repeat' first
    | assumption
    | exact Frame.refl _ _
    | intro _
    | (extract_lets +onlyGivenNames y; clear_value (e : y = _); revert y; apply Frame.cut)
    | extract_lets +onlyGivenNames y
    | apply Frame.ite
    | (apply Frame.seq ?_ (State.setNum_frame ..) ?_; on_goal 2 => with_unfolding_all exact rfl)
    | (apply Frame.seq ?_ (State.updRefuse_frame ..) ?_; on_goal 2 => with_unfolding_all exact rfl)
    | (fail_if_no_progress (apply Frame.set_fuse ?_ ?_; (on_goal 2 => with_unfolding_all exact rfl)))

theorem State.askChunk_frame (s : State) (a1) (a2) : Frame [.upd, .out] s (State.askChunk s a1 a2) := by
  unfold State.askChunk
  with_reducible repeat' first
    | assumption
    | exact Frame.refl _ _
    | exact Memory.wf_setWord _ _ _
    | exact Store.wf_filter _ _ _
    | exact fun h => h
    | exact fun h k => ⟨h, k⟩
    | exact Memory.wf_setBytes _ _ _
    | intro _
    | (extract_lets +onlyGivenNames y; clear_value (e : y = _); revert y; apply Frame.cut)
    | extract_lets +onlyGivenNames y
    | apply Frame.ite
    | (apply Frame.seq ?_ (State.emit_frame ..) ?_; on_goal 2 => with_unfolding_all exact rfl)
    | (apply Frame.of_snd (by assumption))
    | (apply Frame.of_fst (by assumption))
    | (apply Frame.of_snd2 (by assumption))
    | apply Frame.ite1
    | apply Frame.ite2
    | split
    | dsimp only
    | (fail_if_no_progress (apply Frame.set_upd ?_ ?_ ?_; (on_goal 3 => with_unfolding_all exact rfl)))

theorem State.askChunks_frame (s : State) (a1) (a2) : Frame [.upd, .out] s (State.askChunks s a1 a2) := by
  fun_induction State.askChunks s a1 a2
  all_goals
    with_reducible repeat' first
      | assumption
      | exact Frame.refl _ _
      | exact Memory.wf_setWord _ _ _
      | exact Store.wf_filter _ _ _
      | exact fun h => h
      | exact fun h k => ⟨h, k⟩
      | exact Memory.wf_setBytes _ _ _
      | intro _
      | extract_lets +onlyGivenNames y
      | apply Frame.ite
      | (apply Frame.seq ?_ (State.askChunk_frame ..) ?_; on_goal 2 => with_unfolding_all exact rfl)
      | (apply Frame.trans ?_ (by assumption))
      | (apply Frame.of_snd (by assumption))
      | (apply Frame.of_fst (by assumption))
      | (apply Frame.of_snd2 (by assumption))
      | apply Frame.ite1
      | apply Frame.ite2
      | split
      | dsimp only
      | (fail_if_no_progress (apply Frame.set_upd ?_ ?_ ?_; (on_goal 3 => with_unfolding_all exact rfl)))

theorem State.judgeWaiting_frame (s : State) : Frame [.live, .evt, .flash, .upd, .out] s (State.judgeWaiting s) := by
  unfold State.judgeWaiting
  with_reducible repeat' first
    | assumption
    | exact Frame.refl _ _
    | exact Memory.wf_setWord _ _ _
    | exact Store.wf_filter _ _ _
    | exact fun h => h
    | exact fun h k => ⟨h, k⟩
    | exact Memory.wf_setBytes _ _ _
    | intro _
    | (extract_lets +onlyGivenNames y; clear_value (e : y = _); revert y; apply Frame.cut)
    | extract_lets +onlyGivenNames y
    | apply Frame.ite
    | (apply Frame.seq ?_ (State.judgeHost_frame ..) ?_; on_goal 2 => with_unfolding_all exact rfl)
    | (apply Frame.of_snd (by assumption))
    | (apply Frame.of_fst (by assumption))
    | (apply Frame.of_snd2 (by assumption))
    | apply Frame.ite1
    | apply Frame.ite2
    | split
    | dsimp only
    | (fail_if_no_progress (apply Frame.set_upd ?_ ?_ ?_; (on_goal 3 => with_unfolding_all exact rfl)))

theorem State.refuseClaim_frame (s : State) (a1) : Frame [.live, .evt, .flash, .upd, .out] s (State.refuseClaim s a1) := by
  unfold State.refuseClaim
  with_reducible repeat' first
    | assumption
    | exact Frame.refl _ _
    | intro _
    | extract_lets +onlyGivenNames y
    | apply Frame.ite
    | (apply Frame.seq ?_ (State.judgeWaiting_frame ..) ?_; on_goal 2 => with_unfolding_all exact rfl)
    | (apply Frame.seq ?_ (State.unclaimInvalid_frame ..) ?_; on_goal 2 => with_unfolding_all exact rfl)
    | (apply Frame.seq ?_ (State.updRefuse_frame ..) ?_; on_goal 2 => with_unfolding_all exact rfl)

theorem State.burnRecords_frame (s : State) (a1) (a2) : Frame [.live, .evt, .flash, .upd, .out] s (State.burnRecords s a1 a2) := by
  unfold State.burnRecords
  with_reducible repeat' first
    | assumption
    | exact Frame.refl _ _
    | exact Memory.wf_setWord _ _ _
    | exact Store.wf_filter _ _ _
    | exact fun h => h
    | exact fun h k => ⟨h, k⟩
    | exact Memory.wf_setBytes _ _ _
    | intro _
    | (extract_lets +onlyGivenNames y; clear_value (e : y = _); revert y; apply Frame.cut)
    | extract_lets +onlyGivenNames y
    | apply Frame.ite
    | (apply Frame.seq ?_ (State.refuseClaim_frame ..) ?_; on_goal 2 => with_unfolding_all exact rfl)
    | (apply Frame.seq ?_ (State.wr_frame ..) ?_; on_goal 2 => with_unfolding_all exact rfl)
    | (apply Frame.of_snd (by assumption))
    | (apply Frame.of_fst (by assumption))
    | (apply Frame.of_snd2 (by assumption))
    | apply Frame.ite1
    | apply Frame.ite2
    | split
    | dsimp only
    | (fail_if_no_progress (apply Frame.set_upd ?_ ?_ ?_; (on_goal 3 => with_unfolding_all exact rfl)))

theorem State.burnBody_frame (s : State) (a1) : Frame [.live, .evt, .flash, .upd, .out] s (State.burnBody s a1) := by
  unfold State.burnBody
  with_reducible repeat' first
    | assumption
    | exact Frame.refl _ _
    | intro _
    | extract_lets +onlyGivenNames y
    | apply Frame.ite
    | (apply Frame.seq ?_ (State.refuseClaim_frame ..) ?_; on_goal 2 => with_unfolding_all exact rfl)
    | (apply Frame.seq ?_ (State.burnRecords_frame ..) ?_; on_goal 2 => with_unfolding_all exact rfl)
    | (apply Frame.of_snd (by assumption))
    | (apply Frame.of_fst (by assumption))
    | (apply Frame.of_snd2 (by assumption))
    | apply Frame.ite1
    | apply Frame.ite2
    | split

theorem State.burnStart_frame (s : State) : Frame [.live, .evt, .flash, .upd, .out] s (State.burnStart s) := by
  unfold State.burnStart
  with_reducible repeat' first
    | assumption
    | exact Frame.refl _ _
    | intro _
    | extract_lets +onlyGivenNames y
    | apply Frame.ite
    | (apply Frame.seq ?_ (State.burnBody_frame ..) ?_; on_goal 2 => with_unfolding_all exact rfl)

theorem State.chainNext_frame (s : State) : Frame [.live, .upd] s (State.chainNext s) := by
  unfold State.chainNext
  with_reducible repeat' first
    | assumption
    | exact Frame.refl _ _
    | exact Memory.wf_setWord _ _ _
    | exact Store.wf_filter _ _ _
    | exact fun h => h
    | exact fun h k => ⟨h, k⟩
    | exact Memory.wf_setBytes _ _ _
    | intro _
    | extract_lets +onlyGivenNames y
    | apply Frame.ite
    | (apply Frame.seq ?_ (State.wr_frame ..) ?_; on_goal 2 => with_unfolding_all exact rfl)
    | (apply Frame.of_snd (by assumption))
    | (apply Frame.of_fst (by assumption))
    | (apply Frame.of_snd2 (by assumption))
    | apply Frame.ite1
    | apply Frame.ite2
    | split
    | dsimp only
    | (fail_if_no_progress (apply Frame.set_upd ?_ ?_ ?_; (on_goal 3 => with_unfolding_all exact rfl)))

theorem State.preempt_frame (s : State) : Frame [.live, .evt, .flash, .upd, .out] s (State.preempt s) := by
  unfold State.preempt
  with_reducible repeat' first
    | assumption
    | exact Frame.refl _ _
    | intro _
    | (extract_lets +onlyGivenNames y; clear_value (e : y = _); revert y; apply Frame.cut)
    | extract_lets +onlyGivenNames y
    | apply Frame.ite
    | (apply Frame.seq ?_ (State.report_frame ..) ?_; on_goal 2 => with_unfolding_all exact rfl)
    | (apply Frame.seq ?_ (State.sqf_frame ..) ?_; on_goal 2 => with_unfolding_all exact rfl)
    | (apply Frame.seq ?_ (State.judgeWaiting_frame ..) ?_; on_goal 2 => with_unfolding_all exact rfl)
    | (apply Frame.seq ?_ (State.unclaimInvalid_frame ..) ?_; on_goal 2 => with_unfolding_all exact rfl)

theorem State.staged_frame (s : State) : Frame [.live, .evt, .flash, .upd, .out] s (State.staged s) := by
  unfold State.staged
  with_reducible repeat' first
    | assumption
    | exact Frame.refl _ _
    | exact Flash.wf_write _ _
    | exact Memory.wf_setWord _ _ _
    | exact Store.wf_filter _ _ _
    | exact fun h => h
    | exact fun h k => ⟨h, k⟩
    | exact Memory.wf_setBytes _ _ _
    | intro _
    | (extract_lets +onlyGivenNames y; clear_value (e : y = _); revert y; apply Frame.cut)
    | extract_lets +onlyGivenNames y
    | apply Frame.ite
    | (apply Frame.seq ?_ (State.report_frame ..) ?_; on_goal 2 => with_unfolding_all exact rfl)
    | (apply Frame.seq ?_ (State.sqf_frame ..) ?_; on_goal 2 => with_unfolding_all exact rfl)
    | (apply Frame.seq ?_ (State.unclaim_frame ..) ?_; on_goal 2 => with_unfolding_all exact rfl)
    | (apply Frame.seq ?_ (State.emit_frame ..) ?_; on_goal 2 => with_unfolding_all exact rfl)
    | (apply Frame.seq ?_ (State.judgeWaiting_frame ..) ?_; on_goal 2 => with_unfolding_all exact rfl)
    | (apply Frame.of_snd (by assumption))
    | (apply Frame.of_fst (by assumption))
    | (apply Frame.of_snd2 (by assumption))
    | apply Frame.ite1
    | apply Frame.ite2
    | split
    | dsimp only
    | (fail_if_no_progress (apply Frame.set_flash ?_ ?_ ?_; (on_goal 3 => with_unfolding_all exact rfl)))

theorem execStagingBlockWritten_frame (a0) (s : State) : Framed [.live, .evt, .flash, .upd, .out] s (execStagingBlockWritten a0 s) := by
  unfold execStagingBlockWritten
  with_reducible repeat' first
    | assumption
    | exact Frame.refl _ _
    | exact Memory.wf_putBlock _ _ _
    | exact fun h k => ⟨h, Memory.wf_putBlock _ _ _ k⟩
    | exact Memory.wf_setWord _ _ _
    | exact Store.wf_filter _ _ _
    | exact fun h => h
    | exact fun h k => ⟨h, k⟩
    | exact Memory.wf_setBytes _ _ _
    | intro _
    | apply Framed.next
    | apply Framed.ite
    | exact Framed.fault
    | exact Framed.refused
    | (extract_lets +onlyGivenNames y; clear_value (e : y = _); revert y; apply Frame.cut)
    | extract_lets +onlyGivenNames y
    | apply Frame.ite
    | (apply Frame.seq ?_ (State.refuseClaim_frame ..) ?_; on_goal 2 => with_unfolding_all exact rfl)
    | (apply Frame.seq ?_ (State.wr_frame ..) ?_; on_goal 2 => with_unfolding_all exact rfl)
    | (apply Frame.seq ?_ (State.preempt_frame ..) ?_; on_goal 2 => with_unfolding_all exact rfl)
    | (apply Frame.seq ?_ (State.chainNext_frame ..) ?_; on_goal 2 => with_unfolding_all exact rfl)
    | (apply Frame.of_snd (by assumption))
    | (apply Frame.of_fst (by assumption))
    | (apply Frame.of_snd2 (by assumption))
    | apply Frame.ite1
    | apply Frame.ite2
    | split
    | dsimp only
    | (fail_if_no_progress (apply Frame.set_upd ?_ ?_ ?_; (on_goal 3 => with_unfolding_all exact rfl)))
    | (fail_if_no_progress (apply Frame.set_flash ?_ ?_ ?_; (on_goal 3 => with_unfolding_all exact rfl)))

theorem execStagingVerifyDone_frame (s : State) : Framed [.live, .evt, .free, .flash, .upd, .boot, .out] s (execStagingVerifyDone s) := by
  unfold execStagingVerifyDone
  with_reducible repeat' first
    | assumption
    | exact Frame.refl _ _
    | intro _
    | apply Framed.next
    | apply Framed.ite
    | exact Framed.fault
    | exact Framed.refused
    | extract_lets +onlyGivenNames y
    | apply Frame.ite
    | (apply Frame.seq ?_ (State.refuseClaim_frame ..) ?_; on_goal 2 => with_unfolding_all exact rfl)
    | (apply Frame.seq ?_ (State.burnStart_frame ..) ?_; on_goal 2 => with_unfolding_all exact rfl)
    | (apply Frame.seq ?_ (State.handOver_frame ..) ?_; on_goal 2 => with_unfolding_all exact rfl)
    | (apply Frame.seq ?_ (State.unclaim_frame ..) ?_; on_goal 2 => with_unfolding_all exact rfl)
    | (apply Frame.seq ?_ (State.staged_frame ..) ?_; on_goal 2 => with_unfolding_all exact rfl)

theorem execFuseBurnDone_frame (s : State) : Framed Part.all s (execFuseBurnDone s) := by
  unfold execFuseBurnDone
  with_reducible repeat' first
    | assumption
    | exact Frame.refl _ _
    | exact Memory.wf_setWord _ _ _
    | exact Store.wf_filter _ _ _
    | exact fun h => h
    | exact fun h k => ⟨h, k⟩
    | exact Memory.wf_setBytes _ _ _
    | intro _
    | apply Framed.next
    | apply Framed.ite
    | exact Framed.fault
    | exact Framed.refused
    | (extract_lets +onlyGivenNames y; clear_value (e : y = _); revert y; apply Frame.cut)
    | extract_lets +onlyGivenNames y
    | apply Frame.ite
    | (apply Frame.seq ?_ (State.holdReset_frame ..) ?_; on_goal 2 => with_unfolding_all exact rfl)
    | (apply Frame.seq ?_ (State.report_frame ..) ?_; on_goal 2 => with_unfolding_all exact rfl)
    | (fail_if_no_progress (apply Frame.set_fuse_ret ?_ ?_ ?_; (on_goal 3 => with_unfolding_all exact rfl); (on_goal 2 => with_unfolding_all exact rfl)))
    | (apply Frame.of_snd (by assumption))
    | (apply Frame.of_fst (by assumption))
    | (apply Frame.of_snd2 (by assumption))
    | apply Frame.ite1
    | apply Frame.ite2
    | split
    | dsimp only
    | (fail_if_no_progress (apply Frame.set_fuse_upd ?_ ?_ ?_ ?_; (on_goal 4 => with_unfolding_all exact rfl); (on_goal 3 => with_unfolding_all exact rfl)))

theorem execChainPoll_frame (s : State) : Framed [.upd, .out] s (execChainPoll s) := by
  unfold execChainPoll
  with_reducible repeat' first
    | assumption
    | exact Frame.refl _ _
    | exact Memory.wf_setWord _ _ _
    | exact Store.wf_filter _ _ _
    | exact fun h => h
    | exact fun h k => ⟨h, k⟩
    | exact Memory.wf_setBytes _ _ _
    | intro _
    | apply Framed.next
    | apply Framed.ite
    | exact Framed.fault
    | exact Framed.refused
    | (extract_lets +onlyGivenNames y; clear_value (e : y = _); revert y; apply Frame.cut)
    | extract_lets +onlyGivenNames y
    | apply Frame.ite
    | (apply Frame.seq ?_ (State.emit_frame ..) ?_; on_goal 2 => with_unfolding_all exact rfl)
    | (apply Frame.of_snd (by assumption))
    | (apply Frame.of_fst (by assumption))
    | (apply Frame.of_snd2 (by assumption))
    | apply Frame.ite1
    | apply Frame.ite2
    | split
    | dsimp only
    | (fail_if_no_progress (apply Frame.set_upd ?_ ?_ ?_; (on_goal 3 => with_unfolding_all exact rfl)))

theorem execChainHeadReply_frame (a0) (s : State) : Framed [.live, .evt, .flash, .upd, .out] s (execChainHeadReply a0 s) := by
  unfold execChainHeadReply
  with_reducible repeat' first
    | assumption
    | exact Frame.refl _ _
    | exact fun _ => Memory.wf_setBytes _ _ _ rfl
    | exact fun _ => rfl
    | exact fun h => Memory.wf_setBytes _ _ _ h
    | exact Memory.wf_setWord _ _ _
    | exact Store.wf_filter _ _ _
    | exact fun h => h
    | exact fun h k => ⟨h, k⟩
    | exact Memory.wf_setBytes _ _ _
    | intro _
    | apply Framed.next
    | apply Framed.ite
    | exact Framed.fault
    | exact Framed.refused
    | (extract_lets +onlyGivenNames y; clear_value (e : y = _); revert y; apply Frame.cut)
    | extract_lets +onlyGivenNames y
    | apply Frame.ite
    | (apply Frame.seq ?_ (State.updRefuse_frame ..) ?_; on_goal 2 => with_unfolding_all exact rfl)
    | (apply Frame.seq ?_ (State.claimStaging_frame ..) ?_; on_goal 2 => with_unfolding_all exact rfl)
    | (apply Frame.seq ?_ (State.askChunks_frame ..) ?_; on_goal 2 => with_unfolding_all exact rfl)
    | (apply Frame.of_snd (by assumption))
    | (apply Frame.of_fst (by assumption))
    | (apply Frame.of_snd2 (by assumption))
    | apply Frame.ite1
    | apply Frame.ite2
    | split
    | dsimp only
    | (fail_if_no_progress (apply Frame.set_upd ?_ ?_ ?_; (on_goal 3 => with_unfolding_all exact rfl)))

theorem execChainDataReply_frame (a0) (a1) (s : State) : Framed [.live, .upd, .out] s (execChainDataReply a0 a1 s) := by
  unfold execChainDataReply
  with_reducible repeat' first
    | assumption
    | exact Frame.refl _ _
    | exact fun _ => Memory.wf_setBytes _ _ _ rfl
    | exact fun h => Memory.wf_setBytes _ _ _ h
    | exact Memory.wf_setWord _ _ _
    | exact Store.wf_filter _ _ _
    | exact fun h => h
    | exact fun h k => ⟨h, k⟩
    | exact Memory.wf_setBytes _ _ _
    | intro _
    | apply Framed.next
    | apply Framed.ite
    | exact Framed.fault
    | exact Framed.refused
    | (extract_lets +onlyGivenNames y; clear_value (e : y = _); revert y; apply Frame.cut)
    | extract_lets +onlyGivenNames y
    | apply Frame.ite
    | (apply Frame.seq ?_ (State.chainNext_frame ..) ?_; on_goal 2 => with_unfolding_all exact rfl)
    | (apply Frame.seq ?_ (State.askChunks_frame ..) ?_; on_goal 2 => with_unfolding_all exact rfl)
    | (apply Frame.of_snd (by assumption))
    | (apply Frame.of_fst (by assumption))
    | (apply Frame.of_snd2 (by assumption))
    | apply Frame.ite1
    | apply Frame.ite2
    | split
    | dsimp only
    | (fail_if_no_progress (apply Frame.set_upd ?_ ?_ ?_; (on_goal 3 => with_unfolding_all exact rfl)))

theorem execChainChunkTimeout_frame (a0) (s : State) : Framed [.live, .evt, .flash, .upd, .out] s (execChainChunkTimeout a0 s) := by
  unfold execChainChunkTimeout
  with_reducible repeat' first
    | assumption
    | exact Frame.refl _ _
    | intro _
    | apply Framed.next
    | apply Framed.ite
    | exact Framed.fault
    | exact Framed.refused
    | extract_lets +onlyGivenNames y
    | apply Frame.ite
    | (apply Frame.seq ?_ (State.askChunk_frame ..) ?_; on_goal 2 => with_unfolding_all exact rfl)
    | (apply Frame.seq ?_ (State.judgeWaiting_frame ..) ?_; on_goal 2 => with_unfolding_all exact rfl)
    | (apply Frame.seq ?_ (State.unclaimInvalid_frame ..) ?_; on_goal 2 => with_unfolding_all exact rfl)
    | (apply Frame.seq ?_ (State.report_frame ..) ?_; on_goal 2 => with_unfolding_all exact rfl)
    | (apply Frame.seq ?_ (State.sqf_frame ..) ?_; on_goal 2 => with_unfolding_all exact rfl)
    | (apply Frame.of_snd (by assumption))
    | (apply Frame.of_fst (by assumption))
    | (apply Frame.of_snd2 (by assumption))
    | apply Frame.ite1
    | apply Frame.ite2
    | split

theorem execChainRequest_frame (a0) (a1) (s : State) : Framed [.out] s (execChainRequest a0 a1 s) := by
  unfold execChainRequest
  with_reducible repeat' first
    | assumption
    | exact Frame.refl _ _
    | intro _
    | apply Framed.next
    | apply Framed.ite
    | exact Framed.fault
    | exact Framed.refused
    | extract_lets +onlyGivenNames y
    | apply Frame.ite
    | (apply Frame.seq ?_ (State.emit_frame ..) ?_; on_goal 2 => with_unfolding_all exact rfl)

theorem execPartnerStagingReport_frame (a0) (a1) (s : State) : Framed [.upd] s (execPartnerStagingReport a0 a1 s) := by
  unfold execPartnerStagingReport
  with_reducible repeat' first
    | assumption
    | exact Frame.refl _ _
    | exact Memory.wf_setWord _ _ _
    | exact Store.wf_filter _ _ _
    | exact fun h => h
    | exact fun h k => ⟨h, k⟩
    | exact Memory.wf_setBytes _ _ _
    | intro _
    | apply Framed.next
    | apply Framed.ite
    | exact Framed.fault
    | exact Framed.refused
    | extract_lets +onlyGivenNames y
    | apply Frame.ite
    | (apply Frame.of_snd (by assumption))
    | (apply Frame.of_fst (by assumption))
    | (apply Frame.of_snd2 (by assumption))
    | apply Frame.ite1
    | apply Frame.ite2
    | split
    | dsimp only
    | (fail_if_no_progress (apply Frame.set_upd ?_ ?_ ?_; (on_goal 3 => with_unfolding_all exact rfl)))

end Sys2Proof.Machine
end

