-- ==== Sys2Proof/Laws/GenahControlFrame.lean ====
section
/-!
SUPPORT. What each operation of Machine/GenahControl.lean may change: the parts of the state listed, and never the queue.
-/

namespace Sys2Proof.Machine

theorem execBr_frame (a0) (a1) (a2) (s : State) : Framed [.ge] s (execBr a0 a1 a2 s) := by
  unfold execBr
  with_reducible repeat' first
    | assumption
    | exact Frame.refl _ _
    | intro _
    | apply Framed.next
    | apply Framed.ite
    | exact Framed.fault
    | exact Framed.refused
    | extract_lets +onlyGivenNames y
    | apply Frame.ite
    | (apply Frame.seq ?_ (State.scalar_frame ..) ?_; on_goal 2 => with_unfolding_all exact rfl)

theorem execLoop_frame (a0) (a1) (a2) (s : State) : Framed [.ge] s (execLoop a0 a1 a2 s) := by
  unfold execLoop
  with_reducible repeat' first
    | assumption
    | exact Frame.refl _ _
    | intro _
    | apply Framed.next
    | apply Framed.ite
    | exact Framed.fault
    | exact Framed.refused
    | extract_lets +onlyGivenNames y
    | apply Frame.ite
    | (apply Frame.seq ?_ (State.setEngine_frame ..) ?_; on_goal 2 => with_unfolding_all exact rfl)

theorem execLoopr_frame (a0) (a1) (a2) (a3) (s : State) : Framed [.live, .evt, .ge, .out] s (execLoopr a0 a1 a2 a3 s) := by
  unfold execLoopr
  with_reducible repeat' first
    | assumption
    | exact Frame.refl _ _
    | intro _
    | apply Framed.next
    | apply Framed.ite
    | exact Framed.fault
    | exact Framed.refused
    | extract_lets +onlyGivenNames y
    | apply Frame.ite
    | (apply Frame.seq ?_ (State.setEngine_frame ..) ?_; on_goal 2 => with_unfolding_all exact rfl)
    | (apply Frame.seq ?_ (State.report_frame ..) ?_; on_goal 2 => with_unfolding_all exact rfl)

theorem execEndl_frame (a0) (s : State) : Framed [.ge] s (execEndl a0 s) := by
  unfold execEndl
  with_reducible repeat' first
    | assumption
    | exact Frame.refl _ _
    | intro _
    | apply Framed.next
    | apply Framed.ite
    | exact Framed.fault
    | exact Framed.refused
    | extract_lets +onlyGivenNames y
    | apply Frame.ite
    | (apply Frame.seq ?_ (State.setEngine_frame ..) ?_; on_goal 2 => with_unfolding_all exact rfl)
    | apply Frame.ite1
    | apply Frame.ite2
    | split

theorem execCall_frame (a0) (a1) (s : State) : Framed [.ge] s (execCall a0 a1 s) := by
  unfold execCall
  with_reducible repeat' first
    | assumption
    | exact Frame.refl _ _
    | intro _
    | apply Framed.next
    | apply Framed.ite
    | exact Framed.fault
    | exact Framed.refused
    | extract_lets +onlyGivenNames y
    | apply Frame.ite
    | (apply Frame.seq ?_ (State.setEngine_frame ..) ?_; on_goal 2 => with_unfolding_all exact rfl)

theorem execRet_frame (a0) (s : State) : Framed [.ge] s (execRet a0 s) := by
  unfold execRet
  with_reducible repeat' first
    | assumption
    | exact Frame.refl _ _
    | intro _
    | apply Framed.next
    | apply Framed.ite
    | exact Framed.fault
    | exact Framed.refused
    | extract_lets +onlyGivenNames y
    | apply Frame.ite
    | (apply Frame.seq ?_ (State.setEngine_frame ..) ?_; on_goal 2 => with_unfolding_all exact rfl)
    | apply Frame.ite1
    | apply Frame.ite2
    | split

theorem execEndt_frame (a0) (s : State) : Framed [.live, .ge] s (execEndt a0 s) := by
  unfold execEndt
  with_reducible repeat' first
    | assumption
    | exact Frame.refl _ _
    | intro _
    | apply Framed.next
    | apply Framed.ite
    | exact Framed.fault
    | exact Framed.refused
    | (extract_lets +onlyGivenNames y; clear_value (e : y = _); revert y; apply Frame.cut)
    | extract_lets +onlyGivenNames y
    | apply Frame.ite
    | (apply Frame.seq ?_ (State.setEngine_frame ..) ?_; on_goal 2 => with_unfolding_all exact rfl)
    | (apply Frame.seq ?_ (State.wr_frame ..) ?_; on_goal 2 => with_unfolding_all exact rfl)

end Sys2Proof.Machine
end

