-- ==== Sys2Proof/Laws/GenahMemoryFrame.lean ====
section
/-!
SUPPORT. What each operation of Machine/GenahMemory.lean may change: the parts of the state listed, and never the queue.
-/

namespace Sys2Proof.Machine

theorem Frame.eachEnabled {ps : List Part} {s u : State} {x : Engine} {gm : Nat} {f : State → Nat → State} (n : Nat)
    (hf : ∀ x a, Frame ps s x → Frame ps s (f x a)) (h : Frame ps s u) : Frame ps s (u.eachEnabled x gm f n) := by
  induction n with
  | zero => exact h
  | succ n ih => exact Frame.ite (fun _ => hf _ _ ih) (fun _ => ih)

theorem State.loadLane_frame (s : State) (a1) (a2) (a3) (a4) (a5) : Frame [.ge, .free] s (State.loadLane s a1 a2 a3 a4 a5) := by
  unfold State.loadLane
  with_reducible repeat' first
    | assumption
    | exact Frame.refl _ _
    | intro _
    | extract_lets +onlyGivenNames y
    | apply Frame.ite
    | (apply Frame.seq ?_ (State.setEngine_frame ..) ?_; on_goal 2 => with_unfolding_all exact rfl)
    | (apply Frame.seq ?_ (State.loadSxm_frame ..) ?_; on_goal 2 => with_unfolding_all exact rfl)
    | (apply Frame.of_snd (by assumption))
    | (apply Frame.of_fst (by assumption))
    | (apply Frame.of_snd2 (by assumption))
    | apply Frame.ite1
    | apply Frame.ite2
    | split

theorem State.regionFault_frame (s : State) (a1) (a2) : Frame [.live, .evt, .ge, .out] s (State.regionFault s a1 a2) := by
  unfold State.regionFault
  with_reducible repeat' first
    | assumption
    | exact Frame.refl _ _
    | intro _
    | (extract_lets +onlyGivenNames y; clear_value (e : y = _); revert y; apply Frame.cut)
    | extract_lets +onlyGivenNames y
    | apply Frame.ite
    | (apply Frame.seq ?_ (State.setEngine_frame ..) ?_; on_goal 2 => with_unfolding_all exact rfl)
    | (apply Frame.seq ?_ (State.report_frame ..) ?_; on_goal 2 => with_unfolding_all exact rfl)

theorem execHset_frame (a0) (a1) (a2) (a3) (a4) (s : State) : Framed [.live, .evt, .ge, .out] s (execHset a0 a1 a2 a3 a4 s) := by
  unfold execHset
  with_reducible repeat' first
    | assumption
    | exact Frame.refl _ _
    | intro _
    | apply Framed.next
    | apply Framed.ite
    | exact Framed.fault
    | exact Framed.refused
    | (extract_lets +onlyGivenNames y; clear_value (e : y = _); revert y; apply Frame.cut)
    | extract_lets +onlyGivenNames y
    | apply Frame.ite
    | (apply Frame.seq ?_ (State.setEngine_frame ..) ?_; on_goal 2 => with_unfolding_all exact rfl)
    | (apply Frame.seq ?_ (State.report_frame ..) ?_; on_goal 2 => with_unfolding_all exact rfl)
    | (apply Frame.seq ?_ (State.sqf_frame ..) ?_; on_goal 2 => with_unfolding_all exact rfl)

theorem execHadv_frame (a0) (a1) (a2) (a3) (a4) (s : State) : Framed [.ge] s (execHadv a0 a1 a2 a3 a4 s) := by
  unfold execHadv
  with_reducible repeat' first
    | assumption
    | exact Frame.refl _ _
    | intro _
    | apply Framed.next
    | apply Framed.ite
    | exact Framed.fault
    | exact Framed.refused
    | extract_lets +onlyGivenNames y
    | apply Frame.ite
    | (apply Frame.seq ?_ (State.scalar_frame ..) ?_; on_goal 2 => with_unfolding_all exact rfl)

theorem execVld_frame (a0) (a1) (a2) (a3) (a4) (s : State) : Framed [.live, .ge, .free] s (execVld a0 a1 a2 a3 a4 s) := by
  unfold execVld
  with_reducible repeat' first
    | assumption
    | exact Frame.refl _ _
    | intro _
    | apply Framed.next
    | apply Framed.ite
    | exact Framed.fault
    | exact Framed.refused
    | (extract_lets +onlyGivenNames y; clear_value (e : y = _); revert y; apply Frame.cut)
    | extract_lets +onlyGivenNames y
    | apply Frame.ite
    | (apply Frame.seq ?_ (State.loadLane_frame ..) ?_; on_goal 2 => with_unfolding_all exact rfl)
    | (apply Frame.seq ?_ (State.setEngine_frame ..) ?_; on_goal 2 => with_unfolding_all exact rfl)
    | (apply Frame.seq ?_ (State.add_frame ..) ?_; on_goal 2 => with_unfolding_all exact rfl)
    | apply Frame.eachEnabled
    | (apply Frame.of_snd (by assumption))
    | (apply Frame.of_fst (by assumption))
    | (apply Frame.of_snd2 (by assumption))
    | apply Frame.ite1
    | apply Frame.ite2
    | split

theorem execVst_frame (a0) (a1) (a2) (a3) (a4) (s : State) : Framed [.live, .sxm, .sxmPast, .dmem, .ge] s (execVst a0 a1 a2 a3 a4 s) := by
  unfold execVst
  with_reducible repeat' first
    | assumption
    | exact Frame.refl _ _
    | intro _
    | apply Framed.next
    | apply Framed.ite
    | exact Framed.fault
    | exact Framed.refused
    | (extract_lets +onlyGivenNames y; clear_value (e : y = _); revert y; apply Frame.cut)
    | extract_lets +onlyGivenNames y
    | apply Frame.ite
    | (apply Frame.seq ?_ (State.storeSxm_frame ..) ?_; on_goal 2 => with_unfolding_all exact rfl)
    | (apply Frame.seq ?_ (State.add_frame ..) ?_; on_goal 2 => with_unfolding_all exact rfl)
    | (apply Frame.seq ?_ (State.storeDmem_frame ..) ?_; on_goal 2 => with_unfolding_all exact rfl)
    | (apply Frame.seq ?_ (State.setEngine_frame ..) ?_; on_goal 2 => with_unfolding_all exact rfl)
    | (apply Frame.effect ?_ ?_ ?_; on_goal 3 => with_unfolding_all exact rfl)
    | (apply Frame.of_snd (by assumption))
    | (apply Frame.of_fst (by assumption))
    | (apply Frame.of_snd2 (by assumption))
    | apply Frame.ite1
    | apply Frame.ite2
    | split

theorem execFetch_frame (a0) (a1) (a2) (a3) (a4) (a5) (a6) (s : State) : Framed [.live, .evt, .ge, .out] s (execFetch a0 a1 a2 a3 a4 a5 a6 s) := by
  unfold execFetch
  with_reducible repeat' first
    | assumption
    | exact Frame.refl _ _
    | intro _
    | apply Framed.next
    | apply Framed.ite
    | exact Framed.fault
    | exact Framed.refused
    | extract_lets +onlyGivenNames y
    | apply Frame.ite
    | (apply Frame.seq ?_ (State.regionFault_frame ..) ?_; on_goal 2 => with_unfolding_all exact rfl)
    | (apply Frame.seq ?_ (State.stallRsb_frame ..) ?_; on_goal 2 => with_unfolding_all exact rfl)
    | (apply Frame.seq ?_ (State.setEngine_frame ..) ?_; on_goal 2 => with_unfolding_all exact rfl)

theorem execWaitf_frame (a0) (a1) (a2) (s : State) : Framed [.ge] s (execWaitf a0 a1 a2 s) := by
  unfold execWaitf
  with_reducible repeat' first
    | assumption
    | exact Frame.refl _ _
    | intro _
    | apply Framed.next
    | apply Framed.ite
    | exact Framed.fault
    | exact Framed.refused
    | extract_lets +onlyGivenNames y
    | apply Frame.ite
    | (apply Frame.seq ?_ (State.setEngine_frame ..) ?_; on_goal 2 => with_unfolding_all exact rfl)

theorem execPut_frame (a0) (a1) (a2) (a3) (a4) (a5) (a6) (s : State) : Framed [.live, .evt, .ge, .out] s (execPut a0 a1 a2 a3 a4 a5 a6 s) := by
  unfold execPut
  with_reducible repeat' first
    | assumption
    | exact Frame.refl _ _
    | intro _
    | apply Framed.next
    | apply Framed.ite
    | exact Framed.fault
    | exact Framed.refused
    | extract_lets +onlyGivenNames y
    | apply Frame.ite
    | (apply Frame.seq ?_ (State.regionFault_frame ..) ?_; on_goal 2 => with_unfolding_all exact rfl)
    | (apply Frame.seq ?_ (State.setEngine_frame ..) ?_; on_goal 2 => with_unfolding_all exact rfl)
    | (apply Frame.effect ?_ ?_ ?_; on_goal 3 => with_unfolding_all exact rfl)

end Sys2Proof.Machine
end

