-- ==== Sys2Proof/Laws/GenahScalarFrame.lean ====
section
/-!
SUPPORT. What each operation of Machine/GenahScalar.lean may change: the parts of the state listed, and never the queue.
-/

namespace Sys2Proof.Machine

theorem execLi_frame (a0) (a1) (a2) (a3) (s : State) : Framed [.ge] s (execLi a0 a1 a2 a3 s) := by
  unfold execLi
  with_reducible repeat' first
    | assumption
    | exact Frame.refl _ _
    | intro _
    | apply Framed.next
    | apply Framed.ite
    | exact Framed.fault
    | exact Framed.refused
    | extract_lets +onlyGivenNames y
    | apply Frame.ite
    | (apply Frame.seq ?_ (State.scalar_frame ..) ?_; on_goal 2 => with_unfolding_all exact rfl)

theorem execAdd_frame (a0) (a1) (a2) (a3) (s : State) : Framed [.ge] s (execAdd a0 a1 a2 a3 s) := by
  unfold execAdd
  with_reducible repeat' first
    | assumption
    | exact Frame.refl _ _
    | intro _
    | apply Framed.next
    | apply Framed.ite
    | exact Framed.fault
    | exact Framed.refused
    | extract_lets +onlyGivenNames y
    | apply Frame.ite
    | (apply Frame.seq ?_ (State.scalar_frame ..) ?_; on_goal 2 => with_unfolding_all exact rfl)

theorem execSub_frame (a0) (a1) (a2) (a3) (s : State) : Framed [.ge] s (execSub a0 a1 a2 a3 s) := by
  unfold execSub
  with_reducible repeat' first
    | assumption
    | exact Frame.refl _ _
    | intro _
    | apply Framed.next
    | apply Framed.ite
    | exact Framed.fault
    | exact Framed.refused
    | extract_lets +onlyGivenNames y
    | apply Frame.ite
    | (apply Frame.seq ?_ (State.scalar_frame ..) ?_; on_goal 2 => with_unfolding_all exact rfl)

theorem execAnd_frame (a0) (a1) (a2) (a3) (s : State) : Framed [.ge] s (execAnd a0 a1 a2 a3 s) := by
  unfold execAnd
  with_reducible repeat' first
    | assumption
    | exact Frame.refl _ _
    | intro _
    | apply Framed.next
    | apply Framed.ite
    | exact Framed.fault
    | exact Framed.refused
    | extract_lets +onlyGivenNames y
    | apply Frame.ite
    | (apply Frame.seq ?_ (State.scalar_frame ..) ?_; on_goal 2 => with_unfolding_all exact rfl)

theorem execOr_frame (a0) (a1) (a2) (a3) (s : State) : Framed [.ge] s (execOr a0 a1 a2 a3 s) := by
  unfold execOr
  with_reducible repeat' first
    | assumption
    | exact Frame.refl _ _
    | intro _
    | apply Framed.next
    | apply Framed.ite
    | exact Framed.fault
    | exact Framed.refused
    | extract_lets +onlyGivenNames y
    | apply Frame.ite
    | (apply Frame.seq ?_ (State.scalar_frame ..) ?_; on_goal 2 => with_unfolding_all exact rfl)

theorem execXor_frame (a0) (a1) (a2) (a3) (s : State) : Framed [.ge] s (execXor a0 a1 a2 a3 s) := by
  unfold execXor
  with_reducible repeat' first
    | assumption
    | exact Frame.refl _ _
    | intro _
    | apply Framed.next
    | apply Framed.ite
    | exact Framed.fault
    | exact Framed.refused
    | extract_lets +onlyGivenNames y
    | apply Frame.ite
    | (apply Frame.seq ?_ (State.scalar_frame ..) ?_; on_goal 2 => with_unfolding_all exact rfl)

theorem execShl_frame (a0) (a1) (a2) (a3) (s : State) : Framed [.ge] s (execShl a0 a1 a2 a3 s) := by
  unfold execShl
  with_reducible repeat' first
    | assumption
    | exact Frame.refl _ _
    | intro _
    | apply Framed.next
    | apply Framed.ite
    | exact Framed.fault
    | exact Framed.refused
    | extract_lets +onlyGivenNames y
    | apply Frame.ite
    | (apply Frame.seq ?_ (State.scalar_frame ..) ?_; on_goal 2 => with_unfolding_all exact rfl)

theorem execShr_frame (a0) (a1) (a2) (a3) (s : State) : Framed [.ge] s (execShr a0 a1 a2 a3 s) := by
  unfold execShr
  with_reducible repeat' first
    | assumption
    | exact Frame.refl _ _
    | intro _
    | apply Framed.next
    | apply Framed.ite
    | exact Framed.fault
    | exact Framed.refused
    | extract_lets +onlyGivenNames y
    | apply Frame.ite
    | (apply Frame.seq ?_ (State.scalar_frame ..) ?_; on_goal 2 => with_unfolding_all exact rfl)

theorem execSar_frame (a0) (a1) (a2) (a3) (s : State) : Framed [.ge] s (execSar a0 a1 a2 a3 s) := by
  unfold execSar
  with_reducible repeat' first
    | assumption
    | exact Frame.refl _ _
    | intro _
    | apply Framed.next
    | apply Framed.ite
    | exact Framed.fault
    | exact Framed.refused
    | extract_lets +onlyGivenNames y
    | apply Frame.ite
    | (apply Frame.seq ?_ (State.scalar_frame ..) ?_; on_goal 2 => with_unfolding_all exact rfl)

theorem execMul_frame (a0) (a1) (a2) (a3) (s : State) : Framed [.ge] s (execMul a0 a1 a2 a3 s) := by
  unfold execMul
  with_reducible repeat' first
    | assumption
    | exact Frame.refl _ _
    | intro _
    | apply Framed.next
    | apply Framed.ite
    | exact Framed.fault
    | exact Framed.refused
    | extract_lets +onlyGivenNames y
    | apply Frame.ite
    | (apply Frame.seq ?_ (State.scalar_frame ..) ?_; on_goal 2 => with_unfolding_all exact rfl)

theorem execCmp_frame (a0) (a1) (a2) (s : State) : Framed [.ge] s (execCmp a0 a1 a2 s) := by
  unfold execCmp
  with_reducible repeat' first
    | assumption
    | exact Frame.refl _ _
    | intro _
    | apply Framed.next
    | apply Framed.ite
    | exact Framed.fault
    | exact Framed.refused
    | extract_lets +onlyGivenNames y
    | apply Frame.ite
    | (apply Frame.seq ?_ (State.scalar_frame ..) ?_; on_goal 2 => with_unfolding_all exact rfl)

theorem execLw_frame (a0) (a1) (a2) (a3) (s : State) : Framed [.ge] s (execLw a0 a1 a2 a3 s) := by
  unfold execLw
  with_reducible repeat' first
    | assumption
    | exact Frame.refl _ _
    | intro _
    | apply Framed.next
    | apply Framed.ite
    | exact Framed.fault
    | exact Framed.refused
    | extract_lets +onlyGivenNames y
    | apply Frame.ite
    | (apply Frame.seq ?_ (State.scalar_frame ..) ?_; on_goal 2 => with_unfolding_all exact rfl)

theorem execSw_frame (a0) (a1) (a2) (a3) (s : State) : Framed [.live, .dmem, .ge] s (execSw a0 a1 a2 a3 s) := by
  unfold execSw
  with_reducible repeat' first
    | assumption
    | exact Frame.refl _ _
    | intro _
    | apply Framed.next
    | apply Framed.ite
    | exact Framed.fault
    | exact Framed.refused
    | extract_lets +onlyGivenNames y
    | apply Frame.ite
    | (apply Frame.seq ?_ (State.storeDmem_frame ..) ?_; on_goal 2 => with_unfolding_all exact rfl)
    | (apply Frame.effect ?_ ?_ ?_; on_goal 3 => with_unfolding_all exact rfl)

end Sys2Proof.Machine
end

