-- ==== Sys2Proof/Laws/GenahSystemFrame.lean ====
section
/-!
SUPPORT. What each operation of Machine/GenahSystem.lean may change: the parts of the state listed, and never the queue.
-/

namespace Sys2Proof.Machine

theorem execTkidx_frame (a0) (a1) (a2) (s : State) : Framed [.ge] s (execTkidx a0 a1 a2 s) := by
  unfold execTkidx
  with_reducible repeat' first
    | assumption
    | exact Frame.refl _ _
    | intro _
    | apply Framed.next
    | apply Framed.ite
    | exact Framed.fault
    | exact Framed.refused
    | extract_lets +onlyGivenNames y
    | apply Frame.ite
    | (apply Frame.seq ?_ (State.scalar_frame ..) ?_; on_goal 2 => with_unfolding_all exact rfl)

theorem execTstat_frame (a0) (a1) (a2) (a3) (s : State) : Framed [.ge] s (execTstat a0 a1 a2 a3 s) := by
  unfold execTstat
  with_reducible repeat' first
    | assumption
    | exact Frame.refl _ _
    | intro _
    | apply Framed.next
    | apply Framed.ite
    | exact Framed.fault
    | exact Framed.refused
    | extract_lets +onlyGivenNames y
    | apply Frame.ite
    | (apply Frame.seq ?_ (State.scalar_frame ..) ?_; on_goal 2 => with_unfolding_all exact rfl)

theorem execMuz_frame (a0) (a1) (a2) (s : State) : Framed [.live, .ge, .marks] s (execMuz a0 a1 a2 s) := by
  unfold execMuz
  with_reducible repeat' first
    | assumption
    | exact Frame.refl _ _
    | intro _
    | apply Framed.next
    | apply Framed.ite
    | exact Framed.fault
    | exact Framed.refused
    | extract_lets +onlyGivenNames y
    | apply Frame.ite
    | (apply Frame.effect ?_ ?_ ?_; on_goal 3 => with_unfolding_all exact rfl)
    | (fail_if_no_progress (apply Frame.set_marks ?_ ?_; (on_goal 2 => with_unfolding_all exact rfl)))

theorem execMark_frame (a0) (a1) (a2) (s : State) : Framed [.live, .evt, .ge, .out] s (execMark a0 a1 a2 s) := by
  unfold execMark
  with_reducible repeat' first
    | assumption
    | exact Frame.refl _ _
    | intro _
    | apply Framed.next
    | apply Framed.ite
    | exact Framed.fault
    | exact Framed.refused
    | extract_lets +onlyGivenNames y
    | apply Frame.ite
    | (apply Frame.seq ?_ (State.report_frame ..) ?_; on_goal 2 => with_unfolding_all exact rfl)
    | (apply Frame.effect ?_ ?_ ?_; on_goal 3 => with_unfolding_all exact rfl)

end Sys2Proof.Machine
end

