-- ==== Sys2Proof/Laws/HostRowsFrame.lean ====
section
/-!
SUPPORT. What each operation of Machine/HostRows.lean may change: the parts of the state listed, and never the queue.
-/

namespace Sys2Proof.Machine

theorem State.ifaceWrite_frame (s : State) (a1) (a2) (a3) (a4) (a5) : Frame Part.all s (State.ifaceWrite s a1 a2 a3 a4 a5) := by
  unfold State.ifaceWrite
  with_reducible repeat' first
    | assumption
    | exact Frame.refl _ _
    | intro _
    | extract_lets +onlyGivenNames y
    | apply Frame.ite
    | (apply Frame.seq ?_ (State.hostWrite_frame ..) ?_; on_goal 2 => with_unfolding_all exact rfl)

theorem execCommitGo_frame (a0) (a1) (s : State) : Framed Part.all s (execCommitGo a0 a1 s) := by
  unfold execCommitGo
  with_reducible repeat' first
    | assumption
    | exact Frame.refl _ _
    | intro _
    | apply Framed.next
    | apply Framed.ite
    | exact Framed.fault
    | exact Framed.refused
    | extract_lets +onlyGivenNames y
    | apply Frame.ite
    | (apply Frame.seq ?_ (State.regCommand_frame ..) ?_; on_goal 2 => with_unfolding_all exact rfl)

theorem execCommitCancel_frame (a0) (a1) (s : State) : Framed Part.all s (execCommitCancel a0 a1 s) := by
  unfold execCommitCancel
  with_reducible repeat' first
    | assumption
    | exact Frame.refl _ _
    | intro _
    | apply Framed.next
    | apply Framed.ite
    | exact Framed.fault
    | exact Framed.refused
    | extract_lets +onlyGivenNames y
    | apply Frame.ite
    | (apply Frame.seq ?_ (State.regCommand_frame ..) ?_; on_goal 2 => with_unfolding_all exact rfl)

theorem execSnapshotRequest_frame (a0) (s : State) : Framed Part.all s (execSnapshotRequest a0 s) := by
  unfold execSnapshotRequest
  with_reducible repeat' first
    | assumption
    | exact Frame.refl _ _
    | intro _
    | apply Framed.next
    | apply Framed.ite
    | exact Framed.fault
    | exact Framed.refused
    | extract_lets +onlyGivenNames y
    | apply Frame.ite
    | (apply Frame.seq ?_ (State.regCommand_frame ..) ?_; on_goal 2 => with_unfolding_all exact rfl)

theorem execCkptNow_frame (a0) (a1) (s : State) : Framed Part.all s (execCkptNow a0 a1 s) := by
  unfold execCkptNow
  with_reducible repeat' first
    | assumption
    | exact Frame.refl _ _
    | intro _
    | apply Framed.next
    | apply Framed.ite
    | exact Framed.fault
    | exact Framed.refused
    | extract_lets +onlyGivenNames y
    | apply Frame.ite
    | (apply Frame.seq ?_ (State.regCommand_frame ..) ?_; on_goal 2 => with_unfolding_all exact rfl)

theorem execEngineCounterClear_frame (a0) (a1) (s : State) : Framed Part.all s (execEngineCounterClear a0 a1 s) := by
  unfold execEngineCounterClear
  with_reducible repeat' first
    | assumption
    | exact Frame.refl _ _
    | intro _
    | apply Framed.next
    | apply Framed.ite
    | exact Framed.fault
    | exact Framed.refused
    | extract_lets +onlyGivenNames y
    | apply Frame.ite
    | (apply Frame.seq ?_ (State.regCommand_frame ..) ?_; on_goal 2 => with_unfolding_all exact rfl)

theorem execGeProfileLoad_frame (a0) (a1) (a2) (s : State) : Framed Part.all s (execGeProfileLoad a0 a1 a2 s) := by
  unfold execGeProfileLoad
  with_reducible repeat' first
    | assumption
    | exact Frame.refl _ _
    | intro _
    | apply Framed.next
    | apply Framed.ite
    | exact Framed.fault
    | exact Framed.refused
    | extract_lets +onlyGivenNames y
    | apply Frame.ite
    | (apply Frame.seq ?_ (State.regCommand_frame ..) ?_; on_goal 2 => with_unfolding_all exact rfl)

theorem execRxCounterClear_frame (a0) (a1) (s : State) : Framed Part.all s (execRxCounterClear a0 a1 s) := by
  unfold execRxCounterClear
  with_reducible repeat' first
    | assumption
    | exact Frame.refl _ _
    | intro _
    | apply Framed.next
    | apply Framed.ite
    | exact Framed.fault
    | exact Framed.refused
    | extract_lets +onlyGivenNames y
    | apply Frame.ite
    | (apply Frame.seq ?_ (State.regCommand_frame ..) ?_; on_goal 2 => with_unfolding_all exact rfl)

theorem execTxCounterClear_frame (a0) (a1) (s : State) : Framed Part.all s (execTxCounterClear a0 a1 s) := by
  unfold execTxCounterClear
  with_reducible repeat' first
    | assumption
    | exact Frame.refl _ _
    | intro _
    | apply Framed.next
    | apply Framed.ite
    | exact Framed.fault
    | exact Framed.refused
    | extract_lets +onlyGivenNames y
    | apply Frame.ite
    | (apply Frame.seq ?_ (State.regCommand_frame ..) ?_; on_goal 2 => with_unfolding_all exact rfl)

theorem execTxProfileLoad_frame (a0) (a1) (s : State) : Framed Part.all s (execTxProfileLoad a0 a1 s) := by
  unfold execTxProfileLoad
  with_reducible repeat' first
    | assumption
    | exact Frame.refl _ _
    | intro _
    | apply Framed.next
    | apply Framed.ite
    | exact Framed.fault
    | exact Framed.refused
    | extract_lets +onlyGivenNames y
    | apply Frame.ite
    | (apply Frame.seq ?_ (State.regCommand_frame ..) ?_; on_goal 2 => with_unfolding_all exact rfl)

theorem execKennelReset_frame (a0) (a1) (s : State) : Framed Part.all s (execKennelReset a0 a1 s) := by
  unfold execKennelReset
  with_reducible repeat' first
    | assumption
    | exact Frame.refl _ _
    | intro _
    | apply Framed.next
    | apply Framed.ite
    | exact Framed.fault
    | exact Framed.refused
    | extract_lets +onlyGivenNames y
    | apply Frame.ite
    | (apply Frame.seq ?_ (State.regCommand_frame ..) ?_; on_goal 2 => with_unfolding_all exact rfl)

theorem execKennelPioPush_frame (a0) (a1) (a2) (a3) (s : State) : Framed Part.all s (execKennelPioPush a0 a1 a2 a3 s) := by
  unfold execKennelPioPush
  with_reducible repeat' first
    | assumption
    | exact Frame.refl _ _
    | intro _
    | apply Framed.next
    | apply Framed.ite
    | exact Framed.fault
    | exact Framed.refused
    | extract_lets +onlyGivenNames y
    | apply Frame.ite
    | (apply Frame.seq ?_ (State.ifaceWrite_frame ..) ?_; on_goal 2 => with_unfolding_all exact rfl)

theorem execKennelPioPushlast_frame (a0) (a1) (a2) (a3) (s : State) : Framed Part.all s (execKennelPioPushlast a0 a1 a2 a3 s) := by
  unfold execKennelPioPushlast
  with_reducible repeat' first
    | assumption
    | exact Frame.refl _ _
    | intro _
    | apply Framed.next
    | apply Framed.ite
    | exact Framed.fault
    | exact Framed.refused
    | extract_lets +onlyGivenNames y
    | apply Frame.ite
    | (apply Frame.seq ?_ (State.ifaceWrite_frame ..) ?_; on_goal 2 => with_unfolding_all exact rfl)

theorem execKennelPioPop_frame (a0) (a1) (a2) (s : State) : Framed Part.all s (execKennelPioPop a0 a1 a2 s) := by
  unfold execKennelPioPop
  with_reducible repeat' first
    | assumption
    | exact Frame.refl _ _
    | intro _
    | apply Framed.next
    | apply Framed.ite
    | exact Framed.fault
    | exact Framed.refused
    | extract_lets +onlyGivenNames y
    | apply Frame.ite
    | (apply Frame.seq ?_ (State.ifaceWrite_frame ..) ?_; on_goal 2 => with_unfolding_all exact rfl)

theorem execHerdArm_frame (a0) (a1) (s : State) : Framed Part.all s (execHerdArm a0 a1 s) := by
  unfold execHerdArm
  with_reducible repeat' first
    | assumption
    | exact Frame.refl _ _
    | intro _
    | apply Framed.next
    | apply Framed.ite
    | exact Framed.fault
    | exact Framed.refused
    | extract_lets +onlyGivenNames y
    | apply Frame.ite
    | (apply Frame.seq ?_ (State.regCommand_frame ..) ?_; on_goal 2 => with_unfolding_all exact rfl)

theorem execHerdGo_frame (a0) (a1) (s : State) : Framed Part.all s (execHerdGo a0 a1 s) := by
  unfold execHerdGo
  with_reducible repeat' first
    | assumption
    | exact Frame.refl _ _
    | intro _
    | apply Framed.next
    | apply Framed.ite
    | exact Framed.fault
    | exact Framed.refused
    | extract_lets +onlyGivenNames y
    | apply Frame.ite
    | (apply Frame.seq ?_ (State.regCommand_frame ..) ?_; on_goal 2 => with_unfolding_all exact rfl)

theorem execHerdStop_frame (a0) (a1) (s : State) : Framed Part.all s (execHerdStop a0 a1 s) := by
  unfold execHerdStop
  with_reducible repeat' first
    | assumption
    | exact Frame.refl _ _
    | intro _
    | apply Framed.next
    | apply Framed.ite
    | exact Framed.fault
    | exact Framed.refused
    | extract_lets +onlyGivenNames y
    | apply Frame.ite
    | (apply Frame.seq ?_ (State.regCommand_frame ..) ?_; on_goal 2 => with_unfolding_all exact rfl)

theorem execRefProfileLoad_frame (a0) (a1) (s : State) : Framed Part.all s (execRefProfileLoad a0 a1 s) := by
  unfold execRefProfileLoad
  with_reducible repeat' first
    | assumption
    | exact Frame.refl _ _
    | intro _
    | apply Framed.next
    | apply Framed.ite
    | exact Framed.fault
    | exact Framed.refused
    | extract_lets +onlyGivenNames y
    | apply Frame.ite
    | (apply Frame.seq ?_ (State.regCommand_frame ..) ?_; on_goal 2 => with_unfolding_all exact rfl)

theorem execApllRelock_frame (a0) (a1) (s : State) : Framed Part.all s (execApllRelock a0 a1 s) := by
  unfold execApllRelock
  with_reducible repeat' first
    | assumption
    | exact Frame.refl _ _
    | intro _
    | apply Framed.next
    | apply Framed.ite
    | exact Framed.fault
    | exact Framed.refused
    | extract_lets +onlyGivenNames y
    | apply Frame.ite
    | (apply Frame.seq ?_ (State.regCommand_frame ..) ?_; on_goal 2 => with_unfolding_all exact rfl)

theorem execRampGo_frame (a0) (a1) (s : State) : Framed Part.all s (execRampGo a0 a1 s) := by
  unfold execRampGo
  with_reducible repeat' first
    | assumption
    | exact Frame.refl _ _
    | intro _
    | apply Framed.next
    | apply Framed.ite
    | exact Framed.fault
    | exact Framed.refused
    | extract_lets +onlyGivenNames y
    | apply Frame.ite
    | (apply Frame.seq ?_ (State.regCommand_frame ..) ?_; on_goal 2 => with_unfolding_all exact rfl)

theorem execRampStop_frame (a0) (a1) (s : State) : Framed Part.all s (execRampStop a0 a1 s) := by
  unfold execRampStop
  with_reducible repeat' first
    | assumption
    | exact Frame.refl _ _
    | intro _
    | apply Framed.next
    | apply Framed.ite
    | exact Framed.fault
    | exact Framed.refused
    | extract_lets +onlyGivenNames y
    | apply Frame.ite
    | (apply Frame.seq ?_ (State.regCommand_frame ..) ?_; on_goal 2 => with_unfolding_all exact rfl)

theorem execEimArm_frame (a0) (s : State) : Framed Part.all s (execEimArm a0 s) := by
  unfold execEimArm
  with_reducible repeat' first
    | assumption
    | exact Frame.refl _ _
    | intro _
    | apply Framed.next
    | apply Framed.ite
    | exact Framed.fault
    | exact Framed.refused
    | extract_lets +onlyGivenNames y
    | apply Frame.ite
    | (apply Frame.seq ?_ (State.regCommand_frame ..) ?_; on_goal 2 => with_unfolding_all exact rfl)

theorem execEimStop_frame (a0) (s : State) : Framed Part.all s (execEimStop a0 s) := by
  unfold execEimStop
  with_reducible repeat' first
    | assumption
    | exact Frame.refl _ _
    | intro _
    | apply Framed.next
    | apply Framed.ite
    | exact Framed.fault
    | exact Framed.refused
    | extract_lets +onlyGivenNames y
    | apply Frame.ite
    | (apply Frame.seq ?_ (State.regCommand_frame ..) ?_; on_goal 2 => with_unfolding_all exact rfl)

theorem execTimeCap_frame (a0) (a1) (s : State) : Framed Part.all s (execTimeCap a0 a1 s) := by
  unfold execTimeCap
  with_reducible repeat' first
    | assumption
    | exact Frame.refl _ _
    | intro _
    | apply Framed.next
    | apply Framed.ite
    | exact Framed.fault
    | exact Framed.refused
    | extract_lets +onlyGivenNames y
    | apply Frame.ite
    | (apply Frame.seq ?_ (State.regCommand_frame ..) ?_; on_goal 2 => with_unfolding_all exact rfl)

theorem execTimeSet_frame (a0) (a1) (s : State) : Framed Part.all s (execTimeSet a0 a1 s) := by
  unfold execTimeSet
  with_reducible repeat' first
    | assumption
    | exact Frame.refl _ _
    | intro _
    | apply Framed.next
    | apply Framed.ite
    | exact Framed.fault
    | exact Framed.refused
    | extract_lets +onlyGivenNames y
    | apply Frame.ite
    | (apply Frame.seq ?_ (State.regCommand_frame ..) ?_; on_goal 2 => with_unfolding_all exact rfl)

theorem execTimeAlign_frame (a0) (a1) (s : State) : Framed Part.all s (execTimeAlign a0 a1 s) := by
  unfold execTimeAlign
  with_reducible repeat' first
    | assumption
    | exact Frame.refl _ _
    | intro _
    | apply Framed.next
    | apply Framed.ite
    | exact Framed.fault
    | exact Framed.refused
    | extract_lets +onlyGivenNames y
    | apply Frame.ite
    | (apply Frame.seq ?_ (State.regCommand_frame ..) ?_; on_goal 2 => with_unfolding_all exact rfl)

theorem execServoHostSample_frame (a0) (a1) (s : State) : Framed Part.all s (execServoHostSample a0 a1 s) := by
  unfold execServoHostSample
  with_reducible repeat' first
    | assumption
    | exact Frame.refl _ _
    | intro _
    | apply Framed.next
    | apply Framed.ite
    | exact Framed.fault
    | exact Framed.refused
    | extract_lets +onlyGivenNames y
    | apply Frame.ite
    | (apply Frame.seq ?_ (State.regCommand_frame ..) ?_; on_goal 2 => with_unfolding_all exact rfl)

theorem execPtpProfileLoad_frame (a0) (a1) (a2) (s : State) : Framed Part.all s (execPtpProfileLoad a0 a1 a2 s) := by
  unfold execPtpProfileLoad
  with_reducible repeat' first
    | assumption
    | exact Frame.refl _ _
    | intro _
    | apply Framed.next
    | apply Framed.ite
    | exact Framed.fault
    | exact Framed.refused
    | extract_lets +onlyGivenNames y
    | apply Frame.ite
    | (apply Frame.seq ?_ (State.regCommand_frame ..) ?_; on_goal 2 => with_unfolding_all exact rfl)

theorem execPgArm_frame (a0) (a1) (a2) (s : State) : Framed Part.all s (execPgArm a0 a1 a2 s) := by
  unfold execPgArm
  with_reducible repeat' first
    | assumption
    | exact Frame.refl _ _
    | intro _
    | apply Framed.next
    | apply Framed.ite
    | exact Framed.fault
    | exact Framed.refused
    | extract_lets +onlyGivenNames y
    | apply Frame.ite
    | (apply Frame.seq ?_ (State.regCommand_frame ..) ?_; on_goal 2 => with_unfolding_all exact rfl)

theorem execPgStop_frame (a0) (a1) (a2) (s : State) : Framed Part.all s (execPgStop a0 a1 a2 s) := by
  unfold execPgStop
  with_reducible repeat' first
    | assumption
    | exact Frame.refl _ _
    | intro _
    | apply Framed.next
    | apply Framed.ite
    | exact Framed.fault
    | exact Framed.refused
    | extract_lets +onlyGivenNames y
    | apply Frame.ite
    | (apply Frame.seq ?_ (State.regCommand_frame ..) ?_; on_goal 2 => with_unfolding_all exact rfl)

theorem execLtcJam_frame (a0) (a1) (s : State) : Framed Part.all s (execLtcJam a0 a1 s) := by
  unfold execLtcJam
  with_reducible repeat' first
    | assumption
    | exact Frame.refl _ _
    | intro _
    | apply Framed.next
    | apply Framed.ite
    | exact Framed.fault
    | exact Framed.refused
    | extract_lets +onlyGivenNames y
    | apply Frame.ite
    | (apply Frame.seq ?_ (State.regCommand_frame ..) ?_; on_goal 2 => with_unfolding_all exact rfl)

theorem execVoiceGo_frame (a0) (a1) (s : State) : Framed Part.all s (execVoiceGo a0 a1 s) := by
  unfold execVoiceGo
  with_reducible repeat' first
    | assumption
    | exact Frame.refl _ _
    | intro _
    | apply Framed.next
    | apply Framed.ite
    | exact Framed.fault
    | exact Framed.refused
    | extract_lets +onlyGivenNames y
    | apply Frame.ite
    | (apply Frame.seq ?_ (State.regCommand_frame ..) ?_; on_goal 2 => with_unfolding_all exact rfl)

theorem execVoiceStop_frame (a0) (a1) (s : State) : Framed Part.all s (execVoiceStop a0 a1 s) := by
  unfold execVoiceStop
  with_reducible repeat' first
    | assumption
    | exact Frame.refl _ _
    | intro _
    | apply Framed.next
    | apply Framed.ite
    | exact Framed.fault
    | exact Framed.refused
    | extract_lets +onlyGivenNames y
    | apply Frame.ite
    | (apply Frame.seq ?_ (State.regCommand_frame ..) ?_; on_goal 2 => with_unfolding_all exact rfl)

theorem execCaptureGo_frame (a0) (a1) (s : State) : Framed Part.all s (execCaptureGo a0 a1 s) := by
  unfold execCaptureGo
  with_reducible repeat' first
    | assumption
    | exact Frame.refl _ _
    | intro _
    | apply Framed.next
    | apply Framed.ite
    | exact Framed.fault
    | exact Framed.refused
    | extract_lets +onlyGivenNames y
    | apply Frame.ite
    | (apply Frame.seq ?_ (State.regCommand_frame ..) ?_; on_goal 2 => with_unfolding_all exact rfl)

theorem execCaptureStop_frame (a0) (a1) (s : State) : Framed Part.all s (execCaptureStop a0 a1 s) := by
  unfold execCaptureStop
  with_reducible repeat' first
    | assumption
    | exact Frame.refl _ _
    | intro _
    | apply Framed.next
    | apply Framed.ite
    | exact Framed.fault
    | exact Framed.refused
    | extract_lets +onlyGivenNames y
    | apply Frame.ite
    | (apply Frame.seq ?_ (State.regCommand_frame ..) ?_; on_goal 2 => with_unfolding_all exact rfl)

theorem execHostWrite_frame (a0) (a1) (a2) (a3) (a4) (s : State) : Framed Part.all s (execHostWrite a0 a1 a2 a3 a4 s) := by
  unfold execHostWrite
  with_reducible repeat' first
    | assumption
    | exact Frame.refl _ _
    | intro _
    | apply Framed.next
    | apply Framed.ite
    | exact Framed.fault
    | exact Framed.refused
    | extract_lets +onlyGivenNames y
    | apply Frame.ite
    | (apply Frame.seq ?_ (State.ifaceWrite_frame ..) ?_; on_goal 2 => with_unfolding_all exact rfl)

theorem execSetAliasWrite_frame (a0) (a1) (a2) (s : State) : Framed Part.all s (execSetAliasWrite a0 a1 a2 s) := by
  unfold execSetAliasWrite
  with_reducible repeat' first
    | assumption
    | exact Frame.refl _ _
    | intro _
    | apply Framed.next
    | apply Framed.ite
    | exact Framed.fault
    | exact Framed.refused
    | extract_lets +onlyGivenNames y
    | apply Frame.ite
    | (apply Frame.seq ?_ (State.ifaceWrite_frame ..) ?_; on_goal 2 => with_unfolding_all exact rfl)

theorem execClrAliasWrite_frame (a0) (a1) (a2) (s : State) : Framed Part.all s (execClrAliasWrite a0 a1 a2 s) := by
  unfold execClrAliasWrite
  with_reducible repeat' first
    | assumption
    | exact Frame.refl _ _
    | intro _
    | apply Framed.next
    | apply Framed.ite
    | exact Framed.fault
    | exact Framed.refused
    | extract_lets +onlyGivenNames y
    | apply Frame.ite
    | (apply Frame.seq ?_ (State.ifaceWrite_frame ..) ?_; on_goal 2 => with_unfolding_all exact rfl)

theorem execTglAliasWrite_frame (a0) (a1) (a2) (s : State) : Framed Part.all s (execTglAliasWrite a0 a1 a2 s) := by
  unfold execTglAliasWrite
  with_reducible repeat' first
    | assumption
    | exact Frame.refl _ _
    | intro _
    | apply Framed.next
    | apply Framed.ite
    | exact Framed.fault
    | exact Framed.refused
    | extract_lets +onlyGivenNames y
    | apply Frame.ite
    | (apply Frame.seq ?_ (State.ifaceWrite_frame ..) ?_; on_goal 2 => with_unfolding_all exact rfl)

theorem execSqAcknowledge_frame (a0) (a1) (a2) (s : State) : Framed Part.all s (execSqAcknowledge a0 a1 a2 s) := by
  unfold execSqAcknowledge
  with_reducible repeat' first
    | assumption
    | exact Frame.refl _ _
    | intro _
    | apply Framed.next
    | apply Framed.ite
    | exact Framed.fault
    | exact Framed.refused
    | extract_lets +onlyGivenNames y
    | apply Frame.ite
    | (apply Frame.seq ?_ (State.regCommand_frame ..) ?_; on_goal 2 => with_unfolding_all exact rfl)
    | (apply Frame.of_snd (by assumption))
    | (apply Frame.of_fst (by assumption))
    | (apply Frame.of_snd2 (by assumption))
    | apply Frame.ite1
    | apply Frame.ite2
    | split

theorem execWo1Write_frame (a0) (a1) (a2) (s : State) : Framed Part.all s (execWo1Write a0 a1 a2 s) := by
  unfold execWo1Write
  with_reducible repeat' first
    | assumption
    | exact Frame.refl _ _
    | intro _
    | apply Framed.next
    | apply Framed.ite
    | exact Framed.fault
    | exact Framed.refused
    | extract_lets +onlyGivenNames y
    | apply Frame.ite
    | (apply Frame.seq ?_ (State.regCommand_frame ..) ?_; on_goal 2 => with_unfolding_all exact rfl)
    | (apply Frame.of_snd (by assumption))
    | (apply Frame.of_fst (by assumption))
    | (apply Frame.of_snd2 (by assumption))
    | apply Frame.ite1
    | apply Frame.ite2
    | split

theorem execDbgRequest_frame (a0) (s : State) : Framed Part.all s (execDbgRequest a0 s) := by
  unfold execDbgRequest
  with_reducible repeat' first
    | assumption
    | exact Frame.refl _ _
    | intro _
    | apply Framed.next
    | apply Framed.ite
    | exact Framed.fault
    | exact Framed.refused
    | extract_lets +onlyGivenNames y
    | apply Frame.ite
    | (apply Frame.seq ?_ (State.regCommand_frame ..) ?_; on_goal 2 => with_unfolding_all exact rfl)

theorem execDbgSubmit_frame (a0) (s : State) : Framed Part.all s (execDbgSubmit a0 s) := by
  unfold execDbgSubmit
  with_reducible repeat' first
    | assumption
    | exact Frame.refl _ _
    | intro _
    | apply Framed.next
    | apply Framed.ite
    | exact Framed.fault
    | exact Framed.refused
    | extract_lets +onlyGivenNames y
    | apply Frame.ite
    | (apply Frame.seq ?_ (State.regCommand_frame ..) ?_; on_goal 2 => with_unfolding_all exact rfl)

theorem execAttestGo_frame (a0) (s : State) : Framed Part.all s (execAttestGo a0 s) := by
  unfold execAttestGo
  with_reducible repeat' first
    | assumption
    | exact Frame.refl _ _
    | intro _
    | apply Framed.next
    | apply Framed.ite
    | exact Framed.fault
    | exact Framed.refused
    | extract_lets +onlyGivenNames y
    | apply Frame.ite
    | (apply Frame.seq ?_ (State.regCommand_frame ..) ?_; on_goal 2 => with_unfolding_all exact rfl)

theorem execHcmdOpen_frame (a0) (s : State) : Framed Part.all s (execHcmdOpen a0 s) := by
  unfold execHcmdOpen
  with_reducible repeat' first
    | assumption
    | exact Frame.refl _ _
    | intro _
    | apply Framed.next
    | apply Framed.ite
    | exact Framed.fault
    | exact Framed.refused
    | extract_lets +onlyGivenNames y
    | apply Frame.ite
    | (apply Frame.seq ?_ (State.regCommand_frame ..) ?_; on_goal 2 => with_unfolding_all exact rfl)

theorem execHcmdBlock_frame (a0) (a1) (s : State) : Framed Part.all s (execHcmdBlock a0 a1 s) := by
  unfold execHcmdBlock
  with_reducible repeat' first
    | assumption
    | exact Frame.refl _ _
    | intro _
    | apply Framed.next
    | apply Framed.ite
    | exact Framed.fault
    | exact Framed.refused
    | extract_lets +onlyGivenNames y
    | apply Frame.ite
    | (apply Frame.seq ?_ (State.regCommand_frame ..) ?_; on_goal 2 => with_unfolding_all exact rfl)

theorem execHcmdEnd_frame (a0) (s : State) : Framed Part.all s (execHcmdEnd a0 s) := by
  unfold execHcmdEnd
  with_reducible repeat' first
    | assumption
    | exact Frame.refl _ _
    | intro _
    | apply Framed.next
    | apply Framed.ite
    | exact Framed.fault
    | exact Framed.refused
    | extract_lets +onlyGivenNames y
    | apply Frame.ite
    | (apply Frame.seq ?_ (State.regCommand_frame ..) ?_; on_goal 2 => with_unfolding_all exact rfl)

theorem execHcmdAbort_frame (a0) (s : State) : Framed Part.all s (execHcmdAbort a0 s) := by
  unfold execHcmdAbort
  with_reducible repeat' first
    | assumption
    | exact Frame.refl _ _
    | intro _
    | apply Framed.next
    | apply Framed.ite
    | exact Framed.fault
    | exact Framed.refused
    | extract_lets +onlyGivenNames y
    | apply Frame.ite
    | (apply Frame.seq ?_ (State.regCommand_frame ..) ?_; on_goal 2 => with_unfolding_all exact rfl)

theorem execOwnerset_frame (a0) (a1) (s : State) : Framed Part.all s (execOwnerset a0 a1 s) := by
  unfold execOwnerset
  with_reducible repeat' first
    | assumption
    | exact Frame.refl _ _
    | intro _
    | apply Framed.next
    | apply Framed.ite
    | exact Framed.fault
    | exact Framed.refused
    | extract_lets +onlyGivenNames y
    | apply Frame.ite
    | (apply Frame.seq ?_ (State.regCommand_frame ..) ?_; on_goal 2 => with_unfolding_all exact rfl)

theorem execUnlock_frame (a0) (a1) (s : State) : Framed Part.all s (execUnlock a0 a1 s) := by
  unfold execUnlock
  with_reducible repeat' first
    | assumption
    | exact Frame.refl _ _
    | intro _
    | apply Framed.next
    | apply Framed.ite
    | exact Framed.fault
    | exact Framed.refused
    | extract_lets +onlyGivenNames y
    | apply Frame.ite
    | (apply Frame.seq ?_ (State.regCommand_frame ..) ?_; on_goal 2 => with_unfolding_all exact rfl)

theorem execRollbackAdvance_frame (a0) (s : State) : Framed Part.all s (execRollbackAdvance a0 s) := by
  unfold execRollbackAdvance
  with_reducible repeat' first
    | assumption
    | exact Frame.refl _ _
    | intro _
    | apply Framed.next
    | apply Framed.ite
    | exact Framed.fault
    | exact Framed.refused
    | extract_lets +onlyGivenNames y
    | apply Frame.ite
    | (apply Frame.seq ?_ (State.regCommand_frame ..) ?_; on_goal 2 => with_unfolding_all exact rfl)

theorem execPcieLinkTrained_frame (a0) (a1) (s : State) : Framed [.live] s (execPcieLinkTrained a0 a1 s) := by
  unfold execPcieLinkTrained
  with_reducible repeat' first
    | assumption
    | exact Frame.refl _ _
    | intro _
    | apply Framed.next
    | apply Framed.ite
    | exact Framed.fault
    | exact Framed.refused
    | extract_lets +onlyGivenNames y
    | apply Frame.ite
    | (apply Frame.seq ?_ (State.wr_frame ..) ?_; on_goal 2 => with_unfolding_all exact rfl)
    | (apply Frame.seq ?_ (State.wrFlag_frame ..) ?_; on_goal 2 => with_unfolding_all exact rfl)

end Sys2Proof.Machine
end

