-- ==== Sys2Proof/Laws/IdleFrame.lean ====
section
/-!
SUPPORT. What each operation of Machine/Idle.lean may change: the parts of the state listed, and never the queue.
-/

namespace Sys2Proof.Machine

theorem State.coreCycle_frame (s : State) : Frame [.clk] s (State.coreCycle s) := by
  unfold State.coreCycle
  with_reducible repeat' first
    | assumption
    | exact Frame.refl _ _
    | intro _
    | (extract_lets +onlyGivenNames y; clear_value (e : y = _); revert y; apply Frame.cut)
    | extract_lets +onlyGivenNames y
    | apply Frame.ite
    | (fail_if_no_progress (apply Frame.set_clk ?_ ?_; (on_goal 2 => with_unfolding_all exact rfl)))

end Sys2Proof.Machine
end

