-- ==== Sys2Proof/Laws/State.lean ====
section
/-!
SUPPORT. The laws of the named operations on the state: what each leaves alone, by `rfl`, and how a word or a field reads after it is
written.
-/

namespace Sys2Proof.Machine

/-! ## Parts that an operation leaves alone -/

@[simp] theorem State.setWord_clk (s : State) (k : Nat) (v : Word) : (s.setWord k v).clk = s.clk := rfl
@[simp] theorem State.setWord_shadow (s : State) (k : Nat) (v : Word) : (s.setWord k v).shadow = s.shadow := rfl
@[simp] theorem State.setWord_pend (s : State) (k : Nat) (v : Word) : (s.setWord k v).pend = s.pend := rfl
@[simp] theorem State.setWord_commit (s : State) (k : Nat) (v : Word) : (s.setWord k v).commit = s.commit := rfl
@[simp] theorem State.setWord_snap (s : State) (k : Nat) (v : Word) : (s.setWord k v).snap = s.snap := rfl
@[simp] theorem State.setWord_ckpt (s : State) (k : Nat) (v : Word) : (s.setWord k v).ckpt = s.ckpt := rfl
@[simp] theorem State.setWord_faults (s : State) (k : Nat) (v : Word) : (s.setWord k v).faults = s.faults := rfl
@[simp] theorem State.setWord_evt (s : State) (k : Nat) (v : Word) : (s.setWord k v).evt = s.evt := rfl
@[simp] theorem State.setWord_sxm (s : State) (k : Nat) (v : Word) : (s.setWord k v).sxm = s.sxm := rfl
@[simp] theorem State.setWord_sxmPast (s : State) (k : Nat) (v : Word) : (s.setWord k v).sxmPast = s.sxmPast := rfl
@[simp] theorem State.setWord_dmem (s : State) (k : Nat) (v : Word) : (s.setWord k v).dmem = s.dmem := rfl
@[simp] theorem State.setWord_dram (s : State) (k : Nat) (v : Word) : (s.setWord k v).dram = s.dram := rfl
@[simp] theorem State.setWord_valid (s : State) (k : Nat) (v : Word) : (s.setWord k v).valid = s.valid := rfl
@[simp] theorem State.setWord_spoiled (s : State) (k : Nat) (v : Word) : (s.setWord k v).spoiled = s.spoiled := rfl
@[simp] theorem State.setWord_shut (s : State) (k : Nat) (v : Word) : (s.setWord k v).shut = s.shut := rfl
@[simp] theorem State.setWord_placed (s : State) (k : Nat) (v : Word) : (s.setWord k v).placed = s.placed := rfl
@[simp] theorem State.setWord_ge (s : State) (k : Nat) (v : Word) : (s.setWord k v).ge = s.ge := rfl
@[simp] theorem State.setWord_free (s : State) (k : Nat) (v : Word) : (s.setWord k v).free = s.free := rfl
@[simp] theorem State.setWord_muz (s : State) (k : Nat) (v : Word) : (s.setWord k v).muz = s.muz := rfl
@[simp] theorem State.setWord_marks (s : State) (k : Nat) (v : Word) : (s.setWord k v).marks = s.marks := rfl
@[simp] theorem State.setWord_herd (s : State) (k : Nat) (v : Word) : (s.setWord k v).herd = s.herd := rfl
@[simp] theorem State.setWord_gathered (s : State) (k : Nat) (v : Word) : (s.setWord k v).gathered = s.gathered := rfl
@[simp] theorem State.setWord_pair (s : State) (k : Nat) (v : Word) : (s.setWord k v).pair = s.pair := rfl
@[simp] theorem State.setWord_knl (s : State) (k : Nat) (v : Word) : (s.setWord k v).knl = s.knl := rfl
@[simp] theorem State.setWord_copies (s : State) (k : Nat) (v : Word) : (s.setWord k v).copies = s.copies := rfl
@[simp] theorem State.setWord_rxHeld (s : State) (k : Nat) (v : Word) : (s.setWord k v).rxHeld = s.rxHeld := rfl
@[simp] theorem State.setWord_rx (s : State) (k : Nat) (v : Word) : (s.setWord k v).rx = s.rx := rfl
@[simp] theorem State.setWord_deepValid (s : State) (k : Nat) (v : Word) : (s.setWord k v).deepValid = s.deepValid := rfl
@[simp] theorem State.setWord_tx (s : State) (k : Nat) (v : Word) : (s.setWord k v).tx = s.tx := rfl
@[simp] theorem State.setWord_loc (s : State) (k : Nat) (v : Word) : (s.setWord k v).loc = s.loc := rfl
@[simp] theorem State.setWord_atx (s : State) (k : Nat) (v : Word) : (s.setWord k v).atx = s.atx := rfl
@[simp] theorem State.setWord_syn (s : State) (k : Nat) (v : Word) : (s.setWord k v).syn = s.syn := rfl
@[simp] theorem State.setWord_eim (s : State) (k : Nat) (v : Word) : (s.setWord k v).eim = s.eim := rfl
@[simp] theorem State.setWord_ref (s : State) (k : Nat) (v : Word) : (s.setWord k v).ref = s.ref := rfl
@[simp] theorem State.setWord_times (s : State) (k : Nat) (v : Word) : (s.setWord k v).times = s.times := rfl
@[simp] theorem State.setWord_net (s : State) (k : Nat) (v : Word) : (s.setWord k v).net = s.net := rfl
@[simp] theorem State.setWord_mem (s : State) (k : Nat) (v : Word) : (s.setWord k v).mem = s.mem := rfl
@[simp] theorem State.setWord_fuse (s : State) (k : Nat) (v : Word) : (s.setWord k v).fuse = s.fuse := rfl
@[simp] theorem State.setWord_flash (s : State) (k : Nat) (v : Word) : (s.setWord k v).flash = s.flash := rfl
@[simp] theorem State.setWord_ret (s : State) (k : Nat) (v : Word) : (s.setWord k v).ret = s.ret := rfl
@[simp] theorem State.setWord_sec (s : State) (k : Nat) (v : Word) : (s.setWord k v).sec = s.sec := rfl
@[simp] theorem State.setWord_upd (s : State) (k : Nat) (v : Word) : (s.setWord k v).upd = s.upd := rfl
@[simp] theorem State.setWord_boot (s : State) (k : Nat) (v : Word) : (s.setWord k v).boot = s.boot := rfl
@[simp] theorem State.setWord_dma (s : State) (k : Nat) (v : Word) : (s.setWord k v).dma = s.dma := rfl
@[simp] theorem State.setWord_mon (s : State) (k : Nat) (v : Word) : (s.setWord k v).mon = s.mon := rfl
@[simp] theorem State.setWord_txLoaded (s : State) (k : Nat) (v : Word) : (s.setWord k v).txLoaded = s.txLoaded := rfl
@[simp] theorem State.setWord_out (s : State) (k : Nat) (v : Word) : (s.setWord k v).out = s.out := rfl
@[simp] theorem State.setWord_pending (s : State) (k : Nat) (v : Word) : (s.setWord k v).pending = s.pending := rfl

@[simp] theorem State.wr_clk (s : State) (f : Fld) (v : Nat) : (s.wr f v).clk = s.clk := rfl
@[simp] theorem State.wr_shadow (s : State) (f : Fld) (v : Nat) : (s.wr f v).shadow = s.shadow := rfl
@[simp] theorem State.wr_pend (s : State) (f : Fld) (v : Nat) : (s.wr f v).pend = s.pend := rfl
@[simp] theorem State.wr_commit (s : State) (f : Fld) (v : Nat) : (s.wr f v).commit = s.commit := rfl
@[simp] theorem State.wr_snap (s : State) (f : Fld) (v : Nat) : (s.wr f v).snap = s.snap := rfl
@[simp] theorem State.wr_ckpt (s : State) (f : Fld) (v : Nat) : (s.wr f v).ckpt = s.ckpt := rfl
@[simp] theorem State.wr_faults (s : State) (f : Fld) (v : Nat) : (s.wr f v).faults = s.faults := rfl
@[simp] theorem State.wr_evt (s : State) (f : Fld) (v : Nat) : (s.wr f v).evt = s.evt := rfl
@[simp] theorem State.wr_sxm (s : State) (f : Fld) (v : Nat) : (s.wr f v).sxm = s.sxm := rfl
@[simp] theorem State.wr_sxmPast (s : State) (f : Fld) (v : Nat) : (s.wr f v).sxmPast = s.sxmPast := rfl
@[simp] theorem State.wr_dmem (s : State) (f : Fld) (v : Nat) : (s.wr f v).dmem = s.dmem := rfl
@[simp] theorem State.wr_dram (s : State) (f : Fld) (v : Nat) : (s.wr f v).dram = s.dram := rfl
@[simp] theorem State.wr_valid (s : State) (f : Fld) (v : Nat) : (s.wr f v).valid = s.valid := rfl
@[simp] theorem State.wr_spoiled (s : State) (f : Fld) (v : Nat) : (s.wr f v).spoiled = s.spoiled := rfl
@[simp] theorem State.wr_shut (s : State) (f : Fld) (v : Nat) : (s.wr f v).shut = s.shut := rfl
@[simp] theorem State.wr_placed (s : State) (f : Fld) (v : Nat) : (s.wr f v).placed = s.placed := rfl
@[simp] theorem State.wr_ge (s : State) (f : Fld) (v : Nat) : (s.wr f v).ge = s.ge := rfl
@[simp] theorem State.wr_free (s : State) (f : Fld) (v : Nat) : (s.wr f v).free = s.free := rfl
@[simp] theorem State.wr_muz (s : State) (f : Fld) (v : Nat) : (s.wr f v).muz = s.muz := rfl
@[simp] theorem State.wr_marks (s : State) (f : Fld) (v : Nat) : (s.wr f v).marks = s.marks := rfl
@[simp] theorem State.wr_herd (s : State) (f : Fld) (v : Nat) : (s.wr f v).herd = s.herd := rfl
@[simp] theorem State.wr_gathered (s : State) (f : Fld) (v : Nat) : (s.wr f v).gathered = s.gathered := rfl
@[simp] theorem State.wr_pair (s : State) (f : Fld) (v : Nat) : (s.wr f v).pair = s.pair := rfl
@[simp] theorem State.wr_knl (s : State) (f : Fld) (v : Nat) : (s.wr f v).knl = s.knl := rfl
@[simp] theorem State.wr_copies (s : State) (f : Fld) (v : Nat) : (s.wr f v).copies = s.copies := rfl
@[simp] theorem State.wr_rxHeld (s : State) (f : Fld) (v : Nat) : (s.wr f v).rxHeld = s.rxHeld := rfl
@[simp] theorem State.wr_rx (s : State) (f : Fld) (v : Nat) : (s.wr f v).rx = s.rx := rfl
@[simp] theorem State.wr_deepValid (s : State) (f : Fld) (v : Nat) : (s.wr f v).deepValid = s.deepValid := rfl
@[simp] theorem State.wr_tx (s : State) (f : Fld) (v : Nat) : (s.wr f v).tx = s.tx := rfl
@[simp] theorem State.wr_loc (s : State) (f : Fld) (v : Nat) : (s.wr f v).loc = s.loc := rfl
@[simp] theorem State.wr_atx (s : State) (f : Fld) (v : Nat) : (s.wr f v).atx = s.atx := rfl
@[simp] theorem State.wr_syn (s : State) (f : Fld) (v : Nat) : (s.wr f v).syn = s.syn := rfl
@[simp] theorem State.wr_eim (s : State) (f : Fld) (v : Nat) : (s.wr f v).eim = s.eim := rfl
@[simp] theorem State.wr_ref (s : State) (f : Fld) (v : Nat) : (s.wr f v).ref = s.ref := rfl
@[simp] theorem State.wr_times (s : State) (f : Fld) (v : Nat) : (s.wr f v).times = s.times := rfl
@[simp] theorem State.wr_net (s : State) (f : Fld) (v : Nat) : (s.wr f v).net = s.net := rfl
@[simp] theorem State.wr_mem (s : State) (f : Fld) (v : Nat) : (s.wr f v).mem = s.mem := rfl
@[simp] theorem State.wr_fuse (s : State) (f : Fld) (v : Nat) : (s.wr f v).fuse = s.fuse := rfl
@[simp] theorem State.wr_flash (s : State) (f : Fld) (v : Nat) : (s.wr f v).flash = s.flash := rfl
@[simp] theorem State.wr_ret (s : State) (f : Fld) (v : Nat) : (s.wr f v).ret = s.ret := rfl
@[simp] theorem State.wr_sec (s : State) (f : Fld) (v : Nat) : (s.wr f v).sec = s.sec := rfl
@[simp] theorem State.wr_upd (s : State) (f : Fld) (v : Nat) : (s.wr f v).upd = s.upd := rfl
@[simp] theorem State.wr_boot (s : State) (f : Fld) (v : Nat) : (s.wr f v).boot = s.boot := rfl
@[simp] theorem State.wr_dma (s : State) (f : Fld) (v : Nat) : (s.wr f v).dma = s.dma := rfl
@[simp] theorem State.wr_mon (s : State) (f : Fld) (v : Nat) : (s.wr f v).mon = s.mon := rfl
@[simp] theorem State.wr_txLoaded (s : State) (f : Fld) (v : Nat) : (s.wr f v).txLoaded = s.txLoaded := rfl
@[simp] theorem State.wr_out (s : State) (f : Fld) (v : Nat) : (s.wr f v).out = s.out := rfl
@[simp] theorem State.wr_pending (s : State) (f : Fld) (v : Nat) : (s.wr f v).pending = s.pending := rfl

@[simp] theorem State.wrFlag_clk (s : State) (f : Fld) (b : Bool) : (s.wrFlag f b).clk = s.clk := rfl
@[simp] theorem State.wrFlag_shadow (s : State) (f : Fld) (b : Bool) : (s.wrFlag f b).shadow = s.shadow := rfl
@[simp] theorem State.wrFlag_pend (s : State) (f : Fld) (b : Bool) : (s.wrFlag f b).pend = s.pend := rfl
@[simp] theorem State.wrFlag_commit (s : State) (f : Fld) (b : Bool) : (s.wrFlag f b).commit = s.commit := rfl
@[simp] theorem State.wrFlag_snap (s : State) (f : Fld) (b : Bool) : (s.wrFlag f b).snap = s.snap := rfl
@[simp] theorem State.wrFlag_ckpt (s : State) (f : Fld) (b : Bool) : (s.wrFlag f b).ckpt = s.ckpt := rfl
@[simp] theorem State.wrFlag_faults (s : State) (f : Fld) (b : Bool) : (s.wrFlag f b).faults = s.faults := rfl
@[simp] theorem State.wrFlag_evt (s : State) (f : Fld) (b : Bool) : (s.wrFlag f b).evt = s.evt := rfl
@[simp] theorem State.wrFlag_sxm (s : State) (f : Fld) (b : Bool) : (s.wrFlag f b).sxm = s.sxm := rfl
@[simp] theorem State.wrFlag_sxmPast (s : State) (f : Fld) (b : Bool) : (s.wrFlag f b).sxmPast = s.sxmPast := rfl
@[simp] theorem State.wrFlag_dmem (s : State) (f : Fld) (b : Bool) : (s.wrFlag f b).dmem = s.dmem := rfl
@[simp] theorem State.wrFlag_dram (s : State) (f : Fld) (b : Bool) : (s.wrFlag f b).dram = s.dram := rfl
@[simp] theorem State.wrFlag_valid (s : State) (f : Fld) (b : Bool) : (s.wrFlag f b).valid = s.valid := rfl
@[simp] theorem State.wrFlag_spoiled (s : State) (f : Fld) (b : Bool) : (s.wrFlag f b).spoiled = s.spoiled := rfl
@[simp] theorem State.wrFlag_shut (s : State) (f : Fld) (b : Bool) : (s.wrFlag f b).shut = s.shut := rfl
@[simp] theorem State.wrFlag_placed (s : State) (f : Fld) (b : Bool) : (s.wrFlag f b).placed = s.placed := rfl
@[simp] theorem State.wrFlag_ge (s : State) (f : Fld) (b : Bool) : (s.wrFlag f b).ge = s.ge := rfl
@[simp] theorem State.wrFlag_free (s : State) (f : Fld) (b : Bool) : (s.wrFlag f b).free = s.free := rfl
@[simp] theorem State.wrFlag_muz (s : State) (f : Fld) (b : Bool) : (s.wrFlag f b).muz = s.muz := rfl
@[simp] theorem State.wrFlag_marks (s : State) (f : Fld) (b : Bool) : (s.wrFlag f b).marks = s.marks := rfl
@[simp] theorem State.wrFlag_herd (s : State) (f : Fld) (b : Bool) : (s.wrFlag f b).herd = s.herd := rfl
@[simp] theorem State.wrFlag_gathered (s : State) (f : Fld) (b : Bool) : (s.wrFlag f b).gathered = s.gathered := rfl
@[simp] theorem State.wrFlag_pair (s : State) (f : Fld) (b : Bool) : (s.wrFlag f b).pair = s.pair := rfl
@[simp] theorem State.wrFlag_knl (s : State) (f : Fld) (b : Bool) : (s.wrFlag f b).knl = s.knl := rfl
@[simp] theorem State.wrFlag_copies (s : State) (f : Fld) (b : Bool) : (s.wrFlag f b).copies = s.copies := rfl
@[simp] theorem State.wrFlag_rxHeld (s : State) (f : Fld) (b : Bool) : (s.wrFlag f b).rxHeld = s.rxHeld := rfl
@[simp] theorem State.wrFlag_rx (s : State) (f : Fld) (b : Bool) : (s.wrFlag f b).rx = s.rx := rfl
@[simp] theorem State.wrFlag_deepValid (s : State) (f : Fld) (b : Bool) : (s.wrFlag f b).deepValid = s.deepValid := rfl
@[simp] theorem State.wrFlag_tx (s : State) (f : Fld) (b : Bool) : (s.wrFlag f b).tx = s.tx := rfl
@[simp] theorem State.wrFlag_loc (s : State) (f : Fld) (b : Bool) : (s.wrFlag f b).loc = s.loc := rfl
@[simp] theorem State.wrFlag_atx (s : State) (f : Fld) (b : Bool) : (s.wrFlag f b).atx = s.atx := rfl
@[simp] theorem State.wrFlag_syn (s : State) (f : Fld) (b : Bool) : (s.wrFlag f b).syn = s.syn := rfl
@[simp] theorem State.wrFlag_eim (s : State) (f : Fld) (b : Bool) : (s.wrFlag f b).eim = s.eim := rfl
@[simp] theorem State.wrFlag_ref (s : State) (f : Fld) (b : Bool) : (s.wrFlag f b).ref = s.ref := rfl
@[simp] theorem State.wrFlag_times (s : State) (f : Fld) (b : Bool) : (s.wrFlag f b).times = s.times := rfl
@[simp] theorem State.wrFlag_net (s : State) (f : Fld) (b : Bool) : (s.wrFlag f b).net = s.net := rfl
@[simp] theorem State.wrFlag_mem (s : State) (f : Fld) (b : Bool) : (s.wrFlag f b).mem = s.mem := rfl
@[simp] theorem State.wrFlag_fuse (s : State) (f : Fld) (b : Bool) : (s.wrFlag f b).fuse = s.fuse := rfl
@[simp] theorem State.wrFlag_flash (s : State) (f : Fld) (b : Bool) : (s.wrFlag f b).flash = s.flash := rfl
@[simp] theorem State.wrFlag_ret (s : State) (f : Fld) (b : Bool) : (s.wrFlag f b).ret = s.ret := rfl
@[simp] theorem State.wrFlag_sec (s : State) (f : Fld) (b : Bool) : (s.wrFlag f b).sec = s.sec := rfl
@[simp] theorem State.wrFlag_upd (s : State) (f : Fld) (b : Bool) : (s.wrFlag f b).upd = s.upd := rfl
@[simp] theorem State.wrFlag_boot (s : State) (f : Fld) (b : Bool) : (s.wrFlag f b).boot = s.boot := rfl
@[simp] theorem State.wrFlag_dma (s : State) (f : Fld) (b : Bool) : (s.wrFlag f b).dma = s.dma := rfl
@[simp] theorem State.wrFlag_mon (s : State) (f : Fld) (b : Bool) : (s.wrFlag f b).mon = s.mon := rfl
@[simp] theorem State.wrFlag_txLoaded (s : State) (f : Fld) (b : Bool) : (s.wrFlag f b).txLoaded = s.txLoaded := rfl
@[simp] theorem State.wrFlag_out (s : State) (f : Fld) (b : Bool) : (s.wrFlag f b).out = s.out := rfl
@[simp] theorem State.wrFlag_pending (s : State) (f : Fld) (b : Bool) : (s.wrFlag f b).pending = s.pending := rfl

@[simp] theorem State.setNum_clk (s : State) (k v : Nat) : (s.setNum k v).clk = s.clk := rfl
@[simp] theorem State.setNum_shadow (s : State) (k v : Nat) : (s.setNum k v).shadow = s.shadow := rfl
@[simp] theorem State.setNum_pend (s : State) (k v : Nat) : (s.setNum k v).pend = s.pend := rfl
@[simp] theorem State.setNum_commit (s : State) (k v : Nat) : (s.setNum k v).commit = s.commit := rfl
@[simp] theorem State.setNum_snap (s : State) (k v : Nat) : (s.setNum k v).snap = s.snap := rfl
@[simp] theorem State.setNum_ckpt (s : State) (k v : Nat) : (s.setNum k v).ckpt = s.ckpt := rfl
@[simp] theorem State.setNum_faults (s : State) (k v : Nat) : (s.setNum k v).faults = s.faults := rfl
@[simp] theorem State.setNum_evt (s : State) (k v : Nat) : (s.setNum k v).evt = s.evt := rfl
@[simp] theorem State.setNum_sxm (s : State) (k v : Nat) : (s.setNum k v).sxm = s.sxm := rfl
@[simp] theorem State.setNum_sxmPast (s : State) (k v : Nat) : (s.setNum k v).sxmPast = s.sxmPast := rfl
@[simp] theorem State.setNum_dmem (s : State) (k v : Nat) : (s.setNum k v).dmem = s.dmem := rfl
@[simp] theorem State.setNum_dram (s : State) (k v : Nat) : (s.setNum k v).dram = s.dram := rfl
@[simp] theorem State.setNum_valid (s : State) (k v : Nat) : (s.setNum k v).valid = s.valid := rfl
@[simp] theorem State.setNum_spoiled (s : State) (k v : Nat) : (s.setNum k v).spoiled = s.spoiled := rfl
@[simp] theorem State.setNum_shut (s : State) (k v : Nat) : (s.setNum k v).shut = s.shut := rfl
@[simp] theorem State.setNum_placed (s : State) (k v : Nat) : (s.setNum k v).placed = s.placed := rfl
@[simp] theorem State.setNum_ge (s : State) (k v : Nat) : (s.setNum k v).ge = s.ge := rfl
@[simp] theorem State.setNum_free (s : State) (k v : Nat) : (s.setNum k v).free = s.free := rfl
@[simp] theorem State.setNum_muz (s : State) (k v : Nat) : (s.setNum k v).muz = s.muz := rfl
@[simp] theorem State.setNum_marks (s : State) (k v : Nat) : (s.setNum k v).marks = s.marks := rfl
@[simp] theorem State.setNum_herd (s : State) (k v : Nat) : (s.setNum k v).herd = s.herd := rfl
@[simp] theorem State.setNum_gathered (s : State) (k v : Nat) : (s.setNum k v).gathered = s.gathered := rfl
@[simp] theorem State.setNum_pair (s : State) (k v : Nat) : (s.setNum k v).pair = s.pair := rfl
@[simp] theorem State.setNum_knl (s : State) (k v : Nat) : (s.setNum k v).knl = s.knl := rfl
@[simp] theorem State.setNum_copies (s : State) (k v : Nat) : (s.setNum k v).copies = s.copies := rfl
@[simp] theorem State.setNum_rxHeld (s : State) (k v : Nat) : (s.setNum k v).rxHeld = s.rxHeld := rfl
@[simp] theorem State.setNum_rx (s : State) (k v : Nat) : (s.setNum k v).rx = s.rx := rfl
@[simp] theorem State.setNum_deepValid (s : State) (k v : Nat) : (s.setNum k v).deepValid = s.deepValid := rfl
@[simp] theorem State.setNum_tx (s : State) (k v : Nat) : (s.setNum k v).tx = s.tx := rfl
@[simp] theorem State.setNum_loc (s : State) (k v : Nat) : (s.setNum k v).loc = s.loc := rfl
@[simp] theorem State.setNum_atx (s : State) (k v : Nat) : (s.setNum k v).atx = s.atx := rfl
@[simp] theorem State.setNum_syn (s : State) (k v : Nat) : (s.setNum k v).syn = s.syn := rfl
@[simp] theorem State.setNum_eim (s : State) (k v : Nat) : (s.setNum k v).eim = s.eim := rfl
@[simp] theorem State.setNum_ref (s : State) (k v : Nat) : (s.setNum k v).ref = s.ref := rfl
@[simp] theorem State.setNum_times (s : State) (k v : Nat) : (s.setNum k v).times = s.times := rfl
@[simp] theorem State.setNum_net (s : State) (k v : Nat) : (s.setNum k v).net = s.net := rfl
@[simp] theorem State.setNum_mem (s : State) (k v : Nat) : (s.setNum k v).mem = s.mem := rfl
@[simp] theorem State.setNum_fuse (s : State) (k v : Nat) : (s.setNum k v).fuse = s.fuse := rfl
@[simp] theorem State.setNum_flash (s : State) (k v : Nat) : (s.setNum k v).flash = s.flash := rfl
@[simp] theorem State.setNum_ret (s : State) (k v : Nat) : (s.setNum k v).ret = s.ret := rfl
@[simp] theorem State.setNum_sec (s : State) (k v : Nat) : (s.setNum k v).sec = s.sec := rfl
@[simp] theorem State.setNum_upd (s : State) (k v : Nat) : (s.setNum k v).upd = s.upd := rfl
@[simp] theorem State.setNum_boot (s : State) (k v : Nat) : (s.setNum k v).boot = s.boot := rfl
@[simp] theorem State.setNum_dma (s : State) (k v : Nat) : (s.setNum k v).dma = s.dma := rfl
@[simp] theorem State.setNum_mon (s : State) (k v : Nat) : (s.setNum k v).mon = s.mon := rfl
@[simp] theorem State.setNum_txLoaded (s : State) (k v : Nat) : (s.setNum k v).txLoaded = s.txLoaded := rfl
@[simp] theorem State.setNum_out (s : State) (k v : Nat) : (s.setNum k v).out = s.out := rfl
@[simp] theorem State.setNum_pending (s : State) (k v : Nat) : (s.setNum k v).pending = s.pending := rfl

@[simp] theorem State.add_clk (s : State) (f : Fld) (n : Nat) : (s.add f n).clk = s.clk := rfl
@[simp] theorem State.add_shadow (s : State) (f : Fld) (n : Nat) : (s.add f n).shadow = s.shadow := rfl
@[simp] theorem State.add_pend (s : State) (f : Fld) (n : Nat) : (s.add f n).pend = s.pend := rfl
@[simp] theorem State.add_commit (s : State) (f : Fld) (n : Nat) : (s.add f n).commit = s.commit := rfl
@[simp] theorem State.add_snap (s : State) (f : Fld) (n : Nat) : (s.add f n).snap = s.snap := rfl
@[simp] theorem State.add_ckpt (s : State) (f : Fld) (n : Nat) : (s.add f n).ckpt = s.ckpt := rfl
@[simp] theorem State.add_faults (s : State) (f : Fld) (n : Nat) : (s.add f n).faults = s.faults := rfl
@[simp] theorem State.add_evt (s : State) (f : Fld) (n : Nat) : (s.add f n).evt = s.evt := rfl
@[simp] theorem State.add_sxm (s : State) (f : Fld) (n : Nat) : (s.add f n).sxm = s.sxm := rfl
@[simp] theorem State.add_sxmPast (s : State) (f : Fld) (n : Nat) : (s.add f n).sxmPast = s.sxmPast := rfl
@[simp] theorem State.add_dmem (s : State) (f : Fld) (n : Nat) : (s.add f n).dmem = s.dmem := rfl
@[simp] theorem State.add_dram (s : State) (f : Fld) (n : Nat) : (s.add f n).dram = s.dram := rfl
@[simp] theorem State.add_valid (s : State) (f : Fld) (n : Nat) : (s.add f n).valid = s.valid := rfl
@[simp] theorem State.add_spoiled (s : State) (f : Fld) (n : Nat) : (s.add f n).spoiled = s.spoiled := rfl
@[simp] theorem State.add_shut (s : State) (f : Fld) (n : Nat) : (s.add f n).shut = s.shut := rfl
@[simp] theorem State.add_placed (s : State) (f : Fld) (n : Nat) : (s.add f n).placed = s.placed := rfl
@[simp] theorem State.add_ge (s : State) (f : Fld) (n : Nat) : (s.add f n).ge = s.ge := rfl
@[simp] theorem State.add_free (s : State) (f : Fld) (n : Nat) : (s.add f n).free = s.free := rfl
@[simp] theorem State.add_muz (s : State) (f : Fld) (n : Nat) : (s.add f n).muz = s.muz := rfl
@[simp] theorem State.add_marks (s : State) (f : Fld) (n : Nat) : (s.add f n).marks = s.marks := rfl
@[simp] theorem State.add_herd (s : State) (f : Fld) (n : Nat) : (s.add f n).herd = s.herd := rfl
@[simp] theorem State.add_gathered (s : State) (f : Fld) (n : Nat) : (s.add f n).gathered = s.gathered := rfl
@[simp] theorem State.add_pair (s : State) (f : Fld) (n : Nat) : (s.add f n).pair = s.pair := rfl
@[simp] theorem State.add_knl (s : State) (f : Fld) (n : Nat) : (s.add f n).knl = s.knl := rfl
@[simp] theorem State.add_copies (s : State) (f : Fld) (n : Nat) : (s.add f n).copies = s.copies := rfl
@[simp] theorem State.add_rxHeld (s : State) (f : Fld) (n : Nat) : (s.add f n).rxHeld = s.rxHeld := rfl
@[simp] theorem State.add_rx (s : State) (f : Fld) (n : Nat) : (s.add f n).rx = s.rx := rfl
@[simp] theorem State.add_deepValid (s : State) (f : Fld) (n : Nat) : (s.add f n).deepValid = s.deepValid := rfl
@[simp] theorem State.add_tx (s : State) (f : Fld) (n : Nat) : (s.add f n).tx = s.tx := rfl
@[simp] theorem State.add_loc (s : State) (f : Fld) (n : Nat) : (s.add f n).loc = s.loc := rfl
@[simp] theorem State.add_atx (s : State) (f : Fld) (n : Nat) : (s.add f n).atx = s.atx := rfl
@[simp] theorem State.add_syn (s : State) (f : Fld) (n : Nat) : (s.add f n).syn = s.syn := rfl
@[simp] theorem State.add_eim (s : State) (f : Fld) (n : Nat) : (s.add f n).eim = s.eim := rfl
@[simp] theorem State.add_ref (s : State) (f : Fld) (n : Nat) : (s.add f n).ref = s.ref := rfl
@[simp] theorem State.add_times (s : State) (f : Fld) (n : Nat) : (s.add f n).times = s.times := rfl
@[simp] theorem State.add_net (s : State) (f : Fld) (n : Nat) : (s.add f n).net = s.net := rfl
@[simp] theorem State.add_mem (s : State) (f : Fld) (n : Nat) : (s.add f n).mem = s.mem := rfl
@[simp] theorem State.add_fuse (s : State) (f : Fld) (n : Nat) : (s.add f n).fuse = s.fuse := rfl
@[simp] theorem State.add_flash (s : State) (f : Fld) (n : Nat) : (s.add f n).flash = s.flash := rfl
@[simp] theorem State.add_ret (s : State) (f : Fld) (n : Nat) : (s.add f n).ret = s.ret := rfl
@[simp] theorem State.add_sec (s : State) (f : Fld) (n : Nat) : (s.add f n).sec = s.sec := rfl
@[simp] theorem State.add_upd (s : State) (f : Fld) (n : Nat) : (s.add f n).upd = s.upd := rfl
@[simp] theorem State.add_boot (s : State) (f : Fld) (n : Nat) : (s.add f n).boot = s.boot := rfl
@[simp] theorem State.add_dma (s : State) (f : Fld) (n : Nat) : (s.add f n).dma = s.dma := rfl
@[simp] theorem State.add_mon (s : State) (f : Fld) (n : Nat) : (s.add f n).mon = s.mon := rfl
@[simp] theorem State.add_txLoaded (s : State) (f : Fld) (n : Nat) : (s.add f n).txLoaded = s.txLoaded := rfl
@[simp] theorem State.add_out (s : State) (f : Fld) (n : Nat) : (s.add f n).out = s.out := rfl
@[simp] theorem State.add_pending (s : State) (f : Fld) (n : Nat) : (s.add f n).pending = s.pending := rfl

@[simp] theorem State.inc_clk (s : State) (f : Fld) : (s.inc f).clk = s.clk := rfl
@[simp] theorem State.inc_shadow (s : State) (f : Fld) : (s.inc f).shadow = s.shadow := rfl
@[simp] theorem State.inc_pend (s : State) (f : Fld) : (s.inc f).pend = s.pend := rfl
@[simp] theorem State.inc_commit (s : State) (f : Fld) : (s.inc f).commit = s.commit := rfl
@[simp] theorem State.inc_snap (s : State) (f : Fld) : (s.inc f).snap = s.snap := rfl
@[simp] theorem State.inc_ckpt (s : State) (f : Fld) : (s.inc f).ckpt = s.ckpt := rfl
@[simp] theorem State.inc_faults (s : State) (f : Fld) : (s.inc f).faults = s.faults := rfl
@[simp] theorem State.inc_evt (s : State) (f : Fld) : (s.inc f).evt = s.evt := rfl
@[simp] theorem State.inc_sxm (s : State) (f : Fld) : (s.inc f).sxm = s.sxm := rfl
@[simp] theorem State.inc_sxmPast (s : State) (f : Fld) : (s.inc f).sxmPast = s.sxmPast := rfl
@[simp] theorem State.inc_dmem (s : State) (f : Fld) : (s.inc f).dmem = s.dmem := rfl
@[simp] theorem State.inc_dram (s : State) (f : Fld) : (s.inc f).dram = s.dram := rfl
@[simp] theorem State.inc_valid (s : State) (f : Fld) : (s.inc f).valid = s.valid := rfl
@[simp] theorem State.inc_spoiled (s : State) (f : Fld) : (s.inc f).spoiled = s.spoiled := rfl
@[simp] theorem State.inc_shut (s : State) (f : Fld) : (s.inc f).shut = s.shut := rfl
@[simp] theorem State.inc_placed (s : State) (f : Fld) : (s.inc f).placed = s.placed := rfl
@[simp] theorem State.inc_ge (s : State) (f : Fld) : (s.inc f).ge = s.ge := rfl
@[simp] theorem State.inc_free (s : State) (f : Fld) : (s.inc f).free = s.free := rfl
@[simp] theorem State.inc_muz (s : State) (f : Fld) : (s.inc f).muz = s.muz := rfl
@[simp] theorem State.inc_marks (s : State) (f : Fld) : (s.inc f).marks = s.marks := rfl
@[simp] theorem State.inc_herd (s : State) (f : Fld) : (s.inc f).herd = s.herd := rfl
@[simp] theorem State.inc_gathered (s : State) (f : Fld) : (s.inc f).gathered = s.gathered := rfl
@[simp] theorem State.inc_pair (s : State) (f : Fld) : (s.inc f).pair = s.pair := rfl
@[simp] theorem State.inc_knl (s : State) (f : Fld) : (s.inc f).knl = s.knl := rfl
@[simp] theorem State.inc_copies (s : State) (f : Fld) : (s.inc f).copies = s.copies := rfl
@[simp] theorem State.inc_rxHeld (s : State) (f : Fld) : (s.inc f).rxHeld = s.rxHeld := rfl
@[simp] theorem State.inc_rx (s : State) (f : Fld) : (s.inc f).rx = s.rx := rfl
@[simp] theorem State.inc_deepValid (s : State) (f : Fld) : (s.inc f).deepValid = s.deepValid := rfl
@[simp] theorem State.inc_tx (s : State) (f : Fld) : (s.inc f).tx = s.tx := rfl
@[simp] theorem State.inc_loc (s : State) (f : Fld) : (s.inc f).loc = s.loc := rfl
@[simp] theorem State.inc_atx (s : State) (f : Fld) : (s.inc f).atx = s.atx := rfl
@[simp] theorem State.inc_syn (s : State) (f : Fld) : (s.inc f).syn = s.syn := rfl
@[simp] theorem State.inc_eim (s : State) (f : Fld) : (s.inc f).eim = s.eim := rfl
@[simp] theorem State.inc_ref (s : State) (f : Fld) : (s.inc f).ref = s.ref := rfl
@[simp] theorem State.inc_times (s : State) (f : Fld) : (s.inc f).times = s.times := rfl
@[simp] theorem State.inc_net (s : State) (f : Fld) : (s.inc f).net = s.net := rfl
@[simp] theorem State.inc_mem (s : State) (f : Fld) : (s.inc f).mem = s.mem := rfl
@[simp] theorem State.inc_fuse (s : State) (f : Fld) : (s.inc f).fuse = s.fuse := rfl
@[simp] theorem State.inc_flash (s : State) (f : Fld) : (s.inc f).flash = s.flash := rfl
@[simp] theorem State.inc_ret (s : State) (f : Fld) : (s.inc f).ret = s.ret := rfl
@[simp] theorem State.inc_sec (s : State) (f : Fld) : (s.inc f).sec = s.sec := rfl
@[simp] theorem State.inc_upd (s : State) (f : Fld) : (s.inc f).upd = s.upd := rfl
@[simp] theorem State.inc_boot (s : State) (f : Fld) : (s.inc f).boot = s.boot := rfl
@[simp] theorem State.inc_dma (s : State) (f : Fld) : (s.inc f).dma = s.dma := rfl
@[simp] theorem State.inc_mon (s : State) (f : Fld) : (s.inc f).mon = s.mon := rfl
@[simp] theorem State.inc_txLoaded (s : State) (f : Fld) : (s.inc f).txLoaded = s.txLoaded := rfl
@[simp] theorem State.inc_out (s : State) (f : Fld) : (s.inc f).out = s.out := rfl
@[simp] theorem State.inc_pending (s : State) (f : Fld) : (s.inc f).pending = s.pending := rfl

@[simp] theorem State.addSat_clk (s : State) (f : Fld) (n : Nat) : (s.addSat f n).clk = s.clk := rfl
@[simp] theorem State.addSat_shadow (s : State) (f : Fld) (n : Nat) : (s.addSat f n).shadow = s.shadow := rfl
@[simp] theorem State.addSat_pend (s : State) (f : Fld) (n : Nat) : (s.addSat f n).pend = s.pend := rfl
@[simp] theorem State.addSat_commit (s : State) (f : Fld) (n : Nat) : (s.addSat f n).commit = s.commit := rfl
@[simp] theorem State.addSat_snap (s : State) (f : Fld) (n : Nat) : (s.addSat f n).snap = s.snap := rfl
@[simp] theorem State.addSat_ckpt (s : State) (f : Fld) (n : Nat) : (s.addSat f n).ckpt = s.ckpt := rfl
@[simp] theorem State.addSat_faults (s : State) (f : Fld) (n : Nat) : (s.addSat f n).faults = s.faults := rfl
@[simp] theorem State.addSat_evt (s : State) (f : Fld) (n : Nat) : (s.addSat f n).evt = s.evt := rfl
@[simp] theorem State.addSat_sxm (s : State) (f : Fld) (n : Nat) : (s.addSat f n).sxm = s.sxm := rfl
@[simp] theorem State.addSat_sxmPast (s : State) (f : Fld) (n : Nat) : (s.addSat f n).sxmPast = s.sxmPast := rfl
@[simp] theorem State.addSat_dmem (s : State) (f : Fld) (n : Nat) : (s.addSat f n).dmem = s.dmem := rfl
@[simp] theorem State.addSat_dram (s : State) (f : Fld) (n : Nat) : (s.addSat f n).dram = s.dram := rfl
@[simp] theorem State.addSat_valid (s : State) (f : Fld) (n : Nat) : (s.addSat f n).valid = s.valid := rfl
@[simp] theorem State.addSat_spoiled (s : State) (f : Fld) (n : Nat) : (s.addSat f n).spoiled = s.spoiled := rfl
@[simp] theorem State.addSat_shut (s : State) (f : Fld) (n : Nat) : (s.addSat f n).shut = s.shut := rfl
@[simp] theorem State.addSat_placed (s : State) (f : Fld) (n : Nat) : (s.addSat f n).placed = s.placed := rfl
@[simp] theorem State.addSat_ge (s : State) (f : Fld) (n : Nat) : (s.addSat f n).ge = s.ge := rfl
@[simp] theorem State.addSat_free (s : State) (f : Fld) (n : Nat) : (s.addSat f n).free = s.free := rfl
@[simp] theorem State.addSat_muz (s : State) (f : Fld) (n : Nat) : (s.addSat f n).muz = s.muz := rfl
@[simp] theorem State.addSat_marks (s : State) (f : Fld) (n : Nat) : (s.addSat f n).marks = s.marks := rfl
@[simp] theorem State.addSat_herd (s : State) (f : Fld) (n : Nat) : (s.addSat f n).herd = s.herd := rfl
@[simp] theorem State.addSat_gathered (s : State) (f : Fld) (n : Nat) : (s.addSat f n).gathered = s.gathered := rfl
@[simp] theorem State.addSat_pair (s : State) (f : Fld) (n : Nat) : (s.addSat f n).pair = s.pair := rfl
@[simp] theorem State.addSat_knl (s : State) (f : Fld) (n : Nat) : (s.addSat f n).knl = s.knl := rfl
@[simp] theorem State.addSat_copies (s : State) (f : Fld) (n : Nat) : (s.addSat f n).copies = s.copies := rfl
@[simp] theorem State.addSat_rxHeld (s : State) (f : Fld) (n : Nat) : (s.addSat f n).rxHeld = s.rxHeld := rfl
@[simp] theorem State.addSat_rx (s : State) (f : Fld) (n : Nat) : (s.addSat f n).rx = s.rx := rfl
@[simp] theorem State.addSat_deepValid (s : State) (f : Fld) (n : Nat) : (s.addSat f n).deepValid = s.deepValid := rfl
@[simp] theorem State.addSat_tx (s : State) (f : Fld) (n : Nat) : (s.addSat f n).tx = s.tx := rfl
@[simp] theorem State.addSat_loc (s : State) (f : Fld) (n : Nat) : (s.addSat f n).loc = s.loc := rfl
@[simp] theorem State.addSat_atx (s : State) (f : Fld) (n : Nat) : (s.addSat f n).atx = s.atx := rfl
@[simp] theorem State.addSat_syn (s : State) (f : Fld) (n : Nat) : (s.addSat f n).syn = s.syn := rfl
@[simp] theorem State.addSat_eim (s : State) (f : Fld) (n : Nat) : (s.addSat f n).eim = s.eim := rfl
@[simp] theorem State.addSat_ref (s : State) (f : Fld) (n : Nat) : (s.addSat f n).ref = s.ref := rfl
@[simp] theorem State.addSat_times (s : State) (f : Fld) (n : Nat) : (s.addSat f n).times = s.times := rfl
@[simp] theorem State.addSat_net (s : State) (f : Fld) (n : Nat) : (s.addSat f n).net = s.net := rfl
@[simp] theorem State.addSat_mem (s : State) (f : Fld) (n : Nat) : (s.addSat f n).mem = s.mem := rfl
@[simp] theorem State.addSat_fuse (s : State) (f : Fld) (n : Nat) : (s.addSat f n).fuse = s.fuse := rfl
@[simp] theorem State.addSat_flash (s : State) (f : Fld) (n : Nat) : (s.addSat f n).flash = s.flash := rfl
@[simp] theorem State.addSat_ret (s : State) (f : Fld) (n : Nat) : (s.addSat f n).ret = s.ret := rfl
@[simp] theorem State.addSat_sec (s : State) (f : Fld) (n : Nat) : (s.addSat f n).sec = s.sec := rfl
@[simp] theorem State.addSat_upd (s : State) (f : Fld) (n : Nat) : (s.addSat f n).upd = s.upd := rfl
@[simp] theorem State.addSat_boot (s : State) (f : Fld) (n : Nat) : (s.addSat f n).boot = s.boot := rfl
@[simp] theorem State.addSat_dma (s : State) (f : Fld) (n : Nat) : (s.addSat f n).dma = s.dma := rfl
@[simp] theorem State.addSat_mon (s : State) (f : Fld) (n : Nat) : (s.addSat f n).mon = s.mon := rfl
@[simp] theorem State.addSat_txLoaded (s : State) (f : Fld) (n : Nat) : (s.addSat f n).txLoaded = s.txLoaded := rfl
@[simp] theorem State.addSat_out (s : State) (f : Fld) (n : Nat) : (s.addSat f n).out = s.out := rfl
@[simp] theorem State.addSat_pending (s : State) (f : Fld) (n : Nat) : (s.addSat f n).pending = s.pending := rfl

@[simp] theorem State.wrS_clk (s : State) (f : Fld) (i : Int) : (s.wrS f i).clk = s.clk := rfl
@[simp] theorem State.wrS_shadow (s : State) (f : Fld) (i : Int) : (s.wrS f i).shadow = s.shadow := rfl
@[simp] theorem State.wrS_pend (s : State) (f : Fld) (i : Int) : (s.wrS f i).pend = s.pend := rfl
@[simp] theorem State.wrS_commit (s : State) (f : Fld) (i : Int) : (s.wrS f i).commit = s.commit := rfl
@[simp] theorem State.wrS_snap (s : State) (f : Fld) (i : Int) : (s.wrS f i).snap = s.snap := rfl
@[simp] theorem State.wrS_ckpt (s : State) (f : Fld) (i : Int) : (s.wrS f i).ckpt = s.ckpt := rfl
@[simp] theorem State.wrS_faults (s : State) (f : Fld) (i : Int) : (s.wrS f i).faults = s.faults := rfl
@[simp] theorem State.wrS_evt (s : State) (f : Fld) (i : Int) : (s.wrS f i).evt = s.evt := rfl
@[simp] theorem State.wrS_sxm (s : State) (f : Fld) (i : Int) : (s.wrS f i).sxm = s.sxm := rfl
@[simp] theorem State.wrS_sxmPast (s : State) (f : Fld) (i : Int) : (s.wrS f i).sxmPast = s.sxmPast := rfl
@[simp] theorem State.wrS_dmem (s : State) (f : Fld) (i : Int) : (s.wrS f i).dmem = s.dmem := rfl
@[simp] theorem State.wrS_dram (s : State) (f : Fld) (i : Int) : (s.wrS f i).dram = s.dram := rfl
@[simp] theorem State.wrS_valid (s : State) (f : Fld) (i : Int) : (s.wrS f i).valid = s.valid := rfl
@[simp] theorem State.wrS_spoiled (s : State) (f : Fld) (i : Int) : (s.wrS f i).spoiled = s.spoiled := rfl
@[simp] theorem State.wrS_shut (s : State) (f : Fld) (i : Int) : (s.wrS f i).shut = s.shut := rfl
@[simp] theorem State.wrS_placed (s : State) (f : Fld) (i : Int) : (s.wrS f i).placed = s.placed := rfl
@[simp] theorem State.wrS_ge (s : State) (f : Fld) (i : Int) : (s.wrS f i).ge = s.ge := rfl
@[simp] theorem State.wrS_free (s : State) (f : Fld) (i : Int) : (s.wrS f i).free = s.free := rfl
@[simp] theorem State.wrS_muz (s : State) (f : Fld) (i : Int) : (s.wrS f i).muz = s.muz := rfl
@[simp] theorem State.wrS_marks (s : State) (f : Fld) (i : Int) : (s.wrS f i).marks = s.marks := rfl
@[simp] theorem State.wrS_herd (s : State) (f : Fld) (i : Int) : (s.wrS f i).herd = s.herd := rfl
@[simp] theorem State.wrS_gathered (s : State) (f : Fld) (i : Int) : (s.wrS f i).gathered = s.gathered := rfl
@[simp] theorem State.wrS_pair (s : State) (f : Fld) (i : Int) : (s.wrS f i).pair = s.pair := rfl
@[simp] theorem State.wrS_knl (s : State) (f : Fld) (i : Int) : (s.wrS f i).knl = s.knl := rfl
@[simp] theorem State.wrS_copies (s : State) (f : Fld) (i : Int) : (s.wrS f i).copies = s.copies := rfl
@[simp] theorem State.wrS_rxHeld (s : State) (f : Fld) (i : Int) : (s.wrS f i).rxHeld = s.rxHeld := rfl
@[simp] theorem State.wrS_rx (s : State) (f : Fld) (i : Int) : (s.wrS f i).rx = s.rx := rfl
@[simp] theorem State.wrS_deepValid (s : State) (f : Fld) (i : Int) : (s.wrS f i).deepValid = s.deepValid := rfl
@[simp] theorem State.wrS_tx (s : State) (f : Fld) (i : Int) : (s.wrS f i).tx = s.tx := rfl
@[simp] theorem State.wrS_loc (s : State) (f : Fld) (i : Int) : (s.wrS f i).loc = s.loc := rfl
@[simp] theorem State.wrS_atx (s : State) (f : Fld) (i : Int) : (s.wrS f i).atx = s.atx := rfl
@[simp] theorem State.wrS_syn (s : State) (f : Fld) (i : Int) : (s.wrS f i).syn = s.syn := rfl
@[simp] theorem State.wrS_eim (s : State) (f : Fld) (i : Int) : (s.wrS f i).eim = s.eim := rfl
@[simp] theorem State.wrS_ref (s : State) (f : Fld) (i : Int) : (s.wrS f i).ref = s.ref := rfl
@[simp] theorem State.wrS_times (s : State) (f : Fld) (i : Int) : (s.wrS f i).times = s.times := rfl
@[simp] theorem State.wrS_net (s : State) (f : Fld) (i : Int) : (s.wrS f i).net = s.net := rfl
@[simp] theorem State.wrS_mem (s : State) (f : Fld) (i : Int) : (s.wrS f i).mem = s.mem := rfl
@[simp] theorem State.wrS_fuse (s : State) (f : Fld) (i : Int) : (s.wrS f i).fuse = s.fuse := rfl
@[simp] theorem State.wrS_flash (s : State) (f : Fld) (i : Int) : (s.wrS f i).flash = s.flash := rfl
@[simp] theorem State.wrS_ret (s : State) (f : Fld) (i : Int) : (s.wrS f i).ret = s.ret := rfl
@[simp] theorem State.wrS_sec (s : State) (f : Fld) (i : Int) : (s.wrS f i).sec = s.sec := rfl
@[simp] theorem State.wrS_upd (s : State) (f : Fld) (i : Int) : (s.wrS f i).upd = s.upd := rfl
@[simp] theorem State.wrS_boot (s : State) (f : Fld) (i : Int) : (s.wrS f i).boot = s.boot := rfl
@[simp] theorem State.wrS_dma (s : State) (f : Fld) (i : Int) : (s.wrS f i).dma = s.dma := rfl
@[simp] theorem State.wrS_mon (s : State) (f : Fld) (i : Int) : (s.wrS f i).mon = s.mon := rfl
@[simp] theorem State.wrS_txLoaded (s : State) (f : Fld) (i : Int) : (s.wrS f i).txLoaded = s.txLoaded := rfl
@[simp] theorem State.wrS_out (s : State) (f : Fld) (i : Int) : (s.wrS f i).out = s.out := rfl
@[simp] theorem State.wrS_pending (s : State) (f : Fld) (i : Int) : (s.wrS f i).pending = s.pending := rfl

@[simp] theorem State.sq_clk (s : State) (k i : Nat) : (s.sq k i).clk = s.clk := State.setWord_clk _ _ _
@[simp] theorem State.sq_shadow (s : State) (k i : Nat) : (s.sq k i).shadow = s.shadow := State.setWord_shadow _ _ _
@[simp] theorem State.sq_pend (s : State) (k i : Nat) : (s.sq k i).pend = s.pend := State.setWord_pend _ _ _
@[simp] theorem State.sq_commit (s : State) (k i : Nat) : (s.sq k i).commit = s.commit := State.setWord_commit _ _ _
@[simp] theorem State.sq_snap (s : State) (k i : Nat) : (s.sq k i).snap = s.snap := State.setWord_snap _ _ _
@[simp] theorem State.sq_ckpt (s : State) (k i : Nat) : (s.sq k i).ckpt = s.ckpt := State.setWord_ckpt _ _ _
@[simp] theorem State.sq_faults (s : State) (k i : Nat) : (s.sq k i).faults = s.faults := State.setWord_faults _ _ _
@[simp] theorem State.sq_evt (s : State) (k i : Nat) : (s.sq k i).evt = s.evt := State.setWord_evt _ _ _
@[simp] theorem State.sq_sxm (s : State) (k i : Nat) : (s.sq k i).sxm = s.sxm := State.setWord_sxm _ _ _
@[simp] theorem State.sq_sxmPast (s : State) (k i : Nat) : (s.sq k i).sxmPast = s.sxmPast := State.setWord_sxmPast _ _ _
@[simp] theorem State.sq_dmem (s : State) (k i : Nat) : (s.sq k i).dmem = s.dmem := State.setWord_dmem _ _ _
@[simp] theorem State.sq_dram (s : State) (k i : Nat) : (s.sq k i).dram = s.dram := State.setWord_dram _ _ _
@[simp] theorem State.sq_valid (s : State) (k i : Nat) : (s.sq k i).valid = s.valid := State.setWord_valid _ _ _
@[simp] theorem State.sq_spoiled (s : State) (k i : Nat) : (s.sq k i).spoiled = s.spoiled := State.setWord_spoiled _ _ _
@[simp] theorem State.sq_shut (s : State) (k i : Nat) : (s.sq k i).shut = s.shut := State.setWord_shut _ _ _
@[simp] theorem State.sq_placed (s : State) (k i : Nat) : (s.sq k i).placed = s.placed := State.setWord_placed _ _ _
@[simp] theorem State.sq_ge (s : State) (k i : Nat) : (s.sq k i).ge = s.ge := State.setWord_ge _ _ _
@[simp] theorem State.sq_free (s : State) (k i : Nat) : (s.sq k i).free = s.free := State.setWord_free _ _ _
@[simp] theorem State.sq_muz (s : State) (k i : Nat) : (s.sq k i).muz = s.muz := State.setWord_muz _ _ _
@[simp] theorem State.sq_marks (s : State) (k i : Nat) : (s.sq k i).marks = s.marks := State.setWord_marks _ _ _
@[simp] theorem State.sq_herd (s : State) (k i : Nat) : (s.sq k i).herd = s.herd := State.setWord_herd _ _ _
@[simp] theorem State.sq_gathered (s : State) (k i : Nat) : (s.sq k i).gathered = s.gathered := State.setWord_gathered _ _ _
@[simp] theorem State.sq_pair (s : State) (k i : Nat) : (s.sq k i).pair = s.pair := State.setWord_pair _ _ _
@[simp] theorem State.sq_knl (s : State) (k i : Nat) : (s.sq k i).knl = s.knl := State.setWord_knl _ _ _
@[simp] theorem State.sq_copies (s : State) (k i : Nat) : (s.sq k i).copies = s.copies := State.setWord_copies _ _ _
@[simp] theorem State.sq_rxHeld (s : State) (k i : Nat) : (s.sq k i).rxHeld = s.rxHeld := State.setWord_rxHeld _ _ _
@[simp] theorem State.sq_rx (s : State) (k i : Nat) : (s.sq k i).rx = s.rx := State.setWord_rx _ _ _
@[simp] theorem State.sq_deepValid (s : State) (k i : Nat) : (s.sq k i).deepValid = s.deepValid := State.setWord_deepValid _ _ _
@[simp] theorem State.sq_tx (s : State) (k i : Nat) : (s.sq k i).tx = s.tx := State.setWord_tx _ _ _
@[simp] theorem State.sq_loc (s : State) (k i : Nat) : (s.sq k i).loc = s.loc := State.setWord_loc _ _ _
@[simp] theorem State.sq_atx (s : State) (k i : Nat) : (s.sq k i).atx = s.atx := State.setWord_atx _ _ _
@[simp] theorem State.sq_syn (s : State) (k i : Nat) : (s.sq k i).syn = s.syn := State.setWord_syn _ _ _
@[simp] theorem State.sq_eim (s : State) (k i : Nat) : (s.sq k i).eim = s.eim := State.setWord_eim _ _ _
@[simp] theorem State.sq_ref (s : State) (k i : Nat) : (s.sq k i).ref = s.ref := State.setWord_ref _ _ _
@[simp] theorem State.sq_times (s : State) (k i : Nat) : (s.sq k i).times = s.times := State.setWord_times _ _ _
@[simp] theorem State.sq_net (s : State) (k i : Nat) : (s.sq k i).net = s.net := State.setWord_net _ _ _
@[simp] theorem State.sq_mem (s : State) (k i : Nat) : (s.sq k i).mem = s.mem := State.setWord_mem _ _ _
@[simp] theorem State.sq_fuse (s : State) (k i : Nat) : (s.sq k i).fuse = s.fuse := State.setWord_fuse _ _ _
@[simp] theorem State.sq_flash (s : State) (k i : Nat) : (s.sq k i).flash = s.flash := State.setWord_flash _ _ _
@[simp] theorem State.sq_ret (s : State) (k i : Nat) : (s.sq k i).ret = s.ret := State.setWord_ret _ _ _
@[simp] theorem State.sq_sec (s : State) (k i : Nat) : (s.sq k i).sec = s.sec := State.setWord_sec _ _ _
@[simp] theorem State.sq_upd (s : State) (k i : Nat) : (s.sq k i).upd = s.upd := State.setWord_upd _ _ _
@[simp] theorem State.sq_boot (s : State) (k i : Nat) : (s.sq k i).boot = s.boot := State.setWord_boot _ _ _
@[simp] theorem State.sq_dma (s : State) (k i : Nat) : (s.sq k i).dma = s.dma := State.setWord_dma _ _ _
@[simp] theorem State.sq_mon (s : State) (k i : Nat) : (s.sq k i).mon = s.mon := State.setWord_mon _ _ _
@[simp] theorem State.sq_txLoaded (s : State) (k i : Nat) : (s.sq k i).txLoaded = s.txLoaded := State.setWord_txLoaded _ _ _
@[simp] theorem State.sq_out (s : State) (k i : Nat) : (s.sq k i).out = s.out := State.setWord_out _ _ _
@[simp] theorem State.sq_pending (s : State) (k i : Nat) : (s.sq k i).pending = s.pending := State.setWord_pending _ _ _

@[simp] theorem State.sqf_clk (s : State) (f : Fld) : (s.sqf f).clk = s.clk := State.setWord_clk _ _ _
@[simp] theorem State.sqf_shadow (s : State) (f : Fld) : (s.sqf f).shadow = s.shadow := State.setWord_shadow _ _ _
@[simp] theorem State.sqf_pend (s : State) (f : Fld) : (s.sqf f).pend = s.pend := State.setWord_pend _ _ _
@[simp] theorem State.sqf_commit (s : State) (f : Fld) : (s.sqf f).commit = s.commit := State.setWord_commit _ _ _
@[simp] theorem State.sqf_snap (s : State) (f : Fld) : (s.sqf f).snap = s.snap := State.setWord_snap _ _ _
@[simp] theorem State.sqf_ckpt (s : State) (f : Fld) : (s.sqf f).ckpt = s.ckpt := State.setWord_ckpt _ _ _
@[simp] theorem State.sqf_faults (s : State) (f : Fld) : (s.sqf f).faults = s.faults := State.setWord_faults _ _ _
@[simp] theorem State.sqf_evt (s : State) (f : Fld) : (s.sqf f).evt = s.evt := State.setWord_evt _ _ _
@[simp] theorem State.sqf_sxm (s : State) (f : Fld) : (s.sqf f).sxm = s.sxm := State.setWord_sxm _ _ _
@[simp] theorem State.sqf_sxmPast (s : State) (f : Fld) : (s.sqf f).sxmPast = s.sxmPast := State.setWord_sxmPast _ _ _
@[simp] theorem State.sqf_dmem (s : State) (f : Fld) : (s.sqf f).dmem = s.dmem := State.setWord_dmem _ _ _
@[simp] theorem State.sqf_dram (s : State) (f : Fld) : (s.sqf f).dram = s.dram := State.setWord_dram _ _ _
@[simp] theorem State.sqf_valid (s : State) (f : Fld) : (s.sqf f).valid = s.valid := State.setWord_valid _ _ _
@[simp] theorem State.sqf_spoiled (s : State) (f : Fld) : (s.sqf f).spoiled = s.spoiled := State.setWord_spoiled _ _ _
@[simp] theorem State.sqf_shut (s : State) (f : Fld) : (s.sqf f).shut = s.shut := State.setWord_shut _ _ _
@[simp] theorem State.sqf_placed (s : State) (f : Fld) : (s.sqf f).placed = s.placed := State.setWord_placed _ _ _
@[simp] theorem State.sqf_ge (s : State) (f : Fld) : (s.sqf f).ge = s.ge := State.setWord_ge _ _ _
@[simp] theorem State.sqf_free (s : State) (f : Fld) : (s.sqf f).free = s.free := State.setWord_free _ _ _
@[simp] theorem State.sqf_muz (s : State) (f : Fld) : (s.sqf f).muz = s.muz := State.setWord_muz _ _ _
@[simp] theorem State.sqf_marks (s : State) (f : Fld) : (s.sqf f).marks = s.marks := State.setWord_marks _ _ _
@[simp] theorem State.sqf_herd (s : State) (f : Fld) : (s.sqf f).herd = s.herd := State.setWord_herd _ _ _
@[simp] theorem State.sqf_gathered (s : State) (f : Fld) : (s.sqf f).gathered = s.gathered := State.setWord_gathered _ _ _
@[simp] theorem State.sqf_pair (s : State) (f : Fld) : (s.sqf f).pair = s.pair := State.setWord_pair _ _ _
@[simp] theorem State.sqf_knl (s : State) (f : Fld) : (s.sqf f).knl = s.knl := State.setWord_knl _ _ _
@[simp] theorem State.sqf_copies (s : State) (f : Fld) : (s.sqf f).copies = s.copies := State.setWord_copies _ _ _
@[simp] theorem State.sqf_rxHeld (s : State) (f : Fld) : (s.sqf f).rxHeld = s.rxHeld := State.setWord_rxHeld _ _ _
@[simp] theorem State.sqf_rx (s : State) (f : Fld) : (s.sqf f).rx = s.rx := State.setWord_rx _ _ _
@[simp] theorem State.sqf_deepValid (s : State) (f : Fld) : (s.sqf f).deepValid = s.deepValid := State.setWord_deepValid _ _ _
@[simp] theorem State.sqf_tx (s : State) (f : Fld) : (s.sqf f).tx = s.tx := State.setWord_tx _ _ _
@[simp] theorem State.sqf_loc (s : State) (f : Fld) : (s.sqf f).loc = s.loc := State.setWord_loc _ _ _
@[simp] theorem State.sqf_atx (s : State) (f : Fld) : (s.sqf f).atx = s.atx := State.setWord_atx _ _ _
@[simp] theorem State.sqf_syn (s : State) (f : Fld) : (s.sqf f).syn = s.syn := State.setWord_syn _ _ _
@[simp] theorem State.sqf_eim (s : State) (f : Fld) : (s.sqf f).eim = s.eim := State.setWord_eim _ _ _
@[simp] theorem State.sqf_ref (s : State) (f : Fld) : (s.sqf f).ref = s.ref := State.setWord_ref _ _ _
@[simp] theorem State.sqf_times (s : State) (f : Fld) : (s.sqf f).times = s.times := State.setWord_times _ _ _
@[simp] theorem State.sqf_net (s : State) (f : Fld) : (s.sqf f).net = s.net := State.setWord_net _ _ _
@[simp] theorem State.sqf_mem (s : State) (f : Fld) : (s.sqf f).mem = s.mem := State.setWord_mem _ _ _
@[simp] theorem State.sqf_fuse (s : State) (f : Fld) : (s.sqf f).fuse = s.fuse := State.setWord_fuse _ _ _
@[simp] theorem State.sqf_flash (s : State) (f : Fld) : (s.sqf f).flash = s.flash := State.setWord_flash _ _ _
@[simp] theorem State.sqf_ret (s : State) (f : Fld) : (s.sqf f).ret = s.ret := State.setWord_ret _ _ _
@[simp] theorem State.sqf_sec (s : State) (f : Fld) : (s.sqf f).sec = s.sec := State.setWord_sec _ _ _
@[simp] theorem State.sqf_upd (s : State) (f : Fld) : (s.sqf f).upd = s.upd := State.setWord_upd _ _ _
@[simp] theorem State.sqf_boot (s : State) (f : Fld) : (s.sqf f).boot = s.boot := State.setWord_boot _ _ _
@[simp] theorem State.sqf_dma (s : State) (f : Fld) : (s.sqf f).dma = s.dma := State.setWord_dma _ _ _
@[simp] theorem State.sqf_mon (s : State) (f : Fld) : (s.sqf f).mon = s.mon := State.setWord_mon _ _ _
@[simp] theorem State.sqf_txLoaded (s : State) (f : Fld) : (s.sqf f).txLoaded = s.txLoaded := State.setWord_txLoaded _ _ _
@[simp] theorem State.sqf_out (s : State) (f : Fld) : (s.sqf f).out = s.out := State.setWord_out _ _ _
@[simp] theorem State.sqf_pending (s : State) (f : Fld) : (s.sqf f).pending = s.pending := State.setWord_pending _ _ _

@[simp] theorem State.emit_clk (s : State) (o : Output) : (s.emit o).clk = s.clk := rfl
@[simp] theorem State.emit_live (s : State) (o : Output) : (s.emit o).live = s.live := rfl
@[simp] theorem State.emit_shadow (s : State) (o : Output) : (s.emit o).shadow = s.shadow := rfl
@[simp] theorem State.emit_pend (s : State) (o : Output) : (s.emit o).pend = s.pend := rfl
@[simp] theorem State.emit_commit (s : State) (o : Output) : (s.emit o).commit = s.commit := rfl
@[simp] theorem State.emit_snap (s : State) (o : Output) : (s.emit o).snap = s.snap := rfl
@[simp] theorem State.emit_ckpt (s : State) (o : Output) : (s.emit o).ckpt = s.ckpt := rfl
@[simp] theorem State.emit_faults (s : State) (o : Output) : (s.emit o).faults = s.faults := rfl
@[simp] theorem State.emit_evt (s : State) (o : Output) : (s.emit o).evt = s.evt := rfl
@[simp] theorem State.emit_sxm (s : State) (o : Output) : (s.emit o).sxm = s.sxm := rfl
@[simp] theorem State.emit_sxmPast (s : State) (o : Output) : (s.emit o).sxmPast = s.sxmPast := rfl
@[simp] theorem State.emit_dmem (s : State) (o : Output) : (s.emit o).dmem = s.dmem := rfl
@[simp] theorem State.emit_dram (s : State) (o : Output) : (s.emit o).dram = s.dram := rfl
@[simp] theorem State.emit_valid (s : State) (o : Output) : (s.emit o).valid = s.valid := rfl
@[simp] theorem State.emit_spoiled (s : State) (o : Output) : (s.emit o).spoiled = s.spoiled := rfl
@[simp] theorem State.emit_shut (s : State) (o : Output) : (s.emit o).shut = s.shut := rfl
@[simp] theorem State.emit_placed (s : State) (o : Output) : (s.emit o).placed = s.placed := rfl
@[simp] theorem State.emit_ge (s : State) (o : Output) : (s.emit o).ge = s.ge := rfl
@[simp] theorem State.emit_free (s : State) (o : Output) : (s.emit o).free = s.free := rfl
@[simp] theorem State.emit_muz (s : State) (o : Output) : (s.emit o).muz = s.muz := rfl
@[simp] theorem State.emit_marks (s : State) (o : Output) : (s.emit o).marks = s.marks := rfl
@[simp] theorem State.emit_herd (s : State) (o : Output) : (s.emit o).herd = s.herd := rfl
@[simp] theorem State.emit_gathered (s : State) (o : Output) : (s.emit o).gathered = s.gathered := rfl
@[simp] theorem State.emit_pair (s : State) (o : Output) : (s.emit o).pair = s.pair := rfl
@[simp] theorem State.emit_knl (s : State) (o : Output) : (s.emit o).knl = s.knl := rfl
@[simp] theorem State.emit_copies (s : State) (o : Output) : (s.emit o).copies = s.copies := rfl
@[simp] theorem State.emit_rxHeld (s : State) (o : Output) : (s.emit o).rxHeld = s.rxHeld := rfl
@[simp] theorem State.emit_rx (s : State) (o : Output) : (s.emit o).rx = s.rx := rfl
@[simp] theorem State.emit_deepValid (s : State) (o : Output) : (s.emit o).deepValid = s.deepValid := rfl
@[simp] theorem State.emit_tx (s : State) (o : Output) : (s.emit o).tx = s.tx := rfl
@[simp] theorem State.emit_loc (s : State) (o : Output) : (s.emit o).loc = s.loc := rfl
@[simp] theorem State.emit_atx (s : State) (o : Output) : (s.emit o).atx = s.atx := rfl
@[simp] theorem State.emit_syn (s : State) (o : Output) : (s.emit o).syn = s.syn := rfl
@[simp] theorem State.emit_eim (s : State) (o : Output) : (s.emit o).eim = s.eim := rfl
@[simp] theorem State.emit_ref (s : State) (o : Output) : (s.emit o).ref = s.ref := rfl
@[simp] theorem State.emit_times (s : State) (o : Output) : (s.emit o).times = s.times := rfl
@[simp] theorem State.emit_net (s : State) (o : Output) : (s.emit o).net = s.net := rfl
@[simp] theorem State.emit_mem (s : State) (o : Output) : (s.emit o).mem = s.mem := rfl
@[simp] theorem State.emit_fuse (s : State) (o : Output) : (s.emit o).fuse = s.fuse := rfl
@[simp] theorem State.emit_flash (s : State) (o : Output) : (s.emit o).flash = s.flash := rfl
@[simp] theorem State.emit_ret (s : State) (o : Output) : (s.emit o).ret = s.ret := rfl
@[simp] theorem State.emit_sec (s : State) (o : Output) : (s.emit o).sec = s.sec := rfl
@[simp] theorem State.emit_upd (s : State) (o : Output) : (s.emit o).upd = s.upd := rfl
@[simp] theorem State.emit_boot (s : State) (o : Output) : (s.emit o).boot = s.boot := rfl
@[simp] theorem State.emit_dma (s : State) (o : Output) : (s.emit o).dma = s.dma := rfl
@[simp] theorem State.emit_mon (s : State) (o : Output) : (s.emit o).mon = s.mon := rfl
@[simp] theorem State.emit_txLoaded (s : State) (o : Output) : (s.emit o).txLoaded = s.txLoaded := rfl
@[simp] theorem State.emit_pending (s : State) (o : Output) : (s.emit o).pending = s.pending := rfl

@[simp] theorem State.setEngine_clk (s : State) (e : Nat) (x : Engine) : (s.setEngine e x).clk = s.clk := rfl
@[simp] theorem State.setEngine_live (s : State) (e : Nat) (x : Engine) : (s.setEngine e x).live = s.live := rfl
@[simp] theorem State.setEngine_shadow (s : State) (e : Nat) (x : Engine) : (s.setEngine e x).shadow = s.shadow := rfl
@[simp] theorem State.setEngine_pend (s : State) (e : Nat) (x : Engine) : (s.setEngine e x).pend = s.pend := rfl
@[simp] theorem State.setEngine_commit (s : State) (e : Nat) (x : Engine) : (s.setEngine e x).commit = s.commit := rfl
@[simp] theorem State.setEngine_snap (s : State) (e : Nat) (x : Engine) : (s.setEngine e x).snap = s.snap := rfl
@[simp] theorem State.setEngine_ckpt (s : State) (e : Nat) (x : Engine) : (s.setEngine e x).ckpt = s.ckpt := rfl
@[simp] theorem State.setEngine_faults (s : State) (e : Nat) (x : Engine) : (s.setEngine e x).faults = s.faults := rfl
@[simp] theorem State.setEngine_evt (s : State) (e : Nat) (x : Engine) : (s.setEngine e x).evt = s.evt := rfl
@[simp] theorem State.setEngine_sxm (s : State) (e : Nat) (x : Engine) : (s.setEngine e x).sxm = s.sxm := rfl
@[simp] theorem State.setEngine_sxmPast (s : State) (e : Nat) (x : Engine) : (s.setEngine e x).sxmPast = s.sxmPast := rfl
@[simp] theorem State.setEngine_dmem (s : State) (e : Nat) (x : Engine) : (s.setEngine e x).dmem = s.dmem := rfl
@[simp] theorem State.setEngine_dram (s : State) (e : Nat) (x : Engine) : (s.setEngine e x).dram = s.dram := rfl
@[simp] theorem State.setEngine_valid (s : State) (e : Nat) (x : Engine) : (s.setEngine e x).valid = s.valid := rfl
@[simp] theorem State.setEngine_spoiled (s : State) (e : Nat) (x : Engine) : (s.setEngine e x).spoiled = s.spoiled := rfl
@[simp] theorem State.setEngine_shut (s : State) (e : Nat) (x : Engine) : (s.setEngine e x).shut = s.shut := rfl
@[simp] theorem State.setEngine_placed (s : State) (e : Nat) (x : Engine) : (s.setEngine e x).placed = s.placed := rfl
@[simp] theorem State.setEngine_free (s : State) (e : Nat) (x : Engine) : (s.setEngine e x).free = s.free := rfl
@[simp] theorem State.setEngine_muz (s : State) (e : Nat) (x : Engine) : (s.setEngine e x).muz = s.muz := rfl
@[simp] theorem State.setEngine_marks (s : State) (e : Nat) (x : Engine) : (s.setEngine e x).marks = s.marks := rfl
@[simp] theorem State.setEngine_herd (s : State) (e : Nat) (x : Engine) : (s.setEngine e x).herd = s.herd := rfl
@[simp] theorem State.setEngine_gathered (s : State) (e : Nat) (x : Engine) : (s.setEngine e x).gathered = s.gathered := rfl
@[simp] theorem State.setEngine_pair (s : State) (e : Nat) (x : Engine) : (s.setEngine e x).pair = s.pair := rfl
@[simp] theorem State.setEngine_knl (s : State) (e : Nat) (x : Engine) : (s.setEngine e x).knl = s.knl := rfl
@[simp] theorem State.setEngine_copies (s : State) (e : Nat) (x : Engine) : (s.setEngine e x).copies = s.copies := rfl
@[simp] theorem State.setEngine_rxHeld (s : State) (e : Nat) (x : Engine) : (s.setEngine e x).rxHeld = s.rxHeld := rfl
@[simp] theorem State.setEngine_rx (s : State) (e : Nat) (x : Engine) : (s.setEngine e x).rx = s.rx := rfl
@[simp] theorem State.setEngine_deepValid (s : State) (e : Nat) (x : Engine) : (s.setEngine e x).deepValid = s.deepValid := rfl
@[simp] theorem State.setEngine_tx (s : State) (e : Nat) (x : Engine) : (s.setEngine e x).tx = s.tx := rfl
@[simp] theorem State.setEngine_loc (s : State) (e : Nat) (x : Engine) : (s.setEngine e x).loc = s.loc := rfl
@[simp] theorem State.setEngine_atx (s : State) (e : Nat) (x : Engine) : (s.setEngine e x).atx = s.atx := rfl
@[simp] theorem State.setEngine_syn (s : State) (e : Nat) (x : Engine) : (s.setEngine e x).syn = s.syn := rfl
@[simp] theorem State.setEngine_eim (s : State) (e : Nat) (x : Engine) : (s.setEngine e x).eim = s.eim := rfl
@[simp] theorem State.setEngine_ref (s : State) (e : Nat) (x : Engine) : (s.setEngine e x).ref = s.ref := rfl
@[simp] theorem State.setEngine_times (s : State) (e : Nat) (x : Engine) : (s.setEngine e x).times = s.times := rfl
@[simp] theorem State.setEngine_net (s : State) (e : Nat) (x : Engine) : (s.setEngine e x).net = s.net := rfl
@[simp] theorem State.setEngine_mem (s : State) (e : Nat) (x : Engine) : (s.setEngine e x).mem = s.mem := rfl
@[simp] theorem State.setEngine_fuse (s : State) (e : Nat) (x : Engine) : (s.setEngine e x).fuse = s.fuse := rfl
@[simp] theorem State.setEngine_flash (s : State) (e : Nat) (x : Engine) : (s.setEngine e x).flash = s.flash := rfl
@[simp] theorem State.setEngine_ret (s : State) (e : Nat) (x : Engine) : (s.setEngine e x).ret = s.ret := rfl
@[simp] theorem State.setEngine_sec (s : State) (e : Nat) (x : Engine) : (s.setEngine e x).sec = s.sec := rfl
@[simp] theorem State.setEngine_upd (s : State) (e : Nat) (x : Engine) : (s.setEngine e x).upd = s.upd := rfl
@[simp] theorem State.setEngine_boot (s : State) (e : Nat) (x : Engine) : (s.setEngine e x).boot = s.boot := rfl
@[simp] theorem State.setEngine_dma (s : State) (e : Nat) (x : Engine) : (s.setEngine e x).dma = s.dma := rfl
@[simp] theorem State.setEngine_mon (s : State) (e : Nat) (x : Engine) : (s.setEngine e x).mon = s.mon := rfl
@[simp] theorem State.setEngine_txLoaded (s : State) (e : Nat) (x : Engine) : (s.setEngine e x).txLoaded = s.txLoaded := rfl
@[simp] theorem State.setEngine_out (s : State) (e : Nat) (x : Engine) : (s.setEngine e x).out = s.out := rfl
@[simp] theorem State.setEngine_pending (s : State) (e : Nat) (x : Engine) : (s.setEngine e x).pending = s.pending := rfl

@[simp] theorem State.setValid_clk (s : State) (b f i : Nat) : (s.setValid b f i).clk = s.clk := rfl
@[simp] theorem State.setValid_live (s : State) (b f i : Nat) : (s.setValid b f i).live = s.live := rfl
@[simp] theorem State.setValid_shadow (s : State) (b f i : Nat) : (s.setValid b f i).shadow = s.shadow := rfl
@[simp] theorem State.setValid_pend (s : State) (b f i : Nat) : (s.setValid b f i).pend = s.pend := rfl
@[simp] theorem State.setValid_commit (s : State) (b f i : Nat) : (s.setValid b f i).commit = s.commit := rfl
@[simp] theorem State.setValid_snap (s : State) (b f i : Nat) : (s.setValid b f i).snap = s.snap := rfl
@[simp] theorem State.setValid_ckpt (s : State) (b f i : Nat) : (s.setValid b f i).ckpt = s.ckpt := rfl
@[simp] theorem State.setValid_faults (s : State) (b f i : Nat) : (s.setValid b f i).faults = s.faults := rfl
@[simp] theorem State.setValid_evt (s : State) (b f i : Nat) : (s.setValid b f i).evt = s.evt := rfl
@[simp] theorem State.setValid_sxm (s : State) (b f i : Nat) : (s.setValid b f i).sxm = s.sxm := rfl
@[simp] theorem State.setValid_sxmPast (s : State) (b f i : Nat) : (s.setValid b f i).sxmPast = s.sxmPast := rfl
@[simp] theorem State.setValid_dmem (s : State) (b f i : Nat) : (s.setValid b f i).dmem = s.dmem := rfl
@[simp] theorem State.setValid_dram (s : State) (b f i : Nat) : (s.setValid b f i).dram = s.dram := rfl
@[simp] theorem State.setValid_spoiled (s : State) (b f i : Nat) : (s.setValid b f i).spoiled = s.spoiled := rfl
@[simp] theorem State.setValid_shut (s : State) (b f i : Nat) : (s.setValid b f i).shut = s.shut := rfl
@[simp] theorem State.setValid_placed (s : State) (b f i : Nat) : (s.setValid b f i).placed = s.placed := rfl
@[simp] theorem State.setValid_ge (s : State) (b f i : Nat) : (s.setValid b f i).ge = s.ge := rfl
@[simp] theorem State.setValid_free (s : State) (b f i : Nat) : (s.setValid b f i).free = s.free := rfl
@[simp] theorem State.setValid_muz (s : State) (b f i : Nat) : (s.setValid b f i).muz = s.muz := rfl
@[simp] theorem State.setValid_marks (s : State) (b f i : Nat) : (s.setValid b f i).marks = s.marks := rfl
@[simp] theorem State.setValid_herd (s : State) (b f i : Nat) : (s.setValid b f i).herd = s.herd := rfl
@[simp] theorem State.setValid_gathered (s : State) (b f i : Nat) : (s.setValid b f i).gathered = s.gathered := rfl
@[simp] theorem State.setValid_pair (s : State) (b f i : Nat) : (s.setValid b f i).pair = s.pair := rfl
@[simp] theorem State.setValid_knl (s : State) (b f i : Nat) : (s.setValid b f i).knl = s.knl := rfl
@[simp] theorem State.setValid_copies (s : State) (b f i : Nat) : (s.setValid b f i).copies = s.copies := rfl
@[simp] theorem State.setValid_rxHeld (s : State) (b f i : Nat) : (s.setValid b f i).rxHeld = s.rxHeld := rfl
@[simp] theorem State.setValid_rx (s : State) (b f i : Nat) : (s.setValid b f i).rx = s.rx := rfl
@[simp] theorem State.setValid_deepValid (s : State) (b f i : Nat) : (s.setValid b f i).deepValid = s.deepValid := rfl
@[simp] theorem State.setValid_tx (s : State) (b f i : Nat) : (s.setValid b f i).tx = s.tx := rfl
@[simp] theorem State.setValid_loc (s : State) (b f i : Nat) : (s.setValid b f i).loc = s.loc := rfl
@[simp] theorem State.setValid_atx (s : State) (b f i : Nat) : (s.setValid b f i).atx = s.atx := rfl
@[simp] theorem State.setValid_syn (s : State) (b f i : Nat) : (s.setValid b f i).syn = s.syn := rfl
@[simp] theorem State.setValid_eim (s : State) (b f i : Nat) : (s.setValid b f i).eim = s.eim := rfl
@[simp] theorem State.setValid_ref (s : State) (b f i : Nat) : (s.setValid b f i).ref = s.ref := rfl
@[simp] theorem State.setValid_times (s : State) (b f i : Nat) : (s.setValid b f i).times = s.times := rfl
@[simp] theorem State.setValid_net (s : State) (b f i : Nat) : (s.setValid b f i).net = s.net := rfl
@[simp] theorem State.setValid_mem (s : State) (b f i : Nat) : (s.setValid b f i).mem = s.mem := rfl
@[simp] theorem State.setValid_fuse (s : State) (b f i : Nat) : (s.setValid b f i).fuse = s.fuse := rfl
@[simp] theorem State.setValid_flash (s : State) (b f i : Nat) : (s.setValid b f i).flash = s.flash := rfl
@[simp] theorem State.setValid_ret (s : State) (b f i : Nat) : (s.setValid b f i).ret = s.ret := rfl
@[simp] theorem State.setValid_sec (s : State) (b f i : Nat) : (s.setValid b f i).sec = s.sec := rfl
@[simp] theorem State.setValid_upd (s : State) (b f i : Nat) : (s.setValid b f i).upd = s.upd := rfl
@[simp] theorem State.setValid_boot (s : State) (b f i : Nat) : (s.setValid b f i).boot = s.boot := rfl
@[simp] theorem State.setValid_dma (s : State) (b f i : Nat) : (s.setValid b f i).dma = s.dma := rfl
@[simp] theorem State.setValid_mon (s : State) (b f i : Nat) : (s.setValid b f i).mon = s.mon := rfl
@[simp] theorem State.setValid_txLoaded (s : State) (b f i : Nat) : (s.setValid b f i).txLoaded = s.txLoaded := rfl
@[simp] theorem State.setValid_out (s : State) (b f i : Nat) : (s.setValid b f i).out = s.out := rfl
@[simp] theorem State.setValid_pending (s : State) (b f i : Nat) : (s.setValid b f i).pending = s.pending := rfl

@[simp] theorem State.clearValid_clk (s : State) (b f i : Nat) : (s.clearValid b f i).clk = s.clk := rfl
@[simp] theorem State.clearValid_live (s : State) (b f i : Nat) : (s.clearValid b f i).live = s.live := rfl
@[simp] theorem State.clearValid_shadow (s : State) (b f i : Nat) : (s.clearValid b f i).shadow = s.shadow := rfl
@[simp] theorem State.clearValid_pend (s : State) (b f i : Nat) : (s.clearValid b f i).pend = s.pend := rfl
@[simp] theorem State.clearValid_commit (s : State) (b f i : Nat) : (s.clearValid b f i).commit = s.commit := rfl
@[simp] theorem State.clearValid_snap (s : State) (b f i : Nat) : (s.clearValid b f i).snap = s.snap := rfl
@[simp] theorem State.clearValid_ckpt (s : State) (b f i : Nat) : (s.clearValid b f i).ckpt = s.ckpt := rfl
@[simp] theorem State.clearValid_faults (s : State) (b f i : Nat) : (s.clearValid b f i).faults = s.faults := rfl
@[simp] theorem State.clearValid_evt (s : State) (b f i : Nat) : (s.clearValid b f i).evt = s.evt := rfl
@[simp] theorem State.clearValid_sxm (s : State) (b f i : Nat) : (s.clearValid b f i).sxm = s.sxm := rfl
@[simp] theorem State.clearValid_sxmPast (s : State) (b f i : Nat) : (s.clearValid b f i).sxmPast = s.sxmPast := rfl
@[simp] theorem State.clearValid_dmem (s : State) (b f i : Nat) : (s.clearValid b f i).dmem = s.dmem := rfl
@[simp] theorem State.clearValid_dram (s : State) (b f i : Nat) : (s.clearValid b f i).dram = s.dram := rfl
@[simp] theorem State.clearValid_spoiled (s : State) (b f i : Nat) : (s.clearValid b f i).spoiled = s.spoiled := rfl
@[simp] theorem State.clearValid_shut (s : State) (b f i : Nat) : (s.clearValid b f i).shut = s.shut := rfl
@[simp] theorem State.clearValid_placed (s : State) (b f i : Nat) : (s.clearValid b f i).placed = s.placed := rfl
@[simp] theorem State.clearValid_ge (s : State) (b f i : Nat) : (s.clearValid b f i).ge = s.ge := rfl
@[simp] theorem State.clearValid_free (s : State) (b f i : Nat) : (s.clearValid b f i).free = s.free := rfl
@[simp] theorem State.clearValid_muz (s : State) (b f i : Nat) : (s.clearValid b f i).muz = s.muz := rfl
@[simp] theorem State.clearValid_marks (s : State) (b f i : Nat) : (s.clearValid b f i).marks = s.marks := rfl
@[simp] theorem State.clearValid_herd (s : State) (b f i : Nat) : (s.clearValid b f i).herd = s.herd := rfl
@[simp] theorem State.clearValid_gathered (s : State) (b f i : Nat) : (s.clearValid b f i).gathered = s.gathered := rfl
@[simp] theorem State.clearValid_pair (s : State) (b f i : Nat) : (s.clearValid b f i).pair = s.pair := rfl
@[simp] theorem State.clearValid_knl (s : State) (b f i : Nat) : (s.clearValid b f i).knl = s.knl := rfl
@[simp] theorem State.clearValid_copies (s : State) (b f i : Nat) : (s.clearValid b f i).copies = s.copies := rfl
@[simp] theorem State.clearValid_rxHeld (s : State) (b f i : Nat) : (s.clearValid b f i).rxHeld = s.rxHeld := rfl
@[simp] theorem State.clearValid_rx (s : State) (b f i : Nat) : (s.clearValid b f i).rx = s.rx := rfl
@[simp] theorem State.clearValid_deepValid (s : State) (b f i : Nat) : (s.clearValid b f i).deepValid = s.deepValid := rfl
@[simp] theorem State.clearValid_tx (s : State) (b f i : Nat) : (s.clearValid b f i).tx = s.tx := rfl
@[simp] theorem State.clearValid_loc (s : State) (b f i : Nat) : (s.clearValid b f i).loc = s.loc := rfl
@[simp] theorem State.clearValid_atx (s : State) (b f i : Nat) : (s.clearValid b f i).atx = s.atx := rfl
@[simp] theorem State.clearValid_syn (s : State) (b f i : Nat) : (s.clearValid b f i).syn = s.syn := rfl
@[simp] theorem State.clearValid_eim (s : State) (b f i : Nat) : (s.clearValid b f i).eim = s.eim := rfl
@[simp] theorem State.clearValid_ref (s : State) (b f i : Nat) : (s.clearValid b f i).ref = s.ref := rfl
@[simp] theorem State.clearValid_times (s : State) (b f i : Nat) : (s.clearValid b f i).times = s.times := rfl
@[simp] theorem State.clearValid_net (s : State) (b f i : Nat) : (s.clearValid b f i).net = s.net := rfl
@[simp] theorem State.clearValid_mem (s : State) (b f i : Nat) : (s.clearValid b f i).mem = s.mem := rfl
@[simp] theorem State.clearValid_fuse (s : State) (b f i : Nat) : (s.clearValid b f i).fuse = s.fuse := rfl
@[simp] theorem State.clearValid_flash (s : State) (b f i : Nat) : (s.clearValid b f i).flash = s.flash := rfl
@[simp] theorem State.clearValid_ret (s : State) (b f i : Nat) : (s.clearValid b f i).ret = s.ret := rfl
@[simp] theorem State.clearValid_sec (s : State) (b f i : Nat) : (s.clearValid b f i).sec = s.sec := rfl
@[simp] theorem State.clearValid_upd (s : State) (b f i : Nat) : (s.clearValid b f i).upd = s.upd := rfl
@[simp] theorem State.clearValid_boot (s : State) (b f i : Nat) : (s.clearValid b f i).boot = s.boot := rfl
@[simp] theorem State.clearValid_dma (s : State) (b f i : Nat) : (s.clearValid b f i).dma = s.dma := rfl
@[simp] theorem State.clearValid_mon (s : State) (b f i : Nat) : (s.clearValid b f i).mon = s.mon := rfl
@[simp] theorem State.clearValid_txLoaded (s : State) (b f i : Nat) : (s.clearValid b f i).txLoaded = s.txLoaded := rfl
@[simp] theorem State.clearValid_out (s : State) (b f i : Nat) : (s.clearValid b f i).out = s.out := rfl
@[simp] theorem State.clearValid_pending (s : State) (b f i : Nat) : (s.clearValid b f i).pending = s.pending := rfl

@[simp] theorem State.setPlaced_clk (s : State) (b f i : Nat) : (s.setPlaced b f i).clk = s.clk := rfl
@[simp] theorem State.setPlaced_live (s : State) (b f i : Nat) : (s.setPlaced b f i).live = s.live := rfl
@[simp] theorem State.setPlaced_shadow (s : State) (b f i : Nat) : (s.setPlaced b f i).shadow = s.shadow := rfl
@[simp] theorem State.setPlaced_pend (s : State) (b f i : Nat) : (s.setPlaced b f i).pend = s.pend := rfl
@[simp] theorem State.setPlaced_commit (s : State) (b f i : Nat) : (s.setPlaced b f i).commit = s.commit := rfl
@[simp] theorem State.setPlaced_snap (s : State) (b f i : Nat) : (s.setPlaced b f i).snap = s.snap := rfl
@[simp] theorem State.setPlaced_ckpt (s : State) (b f i : Nat) : (s.setPlaced b f i).ckpt = s.ckpt := rfl
@[simp] theorem State.setPlaced_faults (s : State) (b f i : Nat) : (s.setPlaced b f i).faults = s.faults := rfl
@[simp] theorem State.setPlaced_evt (s : State) (b f i : Nat) : (s.setPlaced b f i).evt = s.evt := rfl
@[simp] theorem State.setPlaced_sxm (s : State) (b f i : Nat) : (s.setPlaced b f i).sxm = s.sxm := rfl
@[simp] theorem State.setPlaced_sxmPast (s : State) (b f i : Nat) : (s.setPlaced b f i).sxmPast = s.sxmPast := rfl
@[simp] theorem State.setPlaced_dmem (s : State) (b f i : Nat) : (s.setPlaced b f i).dmem = s.dmem := rfl
@[simp] theorem State.setPlaced_dram (s : State) (b f i : Nat) : (s.setPlaced b f i).dram = s.dram := rfl
@[simp] theorem State.setPlaced_valid (s : State) (b f i : Nat) : (s.setPlaced b f i).valid = s.valid := rfl
@[simp] theorem State.setPlaced_spoiled (s : State) (b f i : Nat) : (s.setPlaced b f i).spoiled = s.spoiled := rfl
@[simp] theorem State.setPlaced_shut (s : State) (b f i : Nat) : (s.setPlaced b f i).shut = s.shut := rfl
@[simp] theorem State.setPlaced_ge (s : State) (b f i : Nat) : (s.setPlaced b f i).ge = s.ge := rfl
@[simp] theorem State.setPlaced_free (s : State) (b f i : Nat) : (s.setPlaced b f i).free = s.free := rfl
@[simp] theorem State.setPlaced_muz (s : State) (b f i : Nat) : (s.setPlaced b f i).muz = s.muz := rfl
@[simp] theorem State.setPlaced_marks (s : State) (b f i : Nat) : (s.setPlaced b f i).marks = s.marks := rfl
@[simp] theorem State.setPlaced_herd (s : State) (b f i : Nat) : (s.setPlaced b f i).herd = s.herd := rfl
@[simp] theorem State.setPlaced_gathered (s : State) (b f i : Nat) : (s.setPlaced b f i).gathered = s.gathered := rfl
@[simp] theorem State.setPlaced_pair (s : State) (b f i : Nat) : (s.setPlaced b f i).pair = s.pair := rfl
@[simp] theorem State.setPlaced_knl (s : State) (b f i : Nat) : (s.setPlaced b f i).knl = s.knl := rfl
@[simp] theorem State.setPlaced_copies (s : State) (b f i : Nat) : (s.setPlaced b f i).copies = s.copies := rfl
@[simp] theorem State.setPlaced_rxHeld (s : State) (b f i : Nat) : (s.setPlaced b f i).rxHeld = s.rxHeld := rfl
@[simp] theorem State.setPlaced_rx (s : State) (b f i : Nat) : (s.setPlaced b f i).rx = s.rx := rfl
@[simp] theorem State.setPlaced_deepValid (s : State) (b f i : Nat) : (s.setPlaced b f i).deepValid = s.deepValid := rfl
@[simp] theorem State.setPlaced_tx (s : State) (b f i : Nat) : (s.setPlaced b f i).tx = s.tx := rfl
@[simp] theorem State.setPlaced_loc (s : State) (b f i : Nat) : (s.setPlaced b f i).loc = s.loc := rfl
@[simp] theorem State.setPlaced_atx (s : State) (b f i : Nat) : (s.setPlaced b f i).atx = s.atx := rfl
@[simp] theorem State.setPlaced_syn (s : State) (b f i : Nat) : (s.setPlaced b f i).syn = s.syn := rfl
@[simp] theorem State.setPlaced_eim (s : State) (b f i : Nat) : (s.setPlaced b f i).eim = s.eim := rfl
@[simp] theorem State.setPlaced_ref (s : State) (b f i : Nat) : (s.setPlaced b f i).ref = s.ref := rfl
@[simp] theorem State.setPlaced_times (s : State) (b f i : Nat) : (s.setPlaced b f i).times = s.times := rfl
@[simp] theorem State.setPlaced_net (s : State) (b f i : Nat) : (s.setPlaced b f i).net = s.net := rfl
@[simp] theorem State.setPlaced_mem (s : State) (b f i : Nat) : (s.setPlaced b f i).mem = s.mem := rfl
@[simp] theorem State.setPlaced_fuse (s : State) (b f i : Nat) : (s.setPlaced b f i).fuse = s.fuse := rfl
@[simp] theorem State.setPlaced_flash (s : State) (b f i : Nat) : (s.setPlaced b f i).flash = s.flash := rfl
@[simp] theorem State.setPlaced_ret (s : State) (b f i : Nat) : (s.setPlaced b f i).ret = s.ret := rfl
@[simp] theorem State.setPlaced_sec (s : State) (b f i : Nat) : (s.setPlaced b f i).sec = s.sec := rfl
@[simp] theorem State.setPlaced_upd (s : State) (b f i : Nat) : (s.setPlaced b f i).upd = s.upd := rfl
@[simp] theorem State.setPlaced_boot (s : State) (b f i : Nat) : (s.setPlaced b f i).boot = s.boot := rfl
@[simp] theorem State.setPlaced_dma (s : State) (b f i : Nat) : (s.setPlaced b f i).dma = s.dma := rfl
@[simp] theorem State.setPlaced_mon (s : State) (b f i : Nat) : (s.setPlaced b f i).mon = s.mon := rfl
@[simp] theorem State.setPlaced_txLoaded (s : State) (b f i : Nat) : (s.setPlaced b f i).txLoaded = s.txLoaded := rfl
@[simp] theorem State.setPlaced_out (s : State) (b f i : Nat) : (s.setPlaced b f i).out = s.out := rfl
@[simp] theorem State.setPlaced_pending (s : State) (b f i : Nat) : (s.setPlaced b f i).pending = s.pending := rfl

/-! ## Words -/

/-- A word just written reads back. -/
@[simp] theorem State.word_setWord_same (s : State) (k : Nat) (v : Word) : (s.setWord k v).word k = v :=
  Store.get_set_same _ _ _ _

/-- A write leaves every other word alone. -/
theorem State.word_setWord_ne (s : State) {k j : Nat} (v : Word) (h : j ≠ k) : (s.setWord k v).word j = s.word j :=
  Store.get_set_ne _ _ _ h

theorem State.word_wr_ne (s : State) {f : Fld} {j : Nat} (v : Nat) (h : j ≠ f.key) : (s.wr f v).word j = s.word j :=
  State.word_setWord_ne _ _ h

theorem State.word_wrFlag_ne (s : State) {f : Fld} {j : Nat} (b : Bool) (h : j ≠ f.key) : (s.wrFlag f b).word j = s.word j :=
  State.word_wr_ne _ _ h

theorem State.word_setNum_ne (s : State) {k j : Nat} (v : Nat) (h : j ≠ k) : (s.setNum k v).word j = s.word j :=
  State.word_setWord_ne _ _ h

theorem State.word_add_ne (s : State) {f : Fld} {j : Nat} (n : Nat) (h : j ≠ f.key) : (s.add f n).word j = s.word j :=
  State.word_wr_ne _ _ h

theorem State.word_inc_ne (s : State) {f : Fld} {j : Nat} (h : j ≠ f.key) : (s.inc f).word j = s.word j :=
  State.word_wr_ne _ _ h

theorem State.word_addSat_ne (s : State) {f : Fld} {j : Nat} (n : Nat) (h : j ≠ f.key) : (s.addSat f n).word j = s.word j :=
  State.word_wr_ne _ _ h

theorem State.word_wrS_ne (s : State) {f : Fld} {j : Nat} (i : Int) (h : j ≠ f.key) : (s.wrS f i).word j = s.word j :=
  State.word_wr_ne _ _ h

theorem State.word_sq_ne (s : State) {k j : Nat} (i : Nat) (h : j ≠ k) : (s.sq k i).word j = s.word j :=
  State.word_setWord_ne _ _ h

theorem State.word_sqf_ne (s : State) {f : Fld} {j : Nat} (h : j ≠ f.key) : (s.sqf f).word j = s.word j :=
  State.word_setWord_ne _ _ h

/-- A word depends on the live words only. -/
theorem State.word_congr {s t : State} (h : t.live = s.live) (k : Nat) : t.word k = s.word k := by
  unfold State.word; rw [h]

@[simp] theorem State.word_emit (s : State) (o : Output) (k : Nat) : (s.emit o).word k = s.word k := rfl

@[simp] theorem State.word_setEngine (s : State) (e : Nat) (x : Engine) (k : Nat) : (s.setEngine e x).word k = s.word k := rfl

/-! ## Fields -/

/-- A field fits in its word. -/
def Fld.fits (f : Fld) : Prop := f.lo + f.width ≤ 32

/-- Two fields of one word have no bit in common. -/
def Fld.apart (f g : Fld) : Prop := f.lo + f.width ≤ g.lo ∨ g.lo + g.width ≤ f.lo

theorem Fld.put_toNat (f : Fld) (w : Word) (v : Nat) (hf : f.lo + f.width ≤ 32) :
    (f.put w v).toNat =
      w.toNat % 2 ^ f.lo + 2 ^ f.lo * (v % 2 ^ f.width) + 2 ^ (f.lo + f.width) * (w.toNat / 2 ^ (f.lo + f.width)) := by
  unfold Fld.put
  rw [BitVec.toNat_ofNat]
  apply Nat.mod_eq_of_lt
  have hw : w.toNat < 2 ^ 32 := w.isLt
  have e : 2 ^ 32 = 2 ^ (f.lo + f.width) * 2 ^ (32 - (f.lo + f.width)) := by
    rw [← Nat.pow_add]; congr 1; omega
  have hq : w.toNat / 2 ^ (f.lo + f.width) < 2 ^ (32 - (f.lo + f.width)) := by
    rw [Nat.div_lt_iff_lt_mul (Nat.two_pow_pos _), Nat.mul_comm, ← e]; exact hw
  have ha : w.toNat % 2 ^ f.lo + 2 ^ f.lo * (v % 2 ^ f.width) < 2 ^ (f.lo + f.width) := by
    rw [Nat.pow_add]
    have h1 : w.toNat % 2 ^ f.lo < 2 ^ f.lo := Nat.mod_lt _ (Nat.two_pow_pos _)
    have h2 : v % 2 ^ f.width + 1 ≤ 2 ^ f.width := Nat.mod_lt _ (Nat.two_pow_pos _)
    calc w.toNat % 2 ^ f.lo + 2 ^ f.lo * (v % 2 ^ f.width) < 2 ^ f.lo + 2 ^ f.lo * (v % 2 ^ f.width) := by omega
      _ = 2 ^ f.lo * (v % 2 ^ f.width + 1) := by rw [Nat.mul_add]; omega
      _ ≤ 2 ^ f.lo * 2 ^ f.width := Nat.mul_le_mul_left _ h2
  calc _ < 2 ^ (f.lo + f.width) + 2 ^ (f.lo + f.width) * (w.toNat / 2 ^ (f.lo + f.width)) := by omega
    _ = 2 ^ (f.lo + f.width) * (w.toNat / 2 ^ (f.lo + f.width) + 1) := by rw [Nat.mul_add]; omega
    _ ≤ 2 ^ (f.lo + f.width) * 2 ^ (32 - (f.lo + f.width)) := Nat.mul_le_mul_left _ hq
    _ = 2 ^ 32 := e.symm

/-- A field just put reads back, modulo its width. -/
theorem Fld.ext_put_same (f : Fld) (w : Word) (v : Nat) (hf : f.lo + f.width ≤ 32) : f.ext (f.put w v) = v % 2 ^ f.width := by
  unfold Fld.ext
  rw [Fld.put_toNat f w v hf, Nat.pow_add, Nat.mul_assoc, Nat.add_assoc, ← Nat.mul_add,
    Nat.add_mul_div_left _ _ (Nat.two_pow_pos _), Nat.div_eq_of_lt (Nat.mod_lt _ (Nat.two_pow_pos _)), Nat.zero_add,
    Nat.add_mul_mod_self_left, Nat.mod_mod]

theorem Fld.testBit_put (f : Fld) (w : Word) (v j : Nat) (hf : f.lo + f.width ≤ 32) :
    (f.put w v).toNat.testBit j = if f.lo ≤ j ∧ j < f.lo + f.width then v.testBit (j - f.lo) else w.toNat.testBit j := by
  have h1 : w.toNat % 2 ^ f.lo < 2 ^ f.lo := Nat.mod_lt _ (Nat.two_pow_pos _)
  have h2 : 2 ^ f.lo * (v % 2 ^ f.width) + w.toNat % 2 ^ f.lo < 2 ^ (f.lo + f.width) := by
    have h3 : v % 2 ^ f.width + 1 ≤ 2 ^ f.width := Nat.mod_lt _ (Nat.two_pow_pos _)
    rw [Nat.pow_add]
    calc _ < 2 ^ f.lo * (v % 2 ^ f.width) + 2 ^ f.lo := by omega
      _ = 2 ^ f.lo * (v % 2 ^ f.width + 1) := by rw [Nat.mul_add]; omega
      _ ≤ _ := Nat.mul_le_mul_left _ h3
  rw [Fld.put_toNat f w v hf, Nat.add_comm, Nat.add_comm (w.toNat % 2 ^ f.lo), Nat.testBit_two_pow_mul_add _ h2]
  by_cases hj : j < f.lo + f.width
  · rw [if_pos hj, Nat.testBit_two_pow_mul_add _ h1]
    by_cases hl : j < f.lo
    · rw [if_pos hl, if_neg (by omega), Nat.testBit_mod_two_pow]; simp [hl]
    · rw [if_neg hl, if_pos (by omega), Nat.testBit_mod_two_pow]; simp [show j - f.lo < f.width by omega]
  · rw [if_neg hj, if_neg (by omega), Nat.testBit_div_two_pow]; congr 1; omega

/-- Putting a field leaves a field clear of it alone. -/
theorem Fld.ext_put_apart (f g : Fld) (w : Word) (v : Nat) (hf : f.lo + f.width ≤ 32)
    (h : g.lo + g.width ≤ f.lo ∨ f.lo + f.width ≤ g.lo) : g.ext (f.put w v) = g.ext w := by
  apply Nat.eq_of_testBit_eq
  intro j
  unfold Fld.ext
  rw [Nat.testBit_mod_two_pow, Nat.testBit_mod_two_pow, Nat.testBit_div_two_pow, Nat.testBit_div_two_pow,
    Fld.testBit_put f w v _ hf]
  by_cases hj : j < g.width
  · rw [if_neg (by omega)]
  · simp [hj]

theorem Fld.ext_lt (f : Fld) (w : Word) : f.ext w < 2 ^ f.width := Nat.mod_lt _ (Nat.two_pow_pos _)

/-- A field just written reads back, modulo its width. -/
theorem State.rd_wr_same (s : State) (f : Fld) (v : Nat) (hf : f.lo + f.width ≤ 32) : (s.wr f v).rd f = v % 2 ^ f.width := by
  unfold State.rd State.wr
  rw [State.word_setWord_same, Fld.ext_put_same _ _ _ hf]

/-- A written field leaves a field clear of it, in the same word or another, alone. -/
theorem State.rd_wr_apart (s : State) (f g : Fld) (v : Nat) (hf : f.lo + f.width ≤ 32)
    (h : g.key ≠ f.key ∨ g.lo + g.width ≤ f.lo ∨ f.lo + f.width ≤ g.lo) : (s.wr f v).rd g = s.rd g := by
  unfold State.rd State.wr
  by_cases hk : g.key = f.key
  · rw [hk, State.word_setWord_same, Fld.ext_put_apart _ _ _ _ hf (by rcases h with h | h; exact absurd hk h; exact h)]
  · rw [State.word_setWord_ne _ _ hk]

theorem State.rd_lt (s : State) (f : Fld) : s.rd f < 2 ^ f.width := Fld.ext_lt _ _

theorem State.rd_congr {s t : State} {f : Fld} (h : t.word f.key = s.word f.key) : t.rd f = s.rd f := by
  unfold State.rd; rw [h]

theorem State.flag_congr {s t : State} {f : Fld} (h : t.word f.key = s.word f.key) : t.flag f = s.flag f := by
  unfold State.flag; rw [State.rd_congr h]

theorem State.flag_wrFlag_same (s : State) (f : Fld) (b : Bool) (hf : f.lo + f.width ≤ 32) (h1 : f.width = 1) :
    (s.wrFlag f b).flag f = b := by
  unfold State.flag State.wrFlag
  rw [State.rd_wr_same _ _ _ hf, h1]
  cases b <;> rfl

theorem State.flag_wrFlag_apart (s : State) (f g : Fld) (b : Bool) (hf : f.lo + f.width ≤ 32)
    (h : g.key ≠ f.key ∨ g.lo + g.width ≤ f.lo ∨ f.lo + f.width ≤ g.lo) : (s.wrFlag f b).flag g = s.flag g := by
  unfold State.flag State.wrFlag
  rw [State.rd_wr_apart _ _ _ _ hf h]

/-- An event of a sticky register: SEQ advances modulo 256, its bit is set, and no sticky bit is cleared (R490). -/
theorem State.word_sq_same (s : State) (k i : Nat) : (s.sq k i).word k = sqSet (s.word k) (2 ^ i) :=
  State.word_setWord_same _ _ _

end Sys2Proof.Machine
end

