-- ==== Sys2Proof/Laws/Report.lean ====
section
/-!
SUPPORT. What a report may write among the words a host can address: its own block's counter and IPEND register, the rest of the EVT
block, and the MSI-X pending bits; every other word stays.
-/

namespace Sys2Proof.Machine

variable {k : Nat}

/-- A word outside the EVT block is not one a report writes. -/
theorem ne_of_not_reportKey {j : Nat} (h : reportKey k = false) (hj : 0x20000 ≤ j ∧ j < 0x23000) : k ≠ j := by
  rintro rfl
  simp [reportKey, hj.1, hj.2] at h

theorem ne_msixPending (h : reportKey k = false) : k ≠ msixPending := by
  rintro rfl
  simp [reportKey] at h

theorem State.msix_word (s : State) (v : Nat) (h : k ≠ msixPending) : (s.msix v).word k = s.word k := by
  unfold State.msix
  split
  · exact State.word_setNum_ne _ _ h
  · rfl

theorem State.msixAll_word (s : State) (set n : Nat) (h : k ≠ msixPending) : (s.msixAll set n).word k = s.word k := by
  induction n with
  | zero => rfl
  | succ n ih =>
    simp only [State.msixAll]
    split
    · rw [State.msix_word _ _ h, ih]
    · exact ih

/-- The words do not depend on the state of the log. -/
theorem State.word_setEvt (s : State) (x : Evt) : ({ s with evt := x } : State).word k = s.word k := rfl

theorem State.interrupts_word (s : State) (h : k ≠ msixPending) : s.interrupts.word k = s.word k := by
  unfold State.interrupts
  extract_lets now t
  rw [State.word_setEvt]
  exact State.msixAll_word s _ _ h

theorem State.dropReport_word (s : State) (r : Report) (h1 : k ≠ EVT.DROPPED) (h2 : k ≠ EVT.HIST) (h3 : k ≠ EVT.FIRSTDROP) :
    (s.dropReport r).word k = s.word k := by
  unfold State.dropReport
  extract_lets a b c
  have ha : a.word k = s.word k := State.word_inc_ne _ h1
  have hb : b.word k = a.word k := by
    unfold b
    split
    · rfl
    · rw [State.word_wr_ne _ _ h3, State.word_wr_ne _ _ h3]
  have hc : c.word k = b.word k := State.word_sqf_ne _ h2
  rw [State.word_setEvt, hc, hb, ha]

theorem State.enterReport_word (s : State) (r : Report) (h1 : k ≠ EVT.DROPPED) (h2 : k ≠ EVT.HIST) (h3 : k ≠ EVT.FIRSTDROP) :
    (s.enterReport r).word k = s.word k := by
  unfold State.enterReport
  split
  · rw [State.word_setEvt]
  · split
    · split
      · rfl
      · rw [State.word_setEvt]; exact State.dropReport_word _ _ h1 h2 h3
    · exact State.dropReport_word _ _ h1 h2 h3

theorem State.findRecord_slot (s : State) (code source tick : Nat) :
    ∀ n q slot, s.findRecord code source tick n q = some slot → slot < 1024 := by
  intro n
  induction n with
  | zero => intro q slot h; simp [State.findRecord] at h
  | succ n ih =>
    intro q slot h
    simp only [State.findRecord] at h
    split at h
    · simp only [Option.some.injEq] at h; omega
    · exact ih _ _ h

theorem State.placeReport_word (s : State) (code source data : Nat) (h1 : k ≠ EVT.DROPPED) (h2 : k ≠ EVT.HIST)
    (h3 : k ≠ EVT.FIRSTDROP) (h4 : ∀ i, i < 1024 → k ≠ EVT.REP i) : (s.placeReport code source data).word k = s.word k := by
  unfold State.placeReport
  dsimp only
  split
  · rename_i slot hs
    exact State.word_addSat_ne _ _ (h4 slot (State.findRecord_slot _ _ _ _ _ _ _ hs))
  · split
    · rw [State.word_setEvt]
    · exact State.enterReport_word _ _ h1 h2 h3

/-- A report leaves every word outside the EVT block and the MSI-X pending bits alone. -/
theorem State.report_word (s : State) (code source data : Nat) (h : reportKey k = false) (hc : code < 0x1800) :
    (s.report code source data).word k = s.word k := by
  have hb : code / 256 < 24 := by omega
  unfold State.report
  rw [State.placeReport_word _ _ _ _ (ne_of_not_reportKey h (by decide)) (ne_of_not_reportKey h (by decide))
    (ne_of_not_reportKey h (by decide)) (fun i hi => ne_of_not_reportKey h (by unfold EVT.REP; omega)),
    State.interrupts_word _ (ne_msixPending h),
    State.word_sq_ne _ _ (ne_of_not_reportKey h (by unfold EVT.IPEND; omega)),
    State.word_inc_ne _ (ne_of_not_reportKey h (by unfold EVT.BLKCNT.val EVT.BLKCNT; dsimp only; omega))]

theorem State.report_rd (s : State) (f : Fld) (code source data : Nat) (h : reportKey f.key = false) (hc : code < 0x1800) :
    (s.report code source data).rd f = s.rd f := State.rd_congr (State.report_word s code source data h hc)

theorem State.report_flag (s : State) (f : Fld) (code source data : Nat) (h : reportKey f.key = false) (hc : code < 0x1800) :
    (s.report code source data).flag f = s.flag f := State.flag_congr (State.report_word s code source data h hc)

/-- A report counts one event of its block and sets its own IPEND bit, whatever else it does (R501, R507). -/
theorem State.report_reported (s : State) (code source data : Nat) (hc : code < 0x1800) :
    Reported code s (s.report code source data) := by
  have hb : code / 256 < 24 := by omega
  have ea : ∀ i, i < 1024 → EVT.BLKCNT (code / 256) ≠ EVT.REP i := by intro i _; unfold EVT.BLKCNT EVT.REP; omega
  have eb : ∀ i, i < 1024 → EVT.IPEND (code / 256) ≠ EVT.REP i := by intro i _; unfold EVT.IPEND EVT.REP; omega
  unfold State.report
  constructor
  · unfold State.rd
    rw [show (EVT.BLKCNT.val (code / 256)).key = EVT.BLKCNT (code / 256) from rfl,
      State.placeReport_word _ _ _ _ (by unfold EVT.BLKCNT EVT.DROPPED; omega) (by unfold EVT.BLKCNT EVT.HIST; omega)
      (by unfold EVT.BLKCNT EVT.FIRSTDROP; omega) ea, State.interrupts_word _ (by unfold EVT.BLKCNT msixPending; omega),
      State.word_sq_ne _ _ (by unfold EVT.BLKCNT EVT.IPEND; omega)]
    exact State.rd_wr_same s (EVT.BLKCNT.val (code / 256)) _ (by show 0 + 32 ≤ 32; omega)
  · rw [State.placeReport_word _ _ _ _ (by unfold EVT.IPEND EVT.DROPPED; omega) (by unfold EVT.IPEND EVT.HIST; omega)
      (by unfold EVT.IPEND EVT.FIRSTDROP; omega) eb, State.interrupts_word _ (by unfold EVT.IPEND msixPending; omega),
      State.word_sq_same, State.word_inc_ne _ (by unfold EVT.IPEND EVT.BLKCNT.val EVT.BLKCNT; dsimp only; omega)]

/-- A report after other operations that left its two words alone. -/
theorem Reported.after {code : Nat} {s t u : State} (h : Reported code t u)
    (h1 : t.word (EVT.BLKCNT (code / 256)) = s.word (EVT.BLKCNT (code / 256)))
    (h2 : t.word (EVT.IPEND (code / 256)) = s.word (EVT.IPEND (code / 256))) : Reported code s u := by
  refine ⟨?_, by rw [h.2, h2]⟩
  have e : t.rd (EVT.BLKCNT.val (code / 256)) = s.rd (EVT.BLKCNT.val (code / 256)) := State.rd_congr h1
  rw [h.1, e]

/-- A report before other operations that leave its two words alone. -/
theorem Reported.before {code : Nat} {s t u : State} (h : Reported code s t)
    (h1 : u.word (EVT.BLKCNT (code / 256)) = t.word (EVT.BLKCNT (code / 256)))
    (h2 : u.word (EVT.IPEND (code / 256)) = t.word (EVT.IPEND (code / 256))) : Reported code s u := by
  refine ⟨?_, by rw [h2, h.2]⟩
  have e : u.rd (EVT.BLKCNT.val (code / 256)) = t.rd (EVT.BLKCNT.val (code / 256)) := State.rd_congr h1
  rw [e, h.1]

end Sys2Proof.Machine
end

