-- ==== Sys2Proof/Machine/Pins.lean ====
section
/-!
DEFINITION. What the balls show of the state, and the IEEE 1149.1 port: derived views, which no command of the table reads or writes
(R269, R270, R366, R427, R452, R508, R518, R563, R577, R578).
-/

namespace Sys2Proof.Machine

/-! ## The states of the balls (R577) -/

/-- The groups of balls of R577. -/
inductive Ball where
  /-- DO of SAP port `n`. -/
  | sapDo (n : Nat)
  /-- BCLK of clock group `k`. -/
  | sapBclk (k : Nat)
  /-- FS of clock group `k`. -/
  | sapFs (k : Nat)
  /-- AES3 transmitter `n`. -/
  | aesTx (n : Nat)
  /-- MADI transmitter `p`. -/
  | madiTx (p : Nat)
  /-- Clock output `j`. -/
  | cko (j : Nat)
  /-- Event output `p`. -/
  | evout (p : Nat)
  /-- LTC_OUT. -/
  | ltcOut
  /-- SAP DI, AESRX, EVIN, LTC_IN, SHEP_SEL and HOLDUP_OK. -/
  | lineIn
  /-- A strap. -/
  | strap
  /-- SPI_IO[3:0]. -/
  | spiIo
  /-- FL_CS_N. -/
  | flashSelect
  /-- FL_RESET_N. -/
  | flashReset
  /-- IRQ0_N or IRQ1_N. -/
  | irq (i : Nat)
  /-- TMS or TDI. -/
  | tmsTdi
  /-- TRST_N. -/
  | trst
  /-- The lanes of port A, B or M (0, 1, 2). -/
  | port (x : Nat)
  /-- The pair link. -/
  | pairLink
  /-- The PCIe lanes. -/
  | pcie
  /-- DRAM_RESET_N or CKE. -/
  | dram
  /-- Slicer input `n`. -/
  | slicer (n : Nat)
deriving DecidableEq, Repr

/-- What a ball or lane does. -/
inductive BallState where
  | hiZ
  | input
  | inputUp
  | inputDown
  | high
  | low
  /-- Driven by its function. -/
  | driven
  /-- Open drain, not pulled down. -/
  | released
  | idle
  /-- Terminated, where the Bool is true. -/
  | terminated (on : Bool)
deriving DecidableEq, Repr

/-- The function of a local output in the live epoch: none where it is an input ball (R269), else whether it is enabled (R270,
R366). -/
def State.outputEnabled (s : State) : Ball → Option Bool
  | .sapDo n => some (Cfg.sapOut s.live n)
  | .sapBclk k | .sapFs k =>
    if s.flag (SAP.CG_CFG.EN k) && s.rd (SAP.CG_CFG.MODE k) != 0 then none else some (s.flag (SAP.CG_CFG.EN k))
  | .aesTx n => some (s.flag (AES.TX_CFG.EN n))
  | .madiTx p => some (s.flag (AES.MD_CFG.OUT_EN p))
  | .cko j => some (s.flag (SYN.CKO_CFG.EN j))
  | .evout p => some ((List.range 8).any (fun k => s.flag (TIME.PG_CFG.EN k) && s.rd (TIME.PG_CFG.PIN k) == p))
  | .ltcOut => some (s.flag TIME.LTCTX_CFG.EN)
  | _ => none

/-- A local output ball out of reset: an input where its function makes it one, high impedance where this chip does not drive (R452,
R578), low until its function is enabled (R269, R270, R366). -/
def State.localBall (s : State) (b : Ball) : BallState :=
  match s.outputEnabled b with
  | none => .input
  | some on => if !s.drives then .hiZ else if on then .driven else .low

/-- The state of a ball of a group whose supply is present (R577). That FL_RESET_N is low for the first 100 µs of a reset is timing left
out (DESIGN CHOICE, log entry 77). -/
def State.ball (s : State) : Ball → BallState
  | .lineIn => .input
  | .strap => if s.boot.held then .inputDown else .input
  | .spiIo => .hiZ
  | .flashSelect => if s.boot.held then .high else .driven
  | .flashReset => if s.boot.held then .high else .driven
  | .irq i =>
    if s.boot.held then .released
    else if s.evt.raised &&& s.word (if i = 0 then EVT.PIN0 else EVT.PIN1) = 0 then .released else .low
  | .tmsTdi => .inputUp
  | .trst => .inputDown
  | .port x => if s.boot.held || Cfg.portIdle s.live x then .idle else .driven
  | .pairLink => if s.boot.held || !s.flag PAIR.CFG.EN then .idle else .driven
  | .pcie => if s.boot.held then .idle else .driven
  | .dram => if s.boot.held || !s.flag DRAM.CFG.EN then .low else .driven
  | .slicer n => .terminated (!s.boot.held && s.flag (EIM.SLC_CFG.TERM n))
  | b => if s.boot.held then .hiZ else s.localBall b

/-- The state of a ball, `powered` telling that its group's supply is present: the supplies are outside the state (R576, R577). -/
def State.ballWith (s : State) (powered : Bool) (b : Ball) : BallState :=
  if powered then s.ball b
  else match b with
    | .slicer _ => .terminated false
    | _ => .hiZ

/-! ## The IEEE 1149.1 port (R518, R563) -/

/-- An instruction of the port. -/
inductive TapInstr where
  | idcode
  | bypass
  | sample
  | extest
  | bist
  | scan
  | other
deriving DecidableEq, Repr

/-- What an instruction selects: the identification word, the one-bit bypass register, the boundary register, the self-test of the
memories or the scan chains; the last two leave out the removed units. -/
inductive TapTarget where
  | idcode (word : Nat)
  | bypass
  | boundary (drive : Bool)
  | bist
  | scan
deriving DecidableEq, Repr

/-- IDCODE: [31:28] STEPL, [27:12] PART, [11:1] 0x4E5 and [0] 1 (R563). -/
def State.idcode (s : State) : Nat := s.rd GLB.ID.STEPL * 2 ^ 28 + s.rd GLB.ID.PART * 2 ^ 12 + 0x4E5 * 2 + 1

/-- What the port gives for an instruction: IDCODE and BYPASS in every lifecycle state, the rest only in OPENED, and BYPASS
otherwise (R518, R563). -/
def State.tap (s : State) (i : TapInstr) : TapTarget :=
  if i = .idcode then .idcode s.idcode
  else if s.fuse.lc ≠ 3 then .bypass
  else match i with
    | .sample => .boundary false
    | .extest => .boundary true
    | .bist => .bist
    | .scan => .scan
    | _ => .bypass

/-- A unit of R4 takes part in BIST and scan in OPENED: the chip has it (R563). -/
def State.inScan (s : State) (present : Fld) : Bool := decide (s.fuse.lc = 3) && s.flag present

end Sys2Proof.Machine
end

