-- ==== Sys2Proof/Tests/Slice0.lean ====
section
/-!
SUPPORT. Tests of the model: for each statement that has hypotheses, a state and operands that meet them, clause by clause, at a boundary value of
their range; ill-formed commands that `Instr.wf` refuses; words of Genah written out from their formats; single steps whose results come from the
spec's own examples or by hand from the rules named.
-/

namespace Sys2Proof.Tests
open Sys2Proof.Machine

set_option maxRecDepth 20000

/-! ## Small states -/

/-- A state with fields written, one after another. -/
def wrs (s : State) (l : List (Fld × Nat)) : State := l.foldl (fun s p => s.wr p.1 p.2) s

/-- The block in service: the end of boot reached, ticks running, in the working part of tick 0, ten thousand seconds after APLL-C locked. -/
def serving : State :=
  { State.reset.wr GLB.BOOTSTAT.STAGE 7 with
    boot := { State.reset.boot with held := false, ready := true },
    clk := { now := 10 ^ 13, cycle := 0, time := 0, phase := .work } }

/-- The block in service with fields written. -/
def served (l : List (Fld × Nat)) : State := wrs serving l

/-- The same in the guard of tick 0. -/
def guarded (l : List (Fld × Nat)) : State :=
  let s := served l
  { s with clk := { s.clk with phase := .guard } }

/-- Engine `e` runs and is about to execute `i`, being otherwise `x`. -/
def issuing (e : Nat) (i : Genah) (x : Engine) : State :=
  (serving.setWord (IMEM.word e (x.pc % 2 ^ 14)) (BitVec.ofNat 32 (Machine.Genah.encode i))).setEngine e { x with st := .run }

/-- An engine that runs ahead with `n` entries in its store buffer. -/
def aheadWith (n : Nat) : Engine := { Engine.reset with ahead := true, rsb := List.replicate n (.mark 0) }

/-- An engine with a transaction in flight on FBUF word 0. -/
def inFlight (put : Bool) (n : Nat) : Engine :=
  { Engine.reset with tickets := (List.range n).map (fun i => { put := put, seq := i, dram := [0], fbuf := [0], words := [], held := true }), issued := n }

/-- An engine with lanes near the ends of their range, some of them untagged, and lane 0 to 7 of v15 and a3 in use. -/
def laden : Engine :=
  { Engine.reset with
    g := [(31, 0xF7#32)], lfsr := 0x12345, sat := 2 ^ 32 - 3,
    v := (List.range 8).map (fun i => (240 + i, ⟨BitVec.ofNat 32 (0x7FFFFFF0 + i * 0x13579BDF), i % 3 != 0⟩)),
    a := (List.range 8).map (fun i => (48 + i, ⟨BitVec.ofNat 64 (0x7FFFFFFFFFFFFF00 + i * 0x0BCDEF0123456789), i % 4 != 1⟩)) }

/-- An RTP frame of one 24-bit sample, to 239.0.0.1 port 5004, its media time 0. -/
def rtpFrame : List Nat :=
  [1, 0, 94, 0, 0, 1, 2, 0, 0, 0, 0, 1, 8, 0, 0x45, 0, 0, 43, 0, 0, 0, 0, 64, 17, 0, 0, 10, 0, 0, 1, 239, 0, 0, 1,
   0, 1, 0x13, 0x8C, 0, 23, 0, 0, 0x80, 96, 0, 1, 0, 0, 0, 0, 0, 0, 0, 9, 1, 2, 3]

/-- Receive flow `i` takes that stream on both paths into buffer 8191, a ring of four frames of one channel. -/
def receives (i : Nat) : List (Fld × Nat) :=
  [(FT.EN i, 1), (FT.PATH i, 3), (FT.CHANNELS i, 1), (FT.PTIME i, 1), (FT.ADDR0 i, 239 * 2 ^ 24 + 1), (FT.UDPPORT i, 5004),
   (FT.BUFID i, 8191), (BT.EN 8191, 1), (BT.CHANNELS 8191, 1), (BT.DEPTH 8191, 4), (BT.DDEPTH 8191, 4)]

/-- A committed packet of that frame, received by port `x`. -/
def rtpPacket (x : Nat) : KPacket := { words := packetOf x 0 0 rtpFrame, got := [], bad := false, tag := none }

/-- Kennel `n` holds `k`. -/
def holding (s : State) (n : Nat) (k : Kennel) : State := s.setKennel n k

/-- The tag of a byte string under the empty pairing key. -/
def tagOf (bs : List Nat) : List Nat := (toBe 32 (Config.hmac256 [] (bs.map (BitVec.ofNat 8))).toNat).take 16

/-- The same, of words. -/
def tagOfWords (ws : List Nat) : List Nat := tagOf (ws.flatMap (toLe 4))

/-- The block in service in a pair whose key is the empty one. -/
def keyed (l : List (Fld × Nat)) : State :=
  let s := served l
  { s with ret := { s.ret with key := some [] } }

theorem keyed_takes_tagged (l : List (Fld × Nat)) (ws : List Nat) : (keyed l).packetGood ws (tagOfWords ws) = true := by
  simp [State.packetGood, State.tagGood, keyed, tagOfWords, tagOf]

/-- A witness message naming side 1, without its tag: sequence 1, of PAIRID 0. -/
def vote : List Nat := [0x53, 0x48, 0x45, 0x50, 0, 0, 0, 0, 0, 0, 0, 0, 0, 0, 0, 1, 1, 0, 0, 0, 0, 0, 0, 9, 0, 0, 0, 0, 0, 0, 0, 0]

theorem tagOf_length (bs : List Nat) : (tagOf bs).length = 16 := by simp [tagOf, toBe]

theorem vote_accepted : (keyed [(PAIR.CFG.EN, 1), (PAIR.CFG.SHEP_MODE, 2)]).witnessBad (vote ++ tagOf vote) = none := by
  have h : (vote ++ tagOf vote).length = 48 := by simp [tagOf_length, vote]
  have t : ((vote ++ tagOf vote).take 32) = vote := rfl
  have d : ((vote ++ tagOf vote).drop 32) = tagOf vote := rfl
  have g : (keyed [(PAIR.CFG.EN, 1), (PAIR.CFG.SHEP_MODE, 2)]).tagGood vote (tagOf vote) = true := by
    simp [State.tagGood, keyed, tagOf]
  have q : (keyed [(PAIR.CFG.EN, 1), (PAIR.CFG.SHEP_MODE, 2)]).rd PAIR.PAIRID.val = 0 := by decide
  have r : (keyed [(PAIR.CFG.EN, 1), (PAIR.CFG.SHEP_MODE, 2)]).ret.seq = 0 := by decide
  unfold State.witnessBad
  rw [h, t, d, g, q, r]
  rfl

/-! ## The hypotheses of every statement can be met -/

theorem witness_reports_count_coalesce_and_wait :
    (let code : Nat := 0x17FF; let source : Nat := 2 ^ 16 - 1; let s : State := serving;
      code < 0x1800 ∧ source < 2 ^ 16) ∧
    (let code : Nat := 0; let source : Nat := 0; let s : State := serving;
      code < 0x1800 ∧ source < 2 ^ 16) := by
  refine ⟨?_, ?_⟩
  all_goals decide

theorem witness_scalar_results_are_exact :
    (let e : Nat := 15; let gd : Nat := 31; let imm16 : Nat := 0xFFFF; let s : State := issuing 15 (.li gd false imm16) Engine.reset;
      s.issues e (.li gd false imm16) = true) ∧
    (let e : Nat := 15; let gd : Nat := 31; let imm16 : Nat := 0xFFFF; let s : State := issuing 15 (.li gd true imm16) Engine.reset;
      s.issues e (.li gd true imm16) = true) ∧
    (let e : Nat := 15; let gd : Nat := 31; let gs : Nat := 31; let b : SOperand := .imm 0x7FFF;
     let s : State := issuing 15 (.add gd gs b) Engine.reset;
      s.issues e (.add gd gs b) = true) ∧
    (let e : Nat := 15; let gd : Nat := 31; let gs : Nat := 31; let b : SOperand := .imm 0x7FFF;
     let s : State := issuing 15 (.sub gd gs b) Engine.reset;
      s.issues e (.sub gd gs b) = true) ∧
    (let e : Nat := 15; let gd : Nat := 31; let gs : Nat := 31; let b : SOperand := .imm 0x7FFF;
     let s : State := issuing 15 (.and gd gs b) Engine.reset;
      s.issues e (.and gd gs b) = true) ∧
    (let e : Nat := 15; let gd : Nat := 31; let gs : Nat := 31; let b : SOperand := .imm 0x7FFF;
     let s : State := issuing 15 (.or gd gs b) Engine.reset;
      s.issues e (.or gd gs b) = true) ∧
    (let e : Nat := 15; let gd : Nat := 31; let gs : Nat := 31; let b : SOperand := .imm 0x7FFF;
     let s : State := issuing 15 (.xor gd gs b) Engine.reset;
      s.issues e (.xor gd gs b) = true) ∧
    (let e : Nat := 15; let gd : Nat := 31; let gs : Nat := 31; let b : SOperand := .imm 31; let s : State := issuing 15 (.shl gd gs b) Engine.reset;
      s.issues e (.shl gd gs b) = true) ∧
    (let e : Nat := 15; let gd : Nat := 31; let gs : Nat := 31; let b : SOperand := .imm 31; let s : State := issuing 15 (.shr gd gs b) Engine.reset;
      s.issues e (.shr gd gs b) = true) ∧
    (let e : Nat := 15; let gd : Nat := 31; let gs : Nat := 31; let b : SOperand := .imm 31; let s : State := issuing 15 (.sar gd gs b) Engine.reset;
      s.issues e (.sar gd gs b) = true) ∧
    (let e : Nat := 15; let gd : Nat := 31; let gs : Nat := 31; let b : SOperand := .imm 0x7FFF;
     let s : State := issuing 15 (.mul gd gs b) Engine.reset;
      s.issues e (.mul gd gs b) = true) ∧
    (let e : Nat := 15; let gd : Nat := 0; let gs : Nat := 0; let b : SOperand := .reg 31; let s : State := issuing 15 (.add gd gs b) Engine.reset;
      s.issues e (.add gd gs b) = true) := by
  refine ⟨?_, ?_, ?_, ?_, ?_, ?_, ?_, ?_, ?_, ?_, ?_, ?_⟩
  all_goals decide

theorem witness_compare_sets_flags_and_branch_reads_them :
    (let e : Nat := 15; let gs : Nat := 31; let b : SOperand := .imm 0x7FFF; let s : State := issuing 15 (.cmp gs b) Engine.reset;
      s.issues e (.cmp gs b) = true) ∧
    (let e : Nat := 15; let cond : Nat := 8; let offset : Nat := 1; let s : State := issuing 15 (.br cond offset) Engine.reset;
      s.issues e (.br cond offset) = true) ∧
    (let e : Nat := 0; let cond : Nat := 0; let offset : Nat := 0xFFFF; let s : State := issuing 0 (.br cond offset) Engine.reset;
      s.issues e (.br cond offset) = true) := by
  refine ⟨?_, ?_, ?_⟩
  all_goals decide

theorem witness_dmem_word_loads_and_stores :
    (let e : Nat := 15; let r : Nat := 31; let gb : Nat := 31; let simm16 : Int := -32768; let s : State := issuing 15 (.lw r gb simm16) Engine.reset;
      s.issues e (.lw r gb simm16) = true) ∧
    (let e : Nat := 15; let r : Nat := 31; let gb : Nat := 31; let simm16 : Int := -32768; let s : State := issuing 15 (.sw r gb simm16) Engine.reset;
     let x := s.engine e;
      s.issues e (.sw r gb simm16) = true ∧ x.ahead = false) ∧
    (let e : Nat := 15; let r : Nat := 31; let gb : Nat := 31; let simm16 : Int := -32768;
     let s : State := issuing 15 (.sw r gb simm16) (aheadWith 127); let x := s.engine e;
      s.issues e (.sw r gb simm16) = true ∧ x.ahead = true ∧ x.rsb.length < s.rsbSize e) ∧
    (let e : Nat := 15; let r : Nat := 31; let gb : Nat := 31; let simm16 : Int := -32768;
     let s : State := issuing 15 (.sw r gb simm16) (aheadWith 128); let x := s.engine e;
      s.issues e (.sw r gb simm16) = true ∧ x.ahead = true ∧ s.rsbSize e ≤ x.rsb.length) := by
  refine ⟨?_, ?_, ?_, ?_⟩
  all_goals decide

theorem witness_loops_calls_and_the_end_of_the_tick :
    (let e : Nat := 15; let d : Nat := 1023; let count : Nat := 0; let s : State := issuing 15 (.loop d count) Engine.reset;
      s.issues e (.loop d count) = true ∧ count = 0) ∧
    (let e : Nat := 15; let d : Nat := 1023; let count : Nat := 1;
     let s : State := issuing 15 (.loop d count) { Engine.reset with loops := List.replicate 3 ⟨1, 2⟩ }; let x := s.engine e;
      s.issues e (.loop d count) = true ∧ count ≠ 0 ∧ x.loops.length < 4) ∧
    (let e : Nat := 15; let d : Nat := 1023; let count : Nat := 65535;
     let s : State := issuing 15 (.loop d count) { Engine.reset with loops := List.replicate 4 ⟨1, 2⟩ }; let x := s.engine e;
      s.issues e (.loop d count) = true ∧ count ≠ 0 ∧ 4 ≤ x.loops.length) ∧
    (let e : Nat := 15; let gs : Nat := 31; let d : Nat := 1023; let max : Nat := 2047; let s : State := issuing 15 (.loopr gs d max) Engine.reset;
     let x := s.engine e; let n := min (x.gr gs) max;
      s.issues e (.loopr gs d max) = true ∧ n = 0) ∧
    (let e : Nat := 15; let gs : Nat := 31; let d : Nat := 1023; let max : Nat := 5;
     let s : State := issuing 15 (.loopr gs d max) { Engine.reset with g := [(31, 5#32)], loops := List.replicate 3 ⟨1, 2⟩ }; let x := s.engine e;
     let n := min (x.gr gs) max; let clamp := decide (max < x.gr gs) && !x.clampSeen;
      s.issues e (.loopr gs d max) = true ∧ n ≠ 0 ∧ x.loops.length < 4 ∧ clamp = false) ∧
    (let e : Nat := 15; let gs : Nat := 31; let d : Nat := 1023; let max : Nat := 4;
     let s : State := issuing 15 (.loopr gs d max) { Engine.reset with g := [(31, 5#32)] }; let x := s.engine e; let n := min (x.gr gs) max;
     let clamp := decide (max < x.gr gs) && !x.clampSeen;
      s.issues e (.loopr gs d max) = true ∧ n ≠ 0 ∧ x.loops.length < 4 ∧ clamp = true) ∧
    (let e : Nat := 15; let gs : Nat := 31; let d : Nat := 1023; let max : Nat := 2047;
     let s : State := issuing 15 (.loopr gs d max) { Engine.reset with g := [(31, 5#32)], loops := List.replicate 4 ⟨1, 2⟩ }; let x := s.engine e;
     let n := min (x.gr gs) max;
      s.issues e (.loopr gs d max) = true ∧ n ≠ 0 ∧ 4 ≤ x.loops.length) ∧
    (let e : Nat := 15; let l : LoopLevel := ⟨1, 1⟩; let ls : List LoopLevel := [];
     let s : State := issuing 15 .endl { Engine.reset with loops := [⟨1, 1⟩] }; let x := s.engine e;
      s.issues e .endl = true ∧ x.loops = l :: ls ∧ l.count ≤ 1) ∧
    (let e : Nat := 15; let l : LoopLevel := ⟨1, 2⟩; let ls : List LoopLevel := [];
     let s : State := issuing 15 .endl { Engine.reset with loops := [⟨1, 2⟩] }; let x := s.engine e;
      s.issues e .endl = true ∧ x.loops = l :: ls ∧ 1 < l.count) ∧
    (let e : Nat := 15; let s : State := issuing 15 .endl Engine.reset; let x := s.engine e;
      s.issues e .endl = true ∧ x.loops = []) ∧
    (let e : Nat := 15; let target : Nat := 16383; let s : State := issuing 15 (.call target) { Engine.reset with calls := List.replicate 7 7 };
     let x := s.engine e;
      s.issues e (.call target) = true ∧ x.calls.length < 8) ∧
    (let e : Nat := 15; let target : Nat := 16383; let s : State := issuing 15 (.call target) { Engine.reset with calls := List.replicate 8 7 };
     let x := s.engine e;
      s.issues e (.call target) = true ∧ 8 ≤ x.calls.length) ∧
    (let e : Nat := 15; let p : Nat := 7; let ps : List Nat := []; let s : State := issuing 15 .ret { Engine.reset with calls := List.replicate 1 7 };
     let x := s.engine e;
      s.issues e .ret = true ∧ x.calls = p :: ps) ∧
    (let e : Nat := 15; let s : State := issuing 15 .ret Engine.reset; let x := s.engine e;
      s.issues e .ret = true ∧ x.calls = []) ∧
    (let e : Nat := 15; let s : State := issuing 15 .endt Engine.reset;
      s.issues e .endt = true) ∧
    (let e : Nat := 15; let s : State := issuing 15 .endt (aheadWith 128);
      s.issues e .endt = true) := by
  refine ⟨?_, ?_, ?_, ?_, ?_, ?_, ?_, ?_, ?_, ?_, ?_, ?_, ?_, ?_, ?_, ?_⟩
  all_goals decide

theorem witness_handles_status_muzzle_and_marks :
    (let e : Nat := 15; let h : Nat := 15; let gs : Nat := 31; let imm13 : Nat := 5; let out : Bool := true;
     let s : State := (issuing 15 (.hset 15 true 31 5) Engine.reset).setNum (DESC.word 15 5) 0x100 |>.setNum (DESC.word 15 40) 5; let x := s.engine e;
     let b := (x.gr gs + imm13) % 8192; let declared := if out then (s.outputs e).contains b else (s.inputs e).contains b;
      s.issues e (.hset h out gs imm13) = true ∧ declared = true) ∧
    (let e : Nat := 15; let h : Nat := 15; let gs : Nat := 31; let imm13 : Nat := 8191; let out : Bool := true;
     let s : State := issuing 15 (.hset h out gs imm13) Engine.reset; let x := s.engine e; let b := (x.gr gs + imm13) % 8192;
     let declared := if out then (s.outputs e).contains b else (s.inputs e).contains b;
      s.issues e (.hset h out gs imm13) = true ∧ declared = false) ∧
    (let e : Nat := 15; let h : Nat := 15; let gs : Nat := 31; let set : Bool := false; let simm16 : Int := 32767;
     let s : State := issuing 15 (.hadv h set gs simm16) Engine.reset;
      s.issues e (.hadv h set gs simm16) = true) ∧
    (let e : Nat := 15; let gd : Nat := 31; let sel : Nat := 2; let s : State := issuing 15 (.tkidx gd sel) Engine.reset;
      s.issues e (.tkidx gd sel) = true) ∧
    (let e : Nat := 15; let gd : Nat := 31; let hv : Nat := 15; let s : State := issuing 15 (.tstat gd hv 2) Engine.reset;
      s.issues e (.tstat gd hv 2) = true) ∧
    (let e : Nat := 15; let gd : Nat := 31; let hv : Nat := 15; let s : State := issuing 15 (.tstat gd hv 3) Engine.reset;
      s.issues e (.tstat gd hv 3) = true) ∧
    (let e : Nat := 15; let gd : Nat := 31; let hv : Nat := 15; let m := 5; let s : State := issuing 15 (.tstat gd hv m) Engine.reset;
     let x := s.engine e; let hd := x.handleOf hv;
      s.issues e (.tstat gd hv m) = true ∧ (m = 0 ∨ m = 1 ∨ m = 4 ∨ m = 5) ∧ hd.buf = none) ∧
    (let e : Nat := 15; let gd : Nat := 31; let hv : Nat := 15; let m := 0; let s : State := issuing 15 (.tstat gd hv m) Engine.reset;
     let x := s.engine e; let hd := x.handleOf hv;
      s.issues e (.tstat gd hv m) = true ∧ (m = 0 ∨ m = 1 ∨ m = 4 ∨ m = 5) ∧ hd.buf = none) ∧
    (let e : Nat := 15; let gd : Nat := 31; let hv : Nat := 15; let b : Nat := 8191;
     let s : State := issuing 15 (.tstat gd hv 0) { Engine.reset with handles := [(15, ⟨some 8191, true, 0, 0⟩)] }; let x := s.engine e;
     let hd := x.handleOf hv;
      s.issues e (.tstat gd hv 0) = true ∧ hd.buf = some b) ∧
    (let e : Nat := 15; let gd : Nat := 31; let hv : Nat := 15; let b : Nat := 8191;
     let s : State := issuing 15 (.tstat gd hv 1) { Engine.reset with handles := [(15, ⟨some 8191, true, 0, 0⟩)] }; let x := s.engine e;
     let hd := x.handleOf hv;
      s.issues e (.tstat gd hv 1) = true ∧ hd.buf = some b) ∧
    (let e : Nat := 15; let gd : Nat := 31; let hv : Nat := 15; let b : Nat := 8191;
     let s : State := issuing 15 (.tstat gd hv 4) { Engine.reset with handles := [(15, ⟨some 8191, true, 0, 0⟩)] }; let x := s.engine e;
     let hd := x.handleOf hv;
      s.issues e (.tstat gd hv 4) = true ∧ hd.buf = some b) ∧
    (let e : Nat := 15; let gd : Nat := 31; let hv : Nat := 15; let b : Nat := 8191;
     let s : State := issuing 15 (.tstat gd hv 5) { Engine.reset with handles := [(15, ⟨some 8191, true, 0, 0⟩)] }; let x := s.engine e;
     let hd := x.handleOf hv;
      s.issues e (.tstat gd hv 5) = true ∧ hd.buf = some b) ∧
    (let e : Nat := 15; let gd : Nat := 31; let hv : Nat := 15; let s : State := issuing 15 (.tstat gd hv 6) Engine.reset;
      s.issues e (.tstat gd hv 6) = true) ∧
    (let e : Nat := 15; let hv : Nat := 15; let gm : Nat := 31; let s : State := issuing 15 (.muz hv gm) Engine.reset; let x := s.engine e;
      s.issues e (.muz hv gm) = true ∧ x.ahead = false) ∧
    (let e : Nat := 15; let hv : Nat := 15; let gm : Nat := 31;
     let s : State := issuing 15 (.muz hv gm) { Engine.reset with handles := [(15, ⟨some 8191, true, 0, 0⟩)] }; let x := s.engine e;
      s.issues e (.muz hv gm) = true ∧ x.ahead = false) ∧
    (let e : Nat := 15; let hv : Nat := 15; let gm : Nat := 31; let s : State := issuing 15 (.muz hv gm) (aheadWith 127); let x := s.engine e;
      s.issues e (.muz hv gm) = true ∧ x.ahead = true ∧ x.rsb.length < s.rsbSize e) ∧
    (let e : Nat := 15; let gs : Nat := 31; let imm16 : Nat := 0xFFFF; let s : State := issuing 15 (.mark gs imm16) Engine.reset; let x := s.engine e;
      s.issues e (.mark gs imm16) = true ∧ x.ahead = false) ∧
    (let e : Nat := 15; let gs : Nat := 31; let imm16 : Nat := 0xFFFF; let s : State := issuing 15 (.mark gs imm16) (aheadWith 127);
     let x := s.engine e;
      s.issues e (.mark gs imm16) = true ∧ x.ahead = true ∧ x.rsb.length < s.rsbSize e) := by
  refine ⟨?_, ?_, ?_, ?_, ?_, ?_, ?_, ?_, ?_, ?_, ?_, ?_, ?_, ?_, ?_, ?_, ?_, ?_⟩
  all_goals decide

theorem witness_vector_loads_fill_enabled_lanes :
    (let e : Nat := 15; let v : Nat := 15; let h : Nat := 15; let gm : Nat := 31; let wait : Nat := 159; let st : Stride := .imm (-256);
     let s : State := issuing 15 (.vld v (.sxm h st) gm) Engine.reset;
      s.issues e (.vld v (.sxm h st) gm) = true ∧ wait < 160 ∧ v < 16) ∧
    (let e : Nat := 15; let v : Nat := 15; let gm : Nat := 31; let gb : Nat := 31; let imm10 : Nat := 1023;
     let s : State := issuing 15 (.vld v (.dmem gb imm10) gm) Engine.reset;
      s.issues e (.vld v (.dmem gb imm10) gm) = true) ∧
    (let e : Nat := 15; let v : Nat := 15; let gm : Nat := 0; let gb : Nat := 0; let imm10 : Nat := 0;
     let s : State := issuing 15 (.vld v (.fbuf gb imm10) gm) (inFlight false 1); let x := s.engine e;
     let at_ (i : Nat) := (x.gr gb + imm10 * 4 + 4 * i) % s.fbufSize e / 4 * 4;
      s.issues e (.vld v (.fbuf gb imm10) gm) = true ∧ x.fetching ((x.lanes gm (s.lanesOf e)).map at_) = true) ∧
    (let e : Nat := 15; let v : Nat := 15; let gm : Nat := 31; let gb : Nat := 31; let imm10 : Nat := 1023;
     let s : State := issuing 15 (.vld v (.fbuf gb imm10) gm) Engine.reset; let x := s.engine e;
     let at_ (i : Nat) := (x.gr gb + imm10 * 4 + 4 * i) % s.fbufSize e / 4 * 4;
      s.issues e (.vld v (.fbuf gb imm10) gm) = true ∧ x.fetching ((x.lanes gm (s.lanesOf e)).map at_) = false) := by
  refine ⟨?_, ?_, ?_, ?_⟩
  all_goals decide

theorem witness_vector_stores_reach_their_addresses :
    (let e : Nat := 15; let v : Nat := 15; let h : Nat := 15; let gm : Nat := 31; let wait : Nat := 159; let st : Stride := .imm (-256);
     let s : State := issuing 15 (.vst v (.sxm h st) gm) Engine.reset; let x := s.engine e;
      s.issues e (.vst v (.sxm h st) gm) = true ∧ wait < 160 ∧ x.ahead = false) ∧
    (let e : Nat := 15; let v : Nat := 15; let gm : Nat := 31; let gb : Nat := 31; let imm10 : Nat := 1023;
     let s : State := issuing 15 (.vst v (.dmem gb imm10) gm) Engine.reset; let x := s.engine e;
      s.issues e (.vst v (.dmem gb imm10) gm) = true ∧ x.ahead = false) ∧
    (let e : Nat := 15; let v : Nat := 15; let gm : Nat := 0; let gb : Nat := 0; let imm10 : Nat := 0;
     let s : State := issuing 15 (.vst v (.fbuf gb imm10) gm) (inFlight true 1); let x := s.engine e; let n := s.lanesOf e;
     let fb := (x.lanes gm n).map (fun i => (s.fbufAddr e (x.gr gb) (laneOffset imm10 i), (x.lane v i).val));
      s.issues e (.vst v (.fbuf gb imm10) gm) = true ∧ x.ahead = false ∧ x.putting (fb.map (·.1)) = true) ∧
    (let e : Nat := 15; let v : Nat := 15; let gm : Nat := 31; let gb : Nat := 31; let imm10 : Nat := 1023;
     let s : State := issuing 15 (.vst v (.fbuf gb imm10) gm) Engine.reset; let x := s.engine e; let n := s.lanesOf e;
     let fb := (x.lanes gm n).map (fun i => (s.fbufAddr e (x.gr gb) (laneOffset imm10 i), (x.lane v i).val));
      s.issues e (.vst v (.fbuf gb imm10) gm) = true ∧ x.ahead = false ∧ x.putting (fb.map (·.1)) = false) ∧
    (let e : Nat := 15; let v : Nat := 15; let h : Nat := 15; let gm : Nat := 31; let wait : Nat := 159; let st : Stride := .imm (-256);
     let s : State := issuing 15 (.vst v (.sxm h st) gm) (aheadWith 127); let x := s.engine e;
      x.ahead = true ∧ x.rsb.length < s.rsbSize e ∧ s.issues e (.vst v (.sxm h st) gm) = true ∧ wait < 160) ∧
    (let e : Nat := 15; let v : Nat := 15; let gm : Nat := 31; let gb : Nat := 31; let imm10 : Nat := 1023;
     let s : State := issuing 15 (.vst v (.dmem gb imm10) gm) (aheadWith 127); let x := s.engine e;
      x.ahead = true ∧ x.rsb.length < s.rsbSize e ∧ s.issues e (.vst v (.dmem gb imm10) gm) = true) ∧
    (let e : Nat := 15; let v : Nat := 15; let gm : Nat := 31; let gb : Nat := 31; let imm10 : Nat := 1023;
     let s : State := issuing 15 (.vst v (.fbuf gb imm10) gm) (aheadWith 127); let x := s.engine e; let n := s.lanesOf e;
     let fb := (x.lanes gm n).map (fun i => (s.fbufAddr e (x.gr gb) (laneOffset imm10 i), (x.lane v i).val));
      x.ahead = true ∧ x.rsb.length < s.rsbSize e ∧ s.issues e (.vst v (.fbuf gb imm10) gm) = true ∧ x.putting (fb.map (·.1)) = false) ∧
    (let e : Nat := 15; let v : Nat := 15; let h : Nat := 15; let gm : Nat := 31; let wait : Nat := 159; let st : Stride := .imm (-256);
     let s : State := issuing 15 (.vst v (.sxm h st) gm) (aheadWith 128); let x := s.engine e;
      x.ahead = true ∧ s.rsbSize e ≤ x.rsb.length ∧ s.issues e (.vst v (.sxm h st) gm) = true ∧ wait < 160) ∧
    (let e : Nat := 15; let v : Nat := 15; let gm : Nat := 31; let gb : Nat := 31; let imm10 : Nat := 1023;
     let s : State := issuing 15 (.vst v (.dmem gb imm10) gm) (aheadWith 128); let x := s.engine e;
      x.ahead = true ∧ s.rsbSize e ≤ x.rsb.length ∧ s.issues e (.vst v (.dmem gb imm10) gm) = true) := by
  refine ⟨?_, ?_, ?_, ?_, ?_, ?_, ?_, ?_, ?_⟩
  all_goals decide

theorem witness_vector_results_are_exact_per_lane :
    (let e : Nat := 15; let vd : Nat := 14; let va : Nat := 15; let gm : Nat := 31; let b : VOperand := .vec 15; let neg : Bool := true;
     let s : State := issuing 15 (.vadd vd va b gm neg) laden;
      s.issues e (.vadd vd va b gm neg) = true) ∧
    (let e : Nat := 15; let vd : Nat := 14; let va : Nat := 15; let gm : Nat := 31; let b : VOperand := .vec 15;
     let s : State := issuing 15 (.vmul vd va b gm) laden;
      s.issues e (.vmul vd va b gm) = true) ∧
    (let e : Nat := 15; let va : Nat := 15; let ad : Nat := 3; let gm : Nat := 31; let b : VOperand := .vec 15; let z : Bool := true;
     let neg : Bool := true; let s : State := issuing 15 (.vmac ad va b gm z neg) laden;
      s.issues e (.vmac ad va b gm z neg) = true) ∧
    (let e : Nat := 15; let vd : Nat := 14; let ad : Nat := 3; let gm : Nat := 31; let sh : Nat := 7;
     let s : State := issuing 15 (.vsat vd ad gm sh) laden;
      s.issues e (.vsat vd ad gm sh) = true) ∧
    (let e : Nat := 15; let vd : Nat := 14; let va : Nat := 15; let vb : Nat := 15; let gm : Nat := 31;
     let s : State := issuing 15 (.vsel vd va vb gm) laden;
      s.issues e (.vsel vd va vb gm) = true) ∧
    (let e : Nat := 15; let vd : Nat := 14; let va : Nat := 15; let gm : Nat := 31; let s : State := issuing 15 (.vpeak vd va gm) laden;
      s.issues e (.vpeak vd va gm) = true) ∧
    (let e : Nat := 15; let vd : Nat := 14; let gs : Nat := 31; let gt : Nat := 31; let gm : Nat := 31;
     let s : State := issuing 15 (.vramp vd gs gt gm) laden;
      s.issues e (.vramp vd gs gt gm) = true) ∧
    (let e : Nat := 15; let vd : Nat := 14; let va : Nat := 15; let gm : Nat := 31; let w : Nat := 24; let b : VOperand := .vec 15;
     let s : State := issuing 15 (.vdith vd va b gm w true) laden;
      s.issues e (.vdith vd va b gm w true) = true) ∧
    (let e : Nat := 15; let vd : Nat := 14; let va : Nat := 15; let gm : Nat := 31; let w : Nat := 16; let b : VOperand := .vec 15;
     let s : State := issuing 15 (.vdith vd va b gm w false) laden;
      s.issues e (.vdith vd va b gm w false) = true) ∧
    (let e : Nat := 15; let vd : Nat := 15; let va : Nat := 15; let gm : Nat := 31; let b : VOperand := .scalar 31; let neg : Bool := false;
     let s : State := issuing 15 (.vadd vd va b gm neg) laden;
      s.issues e (.vadd vd va b gm neg) = true) ∧
    (let e : Nat := 15; let vd : Nat := 15; let va : Nat := 15; let gm : Nat := 31; let b : VOperand := .scalar 31;
     let s : State := issuing 15 (.vmul vd va b gm) laden;
      s.issues e (.vmul vd va b gm) = true) ∧
    (let e : Nat := 15; let va : Nat := 15; let ad : Nat := 3; let gm : Nat := 31; let b : VOperand := .scalar 31; let z : Bool := false;
     let neg : Bool := false; let s : State := issuing 15 (.vmac ad va b gm z neg) laden;
      s.issues e (.vmac ad va b gm z neg) = true) := by
  refine ⟨?_, ?_, ?_, ?_, ?_, ?_, ?_, ?_, ?_, ?_, ?_, ?_⟩
  all_goals decide

theorem witness_transfers_take_tickets_and_complete :
    (let e : Nat := 15; let gf : Nat := 31; let go : Nat := 31; let gx : Nat := 31; let region : Nat := 63; let len : Nat := 31;
     let s : State := (issuing 15 (.fetch 31 31 31 63 31) Engine.reset); let x := s.engine e; let r := (region + x.gr gx) % 64;
     let fetch : Genah := .fetch gf go gx region len;
      s.issues e fetch = true ∧ s.nReg e ≤ r) ∧
    (let e : Nat := 15; let gf : Nat := 31; let go : Nat := 31; let gx : Nat := 31; let region : Nat := 63; let len : Nat := 31;
     let s : State := (issuing 15 (.fetch 31 31 31 63 31) (inFlight false 7)).setNum (DESC.word 15 5) (64 * 2 ^ 16); let x := s.engine e;
     let r := (region + x.gr gx) % 64;
     let d := (List.range (len + 1)).map (fun i => s.regionBase e r + (x.gr go % s.regionSize e r / 4 * 4 + 4 * i) % s.regionSize e r);
     let f := (List.range (len + 1)).map (fun i => (x.gr gf + 4 * i) % s.fbufSize e / 4 * 4); let fetch : Genah := .fetch gf go gx region len;
      s.issues e fetch = true ∧ r < s.nReg e ∧ rsbPutOverlap d f x.rsb = false ∧ x.ticketsHeld < s.ticketCount e ∧ x.putting f = false) ∧
    (let e : Nat := 15; let gf : Nat := 31; let go : Nat := 31; let gx : Nat := 31; let region : Nat := 63; let len : Nat := 31;
     let s : State := (issuing 15 (.fetch 31 31 31 63 31) (inFlight false 8)).setNum (DESC.word 15 5) (64 * 2 ^ 16); let x := s.engine e;
     let r := (region + x.gr gx) % 64;
     let d := (List.range (len + 1)).map (fun i => s.regionBase e r + (x.gr go % s.regionSize e r / 4 * 4 + 4 * i) % s.regionSize e r);
     let f := (List.range (len + 1)).map (fun i => (x.gr gf + 4 * i) % s.fbufSize e / 4 * 4); let fetch : Genah := .fetch gf go gx region len;
      s.issues e fetch = true ∧ r < s.nReg e ∧ rsbPutOverlap d f x.rsb = false ∧ (s.ticketCount e ≤ x.ticketsHeld ∨ x.putting f = true)) ∧
    (let e : Nat := 15; let gf : Nat := 31; let go : Nat := 31; let gx : Nat := 31; let region : Nat := 63; let len : Nat := 31;
     let s : State := (issuing 15 (.fetch 31 31 31 63 31) (inFlight true 1)).setNum (DESC.word 15 5) (64 * 2 ^ 16); let x := s.engine e;
     let r := (region + x.gr gx) % 64;
     let d := (List.range (len + 1)).map (fun i => s.regionBase e r + (x.gr go % s.regionSize e r / 4 * 4 + 4 * i) % s.regionSize e r);
     let f := (List.range (len + 1)).map (fun i => (x.gr gf + 4 * i) % s.fbufSize e / 4 * 4); let fetch : Genah := .fetch gf go gx region len;
      s.issues e fetch = true ∧ r < s.nReg e ∧ rsbPutOverlap d f x.rsb = false ∧ (s.ticketCount e ≤ x.ticketsHeld ∨ x.putting f = true)) ∧
    (let e : Nat := 15; let gf : Nat := 31; let go : Nat := 31; let gx : Nat := 31; let region : Nat := 63; let len : Nat := 31;
     let s : State := (issuing 15 (.fetch 31 31 31 63 31) { Engine.reset with ahead := true, rsb := [.put [] [0]] }).setNum (DESC.word 15 5) (64 * 2 ^ 16);
     let x := s.engine e; let r := (region + x.gr gx) % 64;
     let d := (List.range (len + 1)).map (fun i => s.regionBase e r + (x.gr go % s.regionSize e r / 4 * 4 + 4 * i) % s.regionSize e r);
     let f := (List.range (len + 1)).map (fun i => (x.gr gf + 4 * i) % s.fbufSize e / 4 * 4); let fetch : Genah := .fetch gf go gx region len;
      s.issues e fetch = true ∧ r < s.nReg e ∧ rsbPutOverlap d f x.rsb = true) ∧
    (let e : Nat := 15; let gf : Nat := 31; let go : Nat := 31; let gx : Nat := 31; let region : Nat := 63; let len : Nat := 31;
     let s : State := (issuing 15 (.put 31 31 31 63 31) Engine.reset); let x := s.engine e; let r := (region + x.gr gx) % 64;
     let put : Genah := .put gf go gx region len;
      s.issues e put = true ∧ s.nReg e ≤ r) ∧
    (let e : Nat := 15; let gf : Nat := 31; let go : Nat := 31; let gx : Nat := 31; let region : Nat := 63; let len : Nat := 31;
     let s : State := (issuing 15 (.put 31 31 31 63 31) (inFlight true 7)).setNum (DESC.word 15 5) (64 * 2 ^ 16); let x := s.engine e;
     let r := (region + x.gr gx) % 64; let put : Genah := .put gf go gx region len;
      s.issues e put = true ∧ r < s.nReg e ∧ x.ahead = false ∧ x.ticketsHeld < s.ticketCount e) ∧
    (let e : Nat := 15; let gf : Nat := 31; let go : Nat := 31; let gx : Nat := 31; let region : Nat := 63; let len : Nat := 31;
     let s : State := (issuing 15 (.put 31 31 31 63 31) (inFlight true 8)).setNum (DESC.word 15 5) (64 * 2 ^ 16); let x := s.engine e;
     let r := (region + x.gr gx) % 64; let put : Genah := .put gf go gx region len;
      s.issues e put = true ∧ r < s.nReg e ∧ x.ahead = false ∧ s.ticketCount e ≤ x.ticketsHeld) ∧
    (let e : Nat := 15; let gf : Nat := 31; let go : Nat := 31; let gx : Nat := 31; let region : Nat := 63; let len : Nat := 31;
     let s : State := (issuing 15 (.put 31 31 31 63 31) (aheadWith 127)).setNum (DESC.word 15 5) (64 * 2 ^ 16); let x := s.engine e;
     let r := (region + x.gr gx) % 64; let put : Genah := .put gf go gx region len;
      s.issues e put = true ∧ r < s.nReg e ∧ x.ahead = true ∧ x.rsb.length < s.rsbSize e) ∧
    (let e : Nat := 15; let k : Nat := 15; let s : State := (issuing 15 (.waitf 15) (inFlight false 15)); let x := s.engine e;
      s.issues e (.waitf k) = true ∧ (∀ u ∈ x.tickets, x.issued ≤ u.seq + k) ∨ (s.braced e = false ∧ 8 ≤ k)) ∧
    (let e : Nat := 15; let k : Nat := 8; let s : State := (issuing 15 (.waitf 8) (inFlight false 9)); let x := s.engine e;
      s.issues e (.waitf k) = true ∧ (∀ u ∈ x.tickets, x.issued ≤ u.seq + k) ∨ (s.braced e = false ∧ 8 ≤ k)) ∧
    (let e : Nat := 15; let k : Nat := 7; let s : State := (issuing 15 (.waitf 7) { inFlight false 7 with issued := 7 }); let x := s.engine e;
      s.issues e (.waitf k) = true ∧ (∀ u ∈ x.tickets, x.issued ≤ u.seq + k) ∨ (s.braced e = false ∧ 8 ≤ k)) ∧
    (let e : Nat := 15; let k : Nat := 7; let s : State := (issuing 15 (.waitf 7) (inFlight false 8)); let x := s.engine e;
      s.issues e (.waitf k) = true ∧ (∃ u ∈ x.tickets, u.seq + k < x.issued) ∧ (s.braced e = true ∨ k < 8)) ∧
    (let e : Nat := 14; let k : Nat := 15;
     let s : State := ((issuing 15 (.waitf 15) (inFlight false 16)).setEngine 14 { inFlight false 16 with st := .run }).setWord (IMEM.word 14 0) (BitVec.ofNat 32 (Machine.Genah.encode (.waitf 15))) |>.wr GE.BRACE.val 0x80;
     let x := s.engine e;
      s.issues e (.waitf k) = true ∧ (∃ u ∈ x.tickets, u.seq + k < x.issued) ∧ (s.braced e = true ∨ k < 8)) ∧
    (let e : Nat := 15; let i : Nat := 0; let u : Ticket := ⟨true, 0, [0], [0], [], true⟩; let s : State := serving.setEngine 15 (inFlight true 1);
     let x := s.engine e;
      e < 16 ∧ x.tickets[i]? = some u ∧ mayComplete x.tickets i = true) ∧
    (let e : Nat := 15; let i : Nat := 1; let u : Ticket := ⟨false, 1, [4], [4], [], true⟩;
     let s : State := serving.setEngine 15 { Engine.reset with tickets := [⟨true, 0, [0], [0], [7], true⟩, ⟨false, 1, [4], [4], [], true⟩] };
     let x := s.engine e;
      e < 16 ∧ x.tickets[i]? = some u ∧ mayComplete x.tickets i = true) := by
  refine ⟨?_, ?_, ?_, ?_, ?_, ?_, ?_, ?_, ?_, ?_, ?_, ?_, ?_, ?_, ?_, ?_⟩
  all_goals decide

theorem witness_ticks_and_guards_alternate :
    (let s : State := guarded [(GLB.TICKIDX.val, 2 ^ 32 - 1)];
      s.clk.phase = .guard) ∧
    (let s : State := serving;
      s.clk.phase = .work) := by
  refine ⟨?_, ?_⟩
  all_goals decide

theorem witness_engine_events_of_the_tick :
    (let s : State := serving;
      s.clk.phase = .work ∧ s.gathered = false) ∧
    (let e : Nat := 15; let s : State := (served [(GE.CTL.RA_EN 15, 1)]).setEngine 15 { Engine.reset with okTick := some 0 }; let x := s.engine e;
     let f := (s.tick + 1) % 2 ^ 32;
      s.clk.phase = .work ∧ e < 16 ∧ s.present e = true ∧ s.follower e = false ∧ x.st = .idle ∧ x.done = true ∧ x.ahead = false ∧
        x.okTick = some s.tick ∧ s.flag (GE.CTL.RA_EN e) = true ∧ x.noAhead = false ∧ s.engineDown e = false ∧
        (∀ b ∈ s.inputs e, s.inputReady e b s.tick f = true) ∧ (s.due f && s.commitAffects e) = false) ∧
    (let e : Nat := 15; let imem : Bool := true; let s : State := issuing 15 .endt Engine.reset;
      s.executes e = true ∧ (imem = true ∨ Genah.decode (s.fetchWord e) = none)) ∧
    (let e : Nat := 15; let imem : Bool := false; let s : State := (issuing 15 .endt Engine.reset).setNum (IMEM.word 15 0) 0;
      s.executes e = true ∧ (imem = true ∨ Genah.decode (s.fetchWord e) = none)) := by
  refine ⟨?_, ?_, ?_, ?_⟩
  all_goals decide

theorem witness_commits_are_captured_validated_or_cancelled :
    (let i : Iface := .pcie; let v : Nat := 1; let s : State := serving; let w := mergeBits (s.word GLB.COMMIT) (BitVec.ofNat 32 (v ||| 1)) 0xF0;
      v < 2 ^ 32 ∧ s.hostReaches i GLB.COMMIT = true ∧ v.testBit 1 = false ∧ s.commitBusy = false ∧ s.journalFull = false ∧ s.standby = false ∧
        (GLB.COMMIT.MODE.ext w = 0 ∨ (GLB.COMMIT.MODE.ext w ≠ 3 ∧ GLB.COMMIT.LATE.ext w = 1))) ∧
    (let i : Iface := .pcie; let v : Nat := 0xF1 - 0x30; let s : State := serving;
     let w := mergeBits (s.word GLB.COMMIT) (BitVec.ofNat 32 (v ||| 1)) 0xF0;
      v < 2 ^ 32 ∧ s.hostReaches i GLB.COMMIT = true ∧ v.testBit 1 = false ∧ s.commitBusy = false ∧ s.journalFull = false ∧ s.standby = false ∧
        (GLB.COMMIT.MODE.ext w = 0 ∨ (GLB.COMMIT.MODE.ext w ≠ 3 ∧ GLB.COMMIT.LATE.ext w = 1))) ∧
    (let i : Iface := .pcie; let v : Nat := 2 ^ 32 - 3 - 0x20; let s : State := serving;
     let w := mergeBits (s.word GLB.COMMIT) (BitVec.ofNat 32 (v ||| 1)) 0xF0;
      v < 2 ^ 32 ∧ s.hostReaches i GLB.COMMIT = true ∧ v.testBit 1 = false ∧ s.commitBusy = false ∧ s.journalFull = false ∧ s.standby = false ∧
        (GLB.COMMIT.MODE.ext w = 0 ∨ (GLB.COMMIT.MODE.ext w ≠ 3 ∧ GLB.COMMIT.LATE.ext w = 1))) ∧
    (let i : Iface := .pcie; let v : Nat := 2 ^ 32 - 1; let s : State := served [(GLB.COMMITSTAT.STATE, 2)];
      v < 2 ^ 32 ∧ s.hostReaches i GLB.COMMIT = true ∧ s.standby = false ∧ s.commitBusy = true) ∧
    (let i : Iface := .pcie; let v : Nat := 0; let s : State := served [(GLB.COMMITSTAT.STATE, 1)];
      v < 2 ^ 32 ∧ s.hostReaches i GLB.COMMIT = true ∧ s.standby = false ∧ s.commitBusy = true) ∧
    (let c : CommitReq := { mode := 0, target := 0, late := true, snap := false, past := false, proven := [], least := none, fixed := none };
     let rs : List (Nat × Nat × Nat × Bool) := []; let s : State := { served [(GLB.COMMITSTAT.STATE, 1)] with commit := some c };
      s.commit = some c ∧ s.commitState = 1 ∧ s.recovering = false ∧ s.illegal = none ∧ s.prove = .inr rs ∧
        (c.past || (c.fixed.isNone && s.targetPast c)) = false) ∧
    (let c : CommitReq := { mode := 0, target := 0, late := true, snap := false, past := false, proven := [], least := none, fixed := none };
     let reason := 17; let k := GLB.MEDIA;
     let s : State := { served [(GLB.COMMITSTAT.STATE, 1)] with commit := some c, pend := [(GLB.MEDIA, 0xFFFFFFFF#32)] };
      s.commit = some c ∧ s.commitState = 1 ∧ s.recovering = false ∧ s.illegal = some (reason, k) ∧ c.fixed = none) := by
  refine ⟨?_, ?_, ?_, ?_, ?_, ?_, ?_⟩
  all_goals decide

theorem witness_snapshots_and_checkpoints_complete :
    (let i : Iface := .pcie; let s : State := serving;
      s.hostReaches i GLB.SNAPREQ = true ∧ s.standby = false) ∧
    (let b := Bank.reset; let s : State := { serving with snap := { serving.snap with filling := some Bank.reset } };
      s.snap.filling = some b) ∧
    (let i : Iface := .pcie; let v : Nat := 2 ^ 32 - 1; let s : State := serving;
      v < 2 ^ 32 ∧ s.hostReaches i GLB.JCTL = true ∧ s.standby = false) ∧
    (let img : Checkpoint := ⟨[], [], [], [], none, 0, true⟩;
     let s : State := { serving with ckpt := { serving.ckpt with writing := some ⟨[], [], [], [], none, 0, true⟩ } };
      s.ckpt.writing = some img) := by
  refine ⟨?_, ?_, ?_, ?_⟩
  all_goals decide

theorem witness_recovery_and_unit_restarts :
    (let s : State := served [(GLB.CKPTSTAT.VALID, 1)];
      s.ticking = true ∧ s.faults.replay = none ∧ (∀ t, s.faults.lastRecovery = some t → t + 10 ^ 10 ≤ s.clk.now) ∧
        s.flag GLB.CKPTSTAT.VALID = true) ∧
    (let s : State := let s := served [(GLB.CKPTSTAT.VALID, 1)]; { s with faults := { s.faults with lastRecovery := some (10 ^ 13 - 10 ^ 10) } };
      s.ticking = true ∧ s.faults.replay = none ∧ (∀ t, s.faults.lastRecovery = some t → t + 10 ^ 10 ≤ s.clk.now) ∧
        s.flag GLB.CKPTSTAT.VALID = true) ∧
    (let s : State := { serving with faults := { serving.faults with replay := some true } };
      s.recovering = true ∧ s.clk.phase = .work ∧ s.clk.cycle = 0) ∧
    (let b : Nat := 23; let e : Nat := 16; let cause : Nat := 1; let s : State := serving;
      s.ticking = true ∧ s.faults.replay = none ∧ 1 ≤ cause ∧ cause ≤ 5 ∧ b ≤ 23 ∧ (e = 16 ∨ (b = 0x0E ∧ e < 16 ∧ s.present e = true)) ∧
        s.unitDown b e = false ∧ (s.faults.history.filter (fun h => decide (s.clk.now < h.2 + 10 ^ 9) && h.1 == restartUnit b (if e < 16 ∧
        s.braced e then e / 2 * 2 else e))).length < 2) ∧
    (let b : Nat := 0x0E; let e : Nat := 15; let cause : Nat := 5; let s : State := serving;
      s.ticking = true ∧ s.faults.replay = none ∧ 1 ≤ cause ∧ cause ≤ 5 ∧ b ≤ 23 ∧ (e = 16 ∨ (b = 0x0E ∧ e < 16 ∧ s.present e = true)) ∧
        s.unitDown b e = false ∧ (s.faults.history.filter (fun h => decide (s.clk.now < h.2 + 10 ^ 9) && h.1 == restartUnit b (if e < 16 ∧
        s.braced e then e / 2 * 2 else e))).length < 2) ∧
    (let b : Nat := 14; let e : Nat := 15; let s : State := { serving with faults := { serving.faults with restarts := [⟨14, 15, 5, true⟩] } };
      s.clk.phase = .work ∧ s.clk.cycle = 0 ∧ (∃ r ∈ s.faults.restarts, r.block = b ∧ r.engine = e ∧ r.replayed = true) ∧ b < 24) ∧
    (let b : Nat := 0; let e : Nat := 16; let s : State := { serving with faults := { serving.faults with restarts := [⟨0, 16, 1, true⟩] } };
      s.clk.phase = .work ∧ s.clk.cycle = 0 ∧ (∃ r ∈ s.faults.restarts, r.block = b ∧ r.engine = e ∧ r.replayed = true) ∧ b < 24) := by
  refine ⟨?_, ?_, ?_, ?_, ?_, ?_, ?_⟩
  all_goals decide

theorem witness_counters_clear_and_profiles_load :
    (let i : Iface := .pcie; let v : Nat := 2 ^ 32 - 1; let s : State := serving;
      v < 2 ^ 32 ∧ s.hostReaches i GE.CNTCLR = true ∧ s.standby = false) ∧
    (let i : Iface := .pcie; let e : Nat := 15; let v : Nat := 0; let s : State := serving;
     let ws := stockWords e (v % 2 ^ 8) (v / 2 ^ 8 % 2 ^ 9) ++ [s.shadowFields (GE.PROFILE e) [(GE.PROFILE.SIZE e, v / 2 ^ 8 % 2 ^ 9), (GE.PROFILE.PROGRAM e, v % 2 ^ 8)]];
      v < 2 ^ 32 ∧ e < 16 ∧ s.hostReaches i (GE.PROFILE e) = true ∧ s.standby = false ∧ inLibrary (v % 2 ^ 8) (v / 2 ^ 8 % 2 ^ 9) = true ∧
        s.hasRoom ws = true) ∧
    (let i : Iface := .pcie; let v : Nat := 2 ^ 32 - 1; let s : State := serving;
      v < 2 ^ 32 ∧ s.hostReaches i FLOW.RXCLR = true) ∧
    (let i : Iface := .pcie; let v : Nat := 2 ^ 32 - 1; let s : State := serving;
      v < 2 ^ 32 ∧ s.hostReaches i FLOW.TXCLR = true) ∧
    (let i : Iface := .pcie; let v : Nat := 0x3FFFF; let s : State := serving; let ix := v % 2 ^ 12; let ws := s.txProfileWords (v / 2 ^ 16 % 4) ix;
      v < 2 ^ 32 ∧ s.hostReaches i FLOW.TXPROFILE = true ∧ s.hasRoom ws = true) := by
  refine ⟨?_, ?_, ?_, ?_, ?_⟩
  all_goals decide

theorem witness_received_frames_are_counted_and_delivered :
    (let x : Nat := 2; let bytes : List Nat := rtpFrame; let s : State := served [(NET.STAT.LINK 2, 1), (NET.CFG.MAXFRAME 2, 60)];
      x < 3 ∧ s.flag (NET.STAT.LINK x) = true ∧ s.rd (NET.CFG.MAXFRAME x) < bytes.length + 4) ∧
    (let x : Nat := 2; let bytes : List Nat := rtpFrame;
     let s : State := served [(NET.STAT.LINK 2, 1), (NET.CFG.MAXFRAME 2, 61), (SW.PVID.val 2, 4095)]; let e := etherOf bytes; let vid := s.vidOf x e;
      x < 3 ∧ s.flag (NET.STAT.LINK x) = true ∧ bytes.length + 4 ≤ s.rd (NET.CFG.MAXFRAME x) ∧ bit (s.members vid) x = false) ∧
    (let x : Nat := 1; let i : Nat := 4095; let bytes : List Nat := rtpFrame;
     let s : State := served ([(NET.STAT.LINK 1, 1), (NET.CFG.MAXFRAME 1, 61), (SW.PVID.val 1, 5), (SW.VLAN.EN 63, 1), (SW.VLAN.VID 63, 5), (SW.VLAN.MEMBER 63, 2)] ++ receives 4095);
     let e := etherOf bytes; let vid := s.vidOf x e;
      x < 3 ∧ s.flag (NET.STAT.LINK x) = true ∧ bytes.length + 4 ≤ s.rd (NET.CFG.MAXFRAME x) ∧ bit (s.members vid) x = true ∧ x < 2 ∧
        (mediaKey e).bind (Cfg.classify s.live) = some i ∧ Cfg.onPath s.live i x = true ∧ (s.kennel x).ignoring = false ∧ (s.kennel x).cur = [] ∧
        s.readingInto x = false ∧ s.kennelRoom x (packetOf x 0 (s.ingressNs x) bytes).length = true) := by
  refine ⟨?_, ?_, ?_⟩
  all_goals decide

theorem witness_copies_are_judged_confirmed_or_rewound :
    (let p : Nat := 1; let i : Nat := 4095; let k : KPacket := rtpPacket 1; let rest : List KPacket := [];
     let s : State := holding (served (receives 4095 ++ [(FT.PTIME 4095, 2)])) 1 { Kennel.reset with pkts := [rtpPacket 1] };
     let e := etherOf (frameOf k.words);
      p < 2 ∧ s.ticking = true ∧ s.recovering = false ∧ s.unitDown 0x0D 0 = false ∧ Store.find s.copies p = none ∧ (s.kennel p).pkts = k :: rest ∧
        (mediaKey e).bind (Cfg.classify s.live) = some i ∧ Cfg.onPath s.live i p = true ∧
        ((List.range 16).find? (fun g => (Cfg.herdMembers s.live g).contains (0, i))) = none ∧ Cfg.badFormat s.live i e ≠ 0) ∧
    (let p : Nat := 1; let i : Nat := 4095; let r : Nat := 0; let k : KPacket := rtpPacket 1; let rest : List KPacket := [];
     let s : State := (holding (served (receives 4095)) 1 { Kennel.reset with pkts := [rtpPacket 1] }).setValid 8191 0 0;
     let e := etherOf (frameOf k.words); let h := s.headerOf i p e; let b := s.rd (FT.BUFID i); let deep := s.flag (FT.DEEP i);
     let m := multOf (s.rd (FT.MULT i)); let xs := s.spots (s.placeOf i r) (m * s.rd (FT.PTIME i)) (m * s.tickLen);
     let x0 := xs.headD { j := 0, k := 0, p := 0, s := 0 };
      p < 2 ∧ s.ticking = true ∧ s.recovering = false ∧ s.unitDown 0x0D 0 = false ∧ Store.find s.copies p = none ∧ (s.kennel p).pkts = k :: rest ∧
        (mediaKey e).bind (Cfg.classify s.live) = some i ∧ Cfg.onPath s.live i p = true ∧
        ((List.range 16).find? (fun g => (Cfg.herdMembers s.live g).contains (0, i))) = none ∧ Cfg.badFormat s.live i e = 0 ∧ h.time = some r ∧
        s.rxValid b deep x0.p x0.s x0.k = true ∧ s.flag (FT.COMPARE i) = false) ∧
    (let p : Nat := 1; let i : Nat := 4095; let r : Nat := 0; let k : KPacket := rtpPacket 1; let rest : List KPacket := [];
     let s : State := holding (served (receives 4095)) 1 { Kennel.reset with pkts := [rtpPacket 1] }; let e := etherOf (frameOf k.words);
     let h := s.headerOf i p e; let b := s.rd (FT.BUFID i); let deep := s.flag (FT.DEEP i); let m := multOf (s.rd (FT.MULT i));
     let xs := s.spots (s.placeOf i r) (m * s.rd (FT.PTIME i)) (m * s.tickLen); let x0 := xs.headD { j := 0, k := 0, p := 0, s := 0 };
      p < 2 ∧ s.ticking = true ∧ s.recovering = false ∧ s.unitDown 0x0D 0 = false ∧ Store.find s.copies p = none ∧ (s.kennel p).pkts = k :: rest ∧
        (mediaKey e).bind (Cfg.classify s.live) = some i ∧ Cfg.onPath s.live i p = true ∧
        ((List.range 16).find? (fun g => (Cfg.herdMembers s.live g).contains (0, i))) = none ∧ Cfg.badFormat s.live i e = 0 ∧ h.time = some r ∧
        s.rxValid b deep x0.p x0.s x0.k = false ∧ s.otherCopy i p = none ∧ (∀ x ∈ xs, x.k ≤ Int.ofNat (s.leash i))) ∧
    (let p : Nat := 1;
     let c : Copy := { flow := 4095, r := 0, seq := 1, ssrc := some 9, frames := [(0, 0)], late := 0, first := none, crc := none, fcsBad := false, sumBad := false, tracked := false, start := (0, 0), got := [], arriving := false };
     let s : State := { served (receives 4095) with copies := [(1, c)] };
      p < 2 ∧ c.flow < 4096 ∧ Store.find s.copies p = some c ∧ NatSet.has s.rxHeld (1 - p) = false ∧ (s.kennel p).marker = false ∧ c.fcsBad = false ∧
        c.sumBad = false ∧ c.arriving = false) ∧
    (let p : Nat := 1;
     let c : Copy := { flow := 4095, r := 0, seq := 1, ssrc := some 9, frames := [(0, 0)], late := 0, first := none, crc := none, fcsBad := true, sumBad := false, tracked := false, start := (0, 0), got := [], arriving := false };
     let s : State := { served (receives 4095) with copies := [(1, c)] };
      p < 2 ∧ c.flow < 4096 ∧ Store.find s.copies p = some c ∧ NatSet.has s.rxHeld (1 - p) = false ∧ (s.kennel p).marker = false ∧
        (c.fcsBad = true ∨ c.sumBad = true)) ∧
    (let p : Nat := 1;
     let c : Copy := { flow := 4095, r := 0, seq := 1, ssrc := some 9, frames := [(0, 0)], late := 0, first := none, crc := none, fcsBad := false, sumBad := true, tracked := false, start := (0, 0), got := [], arriving := false };
     let s : State := { served (receives 4095) with copies := [(1, c)] };
      p < 2 ∧ c.flow < 4096 ∧ Store.find s.copies p = some c ∧ NatSet.has s.rxHeld (1 - p) = false ∧ (s.kennel p).marker = false ∧
        (c.fcsBad = true ∨ c.sumBad = true)) ∧
    (let p : Nat := 1;
     let c : Copy := { flow := 4095, r := 0, seq := 1, ssrc := some 9, frames := [(0, 0)], late := 0, first := none, crc := none, fcsBad := true, sumBad := false, tracked := false, start := (0, 0), got := [], arriving := false };
     let s : State := { served (receives 4095) with copies := [(1, c)] };
      p < 2 ∧ c.flow < 4096 ∧ Store.find s.copies p = some c ∧ NatSet.has s.rxHeld (1 - p) = false ∧ (s.kennel p).marker = false) := by
  refine ⟨?_, ?_, ?_, ?_, ?_, ?_, ?_⟩
  all_goals decide

theorem witness_flows_time_out_and_deep_frames_move :
    (let i : Nat := 4095;
     let s : State := served (receives 4095 ++ [(FT.TIMEOUT 4095, 1), (RS.ACTIVE 4095, 1), (RS.LASTTICK 4095, 2 ^ 32 - 1), (GLB.TICKIDX.val, 1)]);
      i < 4096 ∧ s.flag (FT.EN i) = true ∧ s.flag (FT.DIR i) = false ∧ s.rd (FT.TIMEOUT i) ≠ 0 ∧ s.flag (RS.ACTIVE i) = true ∧
        s.rd (FT.TIMEOUT i) < (s.tick + 2 ^ 32 - s.rd (RS.LASTTICK i)) % 2 ^ 32) ∧
    (let i : Nat := 4095; let s : State := { served (receives 4095 ++ [(FT.DEEP 4095, 1)]) with deepValid := [deepKey 8191 1 0] };
      i < 4096 ∧ s.flag (FT.EN i) = true ∧ s.flag (FT.DIR i) = false ∧ s.ticking = true ∧ s.flag (FT.DEEP i) = true) := by
  refine ⟨?_, ?_⟩
  all_goals decide

theorem witness_kennel_pushes_and_pops :
    (let n : Nat := 63; let s : State := serving; let k := s.kennel n;
      n < 64 ∧ hostPushes n = false ∧ s.kennelThere n = true ∧ k.ignoring = false ∧ s.kennelFull n = false) ∧
    (let n : Nat := 0; let s : State := serving; let k := s.kennel n;
      n < 64 ∧ hostPushes n = false ∧ s.kennelThere n = true ∧ k.ignoring = false ∧ s.kennelFull n = false) ∧
    (let n : Nat := 63; let s : State := served [(KNL.K_CFG.SIZE 63, 0)]; let k := s.kennel n;
      n < 64 ∧ hostPushes n = false ∧ s.kennelThere n = true ∧ k.ignoring = false ∧ s.kennelFull n = true) ∧
    (let n : Nat := 63; let s : State := holding serving 63 { Kennel.reset with ignoring := true }; let k := s.kennel n;
      n < 64 ∧ hostPushes n = false ∧ s.kennelThere n = true ∧ k.ignoring = true) ∧
    (let n : Nat := 63; let w : Nat := 5; let ws : List Nat := [6]; let p : KPacket := { words := [5, 6], got := [], bad := false, tag := none };
     let ps : List KPacket := []; let s : State := holding serving 63 { Kennel.reset with pkts := [p] }; let k := s.kennel n;
      n < 64 ∧ s.mayPop n = true ∧ k.pkts = p :: ps ∧ p.words = w :: ws ∧ ws ≠ []) ∧
    (let n : Nat := 15; let w : Nat := 5; let p : KPacket := { words := [5], got := [], bad := false, tag := none }; let ps : List KPacket := [];
     let s : State := holding serving 15 { Kennel.reset with pkts := [p] }; let k := s.kennel n;
      n < 64 ∧ s.mayPop n = true ∧ k.pkts = p :: ps ∧ p.words = [w] ∧ n = 15) ∧
    (let n : Nat := 12; let w : Nat := 5; let p : KPacket := { words := [5], got := [], bad := false, tag := none }; let ps : List KPacket := [];
     let x := 2; let s : State := let q := (holding serving 12 { Kennel.reset with pkts := [p] }); q.setPort 2 { q.port 2 with sending := some 12 };
     let k := s.kennel n;
      n < 64 ∧ s.mayPop n = true ∧ k.pkts = p :: ps ∧ p.words = [w] ∧ portOf n = some x) ∧
    (let n : Nat := 2; let p : KPacket := { words := [5], got := [], bad := false, tag := some ⟨4095, 0, 1, 0⟩ }; let ps : List KPacket := [];
     let g : TxTag := ⟨4095, 0, 1, 0⟩;
     let s : State := let q := (holding serving 2 { Kennel.reset with pkts := [p] }); q.setPort 0 { q.port 0 with sending := some 2 };
     let k := s.kennel n;
      n < 64 ∧ s.mayPop n = true ∧ k.pkts = p :: ps ∧ p.tag = some g ∧ s.tick ≠ g.due) ∧
    (let n : Nat := 24; let p : KPacket := { words := [5], got := [], bad := false, tag := none }; let ps : List KPacket := [];
     let s : State := holding serving 24 { Kennel.reset with pkts := [p] }; let k := s.kennel n;
      n < 64 ∧ s.mayPop n = true ∧ k.pkts = p :: ps ∧ p.tag = none) := by
  refine ⟨?_, ?_, ?_, ?_, ?_, ?_, ?_, ?_, ?_⟩
  all_goals decide

theorem witness_kennel_resets_and_host_windows :
    (let i : Iface := .pcie; let n : Nat := 63; let s : State := holding serving 63 { Kennel.reset with pkts := [rtpPacket 1] };
      n < 64 ∧ s.hostReaches i (KNL.K_RST n) = true ∧ s.kennelInUse n = false) ∧
    (let i : Iface := .pcie; let n : Nat := 12; let s : State := served [(NET.CFG.EN 2, 1)];
      n < 64 ∧ s.hostReaches i (KNL.K_RST n) = true ∧ s.kennelInUse n = true) ∧
    (let n : Nat := 63; let s : State := holding serving 63 { Kennel.reset with pkts := [rtpPacket 1] };
      n < 64) ∧
    (let i : Iface := .pcie; let n : Nat := 47; let lo : Nat := 9216; let hi : Nat := 0; let v : Nat := 2 ^ 32 - 1; let s : State := serving;
     let k := s.kennel n; let w := lo + hi * 2 ^ 32; let len := headerLen (k.cur.headD w);
      lo < 2 ^ 32 ∧ hi < 2 ^ 32 ∧ v < 2 ^ 32 ∧ n < 64 ∧ s.stage = 7 ∧ s.ifaceEnabled i = true ∧ hostPushes n = true ∧ k.bound = false ∧
        k.ignoring = false ∧ s.kennelFull n = false ∧ (k.cur = [] → 1 ≤ len ∧ len ≤ 9216)) ∧
    (let i : Iface := .pcie; let n : Nat := 24; let lo : Nat := 1; let hi : Nat := 0; let v : Nat := 2 ^ 32 - 1; let s : State := serving;
     let k := s.kennel n; let w := lo + hi * 2 ^ 32; let len := headerLen (k.cur.headD w);
      lo < 2 ^ 32 ∧ hi < 2 ^ 32 ∧ v < 2 ^ 32 ∧ n < 64 ∧ s.stage = 7 ∧ s.ifaceEnabled i = true ∧ hostPushes n = true ∧ k.bound = false ∧
        k.ignoring = false ∧ s.kennelFull n = false ∧ (k.cur = [] → 1 ≤ len ∧ len ≤ 9216)) ∧
    (let i : Iface := .pcie; let n : Nat := 47; let lo : Nat := 2 ^ 32 - 1; let hi : Nat := 0; let v : Nat := 2 ^ 32 - 1;
     let s : State := holding serving 47 { Kennel.reset with cur := [8], pushing := true }; let k := s.kennel n; let w := lo + hi * 2 ^ 32;
     let len := headerLen (k.cur.headD w);
      lo < 2 ^ 32 ∧ hi < 2 ^ 32 ∧ v < 2 ^ 32 ∧ n < 64 ∧ s.stage = 7 ∧ s.ifaceEnabled i = true ∧ hostPushes n = true ∧ k.bound = false ∧
        k.ignoring = false ∧ s.kennelFull n = false ∧ (k.cur = [] → 1 ≤ len ∧ len ≤ 9216) ∧ k.cur.length + 1 = packetWords len) ∧
    (let i : Iface := .pcie; let n : Nat := 23; let lo : Nat := 2 ^ 32 - 1; let hi : Nat := 0; let v : Nat := 2 ^ 32 - 1;
     let s : State := holding serving 23 { Kennel.reset with pkts := [rtpPacket 1] }; let k := s.kennel n;
      lo < 2 ^ 32 ∧ hi < 2 ^ 32 ∧ v < 2 ^ 32 ∧ n < 64 ∧ s.stage = 7 ∧ s.ifaceEnabled i = true ∧ hostPops n = true ∧ k.bound = false) ∧
    (let i : Iface := .pcie; let n : Nat := 16; let lo : Nat := 2 ^ 32 - 1; let hi : Nat := 0; let v : Nat := 0; let s : State := serving;
     let k := s.kennel n;
      lo < 2 ^ 32 ∧ hi < 2 ^ 32 ∧ v < 2 ^ 32 ∧ n < 64 ∧ s.stage = 7 ∧ s.ifaceEnabled i = true ∧ hostPops n = true ∧ k.bound = false) ∧
    (let i : Iface := .pcie; let n : Nat := 24; let lo : Nat := 2 ^ 32 - 1; let hi : Nat := 0; let v : Nat := 2 ^ 32 - 1; let s : State := serving;
     let k := s.kennel n;
      lo < 2 ^ 32 ∧ hi < 2 ^ 32 ∧ v < 2 ^ 32 ∧ n < 64 ∧ s.stage = 7 ∧ s.ifaceEnabled i = true ∧ (hostPops n = false ∨ k.bound = true)) ∧
    (let i : Iface := .pcie; let n : Nat := 23; let lo : Nat := 2 ^ 32 - 1; let hi : Nat := 0; let v : Nat := 2 ^ 32 - 1;
     let s : State := holding serving 23 { Kennel.reset with bound := true }; let k := s.kennel n;
      lo < 2 ^ 32 ∧ hi < 2 ^ 32 ∧ v < 2 ^ 32 ∧ n < 64 ∧ s.stage = 7 ∧ s.ifaceEnabled i = true ∧ (hostPops n = false ∨ k.bound = true)) := by
  refine ⟨?_, ?_, ?_, ?_, ?_, ?_, ?_, ?_, ?_, ?_⟩
  all_goals decide

theorem witness_muzzle_lanes_fall_rise_and_time_out :
    (let b : Nat := 8191; let c : Nat := 2 ^ 14 - 1;
     let s : State := (served [(BT.EN 8191, 1)]).setLane 8191 (2 ^ 14 - 1) ({ MuzLane.reset with st := .falling, k := 5, len := 5, hold := 3, need := 3, waited := 65535 });
     let l := s.lane b c;
      b < 8192 ∧ c < 2 ^ 14 ∧ l.st = .falling ∧ l.len ≤ l.k) ∧
    (let b : Nat := 8191; let c : Nat := 2 ^ 14 - 1;
     let s : State := (served [(BT.EN 8191, 1)]).setLane 8191 (2 ^ 14 - 1) ({ MuzLane.reset with st := .silent, k := 5, len := 5, hold := 3, need := 3, waited := 65535 });
     let l := s.lane b c;
      b < 8192 ∧ c < 2 ^ 14 ∧ (l.st = .silent ∨ l.st = .holding) ∧ l.need ≤ l.hold ∧ (Cfg.muzzledBufs s.live).contains b = true) ∧
    (let b : Nat := 8191; let c : Nat := 2 ^ 14 - 1;
     let s : State := (served [(FT.EN 4095, 1), (FT.DIR 4095, 1), (FT.BUFID 4095, 8191), (BT.EN 8191, 1)]).setLane 8191 (2 ^ 14 - 1) ({ MuzLane.reset with st := .holding, k := 5, len := 5, hold := 3, need := 3, waited := 65535 });
     let l := s.lane b c;
      b < 8192 ∧ c < 2 ^ 14 ∧ (l.st = .silent ∨ l.st = .holding) ∧ l.need ≤ l.hold ∧ (Cfg.muzzledBufs s.live).contains b = true) ∧
    (let b : Nat := 8191; let c : Nat := 2 ^ 14 - 1;
     let s : State := (served [(BT.EN 8191, 1)]).setLane 8191 (2 ^ 14 - 1) ({ MuzLane.reset with st := .rising, k := 5, len := 5, hold := 3, need := 3, waited := 65535 });
     let l := s.lane b c;
      b < 8192 ∧ c < 2 ^ 14 ∧ l.st = .rising ∧ l.len ≤ l.k) ∧
    (let b : Nat := 8191; let c : Nat := 2 ^ 14 - 1;
     let s : State := (served [(BT.EN 8191, 1)]).setLane 8191 (2 ^ 14 - 1) ({ MuzLane.reset with st := .startwait, k := 5, len := 5, hold := 3, need := 3, waited := 65535 });
     let l := s.lane b c;
      b < 8192 ∧ c < 2 ^ 14 ∧ l.st = .startwait ∧ s.zcLimit (s.bufM b) ≤ l.waited) ∧
    (let b : Nat := 8191; let c : Nat := 2 ^ 14 - 1;
     let s : State := (served [(BT.EN 8191, 1)]).setLane 8191 (2 ^ 14 - 1) ({ MuzLane.reset with st := .stopwait, k := 5, len := 5, hold := 3, need := 3, waited := 65535 });
     let l := s.lane b c;
      b < 8192 ∧ c < 2 ^ 14 ∧ l.st = .stopwait ∧ s.zcLimit (s.bufM b) ≤ l.waited) := by
  refine ⟨?_, ?_, ?_, ?_, ?_, ?_⟩
  all_goals decide

theorem witness_herds_arm_trigger_start_and_stop :
    (let i : Iface := .pcie; let k : Nat := 15; let s : State := served [(HRD.H_CTL.EN 15, 1), (HRD.H_CTL.SRC 15, 1), (HRD.H_AT.val 15, 2)];
     let at_ := s.rd (HRD.H_AT.val k); let d := (at_ + 2 ^ 32 - s.tick) % 2 ^ 32; let src := s.rd (HRD.H_CTL.SRC k);
     let free := s.herdEn k = true ∧ (s.herdState k = 0 ∨ s.herdState k = 3);
     let onTime := (src = 1 ∧ 2 ≤ d ∧ d < 2 ^ 31) ∨ (src = 2 ∧ futureTime at_ s.ns = true) ∨ src = 0 ∨ src = 3;
     let host := s.hostReaches i (HRD.H_CMD k) = true;
      k < 16 ∧ host ∧ free ∧ onTime) ∧
    (let i : Iface := .pcie; let k : Nat := 15;
     let s : State := served [(HRD.H_CTL.EN 15, 1), (HRD.H_CTL.SRC 15, 1), (HRD.H_AT.val 15, 2 ^ 31 - 1), (HRD.H_STATE.val 15, 3)];
     let at_ := s.rd (HRD.H_AT.val k); let d := (at_ + 2 ^ 32 - s.tick) % 2 ^ 32; let src := s.rd (HRD.H_CTL.SRC k);
     let free := s.herdEn k = true ∧ (s.herdState k = 0 ∨ s.herdState k = 3);
     let onTime := (src = 1 ∧ 2 ≤ d ∧ d < 2 ^ 31) ∨ (src = 2 ∧ futureTime at_ s.ns = true) ∨ src = 0 ∨ src = 3;
     let host := s.hostReaches i (HRD.H_CMD k) = true;
      k < 16 ∧ host ∧ free ∧ onTime) ∧
    (let i : Iface := .pcie; let k : Nat := 15; let s : State := served [(HRD.H_CTL.EN 15, 1), (HRD.H_CTL.SRC 15, 2), (HRD.H_AT.val 15, 1)];
     let at_ := s.rd (HRD.H_AT.val k); let d := (at_ + 2 ^ 32 - s.tick) % 2 ^ 32; let src := s.rd (HRD.H_CTL.SRC k);
     let free := s.herdEn k = true ∧ (s.herdState k = 0 ∨ s.herdState k = 3);
     let onTime := (src = 1 ∧ 2 ≤ d ∧ d < 2 ^ 31) ∨ (src = 2 ∧ futureTime at_ s.ns = true) ∨ src = 0 ∨ src = 3;
     let host := s.hostReaches i (HRD.H_CMD k) = true;
      k < 16 ∧ host ∧ free ∧ onTime) ∧
    (let i : Iface := .pcie; let k : Nat := 15; let s : State := served [(HRD.H_CTL.EN 15, 1), (HRD.H_CTL.SRC 15, 3)];
     let at_ := s.rd (HRD.H_AT.val k); let d := (at_ + 2 ^ 32 - s.tick) % 2 ^ 32; let src := s.rd (HRD.H_CTL.SRC k);
     let free := s.herdEn k = true ∧ (s.herdState k = 0 ∨ s.herdState k = 3);
     let onTime := (src = 1 ∧ 2 ≤ d ∧ d < 2 ^ 31) ∨ (src = 2 ∧ futureTime at_ s.ns = true) ∨ src = 0 ∨ src = 3;
     let host := s.hostReaches i (HRD.H_CMD k) = true;
      k < 16 ∧ host ∧ free ∧ onTime) ∧
    (let i : Iface := .pcie; let k : Nat := 15; let s : State := served [(HRD.H_CTL.EN 15, 1), (HRD.H_CTL.SRC 15, 1), (HRD.H_AT.val 15, 1)];
     let at_ := s.rd (HRD.H_AT.val k); let d := (at_ + 2 ^ 32 - s.tick) % 2 ^ 32; let src := s.rd (HRD.H_CTL.SRC k);
     let free := s.herdEn k = true ∧ (s.herdState k = 0 ∨ s.herdState k = 3);
     let onTime := (src = 1 ∧ 2 ≤ d ∧ d < 2 ^ 31) ∨ (src = 2 ∧ futureTime at_ s.ns = true) ∨ src = 0 ∨ src = 3;
     let host := s.hostReaches i (HRD.H_CMD k) = true;
      k < 16 ∧ host ∧ free ∧ (¬ onTime)) ∧
    (let i : Iface := .pcie; let k : Nat := 15; let s : State := served [(HRD.H_CTL.EN 15, 1), (HRD.H_CTL.SRC 15, 2), (HRD.H_AT.val 15, 2 ^ 32 - 1)];
     let at_ := s.rd (HRD.H_AT.val k); let d := (at_ + 2 ^ 32 - s.tick) % 2 ^ 32; let src := s.rd (HRD.H_CTL.SRC k);
     let free := s.herdEn k = true ∧ (s.herdState k = 0 ∨ s.herdState k = 3);
     let onTime := (src = 1 ∧ 2 ≤ d ∧ d < 2 ^ 31) ∨ (src = 2 ∧ futureTime at_ s.ns = true) ∨ src = 0 ∨ src = 3;
     let host := s.hostReaches i (HRD.H_CMD k) = true;
      k < 16 ∧ host ∧ free ∧ (¬ onTime)) ∧
    (let i : Iface := .pcie; let k : Nat := 15; let s : State := served [(HRD.H_CTL.EN 15, 1), (HRD.H_STATE.val 15, 1), (HRD.H_CTL.SRC 15, 0)];
     let h := s.herdOf k; let src := s.rd (HRD.H_CTL.SRC k); let host := s.hostReaches i (HRD.H_CMD k) = true;
      k < 16 ∧ host ∧ s.herdState k = 1 ∧ src = 0 ∧ h.start = none) ∧
    (let k : Nat := 15; let pin : Nat := 3;
     let s : State := served [(HRD.H_CTL.EN 15, 1), (HRD.H_STATE.val 15, 1), (HRD.H_CTL.SRC 15, 3), (HRD.H_CTL.PIN 15, 3)]; let h := s.herdOf k;
     let src := s.rd (HRD.H_CTL.SRC k);
      k < 16 ∧ s.herdState k = 1 ∧ src = 3 ∧ s.rd (HRD.H_CTL.PIN k) = pin ∧ h.start = none ∧ s.ticking = true) ∧
    (let k : Nat := 15; let s : State := served [(HRD.H_CTL.EN 15, 1), (HRD.H_STATE.val 15, 1), (HRD.H_CTL.SRC 15, 2)]; let h := s.herdOf k;
     let at_ := s.rd (HRD.H_AT.val k); let src := s.rd (HRD.H_CTL.SRC k);
      k < 16 ∧ s.herdState k = 1 ∧ src = 2 ∧ reachedTime at_ s.ns = true ∧ h.start = none) ∧
    (let k : Nat := 15; let f := 0;
     let s : State := let s := served [(HRD.H_CTL.EN 15, 1), (HRD.H_STATE.val 15, 1)]; s.setHerd 15 { Herd.reset with start := some 0 };
     let h := s.herdOf k;
      k < 16 ∧ h.start = some f ∧ s.ticking = true ∧ s.herdState k = 1 ∧ futureTick f s.tick = false) ∧
    (let i : Iface := .pcie; let k : Nat := 15; let s : State := served [(HRD.H_CTL.EN 15, 1), (HRD.H_STATE.val 15, 2)];
     let host := s.hostReaches i (HRD.H_CMD k) = true;
      k < 16 ∧ host ∧ (s.herdEn k = true ∨ s.herdState k ≠ 0)) := by
  refine ⟨?_, ?_, ?_, ?_, ?_, ?_, ?_, ?_, ?_, ?_, ?_⟩
  all_goals decide

theorem witness_local_units_lock_lose_and_return :
    (let u : Nat := 7; let s : State := served ([(luState 7, 1)] ++ [(SAP.CG_CFG.EN 7, 1)] ++ [(SAP.CG_CFG.MODE 7, 0)]); let x := s.lu u;
     let st := s.rd (luState u);
      isLocal u = true ∧ st = 1 ∧ (Cfg.luMode s.live u = 0 ∨ (16 ≤ x.good ∧ s.rateFits u = true))) ∧
    (let u : Nat := 27; let s : State := (served [(luState 27, 1)]).setLu 27 { LocalUnit.reset with good := 16 }; let x := s.lu u;
     let st := s.rd (luState u);
      isLocal u = true ∧ st = 1 ∧ (Cfg.luMode s.live u = 0 ∨ (16 ≤ x.good ∧ s.rateFits u = true))) ∧
    (let u : Nat := 8; let cause : Nat := 0; let s : State := served ([(luState 8, 2)]); let st := s.rd (luState u);
      isLocal u = true ∧ (st = 1 ∨ st = 2) ∧ Cfg.luMode s.live u ≠ 0 ∧ s.lossHolds u cause = true) ∧
    (let u : Nat := 0; let cause : Nat := 2; let s : State := served ([(luState 0, 1)] ++ [(SAP.CG_CFG.MODE 0, 2)] ++ [(SAP.CG_OFS.val 0, 100001)]);
     let st := s.rd (luState u);
      isLocal u = true ∧ (st = 1 ∨ st = 2) ∧ Cfg.luMode s.live u ≠ 0 ∧ s.lossHolds u cause = true) ∧
    (let u : Nat := 27; let cause : Nat := 1; let s : State := (served [(luState 27, 2)]).setLu 27 { LocalUnit.reset with bad := 2 };
     let st := s.rd (luState u);
      isLocal u = true ∧ (st = 1 ∨ st = 2) ∧ Cfg.luMode s.live u ≠ 0 ∧ s.lossHolds u cause = true) ∧
    (let u : Nat := 15; let s : State := served ([(luState 15, 3)]); let st := s.rd (luState u);
      isLocal u = true ∧ st = 3) ∧
    (let u : Nat := 7; let s : State := served ([(luState 7, 3)]); let st := s.rd (luState u);
      isLocal u = true ∧ st = 3) := by
  refine ⟨?_, ?_, ?_, ?_, ?_, ?_, ?_⟩
  all_goals decide

theorem witness_sap_frames_enter_and_leave_the_store :
    (let k : Nat := 7; let s : State := served [(SAP.CG_CFG.EN 7, 1), (SAP.CG_CFG.MODE 7, 2), (SAP.CG_STAT.STATE 7, 2)];
      k < 8 ∧ s.ticking = true ∧ Cfg.luEn s.live k = true ∧ s.rd (luState k) = 2 ∧ Cfg.luMode s.live k = 2) ∧
    (let k : Nat := 7; let s : State := served [(SAP.CG_CFG.EN 7, 1), (SAP.CG_CFG.MODE 7, 2), (SAP.CG_STAT.STATE 7, 1)];
     let stored := s.stored k = true;
      k < 8 ∧ s.ticking = true ∧ Cfg.luEn s.live k = true ∧ s.rd (luState k) < 2 ∧ stored ∧ s.rd (luState k) ≠ 2) ∧
    (let k : Nat := 7; let s : State := served [(SAP.CG_CFG.EN 7, 1), (SAP.CG_CFG.MODE 7, 1), (SAP.CG_STAT.STATE 7, 0)];
     let stored := s.stored k = true;
      k < 8 ∧ s.ticking = true ∧ Cfg.luEn s.live k = true ∧ s.rd (luState k) < 2 ∧ stored ∧ s.rd (luState k) ≠ 2) ∧
    (let k : Nat := 7; let s : State := served [(SAP.CG_CFG.EN 7, 1), (SAP.CG_CFG.MODE 7, 3), (SAP.CG_STAT.STATE 7, 1)];
      k < 8 ∧ s.ticking = true ∧ Cfg.luEn s.live k = true ∧ s.rd (luState k) < 2 ∧ Cfg.luMode s.live k = 3) ∧
    (let k : Nat := 7; let s : State := served [(SAP.CG_CFG.EN 7, 1), (SAP.CG_CFG.MODE 7, 2), (SAP.CG_STAT.STATE 7, 3)];
     let stored := s.stored k = true;
      k < 8 ∧ s.ticking = true ∧ Cfg.luEn s.live k = true ∧ s.rd (luState k) ≠ 2 ∧ stored) ∧
    (let u : Nat := 27; let s : State := served [(AES.MD_CFG.IN_EN 3, 1), (AES.MD_CFG.MODE 3, 1), (AES.MD_STAT.STATE 3, 2)]; let y := s.lu u;
      isLocal u = true ∧ s.ticking = true ∧ Cfg.luEn s.live u = true ∧ Cfg.luMode s.live u = 2 ∧ s.rd (luState u) = 2 ∧
        y.pos < Cfg.luM s.live u * s.tickLen) ∧
    (let u : Nat := 27;
     let s : State := (served [(AES.MD_CFG.IN_EN 3, 1), (AES.MD_CFG.MODE 3, 1), (AES.MD_STAT.STATE 3, 2)]).setLu 27 { LocalUnit.reset with pos := 1, ins := [⟨[], true⟩] };
     let y := s.lu u;
      isLocal u = true ∧ s.ticking = true ∧ Cfg.luEn s.live u = true ∧ Cfg.luMode s.live u = 2 ∧ s.rd (luState u) = 2 ∧
        y.pos < Cfg.luM s.live u * s.tickLen) := by
  refine ⟨?_, ?_, ?_, ?_, ?_, ?_, ?_⟩
  all_goals decide

theorem witness_receivers_count_frames_and_status_blocks :
    (let n : Nat := 7; let s : State := served [(AES.RX_CFG.EN 7, 1), (luState 15, 1)];
      n < 8 ∧ s.ticking = true ∧ Cfg.luEn s.live (8 + n) = true ∧ s.rd (luState (8 + n)) < 2) ∧
    (let n : Nat := 7; let s : State := served [(AES.RX_CFG.EN 7, 1)];
      n < 8 ∧ s.ticking = true ∧ Cfg.luEn s.live (8 + n) = true ∧ s.rd (luState (8 + n)) < 2) ∧
    (let n : Nat := 3; let s : State := served [(AES.MD_CFG.IN_EN 3, 1), (luState 27, 1)];
      n < 4 ∧ s.ticking = true ∧ Cfg.luEn s.live (24 + n) = true ∧ s.rd (luState (24 + n)) < 2) ∧
    (let n : Nat := 7; let bs : List Nat := List.replicate 24 0; let cs : List Nat := List.replicate 24 0;
     let s : State := (served [(AES.RX_CFG.EN 7, 1)]).setLu 15 { LocalUnit.reset with bits := some (bs, cs) };
      n < 8 ∧ Cfg.luEn s.live (8 + n) = true ∧ s.blockIs (8 + n) bs cs = true ∧ blockBad bs = false ∧ blockBad cs = false) ∧
    (let n : Nat := 7; let bs : List Nat := 1 :: List.replicate 23 0; let cs : List Nat := List.replicate 24 0;
     let s : State := (served [(AES.RX_CFG.EN 7, 1)]).setLu 15 { LocalUnit.reset with bits := some (bs, cs) };
      n < 8 ∧ Cfg.luEn s.live (8 + n) = true ∧ s.blockIs (8 + n) bs cs = true ∧ (blockBad bs = true ∨ blockBad cs = true)) ∧
    (let n : Nat := 3; let bs : List Nat := List.replicate 24 0; let cs : List Nat := List.replicate 24 0;
     let s : State := (served [(AES.MD_CFG.IN_EN 3, 1)]).setLu 27 { LocalUnit.reset with bits := some (bs, []) };
      n < 4 ∧ Cfg.luEn s.live (24 + n) = true ∧ s.blockIs (24 + n) bs cs = true ∧ blockBad bs = false) ∧
    (let n : Nat := 7; let e := 3; let r : List Nat := []; let s : State := serving.setAtx 7 { AesTx.reset with errs := [3] };
      n < 8 ∧ (s.atxOf n).errs = e :: r) := by
  refine ⟨?_, ?_, ?_, ?_, ?_, ?_, ?_⟩
  all_goals decide

theorem witness_asrc_groups_lock_lose_and_relock :
    (let g : Nat := 15; let ratio : Nat := 2 ^ 21; let s : State := served [(ASRC.G_STAT.STATE 15, 1)]; let st := s.rd (ASRC.G_STAT.STATE g);
      g < 16 ∧ ratio < 2 ^ 32 ∧ st = 1 ∧ 2 ^ 21 ≤ ratio ∧ ratio ≤ 2 ^ 27) ∧
    (let g : Nat := 15; let ratio : Nat := 2 ^ 27; let s : State := served [(ASRC.G_STAT.STATE 15, 1)]; let st := s.rd (ASRC.G_STAT.STATE g);
      g < 16 ∧ ratio < 2 ^ 32 ∧ st = 1 ∧ 2 ^ 21 ≤ ratio ∧ ratio ≤ 2 ^ 27) ∧
    (let g : Nat := 15; let ratio : Nat := 0; let cause : Nat := 1; let s : State := served [(ASRC.G_STAT.STATE 15, 1)];
     let st := s.rd (ASRC.G_STAT.STATE g);
      g < 16 ∧ ratio < 2 ^ 32 ∧ (st = 1 ∨ st = 2) ∧ cause < 2) ∧
    (let g : Nat := 15; let ratio : Nat := 0; let cause : Nat := 0; let s : State := served [(ASRC.G_STAT.STATE 15, 2)];
     let st := s.rd (ASRC.G_STAT.STATE g);
      g < 16 ∧ ratio < 2 ^ 32 ∧ (st = 1 ∨ st = 2) ∧ cause < 2) ∧
    (let g : Nat := 15; let ratio : Nat := 2 ^ 24 + 3356; let s : State := served [(ASRC.G_STAT.STATE 15, 2), (ASRC.G_RATIO.val 15, 2 ^ 24)];
     let st := s.rd (ASRC.G_STAT.STATE g); let old := s.rd (ASRC.G_RATIO.val g);
     let step := old * 200 < (if old < ratio then ratio - old else old - ratio) * 10 ^ 6;
      g < 16 ∧ ratio < 2 ^ 32 ∧ st = 2 ∧ step ∧ 2 ^ 21 ≤ ratio ∧ ratio ≤ 2 ^ 27) ∧
    (let g : Nat := 15; let ratio : Nat := 2 ^ 21 - 1; let s : State := served [(ASRC.G_STAT.STATE 15, 2), (ASRC.G_RATIO.val 15, 2 ^ 24)];
     let st := s.rd (ASRC.G_STAT.STATE g); let old := s.rd (ASRC.G_RATIO.val g);
     let step := old * 200 < (if old < ratio then ratio - old else old - ratio) * 10 ^ 6;
      g < 16 ∧ ratio < 2 ^ 32 ∧ st = 2 ∧ step ∧ (ratio < 2 ^ 21 ∨ 2 ^ 27 < ratio)) ∧
    (let g : Nat := 15; let ratio : Nat := 2 ^ 27 + 1; let s : State := served [(ASRC.G_STAT.STATE 15, 2), (ASRC.G_RATIO.val 15, 2 ^ 24)];
     let st := s.rd (ASRC.G_STAT.STATE g); let old := s.rd (ASRC.G_RATIO.val g);
     let step := old * 200 < (if old < ratio then ratio - old else old - ratio) * 10 ^ 6;
      g < 16 ∧ ratio < 2 ^ 32 ∧ st = 2 ∧ step ∧ (ratio < 2 ^ 21 ∨ 2 ^ 27 < ratio)) ∧
    (let g : Nat := 15; let ratio : Nat := 0; let s : State := served [(ASRC.G_STAT.STATE 15, 3)]; let st := s.rd (ASRC.G_STAT.STATE g);
      g < 16 ∧ ratio < 2 ^ 32 ∧ st = 3) := by
  refine ⟨?_, ?_, ?_, ?_, ?_, ?_, ?_, ?_⟩
  all_goals decide

theorem witness_reference_inputs_qualify_and_disqualify :
    (let k : Nat := 9; let ofs : Int := -5000000; let s : State := (served [(REF.IN_STAT.QSTATE 9, 2)]).setRefIn 9 (RefIn.reset); let q := s.qstate k;
      k < 10 ∧ q = 2 ∧ s.refStopped k = false ∧ ofs.natAbs ≤ 5000000) ∧
    (let k : Nat := 9; let s : State := (served [(REF.IN_STAT.QSTATE 9, 2)]).setRefIn 9 ({ RefIn.reset with secs := 11 }); let x := s.refIn k;
     let q := s.qstate k;
      k < 10 ∧ q = 2 ∧ 11 ≤ x.secs ∧ s.disqualCause k = none) ∧
    (let k : Nat := 9; let c := 2;
     let s : State := (served [(REF.IN_STAT.QSTATE 9, 2)]).setRefIn 9 ({ RefIn.reset with glitches := [10 ^ 13, 10 ^ 13, 10 ^ 13 - 10 ^ 9 + 1] });
     let q := s.qstate k;
      k < 10 ∧ 2 ≤ q ∧ q ≤ 4 ∧ s.disqualCause k = some c ∧ c ≠ 5) ∧
    (let k : Nat := 9; let c := 4; let s : State := (served [(REF.IN_STAT.QSTATE 9, 4)]).setRefIn 9 ({ RefIn.reset with overDrift := 255 });
     let q := s.qstate k;
      k < 10 ∧ 2 ≤ q ∧ q ≤ 4 ∧ s.disqualCause k = some c ∧ c ≠ 5) ∧
    (let k : Nat := 9; let c := 3; let s : State := (served [(REF.IN_STAT.QSTATE 9, 3)]).setRefIn 9 ({ RefIn.reset with overOfs := 255 });
     let q := s.qstate k;
      k < 10 ∧ 2 ≤ q ∧ q ≤ 4 ∧ s.disqualCause k = some c ∧ c ≠ 5) ∧
    (let k : Nat := 9; let s : State := (served [(REF.IN_STAT.QSTATE 9, 5)]).setRefIn 9 ({ RefIn.reset with clear := 255 }); let x := s.refIn k;
     let q := s.qstate k;
      k < 10 ∧ q = 5 ∧ s.dwell k ≤ x.clear) ∧
    (let k : Nat := 9; let s : State := (served [(REF.IN_STAT.QSTATE 9, 1)]).setRefIn 9 (RefIn.reset); let q := s.qstate k;
      k < 10 ∧ q = 1 ∧ s.refStopped k = false) ∧
    (let k : Nat := 8; let s : State := served [(REF.IN_STAT.QSTATE 8, 2)]; let q := s.qstate k;
      k < 10 ∧ 2 ≤ q ∧ (refFed k = true → s.refStopped k = true)) ∧
    (let k : Nat := 9; let s : State := let s := served [(REF.IN_STAT.QSTATE 9, 5)]; { s with pair := { s.pair with missRun := 3 } };
     let q := s.qstate k;
      k < 10 ∧ 2 ≤ q ∧ (refFed k = true → s.refStopped k = true)) ∧
    (let k : Nat := 9;
     let s : State := (served [(REF.IN_STAT.QSTATE 9, 3), (REF.IN_STAT.RESTORING 9, 1)]).setRefIn 9 ({ RefIn.reset with wtr := 65535 });
     let x := s.refIn k;
      k < 10 ∧ s.flag (REF.IN_STAT.RESTORING k) = true ∧ s.refGood k = true ∧ s.rd REF.TIMERS.WTR ≤ x.wtr) := by
  refine ⟨?_, ?_, ?_, ?_, ?_, ?_, ?_, ?_, ?_, ?_⟩
  all_goals decide

theorem witness_reference_selector_locks_holds_and_jumps :
    (let t0 := 0;
     let s : State := let s := served [(REF.STATUS.STATE, 1), (REF.LOCK.LOCKTIME, 255)]; { s with ref := { s.ref with within := some 0 } };
      s.ref.within = some t0 ∧ s.refState = 1 ∧ s.rd REF.LOCK.LOCKTIME * 10 ^ 9 ≤ s.clk.now - t0) ∧
    (let s : State := served [(REF.STATUS.STATE, 4), (REF.HOBUDGET.val, 10000)];
      s.refState = 4 ∧ s.rd REF.HOBUDGET.val * 10 ^ 9 ≤ s.clk.now - s.ref.holdFrom) ∧
    (let k : Nat := 8; let j : Nat := 9; let r : List Nat := [8];
     let s : State := { serving with eim := { serving.eim with forRef := some 8, waits := [9, 8] } };
      j < 10 ∧ s.eim.forRef = some k ∧ s.eim.waits = j :: r ∧ s.eim.held = false ∧ s.flag EIM.STAT.BUSY = false) ∧
    (let k : Nat := 9; let s : State := { serving with eim := { serving.eim with forRef := some 9 } };
      k < 10 ∧ s.eim.forRef = some k ∧ s.eim.waits = []) ∧
    (let i : Iface := .pcie; let v : Nat := 2 ^ 32 - 1; let s : State := serving; let w := v ||| 2 ^ 16;
      v < 2 ^ 32 ∧ s.hostReaches i REF.PROFILE = true ∧ s.hasRoom (refProfileWords (w % 4) w) = true) ∧
    (let i : Iface := .pcie; let v : Nat := 0; let s : State := serving; let w := v ||| 2 ^ 16;
      v < 2 ^ 32 ∧ s.hostReaches i REF.PROFILE = true ∧ s.hasRoom (refProfileWords (w % 4) w) = true) ∧
    (let n : Nat := 3; let s : State := served [(EIM.SLC_CFG.EN 3, 1), (EIM.SLC_MINW.val 3, 1)];
      n < 4 ∧ s.flag (EIM.SLC_CFG.EN n) = true ∧ s.rd (EIM.SLC_MINW.val n) ≠ 0) := by
  refine ⟨?_, ?_, ?_, ?_, ?_, ?_, ?_⟩
  all_goals decide

theorem witness_aplls_and_ramps_move :
    (let x : Nat := 3; let s : State := served [(SYN.APLL_STAT.STATE 3, 3)];
      x < 4 ∧ s.apll x = 3 ∧ x ≠ 0) ∧
    (let i : Iface := .pcie; let x : Nat := 1; let s : State := served [(SYN.APLL_STAT.STATE 1, 3)];
      x < 4 ∧ s.hostReaches i (SYN.APLL_CTL x) = true ∧ x ≠ 0) ∧
    (let i : Iface := .pcie; let x : Nat := 0; let s : State := served [(SYN.APLL_STAT.STATE 0, 3)];
      x < 4 ∧ s.hostReaches i (SYN.APLL_CTL x) = true ∧ x = 0) ∧
    (let x : Nat := 3; let s : State := served [(SYN.APLL_STAT.STATE 3, 1)];
      x < 4 ∧ s.apll x = 1) ∧
    (let x : Nat := 3; let s : State := served [(SYN.APLL_STAT.STATE 3, 2)];
      x < 4 ∧ s.apll x = 2) ∧
    (let x : Nat := 3; let s : State := served [(SYN.APLL_STAT.STATE 3, 3)];
      x < 4 ∧ s.apll x ≠ 0) ∧
    (let x : Nat := 1; let s : State := served [(SYN.APLL_STAT.STATE 1, 1)];
      x < 4 ∧ s.apll x ≠ 0) ∧
    (let x : Nat := 0; let j : Nat := 11; let s : State := served [(SYN.CKO_STAT.RUNNING 11, 1), (SYN.CKO_CFG.DELAY 11, 255)];
      x < 4 ∧ j < 12 ∧ s.flag (SYN.CKO_STAT.RUNNING j) = true) ∧
    (let x : Nat := 0; let j : Nat := 0; let s : State := served [(SYN.CKO_STAT.RUNNING 0, 1), (SYN.CKO_STAT.DELNOW 0, 255)];
      x < 4 ∧ j < 12 ∧ s.flag (SYN.CKO_STAT.RUNNING j) = true) ∧
    (let i : Iface := .pcie; let v : Nat := 0x11; let s : State := served [(SYN.RAMPCTL.START, 1), (SYN.RAMPAT.val, 1)];
     let at_ := s.rd SYN.RAMPAT.val; let host := v < 2 ^ 32 ∧ s.hostReaches i SYN.RAMPCTL = true;
     let waits := s.rd SYN.RAMPCTL.START = 1 ∧ futureTick at_ s.tick = true;
      host ∧ v.testBit 1 = false ∧ waits) ∧
    (let i : Iface := .pcie; let v : Nat := 1; let s : State := served [(SYN.RAMPCTL.START, 1)]; let at_ := s.rd SYN.RAMPAT.val;
     let host := v < 2 ^ 32 ∧ s.hostReaches i SYN.RAMPCTL = true; let waits := s.rd SYN.RAMPCTL.START = 1 ∧ futureTick at_ s.tick = true;
      host ∧ v.testBit 1 = false ∧ (¬ waits)) ∧
    (let i : Iface := .pcie; let v : Nat := 2; let s : State := serving; let host := v < 2 ^ 32 ∧ s.hostReaches i SYN.RAMPCTL = true;
      host) ∧
    (let k := 15;
     let s : State := let s := served [(SYN.SEG_DUR.val 15, 1)]; { s with syn := { s.syn with ramp := { s.syn.ramp with due := some 15 } } };
     let r := s.syn.ramp;
      k < 16 ∧ r.due = some k ∧ s.rd (SYN.SEG_DUR.val k) ≠ 0) ∧
    (let k := 0;
     let s : State := let s := served [(SYN.SEG_DUR.val 0, 2 ^ 24 - 1)]; { s with syn := { s.syn with ramp := { s.syn.ramp with due := some 0 } } };
     let r := s.syn.ramp;
      k < 16 ∧ r.due = some k ∧ s.rd (SYN.SEG_DUR.val k) ≠ 0) := by
  refine ⟨?_, ?_, ?_, ?_, ?_, ?_, ?_, ?_, ?_, ?_, ?_, ?_, ?_, ?_⟩
  all_goals decide

theorem witness_meter_arms_measures_and_times_out :
    (let i : Iface := .pcie; let s : State := served [(EIM.CFG.EN, 1)]; let busy := s.flag EIM.STAT.BUSY; let host := s.hostReaches i EIM.CTL = true;
      host ∧ busy = false ∧ s.flag EIM.CFG.EN = true ∧ s.flag EIM.STAT.REFUSE = false) ∧
    (let i : Iface := .pcie; let s : State := served [(EIM.CFG.EN, 1), (EIM.STAT.REFUSE, 1)]; let busy := s.flag EIM.STAT.BUSY;
     let host := s.hostReaches i EIM.CTL = true;
      host ∧ busy = false ∧ s.flag EIM.CFG.EN = true ∧ s.flag EIM.STAT.REFUSE = true) ∧
    (let i : Iface := .pcie; let s : State := served [(EIM.CFG.EN, 1), (EIM.STAT.BUSY, 1)]; let busy := s.flag EIM.STAT.BUSY;
     let host := s.hostReaches i EIM.CTL = true;
      host ∧ busy = true) ∧
    (let i : Iface := .pcie; let s : State := served [(EIM.CFG.EN, 1), (EIM.STAT.BUSY, 1)]; let host := s.hostReaches i EIM.CTL = true;
      host ∧ s.eim.waits = []) ∧
    (let interval : Int := 4096; let p : Int := serving.stamp - 5120;
     let s : State := { serving with eim := { serving.eim with stops := [serving.stamp - 5120] } };
      0 ≤ interval ∧ s.latestStop (s.stamp - interval) = some p) ∧
    (let interval : Int := 4096; let s : State := serving;
      0 ≤ interval ∧ s.latestStop (s.stamp - interval) = none) ∧
    (let interval : Int := -1; let s : State := serving;
      interval < 0) ∧
    (let interval : Int := -(2 ^ 41) - 1; let s : State := serving;
      interval < 0) ∧
    (let interval : Int := -7; let g : Int := -7; let s : State := served [(EIM.CFG.EN, 1), (EIM.STAT.BUSY, 1)]; let busy := s.flag EIM.STAT.BUSY;
      busy = true ∧ s.eimInterval interval = some g) ∧
    (let s : State := served [(EIM.CFG.EN, 1), (EIM.STAT.BUSY, 1), (EIM.TIMEOUT.MS, 4095)]; let busy := s.flag EIM.STAT.BUSY;
      busy = true ∧ s.rd EIM.TIMEOUT.MS ≠ 0 ∧ s.rd EIM.TIMEOUT.MS * 1000000 ≤ s.clk.now - s.eim.since) ∧
    (let s : State := served [(EIM.STAT.CALLOCK, 1)];
      s.flag EIM.STAT.CALLOCK = true) ∧
    (let s : State := served [(SYN.APLL_STAT.STATE 0, 3), (EIM.STAT.CALLOCK, 0)];
      s.apll 0 = 3 ∧ s.flag EIM.STAT.CALLOCK = false) := by
  refine ⟨?_, ?_, ?_, ?_, ?_, ?_, ?_, ?_, ?_, ?_, ?_, ?_⟩
  all_goals decide

theorem witness_counter_is_captured_set_and_aligned :
    (let i : Iface := .pcie; let v : Nat := 2 ^ 32 - 7; let s : State := serving;
      v < 2 ^ 32 ∧ s.hostReaches i TIME.CTL = true ∧ v.testBit 1 = false ∧ v.testBit 2 = false) ∧
    (let i : Iface := .pcie; let v : Nat := 1; let s : State := serving;
      v < 2 ^ 32 ∧ s.hostReaches i TIME.CTL = true ∧ v.testBit 1 = false ∧ v.testBit 2 = false) ∧
    (let i : Iface := .pcie; let v : Nat := 2; let s : State := served [(TIME.SRVCFG.SRC, 1), (TIME.SETNSEC.val, 10 ^ 9 - 1)];
     let may := s.flag TIME.SRVCFG.SRC = true ∧ s.rd TIME.SETNSEC.val < 10 ^ 9;
      v < 2 ^ 32 ∧ s.hostReaches i TIME.CTL = true ∧ v.testBit 0 = false ∧ v.testBit 2 = false ∧ may) ∧
    (let i : Iface := .pcie; let v : Nat := 2; let s : State := served [(TIME.SRVCFG.SRC, 1), (TIME.SETNSEC.val, 10 ^ 9)];
     let may := s.flag TIME.SRVCFG.SRC = true ∧ s.rd TIME.SETNSEC.val < 10 ^ 9;
      v < 2 ^ 32 ∧ s.hostReaches i TIME.CTL = true ∧ v.testBit 0 = false ∧ v.testBit 2 = false ∧ (¬ may)) ∧
    (let i : Iface := .pcie; let v : Nat := 2; let s : State := serving; let may := s.flag TIME.SRVCFG.SRC = true ∧ s.rd TIME.SETNSEC.val < 10 ^ 9;
      v < 2 ^ 32 ∧ s.hostReaches i TIME.CTL = true ∧ v.testBit 0 = false ∧ v.testBit 2 = false ∧ (¬ may)) ∧
    (let i : Iface := .pcie; let v : Nat := 4; let s : State := serving;
      v < 2 ^ 32 ∧ s.hostReaches i TIME.CTL = true ∧ v.testBit 0 = false ∧ v.testBit 1 = false) := by
  refine ⟨?_, ?_, ?_, ?_, ?_, ?_⟩
  all_goals decide

theorem witness_servo_follows_samples_and_ptp_keeps_its_state :
    (let p : Nat := 1; let th : Int := -(2 ^ 31); let s : State := served [(TIME.PTP_CFG.EN 1, 1), (TIME.PTP_CFG.STATE 1, 1)];
     let slave := s.flag (TIME.PTP_CFG.EN p) = true ∧ s.rd (TIME.PTP_CFG.STATE p) = 1;
     let feeds := s.flag TIME.SRVCFG.EN = true ∧ s.flag TIME.SRVCFG.SRC = false ∧ s.rd TIME.SRVCFG.PORT = p;
      p < 2 ∧ -(2 ^ 31) ≤ th ∧ th < 2 ^ 31 ∧ slave ∧ (¬ feeds)) ∧
    (let p : Nat := 1; let th : Int := -5;
     let s : State := served [(TIME.PTP_CFG.EN 1, 1), (TIME.PTP_CFG.STATE 1, 1), (TIME.SRVCFG.EN, 1), (TIME.SRVCFG.PORT, 1), (TIME.SRVSTEP.val, 5)];
     let slave := s.flag (TIME.PTP_CFG.EN p) = true ∧ s.rd (TIME.PTP_CFG.STATE p) = 1;
     let feeds := s.flag TIME.SRVCFG.EN = true ∧ s.flag TIME.SRVCFG.SRC = false ∧ s.rd TIME.SRVCFG.PORT = p;
     let small := th.natAbs ≤ s.rd TIME.SRVSTEP.val;
      p < 2 ∧ -(2 ^ 31) ≤ th ∧ th < 2 ^ 31 ∧ slave ∧ feeds ∧ small) ∧
    (let i : Iface := .pcie; let p : Nat := 1; let th : Int := 5;
     let s : State := served [(TIME.SRVCFG.EN, 1), (TIME.SRVCFG.SRC, 1), (TIME.SRVSTEP.val, 5)]; let small := th.natAbs ≤ s.rd TIME.SRVSTEP.val;
      p < 2 ∧ -(2 ^ 31) ≤ th ∧ th < 2 ^ 31 ∧ s.hostReaches i TIME.SRVIN = true ∧ s.flag TIME.SRVCFG.EN = true ∧ s.flag TIME.SRVCFG.SRC = true ∧
        small) ∧
    (let i : Iface := .pcie; let p : Nat := 1; let th : Int := 6;
     let s : State := served [(TIME.SRVCFG.EN, 1), (TIME.SRVCFG.SRC, 1), (TIME.SRVSTEP.val, 5)]; let small := th.natAbs ≤ s.rd TIME.SRVSTEP.val;
      p < 2 ∧ -(2 ^ 31) ≤ th ∧ th < 2 ^ 31 ∧ s.hostReaches i TIME.SRVIN = true ∧ s.flag TIME.SRVCFG.EN = true ∧ s.flag TIME.SRVCFG.SRC = true ∧
        (¬ small)) ∧
    (let p : Nat := 1; let th : Int := -(2 ^ 31); let s : State := served [(TIME.SRVCFG.EN, 1), (TIME.SRVCFG.PORT, 1)];
     let feeds := s.flag TIME.SRVCFG.EN = true ∧ s.flag TIME.SRVCFG.SRC = false ∧ s.rd TIME.SRVCFG.PORT = p;
      p < 2 ∧ -(2 ^ 31) ≤ th ∧ th < 2 ^ 31 ∧ feeds ∧ s.flag TIME.SRVCFG.HOLD = false ∧ s.fourIntervals p ≤ s.clk.now - s.times.sampleAt) ∧
    (let p : Nat := 1; let st : Nat := 3; let th : Int := -(2 ^ 31); let s : State := served [(TIME.PTP_CFG.EN 1, 1)];
      p < 2 ∧ -(2 ^ 31) ≤ th ∧ th < 2 ^ 31 ∧ s.flag (TIME.PTP_CFG.EN p) = true ∧ 1 ≤ st ∧ st < 4 ∧ (st = 2 → s.flag (TIME.PTP_CFG.ROLE p) = true)) ∧
    (let p : Nat := 1; let st : Nat := 2; let th : Int := -(2 ^ 31); let s : State := served [(TIME.PTP_CFG.EN 1, 1), (TIME.PTP_CFG.ROLE 1, 1)];
      p < 2 ∧ -(2 ^ 31) ≤ th ∧ th < 2 ^ 31 ∧ s.flag (TIME.PTP_CFG.EN p) = true ∧ 1 ≤ st ∧ st < 4 ∧ (st = 2 → s.flag (TIME.PTP_CFG.ROLE p) = true)) ∧
    (let p : Nat := 1; let th : Int := -(2 ^ 31); let s : State := served [(TIME.PTP_CFG.EN 1, 1)];
      p < 2 ∧ -(2 ^ 31) ≤ th ∧ th < 2 ^ 31 ∧ s.flag (TIME.PTP_CFG.EN p) = true) ∧
    (let p : Nat := 1; let th : Int := -(2 ^ 31); let s : State := served [(TIME.PTP_CFG.EN 1, 1), (NET.STAT.LINK 1, 1), (TIME.PTP_CFG.STATE 1, 2)];
      p < 2 ∧ -(2 ^ 31) ≤ th ∧ th < 2 ^ 31 ∧ s.flag (TIME.PTP_CFG.EN p) = true ∧ s.flag (NET.STAT.LINK p) = true ∧ s.rd (TIME.PTP_CFG.STATE p) = 2) ∧
    (let p : Nat := 1; let th : Int := -(2 ^ 31); let s : State := served [(TIME.PTP_CFG.EN 1, 1), (NET.STAT.LINK 1, 1), (TIME.PTP_CFG.STATE 1, 1)];
      p < 2 ∧ -(2 ^ 31) ≤ th ∧ th < 2 ^ 31 ∧ s.flag (TIME.PTP_CFG.EN p) = true ∧ s.flag (NET.STAT.LINK p) = true ∧ s.rd (TIME.PTP_CFG.STATE p) = 1) ∧
    (let i : Iface := .pcie; let p : Nat := 1; let v : Nat := 2 ^ 32 - 1; let th : Int := -(2 ^ 31); let s : State := served []; let w := v ||| 8;
      p < 2 ∧ -(2 ^ 31) ≤ th ∧ th < 2 ^ 31 ∧ v < 2 ^ 32 ∧ s.hostReaches i (TIME.PTP_CFG p) = true ∧
        s.hasRoom [(TIME.PTP_CFG p, ptpProfileWord p w)] = true) := by
  refine ⟨?_, ?_, ?_, ?_, ?_, ?_, ?_, ?_, ?_, ?_, ?_⟩
  all_goals decide

theorem witness_pulse_generators_arm_pulse_and_stop :
    (let i : Iface := .pcie; let k : Nat := 7; let v : Nat := 0x80000001;
     let s : State := served [(TIME.PG_CFG.EN 7, 1), (TIME.PG_START.val 7, 2 ^ 31 - 1)]; let start := s.rd (TIME.PG_START.val k);
     let period := s.rd (TIME.PG_PERIOD.val k); let width := s.rd (TIME.PG_WIDTH.val k);
     let u := s.setWord (TIME.PG_CFG k) (mergeBits (s.word (TIME.PG_CFG k)) (BitVec.ofNat 32 (v ||| 1)) 0xF0000700);
     let legal := u.rd (TIME.PG_CFG.LATE k) ≠ 3 ∧ (period = 0 ∨ width < period); let host := v < 2 ^ 32 ∧ s.hostReaches i (TIME.PG_CFG k) = true;
      k < 8 ∧ host ∧ v.testBit 1 = false ∧ legal ∧ u.flag (TIME.PG_CFG.EN k) = true ∧ futureTime start s.ns = true) ∧
    (let i : Iface := .pcie; let k : Nat := 7; let v : Nat := 0x80000001;
     let s : State := served [(TIME.PG_CFG.EN 7, 1), (TIME.PG_PERIOD.val 7, 2), (TIME.PG_WIDTH.val 7, 1)]; let start := s.rd (TIME.PG_START.val k);
     let period := s.rd (TIME.PG_PERIOD.val k); let width := s.rd (TIME.PG_WIDTH.val k);
     let u := s.setWord (TIME.PG_CFG k) (mergeBits (s.word (TIME.PG_CFG k)) (BitVec.ofNat 32 (v ||| 1)) 0xF0000700);
     let legal := u.rd (TIME.PG_CFG.LATE k) ≠ 3 ∧ (period = 0 ∨ width < period); let host := v < 2 ^ 32 ∧ s.hostReaches i (TIME.PG_CFG k) = true;
      k < 8 ∧ host ∧ v.testBit 1 = false ∧ legal ∧ u.flag (TIME.PG_CFG.EN k) = true ∧ futureTime start s.ns = true) ∧
    (let i : Iface := .pcie; let k : Nat := 7; let v : Nat := 0x80000001;
     let s : State := served [(TIME.PG_CFG.EN 7, 1), (TIME.PG_START.val 7, 2 ^ 32 - 1)]; let x := s.pulse k; let start := s.rd (TIME.PG_START.val k);
     let period := s.rd (TIME.PG_PERIOD.val k); let width := s.rd (TIME.PG_WIDTH.val k);
     let u := s.setWord (TIME.PG_CFG k) (mergeBits (s.word (TIME.PG_CFG k)) (BitVec.ofNat 32 (v ||| 1)) 0xF0000700);
     let legal := u.rd (TIME.PG_CFG.LATE k) ≠ 3 ∧ (period = 0 ∨ width < period); let host := v < 2 ^ 32 ∧ s.hostReaches i (TIME.PG_CFG k) = true;
      k < 8 ∧ host ∧ v.testBit 1 = false ∧ legal ∧ u.flag (TIME.PG_CFG.EN k) = true ∧ 0 < lateBy start s.ns ∧ u.rd (TIME.PG_CFG.LATE k) = 0 ∧
        x.trail = none) ∧
    (let i : Iface := .pcie; let k : Nat := 7; let v : Nat := 0x80000001;
     let s : State := served [(TIME.PG_CFG.EN 7, 1), (TIME.PG_PERIOD.val 7, 1), (TIME.PG_WIDTH.val 7, 1)]; let period := s.rd (TIME.PG_PERIOD.val k);
     let width := s.rd (TIME.PG_WIDTH.val k);
     let u := s.setWord (TIME.PG_CFG k) (mergeBits (s.word (TIME.PG_CFG k)) (BitVec.ofNat 32 (v ||| 1)) 0xF0000700);
     let legal := u.rd (TIME.PG_CFG.LATE k) ≠ 3 ∧ (period = 0 ∨ width < period); let host := v < 2 ^ 32 ∧ s.hostReaches i (TIME.PG_CFG k) = true;
      k < 8 ∧ host ∧ v.testBit 1 = false ∧ (¬ legal) ∧ u.flag (TIME.PG_CFG.EN k) = true) ∧
    (let i : Iface := .pcie; let k : Nat := 7; let v : Nat := 0xB0000001; let s : State := served [(TIME.PG_CFG.EN 7, 1)];
     let period := s.rd (TIME.PG_PERIOD.val k); let width := s.rd (TIME.PG_WIDTH.val k);
     let u := s.setWord (TIME.PG_CFG k) (mergeBits (s.word (TIME.PG_CFG k)) (BitVec.ofNat 32 (v ||| 1)) 0xF0000700);
     let legal := u.rd (TIME.PG_CFG.LATE k) ≠ 3 ∧ (period = 0 ∨ width < period); let host := v < 2 ^ 32 ∧ s.hostReaches i (TIME.PG_CFG k) = true;
      k < 8 ∧ host ∧ v.testBit 1 = false ∧ (¬ legal) ∧ u.flag (TIME.PG_CFG.EN k) = true) ∧
    (let i : Iface := .pcie; let k : Nat := 7; let v : Nat := 2; let s : State := served [];
     let host := v < 2 ^ 32 ∧ s.hostReaches i (TIME.PG_CFG k) = true;
      k < 8 ∧ host) ∧
    (let k : Nat := 7;
     let s : State := let s := served [(TIME.PG_CFG.EN 7, 1), (TIME.PG_CFG.ARMED 7, 1)]; { s with times := { s.times with pg := [(7, { Pulse.reset with width := 1 })] } };
     let x := s.pulse k;
      k < 8 ∧ s.flag (TIME.PG_CFG.EN k) = true ∧ s.pgLive k = true ∧ x.trail = none ∧ x.stop = false ∧ reachedTime x.next s.ns = true ∧
        (x.width ≠ 0 ∨ x.period ≠ 0)) ∧
    (let k : Nat := 7;
     let s : State := let s := served [(TIME.PG_CFG.EN 7, 1), (TIME.PG_CFG.RUNNING 7, 1)]; { s with times := { s.times with pg := [(7, { Pulse.reset with period := 1 })] } };
     let x := s.pulse k;
      k < 8 ∧ s.flag (TIME.PG_CFG.EN k) = true ∧ s.pgLive k = true ∧ x.trail = none ∧ x.stop = false ∧ reachedTime x.next s.ns = true ∧
        (x.width ≠ 0 ∨ x.period ≠ 0)) ∧
    (let k : Nat := 7; let t0 := 0;
     let s : State := let s := served []; { s with times := { s.times with pg := [(7, { Pulse.reset with trail := some 0 })] } }; let x := s.pulse k;
      k < 8 ∧ x.trail = some t0 ∧ reachedTime t0 s.ns = true) := by
  refine ⟨?_, ?_, ?_, ?_, ?_, ?_, ?_, ?_, ?_⟩
  all_goals decide

theorem witness_cue_sends_and_timecode_frames :
    (let n : Nat := 255; let x : Nat := 2;
     let c : CueEntry := { frame := List.replicate 60 0, repeats := 0, period := 0, ports := 1, t := 0, i := 0, at_ := 0, owed := 4 };
     let s : State := let s := served []; { s with times := { s.times with cues := [(255, c)] } }; let p := s.port x;
     let guard := s.wireNs x (s.rd (NET.CFG.MAXFRAME x) - 4);
      n < 256 ∧ s.cueEntry n = some c ∧ x < 3 ∧ c.owes x = true ∧ p.holds.contains n = false ∧
        reachedTime ((c.at_ + 2 ^ 32 - guard % 2 ^ 32) % 2 ^ 32) s.ns = true) ∧
    (let n : Nat := 255; let x : Nat := 2;
     let c : CueEntry := { frame := List.replicate 60 0, repeats := 0, period := 0, ports := 1, t := 0, i := 0, at_ := 0, owed := 4 };
     let s : State := let s := served [(NET.STAT.LINK 2, 1), (NET.CFG.EN 2, 1)]; { s with times := { s.times with cues := [(255, c)] } };
     let p := s.port x;
      n < 256 ∧ s.cueEntry n = some c ∧ x < 3 ∧ c.owes x = true ∧ reachedTime c.at_ s.ns = true ∧ s.cueFirst n x c = true ∧
        s.flag (NET.STAT.LINK x) = true ∧ p.sending = none ∧ p.freeAt ≤ s.clk.now ∧ s.sendsPath x = true) ∧
    (let n : Nat := 255; let x : Nat := 0;
     let c : CueEntry := { frame := List.replicate 60 0, repeats := 0, period := 0, ports := 1, t := 0, i := 0, at_ := 0, owed := 1 };
     let s : State := let s := served [(NET.STAT.LINK 0, 1)]; { s with times := { s.times with cues := [(255, c)] } }; let p := s.port x;
      n < 256 ∧ s.cueEntry n = some c ∧ x < 3 ∧ c.owes x = true ∧ reachedTime c.at_ s.ns = true ∧ s.cueFirst n x c = true ∧
        s.flag (NET.STAT.LINK x) = true ∧ p.sending = none ∧ p.freeAt ≤ s.clk.now ∧ s.sendsPath x = true) ∧
    (let n : Nat := 255; let x : Nat := 2;
     let c : CueEntry := { frame := List.replicate 60 0, repeats := 0, period := 0, ports := 1, t := 0, i := 0, at_ := 0, owed := 4 };
     let s : State := let s := served []; { s with times := { s.times with cues := [(255, c)] } };
      n < 256 ∧ s.cueEntry n = some c ∧ x < 3 ∧ c.owes x = true ∧ reachedTime c.at_ s.ns = true ∧ s.cueFirst n x c = true ∧
        s.flag (NET.STAT.LINK x) = false) ∧
    (let n : Nat := 0; let s : State := served [(TIME.LTCRX_CFG.EN, 1), (TIME.LTCRX_STAT.STATE, 1)];
      n < 256 ∧ s.flag TIME.LTCRX_CFG.EN = true ∧ 1 ≤ s.rd TIME.LTCRX_STAT.STATE) ∧
    (let n : Nat := 0;
     let s : State := let s := served [(TIME.LTCRX_STAT.STATE, 2)]; { s with times := { s.times with ltc := { s.times.ltc with run := 1 } } };
     let l := s.times.ltc;
      n < 256 ∧ 1 ≤ l.run) ∧
    (let n : Nat := 0;
     let s : State := let s := served [(TIME.LTCRX_STAT.STATE, 1)]; { s with times := { s.times with ltc := { s.times.ltc with run := 1 } } };
     let l := s.times.ltc;
      n < 256 ∧ 1 ≤ l.run) ∧
    (let n : Nat := 0; let s : State := { serving with times := { serving.times with ltc := { serving.times.ltc with running := true } } };
     let l := s.times.ltc;
      n < 256 ∧ l.running = true ∧ s.ltcBegin l.k ≤ l.samples + s.clk.cycle * s.fs / 10 ^ 9) ∧
    (let i : Iface := .pcie; let n : Nat := 0; let v : Nat := 2 ^ 32 - 1; let s : State := serving;
      n < 256 ∧ v < 2 ^ 32 ∧ s.hostReaches i TIME.LTCTX_CFG = true) := by
  refine ⟨?_, ?_, ?_, ?_, ?_, ?_, ?_, ?_, ?_⟩
  all_goals decide

theorem witness_links_frames_gates_and_tables :
    (let x : Nat := 2; let s : State := served [(NET.CFG.EN 2, 1), (NET.STAT.IDLE 2, 0)];
      x < 3 ∧ s.flag (NET.CFG.EN x) = true ∧ s.flag (NET.STAT.IDLE x) = false ∧ s.flag (NET.STAT.LINK x) = false) ∧
    (let x : Nat := 2; let s : State := served [(NET.CFG.EN 2, 1), (NET.STAT.LINK 2, 1), (NET.STAT.IDLE 2, 0)];
      x < 3 ∧ s.flag (NET.STAT.LINK x) = true) ∧
    (let x : Nat := 1; let s : State := served [(NET.STAT.LINK 1, 1), (TIME.PTP_CFG.STATE 1, 3)];
      x < 3 ∧ s.flag (NET.STAT.LINK x) = true) ∧
    (let x : Nat := 2; let k := 12; let c : Option Nat := none;
     let s : State := holding (served [(NET.CFG.EN 2, 1), (NET.STAT.LINK 2, 1), (NET.STAT.IDLE 2, 0)]) 12 { Kennel.reset with pkts := [rtpPacket 1] };
     let p := s.port x;
      x < 3 ∧ s.flag (NET.STAT.LINK x) = true ∧ p.resume = false ∧ p.sending = none ∧ p.freeAt ≤ s.clk.now ∧ p.holds = [] ∧
        s.nextFrame x = some (k, c)) ∧
    (let x : Nat := 2; let s : State := served [(NET.CFG.EN 2, 1), (NET.STAT.LINK 2, 1), (NET.STAT.IDLE 2, 0)]; let p := s.port x;
      x < 3 ∧ s.flag (NET.STAT.LINK x) = true ∧ p.resume = false ∧ p.sending = none ∧ p.freeAt ≤ s.clk.now ∧ p.holds = [] ∧ s.nextFrame x = none) ∧
    (let t0 := 0; let m := 255; let iv := 1;
     let s : State := let s := served [(SW.GCLCTL.EN, 1), (SW.GCLSTAT.RUNNING, 1), (SW.GCLSTAT.ENTRY, 254)]; { s with net := { s.net with gates := List.replicate 256 (255, 1), cycleAt := some 0 } };
      s.flag SW.GCLCTL.EN = true ∧ s.net.cycleAt = some t0 ∧ s.flag SW.GCLSTAT.RUNNING = true ∧ reachedTime s.net.entryEnd s.ns = true ∧
        s.net.gates[s.rd SW.GCLSTAT.ENTRY + 1]? = some (m, iv)) ∧
    (let t0 := 0; let s : State := let s := served [(SW.GCLCTL.EN, 1), (SW.GCLCTL.NENT, 1)]; { s with net := { s.net with cycleAt := some 0 } };
      s.flag SW.GCLCTL.EN = true ∧ s.net.cycleAt = some t0 ∧ s.flag SW.GCLSTAT.RUNNING = false ∧ reachedTime t0 s.ns = true) ∧
    (let vid : Nat := 4095; let mac : Nat := 2 ^ 48 - 1; let y := 2; let t0 := 10 ^ 12;
     let s : State := let s := served [(SW.CTL.AGE, 10)]; { s with net := { s.net with macs := [(macKey 4095 (2 ^ 48 - 1), (2, 10 ^ 12))] } };
      Store.find s.net.macs (macKey vid mac) = some (y, t0) ∧ s.rd SW.CTL.AGE * 10 ^ 9 ≤ s.clk.now - t0) ∧
    (let x : Nat := 2; let vid : Nat := 4095; let addr : Nat := 2 ^ 128 - 1; let v6 : Bool := true;
     let ps : List (Nat × Nat) := [(2, 10 ^ 12), (0, 0)]; let t0 := 10 ^ 12;
     let s : State := let s := served []; { s with net := { s.net with groups := [(groupKey 4095 true (2 ^ 128 - 1), [(2, 10 ^ 12), (0, 0)])] } };
      Store.find s.net.groups (groupKey vid v6 addr) = some ps ∧ (x, t0) ∈ ps ∧ 260 * 10 ^ 9 ≤ s.clk.now - t0) ∧
    (let x : Nat := 2; let vid : Nat := 0; let addr : Nat := 0; let v6 : Bool := false; let ps : List (Nat × Nat) := [(2, 0)]; let t0 := 0;
     let s : State := let s := served []; { s with net := { s.net with groups := [(groupKey 0 false 0, [(2, 0)])] } };
      Store.find s.net.groups (groupKey vid v6 addr) = some ps ∧ (x, t0) ∈ ps ∧ 260 * 10 ^ 9 ≤ s.clk.now - t0) ∧
    (let width : Nat := 2; let speed : Nat := 3; let s : State := served [(SYN.APLL_STAT.STATE 0, 3)];
      s.boot.held = false ∧ s.ifaceOn 0 = true ∧ s.apll 0 = 3 ∧ (width = 1 ∨ width = 2) ∧ 1 ≤ speed ∧ speed ≤ 3) := by
  refine ⟨?_, ?_, ?_, ?_, ?_, ?_, ?_, ?_, ?_, ?_, ?_⟩
  all_goals decide

theorem witness_memory_clients_do_their_work :
    (let i : Nat := 4095; let s : State := let s := served [(DRAM.CFG.EN, 1), (DRAM.STAT.TRAINED, 0)]; { s with mem := { s.mem with due := [] } };
      i < 4096 ∧ s.flag DRAM.CFG.EN = true ∧ s.flag DRAM.STAT.TRAINED = false ∧ s.flag GLB.UNITCAP.DRAMCTL = true) ∧
    (let c : Nat := 1; let i : Nat := 4095; let s : State := let s := served []; { s with mem := { s.mem with due := [clientKey 1 4095] } };
      i < 4096 ∧ s.ticking = true ∧ (s.isDue c i = true ∨ c = 4) ∧ c < 5) ∧
    (let c : Nat := 4; let i : Nat := 4095; let s : State := let s := served []; { s with mem := { s.mem with due := [] } };
      i < 4096 ∧ s.ticking = true ∧ (s.isDue c i = true ∨ c = 4) ∧ c < 5) ∧
    (let c : Nat := 0; let i : Nat := 0; let s : State := let s := served []; { s with mem := { s.mem with due := [clientKey 0 0] } };
      i < 4096 ∧ s.ticking = true ∧ (s.isDue c i = true ∨ c = 4) ∧ c < 5) ∧
    (let i : Nat := 1023;
     let s : State := let s := served [(DL.EN 1023, 1), (DL.LOG2 1023, 10)]; { s with mem := { s.mem with due := [clientKey 1 1023] } };
     let b := s.rd (DL.SRCBUF i);
      i < 4096 ∧ s.ticking = true ∧ s.isDue 1 i = true ∧ s.bufS b ≤ 2 ^ s.rd (DL.LOG2 i)) ∧
    (let i : Nat := 4095; let s : State := let s := served []; { s with mem := { s.mem with due := [clientKey 3 0] } };
      i < 4096 ∧ s.ticking = true ∧ s.isDue 3 0 = true) ∧
    (let i : Nat := 4095; let s : State := let s := served [(CUE.CAPCTL.MODE, 1)]; { s with mem := { s.mem with due := [clientKey 5 0] } };
     let len := s.rd CUE.CAPLEN.val * 4096; let p := s.mem.capPos; let size := Cfg.capBytes s.live;
      i < 4096 ∧ s.ticking = true ∧ s.isDue 5 0 = true ∧ (s.flag CUE.CAPCTL.MODE = true ∨ p + size ≤ len)) ∧
    (let i : Nat := 4095; let s : State := let s := served [(CUE.CAPLEN.val, 1)]; { s with mem := { s.mem with due := [clientKey 5 0] } };
     let len := s.rd CUE.CAPLEN.val * 4096; let p := s.mem.capPos; let size := Cfg.capBytes s.live;
      i < 4096 ∧ s.ticking = true ∧ s.isDue 5 0 = true ∧ (s.flag CUE.CAPCTL.MODE = true ∨ p + size ≤ len)) ∧
    (let i : Nat := 4095; let s : State := let s := served []; { s with mem := { s.mem with due := [clientKey 5 0] } };
     let len := s.rd CUE.CAPLEN.val * 4096; let p := s.mem.capPos; let size := Cfg.capBytes s.live;
      i < 4096 ∧ s.ticking = true ∧ s.isDue 5 0 = true ∧ s.flag CUE.CAPCTL.MODE = false ∧ len < p + size) ∧
    (let i : Nat := 4095; let s : State := let s := served []; { s with mem := { s.mem with due := [clientKey 5 0] } };
      i < 4096 ∧ s.ticking = true ∧ s.isDue 5 0 = true) := by
  refine ⟨?_, ?_, ?_, ?_, ?_, ?_, ?_, ?_, ?_, ?_⟩
  all_goals decide

theorem witness_voices_and_capture_obey_their_commands :
    (let i : Iface := .pcie; let n : Nat := 255; let s : State := (served [(VT.EN 255, 1)]).setVoice 255 (Voice.reset);
      n < 256 ∧ s.hostReaches i CUE.VCMD = true ∧ s.flag (VT.EN n) = true) ∧
    (let i : Iface := .pcie; let n : Nat := 255; let s : State := (served []).setVoice 255 (Voice.reset);
      n < 256 ∧ s.hostReaches i CUE.VCMD = true ∧ s.flag (VT.EN n) = false) ∧
    (let i : Iface := .pcie; let n : Nat := 255; let s : State := (served []).setVoice 255 ({ Voice.reset with on := true }); let x := s.voice n;
      n < 256 ∧ s.hostReaches i CUE.VCMD = true ∧ x.on = true) ∧
    (let i : Iface := .pcie; let n : Nat := 255; let s : State := (served []).setVoice 255 ({ Voice.reset with start := some 1 }); let x := s.voice n;
      n < 256 ∧ s.hostReaches i CUE.VCMD = true ∧ x.on = false ∧ x.start.isSome = true) ∧
    (let n : Nat := 255; let f := 0; let s : State := (served []).setVoice 255 ({ Voice.reset with start := some 0, on := true }); let x := s.voice n;
      n < 256 ∧ x.start = some f ∧ x.on = true ∧ s.ticking = true ∧ futureTick f s.tick = false) ∧
    (let n : Nat := 255; let f := 0; let natural := true; let s : State := (served []).setVoice 255 ({ Voice.reset with ends := some (0, true) });
     let x := s.voice n;
      n < 256 ∧ x.ends = some (f, natural) ∧ futureTick f s.tick = false) ∧
    (let n : Nat := 255; let f := 2 ^ 32 - 1; let natural := false;
     let s : State := (served []).setVoice 255 ({ Voice.reset with ends := some (2 ^ 32 - 1, false) }); let x := s.voice n;
      n < 256 ∧ x.ends = some (f, natural) ∧ futureTick f s.tick = false) ∧
    (let i : Iface := .pcie; let n : Nat := 0; let v : Nat := 2 ^ 32 - 3; let s : State := served [(CUE.CAPCTL.EN, 1), (CUE.CAPSTAT.RUNNING, 1)];
      n < 256 ∧ v < 2 ^ 32 ∧ s.hostReaches i CUE.CAPCTL = true ∧ v.testBit 1 = false ∧ s.flag CUE.CAPCTL.EN = true ∧
        s.flag CUE.CAPSTAT.RUNNING = true) ∧
    (let i : Iface := .pcie; let n : Nat := 0; let v : Nat := 2 ^ 32 - 3; let s : State := served [(CUE.CAPCTL.EN, 1)];
      n < 256 ∧ v < 2 ^ 32 ∧ s.hostReaches i CUE.CAPCTL = true ∧ v.testBit 1 = false ∧ s.flag CUE.CAPCTL.EN = true ∧
        s.flag CUE.CAPSTAT.RUNNING = false) ∧
    (let i : Iface := .pcie; let n : Nat := 255; let v : Nat := 2 ^ 32 - 1; let s : State := (served []).setVoice 255 (Voice.reset);
      n < 256 ∧ v < 2 ^ 32 ∧ s.hostReaches i CUE.CAPCTL = true) := by
  refine ⟨?_, ?_, ?_, ?_, ?_, ?_, ?_, ?_, ?_, ?_⟩
  all_goals decide

theorem witness_barks_convergence_and_path_b :
    (let ws : List Nat := [0, 0]; let tag : List Nat := []; let s : State := served [(PAIR.CFG.EN, 1)];
     let en := s.flag PAIR.CFG.EN = true ∧ s.ticking = true;
      en ∧ s.packetGood ws tag = false) ∧
    (let ws : List Nat := [0, 0]; let skew : Int := -1000; let rtt : Nat := 2 ^ 32 - 1; let tag : List Nat := tagOfWords ws;
     let s : State := keyed [(PAIR.CFG.EN, 1)]; let en := s.flag PAIR.CFG.EN = true ∧ s.ticking = true;
      en ∧ s.packetGood ws tag = true ∧ ws.getD 1 0 = s.tick ∧ skew.natAbs ≤ 1000 ∧ rtt < 2 ^ 32) ∧
    (let s : State := let s := served [(PAIR.CFG.EN, 1)]; { s with clk := { s.clk with cycle := 20000 } }; let p := s.pair;
     let en := s.flag PAIR.CFG.EN = true ∧ s.ticking = true;
      en ∧ p.barkHere = false ∧ 20000 ≤ s.clk.cycle) ∧
    (let s : State := let s := served [(PAIR.CFG.EN, 1), (PAIR.STAT.PARTNER, 2), (PAIR.STAT.ROLE, 2)]; { s with pair := { s.pair with converge := some 0 } };
     let p := s.pair;
      s.partner = 2 ∧ ((s.role = 2 ∧ p.converge = some 0) ∨ (s.role = 1 ∧ p.syncedNew = true))) ∧
    (let s : State := let s := served [(PAIR.CFG.EN, 1), (PAIR.STAT.PARTNER, 2), (PAIR.STAT.ROLE, 1)]; { s with pair := { s.pair with syncedNew := true } };
     let p := s.pair;
      s.partner = 2 ∧ ((s.role = 2 ∧ p.converge = some 0) ∨ (s.role = 1 ∧ p.syncedNew = true))) ∧
    (let b := 0; let s : State := let s := served [(PAIR.CFG.EN, 1), (PAIR.STAT.ROLE, 1)]; { s with pair := { s.pair with txb := some 0 } };
     let p := s.pair;
      p.txb = some b ∧ s.role ≠ 0 ∧ futureTick b s.tick = false) ∧
    (let s : State := served [(PAIR.CFG.EN, 1), (PAIR.STAT.ROLE, 2), (PAIR.STAT.PARTNER, 1)]; let p := s.pair;
      s.role = 2 ∧ s.partner = 1 ∧ s.clk.phase = .work ∧ s.clk.cycle = 0 ∧ p.handed = false) := by
  refine ⟨?_, ?_, ?_, ?_, ?_, ?_, ?_⟩
  · decide
  · exact ⟨by decide, keyed_takes_tagged _ _, by decide, by decide, by decide⟩
  · decide
  · decide
  · decide
  · decide
  · decide

theorem witness_votes_and_roles_follow_the_shepherd :
    (let s : State := served [(PAIR.CFG.EN, 1), (PAIR.CFG.SHEP_MODE, 1)];
      s.shepherd = 1) ∧
    (let s : State := served [];
      s.shepherd ≠ 1) ∧
    (let s : State := served [(PAIR.CFG.EN, 1), (PAIR.CFG.SHEP_MODE, 2)];
      s.shepherd ≠ 1) ∧
    (let bytes : List Nat := []; let cause := 0; let s : State := served [(PAIR.CFG.EN, 1), (PAIR.CFG.SHEP_MODE, 2)];
      s.shepherd = 2 ∧ s.witnessBad bytes = some cause) ∧
    (let bytes : List Nat := vote ++ tagOf vote; let s : State := keyed [(PAIR.CFG.EN, 1), (PAIR.CFG.SHEP_MODE, 2)];
      s.shepherd = 2 ∧ s.witnessBad bytes = none) ∧
    (let side := 1; let t0 := 10 ^ 13;
     let s : State := let s := served [(PAIR.CFG.EN, 1), (PAIR.CFG.SHEP_MODE, 2)]; { s with pair := { s.pair with vote := some (1, some (10 ^ 13)) } };
     let p := s.pair;
      p.vote = some (side, some t0) ∧ t0 ≤ s.clk.now) ∧
    (let s : State := let s := served [(PAIR.CFG.EN, 1), (PAIR.CFG.SHEP_MODE, 1), (PAIR.STAT.ROLE, 2)]; { s with clk := { s.clk with cycle := nominalCycles s.tickLen s.fs - 2512 } };
     let p := s.pair;
      (s.shepherd = 1 ∨ s.shepherd = 2) ∧ p.sampled = false ∧ s.role = 2 ∧ s.clk.phase = .work ∧ nominalCycles s.tickLen s.fs ≤ s.clk.cycle + 2512) ∧
    (let s : State := guarded [(PAIR.CFG.EN, 1), (PAIR.CFG.SHEP_MODE, 2), (PAIR.STAT.ROLE, 1)]; let p := s.pair;
      (s.shepherd = 1 ∨ s.shepherd = 2) ∧ p.sampled = false ∧ s.role = 1 ∧ s.clk.phase = .guard) ∧
    (let s : State := let s := served [(GLB.STRAPS.PAIR_HINT, 1), (GLB.UNITCAP.PAIRLINK, 1)]; { s with clk := { s.clk with phase := .stopped } };
     let waits := s.boot.held = false ∧ s.pairHint = true ∧ s.ticking = false;
      waits ∧ s.boot.alone = false) ∧
    (let s : State := let s := served [(GLB.STRAPS.PAIR_HINT, 1), (GLB.UNITCAP.PAIRLINK, 1)]; { s with clk := { s.clk with phase := .stopped, now := 10 ^ 8 } };
     let waits := s.boot.held = false ∧ s.pairHint = true ∧ s.ticking = false;
      waits ∧ s.boot.hello = none ∧ 10 ^ 8 ≤ s.clk.now) := by
  refine ⟨?_, ?_, ?_, ?_, ?_, ?_, ?_, ?_, ?_, ?_⟩
  · decide
  · decide
  · decide
  · decide
  · exact ⟨by decide, vote_accepted⟩
  · decide
  · decide
  · decide
  · decide
  · decide

theorem witness_mirrored_entries_are_taken_and_forwarded_ones_journaled :
    (let ws : List Nat := [1, 2 ^ 28 + 0x40000, 2 ^ 32 - 1]; let tag : List Nat := [];
     let s : State := served [(PAIR.CFG.EN, 1), (PAIR.STAT.ROLE, 2), (PAIR.STAT.PARTNER, 3)];
      s.role = 2 ∧ s.paired = true ∧ s.packetGood ws tag = false) ∧
    (let ws : List Nat := [1, 2 ^ 28 + 0x40000, 2 ^ 32 - 1]; let tag : List Nat := tagOfWords ws;
     let s : State := keyed [(PAIR.CFG.EN, 1), (PAIR.STAT.ROLE, 2), (PAIR.STAT.PARTNER, 1)];
      s.role = 2 ∧ s.paired = true ∧ s.packetGood ws tag = true ∧ s.partner = 1) ∧
    (let ws : List Nat := [1, 2 ^ 28 + 0x40000, 2 ^ 32 - 1]; let tag : List Nat := tagOfWords ws;
     let s : State := keyed [(PAIR.CFG.EN, 1), (PAIR.STAT.ROLE, 2), (PAIR.STAT.PARTNER, 3)]; let w (i : Nat) := ws.getD i 0;
      s.role = 2 ∧ s.paired = true ∧ s.packetGood ws tag = true ∧ s.partner ≠ 1 ∧ w 1 / 2 ^ 29 = 0 ∧ bit (w 1) 28 = true ∧ bit (w 1) 27 = false) ∧
    (let tag : List Nat := []; let k : Nat := 0; let v : Nat := 0;
     let s : State := served [(PAIR.CFG.EN, 1), (PAIR.STAT.ROLE, 1), (PAIR.STAT.PARTNER, 1)];
      s.role = 1 ∧ s.paired = true ∧ s.packetGood [k, v] tag = false) ∧
    (let k : Nat := HIF.DRAPBASE; let v : Nat := 2 ^ 32 - 1; let tag : List Nat := tagOfWords [k, v];
     let s : State := keyed [(PAIR.CFG.EN, 1), (PAIR.STAT.ROLE, 1), (PAIR.STAT.PARTNER, 3)];
      s.role = 1 ∧ s.paired = true ∧ s.packetGood [k, v] tag = true ∧ localBlock k = true ∧ s.journalFull = false) ∧
    (let k : Nat := MON.TWARN; let v : Nat := 1; let tag : List Nat := tagOfWords [k, v];
     let s : State := keyed [(PAIR.CFG.EN, 1), (PAIR.STAT.ROLE, 1), (PAIR.STAT.PARTNER, 2), (GLB.JSTAT.FILL, 8190)];
      s.role = 1 ∧ s.paired = true ∧ s.packetGood [k, v] tag = true ∧ localBlock k = true ∧ s.journalFull = true) := by
  refine ⟨?_, ?_, ?_, ?_, ?_, ?_⟩
  · decide
  · exact ⟨by decide, by decide, keyed_takes_tagged _ _, by decide⟩
  · exact ⟨by decide, by decide, keyed_takes_tagged _ _, by decide, by decide, by decide, by decide⟩
  · decide
  · exact ⟨by decide, by decide, keyed_takes_tagged _ _, by decide, by decide⟩
  · exact ⟨by decide, by decide, keyed_takes_tagged _ _, by decide, by decide⟩

theorem witness_host_writes_reach_words_or_are_refused :
    (let i : Iface := .pcie; let bar : Nat := 2; let o : Nat := 2 ^ 16 - 4; let be : Nat := 16; let s : State := serving;
      bar < 3 ∧ o < barSize bar ∧ o % 4 = 0 ∧ s.ifaceEnabled i = true ∧ s.responds bar o = true ∧ be % 16 = 0) ∧
    (let i : Iface := .pcie; let bar : Nat := 0; let o : Nat := 0x14; let be : Nat := 0;
     let s : State := { State.reset with boot := { State.reset.boot with held := false } };
      bar < 3 ∧ o < barSize bar ∧ o % 4 = 0 ∧ s.ifaceEnabled i = true ∧ s.responds bar o = true ∧ be % 16 = 0) ∧
    (let i : Iface := .pcie; let bar : Nat := 2; let o : Nat := 2 ^ 16 - 4; let be : Nat := 1; let s : State := serving; let place := s.placeAt bar o;
      bar < 3 ∧ o < barSize bar ∧ o % 4 = 0 ∧ s.ifaceEnabled i = true ∧ s.responds bar o = true ∧ be % 16 ≠ 0 ∧ place = .unmapped) ∧
    (let i : Iface := .pcie; let bar : Nat := 0; let o : Nat := 0x180000; let be : Nat := 15; let s : State := serving; let place := s.placeAt bar o;
      bar < 3 ∧ o < barSize bar ∧ o % 4 = 0 ∧ s.ifaceEnabled i = true ∧ s.responds bar o = true ∧ be % 16 ≠ 0 ∧ place = .unmapped) ∧
    (let i : Iface := .pcie; let bar : Nat := 0; let o : Nat := 0x110000; let be : Nat := 15; let s : State := served [(GLB.UNITCAP.ASRC, 0)];
     let place := s.placeAt bar o;
      bar < 3 ∧ o < barSize bar ∧ o % 4 = 0 ∧ s.ifaceEnabled i = true ∧ s.responds bar o = true ∧ be % 16 ≠ 0 ∧ place ≠ .unmapped ∧
        s.removedPlace place = true) ∧
    (let i : Iface := .pcie; let bar : Nat := 0; let o : Nat := 0; let be : Nat := 14; let s : State := serving; let place := s.placeAt bar o;
      bar < 3 ∧ o < barSize bar ∧ o % 4 = 0 ∧ s.ifaceEnabled i = true ∧ s.responds bar o = true ∧ be % 16 ≠ 0 ∧ be % 16 ≠ 15 ∧ place ≠ .unmapped ∧
        s.removedPlace place = false) ∧
    (let i : Iface := .pcie; let bar : Nat := 1; let o : Nat := 0x60000; let be : Nat := 15; let k : Nat := 2 ^ 31 + 0x60000; let s : State := serving;
     let place := s.placeAt bar o;
      bar < 3 ∧ o < barSize bar ∧ o % 4 = 0 ∧ s.ifaceEnabled i = true ∧ s.responds bar o = true ∧ be % 16 = 15 ∧ place = .status k ∧
        s.removedPlace place = false) ∧
    (let i : Iface := .pcie; let bar : Nat := 1; let o : Nat := 0x40000; let be : Nat := 15; let v : Nat := 2 ^ 32 - 1; let k : Nat := BT.word 0 0;
     let s : State := serving; let place := s.placeAt bar o;
      bar < 3 ∧ o < barSize bar ∧ o % 4 = 0 ∧ s.ifaceEnabled i = true ∧ s.responds bar o = true ∧ be % 16 = 15 ∧ place = .shadowed k ∧
        s.removedPlace place = false ∧ s.standby = false ∧ s.hasRoom [(k, BitVec.ofNat 32 v)] = true) ∧
    (let i : Iface := .pcie; let k : Nat := GLB.COMMITAT; let f : RegFam := ⟨0x84, 1, 0x10000, 1, 0x10000, 0xFFFFFFFF, 0, 0, 0, 0, 0, 0, 0, []⟩;
     let n := 0; let s : State := serving;
      regAt k = some (f, n) ∧ f.rw ≠ 0 ∧ f.rws = 0 ∧ f.wo1 = 0 ∧ f.sq = 0 ∧ f.wp = 0 ∧ (k / 2 ^ 16 = 0 ∨ k / 2 ^ 16 = 3 ∨ k / 2 ^ 16 = 0x17) ∧
        s.hostReaches i k = true) := by
  refine ⟨?_, ?_, ?_, ?_, ?_, ?_, ?_, ?_, ?_⟩
  all_goals decide

theorem witness_sticky_bits_and_write_once_registers :
    (let i : Iface := .pcie; let k : Nat := REF.HIST; let v : Nat := 0x1F;
     let f : RegFam := ⟨0x44, 1, 0x10000, 1, 0x10000, 0, 0, 0, 0, 4278192127, 0, 0, 0, []⟩; let n : Nat := 0; let s : State := serving;
      regAt k = some (f, n) ∧ v < 2 ^ 32 ∧ s.hostReaches i k = true ∧ f.sq ≠ 0 ∧ k / 2 ^ 16 = 5) ∧
    (let i : Iface := .pcie; let k : Nat := HIF.HIST; let v : Nat := 0x1F;
     let f : RegFam := ⟨0x4, 1, 0x10000, 1, 0x10000, 0, 0, 0, 0, 4278190111, 0, 0, 0, []⟩; let n : Nat := 0; let s : State := serving;
     let w := s.word k;
      regAt k = some (f, n) ∧ v < 2 ^ 32 ∧ s.hostReaches i k = true ∧ f.sq ≠ 0 ∧ k / 2 ^ 16 ≠ 2 ∧ k / 2 ^ 16 ≠ 5 ∧ w.toNat / 2 ^ 24 = v / 2 ^ 24) ∧
    (let i : Iface := .pcie; let k : Nat := HIF.HIST; let v : Nat := 2 ^ 32 - 1;
     let f : RegFam := ⟨0x4, 1, 0x10000, 1, 0x10000, 0, 0, 0, 0, 4278190111, 0, 0, 0, []⟩; let n : Nat := 0;
     let s : State := served [(HIF.HIST.SEQ, 255)]; let w := s.word k;
      regAt k = some (f, n) ∧ v < 2 ^ 32 ∧ s.hostReaches i k = true ∧ f.sq ≠ 0 ∧ k / 2 ^ 16 ≠ 2 ∧ k / 2 ^ 16 ≠ 5 ∧ w.toNat / 2 ^ 24 = v / 2 ^ 24) ∧
    (let i : Iface := .pcie; let k : Nat := HIF.HIST; let v : Nat := 2 ^ 32 - 1;
     let f : RegFam := ⟨0x4, 1, 0x10000, 1, 0x10000, 0, 0, 0, 0, 4278190111, 0, 0, 0, []⟩; let n : Nat := 0; let s : State := serving;
     let w := s.word k;
      regAt k = some (f, n) ∧ v < 2 ^ 32 ∧ s.hostReaches i k = true ∧ f.sq ≠ 0 ∧ k / 2 ^ 16 ≠ 2 ∧ k / 2 ^ 16 ≠ 5 ∧ w.toNat / 2 ^ 24 ≠ v / 2 ^ 24) ∧
    (let i : Iface := .pcie; let k : Nat := EVT.HIST; let v : Nat := 3;
     let f : RegFam := ⟨0x18, 1, 0x10000, 1, 0x10000, 0, 0, 0, 0, 4278190083, 0, 0, 0, []⟩; let n : Nat := 0; let s : State := serving;
     let w := s.word k;
      regAt k = some (f, n) ∧ v < 2 ^ 32 ∧ s.hostReaches i k = true ∧ f.sq ≠ 0 ∧ k / 2 ^ 16 = 2 ∧ w.toNat / 2 ^ 24 = v / 2 ^ 24) ∧
    (let i : Iface := .pcie; let k : Nat := SEC.PAIRSALT 0; let v : Nat := 2 ^ 32 - 1;
     let f : RegFam := ⟨0x40, 4, 4, 1, 4, 0, 0, 0, 4294967295, 0, 0, 0, 0, []⟩; let n : Nat := 0; let s : State := serving;
      regAt k = some (f, n) ∧ v < 2 ^ 32 ∧ s.hostReaches i k = true ∧ f.wo1 ≠ 0 ∧ NatSet.has s.sec.once k = false ∧ k ≠ SEC.PAIRSALT 3) ∧
    (let i : Iface := .pcie; let k : Nat := SEC.PAIRSALT 3; let v : Nat := 0;
     let f : RegFam := ⟨0x40, 4, 4, 1, 4, 0, 0, 0, 4294967295, 0, 0, 0, 0, []⟩; let n : Nat := 3; let s : State := serving;
      regAt k = some (f, n) ∧ v < 2 ^ 32 ∧ s.hostReaches i k = true ∧ k = SEC.PAIRSALT 3 ∧ NatSet.has s.sec.once k = false) ∧
    (let i : Iface := .pcie; let k : Nat := SEC.PAIRSALT 3; let v : Nat := 7;
     let f : RegFam := ⟨0x40, 4, 4, 1, 4, 0, 0, 0, 4294967295, 0, 0, 0, 0, []⟩; let n : Nat := 3;
     let s : State := { serving with sec := { serving.sec with once := [SEC.PAIRSALT 3] } };
      regAt k = some (f, n) ∧ v < 2 ^ 32 ∧ s.hostReaches i k = true ∧ f.wo1 ≠ 0 ∧ NatSet.has s.sec.once k = true) := by
  refine ⟨?_, ?_, ?_, ?_, ?_, ?_, ?_, ?_⟩
  all_goals decide

theorem witness_spi_frames_write_read_or_fail :
    (let bytes : List Nat := [0x40]; let s : State := serving;
      s.spiMine bytes = false) ∧
    (let bytes : List Nat := []; let s : State := serving;
      s.spiMine bytes = false) ∧
    (let bytes : List Nat := [0x10]; let s : State := serving; let h := spiHead bytes; let m := 5 + 4 * h.count;
      s.spiMine bytes = true ∧ h.op = 1 ∧ bytes.length ≠ m + 2) ∧
    (let bytes : List Nat := [0x10, 0, 0, 0, 0x10, 1, 2, 3, 4, 0, 0]; let s : State := serving; let h := spiHead bytes; let m := 5 + 4 * h.count;
      s.spiMine bytes = true ∧ h.op = 1 ∧ bytes.length = m + 2 ∧ crc8 (bytes.take m) ≠ bytes.getD m 0) ∧
    (let bytes : List Nat := [0x10, 0, 0, 0, 0x10, 1, 2, 3, 4, crc8 [0x10, 0, 0, 0, 0x10, 1, 2, 3, 4], 0]; let s : State := serving;
     let h := spiHead bytes; let m := 5 + 4 * h.count;
      s.spiMine bytes = true ∧ h.op = 1 ∧ bytes.length = m + 2 ∧ crc8 (bytes.take m) = bytes.getD m 0 ∧ h.addrGood = true ∧ h.count = 1) ∧
    (let bytes : List Nat := [0, 0, 0, 0, 4, 0]; let s : State := serving; let h := spiHead bytes;
      s.spiMine bytes = true ∧ h.op = 0 ∧ 6 ≤ bytes.length ∧ crc8 (bytes.take 5) ≠ bytes.getD 5 0) ∧
    (let bytes : List Nat := [0x0F, 0, 0, 0, 4, crc8 [0x0F, 0, 0, 0, 4]] ++ List.replicate 66 0; let gap : Nat := 0; let s : State := serving;
     let h := spiHead bytes;
      s.spiMine bytes = true ∧ h.op = 0 ∧ 6 ≤ bytes.length ∧ crc8 (bytes.take 5) = bytes.getD 5 0 ∧ h.addrGood = true ∧
        bytes.length = 6 + gap + 4 * h.count + 2) ∧
    (let bytes : List Nat := [0, 3, 255, 255, 252, crc8 [0, 3, 255, 255, 252]] ++ List.replicate 21 0; let gap : Nat := 15; let s : State := serving;
     let h := spiHead bytes;
      s.spiMine bytes = true ∧ h.op = 0 ∧ 6 ≤ bytes.length ∧ crc8 (bytes.take 5) = bytes.getD 5 0 ∧ h.addrGood = true ∧
        bytes.length = 6 + gap + 4 * h.count + 2) := by
  refine ⟨?_, ?_, ?_, ?_, ?_, ?_, ?_, ?_⟩
  all_goals decide

theorem witness_dma_descriptors_and_doorbells :
    (let c : Nat := 7; let v : Nat := 2 ^ 32 - 1; let s : State := serving;
      c < 8 ∧ v < 2 ^ 32 ∧ s.ifaceOn 0 = true ∧ s.stage = 7) ∧
    (let c : Nat := 7; let desc : List Nat := []; let ws : List Nat := [0, 0, 0 * 2 ^ 30 + 0, 0, 3, 0, 0, 0];
     let s : State := (served [(HIF.DMA_CFG.EN 7, 1), (HIF.DMA_CFG.LOG2SIZE 7, 12)]).setDma 7 { cur := [0, 0, 0 * 2 ^ 30 + 0, 0, 3, 0, 0, 0], moved := 0, ready := 0 };
     let d := descriptorOf ws;
      s.dmaWork c desc = some ws ∧ d.len = 0) ∧
    (let c : Nat := 7; let desc : List Nat := []; let ws : List Nat := [0, 0, 3 * 2 ^ 30 + 0, 0, 4, 0, 0, 0];
     let s : State := (served [(HIF.DMA_CFG.EN 7, 1), (HIF.DMA_CFG.LOG2SIZE 7, 12)]).setDma 7 { cur := [0, 0, 3 * 2 ^ 30 + 0, 0, 4, 0, 0, 0], moved := 0, ready := 0 };
     let d := descriptorOf ws;
      s.dmaWork c desc = some ws ∧ d.len ≠ 0 ∧ d.space = 3) ∧
    (let c : Nat := 7; let desc : List Nat := []; let ws : List Nat := [0, 0, 0 * 2 ^ 30 + 0, 4092, 4, 0, 0, 0];
     let s : State := (served [(HIF.DMA_CFG.EN 7, 1), (HIF.DMA_CFG.LOG2SIZE 7, 12), (DRAM.STAT.USABLE, 1)]).setDma 7 { cur := [0, 0, 0 * 2 ^ 30 + 0, 4092, 4, 0, 0, 0], moved := 0, ready := 0 };
     let d := descriptorOf ws;
      s.dmaWork c desc = some ws ∧ d.len ≠ 0 ∧ d.space = 0 ∧ s.flag GLB.UNITCAP.DRAMCTL = true ∧ d.addr + d.len ≤ s.rd DRAM.STAT.USABLE * 4096) ∧
    (let c : Nat := 7; let desc : List Nat := [0, 0, 0 * 2 ^ 30 + 0, 0, 4, 0, 0, 0]; let ws : List Nat := [0, 0, 0 * 2 ^ 30 + 0, 0, 4, 0, 0, 0];
     let s : State := (served [(HIF.DMA_CFG.EN 7, 1), (HIF.DMA_CFG.LOG2SIZE 7, 12), (DRAM.STAT.USABLE, 1)]).setDma 7 { cur := [], moved := 0, ready := 1 };
     let d := descriptorOf ws;
      s.dmaWork c desc = some ws ∧ d.len ≠ 0 ∧ d.space = 0 ∧ s.flag GLB.UNITCAP.DRAMCTL = true ∧ d.addr + d.len ≤ s.rd DRAM.STAT.USABLE * 4096) ∧
    (let c : Nat := 7; let desc : List Nat := []; let packet : List Nat := [8, 0]; let ws : List Nat := [0, 0, 1 * 2 ^ 30 + 47, 0, 16, 0, 0, 0];
     let s : State := (served [(HIF.DMA_CFG.EN 7, 1), (HIF.DMA_CFG.LOG2SIZE 7, 12)]).setDma 7 { cur := [0, 0, 1 * 2 ^ 30 + 47, 0, 16, 0, 0, 0], moved := 0, ready := 0 };
     let d := descriptorOf ws; let x := s.dmaCh c; let len := headerLen (packet.headD 0); let k := s.kennel d.kennel;
      s.dmaWork c desc = some ws ∧ d.space = 1 ∧ d.toHost = false ∧ hostPushes d.kennel = true ∧ 0 < len ∧ len ≤ 9216 ∧
        packet.length = packetWords len ∧ x.moved + 8 * packet.length ≤ d.len ∧ s.kennelRoom d.kennel packet.length = true ∧ k.ignoring = false ∧
        k.cur = []) ∧
    (let c : Nat := 7; let desc : List Nat := []; let packet : List Nat := 9216 :: List.replicate 1152 0;
     let ws : List Nat := [0, 0, 1 * 2 ^ 30 + 24, 0, 9224, 0, 0, 0];
     let s : State := (served [(HIF.DMA_CFG.EN 7, 1), (HIF.DMA_CFG.LOG2SIZE 7, 12)]).setDma 7 { cur := [0, 0, 1 * 2 ^ 30 + 24, 0, 9224, 0, 0, 0], moved := 0, ready := 0 };
     let d := descriptorOf ws; let x := s.dmaCh c; let len := headerLen (packet.headD 0); let k := s.kennel d.kennel;
      s.dmaWork c desc = some ws ∧ d.space = 1 ∧ d.toHost = false ∧ hostPushes d.kennel = true ∧ 0 < len ∧ len ≤ 9216 ∧
        packet.length = packetWords len ∧ x.moved + 8 * packet.length ≤ d.len ∧ s.kennelRoom d.kennel packet.length = true ∧ k.ignoring = false ∧
        k.cur = []) := by
  refine ⟨?_, ?_, ?_, ?_, ?_, ?_, ?_⟩
  all_goals decide

theorem witness_log_records_are_written_and_consumed :
    (let r : Report := { code := 0x0101, source := 0, data := 0, tick := 0, ns := 0, rep := 0, at_ := 0 }; let rest : List Report := [];
     let s : State := let s := served []; { s with evt := { s.evt with waiting := [r] } };
      s.evt.waiting = r :: rest ∧ s.evt.freeAt ≤ s.clk.now ∧ s.logFull = false ∧ (s.evt.gap = 0 ∨ s.evt.afterGap = true)) ∧
    (let r : Report := { code := 0x0101, source := 0, data := 0, tick := 0, ns := 0, rep := 0, at_ := 0 }; let rest : List Report := [];
     let s : State := let s := served [(EVT.WRSEQ.val, 1023)]; { s with evt := { s.evt with waiting := [r], gap := 3, afterGap := true } };
      s.evt.waiting = r :: rest ∧ s.evt.freeAt ≤ s.clk.now ∧ s.logFull = false ∧ (s.evt.gap = 0 ∨ s.evt.afterGap = true)) ∧
    (let r : Report := { code := 0x0101, source := 0, data := 0, tick := 0, ns := 0, rep := 0, at_ := 0 }; let rest : List Report := [];
     let s : State := let s := served [(EVT.WRSEQ.val, 1022)]; { s with evt := { s.evt with waiting := [r], gap := 3 } };
      s.evt.waiting = r :: rest ∧ s.evt.freeAt ≤ s.clk.now ∧ s.logFull = false ∧ s.evt.gap ≠ 0 ∧ s.evt.afterGap = false) ∧
    (let r : Report := { code := 0x0101, source := 0, data := 0, tick := 0, ns := 0, rep := 0, at_ := 0 }; let rest : List Report := [];
     let s : State := let s := served [(EVT.WRSEQ.val, 1023), (EVT.CTL.POLICY, 0)]; { s with evt := { s.evt with waiting := [r] } };
      s.evt.waiting = r :: rest ∧ s.evt.freeAt ≤ s.clk.now ∧ s.logFull = true ∧ s.flag EVT.CTL.POLICY = false) ∧
    (let r : Report := { code := 0x0101, source := 0, data := 0, tick := 0, ns := 0, rep := 0, at_ := 0 }; let rest : List Report := [];
     let s : State := let s := served [(EVT.WRSEQ.val, 1023), (EVT.CTL.POLICY, 1)]; { s with evt := { s.evt with waiting := [r] } };
      s.evt.waiting = r :: rest ∧ s.evt.freeAt ≤ s.clk.now ∧ s.logFull = true ∧ s.flag EVT.CTL.POLICY = true) ∧
    (let r : Report := { code := 0x0101, source := 0, data := 0, tick := 0, ns := 0, rep := 0, at_ := 0 }; let rest : List Report := [];
     let s : State := let s := served [(EVT.WRSEQ.val, 1024), (EVT.CTL.POLICY, 1)]; { s with evt := { s.evt with waiting := [r], afterGap := true } };
      s.evt.waiting = r :: rest ∧ s.evt.freeAt ≤ s.clk.now ∧ s.logFull = true ∧ s.flag EVT.CTL.POLICY = true) ∧
    (let i : Iface := .pcie; let v : Nat := 2 ^ 32 - 1025; let s : State := serving; let q := s.rd EVT.WRSEQ.val;
     let unread (w : Nat) : Nat := (q + 2 ^ 32 - w) % 2 ^ 32;
      v < 2 ^ 32 ∧ s.hostReaches i EVT.RDSEQ = true ∧ 1024 < unread v) ∧
    (let i : Iface := .pcie; let v : Nat := 2 ^ 32 - 1024; let s : State := serving; let q := s.rd EVT.WRSEQ.val;
     let unread (w : Nat) : Nat := (q + 2 ^ 32 - w) % 2 ^ 32;
      v < 2 ^ 32 ∧ s.hostReaches i EVT.RDSEQ = true ∧ unread v ≤ 1024) ∧
    (let i : Iface := .pcie; let v : Nat := 0; let s : State := serving; let q := s.rd EVT.WRSEQ.val;
     let unread (w : Nat) : Nat := (q + 2 ^ 32 - w) % 2 ^ 32;
      v < 2 ^ 32 ∧ s.hostReaches i EVT.RDSEQ = true ∧ unread v ≤ 1024) := by
  refine ⟨?_, ?_, ?_, ?_, ?_, ?_, ?_, ?_, ?_⟩
  all_goals decide

theorem witness_debug_opening_and_attestation :
    (let i : Iface := .pcie; let s : State := let s := served []; { s with fuse := { s.fuse with lc := 1 } };
      s.hostReaches i SEC.DBGCTL = true ∧ s.openable = true ∧ s.flag SEC.DBGLOCK.LOCK = false) ∧
    (let i : Iface := .pcie; let s : State := let s := served []; { s with fuse := { s.fuse with lc := 2 } };
      s.hostReaches i SEC.DBGCTL = true ∧ s.openable = true ∧ s.flag SEC.DBGLOCK.LOCK = false) ∧
    (let i : Iface := .pcie; let s : State := let s := served []; { s with fuse := { s.fuse with lc := 3 } };
      s.hostReaches i SEC.DBGCTL = true ∧ (s.openable = false ∨ s.flag SEC.DBGLOCK.LOCK = true)) ∧
    (let i : Iface := .pcie; let s : State := let s := served []; { s with fuse := { s.fuse with lc := 0 } };
      s.hostReaches i SEC.DBGCTL = true ∧ (s.openable = false ∨ s.flag SEC.DBGLOCK.LOCK = true)) ∧
    (let i : Iface := .pcie; let s : State := let s := served [(SEC.DBGLOCK.LOCK, 1)]; { s with fuse := { s.fuse with lc := 2 } };
      s.hostReaches i SEC.DBGCTL = true ∧ (s.openable = false ∨ s.flag SEC.DBGLOCK.LOCK = true)) ∧
    (let i : Iface := .pcie; let s : State := let s := served []; { s with fuse := { s.fuse with lc := 1 } };
      s.hostReaches i SEC.DBGCTL = true ∧ s.upd.burn = []) ∧
    (let t0 := 10 ^ 13 - 60 * 10 ^ 9;
     let s : State := let s := served []; { s with fuse := { s.fuse with lc := 1 }, sec := { s.sec with nonceAt := some (10 ^ 13 - 60 * 10 ^ 9) } };
     let late (t0 : Nat) : Prop := t0 + 60 * 10 ^ 9 ≤ s.clk.now;
      s.sec.nonceAt = some t0 ∧ late t0) ∧
    (let i : Iface := .pcie; let s : State := let s := served []; { s with fuse := { s.fuse with lc := 1 } };
      s.hostReaches i SEC.ATTCTL = true) ∧
    (let s : State := let s := served []; { s with fuse := { s.fuse with lc := 1 }, sec := { s.sec with attest := true } };
      s.sec.attest = true) := by
  refine ⟨?_, ?_, ?_, ?_, ?_, ?_, ?_, ?_, ?_⟩
  all_goals decide

theorem witness_host_images_are_offered_and_transferred :
    (let i : Iface := .spi; let s : State := let s := served []; { s with upd := { s.upd with polledAt := 0 } };
      s.hostReaches i UPD.HCMD = true ∧ s.claim = 0) ∧
    (let i : Iface := .spi; let s : State := let s := served [(UPD.STAT.SRC, 3)]; { s with upd := { s.upd with polledAt := 0 } };
      s.hostReaches i UPD.HCMD = true ∧ s.claim = 3 ∧ s.upd.waiting = none) ∧
    (let i : Iface := .spi; let s : State := let s := served [(UPD.STAT.SRC, 1)]; { s with upd := { s.upd with polledAt := 0 } };
      s.hostReaches i UPD.HCMD = true ∧ (s.claim = 1 ∨ s.claim = 2 ∨ (s.claim = 3 ∧ s.upd.waiting ≠ none))) ∧
    (let i : Iface := .spi; let s : State := let s := served [(UPD.STAT.SRC, 3)]; { s with upd := { s.upd with polledAt := 0, waiting := some 0 } };
      s.hostReaches i UPD.HCMD = true ∧ (s.claim = 1 ∨ s.claim = 2 ∨ (s.claim = 3 ∧ s.upd.waiting ≠ none))) ∧
    (let i : Iface := .spi; let n : Nat := 8191;
     let s : State := let s := served [(UPD.STAT.SRC, 2), (UPD.STAT.STAGE, 1), (UPD.STAT.NEXTBLK, 8191)]; { s with upd := { s.upd with polledAt := 0 } };
     let a := match i with | .pcie => 0 | .spi => 1; let open_ := s.receiving a && s.upd.busy.isNone;
      s.hostReaches i UPD.HCMD = true ∧ open_ = true ∧ s.rd UPD.STAT.NEXTBLK = n % 2 ^ 13) ∧
    (let i : Iface := .pcie; let n : Nat := 0;
     let s : State := let s := served [(UPD.STAT.SRC, 1), (UPD.STAT.STAGE, 1)]; { s with upd := { s.upd with polledAt := 0 } };
     let a := match i with | .pcie => 0 | .spi => 1; let open_ := s.receiving a && s.upd.busy.isNone;
      s.hostReaches i UPD.HCMD = true ∧ open_ = true ∧ s.rd UPD.STAT.NEXTBLK = n % 2 ^ 13) ∧
    (let i : Iface := .spi; let n : Nat := 0;
     let s : State := let s := served [(UPD.STAT.SRC, 1), (UPD.STAT.STAGE, 1)]; { s with upd := { s.upd with polledAt := 0 } };
     let a := match i with | .pcie => 0 | .spi => 1; let open_ := s.receiving a && s.upd.busy.isNone;
      s.hostReaches i UPD.HCMD = true ∧ (open_ = false ∨ s.rd UPD.STAT.NEXTBLK ≠ n % 2 ^ 13)) ∧
    (let i : Iface := .spi; let n : Nat := 1;
     let s : State := let s := served [(UPD.STAT.SRC, 2), (UPD.STAT.STAGE, 1)]; { s with upd := { s.upd with polledAt := 0 } };
     let a := match i with | .pcie => 0 | .spi => 1; let open_ := s.receiving a && s.upd.busy.isNone;
      s.hostReaches i UPD.HCMD = true ∧ (open_ = false ∨ s.rd UPD.STAT.NEXTBLK ≠ n % 2 ^ 13)) ∧
    (let i : Iface := .spi; let s : State := let s := served [(UPD.STAT.SRC, 2), (UPD.STAT.STAGE, 1)]; { s with upd := { s.upd with polledAt := 0 } };
     let a := match i with | .pcie => 0 | .spi => 1; let open_ := s.receiving a && s.upd.busy.isNone;
      s.hostReaches i UPD.HCMD = true ∧ open_ = true) ∧
    (let i : Iface := .spi;
     let s : State := let s := served [(UPD.STAT.SRC, 2), (UPD.STAT.STAGE, 1)]; { s with upd := { s.upd with polledAt := 0, busy := some 0 } };
     let a := match i with | .pcie => 0 | .spi => 1; let open_ := s.receiving a && s.upd.busy.isNone;
      s.hostReaches i UPD.HCMD = true ∧ open_ = false) ∧
    (let i : Iface := .spi; let s : State := let s := served [(UPD.STAT.SRC, 2), (UPD.STAT.STAGE, 2)]; { s with upd := { s.upd with polledAt := 0 } };
     let a := match i with | .pcie => 0 | .spi => 1;
      s.hostReaches i UPD.HCMD = true ∧ s.upd.waiting ≠ some a ∧ s.claim = a + 1 ∧ (s.staging = 1 ∨ s.staging = 2)) ∧
    (let i : Iface := .pcie; let s : State := let s := served [(UPD.STAT.SRC, 1), (UPD.STAT.STAGE, 1)]; { s with upd := { s.upd with polledAt := 0 } };
     let a := match i with | .pcie => 0 | .spi => 1;
      s.hostReaches i UPD.HCMD = true ∧ s.upd.waiting ≠ some a ∧ s.claim = a + 1 ∧ (s.staging = 1 ∨ s.staging = 2)) ∧
    (let i : Iface := .spi; let s : State := let s := served [(UPD.STAT.SRC, 3)]; { s with upd := { s.upd with polledAt := 0, waiting := some 1 } };
     let a := match i with | .pcie => 0 | .spi => 1;
      s.hostReaches i UPD.HCMD = true ∧ s.upd.waiting = some a) := by
  refine ⟨?_, ?_, ?_, ?_, ?_, ?_, ?_, ?_, ?_, ?_, ?_, ?_, ?_⟩
  all_goals decide

theorem witness_staged_blocks_verification_and_burns :
    (let b : Nat := 8191;
     let s : State := let s := served [(UPD.STAT.SRC, 1), (UPD.STAT.STAGE, 1)]; { s with upd := { s.upd with polledAt := 0, busy := some 8191 } };
     let apart := s.upd.fuse || s.upd.host;
      s.upd.busy = some b ∧ s.upd.waiting = none ∧ s.claim ≠ 3 ∧ apart = false ∧ s.supplyOk = false) ∧
    (let b : Nat := 0;
     let s : State := let s := served [(UPD.STAT.SRC, 1), (UPD.STAT.STAGE, 1)]; { s with upd := { s.upd with polledAt := 0, busy := some 0 }, mon := { s.mon with holdup := true } };
     let apart := s.upd.fuse || s.upd.host;
      s.upd.busy = some b ∧ s.upd.waiting = none ∧ s.claim ≠ 3 ∧ apart = false ∧ s.supplyOk = true) ∧
    (let b : Nat := 0;
     let s : State := let s := served [(UPD.STAT.SRC, 1), (UPD.STAT.STAGE, 1)]; { s with upd := { s.upd with polledAt := 0, busy := some 0, fuse := true } };
     let apart := s.upd.fuse || s.upd.host;
      s.upd.busy = some b ∧ s.upd.waiting = none ∧ s.claim ≠ 3 ∧ apart = true) ∧
    (let b : Nat := 0;
     let s : State := let s := served [(UPD.STAT.SRC, 1), (UPD.STAT.STAGE, 1)]; { s with upd := { s.upd with polledAt := 0, busy := some 0, host := true } };
     let apart := s.upd.fuse || s.upd.host;
      s.upd.busy = some b ∧ s.upd.waiting = none ∧ s.claim ≠ 3 ∧ apart = true) ∧
    (let s : State := let s := served [(UPD.STAT.SRC, 1), (UPD.STAT.STAGE, 2)]; { s with upd := { s.upd with polledAt := 0, bad := true } };
      s.staging = 2 ∧ s.upd.waiting = none ∧ s.upd.bad = true) ∧
    (let s : State := let s := served [(UPD.STAT.SRC, 1), (UPD.STAT.STAGE, 2)]; { s with upd := { s.upd with polledAt := 0 } };
      s.staging = 2 ∧ s.upd.waiting = none ∧ s.upd.bad = false) ∧
    (let s : State := let s := served [(UPD.STAT.STAGE, 6)]; { s with upd := { s.upd with polledAt := 0 } };
      s.staging = 6) := by
  refine ⟨?_, ?_, ?_, ?_, ?_, ?_, ?_⟩
  all_goals decide

theorem witness_owner_lock_rollback_and_partner :
    (let i : Iface := .spi; let v : Nat := 2 ^ 28; let s : State := let s := served []; { s with upd := { s.upd with polledAt := 0 } };
      v < 2 ^ 32 ∧ s.hostReaches i UPD.CTL = true ∧ v.testBit 27 = false) ∧
    (let i : Iface := .spi; let v : Nat := 2 ^ 27; let s : State := let s := served []; { s with upd := { s.upd with polledAt := 0 } };
      v < 2 ^ 32 ∧ s.hostReaches i UPD.CTL = true ∧ v.testBit 28 = false) ∧
    (let i : Iface := .spi; let s : State := let s := served []; { s with upd := { s.upd with polledAt := 0 }, mon := { s.mon with holdup := true } };
      s.hostReaches i UPD.ARB = true ∧ s.supplyOk = true) ∧
    (let i : Iface := .spi; let s : State := let s := served []; { s with upd := { s.upd with polledAt := 0 } };
      s.hostReaches i UPD.ARB = true ∧ s.supplyOk = false) ∧
    (let i : Iface := .spi;
     let s : State := let s := served [(MON.RAIL.LOW 8, 1)]; { s with upd := { s.upd with polledAt := 0 }, mon := { s.mon with holdup := true } };
      s.hostReaches i UPD.ARB = true ∧ s.supplyOk = false) ∧
    (let s : State := let s := served [(PAIR.STAT.PARTNER, 1)]; { s with upd := { s.upd with polledAt := 0 } };
      s.paired = true) ∧
    (let s : State := let s := served [(PAIR.STAT.PARTNER, 3)]; { s with upd := { s.upd with polledAt := 0 } };
      s.paired = true) := by
  refine ⟨?_, ?_, ?_, ?_, ?_, ?_, ?_⟩
  all_goals decide

theorem witness_chain_fetches_and_serves_images :
    (let s : State := let s := served [(UPD.CHAINCFG.EN, 1), (UPD.POLL.val, 10000)]; { s with upd := { s.upd with polledAt := 0 } };
      s.runtime = true ∧ s.flag UPD.CHAINCFG.EN = true ∧ s.upd.polledAt + s.rd UPD.POLL.val * 10 ^ 9 ≤ s.clk.now) ∧
    (let header : List Nat := List.replicate 12 0 ++ [1, 0, 0, 0] ++ List.replicate 496 0;
     let s : State := let s := served [(UPD.CHAINCFG.EN, 1), (UPD.STAT.SRC, 1)]; { s with upd := { s.upd with polledAt := 0 } };
     let h : List Byte := header.map (BitVec.ofNat 8);
      s.runtime = true ∧ s.flag UPD.CHAINCFG.EN = true ∧ s.rd UPD.ACTVER.val < hdrVersion h ∧ s.rd UPD.STGVER.val < hdrVersion h ∧ s.claim ≠ 0) ∧
    (let header : List Nat := List.replicate 12 0 ++ [1, 0, 0, 0] ++ List.replicate 496 0;
     let s : State := let s := served [(UPD.CHAINCFG.EN, 1)]; { s with upd := { s.upd with polledAt := 0 } };
     let h : List Byte := header.map (BitVec.ofNat 8);
      s.runtime = true ∧ s.flag UPD.CHAINCFG.EN = true ∧ s.rd UPD.ACTVER.val < hdrVersion h ∧ s.rd UPD.STGVER.val < hdrVersion h ∧ s.claim = 0) ∧
    (let k : Nat := 3;
     let s : State := let s := served [(UPD.STAT.SRC, 3), (UPD.STAT.STAGE, 1)]; { s with upd := { s.upd with polledAt := 0, asked := [(3, (0, 0))] } };
      s.claim = 3 ∧ s.staging = 1 ∧ (Store.find s.upd.asked k).isSome = true) ∧
    (let k : Nat := 3; let fails := 6; let t0 := 10 ^ 13 - 2 * 10 ^ 7;
     let s : State := let s := served [(UPD.STAT.SRC, 3), (UPD.STAT.STAGE, 1)]; { s with upd := { s.upd with polledAt := 0, asked := [(3, (6, 10 ^ 13 - 2 * 10 ^ 7))] } };
      Store.find s.upd.asked k = some (fails, t0) ∧ t0 + 2 * 10 ^ 7 ≤ s.clk.now ∧ fails < 7) ∧
    (let k : Nat := 3; let fails := 7; let t0 := 0;
     let s : State := let s := served [(UPD.STAT.SRC, 3), (UPD.STAT.STAGE, 1)]; { s with upd := { s.upd with polledAt := 0, asked := [(3, (7, 0))] } };
      Store.find s.upd.asked k = some (fails, t0) ∧ t0 + 2 * 10 ^ 7 ≤ s.clk.now ∧ 7 ≤ fails ∧ s.upd.waiting = none) ∧
    (let s : State := let s := served []; { s with upd := { s.upd with polledAt := 0 }, flash := { s.flash with boot0 := { s.flash.boot0 with good := true, stage := 3 } } };
     let here := s.flash.record.stage = 3 ∨ s.flash.record.stage = 5;
      s.runtime = true ∧ here) ∧
    (let s : State := let s := served [(GLB.BOOTSTAT.STAGE, 6)]; { s with upd := { s.upd with polledAt := 0 }, flash := { s.flash with boot0 := { s.flash.boot0 with good := true, stage := 5 } } };
     let here := s.flash.record.stage = 3 ∨ s.flash.record.stage = 5;
      s.runtime = true ∧ here) ∧
    (let s : State := let s := served []; { s with upd := { s.upd with polledAt := 0 } };
     let here := s.flash.record.stage = 3 ∨ s.flash.record.stage = 5;
      s.runtime = true ∧ (¬ here)) := by
  refine ⟨?_, ?_, ?_, ?_, ?_, ?_, ?_, ?_, ?_⟩
  all_goals decide

theorem witness_resets_and_the_first_tick :
    (let s : State := State.reset;
      s.boot.held = true ∧ s.openingLeft = false ∧ s.boot.hot = false) ∧
    (let n : Nat := 0;
     let s : State := let s := served [(SYN.APLL_STAT.STATE 2, 3), (SYN.APLL_STAT.STATE 3, 3)]; { s with clk := { s.clk with phase := .stopped, now := 10 ^ 4 } };
      s.boot.ready = true ∧ s.clk.phase = .stopped ∧ s.apll 2 = 3 ∧ s.apll 3 = 3 ∧ s.firstIndex = some n) ∧
    (let n : Nat := 0;
     let s : State := let s := served [(SYN.APLL_STAT.STATE 2, 3), (SYN.APLL_STAT.STATE 3, 3), (GLB.STRAPS.PAIR_HINT, 1), (GLB.UNITCAP.PAIRLINK, 1)]; { s with clk := { s.clk with phase := .stopped, now := 10 ^ 4 }, boot := { s.boot with hello := some (0, true, 2 ^ 32 - 1) } };
      s.boot.ready = true ∧ s.clk.phase = .stopped ∧ s.apll 2 = 3 ∧ s.apll 3 = 3 ∧ s.firstIndex = some n) := by
  refine ⟨?_, ?_, ?_⟩
  all_goals decide

theorem witness_rom_verifies_copies_and_hands_over :
    (let s : State := let s := served [(GLB.BOOTSTAT.STAGE, 2)]; { s with flash := { s.flash with boot0 := { s.flash.boot0 with good := true } }, boot := { s.boot with alone := false } };
      s.stage = 2 ∧ s.copyCalled = false) ∧
    (let s : State := let s := served [(GLB.BOOTSTAT.STAGE, 2)]; { s with flash := { s.flash with boot0 := { s.flash.boot0 with good := true, copying := true } }, boot := { s.boot with alone := false } };
      s.stage = 2 ∧ s.copyCalled = true) ∧
    (let s : State := let s := served [(GLB.BOOTSTAT.STAGE, 2)]; { s with flash := { s.flash with boot0 := { s.flash.boot0 with good := true, stage := 3 } }, boot := { s.boot with alone := false }, mon := { s.mon with holdup := true } };
      s.stage = 2 ∧ s.copyCalled = true) ∧
    (let s : State := let s := served [(GLB.BOOTSTAT.STAGE, 3)]; { s with flash := { s.flash with boot0 := { s.flash.boot0 with good := true } }, boot := { s.boot with alone := false }, mon := { s.mon with holdup := true } };
      s.stage = 3 ∧ s.mon.holdup = true ∧ s.flag UPD.STAT.RECOVERY = false) ∧
    (let s : State := let s := served [(GLB.BOOTSTAT.STAGE, 3), (UPD.STAT.RECOVERY, 1)]; { s with flash := { s.flash with boot0 := { s.flash.boot0 with good := true } }, boot := { s.boot with alone := false }, mon := { s.mon with holdup := true } };
      s.stage = 3 ∧ s.mon.holdup = true ∧ s.flag UPD.STAT.RECOVERY = true) ∧
    (let s : State := let s := served [(GLB.BOOTSTAT.STAGE, 6)]; { s with flash := { s.flash with boot0 := { s.flash.boot0 with good := true } }, boot := { s.boot with alone := false } };
      (s.stage = 6 ∨ s.stage = 7)) ∧
    (let s : State := let s := served []; { s with flash := { s.flash with boot0 := { s.flash.boot0 with good := true } }, boot := { s.boot with alone := false } };
      (s.stage = 6 ∨ s.stage = 7)) ∧
    (let t0 : Nat := 10 ^ 13 - 4 * 10 ^ 9;
     let s : State := let s := served []; { s with flash := { s.flash with boot0 := { s.flash.boot0 with good := true } }, boot := { s.boot with alone := false, watch := some (10 ^ 13 - 4 * 10 ^ 9) } };
      s.boot.watch = some t0 ∧ t0 + 4 * 10 ^ 9 ≤ s.clk.now) ∧
    (let s : State := let s := served []; { s with flash := { s.flash with boot0 := { s.flash.boot0 with good := true } }, boot := { s.boot with alone := false } };
      (s.boot.held = true ∨ s.openingLeft = false)) ∧
    (let s : State := State.reset;
      (s.boot.held = true ∨ s.openingLeft = false)) ∧
    (let s : State := { serving with fuse := { serving.fuse with zeroized := true, lc := 2 } };
      s.boot.held = false ∧ s.openingLeft = true ∧ s.upd.burn = []) := by
  refine ⟨?_, ?_, ?_, ?_, ?_, ?_, ?_, ?_, ?_, ?_, ?_⟩
  all_goals decide

theorem witness_monitor_measures_warns_and_trips :
    (let k : Nat := 0; let mv : Nat := 0; let long : Bool := true; let s : State := serving; let r := s.railRange k;
     let trip := mv * 100 + 3 * r.2.1 < r.1 * 100 ∨ r.2.2 * 100 + 3 * r.2.1 < mv * 100;
      s.boot.held = false ∧ k < 9 ∧ long = true ∧ trip) ∧
    (let k : Nat := 8; let mv : Nat := 3000; let long : Bool := true; let s : State := serving; let r := s.railRange k;
     let trip := mv * 100 + 3 * r.2.1 < r.1 * 100 ∨ r.2.2 * 100 + 3 * r.2.1 < mv * 100;
      s.boot.held = false ∧ k < 9 ∧ long = true ∧ trip) ∧
    (let k : Nat := 8; let mv : Nat := 1710; let long : Bool := true; let s : State := serving; let r := s.railRange k;
     let trip := mv * 100 + 3 * r.2.1 < r.1 * 100 ∨ r.2.2 * 100 + 3 * r.2.1 < mv * 100;
      s.boot.held = false ∧ k < 9 ∧ (long = false ∨ ¬ trip)) ∧
    (let k : Nat := 0; let mv : Nat := 0; let long : Bool := false; let s : State := serving; let r := s.railRange k;
     let trip := mv * 100 + 3 * r.2.1 < r.1 * 100 ∨ r.2.2 * 100 + 3 * r.2.1 < mv * 100;
      s.boot.held = false ∧ k < 9 ∧ (long = false ∨ ¬ trip)) ∧
    (let tj : Int := 1151; let s : State := serving;
      s.boot.held = false ∧ 1150 < tj ∧ s.boot.hot = false) ∧
    (let tj : Int := 1150; let s : State := serving;
      s.boot.held = false ∧ tj ≤ 1150 ∧ -32768 ≤ tj ∧ s.boot.hot = false) ∧
    (let tj : Int := -32768; let s : State := serving;
      s.boot.held = false ∧ tj ≤ 1150 ∧ -32768 ≤ tj ∧ s.boot.hot = false) ∧
    (let s : State := { serving with mon := { serving.mon with holdup := true } };
      s.boot.held = false ∧ s.mon.holdup = true) ∧
    (let s : State := serving;
      s.boot.held = false) := by
  refine ⟨?_, ?_, ?_, ?_, ?_, ?_, ?_, ?_, ?_⟩
  all_goals decide

/-! ## Witnesses of the statements about every command -/

/-- The block in service with one command waiting. -/
def waiting (c : Instr) : State := { serving with pending := [c] }

theorem witness_step_takes_the_front_command :
    (waiting .patchGatherComplete).pending = [.patchGatherComplete] ∧
    step (waiting .patchGatherComplete) = .next { serving with gathered := true } ∧
    serving.pending = [] := ⟨rfl, rfl, rfl⟩

theorem witness_every_step_keeps_the_stores_canonical :
    (waiting .patchGatherComplete).canonical = true ∧ step (waiting .patchGatherComplete) = .next { serving with gathered := true } :=
  ⟨by decide, rfl⟩

theorem witness_genah_decode_and_encode_agree :
    (Genah.vdith 15 15 (.scalar 31) 31 24 true).wf = true ∧ (Genah.br 9 65535).wf = true ∧ (Genah.loopr 31 1023 2047).wf = true ∧
    (Genah.vst 15 (.sxm 15 (.imm (-256))) 31).wf = true ∧ (0x60600041 : Nat) < 2 ^ 32 ∧
    Genah.decode 0x60600041 = some (.hset 1 true 0 0x41) := by decide

/-- An engine whose loop stack is full, about to push again. -/
def overfull : State := issuing 15 (.loop 1023 1) { Engine.reset with loops := List.replicate 4 ⟨1, 2⟩ }

theorem witness_every_command_answers_except_on_genah_stacks :
    exec (.loop 15 1023 1) overfull = .fault .stackOverflow ∧
    exec (.loop 15 1023 0) overfull = .next overfull := ⟨rfl, rfl⟩

/-! ## Ill-formed commands are refused -/

theorem test_wf_scalar_operands :
    ([.li 16 1 false 0, .li 0 32 false 0, .li 0 1 true 0x10000, .add 0 1 32 (.reg 2), .add 0 1 2 (.reg 32), .sub 0 1 2 (.imm 0x8000),
      .and 0 32 2 (.imm 0), .or 0 32 2 (.imm 0), .xor 0 32 2 (.imm 0), .shl 0 1 2 (.imm 32), .shr 0 1 2 (.imm 32), .sar 0 1 2 (.imm 32),
      .mul 0 1 32 (.imm 0), .cmp 0 32 (.imm 0), .lw 0 1 2 32768, .lw 0 1 2 (-32769), .sw 0 1 32 0] : List Instr).all (fun i => !i.wf) = true := by
  decide

theorem test_wf_control_operands :
    ([.br 0 10 1, .br 0 0 0, .br 0 0 0x10000, .loop 0 1 1, .loop 0 1024 1, .loop 0 2 0x10000, .loopr 0 32 2 1, .loopr 0 1 1 1, .loopr 0 1 2 0,
      .loopr 0 1 2 2048, .call 0 0x4000, .endl 16, .ret 16, .endt 16, .hset 0 16 true 1 0, .hset 0 0 true 1 0x2000, .hadv 0 0 true 1 32768,
      .tkidx 0 1 3, .tstat 0 1 0 7, .tstat 0 1 16 0, .muz 0 16 0, .mark 0 1 0x10000] : List Instr).all (fun i => !i.wf) = true := by
  decide

theorem test_wf_vector_operands :
    ([.vld 0 16 (.sxm 0 .unit) 0 0, .vld 0 0 (.sxm 16 .unit) 0 0, .vld 0 0 (.sxm 0 (.imm 256)) 0 0, .vld 0 0 (.sxm 0 (.reg 32)) 0 0,
      .vld 0 0 (.dmem 32 0) 0 0, .vst 0 0 (.dmem 0 1024) 0 0, .vst 0 0 (.fbuf 0 1024) 0 0, .vst 0 0 (.fbuf 0 0) 32 0, .vadd 0 16 0 (.vec 0) 0 false,
      .vmul 0 0 0 (.vec 16) 0, .vmul 0 0 0 (.scalar 32) 0, .vmac 0 4 0 (.vec 0) 0 false false, .vsat 0 0 4 0 0, .vsat 0 0 0 0 8, .vsel 0 0 0 16 0,
      .vpeak 0 0 16 0, .vramp 0 0 32 0 0, .vdith 0 0 0 (.vec 0) 0 15 false, .vdith 0 0 0 (.vec 0) 0 25 false, .fetch 0 1 2 3 64 0 0,
      .put 0 1 2 3 0 32 0, .waitf 0 16 0] : List Instr).all (fun i => !i.wf) = true := by
  decide

theorem test_wf_host_operands :
    ([.commitGo .pcie (2 ^ 32), .hostWrite .pcie 3 0 15 0, .hostWrite .pcie 0 2 15 0, .hostWrite .pcie 0 0 16 0, .setAliasWrite .pcie 2 0,
      .clrAliasWrite .pcie (2 ^ 32) 0, .tglAliasWrite .pcie 1 0, .sqAcknowledge .pcie 3 0, .wo1Write .pcie 4 (2 ^ 32), .spiWriteFrame [256],
      .spiReadFrame [0] (2 ^ 32), .dmaDoorbell 8 1, .dmaDescriptorDone 8 [] [] [] false, .dmaKennelPush 0 [] [2 ^ 64],
      .kennelReset .pcie 64, .kennelPioPush .pcie 0 (2 ^ 32) 0, .kennelPioPushlast .pcie 64 0 0, .kennelPioPop .pcie 64 1,
      .geProfileLoad .pcie 16 0, .ptpProfileLoad .pcie 2 0, .apllRelock .pcie 4, .pgArm .pcie 8 0, .pgStop .pcie 8 0, .voiceGo .pcie 256,
      .voiceStop .pcie 256, .herdArm .pcie 16, .herdGo .pcie 16, .herdStop .pcie 16, .hcmdBlock .pcie 0x2000, .chainRequest true 0x8000,
      .unlock .pcie (2 ^ 32)] : List Instr).all (fun i => !i.wf) = true := by
  decide

theorem test_wf_event_operands :
    ([.tickBoundary [(10, 0)], .guardStart [16384] [], .guardStart [] [⟨15, false, 0, 0⟩], .guardStart [] [⟨6, false, 0, 16⟩], .runaheadStart 16,
      .illegalInsn 16 true, .dramTransactionComplete 16 0 [] 0, .unitRestart 24 16 1 false, .unitRestart 0 17 1 false, .unitRestart 0 0 8 false,
      .unitRestarted 0 17, .rxFrame 3 [] true 0 0, .rxFrame 0 [256] true 0 0, .copyHeaderTaken 2, .copyConfirm 2, .copyRewind 2 none, .rxTimeout 4096,
      .deepFrameMove 4096 [] 0, .kennelWordPush 64 1 true, .kennelWordPush 0 (2 ^ 64) true, .kennelWordPop 64 0 0, .kennelBoundaryFault 64,
      .fallComplete 8192 0, .muzRise 0 8192, .riseComplete 8192 0, .zcTimeout 0 8192, .herdPinTrigger 4, .herdTimeTrigger 16, .herdStarted 16,
      .sapLocked 8, .sapLost 8 0, .sapFrameError 8, .sapFrameReceived 8 [] 0, .sapBclkReturn 8, .elasticStoreRead 28 true, .aesFrameReceived 8 0 0 true true true 0,
      .aesFrameReceived 0 (2 ^ 32) 0 true true true 0, .madiFrameReceived 4 [] true true, .aesCsBlock 8 [] [], .aesCsBlock 20 [] [], .aesLocked 15,
      .aesLost 20 0, .aesSignalReturn 8, .aesBlkerr 8, .asrcLocked 16 0, .asrcLost 16 0, .asrcRelock 16 0, .asrcForeignEdgeReturn 16] : List Instr).all
      (fun i => !i.wf) = true := by
  decide

theorem test_wf_clock_and_network_operands :
    ([.refSecond [(10, 0, 0)], .refQualified 10, .refDisqualified 10, .refCauseCleared 10, .refInactive 10, .refSignalReturn 10, .refWtrExpire 10,
      .slicerRunt 4, .apllLost 4 0, .apllLost 0 2, .bandSearchDone 4 0 none, .bandSearchDone 0 64 none, .apllLocked 4, .vtuneMeasure 4 0,
      .ckoDelayStep 12, .ptpOffsetSample 2 0 0, .ptpAnnounceAccepted 2 0 0 0 0, .ptpAnnounceReceiptTimeout 2, .ptpMessageInterval 2 0, .pgLeadingEdge 8,
      .pgTrailingEdge 8, .cueLineHold 256 0, .cueSend 0 3, .ltcFrameDecoded 0 0 32 0 0, .ltcFrameDecoded 0 0 0 4 0, .ltcFrameDecoded 0 0 0 0 65536,
      .linkUp 3, .linkDown 3, .portFrameTx 3, .macEntryAged 4096 0, .macEntryAged 0 (2 ^ 48), .groupLeave 3 0 true 0, .delayLineService 1024 [] 0,
      .voiceSampleRead [(256, 0)] 0, .voiceStart 256, .cueVoiceDone 256, .barkReceive [] [256] 0 0, .mirrorPacketReceive [2 ^ 32] [],
      .pairConverging ⟨[(0, 2 ^ 32)], [], [], [], 0, [], none⟩, .witnessMessage [256], .forwardedLocalWrite 2 0 [], .partnerStagingReport 0 [256],
      .chainHeadReply [256], .chainDataReply 0 [256], .chainChunkTimeout 0x8000, .resetRelease 256 0, .resetRelease 0 16, .monRailMeasure 9 0 true]
      : List Instr).all (fun i => !i.wf) = true := by
  decide

/-! ## The decoder of Genah words (R105 to R107, R144) -/

/-- One word of each format, its fields written out from R105 and its opcode from R107. -/
theorem test_decode_formats :
    Genah.decode 0b001010_11111_00001_0_11110_0000000000 = some (.mul 31 1 (.reg 30)) ∧
    Genah.decode 0b001011_00000_00001_1_000000000000010 = some (.cmp 1 (.imm 2)) ∧
    Genah.decode 0b001101_00101_00110_0000000000000100 = some (.sw 5 6 4) ∧
    Genah.decode 0b010011_00000000000000000000000000 = some .endl ∧
    Genah.decode 0b011001_0100_1_00011_1111111111111110 = some (.hadv 4 true 3 (-2)) ∧
    Genah.decode 0b100011_0001_00_10_000000_00101_0000011 = some (.vsat 1 2 5 3) ∧
    Genah.decode 0b100110_0001_00010_00011_00100_0000000 = some (.vramp 1 2 3 4) ∧
    Genah.decode 0b100111_0001_0010_1_00011_00100_0111000 = some (.vdith 1 2 (.scalar 3) 4 24 true) ∧
    Genah.decode 0b110001_0000000000000000000000_0101 = some (.waitf 5) ∧
    Genah.decode 0b111000_00011_0000000000000000000_10 = some (.tkidx 3 2) ∧
    Genah.decode 0b111010_0100_00011_00000000000000000 = some (.muz 4 3) := by
  decide

/-- Words that R144 calls illegal. -/
theorem test_decode_illegal :
    ([0b001011_00001_00001_1_000000000000010, 0b010001_0000000001_0000000000000001, 0b010010_00001_0000000010_00000000000,
      0b011010_0000_11_00000000000000000000, 0b111000_00011_0000000000000000000_11, 0b111001_00011_0000_111_00000000000000,
      0b100111_0001_0010_1_00011_00100_0001111, 0b100100_0001_0010_1_00011_00100_0000000, 0b100101_0001_0010_0_00001_00100_0000000,
      0b111111_00000000000000000000000000] : List Nat).all (fun w => (Genah.decode w).isNone) = true := by
  decide

/-! ## Single steps; the values come from the rules named -/

/-- What `f` reads after command `i`, if it answers a next state. -/
def after {α : Type} (i : Instr) (s : State) (f : State → α) : Option α :=
  match exec i s with
  | .next t => some (f t)
  | _ => none

/-- The scalar register `gd` of engine 1 after `g`, with 0xFFFFFFFF in g2 and 5 in g3. -/
def scalarAfter (g : Genah) (i : Instr) (gd : Nat) : Option Nat :=
  after i (issuing 1 g { Engine.reset with g := [(2, 0xFFFFFFFF#32), (3, 5#32)] }) (fun t => (t.engine 1).gr gd)

/-- R109: a negative low immediate is sign-extended, and the high one keeps the low half. -/
theorem test_li : scalarAfter (.li 4 false 0x8000) (.li 1 4 false 0x8000) 4 = some 0xFFFF8000 ∧
    scalarAfter (.li 3 true 0x1234) (.li 1 3 true 0x1234) 3 = some 0x12340005 := by decide

/-- R108: imm15 is sign-extended by ADD and zero-extended by AND; sums wrap; a write to g0 is discarded. -/
theorem test_add_and : scalarAfter (.add 4 3 (.imm 0x7FFF)) (.add 1 4 3 (.imm 0x7FFF)) 4 = some 4 ∧
    scalarAfter (.and 4 2 (.imm 0x7FFF)) (.and 1 4 2 (.imm 0x7FFF)) 4 = some 0x7FFF ∧
    scalarAfter (.add 0 3 (.reg 3)) (.add 1 0 3 (.reg 3)) 0 = some 0 := by decide

/-- R108: the source is the destination; a register shift counts bits 4 to 0. -/
theorem test_sub_sar_shl : scalarAfter (.sub 3 3 (.reg 2)) (.sub 1 3 3 (.reg 2)) 3 = some 6 ∧
    scalarAfter (.sar 4 2 (.imm 31)) (.sar 1 4 2 (.imm 31)) 4 = some 0xFFFFFFFF ∧
    scalarAfter (.shl 4 3 (.reg 2)) (.shl 1 4 3 (.reg 2)) 4 = some 0x80000000 := by decide

/-- R110: 5 − 0xFFFFFFFF is 6, with a borrow: no flag is set. -/
theorem test_cmp : after (.cmp 1 3 (.reg 2)) (issuing 1 (.cmp 3 (.reg 2)) { Engine.reset with g := [(2, 0xFFFFFFFF#32), (3, 5#32)] })
    (fun t => ((t.engine 1).z, (t.engine 1).n, (t.engine 1).c, (t.engine 1).o)) = some (false, false, false, false) := by decide

/-- R113: LOOP with count 0 resumes after the matching ENDL, d words on. -/
theorem test_loop_zero : after (.loop 1 10 0) (issuing 1 (.loop 10 0) Engine.reset) (fun t => ((t.engine 1).pc, (t.engine 1).loops)) =
    some (11, []) := by decide

/-- Lane 0 of v1 after VSAT of a0 with SH = 0. -/
def vsatOf (a : BitVec 64) : Option Word :=
  after (.vsat 1 1 0 0 0) (issuing 1 (.vsat 1 0 0 0) { Engine.reset with a := [(0, ⟨a, true⟩)] }) (fun t => ((t.engine 1).lane 1 0).val)

/-- The example of R127. -/
theorem test_vsat : vsatOf 0x08000000 = some 1 ∧ vsatOf 0x07FFFFFF = some 0 ∧ vsatOf 0xFFFFFFFFF8000000 = some 0 ∧
    vsatOf 0x0800000000000000 = some 0x7FFFFFFF ∧ vsatOf 0xF800000000000000 = some 0x80000000 := by decide

/-- R128: with gm = g0 VSEL takes vb in every lane. -/
theorem test_vsel : after (.vsel 1 0 1 2 0) (issuing 1 (.vsel 0 1 2 0) { Engine.reset with v := [(16, ⟨7#32, true⟩), (32, ⟨9#32, false⟩)] })
    (fun t => ((t.engine 1).lane 0 0).val) = some 9#32 := by decide

/-- R260: GO of an armed HOST herd in tick 0 fixes S at tick 2; a PIN herd takes no GO. -/
theorem test_herd_go : after (.herdGo .pcie 3) (served [(HRD.H_CTL.EN 3, 1), (HRD.H_STATE.val 3, 1)]) (fun t => (t.herdOf 3).start) = some (some 2) ∧
    after (.herdGo .pcie 3) (served [(HRD.H_CTL.EN 3, 1), (HRD.H_CTL.SRC 3, 3), (HRD.H_STATE.val 3, 1)]) (fun t => (t.herdOf 3).start) = some none := by
  decide

/-- The history of K16 with SEQ 0x13 and CROSSED, as in the example of R237. -/
def crossed : State := served [(KNL.K_HIST.SEQ 16, 0x13), (KNL.K_HIST.CROSSED 16, 1)]

/-- Writing back SEQ 0x13 clears CROSSED; writing back 0x11 clears nothing and counts. -/
theorem test_sq_acknowledge :
    after (.sqAcknowledge .pcie (KNL.K_HIST 16) 0x13000002) crossed (fun t => (t.num (KNL.K_HIST 16), t.rd HIF.ACK_STALE.val)) = some (0x13000000, 0) ∧
    after (.sqAcknowledge .pcie (KNL.K_HIST 16) 0x11000002) crossed (fun t => (t.num (KNL.K_HIST 16), t.rd HIF.ACK_STALE.val, t.rd HIF.ACKADDR.val)) =
      some (0x13000002, 1, 0x160510) := by
  decide

/-- R385: SET from the host loads the counter; a SETNSEC of 10^9 leaves it. -/
theorem test_time_set :
    after (.timeSet .pcie 0) (served [(TIME.SRVCFG.SRC, 1), (TIME.SETSECLO.val, 7), (TIME.SETNSEC.val, 5)]) (fun t => t.timeNs) = some 7000000005 ∧
    after (.timeSet .pcie 0) (served [(TIME.SRVCFG.SRC, 1), (TIME.SETNSEC.val, 1000000000)]) (fun t => t.timeNs) = some 0 := by
  decide

/-- R229, R232: a word stays invisible until the packet's last word commits it. -/
theorem test_kennel_commit :
    after (.kennelWordPush 16 5 false) (served [(KNL.K_CFG.SIZE 16, 1)]) (fun t => (t.kennel 16).pkts.length) = some 0 ∧
    after (.kennelWordPush 16 5 true) (served [(KNL.K_CFG.SIZE 16, 1)]) (fun t => (t.kennel 16).pkts.map (fun p => p.words)) = some [[5]] := by
  decide

/-- R125: VMUL rounds the exact product to nearest: 3 times 0.5 is 2, and full scale times −8 saturates. -/
theorem test_vmul :
    after (.vmul 1 0 1 (.scalar 2) 0) (issuing 1 (.vmul 0 1 (.scalar 2) 0) { Engine.reset with g := [(2, 0x08000000#32)], v := [(16, ⟨3#32, true⟩)] })
      (fun t => ((t.engine 1).lane 0 0).val) = some 2#32 ∧
    after (.vmul 1 0 1 (.scalar 2) 0) (issuing 1 (.vmul 0 1 (.scalar 2) 0) { Engine.reset with g := [(2, 0x80000000#32)], v := [(16, ⟨0x7FFFFFFF#32, true⟩)] })
      (fun t => ((t.engine 1).lane 0 0).val) = some 0x80000000#32 := by
  decide

/-- Log entry 2: on an empty queue one core cycle passes. R556: a release of reset starts the boot ROM. -/
theorem test_idle_and_release :
    (match step serving with | .next t => t.clk.cycle == 1 && t.clk.now == 10 ^ 13 + 1 | _ => false) = true ∧
    after (.resetRelease 0 0) State.reset (fun t => t.boot.held) = some false := by
  decide

end Sys2Proof.Tests
end

section
/-!
PROOFS. One step of the block: the front command, or one core cycle.
-/

namespace Sys2Proof.Machine

/-! ## One step of the block -/

/-- A waiting command runs on the state with the queue's rest. -/
theorem step_cons {s : State} {c : Instr} {q : List Instr} (h : s.pending = c :: q) : step s = exec c { s with pending := q } := by
  simp only [step, h]

/-- With no command waiting, a core cycle passes. -/
theorem step_nil {s : State} (h : s.pending = []) : step s = .next s.coreCycle := by
  simp only [step, h]

/-- A core cycle of a device held in reset changes nothing. -/
theorem State.coreCycle_held {s : State} (h : s.boot.held = true) : s.coreCycle = s := by
  simp only [State.coreCycle, h, if_true]

/-- A core cycle out of reset advances both cycle counts and keeps the tick's phase. -/
theorem State.coreCycle_counts {s : State} (h : s.boot.held = false) :
    s.coreCycle.clk.now = s.clk.now + 1 ∧ s.coreCycle.clk.cycle = s.clk.cycle + 1 ∧ s.coreCycle.clk.phase = s.clk.phase := by
  unfold State.coreCycle
  rw [if_neg (by simp [h])]
  extract_lets clock t
  split <;> exact ⟨rfl, rfl, rfl⟩

/-- The time counter stands until APLL-C is locked (R382). -/
theorem State.coreCycle_time {s : State} (h : s.apll 0 ≠ 3) : s.coreCycle.clk.time = s.clk.time := by
  unfold State.coreCycle
  split
  · rfl
  · extract_lets clock t
    have ht : t.apll 0 ≠ 3 := h
    rw [if_neg ht]

/-- Settles O1: `step` is `exec` of the front command, and one core cycle on an empty queue. -/
theorem stepTakesTheFrontCommand : Obligations.StepTakesTheFrontCommand := by
  unfold Obligations.StepTakesTheFrontCommand
  refine ⟨fun c q s h => step_cons h, fun s h => ⟨s.coreCycle, step_nil h, s.coreCycle_frame, State.coreCycle_held, fun hr => ?_⟩⟩
  obtain ⟨hnow, hcycle, hphase⟩ := State.coreCycle_counts hr
  exact ⟨hnow, hcycle, hphase, State.coreCycle_time⟩

end Sys2Proof.Machine
end

section
/-!
PROOFS. Sticky flags, and the records that HIF keeps of a write that is not taken (R5, R490, R498, R499).
-/

namespace Sys2Proof.Machine

/-! ## Sticky flags -/

/-- A sticky event sets its own bit (R490). -/
theorem sqSet_testBit_same (w : Word) {i : Nat} (h : i < 24) : (sqSet w (2 ^ i)).toNat.testBit i = true := by
  have hlow : w.toNat % 2 ^ 24 ||| 2 ^ i % 2 ^ 24 < 2 ^ 24 := Nat.or_lt_two_pow (Nat.mod_lt _ (by decide)) (Nat.mod_lt _ (by decide))
  have hseq : (w.toNat / 2 ^ 24 + 1) % 256 < 256 := Nat.mod_lt _ (by decide)
  have hword : (sqSet w (2 ^ i)).toNat = 2 ^ 24 * ((w.toNat / 2 ^ 24 + 1) % 256) + (w.toNat % 2 ^ 24 ||| 2 ^ i % 2 ^ 24) := by
    unfold sqSet
    rw [BitVec.toNat_ofNat, Nat.mod_eq_of_lt (by omega), Nat.mul_comm]
  rw [hword, Nat.testBit_two_pow_mul_add _ hlow, if_pos h, Nat.testBit_or, Nat.testBit_mod_two_pow, Nat.testBit_mod_two_pow, Nat.testBit_two_pow_self]
  simp [h]

/-- A one-bit sticky field is set after its event. -/
theorem State.flag_sqf_same (s : State) {f : Fld} (h1 : f.width = 1) (h : f.lo < 24) : (s.sqf f).flag f = true := by
  have hb := sqSet_testBit_same (s.word f.key) h
  rw [Nat.testBit_eq_decide_div_mod_eq, decide_eq_true_eq] at hb
  unfold State.flag State.rd Fld.ext State.sqf
  rw [State.word_sq_same, h1]
  simpa using hb

theorem State.rd_inc_same (s : State) {f : Fld} (hf : f.lo + f.width ≤ 32) : (s.inc f).rd f = (s.rd f + 1) % 2 ^ f.width :=
  State.rd_wr_same s f _ hf

/-! ## Access errors (R498, R499) -/

/-- The first access error since the host's acknowledgement leaves its address, interface and cause (R499). -/
def State.latchAccErr (s : State) (i k : Nat) (c : AccCause) : State :=
  if s.flag HIF.HIST.ACC_ERR then s
  else ((s.wr HIF.ACCERRADDR.val (hostAddr k)).wr HIF.ACCERRINFO.IF i).wr HIF.ACCERRINFO.CAUSE c.code

/-- An access error is counted, latched, marked in HIF.HIST and reported. -/
theorem State.accErr_eq (s : State) (i k : Nat) (c : AccCause) : s.accErr i k c =
    (((s.inc HIF.ACCERRCNT.val).latchAccErr i k c).sqf HIF.HIST.ACC_ERR).report 0x0101 i (hostAddr k + c.code * 2 ^ 26) := rfl

theorem State.latchAccErr_word (s : State) (i k : Nat) (c : AccCause) {j : Nat} (ha : j ≠ HIF.ACCERRADDR) (hi : j ≠ HIF.ACCERRINFO) :
    (s.latchAccErr i k c).word j = s.word j := by
  unfold State.latchAccErr
  split
  · rfl
  · rw [State.word_wr_ne _ _ hi, State.word_wr_ne _ _ hi, State.word_wr_ne _ _ ha]

theorem hostAddr_lt (k : Nat) : hostAddr k < 2 ^ 32 := by
  unfold hostAddr
  split
  · omega
  · split <;> omega

theorem AccCause.code_lt (c : AccCause) : c.code < 2 ^ 4 := by cases c <;> decide

/-- Before it is reported, an access error writes its four registers of HIF alone. -/
theorem State.accErr_unreported_word (s : State) (i k : Nat) (c : AccCause) {j : Nat}
    (h : j ∉ [HIF.ACCERRCNT, HIF.HIST, HIF.ACCERRADDR, HIF.ACCERRINFO]) :
    (((s.inc HIF.ACCERRCNT.val).latchAccErr i k c).sqf HIF.HIST.ACC_ERR).word j = s.word j := by
  simp only [List.mem_cons, List.not_mem_nil, or_false, not_or] at h
  obtain ⟨hcnt, hhist, haddr, hinfo⟩ := h
  rw [State.word_sqf_ne _ hhist, State.latchAccErr_word _ _ _ _ haddr hinfo, State.word_inc_ne _ hcnt]

/-- With no access error marked, the latch takes the cause and the address. -/
theorem State.latchAccErr_first {s : State} (i k : Nat) (c : AccCause) (h : s.flag HIF.HIST.ACC_ERR = false) :
    (s.latchAccErr i k c).rd HIF.ACCERRINFO.CAUSE = c.code ∧ (s.latchAccErr i k c).rd HIF.ACCERRADDR.val = hostAddr k := by
  unfold State.latchAccErr
  rw [if_neg (by simp [h])]
  constructor
  · rw [State.rd_wr_same _ _ _ (by decide)]
    exact Nat.mod_eq_of_lt c.code_lt
  · rw [State.rd_wr_apart _ _ _ _ (by decide) (by decide), State.rd_wr_apart _ _ _ _ (by decide) (by decide),
      State.rd_wr_same _ _ _ (by decide)]
    exact Nat.mod_eq_of_lt (hostAddr_lt k)

/-- A write at key `k` has been recorded as not taken for `cause`, and nothing else has happened (R498, R499). -/
def AccErrRecorded (k cause : Nat) (s t : State) : Prop :=
  t.rd HIF.ACCERRCNT.val = (s.rd HIF.ACCERRCNT.val + 1) % 2 ^ 32 ∧ t.flag HIF.HIST.ACC_ERR = true ∧
    (s.flag HIF.HIST.ACC_ERR = false → t.rd HIF.ACCERRINFO.CAUSE = cause ∧ t.rd HIF.ACCERRADDR.val = hostAddr k) ∧
    Reported 0x0101 s t ∧
    (∀ j, j ∉ [HIF.ACCERRCNT, HIF.HIST, HIF.ACCERRADDR, HIF.ACCERRINFO] → reportKey j = false → t.word j = s.word j) ∧
    Frame [.live, .evt, .out] s t

theorem State.accErr_recorded (s : State) (i k : Nat) (c : AccCause) : AccErrRecorded k c.code s (s.accErr i k c) := by
  have hframe := s.accErr_frame i k c
  rw [State.accErr_eq] at hframe ⊢
  refine ⟨?count, ?mark, ?first, ?reported, ?quiet, hframe⟩
  case count =>
    rw [State.report_rd _ _ _ _ _ (by decide) (by decide), State.rd_congr (State.word_sqf_ne _ (by decide)),
      State.rd_congr (State.latchAccErr_word _ _ _ _ (by decide) (by decide))]
    exact State.rd_inc_same s (by decide)
  case mark =>
    rw [State.report_flag _ _ _ _ _ (by decide) (by decide)]
    exact State.flag_sqf_same _ rfl (by decide)
  case first =>
    intro h
    rw [State.report_rd _ _ _ _ _ (by decide) (by decide), State.report_rd _ _ _ _ _ (by decide) (by decide),
      State.rd_congr (State.word_sqf_ne _ (by decide)), State.rd_congr (State.word_sqf_ne _ (by decide))]
    exact State.latchAccErr_first i k c ((State.flag_congr (State.word_inc_ne s (by decide))).trans h)
  case reported =>
    exact (State.report_reported _ _ _ _ (by decide)).after (State.accErr_unreported_word _ _ _ _ (by decide))
      (State.accErr_unreported_word _ _ _ _ (by decide))
  case quiet =>
    intro j hj hr
    rw [State.report_word _ _ _ _ hr (by decide), State.accErr_unreported_word _ _ _ _ hj]

/-! ## Writes to removed units (R5, R561) -/

/-- A write to a removed unit has been recorded, and nothing else has happened (R5). -/
def AbsentRecorded (s t : State) : Prop :=
  t.rd HIF.ABSENTCNT.val = (s.rd HIF.ABSENTCNT.val + 1) % 2 ^ 32 ∧ t.flag HIF.HIST.ABSENT = true ∧ Reported 0x0103 s t ∧
    (∀ j, j ∉ [HIF.ABSENTCNT, HIF.HIST] → reportKey j = false → t.word j = s.word j) ∧ Frame [.live, .evt, .out] s t

/-- Before it is reported, a write to a removed unit changes its counter and HIF.HIST alone. -/
theorem State.absentAccess_unreported_word (s : State) {j : Nat} (h : j ∉ [HIF.ABSENTCNT, HIF.HIST]) :
    ((s.inc HIF.ABSENTCNT.val).sqf HIF.HIST.ABSENT).word j = s.word j := by
  simp only [List.mem_cons, List.not_mem_nil, or_false, not_or] at h
  obtain ⟨hcnt, hhist⟩ := h
  rw [State.word_sqf_ne _ hhist, State.word_inc_ne _ hcnt]

theorem State.absentAccess_recorded (s : State) (i k : Nat) : AbsentRecorded s (s.absentAccess i k) := by
  have hframe := s.absentAccess_frame i k
  unfold State.absentAccess at hframe ⊢
  refine ⟨?count, ?mark, ?reported, ?quiet, hframe⟩
  case count =>
    rw [State.report_rd _ _ _ _ _ (by decide) (by decide), State.rd_congr (State.word_sqf_ne _ (by decide))]
    exact State.rd_inc_same s (by decide)
  case mark =>
    rw [State.report_flag _ _ _ _ _ (by decide) (by decide)]
    exact State.flag_sqf_same _ rfl (by decide)
  case reported =>
    exact (State.report_reported _ _ _ _ (by decide)).after (State.absentAccess_unreported_word _ (by decide))
      (State.absentAccess_unreported_word _ (by decide))
  case quiet =>
    intro j hj hr
    rw [State.report_word _ _ _ _ hr (by decide), State.absentAccess_unreported_word _ hj]

end Sys2Proof.Machine
end

section
/-!
PROOFS. A write to a word of a shadowed table (R33, R36, R54, R57, R60).
-/

namespace Sys2Proof.Machine

/-! ## The open shadow -/

/-- Word `k` stands in a shadowed table of BAR2. -/
def tableKey (k : Nat) : Bool := decide (2 ^ 31 ≤ k) && shadowedTable (k - 2 ^ 31)

/-- Where the shadowed tables lie: below the other windows of BAR2, or in IMEM and the descriptors. -/
theorem tableKey_bounds {k : Nat} (h : tableKey k = true) :
    2 ^ 31 ≤ k ∧ (k < 2 ^ 31 + 0x372000 ∨ 2 ^ 31 + 0x2000000 ≤ k ∧ k < 2 ^ 31 + 0x2104000) := by
  simp only [tableKey, shadowedTable, Bool.and_eq_true, Bool.or_eq_true, decide_eq_true_eq] at h
  omega

/-- A table word is no register of BAR0. -/
theorem ne_of_tableKey {k a : Nat} (h : tableKey k = true) (ha : a < 2 ^ 31) : k ≠ a := by
  have := tableKey_bounds h
  omega

/-- The shadowed tables hold no journal slot. -/
theorem tableKey_ne_journalKey {k : Nat} (h : tableKey k = true) (q w : Nat) (hw : w < 4) : k ≠ journalKey q w := by
  have := tableKey_bounds h
  unfold journalKey bar2
  omega

/-- The shadowed tables hold no word of DMEM. -/
theorem isDmem_of_tableKey {k : Nat} (h : tableKey k = true) : isDmem k = false := by
  have := tableKey_bounds h
  have hw : dmemWindow (k - 2 ^ 31) = false := by
    simp only [dmemWindow, Bool.and_eq_false_iff, decide_eq_false_iff_not]
    omega
  rw [isDmem, hw, Bool.and_false]

/-- Every bit of a table word is shadowed (R33). -/
theorem rwsMask_of_tableKey {k : Nat} (h : tableKey k = true) : rwsMask k = 2 ^ 32 - 1 := by
  simp only [tableKey, Bool.and_eq_true, decide_eq_true_eq] at h
  rw [rwsMask, if_neg (by omega), if_pos h.2]

/-- Where every bit is written, nothing of the old word stays. -/
theorem mergeBits_full (w v : Word) : mergeBits w v (2 ^ 32 - 1) = v := by
  unfold mergeBits
  simp only [show BitVec.ofNat 32 (2 ^ 32 - 1 - (2 ^ 32 - 1) % 2 ^ 32) = 0#32 by decide,
    show BitVec.ofNat 32 (2 ^ 32 - 1) = BitVec.allOnes 32 by decide, BitVec.and_zero, BitVec.zero_or, BitVec.and_allOnes]

theorem State.putShadow_find_same (s : State) {k : Nat} (v : Word) (h : tableKey k = true) :
    Store.find (s.putShadow k v).shadow k = some v := by
  unfold State.putShadow
  rw [isDmem_of_tableKey h, rwsMask_of_tableKey h, mergeBits_full]
  exact Store.find_insert_same _ _ _

theorem State.putShadow_find_ne (s : State) {k j : Nat} (v : Word) (h : j ≠ k) :
    Store.find (s.putShadow k v).shadow j = Store.find s.shadow j := Store.find_insert_ne _ _ h

theorem State.word_putShadow (s : State) (k j : Nat) (v : Word) : (s.putShadow k v).word j = s.word j := rfl

/-! ## The journal and the MODE fields leave table words alone -/

theorem State.journalAt_word (s : State) (q w1 w2 w3 : Nat) {k : Nat} (h : tableKey k = true) :
    (s.journalAt q w1 w2 w3).word k = s.word k := by
  have hslot := tableKey_ne_journalKey h q
  unfold State.journalAt
  extract_lets a b c d e t
  have ht : t.word k = s.word k := by
    simp only [t, e, d, c, b, a, State.fillTo]
    rw [State.word_wrFlag_ne _ _ (ne_of_tableKey h (by decide)), State.word_wr_ne _ _ (ne_of_tableKey h (by decide)),
      State.word_wr_ne _ _ (ne_of_tableKey h (by decide)), State.word_setNum_ne _ _ (hslot 3 (by decide)),
      State.word_setNum_ne _ _ (hslot 2 (by decide)), State.word_setNum_ne _ _ (hslot 1 (by decide)),
      State.word_setNum_ne _ _ (hslot 0 (by decide))]
  clear_value t
  split
  · exact ht
  · exact ht

theorem State.journal_word (s : State) (t : JType) (a w2 w3 : Nat) {k : Nat} (h : tableKey k = true) :
    (s.journal t a w2 w3).word k = s.word k := by
  unfold State.journal State.journalRaw
  split
  · rfl
  · extract_lets q u
    split
    · rw [State.word_emit]; exact State.journalAt_word _ _ _ _ _ h
    · exact State.journalAt_word _ _ _ _ _ h

theorem State.journal_shadow (s : State) (t : JType) (a w2 w3 : Nat) : (s.journal t a w2 w3).shadow = s.shadow :=
  (s.journal_frame t a w2 w3).same .shadow rfl

theorem State.setModes_shadow (s : State) (k mask : Nat) : (s.setModes k mask).shadow = s.shadow :=
  (s.setModes_frame k mask).same .shadow rfl

/-- The least number that passes a test is below the bound and passes it. -/
theorem firstBelow_some {p : Nat → Bool} {n i : Nat} (h : firstBelow p n = some i) : i < n ∧ p i = true :=
  ⟨List.mem_range.mp (List.mem_of_find?_eq_some h), List.find?_some h⟩

/-- The MODE fields stand in registers of BAR0. -/
theorem State.setModes_word (s : State) (a mask : Nat) {k : Nat} (h : tableKey k = true) : (s.setModes a mask).word k = s.word k := by
  unfold State.setModes
  extract_lets ge tx ref
  have hge : ge.word k = s.word k := by
    unfold ge
    split
    · next e he =>
      have := (firstBelow_some he).1
      exact State.word_wr_ne _ _ (ne_of_tableKey h (by unfold GE.PROFILE.MODE GE.PROFILE; dsimp only; omega))
    · rfl
  have htx : tx.word k = ge.word k := by
    unfold tx
    split
    · split
      · exact State.word_wr_ne _ _ (ne_of_tableKey h (by decide))
      · rfl
    · rfl
  have href : ref.word k = tx.word k := by
    unfold ref
    split
    · exact State.word_wr_ne _ _ (ne_of_tableKey h (by decide))
    · rfl
  have hlast : ref.word k = s.word k := by rw [href, htx, hge]
  split
  · next p hp =>
    have := (firstBelow_some hp).1
    split
    · exact (State.word_wr_ne _ _ (ne_of_tableKey h (by unfold TIME.PTP_CFG.MODE TIME.PTP_CFG; dsimp only; omega))).trans hlast
    · exact hlast
  · exact hlast

/-! ## Taken writes -/

/-- With room in the journal and the checkpoint area, a write of a chip that is no STANDBY is journaled and enters the open shadow (R54, R57, R60). -/
theorem State.shadowWrite_taken {s : State} (i : Nat) {k : Nat} {v : Word} (entry : Nat) (hs : s.standby = false) (hr : s.hasRoom [(k, v)] = true) :
    s.shadowWrite i k v entry = ((s.journal .write k entry s.tick).putShadow k v, true) := by
  simp only [State.hasRoom, List.foldl_cons, List.foldl_nil, Bool.and_eq_true, Bool.not_eq_true'] at hr
  obtain ⟨hfull, hspace⟩ := hr
  unfold State.shadowWrite
  exact (if_neg (ne_true_of_eq_false hfull)).trans ((if_neg (ne_true_of_eq_false hspace)).trans (if_neg (by simp [hs])))

/-- A taken write to a table word puts it into the open shadow and leaves the live word alone (R33). -/
theorem State.tableWrite_taken {s : State} (i : Nat) {k : Nat} {v : Word} (hk : tableKey k = true) (hs : s.standby = false)
    (hr : s.hasRoom [(k, v)] = true) :
    Store.find (s.tableWrite i k v).shadow k = some v ∧ (∀ j, j ≠ k → Store.find (s.tableWrite i k v).shadow j = Store.find s.shadow j) ∧
      (s.tableWrite i k v).word k = s.word k ∧ Frame [.live, .shadow, .ckpt, .out] s (s.tableWrite i k v) := by
  have htaken : s.tableWrite i k v = ((s.journal .write k v.toNat s.tick).putShadow k v).setModes k (2 ^ 32 - 1) := by
    unfold State.tableWrite
    rw [State.shadowWrite_taken i v.toNat hs hr]
    rfl
  rw [htaken, State.setModes_shadow]
  refine ⟨State.putShadow_find_same _ v hk, fun j hj => ?_, ?_, ?_⟩
  · rw [State.putShadow_find_ne _ v hj, State.journal_shadow]
  · rw [State.setModes_word _ _ _ hk, State.word_putShadow, State.journal_word _ _ _ _ _ hk]
  · exact (((s.journal_frame ..).weaken rfl).seq (State.putShadow_frame ..) rfl).seq (State.setModes_frame ..) rfl

end Sys2Proof.Machine
end

section
/-!
PROOFS. The registers whose fields are all RW, in the blocks GLB, SEC and HRD, and what a write through a side of them does (R7, R489).
-/

namespace Sys2Proof.Machine

/-! ## Tests over a bound -/

theorem firstBelow_none {p : Nat → Bool} {n : Nat} (h : ∀ i, i < n → p i = false) : firstBelow p n = none := by
  unfold firstBelow
  rw [List.find?_eq_none]
  intro i hi
  rw [h i (List.mem_range.mp hi)]
  decide

theorem anyBelow_false {p : Nat → Bool} {n : Nat} (h : ∀ i, i < n → p i = false) : anyBelow p n = false := by
  induction n with
  | zero => rfl
  | succ n ih => rw [anyBelow, ih fun i hi => h i (by omega), h n (by omega), Bool.or_self]

/-! ## The register table -/

/-- A register found by its offset is of a family of its block, and stands at one of the family's places. -/
theorem findReg_some {fs : List RegFam} {o n : Nat} {f : RegFam} (h : findReg fs o = some (f, n)) : f ∈ fs ∧ f.index o = some n := by
  induction fs with
  | nil => simp [findReg] at h
  | cons g fs ih =>
    rw [findReg] at h
    split at h
    · next i hi =>
      simp only [Option.some.injEq, Prod.mk.injEq] at h
      obtain ⟨rfl, rfl⟩ := h
      exact ⟨List.mem_cons_self, hi⟩
    · obtain ⟨hmem, hindex⟩ := ih h
      exact ⟨List.mem_cons_of_mem _ hmem, hindex⟩

/-- Where the registers of a family stand. -/
theorem RegFam.index_some {f : RegFam} {o n : Nat} (h : f.index o = some n) :
    f.off ≤ o ∧ (o - f.off) / f.s1 < f.n1 ∧ (o - f.off) % f.s1 / f.s2 < f.n2 ∧ (o - f.off) % f.s1 % f.s2 = 0 := by
  unfold RegFam.index at h
  split at h
  · cases h
  · next ho =>
    dsimp only at h
    split at h
    · next hin =>
      obtain ⟨hi, hj, hr⟩ := hin
      exact ⟨by omega, hi, hj, hr⟩
    · cases h

/-- Every field of the family is RW (R7). -/
def RegFam.plain (f : RegFam) : Bool := f.rw != 0 && f.rws == 0 && f.wo1 == 0 && f.sq == 0 && f.wp == 0

theorem blockRegs0_plain : blockRegs0.filter RegFam.plain =
    [⟨0x84, 1, 0x10000, 1, 0x10000, 0xFFFFFFFF, 0x0, 0x0, 0x0, 0x0, 0x0, 0x0, 0x0, []⟩] := by rfl

theorem blockRegs3_plain : blockRegs3.filter RegFam.plain =
    [⟨0x100, 24, 0x4, 1, 0x4, 0xFFFFFFFF, 0x0, 0x0, 0x0, 0x0, 0x0, 0x0, 0x0, []⟩,
     ⟨0x180, 24, 0x4, 1, 0x4, 0xFFFFFFFF, 0x0, 0x0, 0x0, 0x0, 0x0, 0x0, 0x0, []⟩,
     ⟨0x200, 8, 0x4, 1, 0x4, 0xFFFFFFFF, 0x0, 0x0, 0x0, 0x0, 0x0, 0x0, 0x0, []⟩] := by rfl

theorem blockRegs23_plain : blockRegs23.filter RegFam.plain =
    [⟨0x10, 1, 0x10000, 1, 0x10000, 0x3FFFFFF, 0x0, 0x0, 0x0, 0x0, 0x0, 0x0, 0x0, []⟩] := by rfl

/-- The registers of GLB, SEC and HRD that hold RW fields alone. -/
def PlainRw (k : Nat) : Prop :=
  k = GLB.COMMITAT ∨ (∃ n, n < 24 ∧ k = SEC.SIGPUB n) ∨ (∃ n, n < 24 ∧ k = SEC.SIGVAL n) ∨ (∃ n, n < 8 ∧ k = SEC.ATTNONCE n) ∨
    k = HRD.LANESEL

theorem plainRw_of_regAt {k n : Nat} {f : RegFam} (h : regAt k = some (f, n)) (hf : f.plain = true)
    (hb : k / 2 ^ 16 = 0 ∨ k / 2 ^ 16 = 3 ∨ k / 2 ^ 16 = 0x17) : PlainRw k := by
  obtain ⟨hmem, hindex⟩ := findReg_some h
  obtain ⟨hoff, hi, hj, hr⟩ := RegFam.index_some hindex
  unfold PlainRw GLB.COMMITAT SEC.SIGPUB SEC.SIGVAL SEC.ATTNONCE HRD.LANESEL
  rcases hb with hb | hb | hb <;> rw [show k / 0x10000 = _ from hb] at hmem
  · have hplain := List.mem_filter.mpr ⟨hmem, hf⟩
    simp only [blockRegs, blockRegs0_plain, List.mem_singleton] at hplain
    subst hplain
    dsimp only at hoff hi hj hr
    omega
  · have hplain := List.mem_filter.mpr ⟨hmem, hf⟩
    simp only [blockRegs, blockRegs3_plain, List.mem_cons, List.not_mem_nil, or_false] at hplain
    rcases hplain with rfl | rfl | rfl <;> dsimp only at hoff hi hj hr
    · exact .inr (.inl ⟨(k % 0x10000 - 0x100) / 4, by omega, by omega⟩)
    · exact .inr (.inr (.inl ⟨(k % 0x10000 - 0x180) / 4, by omega, by omega⟩))
    · exact .inr (.inr (.inr (.inl ⟨(k % 0x10000 - 0x200) / 4, by omega, by omega⟩)))
  · have hplain := List.mem_filter.mpr ⟨hmem, hf⟩
    simp only [blockRegs, blockRegs23_plain, List.mem_singleton] at hplain
    subst hplain
    dsimp only at hoff hi hj hr
    omega

/-! ## Where a plain register stands -/

/-- A plain register stands in the normal space of GLB, SEC or HRD, clear of the registers that do something. -/
theorem PlainRw.bounds {k : Nat} (h : PlainRw k) :
    k = 0x84 ∨ (0x30100 ≤ k ∧ k < 0x30220 ∧ k % 4 = 0) ∨ k = 0x170010 := by
  unfold PlainRw GLB.COMMITAT SEC.SIGPUB SEC.SIGVAL SEC.ATTNONCE HRD.LANESEL at h
  rcases h with h | ⟨n, hn, h⟩ | ⟨n, hn, h⟩ | ⟨n, hn, h⟩ | h <;> omega

theorem PlainRw.hostPlace_side {k : Nat} (h : PlainRw k) {side : Nat} (hs : side < 4) : hostPlace 0 (sideOffset k side) = .reg k side := by
  have := h.bounds
  unfold hostPlace sideOffset
  dsimp only
  rw [if_pos rfl, if_pos (by omega)]
  congr 1 <;> omega

theorem PlainRw.sideOffset_zero {k : Nat} (h : PlainRw k) : sideOffset k 0 = k := by
  have := h.bounds
  unfold sideOffset
  omega

theorem PlainRw.sideOffset_aligned {k : Nat} (h : PlainRw k) {side : Nat} (hs : side < 4) :
    sideOffset k side < barSize 0 ∧ sideOffset k side % 4 = 0 := by
  have := h.bounds
  unfold sideOffset barSize
  rw [if_pos rfl]
  omega

/-- A block that responds does so through every side of its registers. -/
theorem State.responds_side (s : State) {k side : Nat} (hs : side < 4) : s.responds 0 (sideOffset k side) = s.responds 0 k := by
  have hb : sideOffset k side / 0x10000 = k / 0x10000 := by unfold sideOffset; omega
  have ho : sideOffset k side % 0x4000 = k % 0x4000 := by unfold sideOffset; omega
  simp only [State.responds, hb, ho]

/-! ## A plain register does nothing but hold its fields -/

theorem PlainRw.unitRefuses {k : Nat} (h : PlainRw k) (s : State) (w : Word) (v : Nat) (direct : Bool) :
    s.unitRefuses k w v direct = false := by
  have := h.bounds
  have hdma : anyBelow (fun c => k == HIF.DMA_CFG c) 8 = false :=
    anyBelow_false fun c _ => beq_false_of_ne (by unfold HIF.DMA_CFG; omega)
  have hrst : firstBelow (fun n => k == KNL.K_RST n) 64 = none :=
    firstBelow_none fun n _ => beq_false_of_ne (by unfold KNL.K_RST; omega)
  unfold State.unitRefuses
  dsimp only
  rw [if_neg (by unfold EIM.CFG; omega), if_neg (by unfold EIM.CTL; omega), if_neg (by unfold UPD.CHAINCFG; omega),
    if_neg (by unfold EVT.RDSEQ; omega), if_neg (by unfold SYN.APLL_CTL; omega), if_neg (ne_true_of_eq_false hdma), hrst]

theorem PlainRw.rwWrite {k : Nat} (h : PlainRw k) (s : State) (w : Word) : s.rwWrite k w = s.setWord k w := by
  have := h.bounds
  rw [State.rwWrite, if_neg (by unfold EVT.RDSEQ; omega)]

theorem PlainRw.setModes {k : Nat} (h : PlainRw k) (s : State) (mask : Nat) : s.setModes k mask = s := by
  have := h.bounds
  have hge : firstBelow (fun e => inImem e k || inDesc e k || k == GE.ENTRY e || k == GE.CTL e) 16 = none :=
    firstBelow_none fun e _ => by
      simp only [inImem, inDesc, Bool.or_eq_false_iff, Bool.and_eq_false_iff, decide_eq_false_iff_not, beq_eq_false_iff_ne]
      unfold IMEM.word DESC.word GE.ENTRY GE.CTL
      omega
  have hptp : firstBelow (fun p => k == TIME.PTP_CFG p) 2 = none :=
    firstBelow_none fun p _ => beq_false_of_ne (by unfold TIME.PTP_CFG; omega)
  have href : (decide (k < 2 ^ 31) && k / 2 ^ 16 == 5 && k != REF.PROFILE) = false := by
    rw [show (k / 2 ^ 16 == 5) = false from beq_false_of_ne (by omega), Bool.and_false, Bool.false_and]
  have htx : ∀ n, (decide (FT.word n 0 ≤ k) && decide (k < FT.word n 0 + 16)) = false := fun n => by
    simp only [Bool.and_eq_false_iff, decide_eq_false_iff_not]
    unfold FT.word
    omega
  unfold State.setModes
  simp only [hge, hptp, href, htx, Bool.false_eq_true, if_false]
  split <;> rfl

theorem PlainRw.act {k : Nat} (h : PlainRw k) (s : State) (i v : Nat) (old : Word) (direct : Bool) : s.act i k v old direct = s := by
  unfold State.act
  dsimp only
  rcases h.bounds with hk | ⟨hlo, hhi, -⟩ | hk
  · simp only [show k / 0x10000 = 0 by omega]
    rw [if_neg (by unfold GLB.COMMIT; omega), if_neg (by unfold GLB.SNAPREQ; omega), if_neg (by unfold GLB.JCTL; omega)]
  · simp only [show k / 0x10000 = 3 by omega]
    rw [if_neg (by unfold SEC.DBGCTL; omega), if_neg (by unfold SEC.ATTCTL; omega)]
  · have hcmd : firstBelow (fun n => k == HRD.H_CMD n) 16 = none :=
      firstBelow_none fun n _ => beq_false_of_ne (by unfold HRD.H_CMD; omega)
    simp only [show k / 0x10000 = 0x17 by omega, hcmd]

end Sys2Proof.Machine
end

section
/-!
PROOFS. The path of a dword of the host (R485, R489, R498, R499, R600), and what becomes of it.
-/

namespace Sys2Proof.Machine

/-! ## The commands of a host write -/

/-- The number of an interface: 0 PCIe, 1 SPI. -/
def ifaceNumber : Iface → Nat
  | .pcie => 0
  | .spi => 1

theorem State.ifaceEnabled_eq (s : State) (i : Iface) : s.ifaceEnabled i = s.ifaceOn (ifaceNumber i) := by cases i <;> rfl

theorem exec_hostWrite (i : Iface) {bar : Nat} (o be v : Nat) (s : State) (h : bar < 3) :
    exec (.hostWrite i bar o be v) s = .next (s.hostWrite (ifaceNumber i) bar o be v) := by
  show execHostWrite i bar o be v s = _
  rw [execHostWrite, if_pos h]
  cases i <;> rfl

theorem exec_setAliasWrite (i : Iface) (k v : Nat) (s : State) :
    exec (.setAliasWrite i k v) s = .next (s.hostWrite (ifaceNumber i) 0 (sideOffset k 1) 15 v) := by cases i <;> rfl

theorem exec_clrAliasWrite (i : Iface) (k v : Nat) (s : State) :
    exec (.clrAliasWrite i k v) s = .next (s.hostWrite (ifaceNumber i) 0 (sideOffset k 2) 15 v) := by cases i <;> rfl

theorem exec_tglAliasWrite (i : Iface) (k v : Nat) (s : State) :
    exec (.tglAliasWrite i k v) s = .next (s.hostWrite (ifaceNumber i) 0 (sideOffset k 3) 15 v) := by cases i <;> rfl

/-! ## The order of the checks (R600) -/

/-- A dword without byte enables does nothing (R485). -/
theorem State.hostWrite_noBytes (s : State) (i bar o v : Nat) {be : Nat} (h : be % 16 = 0) : s.hostWrite i bar o be v = s := by
  unfold State.hostWrite
  exact if_pos (.inl h)

/-- A dword at an aligned address that some enabled interface and a responding block let through. -/
structure Arrives (s : State) (i bar o be : Nat) : Prop where
  bytes : be % 16 ≠ 0
  inside : o < barSize bar
  aligned : o % 4 = 0
  responds : s.responds bar o = true
  enabled : s.ifaceOn i = true

/-- An arriving dword is checked for a place, for a removed unit and for its width, in this order, before it is written. -/
theorem Arrives.hostWrite {s : State} {i bar o be : Nat} (h : Arrives s i bar o be) (v : Nat) :
    s.hostWrite i bar o be v =
      if s.placeAt bar o = .unmapped then s.accErr i (hostKey bar o) .unmapped
      else if s.removedPlace (s.placeAt bar o) then s.absentAccess i (hostKey bar o)
      else if be % 16 ≠ 15 then s.accErr i (hostKey bar o) .narrow
      else s.writePlace i (hostKey bar o) (BitVec.ofNat 32 v) (s.placeAt bar o) := by
  have ho : o % barSize bar / 4 * 4 = o := by rw [Nat.mod_eq_of_lt h.inside]; have := h.aligned; omega
  have hgate : ¬(be % 16 = 0 ∨ !s.responds bar o ∨ !s.ifaceOn i) := by simp [h.bytes, h.responds, h.enabled]
  unfold State.hostWrite
  rw [ho]
  exact if_neg hgate

/-- A whole dword to a place of a present unit is written there. -/
theorem Arrives.hostWrite_present {s : State} {i bar o be : Nat} (h : Arrives s i bar o be) (hbe : be % 16 = 15)
    (hrem : s.removedPlace (s.placeAt bar o) = false) (hp : s.placeAt bar o ≠ .unmapped) (v : Nat) :
    s.hostWrite i bar o be v = s.writePlace i (hostKey bar o) (BitVec.ofNat 32 v) (s.placeAt bar o) := by
  rw [h.hostWrite, if_neg hp, if_neg (ne_true_of_eq_false hrem), if_neg (fun hne => hne hbe)]

/-! ## Table words -/

/-- A branch that is not the answer was not taken. -/
theorem Place.else_of_ite {c : Prop} [Decidable c] {a b p : Place} (h : (if c then a else b) = p) (ha : a ≠ p) : b = p :=
  ((ite_eq_iff.mp h).resolve_left fun e => ha e.2).2

/-- BAR2 shows a shadowed word at the offsets of the shadowed tables alone. -/
theorem tableKey_of_placeBar2 {o k : Nat} (h : placeBar2 o = .shadowed k) : tableKey k = true := by
  unfold placeBar2 at h
  by_cases ht : shadowedTable o = true
  · rw [if_pos ht] at h
    obtain rfl : bar2 o = k := Place.shadowed.inj h
    simp [tableKey, bar2, ht]
  · rw [if_neg ht] at h
    iterate 13 replace h := Place.else_of_ite h nofun
    cases h

theorem tableKey_of_hostPlace {bar o k : Nat} (h : hostPlace bar o = .shadowed k) : tableKey k = true := by
  unfold hostPlace at h
  dsimp only at h
  split at h
  · split at h <;> cases h
  · split at h
    · exact tableKey_of_placeBar2 h
    · repeat' split at h
      all_goals cases h

/-- A place that is a word of a shadowed table names a key of one. -/
theorem State.tableKey_of_placeAt {s : State} {bar o k : Nat} (h : s.placeAt bar o = .shadowed k) : tableKey k = true := by
  unfold State.placeAt at h
  split at h
  · split at h <;> cases h
  · exact tableKey_of_hostPlace h

/-! ## RW registers and their sides -/

theorem RegFam.plain_iff (f : RegFam) : f.plain = true ↔ f.rw ≠ 0 ∧ f.rws = 0 ∧ f.wo1 = 0 ∧ f.sq = 0 ∧ f.wp = 0 := by
  simp [RegFam.plain, and_assoc]

/-- Without a written bit under the mask, SET, CLR and TGL leave the word as it is (R489). -/
theorem sideWrite_of_and_eq_zero {side mask : Nat} (w v : Word) (hs : side ≠ 0) (h : mask &&& v.toNat = 0) : sideWrite side w v mask = w := by
  have hv : v &&& BitVec.ofNat 32 mask = 0#32 := by
    apply BitVec.eq_of_toNat_eq
    rw [BitVec.toNat_and, BitVec.toNat_ofNat, ← Nat.mod_eq_of_lt v.isLt, ← Nat.and_mod_two_pow, Nat.and_comm, h]
    rfl
  unfold sideWrite
  dsimp only
  split
  · exact absurd rfl hs
  · rw [hv, BitVec.or_zero]
  · rw [hv, BitVec.not_zero, BitVec.and_allOnes]
  · rw [hv, BitVec.xor_zero]

/-- A write to a plain register sets its word by the side written; a SET, CLR or TGL that reaches no RW bit writes nothing. -/
theorem PlainRw.regWrite {k n : Nat} {f : RegFam} (h : PlainRw k) (hk : regAt k = some (f, n)) (hf : f.plain = true) (s : State)
    (i side addr : Nat) (v : Word) : s.regWrite i k side addr v =
      if side ≠ 0 ∧ f.rw &&& v.toNat = 0 then s else s.setWord k (sideWrite side (s.word k) v f.rw) := by
  obtain ⟨hrw, hrws, hwo1, hsq, -⟩ := (RegFam.plain_iff f).mp hf
  unfold State.regWrite
  rw [hk]
  simp only [h.unitRefuses, h.rwWrite, h.setModes, h.act, hrws, hwo1, hsq]
  by_cases hs : side = 0
  · simp [hs, hrw]
  · simp [hs]

/-- What a write through a side of a plain register leaves: the side's value in its word, and everything else as it was. -/
theorem PlainRw.regWrite_runs {k n : Nat} {f : RegFam} (h : PlainRw k) (hk : regAt k = some (f, n)) (hf : f.plain = true) (s : State)
    (i side addr : Nat) (v : Word) :
    (s.regWrite i k side addr v).word k = sideWrite side (s.word k) v f.rw ∧
      (∀ j, j ≠ k → (s.regWrite i k side addr v).word j = s.word j) ∧ Frame [.live] s (s.regWrite i k side addr v) := by
  rw [h.regWrite hk hf]
  split
  · next hnone => exact ⟨(sideWrite_of_and_eq_zero _ _ hnone.1 hnone.2).symm, fun _ _ => rfl, Frame.refl _ _⟩
  · exact ⟨State.word_setWord_same _ _ _, fun _ hj => State.word_setWord_ne _ _ hj, s.setWord_frame _ _⟩

/-- A write through a side of a plain register that the host reaches becomes a register write. -/
theorem PlainRw.hostWrite_side {k side : Nat} {i : Iface} {s : State} (h : PlainRw k) (hs : side < 4) (hr : s.hostReaches i k = true) (v : Nat) :
    s.hostWrite (ifaceNumber i) 0 (sideOffset k side) 15 v =
      s.regWrite (ifaceNumber i) k side (hostKey 0 (sideOffset k side)) (BitVec.ofNat 32 v) := by
  simp only [State.hostReaches, State.ifaceEnabled_eq, Bool.and_eq_true, Bool.not_eq_true'] at hr
  obtain ⟨⟨⟨hon, hresp⟩, hremoved⟩, hlocal⟩ := hr
  obtain ⟨hin, hal⟩ := h.sideOffset_aligned hs
  have harr : Arrives s (ifaceNumber i) 0 (sideOffset k side) 15 := ⟨by decide, hin, hal, by rw [State.responds_side s hs, hresp], hon⟩
  have hplace : s.placeAt 0 (sideOffset k side) = .reg k side := by rw [State.placeAt, h.hostPlace_side hs]
  have htaken : (s.standby && !localBlock k) = false := by
    cases hst : s.standby <;> simp_all
  rw [harr.hostWrite, hplace, if_neg (by simp), if_neg (by simp [State.removedPlace, hremoved]), if_neg (by decide)]
  simp only [State.writePlace, htaken, Bool.false_and, Bool.false_eq_true, if_false]

/-- Settles O48: the checks of a host write in their order, each with the record it leaves, and the write itself at a table word and at a register of
RW fields. -/
theorem hostWritesReachWordsOrAreRefused : Obligations.HostWritesReachWordsOrAreRefused := by
  unfold Obligations.HostWritesReachWordsOrAreRefused
  intro i bar o be v k s place quiet refused runs
  refine ⟨fun hbar ho h4 hon hresp => ?_, fun f n hk hrw hrws hwo1 hsq hwp hblock hreach => ?_⟩
  · have arrives : be % 16 ≠ 0 → Arrives s (ifaceNumber i) bar o be := fun hbe =>
      ⟨hbe, ho, h4, hresp, s.ifaceEnabled_eq i ▸ hon⟩
    rw [exec_hostWrite i o be v s hbar]
    refine ⟨fun hbe => ?nothing, fun hbe hp => ⟨_, rfl, ?unmapped⟩, fun hbe hp hrem => ⟨_, rfl, ?removed⟩,
      fun hbe hw hp hrem => ⟨_, rfl, ?narrow⟩, fun hbe hp hrem => ⟨_, rfl, ?readOnly⟩, fun hbe hp hrem hst hroom => ⟨_, rfl, ?table⟩⟩
    case nothing => rw [s.hostWrite_noBytes _ _ _ _ hbe]
    case unmapped =>
      rw [(arrives hbe).hostWrite, if_pos hp]
      exact s.accErr_recorded _ _ .unmapped
    case removed =>
      rw [(arrives hbe).hostWrite, if_neg hp, if_pos hrem]
      exact s.absentAccess_recorded _ _
    case narrow =>
      rw [(arrives hbe).hostWrite, if_neg hp, if_neg (ne_true_of_eq_false hrem), if_pos hw]
      exact s.accErr_recorded _ _ .narrow
    case readOnly =>
      have hplace : s.placeAt bar o = .status k := hp
      rw [(arrives (by omega)).hostWrite_present hbe hrem (by rw [hplace]; nofun), hplace]
      exact s.accErr_recorded _ _ .readonly
    case table =>
      have hplace : s.placeAt bar o = .shadowed k := hp
      rw [(arrives (by omega)).hostWrite_present hbe hrem (by rw [hplace]; nofun), hplace]
      simp only [State.writePlace, hst, Bool.false_eq_true, if_false]
      exact State.tableWrite_taken _ (State.tableKey_of_placeAt hp) hst hroom
  · have hf : f.plain = true := (RegFam.plain_iff f).mpr ⟨hrw, hrws, hwo1, hsq, hwp⟩
    have h := plainRw_of_regAt hk hf hblock
    have hside : ∀ side, side < 4 → ∀ c, exec c s = .next (s.hostWrite (ifaceNumber i) 0 (sideOffset k side) 15 v) →
        runs c (sideWrite side (s.word k) (BitVec.ofNat 32 v) f.rw) := fun side hs c hc =>
      ⟨_, hc, by rw [h.hostWrite_side hs hreach]; exact h.regWrite_runs hk hf s _ side _ _⟩
    refine ⟨hside 0 (by decide) _ ?_, hside 1 (by decide) _ (exec_setAliasWrite ..), hside 2 (by decide) _ (exec_clrAliasWrite ..),
      hside 3 (by decide) _ (exec_tglAliasWrite ..)⟩
    rw [h.sideOffset_zero]
    exact exec_hostWrite i k 15 v s (by decide)

end Sys2Proof.Machine
end

section
/-!
PROOFS. Every command keeps the stores canonical and the queue as it is, and so does every step.
-/

namespace Sys2Proof.Machine

/-! ## One command -/

theorem Part.sub_all (ps : List Part) : Part.sub ps Part.all = true := by
  rw [Part.sub, List.all_eq_true]
  intro p _
  cases p <;> rfl

/-- A frame that lists some parts is a frame that lists them all. -/
theorem Framed.all {ps : List Part} {s : State} {r : Res} (h : Framed ps s r) : Framed Part.all s r := h.weaken (Part.sub_all ps)

/-- What every command has in common: the queue stays, and canonical stores stay canonical. One arm for each arm of `exec`, citing what its meaning
may change. -/
theorem exec_framed : ∀ (c : Instr) (s : State), Framed Part.all s (exec c s)
  | .tickBoundary .., s => Framed.all (execTickBoundary_frame _ s)
  | .guardStart .., s => Framed.all (execGuardStart_frame _ _ s)
  | .patchGatherComplete, s => Framed.all (execPatchGatherComplete_frame s)
  | .runaheadStart .., s => Framed.all (execRunaheadStart_frame _ s)
  | .dramTransactionComplete .., s => Framed.all (execDramTransactionComplete_frame _ _ _ _ s)
  | .illegalInsn .., s => Framed.all (execIllegalInsn_frame _ _ s)
  | .li .., s => Framed.all (execLi_frame _ _ _ _ s)
  | .add .., s => Framed.all (execAdd_frame _ _ _ _ s)
  | .sub .., s => Framed.all (execSub_frame _ _ _ _ s)
  | .and .., s => Framed.all (execAnd_frame _ _ _ _ s)
  | .or .., s => Framed.all (execOr_frame _ _ _ _ s)
  | .xor .., s => Framed.all (execXor_frame _ _ _ _ s)
  | .shl .., s => Framed.all (execShl_frame _ _ _ _ s)
  | .shr .., s => Framed.all (execShr_frame _ _ _ _ s)
  | .sar .., s => Framed.all (execSar_frame _ _ _ _ s)
  | .mul .., s => Framed.all (execMul_frame _ _ _ _ s)
  | .cmp .., s => Framed.all (execCmp_frame _ _ _ s)
  | .lw .., s => Framed.all (execLw_frame _ _ _ _ s)
  | .sw .., s => Framed.all (execSw_frame _ _ _ _ s)
  | .br .., s => Framed.all (execBr_frame _ _ _ s)
  | .loop .., s => Framed.all (execLoop_frame _ _ _ s)
  | .loopr .., s => Framed.all (execLoopr_frame _ _ _ _ s)
  | .endl .., s => Framed.all (execEndl_frame _ s)
  | .call .., s => Framed.all (execCall_frame _ _ s)
  | .ret .., s => Framed.all (execRet_frame _ s)
  | .endt .., s => Framed.all (execEndt_frame _ s)
  | .hset .., s => Framed.all (execHset_frame _ _ _ _ _ s)
  | .hadv .., s => Framed.all (execHadv_frame _ _ _ _ _ s)
  | .vld .., s => Framed.all (execVld_frame _ _ _ _ _ s)
  | .vst .., s => Framed.all (execVst_frame _ _ _ _ _ s)
  | .vadd .., s => Framed.all (execVadd_frame _ _ _ _ _ _ s)
  | .vmul .., s => Framed.all (execVmul_frame _ _ _ _ _ s)
  | .vmac .., s => Framed.all (execVmac_frame _ _ _ _ _ _ _ s)
  | .vsat .., s => Framed.all (execVsat_frame _ _ _ _ _ s)
  | .vsel .., s => Framed.all (execVsel_frame _ _ _ _ _ s)
  | .vpeak .., s => Framed.all (execVpeak_frame _ _ _ _ s)
  | .vramp .., s => Framed.all (execVramp_frame _ _ _ _ _ s)
  | .vdith .., s => Framed.all (execVdith_frame _ _ _ _ _ _ _ s)
  | .fetch .., s => Framed.all (execFetch_frame _ _ _ _ _ _ _ s)
  | .waitf .., s => Framed.all (execWaitf_frame _ _ _ s)
  | .put .., s => Framed.all (execPut_frame _ _ _ _ _ _ _ s)
  | .tkidx .., s => Framed.all (execTkidx_frame _ _ _ s)
  | .tstat .., s => Framed.all (execTstat_frame _ _ _ _ s)
  | .muz .., s => Framed.all (execMuz_frame _ _ _ s)
  | .mark .., s => Framed.all (execMark_frame _ _ _ s)
  | .commitGo .., s => Framed.all (execCommitGo_frame _ _ s)
  | .commitCancel .., s => Framed.all (execCommitCancel_frame _ _ s)
  | .commitValidationDone, s => Framed.all (execCommitValidationDone_frame s)
  | .snapshotRequest .., s => Framed.all (execSnapshotRequest_frame _ s)
  | .snapshotFillDone, s => Framed.all (execSnapshotFillDone_frame s)
  | .ckptNow .., s => Framed.all (execCkptNow_frame _ _ s)
  | .checkpointComplete .., s => Framed.all (execCheckpointComplete_frame _ s)
  | .deviceRecovery .., s => Framed.all (execDeviceRecovery_frame _ s)
  | .replayDone .., s => Framed.all (execReplayDone_frame _ s)
  | .unitRestart .., s => Framed.all (execUnitRestart_frame _ _ _ _ s)
  | .unitRestarted .., s => Framed.all (execUnitRestarted_frame _ _ s)
  | .engineCounterClear .., s => Framed.all (execEngineCounterClear_frame _ _ s)
  | .geProfileLoad .., s => Framed.all (execGeProfileLoad_frame _ _ _ s)
  | .rxFrame .., s => Framed.all (execRxFrame_frame _ _ _ _ _ s)
  | .copyHeaderTaken .., s => Framed.all (execCopyHeaderTaken_frame _ s)
  | .copyConfirm .., s => Framed.all (execCopyConfirm_frame _ s)
  | .copyRewind .., s => Framed.all (execCopyRewind_frame _ _ s)
  | .rxTimeout .., s => Framed.all (execRxTimeout_frame _ s)
  | .deepFrameMove .., s => Framed.all (execDeepFrameMove_frame _ _ _ s)
  | .rxCounterClear .., s => Framed.all (execRxCounterClear_frame _ _ s)
  | .txCounterClear .., s => Framed.all (execTxCounterClear_frame _ _ s)
  | .txProfileLoad .., s => Framed.all (execTxProfileLoad_frame _ _ s)
  | .kennelWordPush .., s => Framed.all (execKennelWordPush_frame _ _ _ s)
  | .kennelWordPop .., s => Framed.all (execKennelWordPop_frame _ _ _ s)
  | .kennelBoundaryFault .., s => Framed.all (execKennelBoundaryFault_frame _ s)
  | .kennelReset .., s => Framed.all (execKennelReset_frame _ _ s)
  | .kennelPioPush .., s => Framed.all (execKennelPioPush_frame _ _ _ _ s)
  | .kennelPioPushlast .., s => Framed.all (execKennelPioPushlast_frame _ _ _ _ s)
  | .kennelPioPop .., s => Framed.all (execKennelPioPop_frame _ _ _ s)
  | .fallComplete .., s => Framed.all (execFallComplete_frame _ _ s)
  | .muzRise .., s => Framed.all (execMuzRise_frame _ _ s)
  | .riseComplete .., s => Framed.all (execRiseComplete_frame _ _ s)
  | .zcTimeout .., s => Framed.all (execZcTimeout_frame _ _ s)
  | .herdArm .., s => Framed.all (execHerdArm_frame _ _ s)
  | .herdGo .., s => Framed.all (execHerdGo_frame _ _ s)
  | .herdPinTrigger .., s => Framed.all (execHerdPinTrigger_frame _ s)
  | .herdTimeTrigger .., s => Framed.all (execHerdTimeTrigger_frame _ s)
  | .herdStarted .., s => Framed.all (execHerdStarted_frame _ s)
  | .herdStop .., s => Framed.all (execHerdStop_frame _ _ s)
  | .sapLocked .., s => Framed.all (execSapLocked_frame _ s)
  | .sapLost .., s => Framed.all (execSapLost_frame _ _ s)
  | .sapFrameError .., s => Framed.all (execSapFrameError_frame _ s)
  | .elasticStoreRead .., s => Framed.all (execElasticStoreRead_frame _ _ s)
  | .aesFrameReceived .., s => Framed.all (execAesFrameReceived_frame _ _ _ _ _ _ _ s)
  | .madiFrameReceived .., s => Framed.all (execMadiFrameReceived_frame _ _ _ _ s)
  | .aesCsBlock .., s => Framed.all (execAesCsBlock_frame _ _ _ s)
  | .aesLocked .., s => Framed.all (execAesLocked_frame _ s)
  | .aesLost .., s => Framed.all (execAesLost_frame _ _ s)
  | .aesBlkerr .., s => Framed.all (execAesBlkerr_frame _ s)
  | .asrcLocked .., s => Framed.all (execAsrcLocked_frame _ _ s)
  | .asrcLost .., s => Framed.all (execAsrcLost_frame _ _ s)
  | .asrcRelock .., s => Framed.all (execAsrcRelock_frame _ _ s)
  | .refSecond .., s => Framed.all (execRefSecond_frame _ s)
  | .refQualified .., s => Framed.all (execRefQualified_frame _ s)
  | .refDisqualified .., s => Framed.all (execRefDisqualified_frame _ s)
  | .refCauseCleared .., s => Framed.all (execRefCauseCleared_frame _ s)
  | .refInactive .., s => Framed.all (execRefInactive_frame _ s)
  | .refSignalReturn .., s => Framed.all (execRefSignalReturn_frame _ s)
  | .refWtrExpire .., s => Framed.all (execRefWtrExpire_frame _ s)
  | .refLocked, s => Framed.all (execRefLocked_frame s)
  | .refHoExpired, s => Framed.all (execRefHoExpired_frame s)
  | .refProfileLoad .., s => Framed.all (execRefProfileLoad_frame _ _ s)
  | .slicerRunt .., s => Framed.all (execSlicerRunt_frame _ s)
  | .apllLost .., s => Framed.all (execApllLost_frame _ _ s)
  | .bandSearchDone .., s => Framed.all (execBandSearchDone_frame _ _ _ s)
  | .apllLocked .., s => Framed.all (execApllLocked_frame _ s)
  | .apllRelock .., s => Framed.all (execApllRelock_frame _ _ s)
  | .vtuneMeasure .., s => Framed.all (execVtuneMeasure_frame _ _ s)
  | .rampGo .., s => Framed.all (execRampGo_frame _ _ s)
  | .rampStop .., s => Framed.all (execRampStop_frame _ _ s)
  | .rampSegmentEnter, s => Framed.all (execRampSegmentEnter_frame s)
  | .eimArm .., s => Framed.all (execEimArm_frame _ s)
  | .eimStop .., s => Framed.all (execEimStop_frame _ s)
  | .eimResult .., s => Framed.all (execEimResult_frame _ _ _ s)
  | .eimTimeout, s => Framed.all (execEimTimeout_frame s)
  | .eimCalLost, s => Framed.all (execEimCalLost_frame s)
  | .eimCalLocked, s => Framed.all (execEimCalLocked_frame s)
  | .refJumpMeasurement .., s => Framed.all (execRefJumpMeasurement_frame _ s)
  | .timeCap .., s => Framed.all (execTimeCap_frame _ _ s)
  | .timeSet .., s => Framed.all (execTimeSet_frame _ _ s)
  | .timeAlign .., s => Framed.all (execTimeAlign_frame _ _ s)
  | .ptpOffsetSample .., s => Framed.all (execPtpOffsetSample_frame _ _ _ s)
  | .servoHostSample .., s => Framed.all (execServoHostSample_frame _ _ s)
  | .srvHold, s => Framed.all (execSrvHold_frame s)
  | .ptpAnnounceAccepted .., s => Framed.all (execPtpAnnounceAccepted_frame _ _ _ _ _ s)
  | .ptpProfileLoad .., s => Framed.all (execPtpProfileLoad_frame _ _ _ s)
  | .pgArm .., s => Framed.all (execPgArm_frame _ _ _ s)
  | .pgStop .., s => Framed.all (execPgStop_frame _ _ _ s)
  | .pgLeadingEdge .., s => Framed.all (execPgLeadingEdge_frame _ s)
  | .pgTrailingEdge .., s => Framed.all (execPgTrailingEdge_frame _ s)
  | .cueLineHold .., s => Framed.all (execCueLineHold_frame _ _ s)
  | .cueSend .., s => Framed.all (execCueSend_frame _ _ s)
  | .ltcFrameDecoded .., s => Framed.all (execLtcFrameDecoded_frame _ _ _ _ _ s)
  | .ltcLost, s => Framed.all (execLtcLost_frame s)
  | .ltcTxFrame, s => Framed.all (execLtcTxFrame_frame s)
  | .ltcJam .., s => Framed.all (execLtcJam_frame _ _ s)
  | .linkUp .., s => Framed.all (execLinkUp_frame _ s)
  | .linkDown .., s => Framed.all (execLinkDown_frame _ s)
  | .portFrameTx .., s => Framed.all (execPortFrameTx_frame _ s)
  | .gateListAdvance, s => Framed.all (execGateListAdvance_frame s)
  | .macEntryAged .., s => Framed.all (execMacEntryAged_frame _ _ s)
  | .groupLeave .., s => Framed.all (execGroupLeave_frame _ _ _ _ s)
  | .dramTrained, s => Framed.all (execDramTrained_frame s)
  | .dramLate .., s => Framed.all (execDramLate_frame _ _ s)
  | .delayLineService .., s => Framed.all (execDelayLineService_frame _ _ _ s)
  | .voiceSampleRead .., s => Framed.all (execVoiceSampleRead_frame _ _ s)
  | .captureRecord .., s => Framed.all (execCaptureRecord_frame _ s)
  | .voiceGo .., s => Framed.all (execVoiceGo_frame _ _ s)
  | .voiceStop .., s => Framed.all (execVoiceStop_frame _ _ s)
  | .voiceStart .., s => Framed.all (execVoiceStart_frame _ s)
  | .cueVoiceDone .., s => Framed.all (execCueVoiceDone_frame _ s)
  | .captureGo .., s => Framed.all (execCaptureGo_frame _ _ s)
  | .captureStop .., s => Framed.all (execCaptureStop_frame _ _ s)
  | .barkReceive .., s => Framed.all (execBarkReceive_frame _ _ _ _ s)
  | .barkMissing, s => Framed.all (execBarkMissing_frame s)
  | .mirrorPacketReceive .., s => Framed.all (execMirrorPacketReceive_frame _ _ s)
  | .pairConverging .., s => Framed.all (execPairConverging_frame _ s)
  | .pairSynced, s => Framed.all (execPairSynced_frame s)
  | .pathBHandover, s => Framed.all (execPathBHandover_frame s)
  | .pairHello .., s => Framed.all (execPairHello_frame _ _ _ s)
  | .pairHelloTimeout, s => Framed.all (execPairHelloTimeout_frame s)
  | .shepherdPinChange .., s => Framed.all (execShepherdPinChange_frame _ s)
  | .witnessMessage .., s => Framed.all (execWitnessMessage_frame _ s)
  | .voteExpire, s => Framed.all (execVoteExpire_frame s)
  | .voteSample, s => Framed.all (execVoteSample_frame s)
  | .hostWrite .., s => Framed.all (execHostWrite_frame _ _ _ _ _ s)
  | .setAliasWrite .., s => Framed.all (execSetAliasWrite_frame _ _ _ s)
  | .clrAliasWrite .., s => Framed.all (execClrAliasWrite_frame _ _ _ s)
  | .tglAliasWrite .., s => Framed.all (execTglAliasWrite_frame _ _ _ s)
  | .sqAcknowledge .., s => Framed.all (execSqAcknowledge_frame _ _ _ s)
  | .wo1Write .., s => Framed.all (execWo1Write_frame _ _ _ s)
  | .spiWriteFrame .., s => Framed.all (execSpiWriteFrame_frame _ s)
  | .spiReadFrame .., s => Framed.all (execSpiReadFrame_frame _ _ s)
  | .dmaDoorbell .., s => Framed.all (execDmaDoorbell_frame _ _ s)
  | .dmaDescriptorDone .., s => Framed.all (execDmaDescriptorDone_frame _ _ _ _ _ s)
  | .dmaKennelPush .., s => Framed.all (execDmaKennelPush_frame _ _ _ s)
  | .logRecordWrite, s => Framed.all (execLogRecordWrite_frame s)
  | .logConsume .., s => Framed.all (execLogConsume_frame _ _ s)
  | .dbgRequest .., s => Framed.all (execDbgRequest_frame _ s)
  | .dbgSubmit .., s => Framed.all (execDbgSubmit_frame _ s)
  | .dbgNonceExpire, s => Framed.all (execDbgNonceExpire_frame s)
  | .attestGo .., s => Framed.all (execAttestGo_frame _ s)
  | .attestDone, s => Framed.all (execAttestDone_frame s)
  | .hcmdOpen .., s => Framed.all (execHcmdOpen_frame _ s)
  | .hcmdBlock .., s => Framed.all (execHcmdBlock_frame _ _ s)
  | .stagingBlockWritten .., s => Framed.all (execStagingBlockWritten_frame _ s)
  | .hcmdEnd .., s => Framed.all (execHcmdEnd_frame _ s)
  | .hcmdAbort .., s => Framed.all (execHcmdAbort_frame _ s)
  | .stagingVerifyDone, s => Framed.all (execStagingVerifyDone_frame s)
  | .fuseBurnDone, s => Framed.all (execFuseBurnDone_frame s)
  | .chainPoll, s => Framed.all (execChainPoll_frame s)
  | .chainHeadReply .., s => Framed.all (execChainHeadReply_frame _ s)
  | .chainDataReply .., s => Framed.all (execChainDataReply_frame _ _ s)
  | .chainChunkTimeout .., s => Framed.all (execChainChunkTimeout_frame _ s)
  | .chainRequest .., s => Framed.all (execChainRequest_frame _ _ s)
  | .ownerset .., s => Framed.all (execOwnerset_frame _ _ s)
  | .unlock .., s => Framed.all (execUnlock_frame _ _ s)
  | .rollbackAdvance .., s => Framed.all (execRollbackAdvance_frame _ s)
  | .bootok, s => Framed.all (execBootok_frame s)
  | .bootWatchdogExpire, s => Framed.all (execBootWatchdogExpire_frame s)
  | .powerLoss, s => Framed.all (execPowerLoss_frame s)
  | .pinReset, s => Framed.all (execPinReset_frame s)
  | .resetRelease .., s => Framed.all (execResetRelease_frame _ _ s)
  | .firstTick, s => Framed.all (execFirstTick_frame s)
  | .romVerifyDone, s => Framed.all (execRomVerifyDone_frame s)
  | .holdupAssert, s => Framed.all (execHoldupAssert_frame s)
  | .monHoldup, s => Framed.all (execMonHoldup_frame s)
  | .monRailMeasure .., s => Framed.all (execMonRailMeasure_frame _ _ _ s)
  | .monTempMeasure .., s => Framed.all (execMonTempMeasure_frame _ s)
  | .monWear .., s => Framed.all (execMonWear_frame _ s)
  | .sapFrameReceived .., s => Framed.all (execSapFrameReceived_frame _ _ _ s)
  | .sapBclkReturn .., s => Framed.all (execSapBclkReturn_frame _ s)
  | .aesSignalReturn .., s => Framed.all (execAesSignalReturn_frame _ s)
  | .asrcForeignEdgeReturn .., s => Framed.all (execAsrcForeignEdgeReturn_frame _ s)
  | .ckoDelayStep .., s => Framed.all (execCkoDelayStep_frame _ s)
  | .forwardedLocalWrite .., s => Framed.all (execForwardedLocalWrite_frame _ _ _ s)
  | .partnerStagingReport .., s => Framed.all (execPartnerStagingReport_frame _ _ s)
  | .ptpAnnounceReceiptTimeout .., s => Framed.all (execPtpAnnounceReceiptTimeout_frame _ s)
  | .ptpMessageInterval .., s => Framed.all (execPtpMessageInterval_frame _ _ s)
  | .pcieLinkTrained .., s => Framed.all (execPcieLinkTrained_frame _ _ s)

/-! ## One step -/

/-- The queue is no part of what is in canonical form. -/
theorem State.canonical_setPending (s : State) (q : List Instr) : ({ s with pending := q } : State).canonical = s.canonical := rfl

/-- A step takes one command off the queue, if one waits, and keeps canonical stores canonical. -/
theorem step_keeps {s t : State} (h : step s = .next t) : t.pending = s.pending.tail ∧ (s.canonical = true → t.canonical = true) := by
  cases hq : s.pending with
  | nil =>
    rw [step_nil hq] at h
    cases h
    exact ⟨s.coreCycle_frame.queue.trans hq, s.coreCycle_frame.canon⟩
  | cons c q =>
    rw [step_cons hq] at h
    have hframe := exec_framed c _ t h
    exact ⟨hframe.queue, fun hs => hframe.canon hs⟩

/-- Settles O5: each command by the frame of its meaning, each step by that of its command or of a core cycle. -/
theorem everyStepKeepsTheStoresCanonical : Obligations.EveryStepKeepsTheStoresCanonical := by
  unfold Obligations.EveryStepKeepsTheStoresCanonical
  refine ⟨fun s t hs h => ?step, fun c s t h => ?command⟩
  case step =>
    obtain ⟨hqueue, hcanon⟩ := step_keeps h
    exact ⟨hcanon hs, hqueue⟩
  case command =>
    have hframe := exec_framed c s t h
    exact ⟨hframe.queue, hframe.canon⟩

end Sys2Proof.Machine
end

section
/-!
PROOFS. The gathers of the Patch Map (R21, R217, R218): which words of SXM they write, what they put there, and what they mark.
-/

namespace Sys2Proof.Machine

/-! ## Operations that write given words of SXM -/

/-- From `s` to `t` SXM words at addresses of `W` may have been written, open values taken and marks added; the configuration and the valid bits are the
same. -/
structure Stores (W : Nat → Prop) (s t : State) : Prop where
  frame : Frame [.sxm, .sxmPast, .free, .marks] s t
  marks : ∀ m ∈ s.marks, m ∈ t.marks
  bytes : ∀ a, (∀ d, W d → a < d ∨ d + 4 ≤ a) → Memory.byte t.sxm a = Memory.byte s.sxm a

namespace Stores

variable {W V : Nat → Prop} {s t u : State}

theorem refl (W : Nat → Prop) (s : State) : Stores W s s := ⟨Frame.refl _ _, fun _ => id, fun _ _ => rfl⟩

theorem trans (h : Stores W s t) (k : Stores W t u) : Stores W s u :=
  ⟨h.frame.trans k.frame, fun m hm => k.marks m (h.marks m hm), fun a ha => (k.bytes a ha).trans (h.bytes a ha)⟩

theorem mono (h : Stores V s t) (hVW : ∀ d, V d → W d) : Stores W s t :=
  ⟨h.frame, h.marks, fun a ha => h.bytes a fun d hd => ha d (hVW d hd)⟩

theorem foldl {α : Type} {f : State → α → State} (l : List α) (hf : ∀ x, Stores W s x → ∀ i ∈ l, Stores W x (f x i)) (h : Stores W s u) :
    Stores W s (l.foldl f u) := by
  induction l generalizing u with
  | nil => exact h
  | cons i l ih => exact ih (fun x hx j hj => hf x hx j (List.mem_cons_of_mem _ hj)) (h.trans (hf u h i List.mem_cons_self))

theorem eachLane {g : State → Nat → State} (n : Nat) (hg : ∀ x, Stores W s x → ∀ c, c < n → Stores W x (g x c)) :
    Stores W s (s.eachLane g n) := by
  induction n with
  | zero => exact refl W s
  | succ n ih =>
    have hn := ih fun x hx c hc => hg x hx c (by omega)
    exact hn.trans (hg _ hn n (by omega))

/-- An operation that takes open values only. -/
theorem of_free (h : Frame [.free] s t) : Stores W s t := by
  have hmarks : t.marks = s.marks := h.same .marks rfl
  have hsxm : t.sxm = s.sxm := h.same .sxm rfl
  exact ⟨h.weaken rfl, fun m hm => hmarks ▸ hm, fun a _ => by rw [hsxm]⟩

theorem setSxm {a : Nat} (v : Nat) (h : W a) : Stores W s (s.setSxm a v) :=
  ⟨(s.setSxm_frame a v).weaken rfl, fun _ => id, fun _ hc => Memory.byte_setWord_ne _ _ (hc a h)⟩

/-- A word clear of those written reads as before. -/
theorem word (h : Stores W s t) {a : Nat} (ha : ∀ d, W d → a + 4 ≤ d ∨ d + 4 ≤ a) : t.sxmWord a = s.sxmWord a := by
  have hbyte : ∀ i, i < 4 → Memory.byte t.sxm (a + i) = Memory.byte s.sxm (a + i) := fun i hi =>
    h.bytes _ fun d hd => by have := ha d hd; omega
  unfold State.sxmWord Memory.word
  rw [hbyte 1 (by decide), hbyte 2 (by decide), hbyte 3 (by decide), show Memory.byte t.sxm a = Memory.byte s.sxm a from hbyte 0 (by decide)]

theorem live (h : Stores W s t) : t.live = s.live := h.frame.same .live rfl

theorem rd (h : Stores W s t) (f : Fld) : t.rd f = s.rd f := State.rd_congr (State.word_congr h.live _)

theorem flag (h : Stores W s t) (f : Fld) : t.flag f = s.flag f := State.flag_congr (State.word_congr h.live _)

theorem bufC (h : Stores W s t) (b : Nat) : t.bufC b = s.bufC b := h.rd _

theorem bufS (h : Stores W s t) (b : Nat) : t.bufS b = s.bufS b := by
  unfold State.bufS State.tickLen
  rw [h.rd, h.rd]

theorem bufD (h : Stores W s t) (b : Nat) : t.bufD b = s.bufD b := h.rd _

theorem tick (h : Stores W s t) : t.tick = s.tick := h.rd _

theorem isValid (h : Stores W s t) (b f i : Nat) : t.isValid b f i = s.isValid b f i := by
  have hvalid : t.valid = s.valid := h.frame.same .valid rfl
  have hspoiled : t.spoiled = s.spoiled := h.frame.same .spoiled rfl
  unfold State.isValid State.isSpoiled
  rw [hvalid, hspoiled, h.bufD]

theorem frameValid (h : Stores W s t) (b f : Nat) : t.frameValid b f = s.frameValid b f := by
  unfold State.frameValid
  rw [h.bufS, funext (h.isValid b f)]

end Stores

/-! ## Containers -/

/-- The byte address of the container of channel `c` of sample frame `i` in the frame of tick `f` of buffer `b` (R26). -/
def State.container (s : State) (b f i c : Nat) : Nat := s.sxmAddr b f (i * s.bufC b + c)

theorem Stores.container {W : Nat → Prop} {s t : State} (h : Stores W s t) (b f i c : Nat) : t.container b f i c = s.container b f i c := by
  unfold State.container State.sxmAddr
  rw [h.rd, h.bufD, h.bufS, h.bufC]

/-- Containers at different places of a frame do not overlap. -/
theorem State.container_clear (s : State) (b f : Nat) {i c j d : Nat} (hc : c < s.bufC b) (hd : d < s.bufC b) (h : i ≠ j ∨ c ≠ d) :
    s.container b f i c + 4 ≤ s.container b f j d ∨ s.container b f j d + 4 ≤ s.container b f i c := by
  have hplace : i * s.bufC b + c ≠ j * s.bufC b + d := fun heq => by
    have hchannel : c = d := by
      have hmod := congrArg (· % s.bufC b) heq
      simpa [Nat.mul_add_mod', Nat.mod_eq_of_lt hc, Nat.mod_eq_of_lt hd] using hmod
    subst hchannel
    have hsample : i = j := Nat.eq_of_mul_eq_mul_right (by omega) (Nat.add_right_cancel heq)
    omega
  unfold State.container State.sxmAddr
  omega

theorem Memory.word_lt (m : Memory) (a : Nat) : Memory.word m a < 2 ^ 32 := by
  unfold Memory.word
  have h0 := (Memory.byte m a).isLt
  have h1 := (Memory.byte m (a + 1)).isLt
  have h2 := (Memory.byte m (a + 2)).isLt
  have h3 := (Memory.byte m (a + 3)).isLt
  omega

theorem invert_lt (x : Nat) : invert x < 2 ^ 32 := by
  unfold invert wrap32
  omega

/-- A container just stored reads back. -/
theorem State.sxmWord_setSxm_same (s : State) (a : Nat) {v : Nat} (h : v < 2 ^ 32) : (s.setSxm a v).sxmWord a = v :=
  (Memory.word_setWord_same _ _ _).trans (Nat.mod_eq_of_lt h)

theorem State.readSample_valid {s : State} {b f i : Nat} (c : Nat) (h : s.isValid b f i = true) :
    s.readSample b f i c = (s.sxmWord (s.container b f i c), s) := if_pos h

theorem allBelow_apply {p : Nat → Bool} {n i : Nat} (h : allBelow p n = true) (hi : i < n) : p i = true := by
  induction n with
  | zero => omega
  | succ n ih =>
    simp only [allBelow, Bool.and_eq_true] at h
    rcases Nat.lt_succ_iff_lt_or_eq.mp hi with hlt | rfl
    · exact ih h.1 hlt
    · exact h.2

/-! ## One gather -/

/-- The address from which the gather of entry `x` in tick `n` reads sample frame `i`. -/
def State.gatherFrom (s : State) (n x i : Nat) : Nat := s.container (s.rd (PM.SRCBUF x)) n i (s.rd (PM.SRCCH x))

/-- The address to which the gather of entry `x` in tick `n` writes sample frame `i`. -/
def State.gatherTo (s : State) (n x i : Nat) : Nat := s.container (s.rd (PM.DSTBUF x)) ((n + 1) % 2 ^ 32) i (s.rd (PM.DSTCH x))

theorem Stores.gatherTo {W : Nat → Prop} {s t : State} (h : Stores W s t) (n x i : Nat) : t.gatherTo n x i = s.gatherTo n x i := by
  unfold State.gatherTo
  rw [h.rd, h.rd, h.container]

/-- What entry `x` puts where it read container `v` (R217). -/
def State.polarity (s : State) (x v : Nat) : Nat := if s.flag (PM.INV x) then invert v else v

theorem State.polarity_lt (s : State) (x : Nat) {v : Nat} (h : v < 2 ^ 32) : s.polarity x v < 2 ^ 32 := by
  unfold State.polarity
  split
  · exact invert_lt v
  · exact h

theorem Stores.polarity {W : Nat → Prop} {s t : State} (h : Stores W s t) (x v : Nat) : t.polarity x v = s.polarity x v := by
  unfold State.polarity
  rw [h.flag]

/-- Sample frame `i` of the gather of entry `x` in tick `n`, from channel `sc` of buffer `sb` to channel `dc` of buffer `db`. -/
def State.gatherSample (s : State) (n x sb sc db dc i : Nat) : State :=
  let r := s.readSample sb n i sc
  r.2.setSxm (r.2.container db ((n + 1) % 2 ^ 32) i dc) (r.2.polarity x r.1)

/-- The first `m` sample frames of the gather of entry `x` in tick `n`. -/
def State.gatherFirst (s : State) (n x m : Nat) : State :=
  (List.range m).foldl
    (fun t i => t.gatherSample n x (s.rd (PM.SRCBUF x)) (s.rd (PM.SRCCH x)) (s.rd (PM.DSTBUF x)) (s.rd (PM.DSTCH x)) i) s

/-- The mark that the gather of entry `x` in tick `n` leaves where its source frame is not valid (R218). -/
def State.gatherMark (s : State) (n x : Nat) : LaneMark :=
  { buf := s.rd (PM.DSTBUF x), ch := s.rd (PM.DSTCH x), frame := (n + 1) % 2 ^ 32, gather := true }

/-- A gather moves every sample frame of its destination, and marks the lane where the source frame is not valid. -/
theorem State.gather_eq (s : State) (n x : Nat) : s.gather n x =
    let t := s.gatherFirst n x (s.bufS (s.rd (PM.DSTBUF x)))
    if t.frameValid (s.rd (PM.SRCBUF x)) n then t else { t with marks := t.marks ++ [s.gatherMark n x] } := rfl

theorem State.gatherSample_stores (s : State) (n x sb sc db dc i : Nat) :
    Stores (· = s.container db ((n + 1) % 2 ^ 32) i dc) s (s.gatherSample n x sb sc db dc i) := by
  have hread : Stores (· = s.container db ((n + 1) % 2 ^ 32) i dc) s (s.readSample sb n i sc).2 := .of_free (s.readSample_frame ..)
  exact hread.trans (.setSxm _ (hread.container ..))

/-- Where the source sample frame is valid, its container arrives with the entry's polarity. -/
theorem State.gatherSample_word {s : State} {n sb i : Nat} (x sc db dc : Nat) (h : s.isValid sb n i = true) :
    (s.gatherSample n x sb sc db dc i).sxmWord (s.container db ((n + 1) % 2 ^ 32) i dc) = s.polarity x (s.sxmWord (s.container sb n i sc)) := by
  unfold State.gatherSample
  rw [State.readSample_valid sc h]
  exact State.sxmWord_setSxm_same _ _ (s.polarity_lt x (Memory.word_lt _ _))

theorem State.gatherFirst_stores (s : State) (n x m : Nat) : Stores (fun d => ∃ j, j < m ∧ d = s.gatherTo n x j) s (s.gatherFirst n x m) := by
  refine .foldl _ (fun t ht i hi => ?_) (.refl _ _)
  refine (t.gatherSample_stores ..).mono fun d hd => ⟨i, List.mem_range.mp hi, ?_⟩
  rw [hd, ht.container]
  rfl

theorem State.gatherFirst_succ (s : State) (n x m : Nat) : s.gatherFirst n x (m + 1) =
    (s.gatherFirst n x m).gatherSample n x (s.rd (PM.SRCBUF x)) (s.rd (PM.SRCCH x)) (s.rd (PM.DSTBUF x)) (s.rd (PM.DSTCH x)) m := by
  unfold State.gatherFirst
  rw [List.range_succ, List.foldl_append]
  rfl

/-- A gather from valid sample frames that it does not overwrite moves each of them. -/
theorem State.gatherFirst_word {s : State} {n x m : Nat} (hdst : s.rd (PM.DSTCH x) < s.bufC (s.rd (PM.DSTBUF x)))
    (hvalid : ∀ i, i < m → s.isValid (s.rd (PM.SRCBUF x)) n i = true)
    (hapart : ∀ i j, i < m → j < m → s.gatherFrom n x i + 4 ≤ s.gatherTo n x j ∨ s.gatherTo n x j + 4 ≤ s.gatherFrom n x i) :
    ∀ j, j < m → (s.gatherFirst n x m).sxmWord (s.gatherTo n x j) = s.polarity x (s.sxmWord (s.gatherFrom n x j)) := by
  induction m with
  | zero => intro j hj; omega
  | succ m ih =>
    intro j hj
    have hbefore := s.gatherFirst_stores n x m
    rw [State.gatherFirst_succ]
    rcases Nat.lt_succ_iff_lt_or_eq.mp hj with hlt | rfl
    · rw [(State.gatherSample_stores ..).word fun d hd => by
        rw [hd, hbefore.container]
        exact s.container_clear _ _ hdst hdst (.inl (by omega))]
      exact ih (fun i hi => hvalid i (by omega)) (fun i k hi hk => hapart i k (by omega) (by omega)) j hlt
    · have hsource : (s.gatherFirst n x j).sxmWord (s.gatherFrom n x j) = s.sxmWord (s.gatherFrom n x j) :=
        hbefore.word fun d ⟨k, hk, hd⟩ => hd ▸ hapart j k (by omega) (by omega)
      have hmoved := State.gatherSample_word x (s.rd (PM.SRCCH x)) (s.rd (PM.DSTBUF x)) (s.rd (PM.DSTCH x))
        ((hbefore.isValid _ _ _).trans (hvalid j (by omega)))
      rw [hbefore.container, hbefore.container, hbefore.polarity] at hmoved
      exact hmoved.trans (congrArg _ hsource)

theorem State.gather_stores (s : State) (n x : Nat) :
    Stores (fun d => ∃ j, j < s.bufS (s.rd (PM.DSTBUF x)) ∧ d = s.gatherTo n x j) s (s.gather n x) := by
  have hfirst := s.gatherFirst_stores n x (s.bufS (s.rd (PM.DSTBUF x)))
  rw [State.gather_eq]
  dsimp only
  split
  · exact hfirst
  · exact ⟨hfirst.frame.set_marks rfl, fun m hm => List.mem_append_left _ (hfirst.marks m hm), hfirst.bytes⟩

/-- A gather whose source frame is not valid marks its destination lane (R218). -/
theorem State.gather_marks {s : State} {n x : Nat} (h : s.frameValid (s.rd (PM.SRCBUF x)) n = false) :
    s.gatherMark n x ∈ (s.gather n x).marks := by
  rw [State.gather_eq]
  dsimp only
  rw [(s.gatherFirst_stores _ _ _).frameValid, h]
  exact List.mem_append_right _ List.mem_cons_self

/-- A gather of a valid source frame that it does not overwrite moves the whole frame (R218). -/
theorem State.gather_word {s : State} {n x : Nat} (hvalid : s.frameValid (s.rd (PM.SRCBUF x)) n = true)
    (hsize : s.bufS (s.rd (PM.SRCBUF x)) = s.bufS (s.rd (PM.DSTBUF x))) (hdst : s.rd (PM.DSTCH x) < s.bufC (s.rd (PM.DSTBUF x)))
    (hapart : ∀ i j, i < s.bufS (s.rd (PM.DSTBUF x)) → j < s.bufS (s.rd (PM.DSTBUF x)) →
      s.gatherFrom n x i + 4 ≤ s.gatherTo n x j ∨ s.gatherTo n x j + 4 ≤ s.gatherFrom n x i) {j : Nat} (hj : j < s.bufS (s.rd (PM.DSTBUF x))) :
    (s.gather n x).sxmWord (s.gatherTo n x j) = s.polarity x (s.sxmWord (s.gatherFrom n x j)) := by
  rw [State.gather_eq]
  dsimp only
  rw [(s.gatherFirst_stores _ _ _).frameValid, hvalid, if_pos rfl]
  exact State.gatherFirst_word hdst (fun i hi => allBelow_apply hvalid (hsize ▸ hi)) hapart j hj

/-! ## The gathers of a tick -/

/-- What the Patch Map does at the end of its gathers: those of every enabled entry, and the zero channels (R218). -/
def State.gatherTick (s : State) : State := (s.gatherSome fun _ => true).gatherZeros

theorem State.gatherSome_all (s : State) : (s.gatherSome fun _ => true) = (Cfg.patches s.live).foldl (fun t x => t.gather t.tick x) s := by
  unfold State.gatherSome
  rw [List.filter_true]

theorem State.gatherSome_stores (s : State) : Stores (fun d => ∃ x ∈ Cfg.patches s.live, ∃ j, j < s.bufS (s.rd (PM.DSTBUF x)) ∧
    d = s.gatherTo s.tick x j) s (s.gatherSome fun _ => true) := by
  rw [State.gatherSome_all]
  refine .foldl _ (fun t ht x hx => ?_) (.refl _ _)
  refine (t.gather_stores ..).mono fun d ⟨j, hj, hd⟩ => ⟨x, hx, j, ?_, ?_⟩
  · rwa [ht.rd, ht.bufS] at hj
  · rw [hd, ht.gatherTo, ht.tick]

/-- Zeros go to the channels of the frame of buffer `b` that no enabled entry names (R218). -/
theorem State.gatherZero_stores (s : State) (n b : Nat) : Stores (fun d => ∃ i c, i < s.bufS b ∧ c < s.bufC b ∧
    (∀ x ∈ Cfg.patches s.live, s.rd (PM.DSTBUF x) = b → s.rd (PM.DSTCH x) ≠ c) ∧ d = s.container b ((n + 1) % 2 ^ 32) i c) s (s.gatherZero n b) := by
  unfold State.gatherZero
  extract_lets f used
  refine .eachLane _ fun t ht c hc => ?_
  split
  · exact .refl _ _
  · next hused =>
    have hfree : ∀ x ∈ Cfg.patches s.live, s.rd (PM.DSTBUF x) = b → s.rd (PM.DSTCH x) ≠ c := fun x hx hb hxc =>
      hused (by simpa [used] using ⟨x, ⟨hx, hb⟩, hxc⟩)
    refine .foldl _ (fun u hu i hi => .setSxm _ ⟨i, c, ?_, hc, hfree, ?_⟩) (.refl _ _)
    · rwa [ht.bufS, List.mem_range] at hi
    · exact (ht.trans hu).container ..

theorem State.gatherZeros_stores (s : State) : Stores (fun d => ∃ y ∈ Cfg.patches s.live, ∃ i c, i < s.bufS (s.rd (PM.DSTBUF y)) ∧
    c < s.bufC (s.rd (PM.DSTBUF y)) ∧ (∀ x ∈ Cfg.patches s.live, s.rd (PM.DSTBUF x) = s.rd (PM.DSTBUF y) → s.rd (PM.DSTCH x) ≠ c) ∧
    d = s.container (s.rd (PM.DSTBUF y)) ((s.tick + 1) % 2 ^ 32) i c) s s.gatherZeros := by
  unfold State.gatherZeros
  refine .foldl _ (fun t ht b hb => ?_) (.refl _ _)
  obtain ⟨y, hy, rfl⟩ := List.mem_map.mp (List.mem_eraseDups.mp hb)
  refine (t.gatherZero_stores ..).mono fun d ⟨i, c, hi, hc, hfree, hd⟩ => ⟨y, hy, i, c, ?_, ?_, ?_, ?_⟩
  · exact ht.bufS _ ▸ hi
  · exact ht.bufC _ ▸ hc
  · intro x hx hb
    have := hfree x (ht.live ▸ hx) ((ht.rd _).trans hb)
    rwa [ht.rd] at this
  · rw [hd, ht.container, ht.tick]
    rfl

/-- The gathers of a tick write channels of destination frames, and channels that an enabled entry names (R218). -/
theorem State.gatherTick_stores (s : State) : Stores (fun d => ∃ x ∈ Cfg.patches s.live, ∃ j c, j < s.bufS (s.rd (PM.DSTBUF x)) ∧
    c < max (s.bufC (s.rd (PM.DSTBUF x))) (s.rd (PM.DSTCH x) + 1) ∧ d = s.container (s.rd (PM.DSTBUF x)) ((s.tick + 1) % 2 ^ 32) j c) s
    s.gatherTick := by
  have hsome := s.gatherSome_stores
  refine (hsome.mono ?moved).trans ((State.gatherZeros_stores _).mono ?zeros)
  case moved =>
    intro d ⟨x, hx, j, hj, hd⟩
    exact ⟨x, hx, j, s.rd (PM.DSTCH x), hj, by omega, hd⟩
  case zeros =>
    simp only [hsome.live, hsome.rd, hsome.bufS, hsome.bufC, hsome.container, hsome.tick]
    intro d ⟨x, hx, i, c, hi, hc, _, hd⟩
    exact ⟨x, hx, i, c, hi, by omega, hd⟩

/-- Every enabled entry whose source frame is not valid has its lane marked (R218). -/
theorem State.gatherTick_marks {s : State} {x : Nat} (hx : x ∈ Cfg.patches s.live) (h : s.frameValid (s.rd (PM.SRCBUF x)) s.tick = false) :
    s.gatherMark s.tick x ∈ s.gatherTick.marks := by
  obtain ⟨before, after, hsplit⟩ := List.append_of_mem hx
  have hto : Stores (fun _ => True) s (before.foldl (fun t y => t.gather t.tick y) s) :=
    .foldl _ (fun t _ y _ => (t.gather_stores ..).mono fun _ _ => trivial) (.refl _ _)
  have hmark := State.gather_marks (n := s.tick) (x := x) ((hto.frameValid _ _).trans ((congrArg (s.frameValid · s.tick) (hto.rd _)).trans h))
  have hfrom : ∀ t : State, Stores (fun _ => True) t (after.foldl (fun t y => t.gather t.tick y) t) := fun t =>
    .foldl _ (fun u _ y _ => (u.gather_stores ..).mono fun _ _ => trivial) (.refl _ _)
  refine (State.gatherZeros_stores _).marks _ ?_
  rw [State.gatherSome_all, hsplit, List.foldl_append, List.foldl_cons, hto.tick]
  refine (hfrom _).marks _ ?_
  unfold State.gatherMark at hmark ⊢
  rwa [hto.rd, hto.rd] at hmark

/-- With one enabled entry, whose source frame is valid and clear of the destination frame, the whole frame moves (R218). -/
theorem State.gatherTick_word {s : State} {x : Nat} (hx : Cfg.patches s.live = [x]) (hvalid : s.frameValid (s.rd (PM.SRCBUF x)) s.tick = true)
    (hsize : s.bufS (s.rd (PM.SRCBUF x)) = s.bufS (s.rd (PM.DSTBUF x))) (hdst : s.rd (PM.DSTCH x) < s.bufC (s.rd (PM.DSTBUF x)))
    (hapart : ∀ i j, i < s.bufS (s.rd (PM.DSTBUF x)) → j < s.bufS (s.rd (PM.DSTBUF x)) →
      s.gatherFrom s.tick x i + 4 ≤ s.gatherTo s.tick x j ∨ s.gatherTo s.tick x j + 4 ≤ s.gatherFrom s.tick x i)
    {j : Nat} (hj : j < s.bufS (s.rd (PM.DSTBUF x))) :
    s.gatherTick.sxmWord (s.gatherTo s.tick x j) = s.polarity x (s.sxmWord (s.gatherFrom s.tick x j)) := by
  have hsome := s.gatherSome_stores
  have hkept : s.gatherTick.sxmWord (s.gatherTo s.tick x j) = (s.gatherSome fun _ => true).sxmWord (s.gatherTo s.tick x j) := by
    refine (State.gatherZeros_stores _).word ?_
    simp only [hsome.live, hsome.rd, hsome.bufS, hsome.bufC, hsome.container, hsome.tick, hx, List.mem_singleton]
    rintro d ⟨y, rfl, i, c, -, hc, hfree, rfl⟩
    exact s.container_clear _ _ hdst hc (.inr (hfree y rfl rfl))
  rw [hkept, State.gatherSome_all, hx]
  exact State.gather_word hvalid hsize hdst hapart hj

/-! ## PATCH_GATHER_COMPLETE -/

/-- The state after PATCH_GATHER_COMPLETE: the gathers made, and the cycle recorded (R21). -/
def State.gatherDone (s : State) : State := { s.gatherTick.wr FLOW.PATCHCYC.CYC s.gatherTick.clk.cycle with gathered := true }

theorem exec_patchGatherComplete {s : State} (hwork : s.clk.phase = .work) (hgathered : s.gathered = false) :
    exec .patchGatherComplete s = .next s.gatherDone := congrArg _ (if_pos ⟨hwork, hgathered⟩)

/-- Of the words, only the recorded cycle is new. -/
theorem State.gatherDone_live (s : State) : s.gatherDone.live = (s.gatherTick.wr FLOW.PATCHCYC.CYC s.clk.cycle).live := by
  have hclk : s.gatherTick.clk = s.clk := s.gatherTick_stores.frame.same .clk rfl
  rw [← hclk]
  rfl

theorem State.gatherDone_cycle (s : State) : s.gatherDone.rd FLOW.PATCHCYC.CYC = s.clk.cycle % 2 ^ FLOW.PATCHCYC.CYC.width :=
  (State.rd_congr (State.word_congr s.gatherDone_live _)).trans (State.rd_wr_same _ _ _ (by decide))

theorem State.gatherDone_word (s : State) {k : Nat} (h : k ≠ FLOW.PATCHCYC) : s.gatherDone.word k = s.word k := by
  rw [State.word_congr s.gatherDone_live, State.word_wr_ne _ _ h, State.word_congr s.gatherTick_stores.live]

end Sys2Proof.Machine
end

section
/-!
PROOFS. A run-ahead's start and an illegal word (R70, R79 to R81, R145), and with the gathers the engine events of a tick.
-/

namespace Sys2Proof.Machine

/-! ## The engines as a store -/

@[simp] theorem State.engine_setEngine_same (s : State) (e : Nat) (x : Engine) : (s.setEngine e x).engine e = x := Store.get_set_same _ _ _ _

theorem State.engine_setEngine_ne (s : State) {e j : Nat} (x : Engine) (h : j ≠ e) : (s.setEngine e x).engine j = s.engine j :=
  Store.get_set_ne _ _ _ h

theorem State.engine_congr {s t : State} (h : t.ge = s.ge) (e : Nat) : t.engine e = s.engine e := by
  unfold State.engine
  rw [h]

/-! ## The start of a run-ahead -/

/-- The fixed state in which a run-ahead starts the program of tick `f` at word `pc` (R70). -/
def Engine.StartsAhead (x : Engine) (f pc : Nat) : Prop :=
  x.st = .runahead ∧ x.ahead = true ∧ x.tick = f ∧ x.pc = pc ∧ (∀ r, x.reg r = 0) ∧ x.rsb = [] ∧ x.loops = [] ∧ x.calls = [] ∧ x.cycles = 0

/-- With no scalar register listed, every register reads 0. -/
theorem Engine.reg_zero {x : Engine} (h : x.g = []) (r : Nat) : x.reg r = 0 := by
  unfold Engine.reg Engine.gr
  rw [h]
  split <;> rfl

theorem State.startProgram_startsAhead (s : State) (e : Nat) {f : Nat} (hf : f < 2 ^ 32) :
    ((s.startProgram e f true).engine e).StartsAhead f (s.rd (GE.ENTRY.val e)) := by
  unfold State.startProgram
  rw [State.engine_setEngine_same]
  exact ⟨rfl, rfl, Nat.mod_eq_of_lt hf, rfl, Engine.reg_zero rfl, rfl, rfl, rfl, rfl⟩

theorem State.startProgram_engine_ne (s : State) {e j : Nat} (f : Nat) (ahead : Bool) (h : j ≠ e) :
    (s.startProgram e f ahead).engine j = s.engine j := State.engine_setEngine_ne _ _ h

theorem State.startProgram_word (s : State) (e f : Nat) (ahead : Bool) (k : Nat) : (s.startProgram e f ahead).word k = s.word k :=
  State.word_congr ((s.startProgram_frame e f ahead).same .live rfl) k

/-- The state after RUNAHEAD_START of engine `e`, the start counted. -/
def State.startedAhead (s : State) (e : Nat) : State := (s.startProgram e ((s.tick + 1) % 2 ^ 32) true).inc (GE.RASTART.val e)

theorem State.startedAhead_starts (s : State) (e : Nat) :
    ((s.startedAhead e).engine e).StartsAhead ((s.tick + 1) % 2 ^ 32) (s.rd (GE.ENTRY.val e)) :=
  s.startProgram_startsAhead e (Nat.mod_lt _ (by decide))

theorem State.startedAhead_counted (s : State) (e : Nat) :
    (s.startedAhead e).rd (GE.RASTART.val e) = (s.rd (GE.RASTART.val e) + 1) % 2 ^ 32 := by
  unfold State.startedAhead
  rw [State.rd_inc_same _ (show 0 + 32 ≤ 32 by decide), State.rd_congr (s.startProgram_word _ _ _ _)]
  rfl

theorem State.startedAhead_engine_ne (s : State) {e j : Nat} (h : j ≠ e) : (s.startedAhead e).engine j = s.engine j :=
  s.startProgram_engine_ne ((s.tick + 1) % 2 ^ 32) true h

theorem State.startedAhead_word (s : State) (e : Nat) {k : Nat} (h : k ≠ GE.RASTART e) : (s.startedAhead e).word k = s.word k :=
  (State.word_inc_ne _ h).trans (s.startProgram_word _ _ _ _)

/-! ## An illegal word -/

/-- Engine `e` has been stopped with its run-ahead store buffer discarded, and does not run ahead again in this tick (R145). -/
def Engine.Stopped (x : Engine) : Prop := x.st = .idle ∧ x.ahead = false ∧ x.noAhead = true ∧ x.rsb = []

theorem State.stopEngine_stopped (s : State) (e : Nat) : ((s.stopEngine e).engine e).Stopped ∧ ((s.stopEngine e).engine e).done = false := by
  unfold State.stopEngine State.setFilled
  rw [State.engine_setEngine_same]
  exact ⟨⟨rfl, rfl, rfl, rfl⟩, rfl⟩

/-- Engine `e` stopped on an illegal word, before the report: a run-ahead leaves the program of its tick done (log entry 70). -/
def State.haltIllegal (s : State) (e : Nat) : State :=
  if (s.engine e).ahead then (s.stopEngine e).setEngine e { (s.stopEngine e).engine e with done := true } else s.stopEngine e

theorem State.haltIllegal_frame (s : State) (e : Nat) : Frame [.ge] s (s.haltIllegal e) := by
  unfold State.haltIllegal
  split
  · exact (s.stopEngine_frame e).trans (State.setEngine_frame ..)
  · exact s.stopEngine_frame e

theorem State.haltIllegal_stopped (s : State) (e : Nat) :
    ((s.haltIllegal e).engine e).Stopped ∧ ((s.haltIllegal e).engine e).done = (s.engine e).ahead := by
  obtain ⟨hstopped, hdone⟩ := s.stopEngine_stopped e
  unfold State.haltIllegal
  split
  · next hahead =>
    rw [State.engine_setEngine_same]
    exact ⟨hstopped, hahead.symm⟩
  · next hahead => exact ⟨hstopped, hdone.trans (eq_false_of_ne_true hahead).symm⟩

theorem State.haltIllegal_engine_ne (s : State) {e j : Nat} (h : j ≠ e) : (s.haltIllegal e).engine j = s.engine j := by
  have hstop : (s.stopEngine e).engine j = s.engine j := State.engine_setEngine_ne _ _ h
  unfold State.haltIllegal
  split
  · rw [State.engine_setEngine_ne _ _ h, hstop]
  · exact hstop

/-- The state after ILLEGAL_INSN of engine `e`: stopped, and reported (R145). -/
def State.illegalStop (s : State) (e : Nat) : State := (s.haltIllegal e).report 0x0E06 e (s.engine e).pc

theorem exec_illegalInsn {s : State} {e : Nat} {imem : Bool} (he : s.executes e = true)
    (h : imem = true ∨ Genah.decode (s.fetchWord e) = none) : exec (.illegalInsn e imem) s = .next (s.illegalStop e) :=
  congrArg _ (if_pos (by simpa [he] using h))

theorem State.illegalStop_engine (s : State) (e j : Nat) : (s.illegalStop e).engine j = (s.haltIllegal e).engine j :=
  State.engine_congr ((State.report_frame ..).same .ge rfl) j

theorem State.haltIllegal_word (s : State) (e k : Nat) : (s.haltIllegal e).word k = s.word k :=
  State.word_congr ((s.haltIllegal_frame e).same .live rfl) k

theorem State.illegalStop_reported (s : State) (e : Nat) : Reported 0x0E06 s (s.illegalStop e) :=
  (State.report_reported _ _ _ _ (by decide)).after (s.haltIllegal_word _ _) (s.haltIllegal_word _ _)

theorem State.illegalStop_word (s : State) (e : Nat) {k : Nat} (h : reportKey k = false) : (s.illegalStop e).word k = s.word k :=
  (State.report_word _ _ _ _ h (by decide)).trans (s.haltIllegal_word _ _)

/-- Settles O18: the gathers by the words they write, the start of a run-ahead and the stop on an illegal word by the engine they leave. -/
theorem engineEventsOfTheTick : Obligations.EngineEventsOfTheTick := by
  unfold Obligations.EngineEventsOfTheTick
  intro e imem s x f
  refine ⟨fun hwork hgathered => ?gathers, fun hwork he hpresent hfollower hidle hdone hahead hok hen hno hup hinputs hdue => ?ahead,
    fun he hword => ?illegal⟩
  case gathers =>
    have hexec := exec_patchGatherComplete hwork hgathered
    refine ⟨_, hexec, rfl, s.gatherDone_cycle, s.gatherTick_stores.marks, fun _ => State.gatherTick_marks, ?_, fun a ha => ?_,
      fun k => s.gatherDone_word, execPatchGatherComplete_frame s _ hexec⟩
    · intro k hk sb db src dst hvalid hsize hdst hapart j hj
      exact State.gatherTick_word hk hvalid hsize hdst (fun i j hi hj => hapart i j _ hi hj hdst) hj
    · refine s.gatherTick_stores.bytes a ?_
      rintro d ⟨k, hk, j, c, hj, hc, rfl⟩
      exact ha k hk j c hj hc
  case ahead =>
    have hall : (s.inputs e).all (fun b => s.inputReady e b s.tick f) = true := List.all_eq_true.mpr hinputs
    have hexec : exec (.runaheadStart e) s = .next (s.startedAhead e) :=
      congrArg _ (if_pos ⟨hwork, he, hpresent, congrArg not hfollower, hidle, hdone, congrArg not hahead, hok, hen, congrArg not hno,
        congrArg not hup, hall, congrArg not hdue⟩)
    obtain ⟨hst, hrun, htick, hpc, hreg, hrsb, hloops, hcalls, hcycles⟩ := s.startedAhead_starts e
    exact ⟨_, hexec, hst, hrun, htick, hpc, hreg, hrsb, hloops, hcalls, hcycles, s.startedAhead_counted e, fun j => s.startedAhead_engine_ne,
      fun k => s.startedAhead_word e, execRunaheadStart_frame e s _ hexec⟩
  case illegal =>
    have hexec := exec_illegalInsn he hword
    obtain ⟨⟨hst, hahead, hno, hrsb⟩, hdone⟩ := s.haltIllegal_stopped e
    rw [← s.illegalStop_engine] at hst hahead hno hrsb hdone
    exact ⟨_, hexec, hst, hdone, hahead, hno, hrsb, fun j hj => (s.illegalStop_engine e j).trans (s.haltIllegal_engine_ne hj),
      s.illegalStop_reported e, fun k => s.illegalStop_word e, execIllegalInsn_frame e imem s _ hexec⟩

end Sys2Proof.Machine
end

section
/-!
PROOFS. A write to a register of the normal space that the host reaches, and a write of shadowed bits (R33, R36, R54, R57, R60, R600).
-/

namespace Sys2Proof.Machine

/-! ## The path of a register write -/

/-- Key `k` stands in the normal space of a block of BAR0 (R480). -/
def NormalSpace (k : Nat) : Prop := k < 0x180000 ∧ k % 0x10000 < 0x4000 ∧ k % 4 = 0

theorem NormalSpace.placeAt {k : Nat} (h : NormalSpace k) (s : State) : s.placeAt 0 k = .reg k 0 := by
  obtain ⟨hblock, hnormal, haligned⟩ := h
  have hplace : hostPlace 0 k = .reg k 0 := by
    unfold hostPlace
    dsimp only
    rw [if_pos rfl, if_pos (by omega)]
    congr 1 <;> omega
  rw [State.placeAt, hplace]

/-- A whole dword to a register that the host reaches becomes a direct write of the register. -/
theorem State.regCommand_reaches {s : State} {i : Iface} {k : Nat} (h : NormalSpace k) (hr : s.hostReaches i k = true) (v : Nat) :
    s.regCommand i k v = s.regWrite (ifaceNumber i) k 0 (hostKey 0 k) (BitVec.ofNat 32 v) := by
  simp only [State.hostReaches, State.ifaceEnabled_eq, Bool.and_eq_true, Bool.not_eq_true'] at hr
  obtain ⟨⟨⟨hon, hresp⟩, hremoved⟩, hlocal⟩ := hr
  obtain ⟨hblock, -, haligned⟩ := id h
  have hinside : k < barSize 0 := by
    unfold barSize
    rw [if_pos rfl]
    omega
  have harr : Arrives s (ifaceNumber i) 0 k 15 := ⟨by decide, hinside, haligned, hresp, hon⟩
  have htaken : (s.standby && !localBlock k) = false := by
    cases hst : s.standby <;> simp_all
  have hcommand : s.regCommand i k v = s.hostWrite (ifaceNumber i) 0 k 15 v := by cases i <;> rfl
  have hplace := h.placeAt s
  rw [hcommand, harr.hostWrite_present rfl (by rw [hplace]; exact hremoved) (by rw [hplace]; nofun), hplace]
  simp only [State.writePlace, htaken, Bool.false_and, Bool.false_eq_true, if_false]

/-! ## Words merged under a mask -/

theorem mergeBits_getLsbD (w v : Word) (m : Nat) {j : Nat} (hj : j < 32) :
    (mergeBits w v m).getLsbD j = if m.testBit j then v.getLsbD j else w.getLsbD j := by
  have hnot : (2 ^ 32 - 1 - m % 2 ^ 32).testBit j = !m.testBit j := by
    rw [Nat.sub_sub, Nat.add_comm 1, Nat.testBit_two_pow_sub_succ (Nat.mod_lt _ (by decide)), Nat.testBit_mod_two_pow]
    simp [hj]
  unfold mergeBits
  rw [BitVec.getLsbD_or, BitVec.getLsbD_and, BitVec.getLsbD_and, BitVec.getLsbD_ofNat, BitVec.getLsbD_ofNat, hnot]
  cases m.testBit j <;> simp [hj]

/-- Bits taken from a word that took them itself. -/
theorem mergeBits_mergeBits (w u v : Word) (m : Nat) : mergeBits w (mergeBits u v m) m = mergeBits w v m := by
  apply BitVec.eq_of_getLsbD_eq
  intro j hj
  rw [mergeBits_getLsbD _ _ _ hj, mergeBits_getLsbD _ _ _ hj, mergeBits_getLsbD _ _ _ hj]
  split <;> rfl

/-- A field inside the mask is the one of the word merged in. -/
theorem Fld.ext_mergeBits {f : Fld} {m : Nat} (w v : Word) (hf : f.lo + f.width ≤ 32)
    (h : ∀ j, f.lo ≤ j → j < f.lo + f.width → m.testBit j = true) : f.ext (mergeBits w v m) = f.ext v := by
  apply Nat.eq_of_testBit_eq
  intro j
  unfold Fld.ext
  rw [Nat.testBit_mod_two_pow, Nat.testBit_mod_two_pow, Nat.testBit_div_two_pow, Nat.testBit_div_two_pow]
  by_cases hj : j < f.width
  · have hbit := mergeBits_getLsbD w v m (show j + f.lo < 32 by omega)
    rw [h (j + f.lo) (by omega) (by omega), if_pos rfl] at hbit
    exact congrArg _ hbit
  · simp [hj]

/-! ## What a write of shadowed bits can do -/

/-- A write of a chip that is no STANDBY is refused for a full journal or for want of checkpoint space, or it is journaled and enters the open shadow
(R54, R57, R60). -/
theorem State.shadowWrite_cases {s : State} (i k : Nat) (v : Word) (entry : Nat) (hs : s.standby = false) :
    s.shadowWrite i k v entry = (s.refuseFull k, false) ∨ s.shadowWrite i k v entry = (s.accErr i k .refused, false) ∨
      s.shadowWrite i k v entry = ((s.journal .write k entry s.tick).putShadow k v, true) := by
  unfold State.shadowWrite
  dsimp only
  split
  · exact .inl rfl
  · split
    · exact .inr (.inl rfl)
    · exact .inr (.inr (if_neg (by simp [hs])))

/-- The room for a word does not depend on its bits outside the mask. -/
theorem State.hasRoom_mergeBits (s : State) {k : Nat} (u v : Word) (hk : isDmem k = false) :
    s.hasRoom [(k, mergeBits u v (rwsMask k))] = s.hasRoom [(k, v)] := by
  have hput : s.putShadow k (mergeBits u v (rwsMask k)) = s.putShadow k v := by
    unfold State.putShadow
    rw [hk, if_neg Bool.false_ne_true, if_neg Bool.false_ne_true, mergeBits_mergeBits]
  unfold State.hasRoom
  rw [List.foldl_cons, List.foldl_cons, hput]

/-- A journal entry forces a checkpoint at most; the image being written and the restore point stay (R56). -/
theorem State.journal_ckpt (s : State) (t : JType) (k w2 w3 : Nat) :
    (s.journal t k w2 w3).ckpt.writing = s.ckpt.writing ∧ (s.journal t k w2 w3).ckpt.restore = s.ckpt.restore := by
  have hat : ∀ q w1, (s.journalAt q w1 w2 w3).ckpt.writing = s.ckpt.writing ∧ (s.journalAt q w1 w2 w3).ckpt.restore = s.ckpt.restore := by
    intro q w1
    unfold State.journalAt
    extract_lets a b c d e u
    split <;> exact ⟨rfl, rfl⟩
  unfold State.journal State.journalRaw
  split
  · exact ⟨rfl, rfl⟩
  · extract_lets q u
    split <;> exact hat _ _

/-- What a write of shadowed bits of word `k` leaves, taken or refused: the open shadow of every other word, the restore point and the image being
written stay. -/
structure ShadowWritten (k : Nat) (s t : State) : Prop where
  others : ∀ j, j ≠ k → Store.find t.shadow j = Store.find s.shadow j
  restore : t.ckpt.restore = s.ckpt.restore
  writing : t.ckpt.writing = s.ckpt.writing
  frame : Frame [.live, .evt, .shadow, .ckpt, .out] s t

/-- A refusal records itself among the events. -/
theorem ShadowWritten.of_refused {k : Nat} {s t : State} (h : Frame [.live, .evt, .out] s t) : ShadowWritten k s t := by
  have hshadow : t.shadow = s.shadow := h.same .shadow rfl
  have hckpt : t.ckpt = s.ckpt := h.same .ckpt rfl
  exact ⟨fun _ _ => congrArg (Store.find · _) hshadow, congrArg Ckpt.restore hckpt, congrArg Ckpt.writing hckpt, h.weaken rfl⟩

theorem State.shadowWritten_taken (s : State) (k : Nat) (v : Word) (entry mask : Nat) :
    ShadowWritten k s (((s.journal .write k entry s.tick).putShadow k v).setModes k mask) := by
  obtain ⟨hwriting, hrestore⟩ := s.journal_ckpt .write k entry s.tick
  have hmodes := ((s.journal .write k entry s.tick).putShadow k v).setModes_frame k mask
  have hckpt : (((s.journal .write k entry s.tick).putShadow k v).setModes k mask).ckpt = (s.journal .write k entry s.tick).ckpt :=
    hmodes.same .ckpt rfl
  refine ⟨fun j hj => ?_, (congrArg Ckpt.restore hckpt).trans hrestore, (congrArg Ckpt.writing hckpt).trans hwriting, ?_⟩
  · rw [State.setModes_shadow, State.putShadow_find_ne _ v hj, State.journal_shadow]
  · exact (((s.journal_frame ..).weaken rfl).seq (State.putShadow_frame ..) rfl).seq hmodes rfl

end Sys2Proof.Machine
end

section
/-!
PROOFS. Snapshots and checkpoints: the request, the fill, the host's checkpoint and its end (R49, R52, R58, R61).
-/

namespace Sys2Proof.Machine

/-! ## Snapshots (R49, R52) -/

/-- The write of SNAPREQ.REQ requests a snapshot. -/
theorem exec_snapshotRequest {s : State} {i : Iface} (h : s.hostReaches i GLB.SNAPREQ = true) :
    exec (.snapshotRequest i) s = .next s.snapshotRequest :=
  congrArg _ ((State.regCommand_reaches ⟨by decide, by decide, by decide⟩ h 1).trans rfl)

theorem State.snapshotRequest_requested (s : State) : s.snapshotRequest.snap.requested = true := by
  unfold State.snapshotRequest
  dsimp only
  split <;> rfl

/-- A request that meets a bank being filled shows in PENDING. -/
theorem State.snapshotRequest_pending {s : State} (h : s.snap.filling.isSome = true) : s.snapshotRequest.flag GLB.SNAPSTAT.PENDING = true := by
  unfold State.snapshotRequest
  rw [if_pos h]
  exact State.flag_wrFlag_same _ _ _ (by decide) rfl

theorem State.snapshotRequest_word (s : State) {k : Nat} (h : k ≠ GLB.SNAPSTAT) : s.snapshotRequest.word k = s.word k := by
  unfold State.snapshotRequest
  dsimp only
  split
  · exact State.word_wrFlag_ne _ _ h
  · rfl

/-- The snapshot unit with the filled bank `b` in its place, and no bank being filled. -/
def Snap.filled (x : Snap) (b : Bank) : Snap :=
  if b.head % 2 = 0 then { x with bank0 := b, filling := none } else { x with bank1 := b, filling := none }

/-- The state after the fill of bank `b`: SNAPSEQ and BUSY follow the bank's tail word (R52). -/
def State.fillDone (s : State) (b : Bank) : State :=
  (({ s with snap := s.snap.filled b } : State).wr GLB.SNAPSEQ.val b.head).wrFlag GLB.SNAPSTAT.BUSY false

theorem exec_snapshotFillDone {s : State} {b : Bank} (h : s.snap.filling = some b) : exec .snapshotFillDone s = .next (s.fillDone b) := by
  show execSnapshotFillDone s = _
  simp only [execSnapshotFillDone, h, State.fillDone, Snap.filled, State.setBank]
  split <;> rfl

theorem Snap.filled_filling (x : Snap) (b : Bank) : (x.filled b).filling = none := by
  unfold Snap.filled
  split <;> rfl

theorem Snap.filled_banks (x : Snap) (b : Bank) : if b.head % 2 = 0 then (x.filled b).bank0 = b ∧ (x.filled b).bank1 = x.bank1
    else (x.filled b).bank1 = b ∧ (x.filled b).bank0 = x.bank0 := by
  unfold Snap.filled
  split <;> exact ⟨rfl, rfl⟩

theorem State.fillDone_seq (s : State) (b : Bank) : (s.fillDone b).rd GLB.SNAPSEQ.val = b.head % 2 ^ 32 :=
  (State.rd_congr (State.word_wrFlag_ne _ _ (by decide))).trans (State.rd_wr_same _ _ _ (by decide))

theorem State.fillDone_busy (s : State) (b : Bank) : (s.fillDone b).flag GLB.SNAPSTAT.BUSY = false :=
  State.flag_wrFlag_same _ _ _ (by decide) rfl

theorem State.fillDone_word (s : State) (b : Bank) {k : Nat} (hstat : k ≠ GLB.SNAPSTAT) (hseq : k ≠ GLB.SNAPSEQ) :
    (s.fillDone b).word k = s.word k := by
  unfold State.fillDone
  rw [State.word_wrFlag_ne _ _ hstat, State.word_wr_ne _ _ hseq]
  rfl

/-! ## The host's checkpoint (R58) -/

/-- The state with a checkpoint due. -/
def State.ckptDue (s : State) : State := { s with ckpt := { s.ckpt with due := true } }

/-- The RWS bits of JCTL, LOC and CKPT_EPOCHS. -/
theorem rwsMask_jctl : rwsMask GLB.JCTL = 0x2FFFF := by decide

/-- A direct write of JCTL that sets CKPT_NOW writes the RWS bits and makes a checkpoint due, whatever becomes of the RWS bits (R58, log entry 43). -/
theorem State.regWrite_jctl {v : Word} (s : State) (i addr : Nat) (h : bit v.toNat 16 = true) :
    s.regWrite i GLB.JCTL 0 addr v = (s.rwsWrite i GLB.JCTL 0 v 0x2FFFF).ckptDue :=
  calc s.regWrite i GLB.JCTL 0 addr v
    _ = (s.rwsWrite i GLB.JCTL 0 v 0x2FFFF).act i GLB.JCTL v.toNat (s.word GLB.JCTL) true := rfl
    _ = (s.rwsWrite i GLB.JCTL 0 v 0x2FFFF).ckptDue := if_pos ⟨rfl, h⟩

/-- The open shadow of JCTL takes the RWS bits of a direct write over what it held. -/
theorem State.rwsWrite_jctl (s : State) (i : Nat) (v : Word) : ∃ entry, s.rwsWrite i GLB.JCTL 0 v 0x2FFFF =
    let r := s.shadowWrite i GLB.JCTL (mergeBits (s.shadowWord GLB.JCTL) v 0x2FFFF) entry
    if r.2 then r.1.setModes GLB.JCTL (2 ^ 32 - 1) else r.1 := ⟨_, rfl⟩

theorem State.rwsWrite_jctl_written {s : State} (i : Nat) (v : Word) (hs : s.standby = false) :
    ShadowWritten GLB.JCTL s (s.rwsWrite i GLB.JCTL 0 v 0x2FFFF) := by
  obtain ⟨entry, hwrite⟩ := s.rwsWrite_jctl i v
  rw [hwrite]
  rcases State.shadowWrite_cases i GLB.JCTL (mergeBits (s.shadowWord GLB.JCTL) v 0x2FFFF) entry hs with h | h | h <;>
    simp only [h, Bool.false_eq_true, if_true, if_false]
  · exact .of_refused (s.refuseFull_frame _)
  · exact .of_refused (s.accErr_frame _ _ _)
  · exact s.shadowWritten_taken ..

/-- With room, the open shadow holds the RWS bits written. -/
theorem State.rwsWrite_jctl_taken {s : State} (i : Nat) {v : Word} (hs : s.standby = false) (hr : s.hasRoom [(GLB.JCTL, v)] = true) :
    ∃ w, Store.find (s.rwsWrite i GLB.JCTL 0 v 0x2FFFF).shadow GLB.JCTL = some (mergeBits w v 0x2FFFF) := by
  have hroom : s.hasRoom [(GLB.JCTL, mergeBits (s.shadowWord GLB.JCTL) v 0x2FFFF)] = true := by
    rw [← rwsMask_jctl, State.hasRoom_mergeBits _ _ _ (by decide), hr]
  obtain ⟨entry, hwrite⟩ := s.rwsWrite_jctl i v
  refine ⟨(s.journal .write GLB.JCTL entry s.tick).word GLB.JCTL, ?_⟩
  simp only [hwrite, State.shadowWrite_taken i entry hs hroom, if_true, State.setModes_shadow, State.putShadow, rwsMask_jctl, mergeBits_mergeBits]
  exact Store.find_insert_same _ _ _

theorem toNat_or_ckptNow {v : Nat} (hv : v < 2 ^ 32) : (BitVec.ofNat 32 (v ||| 2 ^ 16)).toNat = v ||| 2 ^ 16 := by
  rw [BitVec.toNat_ofNat, Nat.mod_eq_of_lt (Nat.or_lt_two_pow hv (by decide))]

/-- LOC and CKPT_EPOCHS of a word that a host writes with CKPT_NOW. -/
theorem jctl_fields {v : Nat} (hv : v < 2 ^ 32) (w : Word) :
    GLB.JCTL.LOC.ext (mergeBits w (BitVec.ofNat 32 (v ||| 2 ^ 16)) 0x2FFFF) = v / 2 ^ 17 % 2 ∧
      GLB.JCTL.CKPT_EPOCHS.ext (mergeBits w (BitVec.ofNat 32 (v ||| 2 ^ 16)) 0x2FFFF) = v % 2 ^ 16 := by
  have hword := toNat_or_ckptNow hv
  constructor
  · rw [Fld.ext_mergeBits _ _ (by decide) (by decide)]
    show (BitVec.ofNat 32 (v ||| 2 ^ 16)).toNat / 2 ^ 17 % 2 ^ 1 = _
    rw [hword, Nat.or_div_two_pow]
    simp
  · rw [Fld.ext_mergeBits _ _ (by decide) (by decide)]
    show (BitVec.ofNat 32 (v ||| 2 ^ 16)).toNat / 2 ^ 0 % 2 ^ 16 = _
    rw [hword, pow_zero, Nat.div_one, Nat.or_mod_two_pow]
    simp

theorem exec_ckptNow {s : State} {i : Iface} {v : Nat} (hv : v < 2 ^ 32) (h : s.hostReaches i GLB.JCTL = true) :
    exec (.ckptNow i v) s = .next (s.rwsWrite (ifaceNumber i) GLB.JCTL 0 (BitVec.ofNat 32 (v ||| 2 ^ 16)) 0x2FFFF).ckptDue := by
  have hbit : bit (BitVec.ofNat 32 (v ||| 2 ^ 16)).toNat 16 = true := by
    have hset : (v ||| 2 ^ 16).testBit 16 = true := by rw [Nat.testBit_or, Nat.testBit_two_pow_self, Bool.or_true]
    rw [toNat_or_ckptNow hv, bit, beq_iff_eq]
    simpa [Nat.testBit_eq_decide_div_mod_eq] using hset
  show Host.Outcome.next (s.regCommand i GLB.JCTL (v ||| 2 ^ 16)) = _
  rw [State.regCommand_reaches ⟨by decide, by decide, by decide⟩ h, State.regWrite_jctl _ _ _ hbit]

/-! ## The end of a checkpoint (R61) -/

/-- A complete checkpoint takes the slot that the one before it does not hold. -/
def State.nextSlot (s : State) : State :=
  if s.flag GLB.CKPTSTAT.VALID then s.wr GLB.CKPTSTAT.SLOT (1 - s.rd GLB.CKPTSTAT.SLOT) else s

/-- The status of a complete checkpoint with marker `m`: VALID, its slot and CKPTSEQ (R61). -/
def State.ckptMarked (s : State) (m : Nat) : State :=
  ((s.wrFlag GLB.CKPTSTAT.BUSY false).nextSlot.wrFlag GLB.CKPTSTAT.VALID true).wr GLB.CKPTSEQ.val m

/-- The registers after a complete checkpoint with marker `m`: its status, and in FILL the entries that follow the marker (R57, R61). -/
def State.ckptShown (s : State) (m : Nat) : State :=
  (s.ckptMarked m).fillTo (((s.ckptMarked m).rd GLB.JSEQ.val + 2 ^ 32 - m) % 2 ^ 32)

theorem State.nextSlot_ckpt (s : State) : s.nextSlot.ckpt = s.ckpt := by
  unfold State.nextSlot
  split <;> rfl

theorem State.nextSlot_word (s : State) {k : Nat} (h : k ≠ GLB.CKPTSTAT) : s.nextSlot.word k = s.word k := by
  unfold State.nextSlot
  split
  · exact State.word_wr_ne _ _ h
  · rfl

theorem State.nextSlot_busy (s : State) : s.nextSlot.flag GLB.CKPTSTAT.BUSY = s.flag GLB.CKPTSTAT.BUSY := by
  unfold State.nextSlot State.flag
  split
  · rw [State.rd_wr_apart _ _ _ _ (by decide) (by decide)]
  · rfl

theorem State.fillTo_word (s : State) (n : Nat) {k : Nat} (h : k ≠ GLB.JSTAT) : (s.fillTo n).word k = s.word k :=
  (State.word_wrFlag_ne _ _ h).trans (State.word_wr_ne _ _ h)

theorem State.fillTo_ckpt (s : State) (n : Nat) : (s.fillTo n).ckpt = s.ckpt := rfl

theorem State.ckptShown_ckpt (s : State) (m : Nat) : (s.ckptShown m).ckpt = s.ckpt := by
  rw [State.ckptShown, State.fillTo_ckpt, State.ckptMarked, State.wr_ckpt, State.wrFlag_ckpt, State.nextSlot_ckpt, State.wrFlag_ckpt]

/-- CKPTSTAT shows the complete checkpoint. -/
theorem State.ckptShown_stat (s : State) (m : Nat) : (s.ckptShown m).word GLB.CKPTSTAT =
    ((s.wrFlag GLB.CKPTSTAT.BUSY false).nextSlot.wrFlag GLB.CKPTSTAT.VALID true).word GLB.CKPTSTAT :=
  (State.fillTo_word _ _ (by decide)).trans (State.word_wr_ne _ _ (by decide))

theorem State.ckptShown_valid (s : State) (m : Nat) : (s.ckptShown m).flag GLB.CKPTSTAT.VALID = true :=
  (State.flag_congr (s.ckptShown_stat m)).trans (State.flag_wrFlag_same _ _ _ (by decide) rfl)

theorem State.ckptShown_busy (s : State) (m : Nat) : (s.ckptShown m).flag GLB.CKPTSTAT.BUSY = false := by
  rw [State.flag_congr (s.ckptShown_stat m), State.flag_wrFlag_apart _ _ _ _ (by decide) (by decide), State.nextSlot_busy,
    State.flag_wrFlag_same _ _ _ (by decide) rfl]

theorem State.ckptShown_seq (s : State) (m : Nat) : (s.ckptShown m).rd GLB.CKPTSEQ.val = m % 2 ^ 32 :=
  (State.rd_congr (State.fillTo_word _ _ (by decide))).trans (State.rd_wr_same _ _ _ (by decide))

theorem State.ckptShown_word (s : State) (m : Nat) {k : Nat} (hstat : k ≠ GLB.CKPTSTAT) (hseq : k ≠ GLB.CKPTSEQ) (hjstat : k ≠ GLB.JSTAT) :
    (s.ckptShown m).word k = s.word k := by
  rw [State.ckptShown, State.fillTo_word _ _ hjstat, State.ckptMarked, State.word_wr_ne _ _ hseq, State.word_wrFlag_ne _ _ hstat,
    State.nextSlot_word _ hstat, State.word_wrFlag_ne _ _ hstat]

/-- The state with the checkpoint unit at `x`. -/
def State.setCkpt (s : State) (x : Ckpt) : State := { s with ckpt := x }

theorem State.word_setCkpt (s : State) (x : Ckpt) (k : Nat) : (s.setCkpt x).word k = s.word k := rfl

/-- A written and verified image becomes the restore point. -/
theorem exec_checkpointComplete_good {s : State} {img : Checkpoint} (h : s.ckpt.writing = some img) :
    exec (.checkpointComplete true) s = .next ((s.ckptShown img.marker).setCkpt { s.ckpt with
      writing := none, restore := some img, due := s.ckpt.due || decide (7168 ≤ (s.ckptShown img.marker).rd GLB.JSTAT.FILL) }) := by
  rw [← s.ckptShown_ckpt img.marker]
  show execCheckpointComplete true s = _
  simp only [execCheckpointComplete, h]
  rfl

/-- A failed image is due again. -/
theorem exec_checkpointComplete_bad {s : State} {img : Checkpoint} (h : s.ckpt.writing = some img) :
    exec (.checkpointComplete false) s = .next ((s.wrFlag GLB.CKPTSTAT.BUSY false).setCkpt { s.ckpt with writing := none, due := true }) := by
  show execCheckpointComplete false s = _
  simp only [execCheckpointComplete, h]
  rfl

/-- Settles O20: each command by the state it leaves, the write of CKPT_NOW through what a write of shadowed bits can do. -/
theorem snapshotsAndCheckpointsComplete : Obligations.SnapshotsAndCheckpointsComplete := by
  unfold Obligations.SnapshotsAndCheckpointsComplete
  intro i v s
  refine ⟨fun hreach _ => ?request, fun b hb => ?fill, fun hv hreach hstandby => ?now, fun img himg => ⟨?good, ?bad⟩⟩
  case request =>
    exact ⟨_, exec_snapshotRequest hreach, s.snapshotRequest_requested, State.snapshotRequest_pending, fun k => s.snapshotRequest_word,
      s.snapshotRequest_frame⟩
  case fill =>
    have hexec := exec_snapshotFillDone hb
    exact ⟨_, hexec, s.snap.filled_filling b, s.snap.filled_banks b, s.fillDone_seq b, s.fillDone_busy b, fun k => s.fillDone_word b,
      execSnapshotFillDone_frame s _ hexec⟩
  case now =>
    obtain ⟨hothers, hrestore, hwriting, hframe⟩ := State.rwsWrite_jctl_written (ifaceNumber i) (BitVec.ofNat 32 (v ||| 2 ^ 16)) hstandby
    refine ⟨_, exec_ckptNow hv hreach, rfl, hrestore, hwriting, fun hroom => ?_, hothers, hframe.set_ckpt rfl⟩
    obtain ⟨w, hw⟩ := State.rwsWrite_jctl_taken (ifaceNumber i) hstandby hroom
    obtain ⟨hloc, hepochs⟩ := jctl_fields hv w
    exact (congrArg (Option.map _) hw).trans (congrArg some (Prod.ext hloc hepochs))
  case good =>
    have hexec := exec_checkpointComplete_good himg
    exact ⟨_, hexec, rfl, rfl, (State.flag_congr (State.word_setCkpt ..)).trans (s.ckptShown_valid _),
      (State.flag_congr (State.word_setCkpt ..)).trans (s.ckptShown_busy _), (State.rd_congr (State.word_setCkpt ..)).trans (s.ckptShown_seq _),
      fun k hstat hseq hjstat => (State.word_setCkpt ..).trans (s.ckptShown_word _ hstat hseq hjstat), execCheckpointComplete_frame true s _ hexec⟩
  case bad =>
    have hexec := exec_checkpointComplete_bad himg
    exact ⟨_, hexec, rfl, rfl, rfl,
      (State.flag_congr (State.word_setCkpt ..)).trans (State.flag_wrFlag_same _ _ _ (by decide) rfl), execCheckpointComplete_frame false s _ hexec⟩

end Sys2Proof.Machine
end

section
/-!
PROOFS. A restart of FLOW clears the rings of its receive buffers, and with them squashes a run-ahead that reads one (R87, R170, R510).
-/

namespace Sys2Proof.Machine

/-- Ticks run, receive flow 0 writes buffer 0, and engine 0 is ahead with this buffer as its one declared input, its program carrying the index of the
current tick. -/
def aheadOnReceiveBuffer : State :=
  let s : State := { State.reset with clk := { State.reset.clk with phase := .work } }
  ((s.wr (FT.EN 0) 1).setNum (DESC.word 0 5) 1).setEngine 0 { Engine.reset with st := .runahead, ahead := true, tick := s.tick }

/-- The outcome is a next state in which `p` holds. -/
def nextWith (p : State → Bool) : Res → Bool
  | .next t => p t
  | _ => false

set_option maxRecDepth 20000 in
/-- The restart of FLOW squashes the run-ahead, though no engine belongs to FLOW. -/
theorem unitRestart_flow_squashes :
    nextWith (fun t => (t.engine 0).st == .squashed) (exec (.unitRestart 0x0D 16 1 false) aheadOnReceiveBuffer) = true := by
  decide

/-- Refutes O21: an engine outside the unit that goes down does change. FLOW has no engines, and its restart, a hard change of every receive flow,
squashes engine 0 of `aheadOnReceiveBuffer`. The restart squashes the run-aheads that carry the index of the current tick, and no premise of the
statement says that a run-ahead carries that of the next. -/
theorem not_recoveryAndUnitRestarts : ¬ Obligations.RecoveryAndUnitRestarts := by
  unfold Obligations.RecoveryAndUnitRestarts
  intro h
  obtain ⟨-, -, hrestart, -⟩ := h 0x0D 16 1 aheadOnReceiveBuffer
  obtain ⟨t, hexec, -, -, hothers, -⟩ := hrestart (by decide) rfl (by decide) (by decide) (by decide) (.inl rfl) (by decide) (by decide)
  have hkept : t.engine 0 = aheadOnReceiveBuffer.engine 0 := hothers 0 (by decide)
  have hsquashed : (t.engine 0).st == .squashed := by
    have := unitRestart_flow_squashes
    rwa [hexec] at this
  rw [hkept] at hsquashed
  exact absurd hsquashed (by decide)

end Sys2Proof.Machine
end

section
/-!
PROOFS. Which commands answer, and the five that fault on a stack of an engine (R69, R113, R114, R146; log entry 57).
-/

namespace Sys2Proof.Machine

/-! ## The control instructions on their stacks, once per instruction -/

/-- Command `c` meets a full or an empty stack of its engine, and stops as `f`. -/
def StackFault (c : Instr) (s : State) (f : Fault) : Prop :=
  (∃ e d n, c = .loop e d n ∧ f = .stackOverflow ∧ n ≠ 0 ∧ 4 ≤ (s.engine e).loops.length) ∨
    (∃ e g d n, c = .loopr e g d n ∧ f = .stackOverflow ∧ 4 ≤ (s.engine e).loops.length) ∨
    (∃ e, c = .endl e ∧ f = .stackUnderflow ∧ (s.engine e).loops = []) ∨
    (∃ e a, c = .call e a ∧ f = .stackOverflow ∧ 8 ≤ (s.engine e).calls.length) ∨
    (∃ e, c = .ret e ∧ f = .stackUnderflow ∧ (s.engine e).calls = [])

/-- The outcome of command `c` is a next state, or the fault of its stack. -/
def AnswersOrStackFaults (c : Instr) (s : State) (r : Res) : Prop := (∃ t, r = .next t) ∨ ∃ f, r = .fault f ∧ StackFault c s f

theorem AnswersOrStackFaults.next (c : Instr) (s t : State) : AnswersOrStackFaults c s (.next t) := .inl ⟨t, rfl⟩

theorem AnswersOrStackFaults.fault {c : Instr} {s : State} {f : Fault} (h : StackFault c s f) : AnswersOrStackFaults c s (.fault f) :=
  .inr ⟨f, rfl, h⟩

/-- A loop stack without room holds four levels, and the count asks for a fifth (R69). -/
theorem Engine.loopRoom_false {x : Engine} {count : Nat} (h : ¬ x.loopRoom count = true) : count ≠ 0 ∧ 4 ≤ x.loops.length := by
  simpa [Engine.loopRoom] using h

theorem execLoop_answersOrFaults (e d n : Nat) (s : State) : AnswersOrStackFaults (.loop e d n) s (execLoop e d n s) := by
  unfold execLoop
  split
  · split
    · exact .next ..
    · next h => exact .fault (.inl ⟨e, d, n, rfl, rfl, Engine.loopRoom_false h⟩)
  · exact .next ..

theorem execLoopr_answersOrFaults (e gs d n : Nat) (s : State) : AnswersOrStackFaults (.loopr e gs d n) s (execLoopr e gs d n s) := by
  unfold execLoopr
  split
  · dsimp only
    split
    · exact .next ..
    · next h => exact .fault (.inr (.inl ⟨e, gs, d, n, rfl, rfl, (Engine.loopRoom_false h).2⟩))
  · exact .next ..

theorem execEndl_answersOrFaults (e : Nat) (s : State) : AnswersOrStackFaults (.endl e) s (execEndl e s) := by
  unfold execEndl
  split
  · dsimp only
    split
    · next h => exact .fault (.inr (.inr (.inl ⟨e, rfl, rfl, h⟩)))
    · split <;> exact .next ..
  · exact .next ..

theorem execCall_answersOrFaults (e a : Nat) (s : State) : AnswersOrStackFaults (.call e a) s (execCall e a s) := by
  unfold execCall
  split
  · dsimp only
    split
    · exact .next ..
    · next h => exact .fault (.inr (.inr (.inr (.inl ⟨e, a, rfl, rfl, Nat.le_of_not_lt h⟩))))
  · exact .next ..

theorem execRet_answersOrFaults (e : Nat) (s : State) : AnswersOrStackFaults (.ret e) s (execRet e s) := by
  unfold execRet
  split
  · dsimp only
    split
    · next h => exact .fault (.inr (.inr (.inr (.inr ⟨e, rfl, rfl, h⟩))))
    · exact .next ..
  · exact .next ..

/-- The meaning of every command but those five is a next state on every path. -/
theorem exec_answersOrFaults (c : Instr) (s : State) : AnswersOrStackFaults c s (exec c s) := by
  cases c
  case loop => exact execLoop_answersOrFaults ..
  case loopr => exact execLoopr_answersOrFaults ..
  case endl => exact execEndl_answersOrFaults ..
  case call => exact execCall_answersOrFaults ..
  case ret => exact execRet_answersOrFaults ..
  all_goals exact .next ..

/-- Settles O6: every command answers or meets the fault of its stack, and neither is a refusal. -/
theorem everyCommandAnswersExceptOnGenahStacks : Obligations.EveryCommandAnswersExceptOnGenahStacks := by
  unfold Obligations.EveryCommandAnswersExceptOnGenahStacks
  intro c s
  rcases exec_answersOrFaults c s with ⟨t, ht⟩ | ⟨g, hg, hstack⟩
  · exact ⟨fun r h => by simp [ht] at h, fun f h => by simp [ht] at h⟩
  · refine ⟨fun r h => by simp [hg] at h, fun f h => ?_⟩
    obtain rfl : g = f := by simpa [hg] using h
    exact hstack

end Sys2Proof.Machine
end

section
/-!
PROOFS. What an instruction does to its engine: the engine alone, the engine and one report, or one effect that a run-ahead holds (R82, R143).
-/

namespace Sys2Proof.Machine

/-! ## One engine set -/

/-- Setting engine `e` changes nothing else. -/
theorem EngineOnly.setEngine (s : State) (e : Nat) (y : Engine) : EngineOnly e y s (s.setEngine e y) :=
  ⟨s.engine_setEngine_same e y, fun _ => s.engine_setEngine_ne y, s.setEngine_frame e y⟩

theorem State.report_engine (s : State) (code source data j : Nat) : (s.report code source data).engine j = s.engine j :=
  State.engine_congr ((State.report_frame ..).same .ge rfl) j

/-- An instruction that is issued does to its engine what its row says. -/
theorem State.scalar_issued {s : State} {e : Nat} {i : Genah} (f : Engine → Engine) (h : s.issues e i = true) :
    s.scalar e i f = s.setEngine e (f (s.engine e)) := if_pos h

theorem State.issues_lt {s : State} {e : Nat} {i : Genah} (h : s.issues e i = true) : e < 16 := by
  simp only [State.issues, State.executes, Bool.and_eq_true, decide_eq_true_eq] at h
  exact h.1.1.1.1.1.2

theorem State.issues_decode {s : State} {e : Nat} {i : Genah} (h : s.issues e i = true) : Genah.decode (s.fetchWord e) = some i := by
  simp only [State.issues, Bool.and_eq_true, decide_eq_true_eq] at h
  exact h.2

/-! ## One engine set, and one report -/

/-- From `s` to `t` engine `e` becomes `y`, the event `code` is reported once, and nothing else changes. -/
def EngineReports (e : Nat) (y : Engine) (code : Nat) (s t : State) : Prop :=
  t.engine e = y ∧ (∀ j, j ≠ e → t.engine j = s.engine j) ∧ Reported code s t ∧ (∀ k, reportKey k = false → t.word k = s.word k) ∧
    Frame [.live, .evt, .ge, .out] s t

/-- A report after the engine is set. -/
theorem EngineReports.setEngine_report (s : State) (e : Nat) (y : Engine) {code : Nat} (source data : Nat) (hc : code < 0x1800) :
    EngineReports e y code s ((s.setEngine e y).report code source data) := by
  refine ⟨?_, fun j hj => ?_, (State.report_reported _ _ _ _ hc).after rfl rfl, fun k hk => State.report_word _ _ _ _ hk hc, ?_⟩
  · rw [State.report_engine, State.engine_setEngine_same]
  · rw [State.report_engine, State.engine_setEngine_ne _ _ hj]
  · exact ((s.setEngine_frame e y).weaken rfl).seq (State.report_frame ..) rfl

end Sys2Proof.Machine
end

section
/-!
PROOFS. The control instructions on the loop and call stacks, and the end of a program (R76, R113 to R115).
-/

namespace Sys2Proof.Machine

/-! ## Loops (R113) -/

/-- A word that spells LOOPR has a max of at least 1 (R105, R144). -/
theorem Genah.decode_loopr {w gs d max : Nat} (h : Genah.decode w = some (.loopr gs d max)) : max ≠ 0 := by
  unfold Genah.decode at h
  split at h
  case h_16 =>
    split at h
    · next hw =>
      cases h
      exact hw.2
    · cases h
  all_goals simp [decS, decV0] at h

theorem Engine.loopRoom_of_lt {x : Engine} (count : Nat) (h : x.loops.length < 4) : x.loopRoom count = true := by
  simp [Engine.loopRoom, h]

theorem Engine.loopRoom_full {x : Engine} {count : Nat} (hn : count ≠ 0) (h : 4 ≤ x.loops.length) : x.loopRoom count = false := by
  simp [Engine.loopRoom, hn, h]

/-- A loop of no passes needs no level. -/
theorem Engine.loopRoom_zero (x : Engine) : x.loopRoom 0 = true := rfl

/-- The engine past a loop of no passes, whose body ends `d` words on. -/
theorem Engine.enterLoop_zero (x : Engine) (d cycles : Nat) :
    x.enterLoop d 0 cycles = { x with pc := x.pc + d + 1, cycles := x.cycles + cycles + 1 } := rfl

/-- The engine at the first word of a loop's body, with the loop's level pushed. -/
theorem Engine.enterLoop_pos (x : Engine) (d cycles : Nat) {count : Nat} (h : count ≠ 0) : x.enterLoop d count cycles =
    { x with loops := { start := x.pc + 1, count := count } :: x.loops, pc := x.pc + 1, cycles := x.cycles + cycles } := if_neg h

theorem exec_loop {s : State} {e d count : Nat} (h : s.issues e (.loop d count) = true) : exec (.loop e d count) s =
    if (s.engine e).loopRoom count then .next (s.setEngine e ((s.engine e).enterLoop d count 1)) else .fault .stackOverflow := if_pos h

/-- LOOP with room for its level, or with no need of one. -/
theorem exec_loop_enters {s : State} {e d count : Nat} (h : s.issues e (.loop d count) = true) (hroom : (s.engine e).loopRoom count = true) :
    ∃ t, exec (.loop e d count) s = .next t ∧ EngineOnly e ((s.engine e).enterLoop d count 1) s t :=
  ⟨_, (exec_loop h).trans (if_pos hroom), EngineOnly.setEngine ..⟩

/-- LOOPR reports a clamp: its register count is above `max`, for the first time in this run. -/
def Engine.clamps (x : Engine) (gs max : Nat) : Bool := decide (max < x.gr gs) && !x.clampSeen

/-- The engine past LOOPR, which remembers that it has clamped a count in this run. -/
def Engine.enterLoopr (x : Engine) (gs d max : Nat) : Engine :=
  { x with clampSeen := x.clampSeen || x.clamps gs max }.enterLoop d (min (x.gr gs) max) 2

theorem exec_loopr {s : State} {e gs d max : Nat} (h : s.issues e (.loopr gs d max) = true) : exec (.loopr e gs d max) s =
    if (s.engine e).loopRoom (min ((s.engine e).gr gs) max) then
      .next (if (s.engine e).clamps gs max then (s.setEngine e ((s.engine e).enterLoopr gs d max)).report 0x0E04 e (s.engine e).pc
        else s.setEngine e ((s.engine e).enterLoopr gs d max))
    else .fault .stackOverflow := if_pos h

/-- LOOPR that reports no clamp. -/
theorem exec_loopr_quiet {s : State} {e gs d max : Nat} (h : s.issues e (.loopr gs d max) = true)
    (hroom : (s.engine e).loopRoom (min ((s.engine e).gr gs) max) = true) (hclamp : (s.engine e).clamps gs max = false) :
    ∃ t, exec (.loopr e gs d max) s = .next t ∧ EngineOnly e ((s.engine e).enterLoop d (min ((s.engine e).gr gs) max) 2) s t := by
  have hengine : (s.engine e).enterLoopr gs d max = (s.engine e).enterLoop d (min ((s.engine e).gr gs) max) 2 := by
    rw [Engine.enterLoopr, hclamp, Bool.or_false]
  rw [exec_loopr h, if_pos hroom, if_neg (by simp [hclamp]), hengine]
  exact ⟨_, rfl, EngineOnly.setEngine ..⟩

/-- LOOPR that reports a clamp. -/
theorem exec_loopr_clamped {s : State} {e gs d max : Nat} (h : s.issues e (.loopr gs d max) = true)
    (hroom : (s.engine e).loopRoom (min ((s.engine e).gr gs) max) = true) (hclamp : (s.engine e).clamps gs max = true) :
    ∃ t, exec (.loopr e gs d max) s = .next t ∧
      EngineReports e ({ s.engine e with clampSeen := true }.enterLoop d (min ((s.engine e).gr gs) max) 2) 0x0E04 s t := by
  have hengine : (s.engine e).enterLoopr gs d max =
      { s.engine e with clampSeen := true }.enterLoop d (min ((s.engine e).gr gs) max) 2 := by
    rw [Engine.enterLoopr, hclamp, Bool.or_true]
  rw [exec_loopr h, if_pos hroom, if_pos hclamp, hengine]
  exact ⟨_, rfl, EngineReports.setEngine_report _ _ _ _ _ (by decide)⟩

/-- A register count of 0 is above no max, so a skipped loop reports no clamp. -/
theorem Engine.clamps_of_skip {x : Engine} {gs max : Nat} (hmax : max ≠ 0) (h : min (x.gr gs) max = 0) : x.clamps gs max = false := by
  have hgs : x.gr gs = 0 := by omega
  simp [Engine.clamps, hgs]

/-- ENDL with a loop open: another pass, or the loop is left. -/
theorem exec_endl_cons {s : State} {e : Nat} {l : LoopLevel} {ls : List LoopLevel} (h : s.issues e .endl = true)
    (hl : (s.engine e).loops = l :: ls) : exec (.endl e) s = .next (s.setEngine e
      (if l.count - 1 = 0 then { s.engine e with loops := ls }.next 1
       else { s.engine e with loops := { l with count := l.count - 1 } :: ls }.jump 1 l.start)) := by
  refine (if_pos h).trans ?_
  rw [hl]
  dsimp only
  split <;> rfl

theorem exec_endl_nil {s : State} {e : Nat} (h : s.issues e .endl = true) (hl : (s.engine e).loops = []) :
    exec (.endl e) s = .fault .stackUnderflow := by
  refine (if_pos h).trans ?_
  rw [hl]

/-! ## Calls (R114) -/

theorem exec_call {s : State} {e target : Nat} (h : s.issues e (.call target) = true) : exec (.call e target) s =
    if (s.engine e).calls.length < 8 then
      .next (s.setEngine e ({ s.engine e with calls := ((s.engine e).pc + 1) :: (s.engine e).calls }.jump 2 target))
    else .fault .stackOverflow := if_pos h

theorem exec_ret_cons {s : State} {e p : Nat} {ps : List Nat} (h : s.issues e .ret = true) (hp : (s.engine e).calls = p :: ps) :
    exec (.ret e) s = .next (s.setEngine e ({ s.engine e with calls := ps }.jump 2 p)) := by
  refine (if_pos h).trans ?_
  rw [hp]

theorem exec_ret_nil {s : State} {e : Nat} (h : s.issues e .ret = true) (hp : (s.engine e).calls = []) :
    exec (.ret e) s = .fault .stackUnderflow := by
  refine (if_pos h).trans ?_
  rw [hp]

/-! ## The end of a program (R76, R115) -/

/-- An engine whose program has executed ENDT. -/
def Engine.ended (x : Engine) : Engine :=
  { x with st := .idle, done := true, cycles := x.cycles + 1, okTick := if x.ahead then x.okTick else some x.tick,
           overruns := if x.ahead then x.overruns else 0 }

/-- A program of engine `e` took `cyc` cycles, and its peak follows where it is passed (R101). -/
def State.recordCycles (s : State) (e cyc : Nat) : State :=
  let t := s.wr (GE.LASTCYC.CYC e) cyc
  if t.rd (GE.PEAKCYC.CYC e) < cyc % 2 ^ 21 then t.wr (GE.PEAKCYC.CYC e) cyc else t

theorem exec_endt {s : State} {e : Nat} (h : s.issues e .endt = true) :
    exec (.endt e) s = .next ((s.setEngine e (s.engine e).ended).recordCycles e ((s.engine e).cycles + 1)) := congrArg _ (if_pos h)

theorem GE.lastcyc_ne_peakcyc (e : Nat) : GE.LASTCYC e ≠ GE.PEAKCYC e := by
  unfold GE.LASTCYC GE.PEAKCYC
  omega

theorem GE.lastcyc_fits (e : Nat) : (GE.LASTCYC.CYC e).lo + (GE.LASTCYC.CYC e).width ≤ 32 := show 0 + 21 ≤ 32 by decide

theorem GE.peakcyc_fits (e : Nat) : (GE.PEAKCYC.CYC e).lo + (GE.PEAKCYC.CYC e).width ≤ 32 := show 0 + 21 ≤ 32 by decide

theorem State.recordCycles_last (s : State) (e cyc : Nat) : (s.recordCycles e cyc).rd (GE.LASTCYC.CYC e) = cyc % 2 ^ 21 := by
  unfold State.recordCycles
  dsimp only
  split
  · rw [State.rd_wr_apart _ _ _ _ (GE.peakcyc_fits e) (.inl (GE.lastcyc_ne_peakcyc e))]
    exact State.rd_wr_same _ _ _ (GE.lastcyc_fits e)
  · exact State.rd_wr_same _ _ _ (GE.lastcyc_fits e)

theorem State.recordCycles_peak (s : State) (e cyc : Nat) :
    (s.recordCycles e cyc).rd (GE.PEAKCYC.CYC e) = max (s.rd (GE.PEAKCYC.CYC e)) (cyc % 2 ^ 21) := by
  have hpeak : (s.wr (GE.LASTCYC.CYC e) cyc).rd (GE.PEAKCYC.CYC e) = s.rd (GE.PEAKCYC.CYC e) :=
    State.rd_wr_apart _ _ _ _ (GE.lastcyc_fits e) (.inl (GE.lastcyc_ne_peakcyc e).symm)
  unfold State.recordCycles
  dsimp only
  rw [hpeak]
  split
  · next hlt => exact (State.rd_wr_same _ _ _ (GE.peakcyc_fits e)).trans (Nat.max_eq_right (Nat.le_of_lt hlt)).symm
  · next hge => rw [hpeak, Nat.max_eq_left (Nat.le_of_not_lt hge)]

theorem State.recordCycles_word (s : State) (e cyc : Nat) {k : Nat} (hlast : k ≠ GE.LASTCYC e) (hpeak : k ≠ GE.PEAKCYC e) :
    (s.recordCycles e cyc).word k = s.word k := by
  unfold State.recordCycles
  dsimp only
  split
  · rw [State.word_wr_ne _ _ hpeak, State.word_wr_ne _ _ hlast]
  · exact State.word_wr_ne _ _ hlast

theorem State.recordCycles_engine (s : State) (e cyc j : Nat) : (s.recordCycles e cyc).engine j = s.engine j := by
  unfold State.recordCycles
  dsimp only
  split <;> rfl

/-- Settles O11: each instruction by its equation, case by case of its count or its stack. -/
theorem loopsCallsAndTheEndOfTheTick : Obligations.LoopsCallsAndTheEndOfTheTick := by
  unfold Obligations.LoopsCallsAndTheEndOfTheTick
  refine ⟨fun e gs d count max s => ⟨fun h => ?loop, fun h => ?loopr, fun h => ?endl⟩,
    fun e target s => ⟨fun h => ?call, fun h => ?ret⟩, fun e s h => ?endt⟩
  case loop =>
    refine ⟨fun hn => ?_, fun hn hroom => ?_, fun hn hfull => ?_⟩
    · subst hn
      have henter := exec_loop_enters h (Engine.loopRoom_zero _)
      rwa [Engine.enterLoop_zero] at henter
    · have henter := exec_loop_enters h (Engine.loopRoom_of_lt count hroom)
      rwa [Engine.enterLoop_pos _ _ _ hn] at henter
    · rw [exec_loop h, Engine.loopRoom_full hn hfull]
      rfl
  case loopr =>
    refine ⟨fun hn => ?_, fun hn hroom hclamp => ?_, fun hn hroom hclamp => ?_, fun hn hfull => ?_⟩
    · have hquiet := exec_loopr_quiet h (by rw [hn]; exact Engine.loopRoom_zero _)
        (Engine.clamps_of_skip (Genah.decode_loopr (State.issues_decode h)) hn)
      rwa [hn, Engine.enterLoop_zero] at hquiet
    · have hquiet := exec_loopr_quiet h (Engine.loopRoom_of_lt _ hroom) hclamp
      rwa [Engine.enterLoop_pos _ _ _ hn] at hquiet
    · have hclamped := exec_loopr_clamped h (Engine.loopRoom_of_lt _ hroom) hclamp
      rwa [Engine.enterLoop_pos _ _ _ hn] at hclamped
    · rw [exec_loopr h, Engine.loopRoom_full hn hfull]
      rfl
  case endl =>
    refine ⟨fun l ls hl hlast => ⟨_, exec_endl_cons h hl, ?_⟩, fun l ls hl hmore => ⟨_, exec_endl_cons h hl, ?_⟩, exec_endl_nil h⟩
    · rw [if_pos (by omega)]
      exact EngineOnly.setEngine ..
    · rw [if_neg (by omega)]
      exact EngineOnly.setEngine ..
  case call =>
    exact ⟨fun hroom => ⟨_, (exec_call h).trans (if_pos hroom), EngineOnly.setEngine ..⟩,
      fun hfull => (exec_call h).trans (if_neg (Nat.not_lt.mpr hfull))⟩
  case ret =>
    exact ⟨fun p ps hp => ⟨_, exec_ret_cons h hp, EngineOnly.setEngine ..⟩, exec_ret_nil h⟩
  case endt =>
    have hengine : ((s.setEngine e (s.engine e).ended).recordCycles e ((s.engine e).cycles + 1)).engine e = (s.engine e).ended := by
      rw [State.recordCycles_engine, State.engine_setEngine_same]
    refine ⟨_, exec_endt h, congrArg Engine.st hengine, congrArg Engine.done hengine, (congrArg Engine.tickets hengine :),
      fun ha => ?_, fun ha => ?_, fun j hj => ?_, State.recordCycles_last .., State.recordCycles_peak ..,
      fun k hlast hpeak => State.recordCycles_word _ _ _ hlast hpeak, execEndt_frame _ _ _ (exec_endt h)⟩
    · rw [hengine, Engine.ended, ha]
      rfl
    · rw [hengine, Engine.ended, ha]
      rfl
    · rw [State.recordCycles_engine, State.engine_setEngine_ne _ _ hj]

end Sys2Proof.Machine
end

section
/-!
PROOFS. Handles, status reads, and the requests that a run-ahead holds (R72, R116, R117, R139 to R143).
-/

namespace Sys2Proof.Machine

/-! ## Scalar results -/

theorem Engine.reg_of_ne_zero (x : Engine) {r : Nat} (h : r ≠ 0) : x.reg r = Store.get (fun _ => (0 : Word)) x.g r := by
  unfold Engine.reg Engine.gr
  rw [if_neg h, BitVec.ofNat_toNat, BitVec.setWidth_eq]

/-- A register reads what was written to it, and g0 reads 0 whatever is written (R69, R108). -/
theorem Engine.reg_setG (x : Engine) (gd n r : Nat) : (x.setG gd n).reg r = if r = gd ∧ r ≠ 0 then BitVec.ofNat 32 n else x.reg r := by
  by_cases hr : r = 0
  · subst hr
    rw [if_neg (by simp)]
    rfl
  · by_cases hgd : gd = 0
    · rw [Engine.setG, if_pos hgd, if_neg (by omega)]
    · rw [Engine.reg_of_ne_zero _ hr, Engine.reg_of_ne_zero _ hr, Engine.setG, if_neg hgd]
      by_cases h : r = gd
      · rw [if_pos ⟨h, hr⟩, h]
        exact Store.get_set_same _ _ _ _
      · rw [if_neg (fun hand => h hand.1)]
        exact Store.get_set_ne _ _ _ h

@[simp] theorem Engine.setG_pc (x : Engine) (gd n : Nat) : (x.setG gd n).pc = x.pc := by
  unfold Engine.setG
  split <;> rfl

@[simp] theorem Engine.setG_cycles (x : Engine) (gd n : Nat) : (x.setG gd n).cycles = x.cycles := by
  unfold Engine.setG
  split <;> rfl

/-- A register write and the step to the next word change the registers, the pc and the cycle count alone. -/
theorem Engine.setG_next_rest (x : Engine) (gd n cycles : Nat) :
    { (x.setG gd n).next cycles with g := x.g, pc := x.pc, cycles := x.cycles } = x := by
  unfold Engine.setG
  split <;> rfl

/-- An engine with a register written and gone on to the next word is a scalar result. -/
theorem ScalarResult.setEngine (s : State) (e gd n cycles : Nat) :
    ScalarResult e gd (BitVec.ofNat 32 n) cycles s (s.setEngine e (((s.engine e).setG gd n).next cycles)) := by
  refine ⟨fun r => ?_, ?_, ?_, ?_, fun _ => s.engine_setEngine_ne _, s.setEngine_frame e _⟩ <;> rw [State.engine_setEngine_same]
  · exact Engine.reg_setG ..
  · exact congrArg (· + 1) (Engine.setG_pc ..)
  · exact congrArg (· + cycles) (Engine.setG_cycles ..)
  · exact Engine.setG_next_rest ..

/-! ## Effects that a run-ahead holds (R82, R143) -/

/-- Outside run-ahead an effect takes place at once. -/
theorem State.effect_direct {s : State} {e : Nat} (r : RsbEntry) (go : Engine → Engine) (direct : State → State)
    (h : (s.engine e).ahead = false) : s.effect e r go direct = (direct s).setEngine e (go ((direct s).engine e)) :=
  if_neg (by simp [h])

/-- During run-ahead an effect takes one entry of the RSB. -/
theorem State.effect_held {s : State} {e : Nat} (r : RsbEntry) (go : Engine → Engine) (direct : State → State)
    (h : (s.engine e).ahead = true) (hroom : (s.engine e).rsb.length < s.rsbSize e) :
    s.effect e r go direct = s.setEngine e (go { s.engine e with rsb := r :: (s.engine e).rsb }) :=
  (if_pos h).trans (if_pos hroom)

/-- A report before the engine is set. -/
theorem EngineReports.report_setEngine (s : State) (e : Nat) (y : Engine) {code : Nat} (source data : Nat) (hc : code < 0x1800) :
    EngineReports e y code s ((s.report code source data).setEngine e y) := by
  refine ⟨State.engine_setEngine_same .., fun j hj => ?_, (State.report_reported s _ _ _ hc).before (State.word_setEngine ..) (State.word_setEngine ..),
    fun k hk => (State.word_setEngine ..).trans (State.report_word _ _ _ _ hk hc), ?_⟩
  · rw [State.engine_setEngine_ne _ _ hj, State.report_engine]
  · exact ((s.report_frame ..).weaken rfl).seq (State.setEngine_frame ..) rfl

/-! ## Handles (R72, R116, R117) -/

/-- The buffer that HSET names is declared in the direction named (R116). -/
def State.declares (s : State) (e : Nat) (out : Bool) (b : Nat) : Bool :=
  if out then (s.outputs e).contains b else (s.inputs e).contains b

/-- A handle bound in frame n or n + 1, with its cursor at 0; one of no buffer is the null handle (R72, R116). -/
def Engine.newHandle (x : Engine) (out : Bool) (b : Option Nat) : Handle :=
  { buf := b, out := out, frame := if out then (x.tick + 1) % 2 ^ 32 else x.tick, cursor := 0 }

/-- Engine `e` with handle `h` at `hd`, `cycles` core cycles later at the next word. -/
def Engine.bind (x : Engine) (h : Nat) (hd : Handle) (cycles : Nat) : Engine :=
  { x with handles := Store.insert x.handles h hd }.next cycles

/-- No report writes GE.HIST. -/
theorem GE.hist_not_reportKey {e : Nat} (he : e < 16) : reportKey (GE.HIST e) = false := by
  unfold reportKey GE.HIST msixPending
  simp
  omega

/-- HSET of an undeclared buffer, once its handle is bound: the fault is marked in GE.HIST and reported (R72). -/
def State.handleFault (s : State) (e b : Nat) : State := (s.sqf (GE.HIST.HANDLE_FAULT e)).report 0x0E02 e b

theorem State.handleFault_engine (s : State) (e b j : Nat) : (s.handleFault e b).engine j = s.engine j := by
  unfold State.handleFault
  rw [State.report_engine]
  exact State.engine_congr (State.sqf_ge ..) j

theorem State.handleFault_flag (s : State) {e : Nat} (b : Nat) (he : e < 16) : (s.handleFault e b).flag (GE.HIST.HANDLE_FAULT e) = true :=
  (State.report_flag _ _ _ _ _ (GE.hist_not_reportKey he) (by decide)).trans (State.flag_sqf_same s rfl (show 4 < 24 by decide))

theorem State.handleFault_reported (s : State) {e : Nat} (b : Nat) (he : e < 16) : Reported 0x0E02 s (s.handleFault e b) :=
  (State.report_reported _ _ _ _ (by decide)).after (State.word_sqf_ne s (ne_of_not_reportKey (GE.hist_not_reportKey he) (by decide)).symm)
    (State.word_sqf_ne s (ne_of_not_reportKey (GE.hist_not_reportKey he) (by decide)).symm)

theorem exec_hset_declared {s : State} {e h gs imm13 : Nat} {out : Bool} (hi : s.issues e (.hset h out gs imm13) = true)
    (hb : s.declares e out (((s.engine e).gr gs + imm13) % 8192) = true) : exec (.hset e h out gs imm13) s =
      .next (s.setEngine e ((s.engine e).bind h ((s.engine e).newHandle out (some (((s.engine e).gr gs + imm13) % 8192))) 4)) := by
  show execHset e h out gs imm13 s = _
  unfold execHset
  unfold State.declares at hb
  rw [if_pos hi]
  simp only [hb, if_true]
  rfl

theorem exec_hset_undeclared {s : State} {e h gs imm13 : Nat} {out : Bool} (hi : s.issues e (.hset h out gs imm13) = true)
    (hb : s.declares e out (((s.engine e).gr gs + imm13) % 8192) = false) : exec (.hset e h out gs imm13) s =
      .next ((s.setEngine e ((s.engine e).bind h ((s.engine e).newHandle out none) 4)).handleFault e (((s.engine e).gr gs + imm13) % 8192)) := by
  show execHset e h out gs imm13 s = _
  unfold execHset
  unfold State.declares at hb
  rw [if_pos hi]
  simp only [hb, Bool.false_eq_true, if_false]
  rfl

/-- Binding a handle changes that handle, the pc and the cycle count alone. -/
theorem Engine.bind_rest (x : Engine) (h : Nat) (hd : Handle) (cycles : Nat) :
    { x.bind h hd cycles with handles := x.handles, pc := x.pc, cycles := x.cycles } = x := rfl

theorem Engine.bind_handle_same (x : Engine) (h : Nat) (hd : Handle) (cycles : Nat) : (x.bind h hd cycles).handle h = some hd :=
  Store.find_insert_same ..

theorem Engine.bind_handle_ne (x : Engine) {h i : Nat} (hd : Handle) (cycles : Nat) (hi : i ≠ h) :
    (x.bind h hd cycles).handle i = x.handle i := Store.find_insert_ne _ _ hi

/-- From `s` to `t` engine `e` binds handle `h` to `hd` and goes on at the next word `cycles` core cycles later; nothing else changes. -/
def HandleBound (e h : Nat) (hd : Handle) (cycles : Nat) (s t : State) : Prop :=
  (t.engine e).handle h = some hd ∧ (∀ i, i ≠ h → (t.engine e).handle i = (s.engine e).handle i) ∧
    { t.engine e with handles := (s.engine e).handles, pc := (s.engine e).pc, cycles := (s.engine e).cycles } = s.engine e ∧
    (t.engine e).pc = (s.engine e).pc + 1 ∧ (t.engine e).cycles = (s.engine e).cycles + cycles ∧
    (∀ j, j ≠ e → t.engine j = s.engine j) ∧ Frame [.ge] s t

theorem HandleBound.setEngine (s : State) (e h : Nat) (hd : Handle) (cycles : Nat) :
    HandleBound e h hd cycles s (s.setEngine e ((s.engine e).bind h hd cycles)) := by
  unfold HandleBound
  rw [State.engine_setEngine_same]
  exact ⟨Engine.bind_handle_same .., fun i => Engine.bind_handle_ne _ _ _, Engine.bind_rest .., rfl, rfl,
    fun _ => s.engine_setEngine_ne _, s.setEngine_frame e _⟩

/-- What HADV moves a cursor by, or sets it to. -/
def Engine.advance (x : Engine) (gs : Nat) (simm16 : Int) : Nat := wrap32 (Int.ofNat (x.gr gs) + simm16)

/-- Handle `h` of an engine with its cursor moved or set (R117). -/
def Engine.moved (x : Engine) (h : Nat) (set : Bool) (gs : Nat) (simm16 : Int) : Handle :=
  { x.handleOf h with
    cursor := if set then x.advance gs simm16 else ((x.handleOf h).cursor + x.advance gs simm16) % 2 ^ 32 }

theorem exec_hadv {s : State} {e h gs : Nat} {set : Bool} {simm16 : Int} (hi : s.issues e (.hadv h set gs simm16) = true) :
    exec (.hadv e h set gs simm16) s = .next (s.setEngine e ((s.engine e).bind h ((s.engine e).moved h set gs simm16) 1)) :=
  congrArg _ (State.scalar_issued _ hi)

theorem Engine.handleOf_bound {x : Engine} {h : Nat} {hd : Handle} (hx : x.handle h = some hd) : x.handleOf h = hd := by
  rw [Engine.handleOf, hx, Option.getD_some]

/-- The cursor moves as a 32-bit number (R117). -/
theorem Engine.moved_cursor {x : Engine} {h : Nat} {hd : Handle} (set : Bool) (gs : Nat) (simm16 : Int) (hx : x.handle h = some hd) :
    x.moved h set gs simm16 = { hd with cursor :=
      ((if set then (0 : Word) else BitVec.ofNat 32 hd.cursor) + x.reg gs + BitVec.ofInt 32 simm16).toNat } := by
  unfold Engine.moved Engine.advance wrap32 Engine.reg
  rw [Engine.handleOf_bound hx]
  cases set
  · simp only [Bool.false_eq_true, if_false, BitVec.toNat_add, BitVec.toNat_ofNat, BitVec.toNat_ofInt, Int.ofNat_eq_natCast]
    congr 1
    omega
  · simp only [if_true, BitVec.toNat_add, BitVec.toNat_ofNat, BitVec.toNat_ofInt, Int.ofNat_eq_natCast, show (0 : Word).toNat = 0 from rfl]
    congr 1
    omega

/-! ## TKIDX and TSTAT (R139, R140) -/

/-- The value that TKIDX reads (R139). -/
def State.tickIndex (s : State) (e : Nat) (x : Engine) (sel : Nat) : Nat := if sel = 0 then x.tick else if sel = 1 then s.tickLen else e

theorem exec_tkidx {s : State} {e gd sel : Nat} (h : s.issues e (.tkidx gd sel) = true) :
    exec (.tkidx e gd sel) s = .next (s.setEngine e (((s.engine e).setG gd (s.tickIndex e (s.engine e) sel)).next 1)) := by
  refine congrArg _ ((State.scalar_issued _ h).trans ?_)
  match sel with
  | 0 => rfl
  | 1 => rfl
  | _ + 2 => rfl

/-- TSTAT writes to gd what it reads of the handle or vector register. -/
theorem exec_tstat {s : State} {e gd hv mode : Nat} (h : s.issues e (.tstat gd hv mode) = true) :
    ∃ t, exec (.tstat e gd hv mode) s = .next t ∧ ScalarResult e gd (BitVec.ofNat 32 (s.tstat e (s.engine e) hv mode)) 2 s t :=
  ⟨_, congrArg Host.Outcome.next (State.scalar_issued _ h), ScalarResult.setEngine ..⟩

theorem maskOf_lt (p : Nat → Bool) (n : Nat) : maskOf p n < 2 ^ n := by
  induction n with
  | zero => simp [maskOf]
  | succ n ih =>
    rw [maskOf, Nat.pow_succ]
    split <;> omega

/-- Bit `i` of a mask over `n` numbers says whether `i` is one of them that passes the test. -/
theorem maskOf_testBit (p : Nat → Bool) (n i : Nat) : (maskOf p n).testBit i = (decide (i < n) && p i) := by
  induction n with
  | zero => simp [maskOf]
  | succ n ih =>
    have hsum : maskOf p (n + 1) = 2 ^ n * (p n).toNat + maskOf p n := by
      rw [maskOf]
      cases p n <;> simp [Nat.add_comm]
    rw [hsum, Nat.testBit_two_pow_mul_add _ (maskOf_lt p n), ih]
    rcases Nat.lt_trichotomy i n with hlt | heq | hgt
    · simp [hlt, Nat.lt_succ_of_lt hlt]
    · subst heq
      cases p i <;> simp
    · obtain ⟨d, rfl⟩ : ∃ d, i = n + 1 + d := ⟨i - (n + 1), by omega⟩
      rw [if_neg (by omega), show n + 1 + d - n = d + 1 by omega, Nat.testBit_succ]
      cases p n <;> simp <;> omega

theorem State.tstat_tags (s : State) (e : Nat) (x : Engine) (hv : Nat) :
    s.tstat e x hv 2 = maskOf (fun i => (x.lane hv i).tag) (s.lanesOf e) := rfl

theorem State.tstat_sat (s : State) (e : Nat) (x : Engine) (hv : Nat) : s.tstat e x hv 3 = x.sat := rfl

theorem State.tstat_cursor (s : State) (e : Nat) (x : Engine) (hv : Nat) : s.tstat e x hv 6 = (x.handleOf hv).cursor := rfl

/-- The modes that read a handle's buffer read 0 through the null handle. -/
theorem State.tstat_null (s : State) (e : Nat) {x : Engine} {hv mode : Nat} (hm : mode = 0 ∨ mode = 1 ∨ mode = 4 ∨ mode = 5)
    (hb : (x.handleOf hv).buf = none) : s.tstat e x hv mode = 0 := by
  unfold State.tstat
  rcases hm with rfl | rfl | rfl | rfl <;> simp [hb]

section
variable (s : State) (e : Nat) {x : Engine} {hv b : Nat} (hb : (x.handleOf hv).buf = some b)
include hb

theorem State.tstat_frame : s.tstat e x hv 0 = s.tstatFrame e b (x.handleOf hv) := by simp [State.tstat, hb]

theorem State.tstat_muzzle : s.tstat e x hv 1 = s.tstatMuzzle b (x.handleOf hv) (s.lanesOf e) := by simp [State.tstat, hb]

theorem State.tstat_channels : s.tstat e x hv 4 = s.bufC b := by simp [State.tstat, hb]

theorem State.tstat_samples : s.tstat e x hv 5 = s.bufS b := by simp [State.tstat, hb]

end

/-! ## MUZ and MARK (R141 to R143) -/

/-- The lanes counted invalid in frame `f` (R141). -/
def State.markLanes (s : State) (f : Nat) (lanes : List (Nat × Nat)) : State :=
  { s with marks := lanes.map (fun p => { buf := p.1, ch := p.2, frame := f }) ++ s.marks }

theorem State.markLanes_frame (s : State) (f : Nat) (lanes : List (Nat × Nat)) : Frame [.marks] s (s.markLanes f lanes) :=
  Frame.set_marks (Frame.refl _ s) rfl

/-- A lane is marked for a frame by MUZ, or was before. -/
theorem State.mem_markLanes (s : State) (n : Nat) (lanes : List (Nat × Nat)) (b c f : Nat) :
    (∃ m ∈ (s.markLanes n lanes).marks, m.buf = b ∧ m.ch = c ∧ m.frame = f) ↔
      ((b, c) ∈ lanes ∧ f = n) ∨ ∃ m ∈ s.marks, m.buf = b ∧ m.ch = c ∧ m.frame = f := by
  simp only [State.markLanes, List.mem_append, List.mem_map, or_and_right, exists_or]
  refine or_congr_left ⟨?_, ?_⟩
  · rintro ⟨_, ⟨p, hp, rfl⟩, rfl, rfl, rfl⟩
    exact ⟨hp, rfl⟩
  · rintro ⟨hp, rfl⟩
    exact ⟨_, ⟨_, hp, rfl⟩, rfl, rfl, rfl⟩

theorem exec_muz {s : State} {e h gm : Nat} (hi : s.issues e (.muz h gm) = true) : exec (.muz e h gm) s =
    .next (s.effect e (.muz (s.muzLanes e (s.engine e) h gm)) (fun x => x.next 2)
      (fun t => t.markLanes (((s.engine e).tick + 1) % 2 ^ 32) (s.muzLanes e (s.engine e) h gm))) := by
  show execMuz e h gm s = _
  unfold execMuz
  rw [if_pos hi]
  rfl

theorem exec_mark {s : State} {e gs imm16 : Nat} (hi : s.issues e (.mark gs imm16) = true) : exec (.mark e gs imm16) s =
    .next (s.effect e (.mark (imm16 * 2 ^ 16 + (s.engine e).gr gs % 2 ^ 16)) (fun x => x.next 2)
      (fun t => t.report 0x0E07 e (imm16 * 2 ^ 16 + (s.engine e).gr gs % 2 ^ 16))) := by
  show execMark e gs imm16 s = _
  unfold execMark
  rw [if_pos hi]

/-- Settles O12: HSET and HADV by the handle they bind, TKIDX and TSTAT by the register they write, MUZ and MARK by where their effect goes. -/
theorem handlesStatusMuzzleAndMarks : Obligations.HandlesStatusMuzzleAndMarks := by
  unfold Obligations.HandlesStatusMuzzleAndMarks
  refine ⟨fun e h gs imm13 out set simm16 s => ⟨fun hi hb => ?bound, fun hi hb => ?unbound, fun hi => ?hadv⟩,
    fun e gd hv sel gs gm imm16 s => ⟨fun hi => ?tkidx, fun hi => ?tags, fun hi => ?sat, fun m hi hm hb => ?null,
      fun b hi hb => ?frame, fun b hi hb => ?muzzle, fun b hi hb => ?channels, fun b hi hb => ?samples, fun hi => ?cursor,
      fun hi ha => ?muz, fun hi ha hroom => ?muzHeld, fun hi ha => ?mark, fun hi ha hroom => ?markHeld⟩⟩
  case bound => exact ⟨_, exec_hset_declared hi hb, HandleBound.setEngine ..⟩
  case unbound =>
    have hexec := exec_hset_undeclared hi hb
    have he := State.issues_lt hi
    refine ⟨_, hexec, ?_, State.handleFault_flag _ _ he, (State.handleFault_reported _ _ he).after ?_ ?_, execHset_frame _ _ _ _ _ _ _ hexec⟩
    · rw [State.handleFault_engine]
      exact (HandleBound.setEngine s e h _ 4).1
    · exact State.word_setEngine ..
    · exact State.word_setEngine ..
  case hadv =>
    obtain ⟨hsame, hrest⟩ := HandleBound.setEngine s e h ((s.engine e).moved h set gs simm16) 1
    exact ⟨_, exec_hadv hi, fun hd hx _ => hsame.trans (congrArg some (Engine.moved_cursor set gs simm16 hx)), hrest⟩
  case tkidx => exact ⟨_, exec_tkidx hi, ScalarResult.setEngine ..⟩
  case tags =>
    obtain ⟨t, hexec, hresult⟩ := exec_tstat hi
    refine ⟨_, t, hexec, hresult, fun i hlt => ?_⟩
    rw [BitVec.getLsbD_ofNat, State.tstat_tags, maskOf_testBit]
    simp [hlt]
  case sat =>
    have hresult := exec_tstat hi
    rwa [State.tstat_sat] at hresult
  case null =>
    have hresult := exec_tstat hi
    rwa [State.tstat_null s e hm hb] at hresult
  case frame =>
    have hresult := exec_tstat hi
    rwa [State.tstat_frame s e hb] at hresult
  case muzzle =>
    have hresult := exec_tstat hi
    rwa [State.tstat_muzzle s e hb] at hresult
  case channels =>
    have hresult := exec_tstat hi
    rwa [State.tstat_channels s e hb] at hresult
  case samples =>
    have hresult := exec_tstat hi
    rwa [State.tstat_samples s e hb] at hresult
  case cursor =>
    have hresult := exec_tstat hi
    rwa [State.tstat_cursor] at hresult
  case muz =>
    have hexec := exec_muz hi
    rw [State.effect_direct _ _ _ ha] at hexec
    exact ⟨_, hexec, State.engine_setEngine_same .., fun j => State.engine_setEngine_ne _ _, State.mem_markLanes s _ _,
      ((s.markLanes_frame ..).weaken rfl).seq (State.setEngine_frame ..) rfl⟩
  case muzHeld => exact ⟨_, (exec_muz hi).trans (congrArg _ (State.effect_held _ _ _ ha hroom)), EngineOnly.setEngine ..⟩
  case mark =>
    have hexec := exec_mark hi
    rw [State.effect_direct _ _ _ ha, State.report_engine] at hexec
    exact ⟨_, hexec, EngineReports.report_setEngine _ _ _ _ _ (by decide)⟩
  case markHeld => exact ⟨_, (exec_mark hi).trans (congrArg _ (State.effect_held _ _ _ ha hroom)), EngineOnly.setEngine ..⟩

end Sys2Proof.Machine
end

section
/-!
PROOFS. The counter clears of GE and FLOW, and the loads of program and flow profiles (R101, R161, R196, R220, R221).
-/

namespace Sys2Proof.Machine

/-! ## Host writes of commands -/

theorem bit_eq_testBit (n i : Nat) : bit n i = n.testBit i := by
  rw [bit, Nat.testBit_eq_decide_div_mod_eq]
  rfl

/-- A command bit set in a 32-bit value leaves it a 32-bit value. -/
theorem toNat_or_bit {v b : Nat} (hv : v < 2 ^ 32) (hb : b < 32) : (BitVec.ofNat 32 (v ||| 2 ^ b)).toNat = v ||| 2 ^ b := by
  rw [BitVec.toNat_ofNat, Nat.mod_eq_of_lt (Nat.or_lt_two_pow hv (Nat.pow_lt_pow_right (by decide) hb))]

theorem bit_or_self (v b : Nat) : bit (v ||| 2 ^ b) b = true := by
  rw [bit_eq_testBit, Nat.testBit_or, Nat.testBit_two_pow_self, Bool.or_true]

/-- The bits of a value below a command bit that is set in it. -/
theorem or_bit_bits (v : Nat) {b lo w : Nat} (h : lo + w ≤ b) : (v ||| 2 ^ b) / 2 ^ lo % 2 ^ w = v / 2 ^ lo % 2 ^ w := by
  apply Nat.eq_of_testBit_eq
  intro j
  rw [Nat.testBit_mod_two_pow, Nat.testBit_mod_two_pow, Nat.testBit_div_two_pow, Nat.testBit_div_two_pow, Nat.testBit_or,
    Nat.testBit_two_pow]
  by_cases hj : j < w
  · simp [show b ≠ j + lo by omega]
  · simp [hj]

/-- A register that no MODE field watches. -/
theorem State.setModes_unwatched (s : State) {k : Nat} (mask : Nat) (hk : k < 2 ^ 31) (href : k / 2 ^ 16 ≠ 5)
    (hge : firstBelow (fun e => inImem e k || inDesc e k || k == GE.ENTRY e || k == GE.CTL e) 16 = none)
    (hptp : firstBelow (fun p => k == TIME.PTP_CFG p) 2 = none) : s.setModes k mask = s := by
  have htx : ∀ n, (decide (FT.word n 0 ≤ k) && decide (k < FT.word n 0 + 16)) = false := fun n => by
    simp only [Bool.and_eq_false_iff, decide_eq_false_iff_not]
    unfold FT.word
    omega
  have hreg : (k / 2 ^ 16 == 5) = false := beq_false_of_ne href
  unfold State.setModes
  simp only [hge, hptp, hreg, htx, Bool.and_false, Bool.false_and, Bool.false_eq_true, if_false]
  split <;> rfl

/-! ## Counters (R101, R196, R221) -/

/-- Words set to 0, one after the other. -/
theorem State.word_zeroed (ks : List Nat) (s : State) (k : Nat) :
    (ks.foldl (fun s j => s.setNum j 0) s).word k = if k ∈ ks then 0 else s.word k := by
  induction ks generalizing s with
  | nil => rfl
  | cons j ks ih =>
    rw [List.foldl_cons, ih]
    by_cases hj : k = j
    · subst hj
      have hzero : (s.setNum k 0).word k = 0 := State.word_setWord_same ..
      simp [hzero]
    · rw [State.word_setNum_ne _ _ hj]
      simp [hj]

/-- The words that CNTCLR clears for engine `e`: its peak and its eight counters (R101). -/
def engineCounters (e : Nat) : List Nat := GE.PEAKCYC e :: (List.range 8).map (fun j => GE.RASTART e + 4 * j)

theorem mem_engineCounters (e k : Nat) : k ∈ engineCounters e ↔ k = GE.PEAKCYC e ∨ ∃ c, c < 8 ∧ k = GE.RASTART e + 4 * c := by
  simp only [engineCounters, List.mem_cons, List.mem_map, List.mem_range]
  exact or_congr_right (exists_congr fun c => and_congr_right fun _ => eq_comm)

/-- The engines below `n` that are named have their counters cleared. -/
def State.clearBelow (s : State) (v n : Nat) : State :=
  s.eachBelow (fun s e => if bit v e then (engineCounters e).foldl (fun s k => s.setNum k 0) s else s) n

theorem State.clearEngines_eq (s : State) (v : Nat) : s.clearEngines v = s.clearBelow v 16 := by
  unfold State.clearEngines State.clearBelow
  simp only [engineCounters, List.foldl_cons]

theorem State.clearBelow_succ (s : State) (v n : Nat) : s.clearBelow v (n + 1) =
    if bit v n then (engineCounters n).foldl (fun s k => s.setNum k 0) (s.clearBelow v n) else s.clearBelow v n := rfl

theorem State.clearBelow_word (s : State) (v n k : Nat) :
    ((∃ e, e < n ∧ v.testBit e = true ∧ k ∈ engineCounters e) → (s.clearBelow v n).word k = 0) ∧
      ((∀ e, e < n → v.testBit e = true → k ∉ engineCounters e) → (s.clearBelow v n).word k = s.word k) := by
  induction n with
  | zero => exact ⟨fun ⟨_, he, _⟩ => absurd he (Nat.not_lt_zero _), fun _ => rfl⟩
  | succ n ih =>
    obtain ⟨hcleared, hkept⟩ := ih
    have hstep : (s.clearBelow v (n + 1)).word k =
        if v.testBit n = true ∧ k ∈ engineCounters n then 0 else (s.clearBelow v n).word k := by
      rw [State.clearBelow_succ, bit_eq_testBit]
      by_cases hv : v.testBit n = true
      · rw [if_pos hv, State.word_zeroed]
        simp [hv]
      · rw [if_neg hv]
        simp [hv]
    rw [hstep]
    refine ⟨fun ⟨e, he, hv, hk⟩ => ?_, fun h => ?_⟩
    · split
      · rfl
      · next hn =>
        have hne : e ≠ n := fun heq => hn (heq ▸ ⟨hv, hk⟩)
        exact hcleared ⟨e, by omega, hv, hk⟩
    · rw [if_neg (fun hn => h n (Nat.lt_succ_self n) hn.1 hn.2)]
      exact hkept fun e he => h e (Nat.lt_succ_of_lt he)

theorem exec_engineCounterClear {s : State} {i : Iface} {v : Nat} (hv : v < 2 ^ 32) (h : s.hostReaches i GE.CNTCLR = true) :
    exec (.engineCounterClear i v) s = .next (s.clearBelow v 16) := by
  have hwrite : ∀ w : Word, s.regWrite (ifaceNumber i) GE.CNTCLR 0 (hostKey 0 GE.CNTCLR) w = s.clearEngines w.toNat := fun _ => rfl
  show Host.Outcome.next (s.regCommand i GE.CNTCLR v) = _
  rw [State.regCommand_reaches ⟨by decide, by decide, by decide⟩ h, hwrite, BitVec.toNat_ofNat, Nat.mod_eq_of_lt hv, State.clearEngines_eq]

/-- The live words with those of some keys at their reset values. -/
def State.resetWords (s : State) (c : Nat → Bool) : State := { s with live := s.live.filter (fun p => !c p.1) }

theorem Store.find_filter_keys (m : Store Word) (c : Nat → Bool) (k : Nat) :
    Store.find (m.filter (fun p => !c p.1)) k = if c k then none else Store.find m k := by
  induction m with
  | nil => simp [Store.find]
  | cons p m ih =>
    obtain ⟨a, v⟩ := p
    by_cases ha : a = k
    · subst ha
      cases hc : c a <;> simp [Store.find, hc, ih]
    · cases hc : c a <;> simp [Store.find, hc, ha, ih]

theorem State.word_resetWords (s : State) (c : Nat → Bool) (k : Nat) :
    (s.resetWords c).word k = if c k then resetWord k else s.word k := by
  unfold State.resetWords State.word Store.get
  rw [Store.find_filter_keys]
  split <;> rfl

/-- The counters that RXCLR clears: those of the records of no transmit flow (R196). -/
def State.rxCleared (s : State) (all : Bool) (ix k : Nat) : Bool := rxCounterKey all ix k && !(s.txRec ((k - RS.word 0 0) / 0x80)).owns

/-- The counters that TXCLR clears: those of the record named, or of every transmit record (R221). -/
def State.txCleared (s : State) (all : Bool) (ix k : Nat) : Bool :=
  txCounterKey all ix k && (!all || (s.txRec ((k - TS.word 0 0) / 0x80)).owns)

theorem State.rxClear_eq (s : State) : s.rxClear = s.resetWords (s.rxCleared (s.flag FLOW.RXCLR.ALL) (s.rd FLOW.RXCLR.INDEX)) := rfl

theorem State.txClear_eq (s : State) : s.txClear = s.resetWords (s.txCleared (s.flag FLOW.TXCLR.ALL) (s.rd FLOW.TXCLR.INDEX)) := rfl

/-- The state after a direct write of `v` to the RW bits `mask` of register `k`. -/
def State.rwWritten (s : State) (k : Nat) (v : Word) (mask : Nat) : State := s.setWord k (mergeBits (s.word k) v mask)

/-- A field among the RW bits reads as the value written. -/
theorem State.rd_rwWritten (s : State) {f : Fld} (v : Word) {mask : Nat} (hf : f.lo + f.width ≤ 32)
    (h : ∀ j, f.lo ≤ j → j < f.lo + f.width → mask.testBit j = true) : (s.rwWritten f.key v mask).rd f = f.ext v := by
  unfold State.rd State.rwWritten
  rw [State.word_setWord_same, Fld.ext_mergeBits _ _ hf h]

/-- The command registers of FLOW, with their RW bits. -/
def flowCommands : List (Nat × Nat) := [(FLOW.RXCLR, 0x40000FFF), (FLOW.TXCLR, 0x40000FFF), (FLOW.TXPROFILE, 0x30FFF)]

/-- A command of FLOW acts on what its write has left in the RW bits. -/
theorem State.regWrite_flow {k mask : Nat} (h : (k, mask) ∈ flowCommands) (s : State) (i addr : Nat) (v : Word) :
    s.regWrite i k 0 addr v = (s.rwWritten k v mask).act i k v.toNat (s.word k) true := by
  have hmodes : (s.rwWritten k v mask).setModes k (2 ^ 32 - 1) = s.rwWritten k v mask := by
    simp only [flowCommands, List.mem_cons, Prod.mk.injEq, List.not_mem_nil, or_false] at h
    rcases h with ⟨rfl, -⟩ | ⟨rfl, -⟩ | ⟨rfl, -⟩ <;> exact State.setModes_unwatched _ _ (by decide) (by decide) (by decide) (by decide)
  have hwrite : s.regWrite i k 0 addr v = ((s.rwWritten k v mask).setModes k (2 ^ 32 - 1)).act i k v.toNat (s.word k) true := by
    simp only [flowCommands, List.mem_cons, Prod.mk.injEq, List.not_mem_nil, or_false] at h
    rcases h with ⟨rfl, rfl⟩ | ⟨rfl, rfl⟩ | ⟨rfl, rfl⟩ <;> rfl
  rw [hwrite, hmodes]

theorem State.act_flow (s : State) (i v : Nat) (old : Word) {k : Nat} (hk : k / 0x10000 = 0x0D) : s.act i k v old true =
    if k = FLOW.RXCLR ∧ bit v 31 = true then s.rxClear else if k = FLOW.TXCLR ∧ bit v 31 = true then s.txClear
    else if k = FLOW.TXPROFILE ∧ bit v 30 = true then s.txProfile i v else s := by
  unfold State.act
  simp only [hk, Bool.true_and]

theorem State.regWrite_rxclr (s : State) (i addr : Nat) {v : Word} (h : bit v.toNat 31 = true) :
    s.regWrite i FLOW.RXCLR 0 addr v = (s.rwWritten FLOW.RXCLR v 0x40000FFF).rxClear := by
  rw [State.regWrite_flow (mask := 0x40000FFF) (by decide), State.act_flow _ _ _ _ (by decide), if_pos ⟨rfl, h⟩]

theorem State.regWrite_txclr (s : State) (i addr : Nat) {v : Word} (h : bit v.toNat 31 = true) :
    s.regWrite i FLOW.TXCLR 0 addr v = (s.rwWritten FLOW.TXCLR v 0x40000FFF).txClear := by
  rw [State.regWrite_flow (mask := 0x40000FFF) (by decide), State.act_flow _ _ _ _ (by decide), if_neg (fun hk => absurd hk.1 (by decide)),
    if_pos ⟨rfl, h⟩]

theorem State.regWrite_txprofile (s : State) (i addr : Nat) {v : Word} (h : bit v.toNat 30 = true) :
    s.regWrite i FLOW.TXPROFILE 0 addr v = (s.rwWritten FLOW.TXPROFILE v 0x30FFF).txProfile i v.toNat := by
  rw [State.regWrite_flow (mask := 0x30FFF) (by decide), State.act_flow _ _ _ _ (by decide), if_neg (fun hk => absurd hk.1 (by decide)),
    if_neg (fun hk => absurd hk.1 (by decide)), if_pos ⟨rfl, h⟩]

/-- A field of a command register, after a write with a command bit above the field. -/
theorem State.rd_command (s : State) {f : Fld} {v b mask : Nat} (hv : v < 2 ^ 32) (hb : b < 32) (hf : f.lo + f.width ≤ b)
    (hmask : ∀ j, f.lo ≤ j → j < f.lo + f.width → mask.testBit j = true) :
    (s.rwWritten f.key (BitVec.ofNat 32 (v ||| 2 ^ b)) mask).rd f = v / 2 ^ f.lo % 2 ^ f.width := by
  rw [State.rd_rwWritten _ _ (by omega) hmask, Fld.ext, toNat_or_bit hv hb, or_bit_bits v hf]

/-- ALL and INDEX of a clear register, after a write with GO. -/
theorem State.clear_fields (s : State) (k : Nat) {v : Nat} (hv : v < 2 ^ 32) :
    (s.rwWritten k (BitVec.ofNat 32 (v ||| 2 ^ 31)) 0x40000FFF).flag ⟨k, 30, 1⟩ = v.testBit 30 ∧
      (s.rwWritten k (BitVec.ofNat 32 (v ||| 2 ^ 31)) 0x40000FFF).rd ⟨k, 0, 12⟩ = v % 2 ^ 12 := by
  have hall := s.rd_command (f := ⟨k, 30, 1⟩) (mask := 0x40000FFF) hv (b := 31) (by decide) (show 30 + 1 ≤ 31 by decide)
    (show ∀ j, 30 ≤ j → j < 30 + 1 → Nat.testBit 0x40000FFF j = true by decide)
  have hindex := s.rd_command (f := ⟨k, 0, 12⟩) (mask := 0x40000FFF) hv (b := 31) (by decide) (show 0 + 12 ≤ 31 by decide)
    (show ∀ j, 0 ≤ j → j < 0 + 12 → Nat.testBit 0x40000FFF j = true by decide)
  rw [pow_zero, Nat.div_one] at hindex
  exact ⟨(congrArg (· == 1) hall).trans (bit_eq_testBit v 30), hindex⟩

/-- RXCLR clears the counters that its ALL and INDEX name. -/
theorem exec_rxCounterClear {s : State} {i : Iface} {v : Nat} (hv : v < 2 ^ 32) (h : s.hostReaches i FLOW.RXCLR = true) :
    exec (.rxCounterClear i v) s = .next ((s.rwWritten FLOW.RXCLR (BitVec.ofNat 32 (v ||| 2 ^ 31)) 0x40000FFF).resetWords
      (s.rxCleared (v.testBit 30) (v % 2 ^ 12))) := by
  obtain ⟨hall, hindex⟩ := s.clear_fields FLOW.RXCLR hv
  show Host.Outcome.next (s.regCommand i FLOW.RXCLR (v ||| 2 ^ 31)) = _
  rw [State.regCommand_reaches ⟨by decide, by decide, by decide⟩ h,
    State.regWrite_rxclr _ _ _ (by rw [toNat_or_bit hv (by decide)]; exact bit_or_self v 31), State.rxClear_eq, FLOW.RXCLR.ALL,
    FLOW.RXCLR.INDEX, hall, hindex]
  rfl

/-- TXCLR clears the counters that its ALL and INDEX name. -/
theorem exec_txCounterClear {s : State} {i : Iface} {v : Nat} (hv : v < 2 ^ 32) (h : s.hostReaches i FLOW.TXCLR = true) :
    exec (.txCounterClear i v) s = .next ((s.rwWritten FLOW.TXCLR (BitVec.ofNat 32 (v ||| 2 ^ 31)) 0x40000FFF).resetWords
      (s.txCleared (v.testBit 30) (v % 2 ^ 12))) := by
  obtain ⟨hall, hindex⟩ := s.clear_fields FLOW.TXCLR hv
  show Host.Outcome.next (s.regCommand i FLOW.TXCLR (v ||| 2 ^ 31)) = _
  rw [State.regCommand_reaches ⟨by decide, by decide, by decide⟩ h,
    State.regWrite_txclr _ _ _ (by rw [toNat_or_bit hv (by decide)]; exact bit_or_self v 31), State.txClear_eq, FLOW.TXCLR.ALL,
    FLOW.TXCLR.INDEX, hall, hindex]
  rfl

@[simp] theorem State.rwWritten_dmem (s : State) (k : Nat) (v : Word) (mask : Nat) : (s.rwWritten k v mask).dmem = s.dmem := rfl
@[simp] theorem State.rwWritten_shadow (s : State) (k : Nat) (v : Word) (mask : Nat) : (s.rwWritten k v mask).shadow = s.shadow := rfl
@[simp] theorem State.rwWritten_pend (s : State) (k : Nat) (v : Word) (mask : Nat) : (s.rwWritten k v mask).pend = s.pend := rfl

theorem State.rwWritten_frame (s : State) (k : Nat) (v : Word) (mask : Nat) : Frame [.live] s (s.rwWritten k v mask) := s.setWord_frame _ _

theorem State.word_rwWritten_ne (s : State) {k j : Nat} (v : Word) (mask : Nat) (h : j ≠ k) : (s.rwWritten k v mask).word j = s.word j :=
  State.word_setWord_ne _ _ h

/-- A counter clear of FLOW leaves every word but those it clears and its own register. -/
theorem State.word_resetWords_command (s : State) {k j : Nat} (v : Word) (mask : Nat) (c : Nat → Bool) (h : k ≠ j) :
    ((s.rwWritten j v mask).resetWords c).word k = if c k then resetWord k else s.word k := by
  rw [State.word_resetWords, State.word_rwWritten_ne _ _ _ h]

theorem State.resetWords_frame (s : State) (c : Nat → Bool) : Frame [.live] s (s.resetWords c) :=
  Frame.set_live (Frame.refl _ s) (fun h => Store.wf_filter _ _ _ h) rfl

/-! ## Profile loads (R161, R220) -/

/-- With room in the journal and the checkpoint area, a profile load is journaled once and its words enter the open shadow (R57, R60). -/
theorem State.profileLoad_taken {s : State} (i k v : Nat) {ws : List (Nat × Word)} (h : s.hasRoom ws = true) :
    s.profileLoad i k v ws = (ws.foldl (fun s p => s.putShadow p.1 p.2) (s.journal .write k v s.tick), true) := by
  simp only [State.hasRoom, Bool.and_eq_true, Bool.not_eq_true'] at h
  obtain ⟨hfull, hspace⟩ := h
  unfold State.profileLoad
  exact (if_neg (ne_true_of_eq_false hfull)).trans (if_neg (ne_true_of_eq_false hspace))

/-- Words put into the open shadow change it alone. -/
theorem State.putShadows_frame (s : State) (ws : List (Nat × Word)) : Frame [.shadow] s (ws.foldl (fun s p => s.putShadow p.1 p.2) s) :=
  Frame.foldl _ (fun _ _ h => h.trans (State.putShadow_frame ..)) (Frame.refl _ s)

theorem State.profileTaken_frame (s : State) (k v : Nat) (ws : List (Nat × Word)) :
    Frame [.live, .shadow, .ckpt, .out] s (ws.foldl (fun s p => s.putShadow p.1 p.2) (s.journal .write k v s.tick)) :=
  ((s.journal_frame ..).weaken rfl).seq (State.putShadows_frame ..) rfl

/-! ### Programs -/

/-- GE.PROFILEe, whose SIZE and PROGRAM are shadowed and whose other fields are commands and status (R161). -/
theorem regAt_geProfile {e : Nat} (he : e < 16) :
    ∃ f, regAt (GE.PROFILE e) = some (f, e) ∧ f.rw = 0 ∧ f.rws = 0x1FFFF ∧ f.wo1 = 0 ∧ f.sq = 0 := by
  interval_cases e <;> exact ⟨_, rfl, rfl, rfl, rfl, rfl⟩

theorem State.loadAt_geProfile (s : State) (i : Nat) {e v : Nat} (he : e < 16) (h : bit v 24 = true) :
    s.loadAt i (GE.PROFILE e) v = some (s.geProfile i e v) := by
  have hfirst : firstBelow (fun j => GE.PROFILE e == GE.PROFILE j) 16 = some e := by interval_cases e <;> rfl
  unfold State.loadAt
  rw [if_neg (by unfold GE.PROFILE REF.PROFILE; omega), hfirst]
  exact if_pos h

theorem State.unitRefuses_geProfile (s : State) (w : Word) (v : Nat) {e : Nat} (he : e < 16) : s.unitRefuses (GE.PROFILE e) w v true = false := by
  interval_cases e <;> rfl

theorem State.act_geProfile (s : State) (i v : Nat) (old : Word) {e : Nat} (he : e < 16) : s.act i (GE.PROFILE e) v old true = s := by
  unfold State.act
  simp only [show GE.PROFILE e / 0x10000 = 0x0E by unfold GE.PROFILE; omega]
  exact if_neg fun h => absurd h.1 (by unfold GE.PROFILE GE.CNTCLR; omega)

/-- A write of GE.PROFILEe with LOAD set loads the program that it names. -/
theorem State.regWrite_geProfile (s : State) (i addr : Nat) {e : Nat} {v : Word} (he : e < 16) (h : bit v.toNat 24 = true) :
    s.regWrite i (GE.PROFILE e) 0 addr v = s.geProfile i e v.toNat := by
  obtain ⟨f, hreg, hrw, hrws, hwo1, hsq⟩ := regAt_geProfile he
  unfold State.regWrite
  rw [hreg]
  simp [s.unitRefuses_geProfile _ _ he, hrw, hrws, hwo1, hsq, State.rwsWrite, State.loadAt_geProfile _ _ he h, State.act_geProfile _ _ _ _ he]

/-- The words of a program load: the stock program's, and SIZE and PROGRAM of its profile (R161). -/
def State.programWords (s : State) (e v : Nat) : List (Nat × Word) :=
  stockWords e (v % 2 ^ 8) (v / 2 ^ 8 % 2 ^ 9)
    ++ [s.shadowFields (GE.PROFILE e) [(GE.PROFILE.SIZE e, v / 2 ^ 8 % 2 ^ 9), (GE.PROFILE.PROGRAM e, v % 2 ^ 8)]]

/-- The state after a program load that is taken: its words in the open shadow under one journal entry, and MODE basic. -/
def State.programLoaded (s : State) (e v : Nat) : State :=
  ((s.programWords e v).foldl (fun s p => s.putShadow p.1 p.2) (s.journal .write (GE.PROFILE e) (v ||| 2 ^ 24) s.tick)).wr
    (GE.PROFILE.MODE e) 0

theorem State.programLoaded_taken (s : State) (e v : Nat) :
    ProfileTaken (GE.PROFILE e) (v ||| 2 ^ 24) (s.programWords e v) s (s.programLoaded e v) := State.wr_shadow ..

theorem State.programLoaded_mode (s : State) (e v : Nat) : (s.programLoaded e v).rd (GE.PROFILE.MODE e) = 0 := by
  unfold State.programLoaded
  exact State.rd_wr_same _ (GE.PROFILE.MODE e) 0 (show 31 + 1 ≤ 32 by decide)

theorem State.programLoaded_frame (s : State) (e v : Nat) : Frame [.live, .shadow, .ckpt, .out] s (s.programLoaded e v) :=
  (s.profileTaken_frame ..).seq (State.wr_frame ..) rfl

theorem exec_geProfileLoad {s : State} {i : Iface} {e v : Nat} (hv : v < 2 ^ 32) (he : e < 16) (h : s.hostReaches i (GE.PROFILE e) = true)
    (hlib : inLibrary (v % 2 ^ 8) (v / 2 ^ 8 % 2 ^ 9) = true) (hroom : s.hasRoom (s.programWords e v) = true) :
    exec (.geProfileLoad i e v) s = .next (s.programLoaded e v) := by
  have hspace : NormalSpace (GE.PROFILE e) := by
    unfold NormalSpace GE.PROFILE
    omega
  have hload := toNat_or_bit hv (b := 24) (by decide)
  have hprog : bits (v ||| 2 ^ 24) 7 0 = v % 2 ^ 8 := (or_bit_bits v (by decide)).trans (by rw [pow_zero, Nat.div_one])
  have hsize : bits (v ||| 2 ^ 24) 16 8 = v / 2 ^ 8 % 2 ^ 9 := or_bit_bits v (by decide)
  show Host.Outcome.next (if e < 16 then s.regCommand i (GE.PROFILE e) (v ||| 2 ^ 24) else s) = _
  rw [if_pos he, State.regCommand_reaches hspace h, State.regWrite_geProfile _ _ _ he (by rw [hload]; exact bit_or_self v 24), hload]
  unfold State.geProfile
  rw [hprog, hsize]
  dsimp only
  rw [if_pos hlib]
  unfold State.programWords at hroom
  rw [State.profileLoad_taken _ _ _ hroom, State.programLoaded, State.programWords]
  dsimp only
  rw [if_pos rfl]

/-! ### Transmit flows -/

/-- A word put into the shadow of a table enters as it is. -/
theorem State.putShadow_table (s : State) {k : Nat} (v : Word) (h : tableKey k = true) :
    s.putShadow k v = { s with shadow := Store.insert s.shadow k v } := by
  unfold State.putShadow
  rw [isDmem_of_tableKey h, rwsMask_of_tableKey h, mergeBits_full]
  rfl

/-- The open shadow `m` with words laid over it. -/
def shadowWith (m : Store Word) (ws : List (Nat × Word)) : Store Word := ws.foldl (fun m p => Store.insert m p.1 p.2) m

theorem State.putShadows_table {ws : List (Nat × Word)} (h : ∀ p ∈ ws, tableKey p.1 = true) (s : State) :
    ws.foldl (fun s p => s.putShadow p.1 p.2) s = { s with shadow := shadowWith s.shadow ws } := by
  induction ws generalizing s with
  | nil => rfl
  | cons p ws ih =>
    rw [List.foldl_cons, State.putShadow_table _ _ (h p List.mem_cons_self), ih fun q hq => h q (List.mem_cons_of_mem _ hq)]
    rfl

theorem Store.filter_erase {p : Nat × Word → Bool} {k : Nat} (hp : ∀ v, p (k, v) = false) (m : Store Word) :
    (Store.erase m k).filter p = m.filter p := by
  induction m with
  | nil => rfl
  | cons q m ih =>
    obtain ⟨a, x⟩ := q
    by_cases ha : a = k
    · subst ha
      rw [Store.erase, if_pos rfl, ih, List.filter_cons_of_neg (by simp [hp])]
    · rw [Store.erase, if_neg ha]
      simp only [List.filter_cons, ih]

theorem Store.filter_insert {p : Nat × Word → Bool} {k : Nat} (hp : ∀ v, p (k, v) = false) (m : Store Word) (v : Word) :
    (Store.insert m k v).filter p = m.filter p := by
  induction m with
  | nil => simp [Store.insert, hp]
  | cons q m ih =>
    obtain ⟨a, x⟩ := q
    by_cases ha : a = k
    · subst ha
      simp [Store.insert, hp]
    · by_cases hl : k < a
      · simp [Store.insert, ha, hl, hp]
      · simp [Store.insert, ha, hl, List.filter_cons, ih]

/-- A filter that drops a key does not see what is written there. -/
theorem Store.filter_set {p : Nat × Word → Bool} {k : Nat} (hp : ∀ v, p (k, v) = false) (m : Store Word) (v : Word) :
    (Store.set resetWord m k v).filter p = m.filter p := by
  unfold Store.set
  split
  · exact Store.filter_erase hp m
  · exact Store.filter_insert hp m v

theorem sameBits_zero (a b : Word) : sameBits a b 0 = true := by simp [sameBits]

/-- A word without shadowed bits counts in no checkpoint. -/
theorem countsLive_unshadowed {k : Nat} (hmask : rwsMask k = 0) (v : Word) : countsLive (k, v) = false := by simp [countsLive, hmask]

section
variable {k : Nat} (hmask : rwsMask k = 0) (hdmem : isDmem k = false)
include hmask hdmem

theorem differs_set_unshadowed (live : Store Word) (dmem : Memory) (u : Word) : differs (Store.set resetWord live k u) dmem = differs live dmem := by
  funext j v
  unfold differs
  by_cases hj : j = k
  · subst hj
    rw [hdmem, hmask, sameBits_zero, sameBits_zero]
  · rw [Store.get_set_ne _ _ _ hj]

/-- The size of a checkpoint does not depend on a word without shadowed bits that is no declaration of a program (R60). -/
theorem ckptBytes_set_unshadowed (live : Store Word) (dmem : Memory) (shadow pend : Store Word) (u : Word)
    (hparams : Cfg.paramBytes (Store.set resetWord live k u) = Cfg.paramBytes live) :
    ckptBytes (Store.set resetWord live k u) dmem shadow pend = ckptBytes live dmem shadow pend := by
  unfold ckptBytes
  rw [differs_set_unshadowed hmask hdmem, Store.filter_set (countsLive_unshadowed hmask), hparams]

end

theorem paramBytes_set_txprofile (live : Store Word) (u : Word) :
    Cfg.paramBytes (Store.set resetWord live FLOW.TXPROFILE u) = Cfg.paramBytes live := by
  have hget : ∀ j, j ≠ FLOW.TXPROFILE → Store.get resetWord (Store.set resetWord live FLOW.TXPROFILE u) j = Store.get resetWord live j :=
    fun j hj => Store.get_set_ne _ _ _ hj
  have hdesc : ∀ e w, DESC.word e w ≠ FLOW.TXPROFILE := fun e w => by
    unfold DESC.word FLOW.TXPROFILE
    omega
  have hengines : Cfg.engines (Store.set resetWord live FLOW.TXPROFILE u) = Cfg.engines live := by
    unfold Cfg.engines Cfg.present Cfg.follower Cfg.rd
    rw [hget GE.PRESENT.val.key (by decide), hget GE.BRACE.val.key (by decide)]
  have hword : ∀ e w, Cfg.word (Store.set resetWord live FLOW.TXPROFILE u) (DESC.word e w) = Cfg.word live (DESC.word e w) :=
    fun e w => congrArg BitVec.toNat (hget _ (hdesc e w))
  unfold Cfg.paramBytes
  rw [hengines]
  refine congrArg List.sum (List.map_congr_left fun e _ => ?_)
  rw [hword]
  exact congrArg List.sum (List.map_congr_left fun p _ => by rw [hword])

theorem State.hasRoom_table (s : State) {ws : List (Nat × Word)} (h : ∀ p ∈ ws, tableKey p.1 = true) : s.hasRoom ws =
    (!s.journalFull && !(decide (s.rd GLB.CKPTLEN.val / 2 < ceilDiv (ckptBytes s.live s.dmem (shadowWith s.shadow ws) s.pend) 4096)
      && decide (ckptBytes s.live s.dmem s.shadow s.pend < ckptBytes s.live s.dmem (shadowWith s.shadow ws) s.pend))) := by
  rw [State.hasRoom, State.putShadows_table h]
  rfl

/-- The room for words of tables does not depend on the RW bits of TXPROFILE. -/
theorem State.hasRoom_rwWritten_txprofile (s : State) (u : Word) (mask : Nat) {ws : List (Nat × Word)} (h : ∀ p ∈ ws, tableKey p.1 = true) :
    (s.rwWritten FLOW.TXPROFILE u mask).hasRoom ws = s.hasRoom ws := by
  have hfull : (s.rwWritten FLOW.TXPROFILE u mask).journalFull = s.journalFull :=
    congrArg (fun n => decide (8190 ≤ n)) (State.rd_congr (State.word_rwWritten_ne _ _ _ (by decide)))
  have hlen : (s.rwWritten FLOW.TXPROFILE u mask).rd GLB.CKPTLEN.val = s.rd GLB.CKPTLEN.val :=
    State.rd_congr (State.word_rwWritten_ne _ _ _ (by decide))
  have hbytes : ∀ shadow, ckptBytes (s.rwWritten FLOW.TXPROFILE u mask).live s.dmem shadow s.pend = ckptBytes s.live s.dmem shadow s.pend :=
    fun _ => ckptBytes_set_unshadowed (by decide) (by decide) _ _ _ _ _ (paramBytes_set_txprofile ..)
  rw [State.hasRoom_table _ h, State.hasRoom_table _ h, hfull, hlen, State.rwWritten_dmem, State.rwWritten_shadow, State.rwWritten_pend, hbytes,
    hbytes]

theorem tableKey_txWord {i w : Nat} (hi : i < 4096) (hw : w < 16) : tableKey (TX.word i w) = true := by
  have hlo : 2 ^ 31 ≤ TX.word i w := by
    unfold TX.word
    omega
  have hhi : TX.word i w - 2 ^ 31 < 0x60000 := by
    unfold TX.word
    omega
  unfold tableKey shadowedTable
  rw [decide_eq_true hlo, decide_eq_true hhi]
  rfl

/-- A profile writes words 0 to 3 of its entry (R220). -/
theorem State.txProfileWords_keys (s : State) (p i : Nat) :
    (s.txProfileWords p i).map (·.1) = [TX.word i 0, TX.word i 1, TX.word i 2, TX.word i 3] := by
  rcases p with _ | _ | _ | _ <;> rfl

theorem State.txProfileWords_table (s : State) (p : Nat) {i : Nat} (hi : i < 4096) : ∀ q ∈ s.txProfileWords p i, tableKey q.1 = true := by
  intro q hq
  have hkey : q.1 ∈ [TX.word i 0, TX.word i 1, TX.word i 2, TX.word i 3] := s.txProfileWords_keys p i ▸ List.mem_map_of_mem hq
  simp only [List.mem_cons, List.not_mem_nil, or_false] at hkey
  rcases hkey with h | h | h | h <;> rw [h] <;> exact tableKey_txWord hi (by decide)

/-- A profile's words do not depend on TXPROFILE. -/
theorem State.txProfileWords_rwWritten (s : State) (u : Word) (mask p i : Nat) :
    (s.rwWritten FLOW.TXPROFILE u mask).txProfileWords p i = s.txProfileWords p i := by
  have hword : ∀ w, (s.rwWritten FLOW.TXPROFILE u mask).shadowWord (TX.word i w) = s.shadowWord (TX.word i w) := fun w => by
    have hne : TX.word i w ≠ FLOW.TXPROFILE := by
      unfold TX.word FLOW.TXPROFILE
      omega
    unfold State.shadowWord
    rw [State.word_rwWritten_ne _ _ _ hne]
    rfl
  unfold State.txProfileWords State.shadowFields
  simp only [hword]

/-- The state with `i` as the entry that a profile was last loaded into. -/
def State.noteLoaded (s : State) (i : Nat) : State := { s with txLoaded := some i }

theorem State.rd_noteLoaded (s : State) (i : Nat) (f : Fld) : (s.noteLoaded i).rd f = s.rd f := rfl

/-- The state after a profile load that is taken: its words in the open shadow under one journal entry, MODE basic, and the entry noted. -/
def State.flowProfileLoaded (s : State) (v p i : Nat) : State :=
  (((s.txProfileWords p i).foldl (fun s q => s.putShadow q.1 q.2) (s.journal .write FLOW.TXPROFILE v s.tick)).wr FLOW.TXPROFILE.MODE 0).noteLoaded i

theorem exec_txProfileLoad {s : State} {i : Iface} {v : Nat} (hv : v < 2 ^ 32) (h : s.hostReaches i FLOW.TXPROFILE = true)
    (hroom : s.hasRoom (s.txProfileWords (v / 2 ^ 16 % 4) (v % 2 ^ 12)) = true) :
    exec (.txProfileLoad i v) s = .next ((s.rwWritten FLOW.TXPROFILE (BitVec.ofNat 32 (v ||| 2 ^ 30)) 0x30FFF).flowProfileLoaded
      (v ||| 2 ^ 30) (v / 2 ^ 16 % 4) (v % 2 ^ 12)) := by
  have hload := toNat_or_bit hv (b := 30) (by decide)
  have hprofile : (s.rwWritten FLOW.TXPROFILE (BitVec.ofNat 32 (v ||| 2 ^ 30)) 0x30FFF).rd FLOW.TXPROFILE.PROFILE = v / 2 ^ 16 % 4 :=
    s.rd_command (f := FLOW.TXPROFILE.PROFILE) hv (by decide) (by decide) (by decide)
  have hindex : (s.rwWritten FLOW.TXPROFILE (BitVec.ofNat 32 (v ||| 2 ^ 30)) 0x30FFF).rd FLOW.TXPROFILE.INDEX = v % 2 ^ 12 :=
    (s.rd_command (f := FLOW.TXPROFILE.INDEX) hv (by decide) (by decide) (by decide)).trans
      (by rw [show FLOW.TXPROFILE.INDEX.lo = 0 from rfl, pow_zero, Nat.div_one]; rfl)
  have htable := s.txProfileWords_table (v / 2 ^ 16 % 4) (show v % 2 ^ 12 < 4096 from Nat.mod_lt _ (by decide))
  rw [← s.hasRoom_rwWritten_txprofile (BitVec.ofNat 32 (v ||| 2 ^ 30)) 0x30FFF htable,
    ← s.txProfileWords_rwWritten (BitVec.ofNat 32 (v ||| 2 ^ 30)) 0x30FFF] at hroom
  show Host.Outcome.next (s.regCommand i FLOW.TXPROFILE (v ||| 2 ^ 30)) = _
  rw [State.regCommand_reaches ⟨by decide, by decide, by decide⟩ h, State.regWrite_txprofile _ _ _ (by rw [hload]; exact bit_or_self v 30), hload]
  unfold State.txProfile
  rw [hprofile, hindex, State.profileLoad_taken _ _ _ hroom, State.flowProfileLoaded, State.noteLoaded]
  dsimp only
  rw [if_pos rfl]

/-- The words of a profile stand in the open shadow, whatever was written to TXPROFILE. -/
theorem State.flowProfileLoaded_taken (s : State) (u : Word) (mask v p : Nat) {i : Nat} (hi : i < 4096) :
    ProfileTaken FLOW.TXPROFILE v (s.txProfileWords p i) s ((s.rwWritten FLOW.TXPROFILE u mask).flowProfileLoaded v p i) := by
  have htable := s.txProfileWords_table p hi
  unfold ProfileTaken
  rw [State.flowProfileLoaded, State.txProfileWords_rwWritten, State.putShadows_table htable, State.putShadows_table htable]
  show shadowWith (State.journal _ _ _ _ _).shadow _ = shadowWith (State.journal _ _ _ _ _).shadow _
  rw [State.journal_shadow, State.journal_shadow]
  rfl

theorem State.flowProfileLoaded_mode (s : State) (v p i : Nat) : (s.flowProfileLoaded v p i).rd FLOW.TXPROFILE.MODE = 0 := by
  rw [State.flowProfileLoaded, State.rd_noteLoaded]
  exact State.rd_wr_same _ FLOW.TXPROFILE.MODE 0 (by decide)

theorem State.flowProfileLoaded_frame (s : State) (v p i : Nat) :
    Frame [.live, .shadow, .ckpt, .txLoaded, .out] s (s.flowProfileLoaded v p i) := by
  have hwords := (s.profileTaken_frame FLOW.TXPROFILE v (s.txProfileWords p i)).weaken
    (ps := [.live, .shadow, .ckpt, .txLoaded, .out]) rfl
  exact Frame.set_txLoaded (hwords.seq (State.wr_frame _ FLOW.TXPROFILE.MODE 0) rfl) rfl

/-- Settles O22: each clear by the words it resets, each load by the room that lets it be taken. -/
theorem countersClearAndProfilesLoad : Obligations.CountersClearAndProfilesLoad := by
  unfold Obligations.CountersClearAndProfilesLoad
  refine ⟨fun i e v s hv => ⟨fun h _ => ?engines, fun he h _ hlib hroom => ?program⟩,
    fun i v k s hv => ⟨fun h => ?rx, fun h => ?tx, fun h hroom => ?flow⟩⟩
  case engines =>
    refine ⟨_, exec_engineCounterClear hv h, fun j hj hbit => ⟨?_, fun c hc => ?_⟩, fun k hk => ?_, ?_⟩
    · exact (s.clearBelow_word v 16 _).1 ⟨j, hj, hbit, (mem_engineCounters _ _).mpr (.inl rfl)⟩
    · exact (s.clearBelow_word v 16 _).1 ⟨j, hj, hbit, (mem_engineCounters _ _).mpr (.inr ⟨c, hc, rfl⟩)⟩
    · refine (s.clearBelow_word v 16 k).2 fun j hj hbit hmem => ?_
      obtain ⟨hpeak, hcount⟩ := hk j hj hbit
      rcases (mem_engineCounters j k).mp hmem with hk | ⟨c, hc, hk⟩
      · exact hpeak hk
      · exact hcount c hc hk
    · rw [← State.clearEngines_eq]
      exact s.clearEngines_frame v
  case program =>
    exact ⟨_, exec_geProfileLoad hv he h hlib hroom, s.programLoaded_taken e v, s.programLoaded_mode e v, s.programLoaded_frame e v⟩
  case rx =>
    exact ⟨_, exec_rxCounterClear hv h, fun hk => s.word_resetWords_command _ _ (s.rxCleared (v.testBit 30) (v % 2 ^ 12)) hk,
      (s.rwWritten_frame ..).trans (State.resetWords_frame ..)⟩
  case tx =>
    exact ⟨_, exec_txCounterClear hv h, fun hk => s.word_resetWords_command _ _ (s.txCleared (v.testBit 30) (v % 2 ^ 12)) hk,
      (s.rwWritten_frame ..).trans (State.resetWords_frame ..)⟩
  case flow =>
    refine ⟨_, exec_txProfileLoad hv h hroom, State.flowProfileLoaded_taken _ _ _ _ _ (Nat.mod_lt _ (by decide)), rfl,
      State.flowProfileLoaded_mode .., ?_⟩
    exact ((s.rwWritten_frame ..).weaken rfl).seq (State.flowProfileLoaded_frame ..) rfl

end Sys2Proof.Machine
end

section
/-!
PROOFS. The words of Genah (R105 to R107, R144). Soundness: the fields that the decoder takes from a legal word lie in their ranges and rebuild it.
Completeness: the word that encodes a well-formed instruction has its operands in the fields that the decoder reads.
-/

namespace Sys2Proof.Machine

/-! ## Fields -/

@[simp] theorem gReg_iff {g : Nat} : gReg g = true ↔ g < 32 := decide_eq_true_iff

@[simp] theorem vReg_iff {v : Nat} : vReg v = true ↔ v < 16 := decide_eq_true_iff

theorem bnum_le (b : Bool) : bnum b ≤ 1 := by cases b <;> decide

/-- Bit `i` as the number of a truth value. -/
theorem bit_eq_iff {n i : Nat} {b : Bool} : bit n i = b ↔ n / 2 ^ i % 2 = bnum b := by
  unfold bit
  rcases Nat.mod_two_eq_zero_or_one (n / 2 ^ i) with h | h <;> cases b <;> simp [h, bnum]

theorem bnum_bit (n i : Nat) : bnum (bit n i) = n / 2 ^ i % 2 := (bit_eq_iff.mp rfl).symm

theorem wrapN_lt (w : Nat) (i : Int) : wrapN w i < 2 ^ w := by
  have hlt := Int.emod_lt_of_pos i (show (0 : Int) < 2 ^ w by positivity)
  have hcast : (2 : Int) ^ w = ((2 ^ w : Nat) : Int) := by push_cast; rfl
  unfold wrapN
  omega

/-- The `w`-bit numbers are the signed immediates of `w` bits. -/
theorem signedN_eq_iff {w n : Nat} {i : Int} (hw : 0 < w) (hn : n < 2 ^ w) : signedN w n = i ↔ simmOk w i = true ∧ n = wrapN w i := by
  obtain ⟨k, rfl⟩ : ∃ k, w = k + 1 := ⟨w - 1, by omega⟩
  have hpow : (2 : Int) ^ (k + 1) = 2 * ((2 ^ k : Nat) : Int) := by rw [pow_succ]; push_cast; ring
  unfold signedN simmOk wrapN
  rw [Nat.mod_eq_of_lt hn, hpow, Nat.add_sub_cancel, show ((2 : Int) ^ k) = ((2 ^ k : Nat) : Int) by push_cast; rfl]
  rw [Nat.pow_succ] at hn
  generalize 2 ^ k = m at *
  simp only [Bool.and_eq_true, decide_eq_true_eq, Int.ofNat_eq_natCast]
  by_cases hi : 0 ≤ i
  · by_cases hlt : i < 2 * m
    · rw [Int.emod_eq_of_lt hi hlt]
      split <;> omega
    · split <;> omega
  · by_cases hlt : -(2 * m : Int) ≤ i
    · rw [← Int.add_emod_right, Int.emod_eq_of_lt (by omega) (by omega)]
      split <;> omega
    · split <;> omega

/-! ## Operands -/

/-- Bits [15:0] of a format S word spell its second operand. -/
theorem decSOperand_eq_some {w : Nat} {shift : Bool} {b : SOperand} :
    decSOperand w shift = some b ↔ b.wf shift = true ∧ bits w 15 0 = encSOperand b := by
  unfold decSOperand
  cases hbit : bit w 15
  all_goals
    rw [bit_eq_iff] at hbit
    cases b <;> cases shift <;> simp [SOperand.wf, encSOperand, bits, bnum] at hbit ⊢ <;> omega

theorem encSOperand_lt {shift : Bool} {b : SOperand} (h : b.wf shift = true) : encSOperand b < 2 ^ 16 := by
  cases b <;> cases shift <;> simp [SOperand.wf, encSOperand] at h ⊢ <;> omega

/-- Bits [17:12] of a format V word spell its operand b. -/
theorem decVOperand_eq_some {w : Nat} {b : VOperand} :
    decVOperand w = some b ↔ b.wf = true ∧ bits w 17 12 * 2 ^ 12 = encVOperand b := by
  unfold decVOperand
  cases hscalar : bit w 17 <;> cases hlow : bit w 16
  all_goals
    rw [bit_eq_iff] at hscalar hlow
    cases b <;> simp [VOperand.wf, encVOperand, bits, bnum] at hscalar hlow ⊢ <;> omega

/-- A legal format A word is spelled by its lane mask register and the place it reaches. -/
theorem decVAddr_sound {w : Nat} {p : VAddr × Nat} (h : decVAddr w = some p) :
    p.1.wf = true ∧ p.2 < 32 ∧ bits w 21 0 = encVAddr p.2 p.1 := by
  have himm := (signedN_eq_iff (w := 9) (by decide) (show bits w 8 0 < 2 ^ 9 from Nat.mod_lt _ (by decide))).mp rfl
  unfold decVAddr at h
  split at h
  case h_1 hspace =>
    dsimp only at h
    split at h
    case h_3 hmode =>
      cases h
      obtain ⟨hok, hwrap⟩ := himm
      refine ⟨?_, ?_⟩
      · have hlt : bits w 19 16 < 2 ^ 4 := Nat.mod_lt _ (by decide)
        simpa [VAddr.wf, Stride.wf, hok] using hlt
      · simp only [encVAddr, ← hwrap]
        simp [bits] at hspace hmode ⊢
        omega
    case h_4 h0 h1 h2 =>
      split at h <;> cases h
      simp [VAddr.wf, Stride.wf, encVAddr, bits] at *
      omega
    all_goals
      split at h <;> cases h
      simp [VAddr.wf, Stride.wf, encVAddr, bits] at *
      omega
  case h_4 => cases h
  all_goals
    cases h
    simp [VAddr.wf, encVAddr, bits] at *
    omega

theorem encVAddr_lt {gm : Nat} {a : VAddr} (ha : a.wf = true) (hgm : gm < 32) : encVAddr gm a < 2 ^ 22 := by
  rcases a with ⟨b, _ | _ | i | gx⟩ | ⟨gb, i⟩ | ⟨gb, i⟩
  case sxm.imm =>
    have hlt := wrapN_lt 9 i
    simp [VAddr.wf, Stride.wf, encVAddr] at ha ⊢
    omega
  all_goals
    simp [VAddr.wf, Stride.wf, encVAddr] at ha ⊢
    omega

/-- A word whose bits [21:0] spell a place and a lane mask register reaches that place. -/
theorem decVAddr_complete {w gm : Nat} {a : VAddr} (ha : a.wf = true) (hgm : gm < 32) (h : bits w 21 0 = encVAddr gm a) :
    decVAddr w = some (a, gm) := by
  rcases a with ⟨b, _ | _ | i | gx⟩ | ⟨gb, i⟩ | ⟨gb, i⟩
  case sxm.unit =>
    simp [VAddr.wf, Stride.wf, encVAddr] at ha h
    have hfields : bits w 21 20 = 0 ∧ bits w 19 16 = b ∧ bits w 15 14 = 0 ∧ bits w 13 9 = gm ∧ bits w 8 0 = 0 := by
      simp [bits] at h ⊢
      omega
    simp [decVAddr, hfields]
  case sxm.chan =>
    simp [VAddr.wf, Stride.wf, encVAddr] at ha h
    have hfields : bits w 21 20 = 0 ∧ bits w 19 16 = b ∧ bits w 15 14 = 1 ∧ bits w 13 9 = gm ∧ bits w 8 0 = 0 := by
      simp [bits] at h ⊢
      omega
    simp [decVAddr, hfields]
  case sxm.imm =>
    simp [VAddr.wf, Stride.wf, encVAddr] at ha h
    have hlt := wrapN_lt 9 i
    have hfields : bits w 21 20 = 0 ∧ bits w 19 16 = b ∧ bits w 15 14 = 2 ∧ bits w 13 9 = gm ∧ bits w 8 0 = wrapN 9 i := by
      simp [bits] at h ⊢
      omega
    simp [decVAddr, hfields, (signedN_eq_iff (by decide) hlt).mpr ⟨ha.2, rfl⟩]
  case sxm.reg =>
    simp [VAddr.wf, Stride.wf, encVAddr] at ha h
    have hfields : bits w 21 20 = 0 ∧ bits w 19 16 = b ∧ bits w 15 14 = 3 ∧ bits w 13 9 = gm ∧ bits w 8 5 = 0 ∧ bits w 4 0 = gx := by
      simp [bits] at h ⊢
      omega
    simp [decVAddr, hfields]
  case dmem =>
    simp [VAddr.wf, encVAddr] at ha h
    have hfields : bits w 21 20 = 1 ∧ bits w 19 15 = gb ∧ bits w 14 10 = gm ∧ bits w 9 0 = i := by
      simp [bits] at h ⊢
      omega
    simp [decVAddr, hfields]
  case fbuf =>
    simp [VAddr.wf, encVAddr] at ha h
    have hfields : bits w 21 20 = 2 ∧ bits w 19 15 = gb ∧ bits w 14 10 = gm ∧ bits w 9 0 = i := by
      simp [bits] at h ⊢
      omega
    simp [decVAddr, hfields]

/-! ## Formats -/

/-- A legal format S word of opcode `op` is the encoding of the instruction it spells. -/
theorem decS_sound {w op : Nat} {shift : Bool} {f : Nat → Nat → SOperand → Genah} {i : Genah} (hw : w < 2 ^ 32)
    (hwf : ∀ gd gs b, (f gd gs b).wf = (gReg gd && gReg gs && b.wf shift)) (henc : ∀ gd gs b, Genah.encode (f gd gs b) = encS op gd gs b)
    (hop : bits w 31 26 = op) (h : decS w shift f = some i) : i.wf = true ∧ Genah.encode i = w := by
  obtain ⟨b, hb, rfl⟩ := Option.map_eq_some_iff.mp h
  obtain ⟨hbwf, hbenc⟩ := decSOperand_eq_some.mp hb
  rw [hwf, henc, encS, ← hbenc]
  simp [hbwf, bits] at hop ⊢
  omega

/-- The encoding of a well-formed format S instruction decodes to it. -/
theorem decS_complete {op gd gs : Nat} {shift : Bool} {f : Nat → Nat → SOperand → Genah} {b : SOperand} (hop : op < 64)
    (hdec : ∀ w, bits w 31 26 = op → Genah.decode w = decS w shift f) (hwf : (gReg gd && gReg gs && b.wf shift) = true) :
    Genah.decode (encS op gd gs b) = some (f gd gs b) := by
  simp only [Bool.and_eq_true, gReg_iff] at hwf
  obtain ⟨⟨hgd, hgs⟩, hb⟩ := hwf
  have hlt := encSOperand_lt hb
  have hfields : bits (encS op gd gs b) 31 26 = op ∧ bits (encS op gd gs b) 25 21 = gd ∧ bits (encS op gd gs b) 20 16 = gs ∧
      bits (encS op gd gs b) 15 0 = encSOperand b := by
    unfold encS
    simp [bits]
    omega
  obtain ⟨hopc, hgd', hgs', hb'⟩ := hfields
  rw [hdec _ hopc, decS, hgd', hgs', decSOperand_eq_some.mpr ⟨hb, hb'⟩]
  rfl

/-- A format V word is rebuilt from its fields. -/
theorem encV_fields {w : Nat} {b : VOperand} (hw : w < 2 ^ 32) (hb : decVOperand w = some b) :
    encV (bits w 31 26) (bits w 25 22) (bits w 21 18) b (bits w 11 7) (bits w 6 0) = w := by
  rw [encV, ← (decVOperand_eq_some.mp hb).2]
  simp [bits]
  omega

/-- The fields of an encoded format V word. -/
theorem bits_encV {w op vd va gm fn : Nat} {b : VOperand} (hw : encV op vd va b gm fn = w) (hop : op < 64) (hvd : vd < 16) (hva : va < 16)
    (hb : b.wf = true) (hgm : gm < 32) (hfn : fn < 128) :
    bits w 31 26 = op ∧ bits w 25 22 = vd ∧ bits w 21 18 = va ∧ decVOperand w = some b ∧ bits w 11 7 = gm ∧ bits w 6 0 = fn := by
  have hbenc : encVOperand b % 2 ^ 12 = 0 ∧ encVOperand b < 2 ^ 18 := by
    cases b <;> simp [VOperand.wf, encVOperand] at hb ⊢ <;> omega
  rw [decVOperand_eq_some, ← hw]
  simp [encV, bits, hb]
  omega

/-! ## Instructions -/

/-- A legal word spells a well-formed instruction, whose encoding it is. -/
theorem Genah.decode_sound {w : Nat} {i : Genah} (hw : w < 2 ^ 32) (h : Genah.decode w = some i) : i.wf = true ∧ Genah.encode i = w := by
  have himm := (signedN_eq_iff (w := 16) (by decide) (show bits w 15 0 < 2 ^ 16 from Nat.mod_lt _ (by decide))).mp rfl
  unfold Genah.decode at h
  split at h
  case h_2 hop | h_3 hop | h_4 hop | h_5 hop | h_6 hop | h_7 hop | h_8 hop | h_9 hop | h_10 hop =>
    exact decS_sound hw (fun _ _ _ => rfl) (fun _ _ _ => rfl) hop h
  case h_11 hop =>
    split at h
    · obtain ⟨b, hb, rfl⟩ := Option.map_eq_some_iff.mp h
      obtain ⟨hbwf, hbenc⟩ := decSOperand_eq_some.mp hb
      simp [Genah.wf, Genah.encode, encS, hbwf, ← hbenc]
      simp [bits] at *
      omega
    · cases h
  case h_12 hop | h_13 hop | h_22 hop =>
    cases h
    obtain ⟨hok, hwrap⟩ := himm
    simp [Genah.wf, Genah.encode, bnum_bit, hok]
    rw [← hwrap]
    simp [bits] at *
    omega
  case h_23 hop | h_24 hop =>
    obtain ⟨p, hp, rfl⟩ := Option.map_eq_some_iff.mp h
    obtain ⟨hpwf, hgm, hpenc⟩ := decVAddr_sound hp
    simp [Genah.wf, Genah.encode, hpwf, hgm, ← hpenc]
    simp [bits] at *
    omega
  case h_26 hop =>
    unfold decV0 at h
    split at h
    · obtain ⟨b, hb, rfl⟩ := Option.map_eq_some_iff.mp h
      have hword := encV_fields hw hb
      simp [Genah.wf, Genah.encode, (decVOperand_eq_some.mp hb).1]
      simp [bits, encV] at *
      omega
    · cases h
  case h_25 hop | h_27 hop | h_32 hop =>
    split at h
    · obtain ⟨b, hb, rfl⟩ := Option.map_eq_some_iff.mp h
      have hword := encV_fields hw hb
      simp [Genah.wf, Genah.encode, (decVOperand_eq_some.mp hb).1, bnum_bit]
      simp [bits, encV] at *
      omega
    · cases h
  case h_33 hop | h_35 hop =>
    cases h
    simp [Genah.wf, xOk, Genah.encode, encX]
    simp [bits] at *
    omega
  case h_40 => cases h
  all_goals
    split at h <;> cases h
    simp [Genah.wf, Genah.encode, encV, encVOperand, bnum_bit] 
    simp [bits] at *
    omega

/-- A well-formed instruction is what its encoding decodes to. -/
theorem Genah.decode_complete {i : Genah} (h : i.wf = true) : Genah.decode (Genah.encode i) = some i := by
  cases i
  case add | sub | and | or | xor | mul | shl | shr | sar =>
    exact decS_complete (by decide) (fun w hop => by simp only [Genah.decode, hop]) h
  case li gd high k =>
    generalize hw : Genah.encode (.li gd high k) = w
    simp [Genah.wf, Genah.encode] at h hw
    have hhigh := bnum_le high
    have hfields : bits w 31 26 = 0x01 ∧ bits w 25 21 = gd ∧ bit w 20 = high ∧ bits w 19 16 = 0 ∧ bits w 15 0 = k := by
      simp [bits, bit_eq_iff]
      omega
    simp [Genah.decode, hfields]
  case cmp gs b =>
    generalize hw : Genah.encode (.cmp gs b) = w
    simp [Genah.wf, Genah.encode, encS] at h hw
    have hlt := encSOperand_lt h.2
    have hfields : bits w 31 26 = 0x0B ∧ bits w 25 21 = 0 ∧ bits w 20 16 = gs ∧ bits w 15 0 = encSOperand b := by
      simp [bits]
      omega
    obtain ⟨hop, hzero, hgs, hb⟩ := hfields
    simp [Genah.decode, hop, hzero, hgs, decSOperand_eq_some.mpr ⟨h.2, hb⟩]
  case lw gd gb k =>
    generalize hw : Genah.encode (.lw gd gb k) = w
    simp [Genah.wf, Genah.encode] at h hw
    have hlt := wrapN_lt 16 k
    have himm := (signedN_eq_iff (by decide) hlt).mpr ⟨h.2, rfl⟩
    have hfields : bits w 31 26 = 0x0C ∧ bits w 25 21 = gd ∧ bits w 20 16 = gb ∧ bits w 15 0 = wrapN 16 k := by
      simp [bits]
      omega
    simp [Genah.decode, hfields, himm]
  case sw gd gb k =>
    generalize hw : Genah.encode (.sw gd gb k) = w
    simp [Genah.wf, Genah.encode] at h hw
    have hlt := wrapN_lt 16 k
    have himm := (signedN_eq_iff (by decide) hlt).mpr ⟨h.2, rfl⟩
    have hfields : bits w 31 26 = 0x0D ∧ bits w 25 21 = gd ∧ bits w 20 16 = gb ∧ bits w 15 0 = wrapN 16 k := by
      simp [bits]
      omega
    simp [Genah.decode, hfields, himm]
  case br c o =>
    generalize hw : Genah.encode (.br c o) = w
    simp [Genah.wf, Genah.encode] at h hw
    have hfields : bits w 31 26 = 0x10 ∧ bits w 25 22 = c ∧ bits w 21 16 = 0 ∧ bits w 15 0 = o := by
      simp [bits]
      omega
    simp [Genah.decode, hfields, h]
    omega
  case loop d n =>
    generalize hw : Genah.encode (.loop d n) = w
    simp [Genah.wf, Genah.encode] at h hw
    have hfields : bits w 31 26 = 0x11 ∧ bits w 25 16 = d ∧ bits w 15 0 = n := by
      simp [bits]
      omega
    simp [Genah.decode, hfields, h]
  case loopr gs d m =>
    generalize hw : Genah.encode (.loopr gs d m) = w
    simp [Genah.wf, Genah.encode] at h hw
    have hfields : bits w 31 26 = 0x12 ∧ bits w 25 21 = gs ∧ bits w 20 11 = d ∧ bits w 10 0 = m := by
      simp [bits]
      omega
    simp [Genah.decode, hfields, h]
    omega
  case endl | ret | endt => decide
  case call a =>
    generalize hw : Genah.encode (.call a) = w
    simp [Genah.wf, Genah.encode] at h hw
    have hfields : bits w 31 26 = 0x14 ∧ bits w 25 14 = 0 ∧ bits w 13 0 = a := by
      simp [bits]
      omega
    simp [Genah.decode, hfields]
  case hset b out gs k =>
    generalize hw : Genah.encode (.hset b out gs k) = w
    simp [Genah.wf, Genah.encode] at h hw
    have hout := bnum_le out
    have hfields : bits w 31 26 = 0x18 ∧ bits w 25 22 = b ∧ bit w 21 = out ∧ bits w 20 16 = gs ∧ bits w 15 13 = 0 ∧ bits w 12 0 = k := by
      simp [bits, bit_eq_iff]
      omega
    simp [Genah.decode, hfields]
  case hadv b st gs k =>
    generalize hw : Genah.encode (.hadv b st gs k) = w
    simp [Genah.wf, Genah.encode] at h hw
    have hst := bnum_le st
    have hlt := wrapN_lt 16 k
    have himm := (signedN_eq_iff (by decide) hlt).mpr ⟨h.2, rfl⟩
    have hfields : bits w 31 26 = 0x19 ∧ bits w 25 22 = b ∧ bit w 21 = st ∧ bits w 20 16 = gs ∧ bits w 15 0 = wrapN 16 k := by
      simp [bits, bit_eq_iff]
      omega
    simp [Genah.decode, hfields, himm]
  case vld v a gm =>
    generalize hw : Genah.encode (.vld v a gm) = w
    simp [Genah.wf, Genah.encode] at h hw
    obtain ⟨⟨hv, ha⟩, hgm⟩ := h
    have hlt := encVAddr_lt ha hgm
    have hfields : bits w 31 26 = 0x1A ∧ bits w 25 22 = v ∧ bits w 21 0 = encVAddr gm a := by
      simp [bits]
      omega
    obtain ⟨hop, hv', haddr⟩ := hfields
    simp [Genah.decode, hop, hv', decVAddr_complete ha hgm haddr]
  case vst v a gm =>
    generalize hw : Genah.encode (.vst v a gm) = w
    simp [Genah.wf, Genah.encode] at h hw
    obtain ⟨⟨hv, ha⟩, hgm⟩ := h
    have hlt := encVAddr_lt ha hgm
    have hfields : bits w 31 26 = 0x1B ∧ bits w 25 22 = v ∧ bits w 21 0 = encVAddr gm a := by
      simp [bits]
      omega
    obtain ⟨hop, hv', haddr⟩ := hfields
    simp [Genah.decode, hop, hv', decVAddr_complete ha hgm haddr]
  case vadd vd va b gm neg =>
    generalize hw : Genah.encode (.vadd vd va b gm neg) = w
    simp [Genah.wf] at h
    have hneg := bnum_le neg
    obtain ⟨⟨⟨hvd, hva⟩, hb⟩, hgm⟩ := h
    obtain ⟨hop, hvd, hva, hb, hgm, hfn⟩ := bits_encV hw (by decide) (by omega) hva hb hgm (by omega)
    have hfields : bits w 6 1 = 0 ∧ bit w 0 = neg := by
      simp [bits, bit_eq_iff] at hvd hfn ⊢
      omega
    simp [Genah.decode, hop, hvd, hva, hb, hgm, hfields]
  case vmul vd va b gm =>
    generalize hw : Genah.encode (.vmul vd va b gm) = w
    simp [Genah.wf] at h
    obtain ⟨⟨⟨hvd, hva⟩, hb⟩, hgm⟩ := h
    obtain ⟨hop, hvd, hva, hb, hgm, hfn⟩ := bits_encV hw (by decide) (by omega) hva hb hgm (by omega)
    simp [Genah.decode, decV0, hop, hvd, hva, hb, hgm, hfn]
  case vmac ad va b gm z neg =>
    generalize hw : Genah.encode (.vmac ad va b gm z neg) = w
    simp [Genah.wf] at h
    have hz := bnum_le z
    have hneg := bnum_le neg
    obtain ⟨⟨⟨hvd, hva⟩, hb⟩, hgm⟩ := h
    obtain ⟨hop, hvd, hva, hb, hgm, hfn⟩ := bits_encV hw (by decide) (by omega) hva hb hgm (by omega)
    have hfields : bits w 25 24 = 0 ∧ bits w 23 22 = ad ∧ bits w 6 2 = 0 ∧ bit w 0 = z ∧ bit w 1 = neg := by
      simp [bits, bit_eq_iff] at hvd hfn ⊢
      omega
    simp [Genah.decode, hop, hva, hb, hgm, hfields]
  case vsat vd src gm sh =>
    generalize hw : Genah.encode (.vsat vd src gm sh) = w
    simp [Genah.wf, Genah.encode] at h hw
    have hfields : bits w 31 26 = 0x23 ∧ bits w 25 22 = vd ∧ bits w 21 20 = 0 ∧ bits w 19 18 = src ∧ bits w 17 12 = 0 ∧ bits w 11 7 = gm ∧
        bits w 6 3 = 0 ∧ bits w 2 0 = sh := by
      simp [bits]
      omega
    simp [Genah.decode, hfields]
  case vsel vd va vb gm =>
    generalize hw : Genah.encode (.vsel vd va vb gm) = w
    simp [Genah.wf, Genah.encode, encV, encVOperand] at h hw
    have hfields : bits w 31 26 = 0x24 ∧ bits w 25 22 = vd ∧ bits w 21 18 = va ∧ bits w 17 16 = 0 ∧ bits w 15 12 = vb ∧ bits w 11 7 = gm ∧
        bits w 6 0 = 0 := by
      simp [bits]
      omega
    simp [Genah.decode, hfields]
  case vpeak vd va gm =>
    generalize hw : Genah.encode (.vpeak vd va gm) = w
    simp [Genah.wf, Genah.encode, encV, encVOperand] at h hw
    have hfields : bits w 31 26 = 0x25 ∧ bits w 25 22 = vd ∧ bits w 21 18 = va ∧ bits w 17 12 = 0 ∧ bits w 11 7 = gm ∧ bits w 6 0 = 0 := by
      simp [bits]
      omega
    simp [Genah.decode, hfields]
  case vramp vd gs gt gm =>
    generalize hw : Genah.encode (.vramp vd gs gt gm) = w
    simp [Genah.wf, Genah.encode] at h hw
    have hfields : bits w 31 26 = 0x26 ∧ bits w 25 22 = vd ∧ bits w 21 17 = gs ∧ bits w 16 12 = gt ∧ bits w 11 7 = gm ∧ bits w 6 0 = 0 := by
      simp [bits]
      omega
    simp [Genah.decode, hfields]
  case vdith vd va b gm n t =>
    generalize hw : Genah.encode (.vdith vd va b gm n t) = w
    simp [Genah.wf] at h
    have ht := bnum_le t
    obtain ⟨⟨⟨⟨⟨hvd, hva⟩, hb⟩, hgm⟩, hlo⟩, hhi⟩ := h
    obtain ⟨hop, hvd, hva, hb, hgm, hfn⟩ := bits_encV hw (by decide) (by omega) hva hb hgm (by omega)
    have hfields : bits w 6 6 = 0 ∧ bit w 5 = t ∧ bits w 4 0 = n := by
      simp [bits, bit_eq_iff] at hvd hfn ⊢
      omega
    simp [Genah.decode, hop, hvd, hva, hb, hgm, hfields, hlo, hhi]
  case fetch gf go gx r n =>
    generalize hw : Genah.encode (.fetch gf go gx r n) = w
    simp [Genah.wf, xOk, Genah.encode, encX] at h hw
    have hfields : bits w 31 26 = 0x30 ∧ bits w 25 21 = gf ∧ bits w 20 16 = go ∧ bits w 15 11 = gx ∧ bits w 10 5 = r ∧ bits w 4 0 = n := by
      simp [bits]
      omega
    simp [Genah.decode, hfields]
  case put gf go gx r n =>
    generalize hw : Genah.encode (.put gf go gx r n) = w
    simp [Genah.wf, xOk, Genah.encode, encX] at h hw
    have hfields : bits w 31 26 = 0x32 ∧ bits w 25 21 = gf ∧ bits w 20 16 = go ∧ bits w 15 11 = gx ∧ bits w 10 5 = r ∧ bits w 4 0 = n := by
      simp [bits]
      omega
    simp [Genah.decode, hfields]
  case waitf k =>
    generalize hw : Genah.encode (.waitf k) = w
    simp [Genah.wf, Genah.encode] at h hw
    have hfields : bits w 31 26 = 0x31 ∧ bits w 25 4 = 0 ∧ bits w 3 0 = k := by
      simp [bits]
      omega
    simp [Genah.decode, hfields]
  case tkidx gd sel =>
    generalize hw : Genah.encode (.tkidx gd sel) = w
    simp [Genah.wf, Genah.encode] at h hw
    have hfields : bits w 31 26 = 0x38 ∧ bits w 25 21 = gd ∧ bits w 20 2 = 0 ∧ bits w 1 0 = sel := by
      simp [bits]
      omega
    simp [Genah.decode, hfields]
    omega
  case tstat gd hv m =>
    generalize hw : Genah.encode (.tstat gd hv m) = w
    simp [Genah.wf, Genah.encode] at h hw
    have hfields : bits w 31 26 = 0x39 ∧ bits w 25 21 = gd ∧ bits w 20 17 = hv ∧ bits w 16 14 = m ∧ bits w 13 0 = 0 := by
      simp [bits]
      omega
    simp [Genah.decode, hfields]
    omega
  case muz b gm =>
    generalize hw : Genah.encode (.muz b gm) = w
    simp [Genah.wf, Genah.encode] at h hw
    have hfields : bits w 31 26 = 0x3A ∧ bits w 25 22 = b ∧ bits w 21 17 = gm ∧ bits w 16 0 = 0 := by
      simp [bits]
      omega
    simp [Genah.decode, hfields]
  case mark gs k =>
    generalize hw : Genah.encode (.mark gs k) = w
    simp [Genah.wf, Genah.encode] at h hw
    have hfields : bits w 31 26 = 0x3B ∧ bits w 25 21 = gs ∧ bits w 20 16 = 0 ∧ bits w 15 0 = k := by
      simp [bits]
      omega
    simp [Genah.decode, hfields]

/-- Settles O4: the encoding of a well-formed instruction has the fields that the decoder reads, and the fields of a legal word rebuild it. -/
theorem genahDecodeAndEncodeAgree : Obligations.GenahDecodeAndEncodeAgree := by
  unfold Obligations.GenahDecodeAndEncodeAgree
  exact ⟨fun _ => Genah.decode_complete, fun _ _ => Genah.decode_sound⟩

/-- Settles O3: each word is decoded from its bits. -/
theorem genahWordsDecodeAsTheFormatsSay : Obligations.GenahWordsDecodeAsTheFormatsSay := by
  unfold Obligations.GenahWordsDecodeAsTheFormatsSay
  decide

end Sys2Proof.Machine
end

section
/-!
PROOFS. The scalar instructions of Genah, CMP and BR, and the DMEM words of LW and SW (R82, R108 to R112, R143).
-/

namespace Sys2Proof.Machine

/-! ## Numbers and words -/

theorem State.fetchWord_lt (s : State) (e : Nat) : s.fetchWord e < 2 ^ 32 := (s.word _).isLt

/-- An engine issues well-formed instructions only. -/
theorem State.issues_wf {s : State} {e : Nat} {i : Genah} (h : s.issues e i = true) : i.wf = true :=
  (Genah.decode_sound (s.fetchWord_lt e) (State.issues_decode h)).1

theorem toInt_ofNat_eq_signedN {w : Nat} (hw : 0 < w) (n : Nat) : (BitVec.ofNat w n).toInt = signedN w n := by
  obtain ⟨k, rfl⟩ : ∃ k, w = k + 1 := ⟨w - 1, by omega⟩
  have hpow : (2 : Int) ^ (k + 1) = 2 * ((2 ^ k : Nat) : Int) := by rw [pow_succ]; push_cast; ring
  rw [BitVec.toInt_eq_toNat_cond, BitVec.toNat_ofNat, signedN, Nat.add_sub_cancel, hpow, Nat.pow_succ]
  generalize n % (2 ^ k * 2) = m
  simp only [Int.ofNat_eq_natCast]
  split <;> split <;> omega

theorem toInt_ofNat_eq_signed32 (n : Nat) : (BitVec.ofNat 32 n).toInt = signed32 n := toInt_ofNat_eq_signedN (by decide) n

theorem ofNat_wrap32 (i : Int) : BitVec.ofNat 32 (wrap32 i) = BitVec.ofInt 32 i := by
  apply BitVec.eq_of_toNat_eq
  rw [BitVec.toNat_ofNat, BitVec.toNat_ofInt, wrap32]
  norm_cast
  omega

theorem signExtend_ofNat {w : Nat} (hw : 0 < w) (n : Nat) : (BitVec.ofNat w n).signExtend 32 = BitVec.ofNat 32 (wrap32 (signedN w n)) := by
  rw [ofNat_wrap32, ← toInt_ofNat_eq_signedN hw, BitVec.signExtend]

theorem Engine.gr_lt (x : Engine) (r : Nat) : x.gr r < 2 ^ 32 := by
  unfold Engine.gr
  split
  · decide
  · exact BitVec.isLt _

/-! ## Second operands (R108) -/

theorem Engine.operandSigned_eq (x : Engine) (b : SOperand) : x.operandSigned b = BitVec.ofNat 32 (x.sSigned b) := by
  cases b with
  | reg gt => rfl
  | imm i => exact signExtend_ofNat (by decide) i

theorem Engine.sSigned_lt (x : Engine) (b : SOperand) : x.sSigned b < 2 ^ 32 := by
  cases b with
  | reg gt => exact x.gr_lt gt
  | imm i =>
    show (signedN 15 i % 2 ^ 32).toNat < 2 ^ 32
    omega

theorem Engine.operandZero_eq (x : Engine) {b : SOperand} (hb : b.wf false = true) : x.operandZero b = BitVec.ofNat 32 (x.sZero b) := by
  cases b with
  | reg gt => rfl
  | imm i =>
    simp [SOperand.wf] at hb
    apply BitVec.eq_of_toNat_eq
    simp [Engine.operandZero, Engine.sZero]
    omega

theorem Engine.operandShift_eq (x : Engine) (b : SOperand) : x.operandShift b = x.sCount b := by
  cases b with
  | reg gt =>
    simp [Engine.operandShift, Engine.sCount, Engine.reg]
  | imm i => simp [Engine.operandShift, Engine.sCount]

/-! ## Results (R108, R109) -/

theorem ofNat_high (i n : Nat) : BitVec.ofNat 32 (i * 2 ^ 16 + n % 2 ^ 16) = BitVec.ofNat 16 i ++ (BitVec.ofNat 32 n).setWidth 16 := by
  apply BitVec.eq_of_toNat_eq
  rw [BitVec.toNat_append, ← Nat.shiftLeft_add_eq_or_of_lt (BitVec.isLt _), Nat.shiftLeft_eq]
  simp
  omega

theorem ofNat_sub {a b : Nat} (hb : b < 2 ^ 32) : BitVec.ofNat 32 (a + (2 ^ 32 - b)) = BitVec.ofNat 32 a - BitVec.ofNat 32 b := by
  apply BitVec.eq_of_toNat_eq
  simp only [BitVec.toNat_sub, BitVec.toNat_ofNat]
  omega

theorem ofNat_shiftLeft (a c : Nat) : BitVec.ofNat 32 (a * 2 ^ c) = BitVec.ofNat 32 a <<< c := by
  apply BitVec.eq_of_toNat_eq
  simp [Nat.shiftLeft_eq]

theorem ofNat_shiftRight {a : Nat} (ha : a < 2 ^ 32) (c : Nat) : BitVec.ofNat 32 (a / 2 ^ c) = BitVec.ofNat 32 a >>> c := by
  have hdiv : a / 2 ^ c < 2 ^ 32 := Nat.lt_of_le_of_lt (Nat.div_le_self ..) ha
  apply BitVec.eq_of_toNat_eq
  rw [BitVec.toNat_ushiftRight, BitVec.toNat_ofNat, BitVec.toNat_ofNat, Nat.mod_eq_of_lt hdiv, Nat.mod_eq_of_lt ha, Nat.shiftRight_eq_div_pow]

theorem ofNat_asr (a c : Nat) : BitVec.ofNat 32 (wrap32 (asr (signed32 a) c)) = (BitVec.ofNat 32 a).sshiftRight c := by
  rw [ofNat_wrap32, asr, ← toInt_ofNat_eq_signed32, BitVec.sshiftRight, Int.shiftRight_eq_div_pow]
  norm_cast

theorem ofNat_mul (a b : Nat) : BitVec.ofNat 32 (wrap32 (signed32 a * signed32 b)) = BitVec.ofNat 32 a * BitVec.ofNat 32 b := by
  rw [ofNat_wrap32, ← toInt_ofNat_eq_signed32, ← toInt_ofNat_eq_signed32, BitVec.ofInt_mul, BitVec.ofInt_toInt, BitVec.ofInt_toInt]

/-- The second operand of an issued format S instruction is well formed. -/
theorem State.issues_operand_wf {s : State} {e gd gs : Nat} {b : SOperand} {i : Genah} (hi : s.issues e i = true)
    (hwf : i.wf = (gReg gd && gReg gs && b.wf false)) : b.wf false = true :=
  (Bool.and_eq_true_iff.mp (hwf ▸ State.issues_wf hi)).2

/-- An issued instruction that writes a number to gd leaves that number's word there. -/
theorem scalarResult_of_exec {c : Instr} {s : State} {e gd cycles : Nat} {i : Genah} {n : Engine → Nat} {v : Word}
    (hexec : exec c s = .next (s.scalar e i (fun x => x.result gd (n x) cycles))) (hi : s.issues e i = true)
    (hv : BitVec.ofNat 32 (n (s.engine e)) = v) : ∃ t, exec c s = .next t ∧ ScalarResult e gd v cycles s t :=
  ⟨_, hexec.trans (congrArg _ (State.scalar_issued _ hi)), hv ▸ ScalarResult.setEngine ..⟩

/-- Settles O8: each result as a word, and the engine that takes it. -/
theorem scalarResultsAreExact : Obligations.ScalarResultsAreExact := by
  unfold Obligations.ScalarResultsAreExact
  intro e gd gs imm16 b s x
  refine ⟨fun hi => ?liLow, fun hi => ?liHigh, fun hi => ?add, fun hi => ?sub, fun hi => ?and, fun hi => ?or, fun hi => ?xor,
    fun hi => ?shl, fun hi => ?shr, fun hi => ?sar, fun hi => ?mul⟩
  case liLow => exact scalarResult_of_exec rfl hi (signExtend_ofNat (by decide) imm16).symm
  case liHigh => exact scalarResult_of_exec rfl hi (ofNat_high ..)
  case add => exact scalarResult_of_exec rfl hi (by rw [Engine.operandSigned_eq, BitVec.ofNat_add, Engine.reg])
  case sub => exact scalarResult_of_exec rfl hi (by rw [Engine.operandSigned_eq, ofNat_sub (Engine.sSigned_lt ..), Engine.reg])
  case and => exact scalarResult_of_exec rfl hi (by rw [Engine.operandZero_eq _ (State.issues_operand_wf hi rfl), BitVec.ofNat_and, Engine.reg])
  case or => exact scalarResult_of_exec rfl hi (by rw [Engine.operandZero_eq _ (State.issues_operand_wf hi rfl), BitVec.ofNat_or, Engine.reg])
  case xor => exact scalarResult_of_exec rfl hi (by rw [Engine.operandZero_eq _ (State.issues_operand_wf hi rfl), BitVec.ofNat_xor, Engine.reg])
  case shl => exact scalarResult_of_exec rfl hi (by rw [Engine.operandShift_eq, ofNat_shiftLeft, Engine.reg])
  case shr => exact scalarResult_of_exec rfl hi (by rw [Engine.operandShift_eq, ofNat_shiftRight (Engine.gr_lt ..), Engine.reg])
  case sar => exact scalarResult_of_exec rfl hi (by rw [Engine.operandShift_eq, ofNat_asr, Engine.reg])
  case mul => exact scalarResult_of_exec rfl hi (by rw [Engine.operandSigned_eq, ofNat_mul, Engine.reg])

end Sys2Proof.Machine
end

section
/-!
PROOFS. CMP and BR, and the DMEM words of LW and SW (R82, R83, R110 to R112, R143).
-/

namespace Sys2Proof.Machine

/-! ## Comparison and branches (R110, R111) -/

theorem Engine.reg_toNat (x : Engine) (r : Nat) : (x.reg r).toNat = x.gr r := Nat.mod_eq_of_lt (x.gr_lt r)

theorem Engine.operandSigned_toNat (x : Engine) (b : SOperand) : (x.operandSigned b).toNat = x.sSigned b := by
  rw [Engine.operandSigned_eq, BitVec.toNat_ofNat, Nat.mod_eq_of_lt (x.sSigned_lt b)]

/-- The flags of a comparison of two words are those of their difference (R110). -/
theorem Engine.compare_words (x : Engine) (a c : Word) : x.compare a.toNat c.toNat =
    { x with z := a - c == 0, n := (a - c).msb, c := c.ule a, o := (a.toInt - c.toInt) != (a - c).toInt } := by
  have hdiff : wrap32 (Int.ofNat a.toNat - Int.ofNat c.toNat) = (a - c).toNat := by
    have ha := a.isLt
    have hc := c.isLt
    rw [BitVec.toNat_sub, wrap32, Int.ofNat_eq_natCast, Int.ofNat_eq_natCast]
    omega
  have hsigned : ∀ y : Word, signed32 y.toNat = y.toInt := fun y => by
    rw [← toInt_ofNat_eq_signed32, BitVec.ofNat_toNat, BitVec.setWidth_eq]
  have hzero : ((a - c).toNat == 0) = (a - c == 0) := Bool.eq_iff_iff.mpr (by simp [BitVec.toNat_eq])
  have hmsb : bit (a - c).toNat 31 = (a - c).msb := by
    rw [bit_eq_testBit, BitVec.msb_eq_getLsbD_last]
    rfl
  unfold Engine.compare
  simp only [hdiff, hsigned, hzero, hmsb]
  rfl

theorem exec_cmp {s : State} {e gs : Nat} {b : SOperand} (h : s.issues e (.cmp gs b) = true) :
    exec (.cmp e gs b) s = .next (s.setEngine e (((s.engine e).compare ((s.engine e).gr gs) ((s.engine e).sSigned b)).next 1)) :=
  congrArg _ (State.scalar_issued _ h)

theorem exec_br {s : State} {e cond offset : Nat} (h : s.issues e (.br cond offset) = true) : exec (.br e cond offset) s =
    .next (s.setEngine e (if (s.engine e).condition cond then (s.engine e).jump 2 ((s.engine e).pc + offset) else (s.engine e).next 1)) :=
  congrArg _ (State.scalar_issued _ h)

/-- The condition of a BR, as R111 lists them. -/
theorem Engine.condition_iff (x : Engine) (cond : Nat) : x.condition cond = true ↔
    (cond = 0) ∨ (cond = 1 ∧ x.z = true) ∨ (cond = 2 ∧ x.z = false) ∨ (cond = 3 ∧ x.n ≠ x.o) ∨ (cond = 4 ∧ x.n = x.o)
      ∨ (cond = 5 ∧ x.z = false ∧ x.n = x.o) ∨ (cond = 6 ∧ (x.z = true ∨ x.n ≠ x.o)) ∨ (cond = 7 ∧ x.c = false)
      ∨ (cond = 8 ∧ x.c = true) := by
  unfold Engine.condition
  split <;> simp_all

/-- Settles O9: CMP by the flags of the difference, BR by its condition. -/
theorem compareSetsFlagsAndBranchReadsThem : Obligations.CompareSetsFlagsAndBranchReadsThem := by
  unfold Obligations.CompareSetsFlagsAndBranchReadsThem
  intro e gs cond offset b s x a c
  refine ⟨fun hi => ⟨_, exec_cmp hi, ?_⟩, fun hi => ⟨_, exec_br hi, fun htaken => ?_, fun hnot => ?_⟩⟩
  · rw [← Engine.reg_toNat, ← Engine.operandSigned_toNat, Engine.compare_words]
    exact EngineOnly.setEngine ..
  · rw [if_pos ((Engine.condition_iff ..).mpr htaken)]
    exact EngineOnly.setEngine ..
  · rw [if_neg fun hcond => hnot ((Engine.condition_iff ..).mp hcond)]
    exact EngineOnly.setEngine ..

/-! ## A full store buffer (R82, R83) -/

theorem GE.rsbstall_ne_hist (e : Nat) : GE.RSBSTALL e ≠ GE.HIST e := by
  unfold GE.RSBSTALL GE.HIST
  omega

/-- On a full store buffer an effect of a run-ahead stalls it. -/
theorem State.effect_stalls {s : State} {e : Nat} (r : RsbEntry) (go : Engine → Engine) (direct : State → State)
    (h : (s.engine e).ahead = true) (hfull : s.rsbSize e ≤ (s.engine e).rsb.length) : s.effect e r go direct = s.stallRsb e true :=
  (if_pos h).trans (if_neg (Nat.not_lt.mpr hfull))

/-- An engine that stands on a full store buffer. -/
def Engine.onFullRsb (x : Engine) : Engine := { x with st := .rsbStall, stalled := true }

/-- A run-ahead's first stall is counted and marked. -/
theorem State.stallRsb_first {s : State} {e : Nat} (h : (s.engine e).stalled = false) :
    s.stallRsb e true = ((s.setEngine e (s.engine e).onFullRsb).inc (GE.RSBSTALL.val e)).sqf (GE.HIST.RSB_STALL e) := by
  simp [State.stallRsb, Engine.onFullRsb, h]

theorem State.stallRsb_again {s : State} {e : Nat} (h : (s.engine e).stalled = true) :
    s.stallRsb e true = s.setEngine e (s.engine e).onFullRsb := by
  simp [State.stallRsb, Engine.onFullRsb, h]

theorem State.stallRsb_engine (s : State) (e j : Nat) :
    (s.stallRsb e true).engine j = (s.setEngine e (s.engine e).onFullRsb).engine j := by
  cases h : (s.engine e).stalled
  · rw [State.stallRsb_first h]
    exact State.engine_congr ((State.sqf_ge ..).trans (State.inc_ge ..)) j
  · rw [State.stallRsb_again h]

theorem State.stallRsb_stalls (s : State) (e : Nat) : RunAheadStalls e s (s.stallRsb e true) where
  engine := (s.stallRsb_engine e e).trans (State.engine_setEngine_same ..)
  others j hj := (s.stallRsb_engine e j).trans (State.engine_setEngine_ne _ _ hj)
  counted h := by
    rw [State.stallRsb_first h]
    refine ⟨?_, State.flag_sqf_same _ rfl (show 2 < 24 by decide), fun k hcount hhist => ?_⟩
    · rw [State.rd_congr (State.word_sqf_ne _ (GE.rsbstall_ne_hist e)), State.rd_inc_same _ (show 0 + 32 ≤ 32 by decide)]
      rfl
    · rw [State.word_sqf_ne _ hhist, State.word_inc_ne _ hcount, State.word_setEngine]
  again h := by rw [State.stallRsb_again h]; rfl
  frame := s.stallRsb_frame e true

/-! ## Words of DMEM (R82, R112, R143) -/

theorem State.loadDmem_held {s : State} {e a : Nat} {w : Word} (h : rsbDmem a (s.engine e).rsb = some w) : s.loadDmem e a = w.toNat := by
  rw [State.loadDmem, h]

theorem State.loadDmem_memory {s : State} {e a : Nat} (h : rsbDmem a (s.engine e).rsb = none) :
    s.loadDmem e a = Memory.word s.dmem (dmemKey e a) := by
  rw [State.loadDmem, h]

theorem exec_lw {s : State} {e gd gb : Nat} {k : Int} (h : s.issues e (.lw gd gb k) = true) :
    ∃ t, exec (.lw e gd gb k) s = .next t ∧
      ScalarResult e gd (BitVec.ofNat 32 (s.loadDmem e (s.dmemAddr e ((s.engine e).gr gb) k))) 2 s t :=
  scalarResult_of_exec rfl h rfl

/-- The entry that SW stores: one word of DMEM. -/
def State.swCell (s : State) (e gs gb : Nat) (k : Int) : Nat × Word := (s.dmemAddr e ((s.engine e).gr gb) k, (s.engine e).reg gs)

theorem exec_sw {s : State} {e gs gb : Nat} {k : Int} (h : s.issues e (.sw gs gb k) = true) : exec (.sw e gs gb k) s =
    .next (s.effect e (.dmem [s.swCell e gs gb k]) (fun x => x.next 1) (fun s' => s'.storeDmem e [s.swCell e gs gb k])) :=
  congrArg Host.Outcome.next (if_pos h)

/-- Settles O10: LW by the word that the engine sees, SW by where its one word goes. -/
theorem dmemWordLoadsAndStores : Obligations.DmemWordLoadsAndStores := by
  unfold Obligations.DmemWordLoadsAndStores
  intro e r gb k s x a
  have ha : s.dmemAddr e (x.gr gb) k = a := rfl
  refine ⟨fun hi => ?load, fun hi hahead => ?store, fun hi hahead hroom => ?held, fun hi hahead hfull => ?full⟩
  case load =>
    obtain ⟨t, hexec, hresult⟩ := exec_lw hi
    refine ⟨t, hexec, fun w hw => ?_, fun hnone => ?_⟩
    · rwa [ha, State.loadDmem_held hw, BitVec.ofNat_toNat, BitVec.setWidth_eq] at hresult
    · rwa [ha, State.loadDmem_memory hnone] at hresult
  case store =>
    have hexec := exec_sw hi
    rw [State.effect_direct _ _ _ hahead] at hexec
    refine ⟨_, hexec, State.engine_setEngine_same .., fun j hj => State.engine_setEngine_ne _ _ hj, ?_, fun c hc => ?_, ?_⟩
    · exact (Memory.word_setWord_same ..).trans (Nat.mod_eq_of_lt (BitVec.isLt _))
    · exact Memory.byte_setWord_ne _ _ (not_and_or.mp hc |>.imp Nat.lt_of_not_le Nat.le_of_not_lt)
    · exact ((s.storeDmem_frame ..).weaken rfl).seq (State.setEngine_frame ..) rfl
  case held => exact ⟨_, (exec_sw hi).trans (congrArg _ (State.effect_held _ _ _ hahead hroom)), EngineOnly.setEngine ..⟩
  case full => exact ⟨_, (exec_sw hi).trans (congrArg _ (State.effect_stalls _ _ _ hahead hfull)), s.stallRsb_stalls e⟩

end Sys2Proof.Machine
end

section
/-!
PROOFS. One run over the lanes of a vector register: what is written, what stays, and the lanes that saturate (R103, R123, R133).
-/

namespace Sys2Proof.Machine

/-! ## One lane -/

theorem State.lanesOf_le (s : State) (e : Nat) : s.lanesOf e ≤ 16 := by
  unfold State.lanesOf
  split <;> decide

/-- A store of sixteen lanes a register: lane `i` of register `r` after lane `j` of register `q` is written. -/
theorem Store.get_set_lane {β : Type} [DecidableEq β] (d : Nat → β) (m : Store β) {r i q j : Nat} (l : β)
    (hi : i < 16) (hj : j < 16) :
    Store.get d (Store.set d m (16 * q + j) l) (16 * r + i) = if r = q ∧ i = j then l else Store.get d m (16 * r + i) := by
  by_cases h : r = q ∧ i = j
  · obtain ⟨rfl, rfl⟩ := h
    rw [if_pos ⟨rfl, rfl⟩, Store.get_set_same]
  · rw [if_neg h]
    exact Store.get_set_ne _ _ _ (by omega)

theorem Engine.lane_setLane (x : Engine) {r i q j : Nat} (l : Lane) (hi : i < 16) (hj : j < 16) :
    (x.setLane q j l).lane r i = if r = q ∧ i = j then l else x.lane r i := Store.get_set_lane _ _ l hi hj

theorem Engine.acc_setAcc (x : Engine) {r i q j : Nat} (l : AccLane) (hi : i < 16) (hj : j < 16) :
    (x.setAcc q j l).acc r i = if r = q ∧ i = j then l else x.acc r i := Store.get_set_lane _ _ l hi hj

/-- SATCOUNT after one more saturated lane (R133). -/
def countedSat (n : Nat) : Nat := min (n + 1) (2 ^ 32 - 1)

/-- The engine with a lane written, counted when it saturated. -/
def Engine.putLane (x : Engine) (vd i : Nat) (l : Lane) (clamped : Bool) : Engine :=
  { x.setLane vd i l with sat := if clamped then countedSat x.sat else x.sat }

theorem clampInt_eq {lo hi : Int} (h : lo ≤ hi) (y : Int) : clampInt lo hi y = max lo (min hi y) := by
  unfold clampInt
  split
  · omega
  · split <;> omega

theorem sat32_eq (y : Int) : sat32 y = max (-(2 ^ 31)) (min (2 ^ 31 - 1) y) := clampInt_eq (by decide) y

theorem sat64_eq (y : Int) : sat64 y = max (-(2 ^ 63)) (min (2 ^ 63 - 1) y) := clampInt_eq (by decide) y

/-- A lane that is counted where its value was clamped. -/
theorem Engine.setLane_countSat (x : Engine) (vd i : Nat) (l : Lane) (exact held : Int) :
    (x.setLane vd i l).countSat exact held = x.putLane vd i l (held != exact) := by
  unfold Engine.countSat Engine.putLane
  by_cases h : exact = held
  · rw [if_pos h, if_neg (by simpa using h.symm)]
    rfl
  · rw [if_neg h, if_pos (by simpa using Ne.symm h)]
    rfl

theorem Engine.putSat_eq (x : Engine) (vd i : Nat) (y : Int) (tag : Bool) :
    x.putSat vd i y tag = x.putLane vd i ⟨BitVec.ofInt 32 (sat32 y), tag⟩ (sat32 y != y) := Engine.setLane_countSat ..

/-! ## A run over the lanes -/

/-- From the lanes `old` to the lanes `new`, by register and lane, those of register `q` below `n` that are `on` have been written. -/
structure LanesWritten {β : Type} (old : Nat → Nat → β) (q : Nat) (on : Nat → Bool) (res : Nat → β) (n : Nat)
    (new : Nat → Nat → β) : Prop where
  written : ∀ i, i < n → new q i = if on i then res i else old q i
  kept : ∀ r i, i < 16 → r ≠ q ∨ n ≤ i → new r i = old r i

namespace LanesWritten

variable {β : Type} {old new : Nat → Nat → β} {q n : Nat} {on : Nat → Bool} {res : Nat → β}

theorem start (old : Nat → Nat → β) (q : Nat) (on : Nat → Bool) (res : Nat → β) : LanesWritten old q on res 0 old :=
  ⟨fun _ h => absurd h (Nat.not_lt_zero _), fun _ _ _ _ => rfl⟩

theorem write (h : LanesWritten old q on res n new) (hn : n < 16) (hon : on n = true) {new' : Nat → Nat → β}
    (hnew : ∀ r i, i < 16 → new' r i = if r = q ∧ i = n then res n else new r i) : LanesWritten old q on res (n + 1) new' := by
  refine ⟨fun i hi => ?_, fun r i hi hout => ?_⟩
  · rw [hnew _ _ (by omega)]
    by_cases hin : i = n
    · subst hin
      rw [if_pos ⟨rfl, rfl⟩, if_pos hon]
    · rw [if_neg fun hand => hin hand.2, h.written i (by omega)]
  · rw [hnew _ _ hi, if_neg (by omega), h.kept r i hi (by omega)]

theorem skip (h : LanesWritten old q on res n new) (hn : n < 16) (hoff : on n = false) : LanesWritten old q on res (n + 1) new := by
  refine ⟨fun i hi => ?_, fun r i hi hout => h.kept r i hi (by omega)⟩
  by_cases hin : i = n
  · subst hin
    rw [hoff, if_neg Bool.false_ne_true]
    exact h.kept q i hn (.inr (Nat.le_refl _))
  · exact h.written i (by omega)

/-- The lane that is next reads as before the run. -/
theorem source (h : LanesWritten old q on res n new) (hn : n < 16) (r : Nat) : new r n = old r n := h.kept r n hn (.inr (Nat.le_refl _))

end LanesWritten

/-- What a vector instruction does with each lane: which lanes it writes, what it writes there, which of them saturate, and how
the LFSR steps. -/
structure LaneOp where
  on : Nat → Bool
  res : Nat → Lane
  clamped : Nat → Bool
  step : Nat → Nat

/-- Lane `i` of vd taken through a lane operation. -/
def LaneOp.lane (o : LaneOp) (vd : Nat) (y : Engine) (i : Nat) : Engine :=
  if o.on i then { y with lfsr := o.step y.lfsr }.putLane vd i (o.res i) (o.clamped i) else { y with lfsr := o.step y.lfsr }

/-- The lanes below `n` that are written and saturate. -/
def LaneOp.sats (o : LaneOp) (n : Nat) : Nat := ((List.range n).filter (fun i => o.on i && o.clamped i)).length

theorem LaneOp.sats_succ (o : LaneOp) (n : Nat) : o.sats (n + 1) = o.sats n + if o.on n && o.clamped n then 1 else 0 := by
  rw [LaneOp.sats, List.range_succ, List.filter_append, List.length_append, List.filter_singleton]
  cases o.on n && o.clamped n <;> rfl

/-- From engine `x` the lanes of vd below `n` have been taken through the operation, and `y` is the engine reached. -/
structure LaneRun (x : Engine) (vd : Nat) (o : LaneOp) (n : Nat) (y : Engine) : Prop where
  lanes : LanesWritten x.lane vd o.on o.res n y.lane
  sat : y.sat = countedSat^[o.sats n] x.sat
  lfsr : y.lfsr = o.step^[n] x.lfsr
  rest : { y with v := x.v, sat := x.sat, lfsr := x.lfsr } = x

namespace LaneRun

variable {x y : Engine} {vd n : Nat} {o : LaneOp}

/-- Lane `n` is taken through the operation. -/
theorem lane (h : LaneRun x vd o n y) (hn : n < 16) : LaneRun x vd o (n + 1) (o.lane vd y n) := by
  have hlfsr : o.step y.lfsr = o.step^[n + 1] x.lfsr := by rw [h.lfsr, Function.iterate_succ_apply']
  unfold LaneOp.lane
  cases hon : o.on n
  · rw [if_neg Bool.false_ne_true]
    refine ⟨h.lanes.skip hn hon, ?_, hlfsr, h.rest⟩
    rw [LaneOp.sats_succ, hon]
    exact h.sat
  · rw [if_pos rfl]
    refine ⟨h.lanes.write hn hon fun r i hi => Engine.lane_setLane _ _ hi hn, ?_, hlfsr, h.rest⟩
    rw [LaneOp.sats_succ, hon, Bool.true_and]
    show (if o.clamped n then countedSat y.sat else y.sat) = _
    split
    · rw [h.sat, Function.iterate_succ_apply']
    · exact h.sat

/-- A lane loop each of whose steps is the operation. -/
theorem eachLane {f : Engine → Nat → Engine} (hn : n ≤ 16) (hf : ∀ i y, i < n → LaneRun x vd o i y → f y i = o.lane vd y i) :
    LaneRun x vd o n (x.eachLane f n) := by
  induction n with
  | zero => exact ⟨.start .., rfl, rfl, rfl⟩
  | succ n ih =>
    have hrun := ih (by omega) fun i y hi => hf i y (by omega)
    have hstep := hrun.lane (by omega)
    rwa [← hf n _ (by omega) hrun] at hstep

/-- A register reads as before the run. -/
theorem gr (h : LaneRun x vd o n y) (r : Nat) : y.gr r = x.gr r := by
  have hg : y.g = x.g := (congrArg Engine.g h.rest :)
  unfold Engine.gr
  rw [hg]

theorem acc (h : LaneRun x vd o n y) (r i : Nat) : y.acc r i = x.acc r i := by
  have ha : y.a = x.a := (congrArg Engine.a h.rest :)
  unfold Engine.acc
  rw [ha]

/-- Operand b of the lane that is next reads as before the run. -/
theorem vOperand (h : LaneRun x vd o n y) (hn : n < 16) (b : VOperand) : y.vOperand b n = x.vOperand b n := by
  cases b with
  | vec vb => exact h.lanes.source hn vb
  | scalar gt => exact congrArg (fun k => (⟨BitVec.ofNat 32 k, true⟩ : Lane)) (h.gr gt)

end LaneRun

/-- The engine after a run, gone on to the next word, as the result of a vector instruction. -/
theorem VectorResult.of_run {s : State} {e vd : Nat} {o : LaneOp} {y : Engine}
    (h : LaneRun (s.engine e) vd o (s.lanesOf e) y) (cycles : Nat) :
    VectorResult e vd cycles (o.sats (s.lanesOf e)) s (s.setEngine e (y.next cycles)) := by
  refine ⟨?_, ?_, ?_, ?_, ?_, fun _ => s.engine_setEngine_ne _, s.setEngine_frame e _⟩ <;> rw [State.engine_setEngine_same]
  · exact h.lanes.kept
  · exact h.sat
  · exact congrArg (· + 1) (congrArg Engine.pc h.rest :)
  · exact congrArg (· + cycles) (congrArg Engine.cycles h.rest :)
  · exact congrArg (fun z : Engine => { z with pc := (s.engine e).pc, cycles := (s.engine e).cycles }) h.rest

end Sys2Proof.Machine
end

section
/-!
PROOFS. The vector arithmetic of Genah as runs over the lanes of a vector register or of an accumulator (R123 to R131, R133).
-/

namespace Sys2Proof.Machine

/-! ## Instructions over the lanes of a vector register -/

/-- From `s` to `t` engine `e` has written `lane i` into each lane `i` of vd, as the result of a vector instruction that leaves its LFSR. -/
def LaneResult (e vd cycles sats : Nat) (lane : Nat → Lane) (s t : State) : Prop :=
  VectorResult e vd cycles sats s t ∧ (t.engine e).lfsr = (s.engine e).lfsr ∧ ∀ i, i < s.lanesOf e → (t.engine e).lane vd i = lane i

/-- An issued instruction that takes each lane of vd through a lane operation. -/
theorem vectorResult_of_exec {c : Instr} {s : State} {e vd cycles : Nat} {g : Genah} {f : Engine → Engine → Nat → Engine} (o : LaneOp)
    (hexec : exec c s = .next (s.scalar e g (fun x => (x.eachLane (f x) (s.lanesOf e)).next cycles))) (hi : s.issues e g = true)
    (hf : ∀ i y, i < 16 → LaneRun (s.engine e) vd o i y → f (s.engine e) y i = o.lane vd y i) :
    ∃ t, exec c s = .next t ∧ VectorResult e vd cycles (o.sats (s.lanesOf e)) s t ∧
      (t.engine e).lfsr = o.step^[s.lanesOf e] (s.engine e).lfsr ∧
      ∀ i, i < s.lanesOf e → (t.engine e).lane vd i = if o.on i then o.res i else (s.engine e).lane vd i := by
  have hle := s.lanesOf_le e
  have hrun := LaneRun.eachLane (x := s.engine e) (vd := vd) (o := o) (f := f (s.engine e)) hle fun i y hlt => hf i y (by omega)
  refine ⟨_, hexec.trans (congrArg _ (State.scalar_issued _ hi)), VectorResult.of_run hrun cycles, ?_, ?_⟩ <;>
    rw [State.engine_setEngine_same]
  · exact hrun.lfsr
  · exact hrun.lanes.written

/-- The lane operation that saturates exact values into the enabled lanes, and counts them (R124, R133). -/
def LaneOp.saturating (x : Engine) (gm : Nat) (y : Nat → Int) (tag : Nat → Bool) : LaneOp :=
  { on := x.enabled gm, res := fun i => ⟨BitVec.ofInt 32 (sat32 (y i)), tag i⟩, clamped := fun i => sat32 (y i) != y i, step := id }

/-- An issued instruction whose enabled lanes take an exact value, saturated and counted, with a tag. -/
theorem laneResult_of_sat {c : Instr} {s : State} {e vd gm cycles : Nat} {g : Genah} {f : Engine → Nat → Engine}
    (y : Nat → Int) (tag : Nat → Bool) (hexec : exec c s = .next (s.vector e g gm cycles f)) (hi : s.issues e g = true)
    (hf : ∀ o i z, i < 16 → LaneRun (s.engine e) vd o i z → f z i = z.putSat vd i (y i) (tag i)) :
    ∃ t, exec c s = .next t ∧ LaneResult e vd cycles (s.lanesWith e gm (fun i => max (-(2 ^ 31)) (min (2 ^ 31 - 1) (y i)) != y i))
      (fun i => if (s.engine e).enabled gm i then ⟨BitVec.ofInt 32 (max (-(2 ^ 31)) (min (2 ^ 31 - 1) (y i))), tag i⟩
        else (s.engine e).lane vd i) s t := by
  have hresult := vectorResult_of_exec (vd := vd) (f := fun x y j => if x.enabled gm j then f y j else y)
    (LaneOp.saturating (s.engine e) gm y tag) hexec hi fun i z hlt hrun => by
      rw [hf _ i z hlt hrun, Engine.putSat_eq]
      rfl
  simp only [← sat32_eq]
  rwa [show (LaneOp.saturating _ _ _ _).step = id from rfl, Function.iterate_id] at hresult

/-- The lane operation that writes values into lanes, and counts nothing. -/
def LaneOp.plain (on : Nat → Bool) (res : Nat → Lane) : LaneOp := { on := on, res := res, clamped := fun _ => false, step := id }

theorem LaneOp.sats_plain (on : Nat → Bool) (res : Nat → Lane) (n : Nat) : (LaneOp.plain on res).sats n = 0 := by
  simp [LaneOp.sats, LaneOp.plain]

/-- An issued instruction that writes values into lanes, and counts nothing. -/
theorem laneResult_of_plain {c : Instr} {s : State} {e vd cycles : Nat} {g : Genah} {f : Engine → Engine → Nat → Engine}
    (on : Nat → Bool) (res : Nat → Lane)
    (hexec : exec c s = .next (s.scalar e g (fun x => (x.eachLane (f x) (s.lanesOf e)).next cycles))) (hi : s.issues e g = true)
    (hf : ∀ o i y, i < 16 → LaneRun (s.engine e) vd o i y → f (s.engine e) y i = if on i then y.setLane vd i (res i) else y) :
    ∃ t, exec c s = .next t ∧ LaneResult e vd cycles 0 (fun i => if on i then res i else (s.engine e).lane vd i) s t := by
  have hresult := vectorResult_of_exec (vd := vd) (LaneOp.plain on res) hexec hi fun i y hlt hrun => hf _ i y hlt hrun
  rwa [show (LaneOp.plain on res).step = id from rfl, Function.iterate_id, LaneOp.sats_plain] at hresult

/-! ## Accumulators (R126) -/

/-- From engine `x` the lanes of accumulator `ad` below `n` that are `on` have been written, and `y` is the engine reached. -/
structure AccRun (x : Engine) (ad : Nat) (on : Nat → Bool) (res : Nat → AccLane) (n : Nat) (y : Engine) : Prop where
  accs : LanesWritten x.acc ad on res n y.acc
  rest : { y with a := x.a, sat := x.sat } = x

namespace AccRun

variable {x y : Engine} {ad n : Nat} {on : Nat → Bool} {res : Nat → AccLane}

/-- Lane `n` is written where it is on, whatever becomes of SATCOUNT. -/
theorem lane (h : AccRun x ad on res n y) (hn : n < 16) {z : Engine}
    (hz : if on n then ∃ k, z = { y.setAcc ad n (res n) with sat := k } else z = y) : AccRun x ad on res (n + 1) z := by
  cases hon : on n <;> rw [hon] at hz
  · rw [if_neg Bool.false_ne_true] at hz
    exact hz ▸ ⟨h.accs.skip hn hon, h.rest⟩
  · rw [if_pos rfl] at hz
    obtain ⟨k, rfl⟩ := hz
    exact ⟨h.accs.write hn hon fun r i hi => Engine.acc_setAcc y _ hi hn, h.rest⟩

/-- A lane loop each of whose steps writes a lane that is on and leaves any other. -/
theorem eachLane {f : Engine → Nat → Engine} (hn : n ≤ 16)
    (hf : ∀ i y, i < n → AccRun x ad on res i y → if on i then ∃ k, f y i = { y.setAcc ad i (res i) with sat := k } else f y i = y) :
    AccRun x ad on res n (x.eachLane f n) := by
  induction n with
  | zero => exact ⟨.start .., rfl⟩
  | succ n ih =>
    have hrun := ih (by omega) fun i y hi => hf i y (by omega)
    exact hrun.lane (by omega) (hf n _ (by omega) hrun)

theorem source (h : AccRun x ad on res n y) (r i : Nat) : y.lane r i = x.lane r i := by
  have hv : y.v = x.v := (congrArg Engine.v h.rest :)
  unfold Engine.lane
  rw [hv]

theorem vOperand (h : AccRun x ad on res n y) (b : VOperand) (i : Nat) : y.vOperand b i = x.vOperand b i := by
  have hg : y.g = x.g := (congrArg Engine.g h.rest :)
  cases b with
  | vec vb => exact h.source vb i
  | scalar gt =>
    unfold Engine.vOperand Engine.gr
    rw [hg]

end AccRun

/-! ## Values of lanes -/

theorem Engine.signed32_gr (x : Engine) (r : Nat) : signed32 (x.gr r) = (x.reg r).toInt := (toInt_ofNat_eq_signed32 _).symm

/-- Bit `i` of a selector register (R128). -/
theorem Engine.bit_gr (x : Engine) (r : Nat) {i : Nat} (hi : i < 32) : bit (x.gr r) i = (x.reg r).getLsbD i := by
  rw [bit_eq_testBit, Engine.reg, BitVec.getLsbD_ofNat, decide_eq_true hi, Bool.true_and]

/-- The magnitude of a container, saturated (R129). -/
theorem sat32_natAbs (y : Int) : sat32 (Int.ofNat y.natAbs) = min (2 ^ 31 - 1) |y| := by
  rw [sat32_eq, Int.ofNat_eq_natCast, Int.natCast_natAbs]
  exact max_eq_right (le_min (by decide) (le_trans (by decide) (abs_nonneg y)))

/-- Truncation to `w` bits clears bits [31−w:0] of the container (R131). -/
theorem truncTo_eq (w : Nat) (y : Int) : truncTo w y = (BitVec.ofInt 32 y >>> (32 - w)) <<< (32 - w) := by
  obtain ⟨q, r, hr, rfl⟩ : ∃ (q : Int) (r : Nat), r < 2 ^ 32 ∧ y = r + 2 ^ 32 * q := by
    have hmod := Int.emod_nonneg y (show (2 : Int) ^ 32 ≠ 0 by decide)
    exact ⟨y / 2 ^ 32, (y % 2 ^ 32).toNat, by omega, by omega⟩
  generalize hk : 32 - w = k
  have hpow : (2 : Int) ^ 32 = 2 ^ k * 2 ^ (32 - k) := by rw [← pow_add]; congr 1; omega
  have hdiv : ((r : Int) + 2 ^ 32 * q) / 2 ^ k * 2 ^ k = ((r / 2 ^ k * 2 ^ k : Nat) : Int) + 2 ^ 32 * q := by
    have hsum : (r : Int) + 2 ^ 32 * q = r + 2 ^ k * (2 ^ (32 - k) * q) := by rw [hpow]; ring
    rw [hsum, Int.add_mul_ediv_left _ _ (by positivity), add_mul, hpow]
    push_cast
    ring
  have hword : ∀ n : Nat, BitVec.ofInt 32 ((n : Int) + 2 ^ 32 * q) = BitVec.ofNat 32 n := fun n => by
    apply BitVec.eq_of_toNat_eq
    rw [BitVec.toNat_ofInt, BitVec.toNat_ofNat]
    push_cast
    omega
  rw [truncTo, hk, hdiv, hword, hword, ofNat_shiftLeft, ofNat_shiftRight hr]

/-- A lane of an accumulator that is counted where its value was clamped. -/
theorem Engine.setAcc_countSat (x : Engine) (ad i : Nat) (l : AccLane) (exact held : Int) :
    (x.setAcc ad i l).countSat exact held = { x.setAcc ad i l with sat := if exact = held then x.sat else countedSat x.sat } := by
  unfold Engine.countSat
  by_cases h : exact = held
  · rw [if_pos h, if_pos h]
    rfl
  · rw [if_neg h, if_neg h]
    rfl

/-! ## The instructions -/

/-- The product that VMAC adds, or subtracts, in lane `i` (R126). -/
def Engine.macTerm (x : Engine) (va : Nat) (b : VOperand) (neg : Bool) (i : Nat) : Int :=
  if neg then -((x.lane va i).int * (x.vOperand b i).int) else (x.lane va i).int * (x.vOperand b i).int

/-- Lane `i` of accumulator `ad` after VMAC (R126). -/
def Engine.macLane (x : Engine) (ad va : Nat) (b : VOperand) (z neg : Bool) (i : Nat) : AccLane :=
  if z then ⟨BitVec.ofInt 64 (x.macTerm va b neg i), (x.lane va i).tag && (x.vOperand b i).tag⟩
  else ⟨BitVec.ofInt 64 (sat64 ((x.acc ad i).val.toInt + x.macTerm va b neg i)),
    (x.acc ad i).tag && ((x.lane va i).tag && (x.vOperand b i).tag)⟩

/-- VMAC as a run over an accumulator. -/
theorem exec_vmac {s : State} {e ad va gm : Nat} {b : VOperand} {z neg : Bool} (hi : s.issues e (.vmac ad va b gm z neg) = true) :
    ∃ y, exec (.vmac e ad va b gm z neg) s = .next (s.setEngine e (y.next 1)) ∧
      AccRun (s.engine e) ad ((s.engine e).enabled gm) ((s.engine e).macLane ad va b z neg) (s.lanesOf e) y := by
  refine ⟨_, congrArg _ (State.scalar_issued _ hi), AccRun.eachLane (s.lanesOf_le e) fun i y hlt hrun => ?_⟩
  have hold : y.acc ad i = (s.engine e).acc ad i := hrun.accs.source (Nat.lt_of_lt_of_le hlt (s.lanesOf_le e)) ad
  by_cases hon : (s.engine e).enabled gm i = true
  · rw [if_pos hon]
    dsimp only
    rw [if_pos hon, hrun.source, hrun.vOperand, hold]
    cases z
    · exact ⟨_, Engine.setAcc_countSat ..⟩
    · exact ⟨y.sat, rfl⟩
  · rw [if_neg hon]
    exact if_neg hon

/-- VSEL writes every lane (R128). -/
theorem exec_vsel {s : State} {e vd va vb gm : Nat} (hi : s.issues e (.vsel vd va vb gm) = true) : let x := s.engine e
    ∃ t, exec (.vsel e vd va vb gm) s = .next t ∧
      LaneResult e vd 1 0 (fun i => if bit (x.gr gm) i then x.lane va i else x.lane vb i) s t :=
  laneResult_of_plain (f := fun x y i => y.setLane vd i (if bit (x.gr gm) i then x.lane va i else x.lane vb i))
    (fun _ => true) _ rfl hi fun _ _ _ _ _ => rfl

/-- The peak that lane `i` of vd holds after VPEAK (R129; its tag, log entry 11). -/
def Engine.peak (x : Engine) (vd va i : Nat) : Lane :=
  ⟨BitVec.ofInt 32 (max (x.lane vd i).int (sat32 (Int.ofNat (x.lane va i).int.natAbs))), (x.lane vd i).tag && (x.lane va i).tag⟩

/-- VPEAK writes the enabled lanes whose source is valid (R129). -/
theorem exec_vpeak {s : State} {e vd va gm : Nat} (hi : s.issues e (.vpeak vd va gm) = true) : let x := s.engine e
    ∃ t, exec (.vpeak e vd va gm) s = .next t ∧
      LaneResult e vd 1 0 (fun i => if x.enabled gm i && (x.lane va i).tag then x.peak vd va i else x.lane vd i) s t :=
  laneResult_of_plain (f := fun x y i => if x.enabled gm i then (if (y.lane va i).tag then y.setLane vd i (y.peak vd va i) else y) else y)
    (fun i => (s.engine e).enabled gm i && ((s.engine e).lane va i).tag) _ rfl hi fun o i y hlt hrun => by
      simp only [Engine.peak, hrun.lanes.source hlt, Bool.and_eq_true, ite_and]

/-- The ramp that VRAMP writes into lane `i` (R130). -/
def Engine.ramp (x : Engine) (gs gt i : Nat) : Lane :=
  ⟨BitVec.ofInt 32 (sat32 (signed32 (x.gr gs) + Int.ofNat i * signed32 (x.gr gt))), true⟩

/-- VRAMP writes the enabled lanes (R130). -/
theorem exec_vramp {s : State} {e vd gs gt gm : Nat} (hi : s.issues e (.vramp vd gs gt gm) = true) : let x := s.engine e
    ∃ t, exec (.vramp e vd gs gt gm) s = .next t ∧
      LaneResult e vd 2 0 (fun i => if x.enabled gm i then x.ramp gs gt i else x.lane vd i) s t :=
  laneResult_of_plain (f := fun x y i => if x.enabled gm i then y.setLane vd i (y.ramp gs gt i) else y)
    ((s.engine e).enabled gm) _ rfl hi fun o i y hlt hrun => by
      simp only [Engine.ramp, hrun.gr]

/-- VDITH with T = 1 truncates, and does not step the LFSR (R131). -/
theorem exec_vdith_truncates {s : State} {e vd va gm w : Nat} {b : VOperand} (hi : s.issues e (.vdith vd va b gm w true) = true) :
    let x := s.engine e
    ∃ t, exec (.vdith e vd va b gm w true) s = .next t ∧ LaneResult e vd 2 0 (fun i =>
      if x.enabled gm i then ⟨(x.lane va i).val >>> (32 - w) <<< (32 - w), (x.lane va i).tag⟩ else x.lane vd i) s t :=
  laneResult_of_plain (f := fun x y i => y.ditherLane vd va w true (x.enabled gm i) i) ((s.engine e).enabled gm) _ rfl hi
    fun o i y hlt hrun => by
      rw [Engine.ditherLane, hrun.lanes.source hlt, Lane.int, truncTo_eq, BitVec.ofInt_toInt]
      rfl

/-- The exact value of lane `i` of a VDITH with T = 0: the LFSR steps once for every lane before it and once for it (R131). -/
def Engine.dithered (x : Engine) (va w i : Nat) : Int := (x.lane va i).int + dither (lfsrStep^[i + 1] x.lfsr) w

/-- The lane operation of VDITH with T = 0. -/
def LaneOp.dithering (x : Engine) (va gm w : Nat) : LaneOp :=
  { on := x.enabled gm
    res := fun i => ⟨BitVec.ofInt 32 (sat32 (x.dithered va w i)) >>> (32 - w) <<< (32 - w), (x.lane va i).tag⟩
    clamped := fun i => sat32 (x.dithered va w i) != x.dithered va w i
    step := lfsrStep }

/-- Lane `i` of a VDITH with T = 0, from the steps of the LFSR and the source before the run. -/
theorem LaneRun.ditherLane {x y : Engine} {va gm w vd i : Nat} (h : LaneRun x vd (.dithering x va gm w) i y) (hi : i < 16) :
    y.ditherLane vd va w false (x.enabled gm i) i = (LaneOp.dithering x va gm w).lane vd y i := by
  have hstep : lfsrStep y.lfsr = lfsrStep^[i + 1] x.lfsr := by
    rw [h.lfsr]
    exact (Function.iterate_succ_apply' ..).symm
  have hlane : y.ditherLane vd va w false (x.enabled gm i) i = if x.enabled gm i then
      ({ y with lfsr := lfsrStep y.lfsr }.setLane vd i ⟨truncTo w (sat32 (x.dithered va w i)), (x.lane va i).tag⟩).countSat
        (x.dithered va w i) (sat32 (x.dithered va w i))
      else { y with lfsr := lfsrStep y.lfsr } := by
    unfold Engine.ditherLane Engine.dithered
    rw [if_neg Bool.false_ne_true, h.lanes.source hi, hstep]
  rw [hlane, Engine.setLane_countSat, truncTo_eq]
  rfl

/-- VDITH with T = 0 dithers and steps the LFSR once for every lane, enabled or not (R131). -/
theorem exec_vdith_dithers {s : State} {e vd va gm w : Nat} {b : VOperand} (hi : s.issues e (.vdith vd va b gm w false) = true) :
    let o := LaneOp.dithering (s.engine e) va gm w
    ∃ t, exec (.vdith e vd va b gm w false) s = .next t ∧ VectorResult e vd 2 (o.sats (s.lanesOf e)) s t ∧
      (t.engine e).lfsr = lfsrStep^[s.lanesOf e] (s.engine e).lfsr ∧
      ∀ i, i < s.lanesOf e → (t.engine e).lane vd i = if (s.engine e).enabled gm i then o.res i else (s.engine e).lane vd i :=
  vectorResult_of_exec (f := fun x y i => y.ditherLane vd va w false (x.enabled gm i) i) (LaneOp.dithering ..) rfl hi
    fun _ _ hlt hrun => hrun.ditherLane hlt

/-- Settles O15: each instruction as a run over the lanes, its exact values clamped by `sat32` or `sat64`. -/
theorem vectorResultsAreExactPerLane : Obligations.VectorResultsAreExactPerLane := by
  unfold Obligations.VectorResultsAreExactPerLane
  intro e vd va vb ad gs gt gm sh w b z neg s x top clamp sat A B tag prod sum term wide narrow ramp steps noisy cut off writes
  refine ⟨fun hi => ?vadd, fun hi => ?vmul, fun hi => ?vmac, fun hi => ?vsat, fun hi => ?vsel, fun hi => ?vpeak, fun hi => ?vramp,
    fun hi => exec_vdith_truncates hi, fun hi => ?dither⟩
  case vadd =>
    exact laneResult_of_sat sum tag rfl hi fun o i z hlt hrun => by
      simp only [hrun.lanes.source hlt, hrun.vOperand hlt]
      rfl
  case vmul =>
    exact laneResult_of_sat (fun i => (prod i + 2 ^ 27) / 2 ^ 28) tag rfl hi fun o i z hlt hrun => by
      simp only [hrun.lanes.source hlt, hrun.vOperand hlt]
      rfl
  case vmac =>
    obtain ⟨y, hexec, hrun⟩ := exec_vmac hi
    refine ⟨_, hexec, ?_, ?_, ?_, ?_, ?_, fun _ => s.engine_setEngine_ne _, s.setEngine_frame e _⟩ <;> rw [State.engine_setEngine_same]
    · exact congrArg (fun u : Engine => { u with pc := x.pc, cycles := x.cycles }) hrun.rest
    · exact congrArg (· + 1) (congrArg Engine.pc hrun.rest :)
    · exact congrArg (· + 1) (congrArg Engine.cycles hrun.rest :)
    · exact hrun.accs.kept
    · have hwritten := hrun.accs.written
      simp only [Engine.macLane, sat64_eq] at hwritten
      exact hwritten
  case vsat =>
    exact laneResult_of_sat narrow (fun i => (x.acc ad i).tag) rfl hi fun o i z hlt hrun => by
      simp only [hrun.acc]
      rfl
  case vsel =>
    obtain ⟨t, hexec, hresult, hlfsr, hlanes⟩ := exec_vsel hi
    refine ⟨t, hexec, hresult, hlfsr, fun i hlt => (hlanes i hlt).trans ?_⟩
    have hbit : i < 32 := Nat.lt_of_lt_of_le hlt (le_trans (s.lanesOf_le e) (by decide))
    exact if_congr (by rw [Engine.bit_gr _ _ hbit]) rfl rfl
  case vpeak =>
    obtain ⟨t, hexec, hresult, hlfsr, hlanes⟩ := exec_vpeak hi
    refine ⟨t, hexec, hresult, hlfsr, fun i hlt => ?_⟩
    rw [hlanes i hlt, apply_ite Lane.val, Engine.peak, sat32_natAbs]
    rfl
  case vramp =>
    have hresult := exec_vramp hi
    simp only [Engine.ramp, Engine.signed32_gr, sat32_eq] at hresult
    exact hresult
  case dither =>
    have hresult := exec_vdith_dithers hi
    simp only [LaneOp.dithering, LaneOp.sats, sat32_eq] at hresult
    exact hresult

end Sys2Proof.Machine
end

section
/-!
PROOFS. VLD from SXM, DMEM and FBUF (R118 to R122, R138).
-/

namespace Sys2Proof.Machine

/-! ## DMEM and FBUF (R122, R138) -/

theorem State.dmemAddr_lane (s : State) (e g imm i : Nat) :
    s.dmemAddr e g (laneOffset imm i) = (g + imm * 4 + 4 * i) % s.dmemSize e / 4 * 4 := by
  unfold State.dmemAddr laneOffset
  rw [Int.ofNat_eq_natCast, Int.ofNat_eq_natCast, ← Nat.cast_add, ← Int.natCast_mod, Int.toNat_natCast, Nat.add_assoc]

theorem State.fbufAddr_lane (s : State) (e g imm i : Nat) :
    s.fbufAddr e g (laneOffset imm i) = (g + imm * 4 + 4 * i) % s.fbufSize e / 4 * 4 := by
  rw [State.fbufAddr, laneOffset, Nat.add_assoc]

/-- VLD from DMEM. -/
theorem exec_vld_dmem {s : State} {e v gb imm10 gm wait : Nat} (hi : s.issues e (.vld v (.dmem gb imm10) gm) = true) :
    let x := s.engine e
    ∃ t, exec (.vld e v (.dmem gb imm10) gm wait) s = .next t ∧ LaneResult e v 2 0 (fun i => if x.enabled gm i then
      ⟨BitVec.ofNat 32 (s.loadDmem e (s.dmemAddr e (x.gr gb) (laneOffset imm10 i))), true⟩ else x.lane v i) s t :=
  laneResult_of_plain (g := .vld v (.dmem gb imm10) gm) (f := fun x y i => if x.enabled gm i then
      y.setLane v i ⟨BitVec.ofNat 32 (s.loadDmem e (s.dmemAddr e (x.gr gb) (laneOffset imm10 i))), true⟩ else y)
    ((s.engine e).enabled gm) _ rfl hi fun _ _ _ _ _ => rfl

/-- The FBUF words that the enabled lanes of a VLD reach (R122, R138). -/
def State.fbufLanes (s : State) (e gb imm10 gm : Nat) : List Nat :=
  ((s.engine e).lanes gm (s.lanesOf e)).map (fun i => s.fbufAddr e ((s.engine e).gr gb) (laneOffset imm10 i))

section
variable {s : State} {e v gb imm10 gm wait : Nat} (hi : s.issues e (.vld v (.fbuf gb imm10) gm) = true)
include hi

theorem exec_vld_fbuf : exec (.vld e v (.fbuf gb imm10) gm wait) s = .next (
    if (s.engine e).fetching (s.fbufLanes e gb imm10 gm) then s
    else s.scalar e (.vld v (.fbuf gb imm10) gm) (fun x => (x.eachLane (fun y i => if x.enabled gm i then
      y.setLane v i ⟨BitVec.ofNat 32 (x.loadFbuf (s.fbufAddr e (x.gr gb) (laneOffset imm10 i))), true⟩ else y)
        (s.lanesOf e)).next (2 + wait))) := by
  rw [State.scalar_issued _ hi]
  exact congrArg Host.Outcome.next (if_pos hi)

/-- VLD from FBUF words that no incomplete FETCH is to write. -/
theorem exec_vld_fbuf_loads (hf : (s.engine e).fetching (s.fbufLanes e gb imm10 gm) = false) : let x := s.engine e
    ∃ t, exec (.vld e v (.fbuf gb imm10) gm wait) s = .next t ∧ LaneResult e v (2 + wait) 0 (fun i => if x.enabled gm i then
      ⟨BitVec.ofNat 32 (x.loadFbuf (s.fbufAddr e (x.gr gb) (laneOffset imm10 i))), true⟩ else x.lane v i) s t := by
  have hexec := exec_vld_fbuf (wait := wait) hi
  rw [hf, if_neg Bool.false_ne_true] at hexec
  exact laneResult_of_plain (f := fun x y i => if x.enabled gm i then
      y.setLane v i ⟨BitVec.ofNat 32 (x.loadFbuf (s.fbufAddr e (x.gr gb) (laneOffset imm10 i))), true⟩ else y)
    ((s.engine e).enabled gm) _ hexec hi fun _ _ _ _ _ => rfl

end

/-! ## States that differ in vector lanes and in the open values taken -/

/-- From `s` to `t` vector lanes have been written and open values taken; nothing else has changed. -/
structure LanesOnly (s t : State) : Prop where
  frame : Frame [.ge, .free] s t
  engines : ∀ j, { t.engine j with v := (s.engine j).v } = s.engine j

namespace LanesOnly

variable {s t u : State}

theorem refl (s : State) : LanesOnly s s := ⟨Frame.refl _ s, fun _ => rfl⟩

theorem trans (h : LanesOnly s t) (k : LanesOnly t u) : LanesOnly s u :=
  ⟨h.frame.trans k.frame, fun j => (congrArg (fun y : Engine => { y with v := (s.engine j).v }) (k.engines j)).trans (h.engines j)⟩

theorem of_free (h : Frame [.free] s t) : LanesOnly s t :=
  ⟨h.weaken rfl, fun j => by rw [State.engine_congr (h.same .ge rfl)]⟩

theorem setLane (s : State) (e v i : Nat) (l : Lane) : LanesOnly s (s.setEngine e ((s.engine e).setLane v i l)) := by
  refine ⟨(s.setEngine_frame ..).weaken rfl, fun j => ?_⟩
  by_cases hj : j = e
  · subst hj
    rw [State.engine_setEngine_same]
    rfl
  · rw [State.engine_setEngine_ne _ _ hj]

theorem word (h : LanesOnly s t) (k : Nat) : t.word k = s.word k := State.word_congr (h.frame.same .live rfl) k

theorem rd (h : LanesOnly s t) (f : Fld) : t.rd f = s.rd f := State.rd_congr (h.word _)

theorem bufC (h : LanesOnly s t) (b : Nat) : t.bufC b = s.bufC b := h.rd _

theorem bufD (h : LanesOnly s t) (b : Nat) : t.bufD b = s.bufD b := h.rd _

theorem bufS (h : LanesOnly s t) (b : Nat) : t.bufS b = s.bufS b := by
  unfold State.bufS State.tickLen
  rw [h.rd, h.rd]

theorem sxmAddr (h : LanesOnly s t) (b f p : Nat) : t.sxmAddr b f p = s.sxmAddr b f p := by
  unfold State.sxmAddr
  rw [h.rd, h.bufD, h.bufS, h.bufC]

theorem sxmWord (h : LanesOnly s t) (a : Nat) : t.sxmWord a = s.sxmWord a := by
  unfold State.sxmWord
  rw [show t.sxm = s.sxm from h.frame.same .sxm rfl]

theorem rsb (h : LanesOnly s t) (j : Nat) : (t.engine j).rsb = (s.engine j).rsb := (congrArg Engine.rsb (h.engines j) :)

theorem ahead (h : LanesOnly s t) (j : Nat) : (t.engine j).ahead = (s.engine j).ahead := (congrArg Engine.ahead (h.engines j) :)

theorem stride (h : LanesOnly s t) (j c : Nat) (st : Stride) : (t.engine j).stride c st = (s.engine j).stride c st := by
  have hg : (t.engine j).g = (s.engine j).g := (congrArg Engine.g (h.engines j) :)
  unfold Engine.stride Engine.gr
  rw [hg]

theorem isSpoiled (h : LanesOnly s t) (b f i : Nat) : t.isSpoiled b f i = s.isSpoiled b f i := by
  unfold State.isSpoiled
  rw [show t.spoiled = s.spoiled from h.frame.same .spoiled rfl, h.bufD]

theorem isValid (h : LanesOnly s t) (b f i : Nat) : t.isValid b f i = s.isValid b f i := by
  unfold State.isValid
  rw [show t.valid = s.valid from h.frame.same .valid rfl, h.bufD, h.isSpoiled]

theorem isPlaced (h : LanesOnly s t) (b f i : Nat) : t.isPlaced b f i = s.isPlaced b f i := by
  unfold State.isPlaced
  rw [show t.placed = s.placed from h.frame.same .placed rfl, h.bufD]

theorem engineSealed (h : LanesOnly s t) (j f : Nat) : t.engineSealed j f = s.engineSealed j f := by
  have hok : (t.engine j).okTick = (s.engine j).okTick := (congrArg Engine.okTick (h.engines j) :)
  have htaint : (t.engine j).taint = (s.engine j).taint := (congrArg Engine.taint (h.engines j) :)
  unfold State.engineSealed
  rw [hok, htaint]

theorem sealing (h : LanesOnly s t) (b f : Nat) : t.sealing b f = s.sealing b f := by
  have hlive : t.live = s.live := h.frame.same .live rfl
  have hgathered : t.gathered = s.gathered := h.frame.same .gathered rfl
  unfold State.sealing State.writer State.patched State.tick
  simp only [hlive, hgathered, h.rd, h.engineSealed]

theorem inTag (h : LanesOnly s t) (e b f i : Nat) : t.inTag e b f i = s.inTag e b f i := by
  have hlive : t.live = s.live := h.frame.same .live rfl
  unfold State.inTag State.sampleValid State.rxFilled State.flag
  rw [h.ahead, h.isValid, h.rd, hlive, h.isPlaced, h.sealing, h.isSpoiled]

end LanesOnly

/-! ## One lane from SXM (R118, R119, R121) -/

/-- What a VLD of engine `e` through handle `hd` puts into lane `i`: 0 with tag 0 through the null handle and out of frame; in frame
the tag of the sample frame and the youngest held store, or else the container, which is open where the tag is 0. -/
def State.LaneLoaded (s : State) (e : Nat) (hd : Handle) (st : Stride) (i : Nat) (l : Lane) : Prop :=
  (hd.buf = none → l = ⟨0, false⟩) ∧
    ∀ b, hd.buf = some b →
      let p := signed32 hd.cursor + Int.ofNat i * (s.engine e).stride (s.bufC b) st
      (p < 0 ∨ Int.ofNat (s.bufC b * s.bufS b) ≤ p → l = ⟨0, false⟩) ∧
      (0 ≤ p → p < Int.ofNat (s.bufC b * s.bufS b) →
        let a := s.sxmAddr b hd.frame p.toNat
        let tag := hd.out || s.inTag e b hd.frame (p.toNat / s.bufC b)
        l.tag = tag ∧ (∀ w, rsbSxm a (s.engine e).rsb = some w → l.val = w) ∧
        (rsbSxm a (s.engine e).rsb = none → tag = true → l.val.toNat = s.sxmWord a))

theorem LanesOnly.laneLoaded {s t : State} (h : LanesOnly s t) {e : Nat} {hd : Handle} {st : Stride} {i : Nat} {l : Lane}
    (hl : t.LaneLoaded e hd st i l) : s.LaneLoaded e hd st i l := by
  unfold State.LaneLoaded at hl ⊢
  simpa only [h.stride, h.bufC, h.bufS, h.sxmAddr, h.inTag, h.rsb, h.sxmWord] using hl

/-- The word loaded is the youngest held store, or else the container where its value is known. -/
theorem State.loadSxm_word (s : State) (e a : Nat) (known : Bool) :
    let l : Word := BitVec.ofNat 32 (s.loadSxm e a known).1
    (∀ w, rsbSxm a (s.engine e).rsb = some w → l = w) ∧ (rsbSxm a (s.engine e).rsb = none → known = true → l.toNat = s.sxmWord a) := by
  intro l
  refine ⟨fun w hw => ?_, fun hnone hknown => ?_⟩
  · simp only [l, State.loadSxm, hw, BitVec.ofNat_toNat, BitVec.setWidth_eq]
  · simp only [l, State.loadSxm, hnone, hknown, if_true]
    exact Nat.mod_eq_of_lt (Memory.word_lt _ _)

/-- The container index that lane `i` reaches through buffer `b` (R118). -/
def State.laneAt (s : State) (e : Nat) (hd : Handle) (b : Nat) (st : Stride) (i : Nat) : Int :=
  signed32 hd.cursor + Int.ofNat i * (s.engine e).stride (s.bufC b) st

theorem State.lanePos_in {s : State} {e b i : Nat} {hd : Handle} {st : Stride} (hlo : 0 ≤ s.laneAt e hd b st i)
    (hhi : s.laneAt e hd b st i < Int.ofNat (s.bufC b * s.bufS b)) :
    s.lanePos (s.engine e) hd b st i = some (s.laneAt e hd b st i).toNat :=
  if_pos ⟨hlo, hhi⟩

theorem State.lanePos_out {s : State} {e b i : Nat} {hd : Handle} {st : Stride}
    (h : ¬ (0 ≤ s.laneAt e hd b st i ∧ s.laneAt e hd b st i < Int.ofNat (s.bufC b * s.bufS b))) :
    s.lanePos (s.engine e) hd b st i = none :=
  if_neg h

/-- One lane loaded: open values may be taken, and then the lane is written. -/
theorem State.loadLane_eq (s : State) (e v : Nat) (hd : Handle) (st : Stride) (i : Nat) :
    ∃ u l, Frame [.free] s u ∧ s.loadLane e v hd st i = u.setEngine e ((u.engine e).setLane v i l) ∧ s.LaneLoaded e hd st i l := by
  unfold State.loadLane State.LaneLoaded
  cases hbuf : hd.buf with
  | none => exact ⟨s, ⟨0, false⟩, Frame.refl _ s, rfl, fun _ => rfl, fun b hb => by cases hb⟩
  | some b =>
    dsimp only
    by_cases hin : 0 ≤ s.laneAt e hd b st i ∧ s.laneAt e hd b st i < Int.ofNat (s.bufC b * s.bufS b)
    · rw [State.lanePos_in hin.1 hin.2]
      refine ⟨_, _, State.loadSxm_frame .., rfl, fun hnone => (by cases hnone), fun b' hb => ?_⟩
      cases hb
      refine ⟨fun hout => absurd hin fun hand => ?_, fun _ _ => ⟨rfl, State.loadSxm_word ..⟩⟩
      exact hout.elim (Int.not_lt.mpr hand.1) (Int.not_le.mpr hand.2)
    · rw [State.lanePos_out hin]
      refine ⟨s, ⟨0, false⟩, Frame.refl _ s, rfl, fun _ => rfl, fun b' hb => ?_⟩
      cases hb
      exact ⟨fun _ => rfl, fun hlo hhi => absurd ⟨hlo, hhi⟩ hin⟩

/-! ## All lanes from SXM -/

/-- From `s` to `t` engine `e` has loaded the enabled lanes of vector register `v` below `n`. -/
structure SxmRun (s : State) (e v : Nat) (hd : Handle) (st : Stride) (gm n : Nat) (t : State) : Prop where
  same : LanesOnly s t
  others : ∀ j, j ≠ e → t.engine j = s.engine j
  kept : ∀ r i, i < 16 → r ≠ v ∨ n ≤ i → (t.engine e).lane r i = (s.engine e).lane r i
  disabled : ∀ i, i < n → (s.engine e).enabled gm i = false → (t.engine e).lane v i = (s.engine e).lane v i
  loaded : ∀ i, i < n → (s.engine e).enabled gm i = true → s.LaneLoaded e hd st i ((t.engine e).lane v i)

namespace SxmRun

variable {s t : State} {e v gm n : Nat} {hd : Handle} {st : Stride}

/-- An enabled lane is loaded next. -/
theorem load (h : SxmRun s e v hd st gm n t) (hn : n < 16) (hon : (s.engine e).enabled gm n = true) :
    SxmRun s e v hd st gm (n + 1) (t.loadLane e v hd st n) := by
  obtain ⟨u, l, hframe, heq, hl⟩ := t.loadLane_eq e v hd st n
  have hengine : ∀ j, u.engine j = t.engine j := State.engine_congr (hframe.same .ge rfl)
  have hlane : ∀ r i, i < 16 → ((u.setEngine e ((u.engine e).setLane v n l)).engine e).lane r i =
      if r = v ∧ i = n then l else (t.engine e).lane r i := fun r i hi => by
    rw [State.engine_setEngine_same, Engine.lane_setLane _ _ hi hn, hengine]
  rw [heq]
  refine ⟨(h.same.trans (.of_free hframe)).trans (.setLane ..),
    fun j hj => ?_, fun r i hi hout => ?_, fun i hi hoff => ?_, fun i hi hon' => ?_⟩
  · rw [State.engine_setEngine_ne _ _ hj, hengine, h.others j hj]
  · rw [hlane r i hi, if_neg (by omega), h.kept r i hi (by omega)]
  · have hne : i ≠ n := fun hin => by simp [hin, hon] at hoff
    rw [hlane v i (by omega), if_neg (fun hand => hne hand.2), h.disabled i (by omega) hoff]
  · rw [hlane v i (by omega)]
    by_cases hin : i = n
    · subst hin
      rw [if_pos ⟨rfl, rfl⟩]
      exact h.same.laneLoaded hl
    · rw [if_neg (fun hand => hin hand.2)]
      exact h.loaded i (by omega) hon'

/-- A disabled lane is passed over. -/
theorem skip (h : SxmRun s e v hd st gm n t) (hn : n < 16) (hoff : (s.engine e).enabled gm n = false) :
    SxmRun s e v hd st gm (n + 1) t := by
  refine ⟨h.same, h.others, fun r i hi hout => h.kept r i hi (by omega), fun i hi hoff' => ?_, fun i hi hon => ?_⟩
  · by_cases hin : i = n
    · subst hin
      exact h.kept v i hn (.inr (Nat.le_refl _))
    · exact h.disabled i (by omega) hoff'
  · have hne : i ≠ n := fun hin => by simp [hin, hoff] at hon
    exact h.loaded i (by omega) hon

theorem eachEnabled (s : State) (e v : Nat) (hd : Handle) (st : Stride) (gm : Nat) {n : Nat} (hn : n ≤ 16) :
    SxmRun s e v hd st gm n (s.eachEnabled (s.engine e) gm (fun s i => s.loadLane e v hd st i) n) := by
  induction n with
  | zero =>
    exact ⟨.refl s, fun _ _ => rfl, fun _ _ _ _ => rfl, fun _ h => absurd h (Nat.not_lt_zero _), fun _ h => absurd h (Nat.not_lt_zero _)⟩
  | succ n ih =>
    have hrun := ih (by omega)
    unfold State.eachEnabled
    dsimp only
    split
    · next hon => exact hrun.load (by omega) hon
    · next hoff => exact hrun.skip (by omega) (Bool.eq_false_iff.mpr hoff)

end SxmRun

/-- The state after a VLD from SXM whose lanes are loaded: the engine goes on, and its wait is counted (R92). -/
def State.vldDone (t : State) (e wait : Nat) : State := (t.setEngine e ((t.engine e).next (2 + wait))).add (GE.SXMWAIT.val e) wait

/-- VLD from SXM within the wait that the proof allows for (R93). -/
theorem exec_vld_sxm {s : State} {e v h gm wait : Nat} {st : Stride} (hi : s.issues e (.vld v (.sxm h st) gm) = true) (hw : wait < 160) :
    ∃ t, exec (.vld e v (.sxm h st) gm wait) s = .next (t.vldDone e wait) ∧
      SxmRun s e v ((s.engine e).handleOf h) st gm (s.lanesOf e) t := by
  refine ⟨_, ?_, SxmRun.eachEnabled _ _ _ _ _ _ (s.lanesOf_le e)⟩
  exact congrArg Host.Outcome.next ((if_pos hi).trans (if_pos (decide_eq_true hw)))

theorem State.vldDone_engine (t : State) (e wait j : Nat) :
    (t.vldDone e wait).engine j = (t.setEngine e ((t.engine e).next (2 + wait))).engine j := State.engine_congr (State.add_ge ..) j

theorem State.vldDone_wait (t : State) (e wait : Nat) :
    (t.vldDone e wait).rd (GE.SXMWAIT.val e) = (t.rd (GE.SXMWAIT.val e) + wait) % 2 ^ 32 :=
  State.rd_wr_same _ _ _ (show 0 + 32 ≤ 32 by decide)

theorem State.vldDone_word (t : State) (e wait : Nat) {k : Nat} (hk : k ≠ GE.SXMWAIT e) : (t.vldDone e wait).word k = t.word k :=
  State.word_add_ne _ _ hk

/-- Settles O13: from SXM by the run over the enabled lanes, from DMEM and FBUF by the word that each lane reads. -/
theorem vectorLoadsFillEnabledLanes : Obligations.VectorLoadsFillEnabledLanes := by
  unfold Obligations.VectorLoadsFillEnabledLanes
  intro e v h gm gb imm10 wait st s x hd
  refine ⟨fun hi hw _ => ?sxm, fun hi => ?dmem, fun hi => ?fbuf⟩
  case sxm =>
    obtain ⟨t, hexec, hrun⟩ := exec_vld_sxm hi hw
    have hengine : (t.vldDone e wait).engine e = (t.engine e).next (2 + wait) := by
      rw [State.vldDone_engine, State.engine_setEngine_same]
    refine ⟨_, hexec, ?_, ?_, fun i hlt => ?_, fun r i hi hout => ?_, ?_, ?_, fun k hk => ?_,
      fun j hj => ?_, execVld_frame _ _ _ _ _ _ _ hexec⟩
    · rw [hengine]
      exact congrArg (· + 1) (congrArg Engine.pc (hrun.same.engines e) :)
    · rw [hengine, Nat.add_assoc]
      exact congrArg (· + (2 + wait)) (congrArg Engine.cycles (hrun.same.engines e) :)
    · rw [hengine]
      have hloaded := hrun.loaded i hlt
      exact ⟨hrun.disabled i hlt, fun hon => (hloaded hon).1, fun b hon => (hloaded hon).2 b⟩
    · rw [hengine]
      exact hrun.kept r i hi hout
    · rw [hengine]
      exact congrArg (fun y : Engine => { y with pc := x.pc, cycles := x.cycles }) (hrun.same.engines e)
    · rw [State.vldDone_wait, hrun.same.rd]
    · rw [State.vldDone_word _ _ _ hk, hrun.same.word]
    · rw [State.vldDone_engine, State.engine_setEngine_ne _ _ hj, hrun.others j hj]
  case dmem =>
    have hresult := exec_vld_dmem (wait := wait) hi
    simp only [State.dmemAddr_lane] at hresult
    exact hresult
  case fbuf =>
    have hexec := exec_vld_fbuf (wait := wait) hi
    have hloads := exec_vld_fbuf_loads (wait := wait) hi
    simp only [State.fbufLanes, State.fbufAddr_lane] at hexec hloads
    exact ⟨fun hf => hexec.trans (congrArg _ (if_pos hf)), hloads⟩

end Sys2Proof.Machine
end

section
/-!
PROOFS. A media frame that the switch also forwards (R417, R419, R420).
-/

namespace Sys2Proof.Machine

/-- An RTP frame of one 24-bit sample, from 10.0.0.1 to 10.0.0.2 port 5004, to the unicast MAC address 02:00:00:00:00:02. -/
def unicastRtpFrame : List Nat :=
  [2, 0, 0, 0, 0, 2, 2, 0, 0, 0, 0, 1, 8, 0, 0x45, 0, 0, 43, 0, 0, 0, 0, 64, 17, 0, 0, 10, 0, 0, 1, 10, 0, 0, 2,
   0, 1, 0x13, 0x8C, 0, 23, 0, 0, 0x80, 96, 0, 1, 0, 0, 0, 0, 0, 0, 0, 9, 1, 2, 3]

/-- Ports A and M have a link and are members of VLAN 1, as at reset, and receive flow 0 takes the stream of `unicastRtpFrame` on path A. -/
def linkedToTwoPorts : State :=
  let linked := (State.reset.wr (NET.STAT.LINK 0) 1).wr (NET.STAT.LINK 2) 1
  (((linked.wr (FT.EN 0) 1).wr (FT.PATH 0) 1).wr (FT.ADDR0 0) (10 * 2 ^ 24 + 2)).wr (FT.UDPPORT 0) 5004

/-- The frame is matched at port A, and its destination address is not in the MAC table, so it is queued at port M too (R420). -/
theorem rxFrame_forwards_matched_media :
    nextWith (fun t => (t.kennel 13).pkts.length == 1) (exec (.rxFrame 0 unicastRtpFrame true 0 0) linkedToTwoPorts) = true := by
  decide

/-- Refutes O23: a frame that a flow matches does change another kennel than its port's. The switch forwards it to the other ports all the same (step 3
of R417), and in `linkedToTwoPorts` it enters K13, the transmit kennel of port M, beside K0. The statement says that every other kennel stays, and no
premise of it says that the frame goes to no other port. -/
theorem not_receivedFramesAreCountedAndDelivered : ¬ Obligations.ReceivedFramesAreCountedAndDelivered := by
  unfold Obligations.ReceivedFramesAreCountedAndDelivered
  intro h
  obtain ⟨-, -, hmedia⟩ := h 0 0 unicastRtpFrame true linkedToTwoPorts (by decide) (by decide)
  obtain ⟨t, hexec, -, -, -, hothers, -⟩ :=
    hmedia (by decide) (by decide) (by decide) (by decide) (by decide) (by decide) (by decide) (by decide) (by decide)
  have hkept : t.kennel 13 = linkedToTwoPorts.kennel 13 := hothers 13 (by decide)
  have hqueued : (t.kennel 13).pkts.length == 1 := by
    have := rxFrame_forwards_matched_media
    rwa [hexec] at this
  rw [hkept] at hqueued
  exact absurd hqueued (by decide)

end Sys2Proof.Machine
end

section
/-!
PROOFS. A spoiled sample frame is invalid until its slot begins anew (R514), and neither a confirmation nor the mover ends that.
-/

namespace Sys2Proof.Machine

/-- A spoiled sample frame is invalid in every state of the same words and the same spoiled sample frames (R514). -/
theorem State.isValid_eq_false_of_spoiled {s t : State} {b f i : Nat} (hlive : t.live = s.live) (hspoiled : t.spoiled = s.spoiled)
    (h : s.isSpoiled b f i = true) : t.isValid b f i = false := by
  have hd : t.bufD b = s.bufD b := State.rd_congr (State.word_congr hlive _)
  have ht : t.isSpoiled b f i = true := by
    unfold State.isSpoiled at h ⊢
    rwa [hd, hspoiled]
  simp [State.isValid, ht]

/-- Ticks run at two sample frames a tick, receive flow 0 writes buffer 0, a ring of four frames of one channel, and an uncorrectable word has spoiled
sample frame 0 of the frame of the next tick. -/
def spoiledNextFrame : State :=
  let s : State := { State.reset with clk := { State.reset.clk with phase := .work } }
  let flow := (s.wr GLB.MEDIA.TICK_LEN 2).wr (FT.EN 0) 1
  let ring := (((flow.wr (BT.EN 0) 1).wr (BT.CHANNELS 0) 1).wr (BT.DEPTH 0) 4).wr (BT.DDEPTH 0) 4
  ring.spoilFrames 0 1 [0]

/-- A copy of flow 0 that has placed the spoiled sample frame, in time, and all of which has been read without error. -/
def copyOfSpoiledFrame : Copy :=
  { flow := 0, r := 0, seq := 0, ssrc := none, frames := [(1, 0)], late := 0, first := some 1, crc := none, fcsBad := false, sumBad := false,
    tracked := false, start := (1, 0), got := [], arriving := false }

/-- That copy is in flight on path A. -/
def confirmingSpoiled : State := { spoiledNextFrame with copies := [(0, copyOfSpoiledFrame)] }

/-- The confirmation leaves the spoiled sample frame invalid. -/
theorem copyConfirm_leaves_spoiled_invalid :
    nextWith (fun t => !t.isValid 0 1 0) (exec (.copyConfirm 0) confirmingSpoiled) = true := by
  decide

/-- Refutes O24: a confirmation does not make valid every sample frame that meets its deadline. An uncorrectable error makes a sample frame invalid
until its slot begins anew (R514), and where it has spoiled one that a copy placed, as in `confirmingSpoiled`, the confirmation of the copy in time
leaves it invalid. No premise of the statement says that the sample frames of the copy are not spoiled. -/
theorem not_copiesAreJudgedConfirmedOrRewound : ¬ Obligations.CopiesAreJudgedConfirmedOrRewound := by
  unfold Obligations.CopiesAreJudgedConfirmedOrRewound
  rintro ⟨-, h⟩
  obtain ⟨hconfirm, -, -⟩ := h 0 0 copyOfSpoiledFrame confirmingSpoiled (by decide) (by decide) (by decide) (by decide) (by decide)
  obtain ⟨t, hexec, -, -, -, -, -, hvalid, -, -⟩ := hconfirm rfl rfl rfl
  obtain ⟨hintime, -⟩ := hvalid (by decide)
  have hset : t.isValid 0 1 0 = true := hintime (1, 0) (by decide) (by decide)
  have hspoiled : (!t.isValid 0 1 0) = true := by
    have := copyConfirm_leaves_spoiled_invalid
    rwa [hexec] at this
  rw [hset] at hspoiled
  exact absurd hspoiled (by decide)

/-- Flow 0 is DEEP, and the spoiled sample frame is valid in external memory. -/
def movingSpoiled : State := { spoiledNextFrame.wr (FT.DEEP 0) 1 with deepValid := [deepKey 0 1 0] }

/-- Refutes O25: DEEP_FRAME_MOVE does not make valid in SXM every sample frame that is valid in external memory. It leaves the spoiled ones alone, as the
statement's own frame says, so in `movingSpoiled` the sample frame that an uncorrectable error of SXM has spoiled stays invalid (R514). No premise of
the statement says that the sample frames of the slot are not spoiled. -/
theorem not_flowsTimeOutAndDeepFramesMove : ¬ Obligations.FlowsTimeOutAndDeepFramesMove := by
  unfold Obligations.FlowsTimeOutAndDeepFramesMove
  intro h
  obtain ⟨-, hmove⟩ := h 0 movingSpoiled (by decide) (by decide) (by decide)
  obtain ⟨t, -, hvalid, -, -, -, -, hframe⟩ := hmove (by decide) (by decide)
  have hset : t.isValid 0 1 0 = true := hvalid 0 (by decide) (by decide)
  have hspoiled : t.isValid 0 1 0 = false :=
    State.isValid_eq_false_of_spoiled (hframe.same .live rfl) (hframe.same .spoiled rfl) (by decide)
  rw [hspoiled] at hset
  exact absurd hset (by decide)

end Sys2Proof.Machine
end

section
/-!
PROOFS. Words pushed into a kennel and popped from it (R214, R224, R228, R229, R232 to R235).
-/

namespace Sys2Proof.Machine

/-! ## Sticky flags -/

/-- A sticky event leaves its register's bits set, and sets those of its mask (R490). -/
theorem sqSet_testBit (w : Word) (mask : Nat) {i : Nat} (h : i < 24) :
    (sqSet w mask).toNat.testBit i = (w.toNat.testBit i || mask.testBit i) := by
  have hlow : w.toNat % 2 ^ 24 ||| mask % 2 ^ 24 < 2 ^ 24 := Nat.or_lt_two_pow (Nat.mod_lt _ (by decide)) (Nat.mod_lt _ (by decide))
  have hseq : (w.toNat / 2 ^ 24 + 1) % 256 < 256 := Nat.mod_lt _ (by decide)
  unfold sqSet
  rw [BitVec.toNat_ofNat, Nat.mod_eq_of_lt (by omega), Nat.mul_comm, Nat.testBit_two_pow_mul_add _ hlow, if_pos h, Nat.testBit_or,
    Nat.testBit_mod_two_pow, Nat.testBit_mod_two_pow]
  simp [h]

theorem State.flag_eq_testBit (s : State) {f : Fld} (h1 : f.width = 1) : s.flag f = (s.word f.key).toNat.testBit f.lo := by
  rw [Nat.testBit_eq_decide_div_mod_eq, State.flag, State.rd, Fld.ext, h1, pow_one, beq_eq_decide]

/-- A sticky flag stays set at any later event. -/
theorem State.flag_sqf_of_flag {s : State} {f : Fld} (g : Fld) (h1 : f.width = 1) (h : f.lo < 24) (hset : s.flag f = true) :
    (s.sqf g).flag f = true := by
  by_cases hkey : f.key = g.key
  · rw [State.flag_eq_testBit _ h1] at hset ⊢
    unfold State.sqf
    rw [hkey] at hset ⊢
    rw [State.word_sq_same, sqSet_testBit _ _ h, hset, Bool.true_or]
  · rw [State.flag_congr (State.word_sqf_ne _ hkey), hset]

/-! ## What a report leaves alone -/

/-- A report of block `b` never writes word `k`. -/
def ReportLeaves (b k : Nat) : Prop :=
  k ≠ EVT.BLKCNT b ∧ k ≠ EVT.IPEND b ∧ k ≠ EVT.DROPPED ∧ k ≠ EVT.HIST ∧ k ≠ EVT.FIRSTDROP ∧ k ≠ msixPending ∧ ∀ i, i < 1024 → k ≠ EVT.REP i

theorem State.report_knl (s : State) (code source data : Nat) : (s.report code source data).knl = s.knl := (State.report_frame ..).same .knl rfl

theorem State.report_leaves (s : State) {code k : Nat} (source data : Nat) (h : ReportLeaves (code / 256) k) :
    (s.report code source data).word k = s.word k := by
  obtain ⟨hcnt, hpend, hdropped, hhist, hfirst, hmsix, hrep⟩ := h
  unfold State.report
  rw [State.placeReport_word _ _ _ _ hdropped hhist hfirst hrep, State.interrupts_word _ hmsix, State.word_sq_ne _ _ hpend,
    State.word_inc_ne _ hcnt]

theorem ReportLeaves.of_not_reportKey {b k : Nat} (hb : b < 24) (h : reportKey k = false) : ReportLeaves b k :=
  ⟨ne_of_not_reportKey h (by unfold EVT.BLKCNT; omega), ne_of_not_reportKey h (by unfold EVT.IPEND; omega), ne_of_not_reportKey h (by decide),
    ne_of_not_reportKey h (by decide), ne_of_not_reportKey h (by decide), ne_msixPending h,
    fun i hi => ne_of_not_reportKey h (by unfold EVT.REP; omega)⟩

/-- A report of one block leaves the counts and the pending flags of the others. -/
theorem ReportLeaves.of_other {b k : Nat} (hlo : 0x20100 ≤ k) (hhi : k < 0x22000) (hcnt : k ≠ EVT.BLKCNT b) (hpend : k ≠ EVT.IPEND b) :
    ReportLeaves b k :=
  ⟨hcnt, hpend, by unfold EVT.DROPPED; omega, by unfold EVT.HIST; omega, by unfold EVT.FIRSTDROP; omega, by unfold msixPending; omega,
    fun i _ => by unfold EVT.REP; omega⟩

theorem not_reportKey_of_above {k : Nat} (h : 0x23000 ≤ k) (hmsix : k ≠ msixPending) : reportKey k = false := by
  simp [reportKey, hmsix, h]

/-- The registers of a kennel are not words that a report writes. -/
theorem KNL.not_reportKey {n k : Nat} (hn : n < 64) (hlo : 0x160100 + n * 0x40 ≤ k) (hhi : k < 0x160140 + n * 0x40) : reportKey k = false :=
  not_reportKey_of_above (by omega) (by unfold msixPending; omega)

theorem KNL.hist_not_reportKey {n : Nat} (hn : n < 64) : reportKey (KNL.K_HIST n) = false :=
  KNL.not_reportKey hn (by unfold KNL.K_HIST; omega) (by unfold KNL.K_HIST; omega)

/-- Nor are the records of transmit flows, however high the index of the flow. -/
theorem TS.not_reportKey (i : Nat) {w : Nat} (h0 : 0 < w) (h : w < 32) : reportKey (TS.word i w) = false :=
  not_reportKey_of_above (by unfold TS.word; omega) (by unfold TS.word msixPending; omega)

/-! ## Events that are counted, marked and reported -/

/-- From `s` to `t` the counter `cnt` has advanced by one, the sticky flag `mark` is set, and the event `code` has been reported once. -/
structure EventCounted (cnt mark : Fld) (code : Nat) (s t : State) : Prop where
  count : t.rd cnt = (s.rd cnt + 1) % 2 ^ 32
  mark : t.flag mark = true
  reported : Reported code s t

section
variable {cnt mark : Fld} {code : Nat} {s t u : State}

/-- An event after operations that left its counter and its block's words alone. -/
theorem EventCounted.after (h : EventCounted cnt mark code t u) (hcnt : t.word cnt.key = s.word cnt.key)
    (hblk : t.word (EVT.BLKCNT (code / 256)) = s.word (EVT.BLKCNT (code / 256)))
    (hpend : t.word (EVT.IPEND (code / 256)) = s.word (EVT.IPEND (code / 256))) : EventCounted cnt mark code s u :=
  ⟨by rw [h.count, State.rd_congr hcnt], h.mark, h.reported.after hblk hpend⟩

/-- An event before operations that leave the live words alone. -/
theorem EventCounted.of_live (h : EventCounted cnt mark code s t) (hlive : u.live = t.live) : EventCounted cnt mark code s u :=
  have hword := State.word_congr hlive
  ⟨by rw [State.rd_congr (hword _), h.count], by rw [State.flag_congr (hword _), h.mark], h.reported.before (hword _) (hword _)⟩

/-- A report, once the counter and the sticky register show its event. -/
theorem EventCounted.report (source data : Nat) (hcode : code < 0x1800) (hcnt : reportKey cnt.key = false) (hmark : reportKey mark.key = false)
    (hcount : t.rd cnt = (s.rd cnt + 1) % 2 ^ 32) (hset : t.flag mark = true) (hrest : ∀ k, k ≠ cnt.key → k ≠ mark.key → t.word k = s.word k) :
    EventCounted cnt mark code s (t.report code source data) := by
  have hkept : ∀ j, 0x20000 ≤ j ∧ j < 0x23000 → t.word j = s.word j := fun j hj =>
    hrest j (ne_of_not_reportKey hcnt hj).symm (ne_of_not_reportKey hmark hj).symm
  refine ⟨?_, ?_, (State.report_reported _ _ _ _ hcode).after (hkept _ ?_) (hkept _ ?_)⟩
  · rw [State.report_rd _ _ _ _ _ hcnt hcode, hcount]
  · rw [State.report_flag _ _ _ _ _ hmark hcode, hset]
  · unfold EVT.BLKCNT; omega
  · unfold EVT.IPEND; omega

/-- The counter advances, the flag is set, and the event is reported. -/
theorem EventCounted.inc_sqf_report (s : State) (source data : Nat) (hcode : code < 0x1800) (hcnt : reportKey cnt.key = false)
    (hmark : reportKey mark.key = false) (hkeys : cnt.key ≠ mark.key) (h32 : cnt.lo = 0 ∧ cnt.width = 32) (h1 : mark.width = 1) (hlo : mark.lo < 24) :
    EventCounted cnt mark code s (((s.inc cnt).sqf mark).report code source data) :=
  .report source data hcode hcnt hmark
    (by rw [State.rd_congr (State.word_sqf_ne _ hkeys), State.rd_inc_same s (by omega), h32.2])
    (State.flag_sqf_same _ h1 hlo)
    (fun _ hc hm => (State.word_sqf_ne _ hm).trans (State.word_inc_ne s hc))

end

/-! ## Kennels as a store -/

/-- From `s` to `t` kennel `n` becomes `k`, and no other kennel changes. -/
structure KennelSet (n : Nat) (k : Kennel) (s t : State) : Prop where
  kennel : t.kennel n = k
  others : ∀ m, m ≠ n → t.kennel m = s.kennel m

theorem State.kennel_congr {s t : State} (h : t.knl = s.knl) (n : Nat) : t.kennel n = s.kennel n := by
  unfold State.kennel
  rw [h]

/-- Operations before and after that leave the kennels alone. -/
theorem KennelSet.of_knl {n : Nat} {k : Kennel} {s s' t t' : State} (h : KennelSet n k s t) (hs : s.knl = s'.knl) (ht : t'.knl = t.knl) :
    KennelSet n k s' t' :=
  ⟨(State.kennel_congr ht n).trans h.kennel, fun m hm => (State.kennel_congr ht m).trans ((h.others m hm).trans (State.kennel_congr hs m))⟩

theorem State.setKennel_knl (s : State) (n : Nat) (k : Kennel) : (s.setKennel n k).knl = Store.set (fun _ => Kennel.reset) s.knl n k := by
  unfold State.setKennel
  dsimp only
  split <;> split <;> rfl

theorem State.setKennel_out (s : State) (n : Nat) (k : Kennel) : (s.setKennel n k).out = s.out :=
  (s.setKennel_frame n k).same .out rfl

theorem KennelSet.setKennel (s : State) (n : Nat) (k : Kennel) : KennelSet n k s (s.setKennel n k) := by
  refine ⟨?_, fun m hm => ?_⟩ <;> unfold State.kennel <;> rw [State.setKennel_knl]
  · exact Store.get_set_same ..
  · exact Store.get_set_ne _ _ _ hm

/-- A kennel set writes the words of a crossing of its mark, or none (R237). -/
theorem State.setKennel_words (s : State) (n : Nat) (k : Kennel) :
    (∀ j, (s.setKennel n k).word j = s.word j) ∨ ∀ j, (s.setKennel n k).word j = (s.cross n).word j := by
  unfold State.setKennel
  dsimp only
  split <;> split
  · exact .inr fun _ => rfl
  · exact .inr fun _ => rfl
  · exact .inl fun _ => rfl
  · exact .inl fun _ => rfl

theorem State.setKennel_word (s : State) {n j : Nat} (k : Kennel) (hcnt : j ≠ KNL.K_CROSSCNT n) (hhist : j ≠ KNL.K_HIST n) :
    (s.setKennel n k).word j = s.word j := by
  rcases s.setKennel_words n k with h | h <;> rw [h]
  exact (State.word_sqf_ne _ hhist).trans (State.word_inc_ne _ hcnt)

/-- The history of a kennel keeps its flags when the kennel is set. -/
theorem State.setKennel_flag {s : State} {n : Nat} {f : Fld} (k : Kennel) (hkey : f.key ≠ KNL.K_CROSSCNT n) (h1 : f.width = 1) (hlo : f.lo < 24)
    (hset : s.flag f = true) : (s.setKennel n k).flag f = true := by
  rcases s.setKennel_words n k with h | h <;> rw [State.flag_congr (h _)]
  · exact hset
  · exact State.flag_sqf_of_flag _ h1 hlo ((State.flag_congr (State.word_inc_ne s hkey)).trans hset)

/-- A word of the EVT block is none that a kennel set writes. -/
theorem State.setKennel_word_evt (s : State) {n j : Nat} (k : Kennel) (hj : j < 0x23000) : (s.setKennel n k).word j = s.word j :=
  s.setKennel_word k (by unfold KNL.K_CROSSCNT; omega) (by unfold KNL.K_HIST; omega)

/-- The counters of the ports are none that a kennel set writes. -/
theorem State.setKennel_rd_net (s : State) {n : Nat} (k : Kennel) (x : Nat) :
    (s.setKennel n k).rd (NET.TXFRAMES.val x) = s.rd (NET.TXFRAMES.val x) :=
  State.rd_congr (s.setKennel_word k (by unfold NET.TXFRAMES.val NET.TXFRAMES KNL.K_CROSSCNT; dsimp only; omega)
    (by unfold NET.TXFRAMES.val NET.TXFRAMES KNL.K_HIST; dsimp only; omega))

/-- An event of a kennel, before the kennel is set. -/
theorem EventCounted.setKennel {cnt mark : Fld} {code n : Nat} {s t : State} (h : EventCounted cnt mark code s t) (k : Kennel)
    (hcode : code < 0x1800) (hcnt : cnt.key ≠ KNL.K_CROSSCNT n) (hhist : cnt.key ≠ KNL.K_HIST n) (hmark : mark.key ≠ KNL.K_CROSSCNT n)
    (h1 : mark.width = 1) (hlo : mark.lo < 24) : EventCounted cnt mark code s (t.setKennel n k) :=
  ⟨(State.rd_congr (t.setKennel_word k hcnt hhist)).trans h.count, State.setKennel_flag k hmark h1 hlo h.mark,
    h.reported.before (t.setKennel_word_evt k (by unfold EVT.BLKCNT; omega)) (t.setKennel_word_evt k (by unfold EVT.IPEND; omega))⟩

/-! ## Refusals and errors of a kennel (R232, R234, R235) -/

theorem State.countRefused_counted (s : State) {n : Nat} (len : Nat) (hn : n < 64) :
    EventCounted (KNL.K_REFUSED.val n) (KNL.K_HIST.OVERRUN n) 0x1601 s (s.countRefused n len) := by
  have hcnt : reportKey (KNL.K_REFUSED n) = false := KNL.not_reportKey hn (by unfold KNL.K_REFUSED; omega) (by unfold KNL.K_REFUSED; omega)
  have hkeys : KNL.K_REFUSED n ≠ KNL.K_HIST n := by unfold KNL.K_REFUSED KNL.K_HIST; omega
  refine .report n len (by decide) hcnt (KNL.hist_not_reportKey hn) ?count ?mark fun _ hc hm => ?rest
  case count => exact (State.rd_inc_same _ (show 0 + 32 ≤ 32 by decide)).trans (by rw [State.rd_congr (State.word_sqf_ne _ hkeys)]; rfl)
  case mark => exact (State.flag_congr (State.word_inc_ne _ hkeys.symm)).trans (State.flag_sqf_same _ rfl (show 0 < 24 by decide))
  case rest => exact (State.word_inc_ne _ hc).trans (State.word_sqf_ne _ hm)

theorem State.kennelCorr_counted (s : State) {n : Nat} (a : Nat) (hn : n < 64) :
    EventCounted (KNL.K_CECNT.val n) (KNL.K_HIST.CORR n) 0x0203 s (s.kennelCorr n a) := by
  have hkeys : KNL.K_CECNT n ≠ KNL.K_HIST n := by unfold KNL.K_CECNT KNL.K_HIST; omega
  have hcnt : reportKey (KNL.K_CECNT n) = false := KNL.not_reportKey hn (by unfold KNL.K_CECNT; omega) (by unfold KNL.K_CECNT; omega)
  have hmem : (s.memCorr 2 a).word (KNL.K_CECNT n) = s.word (KNL.K_CECNT n) :=
    (State.report_word _ _ _ _ hcnt (by decide)).trans (State.word_inc_ne s (ne_of_not_reportKey hcnt (by decide)))
  have hkept : ∀ j, 0x20000 ≤ j ∧ j < 0x23000 → (s.kennelCorr n a).word j = (s.memCorr 2 a).word j := fun j hj =>
    (State.word_sqf_ne _ (ne_of_not_reportKey (KNL.hist_not_reportKey hn) hj).symm).trans (State.word_inc_ne _ (ne_of_not_reportKey hcnt hj).symm)
  have hreported : Reported 0x0203 s (s.memCorr 2 a) :=
    (State.report_reported _ _ _ _ (by decide)).after (State.word_inc_ne s (by decide)) (State.word_inc_ne s (by decide))
  refine ⟨?_, State.flag_sqf_same _ rfl (show 2 < 24 by decide), hreported.before (hkept _ (by decide)) (hkept _ (by decide))⟩
  rw [State.kennelCorr, State.rd_congr (State.word_sqf_ne _ hkeys), State.rd_inc_same _ (show 0 + 32 ≤ 32 by decide), State.rd_congr hmem]
  rfl

/-- A corrected error, before the kennel is set. -/
theorem State.kennelCorr_setKennel (s : State) {n : Nat} (a : Nat) (k : Kennel) (hn : n < 64) :
    EventCounted (KNL.K_CECNT.val n) (KNL.K_HIST.CORR n) 0x0203 s ((s.kennelCorr n a).setKennel n k) := by
  refine (s.kennelCorr_counted a hn).setKennel k (by decide) ?_ ?_ ?_ rfl (show 2 < 24 by decide)
  · unfold KNL.K_CECNT.val KNL.K_CECNT KNL.K_CROSSCNT; dsimp only; omega
  · unfold KNL.K_CECNT.val KNL.K_CECNT KNL.K_HIST; dsimp only; omega
  · unfold KNL.K_HIST.CORR KNL.K_HIST KNL.K_CROSSCNT; dsimp only; omega

theorem State.memUncorr_leaves (s : State) {m a k : Nat} (h : ReportLeaves 2 k) (hcnt : k ≠ EVT.MEMUNCORR m) :
    (s.memUncorr m a).word k = s.word k :=
  (State.report_leaves _ _ _ h).trans (State.word_inc_ne s hcnt)

theorem State.kennelUncorr_counted (s : State) {n : Nat} (a : Nat) (hn : n < 64) :
    EventCounted (KNL.K_UECNT.val n) (KNL.K_HIST.UNCORR n) 0x1602 s (s.kennelUncorr n a) := by
  have hcnt : reportKey (KNL.K_UECNT n) = false := KNL.not_reportKey hn (by unfold KNL.K_UECNT; omega) (by unfold KNL.K_UECNT; omega)
  have hkeys : KNL.K_UECNT n ≠ KNL.K_HIST n := by unfold KNL.K_UECNT KNL.K_HIST; omega
  have hcounted : EventCounted (KNL.K_UECNT.val n) (KNL.K_HIST.UNCORR n) 0x1602 (s.memUncorr 2 a) (s.kennelUncorr n a) :=
    .inc_sqf_report (s.memUncorr 2 a) n (a % 2 ^ 19) (by decide) hcnt (KNL.hist_not_reportKey hn) hkeys ⟨rfl, rfl⟩ rfl (show 3 < 24 by decide)
  exact hcounted.after
    (s.memUncorr_leaves (.of_not_reportKey (by decide) hcnt) (ne_of_not_reportKey hcnt (by decide)))
    (s.memUncorr_leaves (.of_other (by decide) (by decide) (by decide) (by decide)) (by decide))
    (s.memUncorr_leaves (.of_other (by decide) (by decide) (by decide) (by decide)) (by decide))

/-- An uncorrectable error, before the kennel is set. -/
theorem State.kennelUncorr_setKennel (s : State) {n : Nat} (a : Nat) (k : Kennel) (hn : n < 64) :
    EventCounted (KNL.K_UECNT.val n) (KNL.K_HIST.UNCORR n) 0x1602 s ((s.kennelUncorr n a).setKennel n k) := by
  refine (s.kennelUncorr_counted a hn).setKennel k (by decide) ?_ ?_ ?_ rfl (show 3 < 24 by decide)
  · unfold KNL.K_UECNT.val KNL.K_UECNT KNL.K_CROSSCNT; dsimp only; omega
  · unfold KNL.K_UECNT.val KNL.K_UECNT KNL.K_HIST; dsimp only; omega
  · unfold KNL.K_HIST.UNCORR KNL.K_HIST KNL.K_CROSSCNT; dsimp only; omega

/-- An uncorrectable word of a kennel leaves every word but its counters, its history and those of the two reports. -/
theorem State.kennelUncorr_leaves (s : State) {n a k : Nat} (h2 : ReportLeaves 2 k) (h16 : ReportLeaves 0x16 k) (hmem : k ≠ EVT.MEMUNCORR 2)
    (hcnt : k ≠ KNL.K_UECNT n) (hhist : k ≠ KNL.K_HIST n) : (s.kennelUncorr n a).word k = s.word k :=
  calc (s.kennelUncorr n a).word k
    _ = (((s.memUncorr 2 a).inc (KNL.K_UECNT.val n)).sqf (KNL.K_HIST.UNCORR n)).word k := State.report_leaves _ _ _ h16
    _ = (s.memUncorr 2 a).word k := (State.word_sqf_ne _ hhist).trans (State.word_inc_ne _ hcnt)
    _ = s.word k := s.memUncorr_leaves h2 hmem

/-! ## Words pushed (R224, R228, R229, R232, R233) -/

theorem exec_kennelWordPush {s : State} {n : Nat} (w : Nat) (last : Bool) (hn : n < 64) (hhost : hostPushes n = false)
    (hthere : s.kennelThere n = true) : exec (.kennelWordPush n w last) s = .next (s.push n (w % 2 ^ 64) last false none) :=
  congrArg _ (if_pos ⟨hn, hhost, hthere⟩)

/-- A kennel with one more word of the packet being pushed; the last word commits the packet (R229). -/
def Kennel.pushed (k : Kennel) (w : Nat) (last bad : Bool) (tag : Option TxTag) : Kennel :=
  if last then { k with pkts := k.pkts ++ [{ words := k.cur ++ [w], got := [], bad := bad, tag := tag }], cur := [], pushing := false }
  else { k with cur := k.cur ++ [w], pushing := true }

/-- A kennel that ignores a word of a refused packet; the last word ends the packet (R232). -/
def Kennel.ignored (k : Kennel) (last : Bool) : Kennel := if last then { k with pushing := false, ignoring := false } else k

section
variable {s : State} {n : Nat} (w : Nat) (last bad : Bool) (tag : Option TxTag)

theorem State.push_room (h : (s.kennel n).ignoring = false) (hroom : s.kennelFull n = false) :
    s.push n w last bad tag = s.setKennel n ((s.kennel n).pushed w last bad tag) := by
  unfold State.push
  rw [if_neg (by simp [h]), if_neg (by simp [hroom])]
  cases last <;> rfl

theorem State.push_full (h : (s.kennel n).ignoring = false) (hfull : s.kennelFull n = true) :
    s.push n w last bad tag = s.refusePush n w last := by
  unfold State.push
  rw [if_neg (by simp [h]), if_pos hfull]

/-- The words that follow a refusal change nothing but where the packet ends. -/
theorem State.push_ignored (h : (s.kennel n).ignoring = true) :
    KennelSet n ((s.kennel n).ignored last) s (s.push n w last bad tag) ∧ Frame [.live, .knl, .net] s (s.push n w last bad tag) := by
  unfold State.push
  rw [if_pos h]
  cases last
  · exact ⟨⟨rfl, fun _ _ => rfl⟩, Frame.refl _ s⟩
  · exact ⟨.setKennel .., s.setKennel_frame ..⟩

end

theorem State.countRefused_knl (s : State) (n len : Nat) : (s.countRefused n len).knl = s.knl := (State.countRefused_frame ..).same .knl rfl

/-- A kennel after a refused push: the words of the packet are gone, and the rest of it will be ignored (R232, R233). -/
def State.refusedKennel (s : State) (n : Nat) (last : Bool) : Kennel :=
  { s.kennel n with cur := [], pushing := !last, ignoring := !last, marker := (s.kennel n).marker || s.readingInto n }

theorem State.refusePush_eq (s : State) (n w : Nat) (last : Bool) : s.refusePush n w last =
    (s.setKennel n (s.refusedKennel n last)).countRefused n (headerLen ((s.kennel n).cur.headD w)) := rfl

theorem State.refusePush_kennel (s : State) (n w : Nat) (last : Bool) : KennelSet n (s.refusedKennel n last) s (s.refusePush n w last) := by
  rw [State.refusePush_eq]
  exact (KennelSet.setKennel s n _).of_knl rfl (State.countRefused_knl ..)

/-- A refused push is counted, marked and reported. -/
theorem State.refusePush_counted (s : State) {n : Nat} (w : Nat) (last : Bool) (hn : n < 64) :
    EventCounted (KNL.K_REFUSED.val n) (KNL.K_HIST.OVERRUN n) 0x1601 s (s.refusePush n w last) := by
  rw [State.refusePush_eq]
  refine (State.countRefused_counted _ _ hn).after (s.setKennel_word _ ?_ ?_) (s.setKennel_word_evt _ ?_) (s.setKennel_word_evt _ ?_)
  · unfold KNL.K_REFUSED.val KNL.K_REFUSED KNL.K_CROSSCNT; dsimp only; omega
  · unfold KNL.K_REFUSED.val KNL.K_REFUSED KNL.K_HIST; dsimp only; omega
  · unfold EVT.BLKCNT; omega
  · unfold EVT.IPEND; omega

/-! ## Words popped (R229, R234) -/

section
variable {s : State} {n : Nat} {p : KPacket} {ps : List KPacket} (a : Nat)

/-- A word that is not the last of its packet. -/
theorem exec_kennelWordPop_word (hn : n < 64) (hpop : s.mayPop n = true) (hpkts : (s.kennel n).pkts = p :: ps) {w : Nat} {ws : List Nat}
    (hw : p.words = w :: ws) (hws : ws ≠ []) {err : Nat} (herr : err ≠ 2) : exec (.kennelWordPop n err a) s =
      .next ((if err = 1 then s.kennelCorr n a else s).setKennel n
        { s.kennel n with pkts := { p with words := ws, got := p.got ++ [w] } :: ps }) := by
  show execKennelWordPop n err a s = _
  simp [execKennelWordPop, hn, hpop, hpkts, hw, hws, herr]

/-- The last word of a packet goes to the consumer with it. -/
theorem exec_kennelWordPop_last (hn : n < 64) (hpop : s.mayPop n = true) (hpkts : (s.kennel n).pkts = p :: ps) {w : Nat}
    (hw : p.words = [w]) : exec (.kennelWordPop n 0 a) s =
      .next ((s.setKennel n { s.kennel n with pkts := ps }).consumed n { p with words := [], got := p.got ++ [w] }) := by
  show execKennelWordPop n 0 a s = _
  simp [execKennelWordPop, hn, hpop, hpkts, hw]

/-- The state after an uncorrectable word has taken the packet at the head of kennel `n` away, and left `ps` (R235). -/
def State.headDropped (s : State) (n a : Nat) (ps : List KPacket) : State := (s.kennelUncorr n a).setKennel n { s.kennel n with pkts := ps }

/-- The same, where that packet was `p` and a port that was sending it has broken it off (R235). -/
def State.headLost (s : State) (n a : Nat) (p : KPacket) (ps : List KPacket) : State :=
  match portOf n with
  | some x => (s.headDropped n a ps).breakOff x (some p)
  | none => s.headDropped n a ps

/-- A packet of a transmit flow is rebuilt or lost. -/
theorem exec_kennelWordPop_uncorr (hn : n < 64) (hpop : s.mayPop n = true) (hpkts : (s.kennel n).pkts = p :: ps) :
    exec (.kennelWordPop n 2 a) s =
      .next (p.tag.elim (s.headLost n a p ps) fun g => (s.headLost n a p ps).rebuild n (p.got ++ p.words) g) := by
  show execKennelWordPop n 2 a s = _
  cases htag : p.tag <;> simp only [execKennelWordPop, hn, hpop, hpkts, htag, and_self, if_true] <;> rfl

end

/-! ## Consumers (R229) -/

/-- A port that has popped the last word puts the frame on the wire. -/
theorem State.consumed_port {s : State} {n x : Nat} (p : KPacket) (h : portOf n = some x) : s.consumed n p =
    ((s.setPort x { s.port x with sending := none }).inc (NET.TXFRAMES.val x)).emit (.frame x (frameOf p.got)) := by
  simp only [State.consumed, h]

theorem State.port_setPort_same (s : State) (x : Nat) (p : Port) : (s.setPort x p).port x = p := Store.get_set_same _ _ _ _

/-- The port is free again, and the frame is counted and on the wire; no kennel changes. -/
theorem State.consumed_port_sent (s : State) {n x : Nat} (p : KPacket) (h : portOf n = some x) :
    (s.consumed n p).knl = s.knl ∧ ((s.consumed n p).port x).sending = none ∧ (s.consumed n p).out = .frame x (frameOf p.got) :: s.out ∧
      (s.consumed n p).rd (NET.TXFRAMES.val x) = (s.rd (NET.TXFRAMES.val x) + 1) % 2 ^ 32 ∧ Frame [.live, .net, .out] s (s.consumed n p) := by
  rw [State.consumed_port p h]
  refine ⟨rfl, ?sending, rfl, ?count, ?frame⟩
  case sending =>
    show ((s.setPort x { s.port x with sending := none }).port x).sending = none
    rw [State.port_setPort_same]
  case count => exact State.rd_inc_same (s.setPort x { s.port x with sending := none }) (show 0 + 32 ≤ 32 by decide)
  case frame => exact (((s.setPort_frame x _).weaken rfl).seq (State.inc_frame ..) rfl).seq (State.emit_frame ..) rfl

/-- The state that has put out `os`, the oldest first. -/
def State.emitAll (s : State) (os : List Output) : State := { s with out := os.reverse ++ s.out }

theorem State.emitAll_knl (s : State) (os : List Output) : (s.emitAll os).knl = s.knl := rfl

theorem State.emitAll_out (s : State) (os : List Output) : (s.emitAll os).out = os.reverse ++ s.out := rfl

theorem State.emitAll_frame (s : State) (os : List Output) : Frame [.out] s (s.emitAll os) := (Frame.refl _ s).set_out rfl

theorem State.foldl_emit (f : Nat → Output) (ws : List Nat) (s : State) : ws.foldl (fun s w => s.emit (f w)) s = s.emitAll (ws.map f) := by
  induction ws generalizing s with
  | nil => rfl
  | cons w ws ih =>
    rw [List.foldl_cons, ih]
    simp [State.emitAll, State.emit]

/-- The pair link takes the words of K15 as they are. -/
theorem State.consumed_k15 (s : State) (p : KPacket) : s.consumed 15 p = s.emitAll (p.got.map (Output.word 15)) :=
  State.foldl_emit (Output.word 15) p.got s

/-! ## Packets taken away (R214, R235) -/

section
variable (s : State) {n : Nat} (a : Nat) (p : KPacket) (ps : List KPacket)

/-- Breaking a frame off leaves the words and the kennels as they were. -/
theorem State.headLost_breakOff_frame : Frame [.net, .out] (s.headDropped n a ps) (s.headLost n a p ps) := by
  unfold State.headLost
  split
  · exact State.breakOff_frame ..
  · exact Frame.refl ..

theorem State.headLost_kennel : KennelSet n { s.kennel n with pkts := ps } s (s.headLost n a p ps) :=
  (KennelSet.setKennel ..).of_knl ((s.kennelUncorr_frame n a).same .knl rfl) ((s.headLost_breakOff_frame a p ps).same .knl rfl)

theorem State.headLost_frame : Frame [.live, .evt, .knl, .net, .out] s (s.headLost n a p ps) :=
  (((s.kennelUncorr_frame n a).weaken rfl).seq (State.setKennel_frame ..) rfl).seq (s.headLost_breakOff_frame a p ps) rfl

theorem State.headLost_counted (hn : n < 64) :
    EventCounted (KNL.K_UECNT.val n) (KNL.K_HIST.UNCORR n) 0x1602 s (s.headLost n a p ps) :=
  (s.kennelUncorr_setKennel a _ hn).of_live ((s.headLost_breakOff_frame a p ps).same .live rfl)

/-- A word outside the kennels' registers stays, where neither report writes it. -/
theorem State.headLost_word {k : Nat} (hknl : k < 0x160100 ∨ 0x161100 ≤ k) (hn : n < 64) (h2 : ReportLeaves 2 k) (h16 : ReportLeaves 0x16 k)
    (hmem : k ≠ EVT.MEMUNCORR 2) : (s.headLost n a p ps).word k = s.word k :=
  calc (s.headLost n a p ps).word k
    _ = (s.headDropped n a ps).word k := State.word_congr ((s.headLost_breakOff_frame a p ps).same .live rfl) k
    _ = (s.kennelUncorr n a).word k := State.setKennel_word _ _ (by unfold KNL.K_CROSSCNT; omega) (by unfold KNL.K_HIST; omega)
    _ = s.word k := s.kennelUncorr_leaves h2 h16 hmem (by unfold KNL.K_UECNT; omega) (by unfold KNL.K_HIST; omega)

theorem State.headLost_word_of_not_reportKey {k : Nat} (hknl : k < 0x160100 ∨ 0x161100 ≤ k) (hn : n < 64) (h : reportKey k = false) :
    (s.headLost n a p ps).word k = s.word k :=
  s.headLost_word a p ps hknl hn (.of_not_reportKey (by decide) h) (.of_not_reportKey (by decide) h) (ne_of_not_reportKey h (by decide))

end

/-- A transmit packet met by the error after its boundary is lost (R214). -/
theorem State.rebuild_late {s : State} {n : Nat} (words : List Nat) {g : TxTag} (h : s.tick ≠ g.due) : s.rebuild n words g =
    ((s.inc (TS.LOST g.flow)).sqf FLOW.TXHIST.LOST).report 0x0D12 g.flow (g.seq + g.path * 2 ^ 16) := if_neg h

theorem State.rebuild_late_counted {s : State} {n : Nat} (words : List Nat) {g : TxTag} (h : s.tick ≠ g.due) :
    EventCounted (TS.LOST g.flow) FLOW.TXHIST.LOST 0x0D12 s (s.rebuild n words g) := by
  rw [State.rebuild_late words h]
  exact .inc_sqf_report s _ _ (by decide) (TS.not_reportKey g.flow (by decide) (by decide)) (by decide)
    (by unfold TS.LOST TS.word FLOW.TXHIST.LOST FLOW.TXHIST; dsimp only; omega) ⟨rfl, rfl⟩ rfl (by decide)

theorem State.rebuild_late_knl {s : State} {n : Nat} (words : List Nat) {g : TxTag} (h : s.tick ≠ g.due) : (s.rebuild n words g).knl = s.knl := by
  rw [State.rebuild_late words h, State.report_knl, State.sqf_knl, State.inc_knl]

theorem State.headLost_tick (s : State) {n : Nat} (a : Nat) (p : KPacket) (ps : List KPacket) (hn : n < 64) : (s.headLost n a p ps).tick = s.tick :=
  State.rd_congr (s.headLost_word_of_not_reportKey a p ps (.inl (by decide)) hn (by decide))

/-- A transmit packet met by an uncorrectable word after its boundary is counted, marked and reported as lost. -/
theorem State.headLost_lost (s : State) {n : Nat} (a : Nat) (p : KPacket) (ps : List KPacket) {g : TxTag} (hn : n < 64) (h : s.tick ≠ g.due) :
    EventCounted (TS.LOST g.flow) FLOW.TXHIST.LOST 0x0D12 s ((s.headLost n a p ps).rebuild n (p.got ++ p.words) g) := by
  rw [← s.headLost_tick a p ps hn] at h
  have hflow : 0x80060000 ≤ (TS.LOST g.flow).key := by unfold TS.LOST TS.word; dsimp only; omega
  have hblock : ∀ k, 0x20100 ≤ k → k < 0x20500 → k ∉ [EVT.BLKCNT 2, EVT.IPEND 2, EVT.BLKCNT 0x16, EVT.IPEND 0x16] →
      (s.headLost n a p ps).word k = s.word k := fun k hlo hhi hk => by
    simp only [List.mem_cons, List.not_mem_nil, or_false, not_or] at hk
    obtain ⟨hcnt, hpend, hcnt', hpend'⟩ := hk
    exact s.headLost_word a p ps (.inl (by omega)) hn (.of_other hlo (by omega) hcnt hpend) (.of_other hlo (by omega) hcnt' hpend')
      (by unfold EVT.MEMUNCORR; omega)
  exact (State.rebuild_late_counted _ h).after
    (s.headLost_word_of_not_reportKey a p ps (.inr (by omega)) hn (TS.not_reportKey g.flow (by decide) (by decide)))
    (hblock _ (by decide) (by decide) (by decide)) (hblock _ (by decide) (by decide) (by decide))

/-- Settles O26: each push and each pop by the kennel that it sets and the event that it counts. -/
theorem kennelPushesAndPops : Obligations.KennelPushesAndPops := by
  unfold Obligations.KennelPushesAndPops
  refine ⟨?push, ?pop⟩
  case push =>
    intro n w last s k hn hhost hthere
    have hexec := exec_kennelWordPush w last hn hhost hthere
    refine ⟨fun hk hroom => ?room, fun hk hfull => ?full, fun hk => ?ignored⟩
    case room =>
      rw [State.push_room _ _ _ _ hk hroom] at hexec
      obtain ⟨hkennel, hothers⟩ := KennelSet.setKennel s n ((s.kennel n).pushed (w % 2 ^ 64) last false none)
      exact ⟨_, hexec, hkennel, hothers, s.setKennel_frame ..⟩
    case full =>
      rw [State.push_full _ _ _ _ hk hfull] at hexec
      obtain ⟨hkennel, hothers⟩ := s.refusePush_kennel n (w % 2 ^ 64) last
      obtain ⟨hcount, hmark, hreported⟩ := s.refusePush_counted (w % 2 ^ 64) last hn
      exact ⟨_, hexec, hkennel, hcount, hmark, hreported, hothers, s.refusePush_frame ..⟩
    case ignored =>
      obtain ⟨⟨hkennel, hothers⟩, hframe⟩ := State.push_ignored (w % 2 ^ 64) last false none hk
      exact ⟨_, hexec, hkennel, hothers, hframe⟩
  case pop =>
    intro n a w ws p ps s k hn hpop hpkts
    refine ⟨fun hw hws => ?word, fun hw hws => ?corrected, fun hw h15 => ?pair, fun x hw hx => ?port, fun g hg hlate => ?lost, fun hg => ?uncorrectable⟩
    case word =>
      obtain ⟨hkennel, hothers⟩ := KennelSet.setKennel s n { s.kennel n with pkts := { p with words := ws, got := p.got ++ [w] } :: ps }
      exact ⟨_, exec_kennelWordPop_word a hn hpop hpkts hw hws (by decide), hkennel, hothers, s.setKennel_frame ..⟩
    case corrected =>
      obtain ⟨hcount, hmark, hreported⟩ := s.kennelCorr_setKennel a { s.kennel n with pkts := { p with words := ws, got := p.got ++ [w] } :: ps } hn
      exact ⟨_, exec_kennelWordPop_word a hn hpop hpkts hw hws (by decide), (KennelSet.setKennel ..).kennel, hcount, hmark, hreported,
        ((s.kennelCorr_frame n a).weaken rfl).seq (State.setKennel_frame ..) rfl⟩
    case pair =>
      subst h15
      have hexec := exec_kennelWordPop_last a hn hpop hpkts hw
      rw [State.consumed_k15] at hexec
      obtain ⟨hkennel, hothers⟩ := (KennelSet.setKennel s 15 { s.kennel 15 with pkts := ps }).of_knl rfl (State.emitAll_knl ..)
      exact ⟨_, hexec, hkennel, (State.emitAll_out ..).trans (by rw [State.setKennel_out]), hothers,
        ((s.setKennel_frame ..).weaken rfl).seq (State.emitAll_frame ..) rfl⟩
    case port =>
      have hexec := exec_kennelWordPop_last a hn hpop hpkts hw
      obtain ⟨hknl, hsending, hout, hcount, hframe⟩ := (s.setKennel n { s.kennel n with pkts := ps }).consumed_port_sent
        { p with words := [], got := p.got ++ [w] } hx
      obtain ⟨hkennel, hothers⟩ := (KennelSet.setKennel s n { s.kennel n with pkts := ps }).of_knl rfl hknl
      rw [State.setKennel_out] at hout
      rw [State.setKennel_rd_net] at hcount
      exact ⟨_, hexec, hkennel, hsending, hout, hcount, hothers, ((s.setKennel_frame ..).weaken rfl).seq hframe rfl⟩
    case lost =>
      have hexec := exec_kennelWordPop_uncorr a hn hpop hpkts
      rw [hg] at hexec
      have hlate' : (s.headLost n a p ps).tick ≠ g.due := by rwa [s.headLost_tick a p ps hn]
      obtain ⟨hkennel, hothers⟩ := (s.headLost_kennel a p ps).of_knl rfl (State.rebuild_late_knl (n := n) (p.got ++ p.words) hlate')
      obtain ⟨hcount, hmark, hreported⟩ := s.headLost_lost a p ps hn hlate
      exact ⟨_, hexec, hkennel, hcount, hmark, hreported, hothers, (s.headLost_frame a p ps).seq (State.rebuild_frame ..) rfl⟩
    case uncorrectable =>
      have hexec := exec_kennelWordPop_uncorr a hn hpop hpkts
      rw [hg] at hexec
      obtain ⟨hcount, hmark, hreported⟩ := s.headLost_counted a p ps hn
      exact ⟨_, hexec, (s.headLost_kennel a p ps).kennel, hcount, hmark, hreported, s.headLost_frame a p ps⟩

end Sys2Proof.Machine
end

section
/-!
PROOFS. A kennel reset and the packets that the depacketizer holds back (R187, R236, R238).
-/

namespace Sys2Proof.Machine

/-- The state in which every port that sends from kennel `n` has broken its frame off, as the reset of the kennel makes it (R235, R238). -/
def State.sendersBroken (s : State) (n : Nat) : State :=
  s.eachBelow (fun t x => if (t.port x).sending = some n then t.breakOff x (s.kennel n).pkts.head? else t) 3

theorem State.report_rxHeld (s : State) (code source data : Nat) : (s.report code source data).rxHeld = s.rxHeld :=
  (State.report_frame ..).same .rxHeld rfl

theorem State.setKennel_rxHeld (s : State) (n : Nat) (k : Kennel) : (s.setKennel n k).rxHeld = s.rxHeld :=
  (State.setKennel_frame ..).same .rxHeld rfl

theorem State.sendersBroken_frame (s : State) (n : Nat) : Frame [.net, .out] s (s.sendersBroken n) :=
  Frame.eachBelow 3 (fun _ _ hx => Frame.ite (fun _ => hx.trans (State.breakOff_frame ..)) fun _ => hx) (Frame.refl _ s)

theorem State.sendersBroken_rxHeld (s : State) (n : Nat) : (s.sendersBroken n).rxHeld = s.rxHeld :=
  (s.sendersBroken_frame n).same .rxHeld rfl

/-- The state in which the depacketizer no longer holds a packet of kennel `n` back. -/
def State.released (s : State) (n : Nat) : State := { s with rxHeld := NatSet.drop s.rxHeld (fun x => x == n) }

theorem State.released_rxHeld (s : State) (n : Nat) : (s.released n).rxHeld = NatSet.drop s.rxHeld (fun x => x == n) := rfl

/-- After the ports and the depacketizer, a reset sets the kennel, counts what it drops, marks itself and reports (R238). -/
theorem State.resetKennel_eq (s : State) (n fault : Nat) : ∃ k dropped data, s.resetKennel n fault =
    (((((s.sendersBroken n).released n).setKennel n k).add (KNL.K_RSTDROP.val n) dropped).sqf (KNL.K_HIST.RESET n)).report 0x1603 n data :=
  ⟨_, _, _, rfl⟩

/-- A kennel reset lets go of the packet of kennel `n` that the depacketizer holds back, whichever kennel `n` is (R187, R238). -/
theorem State.resetKennel_rxHeld (s : State) (n fault : Nat) :
    (s.resetKennel n fault).rxHeld = NatSet.drop s.rxHeld (fun x => x == n) := by
  obtain ⟨k, dropped, data, hreset⟩ := s.resetKennel_eq n fault
  rw [hreset, State.report_rxHeld, State.sqf_rxHeld, State.add_rxHeld, State.setKennel_rxHeld, State.released_rxHeld, State.sendersBroken_rxHeld]

/-- A boundary-store fault counts the error, resets the kennel and reports twice (R236, R510). -/
theorem exec_kennelBoundaryFault (s : State) {n : Nat} (hn : n < 64) : ∃ data, exec (.kennelBoundaryFault n) s =
    .next ((((s.inc (EVT.MEMUNCORR.val 3)).resetKennel n 1).report 0x0205 0x16 6).report 0x0206 0x16 data) :=
  ⟨_, congrArg Host.Outcome.next (if_pos hn)⟩

theorem exec_kennelBoundaryFault_rxHeld {s t : State} {n : Nat} (hn : n < 64) (h : exec (.kennelBoundaryFault n) s = .next t) :
    t.rxHeld = NatSet.drop s.rxHeld (fun x => x == n) := by
  obtain ⟨data, hexec⟩ := exec_kennelBoundaryFault s hn
  rw [← Host.Outcome.next.inj (hexec.symm.trans h), State.report_rxHeld, State.report_rxHeld, State.resetKennel_rxHeld, State.inc_rxHeld]

/-- The state after reset, with a packet of K2, a transmit kennel of Port A, marked as held back by the depacketizer. -/
def holdingK2 : State := { State.reset with rxHeld := [2] }

/-- Refutes O27: no reset leaves the packets held back as they were in every state, as the statement asks for the kennels from K2 on. A reset takes the
mark of its own kennel away (`State.resetKennel_rxHeld`), so the boundary-store fault of K2 empties the held set of `holdingK2`. The depacketizer holds
packets of K0 and K1 only (R187, R224), so no command reaches such a state from reset, but no premise of the statement leaves it out. -/
theorem not_kennelResetsAndHostWindows : ¬ Obligations.KennelResetsAndHostWindows := by
  unfold Obligations.KennelResetsAndHostWindows
  rintro ⟨hreset, -⟩
  obtain ⟨-, -, t, hexec, -, -, -, -, -, -, -, hheld, -⟩ := hreset .pcie 2 holdingK2 (by decide)
  have hkept : t.rxHeld = [2] := hheld (by decide)
  have hdropped : t.rxHeld = [] := exec_kennelBoundaryFault_rxHeld (by decide) hexec
  rw [hkept] at hdropped
  exact absurd hdropped (by decide)

end Sys2Proof.Machine
end

section
/-!
PROOFS. The muzzle's transitions of one lane: falls and rises that are complete, a rise after a hold, waits that time out (R250, R251, R255 to R257).
-/

namespace Sys2Proof.Machine

/-! ## Lanes as a store -/

/-- From `s` to `t` the muzzle lane of channel `c` of buffer `b` becomes `l`, and no other lane changes. -/
structure LaneSet (b c : Nat) (l : MuzLane) (s t : State) : Prop where
  lane : t.lane b c = l
  others : ∀ x y, y < 2 ^ 14 → (x, y) ≠ (b, c) → t.lane x y = s.lane x y

theorem laneKey_ne {b c x y : Nat} (hc : c < 2 ^ 14) (hy : y < 2 ^ 14) (h : (x, y) ≠ (b, c)) : laneKey x y ≠ laneKey b c := by
  rw [Ne, Prod.mk.injEq] at h
  unfold laneKey
  omega

theorem State.lane_congr {s t : State} (h : t.muz = s.muz) (b c : Nat) : t.lane b c = s.lane b c := by
  unfold State.lane
  rw [h]

theorem State.lane_setLane_same (s : State) (b c : Nat) (l : MuzLane) : (s.setLane b c l).lane b c = l := Store.get_set_same _ _ _ _

/-- The words do not depend on the lanes. -/
theorem State.setLane_word (s : State) (b c : Nat) (l : MuzLane) (k : Nat) : (s.setLane b c l).word k = s.word k := State.word_congr rfl k

theorem State.setLane_rd (s : State) (b c : Nat) (l : MuzLane) (f : Fld) : (s.setLane b c l).rd f = s.rd f := State.rd_congr (State.setLane_word ..)

section
variable {b c : Nat} {l l' : MuzLane} {s t u : State}

theorem LaneSet.setLane (s : State) (b : Nat) (l : MuzLane) (hc : c < 2 ^ 14) : LaneSet b c l s (s.setLane b c l) :=
  ⟨State.lane_setLane_same .., fun _ _ hy h => Store.get_set_ne _ _ _ (laneKey_ne hc hy h)⟩

theorem LaneSet.trans (h : LaneSet b c l s t) (k : LaneSet b c l' t u) : LaneSet b c l' s u :=
  ⟨k.lane, fun x y hy hxy => (k.others x y hy hxy).trans (h.others x y hy hxy)⟩

/-- Operations before and after that leave the lanes alone. -/
theorem LaneSet.of_muz {s' t' : State} (h : LaneSet b c l s t) (hs : s.muz = s'.muz) (ht : t'.muz = t.muz) : LaneSet b c l s' t' :=
  ⟨(State.lane_congr ht b c).trans h.lane,
    fun x y hy hxy => (State.lane_congr ht x y).trans ((h.others x y hy hxy).trans (State.lane_congr hs x y))⟩

end

/-! ## Counters of the Muzzle Status Table (R265, R266) -/

/-- Word `w` of the status record of buffer `b`, as a field. -/
def MS.count (b w : Nat) : Fld := ⟨MS.word b w, 0, 32⟩

theorem State.num_setNum_same (s : State) (k v : Nat) : (s.setNum k v).num k = v % 2 ^ 32 := by
  unfold State.num State.setNum
  rw [State.word_setWord_same, BitVec.toNat_ofNat]

theorem State.rd_MS_count (s : State) (b w : Nat) : s.rd (MS.count b w) = s.num (MS.word b w) := by
  show (s.word (MS.word b w)).toNat / 2 ^ 0 % 2 ^ 32 = (s.word (MS.word b w)).toNat
  rw [pow_zero, Nat.div_one, Nat.mod_eq_of_lt (s.word _).isLt]

theorem MS.not_reportKey {b w : Nat} (hb : b < 8192) (hw : w < 8) : reportKey (MS.word b w) = false :=
  not_reportKey_of_above (by unfold MS.word; omega) (by unfold MS.word msixPending; omega)

theorem MS.word_ne_hist (b w : Nat) : MS.word b w ≠ HRD.HIST := by
  unfold MS.word HRD.HIST
  omega

/-- An event of the muzzle advances its counter in the buffer's record, sets its sticky flag, and is reported. -/
theorem EventCounted.setNum_sqf_report {b w code : Nat} {mark : Fld} (s : State) (source data : Nat) (hb : b < 8192) (hw : w < 8)
    (hcode : code < 0x1800) (hkey : mark.key = HRD.HIST) (h1 : mark.width = 1) (hlo : mark.lo < 24) :
    EventCounted (MS.count b w) mark code s
      (((s.setNum (MS.word b w) (s.num (MS.word b w) + 1)).sqf mark).report code source data) := by
  have hne : MS.word b w ≠ mark.key := hkey ▸ MS.word_ne_hist b w
  refine .report source data hcode (MS.not_reportKey hb hw) (hkey ▸ by decide) ?count (State.flag_sqf_same _ h1 hlo) ?rest
  case count => rw [State.rd_congr (State.word_sqf_ne _ hne), State.rd_MS_count, State.num_setNum_same, State.rd_MS_count]
  case rest => exact fun k hcnt hmark => (State.word_sqf_ne _ hmark).trans (State.word_setNum_ne s _ hcnt)

/-- A counted event of the muzzle, read as the number in its word. -/
theorem EventCounted.num {b w code : Nat} {mark : Fld} {s t : State} (h : EventCounted (MS.count b w) mark code s t) :
    t.num (MS.word b w) = (s.num (MS.word b w) + 1) % 2 ^ 32 := by
  rw [← State.rd_MS_count, h.count, State.rd_MS_count]

/-! ## Ramps begun (R250, R251) -/

section
variable (s : State) {b c : Nat}

theorem State.countRise_counted (c : Nat) (hb : b < 8192) :
    EventCounted (MS.count b 1) HRD.HIST.RISE 0x1702 s (s.countRise b c) :=
  .setNum_sqf_report s b c hb (by decide) (by decide) rfl rfl (by decide)

theorem State.countTimeout_counted (c : Nat) (hb : b < 8192) :
    EventCounted (MS.count b 3) HRD.HIST.ZC_TIMEOUT 0x1703 s (s.countTimeout b c) :=
  .setNum_sqf_report s b c hb (by decide) (by decide) rfl rfl (by decide)

theorem State.countRise_muz (b c : Nat) : (s.countRise b c).muz = s.muz := (State.countRise_frame ..).same .muz rfl

theorem State.countTimeout_muz (b c : Nat) : (s.countTimeout b c).muz = s.muz := (State.countTimeout_frame ..).same .muz rfl

theorem State.countFall_muz (b c : Nat) : (s.countFall b c).muz = s.muz := (State.countFall_frame ..).same .muz rfl

/-- The start of a rise touches one word of the muzzle's records alone. -/
theorem State.countRise_word {j : Nat} (c : Nat) (hrep : reportKey j = false) (hhist : j ≠ HRD.HIST) (h1 : j ≠ MS.word b 1) :
    (s.countRise b c).word j = s.word j := by
  unfold State.countRise
  rw [State.report_word _ _ _ _ hrep (by decide), State.word_sqf_ne _ hhist, State.word_setNum_ne _ _ h1]

/-- The start of a fall touches its count and its tick alone. -/
theorem State.countFall_word {j : Nat} (c : Nat) (hrep : reportKey j = false) (hhist : j ≠ HRD.HIST) (h0 : j ≠ MS.word b 0) (h5 : j ≠ MS.word b 5) :
    (s.countFall b c).word j = s.word j := by
  unfold State.countFall
  rw [State.report_word _ _ _ _ hrep (by decide), State.word_sqf_ne _ hhist, State.word_setNum_ne _ _ h5, State.word_setNum_ne _ _ h0]

/-- A lane set to rise, with the rise counted. -/
theorem State.setLane_countRise (l : MuzLane) (hb : b < 8192) (hc : c < 2 ^ 14) :
    LaneSet b c l s ((s.setLane b c l).countRise b c) ∧
      EventCounted (MS.count b 1) HRD.HIST.RISE 0x1702 s ((s.setLane b c l).countRise b c) :=
  ⟨(LaneSet.setLane s b l hc).of_muz rfl (State.countRise_muz ..),
    (State.countRise_counted _ c hb).after (State.setLane_word ..) (State.setLane_word ..) (State.setLane_word ..)⟩

/-- A rise of `q` samples, for `q` above 0. -/
theorem State.beginRise_eq (b c : Nat) {q : Nat} (hq : q ≠ 0) : s.beginRise b c q =
    (s.setLane b c { s.lane b c with st := .rising, k := 0, len := q }).countRise b c := by
  unfold State.beginRise
  rw [if_neg hq]

theorem State.beginFall_lane (hc : c < 2 ^ 14) (f : Nat) (after : AfterFall) :
    LaneSet b c { s.lane b c with st := .falling, x0 := (s.lane b c).last, k := 0, len := f, hold := 0, after := after } s
      (s.beginFall b c f after) :=
  (LaneSet.setLane s b _ hc).of_muz rfl (State.countFall_muz ..)

theorem State.beginFall_word {j : Nat} (c f : Nat) (after : AfterFall) (hrep : reportKey j = false) (hhist : j ≠ HRD.HIST)
    (h0 : j ≠ MS.word b 0) (h5 : j ≠ MS.word b 5) : (s.beginFall b c f after).word j = s.word j :=
  (State.countFall_word _ c hrep hhist h0 h5).trans (State.setLane_word ..)

/-- 32 m samples are never none. -/
theorem State.shortRamp_ne_zero (b : Nat) : 32 * s.bufM b ≠ 0 :=
  Nat.mul_ne_zero (by decide) (Nat.two_pow_pos _).ne'

end

/-! ## What follows a complete fall (R250, R255, R256) -/

@[simp] theorem MuzLane.ontoNew_after (l : MuzLane) : l.ontoNew.after = l.after := by
  unfold MuzLane.ontoNew
  split <;> rfl

@[simp] theorem MuzLane.ontoNew_hold (l : MuzLane) : l.ontoNew.hold = l.hold := by
  unfold MuzLane.ontoNew
  split <;> rfl

/-- The lane in STARTWAIT on its new route. -/
def MuzLane.startWaiting (l : MuzLane) : MuzLane := { l.ontoNew with st := .startwait, waited := 0, after := .plain }

section
variable {s : State} {b c : Nat}

theorem State.fallDone_of_plain (h : (s.lane b c).after = .plain) : s.fallDone b c =
    s.setLane b c { (s.lane b c).ontoNew with st := if 1 ≤ (s.lane b c).hold then .holding else .silent } := by
  simp only [State.fallDone, MuzLane.ontoNew_after, MuzLane.ontoNew_hold, h]

theorem State.fallDone_of_gated (h : (s.lane b c).after = .gated) : s.fallDone b c =
    s.setLane b c { (s.lane b c).ontoNew with st := .gated, after := .plain } := by
  simp only [State.fallDone, MuzLane.ontoNew_after, h]

theorem State.fallDone_of_startwait (h : (s.lane b c).after = .startwait) : s.fallDone b c = s.enterStart b c := by
  simp only [State.fallDone, MuzLane.ontoNew_after, h]

theorem State.enterStart_of_timeout_ne_zero (b c : Nat) (h : s.rd HRD.ZCTIME.TIMEOUT ≠ 0) :
    s.enterStart b c = s.setLane b c (s.lane b c).startWaiting :=
  if_neg (by rwa [State.setLane_rd])

/-- With no time to wait, STARTWAIT rises at once over 32 m samples (R256, R572). -/
theorem State.enterStart_of_timeout_eq_zero (b c : Nat) (h : s.rd HRD.ZCTIME.TIMEOUT = 0) :
    s.enterStart b c = (s.setLane b c (s.lane b c).startWaiting).beginRise b c (32 * s.bufM b) :=
  if_pos (by rwa [State.setLane_rd])

theorem State.enterStart_rises (hb : b < 8192) (hc : c < 2 ^ 14) (h : s.rd HRD.ZCTIME.TIMEOUT = 0) :
    LaneSet b c { (s.lane b c).startWaiting with st := .rising, k := 0, len := 32 * s.bufM b } s (s.enterStart b c) ∧
      EventCounted (MS.count b 1) HRD.HIST.RISE 0x1702 s (s.enterStart b c) := by
  rw [State.enterStart_of_timeout_eq_zero b c h, State.beginRise_eq _ b c (s.shortRamp_ne_zero b), State.lane_setLane_same]
  obtain ⟨hlane, hcounted⟩ := (s.setLane b c (s.lane b c).startWaiting).setLane_countRise
    { (s.lane b c).startWaiting with st := .rising, k := 0, len := 32 * s.bufM b } hb hc
  exact ⟨(LaneSet.setLane s b _ hc).trans hlane,
    hcounted.after (State.setLane_word ..) (State.setLane_word ..) (State.setLane_word ..)⟩

/-- A complete fall changes no lane but its own. -/
theorem State.fallDone_others (hb : b < 8192) (hc : c < 2 ^ 14) :
    ∀ x y, y < 2 ^ 14 → (x, y) ≠ (b, c) → (s.fallDone b c).lane x y = s.lane x y := by
  cases hafter : (s.lane b c).after with
  | plain => exact State.fallDone_of_plain hafter ▸ (LaneSet.setLane s b _ hc).others
  | gated => exact State.fallDone_of_gated hafter ▸ (LaneSet.setLane s b _ hc).others
  | startwait =>
    rw [State.fallDone_of_startwait hafter]
    by_cases htime : s.rd HRD.ZCTIME.TIMEOUT = 0
    · exact (State.enterStart_rises hb hc htime).1.others
    · exact State.enterStart_of_timeout_ne_zero b c htime ▸ (LaneSet.setLane s b _ hc).others

/-! ## Waits that time out (R257) -/

theorem State.waitTimeout_of_startwait (h : (s.lane b c).st = .startwait) :
    s.waitTimeout b c = (s.countTimeout b c).beginRise b c (32 * s.bufM b) := by
  simp only [State.waitTimeout, h, if_true]

theorem State.waitTimeout_of_stopwait (h : (s.lane b c).st = .stopwait) :
    s.waitTimeout b c = (s.countTimeout b c).beginFall b c (32 * s.bufM b) (s.lane b c).after := by
  simp only [State.waitTimeout, h, reduceCtorEq, if_false]

theorem State.countTimeout_lane (s : State) (b c : Nat) : (s.countTimeout b c).lane b c = s.lane b c := State.lane_congr (s.countTimeout_muz b c) b c

/-- A word that the ramp after a timeout leaves alone shows the timeout as counted. -/
theorem State.num_of_countTimeout (c : Nat) (hb : b < 8192) {t : State} (h : t.word (MS.word b 3) = (s.countTimeout b c).word (MS.word b 3)) :
    t.num (MS.word b 3) = (s.num (MS.word b 3) + 1) % 2 ^ 32 :=
  (congrArg BitVec.toNat h).trans (State.countTimeout_counted s c hb).num

theorem State.waitTimeout_start (hb : b < 8192) (hc : c < 2 ^ 14) (h : (s.lane b c).st = .startwait) :
    LaneSet b c { s.lane b c with st := .rising, k := 0, len := 32 * s.bufM b } s (s.waitTimeout b c) ∧
      (s.waitTimeout b c).num (MS.word b 3) = (s.num (MS.word b 3) + 1) % 2 ^ 32 := by
  rw [State.waitTimeout_of_startwait h, State.beginRise_eq _ b c (s.shortRamp_ne_zero b), State.countTimeout_lane]
  refine ⟨(State.setLane_countRise _ _ hb hc).1.of_muz (s.countTimeout_muz b c) rfl, State.num_of_countTimeout c hb ?_⟩
  exact (State.countRise_word _ c (MS.not_reportKey hb (by decide)) (MS.word_ne_hist b 3) (by unfold MS.word; omega)).trans (State.setLane_word ..)

theorem State.waitTimeout_stop (hb : b < 8192) (hc : c < 2 ^ 14) (h : (s.lane b c).st = .stopwait) :
    LaneSet b c { s.lane b c with st := .falling, x0 := (s.lane b c).last, k := 0, len := 32 * s.bufM b, hold := 0 } s (s.waitTimeout b c) ∧
      (s.waitTimeout b c).num (MS.word b 3) = (s.num (MS.word b 3) + 1) % 2 ^ 32 := by
  have hfall := (s.countTimeout b c).beginFall_lane (b := b) hc (32 * s.bufM b) (s.lane b c).after
  rw [State.countTimeout_lane] at hfall
  rw [State.waitTimeout_of_stopwait h]
  refine ⟨hfall.of_muz (s.countTimeout_muz b c) rfl, State.num_of_countTimeout c hb ?_⟩
  exact State.beginFall_word _ c _ _ (MS.not_reportKey hb (by decide)) (MS.word_ne_hist b 3) (by unfold MS.word; omega) (by unfold MS.word; omega)

/-! ## The commands -/

theorem exec_fallComplete (hst : (s.lane b c).st = .falling) (hlen : (s.lane b c).len ≤ (s.lane b c).k) :
    exec (.fallComplete b c) s = .next (s.fallDone b c) :=
  congrArg Host.Outcome.next (if_pos (by simp [MuzLane.fallComplete, hst, hlen]))

theorem exec_muzRise (hst : (s.lane b c).st = .silent ∨ (s.lane b c).st = .holding) (hneed : (s.lane b c).need ≤ (s.lane b c).hold)
    (hmuz : (Cfg.muzzledBufs s.live).contains b = true) : exec (.muzRise b c) s =
      .next ((s.setLane b c { s.lane b c with st := .rising, k := 0, len := s.bufM b * s.rd HRD.MUZCFG.RISE }).countRise b c) := by
  have hdue : (s.lane b c).riseDue = true := by simp [MuzLane.riseDue, hst, hneed]
  exact congrArg Host.Outcome.next (if_pos (by rw [hdue, hmuz, Bool.and_self]))

theorem exec_riseComplete (hst : (s.lane b c).st = .rising) (hlen : (s.lane b c).len ≤ (s.lane b c).k) :
    exec (.riseComplete b c) s = .next (s.setLane b c { s.lane b c with st := .open_ }) :=
  congrArg Host.Outcome.next (if_pos (by simp [MuzLane.riseComplete, hst, hlen]))

theorem exec_zcTimeout (hst : (s.lane b c).st = .startwait ∨ (s.lane b c).st = .stopwait) (hlimit : s.zcLimit (s.bufM b) ≤ (s.lane b c).waited) :
    exec (.zcTimeout b c) s = .next (s.waitTimeout b c) :=
  congrArg Host.Outcome.next (if_pos (by simp [State.waitOver, hst, hlimit]))

end

/-- Settles O28: each command by the state it leaves, a complete fall by what follows it, a timeout by the ramp it begins. -/
theorem muzzleLanesFallRiseAndTimeOut : Obligations.MuzzleLanesFallRiseAndTimeOut := by
  unfold Obligations.MuzzleLanesFallRiseAndTimeOut
  intro b c s l others hb hc
  refine ⟨fun hst hlen => ?fall, fun hst hneed hmuz => ?rise, fun hst hlen => ?risen, fun hst hlimit => ?start, fun hst hlimit => ?stop⟩
  case fall =>
    refine ⟨_, exec_fallComplete hst hlen, State.fallDone_others hb hc, fun h => ?_, fun h => ?_, fun h htime => ?_, fun h htime => ?_⟩
    · rw [State.fallDone_of_plain h]
      exact ⟨State.lane_setLane_same .., State.setLane_frame ..⟩
    · rw [State.fallDone_of_gated h]
      exact ⟨State.lane_setLane_same .., State.setLane_frame ..⟩
    · rw [State.fallDone_of_startwait h, State.enterStart_of_timeout_ne_zero b c htime]
      exact ⟨State.lane_setLane_same .., State.setLane_frame ..⟩
    · obtain ⟨hlane, hrise⟩ := State.enterStart_rises hb hc htime
      rw [State.fallDone_of_startwait h]
      exact ⟨hlane.lane, hrise.num, hrise.reported, State.enterStart_frame ..⟩
  case rise =>
    have hexec := exec_muzRise hst hneed hmuz
    obtain ⟨hlane, hrise⟩ := s.setLane_countRise { l with st := .rising, k := 0, len := s.bufM b * s.rd HRD.MUZCFG.RISE } hb hc
    exact ⟨_, hexec, hlane.others, hlane.lane, hrise.num, hrise.mark, hrise.reported, execMuzRise_frame b c s _ hexec⟩
  case risen =>
    have hlane := LaneSet.setLane s b { l with st := .open_ } hc
    exact ⟨_, exec_riseComplete hst hlen, hlane.others, hlane.lane, State.setLane_frame ..⟩
  case start =>
    obtain ⟨hlane, hcount⟩ := State.waitTimeout_start hb hc hst
    exact ⟨_, exec_zcTimeout (.inl hst) hlimit, hlane.others, hlane.lane, hcount, State.waitTimeout_frame ..⟩
  case stop =>
    obtain ⟨hlane, hcount⟩ := State.waitTimeout_stop hb hc hst
    exact ⟨_, exec_zcTimeout (.inr hst) hlimit, hlane.others, hlane.lane, hcount, State.waitTimeout_frame ..⟩

end Sys2Proof.Machine
end

section
/-!
PROOFS. Local audio units: their registers, and how they lock, lose their signal and return (R281, R282, R293, R294).
-/

namespace Sys2Proof.Machine

/-! ## The registers of a local unit -/

/-- The configuration word of a local unit. -/
def luCfg (u : Nat) : Nat := if u < 8 then SAP.CG_CFG u else if u < 24 then AES.RX_CFG (u - 8) else AES.MD_CFG (u - 24)

/-- The status word of a local unit, with its STATE and its fills. -/
def luStat (u : Nat) : Nat := if u < 8 then SAP.CG_STAT u else if u < 24 then AES.RX_STAT (u - 8) else AES.MD_STAT (u - 24)

/-- A local unit is a SAP group, an AES3 receiver or a MADI receiver. -/
theorem isLocal_iff {u : Nat} : isLocal u = true ↔ u < 16 ∨ 24 ≤ u ∧ u < 28 := by
  simp [isLocal]

/-- Word `k` lies in the blocks SAP and AES. -/
def unitWord (k : Nat) : Prop := 0xF0000 ≤ k ∧ k < 0x101000

theorem unitWord.not_reportKey {k : Nat} (h : unitWord k) : reportKey k = false := by
  obtain ⟨hlo, hhi⟩ := h
  exact not_reportKey_of_above (by omega) (by unfold msixPending; omega)

section
variable {u : Nat}

theorem luState_key (u : Nat) : (luState u).key = luStat u := by
  unfold luState luStat
  split
  · rfl
  · split <;> rfl

theorem luFill_key (u : Nat) : (luFill u).key = luStat u := by
  unfold luFill luStat
  split
  · rfl
  · split <;> rfl

theorem luState_bits (u : Nat) : (luState u).lo = 30 ∧ (luState u).width = 2 := by
  unfold luState
  split
  · exact ⟨rfl, rfl⟩
  · split <;> exact ⟨rfl, rfl⟩

theorem luCfg_unitWord (h : isLocal u = true) : unitWord (luCfg u) := by
  rw [isLocal_iff] at h
  unfold luCfg SAP.CG_CFG AES.RX_CFG AES.MD_CFG unitWord
  split
  · omega
  · split <;> omega

theorem luStat_unitWord (h : isLocal u = true) : unitWord (luStat u) := by
  rw [isLocal_iff] at h
  unfold luStat SAP.CG_STAT AES.RX_STAT AES.MD_STAT unitWord
  split
  · omega
  · split <;> omega

theorem luHist_unitWord (h : isLocal u = true) : unitWord (luHist u).1 := by
  rw [isLocal_iff] at h
  unfold luHist SAP.CG_HIST AES.RX_HIST AES.MD_HIST unitWord
  split
  · dsimp only; omega
  · split <;> dsimp only <;> omega

theorem luStat_ne_cfg (u : Nat) : luStat u ≠ luCfg u := by
  unfold luStat luCfg SAP.CG_STAT AES.RX_STAT AES.MD_STAT SAP.CG_CFG AES.RX_CFG AES.MD_CFG
  split
  · omega
  · split <;> omega

theorem luHist_ne_stat (u : Nat) : (luHist u).1 ≠ luStat u := by
  unfold luHist luStat SAP.CG_STAT AES.RX_STAT AES.MD_STAT SAP.CG_HIST AES.RX_HIST AES.MD_HIST
  split
  · dsimp only; omega
  · split <;> dsimp only <;> omega

theorem luHist_ne_cfg (u : Nat) : (luHist u).1 ≠ luCfg u := by
  unfold luHist luCfg SAP.CG_CFG AES.RX_CFG AES.MD_CFG SAP.CG_HIST AES.RX_HIST AES.MD_HIST
  split
  · dsimp only; omega
  · split <;> dsimp only <;> omega

theorem luCode_lt {sap aes : Nat} (u : Nat) (hsap : sap < 0x1800) (haes : aes < 0x1800) : luCode u sap aes < 0x1800 := by
  unfold luCode
  split <;> assumption

end

/-! ## Local units as a store -/

theorem State.lu_congr {s t : State} (h : t.loc = s.loc) (u : Nat) : t.lu u = s.lu u := by
  unfold State.lu
  rw [h]

@[simp] theorem State.lu_setLu_same (s : State) (u : Nat) (x : LocalUnit) : (s.setLu u x).lu u = x := Store.get_set_same _ _ _ _

/-- The words do not depend on the local units. -/
theorem State.setLu_word (s : State) (u : Nat) (x : LocalUnit) (k : Nat) : (s.setLu u x).word k = s.word k := State.word_congr rfl k

/-- From `s` to `t` local unit `u` becomes `x`, and no other unit changes. -/
structure UnitSet (u : Nat) (x : LocalUnit) (s t : State) : Prop where
  unit : t.lu u = x
  others : ∀ w, w ≠ u → t.lu w = s.lu w

theorem UnitSet.setLu (s : State) (u : Nat) (x : LocalUnit) : UnitSet u x s (s.setLu u x) :=
  ⟨State.lu_setLu_same .., fun _ hw => Store.get_set_ne _ _ _ hw⟩

/-- An operation afterwards that leaves the local units alone. -/
theorem UnitSet.of_loc {u : Nat} {x : LocalUnit} {s t t' : State} (h : UnitSet u x s t) (ht : t'.loc = t.loc) : UnitSet u x s t' :=
  ⟨(State.lu_congr ht u).trans h.unit, fun w hw => (State.lu_congr ht w).trans (h.others w hw)⟩

theorem State.fills_loc (s : State) (u : Nat) : (s.fills u).loc = s.loc := (s.fills_frame u).same .loc rfl

theorem State.fills_lu (s : State) (u w : Nat) : (s.fills u).lu w = s.lu w := State.lu_congr (s.fills_loc u) w

/-- The fills stand in the unit's status word. -/
theorem State.fills_word (s : State) {u k : Nat} (h : k ≠ luStat u) : (s.fills u).word k = s.word k := by
  have hfill : (s.wr (luFill u) (s.lu u).ins.length).word k = s.word k := State.word_wr_ne _ _ (by rwa [luFill_key])
  unfold State.fills
  dsimp only
  split
  · next hu =>
    have hstat : luStat u = SAP.CG_STAT u := if_pos hu
    exact (State.word_wr_ne _ _ (show k ≠ SAP.CG_STAT u from hstat ▸ h)).trans hfill
  · exact hfill

/-! ## Events of a local unit -/

/-- Sticky bit `b` of unit `u` is set, and event `code` is reported of it with data `d`. -/
def State.unitEvent (s : State) (u b code d : Nat) : State := (s.sq (luHist u).1 b).report code (luSource u) d

section
variable {u b code : Nat}

theorem State.unitEvent_frame (s : State) (u b code d : Nat) : Frame [.live, .evt, .out] s (s.unitEvent u b code d) :=
  ((s.sq_frame ..).weaken rfl).seq (State.report_frame ..) rfl

theorem State.unitEvent_loc (s : State) (u b code d : Nat) : (s.unitEvent u b code d).loc = s.loc :=
  (s.unitEvent_frame u b code d).same .loc rfl

theorem State.unitEvent_word (s : State) {k : Nat} (d : Nat) (hc : code < 0x1800) (hk : unitWord k) (hhist : (luHist u).1 ≠ k) :
    (s.unitEvent u b code d).word k = s.word k :=
  (State.report_word _ _ _ _ hk.not_reportKey hc).trans (State.word_sq_ne _ _ hhist.symm)

/-- A report after operations that wrote words of the blocks SAP and AES only. -/
theorem Reported.after_units {s t t' : State} (h : Reported code t t') (hc : code < 0x1800) (hkept : ∀ k, ¬ unitWord k → t.word k = s.word k) :
    Reported code s t' :=
  h.after (hkept _ (by unfold unitWord EVT.BLKCNT; omega)) (hkept _ (by unfold unitWord EVT.IPEND; omega))

/-- A report before operations that write words of the blocks SAP and AES only. -/
theorem Reported.before_units {s t t' : State} (h : Reported code s t) (hc : code < 0x1800) (hkept : ∀ k, ¬ unitWord k → t'.word k = t.word k) :
    Reported code s t' :=
  h.before (hkept _ (by unfold unitWord EVT.BLKCNT; omega)) (hkept _ (by unfold unitWord EVT.IPEND; omega))

theorem State.unitEvent_reported (s : State) (b d : Nat) (hu : isLocal u = true) (hc : code < 0x1800) :
    Reported code s (s.unitEvent u b code d) :=
  (State.report_reported _ _ _ _ hc).after_units hc fun _ hk => State.word_sq_ne _ _ fun h => hk (h ▸ luHist_unitWord hu)

end

/-! ## A unit in a new state -/

/-- Local unit `u` becomes `x`, its fills with it, and its STATE becomes `st`. -/
def State.enters (s : State) (u : Nat) (x : LocalUnit) (st : Nat) : State := ((s.setLu u x).fills u).wr (luState u) st

section
variable {u : Nat} {x : LocalUnit} {st : Nat}

theorem State.enters_unit (s : State) (u : Nat) (x : LocalUnit) (st : Nat) : UnitSet u x s (s.enters u x st) :=
  (UnitSet.setLu s u x).of_loc (State.fills_loc ..)

theorem State.enters_state (s : State) (u : Nat) (x : LocalUnit) (h : st < 4) : (s.enters u x st).rd (luState u) = st := by
  obtain ⟨hlo, hwidth⟩ := luState_bits u
  unfold State.enters
  rw [State.rd_wr_same _ _ _ (by omega), hwidth]
  exact Nat.mod_eq_of_lt h

theorem State.enters_word (s : State) (x : LocalUnit) (st : Nat) {k : Nat} (h : k ≠ luStat u) : (s.enters u x st).word k = s.word k := by
  unfold State.enters
  rw [State.word_wr_ne _ _ (by rwa [luState_key]), State.fills_word _ h, State.setLu_word]

/-- From `s` to `t` local unit `u` becomes `x` in STATE `st`, and event `code` is reported once. -/
structure UnitEnters (u : Nat) (x : LocalUnit) (st code : Nat) (s t : State) : Prop extends UnitSet u x s t where
  state : t.rd (luState u) = st
  reported : Reported code s t

/-- A unit enters a state, and an event says so. -/
theorem State.enters_unitEvent {code : Nat} (s : State) (x : LocalUnit) (b d : Nat) (hu : isLocal u = true) (hst : st < 4) (hc : code < 0x1800) :
    UnitEnters u x st code s ((s.enters u x st).unitEvent u b code d) where
  toUnitSet := (s.enters_unit u x st).of_loc (State.unitEvent_loc ..)
  state := by
    have hkept : ((s.enters u x st).unitEvent u b code d).word (luState u).key = (s.enters u x st).word (luState u).key := by
      rw [luState_key]
      exact State.unitEvent_word _ _ hc (luStat_unitWord hu) (luHist_ne_stat u)
    rw [State.rd_congr hkept, State.enters_state _ _ _ hst]
  reported := (State.unitEvent_reported _ _ _ hu hc).after_units hc fun _ hk =>
    State.enters_word _ _ _ fun h => hk (h ▸ luStat_unitWord hu)

end

/-! ## Locks, losses and returns (R281, R282, R293, R294) -/

/-- CENTRE of a unit's elastic store; a unit without one has no fill (R281). -/
def State.centre (s : State) (u : Nat) : Nat := if s.stored u then (s.rd (luLo u) + s.rd (luHi u)) / 2 else 0

/-- A unit as it enters LOCKED: its store at CENTRE with invalid frames (log entry 25). -/
def State.lockedUnit (s : State) (u : Nat) : LocalUnit :=
  let blank : LocalFrame := { words := [], valid := false }
  { (s.lu u).opened s.clk.now with
    ins := List.replicate (s.centre u) blank, outs := if u < 8 then List.replicate (s.centre u) blank else [], bad := 0, refAt := none,
    pos := if s.stored u then max (s.lu u).pos (s.gridIndex u) else (s.lu u).pos }

theorem State.lock_eq (s : State) (u : Nat) : ∃ d, s.lock u =
    (s.enters u (s.lockedUnit u) 2).unitEvent u (luHist u).2.1 (luCode u 0x0F03 0x1001) d := ⟨_, rfl⟩

theorem State.lock_enters (s : State) {u : Nat} (hu : isLocal u = true) :
    UnitEnters u (s.lockedUnit u) 2 (luCode u 0x0F03 0x1001) s (s.lock u) := by
  obtain ⟨d, hlock⟩ := s.lock_eq u
  rw [hlock]
  exact State.enters_unitEvent _ _ _ _ hu (by decide) (luCode_lt u (by decide) (by decide))

theorem State.lose_eq {s : State} {u cause : Nat} (hst : s.rd (luState u) = 1 ∨ s.rd (luState u) = 2) (hmode : Cfg.luMode s.live u ≠ 0)
    (hcause : s.lossHolds u cause = true) : s.lose u cause =
    (s.enters u ((s.lu u).emptied s.clk.now) 3).unitEvent u (luHist u).2.2.1 (luCode u 0x0F02 0x1002) cause :=
  if_pos ⟨hst, hmode, hcause⟩

theorem State.lose_enters {s : State} {u cause : Nat} (hu : isLocal u = true) (hst : s.rd (luState u) = 1 ∨ s.rd (luState u) = 2)
    (hmode : Cfg.luMode s.live u ≠ 0) (hcause : s.lossHolds u cause = true) :
    UnitEnters u ((s.lu u).emptied s.clk.now) 3 (luCode u 0x0F02 0x1002) s (s.lose u cause) := by
  rw [State.lose_eq hst hmode hcause]
  exact State.enters_unitEvent _ _ _ _ hu (by decide) (luCode_lt u (by decide) (by decide))

/-- A return to ACQUIRE empties the unit and reports nothing. -/
theorem State.acquire_eq (s : State) (u : Nat) : s.acquire u = s.enters u ((s.lu u).emptied s.clk.now) 1 := rfl

/-! ## The commands -/

section
variable {s : State} {u : Nat}

theorem exec_unitLocked (hu : isLocal u = true) (hst : s.rd (luState u) = 1)
    (h : Cfg.luMode s.live u = 0 ∨ (16 ≤ (s.lu u).good ∧ s.rateFits u = true)) :
    exec (if u < 8 then .sapLocked u else .aesLocked (u - 8)) s = .next (s.lock u) := by
  have hmay : s.mayLock u = true := by simp [State.mayLock, hst, h]
  split
  · next h8 =>
    show execSapLocked u s = _
    rw [execSapLocked, if_pos ⟨h8, hmay⟩]
  · next h8 =>
    have hsrc : u - 8 + 8 = u := by omega
    show execAesLocked (u - 8) s = _
    rw [execAesLocked, hsrc, hu, hmay, Bool.and_self, if_pos rfl]

theorem exec_unitLost (hu : isLocal u = true) (cause : Nat) :
    exec (if u < 8 then .sapLost u cause else .aesLost (u - 8) cause) s = .next (s.lose u cause) := by
  split
  · next h8 =>
    show execSapLost u cause s = _
    rw [execSapLost, if_pos h8]
  · next h8 =>
    have hsrc : u - 8 + 8 = u := by omega
    show execAesLost (u - 8) cause s = _
    rw [execAesLost, hsrc, hu, if_pos rfl]

theorem exec_unitReturn (hu : isLocal u = true) (hst : s.rd (luState u) = 3) :
    exec (if u < 8 then .sapBclkReturn u else .aesSignalReturn (u - 8)) s = .next (s.acquire u) := by
  split
  · next h8 =>
    show execSapBclkReturn u s = _
    rw [execSapBclkReturn, if_pos ⟨h8, hst⟩]
  · next h8 =>
    have hsrc : u - 8 + 8 = u := by omega
    show execAesSignalReturn (u - 8) s = _
    rw [execAesSignalReturn, hsrc, hu, hst, beq_self_eq_true, Bool.and_self, if_pos rfl]

end

/-- Settles O30: each command by the state that its unit enters. -/
theorem localUnitsLockLoseAndReturn : Obligations.LocalUnitsLockLoseAndReturn := by
  unfold Obligations.LocalUnitsLockLoseAndReturn
  intro u cause s x st centre emptied others command hu
  have hemptied : emptied (x.emptied s.clk.now) := ⟨rfl, rfl, rfl, rfl, rfl⟩
  refine ⟨fun hst hmay => ?lock, fun hst hmode hcause => ?lose, fun hst => ?back⟩
  case lock =>
    obtain ⟨⟨hunit, hothers⟩, hstate, hreported⟩ := s.lock_enters hu
    refine ⟨_, exec_unitLocked hu hst hmay, hstate, ?_, ?_, ?_, hothers, hreported, s.lock_frame u⟩ <;> rw [hunit] <;> rfl
  case lose =>
    obtain ⟨⟨hunit, hothers⟩, hstate, hreported⟩ := State.lose_enters hu hst hmode hcause
    exact ⟨_, exec_unitLost hu cause, hstate, hunit ▸ hemptied, hothers, hreported, s.lose_frame u cause⟩
  case back =>
    obtain ⟨hunit, hothers⟩ := s.enters_unit u (x.emptied s.clk.now) 1
    exact ⟨_, exec_unitReturn hu hst, s.enters_state u _ (by decide), by rw [State.acquire_eq, hunit]; exact hemptied, hothers,
      s.acquire_frame u⟩

end Sys2Proof.Machine
end

section
/-!
PROOFS. SAP frames and the elastic store: what arrives, and what a read takes, drops or repeats (R278, R279, R281 to R284, R286).
-/

namespace Sys2Proof.Machine

/-! ## What the words of a unit decide -/

section
variable {s t : State} {u : Nat}

theorem Cfg.rd_congr {f : Fld} (h : t.word f.key = s.word f.key) : Cfg.rd t.live f = Cfg.rd s.live f := congrArg f.ext h

theorem luMode_congr (h : t.word (luCfg u) = s.word (luCfg u)) : Cfg.luMode t.live u = Cfg.luMode s.live u := by
  unfold Cfg.luMode
  unfold luCfg at h
  split
  · next h8 => exact Cfg.rd_congr (by rwa [if_pos h8] at h)
  · next h8 =>
    rw [if_neg h8] at h
    split
    · next h24 => exact congrArg (· + 1) (Cfg.rd_congr (by rwa [if_pos h24] at h))
    · next h24 => exact congrArg (· + 1) (Cfg.rd_congr (by rwa [if_neg h24] at h))

theorem State.stored_congr (h : t.word (luCfg u) = s.word (luCfg u)) : t.stored u = s.stored u := by
  unfold State.stored
  rw [luMode_congr h]

theorem State.stored_of_slip (h : Cfg.luMode s.live u = 2) : s.stored u = true := by simp [State.stored, h]

theorem State.luState_congr (h : t.word (luStat u) = s.word (luStat u)) : t.rd (luState u) = s.rd (luState u) :=
  State.rd_congr (by rwa [luState_key])

theorem State.locked_iff : s.locked u = true ↔ s.rd (luState u) = 2 := beq_iff_eq

theorem State.locked_eq_false (h : s.rd (luState u) ≠ 2) : s.locked u = false := beq_eq_false_iff_ne.mpr h

/-- Only a SYNC unit leaves LOCKED at a threshold (R285). -/
theorem State.syncCheck_of_slip (dir : Nat) (h : Cfg.luMode s.live u = 2) : s.syncCheck u dir = s := if_neg fun hc => by omega

theorem luMode_fills (s : State) (u : Nat) : Cfg.luMode (s.fills u).live u = Cfg.luMode s.live u :=
  luMode_congr (State.fills_word _ (luStat_ne_cfg u).symm)

end

/-! ## Received frames (R278, R283) -/

theorem State.foldl_word {α : Type} {f : State → α → State} {k : Nat} (l : List α) (hf : ∀ t a, (f t a).word k = t.word k) (s : State) :
    (l.foldl f s).word k = s.word k := by
  induction l generalizing s with
  | nil => rfl
  | cons a l ih => rw [List.foldl_cons, ih, hf]

/-- The measured rate moves words of the block ASRC only. -/
theorem State.trackRatio_word (s : State) {u k : Nat} (h : unitWord k) : (s.trackRatio u).word k = s.word k := by
  obtain ⟨-, hhi⟩ := h
  unfold State.trackRatio
  split
  · rfl
  · refine State.foldl_word _ (fun t o => State.foldl_word _ (fun t g => ?_) t) s
    dsimp only
    split
    · exact State.word_wr_ne _ _ (by unfold ASRC.G_RATIO.val ASRC.G_RATIO; dsimp only; omega)
    · rfl

/-- A group that has received one more good frame. -/
def LocalUnit.gotFrame (x : LocalUnit) : LocalUnit := { x with good := x.good + 1, bad := 0 }

/-- A group that has received one more frame of the wrong length. -/
def LocalUnit.gotError (x : LocalUnit) : LocalUnit := { x with good := 0, bad := x.bad + 1 }

/-- The measured offset of group `k`; a master group has none (R291). -/
def State.noteOffset (s : State) (k : Nat) (ofs : Int) : State := s.wrS (SAP.CG_OFS.val k) (if Cfg.luMode s.live k = 0 then 0 else ofs)

/-- A good frame of group `k` at the measured offset `ofs` is counted. -/
def State.countFrame (s : State) (k : Nat) (ofs : Int) : State :=
  let t := s.noteOffset k ofs
  (t.setLu k (t.lu k).gotFrame).trackRatio k

/-- A frame of the wrong length of group `k` is counted and marked. -/
def State.countError (s : State) (k : Nat) : State :=
  let t := (s.inc (SAP.CG_FRAMEERR.val k)).sqf (SAP.CG_HIST.FRAMEERR k)
  t.setLu k (t.lu k).gotError

/-- From `s` to `t` group `k` becomes `x`; its configuration, its status and the time stay. -/
structure FrameCounted (k : Nat) (x : LocalUnit) (s t : State) : Prop where
  unit : t.lu k = x
  cfg : t.word (luCfg k) = s.word (luCfg k)
  stat : t.word (luStat k) = s.word (luStat k)
  clk : t.clk = s.clk
  frame : Frame [.live, .loc] s t

section
variable {s t : State} {k : Nat} {x : LocalUnit}

theorem State.noteOffset_frame (s : State) (k : Nat) (ofs : Int) : Frame [.live] s (s.noteOffset k ofs) := s.wrS_frame ..

theorem State.noteOffset_word (s : State) (ofs : Int) {j : Nat} (h : j ≠ SAP.CG_OFS k) : (s.noteOffset k ofs).word j = s.word j :=
  State.word_wrS_ne _ _ h

theorem State.countFrame_frame (s : State) (k : Nat) (ofs : Int) : Frame [.live, .loc] s (s.countFrame k ofs) :=
  (((s.noteOffset_frame k ofs).weaken rfl).seq (State.setLu_frame ..) rfl).seq (State.trackRatio_frame ..) rfl

theorem State.countError_frame (s : State) (k : Nat) : Frame [.live, .loc] s (s.countError k) :=
  (((s.inc_frame _).weaken rfl).seq (State.sqf_frame ..) rfl).seq (State.setLu_frame ..) rfl

theorem isLocal_of_sap (hk : k < 8) : isLocal k = true := isLocal_iff.mpr (.inl (by omega))

theorem luCfg_sap (hk : k < 8) : luCfg k = SAP.CG_CFG k := if_pos hk

theorem luStat_sap (hk : k < 8) : luStat k = SAP.CG_STAT k := if_pos hk

theorem State.countFrame_word (s : State) (ofs : Int) {j : Nat} (hj : unitWord j) (hofs : j ≠ SAP.CG_OFS k) :
    (s.countFrame k ofs).word j = s.word j := by
  unfold State.countFrame
  rw [State.trackRatio_word _ hj, State.setLu_word, State.noteOffset_word _ _ hofs]

theorem State.countError_word (s : State) {j : Nat} (hcnt : j ≠ SAP.CG_FRAMEERR k) (hhist : j ≠ SAP.CG_HIST k) :
    (s.countError k).word j = s.word j := by
  unfold State.countError
  rw [State.setLu_word, State.word_sqf_ne _ hhist, State.word_inc_ne _ hcnt]

theorem luCfg_ne_ofs (hk : k < 8) : luCfg k ≠ SAP.CG_OFS k := by
  rw [luCfg_sap hk]
  unfold SAP.CG_CFG SAP.CG_OFS
  omega

theorem State.countFrame_counted (s : State) (ofs : Int) (hk : k < 8) : FrameCounted k (s.lu k).gotFrame s (s.countFrame k ofs) where
  unit := by
    unfold State.countFrame
    rw [State.lu_congr ((State.trackRatio_frame ..).same .loc rfl), State.lu_setLu_same, State.lu_congr ((s.noteOffset_frame k ofs).same .loc rfl)]
  cfg := State.countFrame_word _ _ (luCfg_unitWord (isLocal_of_sap hk)) (luCfg_ne_ofs hk)
  stat := State.countFrame_word _ _ (luStat_unitWord (isLocal_of_sap hk))
    (by rw [luStat_sap hk]; unfold SAP.CG_STAT SAP.CG_OFS; omega)
  clk := (s.countFrame_frame k ofs).same .clk rfl
  frame := s.countFrame_frame k ofs

theorem State.countError_counted (s : State) (hk : k < 8) : FrameCounted k (s.lu k).gotError s (s.countError k) where
  unit := by
    unfold State.countError
    rw [State.lu_setLu_same, State.lu_congr ((State.sqf_frame ..).same .loc rfl), State.lu_congr ((s.inc_frame _).same .loc rfl)]
  cfg := State.countError_word _ (by rw [luCfg_sap hk]; unfold SAP.CG_CFG SAP.CG_FRAMEERR; omega)
    (by rw [luCfg_sap hk]; unfold SAP.CG_CFG SAP.CG_HIST; omega)
  stat := State.countError_word _ (by rw [luStat_sap hk]; unfold SAP.CG_STAT SAP.CG_FRAMEERR; omega)
    (by rw [luStat_sap hk]; unfold SAP.CG_STAT SAP.CG_HIST; omega)
  clk := (s.countError_frame k).same .clk rfl
  frame := s.countError_frame k

theorem State.countError_count (s : State) (k : Nat) :
    (s.countError k).rd (SAP.CG_FRAMEERR.val k) = (s.rd (SAP.CG_FRAMEERR.val k) + 1) % 2 ^ 32 := by
  have hkeys : SAP.CG_FRAMEERR k ≠ SAP.CG_HIST k := by unfold SAP.CG_FRAMEERR SAP.CG_HIST; omega
  unfold State.countError
  rw [State.rd_congr (State.setLu_word ..), State.rd_congr (State.word_sqf_ne _ hkeys), State.rd_inc_same s (show 0 + 32 ≤ 32 by decide)]
  rfl

theorem State.countError_mark (s : State) (k : Nat) : (s.countError k).flag (SAP.CG_HIST.FRAMEERR k) = true := by
  unfold State.countError
  rw [State.flag_congr (State.setLu_word ..), State.flag_sqf_same _ rfl (show 2 < 24 by decide)]

/-! ## Arrivals (R280 to R282, R288) -/

/-- The first frame after a lock is the reference, and a later one leaves it (R300). -/
theorem State.refer_lu (h : s.locked k = true) : (s.refer k).lu k = { s.lu k with refAt := some ((s.lu k).refAt.getD s.clk.now) } := by
  unfold State.refer
  dsimp only
  cases href : (s.lu k).refAt with
  | none => simp [h]
  | some r =>
    simp only [Option.isNone_some, Bool.and_false, Bool.false_eq_true, if_false, Option.getD_some]
    rw [← href]

theorem State.refer_unlocked (h : s.locked k = false) : s.refer k = s := by simp [State.refer, h]

/-- A unit with a store that is not LOCKED takes no frame (R282). -/
theorem State.arrive_unlocked (f : LocalFrame) (idle : List Nat) (hs : s.stored k = true) (h : s.locked k = false) : s.arrive k f idle = s := by
  have hmode : Cfg.luMode s.live k ≠ 0 := fun h0 => by simp [State.stored, h0] at hs
  unfold State.arrive
  simp only [State.refer_unlocked h, hmode, if_false, hs, if_true, h, Bool.false_eq_true]

/-- The unit with frame `f` in its input store, at cycle `now`. -/
def LocalUnit.entered (x : LocalUnit) (now : Nat) (f : LocalFrame) : LocalUnit :=
  { x with refAt := some (x.refAt.getD now), ins := (x.ins ++ [f]).take 64 }

/-- A frame enters the store of a LOCKED SLIP unit (R281). -/
theorem State.arrive_slip (f : LocalFrame) (idle : List Nat) (hmode : Cfg.luMode s.live k = 2) (h : s.locked k = true) :
    s.arrive k f idle = ((s.refer k).setLu k ((s.lu k).entered s.clk.now f)).fills k := by
  have hlive : (s.refer k).live = s.live := (s.refer_frame k).same .live rfl
  have hlocked : (s.refer k).locked k = true := State.locked_iff.mpr ((State.luState_congr (State.word_congr hlive _)).trans (State.locked_iff.mp h))
  have hmode' : Cfg.luMode (s.refer k).live k = 2 := hlive ▸ hmode
  unfold State.arrive
  simp only [hmode', State.stored_of_slip hmode', hlocked, if_true, Bool.and_true]
  rw [if_neg (by decide), State.syncCheck_of_slip 0 (by rw [luMode_fills]; exact hmode'), State.refer_lu h]
  rfl

/-- A frame of an ASRC group that is not LOCKED reaches the converter (R288). -/
theorem State.arrive_asrc (f : LocalFrame) (idle : List Nat) (hmode : Cfg.luMode s.live k = 3) (h : s.locked k = false) :
    s.arrive k f idle = s.arriveAsrc k f idle := by
  have hs : s.stored k = false := by simp [State.stored, hmode]
  unfold State.arrive
  simp only [State.refer_unlocked h, hmode, hs, Bool.false_eq_true, if_false]
  rfl

theorem State.arriveAsrc_lu (s : State) (k : Nat) (f : LocalFrame) (idle : List Nat) : (s.arriveAsrc k f idle).lu k =
    { s.lu k with hist := { at_ := s.clk.now, frame := f, idle := idle } :: (s.lu k).hist, pos := (s.lu k).pos + 1 } := by
  unfold State.arriveAsrc
  dsimp only
  split
  · rw [State.lu_congr ((State.playSap_frame ..).same .loc rfl), State.lu_setLu_same]
  · rw [State.lu_setLu_same]

theorem FrameCounted.slip (h : FrameCounted k x s t) (f : LocalFrame) (hmode : Cfg.luMode s.live k = 2) (hst : s.rd (luState k) = 2) :
    (t.arrive k f []).lu k = x.entered s.clk.now f ∧ Frame [.live, .loc] s (t.arrive k f []) ∧
      ∀ j, j ≠ luStat k → (t.arrive k f []).word j = t.word j := by
  rw [State.arrive_slip f [] ((luMode_congr h.cfg).trans hmode) (State.locked_iff.mpr ((State.luState_congr h.stat).trans hst)), h.unit, h.clk]
  refine ⟨(State.fills_lu ..).trans (State.lu_setLu_same ..), ?_, fun j hj => ?_⟩
  · exact ((h.frame.seq (State.refer_frame ..) rfl).seq (State.setLu_frame ..) rfl).seq (State.fills_frame ..) rfl
  · rw [State.fills_word _ hj, State.setLu_word, State.word_congr ((t.refer_frame k).same .live rfl)]

theorem FrameCounted.unlocked (h : FrameCounted k x s t) (f : LocalFrame) (hs : s.stored k = true) (hst : s.rd (luState k) ≠ 2) :
    t.arrive k f [] = t :=
  State.arrive_unlocked f [] ((State.stored_congr h.cfg).trans hs) (State.locked_eq_false (State.luState_congr h.stat ▸ hst))

theorem FrameCounted.asrc (h : FrameCounted k x s t) (f : LocalFrame) (hmode : Cfg.luMode s.live k = 3) (hst : s.rd (luState k) ≠ 2) :
    (t.arrive k f []).lu k = { x with pos := x.pos + 1, hist := { at_ := s.clk.now, frame := f, idle := [] } :: x.hist } ∧
      Frame [.live, .loc, .out] s (t.arrive k f []) := by
  rw [State.arrive_asrc f [] ((luMode_congr h.cfg).trans hmode) (State.locked_eq_false (State.luState_congr h.stat ▸ hst))]
  refine ⟨?_, (h.frame.weaken rfl).seq (State.arriveAsrc_frame ..) rfl⟩
  rw [State.arriveAsrc_lu, h.unit, h.clk]

end

/-! ## Slips (R286) -/

/-- The counter of a slip: direction 0 input, 1 output; 0 drop, 1 repeat. -/
def slipCount (u dir kind : Nat) : Fld :=
  if u < 8 then
    (match dir, kind with
     | 0, 0 => SAP.CG_DROPIN.val u
     | 0, _ => SAP.CG_REPIN.val u
     | _, 0 => SAP.CG_DROPOUT.val u
     | _, _ => SAP.CG_REPOUT.val u)
  else if u < 24 then (if kind = 0 then AES.RX_SLIPCNT.DROP (u - 8) else AES.RX_SLIPCNT.REP (u - 8))
  else (if kind = 0 then AES.MD_SLIPCNT.DROP (u - 24) else AES.MD_SLIPCNT.REP (u - 24))

/-- The counters of slips stand in words of their own. -/
theorem slipCount_key (u dir kind : Nat) : (slipCount u dir kind).key =
    if u < 8 then SAP.CG_DROPIN u + 8 * (if dir = 0 then 0 else 1) + 4 * (if kind = 0 then 0 else 1)
    else if u < 24 then AES.RX_SLIPCNT (u - 8) else AES.MD_SLIPCNT (u - 24) := by
  unfold slipCount
  split
  · rcases dir with _ | dir <;> rcases kind with _ | kind
    · rfl
    · simp [SAP.CG_REPIN.val, SAP.CG_REPIN, SAP.CG_DROPIN]; omega
    · simp [SAP.CG_DROPOUT.val, SAP.CG_DROPOUT, SAP.CG_DROPIN]; omega
    · simp [SAP.CG_REPOUT.val, SAP.CG_REPOUT, SAP.CG_DROPIN]; omega
  · split <;> split <;> rfl

section
variable {s t : State} {u : Nat}

theorem slipCount_unitWord (dir kind : Nat) (hu : isLocal u = true) : unitWord (slipCount u dir kind).key := by
  rw [isLocal_iff] at hu
  rw [slipCount_key]
  unfold unitWord SAP.CG_DROPIN AES.RX_SLIPCNT AES.MD_SLIPCNT
  split
  · split <;> split <;> omega
  · split <;> omega

theorem slipCount_ne_cfg (u dir kind : Nat) : (slipCount u dir kind).key ≠ luCfg u := by
  rw [slipCount_key]
  unfold luCfg SAP.CG_DROPIN AES.RX_SLIPCNT AES.MD_SLIPCNT SAP.CG_CFG AES.RX_CFG AES.MD_CFG
  split
  · split <;> split <;> omega
  · split <;> omega

theorem State.slip_eq (s : State) (u dir kind : Nat) : ∃ d, s.slip u dir kind =
    (s.inc (slipCount u dir kind)).unitEvent u (luHist u).2.2.2.2 (luCode u 0x0F01 0x1003) d := ⟨_, rfl⟩

theorem slipCode_lt (u : Nat) : luCode u 0x0F01 0x1003 < 0x1800 := luCode_lt u (by decide) (by decide)

theorem State.slip_reported (s : State) (dir kind : Nat) (hu : isLocal u = true) : Reported (luCode u 0x0F01 0x1003) s (s.slip u dir kind) := by
  obtain ⟨d, hslip⟩ := s.slip_eq u dir kind
  rw [hslip]
  exact (State.unitEvent_reported _ _ _ hu (slipCode_lt u)).after_units (slipCode_lt u)
    fun _ hk => State.word_inc_ne _ fun h => hk (h ▸ slipCount_unitWord dir kind hu)

theorem State.slip_cfg (s : State) (dir kind : Nat) (hu : isLocal u = true) : (s.slip u dir kind).word (luCfg u) = s.word (luCfg u) := by
  obtain ⟨d, hslip⟩ := s.slip_eq u dir kind
  rw [hslip, State.unitEvent_word _ _ (slipCode_lt u) (luCfg_unitWord hu) (luHist_ne_cfg u),
    State.word_inc_ne _ (slipCount_ne_cfg u dir kind).symm]

/-- The slip, if any, of a read in direction `dir` of a store that holds `fill` frames. -/
def State.slipped (s : State) (u dir fill : Nat) : State :=
  if s.slipTest u fill < 2 then s.slip u dir (s.slipTest u fill) else s

theorem State.slipped_cfg (s : State) (dir fill : Nat) (hu : isLocal u = true) : (s.slipped u dir fill).word (luCfg u) = s.word (luCfg u) := by
  unfold State.slipped
  split
  · exact s.slip_cfg _ _ hu
  · rfl

theorem State.slipTest_drop {fill : Nat} (hmode : Cfg.luMode s.live u = 2) (hhi : s.rd (luHi u) ≤ fill) : s.slipTest u fill = 0 := by
  simp [State.slipTest, hmode, hhi]

theorem State.slipTest_repeat {fill : Nat} (hmode : Cfg.luMode s.live u = 2) (hhi : fill < s.rd (luHi u)) (hlo : fill ≤ s.rd (luLo u)) :
    s.slipTest u fill = 1 := by
  simp [State.slipTest, hmode, Nat.not_le.mpr hhi, hlo]

theorem State.slipTest_neither {fill : Nat} (hmode : Cfg.luMode s.live u = 2) (hhi : fill < s.rd (luHi u)) (hlo : s.rd (luLo u) < fill) :
    s.slipTest u fill = 2 := by
  simp [State.slipTest, hmode, Nat.not_le.mpr hhi, Nat.not_le.mpr hlo]

/-- What a read of a SLIP unit's store `xs` delivers as `got` and leaves as `rest`: where the fill is at HI or above it drops the oldest frame,
where it is at LO or below it repeats the latest, `last`, each slip being reported from `s` to `t`, and else it takes the oldest (R286). -/
def SlipRead (u code : Nat) (xs : List LocalFrame) (last got : LocalFrame) (rest : List LocalFrame) (s t : State) : Prop :=
  (s.rd (luHi u) ≤ xs.length → ∀ a b r, xs = a :: b :: r → got = b ∧ rest = r ∧ Reported code s t) ∧
    (xs.length < s.rd (luHi u) → xs.length ≤ s.rd (luLo u) → got = last ∧ rest = xs ∧ Reported code s t) ∧
    (xs.length < s.rd (luHi u) → s.rd (luLo u) < xs.length → ∀ a r, xs = a :: r → got = a ∧ rest = r)

theorem readStore_repeat (last : LocalFrame) (xs : List LocalFrame) : readStore 1 last xs = (last, xs) := by
  cases xs <;> rfl

theorem State.slipRead (hu : isLocal u = true) (hmode : Cfg.luMode s.live u = 2) (dir : Nat) (xs : List LocalFrame) (last : LocalFrame)
    (hwords : ∀ k, ¬ unitWord k → t.word k = (s.slipped u dir xs.length).word k) :
    let y := readStore (s.slipTest u xs.length) last xs
    SlipRead u (luCode u 0x0F01 0x1003) xs last y.1 y.2 s t := by
  have hreported : s.slipTest u xs.length < 2 → Reported (luCode u 0x0F01 0x1003) s t := fun h => by
    rw [State.slipped, if_pos h] at hwords
    exact (s.slip_reported _ _ hu).before_units (slipCode_lt u) hwords
  refine ⟨fun hhi a b r hxs => ?_, fun hhi hlo => ?_, fun hhi hlo a r hxs => ?_⟩
  · have htest := State.slipTest_drop hmode hhi
    have hslip := hreported (by omega)
    rw [htest]
    subst hxs
    exact ⟨rfl, rfl, hslip⟩
  · have htest := State.slipTest_repeat hmode hhi hlo
    have hslip := hreported (by omega)
    rw [htest, readStore_repeat]
    exact ⟨rfl, rfl, hslip⟩
  · rw [State.slipTest_neither hmode hhi hlo]
    subst hxs
    exact ⟨rfl, rfl⟩

end

/-! ## Reads by the port side (R284, R286) -/

section
variable {s : State} {k : Nat}

/-- What a read of group `k`'s output store by the port side delivers, and what it leaves. -/
def State.portFrame (s : State) (k : Nat) : LocalFrame × List LocalFrame :=
  readStore (s.slipTest k (s.lu k).outs.length) (s.lu k).lastOut (s.lu k).outs

/-- The port side has taken its frame. -/
def State.portTaken (s : State) (k : Nat) : State :=
  (s.slipped k 1 (s.lu k).outs.length).setLu k { s.lu k with outs := (s.portFrame k).2, lastOut := (s.portFrame k).1 }

/-- The port side sends frame `y`, zeros where it has no slots. -/
def State.portPlayed (s : State) (k : Nat) (y : LocalFrame) : State := s.playSap (if y.words.isEmpty then s.zeroFrame k else y)

theorem State.portTaken_cfg (hu : isLocal k = true) : (s.portTaken k).word (luCfg k) = s.word (luCfg k) :=
  (State.setLu_word ..).trans (s.slipped_cfg _ _ hu)

theorem State.portPlayed_frame (s : State) (k : Nat) (y : LocalFrame) : Frame [.out] s (s.portPlayed k y) := s.playSap_frame _

theorem State.portPlayed_word (s : State) (k : Nat) (y : LocalFrame) (j : Nat) : (s.portPlayed k y).word j = s.word j :=
  State.word_congr ((s.portPlayed_frame k y).same .live rfl) j

theorem State.portRead_slip (hu : isLocal k = true) (hmode : Cfg.luMode s.live k = 2) (h : s.locked k = true) :
    s.portRead k = ((s.portTaken k).portPlayed k (s.portFrame k).1).fills k := by
  have hcfg : ((s.portTaken k).portPlayed k (s.portFrame k).1).word (luCfg k) = s.word (luCfg k) :=
    (State.portPlayed_word ..).trans (State.portTaken_cfg hu)
  refine (if_pos h).trans (State.syncCheck_of_slip 1 ?_)
  exact (luMode_fills ..).trans ((luMode_congr hcfg).trans hmode)

theorem State.portRead_lu (hu : isLocal k = true) (hmode : Cfg.luMode s.live k = 2) (h : s.locked k = true) :
    (s.portRead k).lu k = { s.lu k with outs := (s.portFrame k).2, lastOut := (s.portFrame k).1 } := by
  rw [State.portRead_slip hu hmode h, State.fills_lu, State.lu_congr ((State.portPlayed_frame ..).same .loc rfl)]
  exact State.lu_setLu_same ..

theorem State.portRead_word (hu : isLocal k = true) (hmode : Cfg.luMode s.live k = 2) (h : s.locked k = true) {j : Nat} (hj : ¬ unitWord j) :
    (s.portRead k).word j = (s.slipped k 1 (s.lu k).outs.length).word j := by
  have hstat : j ≠ luStat k := fun e => hj (e ▸ luStat_unitWord hu)
  rw [State.portRead_slip hu hmode h, State.fills_word _ hstat, State.portPlayed_word]
  exact State.setLu_word ..

theorem State.portRead_slipRead (hk : k < 8) (hmode : Cfg.luMode s.live k = 2) (h : s.locked k = true) :
    SlipRead k 0x0F01 (s.lu k).outs (s.lu k).lastOut ((s.portRead k).lu k).lastOut ((s.portRead k).lu k).outs s (s.portRead k) := by
  have hu := isLocal_of_sap hk
  have hread := State.slipRead hu hmode 1 (s.lu k).outs (s.lu k).lastOut fun _ => State.portRead_word hu hmode h
  rw [luCode, if_pos hk] at hread
  rw [State.portRead_lu hu hmode h]
  exact hread

theorem State.portRead_unlocked (h : s.locked k = false) : s.portRead k = s.playSap (s.zeroFrame k) := by simp [State.portRead, h]

/-- A group that drives its outputs plays zeros in every slot (R284). -/
theorem State.playSap_zeroFrame (h : s.drives = true) : (s.playSap (s.zeroFrame k)).out =
    ((s.outputsOf k).map (fun n => Output.play 0 n (List.replicate (s.rd (SAP.CG_CFG.SLOTS k)) 0))).reverse ++ s.out := by
  unfold State.playSap State.zeroFrame
  rw [if_pos h, List.foldl_map, State.foldl_emit fun n => .play 0 n (List.replicate (s.rd (SAP.CG_CFG.SLOTS k)) 0)]
  rfl

end

/-! ## Reads by the grid (R279, R280, R286) -/

section
variable {s : State} {u : Nat}

/-- What a read of unit `u`'s input store by the grid delivers, and what it leaves. -/
def State.gridFrame (s : State) (u : Nat) : LocalFrame × List LocalFrame :=
  readStore (s.slipTest u (s.lu u).ins.length) (s.lu u).lastIn (s.lu u).ins

/-- The unit after a read of its input store by the grid. -/
def State.gridUnit (s : State) (u : Nat) : LocalUnit :=
  { s.lu u with ins := (s.gridFrame u).2, lastIn := (s.gridFrame u).1, pos := (s.lu u).pos + 1 }

/-- The grid has taken its frame and captured it. -/
def State.gridTaken (s : State) (u : Nat) : State :=
  ((s.slipped u 0 (s.lu u).ins.length).setLu u (s.gridUnit u)).capture1 u (s.lu u).pos (s.gridFrame u).1

/-- The grid writes the output frame of sample `i` of a SAP group. -/
def State.gridSent (s : State) (u i : Nat) : State :=
  if u < 8 then s.setLu u { s.lu u with outs := ((s.lu u).outs ++ [s.outFrame u i]).take 64 } else s

theorem State.gridTaken_word (s : State) (u k : Nat) : (s.gridTaken u).word k = (s.slipped u 0 (s.lu u).ins.length).word k :=
  State.word_congr ((State.capture1_frame ..).same .live rfl) k

theorem State.gridTaken_lu (s : State) (u : Nat) : (s.gridTaken u).lu u = s.gridUnit u :=
  (State.lu_congr ((State.capture1_frame ..).same .loc rfl) u).trans (State.lu_setLu_same ..)

theorem State.gridSent_word (s : State) (u i k : Nat) : (s.gridSent u i).word k = s.word k := by
  unfold State.gridSent
  split
  · exact State.setLu_word ..
  · rfl

/-- The output side leaves what the input side read. -/
theorem State.gridSent_lu (s : State) (u i : Nat) : ∃ os, (s.gridSent u i).lu u = { s.lu u with outs := os } := by
  unfold State.gridSent
  split
  · exact ⟨_, State.lu_setLu_same ..⟩
  · exact ⟨_, rfl⟩

theorem State.gridRead_slip (hu : isLocal u = true) (hmode : Cfg.luMode s.live u = 2) (hpos : (s.lu u).pos < Cfg.luM s.live u * s.tickLen) :
    s.gridRead u = ((s.gridTaken u).gridSent u (s.lu u).pos).fills u := by
  have hcfg : ((s.gridTaken u).gridSent u (s.lu u).pos).word (luCfg u) = s.word (luCfg u) :=
    (State.gridSent_word ..).trans ((s.gridTaken_word u _).trans (s.slipped_cfg _ _ hu))
  have hmode' : Cfg.luMode (((s.gridTaken u).gridSent u (s.lu u).pos).fills u).live u = 2 :=
    (luMode_fills ..).trans ((luMode_congr hcfg).trans hmode)
  refine (if_neg (Nat.not_le.mpr hpos)).trans ?_
  show (if u < 8 then ((((s.gridTaken u).gridSent u (s.lu u).pos).fills u).syncCheck u 0).syncCheck u 1 else
    (((s.gridTaken u).gridSent u (s.lu u).pos).fills u).syncCheck u 0) = _
  rw [State.syncCheck_of_slip 0 hmode', State.syncCheck_of_slip 1 hmode', ite_self]

theorem State.gridRead_lu (hu : isLocal u = true) (hmode : Cfg.luMode s.live u = 2) (hpos : (s.lu u).pos < Cfg.luM s.live u * s.tickLen) :
    ∃ os, (s.gridRead u).lu u = { s.gridUnit u with outs := os } := by
  rw [State.gridRead_slip hu hmode hpos, State.fills_lu, ← State.gridTaken_lu]
  exact State.gridSent_lu ..

theorem State.gridRead_word (hu : isLocal u = true) (hmode : Cfg.luMode s.live u = 2) (hpos : (s.lu u).pos < Cfg.luM s.live u * s.tickLen)
    {k : Nat} (hk : ¬ unitWord k) : (s.gridRead u).word k = (s.slipped u 0 (s.lu u).ins.length).word k := by
  have hstat : k ≠ luStat u := fun e => hk (e ▸ luStat_unitWord hu)
  rw [State.gridRead_slip hu hmode hpos, State.fills_word _ hstat, State.gridSent_word, State.gridTaken_word]

theorem State.gridRead_slipRead (hu : isLocal u = true) (hmode : Cfg.luMode s.live u = 2) (hpos : (s.lu u).pos < Cfg.luM s.live u * s.tickLen) :
    ((s.gridRead u).lu u).pos = (s.lu u).pos + 1 ∧ SlipRead u (luCode u 0x0F01 0x1003) (s.lu u).ins (s.lu u).lastIn
      ((s.gridRead u).lu u).lastIn ((s.gridRead u).lu u).ins s (s.gridRead u) := by
  obtain ⟨os, hlu⟩ := State.gridRead_lu hu hmode hpos
  rw [hlu]
  exact ⟨rfl, State.slipRead hu hmode 0 (s.lu u).ins (s.lu u).lastIn fun _ => State.gridRead_word hu hmode hpos⟩

end

/-! ## The commands -/

section
variable {s : State} {k : Nat}

/-- The slots of a frame are read by the group's configuration. -/
theorem State.slotWords_congr {s t : State} (hk : k < 8) (h : t.word (luCfg k) = s.word (luCfg k)) (ws : List Nat) :
    t.slotWords k ws = s.slotWords k ws := by
  rw [luCfg_sap hk] at h
  unfold State.slotWords
  rw [State.rd_congr (f := SAP.CG_CFG.SLOTS k) h, State.rd_congr (f := SAP.CG_CFG.SLOTW k) h]

/-- A received frame as a group's input stores take it. -/
def State.receivedFrame (s : State) (k : Nat) (slots : List (Nat × List Nat)) : LocalFrame :=
  { words := slots.map (fun p => (p.1, s.slotWords k p.2)), valid := true }

theorem exec_sapFrameReceived (slots : List (Nat × List Nat)) (ofs : Int) (hk : k < 8) (hticking : s.ticking = true)
    (hen : Cfg.luEn s.live k = true) (hst : s.rd (luState k) ≠ 3) :
    exec (.sapFrameReceived k slots ofs) s = .next ((s.countFrame k ofs).arrive k (s.receivedFrame k slots) []) := by
  have hframe : ∀ x, ((s.noteOffset k ofs).setLu k x).receivedFrame k slots = s.receivedFrame k slots := fun x => by
    have hcfg := (State.setLu_word (s.noteOffset k ofs) k x _).trans (s.noteOffset_word ofs (luCfg_ne_ofs hk))
    simp only [State.receivedFrame, State.slotWords_congr hk hcfg]
  rw [← hframe ((s.noteOffset k ofs).lu k).gotFrame]
  exact congrArg Host.Outcome.next (if_pos (by simp [hk, hticking, hen, hst]))

theorem exec_sapFrameError (hk : k < 8) (hticking : s.ticking = true) (hen : Cfg.luEn s.live k = true) (hst : s.rd (luState k) ≠ 3)
    (hmode : Cfg.luMode s.live k ≠ 0) :
    exec (.sapFrameError k) s = .next ((s.countError k).arrive k { words := [], valid := false } []) :=
  congrArg Host.Outcome.next (if_pos (by simp [hk, hticking, hen, hst, hmode]))

theorem exec_elasticStoreRead {u : Nat} (out : Bool) (hu : isLocal u = true) (hticking : s.ticking = true) (hs : s.stored u = true)
    (hen : Cfg.luEn s.live u = true) : exec (.elasticStoreRead u out) s = .next (
      if out then (if u < 8 then s.portRead u else s)
      else if s.locked u then s.gridRead u else s.setLu u { s.lu u with pos := (s.lu u).pos + 1 }) :=
  congrArg Host.Outcome.next (if_pos (by simp [hu, hticking, hs, hen]))

theorem exec_portRead (hk : k < 8) (hticking : s.ticking = true) (hs : s.stored k = true) (hen : Cfg.luEn s.live k = true) :
    exec (.elasticStoreRead k true) s = .next (s.portRead k) := by
  rw [exec_elasticStoreRead true (isLocal_of_sap hk) hticking hs hen, if_pos rfl, if_pos hk]

end

/-- Settles O31: each command by what its counts leave to the arrival, and each read by its slip test. -/
theorem sapFramesEnterAndLeaveTheStore : Obligations.SapFramesEnterAndLeaveTheStore := by
  unfold Obligations.SapFramesEnterAndLeaveTheStore
  intro k u slots ofs s x got wrong frame noFrame ref y fill stored
  refine ⟨fun hk hticking hen => ?sap, fun hu hticking hen hmode hst hpos => ?grid⟩
  case sap =>
    have hu := isLocal_of_sap hk
    have hframe := s.countFrame_counted ofs hk
    have herror := s.countError_counted hk
    refine ⟨fun hst hmode => ?locked, fun hst hs => ?unlocked, fun hst hmode => ?asrc, fun hst hs => ?idle, fun hst hmode => ?port⟩
    case locked =>
      obtain ⟨hunit, hrest, -⟩ := hframe.slip frame hmode hst
      obtain ⟨hunit', hrest', hwords⟩ := herror.slip noFrame hmode hst
      have hcnt : SAP.CG_FRAMEERR k ≠ luStat k := by rw [luStat_sap hk]; unfold SAP.CG_FRAMEERR SAP.CG_STAT; omega
      have hhist : SAP.CG_HIST k ≠ luStat k := by rw [luStat_sap hk]; unfold SAP.CG_HIST SAP.CG_STAT; omega
      refine ⟨⟨_, exec_sapFrameReceived slots ofs hk hticking hen (by omega), hunit, hrest⟩,
        ⟨_, exec_sapFrameError hk hticking hen (by omega) (by omega), hunit', ?_, ?_, hrest'⟩⟩
      · exact (State.rd_congr (hwords _ hcnt)).trans (s.countError_count k)
      · exact (State.flag_congr (hwords _ hhist)).trans (s.countError_mark k)
    case unlocked =>
      have hmode : Cfg.luMode s.live k ≠ 0 := fun h0 => by simp [stored, State.stored, h0] at hs
      have hexec := exec_sapFrameReceived slots ofs hk hticking hen (by omega)
      have hexec' := exec_sapFrameError hk hticking hen (by omega) hmode
      rw [hframe.unlocked _ hs (by omega)] at hexec
      rw [herror.unlocked _ hs (by omega)] at hexec'
      exact ⟨⟨_, hexec, hframe.unit, hframe.frame⟩, ⟨_, hexec', herror.unit, s.countError_mark k, herror.frame⟩⟩
    case asrc =>
      obtain ⟨hunit, hrest⟩ := hframe.asrc frame hmode (by omega)
      exact ⟨_, exec_sapFrameReceived slots ofs hk hticking hen (by omega), hunit, hrest⟩
    case idle =>
      have hlocked := State.locked_eq_false hst
      have hgrid := exec_elasticStoreRead false hu hticking hs hen
      have hport := exec_portRead hk hticking hs hen
      rw [if_neg Bool.false_ne_true, hlocked, if_neg Bool.false_ne_true] at hgrid
      rw [State.portRead_unlocked hlocked] at hport
      exact ⟨⟨_, hgrid, State.lu_setLu_same .., s.setLu_frame ..⟩, ⟨_, hport, s.playSap_frame _, State.playSap_zeroFrame⟩⟩
    case port =>
      obtain ⟨hdrop, hrepeat, htake⟩ := State.portRead_slipRead hk hmode (State.locked_iff.mpr hst)
      exact ⟨_, exec_portRead hk hticking (State.stored_of_slip hmode) hen, hdrop, hrepeat, htake, s.portRead_frame k⟩
  case grid =>
    obtain ⟨hnext, hdrop, hrepeat, htake⟩ := State.gridRead_slipRead hu hmode hpos
    have hexec := exec_elasticStoreRead false hu hticking (State.stored_of_slip hmode) hen
    rw [if_neg Bool.false_ne_true, if_pos (State.locked_iff.mpr hst)] at hexec
    exact ⟨_, hexec, hnext, hdrop, hrepeat, htake, s.gridRead_frame u⟩

end Sys2Proof.Machine
end

section
/-!
PROOFS. AES3 and MADI receivers: their registers, and what a frame taken leaves alone, the phase of a block included (R293, R300).
-/

namespace Sys2Proof.Machine

/-! ## Herd members, and words of other blocks -/

section
variable {β γ : Type} {f : Nat × β → Option γ} {k : Nat}

/-- A test that passes over key `k` finds the same entries without it. -/
theorem Store.filterMap_erase (hf : ∀ v, f (k, v) = none) (m : Store β) : (Store.erase m k).filterMap f = m.filterMap f := by
  induction m with
  | nil => rfl
  | cons p m ih =>
    obtain ⟨a, x⟩ := p
    by_cases h : a = k
    · simp [Store.erase, h, ih, hf]
    · simp [Store.erase, h, List.filterMap_cons, ih]

theorem Store.filterMap_insert (hf : ∀ v, f (k, v) = none) (m : Store β) (v : β) : (Store.insert m k v).filterMap f = m.filterMap f := by
  induction m with
  | nil => simp [Store.insert, hf]
  | cons p m ih =>
    obtain ⟨a, x⟩ := p
    by_cases h : a = k
    · simp [Store.insert, h, hf]
    · by_cases hlt : k < a
      · simp [Store.insert, h, hlt, List.filterMap_cons, hf]
      · simp [Store.insert, h, hlt, List.filterMap_cons, ih]

theorem Store.filterMap_set [DecidableEq β] (d : Nat → β) (hf : ∀ v, f (k, v) = none) (m : Store β) (v : β) :
    (Store.set d m k v).filterMap f = m.filterMap f := by
  unfold Store.set
  split
  · exact Store.filterMap_erase hf m
  · exact Store.filterMap_insert hf m v

end

/-- A word of the blocks SAP and AES is none of the Herd Member Table. -/
theorem unitWord.ne_member {k : Nat} (h : unitWord k) (i w : Nat) : HM.word i w ≠ k := by
  obtain ⟨-, hhi⟩ := h
  unfold HM.word
  omega

theorem State.setWord_members (s : State) {k : Nat} (v : Word) (h : unitWord k) : Cfg.members (s.setWord k v).live = Cfg.members s.live := by
  have hlisted : Cfg.listed (s.setWord k v).live (HM.word 0 0) 4 1024 = Cfg.listed s.live (HM.word 0 0) 4 1024 :=
    Store.filterMap_set _ (fun _ => if_neg fun hin => by
      have hlo : HM.word 0 0 ≤ k := hin.1
      obtain ⟨-, hhi⟩ := h
      unfold HM.word at hlo
      omega) _ _
  have hen : ∀ i, Cfg.flag (s.setWord k v).live (HM.EN i) = Cfg.flag s.live (HM.EN i) := fun i =>
    congrArg (· == 1) (Cfg.rd_congr (State.word_setWord_ne _ _ (h.ne_member i 0)))
  simp only [Cfg.members, hlisted, hen]

theorem State.setWord_herdMembers (s : State) {k : Nat} (v : Word) (h : unitWord k) (g : Nat) :
    Cfg.herdMembers (s.setWord k v).live g = Cfg.herdMembers s.live g := by
  have hrd : ∀ i f, f.key = HM.word i 0 → Cfg.rd (s.setWord k v).live f = Cfg.rd s.live f := fun i f hf =>
    Cfg.rd_congr (State.word_setWord_ne _ _ (hf ▸ h.ne_member i 0))
  simp only [Cfg.herdMembers, s.setWord_members v h, fun i => hrd i (HM.HERD i) rfl, fun i => hrd i (HM.KIND i) rfl,
    fun i => hrd i (HM.INDEX i) rfl]

/-! ## A frame taken (R293, R295, R299, R300) -/

/-- Word `k` of the blocks SAP and AES is neither the configuration nor the status of unit `u`. -/
structure CountWord (u k : Nat) : Prop where
  block : unitWord k
  ne_cfg : luCfg u ≠ k
  ne_stat : luStat u ≠ k

/-- From `s` to `t` unit `u` becomes `x`; its configuration and its STATE stay, and so does every word outside the blocks SAP and AES. -/
structure FrameTaken (u : Nat) (x : LocalUnit) (s t : State) : Prop extends UnitSet u x s t where
  cfg : t.word (luCfg u) = s.word (luCfg u)
  state : t.rd (luState u) = s.rd (luState u)
  outside : ∀ k, ¬ unitWord k → t.word k = s.word k
  members : ∀ g, Cfg.herdMembers t.live g = Cfg.herdMembers s.live g
  frame : Frame [.live, .loc] s t

section
variable {u : Nat} {x : LocalUnit} {s t : State}

theorem FrameTaken.refl (u : Nat) (s : State) : FrameTaken u (s.lu u) s s :=
  ⟨⟨rfl, fun _ _ => rfl⟩, rfl, rfl, fun _ _ => rfl, fun _ => rfl, Frame.refl _ s⟩

theorem FrameTaken.setLu (h : FrameTaken u x s t) (y : LocalUnit) : FrameTaken u y s (t.setLu u y) :=
  ⟨⟨State.lu_setLu_same .., fun v hv => ((UnitSet.setLu t u y).others v hv).trans (h.others v hv)⟩, h.cfg, h.state, h.outside, h.members,
    h.frame.seq (State.setLu_frame ..) rfl⟩

/-- A word of a unit is written, and its configuration and STATE are as before. -/
theorem FrameTaken.setWord (h : FrameTaken u x s t) {k : Nat} (v : Word) (hk : unitWord k) (hcfg : luCfg u ≠ k)
    (hstate : (t.setWord k v).rd (luState u) = t.rd (luState u)) : FrameTaken u x s (t.setWord k v) :=
  ⟨⟨h.unit, h.others⟩, (State.word_setWord_ne _ _ hcfg).trans h.cfg, hstate.trans h.state,
    fun j hj => (State.word_setWord_ne _ _ fun e : j = k => hj (e ▸ hk)).trans (h.outside _ hj),
    fun g => (t.setWord_herdMembers v hk g).trans (h.members g), h.frame.seq (t.setWord_frame k v) rfl⟩

theorem FrameTaken.count (h : FrameTaken u x s t) {k : Nat} (v : Word) (hk : CountWord u k) : FrameTaken u x s (t.setWord k v) :=
  h.setWord v hk.block hk.ne_cfg (State.rd_congr (State.word_setWord_ne _ _ (by rw [luState_key]; exact hk.ne_stat)))

/-! ## The phase of a block (R300) -/

theorem luM_congr (h : t.word (luCfg u) = s.word (luCfg u)) : Cfg.luM t.live u = Cfg.luM s.live u := by
  unfold Cfg.luM Cfg.madiM
  unfold luCfg at h
  split
  · next h8 => exact congrArg multOf (Cfg.rd_congr (by rwa [if_pos h8] at h))
  · next h8 =>
    rw [if_neg h8] at h
    split
    · next h24 => exact congrArg multOf (Cfg.rd_congr (by rwa [if_pos h24] at h))
    · next h24 =>
      have hmode : Cfg.rd t.live (AES.MD_CFG.CHMODE (u - 24)) = Cfg.rd s.live (AES.MD_CFG.CHMODE (u - 24)) :=
        Cfg.rd_congr (by rwa [if_neg h24] at h)
      rw [hmode]

theorem FrameTaken.rd (h : FrameTaken u x s t) {f : Fld} (hf : ¬ unitWord f.key) : t.rd f = s.rd f := State.rd_congr (h.outside _ hf)

theorem FrameTaken.herdStartOf (h : FrameTaken u x s t) : t.herdStartOf u = s.herdStartOf u := by
  have hen : ∀ k, t.flag (HRD.H_CTL.EN k) = s.flag (HRD.H_CTL.EN k) := fun k =>
    congrArg (· == 1) (h.rd (by unfold unitWord HRD.H_CTL.EN HRD.H_CTL; dsimp only; omega))
  have hstate : ∀ k, t.rd (HRD.H_STATE.val k) = s.rd (HRD.H_STATE.val k) := fun k =>
    h.rd (by unfold unitWord HRD.H_STATE.val HRD.H_STATE; dsimp only; omega)
  have hstart : ∀ k, t.rd (HRD.H_START.val k) = s.rd (HRD.H_START.val k) := fun k =>
    h.rd (by unfold unitWord HRD.H_START.val HRD.H_START; dsimp only; omega)
  simp only [State.herdStartOf, State.herdRunning, hen, hstate, hstart, h.members]

/-- The phase depends on the herds, the time, the unit's configuration and its reference. -/
theorem FrameTaken.blockPhase (h : FrameTaken u x s t) (href : x.refAt = (s.lu u).refAt) : t.blockPhase u = s.blockPhase u := by
  have hclk : t.clk = s.clk := h.frame.same .clk rfl
  have htick : t.tick = s.tick := h.rd (by unfold unitWord; decide)
  have hlen : t.tickLen = s.tickLen := h.rd (by unfold unitWord; decide)
  have hfs : t.fs = s.fs := congrArg familyRate (h.rd (by unfold unitWord; decide))
  simp only [State.blockPhase, State.luRate, h.herdStartOf, h.unit, href, hclk, htick, hlen, hfs, luM_congr h.cfg]

/-! ## The registers of a receiver -/

/-- Unit `u` is an AES3 receiver or a MADI receiver. -/
def isReceiver (u : Nat) : Prop := 8 ≤ u ∧ u < 16 ∨ 24 ≤ u ∧ u < 28

theorem isReceiver.isLocal (h : isReceiver u) : isLocal u = true := isLocal_iff.mpr (by unfold isReceiver at h; omega)

theorem isReceiver.not_sap (h : isReceiver u) : ¬ u < 8 := by unfold isReceiver at h; omega

/-- The words of an AES3 receiver from its measured offset on. -/
theorem CountWord.of_aes {k : Nat} (h : 8 ≤ u ∧ u < 16) (hlo : 0x10010C + (u - 8) * 0x80 ≤ k) (hhi : k < 0x100180 + (u - 8) * 0x80) :
    CountWord u k := by
  obtain ⟨h8, h16⟩ := h
  have hcfg : luCfg u = AES.RX_CFG (u - 8) := by rw [luCfg, if_neg (by omega), if_pos (by omega)]
  have hstat : luStat u = AES.RX_STAT (u - 8) := by rw [luStat, if_neg (by omega), if_pos (by omega)]
  refine ⟨by unfold unitWord; omega, ?_, ?_⟩
  · rw [hcfg]; unfold AES.RX_CFG; omega
  · rw [hstat]; unfold AES.RX_STAT; omega

/-- The words of a MADI receiver from its errors on. -/
theorem CountWord.of_madi {k : Nat} (h : 24 ≤ u ∧ u < 28) (hlo : 0x100810 + (u - 24) * 0x80 ≤ k) (hhi : k < 0x100880 + (u - 24) * 0x80) :
    CountWord u k := by
  obtain ⟨h24, h28⟩ := h
  have hcfg : luCfg u = AES.MD_CFG (u - 24) := by rw [luCfg, if_neg (by omega), if_neg (by omega)]
  have hstat : luStat u = AES.MD_STAT (u - 24) := by rw [luStat, if_neg (by omega), if_neg (by omega)]
  refine ⟨by unfold unitWord; omega, ?_, ?_⟩
  · rw [hcfg]; unfold AES.MD_CFG; omega
  · rw [hstat]; unfold AES.MD_STAT; omega

theorem luHist_countWord (h : isReceiver u) : CountWord u (luHist u).1 :=
  ⟨luHist_unitWord h.isLocal, (luHist_ne_cfg u).symm, (luHist_ne_stat u).symm⟩

/-- The counter of parity errors of a receiver. -/
def luParity (u : Nat) : Fld := if u < 24 then AES.RX_ERR.PARERR (u - 8) else AES.MD_ERR.PARERR (u - 24)

theorem luParity_key (u : Nat) : (luParity u).key = if u < 24 then AES.RX_ERR (u - 8) else AES.MD_ERR (u - 24) := by
  unfold luParity
  split <;> rfl

theorem luParity_fits (u : Nat) : (luParity u).lo + (luParity u).width ≤ 32 := by
  unfold luParity
  split
  · exact show 16 + 16 ≤ 32 by decide
  · exact show 0 + 16 ≤ 32 by decide

theorem luParity_countWord (h : isReceiver u) : CountWord u (luParity u).key := by
  rw [luParity_key]
  rcases h with h | h
  · rw [if_pos (by omega)]
    exact .of_aes h (by unfold AES.RX_ERR; omega) (by unfold AES.RX_ERR; omega)
  · rw [if_neg (by omega)]
    exact .of_madi h (by unfold AES.MD_ERR; omega) (by unfold AES.MD_ERR; omega)

theorem luParity_ne_hist (h : isReceiver u) : (luParity u).key ≠ (luHist u).1 := by
  rw [luParity_key, luHist, if_neg h.not_sap]
  unfold AES.RX_ERR AES.MD_ERR AES.RX_HIST AES.MD_HIST
  split <;> dsimp only <;> omega

theorem luValidity_countWord (h : isReceiver u) (h24 : u < 24) : CountWord u (AES.RX_VCNT (u - 8)) :=
  .of_aes (by unfold isReceiver at h; omega) (by unfold AES.RX_VCNT; omega) (by unfold AES.RX_VCNT; omega)

/-- The block phase of a receiver. -/
def luPhase (u : Nat) : Fld := if u < 24 then AES.RX_STAT.BLKPH (u - 8) else AES.MD_STAT.BLKPH (u - 24)

theorem luPhase_bits (u : Nat) : (luPhase u).lo = 0 ∧ (luPhase u).width = 8 := by
  unfold luPhase
  split <;> exact ⟨rfl, rfl⟩

theorem luPhase_key (h : isReceiver u) : (luPhase u).key = luStat u := by
  rw [luPhase, luStat, if_neg h.not_sap]
  split <;> rfl

end

end Sys2Proof.Machine
end

section
/-!
PROOFS. AES3 and MADI receivers: the counts of a frame, its status bits, and where it goes (R293, R295, R299, R300, R306, R308).
-/

namespace Sys2Proof.Machine

/-! ## The counts of a frame (R293, R295, R299) -/

/-- A receiver that has received one more frame, in its runs of good and bad frames. -/
def LocalUnit.counted (x : LocalUnit) (parity good : Bool) : LocalUnit :=
  { x with good := if good && !parity then x.good + 1 else 0, bad := if good then 0 else x.bad + 1 }

/-- The status bits of a frame leave the reference of the phase. -/
theorem LocalUnit.status_refAt (x : LocalUnit) (z ca cb : Bool) : (x.status z ca cb).refAt = x.refAt := by
  unfold LocalUnit.status
  dsimp only
  split
  · rfl
  · split <;> rfl

/-- The subframes `ws` of wrong parity of receiver `u` are counted and marked, where the frame has any. -/
def State.parityCounted (s : State) (u : Nat) (ws : List Nat) (parity : Bool) : State :=
  if parity then (s.add (luParity u) (max 1 (oddSubframes ws))).sq (luHist u).1 4 else s

/-- A validity bit of AES3 receiver `u` is counted. -/
def State.validityCounted (s : State) (u : Nat) (v : Bool) : State := if v && decide (u < 24) then s.inc (AES.RX_VCNT.val (u - 8)) else s

section
variable {u : Nat} {x : LocalUnit} {s t : State}

theorem FrameTaken.parityCounted (h : FrameTaken u x s t) (hu : isReceiver u) (ws : List Nat) (parity : Bool) :
    FrameTaken u x s (t.parityCounted u ws parity) := by
  unfold State.parityCounted
  split
  · exact (h.count _ (luParity_countWord hu)).count _ (luHist_countWord hu)
  · exact h

theorem FrameTaken.validityCounted (h : FrameTaken u x s t) (hu : isReceiver u) (v : Bool) : FrameTaken u x s (t.validityCounted u v) := by
  unfold State.validityCounted
  split
  · next hv => exact h.count _ (luValidity_countWord hu (of_decide_eq_true (Bool.and_eq_true_iff.mp hv).2))
  · exact h

theorem FrameTaken.countGood (h : FrameTaken u x s t) (parity good : Bool) :
    FrameTaken u (x.counted parity good) s (t.countGood u (good && !parity) (!good)) := by
  have hunit : t.lu u = x := h.unit
  have hset := h.setLu (x.counted parity good)
  unfold State.countGood
  rw [hunit]
  cases good <;> exact hset

theorem State.parityCounted_word (s : State) (ws : List Nat) (parity : Bool) {k : Nat} (hpar : k ≠ (luParity u).key) (hhist : k ≠ (luHist u).1) :
    (s.parityCounted u ws parity).word k = s.word k := by
  unfold State.parityCounted
  split
  · rw [State.word_sq_ne _ _ hhist, State.word_add_ne _ _ hpar]
  · rfl

theorem State.parityCounted_rd (s : State) (hu : isReceiver u) (ws : List Nat) (parity : Bool) :
    (s.parityCounted u ws parity).rd (luParity u) =
      (s.rd (luParity u) + if parity then max 1 (oddSubframes ws) else 0) % 2 ^ (luParity u).width := by
  unfold State.parityCounted
  split
  · rw [State.rd_congr (State.word_sq_ne _ _ (luParity_ne_hist hu))]
    exact State.rd_wr_same _ _ _ (luParity_fits u)
  · exact (Nat.mod_eq_of_lt (s.rd_lt _)).symm

theorem State.validityCounted_word (s : State) (v : Bool) {k : Nat} (h : u < 24 → k ≠ AES.RX_VCNT (u - 8)) :
    (s.validityCounted u v).word k = s.word k := by
  unfold State.validityCounted
  split
  · next hv => exact State.word_inc_ne _ (h (of_decide_eq_true (Bool.and_eq_true_iff.mp hv).2))
  · rfl

theorem State.validityCounted_rd (s : State) (v : Bool) (h24 : u < 24) : (s.validityCounted u v).rd (AES.RX_VCNT.val (u - 8)) =
    (s.rd (AES.RX_VCNT.val (u - 8)) + if v then 1 else 0) % 2 ^ 32 := by
  unfold State.validityCounted
  cases v
  · exact (Nat.mod_eq_of_lt (s.rd_lt _)).symm
  · rw [decide_eq_true h24, Bool.and_self, if_pos rfl, if_pos rfl]
    exact State.rd_inc_same _ (show 0 + 32 ≤ 32 by decide)

/-! ## A block start (R300) -/

/-- A block start writes the phase or nothing. -/
theorem State.noteBlock_cases (s : State) (u : Nat) : s.noteBlock u = s ∨ ∃ p, s.noteBlock u = s.wr (luPhase u) p := by
  unfold State.noteBlock
  split
  · exact .inr ⟨_, rfl⟩
  · exact .inl rfl

theorem State.noteBlock_word (s : State) (hu : isReceiver u) {k : Nat} (h : k ≠ luStat u) : (s.noteBlock u).word k = s.word k := by
  rcases s.noteBlock_cases u with hnote | ⟨p, hnote⟩
  · rw [hnote]
  · rw [hnote, State.word_wr_ne _ _ (by rwa [luPhase_key hu])]

/-- BLKPH gives the phase, where a unit that is not LOCKED has a reference. -/
theorem State.noteBlock_phase (h : s.locked u = false) {p : Nat} (hp : s.blockPhase u = some p) :
    (s.noteBlock u).rd (luPhase u) = p % 2 ^ (luPhase u).width := by
  obtain ⟨hlo, hwidth⟩ := luPhase_bits u
  have hnote : s.noteBlock u = s.wr (luPhase u) p := by
    unfold State.noteBlock
    rw [State.refer_unlocked h, hp]
    rfl
  rw [hnote, State.rd_wr_same _ _ _ (by omega)]

theorem FrameTaken.noteBlock (h : FrameTaken u x s t) (hu : isReceiver u) : FrameTaken u x s (t.noteBlock u) := by
  obtain ⟨hlo, hwidth⟩ := luPhase_bits u
  obtain ⟨hlo', -⟩ := luState_bits u
  have hkey := luPhase_key hu
  rcases t.noteBlock_cases u with hnote | ⟨p, hnote⟩
  · rwa [hnote]
  · rw [hnote]
    refine h.setWord _ (hkey ▸ luStat_unitWord hu.isLocal) (hkey ▸ (luStat_ne_cfg u).symm) ?_
    exact State.rd_wr_apart _ _ _ _ (by omega) (.inr (.inr (by omega)))

end

/-! ## A frame received -/

/-- Receiver `u` has received a frame with subframes `ws`, as it enters its counts, its runs, its block in progress and BLKPH. -/
def State.receives (s : State) (u : Nat) (ws : List Nat) (parity v good z ca cb : Bool) : State :=
  let t := ((s.parityCounted u ws parity).validityCounted u v).countGood u (good && !parity) (!good)
  let t := t.setLu u ((t.lu u).status z ca cb)
  if z then t.noteBlock u else t

section
variable {u : Nat} {x : LocalUnit} {s t : State} {ws : List Nat} {parity v good z ca cb : Bool}

/-- The frame in the counts, the runs and the block in progress, before a block start is noted. -/
theorem FrameTaken.statusTaken (h : FrameTaken u x s t) (hu : isReceiver u) (ws : List Nat) (parity v good z ca cb : Bool) :
    let r := ((t.parityCounted u ws parity).validityCounted u v).countGood u (good && !parity) (!good)
    FrameTaken u ((x.counted parity good).status z ca cb) s (r.setLu u ((r.lu u).status z ca cb)) := by
  intro r
  have hr : FrameTaken u (x.counted parity good) s r := ((h.parityCounted hu ws parity).validityCounted hu v).countGood parity good
  have hunit : r.lu u = x.counted parity good := hr.unit
  rw [hunit]
  exact hr.setLu _

theorem FrameTaken.receives (h : FrameTaken u x s t) (hu : isReceiver u) (ws : List Nat) (parity v good z ca cb : Bool) :
    FrameTaken u ((x.counted parity good).status z ca cb) s (t.receives u ws parity v good z ca cb) := by
  have hstatus := h.statusTaken hu ws parity v good z ca cb
  unfold State.receives
  dsimp only
  split
  · exact hstatus.noteBlock hu
  · exact hstatus

theorem State.receives_word (s : State) (hu : isReceiver u) {k : Nat} (hstat : k ≠ luStat u) : (s.receives u ws parity v good z ca cb).word k =
    ((s.parityCounted u ws parity).validityCounted u v).word k := by
  unfold State.receives
  dsimp only
  split
  · rw [State.noteBlock_word _ hu hstat]
    rfl
  · rfl

theorem State.receives_parity (s : State) (hu : isReceiver u) : (s.receives u ws parity v good z ca cb).rd (luParity u) =
    (s.rd (luParity u) + if parity then max 1 (oddSubframes ws) else 0) % 2 ^ (luParity u).width := by
  have hvalidity : u < 24 → (luParity u).key ≠ AES.RX_VCNT (u - 8) := fun h24 => by
    rw [luParity_key, if_pos h24]; unfold AES.RX_ERR AES.RX_VCNT; omega
  rw [State.rd_congr (s.receives_word hu (luParity_countWord hu).ne_stat.symm), State.rd_congr (State.validityCounted_word _ v hvalidity),
    State.parityCounted_rd _ hu]

theorem State.receives_validity (s : State) (hu : isReceiver u) (h24 : u < 24) :
    (s.receives u ws parity v good z ca cb).rd (AES.RX_VCNT.val (u - 8)) = (s.rd (AES.RX_VCNT.val (u - 8)) + if v then 1 else 0) % 2 ^ 32 := by
  have hpar : AES.RX_VCNT (u - 8) ≠ (luParity u).key := by rw [luParity_key, if_pos h24]; unfold AES.RX_ERR AES.RX_VCNT; omega
  have hhist : AES.RX_VCNT (u - 8) ≠ (luHist u).1 := by
    rw [luHist, if_neg hu.not_sap, if_pos h24]; unfold AES.RX_VCNT AES.RX_HIST; dsimp only; omega
  rw [State.rd_congr (s.receives_word hu (luValidity_countWord hu h24).ne_stat.symm), State.validityCounted_rd _ v h24,
    State.rd_congr (State.parityCounted_word _ ws parity hpar hhist)]

theorem FrameTaken.receives_phase (h : FrameTaken u (s.lu u) s t) (hu : isReceiver u) (hst : s.rd (luState u) ≠ 2) {p : Nat}
    (hp : s.blockPhase u = some p) : (t.receives u ws parity v good true ca cb).rd (luPhase u) = p % 2 ^ (luPhase u).width := by
  have hstatus := h.statusTaken hu ws parity v good true ca cb
  exact State.noteBlock_phase (State.locked_eq_false (hstatus.state ▸ hst)) ((hstatus.blockPhase (LocalUnit.status_refAt ..)).trans hp)

/-! ## Arrivals (R281, R288, R293) -/

/-- From `s` to `t` receiver `u`, not LOCKED, becomes `y`; an ASRC unit's frame reaches the converter besides. -/
structure Arrived (u : Nat) (y : LocalUnit) (s t : State) : Prop where
  stored : s.stored u = true → t.lu u = y
  asrc : s.stored u = false → (t.lu u).pos = y.pos + 1 ∧ { t.lu u with pos := y.pos, hist := y.hist } = y
  others : ∀ v, v ≠ u → t.lu v = s.lu v
  frame : Frame [.live, .loc] s t

theorem luMode_receiver (c : Cfg) (hu : isReceiver u) : Cfg.luMode c u ≠ 0 := by
  rw [Cfg.luMode, if_neg hu.not_sap]
  split <;> exact Nat.succ_ne_zero _

/-- A receiver without a store hands its frame to the converter. -/
theorem State.arrive_unstored (hu : isReceiver u) (h : s.locked u = false) (hs : s.stored u = false) (f : LocalFrame) (idle : List Nat) :
    s.arrive u f idle =
      s.setLu u { s.lu u with hist := { at_ := s.clk.now, frame := f, idle := idle } :: (s.lu u).hist, pos := (s.lu u).pos + 1 } := by
  unfold State.arrive
  simp only [State.refer_unlocked h, luMode_receiver _ hu, hs, Bool.false_eq_true, if_false]
  exact if_neg hu.not_sap

theorem State.arrive_receiver_word (hu : isReceiver u) (h : s.locked u = false) (f : LocalFrame) (idle : List Nat) (k : Nat) :
    (s.arrive u f idle).word k = s.word k := by
  by_cases hs : s.stored u = true
  · rw [State.arrive_unlocked f idle hs h]
  · rw [State.arrive_unstored hu h (eq_false_of_ne_true hs), State.setLu_word]

theorem FrameTaken.arrived (h : FrameTaken u x s t) (hu : isReceiver u) (hst : s.rd (luState u) ≠ 2) (f : LocalFrame) (idle : List Nat) :
    Arrived u x s ((t.trackRatio u).arrive u f idle) ∧ ∀ k, unitWord k → ((t.trackRatio u).arrive u f idle).word k = t.word k := by
  have hword : ∀ k, unitWord k → (t.trackRatio u).word k = t.word k := fun k hk => t.trackRatio_word hk
  have hlu : ∀ v, (t.trackRatio u).lu v = t.lu v := State.lu_congr ((t.trackRatio_frame u).same .loc rfl)
  have hframe : Frame [.live, .loc] s (t.trackRatio u) := h.frame.seq (t.trackRatio_frame u) rfl
  have hunit : (t.trackRatio u).lu u = x := (hlu u).trans h.unit
  have hothers : ∀ v, v ≠ u → (t.trackRatio u).lu v = s.lu v := fun v hv => (hlu v).trans (h.others v hv)
  have hstored : (t.trackRatio u).stored u = s.stored u := State.stored_congr ((hword _ (luCfg_unitWord hu.isLocal)).trans h.cfg)
  have hlocked : (t.trackRatio u).locked u = false := State.locked_eq_false (by
    rw [State.luState_congr (hword _ (luStat_unitWord hu.isLocal)), h.state]; exact hst)
  refine ⟨?_, fun k hk => (State.arrive_receiver_word hu hlocked f idle k).trans (hword k hk)⟩
  cases hs : s.stored u with
  | true =>
    rw [State.arrive_unlocked f idle (hstored.trans hs) hlocked]
    exact ⟨fun _ => hunit, fun hno => absurd (hs.symm.trans hno) (by decide), hothers, hframe⟩
  | false =>
    rw [State.arrive_unstored hu hlocked (hstored.trans hs), hunit]
    exact ⟨fun hyes => absurd (hs.symm.trans hyes) (by decide), fun _ => by rw [State.lu_setLu_same]; exact ⟨rfl, rfl⟩,
      fun v hv => (Store.get_set_ne _ _ _ hv).trans (hothers v hv), hframe.seq (State.setLu_frame ..) rfl⟩

end

/-! ## Frames received (R293, R295, R299, R300, R306, R308) -/

/-- A frame of MADI receiver `p`, with its inactive channels and a coding error counted. -/
def State.madiCounted (s : State) (p : Nat) (ws : List Nat) (good : Bool) : State :=
  let t := s.add (AES.MD_INACTIVE.val p) (ws.filter (fun w => !bit w 7)).length
  if good then t else t.inc (AES.MD_ERR.CODEERR p)

section
variable {n : Nat} {s : State}

theorem isReceiver_aes (hn : n < 8) : isReceiver (8 + n) := by unfold isReceiver; omega

theorem isReceiver_madi (hn : n < 4) : isReceiver (24 + n) := by unfold isReceiver; omega

/-- The frame of an AES3 receiver in its counts and its block, at the measured offset `ofs`. -/
theorem FrameTaken.aes (s : State) (hn : n < 8) (ofs : Int) : FrameTaken (8 + n) (s.lu (8 + n)) s (s.wrS (AES.RX_OFS.val n) ofs) :=
  (FrameTaken.refl (8 + n) s).count _
    (.of_aes (by omega) (by unfold AES.RX_OFS.val AES.RX_OFS; dsimp only; omega) (by unfold AES.RX_OFS.val AES.RX_OFS; dsimp only; omega))

theorem FrameTaken.madi (s : State) (hn : n < 4) (ws : List Nat) (good : Bool) :
    FrameTaken (24 + n) (s.lu (24 + n)) s (s.madiCounted n ws good) := by
  have hinactive : FrameTaken (24 + n) (s.lu (24 + n)) s (s.add (AES.MD_INACTIVE.val n) (ws.filter (fun w => !bit w 7)).length) :=
    (FrameTaken.refl (24 + n) s).count _
      (.of_madi (by omega) (by unfold AES.MD_INACTIVE.val AES.MD_INACTIVE; dsimp only; omega)
        (by unfold AES.MD_INACTIVE.val AES.MD_INACTIVE; dsimp only; omega))
  unfold State.madiCounted
  dsimp only
  split
  · exact hinactive
  · exact hinactive.count _ (.of_madi (by omega) (by unfold AES.MD_ERR.CODEERR AES.MD_ERR; dsimp only; omega)
      (by unfold AES.MD_ERR.CODEERR AES.MD_ERR; dsimp only; omega))

theorem luParity_aes (hn : n < 8) : luParity (8 + n) = AES.RX_ERR.PARERR n := by
  rw [luParity, if_pos (by omega), Nat.add_sub_cancel_left]

theorem luPhase_aes (hn : n < 8) : luPhase (8 + n) = AES.RX_STAT.BLKPH n := by
  rw [luPhase, if_pos (by omega), Nat.add_sub_cancel_left]

theorem luParity_madi (n : Nat) : luParity (24 + n) = AES.MD_ERR.PARERR n := by
  rw [luParity, if_neg (by omega), Nat.add_sub_cancel_left]

theorem AES.madiErr_ne_inactive (n : Nat) : AES.MD_ERR n ≠ AES.MD_INACTIVE n := by
  unfold AES.MD_ERR AES.MD_INACTIVE
  omega

theorem State.madiCounted_codeError (s : State) (n : Nat) (ws : List Nat) (good : Bool) : (s.madiCounted n ws good).rd (AES.MD_ERR.CODEERR n) =
    (s.rd (AES.MD_ERR.CODEERR n) + if good then 0 else 1) % 2 ^ 16 := by
  have hkept : ∀ m, (s.add (AES.MD_INACTIVE.val n) m).rd (AES.MD_ERR.CODEERR n) = s.rd (AES.MD_ERR.CODEERR n) := fun m =>
    State.rd_congr (State.word_add_ne _ _ (AES.madiErr_ne_inactive n))
  cases good with
  | true => exact (hkept _).trans (Nat.mod_eq_of_lt (s.rd_lt (AES.MD_ERR.CODEERR n))).symm
  | false => exact (State.rd_inc_same _ (show 16 + 16 ≤ 32 by decide)).trans (by rw [hkept]; rfl)

theorem State.madiCounted_parity (s : State) (n : Nat) (ws : List Nat) (good : Bool) :
    (s.madiCounted n ws good).rd (AES.MD_ERR.PARERR n) = s.rd (AES.MD_ERR.PARERR n) := by
  have hkept : ∀ m, (s.add (AES.MD_INACTIVE.val n) m).rd (AES.MD_ERR.PARERR n) = s.rd (AES.MD_ERR.PARERR n) := fun m =>
    State.rd_congr (State.word_add_ne _ _ (AES.madiErr_ne_inactive n))
  cases good with
  | true => exact hkept _
  | false => exact (State.rd_wr_apart _ _ _ _ (show 16 + 16 ≤ 32 by decide) (.inr (.inl (show 0 + 16 ≤ 16 by decide)))).trans (hkept _)

/-- Errors of coding and of parity stand in one word, each in its own field. -/
theorem State.receives_codeError (s : State) (hn : n < 4) (ws : List Nat) (parity v good z ca cb : Bool) :
    (s.receives (24 + n) ws parity v good z ca cb).rd (AES.MD_ERR.CODEERR n) = s.rd (AES.MD_ERR.CODEERR n) := by
  have hkey : (luParity (24 + n)).key = AES.MD_ERR n := by rw [luParity_madi]; rfl
  have hstat : AES.MD_ERR n ≠ luStat (24 + n) := hkey ▸ (luParity_countWord (isReceiver_madi hn)).ne_stat.symm
  have hhist : AES.MD_ERR n ≠ (luHist (24 + n)).1 := hkey ▸ luParity_ne_hist (isReceiver_madi hn)
  rw [State.rd_congr (s.receives_word (isReceiver_madi hn) hstat), State.rd_congr (State.validityCounted_word _ v fun h => absurd h (by omega))]
  unfold State.parityCounted
  split
  · rw [State.rd_congr (State.word_sq_ne _ _ hhist), luParity_madi]
    exact State.rd_wr_apart _ _ _ _ (show 0 + 16 ≤ 32 by decide) (.inr (.inr (show 0 + 16 ≤ 16 by decide)))
  · rfl

/-- AES3 receiver `n` has received subframes `a` and `b` at the measured offset `ofs`. -/
def State.aesReceived (s : State) (n a b : Nat) (z parity good : Bool) (ofs : Int) : State :=
  (s.wrS (AES.RX_OFS.val n) ofs).receives (8 + n) [a, b] parity (bit a 0 || bit b 0) good z (bit a 2) (bit b 2)

/-- MADI receiver `n` has received subframes `ws`, its captured channel with subframe `w`. -/
def State.madiReceived (s : State) (n : Nat) (ws : List Nat) (w : Nat) (parity v good : Bool) : State :=
  (s.madiCounted n ws good).receives (24 + n) (ws.filter fun w => bit w 7) parity v good (bit w 6) (bit w 2) false

section
variable (s : State) (a b : Nat) (z parity v good : Bool) (ofs : Int) (ws : List Nat) (w : Nat)

theorem FrameTaken.aesReceived (hn : n < 8) :
    FrameTaken (8 + n) (((s.lu (8 + n)).counted parity good).status z (bit a 2) (bit b 2)) s (s.aesReceived n a b z parity good ofs) :=
  (FrameTaken.aes s hn ofs).receives (isReceiver_aes hn) ..

theorem FrameTaken.madiReceived (hn : n < 4) :
    FrameTaken (24 + n) (((s.lu (24 + n)).counted parity good).status (bit w 6) (bit w 2) false) s (s.madiReceived n ws w parity v good) :=
  (FrameTaken.madi s hn ws good).receives (isReceiver_madi hn) ..

theorem State.aesReceived_parity (hn : n < 8) : (s.aesReceived n a b z parity good ofs).rd (AES.RX_ERR.PARERR n) =
    (s.rd (AES.RX_ERR.PARERR n) + if parity then max 1 (oddSubframes [a, b]) else 0) % 2 ^ 16 := by
  have hofs : (AES.RX_ERR.PARERR n).key ≠ AES.RX_OFS n := by unfold AES.RX_ERR.PARERR AES.RX_ERR AES.RX_OFS; dsimp only; omega
  have hcount := (s.wrS (AES.RX_OFS.val n) ofs).receives_parity (ws := [a, b]) (parity := parity) (v := bit a 0 || bit b 0) (good := good)
    (z := z) (ca := bit a 2) (cb := bit b 2) (isReceiver_aes hn)
  rw [luParity_aes hn, State.rd_congr (State.word_wrS_ne _ _ hofs)] at hcount
  exact hcount

theorem State.aesReceived_validity (hn : n < 8) : (s.aesReceived n a b z parity good ofs).rd (AES.RX_VCNT.val n) =
    (s.rd (AES.RX_VCNT.val n) + if bit a 0 || bit b 0 then 1 else 0) % 2 ^ 32 := by
  have hofs : (AES.RX_VCNT.val n).key ≠ AES.RX_OFS n := by unfold AES.RX_VCNT.val AES.RX_VCNT AES.RX_OFS; dsimp only; omega
  have hcount := (s.wrS (AES.RX_OFS.val n) ofs).receives_validity (ws := [a, b]) (parity := parity) (v := bit a 0 || bit b 0) (good := good)
    (z := z) (ca := bit a 2) (cb := bit b 2) (isReceiver_aes hn) (by omega)
  rw [Nat.add_sub_cancel_left, State.rd_congr (State.word_wrS_ne _ _ hofs)] at hcount
  exact hcount

theorem State.aesReceived_phase (hn : n < 8) (hst : s.rd (luState (8 + n)) ≠ 2) {p : Nat} (hp : s.blockPhase (8 + n) = some p) :
    (s.aesReceived n a b true parity good ofs).rd (AES.RX_STAT.BLKPH n) = p % 2 ^ 8 := by
  have hphase := (FrameTaken.aes s hn ofs).receives_phase (ws := [a, b]) (parity := parity) (v := bit a 0 || bit b 0) (good := good)
    (ca := bit a 2) (cb := bit b 2) (isReceiver_aes hn) hst hp
  rw [luPhase_aes hn] at hphase
  exact hphase

theorem State.madiReceived_parity (hn : n < 4) : (s.madiReceived n ws w parity v good).rd (AES.MD_ERR.PARERR n) =
    (s.rd (AES.MD_ERR.PARERR n) + if parity then max 1 (oddSubframes (ws.filter fun w => bit w 7)) else 0) % 2 ^ 16 := by
  have hcount := (s.madiCounted n ws good).receives_parity (ws := ws.filter fun w => bit w 7) (parity := parity) (v := v) (good := good)
    (z := bit w 6) (ca := bit w 2) (cb := false) (isReceiver_madi hn)
  rw [luParity_madi, State.madiCounted_parity] at hcount
  exact hcount

theorem State.madiReceived_codeError (hn : n < 4) : (s.madiReceived n ws w parity v good).rd (AES.MD_ERR.CODEERR n) =
    (s.rd (AES.MD_ERR.CODEERR n) + if good then 0 else 1) % 2 ^ 16 := by
  rw [State.madiReceived, State.receives_codeError _ hn, State.madiCounted_codeError]

end

theorem exec_aesFrameReceived (a b : Nat) (z parity good : Bool) (ofs : Int) (hn : n < 8) (hticking : s.ticking = true)
    (hen : Cfg.luEn s.live (8 + n) = true) (hst : s.rd (luState (8 + n)) ≠ 3) : ∃ f, exec (.aesFrameReceived n a b z parity good ofs) s =
      .next (((s.aesReceived n a b z parity good ofs).trackRatio (8 + n)).arrive (8 + n) f []) :=
  ⟨_, congrArg Host.Outcome.next (if_pos (by simp [hn, hticking, hen, hst]))⟩

/-- A MADI receiver has no register of its measured rate (log entry 76). -/
theorem State.trackRatio_madi (s : State) {u : Nat} (h : 24 ≤ u) : s.trackRatio u = s := by
  have hofs : s.luOfs u = none := by rw [State.luOfs, if_neg (by omega), if_neg (by omega)]
  rw [State.trackRatio, hofs]

theorem luCfg_madi (n : Nat) : luCfg (24 + n) = AES.MD_CFG n := by
  rw [luCfg, if_neg (by omega), if_neg (by omega), Nat.add_sub_cancel_left]

/-- The captured channel is selected by the receiver's configuration, which the counts leave alone. -/
theorem exec_madiFrameReceived (subs : List Nat) (parity good : Bool) (hn : n < 4) (hticking : s.ticking = true)
    (hen : Cfg.luEn s.live (24 + n) = true) (hst : s.rd (luState (24 + n)) ≠ 3) :
    let ws := subs.take (Cfg.madiC s.live n)
    let w := ws.getD (s.rd (AES.MD_CFG.CSSEL n)) 0
    ∃ v f idle, exec (.madiFrameReceived n subs parity good) s =
      .next (((s.madiReceived n ws w parity v good).trackRatio (24 + n)).arrive (24 + n) f idle) := by
  intro ws w
  have hu := isReceiver_madi hn
  have hcounted := ((((FrameTaken.madi s hn ws good).parityCounted hu (ws.filter (fun w => bit w 7)) parity).validityCounted hu
    (ws.any (fun w => bit w 7 && bit w 0))).countGood parity good).cfg
  rw [luCfg_madi] at hcounted
  have hsel := State.rd_congr (f := AES.MD_CFG.CSSEL n) hcounted
  refine ⟨ws.any (fun w => bit w 7 && bit w 0), ?_⟩
  unfold w
  rw [State.trackRatio_madi _ (by omega), ← hsel]
  exact ⟨_, _, congrArg Host.Outcome.next (if_pos (by simp [hn, hticking, hen, hst]))⟩

end

end Sys2Proof.Machine
end

section
/-!
PROOFS. Channel-status blocks and block starts off the grid (R296 to R298, R303, R308).
-/

namespace Sys2Proof.Machine

/-! ## Channel-status blocks (R296 to R298, R308) -/

/-- Receiver `u` no longer holds a completed block to be checked. -/
def State.blockTaken (s : State) (u : Nat) : State := s.setLu u { s.lu u with bits := none }

/-- Receiver `u` keeps the block of `a` and `b` until it is captured. -/
def State.blockKept (s : State) (u : Nat) (a b : List Nat) : State :=
  (s.blockTaken u).setLu u { (s.blockTaken u).lu u with block := some (a, b) }

/-- AES3 receiver `n` shows what block `a` says of its use and its grade. -/
def State.statusShown (s : State) (n : Nat) (a : List Nat) : State :=
  let pro := bit (a.headD 0) 0
  ((s.wrFlag (AES.RX_STAT.PRO n) pro).wrFlag (AES.RX_STAT.NONAUDIO n) (bit (a.headD 0) 1)).wr (AES.RX_STAT.GRADE n)
    (if pro then a.getD 4 0 % 4 else 3)

section
variable {u : Nat} {a b : List Nat} {s : State}

theorem exec_aesCsBlock (hu : isReceiver u) (hen : Cfg.luEn s.live u = true) (hblock : s.blockIs u a b = true) (ha : blockBad a = false)
    (hb : u < 24 → blockBad b = false) : exec (.aesCsBlock (u - 8) a b) s =
      .next (if u < 24 then (s.blockKept u a b).statusShown (u - 8) a else s.blockKept u a b) := by
  have hsrc : u - 8 + 8 = u := Nat.sub_add_cancel (Nat.not_lt.mp hu.not_sap)
  have hnot : ¬ (u < 24 ∧ blockBad b = true) := fun h => absurd h.2 (ne_true_of_eq_false (hb h.1))
  show execAesCsBlock (u - 8) a b s = _
  simp only [execAesCsBlock, hsrc, hu.isLocal, Nat.not_lt.mp hu.not_sap, hen, hblock, ha, hnot, decide_true, Bool.and_self, Bool.false_eq_true,
    if_true, if_false]
  rfl

/-- The event of a block that fails its CRCC, of AES3 receiver `u`. -/
theorem exec_aesCsBlock_bad (hu : isReceiver u) (h24 : u < 24) (hen : Cfg.luEn s.live u = true) (hblock : s.blockIs u a b = true)
    (hbad : blockBad a = true ∨ blockBad b = true) : ∃ d, exec (.aesCsBlock (u - 8) a b) s =
      .next (((s.blockTaken u).inc (AES.RX_ERR.CRCERR (u - 8))).unitEvent u 5 0x1005 d) := by
  have hsrc : u - 8 + 8 = u := Nat.sub_add_cancel (Nat.not_lt.mp hu.not_sap)
  have hsource : luSource u = u - 8 := if_neg hu.not_sap
  show ∃ d, execAesCsBlock (u - 8) a b s = _
  simp only [execAesCsBlock, hsrc, hu.isLocal, Nat.not_lt.mp hu.not_sap, hen, hblock, decide_true, Bool.and_self, if_true]
  unfold State.unitEvent
  rw [hsource]
  cases ha : blockBad a with
  | true => simp only [if_true, h24]; exact ⟨_, rfl⟩
  | false =>
    have hb : blockBad b = true := by simpa [ha] using hbad
    simp only [hb, h24, and_self, if_true, Bool.false_eq_true, if_false]
    exact ⟨_, rfl⟩

theorem State.blockTaken_unit (s : State) (u : Nat) : UnitSet u { s.lu u with bits := none } s (s.blockTaken u) := .setLu ..

theorem State.blockKept_unit (s : State) (u : Nat) (a b : List Nat) :
    UnitSet u { s.lu u with bits := none, block := some (a, b) } s (s.blockKept u a b) := by
  have htaken := s.blockTaken_unit u
  have hunit : (s.blockTaken u).lu u = { s.lu u with bits := none } := htaken.unit
  unfold State.blockKept
  rw [hunit]
  exact ⟨State.lu_setLu_same .., fun w hw => (Store.get_set_ne _ _ _ hw).trans (htaken.others w hw)⟩

theorem State.blockKept_frame (s : State) (u : Nat) (a b : List Nat) : Frame [.loc] s (s.blockKept u a b) :=
  (s.setLu_frame ..).seq (State.setLu_frame ..) rfl

theorem State.blockKept_word (s : State) (u : Nat) (a b : List Nat) (k : Nat) : (s.blockKept u a b).word k = s.word k :=
  State.word_congr ((s.blockKept_frame u a b).same .live rfl) k

theorem State.statusShown_frame (s : State) (n : Nat) (a : List Nat) : Frame [.live] s (s.statusShown n a) :=
  ((s.wrFlag_frame ..).seq (State.wrFlag_frame ..) rfl).seq (State.wr_frame ..) rfl

theorem State.statusShown_word (s : State) {n k : Nat} (a : List Nat) (h : k ≠ AES.RX_STAT n) : (s.statusShown n a).word k = s.word k :=
  (State.word_wr_ne _ _ h).trans ((State.word_wrFlag_ne _ _ h).trans (State.word_wrFlag_ne _ _ h))

theorem State.statusShown_grade (s : State) (n : Nat) (a : List Nat) :
    (s.statusShown n a).rd (AES.RX_STAT.GRADE n) = if bit (a.headD 0) 0 then a.getD 4 0 % 4 else 3 := by
  refine (State.rd_wr_same _ _ _ (show 26 + 2 ≤ 32 by decide)).trans (Nat.mod_eq_of_lt ?_)
  show _ < 4
  split <;> omega

/-- A block that fails its CRCC is counted and reported, and the receiver forgets it. -/
theorem State.blockFailed_counted (s : State) (hu : isReceiver u) (h24 : u < 24) (d : Nat) :
    let t := ((s.blockTaken u).inc (AES.RX_ERR.CRCERR (u - 8))).unitEvent u 5 0x1005 d
    Reported 0x1005 s t ∧ t.rd (AES.RX_ERR.CRCERR (u - 8)) = (s.rd (AES.RX_ERR.CRCERR (u - 8)) + 1) % 2 ^ 16 ∧
      t.lu u = { s.lu u with bits := none } ∧ Frame [.live, .evt, .loc, .out] s t := by
  have hc : 0x1005 < 0x1800 := by decide
  have hblock : unitWord (AES.RX_ERR (u - 8)) := by unfold isReceiver at hu; unfold unitWord AES.RX_ERR; omega
  have hhist : (luHist u).1 ≠ AES.RX_ERR (u - 8) := by
    rw [luHist, if_neg hu.not_sap, if_pos h24]; unfold AES.RX_HIST AES.RX_ERR; dsimp only; omega
  have htaken : ∀ k, (s.blockTaken u).word k = s.word k := State.setLu_word _ _ _
  refine ⟨?_, ?_, ?_, ?_⟩
  · exact (State.unitEvent_reported _ _ _ hu.isLocal hc).after_units hc fun k hk =>
      (State.word_inc_ne _ fun h : k = AES.RX_ERR (u - 8) => hk (h ▸ hblock)).trans (htaken k)
  · rw [State.rd_congr (State.unitEvent_word _ d hc hblock hhist), State.rd_inc_same _ (show 0 + 16 ≤ 32 by decide), State.rd_congr (htaken _)]
    rfl
  · exact (State.lu_congr (State.unitEvent_loc ..) u).trans (State.lu_setLu_same ..)
  · exact (((s.setLu_frame ..).weaken rfl).seq (State.inc_frame ..) rfl).seq (State.unitEvent_frame ..) rfl

end

/-! ## Z off the grid (R303) -/

section
variable {n e : Nat} {r : List Nat} {s : State}

theorem State.atxOf_congr {s t : State} (h : t.atx = s.atx) (n : Nat) : t.atxOf n = s.atxOf n := by
  unfold State.atxOf
  rw [h]

theorem State.atxOf_setAtx_same (s : State) (n : Nat) (x : AesTx) : (s.setAtx n x).atxOf n = x := Store.get_set_same _ _ _ _

theorem State.atxOf_setAtx_ne (s : State) {n m : Nat} (x : AesTx) (h : m ≠ n) : (s.setAtx n x).atxOf m = s.atxOf m := Store.get_set_ne _ _ _ h

/-- The words do not depend on the transmitters. -/
theorem State.setAtx_word (s : State) (n : Nat) (x : AesTx) (k : Nat) : (s.setAtx n x).word k = s.word k := State.word_congr rfl k

/-- The state in which the first Z off the grid of transmitter `n`, at count `e`, is reported, and those of `r` remain. -/
def State.blkerrReported (s : State) (n e : Nat) (r : List Nat) : State :=
  ((s.setAtx n { s.atxOf n with errs := r }).inc (AES.TX_BLKERR.val n)).report 0x1007 (8 + n) e

theorem exec_aesBlkerr (hn : n < 8) (herrs : (s.atxOf n).errs = e :: r) : exec (.aesBlkerr n) s = .next (s.blkerrReported n e r) := by
  show execAesBlkerr n s = _
  simp only [execAesBlkerr, herrs, hn, if_true]
  rfl

theorem State.blkerrReported_atx (s : State) (n e : Nat) (r : List Nat) :
    (s.blkerrReported n e r).atx = (s.setAtx n { s.atxOf n with errs := r }).atx :=
  ((State.inc_frame _ (AES.TX_BLKERR.val n)).weaken rfl |>.seq (State.report_frame ..) rfl : Frame [.live, .evt, .out] _ _).same .atx rfl

theorem AES.blkerr_unitWord (hn : n < 8) : unitWord (AES.TX_BLKERR n) := by
  unfold unitWord AES.TX_BLKERR
  omega

theorem State.blkerrReported_count (s : State) (hn : n < 8) (e : Nat) (r : List Nat) :
    (s.blkerrReported n e r).rd (AES.TX_BLKERR.val n) = (s.rd (AES.TX_BLKERR.val n) + 1) % 2 ^ 32 := by
  rw [State.blkerrReported, State.report_rd _ _ _ _ _ (AES.blkerr_unitWord hn).not_reportKey (by decide),
    State.rd_inc_same _ (show 0 + 32 ≤ 32 by decide), State.rd_congr (State.setAtx_word ..)]
  rfl

theorem State.blkerrReported_reported (s : State) (hn : n < 8) (e : Nat) (r : List Nat) : Reported 0x1007 s (s.blkerrReported n e r) :=
  (State.report_reported _ _ _ _ (by decide)).after_units (by decide) fun k hk =>
    (State.word_inc_ne _ fun h : k = AES.TX_BLKERR n => hk (h ▸ AES.blkerr_unitWord hn)).trans (State.setAtx_word ..)

theorem State.blkerrReported_frame (s : State) (n e : Nat) (r : List Nat) : Frame [.live, .evt, .atx, .out] s (s.blkerrReported n e r) :=
  (((s.setAtx_frame ..).weaken rfl).seq (State.inc_frame ..) rfl).seq (State.report_frame ..) rfl

end

/-- Settles O32: a frame by what its counts leave to the arrival, a block by its CRCC, a Z off the grid by its event. -/
theorem receiversCountFramesAndStatusBlocks : Obligations.ReceiversCountFramesAndStatusBlocks := by
  unfold Obligations.ReceiversCountFramesAndStatusBlocks
  intro n a b p z parity good ofs subs bs cs s ax mx ws w after ends
  have hends : ∀ {u y t}, Arrived u y s t → ends u y t := fun ⟨hstored, hasrc, hothers, hframe⟩ => ⟨hstored, hasrc, hothers, hframe⟩
  refine ⟨fun hn hticking hen hst => ?aes, fun hn hticking hen hst => ?madi, fun hn hen hblock => ⟨fun hbs hcs => ?kept, fun hbad => ?failed⟩,
    fun hn hen hblock hbs => ?madiKept, fun e r hn herrs => ?blkerr⟩
  case aes =>
    have hu := isReceiver_aes hn
    obtain ⟨f, hexec⟩ := exec_aesFrameReceived a b z parity good ofs hn hticking hen (by omega)
    obtain ⟨harrived, hword⟩ := (FrameTaken.aesReceived s a b z parity good ofs hn).arrived hu (by omega) f []
    have hpar : unitWord (AES.RX_ERR.PARERR n).key := luParity_aes hn ▸ (luParity_countWord hu).block
    have hvalidity : unitWord (AES.RX_VCNT (8 + n - 8)) := (luValidity_countWord hu (by omega)).block
    have hphase : unitWord (AES.RX_STAT.BLKPH n).key := luPhase_aes hn ▸ luPhase_key hu ▸ luStat_unitWord hu.isLocal
    rw [Nat.add_sub_cancel_left] at hvalidity
    refine ⟨_, hexec, hends harrived, (State.rd_congr (hword _ hpar)).trans (s.aesReceived_parity a b z parity good ofs hn),
      (State.rd_congr (hword _ hvalidity)).trans (s.aesReceived_validity a b z parity good ofs hn), fun hz hp => ?_⟩
    subst hz
    exact (State.rd_congr (hword _ hphase)).trans (s.aesReceived_phase a b parity good ofs hn (by omega) hp)
  case madi =>
    have hu := isReceiver_madi hn
    obtain ⟨v, f, idle, hexec⟩ := exec_madiFrameReceived subs parity good hn hticking hen (by omega)
    obtain ⟨harrived, hword⟩ := (FrameTaken.madiReceived s parity v good ws w hn).arrived hu (by omega) f idle
    have hblock : unitWord (AES.MD_ERR.PARERR n).key := luParity_madi n ▸ (luParity_countWord hu).block
    exact ⟨_, hexec, hends harrived,
      (State.rd_congr (f := AES.MD_ERR.CODEERR n) (hword _ hblock)).trans (s.madiReceived_codeError parity v good ws w hn),
      (State.rd_congr (f := AES.MD_ERR.PARERR n) (hword _ hblock)).trans (s.madiReceived_parity parity v good ws w hn)⟩
  case kept =>
    have hexec := exec_aesCsBlock (isReceiver_aes hn) hen hblock hbs fun _ => hcs
    rw [if_pos (by omega), Nat.add_sub_cancel_left] at hexec
    obtain ⟨hunit, hothers⟩ := (s.blockKept_unit (8 + n) bs cs).of_loc ((State.statusShown_frame _ n bs).same .loc rfl)
    exact ⟨_, hexec, hunit, hothers, State.statusShown_grade ..,
      fun k hk => (State.statusShown_word _ bs hk).trans (s.blockKept_word ..),
      ((s.blockKept_frame ..).weaken rfl).seq (State.statusShown_frame ..) rfl⟩
  case failed =>
    have hu := isReceiver_aes hn
    obtain ⟨d, hexec⟩ := exec_aesCsBlock_bad hu (by omega) hen hblock hbad
    obtain ⟨hreported, hcount, hunit, hframe⟩ := s.blockFailed_counted hu (by omega) d
    rw [Nat.add_sub_cancel_left] at hexec hreported hcount hunit hframe
    exact ⟨_, hexec, hreported, hcount, hunit, hframe⟩
  case madiKept =>
    have hexec := exec_aesCsBlock (isReceiver_madi hn) hen hblock hbs fun h => absurd h (by omega)
    rw [if_neg (by omega), show 24 + n - 8 = 16 + n by omega] at hexec
    obtain ⟨hunit, hothers⟩ := s.blockKept_unit (24 + n) bs cs
    exact ⟨_, hexec, hunit, hothers, s.blockKept_frame ..⟩
  case blkerr =>
    have hatx := s.blkerrReported_atx n e r
    exact ⟨_, exec_aesBlkerr hn herrs, (State.atxOf_congr hatx n).trans (s.atxOf_setAtx_same ..), s.blkerrReported_count hn e r,
      s.blkerrReported_reported hn e r, fun m hm => (State.atxOf_congr hatx m).trans (s.atxOf_setAtx_ne _ hm), s.blkerrReported_frame n e r⟩

end Sys2Proof.Machine
end

section
/-!
PROOFS. ASRC groups: how they lock, lose their ratio, acquire again and return (R310, R311).
-/

namespace Sys2Proof.Machine

/-! ## The registers of a group -/

/-- Word `k` is the status, the ratio or the history of ASRC group `g`. -/
def groupWord (g k : Nat) : Prop := k = ASRC.G_STAT g ∨ k = ASRC.G_RATIO g ∨ k = ASRC.G_HIST g

theorem groupWord.not_reportKey {g k : Nat} (h : groupWord g k) (hg : g < 16) : reportKey k = false := by
  unfold groupWord ASRC.G_STAT ASRC.G_RATIO ASRC.G_HIST at h
  exact not_reportKey_of_above (by omega) (by unfold msixPending; omega)

theorem ASRC.stat_ne_ratio (g : Nat) : ASRC.G_STAT g ≠ ASRC.G_RATIO g := by unfold ASRC.G_STAT ASRC.G_RATIO; omega

theorem ASRC.stat_ne_hist (g : Nat) : ASRC.G_STAT g ≠ ASRC.G_HIST g := by unfold ASRC.G_STAT ASRC.G_HIST; omega

theorem ASRC.ratio_ne_hist (g : Nat) : ASRC.G_RATIO g ≠ ASRC.G_HIST g := by unfold ASRC.G_RATIO ASRC.G_HIST; omega

theorem ratioFits_iff {ratio : Nat} : ratioFits ratio = true ↔ 2 ^ 21 ≤ ratio ∧ ratio ≤ 2 ^ 27 := by
  rw [ratioFits, Bool.and_eq_true, decide_eq_true_eq, decide_eq_true_eq]

/-! ## Events of a group -/

section
variable {g code : Nat} {mark : Fld} {s t u : State}

/-- From `s` to `t` the sticky flag `mark` of group `g` is set, event `code` is reported once, and beyond what the report writes only the words of
the group change. -/
structure GroupEvent (g : Nat) (mark : Fld) (code : Nat) (s t : State) : Prop where
  mark : t.flag mark = true
  reported : Reported code s t
  only : ∀ k, k ≠ ASRC.G_STAT g → k ≠ ASRC.G_RATIO g → k ≠ ASRC.G_HIST g → reportKey k = false → t.word k = s.word k

/-- An event after operations that wrote the group's words only. -/
theorem GroupEvent.sqf_report (source data : Nat) (hg : g < 16) (hc : code < 0x1800) (hkey : mark.key = ASRC.G_HIST g) (h1 : mark.width = 1)
    (hlo : mark.lo < 24) (hkept : ∀ k, ¬ groupWord g k → t.word k = s.word k) :
    GroupEvent g mark code s ((t.sqf mark).report code source data) := by
  have hhist : groupWord g mark.key := .inr (.inr hkey)
  have hword : ∀ k, ¬ groupWord g k → (t.sqf mark).word k = s.word k := fun k hk =>
    (State.word_sqf_ne _ fun h : k = mark.key => hk (h ▸ hhist)).trans (hkept k hk)
  have hevt : ∀ k, 0x20000 ≤ k ∧ k < 0x23000 → (t.sqf mark).word k = s.word k := fun k hk =>
    hword k fun h => ne_of_not_reportKey (h.not_reportKey hg) hk rfl
  refine ⟨?_, (State.report_reported _ _ _ _ hc).after (hevt _ ?_) (hevt _ ?_), fun k hstat hratio hh hrep => ?_⟩
  · rw [State.report_flag _ _ _ _ _ (hhist.not_reportKey hg) hc, State.flag_sqf_same _ h1 hlo]
  · unfold EVT.BLKCNT; omega
  · unfold EVT.IPEND; omega
  · rw [State.report_word _ _ _ _ hrep hc, hword k (by simp [groupWord, hstat, hratio, hh])]

/-- An event writes the group's history and what a report writes, so the group's status and ratio stay. -/
theorem State.rd_sqf_report (t : State) {f : Fld} (source data : Nat) (hg : g < 16) (hc : code < 0x1800) (hf : groupWord g f.key)
    (hmark : f.key ≠ mark.key) : ((t.sqf mark).report code source data).rd f = t.rd f := by
  rw [State.report_rd _ _ _ _ _ (hf.not_reportKey hg) hc, State.rd_congr (State.word_sqf_ne _ hmark)]

end

/-! ## The status and the ratio of a group -/

/-- The state with STATE and RATIO of group `g` written. -/
def State.groupSet (s : State) (g st ratio : Nat) : State := (s.wr (ASRC.G_STAT.STATE g) st).wr (ASRC.G_RATIO.val g) ratio

section
variable (s : State) {g st ratio : Nat}

theorem State.groupSet_word {k : Nat} (h : ¬ groupWord g k) : (s.groupSet g st ratio).word k = s.word k := by
  simp only [groupWord, not_or] at h
  obtain ⟨hstat, hratio, -⟩ := h
  exact (State.word_wr_ne _ _ hratio).trans (State.word_wr_ne _ _ hstat)

theorem State.groupSet_state (h : st < 4) : (s.groupSet g st ratio).rd (ASRC.G_STAT.STATE g) = st := by
  rw [State.groupSet, State.rd_congr (State.word_wr_ne _ _ (ASRC.stat_ne_ratio g)), State.rd_wr_same _ _ _ (show 30 + 2 ≤ 32 by decide)]
  exact Nat.mod_eq_of_lt h

theorem State.groupSet_relock : (s.groupSet g st ratio).rd (ASRC.G_STAT.RELOCK g) = s.rd (ASRC.G_STAT.RELOCK g) := by
  rw [State.groupSet, State.rd_congr (State.word_wr_ne _ _ (ASRC.stat_ne_ratio g)),
    State.rd_wr_apart _ _ _ _ (show 30 + 2 ≤ 32 by decide) (.inr (.inl (show 8 + 8 ≤ 30 by decide)))]

theorem State.groupSet_ratio (h : ratio < 2 ^ 32) : (s.groupSet g st ratio).rd (ASRC.G_RATIO.val g) = ratio :=
  (State.rd_wr_same _ _ _ (show 0 + 32 ≤ 32 by decide)).trans (Nat.mod_eq_of_lt h)

end

/-! ## Locks, losses and relocks (R310, R311) -/

section
variable {s : State} {g ratio cause : Nat}

theorem exec_asrcLocked (hg : g < 16) (hst : s.rd (ASRC.G_STAT.STATE g) = 1) (hfits : ratioFits ratio = true) :
    ∃ x, exec (.asrcLocked g ratio) s =
      .next ((((s.groupSet g 2 ratio).setLu (32 + g) x).sqf (ASRC.G_HIST.LOCKED g)).report 0x1101 g ratio) :=
  ⟨_, congrArg Host.Outcome.next (if_pos ⟨hg, hst, hfits⟩)⟩

theorem exec_asrcLost (hg : g < 16) (hst : s.rd (ASRC.G_STAT.STATE g) = 1 ∨ s.rd (ASRC.G_STAT.STATE g) = 2) (hcause : cause < 2) :
    exec (.asrcLost g cause) s = .next (s.asrcLose g cause) :=
  congrArg Host.Outcome.next (if_pos ⟨hg, hst, hcause⟩)

/-- `ratio` lies more than 200 ppm away from the RATIO of group `g`. -/
def State.ratioSteps (s : State) (g ratio : Nat) : Prop :=
  s.rd (ASRC.G_RATIO.val g) * 200 < apart (s.rd (ASRC.G_RATIO.val g)) ratio * 10 ^ 6

theorem exec_asrcRelock (hg : g < 16) (hst : s.rd (ASRC.G_STAT.STATE g) = 2) (hstep : s.ratioSteps g ratio) (hfits : ratioFits ratio = true) :
    exec (.asrcRelock g ratio) s =
      .next ((((s.asrcClose g).groupSet g 1 ratio).inc (ASRC.G_STAT.RELOCK g)).sqf (ASRC.G_HIST.RELOCK g)) :=
  congrArg Host.Outcome.next ((if_pos ⟨hg, hst, hstep⟩).trans (if_pos hfits))

theorem exec_asrcRelock_lost (hg : g < 16) (hst : s.rd (ASRC.G_STAT.STATE g) = 2) (hstep : s.ratioSteps g ratio)
    (hfits : ratioFits ratio = false) : exec (.asrcRelock g ratio) s = .next (s.asrcLose g 1) :=
  congrArg Host.Outcome.next ((if_pos ⟨hg, hst, hstep⟩).trans (if_neg (ne_true_of_eq_false hfits)))

theorem exec_asrcForeignEdgeReturn (hg : g < 16) (hst : s.rd (ASRC.G_STAT.STATE g) = 3) :
    exec (.asrcForeignEdgeReturn g) s = .next (s.wr (ASRC.G_STAT.STATE g) 1) :=
  congrArg Host.Outcome.next (if_pos ⟨hg, hst⟩)

/-- The words do not depend on the spans of lock. -/
theorem State.asrcClose_word (s : State) (g k : Nat) : (s.asrcClose g).word k = s.word k := State.setLu_word ..

/-- From `s` to `t` group `g` is LOST: its STATE says so, the loss is marked and reported, and its RATIO stays. -/
structure GroupLost (g : Nat) (s t : State) : Prop extends GroupEvent g (ASRC.G_HIST.LOST g) 0x1102 s t where
  state : t.rd (ASRC.G_STAT.STATE g) = 3
  ratio : t.rd (ASRC.G_RATIO.val g) = s.rd (ASRC.G_RATIO.val g)

theorem State.asrcLose_lost (s : State) (cause : Nat) (hg : g < 16) : GroupLost g s (s.asrcLose g cause) where
  toGroupEvent := .sqf_report g cause hg (by decide) rfl rfl (show 1 < 24 by decide) fun k hk =>
    (State.word_wr_ne _ _ fun h => hk (.inl h)).trans (s.asrcClose_word g k)
  state := by
    rw [State.asrcLose, State.rd_sqf_report _ g cause hg (by decide) (.inl rfl) (ASRC.stat_ne_hist g)]
    exact State.rd_wr_same _ _ _ (show 30 + 2 ≤ 32 by decide)
  ratio := by
    rw [State.asrcLose, State.rd_sqf_report _ g cause hg (by decide) (.inr (.inl rfl)) (ASRC.ratio_ne_hist g),
      State.rd_congr (State.word_wr_ne _ _ (ASRC.stat_ne_ratio g).symm), State.rd_congr (s.asrcClose_word g _)]

end

/-- Settles O33: each command by the STATE and the RATIO that it writes, its event by what a report leaves alone. -/
theorem asrcGroupsLockLoseAndRelock : Obligations.AsrcGroupsLockLoseAndRelock := by
  unfold Obligations.AsrcGroupsLockLoseAndRelock
  intro g ratio cause s st old step only lost hg hratio
  have hlost : ∀ c, lost (s.asrcLose g c) := fun c => by
    obtain ⟨⟨hmark, hreported, honly⟩, hstate, hkept⟩ := s.asrcLose_lost c hg
    exact ⟨hstate, hmark, hkept, honly, hreported, s.asrcLose_frame g c⟩
  refine ⟨fun hst hlo hhi => ?lock, fun hst hcause => ⟨_, exec_asrcLost hg hst hcause, hlost cause⟩, fun hst hstep hlo hhi => ?relock,
    fun hst hstep hout => ⟨_, exec_asrcRelock_lost hg hst hstep ?out, hlost 1⟩, fun hst => ?back⟩
  case lock =>
    obtain ⟨x, hexec⟩ := exec_asrcLocked hg hst (ratioFits_iff.mpr ⟨hlo, hhi⟩)
    have hset : ∀ k, ((s.groupSet g 2 ratio).setLu (32 + g) x).word k = (s.groupSet g 2 ratio).word k := State.setLu_word _ _ _
    obtain ⟨hmark, hreported, honly⟩ := GroupEvent.sqf_report (code := 0x1101) (mark := ASRC.G_HIST.LOCKED g) g ratio hg (by decide) rfl rfl
      (show 0 < 24 by decide) fun k hk => (hset k).trans (s.groupSet_word hk)
    refine ⟨_, hexec, ?_, ?_, hmark, honly, hreported, execAsrcLocked_frame g ratio s _ hexec⟩
    · rw [State.rd_sqf_report _ g ratio hg (by decide) (.inl rfl) (ASRC.stat_ne_hist g), State.rd_congr (hset _), s.groupSet_state (by decide)]
    · rw [State.rd_sqf_report _ g ratio hg (by decide) (.inr (.inl rfl)) (ASRC.ratio_ne_hist g), State.rd_congr (hset _), s.groupSet_ratio hratio]
  case relock =>
    have hexec := exec_asrcRelock hg hst hstep (ratioFits_iff.mpr ⟨hlo, hhi⟩)
    have hclose := s.asrcClose_word g
    refine ⟨_, hexec, ?_, ?_, ?_, State.flag_sqf_same _ rfl (show 2 < 24 by decide), fun k hstat hr hh _ => ?_, ?_⟩
    · rw [State.rd_congr (State.word_sqf_ne _ (ASRC.stat_ne_hist g))]
      exact (State.rd_wr_apart _ _ _ _ (show 8 + 8 ≤ 32 by decide) (.inr (.inr (show 8 + 8 ≤ 30 by decide)))).trans
        (State.groupSet_state _ (by decide))
    · rw [State.rd_congr (State.word_sqf_ne _ (ASRC.ratio_ne_hist g)), State.rd_congr (State.word_inc_ne _ (ASRC.stat_ne_ratio g).symm),
        State.groupSet_ratio _ hratio]
    · rw [State.rd_congr (State.word_sqf_ne _ (ASRC.stat_ne_hist g)), State.rd_inc_same _ (show 8 + 8 ≤ 32 by decide), State.groupSet_relock,
        State.rd_congr (hclose _)]
    · rw [State.word_sqf_ne _ hh, State.word_inc_ne _ hstat, State.groupSet_word _ (by simp [groupWord, hstat, hr, hh]), hclose]
    · exact (((((s.asrcClose_frame g).weaken rfl).seq (State.wr_frame ..) rfl).seq (State.wr_frame ..) rfl).seq (State.inc_frame ..) rfl).seq
        (State.sqf_frame ..) rfl
  case out => exact eq_false_of_ne_true fun hfits => by have := ratioFits_iff.mp hfits; omega
  case back =>
    exact ⟨_, exec_asrcForeignEdgeReturn hg hst, State.rd_wr_same _ _ _ (show 30 + 2 ≤ 32 by decide), fun k hk => State.word_wr_ne _ _ hk,
      s.wr_frame ..⟩

end Sys2Proof.Machine
end

section
/-!
PROOFS. How a field reads after an operation on words: one law for each operation and each way of reading, with side conditions on the addresses
and bits of the two fields alone.
-/

namespace Sys2Proof.Machine

/-- Field `f` fits in its word, and field `g` is clear of it: in another word, or without a common bit. -/
def Fld.clear (g f : Fld) : Prop := f.lo + f.width ≤ 32 ∧ (g.key ≠ f.key ∨ g.lo + g.width ≤ f.lo ∨ f.lo + f.width ≤ g.lo)

/-- Word `k` is none that a report writes: it lies outside the EVT block and below the MSI-X area. -/
def reportSpares (k : Nat) : Prop := (k < 0x20000 ∨ 0x23000 ≤ k) ∧ k < 2 ^ 32

theorem reportSpares.not_reportKey {k : Nat} (h : reportSpares k) : reportKey k = false := by
  obtain ⟨hout, hlt⟩ := h
  simp only [reportKey, msixPending, Bool.or_eq_false_iff, Bool.and_eq_false_iff, decide_eq_false_iff_not, beq_eq_false_iff_ne]
  omega

theorem State.flag_of_rd {s t : State} {g : Fld} (h : t.rd g = s.rd g) : t.flag g = s.flag g := by rw [State.flag, h, State.flag]

section
variable {f g : Fld}

/-! ## Fields that an operation leaves alone -/

@[simp] theorem State.rd_wr_clear (s : State) (v : Nat) (h : g.clear f) : (s.wr f v).rd g = s.rd g := State.rd_wr_apart s f g v h.1 h.2

@[simp] theorem State.rd_wrFlag_clear (s : State) (b : Bool) (h : g.clear f) : (s.wrFlag f b).rd g = s.rd g := s.rd_wr_clear _ h

@[simp] theorem State.rd_wrS_clear (s : State) (i : Int) (h : g.clear f) : (s.wrS f i).rd g = s.rd g := s.rd_wr_clear _ h

@[simp] theorem State.rd_add_clear (s : State) (n : Nat) (h : g.clear f) : (s.add f n).rd g = s.rd g := s.rd_wr_clear _ h

@[simp] theorem State.rd_inc_clear (s : State) (h : g.clear f) : (s.inc f).rd g = s.rd g := s.rd_wr_clear _ h

@[simp] theorem State.rd_sqf_clear (s : State) (h : g.key ≠ f.key) : (s.sqf f).rd g = s.rd g := State.rd_congr (s.word_sqf_ne h)

@[simp] theorem State.rd_sq_clear (s : State) {k : Nat} (i : Nat) (h : g.key ≠ k) : (s.sq k i).rd g = s.rd g := State.rd_congr (s.word_sq_ne i h)

@[simp] theorem State.rd_setNum_clear (s : State) {k : Nat} (v : Nat) (h : g.key ≠ k) : (s.setNum k v).rd g = s.rd g :=
  State.rd_congr (s.word_setNum_ne v h)

@[simp] theorem State.rd_report_clear (s : State) {code : Nat} (source data : Nat) (h : reportSpares g.key ∧ code < 0x1800) :
    (s.report code source data).rd g = s.rd g := s.report_rd g code source data h.1.not_reportKey h.2

@[simp] theorem State.rd_emit (s : State) (o : Output) : (s.emit o).rd g = s.rd g := State.rd_congr rfl

@[simp] theorem State.flag_wr_clear (s : State) (v : Nat) (h : g.clear f) : (s.wr f v).flag g = s.flag g := State.flag_of_rd (s.rd_wr_clear v h)

@[simp] theorem State.flag_wrFlag_clear (s : State) (b : Bool) (h : g.clear f) : (s.wrFlag f b).flag g = s.flag g := s.flag_wr_clear _ h

@[simp] theorem State.flag_wrS_clear (s : State) (i : Int) (h : g.clear f) : (s.wrS f i).flag g = s.flag g := s.flag_wr_clear _ h

@[simp] theorem State.flag_add_clear (s : State) (n : Nat) (h : g.clear f) : (s.add f n).flag g = s.flag g := s.flag_wr_clear _ h

@[simp] theorem State.flag_inc_clear (s : State) (h : g.clear f) : (s.inc f).flag g = s.flag g := s.flag_wr_clear _ h

@[simp] theorem State.flag_sqf_clear (s : State) (h : g.key ≠ f.key) : (s.sqf f).flag g = s.flag g := State.flag_of_rd (s.rd_sqf_clear h)

@[simp] theorem State.flag_sq_clear (s : State) {k : Nat} (i : Nat) (h : g.key ≠ k) : (s.sq k i).flag g = s.flag g :=
  State.flag_of_rd (s.rd_sq_clear i h)

@[simp] theorem State.flag_setNum_clear (s : State) {k : Nat} (v : Nat) (h : g.key ≠ k) : (s.setNum k v).flag g = s.flag g :=
  State.flag_of_rd (s.rd_setNum_clear v h)

@[simp] theorem State.flag_report_clear (s : State) {code : Nat} (source data : Nat) (h : reportSpares g.key ∧ code < 0x1800) :
    (s.report code source data).flag g = s.flag g := State.flag_of_rd (s.rd_report_clear source data h)

@[simp] theorem State.flag_emit (s : State) (o : Output) : (s.emit o).flag g = s.flag g := State.flag_congr rfl

/-! ## The field written -/

/-- A value that fits its field reads back. -/
theorem State.rd_wr_self (s : State) {v : Nat} (h : f.lo + f.width ≤ 32 ∧ v < 2 ^ f.width) : (s.wr f v).rd f = v := by
  rw [State.rd_wr_same _ _ _ h.1, Nat.mod_eq_of_lt h.2]

/-- A flag reads back. -/
theorem State.flag_wrFlag_self (s : State) (b : Bool) (h : f.lo + f.width ≤ 32 ∧ 0 < f.width ∧ f.width < 2) : (s.wrFlag f b).flag f = b :=
  s.flag_wrFlag_same f b h.1 (by omega)

/-- A sticky flag is set by its event. -/
theorem State.flag_sqf_self (s : State) (h : f.lo < 24 ∧ 0 < f.width ∧ f.width < 2) : (s.sqf f).flag f = true :=
  s.flag_sqf_same (by omega) h.1

end

/-- An integer within the range of its field reads back. -/
theorem State.rdS_wrS_self (s : State) {f : Fld} {i : Int} (hf : 0 < f.width ∧ f.lo + f.width ≤ 32) (hi : simmOk f.width i = true) :
    (s.wrS f i).rdS f = i := by
  have hlt := wrapN_lt f.width i
  rw [State.rdS, State.wrS, State.rd_wr_self _ ⟨hf.2, hlt⟩]
  exact (signedN_eq_iff hf.1 hlt).mpr ⟨hi, rfl⟩

theorem State.rdS_of_rd {s t : State} {f : Fld} (h : t.rd f = s.rd f) : t.rdS f = s.rdS f := by rw [State.rdS, h, State.rdS]

/-! ## Reports after and before other operations -/

/-- Where the words of the EVT block have stood still, a report is the first event since (R501, R507). -/
theorem Reported.report_of_kept {s u : State} {code : Nat} (source data : Nat) (hc : code < 0x1800)
    (h : ∀ j, 0x20000 ≤ j → j < 0x23000 → u.word j = s.word j) : Reported code s (u.report code source data) :=
  (u.report_reported code source data hc).after (h _ (by unfold EVT.BLKCNT; omega) (by unfold EVT.BLKCNT; omega))
    (h _ (by unfold EVT.IPEND; omega) (by unfold EVT.IPEND; omega))

/-- A report stays the only event where the words of the EVT block stand still after it. -/
theorem Reported.of_kept {s t u : State} {code : Nat} (hr : Reported code s t) (hc : code < 0x1800)
    (h : ∀ j, 0x20000 ≤ j → j < 0x23000 → u.word j = t.word j) : Reported code s u :=
  hr.before (h _ (by unfold EVT.BLKCNT; omega) (by unfold EVT.BLKCNT; omega)) (h _ (by unfold EVT.IPEND; omega) (by unfold EVT.IPEND; omega))

end Sys2Proof.Machine
end

section
/-!
PROOFS. The states of a reference input (R318, R320 to R322, R328).
-/

namespace Sys2Proof.Machine

/-! ## The registers of an input, and the inputs as a store -/

/-- Where the fields of an input stand that its events write or read. -/
theorem REF.inputFields (k : Nat) :
    REF.IN_STAT.QSTATE k = ⟨0x50120 + k * 0x40, 29, 3⟩ ∧ REF.IN_STAT.RESTORING k = ⟨0x50120 + k * 0x40, 27, 1⟩ ∧
    REF.IN_STAT.CAUSE k = ⟨0x50120 + k * 0x40, 8, 4⟩ ∧ REF.IN_OFS.val k = ⟨0x50124 + k * 0x40, 0, 32⟩ ∧
    REF.IN_D1.val k = ⟨0x50128 + k * 0x40, 0, 32⟩ ∧ REF.IN_D10.val k = ⟨0x5012C + k * 0x40, 0, 32⟩ ∧
    REF.IN_D100.val k = ⟨0x50130 + k * 0x40, 0, 32⟩ ∧ REF.IN_RATE.val k = ⟨0x5013C + k * 0x40, 0, 32⟩ ∧
    REF.IN_HIST.QUALIFIED k = ⟨0x50138 + k * 0x40, 1, 1⟩ ∧ REF.IN_HIST.DISQUALIFIED k = ⟨0x50138 + k * 0x40, 3, 1⟩ ∧
    REF.IN_HIST.INACTIVE k = ⟨0x50138 + k * 0x40, 0, 1⟩ ∧ REF.IN_STAT k = 0x50120 + k * 0x40 := by
  and_intros <;> rfl

/-- Where the fields of REF stand that concern all inputs. -/
theorem REF.commonFields :
    REF.HIST.DISQUAL = ⟨0x50044, 7, 1⟩ ∧ REF.STATUS.DEGRADED = ⟨0x50040, 19, 1⟩ ∧ REF.STATUS.WTRLEFT = ⟨0x50040, 0, 16⟩ ∧
    REF.TIMERS.WTR = ⟨0x50010, 16, 16⟩ ∧ REF.STATUS = 0x50040 ∧ REF.HOPPT = 0x5004C ∧ REF.HOTIME = 0x50050 := by
  and_intros <;> rfl

theorem State.refIn_setRefIn_same (s : State) (k : Nat) (x : RefIn) : (s.setRefIn k x).refIn k = x := Store.get_set_same _ _ _ _

theorem State.refIn_setRefIn_ne (s : State) {k j : Nat} (x : RefIn) (h : j ≠ k) : (s.setRefIn k x).refIn j = s.refIn j :=
  Store.get_set_ne _ _ _ h

theorem State.refIn_congr {s t : State} (h : t.ref = s.ref) (k : Nat) : t.refIn k = s.refIn k := by rw [State.refIn, h, State.refIn]

@[simp] theorem State.rd_setRefIn (s : State) (k : Nat) (x : RefIn) (f : Fld) : (s.setRefIn k x).rd f = s.rd f := State.rd_congr rfl
@[simp] theorem State.flag_setRefIn (s : State) (k : Nat) (x : RefIn) (f : Fld) : (s.setRefIn k x).flag f = s.flag f := State.flag_congr rfl
@[simp] theorem State.word_setRefIn (s : State) (k : Nat) (x : RefIn) (j : Nat) : (s.setRefIn k x).word j = s.word j := State.word_congr rfl j

/-- From `s` to `t` input `k` becomes `x`, and no other input changes. -/
structure RefInSet (k : Nat) (x : RefIn) (s t : State) : Prop where
  this : t.refIn k = x
  others : ∀ j, j ≠ k → t.refIn j = s.refIn j

theorem RefInSet.setRefIn {s t : State} {k : Nat} (x : RefIn) (h : t.ref = s.ref) : RefInSet k x s (t.setRefIn k x) :=
  ⟨t.refIn_setRefIn_same k x, fun _ hj => (t.refIn_setRefIn_ne x hj).trans (State.refIn_congr h _)⟩

theorem RefInSet.of_ref {s t u : State} {k : Nat} {x : RefIn} (h : RefInSet k x s t) (hu : u.ref = t.ref) : RefInSet k x s u :=
  ⟨(State.refIn_congr hu k).trans h.this, fun j hj => (State.refIn_congr hu j).trans (h.others j hj)⟩

/-! ## A second of measurement (R318) -/

section
variable {s : State} {k : Nat}

/-- What a second of measurement writes: the record of the input, its offset, its rate and its drift rates. -/
theorem State.measure_eq (s : State) (k : Nat) (ofs : Int) : ∃ x d1 d10 d100,
    s.measure k ofs = (((((s.setRefIn k x).wrS (REF.IN_OFS.val k) ofs).wr (REF.IN_RATE.val k) (if edgeInput k then s.edgeRate k ofs else 0)).wrS
      (REF.IN_D1.val k) d1).wrS (REF.IN_D10.val k) d10).wrS (REF.IN_D100.val k) d100 ∧
    x.secs = (s.refIn k).secs + 1 ∧ x.ofs = (ofs :: (s.refIn k).ofs).take 101 ∧ x.overRate = decide (5000000 < ofs.natAbs) :=
  ⟨_, _, _, _, rfl, rfl, rfl, rfl⟩

/-- What follows the measurements of a second. -/
def State.endSecond (s : State) : State := s.freeze.recordSecond.holdTime.wtrLeft

theorem State.freeze_ins (s : State) : s.freeze.ref.ins = s.ref.ins := by
  unfold State.freeze
  extract_lets _ on t
  split <;> rfl

theorem State.recordSecond_ins (s : State) : s.recordSecond.ref.ins = s.ref.ins := by
  unfold State.recordSecond
  dsimp only [State.reportHold, State.wrS_ref]
  split <;> rfl

theorem State.endSecond_refIn (s : State) (j : Nat) : s.endSecond.refIn j = s.refIn j := by
  have hins : s.endSecond.ref.ins = s.ref.ins := by
    rw [State.endSecond, (State.wtrLeft_frame _).same .ref rfl, (State.holdTime_frame _).same .ref rfl, State.recordSecond_ins, State.freeze_ins]
  rw [State.refIn, hins, State.refIn]

theorem State.freeze_word (s : State) {j : Nat} (h : j ≠ REF.STATUS) : s.freeze.word j = s.word j := by
  unfold State.freeze
  extract_lets _ on t
  have ht : t.word j = s.word j := s.word_wrFlag_ne _ h
  split <;> exact ht

theorem State.recordSecond_word (s : State) {j : Nat} (h : j ≠ REF.HOPPT) : s.recordSecond.word j = s.word j := by
  refine (State.word_wrS_ne _ _ h).trans ?_
  dsimp only
  split <;> rfl

theorem State.holdTime_word (s : State) {j : Nat} (h : j ≠ REF.HOTIME) : s.holdTime.word j = s.word j := by
  unfold State.holdTime
  split
  · exact s.word_wr_ne _ h
  · rfl

theorem State.wtrLeft_word (s : State) {j : Nat} (h : j ≠ REF.STATUS) : s.wtrLeft.word j = s.word j := s.word_wr_ne _ h

theorem State.endSecond_word (s : State) {j : Nat} (hstatus : j ≠ REF.STATUS) (hoppt : j ≠ REF.HOPPT) (hotime : j ≠ REF.HOTIME) :
    s.endSecond.word j = s.word j := by
  rw [State.endSecond, State.wtrLeft_word _ hstatus, State.holdTime_word _ hotime, State.recordSecond_word _ hoppt, State.freeze_word _ hstatus]

theorem State.endSecond_frame (s : State) : Frame [.live, .ref] s s.endSecond :=
  ((s.freeze_frame.seq (State.recordSecond_frame _) rfl).seq (State.holdTime_frame _) rfl).seq (State.wtrLeft_frame _) rfl

/-- A second of an input that measures is recorded, and leaves its state. -/
theorem exec_refSecond {ofs : Int} (rate : Nat) (hk : k < 10) (hq : s.qstate k = 2) (hsignal : s.refStopped k = false) (hrate : ofs.natAbs ≤ 5000000) :
    exec (.refSecond [(k, ofs, rate)]) s = .next (s.measure k ofs).endSecond := by
  obtain ⟨x, d1, d10, d100, hmeasure, -, -, hover⟩ := s.measure_eq k ofs
  have hq' : (s.measure k ofs).qstate k = 2 := by
    rw [hmeasure, State.qstate]
    simp (disch := first | (simp only [Fld.clear, REF.inputFields, REF.commonFields] <;> omega) | fail)
    exact hq
  have hx : (s.measure k ofs).refIn k = x := by rw [hmeasure]; exact s.refIn_setRefIn_same k x
  have hstays : (s.measure k ofs).requalify k = s.measure k ofs := by
    have hslow : x.overRate = false := hover.trans (decide_eq_false (by omega))
    simp [State.requalify, hx, hslow, hq']
  show Host.Outcome.next _ = _
  simp [State.endSecond, hk, hq, hsignal, hstays]

/-! ## Measurements begun, and inputs without a signal (R321, R322, R328) -/

/-- An input whose measurement starts holds no offset and is as good as it was lost. -/
theorem State.measuring_eq (s : State) (k : Nat) : ∃ x, x.secs = 0 ∧ x.ofs = [] ∧
    s.measuring k = ((((((s.wr (REF.IN_STAT.QSTATE k) 2).wr (REF.IN_STAT.CAUSE k) 0).wrFlag (REF.IN_STAT.RESTORING k) true).wr
      (REF.IN_D1.val k) 0).wr (REF.IN_D10.val k) 0).wr (REF.IN_D100.val k) 0).setRefIn k x :=
  ⟨_, rfl, rfl, rfl⟩

/-- Input `k` holds no offset and no drift rate. -/
def NoDrift (k : Nat) (t : State) : Prop :=
  (t.refIn k).secs = 0 ∧ (t.refIn k).ofs = [] ∧ t.rd (REF.IN_D1.val k) = 0 ∧ t.rd (REF.IN_D10.val k) = 0 ∧ t.rd (REF.IN_D100.val k) = 0

/-- From `s` to `t` a measurement of input `k` has started: nothing is measured yet, and the input restores (R321, R322, R328). -/
structure Measuring (k : Nat) (s t : State) : Prop where
  state : t.qstate k = 2
  restoring : t.flag (REF.IN_STAT.RESTORING k) = true
  cause : t.rd (REF.IN_STAT.CAUSE k) = 0
  empty : NoDrift k t
  words : ∀ j, [REF.IN_STAT k, REF.IN_D1 k, REF.IN_D10 k, REF.IN_D100 k].contains j = false → t.word j = s.word j
  others : ∀ j, j ≠ k → t.refIn j = s.refIn j
  frame : Frame [.live, .ref] s t

theorem State.measuring_measuring (s : State) (k : Nat) : Measuring k s (s.measuring k) := by
  have hframe := s.measuring_frame k
  obtain ⟨x, hsecs, hofs, heq⟩ := s.measuring_eq k
  have hset := RefInSet.setRefIn (s := s) (t := (((((s.wr (REF.IN_STAT.QSTATE k) 2).wr (REF.IN_STAT.CAUSE k) 0).wrFlag
    (REF.IN_STAT.RESTORING k) true).wr (REF.IN_D1.val k) 0).wr (REF.IN_D10.val k) 0).wr (REF.IN_D100.val k) 0) (k := k) x
    (by rw [State.wr_ref, State.wr_ref, State.wr_ref, State.wrFlag_ref, State.wr_ref, State.wr_ref])
  rw [← heq] at hset
  refine ⟨?state, ?restoring, ?cause, ⟨?secs, ?ofs, ?d1, ?d10, ?d100⟩, fun j hj => ?words, hset.others, hframe⟩
  case secs => rw [hset.this, hsecs]
  case ofs => rw [hset.this, hofs]
  case words =>
    simp only [List.contains_cons, List.contains_nil, Bool.or_false, Bool.or_eq_false_iff, beq_eq_false_iff_ne] at hj
    obtain ⟨hstat, hd1, hd10, hd100⟩ := hj
    rw [heq, State.word_setRefIn, State.word_wr_ne _ _ hd100, State.word_wr_ne _ _ hd10, State.word_wr_ne _ _ hd1, State.word_wrFlag_ne _ _ hstat,
      State.word_wr_ne _ _ hstat, State.word_wr_ne _ _ hstat]
  all_goals
    rw [heq]
    simp (disch := first | (simp only [Fld.clear, REF.inputFields, REF.commonFields] <;> omega) | fail) [State.qstate, State.rd_wr_self, State.flag_wrFlag_self]

theorem exec_refCauseCleared (hk : k < 10) (hq : s.qstate k = 5) (hdwell : s.dwell k ≤ (s.refIn k).clear) :
    exec (.refCauseCleared k) s = .next (s.measuring k) := congrArg _ (if_pos ⟨hk, hq, hdwell⟩)

theorem exec_refSignalReturn (hk : k < 10) (hq : s.qstate k = 1) (hsignal : s.refStopped k = false) :
    exec (.refSignalReturn k) s = .next (s.measuring k) := congrArg _ (if_pos ⟨hk, hq, by simp [hsignal]⟩)

/-- STATUS.DEGRADED goes out where input `k` is the selected one. -/
def State.undegraded (s : State) (k : Nat) : State := if s.refSel = k then s.wrFlag REF.STATUS.DEGRADED false else s

theorem State.undegraded_word (s : State) (k : Nat) {j : Nat} (h : j ≠ REF.STATUS) : (s.undegraded k).word j = s.word j := by
  unfold State.undegraded
  split
  · exact s.word_wrFlag_ne _ h
  · rfl

theorem State.undegraded_ref (s : State) (k : Nat) : (s.undegraded k).ref = s.ref := by
  unfold State.undegraded
  split <;> rfl

@[simp] theorem State.rd_undegraded (s : State) (k : Nat) {f : Fld} (h : f.key ≠ REF.STATUS) : (s.undegraded k).rd f = s.rd f :=
  State.rd_congr (s.undegraded_word k h)

@[simp] theorem State.flag_undegraded (s : State) (k : Nat) {f : Fld} (h : f.key ≠ REF.STATUS) : (s.undegraded k).flag f = s.flag f :=
  State.flag_congr (s.undegraded_word k h)

/-- The words of an input whose signal has gone. -/
def State.signalGone (s : State) (k : Nat) : State :=
  ((((s.wr (REF.IN_STAT.QSTATE k) 1).wr (REF.IN_STAT.CAUSE k) (if (s.refIn k).had then 1 else 0)).wr (REF.IN_D1.val k) 0).wr (REF.IN_D10.val k) 0).wr
    (REF.IN_D100.val k) 0

theorem State.signalGone_ref (s : State) (k : Nat) : (s.signalGone k).ref = s.ref := by
  rw [State.signalGone, State.wr_ref, State.wr_ref, State.wr_ref, State.wr_ref, State.wr_ref]

theorem State.inactivate_eq (s : State) (k : Nat) : ∃ x, x.secs = 0 ∧ x.ofs = [] ∧
    s.inactivate k = (((s.signalGone k).setRefIn k x).undegraded k).sqf (REF.IN_HIST.INACTIVE k) := ⟨_, rfl, rfl, rfl⟩

theorem exec_refInactive (hk : k < 10) (hq : 2 ≤ s.qstate k) (hsignal : refFed k = true → s.refStopped k = true) :
    exec (.refInactive k) s = .next (s.inactivate k) := congrArg _ (if_pos ⟨hk, hq, hsignal⟩)

/-! ## Inputs that qualify and disqualify (R320 to R322, R328) -/

theorem State.qualified_eq (s : State) (k : Nat) : ∃ d,
    s.qualified k = (((s.wr (REF.IN_STAT.QSTATE k) 3).sqf (REF.IN_HIST.QUALIFIED k)).undegraded k).report 0x0504 k d := ⟨_, rfl⟩

/-- A WTR of 0 ends restoring at once (R328, R572). -/
def State.wtrNone (s : State) (k : Nat) : State := if s.rd REF.TIMERS.WTR = 0 then s.wrFlag (REF.IN_STAT.RESTORING k) false else s

theorem exec_refQualified (hk : k < 10) (hq : s.qstate k = 2) (hsecs : 11 ≤ (s.refIn k).secs) (hcause : s.disqualCause k = none) :
    exec (.refQualified k) s = .next ((s.qualified k).wtrNone k) := congrArg _ (if_pos ⟨hk, hq, hsecs, by simp [hcause]⟩)

theorem State.disqualify_eq (s : State) (k : Nat) {c : Nat} (hc : c ≠ 5) :
    s.disqualify k c = ((((((s.wr (REF.IN_STAT.QSTATE k) 5).wr (REF.IN_STAT.CAUSE k) c).undegraded k).setRefIn k
      { ((s.wr (REF.IN_STAT.QSTATE k) 5).wr (REF.IN_STAT.CAUSE k) c |>.undegraded k).refIn k with clear := 0 }).sqf
      (REF.IN_HIST.DISQUALIFIED k)).sqf REF.HIST.DISQUAL).report 0x0503 k c := if_neg hc

theorem exec_refDisqualified {c : Nat} (hk : k < 10) (hlo : 2 ≤ s.qstate k) (hhi : s.qstate k ≤ 4) (hcause : s.disqualCause k = some c) :
    exec (.refDisqualified k) s = .next (s.disqualify k c) := by
  show Host.Outcome.next _ = _
  simp [hk, hlo, hhi, hcause]

/-- The causes of a disqualification are numbered in four bits (R322). -/
theorem State.disqualCause_lt {c : Nat} (h : s.disqualCause k = some c) : c < 16 := by
  unfold State.disqualCause at h
  dsimp only at h
  split_ifs at h <;> simp only [Option.some.injEq] at h <;> omega

theorem exec_refWtrExpire (hk : k < 10) (hrestoring : s.flag (REF.IN_STAT.RESTORING k) = true) (hgood : s.refGood k = true)
    (hwtr : s.rd REF.TIMERS.WTR ≤ (s.refIn k).wtr) :
    exec (.refWtrExpire k) s = .next (s.wrFlag (REF.IN_STAT.RESTORING k) false).wtrLeft := congrArg _ (if_pos ⟨hk, hrestoring, hgood, hwtr⟩)

end

theorem State.qualified_wtrNone (s : State) {k : Nat} (hk : k < 10) :
    ((s.qualified k).wtrNone k).qstate k = 3 ∧ ((s.qualified k).wtrNone k).flag (REF.IN_HIST.QUALIFIED k) = true ∧
      ((s.qualified k).wtrNone k).flag (REF.IN_STAT.RESTORING k) = (s.flag (REF.IN_STAT.RESTORING k) && s.rd REF.TIMERS.WTR != 0) ∧
      Reported 0x0504 s ((s.qualified k).wtrNone k) ∧ Frame [.live, .evt, .out] s ((s.qualified k).wtrNone k) := by
  obtain ⟨d, heq⟩ := s.qualified_eq k
  have hframe := s.qualified_frame k
  have hwtr : (s.qualified k).rd REF.TIMERS.WTR = s.rd REF.TIMERS.WTR := by
    rw [heq]
    simp (disch := first | (simp only [Fld.clear, reportSpares, REF.inputFields, REF.commonFields] <;> omega) | fail)
  have hrestoring : (s.qualified k).flag (REF.IN_STAT.RESTORING k) = s.flag (REF.IN_STAT.RESTORING k) := by
    rw [heq]
    simp (disch := first | (simp only [Fld.clear, reportSpares, REF.inputFields, REF.commonFields] <;> omega) | fail)
  have hstate : (s.qualified k).qstate k = 3 := by
    rw [heq]
    simp (disch := first | (simp only [Fld.clear, reportSpares, REF.inputFields, REF.commonFields] <;> omega) | fail) [State.qstate, State.rd_wr_self]
  have hmark : (s.qualified k).flag (REF.IN_HIST.QUALIFIED k) = true := by
    rw [heq]
    simp (disch := first | (simp only [Fld.clear, reportSpares, REF.inputFields, REF.commonFields] <;> omega) | fail) [State.flag_sqf_self]
  have hreported : Reported 0x0504 s (s.qualified k) := by
    rw [heq]
    refine Reported.report_of_kept _ _ (by decide) fun j hlo hhi => ?_
    rw [State.undegraded_word _ _ (by simp only [REF.commonFields]; omega), State.word_sqf_ne _ (by simp only [REF.inputFields]; omega),
      State.word_wr_ne _ _ (by simp only [REF.inputFields]; omega)]
  clear heq
  generalize s.qualified k = u at *
  unfold State.wtrNone
  rw [hwtr]
  split
  · next hnone =>
    refine ⟨?_, ?_, ?_, hreported.of_kept (by decide) fun j _ _ => State.word_wrFlag_ne _ _ (by simp only [REF.inputFields]; omega),
      hframe.seq (State.wrFlag_frame ..) rfl⟩
    · rw [← hstate, State.qstate, State.qstate, State.rd_wrFlag_clear _ _ (by simp only [Fld.clear, REF.inputFields]; omega)]
    · rw [← hmark, State.flag_wrFlag_clear _ _ (by simp only [Fld.clear, REF.inputFields]; omega)]
    · rw [State.flag_wrFlag_self _ _ (by simp only [REF.inputFields]; omega)]
      simp [hnone]
  · next hsome => exact ⟨hstate, hmark, by simp [hrestoring, hsome], hreported, hframe⟩

theorem State.disqualify_fields (s : State) {k c : Nat} (hk : k < 10) (hc16 : c < 16) (hc : c ≠ 5) :
    (s.disqualify k c).qstate k = 5 ∧ (s.disqualify k c).rd (REF.IN_STAT.CAUSE k) = c ∧
      RefInSet k { s.refIn k with clear := 0 } s (s.disqualify k c) ∧ (s.disqualify k c).flag REF.HIST.DISQUAL = true ∧
      Reported 0x0503 s (s.disqualify k c) := by
  have href : (((s.wr (REF.IN_STAT.QSTATE k) 5).wr (REF.IN_STAT.CAUSE k) c).undegraded k).ref = s.ref := by
    rw [State.undegraded_ref, State.wr_ref, State.wr_ref]
  rw [s.disqualify_eq k hc, State.refIn_congr href]
  refine ⟨?_, ?_, ?_, ?_, ?_⟩
  · simp (disch := first | (simp only [Fld.clear, reportSpares, REF.inputFields, REF.commonFields] <;> omega) | fail) [State.qstate, State.rd_wr_self]
  · simp (disch := first | (simp only [Fld.clear, reportSpares, REF.inputFields, REF.commonFields] <;> omega) | fail) [State.rd_wr_self]
  · exact (RefInSet.setRefIn _ href).of_ref (by rw [(State.report_frame ..).same .ref rfl, State.sqf_ref, State.sqf_ref])
  · simp (disch := first | (simp only [Fld.clear, reportSpares, REF.inputFields, REF.commonFields] <;> omega) | fail) [State.flag_sqf_self]
  · refine Reported.report_of_kept _ _ (by decide) fun j hlo hhi => ?_
    rw [State.word_sqf_ne _ (by simp only [REF.commonFields]; omega), State.word_sqf_ne _ (by simp only [REF.inputFields]; omega),
      State.word_setRefIn, State.undegraded_word _ _ (by simp only [REF.commonFields]; omega),
      State.word_wr_ne _ _ (by simp only [REF.inputFields]; omega), State.word_wr_ne _ _ (by simp only [REF.inputFields]; omega)]

theorem State.inactivate_fields (s : State) {k : Nat} (hk : k < 10) :
    (s.inactivate k).qstate k = 1 ∧ (s.inactivate k).rd (REF.IN_STAT.CAUSE k) = (if (s.refIn k).had then 1 else 0) ∧
      (s.inactivate k).flag (REF.IN_STAT.RESTORING k) = s.flag (REF.IN_STAT.RESTORING k) ∧ NoDrift k (s.inactivate k) ∧
      (s.inactivate k).flag (REF.IN_HIST.INACTIVE k) = true ∧ ∀ j, j ≠ k → (s.inactivate k).refIn j = s.refIn j := by
  obtain ⟨x, hsecs, hofs, heq⟩ := s.inactivate_eq k
  have hset : RefInSet k x s (s.inactivate k) := by
    rw [heq]
    exact (RefInSet.setRefIn x (s.signalGone_ref k)).of_ref (by rw [State.sqf_ref, State.undegraded_ref])
  have hcause : (if (s.refIn k).had then 1 else 0) < 2 ^ 4 := by split <;> decide
  refine ⟨?_, ?_, ?_, ⟨by rw [hset.this, hsecs], by rw [hset.this, hofs], ?_, ?_, ?_⟩, ?_, hset.others⟩
  all_goals
    rw [heq]
    simp (disch := first | (simp only [Fld.clear, REF.inputFields, REF.commonFields] <;> omega) | fail)
      [State.qstate, State.signalGone, State.rd_wr_self, State.flag_sqf_self]

/-- What the first second and those after it leave of an input that measures. -/
theorem State.measure_endSecond (s : State) {k : Nat} {ofs : Int} (hk : k < 10) (hofs : ofs.natAbs ≤ 5000000) :
    ∃ x, RefInSet k x s (s.measure k ofs).endSecond ∧ x.secs = (s.refIn k).secs + 1 ∧ x.ofs = (ofs :: (s.refIn k).ofs).take 101 ∧
      (s.measure k ofs).endSecond.rdS (REF.IN_OFS.val k) = ofs ∧
      (s.measure k ofs).endSecond.rd (REF.IN_RATE.val k) = (if edgeInput k then s.edgeRate k ofs % 2 ^ 32 else 0) ∧
      (s.measure k ofs).endSecond.qstate k = s.qstate k := by
  obtain ⟨x, d1, d10, d100, heq, hsecs, hx, -⟩ := s.measure_eq k ofs
  have hset : RefInSet k x s (s.measure k ofs) := by
    rw [heq]
    exact (RefInSet.setRefIn x rfl).of_ref (by rw [State.wrS_ref, State.wrS_ref, State.wrS_ref, State.wr_ref, State.wrS_ref])
  have hend {f : Fld} (hf : f.key ≠ REF.STATUS ∧ f.key ≠ REF.HOPPT ∧ f.key ≠ REF.HOTIME) :
      (s.measure k ofs).endSecond.rd f = (s.measure k ofs).rd f := State.rd_congr (State.endSecond_word _ hf.1 hf.2.1 hf.2.2)
  refine ⟨x, ⟨?_, fun j hj => ?_⟩, hsecs, hx, ?offset, ?rate, ?state⟩
  · rw [State.endSecond_refIn, hset.this]
  · rw [State.endSecond_refIn, hset.others j hj]
  case offset =>
    have hkept : (s.measure k ofs).rd (REF.IN_OFS.val k) = ((s.setRefIn k x).wrS (REF.IN_OFS.val k) ofs).rd (REF.IN_OFS.val k) := by
      rw [heq]
      simp (disch := first | (simp only [Fld.clear, REF.inputFields] <;> omega) | fail)
    have hfit : simmOk (REF.IN_OFS.val k).width ofs = true := by
      simp only [simmOk, REF.inputFields, Bool.and_eq_true, decide_eq_true_eq]
      omega
    rw [State.rdS_of_rd ((hend (by simp only [REF.inputFields, REF.commonFields]; omega)).trans hkept)]
    exact State.rdS_wrS_self _ (by simp only [REF.inputFields]; omega) hfit
  case rate =>
    rw [hend (by simp only [REF.inputFields, REF.commonFields]; omega), heq]
    simp (disch := first | (simp only [Fld.clear, REF.inputFields] <;> omega) | fail) only [State.rd_wrS_clear, State.rd_wr_same]
    split <;> rfl
  case state =>
    rw [State.qstate, hend (by simp only [REF.inputFields, REF.commonFields]; omega), heq]
    simp (disch := first | (simp only [Fld.clear, REF.inputFields] <;> omega) | fail)
    rfl

/-- Settles O34: each event of an input is written out as the words and the record it writes. -/
theorem referenceInputsQualifyAndDisqualify : Obligations.ReferenceInputsQualifyAndDisqualify := by
  unfold Obligations.ReferenceInputsQualifyAndDisqualify
  intro k rate ofs s x q others noDrift restarts hk
  have hrestarts {t : State} (h : Measuring k s t) : restarts t :=
    ⟨h.state, h.restoring, h.cause, h.empty, h.words, h.others, h.frame⟩
  refine ⟨fun hq hsignal hofs => ?second, fun hq hsecs hcause => ?qualified, fun c hlo hhi hcause hc => ?disqualified,
    fun hq hdwell => ⟨_, exec_refCauseCleared hk hq hdwell, hrestarts (s.measuring_measuring k)⟩,
    fun hq hsignal => ⟨_, exec_refSignalReturn hk hq hsignal, hrestarts (s.measuring_measuring k)⟩,
    fun hq hsignal => ?inactive, fun hrestoring hgood hwtr => ?wtr⟩
  case second =>
    obtain ⟨r, hset, hsecs, hr, hoffset, hrate, hstate⟩ := s.measure_endSecond hk hofs
    refine ⟨_, exec_refSecond rate hk hq hsignal hofs, ?_, ?_, hoffset, hrate, hstate.trans hq, hset.others,
      (s.measure_frame k ofs).trans (State.endSecond_frame _)⟩
    · rw [hset.this, hsecs]
    · rw [hset.this, hr]
  case qualified =>
    obtain ⟨hstate, hmark, hrestoring, hreported, hframe⟩ := s.qualified_wtrNone hk
    exact ⟨_, exec_refQualified hk hq hsecs hcause, hstate, hmark, hrestoring, hreported, hframe⟩
  case disqualified =>
    have hc16 := State.disqualCause_lt hcause
    have hframe := s.disqualify_frame k c
    obtain ⟨hstate, hc', hset, hmark, hreported⟩ := s.disqualify_fields hk hc16 hc
    exact ⟨_, exec_refDisqualified hk hlo hhi hcause, hstate, hc', hset.this, hmark, hset.others, hreported, hframe⟩
  case inactive =>
    obtain ⟨hstate, hc, hrestoring, hempty, hmark, hothers⟩ := s.inactivate_fields hk
    exact ⟨_, exec_refInactive hk hq hsignal, hstate, hc, hrestoring, hempty, hmark, hothers, s.inactivate_frame k⟩
  case wtr =>
    refine ⟨_, exec_refWtrExpire hk hrestoring hgood hwtr, ?_, ?_, fun j hstat hstatus => ?_,
      ((s.wrFlag_frame ..).weaken rfl).seq (State.wtrLeft_frame _) rfl⟩
    · rw [State.flag_congr (State.wtrLeft_word _ (by simp only [REF.inputFields, REF.commonFields]; omega))]
      exact s.flag_wrFlag_self _ (by simp only [REF.inputFields]; omega)
    · rw [State.qstate, State.rd_congr (State.wtrLeft_word _ (by simp only [REF.inputFields, REF.commonFields]; omega))]
      exact s.rd_wrFlag_clear _ (by simp only [Fld.clear, REF.inputFields]; omega)
    · rw [State.wtrLeft_word _ hstatus, State.word_wrFlag_ne _ _ hstat]

end Sys2Proof.Machine
end

section
/-!
PROOFS. The reset state (R551, R559).
-/

namespace Sys2Proof.Machine

/-- Settles O2: the registers named are read in the reset state. -/
theorem resetLeavesTheSpecifiedState : Obligations.ResetLeavesTheSpecifiedState := by
  unfold Obligations.ResetLeavesTheSpecifiedState
  refine ⟨rfl, rfl, by decide, by decide, rfl, rfl, rfl, by decide, by decide, by decide, by decide, by decide, by decide, by decide, by decide,
    by decide, by decide, by decide, by decide, ?engines, fun n _ => ⟨rfl, rfl⟩⟩
  case engines => decide

end Sys2Proof.Machine
end

section
/-!
PROOFS. What becomes of a report: it coalesces with a record or with a waiting report, or it waits (R500 to R503, R507, R508).
-/

namespace Sys2Proof.Machine

/-! ## Waiting reports -/

/-- The waiting reports that `code`, `source` and `tick` coalesce with. -/
def Report.same (code source tick : Nat) (x : Report) : Prop := x.code = code ∧ x.source = source ∧ x.tick = tick

theorem coalesceWaiting_length {code source tick : Nat} {rs ws : List Report} (h : coalesceWaiting code source tick rs = some ws) :
    ws.length = rs.length := by
  induction rs generalizing ws with
  | nil => simp [coalesceWaiting] at h
  | cons r rs ih =>
    rw [coalesceWaiting] at h
    split at h
    · obtain rfl := Option.some.inj h
      rfl
    · obtain ⟨us, hus, rfl⟩ := Option.map_eq_some_iff.mp h
      rw [List.length_cons, List.length_cons, ih hus]

theorem coalesceWaiting_eq_none_iff {code source tick : Nat} {rs : List Report} :
    coalesceWaiting code source tick rs = none ↔ ∀ x ∈ rs, ¬ Report.same code source tick x := by
  induction rs with
  | nil => simp [coalesceWaiting]
  | cons r rs ih =>
    rw [coalesceWaiting, List.forall_mem_cons, ← ih]
    split
    · next h => simp [Report.same, h]
    · next h => simp [Report.same, h]

theorem length_enter (r : Report) (rs : List Report) : (enter r rs).length = rs.length + 1 := by
  induction rs with
  | nil => rfl
  | cons x rs ih =>
    rw [enter]
    split
    · rfl
    · rw [List.length_cons, ih, List.length_cons]

theorem mem_enter {r x : Report} {rs : List Report} : x ∈ enter r rs ↔ x = r ∨ x ∈ rs := by
  induction rs with
  | nil => simp [enter]
  | cons y rs ih =>
    rw [enter]
    split
    · simp
    · simp only [List.mem_cons, ih]
      tauto

/-! ## The log and the waiting reports as a report finds them -/

theorem State.findRecord_congr {s t : State} (h : ∀ slot w, slot < 1024 → w < 2 → t.num (logKey slot w) = s.num (logKey slot w))
    (code source tick n q : Nat) : t.findRecord code source tick n q = s.findRecord code source tick n q := by
  induction n generalizing q with
  | zero => rfl
  | succ n ih =>
    have hslot : (q + 2 ^ 32 - 1) % 1024 < 1024 := Nat.mod_lt _ (by decide)
    simp only [State.findRecord, ih, h _ _ hslot (show 0 < 2 by decide), h _ _ hslot (show 1 < 2 by decide)]

theorem State.msix_evt (s : State) (v : Nat) : (s.msix v).evt = s.evt := by
  unfold State.msix
  split <;> rfl

theorem State.msixAll_evt (s : State) (set n : Nat) : (s.msixAll set n).evt = s.evt := by
  induction n with
  | zero => rfl
  | succ n ih =>
    simp only [State.msixAll]
    split
    · rw [State.msix_evt, ih]
    · exact ih

theorem State.interrupts_waiting (s : State) : s.interrupts.evt.waiting = s.evt.waiting := by
  unfold State.interrupts
  extract_lets now t
  have hwaiting : t.evt.waiting = s.evt.waiting := congrArg Evt.waiting (State.msixAll_evt ..)
  exact hwaiting

/-- A report of an event that has a record is one more of that record (R502). -/
theorem State.placeReport_of_record (s : State) {code source slot : Nat} (data : Nat)
    (h : s.findRecord code (source % 2 ^ 16) s.tick (min (s.rd EVT.WRSEQ.val) 1024) (s.rd EVT.WRSEQ.val) = some slot) :
    s.placeReport code source data = s.addSat (EVT.REP.val slot) 1 := by
  unfold State.placeReport
  dsimp only
  rw [h]

/-- A report of an event that a waiting report holds is one more of that report (R502). -/
theorem State.placeReport_of_waiting (s : State) {code source : Nat} {w : List Report} (data : Nat)
    (h : s.findRecord code (source % 2 ^ 16) s.tick (min (s.rd EVT.WRSEQ.val) 1024) (s.rd EVT.WRSEQ.val) = none)
    (hw : coalesceWaiting code (source % 2 ^ 16) s.tick s.evt.waiting = some w) :
    s.placeReport code source data = { s with evt := { s.evt with waiting := w } } := by
  unfold State.placeReport
  dsimp only
  rw [h]
  dsimp only
  rw [hw]

/-- The report of an event of now. -/
def State.freshReport (s : State) (code source data : Nat) : Report :=
  { code := code, source := source % 2 ^ 16, data := data % 2 ^ 32, tick := s.tick, ns := s.ns, rep := 0, at_ := s.clk.now }

/-- Any other report waits while there is room (R503). -/
theorem State.placeReport_of_room (s : State) {code source : Nat} (data : Nat)
    (h : s.findRecord code (source % 2 ^ 16) s.tick (min (s.rd EVT.WRSEQ.val) 1024) (s.rd EVT.WRSEQ.val) = none)
    (hw : coalesceWaiting code (source % 2 ^ 16) s.tick s.evt.waiting = none) (hroom : s.evt.waiting.length < 16) :
    s.placeReport code source data = { s with evt := { s.evt with waiting := enter (s.freshReport code source data) s.evt.waiting } } := by
  unfold State.placeReport
  dsimp only
  rw [h]
  dsimp only
  rw [hw]
  exact if_pos hroom

/-- A report once its block has counted it and the interrupts it raises are out. -/
def State.counted (s : State) (code : Nat) : State :=
  ((s.inc (EVT.BLKCNT.val (code / 256))).sq (EVT.IPEND (code / 256)) (code % 256)).interrupts

theorem State.report_eq (s : State) (code source data : Nat) : s.report code source data = (s.counted code).placeReport code source data := rfl

theorem State.counted_waiting (s : State) (code : Nat) : (s.counted code).evt.waiting = s.evt.waiting := by
  rw [State.counted, State.interrupts_waiting, State.sq_evt, State.inc_evt]

theorem State.counted_frame (s : State) (code : Nat) : Frame [.live, .evt, .out] s (s.counted code) :=
  (((s.inc_frame _).weaken rfl).seq (State.sq_frame ..) rfl).seq (State.interrupts_frame _) rfl

theorem State.counted_word (s : State) {code k : Nat} (hcnt : k ≠ EVT.BLKCNT (code / 256)) (hpend : k ≠ EVT.IPEND (code / 256))
    (hmsix : k ≠ msixPending) : (s.counted code).word k = s.word k := by
  rw [State.counted, State.interrupts_word _ hmsix, State.word_sq_ne _ _ hpend, State.word_inc_ne _ hcnt]

theorem State.counted_rd (s : State) {code : Nat} {f : Fld} (hcnt : f.key ≠ EVT.BLKCNT (code / 256)) (hpend : f.key ≠ EVT.IPEND (code / 256))
    (hmsix : f.key ≠ msixPending) : (s.counted code).rd f = s.rd f := State.rd_congr (s.counted_word hcnt hpend hmsix)

/-- To the placing of its report the event has changed nothing: the log, the waiting reports, the tick and the time are those of `s`. -/
structure PlacesLike (s u : State) : Prop where
  tick : u.tick = s.tick
  ns : u.ns = s.ns
  now : u.clk.now = s.clk.now
  waiting : u.evt.waiting = s.evt.waiting
  find : ∀ code source tick, u.findRecord code source tick (min (u.rd EVT.WRSEQ.val) 1024) (u.rd EVT.WRSEQ.val) =
    s.findRecord code source tick (min (s.rd EVT.WRSEQ.val) 1024) (s.rd EVT.WRSEQ.val)
  repeats : ∀ slot, slot < 1024 → u.rd (EVT.REP.val slot) = s.rd (EVT.REP.val slot)
  dropped : u.rd EVT.DROPPED.val = s.rd EVT.DROPPED.val

theorem State.counted_placesLike (s : State) {code : Nat} (hc : code < 0x1800) : PlacesLike s (s.counted code) := by
  have hclk : (s.counted code).clk = s.clk := (s.counted_frame code).same .clk rfl
  refine ⟨?tick, ?ns, congrArg Clock.now hclk, s.counted_waiting code, fun c source tick => ?find, fun slot hslot => ?repeats, ?dropped⟩
  case ns => rw [State.ns, State.timeNs, hclk, State.ns, State.timeNs]
  case find =>
    rw [State.counted_rd _ (by unfold EVT.BLKCNT; simp only [EVT.WRSEQ.val, EVT.WRSEQ]; omega)
      (by unfold EVT.IPEND; simp only [EVT.WRSEQ.val, EVT.WRSEQ]; omega) (by decide)]
    refine State.findRecord_congr (fun slot w hslot hw => congrArg BitVec.toNat (s.counted_word ?_ ?_ ?_)) ..
    · unfold logKey bar2 EVT.BLKCNT; omega
    · unfold logKey bar2 EVT.IPEND; omega
    · unfold logKey bar2 msixPending; omega
  all_goals refine s.counted_rd ?_ ?_ ?_
  all_goals
    simp only [GLB.TICKIDX.val, GLB.TICKIDX, EVT.REP.val, EVT.REP, EVT.DROPPED.val, EVT.DROPPED, EVT.BLKCNT, EVT.IPEND, msixPending]
    omega

section
variable {s u : State} {code source slot : Nat} {data : Nat} (h : PlacesLike s u) (hsource : source < 2 ^ 16)
include h hsource

theorem PlacesLike.record (hfind : s.findRecord code source s.tick (min (s.rd EVT.WRSEQ.val) 1024) (s.rd EVT.WRSEQ.val) = some slot) :
    (u.placeReport code source data).rd (EVT.REP.val slot) = min (s.rd (EVT.REP.val slot) + 1) (2 ^ 32 - 1) ∧
      (u.placeReport code source data).evt.waiting = s.evt.waiting := by
  rw [State.placeReport_of_record u data (by rw [Nat.mod_eq_of_lt hsource, h.find, h.tick, hfind]), State.addSat_evt, State.addSat,
    h.repeats _ (State.findRecord_slot _ _ _ _ _ _ _ hfind)]
  exact ⟨State.rd_wr_self _ (by simp only [EVT.REP.val]; omega), h.waiting⟩

variable (hfind : s.findRecord code source s.tick (min (s.rd EVT.WRSEQ.val) 1024) (s.rd EVT.WRSEQ.val) = none)
include hfind

theorem PlacesLike.coalesces (hsome : ∃ x ∈ s.evt.waiting, Report.same code source s.tick x) :
    (u.placeReport code source data).evt.waiting.length = s.evt.waiting.length ∧
      (u.placeReport code source data).rd EVT.DROPPED.val = s.rd EVT.DROPPED.val := by
  obtain ⟨x, hx, hsame⟩ := hsome
  cases hw : coalesceWaiting code source s.tick s.evt.waiting with
  | none => exact absurd hsame (coalesceWaiting_eq_none_iff.mp hw x hx)
  | some w =>
    rw [State.placeReport_of_waiting u data (by rw [Nat.mod_eq_of_lt hsource, h.find, h.tick, hfind])
      (by rw [Nat.mod_eq_of_lt hsource, h.tick, h.waiting, hw])]
    exact ⟨coalesceWaiting_length hw, (State.rd_congr rfl).trans h.dropped⟩

theorem PlacesLike.waits (hnone : ∀ x ∈ s.evt.waiting, ¬ Report.same code source s.tick x) (hroom : s.evt.waiting.length < 16) :
    (u.placeReport code source data).evt.waiting = enter (s.freshReport code source data) s.evt.waiting := by
  rw [State.placeReport_of_room u data (by rw [Nat.mod_eq_of_lt hsource, h.find, h.tick, hfind])
    (by rw [Nat.mod_eq_of_lt hsource, h.tick, h.waiting, coalesceWaiting_eq_none_iff.mpr hnone]) (by rw [h.waiting]; exact hroom),
    State.freshReport, h.tick, h.ns, h.now, h.waiting]
  rfl

end

/-- Settles O7: a report is counted, and then it coalesces or waits. -/
theorem reportsCountCoalesceAndWait : Obligations.ReportsCountCoalesceAndWait := by
  unfold Obligations.ReportsCountCoalesceAndWait
  intro code source data s hc hsource t q r same
  have hlike := s.counted_placesLike hc
  have hr : r = s.freshReport code source data := by rw [State.freshReport, Nat.mod_eq_of_lt hsource]
  refine ⟨s.report_reported code source data hc, fun k hk => s.report_word code source data hk hc, s.report_frame code source data,
    fun slot hslot => hlike.record hsource hslot, fun hnone => ⟨fun hsome => hlike.coalesces hsource hnone hsome, fun hall hroom => ?_⟩⟩
  have hwaits : t.evt.waiting = enter r s.evt.waiting := by rw [hr]; exact hlike.waits hsource hnone hall hroom
  rw [hwaits]
  exact ⟨length_enter r _, mem_enter.mpr (.inl rfl), fun x hx => mem_enter.mpr (.inr hx)⟩

end Sys2Proof.Machine
end

section
/-!
PROOFS. What a host's command leaves of the registers that its unit reads: the RWS fields written with it go to the open shadow, or are refused,
and either way no live word of the unit changes (R7, R54; log entry 43).
-/

namespace Sys2Proof.Machine

/-! ## The values of commands -/

theorem or_lt_word {v b : Nat} (hv : v < 2 ^ 32) (hb : b < 32) : v ||| 2 ^ b < 2 ^ 32 :=
  Nat.or_lt_two_pow hv (Nat.pow_lt_pow_right (by decide) hb)

theorem bit_or_ne (v : Nat) {b c : Nat} (h : c ≠ b) : bit (v ||| 2 ^ b) c = v.testBit c := by
  rw [bit_eq_testBit, Nat.testBit_or, Nat.testBit_two_pow_of_ne (Ne.symm h), Bool.or_false]

theorem clearBit_lt {v : Nat} (b : Nat) (hv : v < 2 ^ 32) : clearBit v b < 2 ^ 32 := by
  unfold clearBit
  split
  · exact (Nat.sub_le _ _).trans_lt hv
  · exact hv

theorem bit_clearBit_zero (v : Nat) : bit (clearBit v 0 ||| 2) 0 = false ∧ bit (clearBit v 0 ||| 2) 1 = true := by
  refine ⟨?_, bit_or_self (clearBit v 0) 1⟩
  rw [show (2 : Nat) = 2 ^ 1 by decide, bit_or_ne _ (by decide), ← bit_eq_testBit, clearBit]
  simp only [bit, pow_zero, Nat.div_one, beq_eq_false_iff_ne, beq_iff_eq]
  split <;> omega

/-! ## Reaching a register -/

/-- A register of no local block is out of the host's reach on a STANDBY (R458). -/
theorem State.standby_of_reaches {s : State} {i : Iface} {k : Nat} (h : s.hostReaches i k = true) (hk : localBlock k = false) : s.standby = false := by
  simp only [State.hostReaches, hk, Bool.and_eq_true, Bool.or_false, Bool.not_eq_true'] at h
  exact h.2

/-- Word `j` belongs to no journal entry, no access error and no report: a register of BAR0 from block EVT's end on, or TICKIDX. -/
def commandSpares (j : Nat) : Prop := j = GLB.TICKIDX ∨ (0x23000 ≤ j ∧ j < 2 ^ 31)

theorem commandSpares.not_reportKey {j : Nat} (h : commandSpares j) : reportKey j = false := by
  unfold commandSpares GLB.TICKIDX at h
  simp only [reportKey, msixPending, Bool.or_eq_false_iff, Bool.and_eq_false_iff, decide_eq_false_iff_not, beq_eq_false_iff_ne]
  omega

theorem State.accErr_word (s : State) (i k : Nat) (c : AccCause) {j : Nat} (h : commandSpares j) : (s.accErr i k c).word j = s.word j := by
  obtain ⟨-, -, -, -, hquiet, -⟩ := s.accErr_recorded i k c
  refine hquiet j ?_ h.not_reportKey
  unfold commandSpares GLB.TICKIDX at h
  simp only [HIF.ACCERRCNT, HIF.HIST, HIF.ACCERRADDR, HIF.ACCERRINFO, List.mem_cons, List.not_mem_nil, or_false]
  omega

theorem State.refuseFull_word (s : State) (k : Nat) {j : Nat} (h : commandSpares j) : (s.refuseFull k).word j = s.word j := by
  rw [State.refuseFull, State.report_word _ _ _ _ h.not_reportKey (by decide)]
  refine State.word_addSat_ne _ _ ?_
  unfold commandSpares GLB.TICKIDX at h
  simp only [GLB.JSTAT.REFUSED, GLB.JSTAT]
  omega

/-- A journal entry writes its slot, JSEQ and JSTAT: none of a block from EVT on. -/
theorem State.journal_word_kept (s : State) (t : JType) (a w2 w3 : Nat) {j : Nat} (h : j = GLB.TICKIDX ∨ 0x20000 ≤ j ∧ j < 2 ^ 31) :
    (s.journal t a w2 w3).word j = s.word j := by
  have hslot : ∀ q w, j ≠ journalKey q w := fun q w => by
    unfold GLB.TICKIDX at h
    unfold journalKey bar2
    omega
  have hseq : j ≠ GLB.JSEQ := by unfold GLB.TICKIDX at h; unfold GLB.JSEQ; omega
  have hstat : j ≠ GLB.JSTAT := by unfold GLB.TICKIDX at h; unfold GLB.JSTAT; omega
  have hat (q w1 : Nat) : (s.journalAt q w1 w2 w3).word j = s.word j := by
    unfold State.journalAt
    extract_lets a b c d e u
    have hu : u.word j = s.word j := by
      simp only [u, e, d, c, b, a, State.fillTo]
      rw [State.word_wrFlag_ne _ _ hstat, State.word_wr_ne _ _ hstat, State.word_wr_ne _ _ hseq, State.word_setNum_ne _ _ (hslot _ _),
        State.word_setNum_ne _ _ (hslot _ _), State.word_setNum_ne _ _ (hslot _ _), State.word_setNum_ne _ _ (hslot _ _)]
    clear_value u
    split <;> exact hu
  unfold State.journal State.journalRaw
  split
  · rfl
  · extract_lets q u
    split
    · rw [State.word_emit]; exact hat _ _
    · exact hat _ _

theorem State.journal_word_spared (s : State) (t : JType) (a w2 w3 : Nat) {j : Nat} (h : commandSpares j) : (s.journal t a w2 w3).word j = s.word j :=
  s.journal_word_kept t a w2 w3 (h.imp id fun h => ⟨by omega, h.2⟩)

/-- The RWS bits of a command register enter the open shadow or are refused; the live words that units read stay, and so does every part of the state
but those of the journal, the shadow and the events. -/
theorem State.rwsWrite_spares {s : State} {k : Nat} {v : Word} (i mask : Nat) (hs : s.standby = false) (hload : s.loadAt i k v.toNat = none)
    (hmodes : ∀ t : State, t.setModes k (2 ^ 32 - 1) = t) :
    (∀ j, commandSpares j → (s.rwsWrite i k 0 v mask).word j = s.word j) ∧
      Frame [.live, .shadow, .ckpt, .evt, .out] s (s.rwsWrite i k 0 v mask) := by
  have hwrite : s.rwsWrite i k 0 v mask = (s.shadowWrite i k (mergeBits (s.shadowWord k) v mask)
      (mergeBits (s.word k) (mergeBits (s.shadowWord k) v mask) mask).toNat).1 := by
    simp only [State.rwsWrite, if_true, hload, sideWrite, hmodes, ite_self]
  rw [hwrite]
  rcases State.shadowWrite_cases i k (mergeBits (s.shadowWord k) v mask) (mergeBits (s.word k) (mergeBits (s.shadowWord k) v mask) mask).toNat hs with
    h | h | h <;> rw [h]
  · exact ⟨fun j hj => s.refuseFull_word k hj, (s.refuseFull_frame k).weaken rfl⟩
  · exact ⟨fun j hj => s.accErr_word i k _ hj, (s.accErr_frame i k _).weaken rfl⟩
  · exact ⟨fun j hj => s.journal_word_spared _ _ _ _ hj, ((s.journal_frame ..).weaken rfl).seq (State.putShadow_frame ..) rfl⟩

end Sys2Proof.Machine
end

section
/-!
PROOFS. The reference selector: lock, holdover, phase jumps, profile loads and runts (R321, R322, R331, R335 to R337, R339, R371; log entry 79).
-/

namespace Sys2Proof.Machine

/-! ## Changes of state of the selector -/

/-- Where the fields of the selector, of the meter and of the slicers stand that its events touch. -/
theorem REF.selectorFields :
    REF.STATUS.STATE = ⟨0x50040, 29, 3⟩ ∧ REF.STATUS.SEL = ⟨0x50040, 24, 4⟩ ∧ REF.STATUS.TARGET = ⟨0x50040, 20, 4⟩ ∧
    REF.STATUS.DEGRADED = ⟨0x50040, 19, 1⟩ ∧ REF.STATUS.FROZEN = ⟨0x50040, 18, 1⟩ ∧ REF.STATUS.SLEWING = ⟨0x50040, 17, 1⟩ ∧
    GLB.TICKSTAT.FREERUN = ⟨0x50, 1, 1⟩ ∧ REF.HIST = 0x50044 ∧ REF.HIST.JUMP = ⟨0x50044, 9, 1⟩ ∧ REF.HOTIME.val = ⟨0x50050, 0, 32⟩ ∧
    EIM.STAT.BUSY = ⟨0x7010C, 31, 1⟩ ∧ EIM.STAT.REFUSE = ⟨0x7010C, 29, 1⟩ ∧ EIM.STAT.ARMHELD = ⟨0x7010C, 28, 1⟩ ∧ EIM.CFG.MODE.key = 0x70100 ∧
    EIM.STAT = 0x7010C := by
  and_intros <;> rfl

/-- Where the fields of an input stand that a jump or a runt touches. -/
theorem REF.jumpFields (k : Nat) :
    REF.IN_JUMP.PS k = ⟨0x50134 + k * 0x40, 1, 31⟩ ∧ REF.IN_JUMP.DETECTOR k = ⟨0x50134 + k * 0x40, 0, 1⟩ ∧
    REF.IN_HIST.JUMP k = ⟨0x50138 + k * 0x40, 6, 1⟩ ∧ REF.IN_HIST.GLITCH k = ⟨0x50138 + k * 0x40, 4, 1⟩ ∧
    REF.IN_STAT.GLITCH k = ⟨0x50120 + k * 0x40, 0, 8⟩ ∧ REF.IN_STAT k = 0x50120 + k * 0x40 ∧ REF.IN_CFG k = 0x50100 + k * 0x40 ∧
    (REF.IN_CFG.JUMPPOL k).key = 0x50100 + k * 0x40 := by
  and_intros <;> rfl

/-- The state with the selector at `r`. -/
def State.withRef (s : State) (r : Ref) : State := { s with ref := r }

@[simp] theorem State.rd_withRef (s : State) (r : Ref) (f : Fld) : (s.withRef r).rd f = s.rd f := State.rd_congr rfl
@[simp] theorem State.flag_withRef (s : State) (r : Ref) (f : Fld) : (s.withRef r).flag f = s.flag f := State.flag_congr rfl
theorem State.word_withRef (s : State) (r : Ref) (k : Nat) : (s.withRef r).word k = s.word k := State.word_congr rfl k
theorem State.withRef_ref (s : State) (r : Ref) : (s.withRef r).ref = r := rfl

/-- STATUS and TICKSTAT after a change of state. -/
def State.refShown (s : State) (st sel target : Nat) : State :=
  let s := ((s.wr REF.STATUS.STATE st).wr REF.STATUS.SEL sel).wr REF.STATUS.TARGET target
  let s := s.wrFlag GLB.TICKSTAT.FREERUN (st == 0)
  s.wrFlag REF.STATUS.DEGRADED (decide (sel < 10) && s.qstate sel == 4)

theorem State.refShown_eq (s : State) (st sel target : Nat) : ∃ b, s.refShown st sel target =
    ((((s.wr REF.STATUS.STATE st).wr REF.STATUS.SEL sel).wr REF.STATUS.TARGET target).wrFlag GLB.TICKSTAT.FREERUN (st == 0)).wrFlag
      REF.STATUS.DEGRADED b := ⟨_, rfl⟩

/-- Slewing and freezing end in every state but ACQUIRE and LOCKED. -/
def State.slewEnded (s : State) (st : Nat) : State :=
  if st = 1 ∨ st = 2 then s else (s.wrFlag REF.STATUS.SLEWING false).wrFlag REF.STATUS.FROZEN false

theorem State.setRef_eq (s : State) (st sel target : Nat) : ∃ r d,
    s.setRef st sel target = ((((s.refShown st sel target).slewEnded st).withRef r).sq REF.HIST st).report 0x0501 15 d := ⟨_, _, rfl⟩

theorem State.slewEnded_rd (s : State) (st : Nat) {f : Fld} (h : f = REF.STATUS.STATE ∨ f = REF.STATUS.SEL) : (s.slewEnded st).rd f = s.rd f := by
  unfold State.slewEnded
  split
  · rfl
  · rcases h with rfl | rfl <;>
      simp (disch := first | (simp only [Fld.clear, REF.selectorFields] <;> omega) | fail)

theorem State.slewEnded_word (s : State) (st : Nat) {k : Nat} (h : k ≠ REF.STATUS) : (s.slewEnded st).word k = s.word k := by
  unfold State.slewEnded
  split
  · rfl
  · rw [State.word_wrFlag_ne _ _ h, State.word_wrFlag_ne _ _ h]

theorem State.refShown_word (s : State) (st sel target : Nat) {k : Nat} (h : k ≠ REF.STATUS) (ht : k ≠ GLB.TICKSTAT) :
    (s.refShown st sel target).word k = s.word k := by
  obtain ⟨b, heq⟩ := s.refShown_eq st sel target
  rw [heq, State.word_wrFlag_ne _ _ h, State.word_wrFlag_ne _ _ ht, State.word_wr_ne _ _ h, State.word_wr_ne _ _ h, State.word_wr_ne _ _ h]

/-- A change of state shows in STATUS, and is reported (R330). -/
theorem State.setRef_fields (s : State) {st sel : Nat} (target : Nat) (hst : st < 8) (hsel : sel < 16) :
    (s.setRef st sel target).refState = st ∧ (s.setRef st sel target).refSel = sel ∧ Reported 0x0501 s (s.setRef st sel target) := by
  obtain ⟨r, d, heq⟩ := s.setRef_eq st sel target
  obtain ⟨b, hshown⟩ := s.refShown_eq st sel target
  rw [heq]
  refine ⟨?state, ?sel, ?reported⟩
  case state =>
    rw [State.refState]
    simp (disch := first | (simp only [reportSpares, REF.selectorFields] <;> omega) | fail) only
      [State.rd_report_clear, State.rd_sq_clear, State.rd_withRef, State.slewEnded_rd _ _ (.inl rfl)]
    rw [hshown]
    simp (disch := first | (simp only [Fld.clear, REF.selectorFields] <;> omega) | fail) [State.rd_wr_self]
  case sel =>
    rw [State.refSel]
    simp (disch := first | (simp only [reportSpares, REF.selectorFields] <;> omega) | fail) only
      [State.rd_report_clear, State.rd_sq_clear, State.rd_withRef, State.slewEnded_rd _ _ (.inr rfl)]
    rw [hshown]
    simp (disch := first | (simp only [Fld.clear, REF.selectorFields] <;> omega) | fail) [State.rd_wr_self]
  case reported =>
    refine Reported.report_of_kept _ _ (by decide) fun j hlo hhi => ?_
    rw [State.word_sq_ne _ _ (by simp only [REF.selectorFields]; omega), State.word_withRef, State.slewEnded_word _ _ (by unfold REF.STATUS; omega),
      State.refShown_word _ _ _ _ (by unfold REF.STATUS; omega) (by unfold GLB.TICKSTAT; omega)]

/-- A change of state leaves every other word of REF. -/
theorem State.setRef_rd (s : State) {st sel target : Nat} {f : Fld} (hst : f.key ≠ REF.STATUS) (ht : f.key ≠ GLB.TICKSTAT) (hh : f.key ≠ REF.HIST)
    (hr : reportSpares f.key) : (s.setRef st sel target).rd f = s.rd f := by
  obtain ⟨r, d, heq⟩ := s.setRef_eq st sel target
  rw [heq, State.rd_report_clear _ _ _ ⟨hr, by decide⟩, State.rd_sq_clear _ _ hh, State.rd_withRef, State.rd_congr (State.slewEnded_word _ _ hst),
    State.rd_congr (State.refShown_word _ _ _ _ hst ht)]

theorem exec_refLocked {s : State} {t0 : Nat} (hwithin : s.ref.within = some t0) (hst : s.refState = 1)
    (htime : s.rd REF.LOCK.LOCKTIME * 10 ^ 9 ≤ s.clk.now - t0) : exec .refLocked s = .next (s.setRef 2 s.refSel 15) := by
  show Host.Outcome.next _ = _
  rw [hwithin]
  exact congrArg _ (if_pos ⟨hst, htime⟩)

theorem exec_refHoExpired {s : State} (hst : s.refState = 4) (htime : s.rd REF.HOBUDGET.val * 10 ^ 9 ≤ s.clk.now - s.ref.holdFrom) :
    exec .refHoExpired s = .next s.holdTime.expireHold := congrArg _ (if_pos ⟨hst, htime⟩)

theorem State.expireHold_fields (s : State) : s.expireHold.refState = 5 ∧ s.expireHold.refSel = 15 ∧
    s.expireHold.rd REF.HOTIME.val = s.rd REF.HOTIME.val := by
  obtain ⟨hst, hsel, -⟩ := s.setRef_fields (st := 5) (sel := 15) 15 (by decide) (by decide)
  rw [State.expireHold]
  refine ⟨?_, ?_, ?_⟩
  · rw [State.refState, State.rd_report_clear _ _ _ (by simp only [reportSpares, REF.selectorFields]; omega)]
    exact hst
  · rw [State.refSel, State.rd_report_clear _ _ _ (by simp only [reportSpares, REF.selectorFields]; omega)]
    exact hsel
  · rw [State.rd_report_clear _ _ _ (by simp only [reportSpares, REF.selectorFields]; omega)]
    exact State.setRef_rd _ (by decide) (by decide) (by decide) (by simp only [reportSpares, REF.selectorFields]; omega)

/-! ## Phase jumps (R336, R337, R379) -/

/-- What a jump writes before its policy acts. -/
def State.jumpNoted (s : State) (k : Nat) (diff : Int) (det : Bool) : State :=
  ((((s.wr (REF.IN_JUMP.PS k) (wrapN 31 (roundDiv diff 2))).wrFlag (REF.IN_JUMP.DETECTOR k) det).sqf (REF.IN_HIST.JUMP k)).sqf REF.HIST.JUMP).report
    0x0506 k (wrap32 (clampInt (-2147483648) 2147483647 diff))

theorem State.jumpApply_eq (s : State) (k : Nat) (diff zero : Int) (det : Bool) :
    s.jumpApply k diff zero det = (s.jumpNoted k diff det).jumpPolicy k diff zero := rfl

theorem State.jumpNoted_frame (s : State) (k : Nat) (diff : Int) (det : Bool) : Frame [.live, .evt, .out] s (s.jumpNoted k diff det) :=
  (((((s.wr_frame ..).weaken rfl).seq (State.wrFlag_frame ..) rfl).seq (State.sqf_frame ..) rfl).seq (State.sqf_frame ..) rfl).seq
    (State.report_frame ..) rfl

theorem State.jumpNoted_reported (s : State) (k : Nat) (diff : Int) (det : Bool) : Reported 0x0506 s (s.jumpNoted k diff det) := by
  refine Reported.report_of_kept _ _ (by decide) fun j hlo hhi => ?_
  rw [State.word_sqf_ne _ (by simp only [REF.selectorFields]; omega), State.word_sqf_ne _ (by simp only [REF.jumpFields]; omega),
    State.word_wrFlag_ne _ _ (by simp only [REF.jumpFields]; omega), State.word_wr_ne _ _ (by simp only [REF.jumpFields]; omega)]

theorem State.jumpNoted_flag (s : State) (k : Nat) (diff : Int) (det : Bool) : (s.jumpNoted k diff det).flag (REF.IN_HIST.JUMP k) = true := by
  have hspares : reportKey (REF.IN_HIST.JUMP k).key = false := by
    simp only [reportKey, msixPending, REF.jumpFields, Bool.or_eq_false_iff, Bool.and_eq_false_iff, decide_eq_false_iff_not, beq_eq_false_iff_ne]
    omega
  rw [State.jumpNoted, State.report_flag _ _ _ _ _ hspares (by decide), State.flag_sqf_clear _ (by simp only [REF.jumpFields, REF.selectorFields]; omega),
    State.flag_sqf_self _ (by simp only [REF.jumpFields]; omega)]

/-- A jump leaves the meter's registers and the inputs' configuration. -/
theorem State.jumpNoted_rd (s : State) (k : Nat) (diff : Int) (det : Bool) {f : Fld} (h : f.key = 0x7010C ∨ k < 10 ∧ f.key = 0x50100 + k * 0x40) :
    (s.jumpNoted k diff det).rd f = s.rd f := by
  have hspares : reportKey f.key = false := not_reportKey_of_above (by omega) (by unfold msixPending; omega)
  rw [State.jumpNoted, State.report_rd _ _ _ _ _ hspares (by decide), State.rd_sqf_clear _ (by simp only [REF.selectorFields, ne_eq]; omega),
    State.rd_sqf_clear _ (by simp only [REF.jumpFields, ne_eq]; omega), State.rd_wrFlag_clear _ _ (by simp only [Fld.clear, REF.jumpFields]; omega),
    State.rd_wr_clear _ _ (by simp only [Fld.clear, REF.jumpFields]; omega)]

/-- A policy writes SLEWING at most. -/
theorem State.jumpPolicy_word (s : State) (k : Nat) (diff zero : Int) {j : Nat} (h : j ≠ REF.STATUS) : (s.jumpPolicy k diff zero).word j = s.word j := by
  unfold State.jumpPolicy
  split
  · exact State.word_setRefIn ..
  · exact State.word_withRef ..
  · exact State.word_wrFlag_ne _ _ h

theorem State.jumpPolicy_buildOut {s : State} {k : Nat} (diff zero : Int) (h : s.rd (REF.IN_CFG.JUMPPOL k) = 0) :
    (s.jumpPolicy k diff zero).refIn k = { s.refIn k with zero := zero } := by
  unfold State.jumpPolicy
  rw [h]
  exact State.refIn_setRefIn_same ..

theorem State.jumpPolicy_step {s : State} {k : Nat} (diff zero : Int) (h : s.rd (REF.IN_CFG.JUMPPOL k) = 2) :
    (s.jumpPolicy k diff zero).ref = { s.ref with step := some diff } := by
  unfold State.jumpPolicy
  rw [h]
  exact State.withRef_ref ..

theorem State.jumpPolicy_slew {s : State} {k : Nat} (diff zero : Int) (h : s.rd (REF.IN_CFG.JUMPPOL k) = 1) :
    (s.jumpPolicy k diff zero).flag REF.STATUS.SLEWING = true ∧ (s.jumpPolicy k diff zero).ref = s.ref := by
  unfold State.jumpPolicy
  rw [h]
  exact ⟨s.flag_wrFlag_self _ (by simp only [REF.selectorFields]; omega), rfl⟩

/-- The state with the meter at `x`. -/
def State.withEim (s : State) (x : Eim) : State := { s with eim := x }

@[simp] theorem State.flag_withEim (s : State) (x : Eim) (f : Fld) : (s.withEim x).flag f = s.flag f := State.flag_congr rfl
@[simp] theorem State.rd_withEim (s : State) (x : Eim) (f : Fld) : (s.withEim x).rd f = s.rd f := State.rd_congr rfl
theorem State.word_withEim (s : State) (x : Eim) (k : Nat) : (s.withEim x).word k = s.word k := State.word_congr rfl k
theorem State.withEim_eim (s : State) (x : Eim) : (s.withEim x).eim = x := rfl

/-- The meter, which REF has taken, is released. -/
def State.eimFreed (s : State) : State :=
  let s := s.wrFlag EIM.STAT.REFUSE false
  s.withEim { s.eim with forRef := none }

theorem State.eimFreed_word (s : State) {k : Nat} (h : k ≠ EIM.STAT) : s.eimFreed.word k = s.word k := by
  rw [State.eimFreed, State.word_withEim, State.word_wrFlag_ne _ _ h]

theorem State.eimFreed_refuse (s : State) : s.eimFreed.flag EIM.STAT.REFUSE = false := by
  rw [State.eimFreed, State.flag_withEim, State.flag_wrFlag_self _ _ (by simp only [REF.selectorFields]; omega)]

theorem State.eimFreed_busy (s : State) : s.eimFreed.flag EIM.STAT.BUSY = s.flag EIM.STAT.BUSY := by
  rw [State.eimFreed, State.flag_withEim, State.flag_wrFlag_clear _ _ (by simp only [Fld.clear, REF.selectorFields]; omega)]

theorem State.eimFreed_eim (s : State) : s.eimFreed.eim = { s.eim with forRef := none } := by
  rw [State.eimFreed, State.withEim_eim, State.wrFlag_eim]

theorem State.eimRelease_eq (s : State) : s.eimRelease = if s.eim.held then s.eimFreed.eimStart else s.eimFreed.eimNext := by
  have hheld : s.eimFreed.eim.held = s.eim.held := by rw [State.eimFreed_eim]
  rw [← hheld]
  rfl

theorem State.eimStart_eq (s : State) : s.eimStart =
    ((s.wrFlag EIM.STAT.BUSY true).wrFlag EIM.STAT.ARMHELD false).withEim { s.eim with since := s.clk.now, held := false } := by
  have heq : s.eimStart = ((s.wrFlag EIM.STAT.BUSY true).wrFlag EIM.STAT.ARMHELD false).withEim
      { ((s.wrFlag EIM.STAT.BUSY true).wrFlag EIM.STAT.ARMHELD false).eim with
        since := ((s.wrFlag EIM.STAT.BUSY true).wrFlag EIM.STAT.ARMHELD false).clk.now, held := false } := rfl
  rw [heq, State.wrFlag_eim, State.wrFlag_eim, State.wrFlag_clk, State.wrFlag_clk]

theorem State.eimForRef_free {s : State} (j : Nat) (hbusy : s.flag EIM.STAT.BUSY = false) (hfree : s.eim.forRef = none) :
    s.eimForRef j = (s.wrFlag EIM.STAT.REFUSE true).withEim { s.eim with forRef := some j } := by
  have heq : s.eimForRef j = if s.flag EIM.STAT.BUSY || s.eim.forRef.isSome then s.withEim { s.eim with waits := s.eim.waits ++ [j] }
      else (s.wrFlag EIM.STAT.REFUSE true).withEim { (s.wrFlag EIM.STAT.REFUSE true).eim with forRef := some j } := rfl
  rw [heq, hbusy, hfree, State.wrFlag_eim]
  exact if_neg (by decide)

theorem State.eimNext_none {s : State} (h : s.eim.waits = []) : s.eimNext = s := by
  unfold State.eimNext
  rw [h]

/-- The first waiting jump takes a free meter. -/
theorem State.eimNext_free {s : State} {j : Nat} {r : List Nat} (hwaits : s.eim.waits = j :: r) (hbusy : s.flag EIM.STAT.BUSY = false)
    (hfree : s.eim.forRef = none) : s.eimNext = (s.withEim { s.eim with waits := r }).eimForRef j := by
  unfold State.eimNext
  rw [hwaits]
  dsimp only
  rw [hbusy, hfree]
  rfl

/-- A waiting jump takes the meter that REF has released. -/
theorem State.eimRelease_next {s : State} {j : Nat} {r : List Nat} (hwaits : s.eim.waits = j :: r) (hheld : s.eim.held = false)
    (hbusy : s.flag EIM.STAT.BUSY = false) :
    s.eimRelease.eim.forRef = some j ∧ s.eimRelease.eim.waits = r ∧ s.eimRelease.flag EIM.STAT.REFUSE = true ∧
      s.eimRelease.flag EIM.STAT.BUSY = false ∧ ∀ k, k ≠ EIM.STAT → s.eimRelease.word k = s.word k := by
  have hbusy' : s.eimFreed.flag EIM.STAT.BUSY = false := s.eimFreed_busy.trans hbusy
  have heq : s.eimRelease = ((s.eimFreed.withEim { s.eimFreed.eim with waits := r }).wrFlag EIM.STAT.REFUSE true).withEim
      { s.eim with forRef := some j, waits := r } := by
    rw [State.eimRelease_eq, hheld, if_neg Bool.false_ne_true, State.eimNext_free (by rw [State.eimFreed_eim]; exact hwaits) hbusy'
      (by rw [State.eimFreed_eim]), State.eimForRef_free j (by rw [State.flag_withEim]; exact hbusy') (by rw [State.withEim_eim, State.eimFreed_eim]),
      State.withEim_eim, State.eimFreed_eim]
  rw [heq]
  refine ⟨by rw [State.withEim_eim], by rw [State.withEim_eim], ?_, ?_, fun k hk => ?_⟩
  · rw [State.flag_withEim, State.flag_wrFlag_self _ _ (by simp only [REF.selectorFields]; omega)]
  · rw [State.flag_withEim, State.flag_wrFlag_clear _ _ (by simp only [Fld.clear, REF.selectorFields]; omega), State.flag_withEim, hbusy']
  · rw [State.word_withEim, State.word_wrFlag_ne _ _ hk, State.word_withEim, State.eimFreed_word _ hk]

/-- Without a waiting jump the meter is free for software. -/
theorem State.eimRelease_free {s : State} (hwaits : s.eim.waits = []) :
    s.eimRelease.eim.forRef = none ∧ s.eimRelease.eim.waits = [] ∧ s.eimRelease.flag EIM.STAT.REFUSE = false ∧
      ∀ k, k ≠ EIM.STAT → s.eimRelease.word k = s.word k := by
  have hrefuse := s.eimFreed_refuse
  rw [State.eimRelease_eq]
  split
  · rw [State.eimStart_eq, State.withEim_eim, State.eimFreed_eim]
    refine ⟨rfl, hwaits, ?_, fun k hk => ?_⟩
    · rw [State.flag_withEim, State.flag_wrFlag_clear _ _ (by simp only [Fld.clear, REF.selectorFields]; omega),
        State.flag_wrFlag_clear _ _ (by simp only [Fld.clear, REF.selectorFields]; omega), hrefuse]
    · rw [State.word_withEim, State.word_wrFlag_ne _ _ hk, State.word_wrFlag_ne _ _ hk, State.eimFreed_word _ hk]
  · rw [State.eimNext_none (by rw [State.eimFreed_eim]; exact hwaits), State.eimFreed_eim]
    exact ⟨rfl, hwaits, hrefuse, fun k hk => s.eimFreed_word hk⟩

theorem State.jumpsDetected_idle {s : State} (h : s.flag EIM.STAT.BUSY = false) : s.jumpsDetected = s := by
  unfold State.jumpsDetected
  rw [h]
  rfl

/-- Where no jump waits, none is handled. -/
theorem State.jumpsDetected_none {s : State} (h : s.eim.waits = []) : s.jumpsDetected.eim.forRef = s.eim.forRef ∧
    (∀ j, s.jumpsDetected.word j = s.word j) ∧ s.jumpsDetected.ref = s.ref := by
  unfold State.jumpsDetected
  split
  · rw [h]
    exact ⟨rfl, fun j => s.word_withEim _ j, rfl⟩
  · exact ⟨rfl, fun _ => rfl, rfl⟩

/-- The measured difference that a jump reports (R336, R376). -/
def jumpPs (interval : Int) : Int := if coincident interval then 0 else roundDiv (interval * 1000) 1024

theorem exec_refJumpMeasurement {s : State} {k : Nat} (interval : Int) (h : s.eim.forRef = some k) :
    exec (.refJumpMeasurement interval) s =
      .next (((s.jumpNoted k (jumpPs interval) false).jumpPolicy k (jumpPs interval) (jumpPs interval)).eimRelease.jumpsDetected) := by
  show Host.Outcome.next _ = _
  rw [h]
  rfl

/-! ## Profile loads (R339) -/

theorem exec_refProfileLoad {s : State} {i : Iface} {v : Nat} (hv : v < 2 ^ 32) (h : s.hostReaches i REF.PROFILE = true)
    (hroom : s.hasRoom (refProfileWords ((v ||| 2 ^ 16) % 4) (v ||| 2 ^ 16)) = true) :
    exec (.refProfileLoad i v) s = .next (((refProfileWords ((v ||| 2 ^ 16) % 4) (v ||| 2 ^ 16)).foldl (fun s p => s.putShadow p.1 p.2)
      (s.journal .write REF.PROFILE (v ||| 2 ^ 16) s.tick)).wrFlag REF.PROFILE.MODE false) := by
  have hload := toNat_or_bit hv (b := 16) (by decide)
  have hwrite (w : Word) (hw : bit w.toNat 16 = true) (addr : Nat) :
      s.regWrite (ifaceNumber i) REF.PROFILE 0 addr w = s.refProfileLoad (ifaceNumber i) w.toNat := by
    have hat : s.loadAt (ifaceNumber i) REF.PROFILE w.toNat = some (s.refProfileLoad (ifaceNumber i) w.toNat) := if_pos hw
    have hrws : s.rwsWrite (ifaceNumber i) REF.PROFILE 0 w 3 = s.refProfileLoad (ifaceNumber i) w.toNat := by
      unfold State.rwsWrite
      rw [if_pos rfl, hat]
    exact (show s.regWrite (ifaceNumber i) REF.PROFILE 0 addr w = s.rwsWrite (ifaceNumber i) REF.PROFILE 0 w 3 from rfl).trans hrws
  show Host.Outcome.next (s.regCommand i REF.PROFILE (v ||| 2 ^ 16)) = _
  rw [State.regCommand_reaches ⟨by decide, by decide, by decide⟩ h, hwrite _ (by rw [hload]; exact bit_or_self v 16), hload, State.refProfileLoad,
    State.profileLoad_taken _ _ _ hroom]
  rfl

/-! ## Runts (R321, R322, R371) -/

/-- A failure has counted at input `k`. -/
def GlitchCounted (k : Nat) (s t : State) : Prop :=
  t.rd (REF.IN_STAT.GLITCH k) = (s.rd (REF.IN_STAT.GLITCH k) + 1) % 2 ^ 8 ∧
    t.refIn k = { s.refIn k with glitches := (s.clk.now :: (s.refIn k).glitches).take 3, glitched := true }

/-- Input `k` is as it was. -/
def GlitchSpared (k : Nat) (s t : State) : Prop := t.refIn k = s.refIn k ∧ t.word (REF.IN_STAT k) = s.word (REF.IN_STAT k)

theorem State.glitch_eq (s : State) (k : Nat) : s.glitch k = ((s.inc (REF.IN_STAT.GLITCH k)).sqf (REF.IN_HIST.GLITCH k)).setRefIn k
    { s.refIn k with glitches := (s.clk.now :: (s.refIn k).glitches).take 3, glitched := true } := by
  have heq : s.glitch k = ((s.inc (REF.IN_STAT.GLITCH k)).sqf (REF.IN_HIST.GLITCH k)).setRefIn k
      { ((s.inc (REF.IN_STAT.GLITCH k)).sqf (REF.IN_HIST.GLITCH k)).refIn k with
        glitches := (((s.inc (REF.IN_STAT.GLITCH k)).sqf (REF.IN_HIST.GLITCH k)).clk.now ::
          (((s.inc (REF.IN_STAT.GLITCH k)).sqf (REF.IN_HIST.GLITCH k)).refIn k).glitches).take 3, glitched := true } := rfl
  have href : ((s.inc (REF.IN_STAT.GLITCH k)).sqf (REF.IN_HIST.GLITCH k)).refIn k = s.refIn k :=
    State.refIn_congr (by rw [State.sqf_ref, State.inc_ref]) k
  rw [heq, href, State.sqf_clk, State.inc_clk]

theorem State.glitch_counted (s : State) (k : Nat) : GlitchCounted k s (s.glitch k) := by
  rw [State.glitch_eq]
  refine ⟨?_, State.refIn_setRefIn_same ..⟩
  rw [State.rd_setRefIn, State.rd_sqf_clear _ (by simp only [REF.jumpFields]; omega)]
  exact State.rd_inc_same _ (by simp only [REF.jumpFields]; omega)

theorem State.glitch_word (s : State) (k : Nat) {j : Nat} (hstat : j ≠ 0x50120 + k * 0x40) (hhist : j ≠ 0x50138 + k * 0x40) :
    (s.glitch k).word j = s.word j := by
  rw [State.glitch_eq, State.word_setRefIn, State.word_sqf_ne _ hhist, State.word_inc_ne _ hstat]

theorem State.glitch_spared (s : State) {j k : Nat} (h : j ≠ k) : GlitchSpared j s (s.glitch k) := by
  refine ⟨?_, s.glitch_word k (by simp only [REF.jumpFields]; omega) (by simp only [REF.jumpFields]; omega)⟩
  rw [State.glitch_eq, State.refIn_setRefIn_ne _ _ h]
  exact State.refIn_congr (by rw [State.sqf_ref, State.inc_ref]) j

theorem GlitchCounted.trans_spared {k : Nat} {s t u : State} (h : GlitchCounted k s t) (hu : GlitchSpared k t u) : GlitchCounted k s u :=
  ⟨(State.rd_congr hu.2).trans h.1, hu.1.trans h.2⟩

theorem GlitchSpared.trans {k : Nat} {s t u : State} (h : GlitchSpared k s t) (hu : GlitchSpared k t u) : GlitchSpared k s u :=
  ⟨hu.1.trans h.1, hu.2.trans h.2⟩

theorem GlitchSpared.trans_counted {k : Nat} {s t u : State} (h : GlitchSpared k s t) (hclk : t.clk = s.clk) (hu : GlitchCounted k t u) :
    GlitchCounted k s u := by
  obtain ⟨hcount, hin⟩ := hu
  refine ⟨hcount.trans ?_, hin.trans ?_⟩
  · rw [State.rd_congr (s := s) (t := t) h.2]
  · rw [h.1, hclk]

/-- The state with the model's counter of open choices advanced. -/
def State.chosen (s : State) : State := { s with free := s.free + 1 }

theorem State.chosen_spared (s : State) (k : Nat) : GlitchSpared k s s.chosen := ⟨rfl, rfl⟩

theorem State.chosen_word (s : State) (k : Nat) : s.chosen.word k = s.word k := State.word_congr rfl k

/-- A runt counts at its input; VREF may ignore it (R321; log entry 79). -/
theorem State.runtAt_cases (s : State) (k : Nat) :
    s.runtAt k = s.glitch k ∨ k = 6 ∧ (s.runtAt k = s.chosen.glitch k ∨ s.runtAt k = s.chosen) := by
  unfold State.runtAt
  split
  · next hk =>
    refine .inr ⟨hk, ?_⟩
    dsimp only [State.freePick]
    split
    · exact .inl rfl
    · exact .inr rfl
  · exact .inl rfl

theorem State.runtAt_clk (s : State) (k : Nat) : (s.runtAt k).clk = s.clk := (s.runtAt_frame k).same .clk rfl

theorem State.runtAt_counted (s : State) {k : Nat} (hk : k ≠ 6) : GlitchCounted k s (s.runtAt k) := by
  rcases s.runtAt_cases k with h | ⟨h6, -⟩
  · rw [h]; exact s.glitch_counted k
  · exact absurd h6 hk

theorem State.runtAt_vref (s : State) : GlitchCounted 6 s (s.runtAt 6) ∨ GlitchSpared 6 s (s.runtAt 6) := by
  rcases s.runtAt_cases 6 with h | ⟨-, h | h⟩ <;> rw [h]
  · exact .inl (s.glitch_counted 6)
  · exact .inl ((s.chosen_spared 6).trans_counted rfl (s.chosen.glitch_counted 6))
  · exact .inr (s.chosen_spared 6)

theorem State.runtAt_spared (s : State) {j k : Nat} (h : j ≠ k) : GlitchSpared j s (s.runtAt k) := by
  rcases s.runtAt_cases k with hk | ⟨-, hk | hk⟩ <;> rw [hk]
  · exact s.glitch_spared h
  · exact (s.chosen_spared j).trans (s.chosen.glitch_spared h)
  · exact s.chosen_spared j

theorem State.runtAt_word (s : State) (k : Nat) {j : Nat} (hstat : j ≠ 0x50120 + k * 0x40) (hhist : j ≠ 0x50138 + k * 0x40) :
    (s.runtAt k).word j = s.word j := by
  rcases s.runtAt_cases k with hk | ⟨-, hk | hk⟩ <;> rw [hk]
  · exact s.glitch_word k hstat hhist
  · rw [State.glitch_word _ k hstat hhist, State.chosen_word]
  · exact s.chosen_word j

/-- Edge input `k` uses slicer `n`. -/
def State.usesSlicer (s : State) (n k : Nat) : Bool := edgeInput k && s.flag (REF.IN_CFG.EN k) && s.rd (REF.IN_CFG.SLC k) == n

/-- The runt of slicer `n` at the inputs below `b`. -/
def State.runtsBelow (s : State) (n b : Nat) : State := s.eachBelow (fun s k => if s.usesSlicer n k then s.runtAt k else s) b

theorem State.runtsBelow_succ (s : State) (n b : Nat) : s.runtsBelow n (b + 1) =
    if (s.runtsBelow n b).usesSlicer n b then (s.runtsBelow n b).runtAt b else s.runtsBelow n b := rfl

/-- Every input below `b` that uses the slicer has counted a failure, VREF perhaps; the others are as they were. -/
structure RuntsBelow (n b : Nat) (s t : State) : Prop where
  counted : ∀ k, k < b → s.usesSlicer n k = true → k ≠ 6 → GlitchCounted k s t
  vref : 6 < b → s.usesSlicer n 6 = true → GlitchCounted 6 s t ∨ GlitchSpared 6 s t
  spared : ∀ k, s.usesSlicer n k = false ∨ b ≤ k → GlitchSpared k s t
  words : ∀ j, j < 0x50120 → t.word j = s.word j
  others : ∀ j, 0x50120 + b * 0x40 ≤ j → t.word j = s.word j
  config : ∀ k, t.word (REF.IN_CFG k) = s.word (REF.IN_CFG k)
  clk : t.clk = s.clk

theorem RuntsBelow.uses {n b : Nat} {s t : State} (h : RuntsBelow n b s t) (k : Nat) : t.usesSlicer n k = s.usesSlicer n k := by
  rw [State.usesSlicer, State.flag_congr (s := s) (t := t) (h.config k), State.rd_congr (s := s) (t := t) (h.config k), State.usesSlicer]

theorem RuntsBelow.step {n b : Nat} {s t : State} (h : RuntsBelow n b s t) :
    RuntsBelow n (b + 1) s (if t.usesSlicer n b then t.runtAt b else t) := by
  rw [h.uses b]
  have hthis := h.spared b (.inr (Nat.le_refl b))
  split
  · next huses =>
    refine ⟨fun k hk hk1 hk6 => ?_, fun h6 hv => ?_, fun k hk => ?_, fun j hj => ?_, fun j hj => ?_, fun k => ?_, (t.runtAt_clk b).trans h.clk⟩
    · by_cases hkb : k = b
      · subst hkb
        exact hthis.trans_counted h.clk (t.runtAt_counted hk6)
      · exact (h.counted k (by omega) hk1 hk6).trans_spared (t.runtAt_spared hkb)
    · by_cases hb : 6 = b
      · subst hb
        exact t.runtAt_vref.imp (hthis.trans_counted h.clk) hthis.trans
      · exact (h.vref (by omega) hv).imp (·.trans_spared (t.runtAt_spared hb)) (·.trans (t.runtAt_spared hb))
    · have hkb : k ≠ b := by
        rintro rfl
        rcases hk with hk | hk
        · exact absurd huses (by simp [hk])
        · omega
      exact (h.spared k (hk.imp_right fun hk => by omega)).trans (t.runtAt_spared hkb)
    · rw [State.runtAt_word _ _ (by omega) (by omega), h.words j hj]
    · rw [State.runtAt_word _ _ (by omega) (by omega), h.others j (by omega)]
    · rw [State.runtAt_word _ _ (by simp only [REF.jumpFields]; omega) (by simp only [REF.jumpFields]; omega), h.config k]
  · next hunused =>
    refine ⟨fun k hk hk1 hk6 => h.counted k ?_ hk1 hk6, fun h6 hv => ?_, fun k hk => h.spared k (hk.imp_right fun hk => by omega), h.words,
      fun j hj => h.others j (by omega), h.config, h.clk⟩
    · have hkb : k ≠ b := by
        rintro rfl
        exact hunused hk1
      omega
    · by_cases hb : 6 = b
      · subst hb
        exact .inr hthis
      · exact h.vref (by omega) hv

theorem State.runtsBelow_runts (s : State) (n b : Nat) : RuntsBelow n b s (s.runtsBelow n b) := by
  induction b with
  | zero => exact ⟨fun k hk => by omega, fun h => by omega, fun k _ => ⟨rfl, rfl⟩, fun _ _ => rfl, fun _ _ => rfl, fun _ => rfl, rfl⟩
  | succ b ih =>
    rw [State.runtsBelow_succ]
    exact ih.step

theorem exec_slicerRunt {s : State} {n : Nat} (hn : n < 4) (hen : s.flag (EIM.SLC_CFG.EN n) = true) (hminw : s.rd (EIM.SLC_MINW.val n) ≠ 0) :
    exec (.slicerRunt n) s = .next ((s.inc (EIM.SLC_STAT.RUNT n)).runtsBelow n 10) := congrArg _ (if_pos ⟨hn, hen, hminw⟩)

/-- What a runt of slicer `n` leaves (R321, R371). -/
theorem State.slicerRunt_runts (s : State) {n : Nat} (hn : n < 4) :
    ((s.inc (EIM.SLC_STAT.RUNT n)).runtsBelow n 10).rd (EIM.SLC_STAT.RUNT n) = (s.rd (EIM.SLC_STAT.RUNT n) + 1) % 2 ^ 16 ∧
      ∀ k, k < 10 →
        (s.usesSlicer n k = true → k ≠ 6 → GlitchCounted k s ((s.inc (EIM.SLC_STAT.RUNT n)).runtsBelow n 10)) ∧
        (s.usesSlicer n k = true → k = 6 → GlitchCounted 6 s ((s.inc (EIM.SLC_STAT.RUNT n)).runtsBelow n 10) ∨
          GlitchSpared 6 s ((s.inc (EIM.SLC_STAT.RUNT n)).runtsBelow n 10)) ∧
        (s.usesSlicer n k = false → GlitchSpared k s ((s.inc (EIM.SLC_STAT.RUNT n)).runtsBelow n 10)) := by
  have hruns := (s.inc (EIM.SLC_STAT.RUNT n)).runtsBelow_runts n 10
  have hword : ∀ j, j ≠ EIM.SLC_STAT n → (s.inc (EIM.SLC_STAT.RUNT n)).word j = s.word j := fun j hj => s.word_inc_ne hj
  have huses (k : Nat) (hk : k < 10) : (s.inc (EIM.SLC_STAT.RUNT n)).usesSlicer n k = s.usesSlicer n k := by
    have hcfg := hword (REF.IN_CFG k) (by unfold REF.IN_CFG EIM.SLC_STAT; omega)
    rw [State.usesSlicer, State.flag_congr (s := s) hcfg, State.rd_congr (s := s) hcfg, State.usesSlicer]
  have hspared (k : Nat) (hk : k < 10) : GlitchSpared k s (s.inc (EIM.SLC_STAT.RUNT n)) :=
    ⟨State.refIn_congr (State.inc_ref ..) k, hword _ (by unfold REF.IN_STAT EIM.SLC_STAT; omega)⟩
  have hclk : (s.inc (EIM.SLC_STAT.RUNT n)).clk = s.clk := State.inc_clk ..
  refine ⟨?_, fun k hk => ⟨fun hk1 hk6 => ?_, fun hk1 hk6 => ?_, fun hk0 => ?_⟩⟩
  · rw [State.rd_congr (s := s.inc (EIM.SLC_STAT.RUNT n)) (hruns.others _ (by simp only [EIM.SLC_STAT.RUNT, EIM.SLC_STAT]; omega))]
    exact State.rd_inc_same _ (by simp only [EIM.SLC_STAT.RUNT]; omega)
  · exact (hspared k hk).trans_counted hclk (hruns.counted k hk ((huses k hk).trans hk1) hk6)
  · subst hk6
    exact (hruns.vref (by decide) ((huses 6 hk).trans hk1)).imp ((hspared 6 hk).trans_counted hclk) (hspared 6 hk).trans
  · exact (hspared k hk).trans (hruns.spared k (.inl ((huses k hk).trans hk0)))

/-- A jump that is noted and handled leaves the meter as it was. -/
theorem State.jumped_eim (s : State) (k : Nat) (diff : Int) : ((s.jumpNoted k diff false).jumpPolicy k diff diff).eim = s.eim := by
  rw [(State.jumpPolicy_frame ..).same .eim rfl, (State.jumpNoted_frame ..).same .eim rfl]

/-- The report and the mark of a jump outlast the release of the meter. -/
theorem State.jumped_reported (s : State) (k : Nat) (diff : Int) {u : State}
    (hu : ∀ j, j ≠ EIM.STAT → u.word j = ((s.jumpNoted k diff false).jumpPolicy k diff diff).word j) :
    Reported 0x0506 s u ∧ u.flag (REF.IN_HIST.JUMP k) = true := by
  have hword : ∀ j, j ≠ EIM.STAT → j ≠ REF.STATUS → u.word j = (s.jumpNoted k diff false).word j :=
    fun j hstat href => (hu j hstat).trans (State.jumpPolicy_word _ _ _ _ href)
  refine ⟨(s.jumpNoted_reported k diff false).of_kept (by decide) fun j hlo hhi => hword j (by unfold EIM.STAT; omega) (by unfold REF.STATUS; omega), ?_⟩
  rw [State.flag_congr (hword _ (by simp only [REF.jumpFields, REF.selectorFields, ne_eq]; omega) (by simp only [REF.jumpFields, REF.STATUS, ne_eq]; omega))]
  exact s.jumpNoted_flag k diff false

theorem State.jumpPol_noted (s : State) {k : Nat} (diff : Int) (hk : k < 10) :
    (s.jumpNoted k diff false).rd (REF.IN_CFG.JUMPPOL k) = s.rd (REF.IN_CFG.JUMPPOL k) :=
  s.jumpNoted_rd k diff false (.inr ⟨hk, by simp only [REF.jumpFields]⟩)

/-- A jump that is measured while another waits: the waiting one takes the meter (R379). -/
theorem State.jumpMeasured_next {s : State} {k j : Nat} {r : List Nat} (d : Int) (hwaits : s.eim.waits = j :: r) (hheld : s.eim.held = false)
    (hbusy : s.flag EIM.STAT.BUSY = false) : ∃ t, ((s.jumpNoted k d false).jumpPolicy k d d).eimRelease.jumpsDetected = t ∧
      t.eim.forRef = some j ∧ t.eim.waits = r ∧ t.flag EIM.STAT.REFUSE = true ∧ Reported 0x0506 s t ∧ t.flag (REF.IN_HIST.JUMP k) = true ∧
      Frame [.live, .evt, .eim, .ref, .out] s t := by
  have heim := s.jumped_eim k d
  have hbusy' : ((s.jumpNoted k d false).jumpPolicy k d d).flag EIM.STAT.BUSY = false := by
    rw [State.flag_congr (State.jumpPolicy_word _ _ _ _ (by decide)), State.flag_of_rd (s.jumpNoted_rd k d false (.inl rfl)), hbusy]
  obtain ⟨hfor, hrest, hrefuse, hidle, hwords⟩ := State.eimRelease_next (by rw [heim]; exact hwaits) (by rw [heim]; exact hheld) hbusy'
  obtain ⟨hreported, hmark⟩ := s.jumped_reported k d hwords
  exact ⟨_, State.jumpsDetected_idle hidle, hfor, hrest, hrefuse, hreported, hmark,
    (((s.jumpNoted_frame ..).weaken rfl).seq (State.jumpPolicy_frame ..) rfl).seq (State.eimRelease_frame _) rfl⟩

/-- A jump that is measured while none waits: the meter is released, and the input's policy has acted (R336, R379). -/
theorem State.jumpMeasured_last {s : State} {k : Nat} (d : Int) (hk : k < 10) (hwaits : s.eim.waits = []) :
    ∃ t, ((s.jumpNoted k d false).jumpPolicy k d d).eimRelease.jumpsDetected = t ∧
      t.eim.forRef = none ∧ t.flag EIM.STAT.REFUSE = false ∧ Reported 0x0506 s t ∧ t.flag (REF.IN_HIST.JUMP k) = true ∧
      (s.rd (REF.IN_CFG.JUMPPOL k) = 0 → t.refIn k = { s.refIn k with zero := d }) ∧
      (s.rd (REF.IN_CFG.JUMPPOL k) = 2 → t.ref = { s.ref with step := some d }) ∧
      (s.rd (REF.IN_CFG.JUMPPOL k) = 1 → t.flag REF.STATUS.SLEWING = true ∧ t.ref = s.ref) ∧ Frame [.live, .evt, .eim, .ref, .out] s t := by
  have heim := s.jumped_eim k d
  obtain ⟨hfor, -, hrefuse, hwords⟩ := State.eimRelease_free (s := (s.jumpNoted k d false).jumpPolicy k d d) (by rw [heim]; exact hwaits)
  have hframe : Frame [.live, .evt, .eim, .ref, .out] s ((s.jumpNoted k d false).jumpPolicy k d d).eimRelease :=
    (((s.jumpNoted_frame ..).weaken rfl).seq (State.jumpPolicy_frame ..) rfl).seq (State.eimRelease_frame _) rfl
  have href : (((s.jumpNoted k d false).jumpPolicy k d d).eimRelease).ref = ((s.jumpNoted k d false).jumpPolicy k d d).ref :=
    (State.eimRelease_frame _).same .ref rfl
  have hnoted : (s.jumpNoted k d false).ref = s.ref := (State.jumpNoted_frame ..).same .ref rfl
  have hpol := s.jumpPol_noted d hk
  have hnone : ((s.jumpNoted k d false).jumpPolicy k d d).eimRelease.eim.waits = [] :=
    (State.eimRelease_free (s := (s.jumpNoted k d false).jumpPolicy k d d) (by rw [heim]; exact hwaits)).2.1
  obtain ⟨hforKept, hwordKept, hrefKept⟩ := State.jumpsDetected_none hnone
  obtain ⟨hreported, hmark⟩ := s.jumped_reported k d fun j hj => (hwordKept j).trans (hwords j hj)
  have heq := hrefKept.trans href
  refine ⟨_, rfl, hforKept.trans hfor, (State.flag_congr (hwordKept _)).trans hrefuse, hreported, hmark, fun hp => ?_, fun hp => ?_, fun hp => ?_,
    hframe.seq (State.jumpsDetected_frame _) rfl⟩
  · rw [State.refIn_congr heq, State.jumpPolicy_buildOut _ _ (hpol.trans hp), State.refIn_congr hnoted]
  · rw [heq, State.jumpPolicy_step _ _ (hpol.trans hp), hnoted]
  · obtain ⟨hslew, hkept⟩ := State.jumpPolicy_slew (s := s.jumpNoted k d false) d d (hpol.trans hp)
    exact ⟨(State.flag_congr ((hwordKept _).trans (hwords _ (by decide)))).trans hslew, heq.trans (hkept.trans hnoted)⟩

/-- The holdover expires with the time that it has lasted (R335). -/
theorem State.holdExpired_fields {s : State} (hst : s.refState = 4) : s.holdTime.expireHold.refState = 5 ∧ s.holdTime.expireHold.refSel = 15 ∧
    s.holdTime.expireHold.rd REF.HOTIME.val = (s.clk.now - s.ref.holdFrom) / 10 ^ 9 % 2 ^ 32 ∧
    Frame [.live, .evt, .ref, .out] s s.holdTime.expireHold := by
  obtain ⟨hstate, hsel, htime⟩ := s.holdTime.expireHold_fields
  refine ⟨hstate, hsel, htime.trans ?_, (s.holdTime_frame.weaken rfl).seq (State.expireHold_frame _) rfl⟩
  have heq : s.holdTime = s.wr REF.HOTIME.val ((s.clk.now - s.ref.holdFrom) / 10 ^ 9) := if_pos hst.ge
  rw [heq, State.rd_wr_same _ _ _ (by decide), show REF.HOTIME.val.width = 32 from rfl]

/-- Settles O35: each event of the selector is written out as the words and records it writes. -/
theorem referenceSelectorLocksHoldsAndJumps : Obligations.ReferenceSelectorLocksHoldsAndJumps := by
  unfold Obligations.ReferenceSelectorLocksHoldsAndJumps
  intro i k n v interval s d w counts spares uses
  refine ⟨fun t0 hwithin hst htime => ?locked, fun hst htime => ?expired, fun j r hj href hwaits hheld hbusy => ?nextJump,
    fun hk href hwaits => ?lastJump, fun hv hhost hroom => ?profile, fun hn hen hminw => ?runt⟩
  case locked =>
    obtain ⟨hstate, hsel, hreported⟩ := s.setRef_fields (st := 2) (sel := s.refSel) 15 (by decide) (Nat.mod_lt _ (by decide))
    exact ⟨_, exec_refLocked hwithin hst htime, hstate, hsel, hreported, State.setRef_frame ..⟩
  case expired => exact ⟨_, exec_refHoExpired hst htime, State.holdExpired_fields hst⟩
  case nextJump =>
    obtain ⟨t, rfl, h⟩ := State.jumpMeasured_next (k := k) (jumpPs interval) hwaits hheld hbusy
    exact ⟨_, exec_refJumpMeasurement interval href, h⟩
  case lastJump =>
    obtain ⟨t, rfl, h⟩ := State.jumpMeasured_last (jumpPs interval) hk hwaits
    exact ⟨_, exec_refJumpMeasurement interval href, h⟩
  case profile =>
    refine ⟨_, exec_refProfileLoad hv hhost hroom, ?_, State.flag_wrFlag_self _ _ (by decide), ?_⟩
    · exact State.wrFlag_shadow ..
    · exact (s.profileTaken_frame ..).seq (State.wrFlag_frame ..) rfl
  case runt =>
    obtain ⟨hcount, hinputs⟩ := s.slicerRunt_runts hn
    exact ⟨_, exec_slicerRunt hn hen hminw, hcount, fun k hk huses h6 => (hinputs k hk).1 huses h6,
      fun huses => (hinputs 6 (by decide)).2.1 huses rfl, fun k hk huses => (hinputs k hk).2.2 huses,
      execSlicerRunt_frame n s _ (exec_slicerRunt hn hen hminw)⟩

end Sys2Proof.Machine
end

section
/-!
PROOFS. The interval meter (R374, R375, R377 to R379).
-/

namespace Sys2Proof.Machine

/-! ## The host's commands (R379) -/

theorem State.regWrite_eimArm (s : State) (i addr : Nat) :
    s.regWrite i EIM.CTL 0 addr (BitVec.ofNat 32 1) = if s.flag EIM.STAT.BUSY then s.accErr i addr .refused else s.eimArm.1 := rfl

theorem State.regWrite_eimStop (s : State) (i addr : Nat) : s.regWrite i EIM.CTL 0 addr (BitVec.ofNat 32 2) = s.eimStop := rfl

theorem exec_eimArm {s : State} {i : Iface} (h : s.hostReaches i EIM.CTL = true) : exec (.eimArm i) s =
    .next (if s.flag EIM.STAT.BUSY then s.accErr (ifaceNumber i) (hostKey 0 EIM.CTL) .refused else s.eimArm.1) := by
  show Host.Outcome.next (s.regCommand i EIM.CTL 1) = _
  rw [State.regCommand_reaches ⟨by decide, by decide, by decide⟩ h, State.regWrite_eimArm]

theorem exec_eimStop {s : State} {i : Iface} (h : s.hostReaches i EIM.CTL = true) : exec (.eimStop i) s = .next s.eimStop := by
  show Host.Outcome.next (s.regCommand i EIM.CTL 2) = _
  rw [State.regCommand_reaches ⟨by decide, by decide, by decide⟩ h, State.regWrite_eimStop]

theorem State.eimArm_starts {s : State} (hbusy : s.flag EIM.STAT.BUSY = false) (hen : s.flag EIM.CFG.EN = true)
    (hrefuse : s.flag EIM.STAT.REFUSE = false) : s.eimArm.1 = s.eimStart := by
  simp [State.eimArm, hbusy, hen, hrefuse]

/-- An ARM while REF holds the meter waits. -/
def State.armHeld (s : State) : State :=
  let s := s.wrFlag EIM.STAT.ARMHELD true
  s.withEim { s.eim with held := true }

theorem State.eimArm_waits {s : State} (hbusy : s.flag EIM.STAT.BUSY = false) (hen : s.flag EIM.CFG.EN = true)
    (hrefuse : s.flag EIM.STAT.REFUSE = true) : s.eimArm.1 = s.armHeld := by
  unfold State.eimArm
  rw [hbusy, hen, hrefuse]
  rfl

/-- A measurement that software has abandoned. -/
def State.eimAbandoned (s : State) : State :=
  let s := (s.wrFlag EIM.STAT.BUSY false).wrFlag EIM.STAT.ARMHELD false
  s.withEim { s.eim with held := false }

theorem State.eimAbandoned_eim (s : State) : s.eimAbandoned.eim = { s.eim with held := false } := by
  rw [State.eimAbandoned, State.withEim_eim, State.wrFlag_eim, State.wrFlag_eim]

theorem State.eimStop_alone {s : State} (h : s.eim.waits = []) : s.eimStop = s.eimAbandoned :=
  State.eimNext_none (s := s.eimAbandoned) (by rw [State.eimAbandoned_eim]; exact h)

/-! ## Results (R375 to R378) -/

/-- The words of a result, with its time. -/
def State.eimRecorded (s : State) (ns frac edges : Nat) : State :=
  let s := (((s.wr EIM.RESNS.val ns).setNum EIM.RESFRAC frac).wr EIM.RESEDGES.val edges).inc EIM.RESSEQ.val
  s.withEim { s.eim with since := s.clk.now }

/-- The marks of a result. -/
def State.eimMarked (s : State) (frac : Nat) : State :=
  let s := if bit frac 30 then s.sqf EIM.HIST.ORDER else s
  if bit frac 29 then s.sqf EIM.HIST.COINCIDENT else s

/-- A SINGLE measurement ends with its result. -/
def State.eimEnded (s : State) : State := if s.rd EIM.CFG.MODE = 0 then (s.wrFlag EIM.STAT.BUSY false).eimNext else s

theorem State.eimWrite_eq (s : State) (ns frac edges : Nat) : s.eimWrite ns frac edges = ((s.eimRecorded ns frac edges).eimMarked frac).eimEnded := rfl

theorem State.eimForRef_word (s : State) (k : Nat) {j : Nat} (h : j ≠ EIM.STAT) : (s.eimForRef k).word j = s.word j := by
  unfold State.eimForRef
  split
  · exact s.word_withEim _ j
  · exact (State.word_withEim _ _ j).trans (s.word_wrFlag_ne true h)

theorem State.eimForRef_busy (s : State) (k : Nat) : (s.eimForRef k).flag EIM.STAT.BUSY = s.flag EIM.STAT.BUSY := by
  unfold State.eimForRef
  split
  · exact s.flag_withEim _ _
  · exact (State.flag_withEim _ _ _).trans (s.flag_wrFlag_clear true (by simp only [Fld.clear, REF.selectorFields]; omega))

/-- REF's taking of the meter leaves the times of the measurement and its stop edges. -/
theorem State.eimForRef_eim (s : State) (k : Nat) : (s.eimForRef k).eim.since = s.eim.since ∧ (s.eimForRef k).eim.stops = s.eim.stops := by
  have heq : s.eimForRef k = if s.flag EIM.STAT.BUSY || s.eim.forRef.isSome then s.withEim { s.eim with waits := s.eim.waits ++ [k] }
      else (s.wrFlag EIM.STAT.REFUSE true).withEim { (s.wrFlag EIM.STAT.REFUSE true).eim with forRef := some k } := rfl
  rw [heq, State.wrFlag_eim]
  split
  · rw [State.withEim_eim]; exact ⟨rfl, rfl⟩
  · rw [State.withEim_eim]; exact ⟨rfl, rfl⟩

theorem State.eimNext_kept (s : State) : (∀ j, j ≠ EIM.STAT → s.eimNext.word j = s.word j) ∧ s.eimNext.flag EIM.STAT.BUSY = s.flag EIM.STAT.BUSY ∧
    s.eimNext.eim.since = s.eim.since ∧ s.eimNext.eim.stops = s.eim.stops := by
  unfold State.eimNext
  split
  · next k r h =>
    split
    · exact ⟨fun _ _ => rfl, rfl, rfl, rfl⟩
    · obtain ⟨hsince, hstops⟩ := (s.withEim { s.eim with waits := r }).eimForRef_eim k
      exact ⟨fun j hj => (State.eimForRef_word _ k hj).trans (s.word_withEim _ j),
        (State.eimForRef_busy _ k).trans (s.flag_withEim _ _), hsince, hstops⟩
  · exact ⟨fun _ _ => rfl, rfl, rfl, rfl⟩

theorem State.eimMarked_word (s : State) (frac : Nat) {j : Nat} (h : j ≠ EIM.HIST) : (s.eimMarked frac).word j = s.word j := by
  unfold State.eimMarked
  dsimp only
  split <;> split
  · rw [State.word_sqf_ne _ h, State.word_sqf_ne _ h]
  · rw [State.word_sqf_ne _ h]
  · rw [State.word_sqf_ne _ h]
  · rfl

theorem State.eimMarked_eim (s : State) (frac : Nat) : (s.eimMarked frac).eim = s.eim := by
  unfold State.eimMarked
  dsimp only
  split <;> split
  · rw [State.sqf_eim, State.sqf_eim]
  · rw [State.sqf_eim]
  · rw [State.sqf_eim]
  · rfl

theorem State.eimMarked_coincident (s : State) {frac : Nat} (h : bit frac 29 = true) : (s.eimMarked frac).flag EIM.HIST.COINCIDENT = true := by
  unfold State.eimMarked
  dsimp only
  rw [if_pos h]
  exact State.flag_sqf_self _ (by decide)

/-- The end of a SINGLE measurement touches STAT alone. -/
theorem State.eimEnded_kept (s : State) : (∀ j, j ≠ EIM.STAT → s.eimEnded.word j = s.word j) ∧ s.eimEnded.eim.since = s.eim.since ∧
    s.eimEnded.eim.stops = s.eim.stops ∧ (s.rd EIM.CFG.MODE = 0 → s.eimEnded.flag EIM.STAT.BUSY = false) ∧
    (s.rd EIM.CFG.MODE ≠ 0 → s.eimEnded.flag EIM.STAT.BUSY = s.flag EIM.STAT.BUSY) := by
  unfold State.eimEnded
  split
  · next hsingle =>
    obtain ⟨hwords, hbusy, hsince, hstops⟩ := (s.wrFlag EIM.STAT.BUSY false).eimNext_kept
    have heim : (s.wrFlag EIM.STAT.BUSY false).eim = s.eim := State.wrFlag_eim ..
    exact ⟨fun j hj => (hwords j hj).trans (s.word_wrFlag_ne false hj), hsince.trans (congrArg Eim.since heim), hstops.trans (congrArg Eim.stops heim),
      fun _ => hbusy.trans (s.flag_wrFlag_self false (by decide)), fun h => absurd hsingle h⟩
  · next hmulti => exact ⟨fun _ _ => rfl, rfl, rfl, fun h => absurd h hmulti, fun _ => rfl⟩

/-- Where the registers of a result stand. -/
theorem EIM.resultFields :
    EIM.RESNS.val = ⟨0x70114, 0, 32⟩ ∧ EIM.RESFRAC = 0x70118 ∧ EIM.RESEDGES.val = ⟨0x7011C, 0, 32⟩ ∧ EIM.RESSEQ.val = ⟨0x70110, 0, 32⟩ ∧
    EIM.CFG.MODE = ⟨0x70100, 24, 2⟩ ∧ EIM.STAT = 0x7010C ∧ EIM.HIST = 0x70120 ∧ EIM.STAT.BUSY = ⟨0x7010C, 31, 1⟩ := by
  and_intros <;> rfl

/-- From `s` to `t` a result has been written: its words, its number and its time; and a SINGLE measurement has ended (R377, R378). -/
structure EimWritten (ns frac edges : Nat) (s t : State) : Prop where
  seq : t.rd EIM.RESSEQ.val = (s.rd EIM.RESSEQ.val + 1) % 2 ^ 32
  since : t.eim.since = s.clk.now
  stops : t.eim.stops = s.eim.stops
  ns : t.rd EIM.RESNS.val = ns % 2 ^ 32
  fraction : t.num EIM.RESFRAC = frac % 2 ^ 32
  edges : t.rd EIM.RESEDGES.val = edges % 2 ^ 32
  coincident : bit frac 29 = true → t.flag EIM.HIST.COINCIDENT = true
  single : s.rd EIM.CFG.MODE = 0 → t.flag EIM.STAT.BUSY = false
  multi : s.rd EIM.CFG.MODE ≠ 0 → t.flag EIM.STAT.BUSY = s.flag EIM.STAT.BUSY
  words : ∀ j, j < 0x23000 → t.word j = s.word j

theorem State.eimRecorded_eim (s : State) (ns frac edges : Nat) : (s.eimRecorded ns frac edges).eim = { s.eim with since := s.clk.now } := by
  rw [State.eimRecorded, State.withEim_eim, State.inc_eim, State.wr_eim, State.setNum_eim, State.wr_eim, State.inc_clk, State.wr_clk, State.setNum_clk,
    State.wr_clk]

theorem State.eimRecorded_rd (s : State) (ns frac edges : Nat) (f : Fld) : (s.eimRecorded ns frac edges).rd f =
    ((((s.wr EIM.RESNS.val ns).setNum EIM.RESFRAC frac).wr EIM.RESEDGES.val edges).inc EIM.RESSEQ.val).rd f := State.rd_withEim ..

theorem State.eimRecorded_word (s : State) (ns frac edges : Nat) {j : Nat} (h : j < 0x70110 ∨ 0x7011C < j) :
    (s.eimRecorded ns frac edges).word j = s.word j := by
  rw [State.eimRecorded, State.word_withEim, State.word_inc_ne _ (by simp only [EIM.resultFields]; omega),
    State.word_wr_ne _ _ (by simp only [EIM.resultFields]; omega), State.word_setNum_ne _ _ (by simp only [EIM.resultFields]; omega),
    State.word_wr_ne _ _ (by simp only [EIM.resultFields]; omega)]

theorem State.eimWrite_written (s : State) (ns frac edges : Nat) : EimWritten ns frac edges s (s.eimWrite ns frac edges) := by
  have heim := s.eimRecorded_eim ns frac edges
  have hrd := s.eimRecorded_rd ns frac edges
  have hfar := fun j => s.eimRecorded_word ns frac edges (j := j)
  have hnum : (s.eimRecorded ns frac edges).num EIM.RESFRAC = frac % 2 ^ 32 := by
    rw [State.num, State.eimRecorded, State.word_withEim, State.word_inc_ne _ (by decide), State.word_wr_ne _ _ (by decide)]
    exact State.num_setNum_same _ _ _
  rw [State.eimWrite_eq]
  generalize s.eimRecorded ns frac edges = u at *
  have hmarked := fun j => u.eimMarked_word frac (j := j)
  have hmode : (u.eimMarked frac).rd EIM.CFG.MODE = s.rd EIM.CFG.MODE :=
    (State.rd_congr (hmarked _ (by decide))).trans (State.rd_congr (hfar _ (by decide)))
  have hbusy : (u.eimMarked frac).flag EIM.STAT.BUSY = s.flag EIM.STAT.BUSY :=
    (State.flag_congr (hmarked _ (by decide))).trans (State.flag_congr (hfar _ (by decide)))
  have hmark := u.eimMarked_coincident (frac := frac)
  have heim' : (u.eimMarked frac).eim = { s.eim with since := s.clk.now } := (u.eimMarked_eim frac).trans heim
  generalize u.eimMarked frac = w at *
  obtain ⟨hwords, hsince, hstops, hsingle, hmulti⟩ := w.eimEnded_kept
  have hall {f : Fld} (hstat : f.key ≠ EIM.STAT) (hhist : f.key ≠ EIM.HIST) : w.eimEnded.rd f = u.rd f :=
    (State.rd_congr (hwords _ hstat)).trans (State.rd_congr (hmarked _ hhist))
  refine ⟨?seq, ?since, ?stops, ?nanos, ?fraction, ?count, fun h => ?coincident, fun h => hsingle (hmode.trans h),
    fun h => (hmulti (hmode ▸ h)).trans hbusy, fun j hj => ?words⟩
  case since => rw [hsince, heim']
  case stops => rw [hstops, heim']
  case coincident => exact (State.flag_congr (hwords _ (by decide))).trans (hmark h)
  case fraction => rw [← hnum, State.num, hwords _ (by decide), hmarked _ (by decide), State.num]
  case words => rw [hwords _ (by unfold EIM.STAT; omega), hmarked _ (by unfold EIM.HIST; omega), hfar _ (by omega)]
  all_goals
    rw [hall (by decide) (by decide), hrd]
    simp (disch := first | (simp only [Fld.clear, EIM.resultFields] <;> omega) | fail) only
      [State.rd_inc_same, State.rd_wr_same, State.rd_wr_clear, State.rd_inc_clear, State.rd_setNum_clear]
    simp only [EIM.resultFields]

/-- A stop edge that is noted leaves every word, the clock and the time of the measurement. -/
theorem State.noteStop_kept (s : State) : (∀ j, s.noteStop.word j = s.word j) ∧ s.noteStop.clk = s.clk ∧
    (s.flag EIM.CFG.EN = true → s.noteStop.eim.stops = (s.stamp :: s.eim.stops).take 2) := by
  unfold State.noteStop
  split
  · exact ⟨fun j => s.word_withEim _ j, rfl, fun _ => rfl⟩
  · next h => exact ⟨fun _ => rfl, rfl, fun hen => absurd hen h⟩

/-- The fields of a result with a fraction of ten bits. -/
theorem resFrac_flags (valid order coincident timeout : Bool) {frac : Nat} (h : frac < 1024) :
    resFrac valid order coincident timeout false frac =
      2 ^ 31 * bnum valid + 2 ^ 30 * bnum order + 2 ^ 29 * bnum coincident + 2 ^ 28 * bnum timeout + frac := by
  unfold resFrac
  rw [Nat.mod_eq_of_lt (show frac < 2 ^ 10 from h)]
  cases valid <;> cases order <;> cases coincident <;> cases timeout <;> simp [bnum]

theorem fraction_lt (i : Int) : (i % 1024).toNat < 1024 := by omega

theorem wrap32_lt (i : Int) : wrap32 i < 2 ^ 32 := by
  unfold wrap32
  omega

/-- A pair of edges is measured as coincident, discarded where its order is not wanted, or written as its interval (R374, R376). -/
theorem State.eimPair_cases (s : State) (t : Int) :
    (coincident t = true → s.eimPair t true = s.eimWrite 0 (resFrac true false true false false 0) 0) ∧
    (coincident t = false → t < 0 → s.flag EIM.CFG.SIGNED = false → ∃ (u : State) (ns frac : Nat), s.eimPair t true = u.eimWrite ns frac 0 ∧
      (∀ j, u.word j = s.word j) ∧ u.clk = s.clk ∧ u.eim = s.eim) ∧
    (coincident t = false → (0 ≤ t ∨ s.flag EIM.CFG.SIGNED = true) →
      s.eimPair t true = s.eimWrite (wrap32 (t / 1024)) (resFrac true (decide (t < 0)) false false false (t % 1024).toNat) 0) := by
  refine ⟨fun h => ?_, fun h hneg hsigned => ?_, fun h hok => ?_⟩
  · unfold State.eimPair
    rw [if_pos h]
    rfl
  · refine ⟨s.freeWord.2.freeWord.2, s.freeWord.1.toNat, resFrac false true false false false s.freeWord.2.freeWord.1.toNat, ?_, fun _ => rfl, rfl, rfl⟩
    unfold State.eimPair
    rw [if_neg (by simp [h]), if_pos ⟨hneg, by simp [hsigned]⟩]
    rfl
  · unfold State.eimPair
    rw [if_neg (by simp [h]), if_neg (by rintro ⟨hneg, hsigned⟩; rcases hok with hok | hok; exacts [absurd hneg (by omega), hsigned hok])]
    rfl

/-- A result of `u`, which holds the words and the clock of `s`, is a result of `s` but for the stop edges that `u` keeps. -/
theorem EimWritten.of_like {ns frac edges : Nat} {s u t : State} (h : EimWritten ns frac edges u t) (hword : ∀ j, u.word j = s.word j)
    (hclk : u.clk = s.clk) (hstops : t.eim.stops = s.eim.stops) : EimWritten ns frac edges s t :=
  { seq := h.seq.trans (by rw [State.rd_congr (hword _)])
    since := h.since.trans (congrArg Clock.now hclk)
    stops := hstops
    ns := h.ns
    fraction := h.fraction
    edges := h.edges
    coincident := h.coincident
    single := fun hm => h.single ((State.rd_congr (hword _)).trans hm)
    multi := fun hm => (h.multi (by rwa [State.rd_congr (s := s) (hword _)])).trans (State.flag_congr (hword _))
    words := fun j hj => (h.words j hj).trans (hword j) }

/-- The count of a gate, measured (R376, R377). -/
theorem exec_eimResult_count {s : State} (interval : Int) (edges : Nat) (hbusy : s.flag EIM.STAT.BUSY = true) (hmode : s.rd EIM.CFG.MODE = 2) :
    exec (.eimResult interval edges true) s =
      .next (s.eimWrite (wrap32 (interval / 1024)) (resFrac true false false false false (interval % 1024).toNat) edges) := by
  show Host.Outcome.next _ = _
  rw [if_pos hbusy, if_pos hmode]
  rfl

/-- A pair of edges, measured: a start that its stop follows has noted that stop edge (R375). -/
theorem exec_eimResult_pair {s : State} {interval g : Int} (edges : Nat) (hbusy : s.flag EIM.STAT.BUSY = true) (hmode : s.rd EIM.CFG.MODE ≠ 2)
    (hg : s.eimInterval interval = some g) :
    exec (.eimResult interval edges true) s = .next ((if interval < 0 then s else s.noteStop).eimPair g true) := by
  show Host.Outcome.next _ = _
  rw [if_pos hbusy, if_neg hmode, hg]

/-- What an edge pair's measurement starts from: the words and the clock of `s`, and the stop edge that has just come. -/
theorem State.pairStart (s : State) (interval : Int) :
    (∀ j, (if interval < 0 then s else s.noteStop).word j = s.word j) ∧ (if interval < 0 then s else s.noteStop).clk = s.clk ∧
      (0 ≤ interval → s.flag EIM.CFG.EN = true → (if interval < 0 then s else s.noteStop).eim.stops = (s.stamp :: s.eim.stops).take 2) := by
  obtain ⟨hword, hclk, hstops⟩ := s.noteStop_kept
  split
  · next h => exact ⟨fun _ => rfl, rfl, fun h' => absurd h (by omega)⟩
  · exact ⟨hword, hclk, fun _ hen => hstops hen⟩

/-- The nearer of the two stop edges about a start makes the interval (R375). -/
theorem State.eimInterval_later {s : State} {t : Int} (h : 0 ≤ t) : s.eimInterval t = match s.latestStop (s.stamp - t) with
    | some p => some (if s.stamp - t - p ≤ 2 ^ 31 * 1024 ∧ s.stamp - t - p < t then p - (s.stamp - t) else t)
    | none => some t := by
  unfold State.eimInterval
  rw [if_neg (by omega)]
  cases s.latestStop (s.stamp - t) with
  | none => rfl
  | some p =>
    dsimp only [stopReach]
    rw [show -(s.stamp - t - p) = p - (s.stamp - t) by ring]
    rfl

theorem State.eimInterval_earlier {s : State} {t : Int} (h : t < 0) :
    s.eimInterval t = if t < -(2 ^ 31 * 1024) then none else some t := if_pos h

/-! ## Timeouts and the calibration loop (R374, R378) -/

/-- The values of a measurement that timed out are open. -/
theorem exec_eimTimeout {s : State} (hbusy : s.flag EIM.STAT.BUSY = true) (hms : s.rd EIM.TIMEOUT.MS ≠ 0)
    (htime : s.rd EIM.TIMEOUT.MS * 1000000 ≤ s.clk.now - s.eim.since) : ∃ (u : State) (ns frac : Nat),
    (∀ j, u.word j = s.word j) ∧ u.clk = s.clk ∧ u.eim = s.eim ∧ ∃ d, exec .eimTimeout s =
      .next (((u.eimWrite ns (resFrac false false false true false frac) 0).sqf EIM.HIST.TIMEOUT).report 0x0703 0 d) :=
  ⟨s.freeWord.2.freeWord.2, s.freeWord.1.toNat, s.freeWord.2.freeWord.1.toNat, fun _ => rfl, rfl, rfl, _,
    congrArg _ (if_pos ⟨hbusy, hms, htime⟩)⟩

theorem exec_eimCalLost {s : State} (h : s.flag EIM.STAT.CALLOCK = true) : exec .eimCalLost s =
    .next ((((s.wrFlag EIM.STAT.CALLOCK false).sqf EIM.HIST.CALLOST).report 0x0701 0 s.tick).withEim
      { (((s.wrFlag EIM.STAT.CALLOCK false).sqf EIM.HIST.CALLOST).report 0x0701 0 s.tick).eim with lost := true }) := congrArg _ (if_pos h)

theorem exec_eimCalLocked {s : State} (hapll : s.apll 0 = 3) (h : s.flag EIM.STAT.CALLOCK = false) : exec .eimCalLocked s =
    .next (if (s.wrFlag EIM.STAT.CALLOCK true).eim.lost then
        ((s.wrFlag EIM.STAT.CALLOCK true).report 0x0702 0 (s.wrFlag EIM.STAT.CALLOCK true).tick).withEim
          { ((s.wrFlag EIM.STAT.CALLOCK true).report 0x0702 0 (s.wrFlag EIM.STAT.CALLOCK true).tick).eim with lost := false }
      else s.wrFlag EIM.STAT.CALLOCK true) := congrArg _ (if_pos ⟨hapll, by simp [h]⟩)

/-- The fields of RESFRAC in the result of a measurement that timed out. -/
theorem flags_of_timeout {t : State} {frac : Nat} (h : t.num EIM.RESFRAC = resFrac false false false true false frac % 2 ^ 32) :
    t.flag EIM.RESFRAC.TIMEOUT = true ∧ t.flag EIM.RESFRAC.VALID = false := by
  have hfrac : t.num EIM.RESFRAC = 2 ^ 28 + frac % 1024 := by
    rw [h]
    unfold resFrac
    simp
    omega
  constructor
  · show (t.num EIM.RESFRAC / 2 ^ 28 % 2 ^ 1 == 1) = true
    rw [hfrac, beq_iff_eq]
    omega
  · show (t.num EIM.RESFRAC / 2 ^ 31 % 2 ^ 1 == 1) = false
    rw [hfrac, beq_eq_false_iff_ne]
    omega

/-! ## The obligation -/

theorem State.eimArm_fields {s : State} {i : Iface} (host : s.hostReaches i EIM.CTL = true) (hbusy : s.flag EIM.STAT.BUSY = false)
    (hen : s.flag EIM.CFG.EN = true) (hrefuse : s.flag EIM.STAT.REFUSE = false) : ∃ t, exec (.eimArm i) s = .next t ∧
      t.flag EIM.STAT.BUSY = true ∧ t.eim = { s.eim with since := s.clk.now, held := false } ∧ (∀ k, k ≠ EIM.STAT → t.word k = s.word k) ∧
      Frame [.live, .eim] s t := by
  refine ⟨s.eimStart, ?_, ?_, ?_, fun k hk => ?_, s.eimStart_frame⟩
  · rw [exec_eimArm host, hbusy, State.eimArm_starts hbusy hen hrefuse]
    rfl
  · rw [State.eimStart_eq, State.flag_withEim, State.flag_wrFlag_clear _ _ (by simp only [Fld.clear, REF.selectorFields]; omega),
      State.flag_wrFlag_self _ _ (by decide)]
  · rw [State.eimStart_eq, State.withEim_eim]
  · rw [State.eimStart_eq, State.word_withEim, State.word_wrFlag_ne _ _ hk, State.word_wrFlag_ne _ _ hk]

theorem State.eimArm_held {s : State} {i : Iface} (host : s.hostReaches i EIM.CTL = true) (hbusy : s.flag EIM.STAT.BUSY = false)
    (hen : s.flag EIM.CFG.EN = true) (hrefuse : s.flag EIM.STAT.REFUSE = true) : ∃ t, exec (.eimArm i) s = .next t ∧
      t.flag EIM.STAT.ARMHELD = true ∧ t.eim = { s.eim with held := true } ∧ (∀ k, k ≠ EIM.STAT → t.word k = s.word k) ∧
      Frame [.live, .eim] s t := by
  refine ⟨s.armHeld, ?_, ?_, ?_, fun k hk => ?_, ?_⟩
  · rw [exec_eimArm host, hbusy, State.eimArm_waits hbusy hen hrefuse]
    rfl
  · rw [State.armHeld, State.flag_withEim, State.flag_wrFlag_self _ _ (by decide)]
  · rw [State.armHeld, State.withEim_eim, State.wrFlag_eim]
  · rw [State.armHeld, State.word_withEim, State.word_wrFlag_ne _ _ hk]
  · rw [← State.eimArm_waits hbusy hen hrefuse]
    exact s.eimArm_frame

theorem State.eimStop_fields {s : State} {i : Iface} (host : s.hostReaches i EIM.CTL = true) (hwaits : s.eim.waits = []) :
    ∃ t, exec (.eimStop i) s = .next t ∧ t.flag EIM.STAT.BUSY = false ∧ t.flag EIM.STAT.ARMHELD = false ∧ t.eim = { s.eim with held := false } ∧
      (∀ k, k ≠ EIM.STAT → t.word k = s.word k) ∧ Frame [.live, .eim] s t := by
  refine ⟨_, exec_eimStop host, ?_, ?_, ?_, fun k hk => ?_, s.eimStop_frame⟩ <;> rw [State.eimStop_alone hwaits]
  · rw [State.eimAbandoned, State.flag_withEim, State.flag_wrFlag_clear _ _ (by simp only [Fld.clear, REF.selectorFields]; omega),
      State.flag_wrFlag_self _ _ (by decide)]
  · rw [State.eimAbandoned, State.flag_withEim, State.flag_wrFlag_self _ _ (by decide)]
  · exact s.eimAbandoned_eim
  · rw [State.eimAbandoned, State.word_withEim, State.word_wrFlag_ne _ _ hk, State.word_wrFlag_ne _ _ hk]

/-- What a result with a good calibration loop writes, by the meter's mode and the interval (R376 to R378). -/
theorem State.eimResult_fields {s : State} {interval g : Int} (edges : Nat) (hbusy : s.flag EIM.STAT.BUSY = true)
    (hg : s.eimInterval interval = some g) : ∃ t ns frac edges', exec (.eimResult interval edges true) s = .next t ∧
      EimWritten ns frac edges' (if s.rd EIM.CFG.MODE = 2 ∨ interval < 0 then s else s.noteStop) t ∧
      (s.rd EIM.CFG.MODE = 2 → ns = wrap32 (interval / 1024) ∧ frac = 2 ^ 31 + (interval % 1024).toNat ∧ edges' = edges) ∧
      (s.rd EIM.CFG.MODE ≠ 2 → coincident g = true → ns = 0 ∧ frac = 2 ^ 31 + 2 ^ 29) ∧
      (s.rd EIM.CFG.MODE ≠ 2 → coincident g = false → 0 ≤ g → ns = wrap32 (g / 1024) ∧ frac = 2 ^ 31 + (g % 1024).toNat) ∧
      (s.rd EIM.CFG.MODE ≠ 2 → coincident g = false → g < 0 → s.flag EIM.CFG.SIGNED = true →
        ns = wrap32 (g / 1024) ∧ frac = 2 ^ 31 + 2 ^ 30 + (g % 1024).toNat) := by
  by_cases hmode : s.rd EIM.CFG.MODE = 2
  · refine ⟨_, _, resFrac true false false false false (interval % 1024).toNat, _, exec_eimResult_count interval edges hbusy hmode, ?_,
      fun _ => ⟨rfl, ?_, rfl⟩, fun h => absurd hmode h, fun h => absurd hmode h, fun h => absurd hmode h⟩
    · rw [if_pos (.inl hmode)]
      exact s.eimWrite_written _ _ _
    · rw [resFrac_flags _ _ _ _ (fraction_lt _)]
      simp [bnum]
  · have hstart : (if s.rd EIM.CFG.MODE = 2 ∨ interval < 0 then s else s.noteStop) = if interval < 0 then s else s.noteStop := by simp only [hmode, false_or]
    obtain ⟨hword, hclk, -⟩ := s.pairStart interval
    have hexec := exec_eimResult_pair edges hbusy hmode hg
    rw [hstart]
    have hsigned := State.flag_congr (hword EIM.CFG.SIGNED.key)
    generalize (if interval < 0 then s else s.noteStop) = u at *
    obtain ⟨hcoincident, hdiscarded, hmeasured⟩ := u.eimPair_cases g
    by_cases hc : coincident g = true
    · rw [hcoincident hc] at hexec
      refine ⟨_, _, _, _, hexec, u.eimWrite_written _ _ _, fun h => absurd h hmode, fun _ _ => ⟨rfl, ?_⟩, fun _ h => absurd hc (by simp [h]),
        fun _ h => absurd hc (by simp [h])⟩
      rw [resFrac_flags _ _ _ _ (by decide)]
      simp [bnum]
    · rw [Bool.not_eq_true] at hc
      by_cases hok : 0 ≤ g ∨ u.flag EIM.CFG.SIGNED = true
      · rw [hmeasured hc hok] at hexec
        refine ⟨_, _, _, _, hexec, u.eimWrite_written _ _ _, fun h => absurd h hmode, fun _ h => absurd h (by simp [hc]), fun _ _ hpos => ⟨rfl, ?_⟩,
          fun _ _ hneg _ => ⟨rfl, ?_⟩⟩
        · rw [resFrac_flags _ _ _ _ (fraction_lt _), decide_eq_false (by omega)]
          simp [bnum]
        · rw [resFrac_flags _ _ _ _ (fraction_lt _), decide_eq_true hneg]
          simp [bnum]
      · obtain ⟨hneg, hunsigned⟩ := not_or.mp hok
        obtain ⟨w, ns, frac, heq, hw, hwclk, hweim⟩ := hdiscarded hc (by omega) (by simpa using hunsigned)
        rw [heq] at hexec
        have hwritten := w.eimWrite_written ns frac 0
        exact ⟨_, ns, frac, 0, hexec, hwritten.of_like hw hwclk (hwritten.stops.trans (congrArg Eim.stops hweim)), fun h => absurd h hmode,
          fun _ h => absurd h (by simp [hc]), fun _ _ h => absurd h hneg, fun _ _ _ h => absurd (hsigned.trans h) hunsigned⟩

/-- Settles O37: the host's commands and the meter's events are written out as the words that they write. -/
theorem meterArmsMeasuresAndTimesOut : Obligations.MeterArmsMeasuresAndTimesOut := by
  unfold Obligations.MeterArmsMeasuresAndTimesOut
  intro i edges interval s busy host counted
  refine ⟨State.eimArm_fields, State.eimArm_held, fun hhost hbusy => ?refused, State.eimStop_fields, fun hpos p hp => ?later, fun hpos hp => ?single,
    State.eimInterval_earlier, fun g hbusy hg => ?result, fun hbusy hms htime => ?timeout, fun hlock => ?lost, fun hapll hlock => ?locked⟩
  case refused =>
    obtain ⟨-, -, -, hreported, -, hframe⟩ := s.accErr_recorded (ifaceNumber i) (hostKey 0 EIM.CTL) .refused
    exact ⟨_, (exec_eimArm hhost).trans (by rw [if_pos hbusy]), hframe.same .eim rfl, hreported, hframe⟩
  case later => rw [State.eimInterval_later hpos, hp]
  case single => rw [State.eimInterval_later hpos, hp]
  case result =>
    obtain ⟨t, ns, frac, edges', hexec, hwritten, hcount, hcoincident, hplus, hminus⟩ := State.eimResult_fields edges hbusy hg
    have hlike : ∀ j, (if s.rd EIM.CFG.MODE = 2 ∨ interval < 0 then s else s.noteStop).word j = s.word j := fun j => by
      split
      · rfl
      · exact s.noteStop_kept.1 j
    have hclk : (if s.rd EIM.CFG.MODE = 2 ∨ interval < 0 then s else s.noteStop).clk = s.clk := by
      split
      · rfl
      · exact s.noteStop_kept.2.1
    have hmode : (if s.rd EIM.CFG.MODE = 2 ∨ interval < 0 then s else s.noteStop).rd EIM.CFG.MODE = s.rd EIM.CFG.MODE := State.rd_congr (hlike _)
    have hns (i : Int) (h : ns = wrap32 i) : t.rd EIM.RESNS.val = wrap32 i := by rw [hwritten.ns, h, Nat.mod_eq_of_lt (wrap32_lt i)]
    have hfrac (n : Nat) (hn : n < 2 ^ 32) (h : frac = n) : t.num EIM.RESFRAC = n := by rw [hwritten.fraction, h, Nat.mod_eq_of_lt hn]
    have hlt := fraction_lt interval
    have hlt' := fraction_lt g
    refine ⟨t, hexec, ⟨?_, ?_⟩, fun hm hpos hen => ?_, fun hm => ?_, fun hm hc hpos => ?_, fun hm hc hneg hsigned => ?_, fun hm hc => ?_, fun hm => ?_,
      fun hm => ?_, execEimResult_frame interval edges true s t hexec⟩
    · rw [hwritten.seq, State.rd_congr (hlike _)]
    · rw [hwritten.since, hclk]
    · rw [hwritten.stops, if_neg (not_or.mpr ⟨hm, by omega⟩)]
      exact s.noteStop_kept.2.2 hen
    · obtain ⟨h1, h2, h3⟩ := hcount hm
      exact ⟨hns _ h1, by rw [hwritten.edges, h3], hfrac _ (by omega) h2⟩
    · obtain ⟨h1, h2⟩ := hplus hm hc hpos
      exact ⟨hns _ h1, hfrac _ (by omega) h2⟩
    · obtain ⟨h1, h2⟩ := hminus hm hc hneg hsigned
      exact ⟨hns _ h1, hfrac _ (by omega) h2⟩
    · obtain ⟨h1, h2⟩ := hcoincident hm hc
      exact ⟨by rw [hwritten.ns, h1]; rfl, hfrac _ (by decide) h2, hwritten.coincident (by rw [h2]; decide)⟩
    · exact hwritten.single (hmode.trans hm)
    · exact (hwritten.multi (by rw [hmode]; exact hm)).trans ((State.flag_congr (hlike _)).trans hbusy)
  case timeout =>
    obtain ⟨u, ns, frac, hword, hclk, heim, d, hexec⟩ := exec_eimTimeout hbusy hms htime
    have hwritten := (u.eimWrite_written ns (resFrac false false false true false frac) 0)
    have hwritten := hwritten.of_like hword hclk (hwritten.stops.trans (congrArg Eim.stops heim))
    generalize u.eimWrite ns (resFrac false false false true false frac) 0 = w at *
    have hkept {j : Nat} (hr : reportSpares j) (hj : j ≠ EIM.HIST) : ((w.sqf EIM.HIST.TIMEOUT).report 0x0703 0 d).word j = w.word j := by
      rw [State.report_word _ _ _ _ hr.not_reportKey (by decide), State.word_sqf_ne _ hj]
    have heim' : ((w.sqf EIM.HIST.TIMEOUT).report 0x0703 0 d).eim = w.eim := by
      rw [(State.report_frame ..).same .eim rfl, State.sqf_eim]
    obtain ⟨htimeout, hvalid⟩ := flags_of_timeout (t := (w.sqf EIM.HIST.TIMEOUT).report 0x0703 0 d)
      ((congrArg BitVec.toNat (hkept (by unfold reportSpares EIM.RESFRAC; omega) (by decide))).trans hwritten.fraction)
    refine ⟨_, hexec, ⟨?_, ?_⟩, htimeout, hvalid, ?_, ?_, execEimTimeout_frame s _ hexec⟩
    · rw [← hwritten.seq]
      exact State.rd_congr (hkept (by simp only [reportSpares, EIM.resultFields]; omega) (by decide))
    · rw [heim', hwritten.since]
    · rw [State.flag_report_clear _ _ _ (by simp only [reportSpares, EIM.HIST.TIMEOUT, EIM.HIST]; omega), State.flag_sqf_self _ (by decide)]
    · refine Reported.report_of_kept _ _ (by decide) fun j hlo hhi => ?_
      rw [State.word_sqf_ne _ (by simp only [EIM.HIST.TIMEOUT, EIM.HIST]; omega), hwritten.words j hhi]
  case lost =>
    refine ⟨_, exec_eimCalLost hlock, ?_, ?_, ?_, execEimCalLost_frame s _ (exec_eimCalLost hlock)⟩
    · rw [State.flag_withEim, State.flag_report_clear _ _ _ (by simp only [reportSpares, EIM.STAT.CALLOCK, EIM.STAT]; omega),
        State.flag_sqf_clear _ (by decide), State.flag_wrFlag_self _ _ (by decide)]
    · rw [State.withEim_eim, (State.report_frame ..).same .eim rfl, State.sqf_eim, State.wrFlag_eim]
    · refine Reported.of_kept (Reported.report_of_kept _ _ (by decide) fun j hlo hhi => ?_) (by decide) fun j _ _ => State.word_withEim _ _ j
      rw [State.word_sqf_ne _ (by simp only [EIM.HIST.CALLOST, EIM.HIST]; omega), State.word_wrFlag_ne _ _ (by simp only [EIM.STAT.CALLOCK, EIM.STAT]; omega)]
  case locked =>
    have hexec := exec_eimCalLocked hapll hlock
    have hframe := execEimCalLocked_frame s _ hexec
    rw [State.wrFlag_eim] at hexec hframe
    refine ⟨_, hexec, ?_⟩
    cases hlost : s.eim.lost with
    | true =>
      rw [if_pos hlost] at hframe
      rw [if_pos rfl]
      refine ⟨?_, ?_, fun _ => ?_, fun h => absurd h (by decide), hframe⟩
      · rw [State.flag_withEim, State.flag_report_clear _ _ _ (by simp only [reportSpares, EIM.STAT.CALLOCK, EIM.STAT]; omega),
          State.flag_wrFlag_self _ _ (by decide)]
      · rw [State.withEim_eim, (State.report_frame ..).same .eim rfl, State.wrFlag_eim]
      · refine Reported.of_kept (Reported.report_of_kept _ _ (by decide) fun j hlo hhi => ?_) (by decide) fun j _ _ => State.word_withEim _ _ j
        exact State.word_wrFlag_ne _ _ (by simp only [EIM.STAT.CALLOCK, EIM.STAT]; omega)
    | false =>
      rw [if_neg (by simp [hlost])] at hframe
      rw [if_neg (by decide)]
      refine ⟨s.flag_wrFlag_self _ (by decide), ?_, fun h => absurd h (by decide), fun _ k hk => s.word_wrFlag_ne _ hk, hframe⟩
      rw [State.wrFlag_eim, ← hlost]

end Sys2Proof.Machine
end

section
/-!
PROOFS. The time counter: captured, set and aligned by the host (R384, R385, R387).
-/

namespace Sys2Proof.Machine

/-! ## What the judging of programmed times leaves (R385) -/

/-- From `s` to `t` TIME.CTL has not changed, and a step that was marked stays marked. -/
structure StepKept (s t : State) : Prop where
  ctl : t.word TIME.CTL = s.word TIME.CTL
  mark : s.flag TIME.HIST.STEP = true → t.flag TIME.HIST.STEP = true

theorem StepKept.refl (s : State) : StepKept s s := ⟨rfl, id⟩

theorem StepKept.trans {s t u : State} (h : StepKept s t) (k : StepKept t u) : StepKept s u := ⟨k.ctl.trans h.ctl, fun hs => k.mark (h.mark hs)⟩

theorem StepKept.of_words {s t : State} (hctl : t.word TIME.CTL = s.word TIME.CTL) (hhist : t.word TIME.HIST = s.word TIME.HIST) : StepKept s t :=
  ⟨hctl, fun h => (State.flag_congr hhist).trans h⟩

/-- An event of another sticky register, or of TIME.HIST, and its report. -/
theorem StepKept.event (s : State) {f : Fld} (code source data : Nat) (h : f.key ≠ TIME.CTL) (hc : code < 0x1800) :
    StepKept s ((s.sqf f).report code source data) := by
  refine ⟨?_, fun hs => ?_⟩
  · rw [State.report_word _ _ _ _ (by decide) hc, State.word_sqf_ne _ (Ne.symm h)]
  · rw [State.report_flag _ _ _ _ _ (by decide) hc]
    exact State.flag_sqf_of_flag f rfl (by decide) hs

theorem StepKept.wr (s : State) {f : Fld} (v : Nat) (hctl : f.key ≠ TIME.CTL) (hhist : f.key ≠ TIME.HIST) : StepKept s (s.wr f v) :=
  .of_words (s.word_wr_ne _ (Ne.symm hctl)) (s.word_wr_ne _ (Ne.symm hhist))

theorem StepKept.setPulse (s : State) (k : Nat) (x : Pulse) : StepKept s (s.setPulse k x) := .of_words (State.word_congr rfl _) (State.word_congr rfl _)

theorem StepKept.setCue (s : State) (k : Nat) (x : CueEntry) : StepKept s (s.setCue k x) := .of_words (State.word_congr rfl _) (State.word_congr rfl _)

theorem StepKept.dropCue (s : State) (k : Nat) : StepKept s (s.dropCue k) := .of_words (State.word_congr rfl _) (State.word_congr rfl _)

theorem StepKept.fixStart (s : State) (k t : Nat) : StepKept s (s.fixStart k t) := .of_words (State.word_congr rfl _) (State.word_congr rfl _)

theorem StepKept.herdLate (s : State) (k j : Nat) : StepKept s (s.herdLate k j) := by
  have hevent := StepKept.event s (f := HRD.HIST.HERD_LATE) 0x1705 k j (by decide) (by decide)
  unfold State.herdLate
  refine hevent.trans ?_
  generalize (s.sqf HRD.HIST.HERD_LATE).report 0x1705 k j = u
  have hstate : (HRD.H_STATE.val k).key = 0x17011C + k * 0x20 := rfl
  dsimp only
  split
  · exact (StepKept.wr u 1 (by rw [hstate]; unfold TIME.CTL; omega) (by rw [hstate]; unfold TIME.HIST; omega)).trans (.fixStart _ _ _)
  · exact .wr u _ (by rw [hstate]; unfold TIME.CTL; omega) (by rw [hstate]; unfold TIME.HIST; omega)

theorem StepKept.pgEnd (s : State) {k : Nat} (hk : k < 8) : StepKept s (s.pgEnd k) := by
  have harmed : (TIME.PG_CFG.ARMED k).key = 0x80100 + k * 0x10 := rfl
  have hrunning : (TIME.PG_CFG.RUNNING k).key = 0x80100 + k * 0x10 := rfl
  unfold State.pgEnd
  refine ((StepKept.wr s _ ?_ ?_).trans (StepKept.wr _ _ ?_ ?_)).trans (.setPulse _ _ _)
  · rw [harmed]; unfold TIME.CTL; omega
  · rw [harmed]; unfold TIME.HIST; omega
  · rw [hrunning]; unfold TIME.CTL; omega
  · rw [hrunning]; unfold TIME.HIST; omega

theorem StepKept.pgJudge (s : State) {k : Nat} (t : Nat) (hk : k < 8) : StepKept s (s.pgJudge k t) := by
  unfold State.pgJudge
  dsimp only
  split
  · exact .setPulse _ _ _
  · refine (StepKept.event s (f := TIME.HIST.LATE) 0x0804 k (s.rd (TIME.PG_START.val k)) (by decide) (by decide)).trans ?_
    generalize (s.sqf TIME.HIST.LATE).report 0x0804 k (s.rd (TIME.PG_START.val k)) = u
    split
    · exact .setPulse _ _ _
    · split
      · exact .setPulse _ _ _
      · split
        · exact .setPulse _ _ _
        · exact .pgEnd _ hk

theorem StepKept.cueState (s : State) (i st : Nat) : StepKept s (s.cueState i st) := by
  have hkey : (CLS.W0 i).key = 0x80341000 + i * 0x10 + 0 * 4 := rfl
  unfold State.cueState
  split
  · exact .refl s
  · exact .wr s _ (by rw [hkey]; unfold TIME.CTL; omega) (by rw [hkey]; unfold TIME.HIST; omega)

theorem StepKept.cueJudge (s : State) (i g t : Nat) (c : CueEntry) : StepKept s (s.cueJudge i g t c) := by
  unfold State.cueJudge
  dsimp only
  split
  · exact .setCue _ _ _
  · refine (StepKept.event s (f := TIME.HIST.LATE) 0x0805 i (s.rd (CLQ.T i)) (by decide) (by decide)).trans ?_
    generalize (s.sqf TIME.HIST.LATE).report 0x0805 i (s.rd (CLQ.T i)) = u
    split
    · exact .setCue _ _ _
    · split
      · exact .setCue _ _ _
      · exact (StepKept.dropCue _ _).trans (.cueState _ _ _)

theorem StepKept.eachBelow (s : State) {f : State → Nat → State} {n : Nat} (h : ∀ t k, k < n → StepKept t (f t k)) : StepKept s (s.eachBelow f n) := by
  induction n with
  | zero => exact .refl s
  | succ n ih => exact (ih fun t k hk => h t k (by omega)).trans (h _ n (by omega))

theorem StepKept.foldl {α : Type} (s : State) {f : State → α → State} (xs : List α) (h : ∀ t x, StepKept t (f t x)) : StepKept s (xs.foldl f s) := by
  induction xs generalizing s with
  | nil => exact .refl s
  | cons x xs ih => exact (h s x).trans (ih _)

theorem StepKept.rejudge (s : State) : StepKept s s.rejudge := by
  unfold State.rejudge
  refine ((StepKept.eachBelow s fun t k hk => ?_).trans (StepKept.eachBelow _ fun t k hk => ?_)).trans (StepKept.foldl _ _ fun t p => ?_)
  · split
    · exact .herdLate _ _ _
    · exact .refl t
  · split
    · exact .pgJudge _ _ hk
    · exact .refl t
  · split
    · exact .cueJudge _ _ _ _ _
    · exact .refl t

/-- The state with the time counter at `time`. -/
def State.withTime (s : State) (time : Nat) : State := { s with clk := { s.clk with time := time } }

theorem State.word_withTime (s : State) (time k : Nat) : (s.withTime time).word k = s.word k := State.word_congr rfl k

theorem State.timeStep_eq (s : State) (d : Int) : ∃ e, s.timeStep d =
    (((s.withTime ((Int.ofNat s.clk.time + d) % (2 ^ 48 * 10 ^ 21)).toNat).sqf TIME.HIST.STEP).report 0x0801 0 e).rejudge := ⟨_, rfl⟩

/-- A step of the counter moves it, is marked, and leaves TIME.CTL (R385). -/
theorem State.timeStep_fields (s : State) (d : Int) :
    (s.timeStep d).clk = { s.clk with time := ((Int.ofNat s.clk.time + d) % (2 ^ 48 * 10 ^ 21)).toNat } ∧ (s.timeStep d).flag TIME.HIST.STEP = true ∧
      (s.timeStep d).word TIME.CTL = s.word TIME.CTL := by
  obtain ⟨e, heq⟩ := s.timeStep_eq d
  rw [heq]
  generalize htime : ((Int.ofNat s.clk.time + d) % (2 ^ 48 * 10 ^ 21)).toNat = time
  have hclk : (((s.withTime time).sqf TIME.HIST.STEP).report 0x0801 0 e).clk = { s.clk with time := time } := by
    rw [(State.report_frame ..).same .clk rfl, State.sqf_clk]
    rfl
  have hmark : (((s.withTime time).sqf TIME.HIST.STEP).report 0x0801 0 e).flag TIME.HIST.STEP = true := by
    rw [State.flag_report_clear _ _ _ (by simp only [reportSpares, TIME.HIST.STEP, TIME.HIST]; omega), State.flag_sqf_self _ (by decide)]
  have hctl : (((s.withTime time).sqf TIME.HIST.STEP).report 0x0801 0 e).word TIME.CTL = s.word TIME.CTL := by
    rw [State.report_word _ _ _ _ (by decide) (by decide), State.word_sqf_ne _ (by decide), State.word_withTime]
  generalize ((s.withTime time).sqf TIME.HIST.STEP).report 0x0801 0 e = u at *
  have hkept := StepKept.rejudge u
  exact ⟨(u.rejudge_frame.same .clk rfl).trans hclk, hkept.mark hmark, hkept.ctl.trans hctl⟩

/-! ## The commands of TIME.CTL (R384, R385, R387) -/

/-- A direct write of TIME.CTL acts on what it has left in AUTO. -/
theorem State.regWrite_timeCtl (s : State) (i addr : Nat) (v : Word) :
    s.regWrite i TIME.CTL 0 addr v = (s.rwWritten TIME.CTL v 0x100).timeCtl i v.toNat := by
  have hmodes : (s.rwWritten TIME.CTL v 0x100).setModes TIME.CTL (2 ^ 32 - 1) = s.rwWritten TIME.CTL v 0x100 :=
    State.setModes_unwatched _ _ (by decide) (by decide) (by decide) (by decide)
  have hwrite : s.regWrite i TIME.CTL 0 addr v = ((s.rwWritten TIME.CTL v 0x100).setModes TIME.CTL (2 ^ 32 - 1)).timeCtl i v.toNat := rfl
  rw [hwrite, hmodes]

theorem State.regCommand_timeCtl {s : State} {i : Iface} {v b : Nat} (hv : v < 2 ^ 32) (hb : b < 32) (h : s.hostReaches i TIME.CTL = true) :
    s.regCommand i TIME.CTL (v ||| 2 ^ b) = (s.rwWritten TIME.CTL (BitVec.ofNat 32 (v ||| 2 ^ b)) 0x100).timeCtl (ifaceNumber i) (v ||| 2 ^ b) := by
  rw [State.regCommand_reaches ⟨by decide, by decide, by decide⟩ h, State.regWrite_timeCtl, toNat_or_bit hv hb]

section
variable (s : State) (i v : Nat)

theorem State.timeCtl_cap (h0 : bit v 0 = true) (h1 : bit v 1 = false) (h2 : bit v 2 = false) : s.timeCtl i v = s.timeCap := by
  simp [State.timeCtl, h0, h1, h2]

theorem State.timeCtl_set (h0 : bit v 0 = false) (h1 : bit v 1 = true) (h2 : bit v 2 = false) :
    s.timeCtl i v = if s.timeSet.2 then s.timeSet.1 else s.accErr i TIME.CTL .refused := by
  simp [State.timeCtl, h0, h1, h2]

theorem State.timeCtl_align (h0 : bit v 0 = false) (h1 : bit v 1 = false) (h2 : bit v 2 = true) :
    s.timeCtl i v = { s with times := { s.times with align := true } } := by
  simp [State.timeCtl, h0, h1, h2]

end

/-- The seconds of the counter are numbered in 48 bits. -/
theorem State.seconds_lt (s : State) : s.seconds < 2 ^ 48 := Nat.mod_lt _ (by decide)

theorem State.nsec_lt (s : State) : s.nsec < 10 ^ 9 := Nat.mod_lt _ (by decide)

/-- Where the captured time stands. -/
theorem TIME.captureFields : TIME.CAPNS.val = ⟨0x80020, 0, 32⟩ ∧ TIME.CAPSECLO.val = ⟨0x80024, 0, 32⟩ ∧ TIME.CAPSECHI.val = ⟨0x80028, 0, 16⟩ ∧
    TIME.CAPNSEC.val = ⟨0x8002C, 0, 30⟩ := by
  and_intros <;> rfl

theorem State.timeCap_eq (s : State) : s.timeCap =
    (((s.wr TIME.CAPNS.val s.ns).wr TIME.CAPSECLO.val s.seconds).wr TIME.CAPSECHI.val (s.seconds / 2 ^ 32)).wr TIME.CAPNSEC.val s.nsec := by
  have hclk : ((s.wr TIME.CAPNS.val s.ns).wr TIME.CAPSECLO.val s.seconds).clk = s.clk := by rw [State.wr_clk, State.wr_clk]
  have hseconds {u : State} (h : u.clk = s.clk) : u.seconds = s.seconds := by rw [State.seconds, State.timeNs, h, State.seconds, State.timeNs]
  have hnsec {u : State} (h : u.clk = s.clk) : u.nsec = s.nsec := by rw [State.nsec, State.timeNs, h, State.nsec, State.timeNs]
  unfold State.timeCap
  dsimp only
  rw [hseconds hclk, hnsec hclk]

theorem State.timeCap_fields (s : State) : s.timeCap.rd TIME.CAPNS.val = s.ns ∧ s.timeCap.rd TIME.CAPSECLO.val = s.seconds % 2 ^ 32 ∧
    s.timeCap.rd TIME.CAPSECHI.val = s.seconds / 2 ^ 32 ∧ s.timeCap.rd TIME.CAPNSEC.val = s.nsec := by
  have hseconds := s.seconds_lt
  have hnsec := s.nsec_lt
  have hns : s.ns < 2 ^ 32 := Nat.mod_lt _ (by decide)
  rw [State.timeCap_eq]
  refine ⟨?_, ?_, ?_, ?_⟩
  · simp (disch := first | (simp only [Fld.clear, TIME.captureFields] <;> omega) | fail) only [State.rd_wr_clear, State.rd_wr_self]
  · rw [State.rd_wr_clear _ _ (by simp only [Fld.clear, TIME.captureFields]; omega), State.rd_wr_clear _ _ (by simp only [Fld.clear, TIME.captureFields]; omega),
      State.rd_wr_same _ _ _ (by decide), show TIME.CAPSECLO.val.width = 32 from rfl]
  · simp (disch := first | (simp only [Fld.clear, TIME.captureFields] <;> omega) | fail) only [State.rd_wr_clear, State.rd_wr_self]
  · simp (disch := first | (simp only [Fld.clear, TIME.captureFields] <;> omega) | fail) only [State.rd_wr_self]

/-- The time that SETSECHI, SETSECLO and SETNSEC hold, in units of the counter. -/
def State.setGoal (s : State) : Nat := ((s.rd TIME.SETSECHI.val * 2 ^ 32 + s.rd TIME.SETSECLO.val) * 10 ^ 9 + s.rd TIME.SETNSEC.val) * 10 ^ 12

/-- A SET that is not refused (R385). -/
def State.setAllowed (s : State) : Prop := s.flag TIME.SRVCFG.SRC = true ∧ s.rd TIME.SETNSEC.val < 10 ^ 9

theorem State.timeSet_taken {s : State} (h : s.setAllowed) :
    s.timeSet = ((s.wrFlag TIME.CTL.ALIGNED false).timeStep (Int.ofNat s.setGoal - Int.ofNat s.clk.time), true) := if_pos h

theorem State.timeSet_refused {s : State} (h : ¬ s.setAllowed) : s.timeSet = (s, false) := if_neg h

/-- The counter holds every time that can be set. -/
theorem State.setGoal_lt {s : State} (h : s.setAllowed) : s.setGoal < 2 ^ 48 * 10 ^ 21 := by
  have hhi : s.rd TIME.SETSECHI.val < 2 ^ 16 := Nat.mod_lt _ (by decide)
  have hlo : s.rd TIME.SETSECLO.val < 2 ^ 32 := Nat.mod_lt _ (by decide)
  obtain ⟨-, hnsec⟩ := h
  unfold State.setGoal
  omega

theorem State.timeSet_fields {s : State} (h : s.setAllowed) : s.timeSet.1.clk = { s.clk with time := s.setGoal } ∧
    s.timeSet.1.flag TIME.CTL.ALIGNED = false ∧ s.timeSet.1.flag TIME.HIST.STEP = true := by
  obtain ⟨hclk, hmark, hctl⟩ := (s.wrFlag TIME.CTL.ALIGNED false).timeStep_fields (Int.ofNat s.setGoal - Int.ofNat s.clk.time)
  have hlt := State.setGoal_lt h
  rw [State.timeSet_taken h]
  refine ⟨hclk.trans ?_, (State.flag_congr hctl).trans (s.flag_wrFlag_self false (by decide)), hmark⟩
  rw [State.wrFlag_clk, show Int.ofNat s.clk.time + (Int.ofNat s.setGoal - Int.ofNat s.clk.time) = (s.setGoal : Int) by
    simp only [Int.ofNat_eq_natCast]; omega, Int.emod_eq_of_lt (by omega) (by omega), Int.toNat_natCast]

/-- Settles O38: each command acts on a state that differs from `s` in AUTO at most. -/
theorem counterIsCapturedSetAndAligned : Obligations.CounterIsCapturedSetAndAligned := by
  unfold Obligations.CounterIsCapturedSetAndAligned
  intro i v s goal may hv hhost
  have hword (w : Word) : ∀ j, j ≠ TIME.CTL → (s.rwWritten TIME.CTL w 0x100).word j = s.word j := fun j hj => s.word_rwWritten_ne w _ hj
  have hframe (w : Word) : Frame [.live] s (s.rwWritten TIME.CTL w 0x100) := s.rwWritten_frame ..
  have hcommand (b : Nat) (hb : b < 32) := State.regCommand_timeCtl hv hb hhost
  have hgoal (w : Word) : (s.rwWritten TIME.CTL w 0x100).setGoal = goal := by
    simp only [State.setGoal, goal, State.rd_congr (hword w _ (show TIME.SETSECHI.val.key ≠ TIME.CTL by decide)),
      State.rd_congr (hword w _ (show TIME.SETSECLO.val.key ≠ TIME.CTL by decide)),
      State.rd_congr (hword w _ (show TIME.SETNSEC.val.key ≠ TIME.CTL by decide))]
  have hmay (w : Word) : (s.rwWritten TIME.CTL w 0x100).setAllowed ↔ may := by
    simp only [State.setAllowed, may, State.flag_congr (hword w _ (show TIME.SRVCFG.SRC.key ≠ TIME.CTL by decide)),
      State.rd_congr (hword w _ (show TIME.SETNSEC.val.key ≠ TIME.CTL by decide))]
  refine ⟨fun h1 h2 => ?cap, fun h0 h2 hyes => ?set, fun h0 h2 hno => ?refused, fun h0 h1 => ?align⟩
  case cap =>
    have hexec : exec (.timeCap i v) s = .next (s.rwWritten TIME.CTL (BitVec.ofNat 32 (v ||| 2 ^ 0)) 0x100).timeCap :=
      congrArg _ ((hcommand 0 (by decide)).trans (State.timeCtl_cap _ _ _ (bit_or_self v 0) ((bit_or_ne v (by decide)).trans h1)
        ((bit_or_ne v (by decide)).trans h2)))
    obtain ⟨hns, hlo, hhi, hnsec⟩ := (s.rwWritten TIME.CTL (BitVec.ofNat 32 (v ||| 2 ^ 0)) 0x100).timeCap_fields
    exact ⟨_, hexec, hns, hlo, hhi, hnsec, (hframe _).trans (State.timeCap_frame _)⟩
  case set =>
    have hexec : exec (.timeSet i v) s = .next (s.rwWritten TIME.CTL (BitVec.ofNat 32 (v ||| 2 ^ 1)) 0x100).timeSet.1 := by
      refine congrArg _ ((hcommand 1 (by decide)).trans ((State.timeCtl_set _ _ _ ((bit_or_ne v (by decide)).trans h0) (bit_or_self v 1)
        ((bit_or_ne v (by decide)).trans h2)).trans ?_))
      rw [State.timeSet_taken ((hmay _).mpr hyes)]
      exact if_pos rfl
    obtain ⟨hclk, haligned, hmark⟩ := State.timeSet_fields ((hmay (BitVec.ofNat 32 (v ||| 2 ^ 1))).mpr hyes)
    rw [hgoal] at hclk
    exact ⟨_, hexec, hclk, haligned, hmark, ((hframe _).weaken rfl).trans (State.timeSet_frame _)⟩
  case refused =>
    have hexec : exec (.timeSet i v) s =
        .next ((s.rwWritten TIME.CTL (BitVec.ofNat 32 (v ||| 2 ^ 1)) 0x100).accErr (ifaceNumber i) TIME.CTL .refused) := by
      refine congrArg _ ((hcommand 1 (by decide)).trans ((State.timeCtl_set _ _ _ ((bit_or_ne v (by decide)).trans h0) (bit_or_self v 1)
        ((bit_or_ne v (by decide)).trans h2)).trans ?_))
      rw [State.timeSet_refused (mt (hmay _).mp hno)]
      exact if_neg Bool.false_ne_true
    obtain ⟨-, -, -, hreported, -, herr⟩ :=
      (s.rwWritten TIME.CTL (BitVec.ofNat 32 (v ||| 2 ^ 1)) 0x100).accErr_recorded (ifaceNumber i) TIME.CTL .refused
    exact ⟨_, hexec, (herr.same .clk rfl).trans ((hframe _).same .clk rfl),
      hreported.after (hword _ _ (by decide)) (hword _ _ (by decide)), ((hframe _).weaken rfl).trans herr⟩
  case align =>
    have hexec : exec (.timeAlign i v) s = .next { s.rwWritten TIME.CTL (BitVec.ofNat 32 (v ||| 2 ^ 2)) 0x100 with
        times := { (s.rwWritten TIME.CTL (BitVec.ofNat 32 (v ||| 2 ^ 2)) 0x100).times with align := true } } :=
      congrArg _ ((hcommand 2 (by decide)).trans (State.timeCtl_align _ _ _ ((bit_or_ne v (by decide)).trans h0) ((bit_or_ne v (by decide)).trans h1)
        (bit_or_self v 2)))
    exact ⟨_, hexec, rfl, Frame.set_times ((hframe _).weaken rfl) rfl⟩

end Sys2Proof.Machine
end

section
/-!
PROOFS. What a direct write of a register does, by the masks of its fields: a command register acts alone; RW fields are written first; RWS fields go
to the open shadow first (R490; log entry 43).
-/

namespace Sys2Proof.Machine

/-- The register at `k` has the masks `rw` and `rws`, and no write-once and no sticky fields. -/
def RegMasks (k rw rws : Nat) : Prop := ∃ f e, regAt k = some (f, e) ∧ f.rw = rw ∧ f.rws = rws ∧ f.wo1 = 0 ∧ f.sq = 0

section
variable {s : State} {k mask : Nat} {v : Word} (i addr : Nat)

theorem State.regWrite_refused {rw rws : Nat} (h : RegMasks k rw rws) (hrefused : s.unitRefuses k (sideWrite 0 (s.word k) v rw) v.toNat true = true) :
    s.regWrite i k 0 addr v = s.accErr i addr .refused := by
  obtain ⟨f, e, hreg, hrw, -⟩ := h
  unfold State.regWrite
  rw [hreg]
  simp [hrw, hrefused]

theorem State.regWrite_command (h : RegMasks k 0 0) (hunit : s.unitRefuses k (sideWrite 0 (s.word k) v 0) v.toNat true = false) :
    s.regWrite i k 0 addr v = s.act i k v.toNat (s.word k) true := by
  obtain ⟨f, e, hreg, hrw, hrws, hwo1, hsq⟩ := h
  unfold State.regWrite
  rw [hreg]
  simp [hrw, hrws, hwo1, hsq, hunit]

theorem State.regWrite_rws (h : RegMasks k 0 mask) (hmask : mask ≠ 0) (hunit : s.unitRefuses k (sideWrite 0 (s.word k) v 0) v.toNat true = false) :
    s.regWrite i k 0 addr v = (s.rwsWrite i k 0 v mask).act i k v.toNat (s.word k) true := by
  obtain ⟨f, e, hreg, hrw, hrws, hwo1, hsq⟩ := h
  unfold State.regWrite
  rw [hreg]
  simp [hrw, hrws, hwo1, hsq, hunit, hmask]

theorem State.regWrite_rw (h : RegMasks k mask 0) (hmask : mask ≠ 0) (hunit : s.unitRefuses k (sideWrite 0 (s.word k) v mask) v.toNat true = false)
    (hk : k ≠ EVT.RDSEQ) (hmodes : ∀ t : State, t.setModes k (2 ^ 32 - 1) = t) :
    s.regWrite i k 0 addr v = (s.rwWritten k v mask).act i k v.toNat (s.word k) true := by
  obtain ⟨f, e, hreg, hrw, hrws, hwo1, hsq⟩ := h
  have hwrite : s.rwWrite k (sideWrite 0 (s.word k) v mask) = s.rwWritten k v mask := if_neg hk
  unfold State.regWrite
  rw [hreg]
  simp only [beq_self_eq_true, hrw, hrws, hwo1, hsq, hunit, hmask, Bool.false_eq_true, if_true, if_false, Bool.true_and, bne_self_eq_false,
    Bool.true_or]
  rw [hwrite, hmodes]

end

/-- A write of a register by a host interface that reaches it. -/
theorem State.regCommand_reached {s : State} {i : Iface} {k v : Nat} {t : State} (hk : NormalSpace k) (h : s.hostReaches i k = true)
    (hwrite : s.regWrite (ifaceNumber i) k 0 (hostKey 0 k) (BitVec.ofNat 32 v) = t) : s.regCommand i k v = t :=
  (State.regCommand_reaches hk h v).trans hwrite

end Sys2Proof.Machine
end

section
/-!
PROOFS. APLLs, output delays and the ramp generator (R348 to R351, R358 to R360, R365).
-/

namespace Sys2Proof.Machine

/-! ## APLLs (R348 to R351) -/

/-- Where the fields of clock synthesis stand. -/
theorem SYN.statusFields :
    SYN.STAT.KEEPN = ⟨0x60010, 2, 1⟩ ∧ SYN.STAT.KEEPM0 = ⟨0x60010, 0, 1⟩ ∧ SYN.STAT.KEEPM1 = ⟨0x60010, 1, 1⟩ ∧ SYN.HIST.KEEPER = ⟨0x60014, 2, 1⟩ ∧
    SYN.HIST.LOST = ⟨0x60014, 0, 1⟩ ∧ SYN.HIST.LOCKED = ⟨0x60014, 1, 1⟩ ∧ SYN.HIST.VTWARN = ⟨0x60014, 3, 1⟩ ∧ SYN.HIST = 0x60014 ∧
    GLB.TICKSTAT.COARSE = ⟨0x50, 0, 1⟩ ∧ GLB.TICKHIST.COARSE.key = GLB.TICKHIST ∧ SYN.STAT = 0x60010 := by
  and_intros <;> rfl

/-- Where the fields of an APLL and of a clock output stand. -/
theorem SYN.unitFields (x : Nat) :
    SYN.APLL_STAT.STATE x = ⟨0x60044 + x * 0x10, 29, 3⟩ ∧ SYN.APLL_STAT.VTWARN x = ⟨0x60044 + x * 0x10, 16, 1⟩ ∧
    SYN.APLL_STAT.VTUNE x = ⟨0x60044 + x * 0x10, 8, 8⟩ ∧ SYN.APLL_STAT.BAND x = ⟨0x60044 + x * 0x10, 0, 6⟩ ∧
    SYN.APLL_STAT x = 0x60044 + x * 0x10 ∧ SYN.APLL_LOSS.val x = ⟨0x60048 + x * 0x10, 0, 32⟩ ∧
    SYN.CKO_STAT.KEEPER x = ⟨0x60208 + x * 0x10, 30, 1⟩ ∧ SYN.CKO_STAT.DELNOW x = ⟨0x60208 + x * 0x10, 0, 8⟩ ∧ SYN.CKO_STAT x = 0x60208 + x * 0x10 := by
  and_intros <;> rfl

/-- The state with the synthesizers at `x`. -/
def State.withSyn (s : State) (x : Syn) : State := { s with syn := x }

@[simp] theorem State.flag_withSyn (s : State) (x : Syn) (f : Fld) : (s.withSyn x).flag f = s.flag f := State.flag_congr rfl
@[simp] theorem State.rd_withSyn (s : State) (x : Syn) (f : Fld) : (s.withSyn x).rd f = s.rd f := State.rd_congr rfl
theorem State.word_withSyn (s : State) (x : Syn) (k : Nat) : (s.withSyn x).word k = s.word k := State.word_congr rfl k
theorem State.withSyn_syn (s : State) (x : Syn) : (s.withSyn x).syn = x := rfl

/-- A relation that each step keeps holds after all of them. -/
theorem State.eachBelow_rel {R : State → State → Prop} (hrefl : ∀ s, R s s) (htrans : ∀ {s t u}, R s t → R t u → R s u) (s : State)
    {f : State → Nat → State} {n : Nat} (h : ∀ t k, k < n → R t (f t k)) : R s (s.eachBelow f n) := by
  induction n with
  | zero => exact hrefl s
  | succ n ih => exact htrans (ih fun t k hk => h t k (by omega)) (h _ n (by omega))

/-- Word `j` shows nothing of the keepers. -/
def keeperSpares (j : Nat) : Prop := j ≠ 0x60010 ∧ j ≠ 0x60014 ∧ j ≠ GLB.TICKSTAT ∧ j ≠ GLB.TICKHIST ∧ (j < 0x60208 ∨ 0x602C8 ≤ j)

/-- From `s` to `t` only words that show the keepers have changed, and a lock loss that was marked stays marked. -/
structure KeeperKept (s t : State) : Prop where
  words : ∀ j, keeperSpares j → t.word j = s.word j
  mark : s.flag SYN.HIST.LOST = true → t.flag SYN.HIST.LOST = true

theorem KeeperKept.refl (s : State) : KeeperKept s s := ⟨fun _ _ => rfl, id⟩

theorem KeeperKept.trans {s t u : State} (h : KeeperKept s t) (k : KeeperKept t u) : KeeperKept s u :=
  ⟨fun j hj => (k.words j hj).trans (h.words j hj), fun hs => k.mark (h.mark hs)⟩

theorem KeeperKept.sqf (s : State) {f : Fld} (h : ¬ keeperSpares f.key) : KeeperKept s (s.sqf f) :=
  ⟨fun _ hj => s.word_sqf_ne fun he => h (he ▸ hj), fun hs => State.flag_sqf_of_flag f rfl (by decide) hs⟩

theorem KeeperKept.wrFlag (s : State) {f : Fld} (b : Bool) (h : ¬ keeperSpares f.key) (hh : f.key ≠ SYN.HIST) : KeeperKept s (s.wrFlag f b) :=
  ⟨fun _ hj => s.word_wrFlag_ne b fun he => h (he ▸ hj), fun hs => (State.flag_congr (s.word_wrFlag_ne b (Ne.symm hh))).trans hs⟩

theorem KeeperKept.withSyn (s : State) (x : Syn) : KeeperKept s (s.withSyn x) := ⟨fun j _ => s.word_withSyn x j, fun hs => (s.flag_withSyn x _).trans hs⟩

theorem KeeperKept.keeperOn (s : State) (d : Nat) : KeeperKept s (s.keeperOn d) := by
  have hshown (f : Fld) (hf : f = SYN.STAT.KEEPM0 ∨ f = SYN.STAT.KEEPM1) :
      KeeperKept s (if s.flag f then s else (s.wrFlag f true).sqf SYN.HIST.KEEPER) := by
    split
    · exact .refl s
    · refine (KeeperKept.wrFlag s true ?_ ?_).trans (.sqf _ (by simp [keeperSpares, SYN.statusFields]))
      · rcases hf with rfl | rfl <;> simp [keeperSpares, SYN.statusFields]
      · rcases hf with rfl | rfl <;> decide
  unfold State.keeperOn
  extract_lets f t
  have hf : f = SYN.STAT.KEEPM0 ∨ f = SYN.STAT.KEEPM1 := by
    unfold f
    split
    · exact .inl rfl
    · exact .inr rfl
  have ht : KeeperKept s t := hshown f hf
  clear_value t
  split
  · refine (ht.trans (KeeperKept.withSyn t { t.syn with kept0 := true })).trans ?_
    change KeeperKept (t.withSyn { t.syn with kept0 := true }) (if (t.withSyn { t.syn with kept0 := true }).flag GLB.TICKSTAT.COARSE then
      t.withSyn { t.syn with kept0 := true } else ((t.withSyn { t.syn with kept0 := true }).wrFlag GLB.TICKSTAT.COARSE true).sqf GLB.TICKHIST.COARSE)
    generalize t.withSyn { t.syn with kept0 := true } = u
    split
    · exact .refl u
    · exact (KeeperKept.wrFlag u true (by simp [keeperSpares, GLB.TICKSTAT.COARSE]) (by decide)).trans
        (.sqf _ (by simp [keeperSpares, SYN.statusFields]))
  · refine (ht.trans (State.eachBelow_rel .refl .trans t (n := 12) fun u k hk => ?_)).trans (.withSyn _ _)
    split
    · exact .wrFlag u true (by simp only [keeperSpares, SYN.unitFields]; omega) (by simp only [SYN.unitFields, SYN.statusFields, ne_eq]; omega)
    · exact .refl u

theorem KeeperKept.keep (s : State) (x : Nat) : KeeperKept s (s.keep x) := by
  unfold State.keep
  split
  · exact .keeperOn s 0
  · split
    · exact .keeperOn s 1
    · split
      · exact .wrFlag s true (by simp [keeperSpares, SYN.statusFields]) (by decide)
      · exact .refl s

theorem State.search_eq (s : State) (x : Nat) : s.search x = (s.wr (SYN.APLL_STAT.STATE x) 1).withSyn
    { (s.wr (SYN.APLL_STAT.STATE x) 1).syn with search := Store.insert (s.wr (SYN.APLL_STAT.STATE x) 1).syn.search x (s.wr (SYN.APLL_STAT.STATE x) 1).clk.now } := rfl

/-- The loss of an APLL's lock is counted and recorded (R348). -/
def State.lossCounted (s : State) (x kind : Nat) : State := ((s.inc (SYN.APLL_LOSS.val x)).sqf SYN.HIST.LOST).report 0x0601 x kind

theorem State.apllLoss_eq (s : State) (x kind : Nat) : s.apllLoss x kind = ((s.lossCounted x kind).search x).keep x := rfl

/-- A lock loss counts, is reported and starts the band search. -/
def ApllLost (x : Nat) (s t : State) : Prop :=
  t.apll x = 1 ∧ t.rd (SYN.APLL_LOSS.val x) = (s.rd (SYN.APLL_LOSS.val x) + 1) % 2 ^ 32 ∧ t.flag SYN.HIST.LOST = true ∧ Reported 0x0601 s t

theorem State.lossCounted_fields (s : State) {x : Nat} (kind : Nat) (hx : x < 4) :
    (s.lossCounted x kind).rd (SYN.APLL_LOSS.val x) = (s.rd (SYN.APLL_LOSS.val x) + 1) % 2 ^ 32 ∧ (s.lossCounted x kind).flag SYN.HIST.LOST = true ∧
      Reported 0x0601 s (s.lossCounted x kind) := by
  refine ⟨?_, ?_, Reported.report_of_kept _ _ (by decide) fun j _ _ => ?_⟩
  · rw [State.lossCounted, State.rd_report_clear _ _ _ (by simp only [reportSpares, SYN.unitFields]; omega),
      State.rd_sqf_clear _ (by simp only [SYN.unitFields, SYN.statusFields]; omega), State.rd_inc_same _ (by simp only [SYN.unitFields]; omega)]
    simp only [SYN.unitFields]
  · rw [State.lossCounted, State.flag_report_clear _ _ _ (by simp only [reportSpares, SYN.statusFields]; omega), State.flag_sqf_self _ (by decide)]
  · rw [State.word_sqf_ne _ (by simp only [SYN.statusFields]; omega), State.word_inc_ne _ (by simp only [SYN.unitFields]; omega)]

theorem State.apllLoss_lost (s : State) {x : Nat} (kind : Nat) (hx : x < 4) : ApllLost x s (s.apllLoss x kind) := by
  obtain ⟨hcount, hmark, hreported⟩ := s.lossCounted_fields kind hx
  rw [State.apllLoss_eq]
  generalize s.lossCounted x kind = u at *
  have hsearch : (u.search x).apll x = 1 := by
    rw [State.apll, State.search_eq, State.rd_withSyn, State.rd_wr_self _ (by simp only [SYN.unitFields]; omega)]
  have hword {j : Nat} (hj : j ≠ SYN.APLL_STAT x) : (u.search x).word j = u.word j := by
    rw [State.search_eq, State.word_withSyn, State.word_wr_ne _ _ hj]
  have hkept := KeeperKept.keep (u.search x) x
  refine ⟨(State.rd_congr (hkept.words _ ?_)).trans hsearch, ?_, hkept.mark ((State.flag_congr (hword ?_)).trans hmark), ?_⟩
  · simp only [keeperSpares, SYN.unitFields, GLB.TICKSTAT, GLB.TICKHIST]; omega
  · rw [← hcount]
    refine State.rd_congr ((hkept.words _ ?_).trans (hword ?_))
    · simp only [keeperSpares, SYN.unitFields, GLB.TICKSTAT, GLB.TICKHIST]; omega
    · simp only [SYN.unitFields]; omega
  · simp only [SYN.unitFields, SYN.statusFields]; omega
  · refine hreported.of_kept (by decide) fun j hlo hhi => (hkept.words _ ?_).trans (hword ?_)
    · simp only [keeperSpares, GLB.TICKSTAT, GLB.TICKHIST]; omega
    · simp only [SYN.unitFields]; omega

theorem exec_apllLost {s : State} {x : Nat} (kind : Nat) (hx : x < 4) (hst : s.apll x = 3) (h0 : x ≠ 0) :
    exec (.apllLost x kind) s = .next (s.apllLoss x (kind % 2)) :=
  congrArg _ ((if_pos ⟨hx, hst⟩).trans (if_neg h0))

theorem SYN.apllCtl_masks {x : Nat} (hx : x < 4) : RegMasks (SYN.APLL_CTL x) 0 0 := by
  interval_cases x <;> exact ⟨_, _, rfl, rfl, rfl, rfl, rfl⟩

/-- RELOCK of APLL-C is refused (R349). -/
theorem State.unitRefuses_apllCtl (s : State) (w : Word) {x : Nat} (hx : x < 4) :
    s.unitRefuses (SYN.APLL_CTL x) w (BitVec.ofNat 32 1).toNat true = decide (x = 0) := by
  interval_cases x <;> rfl

theorem State.act_apllCtl (s : State) (i : Nat) (old : Word) {x : Nat} (hx : x < 4) :
    s.act i (SYN.APLL_CTL x) (BitVec.ofNat 32 1).toNat old true = s.apllRelock x := by
  have hfirst : firstBelow (fun y => SYN.APLL_CTL x == SYN.APLL_CTL y) 4 = some x := by interval_cases x <;> rfl
  unfold State.act
  simp only [show SYN.APLL_CTL x / 0x10000 = 0x06 by unfold SYN.APLL_CTL; omega]
  rw [if_neg (by unfold SYN.APLL_CTL SYN.RAMPCTL; omega), hfirst]
  rfl

/-- A write of RELOCK. -/
theorem State.regWrite_apllCtl (s : State) (i addr : Nat) {x : Nat} (hx : x < 4) : s.regWrite i (SYN.APLL_CTL x) 0 addr (BitVec.ofNat 32 1) =
    if x = 0 then s.accErr i addr .refused else s.apllRelock x := by
  split
  · next h => exact State.regWrite_refused i addr (SYN.apllCtl_masks hx) ((s.unitRefuses_apllCtl _ hx).trans (decide_eq_true h))
  · next h =>
    rw [State.regWrite_command i addr (SYN.apllCtl_masks hx) ((s.unitRefuses_apllCtl _ hx).trans (decide_eq_false h)), State.act_apllCtl _ _ _ hx]

theorem exec_apllRelock {s : State} {i : Iface} {x : Nat} (hx : x < 4) (h : s.hostReaches i (SYN.APLL_CTL x) = true) :
    exec (.apllRelock i x) s =
      .next (if x = 0 then s.accErr (ifaceNumber i) (hostKey 0 (SYN.APLL_CTL x)) .refused else s.apllRelock x) := by
  have hcommand : exec (.apllRelock i x) s = .next (s.regCommand i (SYN.APLL_CTL x) 1) := congrArg _ (if_pos hx)
  exact hcommand.trans (congrArg _ (State.regCommand_reached (by unfold NormalSpace SYN.APLL_CTL; omega) h (State.regWrite_apllCtl _ _ _ hx)))

/-- A planned loss of lock, of a kind that the device picks. -/
theorem State.apllRelock_eq (s : State) (x : Nat) : ∃ (u : State) (kind : Nat), (∀ j, u.word j = s.word j) ∧ s.apllRelock x = u.apllLoss x kind :=
  ⟨(s.freePick 2).2, (s.freePick 2).1, fun _ => rfl, rfl⟩

theorem ApllLost.of_like {x : Nat} {s u t : State} (h : ApllLost x u t) (hu : ∀ j, u.word j = s.word j) : ApllLost x s t := by
  obtain ⟨hst, hcount, hmark, hreported⟩ := h
  exact ⟨hst, hcount.trans (by rw [State.rd_congr (hu _)]), hmark, hreported.after (hu _) (hu _)⟩

theorem exec_bandSearchDone {s : State} {x : Nat} (band : Nat) (hx : x < 4) (hst : s.apll x = 1) : exec (.bandSearchDone x band none) s =
    .next ((s.wr (SYN.APLL_STAT.BAND x) band).wr (SYN.APLL_STAT.STATE x) 2) := congrArg _ (if_pos ⟨hx, hst⟩)

theorem exec_apllLocked {s : State} {x : Nat} (hx : x < 4) (hst : s.apll x = 2) : ∃ d, exec (.apllLocked x) s =
    .next (((s.wr (SYN.APLL_STAT.STATE x) 3).sqf SYN.HIST.LOCKED).report 0x0602 x d) := ⟨_, congrArg _ (if_pos ⟨hx, hst⟩)⟩

/-- The tuning voltage with its warning, as VTWARN shows it (R350). -/
def State.vtuneShown (s : State) (x code : Nat) (out : Bool) : State := (s.wr (SYN.APLL_STAT.VTUNE x) code).wrFlag (SYN.APLL_STAT.VTWARN x) out

theorem State.vtune_eq (s : State) (x code : Nat) {out : Prop} [Decidable out] (h : out ↔ code % 256 * 10 < 256 ∨ 256 * 9 < code % 256 * 10) :
    s.vtune x code = if out ∧ s.flag (SYN.APLL_STAT.VTWARN x) = false then
      ((s.vtuneShown x code (decide out)).sqf SYN.HIST.VTWARN).report 0x0603 x (code % 256) else s.vtuneShown x code (decide out) := by
  have hout : (decide (code % 256 * 10 < 256) || decide (256 * 9 < code % 256 * 10)) = decide out := by
    rw [← Bool.decide_or]; exact decide_eq_decide.mpr h.symm
  unfold State.vtune
  rw [hout]
  refine if_congr ?_ rfl rfl
  rw [Bool.and_eq_true, decide_eq_true_iff, Bool.not_eq_true']

theorem State.vtuneShown_rd (s : State) {x : Nat} (code : Nat) (out : Bool) :
    (s.vtuneShown x code out).rd (SYN.APLL_STAT.VTUNE x) = code % 256 ∧ (s.vtuneShown x code out).flag (SYN.APLL_STAT.VTWARN x) = out := by
  constructor
  · rw [State.vtuneShown, State.rd_wrFlag_clear _ _ (by simp only [Fld.clear, SYN.unitFields]; omega),
      State.rd_wr_same _ _ _ (by simp only [SYN.unitFields]; omega)]
    rfl
  · rw [State.vtuneShown, State.flag_wrFlag_self _ _ (by simp only [SYN.unitFields]; omega)]

theorem State.vtuneShown_word (s : State) (x code : Nat) (out : Bool) {j : Nat} (h : j ≠ SYN.APLL_STAT x) :
    (s.vtuneShown x code out).word j = s.word j := by
  rw [State.vtuneShown, State.word_wrFlag_ne _ _ h, State.word_wr_ne _ _ h]

theorem exec_vtuneMeasure {s : State} {x : Nat} (code : Nat) (hx : x < 4) (hst : s.apll x ≠ 0) : exec (.vtuneMeasure x code) s = .next (s.vtune x code) :=
  congrArg _ (if_pos ⟨hx, hst⟩)

theorem exec_ckoDelayStep {s : State} {j : Nat} (hj : j < 12) (hrun : s.flag (SYN.CKO_STAT.RUNNING j) = true) : exec (.ckoDelayStep j) s =
    .next (if s.rd (SYN.CKO_STAT.DELNOW j) < s.rd (SYN.CKO_CFG.DELAY j) then s.wr (SYN.CKO_STAT.DELNOW j) (s.rd (SYN.CKO_STAT.DELNOW j) + 1)
      else if s.rd (SYN.CKO_CFG.DELAY j) < s.rd (SYN.CKO_STAT.DELNOW j) then s.wr (SYN.CKO_STAT.DELNOW j) (s.rd (SYN.CKO_STAT.DELNOW j) - 1)
      else s) := congrArg _ (if_pos ⟨hj, hrun⟩)

/-! ## The ramp generator (R358 to R360) -/

/-- The registers of the ramp generator. -/
theorem SYN.rampFields :
    SYN.RAMPSTAT.RUNNING = ⟨0x60088, 31, 1⟩ ∧ SYN.RAMPSTAT.DETACHED = ⟨0x60088, 30, 1⟩ ∧ SYN.RAMPSTAT.ARMED = ⟨0x60088, 29, 1⟩ ∧
    SYN.RAMPSTAT.LATE = ⟨0x60088, 28, 1⟩ ∧ SYN.RAMPSTAT.SEG = ⟨0x60088, 0, 4⟩ ∧ SYN.RAMPPPT.val = ⟨0x6008C, 0, 32⟩ ∧
    SYN.RAMPPHASE.val = ⟨0x60090, 0, 32⟩ ∧ REF.DCOPPT.val = ⟨0x50048, 0, 32⟩ ∧ SYN.STAT.NETCLAMP = ⟨0x60010, 3, 1⟩ ∧
    SYN.HIST.NETCLAMP = ⟨0x60014, 4, 1⟩ ∧ GLB.TICKSTAT.CLAMPED = ⟨0x50, 2, 1⟩ ∧ GLB.TICKHIST.CLAMPED = ⟨0x54, 1, 1⟩ := by
  and_intros <;> rfl

theorem SYN.rampctl_masks : RegMasks SYN.RAMPCTL 0 52 := ⟨_, _, rfl, rfl, rfl, rfl, rfl⟩

/-- The state in which a write of RAMPCTL acts: its RWS fields are in the open shadow, or refused (log entry 43). -/
def State.rampWritten (s : State) (i : Iface) (v : Nat) : State := s.rwsWrite (ifaceNumber i) SYN.RAMPCTL 0 (BitVec.ofNat 32 v) 52

theorem State.rampWritten_spares {s : State} {i : Iface} (v : Nat) (h : s.hostReaches i SYN.RAMPCTL = true) :
    (∀ j, commandSpares j → (s.rampWritten i v).word j = s.word j) ∧ Frame [.live, .shadow, .ckpt, .evt, .out] s (s.rampWritten i v) :=
  State.rwsWrite_spares (ifaceNumber i) 52 (State.standby_of_reaches h (by decide)) rfl fun _ =>
    State.setModes_unwatched _ _ (by decide) (by decide) (by decide) (by decide)

/-- What GO and STOP find: the ramp, and the start that RAMPAT programs. -/
theorem State.rampWritten_kept {s : State} {i : Iface} (v : Nat) (h : s.hostReaches i SYN.RAMPCTL = true) :
    Frame [.live, .shadow, .ckpt, .evt, .out] s (s.rampWritten i v) ∧ (s.rampWritten i v).syn = s.syn ∧
      (s.rampWritten i v).rd SYN.RAMPAT.val = s.rd SYN.RAMPAT.val ∧
      ((s.rampWritten i v).rd SYN.RAMPCTL.START = 1 ∧ futureTick ((s.rampWritten i v).rd SYN.RAMPAT.val) (s.rampWritten i v).tick = true ↔
        s.rd SYN.RAMPCTL.START = 1 ∧ futureTick (s.rd SYN.RAMPAT.val) s.tick = true) := by
  obtain ⟨hword, hframe⟩ := State.rampWritten_spares v h
  have htick : (s.rampWritten i v).tick = s.tick := State.rd_congr (hword _ (.inl rfl))
  have hat : (s.rampWritten i v).rd SYN.RAMPAT.val = s.rd SYN.RAMPAT.val := State.rd_congr (hword _ (.inr (by decide)))
  have hstart : (s.rampWritten i v).rd SYN.RAMPCTL.START = s.rd SYN.RAMPCTL.START := State.rd_congr (hword _ (.inr (by decide)))
  refine ⟨hframe, hframe.same .syn rfl, hat, ?_⟩
  rw [htick, hat, hstart]

theorem State.regCommand_rampctl {s : State} {i : Iface} {v : Nat} (hv : v < 2 ^ 32) (h : s.hostReaches i SYN.RAMPCTL = true) :
    s.regCommand i SYN.RAMPCTL v = (s.rampWritten i v).act (ifaceNumber i) SYN.RAMPCTL v (s.word SYN.RAMPCTL) true := by
  refine State.regCommand_reached (by unfold NormalSpace SYN.RAMPCTL; omega) h ((State.regWrite_rws _ _ SYN.rampctl_masks (by decide) rfl).trans ?_)
  rw [BitVec.toNat_ofNat, Nat.mod_eq_of_lt hv, State.rampWritten]

theorem State.act_rampctl (s : State) (i v : Nat) (old : Word) : s.act i SYN.RAMPCTL v old true =
    if bit v 1 then (if bit v 0 then s.rampGo else s).rampStop else if bit v 0 then s.rampGo else s := rfl

theorem exec_rampGo {s : State} {i : Iface} {v : Nat} (hv : v < 2 ^ 32) (h : s.hostReaches i SYN.RAMPCTL = true) (hstop : v.testBit 1 = false) :
    exec (.rampGo i v) s = .next (s.rampWritten i (v ||| 1)).rampGo := by
  refine congrArg _ ((State.regCommand_rampctl (or_lt_word hv (b := 0) (by decide)) h).trans ?_)
  rw [State.act_rampctl, if_neg (by rw [bit_or_ne (b := 0) v (by decide), hstop]; decide), if_pos (bit_or_self v 0)]
  rfl

theorem exec_rampStop {s : State} {i : Iface} {v : Nat} (hv : v < 2 ^ 32) (h : s.hostReaches i SYN.RAMPCTL = true) :
    exec (.rampStop i v) s = .next (s.rampWritten i (clearBit v 0 ||| 2)).rampStop := by
  refine congrArg _ ((State.regCommand_rampctl (or_lt_word (clearBit_lt 0 hv) (b := 1) (by decide)) h).trans ?_)
  obtain ⟨h0, h1⟩ := bit_clearBit_zero v
  rw [show (2 : Nat) ^ 1 = 2 by decide]
  rw [State.act_rampctl, if_pos h1, if_neg (by rw [h0]; decide)]

/-- The ramp as a command leaves it, with ARMED and LATE. -/
def State.rampShown (s : State) (armed late : Bool) (r : Ramp) : State :=
  let s := (s.wrFlag SYN.RAMPSTAT.ARMED armed).wrFlag SYN.RAMPSTAT.LATE late
  s.withSyn { s.syn with ramp := r }

theorem State.rampShown_fields (s : State) (armed late : Bool) (r : Ramp) : (s.rampShown armed late r).syn = { s.syn with ramp := r } ∧
    (s.rampShown armed late r).flag SYN.RAMPSTAT.ARMED = armed ∧ (s.rampShown armed late r).flag SYN.RAMPSTAT.LATE = late := by
  refine ⟨?_, ?_, ?_⟩
  · rw [State.rampShown, State.withSyn_syn, State.wrFlag_syn, State.wrFlag_syn]
  · rw [State.rampShown, State.flag_withSyn, State.flag_wrFlag_clear _ _ (by simp only [Fld.clear, SYN.rampFields]; omega), State.flag_wrFlag_self _ _ (by decide)]
  · rw [State.rampShown, State.flag_withSyn, State.flag_wrFlag_self _ _ (by decide)]

theorem State.rampGo_armed {s : State} (hstart : s.rd SYN.RAMPCTL.START = 1) (hfuture : futureTick (s.rd SYN.RAMPAT.val) s.tick = true) :
    s.rampGo = s.rampShown true false { s.syn.ramp with at_ := some (s.rd SYN.RAMPAT.val), go := false } := by
  have heq : s.rampGo = s.rampShown true false
      { ((s.wrFlag SYN.RAMPSTAT.ARMED true).wrFlag SYN.RAMPSTAT.LATE false).syn.ramp with at_ := some (s.rd SYN.RAMPAT.val), go := false } :=
    (if_pos hstart).trans (if_pos hfuture)
  rw [heq, State.wrFlag_syn, State.wrFlag_syn]

theorem State.rampGo_started {s : State} (h : ¬ (s.rd SYN.RAMPCTL.START = 1 ∧ futureTick (s.rd SYN.RAMPAT.val) s.tick = true)) :
    s.rampGo = s.rampShown false (decide (s.rd SYN.RAMPCTL.START = 1)) { s.syn.ramp with at_ := none, go := true } := by
  have heq : s.rampGo = s.rampShown false (decide (s.rd SYN.RAMPCTL.START = 1))
      { ((s.wrFlag SYN.RAMPSTAT.ARMED false).wrFlag SYN.RAMPSTAT.LATE (decide (s.rd SYN.RAMPCTL.START = 1))).syn.ramp with at_ := none, go := true } := by
    by_cases hstart : s.rd SYN.RAMPCTL.START = 1
    · rw [decide_eq_true hstart]
      exact (if_pos hstart).trans (if_neg fun hf => h ⟨hstart, hf⟩)
    · rw [decide_eq_false hstart]
      exact if_neg hstart
  rw [heq, State.wrFlag_syn, State.wrFlag_syn]

theorem State.rampStop_fields (s : State) : s.rampStop.syn = { s.syn with ramp := { s.syn.ramp with stop := true, go := false, at_ := none } } ∧
    s.rampStop.flag SYN.RAMPSTAT.ARMED = false := by
  have heq : s.rampStop = (s.wrFlag SYN.RAMPSTAT.ARMED false).withSyn { (s.wrFlag SYN.RAMPSTAT.ARMED false).syn with
      ramp := { (s.wrFlag SYN.RAMPSTAT.ARMED false).syn.ramp with stop := true, go := false, at_ := none } } := rfl
  rw [heq, State.withSyn_syn, State.flag_withSyn, State.wrFlag_syn]
  exact ⟨rfl, s.flag_wrFlag_self _ (by decide)⟩

/-- Entering a segment may detach the ramp from the reference first (R361). -/
def State.rampDetached (s : State) : State :=
  if s.flag SYN.RAMPCTL.DETACH && !s.flag SYN.RAMPSTAT.DETACHED then
    let s := (s.wrFlag SYN.RAMPSTAT.DETACHED true).wr SYN.RAMPPHASE.val 0
    s.withSyn { s.syn with ramp := { s.syn.ramp with phase := 0 } }
  else s

theorem State.rampDetached_ppt (s : State) : s.rampDetached.rampPpt = s.rampPpt := by
  unfold State.rampDetached
  split
  · refine State.rdS_of_rd ((State.rd_withSyn _ _ _).trans ?_)
    rw [State.rd_wr_clear _ _ (by simp only [Fld.clear, SYN.rampFields]; omega), State.rd_wrFlag_clear _ _ (by simp only [Fld.clear, SYN.rampFields]; omega)]
  · rfl

/-- The ramp in a segment: target, duration and LAST as its registers hold them then (R359). -/
def State.segmentEntered (s : State) (k : Nat) (t : Int) (d : Nat) (last : Bool) : State :=
  let s := (s.wr SYN.RAMPSTAT.SEG k).wrFlag SYN.RAMPSTAT.RUNNING (!(d == 0 && last))
  s.withSyn { s.syn with ramp := { s.syn.ramp with v0 := s.rampPpt, i := 0, tgt := t, dur := d, last := last, due := none } }

theorem State.enterSegment_long {s : State} {k : Nat} (n : Nat) (h : s.rd (SYN.SEG_DUR.val k) ≠ 0) : s.enterSegment k (n + 1) =
    s.rampDetached.segmentEntered k (s.rdS (SYN.SEG_TGT.val k)) (s.rd (SYN.SEG_DUR.val k)) (s.flag (SYN.SEG_DUR.LAST k) || k == 15) := if_neg h

/-- The state in which a segment has been entered, and what steering and the end of a detachment leave of it. -/
structure SegmentEntered (k : Nat) (ppt goal : Int) (d : Nat) (isLast : Bool) (s : State) : Prop where
  segment : s.rd SYN.RAMPSTAT.SEG = k
  running : s.flag SYN.RAMPSTAT.RUNNING = true
  value : s.rampPpt = ppt
  start : s.syn.ramp.v0 = ppt
  ticks : s.syn.ramp.i = 0
  target : s.syn.ramp.tgt = goal
  duration : s.syn.ramp.dur = d
  last : s.syn.ramp.last = isLast
  due : s.syn.ramp.due = none

theorem State.segmentEntered_entered (s : State) {k : Nat} (t : Int) {d : Nat} (last : Bool) (hk : k < 16) (hd : d ≠ 0) :
    SegmentEntered k s.rampPpt t d last (s.segmentEntered k t d last) := by
  have hrun : (!(d == 0 && last)) = true := by simp [hd]
  unfold State.segmentEntered
  rw [hrun]
  have hseg : ((s.wr SYN.RAMPSTAT.SEG k).wrFlag SYN.RAMPSTAT.RUNNING true).rd SYN.RAMPSTAT.SEG = k := by
    rw [State.rd_wrFlag_clear _ _ (by simp only [Fld.clear, SYN.rampFields]; omega), State.rd_wr_self _ ⟨by decide, hk⟩]
  have hrunning : ((s.wr SYN.RAMPSTAT.SEG k).wrFlag SYN.RAMPSTAT.RUNNING true).flag SYN.RAMPSTAT.RUNNING = true := State.flag_wrFlag_self _ _ (by decide)
  have hppt : ((s.wr SYN.RAMPSTAT.SEG k).wrFlag SYN.RAMPSTAT.RUNNING true).rampPpt = s.rampPpt := State.rdS_of_rd (by
    rw [State.rd_wrFlag_clear _ _ (by simp only [Fld.clear, SYN.rampFields]; omega), State.rd_wr_clear _ _ (by simp only [Fld.clear, SYN.rampFields]; omega)])
  generalize (s.wr SYN.RAMPSTAT.SEG k).wrFlag SYN.RAMPSTAT.RUNNING true = u at *
  dsimp only
  rw [hppt]
  exact ⟨(u.rd_withSyn _ _).trans hseg, (u.flag_withSyn _ _).trans hrunning, (State.rdS_of_rd (u.rd_withSyn _ _)).trans hppt, rfl, rfl, rfl, rfl, rfl, rfl⟩

theorem State.endDetach_running {s : State} (h : s.flag SYN.RAMPSTAT.RUNNING = true) : s.endDetach = s := by
  have hno : s.rampAttach = (s, false) := if_neg (by simp [h])
  unfold State.endDetach
  rw [hno]
  rfl

/-- DCOPPT with its clamp mark (R347). -/
def State.dcoShown (s : State) (c y : Int) : State :=
  let was := s.flag GLB.TICKSTAT.CLAMPED
  let s := (s.wrS REF.DCOPPT.val c).wrFlag GLB.TICKSTAT.CLAMPED (c != y)
  if c ≠ y ∧ ¬ was then s.sqf GLB.TICKHIST.CLAMPED else s

theorem State.steer_eq (s : State) : ∃ c y, s.steer = ((s.dcoShown c y).netClamp c).ncsSteer c ((s.dcoShown c y).yNet c) := ⟨_, _, rfl⟩

/-- Steering writes DCOPPT, the clamp marks and the synthesizers' words. -/
theorem State.dcoShown_word (s : State) (c y : Int) {j : Nat} (h : j = SYN.RAMPSTAT ∨ j = SYN.RAMPPPT) : (s.dcoShown c y).word j = s.word j := by
  have hd : j ≠ REF.DCOPPT.val.key := by rcases h with rfl | rfl <;> decide
  have hs : j ≠ GLB.TICKSTAT.CLAMPED.key := by rcases h with rfl | rfl <;> decide
  have hh : j ≠ GLB.TICKHIST.CLAMPED.key := by rcases h with rfl | rfl <;> decide
  unfold State.dcoShown
  dsimp only
  split
  · rw [State.word_sqf_ne _ hh, State.word_wrFlag_ne _ _ hs, State.wrS, State.word_wr_ne _ _ hd]
  · rw [State.word_wrFlag_ne _ _ hs, State.wrS, State.word_wr_ne _ _ hd]

theorem State.netClamp_word (s : State) (y : Int) {j : Nat} (h : j = SYN.RAMPSTAT ∨ j = SYN.RAMPPPT) : (s.netClamp y).word j = s.word j := by
  have hs : j ≠ SYN.STAT.NETCLAMP.key := by rcases h with rfl | rfl <;> decide
  have hh : j ≠ SYN.HIST.NETCLAMP.key := by rcases h with rfl | rfl <;> decide
  have hr : reportKey j = false := by rcases h with rfl | rfl <;> decide
  unfold State.netClamp
  dsimp only
  split
  · rw [State.report_word _ _ _ _ hr (by decide), State.word_sqf_ne _ hh, State.word_wrFlag_ne _ _ hs]
  · rw [State.word_wrFlag_ne _ _ hs]

theorem State.dcoShown_syn (s : State) (c y : Int) : (s.dcoShown c y).syn = s.syn := by
  unfold State.dcoShown
  dsimp only
  split
  · rw [State.sqf_syn, State.wrFlag_syn, State.wrS_syn]
  · rw [State.wrFlag_syn, State.wrS_syn]

theorem State.ncsSteer_ramp (s : State) (y yn : Int) : (s.ncsSteer y yn).syn.ramp = s.syn.ramp := rfl

theorem State.steer_kept (s : State) : (∀ j, j = SYN.RAMPSTAT ∨ j = SYN.RAMPPPT → s.steer.word j = s.word j) ∧ s.steer.syn.ramp = s.syn.ramp := by
  obtain ⟨c, y, heq⟩ := s.steer_eq
  rw [heq]
  have hword : ∀ j, j = SYN.RAMPSTAT ∨ j = SYN.RAMPPPT → ((s.dcoShown c y).netClamp c).word j = s.word j := fun j hj =>
    (State.netClamp_word _ _ hj).trans (State.dcoShown_word _ _ _ hj)
  have hsyn : ((s.dcoShown c y).netClamp c).syn = s.syn := ((State.netClamp_frame _ _).same .syn rfl).trans (s.dcoShown_syn c y)
  generalize (s.dcoShown c y).netClamp c = u at *
  exact ⟨fun j hj => (State.word_congr rfl j).trans (hword j hj), by rw [State.ncsSteer_ramp, hsyn]⟩

theorem SegmentEntered.steer {k : Nat} {ppt t : Int} {d : Nat} {last : Bool} {s : State} (h : SegmentEntered k ppt t d last s) :
    SegmentEntered k ppt t d last s.steer := by
  obtain ⟨hword, hramp⟩ := s.steer_kept
  have hstat : s.steer.word SYN.RAMPSTAT = s.word SYN.RAMPSTAT := hword _ (.inl rfl)
  constructor
  · exact (State.rd_congr hstat).trans h.segment
  · exact (State.flag_congr hstat).trans h.running
  · exact (State.rdS_of_rd (State.rd_congr (hword SYN.RAMPPPT (.inr rfl)))).trans h.value
  all_goals rw [hramp]
  · exact h.start
  · exact h.ticks
  · exact h.target
  · exact h.duration
  · exact h.last
  · exact h.due

theorem exec_rampSegmentEnter {s : State} {k : Nat} (hk : k < 16) (hdue : s.syn.ramp.due = some k) (hdur : s.rd (SYN.SEG_DUR.val k) ≠ 0) :
    ∃ t, exec .rampSegmentEnter s = .next t ∧ SegmentEntered k s.rampPpt (s.rdS (SYN.SEG_TGT.val k)) (s.rd (SYN.SEG_DUR.val k))
      (s.flag (SYN.SEG_DUR.LAST k) || k == 15) t := by
  have henter : s.enterDue = s.rampDetached.segmentEntered k (s.rdS (SYN.SEG_TGT.val k)) (s.rd (SYN.SEG_DUR.val k))
      (s.flag (SYN.SEG_DUR.LAST k) || k == 15) := by
    unfold State.enterDue
    rw [hdue]
    exact State.enterSegment_long 15 hdur
  have hentered := s.rampDetached.segmentEntered_entered (s.rdS (SYN.SEG_TGT.val k)) (s.flag (SYN.SEG_DUR.LAST k) || k == 15) hk hdur
  rw [s.rampDetached_ppt, ← henter] at hentered
  refine ⟨s.enterDue.steer, ?_, hentered.steer⟩
  show execRampSegmentEnter s = _
  unfold execRampSegmentEnter
  rw [hdue]
  show Host.Outcome.next s.enterDue.endDetach.steer = _
  rw [State.endDetach_running hentered.running]

/-! ## The obligation -/

/-- Settles O36: the loss of lock, the commands of RAMPCTL and a segment's entry each have their words written out. -/
theorem apllsAndRampsMove : Obligations.ApllsAndRampsMove := by
  unfold Obligations.ApllsAndRampsMove
  refine ⟨?apll, ?ramp⟩
  case apll =>
    intro i x band kind code j s lost out hx
    refine ⟨fun hst h0 => ?lost, fun hhost h0 => ?relock, fun hhost h0 => ?refused, fun hst => ?search, fun hst => ?locked, fun hst => ?vtune,
      fun hj hrun => ?delay⟩
    case lost => exact ⟨_, exec_apllLost kind hx hst h0, s.apllLoss_lost _ hx, s.apllLoss_frame _ _⟩
    case relock =>
      obtain ⟨u, kind, hu, heq⟩ := s.apllRelock_eq x
      exact ⟨_, (exec_apllRelock hx hhost).trans (by rw [if_neg h0]), heq ▸ (u.apllLoss_lost kind hx).of_like hu, s.apllRelock_frame x⟩
    case refused =>
      obtain ⟨-, -, -, hreported, hquiet, hframe⟩ := s.accErr_recorded (ifaceNumber i) (hostKey 0 (SYN.APLL_CTL x)) .refused
      refine ⟨_, (exec_apllRelock hx hhost).trans (by rw [if_pos h0]), hreported, State.rd_congr (s.accErr_word _ _ _ ?_), hframe⟩
      simp only [commandSpares, SYN.unitFields]
      omega
    case search =>
      refine ⟨_, exec_bandSearchDone band hx hst, ?_, ?_, fun k hk => ?_, (State.wr_frame ..).trans (State.wr_frame ..)⟩
      · exact State.rd_wr_self _ (by simp only [SYN.unitFields]; omega)
      · rw [State.rd_wr_clear _ _ (by simp only [Fld.clear, SYN.unitFields]; omega), State.rd_wr_same _ _ _ (by simp only [SYN.unitFields]; omega)]
        rfl
      · rw [State.word_wr_ne _ _ hk, State.word_wr_ne _ _ hk]
    case locked =>
      obtain ⟨d, hexec⟩ := exec_apllLocked hx hst
      refine ⟨_, hexec, ?_, ?_, Reported.report_of_kept _ _ (by decide) fun k _ _ => ?_, fun k hk hh hr => ?_, execApllLocked_frame x s _ hexec⟩
      · rw [State.apll, State.rd_report_clear _ _ _ (by simp only [reportSpares, SYN.unitFields]; omega),
          State.rd_sqf_clear _ (by simp only [SYN.unitFields, SYN.statusFields]; omega), State.rd_wr_self _ (by simp only [SYN.unitFields]; omega)]
      · rw [State.flag_report_clear _ _ _ (by simp only [reportSpares, SYN.statusFields]; omega), State.flag_sqf_self _ (by decide)]
      · rw [State.word_sqf_ne _ (by simp only [SYN.statusFields]; omega), State.word_wr_ne _ _ (by simp only [SYN.unitFields]; omega)]
      · rw [State.report_word _ _ _ _ hr (by decide), State.word_sqf_ne _ hh, State.word_wr_ne _ _ hk]
    case vtune =>
      have heq := s.vtune_eq x code (out := out) Iff.rfl
      obtain ⟨hcode, hwarn⟩ := s.vtuneShown_rd (x := x) code (decide out)
      have hword := fun k => s.vtuneShown_word x code (decide out) (j := k)
      refine ⟨_, exec_vtuneMeasure code hx hst, ?_, ?_, fun hout hwas => ?_, fun hin k hk => ?_, s.vtune_frame x code⟩ <;> rw [heq]
      · split
        · rw [State.rd_report_clear _ _ _ (by simp only [reportSpares, SYN.unitFields]; omega),
            State.rd_sqf_clear _ (by simp only [SYN.unitFields, SYN.statusFields]; omega), hcode]
        · exact hcode
      · refine Iff.trans (b := (s.vtuneShown x code (decide out)).flag (SYN.APLL_STAT.VTWARN x) = true) ?_ (by rw [hwarn, decide_eq_true_iff])
        split
        · rw [State.flag_report_clear _ _ _ (by simp only [reportSpares, SYN.unitFields]; omega),
            State.flag_sqf_clear _ (by simp only [SYN.unitFields, SYN.statusFields]; omega)]
        · rfl
      · rw [if_pos ⟨hout, hwas⟩]
        refine Reported.report_of_kept _ _ (by decide) fun k _ _ => ?_
        rw [State.word_sqf_ne _ (by simp only [SYN.statusFields]; omega), hword _ (by simp only [SYN.unitFields]; omega)]
      · rw [if_neg fun h => hin h.1, hword _ hk]
    case delay =>
      have hfits : (SYN.CKO_STAT.DELNOW j).lo + (SYN.CKO_STAT.DELNOW j).width ≤ 32 := by simp only [SYN.unitFields]; omega
      have hnow : s.rd (SYN.CKO_STAT.DELNOW j) < 2 ^ 8 := State.rd_lt ..
      have hgoal : s.rd (SYN.CKO_CFG.DELAY j) < 2 ^ 8 := State.rd_lt ..
      refine ⟨_, exec_ckoDelayStep hj hrun, ?_, fun k hk => ?_, execCkoDelayStep_frame j s _ (exec_ckoDelayStep hj hrun)⟩
      · dsimp only
        split
        · exact State.rd_wr_self _ ⟨hfits, show _ < 2 ^ 8 by omega⟩
        · split
          · exact State.rd_wr_self _ ⟨hfits, show _ < 2 ^ 8 by omega⟩
          · rfl
      · split
        · exact s.word_wr_ne _ hk
        · split
          · exact s.word_wr_ne _ hk
          · rfl
  case ramp =>
    intro i v s r at_ host waits
    refine ⟨fun hhost hstop hwaits => ?armed, fun hhost hstop hwaits => ?started, fun hhost => ?stopped, fun k hk hdue hdur => ?entered⟩
    case armed =>
      obtain ⟨hv, hreach⟩ := hhost
      obtain ⟨hframe, hsyn, hat, hiff⟩ := State.rampWritten_kept (v ||| 1) hreach
      have hexec := exec_rampGo hv hreach hstop
      generalize s.rampWritten i (v ||| 1) = u at *
      obtain ⟨hstart, hfuture⟩ := hiff.mpr hwaits
      have hgo := State.rampGo_armed hstart hfuture
      rw [hat, hsyn] at hgo
      obtain ⟨hset, harmed, hlate⟩ := u.rampShown_fields true false { r with at_ := some at_, go := false }
      rw [hsyn] at hset
      exact ⟨_, hexec, hgo ▸ hset, hgo ▸ harmed, hgo ▸ hlate, (hframe.weaken rfl).seq u.rampGo_frame rfl⟩
    case started =>
      obtain ⟨hv, hreach⟩ := hhost
      obtain ⟨hframe, hsyn, hat, hiff⟩ := State.rampWritten_kept (v ||| 1) hreach
      have hexec := exec_rampGo hv hreach hstop
      have hstart := (State.rampWritten_spares (v ||| 1) hreach).1 _ (show commandSpares SYN.RAMPCTL.START.key from .inr (by decide))
      generalize s.rampWritten i (v ||| 1) = u at *
      have hgo := State.rampGo_started (mt hiff.mp hwaits)
      rw [hsyn, State.rd_congr hstart] at hgo
      obtain ⟨hset, harmed, hlate⟩ := u.rampShown_fields false (decide (s.rd SYN.RAMPCTL.START = 1)) { r with at_ := none, go := true }
      rw [hsyn] at hset
      exact ⟨_, hexec, hgo ▸ hset, hgo ▸ harmed, by rw [hgo, hlate, decide_eq_true_iff], (hframe.weaken rfl).seq u.rampGo_frame rfl⟩
    case stopped =>
      obtain ⟨hv, hreach⟩ := hhost
      obtain ⟨hframe, hsyn, -, -⟩ := State.rampWritten_kept (clearBit v 0 ||| 2) hreach
      have hexec := exec_rampStop hv hreach
      generalize s.rampWritten i (clearBit v 0 ||| 2) = u at *
      obtain ⟨hset, harmed⟩ := u.rampStop_fields
      rw [hsyn] at hset
      exact ⟨_, hexec, hset, harmed, (hframe.weaken rfl).seq u.rampStop_frame rfl⟩
    case entered =>
      obtain ⟨t, hexec, h⟩ := exec_rampSegmentEnter hk hdue hdur
      exact ⟨t, hexec, h.segment, h.running, h.start, h.ticks, h.target, h.duration, h.last, h.due, h.value, execRampSegmentEnter_frame s t hexec⟩

end Sys2Proof.Machine
end

section
/-!
PROOFS. The servo and the PTP clocks (R391 to R393, R395, R397, R398).
-/

namespace Sys2Proof.Machine

/-! ## The servo (R397) -/

/-- Where the registers of the servo stand. -/
theorem TIME.servoFields :
    TIME.SRVCFG.EN = ⟨0x80040, 31, 1⟩ ∧ TIME.SRVCFG.SRC = ⟨0x80040, 30, 1⟩ ∧ TIME.SRVCFG.PORT = ⟨0x80040, 29, 1⟩ ∧ TIME.SRVCFG.HOLD = ⟨0x80040, 0, 1⟩ ∧
    TIME.SRVGAIN.KP = ⟨0x80044, 16, 16⟩ ∧ TIME.SRVGAIN.KI = ⟨0x80044, 0, 16⟩ ∧ TIME.SRVSTEP.val = ⟨0x80048, 0, 32⟩ ∧ TIME.SRVIN.val = ⟨0x8004C, 0, 32⟩ ∧
    TIME.SRVPPT.val = ⟨0x80050, 0, 32⟩ ∧ TIME.SRVOFS.val = ⟨0x80054, 0, 32⟩ ∧ TIME.HIST.SRVHOLD = ⟨0x80300, 2, 1⟩ ∧ TIME.SRVIN = 0x8004C := by
  and_intros <;> rfl

/-- Where the registers of a PTP clock stand. -/
theorem TIME.ptpFields (p : Nat) :
    TIME.PTP_CFG p = 0x80080 + p * 0x20 ∧ TIME.PTP_CFG.STATE p = ⟨0x80080 + p * 0x20, 24, 2⟩ ∧ TIME.PTP_CFG.MODE p = ⟨0x80080 + p * 0x20, 2, 1⟩ ∧
    TIME.PTP_PARENT.STEPS p = ⟨0x80088 + p * 0x20, 16, 8⟩ ∧ TIME.PTP_PARENT.CLASS p = ⟨0x80088 + p * 0x20, 8, 8⟩ ∧
    TIME.PTP_PARENT.ACCURACY p = ⟨0x80088 + p * 0x20, 0, 8⟩ ∧ TIME.PTP_OFS.val p = ⟨0x8008C + p * 0x20, 0, 32⟩ ∧
    TIME.PTP_MPD.val p = ⟨0x80090 + p * 0x20, 0, 32⟩ ∧ TIME.PTP_SAMPLES.val p = ⟨0x80094 + p * 0x20, 0, 32⟩ := by
  and_intros <;> rfl

/-- The state with the timekeeping store at `x`. -/
def State.withTimes (s : State) (x : Times) : State := { s with times := x }

@[simp] theorem State.rd_withTimes (s : State) (x : Times) (f : Fld) : (s.withTimes x).rd f = s.rd f := State.rd_congr rfl
@[simp] theorem State.flag_withTimes (s : State) (x : Times) (f : Fld) : (s.withTimes x).flag f = s.flag f := State.flag_congr rfl
theorem State.word_withTimes (s : State) (x : Times) (k : Nat) : (s.withTimes x).word k = s.word k := State.word_congr rfl k
theorem State.withTimes_times (s : State) (x : Times) : (s.withTimes x).times = x := rfl
theorem State.withTimes_ref (s : State) (x : Times) : (s.withTimes x).ref = s.ref := rfl

/-- The correction that a sample asks for, before its clamp (R397). -/
def State.servoIntegral (s : State) (th : Int) : Int := s.times.integ + Int.ofNat (s.rd TIME.SRVGAIN.KI) * th

/-- The correction before its clamp. -/
def State.servoTerm (s : State) (th : Int) : Int := -(Int.ofNat (s.rd TIME.SRVGAIN.KP) * th + s.servoIntegral th)

/-- The servo has taken the sample `th`: the offset, the correction within its range, and the integral, which stands still at the clamp (R397). -/
def Steered (th : Int) (s t : State) : Prop :=
  t.rdS TIME.SRVOFS.val = th ∧ t.flag TIME.SRVCFG.HOLD = false ∧ t.rdS TIME.SRVPPT.val = max (-(2 ^ 31)) (min (2 ^ 31 - 1) (s.servoTerm th)) ∧
    t.times.integ = (if max (-(2 ^ 31)) (min (2 ^ 31 - 1) (s.servoTerm th)) = s.servoTerm th then s.servoIntegral th else s.times.integ)

/-- A sample is shown, and ends the hold. -/
def State.sampleShown (s : State) (th : Int) : State := (s.wrS TIME.SRVOFS.val th).wrFlag TIME.SRVCFG.HOLD false

/-- The correction, and the integral where the clamp leaves it free. -/
def State.steeredBy (s : State) (th : Int) : State :=
  let c := s.servoTerm th
  let k := clampInt (-2147483648) 2147483647 c
  let u := s.wrS TIME.SRVPPT.val k
  if k = c then u.withTimes { u.times with integ := s.servoIntegral th } else u

theorem State.servo_eq (s : State) (th : Int) : s.servo th =
    if (s.sampleShown th).rd TIME.SRVSTEP.val < th.natAbs then (s.sampleShown th).timeStep (-th * 10 ^ 12) else (s.sampleShown th).steeredBy th := rfl

theorem simmOk_word {th : Int} (hlo : -(2 ^ 31) ≤ th) (hhi : th < 2 ^ 31) : simmOk 32 th = true := by
  rw [simmOk, Bool.and_eq_true, decide_eq_true_iff, decide_eq_true_iff]
  exact ⟨hlo, hhi⟩

theorem State.sampleShown_fields (s : State) {th : Int} (hlo : -(2 ^ 31) ≤ th) (hhi : th < 2 ^ 31) :
    (s.sampleShown th).rdS TIME.SRVOFS.val = th ∧ (s.sampleShown th).flag TIME.SRVCFG.HOLD = false ∧
      (s.sampleShown th).rd TIME.SRVSTEP.val = s.rd TIME.SRVSTEP.val ∧ (s.sampleShown th).servoTerm th = s.servoTerm th ∧
      (s.sampleShown th).servoIntegral th = s.servoIntegral th := by
  have hrd {f : Fld} (hofs : f.key ≠ 0x80054) (hcfg : f.key ≠ 0x80040) : (s.sampleShown th).rd f = s.rd f := by
    rw [State.sampleShown, State.rd_wrFlag_clear _ _ (by simp only [Fld.clear, TIME.servoFields]; omega),
      State.rd_wrS_clear _ _ (by simp only [Fld.clear, TIME.servoFields]; omega)]
  have htimes : (s.sampleShown th).times = s.times := by rw [State.sampleShown, State.wrFlag_times, State.wrS_times]
  have hint : (s.sampleShown th).servoIntegral th = s.servoIntegral th := by
    rw [State.servoIntegral, htimes, hrd (by decide) (by decide), State.servoIntegral]
  refine ⟨?_, ?_, hrd (by decide) (by decide), ?_, hint⟩
  · rw [State.sampleShown, State.rdS_of_rd (State.rd_wrFlag_clear _ _ (by simp only [Fld.clear, TIME.servoFields]; omega)),
      State.rdS_wrS_self _ (by decide) (simmOk_word hlo hhi)]
  · rw [State.sampleShown, State.flag_wrFlag_self _ _ (by decide)]
  · rw [State.servoTerm, hint, hrd (by decide) (by decide), State.servoTerm]

theorem State.steeredBy_fields (s : State) (th : Int) : (s.steeredBy th).rdS TIME.SRVPPT.val = max (-(2 ^ 31)) (min (2 ^ 31 - 1) (s.servoTerm th)) ∧
    (s.steeredBy th).times = { s.times with
      integ := (if max (-(2 ^ 31)) (min (2 ^ 31 - 1) (s.servoTerm th)) = s.servoTerm th then s.servoIntegral th else s.times.integ) } ∧
    (∀ j, j ≠ TIME.SRVPPT → (s.steeredBy th).word j = s.word j) ∧ Frame [.live, .times] s (s.steeredBy th) := by
  have hclamp : clampInt (-2147483648) 2147483647 (s.servoTerm th) = max (-(2 ^ 31)) (min (2 ^ 31 - 1) (s.servoTerm th)) := clampInt_eq (by decide) _
  have hfits : simmOk 32 (max (-(2 ^ 31)) (min (2 ^ 31 - 1) (s.servoTerm th))) = true := by
    rw [simmOk, Bool.and_eq_true, decide_eq_true_iff, decide_eq_true_iff]
    exact ⟨le_max_left _ _, by omega⟩
  unfold State.steeredBy
  dsimp only
  rw [hclamp]
  generalize max (-(2 ^ 31)) (min (2 ^ 31 - 1) (s.servoTerm th)) = k at *
  have hppt : (s.wrS TIME.SRVPPT.val k).rdS TIME.SRVPPT.val = k := State.rdS_wrS_self _ (by decide) hfits
  have hword : ∀ j, j ≠ TIME.SRVPPT → (s.wrS TIME.SRVPPT.val k).word j = s.word j := fun j hj => s.word_wr_ne _ hj
  have htimes : (s.wrS TIME.SRVPPT.val k).times = s.times := State.wrS_times ..
  have hframe : Frame [.live] s (s.wrS TIME.SRVPPT.val k) := State.wrS_frame ..
  generalize s.wrS TIME.SRVPPT.val k = u at *
  split
  · refine ⟨(State.rdS_of_rd (State.rd_withTimes _ _ _)).trans hppt, ?_, fun j hj => (State.word_withTimes _ _ _).trans (hword j hj),
      Frame.set_times (hframe.weaken rfl) rfl⟩
    rw [State.withTimes_times, htimes]
  · exact ⟨hppt, htimes, hword, hframe.weaken rfl⟩

/-- A sample within SRVSTEP steers. -/
theorem State.servo_small {s : State} {th : Int} (hlo : -(2 ^ 31) ≤ th) (hhi : th < 2 ^ 31) (h : th.natAbs ≤ s.rd TIME.SRVSTEP.val) :
    Steered th s (s.servo th) ∧ (s.servo th).times = { s.times with integ := (s.servo th).times.integ } ∧
      (∀ j, j < 0x80040 ∨ 0x80054 < j → (s.servo th).word j = s.word j) ∧ Frame [.live, .times] s (s.servo th) := by
  obtain ⟨hofs, hhold, hstep, hterm, hint⟩ := s.sampleShown_fields hlo hhi
  have hservo := s.servo_eq th
  rw [hstep, if_neg (by omega)] at hservo
  have hword (j : Nat) (hj : j < 0x80040 ∨ 0x80054 < j) : (s.sampleShown th).word j = s.word j := by
    rw [State.sampleShown, State.word_wrFlag_ne _ _ (by simp only [TIME.servoFields]; omega), State.wrS,
      State.word_wr_ne _ _ (by simp only [TIME.servoFields]; omega)]
  have htimes : (s.sampleShown th).times = s.times := by rw [State.sampleShown, State.wrFlag_times, State.wrS_times]
  have hframe : Frame [.live] s (s.sampleShown th) := (State.wrS_frame ..).trans (State.wrFlag_frame ..)
  rw [hservo]
  obtain ⟨hppt, hkept, hwords, hsteered⟩ := (s.sampleShown th).steeredBy_fields th
  rw [hterm, hint, htimes] at hkept
  rw [hterm] at hppt
  refine ⟨⟨?_, ?_, hppt, by rw [hkept]⟩, by rw [hkept], fun j hj => (hwords j ?_).trans (hword j hj), (hframe.weaken rfl).trans hsteered⟩
  · exact (State.rdS_of_rd (State.rd_congr (hwords _ (by decide)))).trans hofs
  · exact (State.flag_congr (hwords _ (by decide))).trans hhold
  · unfold TIME.SRVPPT
    omega

theorem State.servo_large {s : State} {th : Int} (hlo : -(2 ^ 31) ≤ th) (hhi : th < 2 ^ 31) (h : ¬ th.natAbs ≤ s.rd TIME.SRVSTEP.val) :
    (s.servo th).clk = { s.clk with time := ((Int.ofNat s.clk.time - th * 10 ^ 12) % (2 ^ 48 * 10 ^ 21)).toNat } ∧
      (s.servo th).flag TIME.HIST.STEP = true := by
  obtain ⟨-, -, hstep, -, -⟩ := s.sampleShown_fields hlo hhi
  have hservo := s.servo_eq th
  rw [hstep, if_pos (by omega)] at hservo
  have hclk : (s.sampleShown th).clk = s.clk := by rw [State.sampleShown, State.wrFlag_clk, State.wrS_clk]
  obtain ⟨hstepped, hmark, -⟩ := (s.sampleShown th).timeStep_fields (-th * 10 ^ 12)
  rw [hclk, show Int.ofNat s.clk.time + -th * 10 ^ 12 = Int.ofNat s.clk.time - th * 10 ^ 12 by ring] at hstepped
  exact hservo ▸ ⟨hstepped, hmark⟩

theorem Steered.of_like {th : Int} {s u t : State} (h : Steered th u t) (hgain : u.word TIME.SRVGAIN = s.word TIME.SRVGAIN)
    (hinteg : u.times.integ = s.times.integ) : Steered th s t := by
  have hint : u.servoIntegral th = s.servoIntegral th := by
    rw [State.servoIntegral, hinteg, State.rd_congr (f := TIME.SRVGAIN.KI) hgain, State.servoIntegral]
  have hterm : u.servoTerm th = s.servoTerm th := by rw [State.servoTerm, hint, State.rd_congr (f := TIME.SRVGAIN.KP) hgain, State.servoTerm]
  unfold Steered at h ⊢
  rwa [hterm, hint, hinteg] at h

/-! ## A sample of a PTP clock (R395) -/

/-- The words of a sample. -/
def State.ptpShown (s : State) (p : Nat) (th : Int) (mpd : Nat) : State :=
  ((s.wrS (TIME.PTP_OFS.val p) th).wr (TIME.PTP_MPD.val p) mpd).inc (TIME.PTP_SAMPLES.val p)

/-- A sample is also the signal of its clock's reference input. -/
def State.ptpHeard (s : State) (p : Nat) : State := s.setRefIn p { s.refIn p with heard := s.clk.now }

/-- The servo follows the PTP clock `p` (R398). -/
def State.followsPtp (s : State) (p : Nat) : Prop := s.flag TIME.SRVCFG.EN = true ∧ s.flag TIME.SRVCFG.SRC = false ∧ s.rd TIME.SRVCFG.PORT = p

def State.sampleNoted (s : State) (th : Int) : State := s.withTimes { s.times with sampleAt := s.clk.now, theta := th }

theorem exec_ptpOffsetSample_free {s : State} {p : Nat} (th : Int) (mpd : Nat) (hp : p < 2) (hen : s.flag (TIME.PTP_CFG.EN p) = true)
    (hst : s.rd (TIME.PTP_CFG.STATE p) = 1) (h : ¬ ((s.ptpShown p th mpd).ptpHeard p).followsPtp p) :
    exec (.ptpOffsetSample p th mpd) s = .next ((s.ptpShown p th mpd).ptpHeard p) :=
  congrArg _ ((if_pos ⟨hp, hen, hst⟩).trans (if_neg fun ⟨hon, hsrc, hport⟩ => h ⟨hon, eq_false_of_ne_true hsrc, hport⟩))

theorem exec_ptpOffsetSample_follows {s : State} {p : Nat} (th : Int) (mpd : Nat) (hp : p < 2) (hen : s.flag (TIME.PTP_CFG.EN p) = true)
    (hst : s.rd (TIME.PTP_CFG.STATE p) = 1) (h : ((s.ptpShown p th mpd).ptpHeard p).followsPtp p) :
    exec (.ptpOffsetSample p th mpd) s = .next ((((s.ptpShown p th mpd).ptpHeard p).sampleNoted th).servo th) :=
  congrArg _ ((if_pos ⟨hp, hen, hst⟩).trans (if_pos ⟨h.1, ne_true_of_eq_false h.2.1, h.2.2⟩))

/-- The values of a sample stand in the clock's registers. -/
structure PtpSampled (p : Nat) (th : Int) (mpd : Nat) (s t : State) : Prop where
  offset : t.rdS (TIME.PTP_OFS.val p) = th
  delay : t.rd (TIME.PTP_MPD.val p) = mpd % 2 ^ 32
  count : t.rd (TIME.PTP_SAMPLES.val p) = (s.rd (TIME.PTP_SAMPLES.val p) + 1) % 2 ^ 32
  heard : RefInSet p { s.refIn p with heard := s.clk.now } s t
  words : ∀ k, k ≠ TIME.PTP_OFS p → k ≠ TIME.PTP_MPD p → k ≠ TIME.PTP_SAMPLES p → t.word k = s.word k
  clk : t.clk = s.clk
  times : t.times = s.times
  frame : Frame [.live, .ref] s t

section
variable (s : State) (p : Nat) (th : Int) (mpd : Nat)

theorem State.ptpShown_offset {th : Int} (hlo : -(2 ^ 31) ≤ th) (hhi : th < 2 ^ 31) : (s.ptpShown p th mpd).rdS (TIME.PTP_OFS.val p) = th := by
  rw [State.ptpShown, State.rdS_of_rd (State.rd_inc_clear _ (by simp only [Fld.clear, TIME.ptpFields]; omega)),
    State.rdS_of_rd (State.rd_wr_clear _ _ (by simp only [Fld.clear, TIME.ptpFields]; omega))]
  exact State.rdS_wrS_self _ (by simp only [TIME.ptpFields]; omega) (simmOk_word hlo hhi)

theorem State.ptpShown_delay : (s.ptpShown p th mpd).rd (TIME.PTP_MPD.val p) = mpd % 2 ^ 32 := by
  rw [State.ptpShown, State.rd_inc_clear _ (by simp only [Fld.clear, TIME.ptpFields]; omega)]
  exact State.rd_wr_same _ _ _ (by simp only [TIME.ptpFields]; omega)

theorem State.ptpShown_count : (s.ptpShown p th mpd).rd (TIME.PTP_SAMPLES.val p) = (s.rd (TIME.PTP_SAMPLES.val p) + 1) % 2 ^ 32 := by
  rw [State.ptpShown, State.rd_inc_same _ (by simp only [TIME.ptpFields]; omega),
    State.rd_wr_clear _ _ (by simp only [Fld.clear, TIME.ptpFields]; omega), State.rd_wrS_clear _ _ (by simp only [Fld.clear, TIME.ptpFields]; omega),
    show (TIME.PTP_SAMPLES.val p).width = 32 from rfl]

theorem State.ptpShown_word {k : Nat} (h1 : k ≠ TIME.PTP_OFS p) (h2 : k ≠ TIME.PTP_MPD p) (h3 : k ≠ TIME.PTP_SAMPLES p) :
    (s.ptpShown p th mpd).word k = s.word k := by
  rw [State.ptpShown, State.word_inc_ne _ h3, State.word_wr_ne _ _ h2, State.wrS, State.word_wr_ne _ _ h1]

theorem State.ptpShown_parts : (s.ptpShown p th mpd).ref = s.ref ∧ (s.ptpShown p th mpd).clk = s.clk ∧ (s.ptpShown p th mpd).times = s.times := by
  refine ⟨?_, ?_, ?_⟩
  · rw [State.ptpShown, State.inc_ref, State.wr_ref, State.wrS_ref]
  · rw [State.ptpShown, State.inc_clk, State.wr_clk, State.wrS_clk]
  · rw [State.ptpShown, State.inc_times, State.wr_times, State.wrS_times]

theorem State.ptpShown_frame : Frame [.live] s (s.ptpShown p th mpd) := ((State.wrS_frame ..).trans (State.wr_frame ..)).trans (State.inc_frame ..)

end

theorem State.ptpSampled (s : State) (p mpd : Nat) {th : Int} (hlo : -(2 ^ 31) ≤ th) (hhi : th < 2 ^ 31) :
    PtpSampled p th mpd s ((s.ptpShown p th mpd).ptpHeard p) := by
  obtain ⟨href, hclk, htimes⟩ := s.ptpShown_parts p th mpd
  have hofs := s.ptpShown_offset p mpd hlo hhi
  have hmpd := s.ptpShown_delay p th mpd
  have hcount := s.ptpShown_count p th mpd
  have hword := fun k => s.ptpShown_word p th mpd (k := k)
  have hframe := s.ptpShown_frame p th mpd
  generalize s.ptpShown p th mpd = u at *
  have hheard : u.ptpHeard p = u.setRefIn p { s.refIn p with heard := s.clk.now } := by rw [State.ptpHeard, State.refIn_congr href, hclk]
  rw [hheard]
  exact ⟨(State.rdS_of_rd (State.rd_setRefIn ..)).trans hofs, (State.rd_setRefIn ..).trans hmpd, (State.rd_setRefIn ..).trans hcount,
    .setRefIn _ href, fun k h1 h2 h3 => (u.word_setRefIn _ _ k).trans (hword k h1 h2 h3), ((State.setRefIn_frame ..).same .clk rfl).trans hclk,
    ((State.setRefIn_frame ..).same .times rfl).trans htimes,
    (hframe.weaken rfl).seq (State.setRefIn_frame ..) rfl⟩

theorem PtpSampled.follows_iff {p : Nat} {th : Int} {mpd : Nat} {s t : State} (h : PtpSampled p th mpd s t) (hp : p < 2) :
    t.followsPtp p ↔ s.followsPtp p := by
  have hword : t.word TIME.SRVCFG = s.word TIME.SRVCFG :=
    h.words _ (by unfold TIME.SRVCFG TIME.PTP_OFS; omega) (by unfold TIME.SRVCFG TIME.PTP_MPD; omega) (by unfold TIME.SRVCFG TIME.PTP_SAMPLES; omega)
  rw [State.followsPtp, State.flag_congr (f := TIME.SRVCFG.EN) hword, State.flag_congr (f := TIME.SRVCFG.SRC) hword,
    State.rd_congr (f := TIME.SRVCFG.PORT) hword, State.followsPtp]

/-! ## Missing samples (R397) -/

theorem exec_srvHold {s : State} (hen : s.flag TIME.SRVCFG.EN = true) (hsrc : s.flag TIME.SRVCFG.SRC = false) (hhold : s.flag TIME.SRVCFG.HOLD = false)
    (htime : s.fourIntervals (s.rd TIME.SRVCFG.PORT) ≤ s.clk.now - s.times.sampleAt) : ∃ d, exec .srvHold s =
      .next (((s.wrFlag TIME.SRVCFG.HOLD true).sqf TIME.HIST.SRVHOLD).report 0x0803 (s.rd TIME.SRVCFG.PORT) d) :=
  ⟨_, congrArg _ (if_pos ⟨hen, ne_true_of_eq_false hsrc, ne_true_of_eq_false hhold, htime⟩)⟩

/-! ## The state of a PTP clock, its messages and its profile (R391 to R393) -/

theorem exec_ptpAnnounceAccepted {s : State} {p st : Nat} (steps cls acc : Nat) (hp : p < 2) (hen : s.flag (TIME.PTP_CFG.EN p) = true) (hlo : 1 ≤ st)
    (hhi : st < 4) (hrole : st = 2 → s.flag (TIME.PTP_CFG.ROLE p) = true) : exec (.ptpAnnounceAccepted p st steps cls acc) s =
      .next (if st = 1 then (((s.wr (TIME.PTP_CFG.STATE p) st).wr (TIME.PTP_PARENT.STEPS p) steps).wr (TIME.PTP_PARENT.CLASS p) cls).wr
        (TIME.PTP_PARENT.ACCURACY p) acc else s.wr (TIME.PTP_CFG.STATE p) st) := congrArg _ (if_pos ⟨hp, hen, hlo, hhi, hrole⟩)

theorem exec_ptpAnnounceReceiptTimeout {s : State} {p : Nat} (hp : p < 2) (hen : s.flag (TIME.PTP_CFG.EN p) = true) :
    exec (.ptpAnnounceReceiptTimeout p) s = .next (s.wr (TIME.PTP_CFG.STATE p) (if s.flag (TIME.PTP_CFG.ROLE p) then 2 else 0)) :=
  congrArg _ (if_pos ⟨hp, hen⟩)

/-- The time of an egress as a message carries it (R393). -/
def egressStamp (at_ : Nat) : List Nat := [at_ / 1024 / 10 ^ 9 % 2 ^ 48, at_ / 1024 % 10 ^ 9, at_ % 1024 * 64]

section
variable {s : State} {p : Nat} (hp : p < 2) (hen : s.flag (TIME.PTP_CFG.EN p) = true) (hlink : s.flag (NET.STAT.LINK p) = true)
include hp hen hlink

theorem exec_ptpMessage_sync (hst : s.rd (TIME.PTP_CFG.STATE p) = 2) : exec (.ptpMessageInterval p 0) s =
    .next (if s.flag (TIME.PTP_CFG.ONESTEP p) then
      s.emit (.datagram 0 ([p, s.ptpIdentity p, s.rd (TIME.PTP_CFG.DOMAIN p), 0] ++ egressStamp (s.egressTime p)))
    else (s.emit (.datagram 0 [p, s.ptpIdentity p, s.rd (TIME.PTP_CFG.DOMAIN p), 1, 0, 0, 0])).emit
      (.datagram 3 ([p, s.ptpIdentity p, s.rd (TIME.PTP_CFG.DOMAIN p)] ++ egressStamp (s.egressTime p)))) :=
  congrArg _ ((if_pos ⟨hp, hen, hlink⟩).trans (if_pos ⟨rfl, hst⟩))

theorem exec_ptpMessage_announce (hst : s.rd (TIME.PTP_CFG.STATE p) = 2) : exec (.ptpMessageInterval p 1) s =
    .next (s.emit (.datagram 1 [p, s.ptpIdentity p, s.rd (TIME.PTP_CFG.DOMAIN p), s.rd (TIME.PTP_CLS.PRIORITY1 p), s.rd (TIME.PTP_CLS.CLASS p),
      s.rd (TIME.PTP_CLS.ACCURACY p), s.rd (TIME.PTP_CLS.PRIORITY2 p)])) :=
  congrArg _ ((if_pos ⟨hp, hen, hlink⟩).trans ((if_neg (by simp)).trans (if_pos ⟨rfl, hst⟩)))

theorem exec_ptpMessage_request (hst : s.rd (TIME.PTP_CFG.STATE p) = 1) : exec (.ptpMessageInterval p 2) s =
    .next (s.emit (.datagram 2 [p, s.ptpIdentity p, s.rd (TIME.PTP_CFG.DOMAIN p)])) :=
  congrArg _ ((if_pos ⟨hp, hen, hlink⟩).trans ((if_neg (by simp)).trans ((if_neg (by simp)).trans (if_pos ⟨rfl, .inl hst⟩))))

end

theorem TIME.ptpCfg_masks {p : Nat} (hp : p < 2) : RegMasks (TIME.PTP_CFG p) 0 4244635632 := by
  interval_cases p <;> exact ⟨_, _, rfl, rfl, rfl, rfl, rfl⟩

theorem State.loadAt_ptpCfg (s : State) (i : Nat) {p v : Nat} (hp : p < 2) (h : bit v 3 = true) :
    s.loadAt i (TIME.PTP_CFG p) v = some (s.ptpProfileLoad i p v) := by
  have hge : firstBelow (fun e => TIME.PTP_CFG p == GE.PROFILE e) 16 = none := by interval_cases p <;> rfl
  have hfirst : firstBelow (fun q => TIME.PTP_CFG p == TIME.PTP_CFG q) 2 = some p := by interval_cases p <;> rfl
  unfold State.loadAt
  rw [if_neg (by unfold TIME.PTP_CFG REF.PROFILE; omega), hge, hfirst]
  exact if_pos h

theorem State.act_ptpCfg (s : State) (i v : Nat) (old : Word) {p : Nat} (hp : p < 2) : s.act i (TIME.PTP_CFG p) v old true = s := by
  have hfirst : firstBelow (fun q => TIME.PTP_CFG p == TIME.PG_CFG q) 8 = none := by interval_cases p <;> rfl
  unfold State.act
  simp only [show TIME.PTP_CFG p / 0x10000 = 0x08 by unfold TIME.PTP_CFG; omega]
  rw [if_neg (by unfold TIME.PTP_CFG TIME.CTL; omega), if_neg (by unfold TIME.PTP_CFG TIME.SRVIN; omega),
    if_neg (by unfold TIME.PTP_CFG TIME.LTCTX_CFG; omega), hfirst]

theorem State.unitRefuses_ptpCfg (s : State) (w : Word) (v : Nat) {p : Nat} (hp : p < 2) : s.unitRefuses (TIME.PTP_CFG p) w v true = false := by
  interval_cases p <;> rfl

theorem exec_ptpProfileLoad {s : State} {i : Iface} {p v : Nat} (hp : p < 2) (hv : v < 2 ^ 32) (h : s.hostReaches i (TIME.PTP_CFG p) = true)
    (hroom : s.hasRoom [(TIME.PTP_CFG p, ptpProfileWord p (v ||| 8))] = true) : exec (.ptpProfileLoad i p v) s =
      .next (([(TIME.PTP_CFG p, ptpProfileWord p (v ||| 8))].foldl (fun s p => s.putShadow p.1 p.2)
        (s.journal .write (TIME.PTP_CFG p) (v ||| 8) s.tick)).wrFlag (TIME.PTP_CFG.MODE p) false) := by
  have hload : (BitVec.ofNat 32 (v ||| 8)).toNat = v ||| 8 := toNat_or_bit hv (b := 3) (by decide)
  have hcommand : exec (.ptpProfileLoad i p v) s = .next (s.regCommand i (TIME.PTP_CFG p) (v ||| 8)) := congrArg _ (if_pos hp)
  refine hcommand.trans (congrArg _ (State.regCommand_reached (by unfold NormalSpace TIME.PTP_CFG; omega) h
    ((State.regWrite_rws _ _ (TIME.ptpCfg_masks hp) (by decide) (s.unitRefuses_ptpCfg _ _ hp)).trans ?_)))
  rw [State.act_ptpCfg _ _ _ _ hp, State.rwsWrite, if_pos rfl, State.loadAt_ptpCfg _ _ hp (by rw [hload]; exact bit_or_self v 3), hload]
  show s.ptpProfileLoad (ifaceNumber i) p (v ||| 8) = _
  unfold State.ptpProfileLoad
  rw [State.profileLoad_taken _ _ _ hroom]
  rfl

/-! ## The host's samples (R398) -/

theorem TIME.srvin_masks : RegMasks TIME.SRVIN (2 ^ 32 - 1) 0 := ⟨_, _, rfl, rfl, rfl, rfl, rfl⟩

theorem exec_servoHostSample {s : State} {i : Iface} {v : Nat} (h : s.hostReaches i TIME.SRVIN = true) :
    exec (.servoHostSample i v) s = .next (s.rwWritten TIME.SRVIN (BitVec.ofNat 32 v) (2 ^ 32 - 1)).servoHost :=
  congrArg _ (State.regCommand_reached (by unfold NormalSpace TIME.SRVIN; omega) h
    (State.regWrite_rw _ _ TIME.srvin_masks (by decide) rfl (by decide) fun _ =>
      State.setModes_unwatched _ _ (by decide) (by decide) (by decide) (by decide)))

/-- The sample that the host has written. -/
theorem State.servoHost_written {s : State} {th : Int} (hlo : -(2 ^ 31) ≤ th) (hhi : th < 2 ^ 31) (hen : s.flag TIME.SRVCFG.EN = true)
    (hsrc : s.flag TIME.SRVCFG.SRC = true) : (s.rwWritten TIME.SRVIN (BitVec.ofNat 32 (wrap32 th)) (2 ^ 32 - 1)).servoHost =
      (s.rwWritten TIME.SRVIN (BitVec.ofNat 32 (wrap32 th)) (2 ^ 32 - 1)).servo th := by
  have hword : (s.rwWritten TIME.SRVIN (BitVec.ofNat 32 (wrap32 th)) (2 ^ 32 - 1)).word TIME.SRVCFG = s.word TIME.SRVCFG :=
    s.word_rwWritten_ne _ _ (by decide)
  have hread : (s.rwWritten TIME.SRVIN (BitVec.ofNat 32 (wrap32 th)) (2 ^ 32 - 1)).rdS TIME.SRVIN.val = th := by
    have hrd := s.rd_rwWritten (f := TIME.SRVIN.val) (BitVec.ofNat 32 (wrap32 th)) (mask := 2 ^ 32 - 1) (by decide) fun j _ hj => by
      rw [Nat.testBit_two_pow_sub_one]
      exact decide_eq_true hj
    refine (congrArg (signedN 32) (hrd.trans ?_)).trans ((signedN_eq_iff (by decide) (wrap32_lt th)).mpr ⟨simmOk_word hlo hhi, rfl⟩)
    have hlt := wrap32_lt th
    rw [Fld.ext, BitVec.toNat_ofNat]
    simp only [TIME.servoFields]
    omega
  generalize s.rwWritten TIME.SRVIN (BitVec.ofNat 32 (wrap32 th)) (2 ^ 32 - 1) = u at *
  unfold State.servoHost
  rw [hread, State.flag_congr (f := TIME.SRVCFG.EN) hword, State.flag_congr (f := TIME.SRVCFG.SRC) hword, hen, hsrc]
  rfl

/-! ## The obligation -/

theorem State.followed_steers {s : State} {p mpd : Nat} {th : Int} (hp : p < 2) (hlo : -(2 ^ 31) ≤ th) (hhi : th < 2 ^ 31)
    (hen : s.flag (TIME.PTP_CFG.EN p) = true) (hst : s.rd (TIME.PTP_CFG.STATE p) = 1) (hfeeds : s.followsPtp p)
    (hsmall : th.natAbs ≤ s.rd TIME.SRVSTEP.val) : ∃ t, exec (.ptpOffsetSample p th mpd) s = .next t ∧ t.rdS (TIME.PTP_OFS.val p) = th ∧
      Steered th s t ∧ RefInSet p { s.refIn p with heard := s.clk.now } s t ∧ t.times.sampleAt = s.clk.now ∧ t.times.theta = th ∧
      Frame [.live, .ref, .times] s t := by
  have hsampled := s.ptpSampled p mpd hlo hhi
  have hexec := exec_ptpOffsetSample_follows th mpd hp hen hst ((hsampled.follows_iff hp).mpr hfeeds)
  generalize (s.ptpShown p th mpd).ptpHeard p = u at *
  have hword (k : Nat) (hk : k < 0x8008C) : (u.sampleNoted th).word k = s.word k := (State.word_withTimes _ _ _).trans
    (hsampled.words k (by unfold TIME.PTP_OFS; omega) (by unfold TIME.PTP_MPD; omega) (by unfold TIME.PTP_SAMPLES; omega))
  have htimes : (u.sampleNoted th).times = { s.times with sampleAt := s.clk.now, theta := th } := by
    rw [State.sampleNoted, State.withTimes_times, hsampled.times, hsampled.clk]
  have hofs : (u.sampleNoted th).rdS (TIME.PTP_OFS.val p) = th := (State.rdS_of_rd (State.rd_withTimes ..)).trans hsampled.offset
  have hheard : RefInSet p { s.refIn p with heard := s.clk.now } s (u.sampleNoted th) := hsampled.heard.of_ref (State.withTimes_ref ..)
  have hframe : Frame [.live, .ref, .times] s (u.sampleNoted th) := Frame.set_times (hsampled.frame.weaken rfl) rfl
  generalize u.sampleNoted th = w at *
  have hstep : w.rd TIME.SRVSTEP.val = s.rd TIME.SRVSTEP.val := State.rd_congr (hword _ (by decide))
  obtain ⟨hsteered, hkept, hwords, hservo⟩ := State.servo_small hlo hhi (by rw [hstep]; exact hsmall)
  have href : (w.servo th).ref = w.ref := hservo.same .ref rfl
  refine ⟨_, hexec, ?_, hsteered.of_like (hword _ (by decide)) (by rw [htimes]), hheard.of_ref href, ?_, ?_, hframe.trans (hservo.weaken rfl)⟩
  · rw [State.rdS_of_rd (State.rd_congr (hwords _ (by simp only [TIME.ptpFields]; omega))), hofs]
  · rw [hkept, htimes]
  · rw [hkept, htimes]

/-- Settles O39: the servo's sample is stated once, and the firmware's and the host's samples bring it about. -/
theorem servoFollowsSamplesAndPtpKeepsItsState : Obligations.ServoFollowsSamplesAndPtpKeepsItsState := by
  unfold Obligations.ServoFollowsSamplesAndPtpKeepsItsState
  intro i p st steps cls acc mpd v th s P I c slave feeds small steered heard w id dom at_ stamp sends hp hlo hhi
  refine ⟨fun hslave hfree => ?free, fun hslave hfeeds hsmall => ?follows, fun hhost hen hsrc => ⟨fun hsmall => ?hostSmall, fun hlarge => ?hostLarge⟩,
    fun hfeeds hhold htime => ?hold, fun hen hst1 hst4 hrole => ?announce, fun hen => ?timeout, fun hen hlink hst => ⟨?_, fun hone => ?one, fun htwo => ?two⟩,
    fun hen hlink hst => ?_, fun hv hhost hroom => ?profile⟩
  case free =>
    have hsampled := s.ptpSampled p mpd hlo hhi
    exact ⟨_, exec_ptpOffsetSample_free th mpd hp hslave.1 hslave.2 (mt (hsampled.follows_iff hp).mp hfree), hsampled.offset, hsampled.delay,
      hsampled.count, ⟨hsampled.heard.this, hsampled.heard.others⟩, hsampled.words, hsampled.frame⟩
  case follows =>
    obtain ⟨t, hexec, hofs, hsteered, hheard, hat, htheta, hframe⟩ := State.followed_steers (mpd := mpd) hp hlo hhi hslave.1 hslave.2 hfeeds hsmall
    exact ⟨t, hexec, hofs, hsteered, ⟨hheard.this, hheard.others⟩, hat, htheta, hframe⟩
  case hostSmall =>
    have hexec := exec_servoHostSample (v := wrap32 th) hhost
    rw [State.servoHost_written hlo hhi hen hsrc] at hexec
    have hword (k : Nat) (hk : k ≠ TIME.SRVIN) := s.word_rwWritten_ne (BitVec.ofNat 32 (wrap32 th)) (2 ^ 32 - 1) hk
    have hframe := s.rwWritten_frame TIME.SRVIN (BitVec.ofNat 32 (wrap32 th)) (2 ^ 32 - 1)
    generalize s.rwWritten TIME.SRVIN (BitVec.ofNat 32 (wrap32 th)) (2 ^ 32 - 1) = u at *
    obtain ⟨hsteered, -, -, hservo⟩ := State.servo_small (s := u) hlo hhi (by rw [State.rd_congr (hword _ (by decide))]; exact hsmall)
    exact ⟨_, hexec, hsteered.of_like (hword _ (by decide)) (congrArg Times.integ (hframe.same .times rfl)), (hframe.weaken rfl).trans hservo⟩
  case hostLarge =>
    have hexec := exec_servoHostSample (v := wrap32 th) hhost
    rw [State.servoHost_written hlo hhi hen hsrc] at hexec
    have hword (k : Nat) (hk : k ≠ TIME.SRVIN) := s.word_rwWritten_ne (BitVec.ofNat 32 (wrap32 th)) (2 ^ 32 - 1) hk
    have hframe := s.rwWritten_frame TIME.SRVIN (BitVec.ofNat 32 (wrap32 th)) (2 ^ 32 - 1)
    generalize s.rwWritten TIME.SRVIN (BitVec.ofNat 32 (wrap32 th)) (2 ^ 32 - 1) = u at *
    obtain ⟨hclk, hmark⟩ := State.servo_large (s := u) hlo hhi (by rw [State.rd_congr (hword _ (by decide))]; exact hlarge)
    rw [hframe.same .clk rfl] at hclk
    exact ⟨_, hexec, hclk, hmark, (hframe.weaken rfl).trans (u.servo_frame th)⟩
  case hold =>
    obtain ⟨hen, hsrc, hport⟩ := hfeeds
    obtain ⟨d, hexec⟩ := exec_srvHold hen hsrc hhold (by rw [hport]; exact htime)
    refine ⟨_, hexec, ?_, ?_, Reported.report_of_kept _ _ (by decide) fun k _ _ => ?_, ?_, execSrvHold_frame s _ hexec⟩
    · rw [State.flag_report_clear _ _ _ (by simp only [reportSpares, TIME.servoFields]; omega), State.flag_sqf_clear _ (by decide),
        State.flag_wrFlag_self _ _ (by decide)]
    · rw [State.flag_report_clear _ _ _ (by simp only [reportSpares, TIME.servoFields]; omega), State.flag_sqf_self _ (by decide)]
    · rw [State.word_sqf_ne _ (by simp only [TIME.servoFields]; omega), State.word_wrFlag_ne _ _ (by simp only [TIME.servoFields]; omega)]
    · rw [State.rd_report_clear _ _ _ (by simp only [reportSpares, TIME.servoFields]; omega), State.rd_sqf_clear _ (by decide),
        State.rd_wrFlag_clear _ _ (by simp only [Fld.clear, TIME.servoFields]; omega)]
  case announce =>
    have hexec := exec_ptpAnnounceAccepted steps cls acc hp hen hst1 hst4 hrole
    have hstate (u : State) (hu : u = s.wr (TIME.PTP_CFG.STATE p) st) : u.rd (TIME.PTP_CFG.STATE p) = st := by
      rw [hu, State.rd_wr_self _ (by simp only [TIME.ptpFields]; omega)]
    refine ⟨_, hexec, ?_, fun h1 => ?_, fun k hcfg hparent => ?_, execPtpAnnounceAccepted_frame p st steps cls acc s _ hexec⟩
    · split
      · rw [State.rd_wr_clear _ _ (by simp only [Fld.clear, TIME.ptpFields]; omega), State.rd_wr_clear _ _ (by simp only [Fld.clear, TIME.ptpFields]; omega),
          State.rd_wr_clear _ _ (by simp only [Fld.clear, TIME.ptpFields]; omega), hstate _ rfl]
      · exact hstate _ rfl
    · rw [if_pos h1]
      refine ⟨?_, ?_, State.rd_wr_same _ _ _ (by simp only [TIME.ptpFields]; omega)⟩
      · rw [State.rd_wr_clear _ _ (by simp only [Fld.clear, TIME.ptpFields]; omega), State.rd_wr_clear _ _ (by simp only [Fld.clear, TIME.ptpFields]; omega)]
        exact State.rd_wr_same _ _ _ (by simp only [TIME.ptpFields]; omega)
      · rw [State.rd_wr_clear _ _ (by simp only [Fld.clear, TIME.ptpFields]; omega)]
        exact State.rd_wr_same _ _ _ (by simp only [TIME.ptpFields]; omega)
    · split
      · rw [State.word_wr_ne _ _ hparent, State.word_wr_ne _ _ hparent, State.word_wr_ne _ _ hparent, State.word_wr_ne _ _ hcfg]
      · exact State.word_wr_ne _ _ hcfg
  case timeout =>
    have hexec := exec_ptpAnnounceReceiptTimeout hp hen
    refine ⟨_, hexec, State.rd_wr_self _ ⟨by simp only [TIME.ptpFields]; omega, ?_⟩, fun k hk => State.word_wr_ne _ _ hk,
      execPtpAnnounceReceiptTimeout_frame p s _ hexec⟩
    simp only [TIME.ptpFields]
    split <;> decide
  case one =>
    have hexec := exec_ptpMessage_sync hp hen hlink hst
    rw [if_pos hone] at hexec
    exact ⟨_, hexec, rfl, execPtpMessageInterval_frame p 0 s _ hexec⟩
  case two =>
    have hexec := exec_ptpMessage_sync hp hen hlink hst
    rw [if_neg (ne_true_of_eq_false htwo)] at hexec
    exact ⟨_, hexec, rfl, execPtpMessageInterval_frame p 0 s _ hexec⟩
  case profile =>
    have hexec := exec_ptpProfileLoad hp hv hhost hroom
    refine ⟨_, hexec, (State.wrFlag_frame ..).same .shadow rfl, State.rd_wr_self _ ⟨by simp only [TIME.ptpFields]; omega, by simp only [TIME.ptpFields]; decide⟩,
      (s.profileTaken_frame ..).seq (State.wrFlag_frame ..) rfl⟩
  · exact ⟨_, exec_ptpMessage_announce hp hen hlink hst, rfl, execPtpMessageInterval_frame p 1 s _ (exec_ptpMessage_announce hp hen hlink hst)⟩
  · exact ⟨_, exec_ptpMessage_request hp hen hlink hst, rfl, execPtpMessageInterval_frame p 2 s _ (exec_ptpMessage_request hp hen hlink hst)⟩

end Sys2Proof.Machine
end

section
/-!
PROOFS. Pulse generators (R383, R399, R400).
-/

namespace Sys2Proof.Machine

/-- Where the fields of a pulse generator stand. -/
theorem TIME.pulseFields (k : Nat) :
    TIME.PG_CFG k = 0x80100 + k * 0x10 ∧ TIME.PG_CFG.EN k = ⟨0x80100 + k * 0x10, 31, 1⟩ ∧ TIME.PG_CFG.POL k = ⟨0x80100 + k * 0x10, 30, 1⟩ ∧
    TIME.PG_CFG.LATE k = ⟨0x80100 + k * 0x10, 28, 2⟩ ∧ TIME.PG_CFG.RUNNING k = ⟨0x80100 + k * 0x10, 27, 1⟩ ∧
    TIME.PG_CFG.ARMED k = ⟨0x80100 + k * 0x10, 26, 1⟩ ∧ TIME.PG_CFG.PIN k = ⟨0x80100 + k * 0x10, 8, 3⟩ ∧
    TIME.PG_START.val k = ⟨0x80104 + k * 0x10, 0, 32⟩ ∧ TIME.PG_PERIOD.val k = ⟨0x80108 + k * 0x10, 0, 32⟩ ∧
    TIME.PG_WIDTH.val k = ⟨0x8010C + k * 0x10, 0, 32⟩ := by
  and_intros <;> rfl

/-! ## The store of pulses -/

theorem State.pulse_setPulse_same (s : State) (k : Nat) (x : Pulse) : (s.setPulse k x).pulse k = x := Store.get_set_same _ _ _ _

theorem State.pulse_setPulse_ne (s : State) {k j : Nat} (x : Pulse) (h : j ≠ k) : (s.setPulse k x).pulse j = s.pulse j := Store.get_set_ne _ _ _ h

theorem State.pulse_congr {s t : State} (h : t.times = s.times) (k : Nat) : t.pulse k = s.pulse k := by rw [State.pulse, h, State.pulse]

@[simp] theorem State.rd_setPulse (s : State) (k : Nat) (x : Pulse) (f : Fld) : (s.setPulse k x).rd f = s.rd f := State.rd_congr rfl
@[simp] theorem State.flag_setPulse (s : State) (k : Nat) (x : Pulse) (f : Fld) : (s.setPulse k x).flag f = s.flag f := State.flag_congr rfl

/-- From `s` to `t` generator `k` has the pulse `x`, and no other generator changes. -/
structure PulseSet (k : Nat) (x : Pulse) (s t : State) : Prop where
  this : t.pulse k = x
  others : ∀ j, j ≠ k → t.pulse j = s.pulse j

theorem PulseSet.setPulse {s t : State} {k : Nat} (x : Pulse) (h : t.times = s.times) : PulseSet k x s (t.setPulse k x) :=
  ⟨t.pulse_setPulse_same k x, fun _ hj => (t.pulse_setPulse_ne x hj).trans (State.pulse_congr h _)⟩

theorem PulseSet.again {s t u : State} {k : Nat} {x y : Pulse} (h : PulseSet k x s t) (hu : PulseSet k y t u) : PulseSet k y s u :=
  ⟨hu.this, fun j hj => (hu.others j hj).trans (h.others j hj)⟩

theorem PulseSet.of_times {s t u : State} {k : Nat} {x : Pulse} (h : PulseSet k x s t) (hu : u.times = t.times) : PulseSet k x s u :=
  ⟨(State.pulse_congr hu k).trans h.this, fun j hj => (State.pulse_congr hu j).trans (h.others j hj)⟩

/-- The state with a generator's ARMED and RUNNING. -/
def State.pgShown (s : State) (k : Nat) (armed running : Bool) : State := (s.wrFlag (TIME.PG_CFG.ARMED k) armed).wrFlag (TIME.PG_CFG.RUNNING k) running

theorem State.pgShown_fields (s : State) (k : Nat) (armed running : Bool) : (s.pgShown k armed running).flag (TIME.PG_CFG.ARMED k) = armed ∧
    (s.pgShown k armed running).flag (TIME.PG_CFG.RUNNING k) = running ∧ (s.pgShown k armed running).times = s.times ∧
    (∀ j, j ≠ TIME.PG_CFG k → (s.pgShown k armed running).word j = s.word j) := by
  refine ⟨?_, ?_, ?_, fun j hj => ?_⟩
  · rw [State.pgShown, State.flag_wrFlag_clear _ _ (by simp only [Fld.clear, TIME.pulseFields]; omega),
      State.flag_wrFlag_self _ _ (by simp only [TIME.pulseFields]; omega)]
  · rw [State.pgShown, State.flag_wrFlag_self _ _ (by simp only [TIME.pulseFields]; omega)]
  · rw [State.pgShown, State.wrFlag_times, State.wrFlag_times]
  · rw [State.pgShown, State.word_wrFlag_ne _ _ hj, State.word_wrFlag_ne _ _ hj]

/-- A generator that has stopped is neither armed nor running. -/
def PgEnded (k : Nat) (t : State) : Prop := t.flag (TIME.PG_CFG.ARMED k) = false ∧ t.flag (TIME.PG_CFG.RUNNING k) = false

theorem PgEnded.of_live {k : Nat} {t u : State} (h : PgEnded k t) (hu : u.live = t.live) : PgEnded k u :=
  ⟨(State.flag_congr (State.word_congr hu _)).trans h.1, (State.flag_congr (State.word_congr hu _)).trans h.2⟩

theorem State.pgEnd_eq (s : State) (k : Nat) : s.pgEnd k =
    (s.pgShown k false false).setPulse k { (s.pgShown k false false).pulse k with trail := none, stop := false } := rfl

theorem State.pgEnd_fields (s : State) (k : Nat) : PgEnded k (s.pgEnd k) ∧ PulseSet k { s.pulse k with trail := none, stop := false } s (s.pgEnd k) ∧
    (∀ j, j ≠ TIME.PG_CFG k → (s.pgEnd k).word j = s.word j) := by
  obtain ⟨harmed, hrunning, htimes, hword⟩ := s.pgShown_fields k false false
  rw [State.pgEnd_eq]
  generalize s.pgShown k false false = u at *
  rw [State.pulse_congr htimes]
  exact ⟨⟨(State.flag_setPulse ..).trans harmed, (State.flag_setPulse ..).trans hrunning⟩, .setPulse _ htimes,
    fun j hj => (State.word_congr rfl j).trans (hword j hj)⟩

/-! ## ARM (R399) -/

/-- The values with which ARM is legal. -/
def State.pgLegal (s : State) (k : Nat) : Prop :=
  s.rd (TIME.PG_CFG.LATE k) ≠ 3 ∧ (s.rd (TIME.PG_PERIOD.val k) = 0 ∨ s.rd (TIME.PG_WIDTH.val k) < s.rd (TIME.PG_PERIOD.val k))

/-- The pulse that the registers program. -/
def State.pgProgrammed (s : State) (k : Nat) : Pulse :=
  { s.pulse k with period := s.rd (TIME.PG_PERIOD.val k), width := s.rd (TIME.PG_WIDTH.val k), pin := s.rd (TIME.PG_CFG.PIN k),
                   pol := s.flag (TIME.PG_CFG.POL k), stop := false }

def State.pgArmed (s : State) (k : Nat) : State := (s.setPulse k (s.pgProgrammed k)).pgShown k true false

theorem State.pgArm_refused {s : State} {k : Nat} (h : ¬ s.pgLegal k) : s.pgArm k = (s, false) := by
  refine if_pos ?_
  unfold State.pgLegal at h
  omega

theorem State.pgArm_taken {s : State} {k : Nat} (h : s.pgLegal k) (hen : s.flag (TIME.PG_CFG.EN k) = true) :
    s.pgArm k = (((s.pgArmed k).pgJudge k ((s.pgArmed k).rd (TIME.PG_START.val k))).edges s, true) := by
  refine (if_neg ?_).trans (if_neg (by simp [hen]))
  unfold State.pgLegal at h
  omega

theorem State.pgJudge_future {s : State} (k : Nat) {t : Nat} (h : futureTime t s.ns = true) :
    s.pgJudge k t = s.setPulse k { s.pulse k with next := t, then_ := none } := if_pos (if_pos h)

/-- A START in the past is reported, and dropped with the LATE policy DROP where no pulse is in progress. -/
theorem State.pgJudge_dropped {s : State} {k t : Nat} (hk : k < 8) (hpast : 0 < lateBy t s.ns) (hlate : s.rd (TIME.PG_CFG.LATE k) = 0)
    (htrail : (s.pulse k).trail = none) : s.pgJudge k t = ((s.sqf TIME.HIST.LATE).report 0x0804 k (s.rd (TIME.PG_START.val k))).pgEnd k := by
  have hread : ((s.sqf TIME.HIST.LATE).report 0x0804 k (s.rd (TIME.PG_START.val k))).rd (TIME.PG_CFG.LATE k) = 0 := by
    rw [State.rd_report_clear _ _ _ (by simp only [reportSpares, TIME.pulseFields]; omega),
      State.rd_sqf_clear _ (by simp only [TIME.pulseFields, TIME.HIST.LATE, TIME.HIST]; omega), hlate]
  unfold State.pgJudge
  dsimp only
  rw [if_neg (by omega), hread]
  simp [htrail]

theorem State.pgArmed_fields (s : State) (k : Nat) : (s.pgArmed k).flag (TIME.PG_CFG.ARMED k) = true ∧
    (s.pgArmed k).flag (TIME.PG_CFG.RUNNING k) = false ∧ PulseSet k (s.pgProgrammed k) s (s.pgArmed k) ∧
    (∀ j, j ≠ TIME.PG_CFG k → (s.pgArmed k).word j = s.word j) ∧ (s.pgArmed k).clk = s.clk ∧
    (s.pgArmed k).rd (TIME.PG_CFG.LATE k) = s.rd (TIME.PG_CFG.LATE k) ∧ Frame [.live, .times] s (s.pgArmed k) := by
  have hset : PulseSet k (s.pgProgrammed k) s (s.setPulse k (s.pgProgrammed k)) := .setPulse _ rfl
  have hword (j : Nat) : (s.setPulse k (s.pgProgrammed k)).word j = s.word j := State.word_congr rfl j
  have hframe : Frame [.times] s (s.setPulse k (s.pgProgrammed k)) := s.setPulse_frame ..
  unfold State.pgArmed
  generalize s.setPulse k (s.pgProgrammed k) = u at *
  obtain ⟨harmed, hrunning, htimes, hshown⟩ := u.pgShown_fields k true false
  have hshownFrame : Frame [.live] u (u.pgShown k true false) := (State.wrFlag_frame ..).trans (State.wrFlag_frame ..)
  refine ⟨harmed, hrunning, hset.of_times htimes, fun j hj => (hshown j hj).trans (hword j), (hshownFrame.same .clk rfl).trans (hframe.same .clk rfl), ?_,
    (hframe.weaken rfl).trans (hshownFrame.weaken rfl)⟩
  rw [State.pgShown, State.rd_wrFlag_clear _ _ (by simp only [Fld.clear, TIME.pulseFields]; omega),
    State.rd_wrFlag_clear _ _ (by simp only [Fld.clear, TIME.pulseFields]; omega), State.rd_congr (hword _)]

/-! ## The host's commands -/

theorem TIME.pgCfg_masks {k : Nat} (hk : k < 8) : RegMasks (TIME.PG_CFG k) 0xF0000700 0 := by
  interval_cases k <;> exact ⟨_, _, rfl, rfl, rfl, rfl, rfl⟩

theorem State.unitRefuses_pgCfg (s : State) (w : Word) (v : Nat) {k : Nat} (hk : k < 8) : s.unitRefuses (TIME.PG_CFG k) w v true = false := by
  interval_cases k <;> rfl

theorem State.setModes_pgCfg (s : State) (mask : Nat) {k : Nat} (hk : k < 8) : s.setModes (TIME.PG_CFG k) mask = s := by
  refine State.setModes_unwatched _ _ (by unfold TIME.PG_CFG; omega) (by unfold TIME.PG_CFG; omega) ?_ ?_ <;> interval_cases k <;> decide

theorem State.act_pgCfg (s : State) (i v : Nat) (old : Word) {k : Nat} (hk : k < 8) :
    s.act i (TIME.PG_CFG k) v old true = s.pgWrite i k v ((TIME.PG_CFG.EN k).ext old == 1) true := by
  have hfirst : firstBelow (fun q => TIME.PG_CFG k == TIME.PG_CFG q) 8 = some k := by interval_cases k <;> rfl
  unfold State.act
  simp only [show TIME.PG_CFG k / 0x10000 = 0x08 by unfold TIME.PG_CFG; omega]
  rw [if_neg (by unfold TIME.PG_CFG TIME.CTL; omega), if_neg (by unfold TIME.PG_CFG TIME.SRVIN; omega),
    if_neg (by unfold TIME.PG_CFG TIME.LTCTX_CFG; omega), hfirst]

/-- A write of a generator's CFG register acts on the fields that it has written. -/
theorem State.regCommand_pgCfg {s : State} {i : Iface} {k v : Nat} (hk : k < 8) (hv : v < 2 ^ 32) (h : s.hostReaches i (TIME.PG_CFG k) = true) :
    s.regCommand i (TIME.PG_CFG k) v =
      (s.rwWritten (TIME.PG_CFG k) (BitVec.ofNat 32 v) 0xF0000700).pgWrite (ifaceNumber i) k v (s.flag (TIME.PG_CFG.EN k)) true := by
  refine State.regCommand_reached (by unfold NormalSpace TIME.PG_CFG; omega) h ((State.regWrite_rw _ _ (TIME.pgCfg_masks hk) (by decide)
    (s.unitRefuses_pgCfg _ _ hk) (by unfold TIME.PG_CFG EVT.RDSEQ; omega) fun t => t.setModes_pgCfg _ hk).trans ?_)
  rw [State.act_pgCfg _ _ _ _ hk, BitVec.toNat_ofNat, Nat.mod_eq_of_lt hv]
  rfl

/-- The state in which the commands of a write of CFG act. -/
def State.pgWritten (s : State) (k v : Nat) : State := s.rwWritten (TIME.PG_CFG k) (BitVec.ofNat 32 v) 0xF0000700

theorem State.pgWrite_arm {s : State} {k v : Nat} (i : Nat) (was : Bool) (hen : s.flag (TIME.PG_CFG.EN k) = true) (h0 : bit v 0 = true)
    (h1 : bit v 1 = false) : s.pgWrite i k v was true = if (s.pgArm k).2 then (s.pgArm k).1 else s.accErr i (TIME.PG_CFG k) .refused := by
  unfold State.pgWrite
  simp [hen, h0, h1]

theorem State.pgWrite_stop {s : State} {k v : Nat} (i : Nat) (was : Bool) (h0 : bit v 0 = false) (h1 : bit v 1 = true) :
    s.pgWrite i k v was true = if was && !s.flag (TIME.PG_CFG.EN k) then (s.pgStop k).pgStop k else s.pgStop k := by
  unfold State.pgWrite
  simp only [h0, h1, Bool.not_true, Bool.false_eq_true, if_false, if_true]
  split <;> rfl

theorem exec_pgArm {s : State} {i : Iface} {k v : Nat} (hk : k < 8) (hv : v < 2 ^ 32) (h : s.hostReaches i (TIME.PG_CFG k) = true)
    (hstop : v.testBit 1 = false) (hen : (s.pgWritten k (v ||| 1)).flag (TIME.PG_CFG.EN k) = true) : exec (.pgArm i k v) s =
      .next (if ((s.pgWritten k (v ||| 1)).pgArm k).2 then ((s.pgWritten k (v ||| 1)).pgArm k).1
        else (s.pgWritten k (v ||| 1)).accErr (ifaceNumber i) (TIME.PG_CFG k) .refused) := by
  have hcommand : exec (.pgArm i k v) s = .next (s.regCommand i (TIME.PG_CFG k) (v ||| 1)) := congrArg _ (if_pos hk)
  exact hcommand.trans (congrArg _ ((State.regCommand_pgCfg hk (or_lt_word hv (b := 0) (by decide)) h).trans
    (State.pgWrite_arm _ _ hen (bit_or_self v 0) ((bit_or_ne (b := 0) v (by decide)).trans hstop))))

theorem exec_pgStop {s : State} {i : Iface} {k v : Nat} (hk : k < 8) (hv : v < 2 ^ 32) (h : s.hostReaches i (TIME.PG_CFG k) = true) :
    exec (.pgStop i k v) s = .next ((s.pgWritten k (clearBit v 0 ||| 2)).pgStop k) ∨
      exec (.pgStop i k v) s = .next (((s.pgWritten k (clearBit v 0 ||| 2)).pgStop k).pgStop k) := by
  have hcommand : exec (.pgStop i k v) s = .next (s.regCommand i (TIME.PG_CFG k) (clearBit v 0 ||| 2)) := congrArg _ (if_pos hk)
  obtain ⟨h0, h1⟩ := bit_clearBit_zero v
  have hstop := (State.regCommand_pgCfg hk (or_lt_word (clearBit_lt 0 hv) (b := 1) (by decide)) h).trans (State.pgWrite_stop _ _ h0 h1)
  split at hstop
  · exact .inr (hcommand.trans (congrArg _ hstop))
  · exact .inl (hcommand.trans (congrArg _ hstop))

/-- What STOP makes of the pulse (R400). -/
structure PgStopped (k : Nat) (s t : State) : Prop where
  others : ∀ j, j ≠ k → t.pulse j = s.pulse j
  running : (s.pulse k).trail.isSome = true → t.pulse k = { s.pulse k with stop := true }
  idle : (s.pulse k).trail = none → t.pulse k = { s.pulse k with stop := false } ∧ PgEnded k t

theorem State.pgStop_stopped (s : State) (k : Nat) : PgStopped k s (s.pgStop k) := by
  unfold State.pgStop
  dsimp only
  split
  · next h => exact ⟨fun _ hj => s.pulse_setPulse_ne _ hj, fun _ => s.pulse_setPulse_same k _, fun hnone => absurd h (by simp [hnone])⟩
  · next h =>
    obtain ⟨hended, hset, -⟩ := s.pgEnd_fields k
    exact ⟨hset.others, fun hsome => absurd hsome h, fun hnone => ⟨by rw [hset.this, ← hnone], hended⟩⟩

theorem PgStopped.of_times {k : Nat} {s u t : State} (h : PgStopped k u t) (hu : u.times = s.times) : PgStopped k s t := by
  have hpulse := State.pulse_congr hu
  exact ⟨fun j hj => (h.others j hj).trans (hpulse j), by simpa only [hpulse] using h.running, by simpa only [hpulse] using h.idle⟩

/-- A second STOP changes nothing that the first has done. -/
theorem PgStopped.again {k : Nat} {s t u : State} (h : PgStopped k s t) (hu : PgStopped k t u) : PgStopped k s u := by
  refine ⟨fun j hj => (hu.others j hj).trans (h.others j hj), fun hsome => ?_, fun hnone => ?_⟩
  · have hpulse := h.running hsome
    rw [hu.running (by rw [hpulse]; exact hsome), hpulse]
  · obtain ⟨hpulse, -⟩ := h.idle hnone
    obtain ⟨hagain, hended⟩ := hu.idle (by rw [hpulse]; exact hnone)
    exact ⟨by rw [hagain, hpulse], hended⟩

/-! ## Edges (R399) -/

/-- A leading edge: the pulse runs, and the next one is due a period later. -/
def Pulse.led (x : Pulse) : Pulse :=
  { x with next := x.then_.getD ((x.next + x.period) % 2 ^ 32), then_ := none,
           trail := if x.width = 0 then none else some ((x.next + x.width) % 2 ^ 32) }

theorem exec_pgLeadingEdge {s : State} {k : Nat} (hk : k < 8) (hen : s.flag (TIME.PG_CFG.EN k) = true) (hlive : s.pgLive k = true)
    (htrail : (s.pulse k).trail = none) (hstop : (s.pulse k).stop = false) (htime : reachedTime (s.pulse k).next s.ns = true)
    (hwidth : (s.pulse k).width ≠ 0 ∨ (s.pulse k).period ≠ 0) : exec (.pgLeadingEdge k) s =
      .next (((s.pgShown k false true).setPulse k (s.pulse k).led).edges s) := by
  have hexec : exec (.pgLeadingEdge k) s = .next (State.edges (if (s.pulse k).width = 0 ∧ (s.pulse k).period = 0 then
      ((s.pgShown k false true).setPulse k (s.pulse k).led).pgEnd k else (s.pgShown k false true).setPulse k (s.pulse k).led) s) :=
    congrArg _ (if_pos ⟨hk, hen, hlive, htrail, ne_true_of_eq_false hstop, htime⟩)
  rw [hexec, if_neg (by omega)]

theorem exec_pgTrailingEdge {s : State} {k t : Nat} (hk : k < 8) (htrail : (s.pulse k).trail = some t) (htime : reachedTime t s.ns = true) :
    exec (.pgTrailingEdge k) s =
      .next ((if (s.pulse k).period = 0 ∨ (s.pulse k).stop then s.pgEnd k else s.setPulse k { s.pulse k with trail := none }).edges s) := by
  show execPgTrailingEdge k s = _
  unfold execPgTrailingEdge
  dsimp only
  rw [htrail]
  exact congrArg _ (if_pos ⟨hk, htime⟩)

/-! ## The obligation -/

theorem State.ns_congr {s t : State} (h : t.clk = s.clk) : t.ns = s.ns := by rw [State.ns, State.timeNs, h, State.ns, State.timeNs]

/-- An edge of the pins changes nothing but the outputs. -/
theorem State.edges_kept (s old : State) : (s.edges old).live = s.live ∧ (s.edges old).times = s.times :=
  ⟨(s.edges_frame old).same .live rfl, (s.edges_frame old).same .times rfl⟩

/-- ARM for a START to come. -/
theorem State.pgArm_future {s : State} {k : Nat} (hlegal : s.pgLegal k) (hen : s.flag (TIME.PG_CFG.EN k) = true)
    (hfuture : futureTime (s.rd (TIME.PG_START.val k)) s.ns = true) : (s.pgArm k).2 = true ∧
      PulseSet k { s.pgProgrammed k with next := s.rd (TIME.PG_START.val k), then_ := none } s (s.pgArm k).1 ∧
      (s.pgArm k).1.flag (TIME.PG_CFG.ARMED k) = true ∧ (s.pgArm k).1.flag (TIME.PG_CFG.RUNNING k) = false ∧
      Frame [.live, .times, .out] s (s.pgArm k).1 := by
  obtain ⟨harmed, hrunning, hset, hword, hclk, -, hframe⟩ := s.pgArmed_fields k
  rw [State.pgArm_taken hlegal hen]
  have hstart : (s.pgArmed k).rd (TIME.PG_START.val k) = s.rd (TIME.PG_START.val k) := State.rd_congr (hword _ (by simp only [TIME.pulseFields, ne_eq]; omega))
  rw [hstart]
  generalize s.pgArmed k = u at *
  rw [State.pgJudge_future k (by rw [State.ns_congr hclk]; exact hfuture), hset.this]
  have hnext := hset.again (PulseSet.setPulse (s := u) { s.pgProgrammed k with next := s.rd (TIME.PG_START.val k), then_ := none } rfl)
  have hflag := fun f => u.flag_setPulse k { s.pgProgrammed k with next := s.rd (TIME.PG_START.val k), then_ := none } f
  have hjudged := hframe.trans ((u.setPulse_frame k { s.pgProgrammed k with next := s.rd (TIME.PG_START.val k), then_ := none }).weaken rfl)
  generalize u.setPulse k { s.pgProgrammed k with next := s.rd (TIME.PG_START.val k), then_ := none } = w at *
  obtain ⟨hlive, htimes⟩ := w.edges_kept s
  have hedges := fun f => State.flag_congr (f := f) (State.word_congr hlive _)
  exact ⟨rfl, hnext.of_times htimes, (hedges _).trans ((hflag _).trans harmed), (hedges _).trans ((hflag _).trans hrunning),
    (hjudged.weaken rfl).seq (w.edges_frame s) rfl⟩

/-- ARM for a START that has passed, with the LATE policy DROP and no pulse in progress. -/
theorem State.pgArm_dropped {s : State} {k : Nat} (hk : k < 8) (hlegal : s.pgLegal k) (hen : s.flag (TIME.PG_CFG.EN k) = true)
    (hpast : 0 < lateBy (s.rd (TIME.PG_START.val k)) s.ns) (hlate : s.rd (TIME.PG_CFG.LATE k) = 0) (htrail : (s.pulse k).trail = none) :
    (s.pgArm k).2 = true ∧ PgEnded k (s.pgArm k).1 ∧ (s.pgArm k).1.flag TIME.HIST.LATE = true ∧ Reported 0x0804 s (s.pgArm k).1 := by
  obtain ⟨-, -, hset, hword, hclk, hlateKept, -⟩ := s.pgArmed_fields k
  rw [State.pgArm_taken hlegal hen]
  have hstart : (s.pgArmed k).rd (TIME.PG_START.val k) = s.rd (TIME.PG_START.val k) := State.rd_congr (hword _ (by simp only [TIME.pulseFields, ne_eq]; omega))
  rw [hstart]
  generalize s.pgArmed k = u at *
  have hnone : (u.pulse k).trail = none := by rw [hset.this]; exact htrail
  rw [State.pgJudge_dropped hk (by rw [State.ns_congr hclk]; exact hpast) (hlateKept.trans hlate) hnone, hstart]
  have hreported : Reported 0x0804 s ((u.sqf TIME.HIST.LATE).report 0x0804 k (s.rd (TIME.PG_START.val k))) :=
    Reported.report_of_kept _ _ (by decide) fun j _ _ => by
      rw [State.word_sqf_ne _ (by simp only [TIME.HIST.LATE, TIME.HIST]; omega), hword _ (by simp only [TIME.pulseFields]; omega)]
  have hmark : ((u.sqf TIME.HIST.LATE).report 0x0804 k (s.rd (TIME.PG_START.val k))).flag TIME.HIST.LATE = true := by
    rw [State.flag_report_clear _ _ _ (by simp only [reportSpares, TIME.HIST.LATE, TIME.HIST]; omega), State.flag_sqf_self _ (by decide)]
  generalize (u.sqf TIME.HIST.LATE).report 0x0804 k (s.rd (TIME.PG_START.val k)) = w at *
  obtain ⟨hended, -, hkept⟩ := w.pgEnd_fields k
  generalize w.pgEnd k = z at *
  obtain ⟨hlive, -⟩ := z.edges_kept s
  have hedges := fun j => State.word_congr hlive j
  refine ⟨rfl, hended.of_live hlive, (State.flag_congr ((hedges _).trans (hkept _ ?_))).trans hmark,
    hreported.of_kept (by decide) fun j _ _ => (hedges j).trans (hkept j ?_)⟩
  · simp only [TIME.pulseFields, TIME.HIST.LATE, TIME.HIST]; omega
  · simp only [TIME.pulseFields]; omega

/-- What the write of CFG leaves for its commands. -/
theorem State.pgWritten_kept (s : State) (k v : Nat) : (∀ j, j ≠ TIME.PG_CFG k → (s.pgWritten k v).word j = s.word j) ∧
    (s.pgWritten k v).times = s.times ∧ (s.pgWritten k v).clk = s.clk ∧ Frame [.live] s (s.pgWritten k v) :=
  have hframe := s.rwWritten_frame (TIME.PG_CFG k) (BitVec.ofNat 32 v) 0xF0000700
  ⟨fun _ hj => s.word_rwWritten_ne _ _ hj, hframe.same .times rfl, hframe.same .clk rfl, hframe⟩

theorem State.pgWritten_programmed (s : State) (k v : Nat) : (s.pgWritten k v).rd (TIME.PG_START.val k) = s.rd (TIME.PG_START.val k) ∧
    (s.pgWritten k v).rd (TIME.PG_PERIOD.val k) = s.rd (TIME.PG_PERIOD.val k) ∧
    (s.pgWritten k v).rd (TIME.PG_WIDTH.val k) = s.rd (TIME.PG_WIDTH.val k) := by
  refine ⟨?_, ?_, ?_⟩ <;> exact State.rd_congr ((s.pgWritten_kept k v).1 _ (by simp only [TIME.pulseFields, ne_eq]; omega))

/-- Settles O40: what the commands and the edges make of a pulse is stated for its record in the store, others apart. -/
theorem pulseGeneratorsArmPulseAndStop : Obligations.PulseGeneratorsArmPulseAndStop := by
  unfold Obligations.PulseGeneratorsArmPulseAndStop
  intro i k v s x start period width u legal host ended hk
  refine ⟨fun hhost hstop hlegal hen hfuture => ?future, fun hhost hstop hlegal hen hpast hlate htrail => ?dropped, fun hhost hstop hbad hen => ?refused,
    fun hhost => ?stop, fun hen hlive htrail hstop htime hwidth => ?leading, fun t0 htrail htime => ?trailing⟩
  case future =>
    obtain ⟨hv, hreach⟩ := hhost
    obtain ⟨hword, htimes, hclk, hframe⟩ := s.pgWritten_kept k (v ||| 1)
    have hexec := exec_pgArm hk hv hreach hstop hen
    obtain ⟨hstart, hperiod, hwidth⟩ := s.pgWritten_programmed k (v ||| 1)
    obtain ⟨hok, hset, harmed, hrunning, harm⟩ := State.pgArm_future (s := s.pgWritten k (v ||| 1)) (k := k)
      (by rw [State.pgLegal, hperiod, hwidth]; exact hlegal) hen (by rw [hstart, State.ns_congr hclk]; exact hfuture)
    rw [if_pos hok] at hexec
    refine ⟨_, hexec, ?_, harmed, hrunning, fun j hj => (hset.others j hj).trans (State.pulse_congr htimes j), (hframe.weaken rfl).trans harm⟩
    rw [hset.this, hstart, State.pgProgrammed, hperiod, hwidth, State.pulse_congr htimes]
    rfl
  case dropped =>
    obtain ⟨hv, hreach⟩ := hhost
    obtain ⟨hword, htimes, hclk, hframe⟩ := s.pgWritten_kept k (v ||| 1)
    have hexec := exec_pgArm hk hv hreach hstop hen
    obtain ⟨hstart, hperiod, hwidth⟩ := s.pgWritten_programmed k (v ||| 1)
    obtain ⟨hok, hended, hmark, hreported⟩ := State.pgArm_dropped (s := s.pgWritten k (v ||| 1)) hk
      (by rw [State.pgLegal, hperiod, hwidth]; exact hlegal) hen (by rw [hstart, State.ns_congr hclk]; exact hpast) hlate
      (by rw [State.pulse_congr htimes]; exact htrail)
    rw [if_pos hok] at hexec
    refine ⟨_, hexec, hended, hmark, hreported.after (hword _ ?_) (hword _ ?_), (hframe.weaken rfl).trans (State.pgArm_frame ..)⟩
    · simp only [TIME.pulseFields, EVT.BLKCNT]; omega
    · simp only [TIME.pulseFields, EVT.IPEND]; omega
  case refused =>
    obtain ⟨hv, hreach⟩ := hhost
    obtain ⟨hword, htimes, hclk, hframe⟩ := s.pgWritten_kept k (v ||| 1)
    have hexec := exec_pgArm hk hv hreach hstop hen
    obtain ⟨-, hperiod, hwidth⟩ := s.pgWritten_programmed k (v ||| 1)
    rw [State.pgArm_refused (by rw [State.pgLegal, hperiod, hwidth]; exact hbad), if_neg Bool.false_ne_true] at hexec
    obtain ⟨-, -, -, hreported, -, herr⟩ := (s.pgWritten k (v ||| 1)).accErr_recorded (ifaceNumber i) (TIME.PG_CFG k) .refused
    refine ⟨_, hexec, hreported.after (hword _ ?_) (hword _ ?_), (herr.same .times rfl).trans htimes, (hframe.weaken rfl).trans herr⟩
    · simp only [TIME.pulseFields, EVT.BLKCNT]; omega
    · simp only [TIME.pulseFields, EVT.IPEND]; omega
  case stop =>
    obtain ⟨hv, hreach⟩ := hhost
    obtain ⟨-, htimes, -, hframe⟩ := s.pgWritten_kept k (clearBit v 0 ||| 2)
    have hexec := exec_pgStop hk hv hreach
    generalize s.pgWritten k (clearBit v 0 ||| 2) = w at *
    have hfirst := (w.pgStop_stopped k).of_times htimes
    have hfirstFrame : Frame [.live, .times] s (w.pgStop k) := (hframe.weaken rfl).trans (w.pgStop_frame k)
    rcases hexec with hexec | hexec
    · exact ⟨_, hexec, hfirst.others, hfirst.running, hfirst.idle, hfirstFrame⟩
    · have hagain := hfirst.again ((w.pgStop k).pgStop_stopped k)
      exact ⟨_, hexec, hagain.others, hagain.running, hagain.idle, hfirstFrame.trans (State.pgStop_frame ..)⟩
  case leading =>
    obtain ⟨harmed, hrunning, htimes, -⟩ := s.pgShown_fields k false true
    have hexec := exec_pgLeadingEdge hk hen hlive htrail hstop htime hwidth
    have hframe := execPgLeadingEdge_frame k s _ hexec
    have hset := PulseSet.setPulse (k := k) (s.pulse k).led htimes
    have hflag := fun f => (s.pgShown k false true).flag_setPulse k (s.pulse k).led f
    generalize (s.pgShown k false true).setPulse k (s.pulse k).led = w at *
    obtain ⟨hlive, htimes⟩ := w.edges_kept s
    have hedges := fun f => State.flag_congr (f := f) (State.word_congr hlive _)
    have hset := hset.of_times htimes
    exact ⟨_, hexec, (hedges _).trans ((hflag _).trans harmed), (hedges _).trans ((hflag _).trans hrunning), hset.this, hset.others, hframe⟩
  case trailing =>
    have hexec := exec_pgTrailingEdge hk htrail htime
    have hframe := execPgTrailingEdge_frame k s _ hexec
    obtain ⟨hended, hset, -⟩ := s.pgEnd_fields k
    by_cases hlast : (s.pulse k).period = 0 ∨ (s.pulse k).stop = true
    · rw [if_pos hlast] at hexec hframe
      generalize s.pgEnd k = w at *
      obtain ⟨hlive, htimes⟩ := w.edges_kept s
      have hset := hset.of_times htimes
      refine ⟨_, hexec, by rw [hset.this], fun _ => hended.of_live hlive, fun hp hs => ?_, hset.others, hframe⟩
      exact absurd hlast (by rw [not_or]; exact ⟨hp, ne_true_of_eq_false hs⟩)
    · rw [if_neg hlast] at hexec hframe
      have hset := PulseSet.setPulse (k := k) { s.pulse k with trail := none } (rfl : s.times = s.times)
      have hkept := (s.setPulse_frame k { s.pulse k with trail := none }).same .live rfl
      generalize s.setPulse k { s.pulse k with trail := none } = w at *
      obtain ⟨hlive, htimes⟩ := w.edges_kept s
      have hset := hset.of_times htimes
      exact ⟨_, hexec, by rw [hset.this], fun h => absurd h hlast, fun _ _ => hlive.trans hkept, hset.others, hframe⟩

end Sys2Proof.Machine
end

section
/-!
PROOFS. Cue sends and timecode (R403, R404, R407, R408).
-/

namespace Sys2Proof.Machine

/-! ## Cue sends (R403, R404) -/

theorem State.port_setPort_ne (s : State) {x y : Nat} (p : Port) (h : y ≠ x) : (s.setPort x p).port y = s.port y := Store.get_set_ne _ _ _ h

theorem exec_cueLineHold {s : State} {n x : Nat} {c : CueEntry} (hfind : s.cueEntry n = some c) (howes : c.owes x = true)
    (hholds : (s.port x).holds.contains n = false)
    (htime : reachedTime ((c.at_ + 2 ^ 32 - s.wireNs x (s.rd (NET.CFG.MAXFRAME x) - 4) % 2 ^ 32) % 2 ^ 32) s.ns = true) :
    exec (.cueLineHold n x) s = .next (s.setPort x { s.port x with holds := n :: (s.port x).holds }) := by
  show execCueLineHold n x s = _
  unfold execCueLineHold
  rw [hfind]
  exact congrArg _ (if_pos ⟨howes, ne_true_of_eq_false hholds, htime⟩)

/-- Entry `n` of the cue list is served: of its words only its state word may change. -/
theorem State.cueServed_word (s : State) (n x : Nat) (c : CueEntry) (sent : Bool) {j : Nat} (h : j ≠ CLS.word n 0) :
    (s.cueServed n x c sent).word j = s.word j := by
  have hstate (u : State) (st : Nat) : (u.cueState n st).word j = u.word j := by
    unfold State.cueState
    split
    · rfl
    · exact u.word_wr_ne _ h
  have hreleased : (s.releaseLine n x).word j = s.word j := State.word_congr rfl j
  unfold State.cueServed
  extract_lets u w owed
  have hw : w.word j = s.word j := by
    unfold w
    split
    · rw [State.word_setNum_ne _ _ h, hreleased]
    · exact hreleased
  clear_value w
  split
  · split
    · exact (hstate _ _).trans ((State.word_congr rfl j).trans hw)
    · exact (hstate _ _).trans ((State.word_congr rfl j).trans hw)
  · exact (State.word_congr rfl j).trans hw

/-- A send that is more than 8 ns late is counted and reported (R404). -/
def State.cueSlip (s : State) (n : Nat) (c : CueEntry) : State :=
  let late := (s.ns + 2 ^ 32 - c.at_) % 2 ^ 32
  if 8 < late then
    let w := s.num (CLS.word n 2)
    let s := s.setNum (CLS.word n 2) (w / 2 ^ 16 * 2 ^ 16 + (w + 1) % 2 ^ 16)
    (s.sqf TIME.HIST.CUESLIP).report 0x0807 n late
  else s

/-- The frame of a cue goes out on port `x`. -/
def State.cueFrame (s : State) (x : Nat) (c : CueEntry) : State :=
  let s := s.setPort x { s.port x with freeAt := s.clk.now + s.wireNs x c.frame.length }
  (s.inc (NET.TXFRAMES.val x)).emit (.frame x c.frame)

/-- The time of a send, in the entry's words. -/
def State.cueStamped (s : State) (n : Nat) : State := s.setNum (CLS.word n 1) s.ns

section
variable {s : State} {n x : Nat} {c : CueEntry} (hfind : s.cueEntry n = some c) (howes : c.owes x = true) (htime : reachedTime c.at_ s.ns = true)
  (hfirst : s.cueFirst n x c = true)
include hfind howes htime hfirst

theorem exec_cueSend_sent (hlink : s.flag (NET.STAT.LINK x) = true) (hsending : (s.port x).sending = none) (hfree : (s.port x).freeAt ≤ s.clk.now)
    (hpath : ((s.cueSlip n c).cueStamped n).sendsPath x = true) :
    exec (.cueSend n x) s = .next ((((s.cueSlip n c).cueStamped n).cueFrame x c).cueServed n x c true) := by
  show execCueSend n x s = _
  unfold execCueSend
  rw [hfind]
  exact congrArg _ ((if_pos ⟨howes, htime, hfirst⟩).trans ((if_neg (not_not.mpr hlink)).trans ((if_pos ⟨hsending, hfree⟩).trans
    (congrArg (fun u => State.cueServed u n x c true) (if_pos hpath)))))

theorem exec_cueSend_missed (hlink : s.flag (NET.STAT.LINK x) = false) : exec (.cueSend n x) s =
    .next ((s.setNum (CLS.word n 2) (s.num (CLS.word n 2) % 2 ^ 16 + (s.num (CLS.word n 2) / 2 ^ 16 + 1) % 2 ^ 16 * 2 ^ 16)).cueServed n x c false) := by
  show execCueSend n x s = _
  unfold execCueSend
  rw [hfind]
  exact congrArg _ ((if_pos ⟨howes, htime, hfirst⟩).trans (if_pos (ne_true_of_eq_false hlink)))

end

/-- A slip changes no word below CLS but those of its report and its mark. -/
theorem State.cueSlip_kept (s : State) (n : Nat) (c : CueEntry) : (∀ j, 0x23000 ≤ j → j < 0x80341000 → j ≠ TIME.HIST → (s.cueSlip n c).word j = s.word j) ∧
    Frame [.live, .evt, .out] s (s.cueSlip n c) := by
  unfold State.cueSlip
  dsimp only
  split
  · refine ⟨fun j hlo hhi hh => ?_, (((State.setNum_frame ..).trans (State.sqf_frame ..)).weaken rfl).trans (State.report_frame ..)⟩
    rw [State.report_word _ _ _ _ (reportSpares.not_reportKey ⟨.inr hlo, by omega⟩) (by decide), State.word_sqf_ne _ hh,
      State.word_setNum_ne _ _ (by unfold CLS.word; omega)]
  · exact ⟨fun _ _ _ _ => rfl, .refl _ s⟩

theorem State.sendsPath_congr {s t : State} (hstat : t.word PAIR.STAT = s.word PAIR.STAT) (hpair : t.pair = s.pair) (x : Nat) :
    t.sendsPath x = s.sendsPath x := by
  unfold State.sendsPath State.role State.partner
  rw [State.rd_congr (f := PAIR.STAT.ROLE) hstat, State.rd_congr (f := PAIR.STAT.PARTNER) hstat, hpair]

theorem State.cueFrame_fields (s : State) (x : Nat) (c : CueEntry) :
    (s.cueFrame x c).rd (NET.TXFRAMES.val x) = (s.rd (NET.TXFRAMES.val x) + 1) % 2 ^ 32 ∧ Output.frame x c.frame ∈ (s.cueFrame x c).out ∧
      (∀ j, j ≠ NET.TXFRAMES x → (s.cueFrame x c).word j = s.word j) := by
  have hrd (p : Port) (f : Fld) : (s.setPort x p).rd f = s.rd f := State.rd_congr rfl
  have hword (p : Port) (j : Nat) : (s.setPort x p).word j = s.word j := State.word_congr rfl j
  unfold State.cueFrame
  dsimp only
  generalize hp : { s.port x with freeAt := s.clk.now + s.wireNs x c.frame.length } = p
  have hrd := hrd p
  have hword := hword p
  generalize s.setPort x p = u at *
  refine ⟨?_, List.mem_cons_self, fun j hj => ?_⟩
  · rw [State.rd_emit, State.rd_inc_same _ (by unfold NET.TXFRAMES.val; dsimp only; omega), hrd]
    rfl
  · rw [State.word_emit, State.word_inc_ne _ hj, hword]

/-! ## Timecode (R407, R408) -/

/-- Where the registers of the timecode reader stand. -/
theorem TIME.readerFields :
    TIME.LTCRX_STAT.STATE = ⟨0x80204, 30, 2⟩ ∧ TIME.LTCRX_STAT.RATE = ⟨0x80204, 27, 3⟩ ∧ TIME.LTCRX_STAT.FLAGS = ⟨0x80204, 22, 5⟩ ∧
    TIME.LTCRX_STAT.SPEED = ⟨0x80204, 0, 16⟩ ∧ TIME.LTCRX_TC.val = ⟨0x80208, 0, 32⟩ ∧ TIME.LTCRX_UB.val = ⟨0x8020C, 0, 32⟩ ∧
    TIME.LTCRX_NS.val = ⟨0x80210, 0, 32⟩ ∧ TIME.LTCRX_SEQ.val = ⟨0x80214, 0, 32⟩ ∧ TIME.HIST.LTCDISCONT = ⟨0x80300, 7, 1⟩ ∧
    TIME.HIST.LTCLOST = ⟨0x80300, 6, 1⟩ := by
  and_intros <;> rfl

/-- The registers of a decoded frame. -/
def State.ltcShown (s : State) (tc ub flags rate speed : Nat) : State :=
  let s := (((s.wr TIME.LTCRX_TC.val tc).wr TIME.LTCRX_UB.val ub).wr TIME.LTCRX_STAT.FLAGS flags).wr TIME.LTCRX_NS.val s.ns
  ((s.wr TIME.LTCRX_STAT.RATE rate).wr TIME.LTCRX_STAT.SPEED speed).inc TIME.LTCRX_SEQ.val

/-- The second frame in a row locks the reader. -/
def State.ltcLocked (s : State) (run first : Nat) : State :=
  if run = 2 ∧ s.rd TIME.LTCRX_STAT.STATE = 1 then (s.wr TIME.LTCRX_STAT.STATE 2).report 0x0808 0 first else s

/-- A frame that does not follow the one before it is marked and reported. -/
def State.ltcJumped (s : State) (jump : Bool) (tc : Nat) : State := if jump then (s.sqf TIME.HIST.LTCDISCONT).report 0x080A 0 tc else s

/-- The timecode reader with one more frame in a row. -/
def State.ltcCounted (s : State) : State := s.withTimes { s.times with
  ltc := { s.times.ltc with run := s.times.ltc.run + 1, first := if s.times.ltc.run = 0 then s.ns else s.times.ltc.first, seen := true } }

theorem exec_ltcFrameDecoded {s : State} (tc ub flags rate speed : Nat) (hen : s.flag TIME.LTCRX_CFG.EN = true)
    (hst : 1 ≤ s.rd TIME.LTCRX_STAT.STATE) : ∃ first jump, exec (.ltcFrameDecoded tc ub flags rate speed) s =
      .next (((s.ltcCounted.ltcShown tc ub flags rate speed).ltcLocked (s.times.ltc.run + 1) first).ltcJumped jump tc) :=
  ⟨_, _, congrArg _ (if_pos ⟨hen, hst⟩)⟩

theorem exec_ltcLost {s : State} (hrun : 1 ≤ s.times.ltc.run) : ∃ d, exec .ltcLost s =
    .next (if s.rd TIME.LTCRX_STAT.STATE = 2 then
      (((s.withTimes { s.times with ltc := { s.times.ltc with run := 0, seen := false } }).wr TIME.LTCRX_STAT.STATE 1).sqf TIME.HIST.LTCLOST).report 0x0809 0 d
    else s.withTimes { s.times with ltc := { s.times.ltc with run := 0, seen := false } }) := ⟨_, congrArg _ (if_pos hrun)⟩

/-- The generator's timecode: TC at its start and after a JAM, else the one that follows. -/
def State.ltcNow (s : State) : Nat := if s.times.ltc.k = 0 ∨ s.times.ltc.jam then s.rd TIME.LTCTX_TC.val else s.times.ltc.tc

/-- A frame of the generator leaves where the device drives its outputs. -/
def State.ltcEmitted (s : State) (tc : Nat) : State := if s.drives then s.emit (.ltc tc (s.rd TIME.LTCTX_UB.val)) else s

theorem exec_ltcTxFrame {s : State} (hrun : s.times.ltc.running = true)
    (htime : s.ltcBegin s.times.ltc.k ≤ s.times.ltc.samples + s.clk.cycle * s.fs / 10 ^ 9) : ∃ next, exec .ltcTxFrame s =
      .next ((s.ltcEmitted s.ltcNow).withTimes { (s.ltcEmitted s.ltcNow).times with
        ltc := { (s.ltcEmitted s.ltcNow).times.ltc with k := s.times.ltc.k + 1, tc := next, jam := false } }) :=
  ⟨_, congrArg _ (if_pos ⟨hrun, htime⟩)⟩

theorem State.ltcEmitted_fields (s : State) (tc : Nat) : (s.ltcEmitted tc).times = s.times ∧
    (s.ltcEmitted tc).out = (if s.drives then [Output.ltc tc (s.rd TIME.LTCTX_UB.val)] else []) ++ s.out := by
  unfold State.ltcEmitted
  split <;> exact ⟨rfl, rfl⟩

theorem State.ltcLocked_cases (s : State) (run first : Nat) : s.ltcLocked run first = s ∧ ¬ (run = 2 ∧ s.rd TIME.LTCRX_STAT.STATE = 1) ∨
    (run = 2 ∧ s.rd TIME.LTCRX_STAT.STATE = 1) ∧ s.ltcLocked run first = (s.wr TIME.LTCRX_STAT.STATE 2).report 0x0808 0 first := by
  by_cases h : run = 2 ∧ s.rd TIME.LTCRX_STAT.STATE = 1
  · exact .inr ⟨h, if_pos h⟩
  · exact .inl ⟨if_neg h, h⟩

theorem TIME.ltctxCfg_masks : RegMasks TIME.LTCTX_CFG 0 0xF0000000 := ⟨_, _, rfl, rfl, rfl, rfl, rfl⟩

theorem State.act_ltctxCfg (s : State) (i v : Nat) (old : Word) (h : bit v 0 = true) : s.act i TIME.LTCTX_CFG v old true = s.ltcJam := if_pos h

theorem exec_ltcJam {s : State} {i : Iface} {v : Nat} (hv : v < 2 ^ 32) (h : s.hostReaches i TIME.LTCTX_CFG = true) : exec (.ltcJam i v) s =
    .next (s.rwsWrite (ifaceNumber i) TIME.LTCTX_CFG 0 (BitVec.ofNat 32 (v ||| 1)) 0xF0000000).ltcJam := by
  refine congrArg _ (State.regCommand_reached (by unfold NormalSpace TIME.LTCTX_CFG; omega) h
    ((State.regWrite_rws _ _ TIME.ltctxCfg_masks (by decide) rfl).trans (State.act_ltctxCfg _ _ _ _ ?_)))
  exact (congrArg (bit · 0) (toNat_or_bit hv (b := 0) (by decide))).trans (bit_or_self v 0)

/-! ## The obligation -/

/-- A send that finds its port free leaves on it. -/
theorem State.cueSend_sent {s : State} {n x : Nat} {c : CueEntry} (hn : n < 256) (hx : x < 3) (hfind : s.cueEntry n = some c) (howes : c.owes x = true)
    (htime : reachedTime c.at_ s.ns = true) (hfirst : s.cueFirst n x c = true) (hlink : s.flag (NET.STAT.LINK x) = true)
    (hsending : (s.port x).sending = none) (hfree : (s.port x).freeAt ≤ s.clk.now) (hpath : s.sendsPath x = true) :
    ∃ t, exec (.cueSend n x) s = .next t ∧ t.num (CLS.word n 1) = s.ns ∧
      t.rd (NET.TXFRAMES.val x) = (s.rd (NET.TXFRAMES.val x) + 1) % 2 ^ 32 ∧ Output.frame x c.frame ∈ t.out ∧
      Frame [.live, .evt, .times, .net, .out] s t := by
  obtain ⟨hslip, hslipFrame⟩ := s.cueSlip_kept n c
  have hclk : (s.cueSlip n c).clk = s.clk := hslipFrame.same .clk rfl
  have hpair : ((s.cueSlip n c).cueStamped n).pair = s.pair :=
    ((State.setNum_frame ..).same .pair rfl).trans (hslipFrame.same .pair rfl)
  have hstamp : ((s.cueSlip n c).cueStamped n).num (CLS.word n 1) = s.ns := by
    rw [State.cueStamped, State.num_setNum_same, State.ns_congr hclk]
    exact Nat.mod_eq_of_lt (Nat.mod_lt _ (by decide))
  have hword (j : Nat) (hlo : 0x23000 ≤ j) (hhi : j < 0x80341000) (hh : j ≠ TIME.HIST) : ((s.cueSlip n c).cueStamped n).word j = s.word j := by
    rw [State.cueStamped, State.word_setNum_ne _ _ (by unfold CLS.word; omega), hslip j hlo hhi hh]
  have hexec := exec_cueSend_sent hfind howes htime hfirst hlink hsending hfree
    ((State.sendsPath_congr (hword _ (by decide) (by decide) (by decide)) hpair x).trans hpath)
  generalize (s.cueSlip n c).cueStamped n = u at *
  obtain ⟨hcount, hout, hframeWord⟩ := u.cueFrame_fields x c
  generalize u.cueFrame x c = w at *
  have hserved := fun j => w.cueServed_word n x c true (j := j)
  refine ⟨_, hexec, ?_, ?_, ?_, execCueSend_frame n x s _ hexec⟩
  · rw [← hstamp]
    exact congrArg BitVec.toNat ((hserved _ (by unfold CLS.word; omega)).trans (hframeWord _ (by unfold CLS.word NET.TXFRAMES; omega)))
  · rw [State.rd_congr (hserved _ (by unfold CLS.word NET.TXFRAMES.val NET.TXFRAMES; dsimp only; omega)), hcount,
      State.rd_congr (hword _ (by unfold NET.TXFRAMES.val NET.TXFRAMES; dsimp only; omega) (by unfold NET.TXFRAMES.val NET.TXFRAMES; dsimp only; omega)
        (by unfold NET.TXFRAMES.val NET.TXFRAMES TIME.HIST; dsimp only; omega))]
  · rw [(w.cueServed_frame n x c true).same .out rfl]
    exact hout

/-- The words of a decoded frame. -/
theorem State.ltcShown_fields (s : State) (tc ub flags rate speed : Nat) :
    (s.ltcShown tc ub flags rate speed).rd TIME.LTCRX_TC.val = tc % 2 ^ 32 ∧ (s.ltcShown tc ub flags rate speed).rd TIME.LTCRX_UB.val = ub % 2 ^ 32 ∧
      (s.ltcShown tc ub flags rate speed).rd TIME.LTCRX_NS.val = s.ns ∧
      (s.ltcShown tc ub flags rate speed).rd TIME.LTCRX_SEQ.val = (s.rd TIME.LTCRX_SEQ.val + 1) % 2 ^ 32 ∧
      (s.ltcShown tc ub flags rate speed).rd TIME.LTCRX_STAT.STATE = s.rd TIME.LTCRX_STAT.STATE ∧
      (s.ltcShown tc ub flags rate speed).times = s.times := by
  have hlt : s.ns < 2 ^ 32 := Nat.mod_lt _ (by decide)
  have htc : (s.wr TIME.LTCRX_TC.val tc).rd TIME.LTCRX_TC.val = tc % 2 ^ 32 := State.rd_wr_same _ _ _ (by decide)
  have hub (u : State) : (u.wr TIME.LTCRX_UB.val ub).rd TIME.LTCRX_UB.val = ub % 2 ^ 32 := State.rd_wr_same _ _ _ (by decide)
  have hseq (u : State) : (u.inc TIME.LTCRX_SEQ.val).rd TIME.LTCRX_SEQ.val = (u.rd TIME.LTCRX_SEQ.val + 1) % 2 ^ 32 := State.rd_inc_same _ (by decide)
  unfold State.ltcShown
  dsimp only
  refine ⟨?_, ?_, ?_, ?_, ?_, ?_⟩
  · simp (disch := first | (simp only [Fld.clear, TIME.readerFields] <;> omega) | fail) [htc]
  · simp (disch := first | (simp only [Fld.clear, TIME.readerFields] <;> omega) | fail) [hub]
  · simp (disch := first | (simp only [Fld.clear, TIME.readerFields] <;> omega) | fail) [State.rd_wr_self]
  · simp (disch := first | (simp only [Fld.clear, TIME.readerFields] <;> omega) | fail) [hseq]
  · simp (disch := first | (simp only [Fld.clear, TIME.readerFields] <;> omega) | fail)
  · simp only [State.inc_times, State.wr_times]

/-- What a lock and a jump that follow a decoded frame leave: every register of the reader but STAT. -/
theorem State.ltcAfter_word (s : State) (run first : Nat) (jump : Bool) (tc : Nat) {j : Nat} (hlo : 0x80208 ≤ j) (hhi : j < 0x80300) :
    ((s.ltcLocked run first).ltcJumped jump tc).word j = s.word j := by
  have hspare : reportSpares j := ⟨.inr (by omega), by omega⟩
  have hlocked : (s.ltcLocked run first).word j = s.word j := by
    rcases s.ltcLocked_cases run first with ⟨h, -⟩ | ⟨-, h⟩ <;> rw [h]
    rw [State.report_word _ _ _ _ hspare.not_reportKey (by decide), State.word_wr_ne _ _ (by simp only [TIME.readerFields]; omega)]
  generalize s.ltcLocked run first = u at *
  unfold State.ltcJumped
  split
  · rw [State.report_word _ _ _ _ hspare.not_reportKey (by decide), State.word_sqf_ne _ (by simp only [TIME.readerFields]; omega), hlocked]
  · exact hlocked

theorem State.ltcJumped_state (s : State) (jump : Bool) (tc : Nat) : (s.ltcJumped jump tc).rd TIME.LTCRX_STAT.STATE = s.rd TIME.LTCRX_STAT.STATE := by
  unfold State.ltcJumped
  split
  · rw [State.rd_report_clear _ _ _ (by simp only [reportSpares, TIME.readerFields]; omega), State.rd_sqf_clear _ (by decide)]
  · rfl

theorem State.ltcAfter_frame (s : State) (run first : Nat) (jump : Bool) (tc : Nat) :
    Frame [.live, .evt, .out] s ((s.ltcLocked run first).ltcJumped jump tc) := by
  have hlocked : Frame [.live, .evt, .out] s (s.ltcLocked run first) := by
    rcases s.ltcLocked_cases run first with ⟨h, -⟩ | ⟨-, h⟩ <;> rw [h]
    · exact .refl _ s
    · exact ((State.wr_frame ..).weaken rfl).trans (State.report_frame ..)
  generalize s.ltcLocked run first = u at *
  unfold State.ltcJumped
  split
  · exact (hlocked.trans ((State.sqf_frame ..).weaken rfl)).trans (State.report_frame ..)
  · exact hlocked

/-- Settles O41: a send is followed through its slip, its frame and the entry it serves; a decoded frame through the reader's registers. -/
theorem cueSendsAndTimecodeFrames : Obligations.CueSendsAndTimecodeFrames := by
  unfold Obligations.CueSendsAndTimecodeFrames
  intro i n x tc ub flags rate speed v c s p guard l hn
  refine ⟨fun hfind hx howes => ⟨fun hholds htime => ?hold, fun htime hfirst hlink hsending hfree hpath =>
      State.cueSend_sent hn hx hfind howes htime hfirst hlink hsending hfree hpath, fun htime hfirst hlink => ?missed⟩,
    fun hen hst => ?decoded, fun hrun => ?lost, fun hrun htime => ?generated, fun hv hhost => ?jam⟩
  case hold =>
    have hexec := exec_cueLineHold hfind howes hholds htime
    exact ⟨_, hexec, s.port_setPort_same x _, fun y hy => s.port_setPort_ne _ hy, execCueLineHold_frame n x s _ hexec⟩
  case missed =>
    have hexec := exec_cueSend_missed hfind howes htime hfirst hlink
    have hnum := s.num_setNum_same (CLS.word n 2) (s.num (CLS.word n 2) % 2 ^ 16 + (s.num (CLS.word n 2) / 2 ^ 16 + 1) % 2 ^ 16 * 2 ^ 16)
    have hframe := s.setNum_frame (CLS.word n 2) (s.num (CLS.word n 2) % 2 ^ 16 + (s.num (CLS.word n 2) / 2 ^ 16 + 1) % 2 ^ 16 * 2 ^ 16)
    generalize s.setNum (CLS.word n 2) (s.num (CLS.word n 2) % 2 ^ 16 + (s.num (CLS.word n 2) / 2 ^ 16 + 1) % 2 ^ 16 * 2 ^ 16) = u at *
    have hserved : (u.cueServed n x c false).num (CLS.word n 2) = u.num (CLS.word n 2) :=
      congrArg BitVec.toNat (u.cueServed_word n x c false (by unfold CLS.word; omega))
    have hservedFrame := u.cueServed_frame n x c false
    refine ⟨_, hexec, ?_, (hservedFrame.same .out rfl).trans (hframe.same .out rfl), (hframe.weaken rfl).trans hservedFrame⟩
    rw [hserved, hnum]
    omega
  case decoded =>
    obtain ⟨first, jump, hexec⟩ := exec_ltcFrameDecoded tc ub flags rate speed hen hst
    have hframe := execLtcFrameDecoded_frame tc ub flags rate speed s _ hexec
    have hcounted : s.ltcCounted.times.ltc.run = l.run + 1 := rfl
    have hns : s.ltcCounted.ns = s.ns := State.ns_congr rfl
    have hseqKept : s.ltcCounted.rd TIME.LTCRX_SEQ.val = s.rd TIME.LTCRX_SEQ.val := s.rd_withTimes _ _
    have hstKept : s.ltcCounted.rd TIME.LTCRX_STAT.STATE = s.rd TIME.LTCRX_STAT.STATE := s.rd_withTimes _ _
    generalize s.ltcCounted = u at *
    obtain ⟨htc, hub, hnsShown, hseq, hstate, htimes⟩ := u.ltcShown_fields tc ub flags rate speed
    generalize u.ltcShown tc ub flags rate speed = w at *
    have hafter {f : Fld} (hf : 0x80208 ≤ f.key ∧ f.key < 0x80300) := State.rd_congr (w.ltcAfter_word (l.run + 1) first jump tc hf.1 hf.2)
    have hafterTimes := (w.ltcAfter_frame (l.run + 1) first jump tc).same .times rfl
    refine ⟨_, hexec, (hafter (by decide)).trans htc, (hafter (by decide)).trans hub, (hafter (by decide)).trans (hnsShown.trans hns),
      (hafter (by decide)).trans (hseq.trans (by rw [hseqKept])), ?_, fun hone => ?_, hframe⟩
    · rw [hafterTimes, htimes, hcounted]
    · rw [State.ltcJumped_state]
      rcases w.ltcLocked_cases (l.run + 1) first with ⟨h, hno⟩ | ⟨-, h⟩
      · rw [h]
        have hlt : w.rd TIME.LTCRX_STAT.STATE < 2 ^ 2 := State.rd_lt ..
        rw [hstate, hstKept] at hlt hno ⊢
        omega
      · left
        rw [h, State.rd_report_clear _ _ _ (by simp only [reportSpares, TIME.readerFields]; omega), State.rd_wr_self _ (by decide)]
  case lost =>
    obtain ⟨d, hexec⟩ := exec_ltcLost hrun
    have hframe := execLtcLost_frame s _ hexec
    have htimes := s.withTimes_times { s.times with ltc := { s.times.ltc with run := 0, seen := false } }
    have hword := s.word_withTimes { s.times with ltc := { s.times.ltc with run := 0, seen := false } }
    have hlive : (s.withTimes { s.times with ltc := { s.times.ltc with run := 0, seen := false } }).live = s.live := rfl
    generalize s.withTimes { s.times with ltc := { s.times.ltc with run := 0, seen := false } } = u at *
    by_cases hlocked : s.rd TIME.LTCRX_STAT.STATE = 2
    · rw [if_pos hlocked] at hexec hframe
      refine ⟨_, hexec, ?_, fun _ => ⟨?_, ?_, Reported.report_of_kept _ _ (by decide) fun j _ _ => ?_⟩, fun h => absurd hlocked h, hframe⟩
      · rw [(State.report_frame ..).same .times rfl, State.sqf_times, State.wr_times, htimes]
      · rw [State.rd_report_clear _ _ _ (by simp only [reportSpares, TIME.readerFields]; omega), State.rd_sqf_clear _ (by decide),
          State.rd_wr_self _ (by decide)]
      · rw [State.flag_report_clear _ _ _ (by simp only [reportSpares, TIME.readerFields]; omega), State.flag_sqf_self _ (by decide)]
      · rw [State.word_sqf_ne _ (by simp only [TIME.readerFields]; omega), State.word_wr_ne _ _ (by simp only [TIME.readerFields]; omega), hword]
    · rw [if_neg hlocked] at hexec hframe
      exact ⟨_, hexec, htimes, fun h => absurd h hlocked, fun _ => hlive, hframe⟩
  case generated =>
    obtain ⟨next, hexec⟩ := exec_ltcTxFrame hrun htime
    obtain ⟨htimes, hout⟩ := s.ltcEmitted_fields s.ltcNow
    have hframe := execLtcTxFrame_frame s _ hexec
    generalize s.ltcEmitted s.ltcNow = u at *
    exact ⟨_, hexec, rfl, rfl, hout, hframe⟩
  case jam =>
    obtain ⟨-, hframe⟩ := State.rwsWrite_spares (k := TIME.LTCTX_CFG) (v := BitVec.ofNat 32 (v ||| 1)) (ifaceNumber i) 0xF0000000
      (State.standby_of_reaches hhost (by decide)) rfl fun _ => State.setModes_unwatched _ _ (by decide) (by decide) (by decide) (by decide)
    have hexec := exec_ltcJam hv hhost
    have htimes := hframe.same .times rfl
    generalize s.rwsWrite (ifaceNumber i) TIME.LTCTX_CFG 0 (BitVec.ofNat 32 (v ||| 1)) 0xF0000000 = u at *
    refine ⟨_, hexec, ?_, Frame.set_times (hframe.weaken rfl) rfl⟩
    show { u.times with ltc := { u.times.ltc with jam := true } } = _
    rw [htimes]

end Sys2Proof.Machine
end

section
/-!
PROOFS. Links, frames sent, the gate list, the MAC and group tables, and the PCIe link (R412, R420, R421, R424, R426, R427, R499).
-/

namespace Sys2Proof.Machine

/-- The registers of a port, the tables and the PCIe link. -/
theorem NET.linkFields (x : Nat) :
    NET.STAT.LINK x = ⟨0x90004 + x * 0x10000, 31, 1⟩ ∧ NET.STAT.PCSLOCK x = ⟨0x90004 + x * 0x10000, 30, 1⟩ ∧
    NET.STAT.FECLOCK x = ⟨0x90004 + x * 0x10000, 29, 1⟩ ∧ NET.LINKDOWNS.val x = ⟨0x90058 + x * 0x10000, 0, 32⟩ ∧
    NET.HIST.LINKUP x = ⟨0x9005C + x * 0x10000, 1, 1⟩ ∧ NET.HIST.LINKDOWN x = ⟨0x9005C + x * 0x10000, 0, 1⟩ ∧
    (NET.CFG.RATE x).key = 0x90000 + x * 0x10000 ∧ TIME.PTP_CFG.STATE x = ⟨0x80080 + x * 0x20, 24, 2⟩ := by
  and_intros <;> rfl

theorem SW.gateFields : SW.GCLSTAT.RUNNING = ⟨0xC040C, 31, 1⟩ ∧ SW.GCLSTAT.ENTRY = ⟨0xC040C, 0, 8⟩ ∧ HIF.IFSTAT.PCIE_UP = ⟨0x10000, 31, 1⟩ ∧
    HIF.IFSTAT.WIDTH = ⟨0x10000, 24, 4⟩ ∧ HIF.IFSTAT.SPEED = ⟨0x10000, 20, 4⟩ := by
  and_intros <;> rfl

/-- The state with the network's store at `x`. -/
def State.withNet (s : State) (x : Switch) : State := { s with net := x }

@[simp] theorem State.rd_withNet (s : State) (x : Switch) (f : Fld) : (s.withNet x).rd f = s.rd f := State.rd_congr rfl
@[simp] theorem State.flag_withNet (s : State) (x : Switch) (f : Fld) : (s.withNet x).flag f = s.flag f := State.flag_congr rfl
theorem State.word_withNet (s : State) (x : Switch) (k : Nat) : (s.withNet x).word k = s.word k := State.word_congr rfl k
theorem State.withNet_net (s : State) (x : Switch) : (s.withNet x).net = x := rfl

theorem State.port_congr {s t : State} (h : t.net.ports = s.net.ports) (x : Nat) : t.port x = s.port x := by rw [State.port, h, State.port]

theorem State.rd_setPort (s : State) (x : Nat) (p : Port) (f : Fld) : (s.setPort x p).rd f = s.rd f := State.rd_congr rfl
theorem State.word_setPort (s : State) (x : Nat) (p : Port) (j : Nat) : (s.setPort x p).word j = s.word j := State.word_congr rfl j

/-! ## Links (R412, R420) -/

/-- The status of a link. -/
def State.linkShown (s : State) (x : Nat) (up fec : Bool) : State :=
  ((s.wrFlag (NET.STAT.LINK x) up).wrFlag (NET.STAT.PCSLOCK x) up).wrFlag (NET.STAT.FECLOCK x) fec

theorem State.linkShown_fields (s : State) (x : Nat) (up fec : Bool) : (s.linkShown x up fec).flag (NET.STAT.LINK x) = up ∧
    (s.linkShown x up fec).net = s.net ∧ (s.linkShown x up fec).knl = s.knl ∧ (∀ j, j ≠ NET.STAT x → (s.linkShown x up fec).word j = s.word j) := by
  have hframe : Frame [.live] s (s.linkShown x up fec) := ((State.wrFlag_frame ..).trans (State.wrFlag_frame ..)).trans (State.wrFlag_frame ..)
  refine ⟨?_, hframe.same .net rfl, hframe.same .knl rfl, fun j hj => ?_⟩
  · rw [State.linkShown, State.flag_wrFlag_clear _ _ (by simp only [Fld.clear, NET.linkFields]; omega),
      State.flag_wrFlag_clear _ _ (by simp only [Fld.clear, NET.linkFields]; omega), State.flag_wrFlag_self _ _ (by simp only [NET.linkFields]; omega)]
  · rw [State.linkShown, State.word_wrFlag_ne _ _ hj, State.word_wrFlag_ne _ _ hj, State.word_wrFlag_ne _ _ hj]

/-- A port waits for the next boundary of its frames after its link came up. -/
def State.portResumed (s : State) (x : Nat) : State := s.setPort x { s.port x with resume := true }

theorem exec_linkUp {s : State} {x : Nat} (hx : x < 3) (hen : s.flag (NET.CFG.EN x) = true) (hidle : s.flag (NET.STAT.IDLE x) = false)
    (hlink : s.flag (NET.STAT.LINK x) = false) : ∃ fec d, exec (.linkUp x) s =
      .next ((((s.linkShown x true fec).portResumed x).sqf (NET.HIST.LINKUP x)).report (portBlock x * 256 + 2) 0 d) :=
  ⟨_, _, congrArg _ (if_pos ⟨hx, hen, ne_true_of_eq_false hidle, ne_true_of_eq_false hlink⟩)⟩

/-- The loss of a link is counted and reported. -/
def State.linkLost (s : State) (x : Nat) : State :=
  let s := ((s.linkShown x false false).inc (NET.LINKDOWNS.val x)).sqf (NET.HIST.LINKDOWN x)
  s.report (portBlock x * 256 + 1) 0 s.tick

/-- The transmit kennels of port `x` below `b` are emptied. -/
def State.txEmptied (s : State) (x b : Nat) : State :=
  s.eachBelow (fun s k => if portOf k = some x then s.setKennel k { s.kennel k with pkts := [] } else s) b

/-- A port without a link sends nothing. -/
def State.portCut (s : State) (x : Nat) : State := s.setPort x { s.port x with sending := none, resume := false }

theorem State.linkDown_eq {s : State} {x : Nat} (hlink : s.flag (NET.STAT.LINK x) = true) : s.linkDown x =
    if x < 2 then (((s.linkLost x).txEmptied x 14).portCut x).wr (TIME.PTP_CFG.STATE x) 0 else ((s.linkLost x).txEmptied x 14).portCut x := by
  unfold State.linkDown
  rw [if_pos hlink]
  extract_lets a b c d e f
  have hc : c = s.linkLost x := rfl
  clear_value c
  subst hc
  have hd : d = (s.linkLost x).txEmptied x 14 := rfl
  clear_value d
  subst hd
  have hf : f = ((s.linkLost x).txEmptied x 14).portCut x := rfl
  rw [hf]

theorem exec_linkDown {s : State} {x : Nat} (hx : x < 3) (hlink : s.flag (NET.STAT.LINK x) = true) : exec (.linkDown x) s =
    .next (if x < 2 then (((s.linkLost x).txEmptied x 14).portCut x).wr (TIME.PTP_CFG.STATE x) 0 else ((s.linkLost x).txEmptied x 14).portCut x) := by
  have hexec : exec (.linkDown x) s = .next (s.linkDown x) := congrArg _ (if_pos hx)
  rw [hexec, State.linkDown_eq hlink]

theorem State.cross_net (s : State) (n : Nat) : (s.cross n).net = s.net := by rw [State.cross, State.sqf_net, State.inc_net]

theorem State.setKennel_ports (s : State) (n : Nat) (k : Kennel) : (s.setKennel n k).net.ports = s.net.ports := by
  unfold State.setKennel
  dsimp only
  split <;> split
  · rw [State.cross_net]
  · rw [State.cross_net]
  · rfl
  · rfl

/-- The kennels of port `x` below `b` have been emptied; the others, the ports and the words below KNL stay. -/
structure TxEmptied (x b : Nat) (s t : State) : Prop where
  emptied : ∀ k, k < b → portOf k = some x → (t.kennel k).pkts = []
  others : ∀ k, portOf k ≠ some x → t.kennel k = s.kennel k
  ports : t.net.ports = s.net.ports
  words : ∀ j, j < 0x160000 → t.word j = s.word j

theorem TxEmptied.step {x b : Nat} {s t : State} (h : TxEmptied x b s t) :
    TxEmptied x (b + 1) s (if portOf b = some x then t.setKennel b { t.kennel b with pkts := [] } else t) := by
  split
  · next hb =>
    have hset := KennelSet.setKennel t b { t.kennel b with pkts := [] }
    refine ⟨fun k hk hport => ?_, fun k hport => (hset.others k fun he => hport (he ▸ hb)).trans (h.others k hport),
      (State.setKennel_ports ..).trans h.ports, fun j hj => (t.setKennel_word _ ?_ ?_).trans (h.words j hj)⟩
    · by_cases he : k = b
      · rw [he, hset.kennel]
      · rw [hset.others k he]
        exact h.emptied k (by omega) hport
    · unfold KNL.K_CROSSCNT; omega
    · unfold KNL.K_HIST; omega
  · next hb =>
    refine ⟨fun k hk hport => h.emptied k ?_ hport, h.others, h.ports, h.words⟩
    have hne : k ≠ b := fun he => hb (he ▸ hport)
    omega

theorem State.txEmptied_emptied (s : State) (x b : Nat) : TxEmptied x b s (s.txEmptied x b) := by
  induction b with
  | zero => exact ⟨fun _ hk => absurd hk (Nat.not_lt_zero _), fun _ _ => rfl, rfl, fun _ _ => rfl⟩
  | succ b ih => exact ih.step

theorem portOf_lt {k x : Nat} (h : portOf k = some x) : k < 14 := by
  by_contra hge
  have hnone : portOf k = none := by
    unfold portOf
    rw [if_neg (by omega), if_neg (by omega), if_neg (by omega)]
  rw [hnone] at h
  exact absurd h (by simp)

theorem State.linkLost_fields (s : State) {x : Nat} (hx : x < 3) : (s.linkLost x).flag (NET.STAT.LINK x) = false ∧
    (s.linkLost x).rd (NET.LINKDOWNS.val x) = (s.rd (NET.LINKDOWNS.val x) + 1) % 2 ^ 32 ∧ (s.linkLost x).flag (NET.HIST.LINKDOWN x) = true ∧
    Reported (portBlock x * 256 + 1) s (s.linkLost x) ∧ (s.linkLost x).net = s.net ∧ (s.linkLost x).knl = s.knl := by
  obtain ⟨hlink, hnet, hknl, hword⟩ := s.linkShown_fields x false false
  have hcode : portBlock x * 256 + 1 < 0x1800 := by unfold portBlock; omega
  unfold State.linkLost
  dsimp only
  generalize s.linkShown x false false = u at *
  refine ⟨?_, ?_, ?_, Reported.report_of_kept _ _ hcode fun j _ _ => ?_, ?_, ?_⟩
  · rw [State.flag_report_clear _ _ _ ⟨by simp only [reportSpares, NET.linkFields]; omega, hcode⟩,
      State.flag_sqf_clear _ (by simp only [NET.linkFields, ne_eq]; omega), State.flag_inc_clear _ (by simp only [Fld.clear, NET.linkFields]; omega), hlink]
  · rw [State.rd_report_clear _ _ _ ⟨by simp only [reportSpares, NET.linkFields]; omega, hcode⟩,
      State.rd_sqf_clear _ (by simp only [NET.linkFields, ne_eq]; omega), State.rd_inc_same _ (by simp only [NET.linkFields]; omega),
      State.rd_congr (hword _ (by simp only [NET.linkFields, NET.STAT, ne_eq]; omega)), show (NET.LINKDOWNS.val x).width = 32 from rfl]
  · rw [State.flag_report_clear _ _ _ ⟨by simp only [reportSpares, NET.linkFields]; omega, hcode⟩,
      State.flag_sqf_self _ (by simp only [NET.linkFields]; omega)]
  · rw [State.word_sqf_ne _ (by simp only [NET.linkFields]; omega), State.word_inc_ne _ (by simp only [NET.linkFields]; omega),
      hword _ (by unfold NET.STAT; omega)]
  · rw [(State.report_frame ..).same .net rfl, State.sqf_net, State.inc_net, hnet]
  · rw [(State.report_frame ..).same .knl rfl, State.sqf_knl, State.inc_knl, hknl]

/-! ## Frames sent (R421) -/

/-- The credit of a class whose frame starts, where the frame has a class. -/
def State.creditSpent (s : State) (x n : Nat) : Option Nat → State
  | some c => s.spendCredit x c n
  | none => s

/-- A port that sends the head of kennel `k`. -/
def State.portSends (s : State) (x k n : Nat) : State :=
  s.setPort x { s.port x with sending := some k, freeAt := s.clk.now + s.wireNs x n }

theorem exec_portFrameTx {s : State} {x : Nat} (hx : x < 3) (hlink : s.flag (NET.STAT.LINK x) = true) (hresume : (s.port x).resume = false)
    (hsending : (s.port x).sending = none) (hfree : (s.port x).freeAt ≤ s.clk.now) (hholds : (s.port x).holds = []) : exec (.portFrameTx x) s =
      .next (match s.nextFrame x with
        | some (k, cls) => ((s.creditSpent x ((s.headFrame k).getD 0) cls).startFrame x k).portSends x k ((s.headFrame k).getD 0)
        | none => s) := by
  refine congrArg _ ((if_pos ⟨hx, hlink, ne_true_of_eq_false hresume, hsending, hfree, hholds⟩).trans ?_)
  cases s.nextFrame x with
  | none => rfl
  | some p =>
    obtain ⟨k, cls⟩ := p
    cases cls <;> rfl

theorem State.creditSpent_kept (s : State) (x n : Nat) (cls : Option Nat) : (∀ j, (s.creditSpent x n cls).word j = s.word j) ∧
    (s.creditSpent x n cls).knl = s.knl ∧ (s.creditSpent x n cls).clk = s.clk ∧ (∀ y, y ≠ x → (s.creditSpent x n cls).port y = s.port y) := by
  cases cls with
  | none => exact ⟨fun _ => rfl, rfl, rfl, fun _ _ => rfl⟩
  | some c =>
    have hframe := s.spendCredit_frame x c n
    refine ⟨fun j => State.word_congr (hframe.same .live rfl) j, hframe.same .knl rfl, hframe.same .clk rfl, fun y hy => ?_⟩
    show (s.spendCredit x c n).port y = _
    unfold State.spendCredit
    dsimp only
    split
    · rfl
    · exact s.port_setPort_ne _ hy

theorem State.startFrame_kept (s : State) (x k : Nat) : (∀ j, j < 0x160000 → (s.startFrame x k).word j = s.word j) ∧
    (s.startFrame x k).net.ports = s.net.ports ∧ (∀ j, j ≠ k → (s.startFrame x k).kennel j = s.kennel j) := by
  have hset (q : Kennel) : (∀ j, j < 0x160000 → (s.setKennel k q).word j = s.word j) ∧ (s.setKennel k q).net.ports = s.net.ports ∧
      (∀ j, j ≠ k → (s.setKennel k q).kennel j = s.kennel j) :=
    ⟨fun j hj => s.setKennel_word _ (by unfold KNL.K_CROSSCNT; omega) (by unfold KNL.K_HIST; omega), s.setKennel_ports k q,
      (KennelSet.setKennel s k q).others⟩
  unfold State.startFrame
  dsimp only
  split
  · split
    · exact hset _
    · exact ⟨fun _ _ => rfl, rfl, fun _ _ => rfl⟩
  · exact ⟨fun _ _ => rfl, rfl, fun _ _ => rfl⟩

theorem State.wireNs_congr {s t : State} {x : Nat} (h : t.word (NET.CFG x) = s.word (NET.CFG x)) (n : Nat) : t.wireNs x n = s.wireNs x n := by
  unfold State.wireNs State.lineRate
  rw [State.rd_congr (f := NET.CFG.RATE x) h]

/-! ## The gate list and the tables (R424, R426, R427) -/

section
variable {s : State} {t0 : Nat} (hen : s.flag SW.GCLCTL.EN = true) (hcycle : s.net.cycleAt = some t0)
include hen hcycle

theorem exec_gateListAdvance_entry {m iv : Nat} (hrun : s.flag SW.GCLSTAT.RUNNING = true) (htime : reachedTime s.net.entryEnd s.ns = true)
    (hentry : s.net.gates[s.rd SW.GCLSTAT.ENTRY + 1]? = some (m, iv)) : exec .gateListAdvance s =
      .next ((s.wr SW.GCLSTAT.ENTRY (s.rd SW.GCLSTAT.ENTRY + 1)).withNet
        { (s.wr SW.GCLSTAT.ENTRY (s.rd SW.GCLSTAT.ENTRY + 1)).net with
          entryEnd := ((s.wr SW.GCLSTAT.ENTRY (s.rd SW.GCLSTAT.ENTRY + 1)).net.entryEnd + iv) % 2 ^ 32 }) := by
  show execGateListAdvance s = _
  unfold execGateListAdvance
  rw [if_pos hen, hcycle]
  dsimp only
  rw [if_pos hrun, if_pos htime, hentry]
  dsimp only [State.withNet]

theorem exec_gateListAdvance_begin (hrun : s.flag SW.GCLSTAT.RUNNING = false) (htime : reachedTime t0 s.ns = true) :
    exec .gateListAdvance s = .next (s.gateCycle t0) := by
  show execGateListAdvance s = _
  unfold execGateListAdvance
  rw [if_pos hen, hcycle]
  exact congrArg _ ((if_neg (ne_true_of_eq_false hrun)).trans (if_pos htime))

end

/-- The gate list at its first entry. -/
def State.gateBegun (s : State) : State := (s.wrFlag SW.GCLSTAT.RUNNING true).wr SW.GCLSTAT.ENTRY 0

theorem State.gateCycle_eq (s : State) (t : Nat) : ∃ e, s.gateCycle t = s.gateBegun.withNet
    { s.gateBegun.net with gates := s.gateList, entryEnd := e, cycleAt := some ((t + s.gateBegun.rd SW.GCLCYCLE.val) % 2 ^ 32) } := ⟨_, rfl⟩

theorem exec_macEntryAged {s : State} {vid mac y t0 : Nat} (hfind : Store.find s.net.macs (macKey vid mac) = some (y, t0))
    (htime : s.rd SW.CTL.AGE * 10 ^ 9 ≤ s.clk.now - t0) : exec (.macEntryAged vid mac) s =
      .next ((s.withNet { s.net with macs := s.net.macs.erase (macKey vid mac) }).wr SW.MACCNT.val (s.net.macs.erase (macKey vid mac)).length) := by
  show execMacEntryAged vid mac s = _
  unfold execMacEntryAged
  rw [hfind]
  exact congrArg _ (if_pos htime)

/-- The members of a group without port `x`. -/
def groupRest (ps : List (Nat × Nat)) (x : Nat) : List (Nat × Nat) := ps.filter (fun q => q.1 != x)

/-- The table of groups after port `x` has left group `k`. -/
def groupsLeft (groups : Store (List (Nat × Nat))) (k : Nat) (rest : List (Nat × Nat)) : Store (List (Nat × Nat)) :=
  if rest.isEmpty then groups.erase k else Store.insert groups k rest

theorem exec_groupLeave {s : State} {x vid addr t0 : Nat} {v6 : Bool} {ps : List (Nat × Nat)}
    (hfind : Store.find s.net.groups (groupKey vid v6 addr) = some ps) (hmem : (x, t0) ∈ ps) (htime : 260 * 10 ^ 9 ≤ s.clk.now - t0) :
    exec (.groupLeave x vid v6 addr) s =
      .next ((s.withNet { s.net with groups := groupsLeft s.net.groups (groupKey vid v6 addr) (groupRest ps x) }).wr SW.GRPCNT.val
        (groupsLeft s.net.groups (groupKey vid v6 addr) (groupRest ps x)).length) := by
  have hany : ps.any (fun p => p.1 == x && decide (260 * 10 ^ 9 ≤ s.clk.now - p.2)) = true :=
    List.any_eq_true.mpr ⟨_, hmem, by rw [beq_self_eq_true, Bool.true_and, decide_eq_true htime]⟩
  show execGroupLeave x vid v6 addr s = _
  unfold execGroupLeave
  dsimp only
  rw [hfind]
  exact congrArg _ (if_pos hany)

theorem find_groupsLeft_same (groups : Store (List (Nat × Nat))) (k : Nat) (rest : List (Nat × Nat)) :
    Store.find (groupsLeft groups k rest) k = if rest.isEmpty then none else some rest := by
  unfold groupsLeft
  split
  · exact Store.find_erase_same _ _
  · exact Store.find_insert_same _ _ _

theorem find_groupsLeft_ne (groups : Store (List (Nat × Nat))) {k j : Nat} (rest : List (Nat × Nat)) (h : j ≠ k) :
    Store.find (groupsLeft groups k rest) j = Store.find groups j := by
  unfold groupsLeft
  split
  · exact Store.find_erase_ne _ h
  · exact Store.find_insert_ne _ _ h

/-! ## The PCIe link (R499) -/

theorem exec_pcieLinkTrained {s : State} {width speed : Nat} (hheld : s.boot.held = false) (hon : s.ifaceOn 0 = true) (hapll : s.apll 0 = 3)
    (hwidth : width = 1 ∨ width = 2) (hlo : 1 ≤ speed) (hhi : speed ≤ 3) : exec (.pcieLinkTrained width speed) s =
      .next (((s.wrFlag HIF.IFSTAT.PCIE_UP true).wr HIF.IFSTAT.WIDTH width).wr HIF.IFSTAT.SPEED speed) :=
  congrArg _ (if_pos ⟨by simp [hheld], hon, hapll, hwidth, hlo, hhi⟩)

/-! ## The obligation -/

/-- Settles O42: the loss of a link empties its kennels one by one, by induction on their number; the other steps write what their tables hold. -/
theorem linksFramesGatesAndTables : Obligations.LinksFramesGatesAndTables := by
  unfold Obligations.LinksFramesGatesAndTables
  intro x vid mac addr width speed v6 s p
  refine ⟨fun hx hen hidle hlink => ?up, fun hx hlink => ?down, fun hx hlink hresume hsending hfree hholds => ⟨fun k c hnext => ?frame, fun hnext => ?none⟩,
    fun hen t0 hcycle => ⟨fun m iv hrun htime hentry => ?entry, fun hrun htime => ?begun⟩, fun y t0 hfind htime => ?aged,
    fun ps t0 hfind hmem htime => ?left, fun hheld hon hapll hwidth hlo hhi => ?trained⟩
  case up =>
    obtain ⟨fec, d, hexec⟩ := exec_linkUp hx hen hidle hlink
    have hframe := execLinkUp_frame x s _ hexec
    have hcode : portBlock x * 256 + 2 < 0x1800 := by unfold portBlock; omega
    obtain ⟨hup, hnet, -, hword⟩ := s.linkShown_fields x true fec
    generalize s.linkShown x true fec = u at *
    have hport : (u.portResumed x).port x = { s.port x with resume := true } := by
      rw [State.portResumed, State.port_setPort_same, State.port_congr (congrArg Switch.ports hnet)]
    have hflag := (State.flag_of_rd (u.rd_setPort x { u.port x with resume := true } (NET.STAT.LINK x))).trans hup
    have hwords := fun j hj => (u.word_setPort x { u.port x with resume := true } j).trans (hword j hj)
    change (u.portResumed x).flag (NET.STAT.LINK x) = true at hflag
    change ∀ j, j ≠ NET.STAT x → (u.portResumed x).word j = s.word j at hwords
    generalize u.portResumed x = w at *
    refine ⟨_, hexec, ?_, ?_, ?_, Reported.report_of_kept _ _ hcode fun j _ _ => ?_, hframe⟩
    · rw [State.flag_report_clear _ _ _ ⟨by simp only [reportSpares, NET.linkFields]; omega, hcode⟩,
        State.flag_sqf_clear _ (by simp only [NET.linkFields, ne_eq]; omega), hflag]
    · rw [← hport]
      exact State.port_congr (congrArg Switch.ports (((State.report_frame ..).same .net rfl).trans (State.sqf_net ..))) x
    · rw [State.flag_report_clear _ _ _ ⟨by simp only [reportSpares, NET.linkFields]; omega, hcode⟩,
        State.flag_sqf_self _ (by simp only [NET.linkFields]; omega)]
    · rw [State.word_sqf_ne _ (by simp only [NET.linkFields]; omega), hwords _ (by unfold NET.STAT; omega)]
  case down =>
    have hexec := exec_linkDown hx hlink
    have hframe := execLinkDown_frame x s _ hexec
    obtain ⟨hdown, hcount, hmark, hreported, hnet, hknl⟩ := s.linkLost_fields hx
    generalize s.linkLost x = u at *
    have hemptied := u.txEmptied_emptied x 14
    generalize u.txEmptied x 14 = w at *
    have hport : (w.portCut x).port x = { p with sending := none, resume := false } := by
      rw [State.portCut, State.port_setPort_same, State.port_congr hemptied.ports, State.port_congr (congrArg Switch.ports hnet)]
    have hwords (j : Nat) (hj : j < 0x160000) : (w.portCut x).word j = u.word j := (w.word_setPort x _ j).trans (hemptied.words j hj)
    have hkennel (k : Nat) : (w.portCut x).kennel k = w.kennel k := State.kennel_congr ((State.setPort_frame ..).same .knl rfl) k
    generalize w.portCut x = z at *
    have hcut : ∃ t, exec (.linkDown x) s = .next t ∧ (∀ j, j < 0x160000 → j ≠ TIME.PTP_CFG x → t.word j = u.word j) ∧ t.net = z.net ∧
        t.knl = z.knl ∧ (x < 2 → t.rd (TIME.PTP_CFG.STATE x) = 0) ∧ Frame [.live, .evt, .knl, .net, .out] s t := by
      refine ⟨_, hexec, fun j hj hne => ?_, ?_, ?_, fun h => ?_, hframe⟩
      · split
        · exact (State.word_wr_ne _ _ hne).trans (hwords j hj)
        · exact hwords j hj
      · split
        · exact State.wr_net ..
        · rfl
      · split
        · exact State.wr_knl ..
        · rfl
      · rw [if_pos h, State.rd_wr_self _ ⟨by simp only [NET.linkFields]; omega, Nat.two_pow_pos _⟩]
    obtain ⟨t, hexec, hword, htnet, htknl, hstate, hframe⟩ := hcut
    refine ⟨t, hexec, ?_, ?_, ?_, ?_, ?_, fun k hk => ?_, fun k hk => ?_, hstate, hframe⟩
    · rw [State.flag_congr (hword _ (by simp only [NET.linkFields]; omega) (by simp only [NET.linkFields, TIME.PTP_CFG, ne_eq]; omega)), hdown]
    · rw [State.rd_congr (hword _ (by simp only [NET.linkFields]; omega) (by simp only [NET.linkFields, TIME.PTP_CFG, ne_eq]; omega)), hcount]
    · rw [State.flag_congr (hword _ (by simp only [NET.linkFields]; omega) (by simp only [NET.linkFields, TIME.PTP_CFG, ne_eq]; omega)), hmark]
    · exact hreported.of_kept (by unfold portBlock; omega) fun j hlo hhi => hword j (by omega) (by unfold TIME.PTP_CFG; omega)
    · rw [State.port_congr (congrArg Switch.ports htnet), hport]
    · rw [State.kennel_congr htknl, hkennel]
      exact hemptied.emptied k (portOf_lt hk) hk
    · rw [State.kennel_congr htknl, hkennel, hemptied.others k hk, State.kennel_congr hknl]
  case frame =>
    have hexec := exec_portFrameTx hx hlink hresume hsending hfree hholds
    rw [hnext] at hexec
    change exec (.portFrameTx x) s = .next (((s.creditSpent x ((s.headFrame k).getD 0) c).startFrame x k).portSends x k ((s.headFrame k).getD 0)) at hexec
    have hframe := execPortFrameTx_frame x s _ hexec
    obtain ⟨hspent, hknl, hclk, hports⟩ := s.creditSpent_kept x ((s.headFrame k).getD 0) c
    generalize s.creditSpent x ((s.headFrame k).getD 0) c = u at *
    obtain ⟨hstarted, hstartPorts, hkennels⟩ := u.startFrame_kept x k
    have hnow : (u.startFrame x k).clk = s.clk := ((u.startFrame_frame x k).same .clk rfl).trans hclk
    generalize u.startFrame x k = w at *
    have hwire := State.wireNs_congr (x := x) ((hstarted _ (by unfold NET.CFG; omega)).trans (hspent _)) ((s.headFrame k).getD 0)
    have hset := w.port_setPort_same x { w.port x with sending := some k, freeAt := w.clk.now + w.wireNs x ((s.headFrame k).getD 0) }
    have hothers := fun y (hy : y ≠ x) => w.port_setPort_ne { w.port x with sending := some k, freeAt := w.clk.now + w.wireNs x ((s.headFrame k).getD 0) } hy
    change (w.portSends x k ((s.headFrame k).getD 0)).port x = _ at hset
    change ∀ y, y ≠ x → (w.portSends x k ((s.headFrame k).getD 0)).port y = _ at hothers
    have hkept (j : Nat) : (w.portSends x k ((s.headFrame k).getD 0)).kennel j = w.kennel j := State.kennel_congr ((State.setPort_frame ..).same .knl rfl) j
    refine ⟨_, hexec, by rw [hset], by rw [hset, hnow, hwire], fun y hy => ?_, fun j hj => ?_, hframe⟩
    · rw [hothers y hy, State.port_congr hstartPorts, hports y hy]
    · rw [hkept, hkennels j hj, State.kennel_congr hknl]
  case none => rw [exec_portFrameTx hx hlink hresume hsending hfree hholds, hnext]
  case entry =>
    have hexec := exec_gateListAdvance_entry hen hcycle hrun htime hentry
    have hframe := execGateListAdvance_frame s _ hexec
    have hnet : (s.wr SW.GCLSTAT.ENTRY (s.rd SW.GCLSTAT.ENTRY + 1)).net = s.net := State.wr_net ..
    have hrd := s.rd_wr_same SW.GCLSTAT.ENTRY (s.rd SW.GCLSTAT.ENTRY + 1) (by decide)
    have hword := fun j (hj : j ≠ SW.GCLSTAT) => State.word_wr_ne s (f := SW.GCLSTAT.ENTRY) (s.rd SW.GCLSTAT.ENTRY + 1) hj
    generalize s.wr SW.GCLSTAT.ENTRY (s.rd SW.GCLSTAT.ENTRY + 1) = u at *
    refine ⟨_, hexec, (State.rd_withNet ..).trans hrd, ?_, fun j hj => (State.word_withNet ..).trans (hword j hj), hframe⟩
    rw [State.withNet_net, hnet]
  case begun =>
    have hexec := exec_gateListAdvance_begin hen hcycle hrun htime
    have hframe := execGateListAdvance_frame s _ hexec
    obtain ⟨e, heq⟩ := s.gateCycle_eq t0
    have hrunning : s.gateBegun.flag SW.GCLSTAT.RUNNING = true := by
      rw [State.gateBegun, State.flag_wr_clear _ _ (by simp only [Fld.clear, SW.gateFields]; omega), State.flag_wrFlag_self _ _ (by decide)]
    have hentry : s.gateBegun.rd SW.GCLSTAT.ENTRY = 0 := by rw [State.gateBegun, State.rd_wr_self _ (by decide)]
    have hword (j : Nat) (hj : j ≠ SW.GCLSTAT) : s.gateBegun.word j = s.word j := by
      rw [State.gateBegun, State.word_wr_ne _ _ hj, State.word_wrFlag_ne _ _ hj]
    rw [heq] at hexec hframe
    generalize s.gateBegun = u at *
    refine ⟨_, hexec, (State.flag_withNet ..).trans hrunning, (State.rd_withNet ..).trans hentry, by rw [State.withNet_net], ?_,
      fun j hj => (State.word_withNet ..).trans (hword j hj), hframe⟩
    rw [State.withNet_net, State.rd_congr (hword _ (by decide))]
  case aged =>
    have hexec := exec_macEntryAged hfind htime
    have hframe := execMacEntryAged_frame vid mac s _ hexec
    have hnet := s.withNet_net { s.net with macs := s.net.macs.erase (macKey vid mac) }
    generalize s.withNet { s.net with macs := s.net.macs.erase (macKey vid mac) } = u at *
    refine ⟨_, hexec, ?_, fun k hk => ?_, ?_, hframe⟩
    · rw [State.wr_net, hnet]
      exact Store.find_erase_same _ _
    · rw [State.wr_net, hnet]
      exact Store.find_erase_ne _ hk
    · rw [State.wr_net, hnet]
      exact State.rd_wr_same _ _ _ (by decide)
  case left =>
    have hexec := exec_groupLeave hfind hmem htime
    have hframe := execGroupLeave_frame x vid v6 addr s _ hexec
    have hnet := s.withNet_net { s.net with groups := groupsLeft s.net.groups (groupKey vid v6 addr) (groupRest ps x) }
    generalize s.withNet { s.net with groups := groupsLeft s.net.groups (groupKey vid v6 addr) (groupRest ps x) } = u at *
    refine ⟨_, hexec, ?_, fun k hk => ?_, hframe⟩
    · rw [State.wr_net, hnet]
      exact find_groupsLeft_same ..
    · rw [State.wr_net, hnet]
      exact find_groupsLeft_ne _ _ hk
  case trained =>
    have hexec := exec_pcieLinkTrained hheld hon hapll hwidth hlo hhi
    refine ⟨_, hexec, ?_, ?_, ?_, fun k hk => ?_, execPcieLinkTrained_frame width speed s _ hexec⟩
    · rw [State.flag_wr_clear _ _ (by simp only [Fld.clear, SW.gateFields]; omega), State.flag_wr_clear _ _ (by simp only [Fld.clear, SW.gateFields]; omega),
        State.flag_wrFlag_self _ _ (by decide)]
    · rw [State.rd_wr_clear _ _ (by simp only [Fld.clear, SW.gateFields]; omega), State.rd_wr_self _ (by simp only [SW.gateFields]; omega)]
    · rw [State.rd_wr_self _ (by simp only [SW.gateFields]; omega)]
    · rw [State.word_wr_ne _ _ hk, State.word_wr_ne _ _ hk, State.word_wrFlag_ne _ _ hk]

end Sys2Proof.Machine
end

section
/-!
PROOFS. The commands of the cue player and the capture ring (R443, R447).
-/

namespace Sys2Proof.Machine

/-! ## The store of voices -/

theorem State.voice_setVoice_same (s : State) (n : Nat) (x : Voice) : (s.setVoice n x).voice n = x := Store.get_set_same _ _ _ _

theorem State.voice_setVoice_ne (s : State) {n m : Nat} (x : Voice) (h : m ≠ n) : (s.setVoice n x).voice m = s.voice m := Store.get_set_ne _ _ _ h

theorem State.voice_congr {s t : State} (h : t.mem = s.mem) (n : Nat) : t.voice n = s.voice n := by rw [State.voice, h, State.voice]

theorem State.word_setVoice (s : State) (n : Nat) (x : Voice) (k : Nat) : (s.setVoice n x).word k = s.word k := State.word_congr rfl k

/-- From `s` to `t` voice `n` becomes `x`, its table shows the state `st`, and no other voice changes. -/
structure VoiceSet (n : Nat) (x : Voice) (st : Nat) (s t : State) : Prop where
  this : t.voice n = x
  shown : t.rd (VS.STATE n) = st
  others : ∀ m, m ≠ n → t.voice m = s.voice m

/-- A voice with its state in VS. -/
def State.voiceShown (s : State) (n : Nat) (x : Voice) (st : Nat) : State := (s.setVoice n x).wr (VS.STATE n) st

theorem State.voiceShown_mem (s : State) (n : Nat) (x : Voice) (st : Nat) : (s.voiceShown n x st).mem = (s.setVoice n x).mem := State.wr_mem ..

theorem State.voiceShown_set (s : State) (n : Nat) (x : Voice) {st : Nat} (h : st < 8) : VoiceSet n x st s (s.voiceShown n x st) :=
  ⟨(State.voice_congr (s.voiceShown_mem n x st) n).trans (s.voice_setVoice_same n x), State.rd_wr_self _ ⟨show 0 + 3 ≤ 32 by decide, h⟩,
    fun _ hm => (State.voice_congr (s.voiceShown_mem n x st) _).trans (s.voice_setVoice_ne x hm)⟩

theorem State.voiceShown_frame (s : State) (n : Nat) (x : Voice) (st : Nat) : Frame [.live, .mem] s (s.voiceShown n x st) :=
  ((s.setVoice_frame n x).weaken rfl).seq (State.wr_frame ..) rfl

theorem VoiceSet.of_like {n st : Nat} {x : Voice} {s u t : State} (h : VoiceSet n x st u t) (hu : u.mem = s.mem) : VoiceSet n x st s t :=
  ⟨h.this, h.shown, fun m hm => (h.others m hm).trans (State.voice_congr hu m)⟩

/-! ## GO and STOP of a voice (R443) -/

theorem CUE.vcmd_masks : RegMasks CUE.VCMD 255 0 := ⟨_, _, rfl, rfl, rfl, rfl, rfl⟩

/-- The state in which a write of VCMD acts. -/
def State.vcmdWritten (s : State) (v : Nat) : State := s.rwWritten CUE.VCMD (BitVec.ofNat 32 v) 255

theorem State.act_vcmd (s : State) (i v : Nat) (old : Word) : s.act i CUE.VCMD v old true =
    if bit v 30 then (if bit v 31 then s.voiceGo (s.rd CUE.VCMD.VOICE) else s).voiceStop (s.rd CUE.VCMD.VOICE)
    else if bit v 31 then s.voiceGo (s.rd CUE.VCMD.VOICE) else s := rfl

theorem State.regCommand_vcmd {s : State} {i : Iface} {v : Nat} (hv : v < 2 ^ 32) (h : s.hostReaches i CUE.VCMD = true) :
    s.regCommand i CUE.VCMD v = (s.vcmdWritten v).act (ifaceNumber i) CUE.VCMD v (s.word CUE.VCMD) true := by
  refine State.regCommand_reached (by unfold NormalSpace CUE.VCMD; omega) h ((State.regWrite_rw _ _ CUE.vcmd_masks (by decide) rfl (by decide)
    fun _ => State.setModes_unwatched _ _ (by decide) (by decide) (by decide) (by decide)).trans ?_)
  rw [BitVec.toNat_ofNat, Nat.mod_eq_of_lt hv, State.vcmdWritten]

/-- VOICE names the voice of the command. -/
theorem State.vcmdWritten_voice (s : State) {v n : Nat} (hv : v < 2 ^ 32) (h : v % 256 = n) : (s.vcmdWritten v).rd CUE.VCMD.VOICE = n := by
  refine (s.rd_rwWritten (f := CUE.VCMD.VOICE) (BitVec.ofNat 32 v) (mask := 255) (by decide) fun j _ hj => ?_).trans ?_
  · rw [show (255 : Nat) = 2 ^ 8 - 1 from rfl, Nat.testBit_two_pow_sub_one]
    exact decide_eq_true hj
  · rw [Fld.ext, BitVec.toNat_ofNat, Nat.mod_eq_of_lt hv, ← h]
    unfold CUE.VCMD.VOICE
    rw [pow_zero, Nat.div_one]
    rfl

theorem State.vcmdWritten_kept (s : State) (v : Nat) : (∀ j, j ≠ CUE.VCMD → (s.vcmdWritten v).word j = s.word j) ∧ (s.vcmdWritten v).mem = s.mem ∧
    Frame [.live] s (s.vcmdWritten v) :=
  have hframe := s.rwWritten_frame CUE.VCMD (BitVec.ofNat 32 v) 255
  ⟨fun _ hj => s.word_rwWritten_ne _ _ hj, hframe.same .mem rfl, hframe⟩

theorem exec_voiceGo {s : State} {i : Iface} {n : Nat} (hn : n < 256) (h : s.hostReaches i CUE.VCMD = true) :
    exec (.voiceGo i n) s = .next ((s.vcmdWritten (2 ^ 31 + n % 2 ^ 8)).voiceGo n) := by
  refine congrArg _ ((State.regCommand_vcmd (by omega) h).trans ?_)
  rw [State.act_vcmd, s.vcmdWritten_voice (by omega) (by omega : (2 ^ 31 + n % 2 ^ 8) % 256 = n), if_neg, if_pos]
  · simp only [bit, beq_iff_eq]; omega
  · simp only [bit, beq_iff_eq]; omega

theorem exec_voiceStop {s : State} {i : Iface} {n : Nat} (hn : n < 256) (h : s.hostReaches i CUE.VCMD = true) :
    exec (.voiceStop i n) s = .next ((s.vcmdWritten (2 ^ 30 + n % 2 ^ 8)).voiceStop n) := by
  refine congrArg _ ((State.regCommand_vcmd (by omega) h).trans ?_)
  rw [State.act_vcmd, s.vcmdWritten_voice (by omega) (by omega : (2 ^ 30 + n % 2 ^ 8) % 256 = n), if_pos, if_neg]
  · simp only [bit, beq_iff_eq]; omega
  · simp only [bit, beq_iff_eq]; omega

theorem State.voiceGo_enabled {s : State} {n : Nat} (h : s.flag (VT.EN n) = true) :
    s.voiceGo n = s.voiceShown n { s.voice n with start := some ((s.tick + 2) % 2 ^ 32) } 1 := if_pos h

theorem State.voiceGo_disabled {s : State} {n : Nat} (h : s.flag (VT.EN n) = false) : s.voiceGo n = s := if_neg (ne_true_of_eq_false h)

theorem State.voiceStop_playing {s : State} {n : Nat} (h : (s.voice n).on = true) : s.voiceStop n =
    s.voiceShown n { s.voice n with g0 := (s.voice n).gain, target := 0, ramp := s.rd (VT.RAMP n), at_ := 0, stopping := true } 3 := if_pos h

theorem State.voiceStop_waiting {s : State} {n : Nat} (h : (s.voice n).on = false) (hstart : (s.voice n).start.isSome = true) :
    s.voiceStop n = s.voiceShown n { s.voice n with start := none } 4 := (if_neg (ne_true_of_eq_false h)).trans (if_pos hstart)

/-! ## A voice's start and end (R443) -/

theorem exec_voiceStart {s : State} {n f : Nat} (hn : n < 256) (hstart : (s.voice n).start = some f) (hon : (s.voice n).on = true)
    (hticking : s.ticking = true) (hfuture : futureTick f s.tick = false) : exec (.voiceStart n) s =
      .next ((s.voiceShown n { s.voice n with start := none } (if (s.voice n).stopping then 3 else 2)).wr (VS.S n) f) := by
  show execVoiceStart n s = _
  unfold execVoiceStart
  dsimp only
  rw [hstart]
  exact congrArg _ (if_pos ⟨hn, hon, hticking, ne_true_of_eq_false hfuture⟩)

theorem exec_cueVoiceDone {s : State} {n f : Nat} {natural : Bool} (hn : n < 256) (hends : (s.voice n).ends = some (f, natural))
    (hfuture : futureTick f s.tick = false) : ∃ d, exec (.cueVoiceDone n) s =
      .next (if natural then ((s.voiceShown n { s.voice n with ends := none } 4).sqf CUE.HIST.VOICEDONE).report 0x1301 n d
        else s.voiceShown n { s.voice n with ends := none } 4) := by
  refine ⟨(s.voice n).pos, ?_⟩
  show execCueVoiceDone n s = _
  unfold execCueVoiceDone
  dsimp only
  rw [hends]
  exact congrArg _ (if_pos ⟨hn, ne_true_of_eq_false hfuture⟩)

/-! ## The capture ring (R447) -/

theorem CUE.capctl_masks : RegMasks CUE.CAPCTL 0 3321888768 := ⟨_, _, rfl, rfl, rfl, rfl, rfl⟩

/-- The state in which a write of CAPCTL acts: its RWS fields are in the open shadow, or refused (log entry 43). -/
def State.capctlWritten (s : State) (i : Iface) (v : Nat) : State := s.rwsWrite (ifaceNumber i) CUE.CAPCTL 0 (BitVec.ofNat 32 v) 3321888768

theorem State.capctlWritten_spares {s : State} {i : Iface} (v : Nat) (h : s.hostReaches i CUE.CAPCTL = true) :
    (∀ j, commandSpares j → (s.capctlWritten i v).word j = s.word j) ∧ (s.capctlWritten i v).mem = s.mem ∧
      Frame [.live, .shadow, .ckpt, .evt, .out] s (s.capctlWritten i v) :=
  have ⟨hword, hframe⟩ := State.rwsWrite_spares (k := CUE.CAPCTL) (v := BitVec.ofNat 32 v) (ifaceNumber i) 3321888768
    (State.standby_of_reaches h (by decide)) rfl fun _ => State.setModes_unwatched _ _ (by decide) (by decide) (by decide) (by decide)
  ⟨hword, hframe.same .mem rfl, hframe⟩

theorem State.regCommand_capctl {s : State} {i : Iface} {v : Nat} (hv : v < 2 ^ 32) (h : s.hostReaches i CUE.CAPCTL = true) :
    s.regCommand i CUE.CAPCTL v = (s.capctlWritten i v).act (ifaceNumber i) CUE.CAPCTL v (s.word CUE.CAPCTL) true := by
  refine State.regCommand_reached (by unfold NormalSpace CUE.CAPCTL; omega) h ((State.regWrite_rws _ _ CUE.capctl_masks (by decide) rfl).trans ?_)
  rw [BitVec.toNat_ofNat, Nat.mod_eq_of_lt hv, State.capctlWritten]

theorem State.act_capctl (s : State) (i v : Nat) (old : Word) : s.act i CUE.CAPCTL v old true =
    if bit v 1 then (if bit v 0 then s.capGo else s).capStopped else if bit v 0 then s.capGo else s := rfl

theorem exec_captureGo {s : State} {i : Iface} {v : Nat} (hv : v < 2 ^ 32) (h : s.hostReaches i CUE.CAPCTL = true) (hstop : v.testBit 1 = false) :
    exec (.captureGo i v) s = .next (s.capctlWritten i (v ||| 1)).capGo := by
  refine congrArg _ ((State.regCommand_capctl (or_lt_word hv (b := 0) (by decide)) h).trans ?_)
  rw [State.act_capctl, if_neg (by rw [bit_or_ne (b := 0) v (by decide), hstop]; decide), if_pos (bit_or_self v 0)]
  rfl

theorem exec_captureStop {s : State} {i : Iface} {v : Nat} (hv : v < 2 ^ 32) (h : s.hostReaches i CUE.CAPCTL = true) :
    exec (.captureStop i v) s = .next (s.capctlWritten i (clearBit v 0 ||| 2)).capStopped := by
  refine congrArg _ ((State.regCommand_capctl (or_lt_word (clearBit_lt 0 hv) (b := 1) (by decide)) h).trans ?_)
  obtain ⟨h0, h1⟩ := bit_clearBit_zero v
  rw [show (2 : Nat) ^ 1 = 2 by decide]
  rw [State.act_capctl, if_pos h1, if_neg (by rw [h0]; decide)]

/-- The state with the clients of external memory at `x`. -/
def State.withMem (s : State) (x : Clients) : State := { s with mem := x }

theorem State.word_withMem (s : State) (x : Clients) (k : Nat) : (s.withMem x).word k = s.word k := State.word_congr rfl k
theorem State.withMem_mem (s : State) (x : Clients) : (s.withMem x).mem = x := rfl

theorem State.capGo_running {s : State} (hen : s.flag CUE.CAPCTL.EN = true) (hrun : s.flag CUE.CAPSTAT.RUNNING = true) :
    s.capGo = s.withMem { s.mem with capAt := some ((s.tick + 1) % 2 ^ 32), capStop := false } := by
  unfold State.capGo
  rw [if_pos hen, if_pos hrun]
  rfl

theorem State.capGo_idle {s : State} (hen : s.flag CUE.CAPCTL.EN = true) (hrun : s.flag CUE.CAPSTAT.RUNNING = false) :
    s.capGo = s.capReset.withMem { s.capReset.mem with capAt := some ((s.capReset.tick + 1) % 2 ^ 32), capStop := false } := by
  unfold State.capGo
  rw [if_pos hen, if_neg (ne_true_of_eq_false hrun)]
  rfl

/-- The registers of an empty ring. -/
def State.ringEmptied (s : State) : State := ((s.wr CUE.CAPWRPTR.val 0).wr CUE.CAPRECS.val 0).wrFlag CUE.CAPSTAT.FULL false

theorem State.capReset_eq (s : State) : s.capReset = s.ringEmptied.withMem { s.ringEmptied.mem with capSeq := 0, capDrops := 0, capPos := 0 } := rfl

theorem State.ringEmptied_fields (s : State) : s.ringEmptied.rd CUE.CAPWRPTR.val = 0 ∧ s.ringEmptied.rd CUE.CAPRECS.val = 0 ∧
    s.ringEmptied.flag CUE.CAPSTAT.FULL = false ∧ s.ringEmptied.mem = s.mem ∧ s.ringEmptied.tick = s.tick := by
  have hfields : CUE.CAPWRPTR.val = ⟨0x130044, 0, 32⟩ ∧ CUE.CAPRECS.val = ⟨0x130048, 0, 32⟩ ∧ CUE.CAPSTAT.FULL = ⟨0x130040, 30, 1⟩ := ⟨rfl, rfl, rfl⟩
  refine ⟨?_, ?_, ?_, ?_, ?_⟩
  · rw [State.ringEmptied, State.rd_wrFlag_clear _ _ (by simp only [Fld.clear, hfields]; omega),
      State.rd_wr_clear _ _ (by simp only [Fld.clear, hfields]; omega), State.rd_wr_self _ (by decide)]
  · rw [State.ringEmptied, State.rd_wrFlag_clear _ _ (by simp only [Fld.clear, hfields]; omega), State.rd_wr_self _ (by decide)]
  · rw [State.ringEmptied, State.flag_wrFlag_self _ _ (by decide)]
  · rw [State.ringEmptied, State.wrFlag_mem, State.wr_mem, State.wr_mem]
  · refine State.rd_congr ?_
    rw [State.ringEmptied, State.word_wrFlag_ne _ _ (by decide), State.word_wr_ne _ _ (by decide), State.word_wr_ne _ _ (by decide)]

/-! ## The obligation -/

/-- Settles O44: each command leaves one voice, or the ring, as its bits say, whatever becomes of the RWS fields that are written with it. -/
theorem voicesAndCaptureObeyTheirCommands : Obligations.VoicesAndCaptureObeyTheirCommands := by
  unfold Obligations.VoicesAndCaptureObeyTheirCommands
  intro i n v s x others hn
  have hvt (b j : Nat) (u : State) (h : ∀ k, k ≠ CUE.VCMD → u.word k = s.word k) : u.word (VT.word b j) = s.word (VT.word b j) :=
    h _ (by unfold VT.word CUE.VCMD; omega)
  refine ⟨fun hhost hen => ?go, fun hhost hen => ?ignored, fun hhost hon => ?stop, fun hhost hon hstart => ?drop, fun f hstart hon hticking hfuture => ?start,
    fun f natural hends hfuture => ?done, fun hv hhost hstop hen hrun => ?again, fun hv hhost hstop hen hrun => ?anew, fun hv hhost => ?ended⟩
  case go =>
    have hexec := exec_voiceGo hn hhost
    obtain ⟨hword, hmem, hframe⟩ := s.vcmdWritten_kept (2 ^ 31 + n % 2 ^ 8)
    generalize s.vcmdWritten (2 ^ 31 + n % 2 ^ 8) = u at *
    have htick : u.tick = s.tick := State.rd_congr (hword _ (by decide))
    rw [State.voiceGo_enabled ((State.flag_congr (hvt n 0 u hword)).trans hen), State.voice_congr hmem, htick] at hexec
    have hset := (u.voiceShown_set n { x with start := some ((s.tick + 2) % 2 ^ 32) } (by decide : 1 < 8)).of_like hmem
    exact ⟨_, hexec, hset.this, hset.shown, hset.others, (hframe.weaken rfl).trans (State.voiceShown_frame ..)⟩
  case ignored =>
    have hexec := exec_voiceGo hn hhost
    obtain ⟨hword, hmem, hframe⟩ := s.vcmdWritten_kept (2 ^ 31 + n % 2 ^ 8)
    generalize s.vcmdWritten (2 ^ 31 + n % 2 ^ 8) = u at *
    rw [State.voiceGo_disabled ((State.flag_congr (hvt n 0 u hword)).trans hen)] at hexec
    exact ⟨_, hexec, hmem, hframe⟩
  case stop =>
    have hexec := exec_voiceStop hn hhost
    obtain ⟨hword, hmem, hframe⟩ := s.vcmdWritten_kept (2 ^ 30 + n % 2 ^ 8)
    generalize s.vcmdWritten (2 ^ 30 + n % 2 ^ 8) = u at *
    rw [State.voiceStop_playing (by rw [State.voice_congr hmem]; exact hon), State.voice_congr hmem,
      State.rd_congr (f := VT.RAMP n) (hvt n 6 u hword)] at hexec
    have hset := (u.voiceShown_set n { x with g0 := x.gain, target := 0, ramp := s.rd (VT.RAMP n), at_ := 0, stopping := true }
      (by decide : 3 < 8)).of_like hmem
    exact ⟨_, hexec, hset.this, hset.shown, hset.others, (hframe.weaken rfl).trans (State.voiceShown_frame ..)⟩
  case drop =>
    have hexec := exec_voiceStop hn hhost
    obtain ⟨hword, hmem, hframe⟩ := s.vcmdWritten_kept (2 ^ 30 + n % 2 ^ 8)
    generalize s.vcmdWritten (2 ^ 30 + n % 2 ^ 8) = u at *
    rw [State.voiceStop_waiting (by rw [State.voice_congr hmem]; exact hon) (by rw [State.voice_congr hmem]; exact hstart), State.voice_congr hmem] at hexec
    have hset := (u.voiceShown_set n { x with start := none } (by decide : 4 < 8)).of_like hmem
    exact ⟨_, hexec, hset.this, hset.shown, hset.others, (hframe.weaken rfl).trans (State.voiceShown_frame ..)⟩
  case start =>
    have hexec := exec_voiceStart hn hstart hon hticking hfuture
    have hset := s.voiceShown_set n { x with start := none } (st := if x.stopping then 3 else 2) (by split <;> decide)
    change VoiceSet n _ _ s (s.voiceShown n { s.voice n with start := none } (if (s.voice n).stopping then 3 else 2)) at hset
    generalize s.voiceShown n { s.voice n with start := none } (if (s.voice n).stopping then 3 else 2) = u at *
    have hmem : (u.wr (VS.S n) f).mem = u.mem := State.wr_mem ..
    refine ⟨_, hexec, (State.voice_congr hmem n).trans hset.this, ?_, State.rd_wr_same _ _ _ (show 0 + 32 ≤ 32 by decide),
      fun m hm => (State.voice_congr hmem m).trans (hset.others m hm), execVoiceStart_frame n s _ hexec⟩
    rw [State.rd_wr_clear _ _ (by unfold Fld.clear VS.S VS.STATE VS.word; dsimp only; omega), hset.shown]
  case done =>
    obtain ⟨d, hexec⟩ := exec_cueVoiceDone hn hends hfuture
    have hset := s.voiceShown_set n { x with ends := none } (by decide : 4 < 8)
    have hframe := execCueVoiceDone_frame n s _ hexec
    have hword (j : Nat) (hj : j ≠ VS.word n 0) : (s.voiceShown n { s.voice n with ends := none } 4).word j = s.word j :=
      (State.word_wr_ne _ _ hj).trans (s.word_setVoice _ _ j)
    change VoiceSet n _ _ s (s.voiceShown n { s.voice n with ends := none } 4) at hset
    generalize s.voiceShown n { s.voice n with ends := none } 4 = u at *
    cases natural with
    | true =>
      rw [if_pos rfl] at hexec hframe
      have hmem : ((u.sqf CUE.HIST.VOICEDONE).report 0x1301 n d).mem = u.mem := ((State.report_frame ..).same .mem rfl).trans (State.sqf_mem ..)
      refine ⟨_, hexec, (State.voice_congr hmem n).trans hset.this, ?_, fun m hm => (State.voice_congr hmem m).trans (hset.others m hm), fun _ => ⟨?_, ?_⟩,
        hframe⟩
      · rw [State.rd_report_clear _ _ _ (by unfold reportSpares VS.STATE VS.word; dsimp only; omega),
          State.rd_sqf_clear _ (by unfold VS.STATE VS.word CUE.HIST.VOICEDONE CUE.HIST; dsimp only; omega), hset.shown]
      · rw [State.flag_report_clear _ _ _ (by unfold reportSpares CUE.HIST.VOICEDONE CUE.HIST; dsimp only; omega), State.flag_sqf_self _ (by decide)]
      · refine Reported.report_of_kept _ _ (by decide) fun j _ _ => ?_
        rw [State.word_sqf_ne _ (by unfold CUE.HIST.VOICEDONE CUE.HIST; dsimp only; omega), hword _ (by unfold VS.word; omega)]
    | false =>
      rw [if_neg Bool.false_ne_true] at hexec hframe
      exact ⟨_, hexec, hset.this, hset.shown, hset.others, fun h => absurd h Bool.false_ne_true, hframe⟩
  case again =>
    have hexec := exec_captureGo hv hhost hstop
    obtain ⟨hword, hmem, hframe⟩ := State.capctlWritten_spares (v ||| 1) hhost
    generalize s.capctlWritten i (v ||| 1) = u at *
    have hspared {j : Nat} (h : 0x23000 ≤ j ∧ j < 2 ^ 31) : u.word j = s.word j := hword j (.inr h)
    rw [State.capGo_running ((State.flag_congr (hspared (by decide))).trans hen) ((State.flag_congr (hspared (by decide))).trans hrun), hmem,
      show u.tick = s.tick from State.rd_congr (hword _ (.inl rfl))] at hexec
    exact ⟨_, hexec, State.withMem_mem .., State.rd_congr ((State.word_withMem ..).trans (hspared (by decide))), Frame.set_mem (hframe.weaken rfl) rfl⟩
  case anew =>
    have hexec := exec_captureGo hv hhost hstop
    obtain ⟨hword, hmem, hframe⟩ := State.capctlWritten_spares (v ||| 1) hhost
    generalize s.capctlWritten i (v ||| 1) = u at *
    have hspared {j : Nat} (h : 0x23000 ≤ j ∧ j < 2 ^ 31) : u.word j = s.word j := hword j (.inr h)
    have hgo := State.capGo_idle (s := u) ((State.flag_congr (hspared (by decide))).trans hen) ((State.flag_congr (hspared (by decide))).trans hrun)
    have hgoFrame := u.capGo_frame
    obtain ⟨hptr, hrecs, hfull, hringMem, htick⟩ := u.ringEmptied_fields
    rw [State.capReset_eq] at hgo
    have hkept : ∀ x y, ((u.ringEmptied.withMem x).withMem y).live = u.ringEmptied.live := fun _ _ => rfl
    have htickKept : ∀ x, (u.ringEmptied.withMem x).tick = u.ringEmptied.tick := fun x => State.rd_congr (State.word_withMem ..)
    rw [htickKept, htick, State.withMem_mem, hringMem, hmem, show u.tick = s.tick from State.rd_congr (hword _ (.inl rfl))] at hgo
    generalize u.ringEmptied = w at *
    have hlive : u.capGo.live = w.live := by rw [hgo, hkept]
    refine ⟨_, hexec, (State.rd_congr (State.word_congr hlive _)).trans hptr, (State.rd_congr (State.word_congr hlive _)).trans hrecs,
      (State.flag_congr (State.word_congr hlive _)).trans hfull, ?_, (hframe.weaken rfl).trans (hgoFrame.weaken rfl)⟩
    rw [hgo, State.withMem_mem]
  case ended =>
    have hexec := exec_captureStop hv hhost
    obtain ⟨hword, hmem, hframe⟩ := State.capctlWritten_spares (clearBit v 0 ||| 2) hhost
    generalize s.capctlWritten i (clearBit v 0 ||| 2) = u at *
    have hrun : u.flag CUE.CAPSTAT.RUNNING = s.flag CUE.CAPSTAT.RUNNING := State.flag_congr (hword _ (.inr (by decide)))
    refine ⟨_, hexec, ?_, (hframe.weaken rfl).seq u.capStopped_frame rfl⟩
    show { u.mem with capStop := u.flag CUE.CAPSTAT.RUNNING, capAt := none } = _
    rw [hmem, hrun]

end Sys2Proof.Machine
end

section
/-!
PROOFS. The pair's barks, convergence and the handover of path B (R454, R455, R457, R458, R464, R466).
-/

namespace Sys2Proof.Machine

/-- Where the registers of the pair stand. -/
theorem PAIR.statusFields :
    PAIR.STAT.ROLE = ⟨0x140040, 30, 2⟩ ∧ PAIR.STAT.PARTNER = ⟨0x140040, 27, 3⟩ ∧ PAIR.STAT.VOTE = ⟨0x140040, 25, 2⟩ ∧
    PAIR.STAT.DIVERGED = ⟨0x140040, 24, 1⟩ ∧ PAIR.SKEW.val = ⟨0x140044, 0, 32⟩ ∧ PAIR.RTT.val = ⟨0x140048, 0, 32⟩ ∧ PAIR.MIRACK = 0x14004C ∧
    PAIR.BARKMISS.val = ⟨0x140060, 0, 32⟩ ∧ PAIR.DIGESTERR.val = ⟨0x140064, 0, 32⟩ ∧ PAIR.BADTAG.val = ⟨0x140070, 0, 32⟩ ∧
    PAIR.HIST.LOST = ⟨0x140080, 0, 1⟩ ∧ PAIR.HIST.SYNCED = ⟨0x140080, 6, 1⟩ ∧ PAIR.HIST.DIVERGED = ⟨0x140080, 1, 1⟩ ∧ PAIR.STAT = 0x140040 := by
  and_intros <;> rfl

@[simp] theorem State.rd_setPair (s : State) (p : Pair) (f : Fld) : (s.setPair p).rd f = s.rd f := State.rd_congr rfl
@[simp] theorem State.flag_setPair (s : State) (p : Pair) (f : Fld) : (s.setPair p).flag f = s.flag f := State.flag_congr rfl
theorem State.word_setPair (s : State) (p : Pair) (k : Nat) : (s.setPair p).word k = s.word k := State.word_congr rfl k
theorem State.setPair_pair (s : State) (p : Pair) : (s.setPair p).pair = p := rfl

/-! ## Barks (R454, R455) -/

theorem State.badTag_fields (s : State) : s.badTag.rd PAIR.BADTAG.val = (s.rd PAIR.BADTAG.val + 1) % 2 ^ 32 ∧
    (∀ k, k ≠ PAIR.BADTAG → s.badTag.word k = s.word k) ∧ Frame [.live] s s.badTag :=
  ⟨s.rd_inc_same (by decide), fun _ hk => s.word_inc_ne hk, s.inc_frame _⟩

theorem exec_barkReceive_bad {s : State} {ws tag : List Nat} (skew : Int) (rtt : Nat) (hen : s.flag PAIR.CFG.EN = true) (hticking : s.ticking = true)
    (hbad : s.packetGood ws tag = false) : exec (.barkReceive ws tag skew rtt) s = .next s.badTag :=
  congrArg _ ((if_neg (by simp [hen, hticking])).trans (if_pos (by simp [hbad])))

/-- The measurement that a bark brings. -/
def State.barkShown (s : State) (skew : Int) (rtt : Nat) : State :=
  let s := (s.wrS PAIR.SKEW.val skew).wr PAIR.RTT.val rtt
  s.setPair { s.pair with skewRun := 0 }

/-- The bark of tick `t` has come. -/
def State.barkTaken (s : State) (t : Nat) : State :=
  let s := if s.pair.barkHere then s else s.barkCame t
  s.setPair { s.pair with barkHere := true }

theorem exec_barkReceive_good {s : State} {ws tag : List Nat} {skew : Int} (rtt : Nat) (hen : s.flag PAIR.CFG.EN = true) (hticking : s.ticking = true)
    (hgood : s.packetGood ws tag = true) (htick : ws.getD 1 0 = (s.barkShown skew rtt).tick) (hskew : skew.natAbs ≤ 1000) :
    exec (.barkReceive ws tag skew rtt) s = .next (((s.barkShown skew rtt).barkTaken (ws.getD 1 0)).heed ws) := by
  have hrun : (if 1000 < skew.natAbs then s.pair.skewRun + 1 else 0) = 0 := if_neg (by omega)
  show execBarkReceive ws tag skew rtt s = _
  unfold execBarkReceive
  rw [if_neg (by simp [hen, hticking]), if_neg (by simp [hgood])]
  dsimp only
  rw [State.wr_pair, State.wrS_pair, hrun]
  refine congrArg _ ((if_pos htick).trans ?_)
  rw [if_neg (by decide)]
  rfl

/-- Between `s` and `t` nothing has changed that a bark has recorded. -/
structure BarkKept (s t : State) : Prop where
  skew : t.word PAIR.SKEW = s.word PAIR.SKEW
  rtt : t.word PAIR.RTT = s.word PAIR.RTT
  here : t.pair.barkHere = s.pair.barkHere
  run : t.pair.skewRun = s.pair.skewRun
  last : t.pair.lastBark = s.pair.lastBark
  missed : t.pair.missRun = s.pair.missRun
  ref : t.ref = s.ref

theorem BarkKept.refl (s : State) : BarkKept s s := ⟨rfl, rfl, rfl, rfl, rfl, rfl, rfl⟩

theorem BarkKept.trans {s t u : State} (h : BarkKept s t) (k : BarkKept t u) : BarkKept s u :=
  ⟨k.skew.trans h.skew, k.rtt.trans h.rtt, k.here.trans h.here, k.run.trans h.run, k.last.trans h.last, k.missed.trans h.missed, k.ref.trans h.ref⟩

theorem BarkKept.of_words {s t : State} (hskew : t.word PAIR.SKEW = s.word PAIR.SKEW) (hrtt : t.word PAIR.RTT = s.word PAIR.RTT)
    (hpair : t.pair = s.pair) (href : t.ref = s.ref) : BarkKept s t :=
  ⟨hskew, hrtt, by rw [hpair], by rw [hpair], by rw [hpair], by rw [hpair], href⟩

theorem BarkKept.setPair {s : State} {p : Pair} (hhere : p.barkHere = s.pair.barkHere) (hrun : p.skewRun = s.pair.skewRun)
    (hlast : p.lastBark = s.pair.lastBark) (hmissed : p.missRun = s.pair.missRun) : BarkKept s (s.setPair p) :=
  ⟨s.word_setPair p _, s.word_setPair p _, hhere, hrun, hlast, hmissed, rfl⟩

theorem BarkKept.wr (s : State) {f : Fld} (v : Nat) (h : f.key ≠ PAIR.SKEW ∧ f.key ≠ PAIR.RTT) : BarkKept s (s.wr f v) :=
  .of_words (s.word_wr_ne v (Ne.symm h.1)) (s.word_wr_ne v (Ne.symm h.2)) (s.wr_pair f v) (s.wr_ref f v)

theorem BarkKept.report (s : State) {code : Nat} (source data : Nat) (h : code < 0x1800) : BarkKept s (s.report code source data) :=
  have hframe := s.report_frame code source data
  .of_words (s.report_word _ _ _ (by decide) h) (s.report_word _ _ _ (by decide) h) (hframe.same .pair rfl) (hframe.same .ref rfl)

theorem BarkKept.compareDigest (s : State) (t epoch digest : Nat) (valid : Bool) : BarkKept s (s.compareDigest t epoch digest valid) := by
  unfold State.compareDigest
  split
  · split
    · exact .wr s _ (by decide)
    · refine BarkKept.trans (.of_words ?_ ?_ ?_ ?_) (.report _ _ _ (by decide))
      · rw [State.word_sqf_ne _ (by decide), State.word_wrFlag_ne _ _ (by decide), State.word_inc_ne _ (by decide)]
      · rw [State.word_sqf_ne _ (by decide), State.word_wrFlag_ne _ _ (by decide), State.word_inc_ne _ (by decide)]
      · rw [State.sqf_pair, State.wrFlag_pair, State.inc_pair]
      · rw [State.sqf_ref, State.wrFlag_ref, State.inc_ref]
  · exact .wr s _ (by decide)

/-- What a bark says of the partner's state and of path B, on the ACTIVE. -/
def State.heedPartner (s : State) (ws : List Nat) : State :=
  let f := ws.getD 6 0
  let seen := bits f 4 2
  let s := if s.pair.handed || !bit f 6 then s else s.setPair { s.pair with txb := some (ws.getD 9 0) }
  if s.partner = 1 ∧ seen = 2 then s.wr PAIR.STAT.PARTNER 2
  else if s.partner = 2 ∧ seen = 3 then s.setPair { s.pair with syncedNew := true }
  else s

/-- The acknowledgement that a bark carries. -/
def State.heedAck (s : State) (ws : List Nat) : State := if s.role = 1 ∧ s.paired then s.setNum PAIR.MIRACK (ws.getD 4 0) else s

/-- The origin that the STANDBY adopts. -/
def State.heedOrigin (s : State) (ws : List Nat) : State :=
  if s.role = 2 then s.setPair { s.pair with adoptOrigin := if ws.getD 8 0 = s.rd TIME.MTORIGIN.val then none else some (ws.getD 8 0) } else s

/-- Two ACTIVE chips: side B steps down. -/
def State.heedTwin (s : State) (ws : List Nat) : State :=
  if s.role = 1 ∧ bits (ws.getD 6 0) 1 0 = 1 ∧ s.flag PAIR.CFG.SIDE then (s.setPair { s.pair with nextRole := some 3 }).report 0x1408 0 s.tick else s

/-- The partner's frame counters, as the selector reads them. -/
def State.heedMate (s : State) (ws : List Nat) : State := s.withRef { s.ref with mate := ws.getD 6 0 }

theorem State.heed_eq (s : State) (ws : List Nat) : ∃ v, s.heed ws =
    ((((if ((s.heedMate ws).heedAck ws).role = 1 then ((s.heedMate ws).heedAck ws).heedPartner ws else (s.heedMate ws).heedAck ws).compareDigest
      (ws.getD 1 0) (ws.getD 2 0) (ws.getD 5 0) v).heedOrigin ws).heedTwin ws) := ⟨_, rfl⟩

theorem BarkKept.heedPartner (s : State) (ws : List Nat) : BarkKept s (s.heedPartner ws) := by
  unfold State.heedPartner
  extract_lets f seen p u
  have hu : BarkKept s u := by
    unfold u
    split
    · exact .refl s
    · exact .setPair rfl rfl rfl rfl
  clear_value u
  split
  · exact hu.trans (.wr u _ (by decide))
  · split
    · exact hu.trans (.setPair rfl rfl rfl rfl)
    · exact hu

theorem BarkKept.heedAck (s : State) (ws : List Nat) : BarkKept s (s.heedAck ws) := by
  unfold State.heedAck
  split
  · exact .of_words (s.word_setNum_ne _ (by decide)) (s.word_setNum_ne _ (by decide)) (s.setNum_pair ..) (s.setNum_ref ..)
  · exact .refl s

theorem BarkKept.heedOrigin (s : State) (ws : List Nat) : BarkKept s (s.heedOrigin ws) := by
  unfold State.heedOrigin
  split
  · exact .setPair rfl rfl rfl rfl
  · exact .refl s

theorem BarkKept.heedTwin (s : State) (ws : List Nat) : BarkKept s (s.heedTwin ws) := by
  unfold State.heedTwin
  split
  · exact (BarkKept.setPair (p := { s.pair with nextRole := some 3 }) rfl rfl rfl rfl).trans (.report _ _ _ (by decide))
  · exact .refl s

theorem State.heed_kept (s : State) (ws : List Nat) : BarkKept (s.heedMate ws) (s.heed ws) := by
  obtain ⟨v, heq⟩ := s.heed_eq ws
  rw [heq]
  have hack := BarkKept.heedAck (s.heedMate ws) ws
  generalize s.heedMate ws = a at *
  generalize a.heedAck ws = b at *
  have hpartner : BarkKept b (if b.role = 1 then b.heedPartner ws else b) := by
    split
    · exact .heedPartner b ws
    · exact .refl b
  generalize (if b.role = 1 then b.heedPartner ws else b) = c at *
  exact (((hack.trans hpartner).trans (.compareDigest ..)).trans (.heedOrigin ..)).trans (.heedTwin ..)

/-- The bark of this tick, as it has been recorded. -/
theorem State.barkCame_fields (s : State) (t : Nat) : (∀ j, j ≠ PAIR.STAT → (s.barkCame t).word j = s.word j) ∧
    (s.barkCame t).pair.skewRun = s.pair.skewRun ∧ (s.barkCame t).pair.lastBark = some t ∧
    (s.pair.lastBark ≠ some t → (s.barkCame t).pair.missRun = 0) := by
  unfold State.barkCame
  split
  · next h => exact ⟨fun _ _ => rfl, rfl, h, fun hne => absurd h hne⟩
  · next h =>
    extract_lets p u w
    have hu : (∀ j, u.word j = s.word j) ∧ u.pair.skewRun = s.pair.skewRun ∧ u.pair.lastBark = some t ∧ u.pair.missRun = 0 :=
      ⟨fun j => s.word_setPair _ j, rfl, rfl, rfl⟩
    obtain ⟨hword, hrun, hlast, hmiss⟩ := hu
    have hwword (j : Nat) (hj : j ≠ PAIR.STAT) : w.word j = s.word j := (State.word_wr_ne _ _ hj).trans (hword j)
    have hwpair : w.pair = u.pair := State.wr_pair ..
    clear_value u w
    split
    · split
      · exact ⟨fun j hj => (w.word_setPair _ j).trans (hwword j hj), (congrArg Pair.skewRun hwpair).trans hrun,
          (congrArg Pair.lastBark hwpair).trans hlast, fun _ => (congrArg Pair.missRun hwpair).trans hmiss⟩
      · exact ⟨hwword, by rw [hwpair, hrun], by rw [hwpair, hlast], fun _ => by rw [hwpair, hmiss]⟩
    · exact ⟨fun j _ => hword j, hrun, hlast, fun _ => hmiss⟩

/-- What taking the bark of tick `t` leaves. -/
theorem State.barkTaken_fields (s : State) (t : Nat) : (∀ j, j ≠ PAIR.STAT → (s.barkTaken t).word j = s.word j) ∧
    (s.barkTaken t).pair.skewRun = s.pair.skewRun ∧ (s.barkTaken t).pair.barkHere = true ∧ (s.barkTaken t).ref = s.ref ∧
    (s.pair.barkHere = false → (s.barkTaken t).pair.lastBark = some t ∧ (s.pair.lastBark ≠ some t → (s.barkTaken t).pair.missRun = 0)) := by
  have heq : s.barkTaken t = (if s.pair.barkHere then s else s.barkCame t).setPair
    { (if s.pair.barkHere then s else s.barkCame t).pair with barkHere := true } := rfl
  obtain ⟨hword, hrun, hlast, hmiss⟩ := s.barkCame_fields t
  have href := (s.barkCame_frame t).same .ref rfl
  rw [heq]
  cases hhere : s.pair.barkHere with
  | true =>
    rw [if_pos rfl]
    exact ⟨fun j _ => s.word_setPair _ j, rfl, rfl, rfl, fun h => absurd h (by decide)⟩
  | false =>
    rw [if_neg Bool.false_ne_true]
    generalize s.barkCame t = u at *
    exact ⟨fun j hj => (u.word_setPair _ j).trans (hword j hj), hrun, rfl, href, fun _ => ⟨hlast, hmiss⟩⟩

theorem State.barkShown_fields (s : State) {skew : Int} {rtt : Nat} (hskew : skew.natAbs ≤ 1000) (hrtt : rtt < 2 ^ 32) :
    (s.barkShown skew rtt).rdS PAIR.SKEW.val = skew ∧ (s.barkShown skew rtt).rd PAIR.RTT.val = rtt ∧
      (s.barkShown skew rtt).pair = { s.pair with skewRun := 0 } ∧ (s.barkShown skew rtt).tick = s.tick ∧ (s.barkShown skew rtt).ref = s.ref := by
  have hfits : simmOk 32 skew = true := simmOk_word (by omega) (by omega)
  have hshown : ((s.wrS PAIR.SKEW.val skew).wr PAIR.RTT.val rtt).rdS PAIR.SKEW.val = skew := by
    rw [State.rdS_of_rd (State.rd_wr_clear _ _ (by simp only [Fld.clear, PAIR.statusFields]; omega)), State.rdS_wrS_self _ (by decide) hfits]
  have hrtt' : ((s.wrS PAIR.SKEW.val skew).wr PAIR.RTT.val rtt).rd PAIR.RTT.val = rtt := State.rd_wr_self _ ⟨by decide, hrtt⟩
  have htick : ((s.wrS PAIR.SKEW.val skew).wr PAIR.RTT.val rtt).tick = s.tick := State.rd_congr (by
    rw [State.word_wr_ne _ _ (by decide), State.wrS, State.word_wr_ne _ _ (by decide)])
  have hpair : ((s.wrS PAIR.SKEW.val skew).wr PAIR.RTT.val rtt).pair = s.pair := by rw [State.wr_pair, State.wrS_pair]
  have href : ((s.wrS PAIR.SKEW.val skew).wr PAIR.RTT.val rtt).ref = s.ref := by rw [State.wr_ref, State.wrS_ref]
  unfold State.barkShown
  dsimp only
  generalize (s.wrS PAIR.SKEW.val skew).wr PAIR.RTT.val rtt = u at *
  exact ⟨(State.rdS_of_rd (State.rd_setPair ..)).trans hshown, (State.rd_setPair ..).trans hrtt', by rw [State.setPair_pair, hpair],
    (State.rd_setPair ..).trans htick, href⟩

/-- A good bark of the tick is recorded. -/
theorem State.bark_recorded {s : State} {ws tag : List Nat} {skew : Int} {rtt : Nat} (hen : s.flag PAIR.CFG.EN = true) (hticking : s.ticking = true)
    (hgood : s.packetGood ws tag = true) (htick : ws.getD 1 0 = s.tick) (hskew : skew.natAbs ≤ 1000) (hrtt : rtt < 2 ^ 32) :
    ∃ t, exec (.barkReceive ws tag skew rtt) s = .next t ∧ t.rdS PAIR.SKEW.val = skew ∧ t.rd PAIR.RTT.val = rtt ∧
      t.pair.barkHere = true ∧ t.pair.skewRun = 0 ∧ t.ref = { s.ref with mate := ws.getD 6 0 } ∧
      (s.pair.barkHere = false → t.pair.lastBark = some s.tick ∧ (s.pair.lastBark ≠ some s.tick → t.pair.missRun = 0)) := by
  obtain ⟨hskewShown, hrttShown, hpair, htickShown, href⟩ := s.barkShown_fields hskew hrtt
  have hexec := exec_barkReceive_good rtt hen hticking hgood (htick.trans htickShown.symm) hskew
  rw [htick] at hexec
  generalize s.barkShown skew rtt = u at *
  obtain ⟨hword, hrun, hhere, hrefTaken, hcame⟩ := u.barkTaken_fields s.tick
  generalize u.barkTaken s.tick = w at *
  have hkept := w.heed_kept ws
  have hmate : (w.heedMate ws).word PAIR.SKEW = w.word PAIR.SKEW ∧ (w.heedMate ws).word PAIR.RTT = w.word PAIR.RTT ∧ (w.heedMate ws).pair = w.pair ∧
      (w.heedMate ws).ref = { w.ref with mate := ws.getD 6 0 } := ⟨w.word_withRef _ _, w.word_withRef _ _, rfl, rfl⟩
  obtain ⟨hmateSkew, hmateRtt, hmatePair, hmateRef⟩ := hmate
  generalize w.heedMate ws = z at *
  refine ⟨_, hexec, ?_, ?_, ?_, ?_, ?_, fun h => ?_⟩
  · rw [State.rdS_of_rd (State.rd_congr (f := PAIR.SKEW.val) (hkept.skew.trans (hmateSkew.trans (hword _ (by decide))))), hskewShown]
  · rw [State.rd_congr (f := PAIR.RTT.val) (hkept.rtt.trans (hmateRtt.trans (hword _ (by decide)))), hrttShown]
  · rw [hkept.here, hmatePair, hhere]
  · rw [hkept.run, hmatePair, hrun, hpair]
  · rw [hkept.ref, hmateRef, hrefTaken, href]
  · rw [hkept.last, hkept.missed, hmatePair]
    rw [hpair] at hcame
    exact hcame h

/-! ## Missing barks (R455) -/

/-- A missing bark is counted. -/
def State.barkMissed (s : State) : State :=
  let s := s.inc PAIR.BARKMISS.val
  s.setPair { s.pair with barkHere := true, goodRun := 0, missRun := s.pair.missRun + 1 }

theorem exec_barkMissing {s : State} (hen : s.flag PAIR.CFG.EN = true) (hticking : s.ticking = true) (hhere : s.pair.barkHere = false)
    (hcycle : 20000 ≤ s.clk.cycle) : exec .barkMissing s = .next (if 3 ≤ (s.inc PAIR.BARKMISS.val).pair.missRun + 1 ∧ s.barkMissed.partner ≠ 0 ∧
      s.barkMissed.partner ≠ 4 then s.barkMissed.partnerLost else s.barkMissed) :=
  congrArg _ (if_pos (by simp [hen, hticking, hhere, hcycle]))

theorem State.barkMissed_fields (s : State) : s.barkMissed.rd PAIR.BARKMISS.val = (s.rd PAIR.BARKMISS.val + 1) % 2 ^ 32 ∧
    s.barkMissed.pair = { s.pair with barkHere := true, goodRun := 0, missRun := s.pair.missRun + 1 } ∧
    (∀ k, k ≠ PAIR.BARKMISS → s.barkMissed.word k = s.word k) ∧ Frame [.live, .pair] s s.barkMissed := by
  have hcount : (s.inc PAIR.BARKMISS.val).rd PAIR.BARKMISS.val = (s.rd PAIR.BARKMISS.val + 1) % 2 ^ 32 := s.rd_inc_same (by decide)
  have hpair : (s.inc PAIR.BARKMISS.val).pair = s.pair := State.inc_pair ..
  have hword (k : Nat) (hk : k ≠ PAIR.BARKMISS) : (s.inc PAIR.BARKMISS.val).word k = s.word k := s.word_inc_ne hk
  have hframe : Frame [.live] s (s.inc PAIR.BARKMISS.val) := State.inc_frame ..
  unfold State.barkMissed
  dsimp only
  generalize s.inc PAIR.BARKMISS.val = u at *
  exact ⟨(State.rd_setPair ..).trans hcount, by rw [State.setPair_pair, hpair], fun k hk => (u.word_setPair _ k).trans (hword k hk),
    (hframe.weaken rfl).seq (u.setPair_frame _) rfl⟩

/-- Forwarded writes that the STANDBY keeps enter its journal and its shadow: no word from block EVT on changes, and of the pair only the list. -/
theorem State.keepForwarded_kept (s : State) : (∀ j, 0x20000 ≤ j → j < 2 ^ 31 → s.keepForwarded.word j = s.word j) ∧
    s.keepForwarded.pair = { s.pair with forwarded := [] } := by
  have hfold (ws : List (Nat × Word)) (u : State) : (∀ j, 0x20000 ≤ j → j < 2 ^ 31 →
      (ws.foldl (fun s p => (s.journal .write p.1 p.2.toNat s.tick).putShadow p.1 p.2) u).word j = u.word j) ∧
      (ws.foldl (fun s p => (s.journal .write p.1 p.2.toNat s.tick).putShadow p.1 p.2) u).pair = u.pair := by
    induction ws generalizing u with
    | nil => exact ⟨fun _ _ _ => rfl, rfl⟩
    | cons p ws ih =>
      obtain ⟨hword, hpair⟩ := ih ((u.journal .write p.1 p.2.toNat u.tick).putShadow p.1 p.2)
      have hput := State.putShadow_frame (u.journal .write p.1 p.2.toNat u.tick) p.1 p.2
      refine ⟨fun j hlo hhi => (hword j hlo hhi).trans ((State.word_congr (hput.same .live rfl) j).trans ?_), hpair.trans ((hput.same .pair rfl).trans ?_)⟩
      · exact u.journal_word_kept _ _ _ _ (.inr ⟨hlo, hhi⟩)
      · exact (u.journal_frame ..).same .pair rfl
  obtain ⟨hword, hpair⟩ := hfold s.pair.forwarded (s.setPair { s.pair with forwarded := [] })
  exact ⟨fun j hlo hhi => (hword j hlo hhi).trans (s.word_setPair _ j), hpair⟩

/-- The loss of the partner, before the forwarded writes are kept and the loss is reported. -/
def State.partnerGone (s : State) : State :=
  let s := (s.wr PAIR.STAT.PARTNER 4).sqf PAIR.HIST.LOST
  let s := s.setPair { s.pair with converge := none, syncedNew := false }
  if s.role = 1 then s.setPair { s.pair with handed := false, txb := none } else s

theorem State.partnerLost_eq (s : State) : ∃ d, s.partnerLost = s.partnerGone.keepForwarded.report 0x1401 0 d := ⟨_, rfl⟩

theorem State.partnerGone_fields (s : State) : s.partnerGone.partner = 4 ∧ s.partnerGone.flag PAIR.HIST.LOST = true ∧
    s.partnerGone.pair.converge = none ∧ s.partnerGone.pair.barkHere = s.pair.barkHere ∧ s.partnerGone.pair.goodRun = s.pair.goodRun ∧
    s.partnerGone.pair.missRun = s.pair.missRun ∧ (∀ j, j ≠ PAIR.STAT → j ≠ PAIR.HIST → s.partnerGone.word j = s.word j) := by
  have hpartner : ((s.wr PAIR.STAT.PARTNER 4).sqf PAIR.HIST.LOST).partner = 4 := by
    rw [State.partner, State.rd_sqf_clear _ (by decide), State.rd_wr_self _ (by decide)]
  have hmark : ((s.wr PAIR.STAT.PARTNER 4).sqf PAIR.HIST.LOST).flag PAIR.HIST.LOST = true := State.flag_sqf_self _ (by decide)
  have hword (j : Nat) (hs : j ≠ PAIR.STAT) (hh : j ≠ PAIR.HIST) : ((s.wr PAIR.STAT.PARTNER 4).sqf PAIR.HIST.LOST).word j = s.word j := by
    rw [State.word_sqf_ne _ hh, State.word_wr_ne _ _ hs]
  have hpair : ((s.wr PAIR.STAT.PARTNER 4).sqf PAIR.HIST.LOST).pair = s.pair := by rw [State.sqf_pair, State.wr_pair]
  unfold State.partnerGone
  dsimp only
  generalize (s.wr PAIR.STAT.PARTNER 4).sqf PAIR.HIST.LOST = u at *
  rw [← hpair]
  split
  · exact ⟨((State.rd_setPair ..).trans (State.rd_setPair ..)).trans hpartner, ((State.flag_setPair ..).trans (State.flag_setPair ..)).trans hmark, rfl, rfl,
      rfl, rfl, fun j hs hh => ((State.word_setPair ..).trans (State.word_setPair ..)).trans (hword j hs hh)⟩
  · exact ⟨(State.rd_setPair ..).trans hpartner, (State.flag_setPair ..).trans hmark, rfl, rfl, rfl, rfl,
      fun j hs hh => (State.word_setPair ..).trans (hword j hs hh)⟩

/-- Of the pair, keeping the forwarded writes and a report change only the list of forwarded writes. -/
theorem State.keepForwarded_report_pair (s : State) (code source data : Nat) :
    let t := s.keepForwarded.report code source data
    t.pair.converge = s.pair.converge ∧ t.pair.barkHere = s.pair.barkHere ∧ t.pair.goodRun = s.pair.goodRun ∧ t.pair.missRun = s.pair.missRun := by
  have hpair : (s.keepForwarded.report code source data).pair = { s.pair with forwarded := [] } :=
    ((s.keepForwarded.report_frame code source data).same .pair rfl).trans s.keepForwarded_kept.2
  exact ⟨by rw [hpair], by rw [hpair], by rw [hpair], by rw [hpair]⟩

theorem State.partnerLost_fields (s : State) : s.partnerLost.partner = 4 ∧ s.partnerLost.flag PAIR.HIST.LOST = true ∧
    s.partnerLost.pair.converge = none ∧ s.partnerLost.pair.barkHere = s.pair.barkHere ∧ s.partnerLost.pair.goodRun = s.pair.goodRun ∧
    s.partnerLost.pair.missRun = s.pair.missRun ∧ s.partnerLost.rd PAIR.BARKMISS.val = s.rd PAIR.BARKMISS.val ∧ Reported 0x1401 s s.partnerLost := by
  obtain ⟨d, heq⟩ := s.partnerLost_eq
  obtain ⟨hpartner, hmark, hconverge, hhere, hgood, hmissed, hgone⟩ := s.partnerGone_fields
  rw [heq]
  generalize s.partnerGone = u at *
  obtain ⟨hconvergeKept, hhereKept, hgoodKept, hmissedKept⟩ := u.keepForwarded_report_pair 0x1401 0 d
  have hword := u.keepForwarded_kept.1
  refine ⟨?_, ?_, hconvergeKept.trans hconverge, hhereKept.trans hhere, hgoodKept.trans hgood, hmissedKept.trans hmissed, ?_, ?_⟩
  · rw [State.partner, State.rd_report_clear _ _ _ (by simp only [reportSpares, PAIR.statusFields]; omega), ← hpartner]
    exact State.rd_congr (hword _ (by decide) (by decide))
  · rw [State.flag_report_clear _ _ _ (by simp only [reportSpares, PAIR.statusFields]; omega), ← hmark]
    exact State.flag_congr (hword _ (by decide) (by decide))
  · rw [State.rd_report_clear _ _ _ (by simp only [reportSpares, PAIR.statusFields]; omega)]
    exact State.rd_congr ((hword _ (by decide) (by decide)).trans (hgone _ (by decide) (by decide)))
  · exact Reported.report_of_kept _ _ (by decide) fun j hlo hhi =>
      (hword j hlo (by omega)).trans (hgone j (by unfold PAIR.STAT; omega) (by unfold PAIR.HIST; omega))

/-! ## SYNCED and path B (R457, R464, R466) -/

theorem exec_pairSynced {s : State} (hpartner : s.partner = 2) (hrole : (s.role = 2 ∧ s.pair.converge = some 0) ∨ (s.role = 1 ∧ s.pair.syncedNew = true)) :
    ∃ d, exec .pairSynced s = .next ((((s.wr PAIR.STAT.PARTNER 3).setPair { s.pair with converge := none, syncedNew := false }).sqf
      PAIR.HIST.SYNCED).report 0x1402 0 d) := ⟨_, congrArg _ (if_pos ⟨hpartner, hrole⟩)⟩

theorem exec_pathBHandover {s : State} {b : Nat} (htxb : s.pair.txb = some b) (hrole : s.role ≠ 0) (hfuture : futureTick b s.tick = false) :
    exec .pathBHandover s = .next (s.setPair { s.pair with handed := true }) := by
  show execPathBHandover s = _
  unfold execPathBHandover
  rw [htxb]
  exact congrArg _ (if_pos ⟨hrole, by simp [hfuture]⟩)

/-! ## Path B has not changed hands (R466) -/

/-- The parts that the epoch of the units other than the pair changes. -/
def unitEpochParts : List Part :=
  [.live, .evt, .dmem, .valid, .spoiled, .placed, .ge, .muz, .herd, .knl, .copies, .rxHeld, .rx, .deepValid, .tx, .loc, .atx, .syn, .times, .net, .mem, .out]

/-- The epoch of the units after that of the pair. -/
theorem State.unitEpochs_after_pair (s : State) (old : Cfg) (n : Nat) (rs : List (Nat × Nat × Nat × Bool)) :
    Frame unitEpochParts (s.mediaEpoch.pairEpoch old s.live) (s.unitEpochs old n rs) := by
  unfold State.unitEpochs
  extract_lets new a b c d e f g h i j k l m o p q r t u
  have hprograms : Frame unitEpochParts b c := (Frame.refl _ b).seq (State.programEpochs_frame ..) rfl
  have hengines : Frame unitEpochParts b d := Frame.foldl _ (fun _ _ hx => hx.seq (State.engineEpoch_frame ..) rfl) hprograms
  have hloads : Frame unitEpochParts b e := (hengines.seq (State.provenEpoch_frame _ _) rfl).seq (State.loadEpoch_frame _) rfl
  have hkennels : Frame unitEpochParts b g := Frame.eachBelow _ (fun _ _ hx => hx.seq (State.kennelEpoch_frame ..) rfl)
    (hloads.seq (State.originEpoch_frame ..) rfl)
  have hbuffers : Frame unitEpochParts b h := Frame.foldl _ (fun _ _ hx => hx.seq (State.bufferEpoch_frame ..) rfl) hkennels
  have hlocals : Frame unitEpochParts b j := (hbuffers.seq (State.rxEpoch_frame ..) rfl).seq (State.localEpoch_frame ..) rfl
  have hherds : Frame unitEpochParts b m := Frame.eachBelow _ (fun _ _ hx => hx.seq (State.herdDrops_frame ..) rfl)
    (Frame.eachBelow _ (fun _ _ hx => hx.seq (State.herdAdds_frame ..) rfl) (Frame.eachBelow _ (fun _ _ hx => hx.seq (State.herdEpoch_frame ..) rfl) hlocals))
  have hmedia : Frame unitEpochParts b r := (((hherds.seq (State.patchEpoch_frame ..) rfl).seq (State.txEpoch_frame ..) rfl).seq
    (State.netEpoch_frame ..) rfl).seq (State.memEpoch_frame ..) rfl
  exact ((hmedia.seq (State.synEpoch_frame ..) rfl).seq (State.timeEpoch_frame ..) rfl).seq (State.cueEpoch_frame ..) rfl

/-- Path B has not changed hands in `t` where it had not in `s`. -/
structure HandedKept (s t : State) : Prop where
  kept : s.pair.handed = false → t.pair.handed = false

theorem HandedKept.refl (s : State) : HandedKept s s := ⟨id⟩

theorem HandedKept.trans {s t u : State} (h : HandedKept s t) (k : HandedKept t u) : HandedKept s u := ⟨fun hs => k.kept (h.kept hs)⟩

theorem HandedKept.of_frame {ps : List Part} {s t : State} (h : Frame ps s t) (hps : ps.contains .pair = false) : HandedKept s t :=
  ⟨fun hs => (congrArg Pair.handed (h.same .pair hps)).trans hs⟩

theorem HandedKept.setVote (s : State) (v : Option (Nat × Option Nat)) : HandedKept s (s.setVote v) :=
  ⟨fun hs => (congrArg Pair.handed (s.wr_pair _ _)).trans hs⟩

theorem HandedKept.pairEpoch (s : State) (old new : Cfg) : HandedKept s (s.pairEpoch old new) := by
  unfold State.pairEpoch
  extract_lets u
  have hu : HandedKept s u := .of_frame (s.wr_frame _ _) rfl
  clear_value u
  split
  · exact ⟨fun _ => rfl⟩
  · split
    · exact hu
    · exact hu.trans (.setVote ..)

theorem HandedKept.unitEpochs (s : State) (old : Cfg) (n : Nat) (rs : List (Nat × Nat × Nat × Bool)) : HandedKept s (s.unitEpochs old n rs) :=
  ((HandedKept.of_frame s.mediaEpoch_frame rfl).trans (.pairEpoch ..)).trans (.of_frame (s.unitEpochs_after_pair ..) rfl)

theorem HandedKept.applyCfg (s : State) (n : Nat) (rs : List (Nat × Nat × Nat × Bool)) : HandedKept s (s.applyCfg n rs) := by
  unfold State.applyCfg
  extract_lets u old
  have hu : Frame [.live, .ge, .muz] s u := Frame.eachBelow _ (fun _ _ hx => Frame.ite (fun _ => hx.seq (State.epochAhead_frame ..) rfl) fun _ => hx)
    (.refl _ _)
  exact ((HandedKept.of_frame hu rfl).trans (.of_frame (u.applyWords_frame _) rfl)).trans (.unitEpochs ..)

theorem HandedKept.joinEntry (s : State) (w1 w2 : Nat) : HandedKept s (s.joinEntry w1 w2) := by
  unfold State.joinEntry
  split
  · extract_lets k
    split
    · exact .of_frame (s.putEntry_frame _ _) rfl
    · split
      · exact HandedKept.trans (t := s.returned k w2) ⟨id⟩ (.of_frame ((s.returned k w2).putEntry_frame _ _) rfl)
      · exact .refl s
  · exact ⟨id⟩
  · exact .of_frame s.replayApplied_frame rfl
  · exact .of_frame s.mergeBack_frame rfl
  · exact .of_frame s.mergeBack_frame rfl
  · exact .refl s

theorem HandedKept.joinEntries (s : State) (q : Nat) (es : List (Nat × Nat × Nat)) : HandedKept s (s.joinEntries q es) := by
  induction es generalizing s q with
  | nil => exact .refl s
  | cons e es ih => exact ((HandedKept.of_frame (s.journalAt_frame ..) rfl).trans (.joinEntry ..)).trans (ih ..)

theorem HandedKept.joined (s : State) (img : PairImage) : HandedKept s (s.joined img) := by
  unfold State.joined
  extract_lets a live keep b params c d
  have hb : Frame [.live, .shadow, .pend, .commit] s b := Frame.foldl _ (fun _ _ hx => hx.seq (State.setWord_frame ..) rfl)
    ((Frame.refl _ s).seq s.mergeBack_frame rfl)
  have hd : Frame [.live, .shadow, .pend, .commit, .dmem] s d :=
    Frame.set_shadow_pend ((hb.weaken rfl).seq (b.restoreParams_frame _ _) rfl) rfl rfl
  exact (HandedKept.of_frame hd rfl).trans (.joinEntries ..)

/-- The STANDBY is CONVERGING from tick `n`, and TXB names the boundary where path B changes hands. -/
def State.convergingAt (s : State) (n : Nat) : State :=
  let s := s.setPair { s.pair with converge := some (s.rd PAIR.CONVERGE.TICKS), txb := if s.pair.handed then none else some ((n + 9) % 2 ^ 32) }
  let s : State := { (s.wr PAIR.STAT.PARTNER 2) with ckpt := { s.ckpt with due := true, writing := none } }
  s.ckptStart n

theorem State.word_withCkpt (s : State) (c : Ckpt) (k : Nat) : ({ s with ckpt := c } : State).word k = s.word k := rfl

/-- A checkpoint's start changes no word from block EVT on. -/
theorem State.ckptStart_word_kept (s : State) (n : Nat) {j : Nat} (hlo : 0x20000 ≤ j) (hhi : j < 2 ^ 31) : (s.ckptStart n).word j = s.word j := by
  unfold State.ckptStart
  split
  · extract_lets u img w
    have hw : w.word j = u.word j := State.word_wrFlag_ne _ _ (by unfold GLB.CKPTSTAT.BUSY GLB.CKPTSTAT; dsimp only; omega)
    exact ((w.word_withCkpt _ j).trans hw).trans (s.journal_word_kept _ _ _ _ (.inr ⟨hlo, hhi⟩))
  · rfl

theorem State.convergingAt_fields (s : State) (n : Nat) (hhanded : s.pair.handed = false) : (s.convergingAt n).partner = 2 ∧
    (s.convergingAt n).pair.txb = some ((n + 9) % 2 ^ 32) ∧ (s.convergingAt n).pair.converge.isSome = true := by
  unfold State.convergingAt
  extract_lets p u x q w
  have hu : u.pair.txb = some ((n + 9) % 2 ^ 32) ∧ u.pair.converge = some (s.rd PAIR.CONVERGE.TICKS) := ⟨if_neg (by simp [hhanded]), rfl⟩
  have hx : x.pair = u.pair ∧ x.rd PAIR.STAT.PARTNER = 2 := ⟨u.wr_pair _ _, u.rd_wr_self (by decide)⟩
  have hw : w.pair = x.pair ∧ ∀ k, w.word k = x.word k := ⟨rfl, fun k => x.word_withCkpt _ k⟩
  clear_value u x q w
  have hpair : (w.ckptStart n).pair = w.pair := (w.ckptStart_frame n).same .pair rfl
  refine ⟨?_, ?_, ?_⟩
  · rw [State.partner, State.rd_congr ((w.ckptStart_word_kept n (by decide) (by decide)).trans (hw.2 _)), hx.2]
  · rw [hpair, hw.1, hx.1, hu.1]
  · rw [hpair, hw.1, hx.1, hu.2]
    rfl

theorem exec_pairConverging {s : State} (img : PairImage) (hrole : s.role = 2) (hpartner : s.partner = 1) (hphase : s.clk.phase = .work)
    (hcycle : s.clk.cycle = 0) : ∃ u, HandedKept s u ∧ exec (.pairConverging img) s = .next (u.convergingAt s.tick) := by
  show ∃ u, _ ∧ execPairConverging img s = _
  unfold execPairConverging
  rw [if_pos ⟨hrole, hpartner, hphase, hcycle⟩]
  extract_lets n t keys old a b go c d e
  refine ⟨e, ?_, rfl⟩
  have ha : HandedKept s a := .trans (.joined s img) ⟨id⟩
  have hb : HandedKept a b := .applyCfg ..
  have hd : HandedKept c d := .of_frame (State.wr_frame ..) rfl
  have hc : HandedKept b c := ⟨id⟩
  exact (((ha.trans hb).trans hc).trans hd).trans (.of_frame (State.restartEngines_frame ..) rfl)

/-- The pair's counts of a missing bark stay whether or not the partner is lost with it. -/
theorem State.barkMissed_counts (s : State) (c : Prop) [Decidable c] : let t := if c then s.barkMissed.partnerLost else s.barkMissed
    t.rd PAIR.BARKMISS.val = (s.rd PAIR.BARKMISS.val + 1) % 2 ^ 32 ∧ t.pair.barkHere = true ∧ t.pair.goodRun = 0 ∧
      t.pair.missRun = s.pair.missRun + 1 := by
  intro t
  obtain ⟨hcount, hpair, -, -⟩ := s.barkMissed_fields
  obtain ⟨-, -, -, hhere, hgood, hmissed, hkept, -⟩ := s.barkMissed.partnerLost_fields
  by_cases h : c
  · have ht : t = s.barkMissed.partnerLost := if_pos h
    exact ⟨by rw [ht, hkept, hcount], by rw [ht, hhere, hpair], by rw [ht, hgood, hpair], by rw [ht, hmissed, hpair]⟩
  · have ht : t = s.barkMissed := if_neg h
    exact ⟨by rw [ht, hcount], by rw [ht, hpair], by rw [ht, hpair], by rw [ht, hpair]⟩

/-- The partner is SYNCED. -/
theorem State.synced_fields (s : State) (d : Nat) : let t := (((s.wr PAIR.STAT.PARTNER 3).setPair
    { s.pair with converge := none, syncedNew := false }).sqf PAIR.HIST.SYNCED).report 0x1402 0 d
    t.partner = 3 ∧ t.pair = { s.pair with converge := none, syncedNew := false } ∧ t.flag PAIR.HIST.SYNCED = true ∧ Reported 0x1402 s t := by
  generalize hp : ({ s.pair with converge := none, syncedNew := false } : Pair) = p
  intro t
  have hwritten : (s.wr PAIR.STAT.PARTNER 3).rd PAIR.STAT.PARTNER = 3 := s.rd_wr_self (by decide)
  refine ⟨?_, ?_, ?_, Reported.report_of_kept _ _ (by decide) fun j hlo hhi => ?_⟩
  · rw [State.partner, State.rd_report_clear _ _ _ (by simp only [reportSpares, PAIR.statusFields]; omega),
      State.rd_sqf_clear _ (by decide), State.rd_setPair, hwritten]
  · rw [(State.report_frame ..).same .pair rfl, State.sqf_pair, State.setPair_pair]
  · rw [State.flag_report_clear _ _ _ (by simp only [reportSpares, PAIR.statusFields]; omega), State.flag_sqf_self _ (by decide)]
  · rw [State.word_sqf_ne _ (by unfold PAIR.HIST.SYNCED PAIR.HIST; dsimp only; omega), State.word_setPair,
      State.word_wr_ne _ _ (by unfold PAIR.STAT.PARTNER PAIR.STAT; dsimp only; omega)]

/-- Settles O45: each clause by the equation of its instruction and the fields that the operation leaves; a good bark is recorded before
what it says of the partner is heeded, and the epoch with which the STANDBY joins leaves path B where it is. -/
theorem barksConvergenceAndPathB : Obligations.BarksConvergenceAndPathB := by
  unfold Obligations.BarksConvergenceAndPathB
  intro ws tag skew rtt img s p en
  refine ⟨fun hen hbad => ?bad, fun hen hgood htick hskew hrtt => ?bark, fun hen hhere hcycle => ?missing, fun hpartner hrole => ?synced,
    fun b htxb hrole hfuture => ?handover, fun hrole hpartner hphase hcycle hhanded => ?converging⟩
  case bad =>
    obtain ⟨hcount, hword, hframe⟩ := s.badTag_fields
    exact ⟨_, exec_barkReceive_bad skew rtt hen.1 hen.2 hbad, hcount, hword, hframe⟩
  case bark =>
    obtain ⟨t, hexec, hskew', hrtt', hhere, hrun, href, hlast⟩ := State.bark_recorded hen.1 hen.2 hgood htick hskew hrtt
    exact ⟨t, hexec, hskew', hrtt', hhere, hrun, href, hlast, (execBarkReceive_frame ws tag skew rtt s _ hexec).weaken rfl⟩
  case missing =>
    have hexec := exec_barkMissing hen.1 hen.2 hhere hcycle
    obtain ⟨-, -, hword, hframe⟩ := s.barkMissed_fields
    have hmiss : (s.inc PAIR.BARKMISS.val).pair.missRun = s.pair.missRun := congrArg Pair.missRun (State.inc_pair ..)
    have hpartner : s.barkMissed.partner = s.partner := State.rd_congr (hword _ (by decide))
    rw [hmiss, hpartner] at hexec
    obtain ⟨hcount, hhere', hgood, hmissed⟩ := s.barkMissed_counts (3 ≤ s.pair.missRun + 1 ∧ s.partner ≠ 0 ∧ s.partner ≠ 4)
    refine ⟨_, hexec, hcount, hhere', hgood, hmissed, fun hfew => ?_, fun hmany hknown hfound => ?_⟩
    · have hfew' : s.pair.missRun < 2 := hfew
      rw [if_neg (by omega)]
      exact ⟨hword, hframe⟩
    · have hmany' : 2 ≤ s.pair.missRun := hmany
      rw [if_pos ⟨by omega, hknown, hfound⟩]
      obtain ⟨hgone, hmark, hconverge, -, -, -, -, hreported⟩ := s.barkMissed.partnerLost_fields
      exact ⟨hgone, hmark, hconverge, hreported.after (hword _ (by decide)) (hword _ (by decide))⟩
  case synced =>
    obtain ⟨d, hexec⟩ := exec_pairSynced hpartner hrole
    obtain ⟨hsynced, hpair, hmark, hreported⟩ := s.synced_fields d
    exact ⟨_, hexec, hsynced, hpair, hmark, hreported, (execPairSynced_frame s _ hexec).weaken rfl⟩
  case handover => exact ⟨_, exec_pathBHandover htxb hrole hfuture, rfl, s.setPair_frame _⟩
  case converging =>
    obtain ⟨u, hkept, hexec⟩ := exec_pairConverging img hrole hpartner hphase hcycle
    obtain ⟨hpartner', htxb, hconverge⟩ := u.convergingAt_fields s.tick (hkept.kept hhanded)
    exact ⟨_, hexec, hpartner', htxb, hconverge, (execPairConverging_frame img s _ hexec).weaken rfl⟩

end Sys2Proof.Machine
end

section
/-!
PROOFS. Votes, roles and the partner's hello (R461, R467 to R470).
-/

namespace Sys2Proof.Machine

theorem State.shepherd_setPair (s : State) (p : Pair) : (s.setPair p).shepherd = s.shepherd := by
  rw [State.shepherd, State.flag_setPair, State.rd_setPair, State.shepherd]

/-! ## The vote -/

/-- What PAIR.STAT.VOTE shows of a vote. -/
def shownVote : Option (Nat × Option Nat) → Nat
  | some (side, _) => 1 + side
  | none => 0

theorem State.setVote_fields (s : State) (v : Option (Nat × Option Nat)) : (s.setVote v).pair = { s.pair with vote := v } ∧
    (shownVote v < 4 → (s.setVote v).rd PAIR.STAT.VOTE = shownVote v) ∧ (∀ k, k ≠ PAIR.STAT → (s.setVote v).word k = s.word k) := by
  have heq : s.setVote v = (s.wr PAIR.STAT.VOTE (shownVote v)).setPair { (s.wr PAIR.STAT.VOTE (shownVote v)).pair with vote := v } := by
    cases v <;> rfl
  rw [heq, State.wr_pair]
  exact ⟨rfl, fun h => (State.rd_setPair ..).trans (s.rd_wr_self ⟨by decide, h⟩), fun k hk => (State.word_setPair ..).trans (s.word_wr_ne _ hk)⟩

theorem exec_shepherdPinChange_pin {s : State} (level : Bool) (h : s.shepherd = 1) : exec (.shepherdPinChange level) s =
    .next ((s.setPair { s.pair with pin := level }).setVote (some (if level then 1 else 0, none))) :=
  congrArg _ (if_pos ((s.shepherd_setPair _).trans h))

theorem exec_shepherdPinChange_other {s : State} (level : Bool) (h : s.shepherd ≠ 1) :
    exec (.shepherdPinChange level) s = .next (s.setPair { s.pair with pin := level }) :=
  congrArg _ (if_neg fun hp => h ((s.shepherd_setPair _).symm.trans hp))

theorem exec_voteExpire {s : State} {side t : Nat} (hvote : s.pair.vote = some (side, some t)) (htime : t ≤ s.clk.now) :
    exec .voteExpire s = .next (s.setVote none) := by
  show execVoteExpire s = _
  unfold execVoteExpire
  rw [hvote]
  exact congrArg _ (if_pos htime)

/-! ## Witness messages (R468, R469) -/

theorem exec_witnessMessage_bad {s : State} {bytes : List Nat} {cause : Nat} (hmode : s.shepherd = 2) (hbad : s.witnessBad bytes = some cause) :
    exec (.witnessMessage bytes) s = .next (((s.inc PAIR.WITBAD.val).sqf PAIR.HIST.WITBAD).report 0x1407 0 cause) := by
  show execWitnessMessage bytes s = _
  unfold execWitnessMessage
  rw [if_neg (not_not_intro hmode), hbad]

/-- A bad witness message is counted, marked and reported. -/
theorem State.witnessBad_recorded (s : State) (cause : Nat) : let t := ((s.inc PAIR.WITBAD.val).sqf PAIR.HIST.WITBAD).report 0x1407 0 cause
    t.rd PAIR.WITBAD.val = (s.rd PAIR.WITBAD.val + 1) % 2 ^ 32 ∧ t.flag PAIR.HIST.WITBAD = true ∧ Reported 0x1407 s t ∧ Frame [.live, .evt, .out] s t := by
  have hfields : PAIR.WITBAD.val = ⟨0x14006C, 0, 32⟩ ∧ PAIR.HIST.WITBAD.key = 0x140080 := ⟨rfl, rfl⟩
  have hcount : (s.inc PAIR.WITBAD.val).rd PAIR.WITBAD.val = (s.rd PAIR.WITBAD.val + 1) % 2 ^ 32 := s.rd_inc_same (by decide)
  refine ⟨?_, ?_, Reported.report_of_kept _ _ (by decide) fun j hlo hhi => ?_, ?_⟩
  · rw [State.rd_report_clear _ _ _ (by simp only [reportSpares, hfields]; omega), State.rd_sqf_clear _ (by decide), hcount]
  · rw [State.flag_report_clear _ _ _ (by simp only [reportSpares, hfields]; omega), State.flag_sqf_self _ (by decide)]
  · rw [State.word_sqf_ne _ (by rw [hfields.2]; omega), State.word_inc_ne _ (by rw [hfields.1]; dsimp only; omega)]
  · exact (((s.inc_frame _).seq (State.sqf_frame ..) rfl).weaken rfl).seq (State.report_frame ..) rfl

/-- The state with the retention store `r`. -/
def State.withRet (s : State) (r : Retention) : State := { s with ret := r }

theorem State.withRet_ret (s : State) (r : Retention) : (s.withRet r).ret = r := rfl

theorem State.withRet_frame (s : State) (r : Retention) : Frame [.ret] s (s.withRet r) := Frame.set_ret (Frame.refl _ s) rfl

/-- The sequence number of the last witness message, in the retention store and the registers that show it. -/
def State.witnessSeq (s : State) (seq : Nat) : State :=
  ((s.withRet { s.ret with seq := seq }).setNum PAIR.VOTESEQLO seq).setNum PAIR.VOTESEQHI (seq / 2 ^ 32)

theorem State.witnessSeq_fields (s : State) (seq : Nat) : (s.witnessSeq seq).ret = { s.ret with seq := seq } ∧
    (s.witnessSeq seq).num PAIR.VOTESEQLO = seq % 2 ^ 32 ∧ (s.witnessSeq seq).pair = s.pair ∧ (s.witnessSeq seq).clk = s.clk ∧
    Frame [.live, .ret] s (s.witnessSeq seq) := by
  have hframe : Frame [.live] (s.withRet { s.ret with seq := seq }) (s.witnessSeq seq) := (State.setNum_frame ..).trans (State.setNum_frame ..)
  have hall := ((s.withRet_frame { s.ret with seq := seq }).weaken (ps := [.live, .ret]) rfl).seq hframe rfl
  refine ⟨(hframe.same .ret rfl).trans (s.withRet_ret _), ?_, hall.same .pair rfl, hall.same .clk rfl, hall⟩
  calc (s.witnessSeq seq).num PAIR.VOTESEQLO
      = ((s.withRet { s.ret with seq := seq }).setNum PAIR.VOTESEQLO seq).num PAIR.VOTESEQLO :=
        congrArg BitVec.toNat (State.word_setNum_ne _ _ (by decide))
    _ = seq % 2 ^ 32 := State.num_setNum_same ..

theorem exec_witnessMessage_good {s : State} {bytes : List Nat} (hmode : s.shepherd = 2) (hgood : s.witnessBad bytes = none) :
    exec (.witnessMessage bytes) s = .next ((s.witnessSeq (beAt bytes 8 8)).setVote
      (if beAt bytes 20 4 = 0 then none else some (beAt bytes 16 1, some ((s.witnessSeq (beAt bytes 8 8)).clk.now + beAt bytes 20 4 * 10 ^ 6)))) := by
  show execWitnessMessage bytes s = _
  unfold execWitnessMessage
  rw [if_neg (not_not_intro hmode), hgood]
  simp only [State.witnessSeq, State.withRet]

/-! ## Samples and the partner's hello (R461, R467) -/

theorem exec_voteSample_standby {s : State} (hmode : s.shepherd = 1 ∨ s.shepherd = 2) (hnew : s.pair.sampled = false) (hrole : s.role = 2)
    (hphase : s.clk.phase = .work) (hcycle : nominalCycles s.tickLen s.fs ≤ s.clk.cycle + 2512) :
    exec .voteSample s = .next (s.setPair { s.pair with sampled := true, nextRole := if s.voted then some 1 else s.pair.nextRole }) :=
  congrArg _ ((if_pos ⟨hmode, by simp [hnew]⟩).trans (if_pos ⟨hrole, hphase, hcycle⟩))

theorem exec_voteSample_active {s : State} (hmode : s.shepherd = 1 ∨ s.shepherd = 2) (hnew : s.pair.sampled = false) (hrole : s.role = 1)
    (hphase : s.clk.phase = .guard) :
    exec .voteSample s = .next (s.setPair { s.pair with sampled := true, nextRole := if s.voted then s.pair.nextRole else some 2 }) :=
  congrArg _ ((if_pos ⟨hmode, by simp [hnew]⟩).trans ((if_neg fun h => absurd (hrole.symm.trans h.1) (by decide)).trans (if_pos ⟨hrole, hphase⟩)))

theorem exec_pairHello {s : State} (serial index : Nat) (ticks : Bool) (hheld : s.boot.held = false) (hhint : s.pairHint = true)
    (hticking : s.ticking = false) (halone : s.boot.alone = false) :
    exec (.pairHello serial ticks index) s = .next { s with boot := { s.boot with hello := some (serial, ticks, index % 2 ^ 32) } } :=
  congrArg _ (if_pos (by simp [hheld, hhint, hticking, halone]))

theorem exec_pairHelloTimeout {s : State} (hheld : s.boot.held = false) (hhint : s.pairHint = true) (hticking : s.ticking = false)
    (hnone : s.boot.hello = none) (htime : 10 ^ 8 ≤ s.clk.now) :
    exec .pairHelloTimeout s = .next { s with boot := { s.boot with alone := true } } :=
  congrArg _ (if_pos (by simpa [hheld, hhint, hticking, hnone] using htime))

/-- Settles O46: each clause by the equation of its instruction; a vote is set in the pair and shown in PAIR.STAT.VOTE. -/
theorem votesAndRolesFollowTheShepherd : Obligations.VotesAndRolesFollowTheShepherd := by
  unfold Obligations.VotesAndRolesFollowTheShepherd
  intro level ticks bytes serial index s p ms seq waits
  refine ⟨fun hmode => ?pin, fun hmode => ⟨_, exec_shepherdPinChange_other level hmode, rfl, s.setPair_frame _⟩, fun hmode cause hbad => ?bad,
    fun hmode hgood => ?good, fun side t0 hvote htime => ?expire, fun hmode hnew => ⟨fun hrole hphase hcycle => ?standby, fun hrole hphase => ?active⟩,
    fun hwaits halone => ?hello, fun hwaits hnone htime => ?alone⟩
  case pin =>
    obtain ⟨hpair, hshown, hword⟩ := (s.setPair { s.pair with pin := level }).setVote_fields (some (if level then 1 else 0, none))
    refine ⟨_, exec_shepherdPinChange_pin level hmode, hpair, ?_, fun k hk => (hword k hk).trans (s.word_setPair _ k),
      ((s.setPair_frame _).weaken rfl).seq (State.setVote_frame ..) rfl⟩
    rw [hshown (by cases level <;> decide)]
    cases level <;> rfl
  case bad =>
    obtain ⟨hcount, hmark, hreported, hframe⟩ := s.witnessBad_recorded cause
    exact ⟨_, exec_witnessMessage_bad hmode hbad, hcount, hmark, hreported, hframe⟩
  case good =>
    have hexec := exec_witnessMessage_good hmode hgood
    obtain ⟨hret, hnum, hpair, hclk, hframe⟩ := s.witnessSeq_fields (beAt bytes 8 8)
    rw [hclk] at hexec
    obtain ⟨hvoted, -, hword⟩ := (s.witnessSeq (beAt bytes 8 8)).setVote_fields
      (if beAt bytes 20 4 = 0 then none else some (beAt bytes 16 1, some (s.clk.now + beAt bytes 20 4 * 10 ^ 6)))
    rw [hpair] at hvoted
    exact ⟨_, hexec, ((State.setVote_frame ..).same .ret rfl).trans hret, (congrArg BitVec.toNat (hword _ (by decide))).trans hnum, hvoted,
      (hframe.weaken rfl).seq (State.setVote_frame ..) rfl⟩
  case expire =>
    obtain ⟨hpair, hshown, hword⟩ := s.setVote_fields none
    exact ⟨_, exec_voteExpire hvote htime, hpair, hshown (by decide), hword, s.setVote_frame _⟩
  case standby => exact ⟨_, exec_voteSample_standby hmode hnew hrole hphase hcycle, rfl, s.setPair_frame _⟩
  case active => exact ⟨_, exec_voteSample_active hmode hnew hrole hphase, rfl, s.setPair_frame _⟩
  case hello =>
    have hexec := exec_pairHello serial index ticks hwaits.1 hwaits.2.1 hwaits.2.2 halone
    exact ⟨_, hexec, rfl, execPairHello_frame serial ticks index s _ hexec⟩
  case alone =>
    have hexec := exec_pairHelloTimeout hwaits.1 hwaits.2.1 hwaits.2.2 hnone htime
    exact ⟨_, hexec, rfl, execPairHelloTimeout_frame s _ hexec⟩

end Sys2Proof.Machine
end

section
/-!
PROOFS. Mirrored journal entries and forwarded local writes (R455, R463, R464).
-/

namespace Sys2Proof.Machine

/-! ## A journal entry (R57, R59) -/

/-- A journal entry has its number in JSEQ, stands in its slot, and changes no register of block GLB but JSEQ and JSTAT. -/
theorem State.journalAt_fields (s : State) (q w1 w2 w3 : Nat) : (s.journalAt q w1 w2 w3).rd GLB.JSEQ.val = q % 2 ^ 32 ∧
    (s.journalAt q w1 w2 w3).num (journalKey q 2) = w2 % 2 ^ 32 ∧
    (∀ j, j ≠ GLB.JSEQ → j ≠ GLB.JSTAT → j < 2 ^ 31 → (s.journalAt q w1 w2 w3).word j = s.word j) := by
  have hslot (i : Nat) : 2 ^ 31 ≤ journalKey q i := by unfold journalKey bar2; omega
  have happart : journalKey q 2 ≠ journalKey q 3 := by unfold journalKey bar2; omega
  have hregs : GLB.JSEQ = 0xC8 ∧ GLB.JSTAT = 0xC4 := ⟨rfl, rfl⟩
  unfold State.journalAt
  extract_lets a b c d e t
  have he : e.rd GLB.JSEQ.val = q % 2 ^ 32 ∧ (∀ j, j ≠ GLB.JSEQ → e.word j = d.word j) :=
    ⟨State.rd_wr_same _ _ _ (by decide), fun j hj => State.word_wr_ne _ _ hj⟩
  have hd (j : Nat) (hj : ∀ i, j ≠ journalKey q i) : d.word j = s.word j := by
    simp only [d, c, b, a]
    rw [State.word_setNum_ne _ _ (hj 3), State.word_setNum_ne _ _ (hj 2), State.word_setNum_ne _ _ (hj 1), State.word_setNum_ne _ _ (hj 0)]
  have hd2 : d.num (journalKey q 2) = w2 % 2 ^ 32 :=
    (congrArg BitVec.toNat (State.word_setNum_ne _ _ happart)).trans (State.num_setNum_same ..)
  have ht (j : Nat) (hj : j ≠ GLB.JSTAT) : t.word j = e.word j := State.fillTo_word _ _ hj
  clear_value d e t
  suffices h : t.rd GLB.JSEQ.val = q % 2 ^ 32 ∧ t.num (journalKey q 2) = w2 % 2 ^ 32 ∧
      (∀ j, j ≠ GLB.JSEQ → j ≠ GLB.JSTAT → j < 2 ^ 31 → t.word j = s.word j) by
    split
    · exact h
    · exact h
  have hslot2 := hslot 2
  refine ⟨(State.rd_congr (ht _ (by decide))).trans he.1, ?_, fun j hseq hstat hlow => ?_⟩
  · exact (congrArg BitVec.toNat ((ht _ (by rw [hregs.2]; omega)).trans (he.2 _ (by rw [hregs.1]; omega)))).trans hd2
  · exact (ht j hstat).trans ((he.2 j hseq).trans (hd j fun i h => absurd (hslot i) (by omega)))

/-! ## Mirrored entries (R455, R463) -/

theorem exec_mirrorPacketReceive_bad {s : State} {ws tag : List Nat} (hrole : s.role = 2) (hpaired : s.paired = true)
    (hbad : s.packetGood ws tag = false) : exec (.mirrorPacketReceive ws tag) s = .next s.badTag :=
  congrArg _ ((if_neg (by simp [hrole, hpaired])).trans (if_pos (by simp [hbad])))

/-- The mirrored entry in its slot of the STANDBY's journal. -/
def State.mirrored (s : State) (ws : List Nat) : State := s.journalAt (ws.getD 0 0) (ws.getD 1 0) (ws.getD 2 0) (ws.getD 3 0)

theorem State.mirrored_partner (s : State) (ws : List Nat) : (s.mirrored ws).partner = s.partner :=
  State.rd_congr ((s.journalAt_fields ..).2.2 _ (by decide) (by decide) (by decide))

theorem exec_mirrorPacketReceive_good {s : State} {ws tag : List Nat} (hrole : s.role = 2) (hpaired : s.paired = true)
    (hgood : s.packetGood ws tag = true) : exec (.mirrorPacketReceive ws tag) s =
      .next (if (s.mirrored ws).partner = 1 then s.mirrored ws
        else (s.mirrored ws).mirrorApply (ws.getD 1 0) (ws.getD 2 0) (ws.getD 3 0) ws[4]?) :=
  congrArg _ ((if_neg (by simp [hrole, hpaired])).trans (if_neg (by simp [hgood])))

theorem State.mirrorApply_write {s : State} {w1 : Nat} (w2 w3 : Nat) (fixed : Option Nat) (htype : w1 / 2 ^ 29 = 0) (hchip : bit w1 27 = false) :
    s.mirrorApply w1 w2 w3 fixed = (s.returned (entryKey w1) w2).putEntry (entryKey w1) w2 := by
  unfold State.mirrorApply
  rw [htype]
  exact if_pos (by simp [State.concerns, hchip])

/-- The MODE fields stand in the blocks of the engines, FLOW, REF and TIME. -/
theorem State.setModes_word_low (s : State) (k mask : Nat) {j : Nat} (hj : j < 0x10000) : (s.setModes k mask).word j = s.word j := by
  have hkeys : (∀ e, j ≠ GE.PROFILE e) ∧ j ≠ FLOW.TXPROFILE ∧ j ≠ REF.PROFILE ∧ ∀ p, j ≠ TIME.PTP_CFG p := by
    unfold GE.PROFILE FLOW.TXPROFILE REF.PROFILE TIME.PTP_CFG
    refine ⟨fun e => ?_, ?_, ?_, fun p => ?_⟩ <;> omega
  obtain ⟨hge, htx, href, hptp⟩ := hkeys
  unfold State.setModes
  extract_lets a b c
  have ha : a.word j = s.word j := by
    unfold a
    split
    · exact State.word_wr_ne _ _ (hge _)
    · rfl
  have hb : b.word j = a.word j := by
    unfold b
    split
    · split
      · exact State.word_wr_ne _ _ htx
      · rfl
    · rfl
  have hc : c.word j = b.word j := by
    unfold c
    split
    · exact State.word_wr_ne _ _ href
    · rfl
  clear_value a b c
  rw [← ha, ← hb, ← hc]
  split
  · split
    · exact State.word_wr_ne _ _ (hptp _)
    · rfl
  · rfl

/-- An entry of a table word brings that word. -/
theorem State.entryWords_table (s : State) {k : Nat} (v : Nat) (hk : 2 ^ 31 ≤ k) :
    s.entryWords k v = ([(k, BitVec.ofNat 32 v)], s.setModes k (2 ^ 32 - 1)) := by
  have hge : firstBelow (fun e => k == GE.PROFILE e) 16 = none := by
    unfold firstBelow GE.PROFILE
    simp only [List.find?_eq_none, List.mem_range, beq_iff_eq]
    omega
  have hptp : firstBelow (fun p => k == TIME.PTP_CFG p) 2 = none := by
    unfold firstBelow TIME.PTP_CFG
    simp only [List.find?_eq_none, List.mem_range, beq_iff_eq]
    omega
  have hne : k ≠ FLOW.TXPROFILE ∧ k ≠ REF.PROFILE := by unfold FLOW.TXPROFILE REF.PROFILE; omega
  unfold State.entryWords
  rw [hge, hptp]
  exact (if_neg fun h => hne.1 h.1).trans (if_neg fun h => hne.2 h.1)

theorem State.putEntry_table (s : State) {k : Nat} (v : Nat) (hk : 2 ^ 31 ≤ k) :
    s.putEntry k v = (s.setModes k (2 ^ 32 - 1)).putShadow k (BitVec.ofNat 32 v) := by
  unfold State.putEntry
  rw [s.entryWords_table v hk]
  rfl

theorem sameBits_mergeBits (w v : Word) (mask : Nat) : sameBits (mergeBits w v mask) v mask = true := by
  unfold sameBits
  rw [beq_iff_eq]
  refine BitVec.eq_of_getLsbD_eq fun i hi => ?_
  rw [BitVec.getLsbD_and, BitVec.getLsbD_and, mergeBits_getLsbD _ _ _ hi, BitVec.getLsbD_ofNat]
  cases mask.testBit i <;> simp [hi]

/-- The shadow holds of `v` the bits that it keeps of a word. -/
theorem State.putShadow_found (s : State) (k : Nat) (v : Word) :
    ∃ u, Store.find (s.putShadow k v).shadow k = some u ∧ sameBits u v (rwsMask k) = true := by
  refine ⟨if isDmem k then v else mergeBits (s.word k) v (rwsMask k), Store.find_insert_same _ _ _, ?_⟩
  split
  · exact beq_self_eq_true _
  · exact sameBits_mergeBits _ _ _

/-- A mirrored write to a table word goes into the open shadow. -/
theorem State.returned_putEntry_table (s : State) {k : Nat} (v : Nat) (hk : 2 ^ 31 ≤ k) : let t := (s.returned k v).putEntry k v
    (∃ u, Store.find t.shadow k = some u ∧ sameBits u (BitVec.ofNat 32 v) (rwsMask k) = true) ∧
    (∀ j, j ≠ k → Store.find t.shadow j = Store.find s.shadow j) ∧ (∀ j, j < 0x10000 → t.word j = s.word j) ∧ Frame [.live, .shadow, .pair] s t := by
  intro t
  have ht : t = ((s.returned k v).setModes k (2 ^ 32 - 1)).putShadow k (BitVec.ofNat 32 v) := State.putEntry_table _ v hk
  have hframe : Frame [.live, .pair] s ((s.returned k v).setModes k (2 ^ 32 - 1)) := ((s.returned_frame k v).weaken rfl).seq (State.setModes_frame ..) rfl
  have hword (j : Nat) (hj : j < 0x10000) : ((s.returned k v).setModes k (2 ^ 32 - 1)).word j = s.word j :=
    ((s.returned k v).setModes_word_low k _ hj).trans (s.word_setPair _ j)
  rw [ht]
  generalize (s.returned k v).setModes k (2 ^ 32 - 1) = u at *
  exact ⟨u.putShadow_found k _, fun j hj => (u.putShadow_find_ne _ hj).trans (congrArg (Store.find · j) (hframe.same .shadow rfl)),
    fun j hj => (State.word_putShadow ..).trans (hword j hj), (hframe.weaken rfl).seq (State.putShadow_frame ..) rfl⟩

/-! ## Forwarded local writes (R464) -/

theorem exec_forwardedLocalWrite {s : State} {k v : Nat} {tag : List Nat} (hrole : s.role = 1) (hpaired : s.paired = true)
    (hgood : s.packetGood [k, v] tag = true) (hlocal : localBlock k = true) : exec (.forwardedLocalWrite k v tag) s =
      .next (if s.journalFull then s.refuseFull k else s.journalRaw (journalWord1 .write (3 - s.rd PAIR.CFG.SIDE) k) v s.tick []) :=
  congrArg _ ((if_neg (by simp [hrole, hpaired])).trans ((if_neg (by simp [hgood])).trans (if_neg (by simp [hlocal]))))

theorem exec_forwardedLocalWrite_bad {s : State} {k v : Nat} {tag : List Nat} (hrole : s.role = 1) (hpaired : s.paired = true)
    (hbad : s.packetGood [k, v] tag = false) : exec (.forwardedLocalWrite k v tag) s = .next s.badTag :=
  congrArg _ ((if_neg (by simp [hrole, hpaired])).trans (if_pos (by simp [hbad])))

/-- The ACTIVE's entry takes the next number and its slot. -/
theorem State.journalRaw_active {s : State} (hrole : s.role = 1) (w1 w2 w3 : Nat) (fixed : List Nat) : let t := s.journalRaw w1 w2 w3 fixed
    let q := (s.rd GLB.JSEQ.val + 1) % 2 ^ 32
    t.rd GLB.JSEQ.val = q ∧ t.num (journalKey q 2) = w2 % 2 ^ 32 := by
  intro t q
  have hq : q % 2 ^ 32 = q := Nat.mod_mod _ _
  obtain ⟨hseq, hnum, -⟩ := s.journalAt_fields q w1 w2 w3
  rw [hq] at hseq
  have ht : t = if (s.journalAt q w1 w2 w3).role = 1 ∧ (s.journalAt q w1 w2 w3).paired then
      (s.journalAt q w1 w2 w3).emit (.pair 2 ([q, w1 % 2 ^ 32, w2 % 2 ^ 32, w3 % 2 ^ 32] ++ fixed)) else s.journalAt q w1 w2 w3 :=
    if_neg (by simp [State.standby, hrole])
  rw [ht]
  generalize s.journalAt q w1 w2 w3 = u at *
  split
  · exact ⟨(State.rd_emit ..).trans hseq, (congrArg BitVec.toNat (State.word_emit ..)).trans hnum⟩
  · exact ⟨hseq, hnum⟩

/-- A write refused for want of journal room takes no number. -/
theorem State.refuseFull_fields (s : State) (k : Nat) : (s.refuseFull k).rd GLB.JSEQ.val = s.rd GLB.JSEQ.val ∧ Reported 0x0003 s (s.refuseFull k) := by
  have hfields : GLB.JSEQ.val = ⟨0xC8, 0, 32⟩ ∧ GLB.JSTAT.REFUSED.key = 0xC4 := ⟨rfl, rfl⟩
  refine ⟨?_, Reported.report_of_kept _ _ (by decide) fun j hlo hhi => State.word_addSat_ne _ _ (by rw [hfields.2]; omega)⟩
  rw [State.refuseFull, State.rd_report_clear _ _ _ (by simp only [reportSpares, hfields]; omega)]
  exact State.rd_congr (State.word_addSat_ne _ _ (by decide))

/-- Settles O47: a mirrored entry takes its slot before it is applied, and the write of a table word changes one word of the open shadow. -/
theorem mirroredEntriesAreTakenAndForwardedOnesJournaled : Obligations.MirroredEntriesAreTakenAndForwardedOnesJournaled := by
  unfold Obligations.MirroredEntriesAreTakenAndForwardedOnesJournaled
  intro ws tag k v s w key rejected
  refine ⟨fun hrole hpaired => ⟨fun hbad => ⟨_, exec_mirrorPacketReceive_bad hrole hpaired hbad, s.badTag_fields⟩, fun hgood hjoining => ?joining,
    fun hgood hjoined htype htable hchip => ?write⟩, fun hrole hpaired => ⟨fun hbad => ⟨_, exec_forwardedLocalWrite_bad hrole hpaired hbad, s.badTag_fields⟩,
    fun hgood hlocal hroom => ?journaled, fun hgood hlocal hfull => ?refused⟩⟩
  case joining =>
    have hexec := exec_mirrorPacketReceive_good hrole hpaired hgood
    rw [if_pos ((s.mirrored_partner ws).trans hjoining)] at hexec
    obtain ⟨hseq, hnum, -⟩ := s.journalAt_fields (ws.getD 0 0) (ws.getD 1 0) (ws.getD 2 0) (ws.getD 3 0)
    exact ⟨_, hexec, hseq, hnum, s.journalAt_frame ..⟩
  case write =>
    have hexec := exec_mirrorPacketReceive_good hrole hpaired hgood
    rw [if_neg (ne_of_eq_of_ne (s.mirrored_partner ws) hjoined), State.mirrorApply_write _ _ _ htype hchip] at hexec
    obtain ⟨hseq, -, -⟩ := s.journalAt_fields (ws.getD 0 0) (ws.getD 1 0) (ws.getD 2 0) (ws.getD 3 0)
    have hframe := s.journalAt_frame (ws.getD 0 0) (ws.getD 1 0) (ws.getD 2 0) (ws.getD 3 0)
    have hkey : 2 ^ 31 ≤ entryKey (ws.getD 1 0) := (Nat.le_add_right _ _).trans_eq (congrArg (· + _) (if_pos htable).symm)
    obtain ⟨⟨u, hfound, hsame⟩, hothers, hword, happlied⟩ := (s.mirrored ws).returned_putEntry_table (ws.getD 2 0) hkey
    refine ⟨_, u, hexec, (State.rd_congr (hword _ (by decide))).trans hseq, hfound, hsame,
      fun j hj => (hothers j hj).trans (congrArg (Store.find · j) (hframe.same .shadow rfl)), (hframe.weaken rfl).seq happlied rfl⟩
  case journaled =>
    have hexec := exec_forwardedLocalWrite hrole hpaired hgood hlocal
    rw [if_neg (by simp [hroom])] at hexec
    obtain ⟨hseq, hnum⟩ := State.journalRaw_active hrole (journalWord1 .write (3 - s.rd PAIR.CFG.SIDE) k) v s.tick []
    have hframe := s.journalRaw_frame (journalWord1 .write (3 - s.rd PAIR.CFG.SIDE) k) v s.tick []
    exact ⟨_, hexec, hseq, hnum, hframe.same .shadow rfl, hframe⟩
  case refused =>
    have hexec := exec_forwardedLocalWrite hrole hpaired hgood hlocal
    rw [if_pos hfull] at hexec
    obtain ⟨hseq, hreported⟩ := s.refuseFull_fields k
    exact ⟨_, hexec, hseq, hreported, s.refuseFull_frame k⟩

end Sys2Proof.Machine
end

section
/-!
PROOFS. Sticky and write-once registers (R490, R491, R521, R522): which registers they are, and what a direct write of one does.
-/

namespace Sys2Proof.Machine

/-! ## Registers by their families -/

/-- The keys of the registers whose family passes `p`. -/
def keysWith (p : RegFam → Bool) : List Nat :=
  (List.range 24).flatMap fun b => ((blockRegs b).filter p).flatMap fun f => (List.range f.n1).map fun i => b * 0x10000 + f.off + i * f.s1

theorem blockRegs_block {b : Nat} {f : RegFam} (h : f ∈ blockRegs b) : b < 24 := by
  by_contra hb
  have hnone : blockRegs b = [] := by
    unfold blockRegs
    split <;> simp_all
  rw [hnone] at h
  cases h

/-- Every family that passes `p` passes `q` and is a single row of registers. -/
def rowsWith (p q : RegFam → Bool) : Bool :=
  (List.range 24).all fun b => (blockRegs b).all fun f => !p f || (f.n2 == 1 && f.s2 == f.s1 && q f)

/-- A register found in a row of the table. -/
theorem regAt_row {p q : RegFam → Bool} {k n : Nat} {f : RegFam} (h : regAt k = some (f, n)) (hp : p f = true) (hrows : rowsWith p q = true) :
    k ∈ keysWith p ∧ q f = true := by
  obtain ⟨hmem, hindex⟩ := findReg_some h
  obtain ⟨hoff, hi, hj, hr⟩ := RegFam.index_some hindex
  have hblock := blockRegs_block hmem
  have hrow := List.all_eq_true.mp (List.all_eq_true.mp hrows _ (List.mem_range.mpr hblock)) f hmem
  simp only [hp, Bool.not_true, Bool.false_or, Bool.and_eq_true, beq_iff_eq] at hrow
  obtain ⟨⟨hn2, hs2⟩, hq⟩ := hrow
  rw [hn2, hs2] at hj
  rw [hs2, Nat.mod_mod] at hr
  refine ⟨List.mem_flatMap.mpr ⟨_, List.mem_range.mpr hblock, List.mem_flatMap.mpr ⟨f, List.mem_filter.mpr ⟨hmem, hp⟩,
    List.mem_map.mpr ⟨_, List.mem_range.mpr hi, ?_⟩⟩⟩, hq⟩
  have hplace := Nat.div_mul_cancel (Nat.dvd_of_mod_eq_zero hr)
  omega

/-- Single registers whose writes make a unit act or be refused. -/
def commandRegs : List Nat :=
  [EIM.CFG, EIM.CTL, UPD.CHAINCFG, EVT.RDSEQ, REF.PROFILE, GLB.COMMIT, GLB.SNAPREQ, GLB.JCTL, SEC.DBGCTL, SEC.ATTCTL, UPD.CTL, UPD.HCMD, UPD.BOOT, UPD.ARB,
   SYN.RAMPCTL, TIME.CTL, TIME.SRVIN, TIME.LTCTX_CFG, FLOW.RXCLR, FLOW.TXCLR, FLOW.TXPROFILE, GE.CNTCLR, CUE.VCMD, CUE.CAPCTL]

/-- The families of such registers. -/
def commandFamilies : List (Nat × (Nat → Nat)) :=
  [(8, HIF.DMA_CFG), (64, KNL.K_RST), (4, SYN.APLL_CTL), (2, TIME.PTP_CFG), (8, TIME.PG_CFG), (16, HRD.H_CMD), (16, GE.ENTRY), (16, GE.CTL)]

/-- The register at `k` stands in the normal space, and no unit acts on a write of it. -/
structure QuietKey (k : Nat) : Prop where
  space : NormalSpace k
  kennel : k / 0x10000 = 0x16 → k % 0x40 = 0x10
  reg : ∀ c ∈ commandRegs, k ≠ c
  family : ∀ g ∈ commandFamilies, ∀ i, i < g.1 → k ≠ g.2 i

/-- A place in the normal space, and in block KNL that of a history register. -/
def quietPlace (k : Nat) : Bool :=
  decide (k < 0x180000) && decide (k % 0x10000 < 0x4000) && k % 4 == 0 && (k / 0x10000 != 0x16 || k % 0x40 == 0x10)

theorem QuietKey.of_mem {ks : List Nat} {k : Nat} (h : k ∈ ks) (hplace : ks.all quietPlace = true)
    (hreg : (ks.all fun k => commandRegs.all fun c => k != c) = true)
    (hfamily : (ks.all fun k => commandFamilies.all fun g => (List.range g.1).all fun i => k != g.2 i) = true) : QuietKey k := by
  have hk := List.all_eq_true.mp hplace k h
  have hregs := List.all_eq_true.mp hreg k h
  have hfamilies := List.all_eq_true.mp hfamily k h
  simp only [quietPlace, Bool.and_eq_true, decide_eq_true_eq, beq_iff_eq, Bool.or_eq_true, bne_iff_ne, ne_eq, List.all_eq_true, List.mem_range]
    at hk hregs hfamilies
  obtain ⟨⟨⟨hlow, hnormal⟩, haligned⟩, hkennel⟩ := hk
  exact ⟨⟨hlow, hnormal, haligned⟩, fun hb => hkennel.resolve_left fun hn => hn hb, hregs, hfamilies⟩

section
variable {k : Nat} (h : QuietKey k)
include h

theorem QuietKey.firstBelow_none {n : Nat} {f : Nat → Nat} (hf : (n, f) ∈ commandFamilies) : firstBelow (fun i => k == f i) n = none :=
  Machine.firstBelow_none fun i hi => beq_false_of_ne (h.family _ hf i hi)

theorem QuietKey.unitRefuses (s : State) (w : Word) (v : Nat) (direct : Bool) : s.unitRefuses k w v direct = false := by
  have hdma : anyBelow (fun c => k == HIF.DMA_CFG c) 8 = false :=
    anyBelow_false fun c hc => beq_false_of_ne (h.family (8, HIF.DMA_CFG) (by simp [commandFamilies]) c hc)
  have hrst : firstBelow (fun n => k == KNL.K_RST n) 64 = none := h.firstBelow_none (by simp [commandFamilies])
  unfold State.unitRefuses
  dsimp only
  rw [if_neg (h.reg _ (by decide)), if_neg (h.reg _ (by decide)), if_neg (h.reg _ (by decide)), if_neg (h.reg _ (by decide)),
    if_neg (h.family (4, SYN.APLL_CTL) (by simp [commandFamilies]) 0 (by decide)), if_neg (ne_true_of_eq_false hdma), hrst]

theorem QuietKey.setModes (hblock : k / 2 ^ 16 ≠ 5) (s : State) (mask : Nat) : s.setModes k mask = s := by
  obtain ⟨hlow, -, -⟩ := h.space
  refine s.setModes_unwatched mask (by omega) hblock (Machine.firstBelow_none fun e he => ?_) (h.firstBelow_none (by simp [commandFamilies]))
  have hentry := h.family (16, GE.ENTRY) (by simp [commandFamilies]) e he
  have hctl := h.family (16, GE.CTL) (by simp [commandFamilies]) e he
  simp only [inImem, inDesc, Bool.or_eq_false_iff, Bool.and_eq_false_iff, decide_eq_false_iff_not, beq_eq_false_iff_ne]
  refine ⟨⟨⟨?_, ?_⟩, hentry⟩, hctl⟩
  · unfold IMEM.word; omega
  · unfold DESC.word; omega

/-- In block REF, a write puts the profile's mode to manual. -/
theorem QuietKey.setModes_ref (hblock : k / 2 ^ 16 = 5) (s : State) (mask : Nat) : s.setModes k mask = s.wr REF.PROFILE.MODE 1 := by
  obtain ⟨hlow, -, -⟩ := h.space
  have hge : firstBelow (fun e => inImem e k || inDesc e k || k == GE.ENTRY e || k == GE.CTL e) 16 = none :=
    Machine.firstBelow_none fun e _ => by
      simp only [inImem, inDesc, Bool.or_eq_false_iff, Bool.and_eq_false_iff, decide_eq_false_iff_not, beq_eq_false_iff_ne]
      unfold IMEM.word DESC.word GE.ENTRY GE.CTL
      omega
  have hptp : firstBelow (fun p => k == TIME.PTP_CFG p) 2 = none := h.firstBelow_none (by simp [commandFamilies])
  have htx : ∀ n, (decide (FT.word n 0 ≤ k) && decide (k < FT.word n 0 + 16)) = false := fun n => by
    simp only [Bool.and_eq_false_iff, decide_eq_false_iff_not]
    unfold FT.word
    omega
  have href : (decide (k < 2 ^ 31) && k / 2 ^ 16 == 5 && k != REF.PROFILE) = true := by
    simp only [Bool.and_eq_true, decide_eq_true_eq, beq_iff_eq, bne_iff_ne]
    exact ⟨⟨by omega, hblock⟩, h.reg _ (by decide)⟩
  unfold State.setModes
  simp only [hge, hptp, htx, href, Bool.false_eq_true, if_false, if_true]
  split <;> rfl

/-- Only block EVT does anything on a write of such a register. -/
theorem QuietKey.act (s : State) (i v : Nat) (old : Word) : s.act i k v old true = if k / 2 ^ 16 = 2 then s.interrupts else s := by
  have hno {b : Nat} {c d : Nat} (hc : c ∈ commandRegs) : ¬(k = c ∧ bit b d = true) := fun e => h.reg _ hc e.1
  have hcommand {c : Nat} (hc : c ∈ commandRegs) : ¬ k = c := h.reg c hc
  by_cases hevt : k / 2 ^ 16 = 2
  · rw [if_pos hevt]
    unfold State.act
    simp only [show k / 0x10000 = 2 from hevt]
  rw [if_neg hevt]
  unfold State.act
  simp only [Bool.true_and, if_true, Bool.not_true, Bool.false_eq_true, if_false, and_true]
  split
  case h_1 => rw [if_neg (hcommand (by decide)), if_neg (hcommand (by decide)), if_neg (hno (by decide))]
  case h_2 => rw [h.firstBelow_none (f := HIF.DMA_CFG) (by simp [commandFamilies])]
  case h_3 hb => exact absurd hb hevt
  case h_4 => rw [if_neg (hcommand (by decide)), if_neg (hno (by decide))]
  case h_5 => rw [if_neg (hcommand (by decide)), if_neg (hcommand (by decide)), if_neg fun e => hcommand (by decide) e.1, if_neg (hno (by decide))]
  case h_6 => rw [if_neg (hcommand (by decide)), h.firstBelow_none (f := SYN.APLL_CTL) (by simp [commandFamilies])]
  case h_7 => rw [if_neg (hcommand (by decide)), if_neg (hcommand (by decide))]
  case h_8 => rw [if_neg (hcommand (by decide)), if_neg (hcommand (by decide)), if_neg (hcommand (by decide)),
    h.firstBelow_none (f := TIME.PG_CFG) (by simp [commandFamilies])]
  case h_9 => rw [if_neg (hno (by decide)), if_neg (hno (by decide)), if_neg (hno (by decide))]
  case h_10 => rw [if_neg (hcommand (by decide))]
  case h_11 => rw [if_neg (hcommand (by decide)), if_neg (hcommand (by decide))]
  case h_12 hb =>
    have hoffset := h.kennel hb
    have hwm (n : Nat) : k ≠ KNL.K_WM n := by unfold KNL.K_WM; omega
    have hrst (n : Nat) : k ≠ KNL.K_RST n := by unfold KNL.K_RST; omega
    exact (if_neg (hwm _)).trans (if_neg fun e => hrst _ e.1)
  case h_13 => rw [h.firstBelow_none (f := HRD.H_CMD) (by simp [commandFamilies])]
  case h_14 => rfl

end

/-! ## Sticky registers (R490) -/

/-- The sticky registers hold sticky bits alone, and no unit acts on a write of one. -/
theorem sticky_of_regAt {k n : Nat} {f : RegFam} (h : regAt k = some (f, n)) (hf : f.sq ≠ 0) :
    QuietKey k ∧ f.rw = 0 ∧ f.rws = 0 ∧ f.wo1 = 0 := by
  have hrows : rowsWith (fun f => f.sq != 0) (fun f => f.rw == 0 && f.rws == 0 && f.wo1 == 0) = true := by decide
  obtain ⟨hmem, hmasks⟩ := regAt_row (p := fun f => f.sq != 0) h (bne_iff_ne.mpr hf) hrows
  simp only [Bool.and_eq_true, beq_iff_eq, and_assoc] at hmasks
  exact ⟨.of_mem hmem (by decide) (by decide) (by decide), hmasks⟩

theorem State.regWrite_sticky {k n : Nat} {f : RegFam} (h : regAt k = some (f, n)) (hf : f.sq ≠ 0) (s : State) (i addr : Nat) (v : Word) :
    s.regWrite i k 0 addr v = ((s.sqWrite k v).setModes k 0).act i k v.toNat (s.word k) true := by
  obtain ⟨hquiet, hrw, hrws, hwo1⟩ := sticky_of_regAt h hf
  unfold State.regWrite
  rw [h]
  simp [hrw, hrws, hwo1, hf, hquiet.unitRefuses]

theorem exec_sqAcknowledge {i : Iface} {k n v : Nat} {f : RegFam} {s : State} (h : regAt k = some (f, n)) (hf : f.sq ≠ 0)
    (hreach : s.hostReaches i k = true) : exec (.sqAcknowledge i k v) s =
      .next (if k / 2 ^ 16 = 2 then ((s.sqWrite k (BitVec.ofNat 32 v)).setModes k 0).interrupts else (s.sqWrite k (BitVec.ofNat 32 v)).setModes k 0) := by
  obtain ⟨hquiet, -⟩ := sticky_of_regAt h hf
  show execSqAcknowledge i k v s = _
  unfold execSqAcknowledge
  rw [h]
  refine congrArg _ ((if_pos hf).trans (State.regCommand_reached hquiet.space hreach ?_))
  rw [State.regWrite_sticky h hf, hquiet.act]

/-- The word of a sticky register after an acknowledgement with its SEQ, or the record of a stale one. -/
def State.acknowledged (s : State) (k : Nat) (v : Word) : State :=
  if (s.word k).toNat / 2 ^ 24 = v.toNat / 2 ^ 24 then s.setWord k (s.word k &&& ~~~(v &&& 0xFFFFFF#32))
  else (s.inc HIF.ACK_STALE.val).setNum HIF.ACKADDR (hostAddr k)

theorem State.acknowledged_frame (s : State) (k : Nat) (v : Word) : Frame [.live] s (s.acknowledged k v) :=
  Frame.ite (fun _ => s.setWord_frame _ _) fun _ => (s.inc_frame _).trans (State.setNum_frame ..)

theorem State.acknowledged_same {s : State} {k : Nat} {v : Word} (h : (s.word k).toNat / 2 ^ 24 = v.toNat / 2 ^ 24) :
    (s.acknowledged k v).word k = s.word k &&& ~~~(v &&& 0xFFFFFF#32) ∧ ∀ j, j ≠ k → (s.acknowledged k v).word j = s.word j := by
  rw [State.acknowledged, if_pos h]
  exact ⟨s.word_setWord_same _ _, fun j hj => s.word_setWord_ne _ hj⟩

theorem State.acknowledged_stale {s : State} {k : Nat} {v : Word} (h : ¬(s.word k).toNat / 2 ^ 24 = v.toNat / 2 ^ 24) :
    (s.acknowledged k v).rd HIF.ACK_STALE.val = (s.rd HIF.ACK_STALE.val + 1) % 2 ^ 32 ∧ (s.acknowledged k v).num HIF.ACKADDR = hostAddr k % 2 ^ 32 ∧
      ∀ j, j ≠ HIF.ACK_STALE → j ≠ HIF.ACKADDR → (s.acknowledged k v).word j = s.word j := by
  rw [State.acknowledged, if_neg h]
  refine ⟨?_, State.num_setNum_same .., fun j hs ha => ?_⟩
  · rw [State.rd_congr (State.word_setNum_ne _ _ (by decide))]
    exact s.rd_inc_same (by decide)
  · rw [State.word_setNum_ne _ _ ha, State.word_inc_ne _ hs]

theorem State.sqWrite_outside {s : State} {k : Nat} (v : Word) (h : k / 2 ^ 16 ≠ 2) : s.sqWrite k v = s.acknowledged k v := by
  have hnone : firstBelow (fun b => k == EVT.IPEND b) 24 = none := firstBelow_none fun b _ => beq_false_of_ne (by unfold EVT.IPEND; omega)
  unfold State.sqWrite
  rw [hnone]
  rfl

/-- In block EVT, an acknowledgement may send messages: no word but the pending bits of MSI-X changes with them. -/
theorem State.sqWrite_word (s : State) (k : Nat) (v : Word) {j : Nat} (hj : j ≠ msixPending) : (s.sqWrite k v).word j = (s.acknowledged k v).word j := by
  have heq : s.sqWrite k v = match firstBelow (fun b => k == EVT.IPEND b) 24 with
      | some b => if bit (s.acknowledged k v).interrupts.vectors ((s.acknowledged k v).interrupts.rd (EVT.VEC.val b)) then
          (s.acknowledged k v).interrupts.msix ((s.acknowledged k v).interrupts.rd (EVT.VEC.val b)) else (s.acknowledged k v).interrupts
      | none => s.acknowledged k v := rfl
  rw [heq]
  generalize s.acknowledged k v = u
  split
  · split
    · rw [State.msix_word _ _ hj, State.interrupts_word _ hj]
    · exact State.interrupts_word _ hj
  · rfl

theorem NormalSpace.hostAddr {k : Nat} (h : NormalSpace k) : hostAddr k = k := by
  obtain ⟨hlow, -, -⟩ := h
  unfold Machine.hostAddr
  rw [if_pos (by omega)]
  omega

/-! ## Write-once registers (R491, R521) -/

/-- DBGLOCK and the salt of the pairing key hold write-once bits alone. -/
theorem once_of_regAt {k n : Nat} {f : RegFam} (h : regAt k = some (f, n)) (hf : f.wo1 ≠ 0) :
    QuietKey k ∧ k / 2 ^ 16 = 3 ∧ f.rw = 0 ∧ f.rws = 0 ∧ f.sq = 0 := by
  have hrows : rowsWith (fun f => f.wo1 != 0) (fun f => f.rw == 0 && f.rws == 0 && f.sq == 0) = true := by decide
  have hblock : (keysWith fun f => f.wo1 != 0).all (fun k => k / 2 ^ 16 == 3) = true := by decide
  obtain ⟨hmem, hmasks⟩ := regAt_row (p := fun f => f.wo1 != 0) h (bne_iff_ne.mpr hf) hrows
  simp only [Bool.and_eq_true, beq_iff_eq, and_assoc] at hmasks
  exact ⟨.of_mem hmem (by decide) (by decide) (by decide), beq_iff_eq.mp (List.all_eq_true.mp hblock k hmem), hmasks⟩

theorem exec_wo1Write {i : Iface} {k n v : Nat} {f : RegFam} {s : State} (h : regAt k = some (f, n)) (hf : f.wo1 ≠ 0)
    (hreach : s.hostReaches i k = true) : exec (.wo1Write i k v) s = .next (s.wo1Write (ifaceNumber i) k f.wo1 (BitVec.ofNat 32 v)) := by
  obtain ⟨hquiet, hblock, hrw, hrws, hsq⟩ := once_of_regAt h hf
  have hwrite (addr : Nat) : s.regWrite (ifaceNumber i) k 0 addr (BitVec.ofNat 32 v) = s.wo1Write (ifaceNumber i) k f.wo1 (BitVec.ofNat 32 v) := by
    unfold State.regWrite
    rw [h]
    simp only [beq_self_eq_true, hrw, hrws, hsq, hf, hquiet.unitRefuses, hquiet.act, hblock, Bool.false_eq_true, if_true, if_false, Bool.true_and,
      bne_self_eq_false, bne_iff_ne, ne_eq, not_false_eq_true, Bool.true_or, Nat.reduceEqDiff]
  show execWo1Write i k v s = _
  unfold execWo1Write
  rw [h]
  exact congrArg _ ((if_pos hf).trans (State.regCommand_reached hquiet.space hreach (hwrite _)))

/-- A second write of a write-once register is counted, marked and reported. -/
theorem State.lockViol_recorded (s : State) (i k : Nat) : (s.lockViol i k).rd HIF.LOCKCNT.val = (s.rd HIF.LOCKCNT.val + 1) % 2 ^ 32 ∧
    (s.lockViol i k).flag HIF.HIST.LOCK_VIOL = true ∧ Reported 0x0102 s (s.lockViol i k) ∧
    (∀ j, j ≠ HIF.LOCKCNT → j ≠ HIF.LOCKADDR → j ≠ HIF.HIST → reportKey j = false → (s.lockViol i k).word j = s.word j) := by
  have hfields : HIF.LOCKCNT.val = ⟨0x10018, 0, 32⟩ ∧ HIF.HIST.LOCK_VIOL.key = 0x10004 ∧ HIF.LOCKADDR = 0x10014 := ⟨rfl, rfl, rfl⟩
  unfold State.lockViol
  extract_lets u w
  have hcount : u.rd HIF.LOCKCNT.val = (s.rd HIF.LOCKCNT.val + 1) % 2 ^ 32 := s.rd_inc_same (by decide)
  have hword (j : Nat) (hj : j ≠ HIF.LOCKCNT) : u.word j = s.word j := s.word_inc_ne hj
  have hw (j : Nat) (hj : j ≠ HIF.LOCKADDR) : w.word j = u.word j := by
    unfold w
    split
    · rfl
    · exact State.word_setNum_ne _ _ hj
  clear_value u w
  have hother (j : Nat) (hc : j ≠ HIF.LOCKCNT) (ha : j ≠ HIF.LOCKADDR) (hh : j ≠ HIF.HIST) : (w.sqf HIF.HIST.LOCK_VIOL).word j = s.word j := by
    rw [State.word_sqf_ne _ hh, hw j ha, hword j hc]
  refine ⟨?_, ?_, Reported.report_of_kept _ _ (by decide) fun j hlo hhi => ?_, fun j hc ha hh hr => ?_⟩
  · rw [State.rd_report_clear _ _ _ (by simp only [reportSpares, hfields]; omega), State.rd_sqf_clear _ (by decide)]
    exact (State.rd_congr (hw _ (by decide))).trans hcount
  · rw [State.flag_report_clear _ _ _ (by simp only [reportSpares, hfields]; omega), State.flag_sqf_self _ (by decide)]
  · exact hother j (by unfold HIF.LOCKCNT; omega) (by rw [hfields.2.2]; omega) (by unfold HIF.HIST; omega)
  · exact (State.report_word _ _ _ _ hr (by decide)).trans (hother j hc ha hh)

/-- The first write of a write-once register, before the pairing key is derived. -/
def State.onceWritten (s : State) (k mask : Nat) (v : Word) : State :=
  let s := s.setWord k (mergeBits (s.word k) v mask)
  { s with sec := { s.sec with once := NatSet.add s.sec.once k } }

theorem State.wo1Write_first {s : State} (i : Nat) {k : Nat} (mask : Nat) (v : Word) (h : NatSet.has s.sec.once k = false) :
    s.wo1Write i k mask v = if k = SEC.PAIRSALT 3 then (s.onceWritten k mask v).derivePairKey else s.onceWritten k mask v :=
  if_neg (ne_true_of_eq_false h)

theorem State.onceWritten_fields (s : State) (k mask : Nat) (v : Word) : (s.onceWritten k mask v).word k = mergeBits (s.word k) v mask ∧
    (s.onceWritten k mask v).sec = { s.sec with once := NatSet.add s.sec.once k } ∧ (∀ j, j ≠ k → (s.onceWritten k mask v).word j = s.word j) ∧
    Frame [.live, .sec] s (s.onceWritten k mask v) :=
  ⟨s.word_setWord_same _ _, rfl, fun _ hj => s.word_setWord_ne _ hj, Frame.set_sec ((s.setWord_frame _ _).weaken rfl) rfl⟩

/-- The registers that show what the derivation of the key leaves in the retention store. -/
def State.keyShown (s : State) : State :=
  (((s.setNum PAIR.VOTESEQLO 0).setNum PAIR.VOTESEQHI 0).wr UPD.BOOT.FAILS 0).wrFlag SEC.PAIRSTAT.KEY true

theorem State.keyShown_fields (s : State) : s.keyShown.ret = s.ret ∧ s.keyShown.flag SEC.PAIRSTAT.KEY = true ∧
    s.keyShown.num (SEC.PAIRSALT 3) = s.num (SEC.PAIRSALT 3) ∧ s.keyShown.num PAIR.VOTESEQLO = 0 ∧ s.keyShown.num PAIR.VOTESEQHI = 0 ∧
    s.keyShown.rd UPD.BOOT.FAILS = 0 := by
  have hword (j : Nat) (hs : j ≠ SEC.PAIRSTAT) (hb : j ≠ UPD.BOOT) :
      s.keyShown.word j = ((s.setNum PAIR.VOTESEQLO 0).setNum PAIR.VOTESEQHI 0).word j := by
    rw [State.keyShown, State.word_wrFlag_ne _ _ hs, State.word_wr_ne _ _ hb]
  refine ⟨?_, State.flag_wrFlag_self _ _ (by decide), congrArg BitVec.toNat ?_, ?_, ?_, ?_⟩
  · rw [State.keyShown, State.wrFlag_ret, State.wr_ret, State.setNum_ret, State.setNum_ret]
  · rw [hword _ (by decide) (by decide), State.word_setNum_ne _ _ (by decide), State.word_setNum_ne _ _ (by decide)]
  · rw [State.num, hword _ (by decide) (by decide), State.word_setNum_ne _ _ (by decide)]
    exact State.num_setNum_same ..
  · rw [State.num, hword _ (by decide) (by decide)]
    exact State.num_setNum_same ..
  · rw [State.keyShown, State.rd_wrFlag_clear _ _ ⟨by decide, .inl (by decide)⟩]
    exact State.rd_wr_self _ (by decide)

/-- The key that PAIRSALT makes with the part's root key. -/
def State.derivedKey (s : State) : List Byte :=
  Config.pairKey (if s.fuse.lc = 0 then List.replicate 32 0 else s.fuse.root.getD (List.replicate 32 0))
    (leBytes (s.num (SEC.PAIRSALT 0)) ++ leBytes (s.num (SEC.PAIRSALT 1)) ++ leBytes (s.num (SEC.PAIRSALT 2)) ++ leBytes (s.num (SEC.PAIRSALT 3)))

theorem State.derivePairKey_eq (s : State) : s.derivePairKey = (s.withRet { Retention.reset with key := some s.derivedKey }).keyShown := by
  have hroot : (if s.fuse.lc = 0 then List.replicate 32 0 else s.fuse.root.getD (List.replicate 32 0)) = (match s.fuse.lc, s.fuse.root with
      | 0, _ => List.replicate 32 0
      | _, some r => r
      | _, none => List.replicate 32 0) := by
    cases s.fuse.lc <;> cases s.fuse.root <;> rfl
  have hsalt : leBytes (s.num (SEC.PAIRSALT 0)) ++ leBytes (s.num (SEC.PAIRSALT 1)) ++ leBytes (s.num (SEC.PAIRSALT 2)) ++
      leBytes (s.num (SEC.PAIRSALT 3)) = s.wordBytes SEC.PAIRSALT 4 := by
    simp [State.wordBytes, List.range_succ, List.append_assoc]
  unfold State.derivedKey
  rw [hroot, hsalt]
  rfl

theorem State.word_withRet (s : State) (r : Retention) (k : Nat) : (s.withRet r).word k = s.word k := rfl

theorem State.derivePairKey_fields (s : State) : s.derivePairKey.ret = { Retention.reset with key := some s.derivedKey } ∧
    s.derivePairKey.flag SEC.PAIRSTAT.KEY = true ∧ s.derivePairKey.num (SEC.PAIRSALT 3) = s.num (SEC.PAIRSALT 3) ∧
    s.derivePairKey.num PAIR.VOTESEQLO = 0 ∧ s.derivePairKey.num PAIR.VOTESEQHI = 0 ∧ s.derivePairKey.rd UPD.BOOT.FAILS = 0 := by
  rw [State.derivePairKey_eq]
  obtain ⟨hret, hkey, hsalt, hrest⟩ := (s.withRet { Retention.reset with key := some s.derivedKey }).keyShown_fields
  exact ⟨hret.trans (s.withRet_ret _), hkey, hsalt.trans (congrArg BitVec.toNat (s.word_withRet _ _)), hrest⟩

/-- The key derived at the write of the last word of the salt. -/
theorem State.derivedKey_onceWritten (s : State) {v : Nat} (hv : v < 2 ^ 32) :
    (s.onceWritten (SEC.PAIRSALT 3) (2 ^ 32 - 1) (BitVec.ofNat 32 v)).num (SEC.PAIRSALT 3) = v ∧
    (s.onceWritten (SEC.PAIRSALT 3) (2 ^ 32 - 1) (BitVec.ofNat 32 v)).derivedKey =
      Config.pairKey (if s.fuse.lc = 0 then List.replicate 32 0 else s.fuse.root.getD (List.replicate 32 0))
        (leBytes (s.num (SEC.PAIRSALT 0)) ++ leBytes (s.num (SEC.PAIRSALT 1)) ++ leBytes (s.num (SEC.PAIRSALT 2)) ++ leBytes v) := by
  obtain ⟨hword, -, hothers, hframe⟩ := s.onceWritten_fields (SEC.PAIRSALT 3) (2 ^ 32 - 1) (BitVec.ofNat 32 v)
  have hfuse := hframe.same .fuse rfl
  rw [mergeBits_full] at hword
  have hlast : (s.onceWritten (SEC.PAIRSALT 3) (2 ^ 32 - 1) (BitVec.ofNat 32 v)).num (SEC.PAIRSALT 3) = v := by
    rw [State.num, hword, BitVec.toNat_ofNat, Nat.mod_eq_of_lt hv]
  have hnum (j : Nat) (hj : SEC.PAIRSALT j ≠ SEC.PAIRSALT 3) :
      (s.onceWritten (SEC.PAIRSALT 3) (2 ^ 32 - 1) (BitVec.ofNat 32 v)).num (SEC.PAIRSALT j) = s.num (SEC.PAIRSALT j) :=
    congrArg BitVec.toNat (hothers _ hj)
  refine ⟨hlast, ?_⟩
  rw [State.derivedKey, hlast, hnum 0 (by decide), hnum 1 (by decide), hnum 2 (by decide), hfuse]

/-- Settles O49: a sticky register holds nothing else, and a write of it changes its word or the record of a stale acknowledgement; the salt of the
pairing key is written before the key is derived of it. -/
theorem stickyBitsAndWriteOnceRegisters : Obligations.StickyBitsAndWriteOnceRegisters := by
  unfold Obligations.StickyBitsAndWriteOnceRegisters
  intro i k v s f n w cleared hreg hv hreach
  have hvalue : (BitVec.ofNat 32 v).toNat = v := by rw [BitVec.toNat_ofNat, Nat.mod_eq_of_lt hv]
  refine ⟨fun hf hblock => ?ref, fun hf hevt href => ⟨fun hseq => ?acknowledged, fun hseq => ?stale⟩, fun hf hblock hseq => ?evt,
    fun hf hnew hsalt => ?once, fun hsalt hnew => ?salt, fun hf hold => ?again⟩
  case ref =>
    have hexec := exec_sqAcknowledge (v := v) hreg hf hreach
    obtain ⟨hquiet, -⟩ := sticky_of_regAt hreg hf
    rw [if_neg (by omega), hquiet.setModes_ref hblock, State.sqWrite_outside _ (by omega)] at hexec
    refine ⟨_, hexec, ?_, fun hseq => ?_, (s.acknowledged_frame _ _).trans (State.wr_frame ..)⟩
    · rw [State.flag, State.rd_wr_self _ (by decide)]
      rfl
    · obtain ⟨hword, hothers⟩ := State.acknowledged_same (s := s) (hseq.trans (by rw [hvalue]))
      exact ⟨(State.word_wr_ne _ _ (hquiet.reg _ (by decide))).trans hword, fun j hj hprofile => (State.word_wr_ne _ _ hprofile).trans (hothers j hj)⟩
  case acknowledged =>
    have hexec := exec_sqAcknowledge (v := v) hreg hf hreach
    obtain ⟨hquiet, -⟩ := sticky_of_regAt hreg hf
    rw [if_neg hevt, hquiet.setModes href, State.sqWrite_outside _ hevt] at hexec
    obtain ⟨hword, hothers⟩ := State.acknowledged_same (s := s) (hseq.trans (by rw [hvalue]))
    exact ⟨_, hexec, hword, hothers, s.acknowledged_frame _ _⟩
  case stale =>
    have hexec := exec_sqAcknowledge (v := v) hreg hf hreach
    obtain ⟨hquiet, -⟩ := sticky_of_regAt hreg hf
    rw [if_neg hevt, hquiet.setModes href, State.sqWrite_outside _ hevt] at hexec
    obtain ⟨hcount, haddr, hothers⟩ := State.acknowledged_stale (s := s) (k := k) (v := BitVec.ofNat 32 v) (by rw [hvalue]; exact hseq)
    have hsmall : hostAddr k % 2 ^ 32 = hostAddr k := by
      obtain ⟨hlow, -, -⟩ := hquiet.space
      rw [hquiet.space.hostAddr]
      omega
    exact ⟨_, hexec, hcount, haddr.trans hsmall, hothers, s.acknowledged_frame _ _⟩
  case evt =>
    have hexec := exec_sqAcknowledge (v := v) hreg hf hreach
    obtain ⟨hquiet, -⟩ := sticky_of_regAt hreg hf
    rw [if_pos hblock, hquiet.setModes (by omega)] at hexec
    obtain ⟨hword, hothers⟩ := State.acknowledged_same (s := s) (hseq.trans (by rw [hvalue]))
    have hkey : k ≠ msixPending := by unfold msixPending; omega
    refine ⟨_, hexec, ?_, fun j hj hpending => ?_, (s.sqWrite_frame ..).seq (State.interrupts_frame _) rfl⟩
    · rw [State.interrupts_word _ hkey, s.sqWrite_word _ _ hkey, hword]
    · rw [State.interrupts_word _ hpending, s.sqWrite_word _ _ hpending, hothers j hj]
  case once =>
    have hexec := exec_wo1Write (v := v) hreg hf hreach
    rw [State.wo1Write_first _ _ _ hnew, if_neg hsalt] at hexec
    exact ⟨_, hexec, s.onceWritten_fields _ _ _⟩
  case salt =>
    subst hsalt
    obtain ⟨hf, hmask⟩ : f.wo1 ≠ 0 ∧ f.wo1 = 2 ^ 32 - 1 := by
      have hrow : regAt (SEC.PAIRSALT 3) = some (⟨0x40, 4, 0x4, 1, 0x4, 0x0, 0x0, 0x0, 0xFFFFFFFF, 0x0, 0x0, 0x0, 0x0, []⟩, 3) := rfl
      obtain rfl := congrArg Prod.fst (Option.some.inj (hreg.symm.trans hrow))
      exact ⟨by decide, rfl⟩
    have hexec := exec_wo1Write (v := v) hreg hf hreach
    rw [State.wo1Write_first _ _ _ hnew, if_pos rfl, hmask] at hexec
    obtain ⟨hlast, hkey⟩ := s.derivedKey_onceWritten hv
    obtain ⟨-, -, -, hframe⟩ := s.onceWritten_fields (SEC.PAIRSALT 3) (2 ^ 32 - 1) (BitVec.ofNat 32 v)
    obtain ⟨hret, hshown, hsalt, hlo, hhi, hfails⟩ := (s.onceWritten (SEC.PAIRSALT 3) (2 ^ 32 - 1) (BitVec.ofNat 32 v)).derivePairKey_fields
    rw [hkey] at hret
    exact ⟨_, hexec, hret, hshown, hsalt.trans hlast, hlo, hhi, hfails, (hframe.weaken rfl).seq (State.derivePairKey_frame _) rfl⟩
  case again =>
    have hexec := exec_wo1Write (v := v) hreg hf hreach
    rw [State.wo1Write, if_pos hold] at hexec
    obtain ⟨hcount, hmark, hreported, hothers⟩ := s.lockViol_recorded (ifaceNumber i) k
    exact ⟨_, hexec, hcount, hmark, hreported, hothers, s.lockViol_frame _ _⟩

end Sys2Proof.Machine
end

section
/-!
PROOFS. SPI frames (R486 to R488).
-/

namespace Sys2Proof.Machine

theorem beNumber_lt (bs : List Nat) : beNumber bs < 256 ^ bs.length := by
  induction bs with
  | nil => decide
  | cons b bs ih =>
    have hb : b % 256 < 256 := Nat.mod_lt _ (by decide)
    calc beNumber (b :: bs) = b % 256 * 256 ^ bs.length + beNumber bs := rfl
      _ < b % 256 * 256 ^ bs.length + 256 ^ bs.length := Nat.add_lt_add_left ih _
      _ = (b % 256 + 1) * 256 ^ bs.length := by ring
      _ ≤ 256 * 256 ^ bs.length := Nat.mul_le_mul_right _ hb
      _ = 256 ^ (b :: bs).length := by rw [List.length_cons]; ring

/-- ADDR names one of two BARs. -/
theorem spiHead_bar (bytes : List Nat) : (spiHead bytes).bar < 3 := by
  have hlen : ((bytes.drop 1).take 4).length ≤ 4 := List.length_take_le _ _
  have haddr : (spiHead bytes).addr < 256 ^ 4 := (beNumber_lt _).trans_le (Nat.pow_le_pow_right (by decide) hlen)
  unfold SpiHead.bar
  omega

theorem exec_spiFrames_other {s : State} {bytes : List Nat} (gap : Nat) (h : s.spiMine bytes = false) :
    exec (.spiWriteFrame bytes) s = .next s ∧ exec (.spiReadFrame bytes gap) s = .next s :=
  ⟨congrArg _ (if_pos (.inl (by rw [h]; rfl))), congrArg _ (if_pos (.inl (by rw [h]; rfl)))⟩

section
variable {s : State} {bytes : List Nat} (hmine : s.spiMine bytes = true)
include hmine

theorem exec_spiWriteFrame (hop : (spiHead bytes).op = 1) : exec (.spiWriteFrame bytes) s = .next (
    if bytes.length ≠ 5 + 4 * (spiHead bytes).count + 2 then s.spiFail 2
    else if crc8 (bytes.take (5 + 4 * (spiHead bytes).count)) ≠ bytes.getD (5 + 4 * (spiHead bytes).count) 0 then s.spiFail 1
    else if !(spiHead bytes).addrGood then s.spiFail 2
    else (s.spiWords (spiHead bytes) 0 (wordsOf (spiHead bytes).count (bytes.drop 5))).emit (.spi [0x5A])) := by
  show execSpiWriteFrame bytes s = _
  unfold execSpiWriteFrame
  simp [hmine, hop]

theorem exec_spiReadFrame (gap : Nat) (hop : (spiHead bytes).op = 0) (hlen : 6 ≤ bytes.length) : exec (.spiReadFrame bytes gap) s = .next (
    if crc8 (bytes.take 5) ≠ bytes.getD 5 0 then s.spiFail 1
    else if !(spiHead bytes).addrGood ∨ bytes.length ≠ 6 + gap + 4 * (spiHead bytes).count + 2 then s.spiFail 2
    else s.emit (.spi (List.replicate gap 0 ++ 0x5A :: (List.range (spiHead bytes).count).flatMap (fun j =>
      beBytes (s.hostRead (spiHead bytes).bar ((spiHead bytes).word j))) ++ [crc8 (0x5A :: (List.range (spiHead bytes).count).flatMap (fun j =>
        beBytes (s.hostRead (spiHead bytes).bar ((spiHead bytes).word j))))]))) :=
  congrArg _ ((if_neg (by simp [hmine, hop])).trans (if_neg (by omega)))

end

/-- The count of a kind of failed frames. -/
def spiCount (kind : Nat) : Fld := if kind = 1 then HIF.SPISTAT.CRCERR else HIF.SPISTAT.FRAMEERR

/-- A failed frame is counted, marked, reported and answered with its error code. -/
theorem State.spiFail_fields (s : State) (kind : Nat) : (s.spiFail kind).rd (spiCount kind) = (s.rd (spiCount kind) + 1) % 2 ^ (spiCount kind).width ∧
    (s.spiFail kind).flag HIF.HIST.SPI = true ∧ Reported 0x0104 s (s.spiFail kind) ∧
    (s.spiFail kind).out.head? = some (.spi [if kind = 1 then 0xE1 else 0xE2]) ∧
    (∀ j, j ≠ HIF.SPISTAT → j ≠ HIF.HIST → reportKey j = false → (s.spiFail kind).word j = s.word j) ∧ Frame [.live, .evt, .out] s (s.spiFail kind) := by
  have hkey : (spiCount kind).key = HIF.SPISTAT ∧ (spiCount kind).lo + (spiCount kind).width ≤ 32 := by
    unfold spiCount
    split <;> decide
  have hfields : HIF.SPISTAT = 0x10030 ∧ HIF.HIST.SPI.key = 0x10004 := ⟨rfl, rfl⟩
  have heq : s.spiFail kind = (((s.inc (spiCount kind)).sqf HIF.HIST.SPI).report 0x0104 1 kind).emit (.spi [if kind = 1 then 0xE1 else 0xE2]) := by
    unfold State.spiFail spiCount
    split
    · rfl
    · rfl
  have hother (j : Nat) (hs : j ≠ HIF.SPISTAT) (hh : j ≠ HIF.HIST) : ((s.inc (spiCount kind)).sqf HIF.HIST.SPI).word j = s.word j := by
    rw [State.word_sqf_ne _ hh, s.word_inc_ne (by rw [hkey.1]; exact hs)]
  rw [heq]
  refine ⟨?_, ?_, ?_, rfl, fun j hs hh hr => ?_, ?_⟩
  · rw [State.rd_emit, State.rd_report_clear _ _ _ (by rw [hkey.1]; simp only [reportSpares, hfields]; omega),
      State.rd_sqf_clear _ (by rw [hkey.1]; decide)]
    exact s.rd_inc_same hkey.2
  · rw [State.flag_emit, State.flag_report_clear _ _ _ (by simp only [reportSpares, hfields]; omega), State.flag_sqf_self _ (by decide)]
  · refine (Reported.report_of_kept _ _ (by decide) fun j hlo hhi => ?_).before (State.word_emit ..) (State.word_emit ..)
    exact hother j (by unfold HIF.SPISTAT; omega) (by unfold HIF.HIST; omega)
  · rw [State.word_emit, State.report_word _ _ _ _ hr (by decide)]
    exact hother j hs hh
  · exact ((((s.inc_frame _).seq (State.sqf_frame ..) rfl).weaken rfl).seq (State.report_frame ..) rfl).seq (State.emit_frame ..) rfl

/-- Settles O50: each clause by the equation of its frame; a word that a frame carries is written as a dword of the host is. -/
theorem spiFramesWriteReadOrFail : Obligations.SpiFramesWriteReadOrFail := by
  unfold Obligations.SpiFramesWriteReadOrFail
  intro bytes gap s h m data failed
  refine ⟨exec_spiFrames_other gap, fun hmine hop => ⟨fun hlen => ?length, fun hlen hcrc => ?crc, fun hlen hcrc haddr hcount => ?write⟩,
    fun hmine hop hlen => ⟨fun hcrc => ?readCrc, fun hcrc haddr hall => ?read⟩⟩
  case length =>
    have hexec := exec_spiWriteFrame hmine hop
    rw [if_pos hlen] at hexec
    exact ⟨_, hexec, s.spiFail_fields 2⟩
  case crc =>
    have hexec := exec_spiWriteFrame hmine hop
    rw [if_neg (not_not_intro hlen), if_pos hcrc] at hexec
    exact ⟨_, hexec, s.spiFail_fields 1⟩
  case write =>
    have hexec := exec_spiWriteFrame hmine hop
    rw [if_neg (not_not_intro hlen), if_neg (not_not_intro hcrc), if_neg (by simp [show (spiHead bytes).addrGood = true from haddr]),
      show (spiHead bytes).count = 1 from hcount] at hexec
    exact ⟨_, exec_hostWrite .spi _ _ _ s (spiHead_bar bytes), hexec⟩
  case readCrc =>
    have hexec := exec_spiReadFrame hmine gap hop hlen
    rw [if_pos hcrc] at hexec
    exact ⟨_, hexec, s.spiFail_fields 1⟩
  case read =>
    have hexec := exec_spiReadFrame hmine gap hop hlen
    rw [if_neg (not_not_intro hcrc), if_neg (by simp [show (spiHead bytes).addrGood = true from haddr, show bytes.length = _ from hall]; rfl)] at hexec
    exact ⟨_, hexec, s.emit_frame _, rfl⟩

end Sys2Proof.Machine
end

section
/-!
PROOFS. Host DMA (R494 to R497): the end of a descriptor for a kennel notes the level of the kennel.
-/

namespace Sys2Proof.Machine

/-- Out of reset, channel 0 is enabled and has one ready descriptor. -/
def descriptorReady : State :=
  let running := { State.reset with boot := { State.reset.boot with held := false } }
  ((running.wr (HIF.DMA_CFG.EN 0) 1).wr (HIF.DMA_CFG.LOG2SIZE 0) 2).setDma 0 { Dma.reset with ready := 1 }

/-- A descriptor of length 0 for kennel K24, a push kennel of the host. -/
def emptyPush : List Nat := [0, 0, 2 ^ 30 + 24, 0, 0, 0, 0, 0]

/-- The end of the descriptor ends the binding of K24, which notes the kennel's level of this cycle. -/
theorem dmaDescriptorDone_notes_level :
    nextWith (fun t => t.net.levels.length == 1) (exec (.dmaDescriptorDone 0 emptyPush [] [] false) descriptorReady) = true := by
  decide

/-- Refutes O51: the completion of a descriptor of length 0 changes the network's part of the state where SPACE is 1. The end of the kennel's binding
(R241, R496) notes the kennel's level at the start of the cycle (R233), which is a part of the state that the clause's frame leaves out, and no premise
of the clause says that the descriptor names no kennel. -/
theorem not_dmaDescriptorsAndDoorbells : ¬ Obligations.DmaDescriptorsAndDoorbells := by
  unfold Obligations.DmaDescriptorsAndDoorbells
  intro h
  obtain ⟨-, hdone⟩ := h 0 0 emptyPush [] [] emptyPush descriptorReady
  obtain ⟨hempty, -⟩ := hdone (by decide)
  obtain ⟨t, hexec, -, hframe⟩ := hempty (by decide)
  have hkept : t.net = descriptorReady.net := hframe.same .net rfl
  have hnoted : t.net.levels.length == 1 := by
    have := dmaDescriptorDone_notes_level
    rwa [hexec] at this
  rw [hkept] at hnoted
  exact absurd hnoted (by decide)

end Sys2Proof.Machine
end

section
/-!
PROOFS. The event log (R500, R503 to R505): records written, dropped, overwritten and consumed.
-/

namespace Sys2Proof.Machine

/-! ## What a report leaves of the EVT block -/

/-- Word `j` is none that a report of block `b` writes. -/
def logSpares (b j : Nat) : Prop :=
  j ≠ EVT.DROPPED ∧ j ≠ EVT.HIST ∧ j ≠ EVT.FIRSTDROP ∧ j ≠ EVT.IPEND b ∧ j ≠ EVT.BLKCNT b ∧ j ≠ msixPending ∧ ∀ i, i < 1024 → j ≠ EVT.REP i

theorem State.report_word_log (s : State) {code j : Nat} (source data : Nat) (h : logSpares (code / 256) j) :
    (s.report code source data).word j = s.word j := by
  obtain ⟨hdropped, hhist, hfirst, hpend, hcount, hmsix, hrep⟩ := h
  rw [State.report, State.placeReport_word _ _ _ _ hdropped hhist hfirst hrep, State.interrupts_word _ hmsix, State.word_sq_ne _ _ hpend,
    State.word_inc_ne _ hcount]

theorem logSpares_rdseq : logSpares 1 EVT.RDSEQ := by
  unfold logSpares EVT.RDSEQ EVT.REP
  refine ⟨by decide, by decide, by decide, by decide, by decide, by decide, fun i hi => ?_⟩
  omega

theorem logSpares_low {j : Nat} (h : j = EVT.WRSEQ ∨ j = EVT.RDSEQ ∨ j = EVT.OVERWRITTEN ∨ 2 ^ 31 ≤ j ∧ j < 2 ^ 32) : logSpares 2 j := by
  have hregs : EVT.WRSEQ = 0x20004 ∧ EVT.RDSEQ = 0x20008 ∧ EVT.OVERWRITTEN = 0x20014 := ⟨rfl, rfl, rfl⟩
  unfold logSpares EVT.DROPPED EVT.HIST EVT.FIRSTDROP EVT.IPEND EVT.BLKCNT EVT.REP msixPending
  refine ⟨?_, ?_, ?_, ?_, ?_, ?_, fun i hi => ?_⟩ <;> omega

theorem State.dropReport_overwritten {s : State} (r : Report) (h : s.flag EVT.HIST.OVERWRITTEN = true) :
    (s.dropReport r).flag EVT.HIST.OVERWRITTEN = true := by
  unfold State.dropReport
  extract_lets a b c
  have hb : b.flag EVT.HIST.OVERWRITTEN = true := by
    have ha : a.flag EVT.HIST.OVERWRITTEN = true := (State.flag_congr (State.word_inc_ne _ (by decide))).trans h
    unfold b
    split
    · exact ha
    · exact (State.flag_congr ((State.word_wr_ne _ _ (by decide)).trans (State.word_wr_ne _ _ (by decide)))).trans ha
  have hc : c.flag EVT.HIST.OVERWRITTEN = true := State.flag_sqf_of_flag _ rfl (by decide) hb
  exact (State.flag_congr (State.word_setEvt ..)).trans hc

theorem State.enterReport_overwritten {s : State} (r : Report) (h : s.flag EVT.HIST.OVERWRITTEN = true) :
    (s.enterReport r).flag EVT.HIST.OVERWRITTEN = true := by
  unfold State.enterReport
  split
  · exact (State.flag_congr (State.word_setEvt ..)).trans h
  · split
    · split
      · exact h
      · exact (State.flag_congr (State.word_setEvt ..)).trans (State.dropReport_overwritten _ h)
    · exact State.dropReport_overwritten _ h

theorem State.placeReport_overwritten {s : State} (code source data : Nat) (h : s.flag EVT.HIST.OVERWRITTEN = true) :
    (s.placeReport code source data).flag EVT.HIST.OVERWRITTEN = true := by
  unfold State.placeReport
  dsimp only
  split
  · next slot hslot =>
    refine (State.flag_congr (State.word_addSat_ne _ _ ?_)).trans h
    unfold EVT.HIST.OVERWRITTEN EVT.HIST EVT.REP.val EVT.REP
    dsimp only
    omega
  · split
    · exact (State.flag_congr (State.word_setEvt ..)).trans h
    · exact State.enterReport_overwritten _ h

/-- A sticky bit of the log's history stays at a report. -/
theorem State.report_overwritten {s : State} (code source data : Nat) (h : s.flag EVT.HIST.OVERWRITTEN = true) :
    (s.report code source data).flag EVT.HIST.OVERWRITTEN = true := by
  refine State.placeReport_overwritten code source data ((State.flag_congr (s.counted_word ?_ ?_ (by decide))).trans h)
  · unfold EVT.HIST.OVERWRITTEN EVT.HIST EVT.BLKCNT
    dsimp only
    omega
  · unfold EVT.HIST.OVERWRITTEN EVT.HIST EVT.IPEND
    dsimp only
    omega

/-! ## The record of a report (R500) -/

/-- The state with the log's state `e`. -/
def State.withEvt (s : State) (e : Evt) : State := { s with evt := e }

theorem State.word_withEvt (s : State) (e : Evt) (k : Nat) : (s.withEvt e).word k = s.word k := rfl
theorem State.withEvt_evt (s : State) (e : Evt) : (s.withEvt e).evt = e := rfl
theorem State.withEvt_clk (s : State) (e : Evt) : (s.withEvt e).clk = s.clk := rfl

/-- The words of the record of `r` in slot `k`. -/
def State.slotWritten (s : State) (k : Nat) (r : Report) : State :=
  ((((s.setNum (logKey k 0) (r.code + r.source * 2 ^ 16)).setNum (logKey k 1) r.tick).setNum (logKey k 2) r.ns).setNum (logKey k 3) r.data).setNum
    (EVT.REP k) r.rep

/-- WRSEQ advances past record `q`, and the log is busy for eight nanoseconds. -/
def State.advanced (s : State) (q : Nat) : State :=
  let u := s.wr EVT.WRSEQ.val (q + 1)
  u.withEvt { u.evt with freeAt := u.clk.now + 8 }

theorem State.advanced_fields (s : State) (q : Nat) : (s.advanced q).rd EVT.WRSEQ.val = (q + 1) % 2 ^ 32 ∧
    (s.advanced q).evt = { s.evt with freeAt := s.clk.now + 8 } ∧ (∀ j, j ≠ EVT.WRSEQ → (s.advanced q).word j = s.word j) := by
  unfold State.advanced
  extract_lets u e
  have hu : u.rd EVT.WRSEQ.val = (q + 1) % 2 ^ 32 := State.rd_wr_same _ _ _ (by decide)
  have hevt : u.evt = s.evt ∧ u.clk = s.clk := ⟨State.wr_evt .., State.wr_clk ..⟩
  have hword (j : Nat) (hj : j ≠ EVT.WRSEQ) : u.word j = s.word j := State.word_wr_ne _ _ hj
  have he : e = u.evt := rfl
  clear_value u e
  subst he
  exact ⟨(State.rd_congr (State.word_withEvt ..)).trans hu, by rw [State.withEvt_evt, hevt.1, hevt.2],
    fun j hj => (State.word_withEvt ..).trans (hword j hj)⟩

/-- The record of `r` in the next slot, before LOG_WMARK. -/
def State.recorded (s : State) (r : Report) : State := (s.slotWritten (s.rd EVT.WRSEQ.val % 1024) r).advanced (s.rd EVT.WRSEQ.val)

theorem State.record_eq (s : State) (r : Report) : s.record r =
    if (s.recorded r).rd EVT.CTL.WMARK ≠ 0 ∧ (s.recorded r).unread = (s.recorded r).rd EVT.CTL.WMARK then
      (s.recorded r).report 0x0202 0 ((s.recorded r).rd EVT.CTL.WMARK) else s.recorded r := rfl

theorem State.slotWritten_fields (s : State) {k : Nat} (r : Report) (hk : k < 1024) :
    (s.slotWritten k r).num (logKey k 0) = (r.code + r.source * 2 ^ 16) % 2 ^ 32 ∧ (s.slotWritten k r).num (logKey k 1) = r.tick % 2 ^ 32 ∧
    (s.slotWritten k r).num (logKey k 2) = r.ns % 2 ^ 32 ∧ (s.slotWritten k r).num (logKey k 3) = r.data % 2 ^ 32 ∧
    (s.slotWritten k r).num (EVT.REP k) = r.rep % 2 ^ 32 ∧ (∀ j, j < 0x22000 → (s.slotWritten k r).word j = s.word j) := by
  have happart (i j : Nat) (h : i < j ∧ j < 4) : logKey k i ≠ logKey k j := by unfold logKey bar2; omega
  have hrep (i : Nat) : logKey k i ≠ EVT.REP k := by unfold logKey bar2 EVT.REP; omega
  have hlow (i : Nat) {j : Nat} (hj : j < 0x22000) : j ≠ logKey k i ∧ j ≠ EVT.REP k := by unfold logKey bar2 EVT.REP; omega
  unfold State.slotWritten
  refine ⟨?_, ?_, ?_, ?_, State.num_setNum_same .., fun j hj => ?_⟩
  · rw [State.num, State.word_setNum_ne _ _ (hrep 0), State.word_setNum_ne _ _ (happart 0 3 (by decide)),
      State.word_setNum_ne _ _ (happart 0 2 (by decide)), State.word_setNum_ne _ _ (happart 0 1 (by decide))]
    exact State.num_setNum_same ..
  · rw [State.num, State.word_setNum_ne _ _ (hrep 1), State.word_setNum_ne _ _ (happart 1 3 (by decide)),
      State.word_setNum_ne _ _ (happart 1 2 (by decide))]
    exact State.num_setNum_same ..
  · rw [State.num, State.word_setNum_ne _ _ (hrep 2), State.word_setNum_ne _ _ (happart 2 3 (by decide))]
    exact State.num_setNum_same ..
  · rw [State.num, State.word_setNum_ne _ _ (hrep 3)]
    exact State.num_setNum_same ..
  · rw [State.word_setNum_ne _ _ (hlow 0 hj).2, State.word_setNum_ne _ _ (hlow 3 hj).1, State.word_setNum_ne _ _ (hlow 2 hj).1,
      State.word_setNum_ne _ _ (hlow 1 hj).1, State.word_setNum_ne _ _ (hlow 0 hj).1]

/-- The record of `r` stands in the slot of record `q`, and WRSEQ has advanced past it. -/
structure LogWritten (q : Nat) (r : Report) (t : State) : Prop where
  seq : t.rd EVT.WRSEQ.val = (q + 1) % 2 ^ 32
  word0 : t.num (logKey (q % 1024) 0) = (r.code + r.source * 2 ^ 16) % 2 ^ 32
  word1 : t.num (logKey (q % 1024) 1) = r.tick % 2 ^ 32
  word2 : t.num (logKey (q % 1024) 2) = r.ns % 2 ^ 32
  word3 : t.num (logKey (q % 1024) 3) = r.data % 2 ^ 32

theorem State.recorded_fields (s : State) (r : Report) : LogWritten (s.rd EVT.WRSEQ.val) r (s.recorded r) ∧
    (s.recorded r).num (EVT.REP (s.rd EVT.WRSEQ.val % 1024)) = r.rep % 2 ^ 32 ∧ (s.recorded r).evt = { s.evt with freeAt := s.clk.now + 8 } ∧
    (∀ j, j < 0x22000 → j ≠ EVT.WRSEQ → (s.recorded r).word j = s.word j) := by
  obtain ⟨h0, h1, h2, h3, hrep, hword⟩ := s.slotWritten_fields r (Nat.mod_lt (s.rd EVT.WRSEQ.val) (by decide))
  have hframe : Frame [.live] s (s.slotWritten (s.rd EVT.WRSEQ.val % 1024) r) :=
    ((((s.setNum_frame _ _).trans (State.setNum_frame ..)).trans (State.setNum_frame ..)).trans (State.setNum_frame ..)).trans (State.setNum_frame ..)
  have hslot (i : Nat) : logKey (s.rd EVT.WRSEQ.val % 1024) i ≠ EVT.WRSEQ := by unfold logKey bar2 EVT.WRSEQ; omega
  have hslotRep : EVT.REP (s.rd EVT.WRSEQ.val % 1024) ≠ EVT.WRSEQ := by unfold EVT.REP EVT.WRSEQ; omega
  have hevt := hframe.same .evt rfl
  have hclk := hframe.same .clk rfl
  unfold State.recorded
  generalize s.slotWritten (s.rd EVT.WRSEQ.val % 1024) r = u at *
  obtain ⟨hseq, hadvanced, hkeep⟩ := u.advanced_fields (s.rd EVT.WRSEQ.val)
  have hnum (j : Nat) (hj : j ≠ EVT.WRSEQ) : (u.advanced (s.rd EVT.WRSEQ.val)).num j = u.num j := congrArg BitVec.toNat (hkeep j hj)
  refine ⟨⟨hseq, ?_, ?_, ?_, ?_⟩, ?_, ?_, fun j hlow hj => (hkeep j hj).trans (hword j hlow)⟩
  · rw [hnum _ (hslot 0), h0]
  · rw [hnum _ (hslot 1), h1]
  · rw [hnum _ (hslot 2), h2]
  · rw [hnum _ (hslot 3), h3]
  · rw [hnum _ hslotRep, hrep]
  · rw [hadvanced, hevt, hclk]

/-- A record is written, whatever LOG_WMARK says of it; without LOG_WMARK nothing else changes in the log. -/
theorem State.record_fields (s : State) (r : Report) : LogWritten (s.rd EVT.WRSEQ.val) r (s.record r) ∧
    (s.rd EVT.CTL.WMARK = 0 ∨ (s.unread + 1) % 2 ^ 32 ≠ s.rd EVT.CTL.WMARK → (s.record r).evt = { s.evt with freeAt := s.clk.now + 8 } ∧
      (s.record r).num (EVT.REP (s.rd EVT.WRSEQ.val % 1024)) = r.rep % 2 ^ 32) ∧
    (∀ j, j = EVT.RDSEQ ∨ j = EVT.OVERWRITTEN → (s.record r).word j = s.word j) ∧
    (s.flag EVT.HIST.OVERWRITTEN = true → (s.record r).flag EVT.HIST.OVERWRITTEN = true) := by
  obtain ⟨hwritten, hrep, hevt, hword⟩ := s.recorded_fields r
  have hmark : (s.recorded r).rd EVT.CTL.WMARK = s.rd EVT.CTL.WMARK := State.rd_congr (hword _ (by decide) (by decide))
  have hread : (s.recorded r).rd EVT.RDSEQ.val = s.rd EVT.RDSEQ.val := State.rd_congr (hword _ (by decide) (by decide))
  have hhist : (s.recorded r).flag EVT.HIST.OVERWRITTEN = s.flag EVT.HIST.OVERWRITTEN := State.flag_congr (hword _ (by decide) (by decide))
  have hunread : (s.recorded r).unread = (s.unread + 1) % 2 ^ 32 := by
    have hlt : s.rd EVT.RDSEQ.val < 2 ^ 32 := s.rd_lt _
    rw [State.unread, hwritten.seq, hread, State.unread]
    omega
  have hslot (i : Nat) (hi : i < 4) : logSpares 2 (logKey (s.rd EVT.WRSEQ.val % 1024) i) :=
    logSpares_low (.inr (.inr (.inr (by unfold logKey bar2; omega))))
  have hregs : EVT.RDSEQ = 0x20008 ∧ EVT.OVERWRITTEN = 0x20014 ∧ EVT.WRSEQ = 0x20004 := ⟨rfl, rfl, rfl⟩
  have hkeep (j : Nat) (hj : j = EVT.RDSEQ ∨ j = EVT.OVERWRITTEN) : (s.recorded r).word j = s.word j := hword j (by omega) (by omega)
  rw [s.record_eq r, hmark, hunread]
  generalize s.recorded r = u at *
  by_cases hreport : s.rd EVT.CTL.WMARK ≠ 0 ∧ (s.unread + 1) % 2 ^ 32 = s.rd EVT.CTL.WMARK
  · rw [if_pos hreport]
    have hnum (i : Nat) (hi : i < 4) : (u.report 0x0202 0 (s.rd EVT.CTL.WMARK)).num (logKey (s.rd EVT.WRSEQ.val % 1024) i) =
        u.num (logKey (s.rd EVT.WRSEQ.val % 1024) i) := congrArg BitVec.toNat (u.report_word_log _ _ (hslot i hi))
    refine ⟨⟨?_, ?_, ?_, ?_, ?_⟩, fun h => ?_, fun j hj => ?_, fun h => u.report_overwritten _ _ _ (hhist.trans h)⟩
    · exact (State.rd_congr (u.report_word_log _ _ (logSpares_low (.inl rfl)))).trans hwritten.seq
    · exact (hnum 0 (by decide)).trans hwritten.word0
    · exact (hnum 1 (by decide)).trans hwritten.word1
    · exact (hnum 2 (by decide)).trans hwritten.word2
    · exact (hnum 3 (by decide)).trans hwritten.word3
    · exact absurd hreport (by omega)
    · exact (u.report_word_log _ _ (logSpares_low (by omega))).trans (hkeep j hj)
  · rw [if_neg hreport]
    exact ⟨hwritten, fun _ => ⟨hevt, hrep⟩, hkeep, fun h => hhist.trans h⟩

/-! ## Reports dropped at a full log (R505) -/

/-- The registers that record the drop of report `r`. -/
def State.dropMarked (s : State) (r : Report) : State :=
  let u := s.inc EVT.DROPPED.val
  (if u.flag EVT.HIST.DROPPED then u else (u.wr EVT.FIRSTDROP.SOURCE r.source).wr EVT.FIRSTDROP.CODE r.code).sqf EVT.HIST.DROPPED

theorem State.dropMarked_fields (s : State) (r : Report) : (s.dropMarked r).rd EVT.DROPPED.val = (s.rd EVT.DROPPED.val + 1) % 2 ^ 32 ∧
    (s.dropMarked r).flag EVT.HIST.DROPPED = true ∧ (s.dropMarked r).evt = s.evt := by
  unfold State.dropMarked
  extract_lets a
  have ha : a.rd EVT.DROPPED.val = (s.rd EVT.DROPPED.val + 1) % 2 ^ 32 ∧ a.evt = s.evt := ⟨s.rd_inc_same (by decide), State.inc_evt ..⟩
  clear_value a
  refine ⟨?_, State.flag_sqf_self _ (by decide), ?_⟩
  · rw [State.rd_congr (State.word_sqf_ne _ (by decide)), ← ha.1]
    split
    · rfl
    · exact State.rd_congr ((State.word_wr_ne _ _ (by decide)).trans (State.word_wr_ne _ _ (by decide)))
  · rw [State.sqf_evt, ← ha.2]
    split
    · rfl
    · rw [State.wr_evt, State.wr_evt]

theorem State.dropReport_eq (s : State) (r : Report) :
    s.dropReport r = (s.dropMarked r).withEvt { (s.dropMarked r).evt with gap := (s.dropMarked r).evt.gap + 1 } := rfl

theorem State.dropReport_fields (s : State) (r : Report) : (s.dropReport r).rd EVT.DROPPED.val = (s.rd EVT.DROPPED.val + 1) % 2 ^ 32 ∧
    (s.dropReport r).flag EVT.HIST.DROPPED = true ∧ (s.dropReport r).rd EVT.WRSEQ.val = s.rd EVT.WRSEQ.val ∧
    (s.dropReport r).evt = { s.evt with gap := s.evt.gap + 1 } ∧ Frame [.live, .evt] s (s.dropReport r) := by
  have hwrseq : (s.dropReport r).rd EVT.WRSEQ.val = s.rd EVT.WRSEQ.val :=
    State.rd_congr (s.dropReport_word r (by decide) (by decide) (by decide))
  have hframe := s.dropReport_frame r
  obtain ⟨hcount, hmark, hevt⟩ := s.dropMarked_fields r
  rw [State.dropReport_eq] at hframe hwrseq ⊢
  rw [hevt] at hframe hwrseq ⊢
  exact ⟨(State.rd_congr (State.word_withEvt ..)).trans hcount, (State.flag_congr (State.word_withEvt ..)).trans hmark, hwrseq, State.withEvt_evt .., hframe⟩

/-- The drops of several reports. -/
theorem State.dropReports_fields (rs : List Report) (s : State) : let t := rs.foldl State.dropReport s
    t.rd EVT.DROPPED.val = (s.rd EVT.DROPPED.val + rs.length) % 2 ^ 32 ∧ (rs ≠ [] → t.flag EVT.HIST.DROPPED = true) ∧
    t.rd EVT.WRSEQ.val = s.rd EVT.WRSEQ.val ∧ t.evt = { s.evt with gap := s.evt.gap + rs.length } ∧ Frame [.live, .evt] s t := by
  induction rs generalizing s with
  | nil =>
    have hlt : s.rd EVT.DROPPED.val < 2 ^ 32 := s.rd_lt _
    exact ⟨(Nat.mod_eq_of_lt hlt).symm, fun h => absurd rfl h, rfl, rfl, Frame.refl _ s⟩
  | cons r rs ih =>
    obtain ⟨hdropped, hmark, hwrseq, hevt, hframe⟩ := s.dropReport_fields r
    obtain ⟨hdropped', hmark', hwrseq', hevt', hframe'⟩ := ih (s.dropReport r)
    rw [List.foldl_cons]
    refine ⟨?_, fun _ => ?_, hwrseq'.trans hwrseq, ?_, hframe.trans hframe'⟩
    · rw [hdropped', hdropped, List.length_cons]
      omega
    · cases rs with
      | nil => exact hmark
      | cons _ _ => exact hmark' (List.cons_ne_nil _ _)
    · rw [hevt', hevt, List.length_cons]
      dsimp only
      rw [Nat.add_right_comm, Nat.add_assoc]

theorem State.dropWaiting_eq (s : State) : s.dropWaiting = s.evt.waiting.foldl State.dropReport (s.withEvt { s.evt with waiting := [] }) := rfl

/-! ## The log at work (R503 to R505) -/

section
variable {s : State} {r : Report} {rest : List Report} (hwaiting : s.evt.waiting = r :: rest) (hfree : s.evt.freeAt ≤ s.clk.now)
include hwaiting hfree

/-- The log writes LOG_GAP first where reports were dropped, and else the oldest waiting report. -/
theorem exec_logRecordWrite : exec .logRecordWrite s = .next (
    if s.logFull && !s.flag EVT.CTL.POLICY then s.dropWaiting
    else
      let u := if s.logFull then s.overwrite else s
      if u.evt.gap ≠ 0 ∧ !u.evt.afterGap then
        (u.withEvt { u.evt with gap := 0, afterGap := true }).record
          { code := 0x0201, source := 0, data := u.evt.gap % 2 ^ 32, tick := u.tick, ns := u.ns, rep := 0, at_ := u.clk.now }
      else (u.withEvt { u.evt with waiting := rest, afterGap := false }).record r) := by
  show execLogRecordWrite s = _
  unfold execLogRecordWrite
  rw [hwaiting]
  exact congrArg _ (if_neg (by omega))

end

theorem State.overwrite_fields (s : State) : s.overwrite.rd EVT.RDSEQ.val = (s.rd EVT.RDSEQ.val + 1) % 2 ^ 32 ∧
    s.overwrite.rd EVT.OVERWRITTEN.val = (s.rd EVT.OVERWRITTEN.val + 1) % 2 ^ 32 ∧ s.overwrite.flag EVT.HIST.OVERWRITTEN = true ∧
    s.overwrite.rd EVT.WRSEQ.val = s.rd EVT.WRSEQ.val := by
  unfold State.overwrite
  extract_lets u
  have hread : u.rd EVT.RDSEQ.val = (s.rd EVT.RDSEQ.val + 1) % 2 ^ 32 := State.rd_wr_same _ _ _ (by decide)
  have hword (j : Nat) (hj : j ≠ EVT.RDSEQ) : u.word j = s.word j := State.word_wr_ne _ _ hj
  have hcount : (u.inc EVT.OVERWRITTEN.val).rd EVT.OVERWRITTEN.val = (u.rd EVT.OVERWRITTEN.val + 1) % 2 ^ 32 := u.rd_inc_same (by decide)
  clear_value u
  refine ⟨?_, ?_, State.flag_sqf_self _ (by decide), ?_⟩
  · exact (State.rd_congr ((State.word_sqf_ne _ (by decide)).trans (State.word_inc_ne _ (by decide)))).trans hread
  · rw [State.rd_congr (State.word_sqf_ne _ (by decide)), hcount, State.rd_congr (hword _ (by decide))]
  · exact State.rd_congr ((State.word_sqf_ne _ (by decide)).trans ((State.word_inc_ne _ (by decide)).trans (hword _ (by decide))))

/-- What the record of a report leaves, the state of the log being set to `e` before it. -/
theorem State.record_withEvt (s : State) (e : Evt) (r : Report) : LogWritten (s.rd EVT.WRSEQ.val) r ((s.withEvt e).record r) ∧
    (s.rd EVT.CTL.WMARK = 0 ∨ (s.unread + 1) % 2 ^ 32 ≠ s.rd EVT.CTL.WMARK → ((s.withEvt e).record r).evt = { e with freeAt := s.clk.now + 8 } ∧
      ((s.withEvt e).record r).num (EVT.REP (s.rd EVT.WRSEQ.val % 1024)) = r.rep % 2 ^ 32) := by
  obtain ⟨hwritten, hquiet, -⟩ := (s.withEvt e).record_fields r
  have hrd (f : Fld) : (s.withEvt e).rd f = s.rd f := State.rd_congr (s.word_withEvt e _)
  rw [State.unread, hrd, hrd, hrd, s.withEvt_clk, s.withEvt_evt] at hquiet
  rw [hrd] at hwritten
  exact ⟨hwritten, hquiet⟩

/-- At a full log the new record stands where the oldest one was given up. -/
theorem State.record_overwrite (s : State) (e : Evt) (r : Report) : let t := (s.overwrite.withEvt e).record r
    t.rd EVT.RDSEQ.val = (s.rd EVT.RDSEQ.val + 1) % 2 ^ 32 ∧ t.rd EVT.OVERWRITTEN.val = (s.rd EVT.OVERWRITTEN.val + 1) % 2 ^ 32 ∧
    t.flag EVT.HIST.OVERWRITTEN = true ∧ t.rd EVT.WRSEQ.val = (s.rd EVT.WRSEQ.val + 1) % 2 ^ 32 := by
  intro t
  obtain ⟨hread, hcount, hmark, hseq⟩ := s.overwrite_fields
  obtain ⟨hwritten, -, hkeep, hhist⟩ := (s.overwrite.withEvt e).record_fields r
  have hword (k : Nat) := s.overwrite.word_withEvt e k
  refine ⟨?_, ?_, hhist ((State.flag_congr (hword _)).trans hmark), hwritten.seq.trans ?_⟩
  · exact (State.rd_congr ((hkeep _ (.inl rfl)).trans (hword _))).trans hread
  · exact (State.rd_congr ((hkeep _ (.inr rfl)).trans (hword _))).trans hcount
  · rw [State.rd_congr (f := EVT.WRSEQ.val) (hword _), hseq]

/-! ## Consumption (R504) -/

theorem regMasks_rdseq : ∃ f e, regAt EVT.RDSEQ = some (f, e) ∧ f.rw = 2 ^ 32 - 1 ∧ f.rws = 0 ∧ f.wo1 = 0 ∧ f.sq = 0 :=
  ⟨_, _, rfl, rfl, rfl, rfl, rfl⟩

theorem State.setModes_rdseq (s : State) (mask : Nat) : s.setModes EVT.RDSEQ mask = s :=
  s.setModes_unwatched mask (by decide) (by decide) (by decide) (by decide)

theorem State.regWrite_rdseq (s : State) (i addr : Nat) {v : Nat} (hv : v < 2 ^ 32) : s.regWrite i EVT.RDSEQ 0 addr (BitVec.ofNat 32 v) =
    if 1024 < (s.rd EVT.WRSEQ.val + 2 ^ 32 - v) % 2 ^ 32 then s.accErr i addr .refused
    else (if s.unread < (s.rd EVT.WRSEQ.val + 2 ^ 32 - v) % 2 ^ 32 then s else s.setWord EVT.RDSEQ (BitVec.ofNat 32 v)).interrupts := by
  obtain ⟨f, e, hreg, hrw, hrws, hwo1, hsq⟩ := regMasks_rdseq
  have hvalue : (BitVec.ofNat 32 v).toNat = v := by rw [BitVec.toNat_ofNat, Nat.mod_eq_of_lt hv]
  have hside : sideWrite 0 (s.word EVT.RDSEQ) (BitVec.ofNat 32 v) (2 ^ 32 - 1) = BitVec.ofNat 32 v := mergeBits_full _ _
  have hunit : s.unitRefuses EVT.RDSEQ (BitVec.ofNat 32 v) v true = decide (1024 < (s.rd EVT.WRSEQ.val + 2 ^ 32 - v) % 2 ^ 32) := by
    unfold State.unitRefuses
    rw [if_neg (by decide), if_neg (by decide), if_neg (by decide), if_pos rfl, hvalue]
  have hwrite : s.rwWrite EVT.RDSEQ (BitVec.ofNat 32 v) =
      if s.unread < (s.rd EVT.WRSEQ.val + 2 ^ 32 - v) % 2 ^ 32 then s else s.setWord EVT.RDSEQ (BitVec.ofNat 32 v) := by
    unfold State.rwWrite
    rw [if_pos rfl, hvalue]
    rfl
  have hact (u : State) (old : Word) : u.act i EVT.RDSEQ v old true = u.interrupts := rfl
  unfold State.regWrite
  rw [hreg]
  simp only [beq_self_eq_true, hrw, hrws, hwo1, hsq, hside, hvalue, hunit, hwrite, hact, State.setModes_rdseq, decide_eq_true_eq, Bool.false_eq_true,
    if_true, if_false, Bool.true_and, bne_self_eq_false, Bool.true_or]
  rw [if_neg (show ¬(2 ^ 32 - 1 = 0) by decide)]

theorem exec_logConsume {i : Iface} {s : State} {v : Nat} (hv : v < 2 ^ 32) (hreach : s.hostReaches i EVT.RDSEQ = true) :
    exec (.logConsume i v) s = .next (if 1024 < (s.rd EVT.WRSEQ.val + 2 ^ 32 - v) % 2 ^ 32 then
      s.accErr (ifaceNumber i) (hostKey 0 EVT.RDSEQ) .refused
    else (if s.unread < (s.rd EVT.WRSEQ.val + 2 ^ 32 - v) % 2 ^ 32 then s else s.setWord EVT.RDSEQ (BitVec.ofNat 32 v)).interrupts) :=
  congrArg _ (State.regCommand_reached ⟨by decide, by decide, by decide⟩ hreach (s.regWrite_rdseq _ _ hv))

/-- Settles O52: the log's record of a report and what LOG_WMARK adds to it; reports dropped one after the other; a write of RDSEQ in its branches. -/
theorem logRecordsAreWrittenAndConsumed : Obligations.LogRecordsAreWrittenAndConsumed := by
  unfold Obligations.LogRecordsAreWrittenAndConsumed
  intro i v r rest s q m unread written
  refine ⟨fun hwaiting hfree => ⟨fun hroom hnogap => ?record, fun hroom hgap hnew => ?gap, fun hfull hpolicy => ?drop, fun hfull hpolicy => ?overwrite⟩,
    fun hv hreach => ⟨fun hbeyond => ?beyond, fun hwithin => ?within⟩⟩
  case record =>
    have hexec := exec_logRecordWrite hwaiting hfree
    rw [hroom, if_neg (by simp)] at hexec
    dsimp only at hexec
    rw [if_neg Bool.false_ne_true, if_neg (by rcases hnogap with h | h <;> simp [h])] at hexec
    obtain ⟨⟨hseq, h0, h1, h2, h3⟩, hquiet⟩ := s.record_withEvt { s.evt with waiting := rest, afterGap := false } r
    exact ⟨_, hexec, ⟨hseq, h0, h1, h2, h3⟩, hquiet, (execLogRecordWrite_frame s _ hexec).weaken rfl⟩
  case gap =>
    have hexec := exec_logRecordWrite hwaiting hfree
    rw [hroom, if_neg (by simp)] at hexec
    dsimp only at hexec
    rw [if_neg Bool.false_ne_true, if_pos ⟨hgap, by simp [hnew]⟩] at hexec
    obtain ⟨⟨hseq, h0, h1, h2, h3⟩, hquiet⟩ := s.record_withEvt { s.evt with gap := 0, afterGap := true }
      { code := 0x0201, source := 0, data := s.evt.gap % 2 ^ 32, tick := s.tick, ns := s.ns, rep := 0, at_ := s.clk.now }
    rw [Nat.zero_mul, Nat.add_zero] at h0
    exact ⟨_, hexec, ⟨hseq, h0, h1, h2, h3⟩, fun h => (hquiet h).1, (execLogRecordWrite_frame s _ hexec).weaken rfl⟩
  case drop =>
    have hexec := exec_logRecordWrite hwaiting hfree
    rw [if_pos (by simp [hfull, hpolicy]), s.dropWaiting_eq] at hexec
    obtain ⟨hdropped, hmark, hwrseq, hevt, hframe⟩ := State.dropReports_fields s.evt.waiting (s.withEvt { s.evt with waiting := [] })
    have hrd (f : Fld) : (s.withEvt { s.evt with waiting := [] }).rd f = s.rd f := State.rd_congr (s.word_withEvt _ _)
    rw [hrd] at hdropped hwrseq
    rw [State.withEvt_evt] at hevt
    refine ⟨_, hexec, by rw [hevt], hdropped, hmark (by simp [hwaiting]), hwrseq, by rw [hevt], ?_⟩
    exact (Frame.set_evt (Frame.refl _ s) rfl).trans hframe
  case overwrite =>
    have hexec := exec_logRecordWrite hwaiting hfree
    rw [if_neg (by simp [hpolicy]), hfull] at hexec
    dsimp only at hexec
    rw [if_pos rfl] at hexec
    have hframe := (execLogRecordWrite_frame s _ hexec).weaken (ps := [.live, .evt, .out]) rfl
    refine ⟨_, hexec, ?_⟩
    by_cases hgap : s.overwrite.evt.gap ≠ 0 ∧ (!s.overwrite.evt.afterGap) = true
    · rw [if_pos hgap] at hframe ⊢
      obtain ⟨hread, hcount, hmark, hseq⟩ := s.record_overwrite { s.overwrite.evt with gap := 0, afterGap := true }
        { code := 0x0201, source := 0, data := s.overwrite.evt.gap % 2 ^ 32, tick := s.overwrite.tick, ns := s.overwrite.ns, rep := 0,
          at_ := s.overwrite.clk.now }
      exact ⟨hread, hcount, hmark, hseq, hframe⟩
    · rw [if_neg hgap] at hframe ⊢
      obtain ⟨hread, hcount, hmark, hseq⟩ := s.record_overwrite { s.overwrite.evt with waiting := rest, afterGap := false } r
      exact ⟨hread, hcount, hmark, hseq, hframe⟩
  case beyond =>
    have hexec := exec_logConsume hv hreach
    rw [if_pos hbeyond] at hexec
    obtain ⟨-, -, -, hreported, hquiet, hframe⟩ := s.accErr_recorded (ifaceNumber i) (hostKey 0 EVT.RDSEQ) .refused
    refine ⟨_, hexec, ?_, hreported, hframe⟩
    rw [State.accErr_eq, State.rd_congr (State.report_word_log _ _ _ logSpares_rdseq), State.rd_congr (State.word_sqf_ne _ (by decide)),
      State.rd_congr (State.latchAccErr_word _ _ _ _ (by decide) (by decide)), State.rd_congr (State.word_inc_ne _ (by decide))]
  case within =>
    have hexec := exec_logConsume hv hreach
    rw [if_neg (show ¬ 1024 < (s.rd EVT.WRSEQ.val + 2 ^ 32 - v) % 2 ^ 32 from Nat.not_lt.mpr hwithin)] at hexec
    refine ⟨_, hexec, ?_, fun k hk hmsix => ?_, ?_⟩
    · rw [State.rd_congr (State.interrupts_word _ (by decide))]
      refine (apply_ite (State.rd · EVT.RDSEQ.val) _ _ _).trans ?_
      congr 1
      have hvalue : (s.setWord EVT.RDSEQ (BitVec.ofNat 32 v)).word EVT.RDSEQ.val.key = BitVec.ofNat 32 v := s.word_setWord_same EVT.RDSEQ _
      rw [State.rd, hvalue, Fld.ext, BitVec.toNat_ofNat, Nat.mod_eq_of_lt hv]
      exact (congrArg (· % 2 ^ 32) (Nat.div_one v)).trans (Nat.mod_eq_of_lt hv)
    · rw [State.interrupts_word _ hmsix]
      split
      · rfl
      · exact s.word_setWord_ne _ hk
    · refine Frame.seq ?_ (State.interrupts_frame _) rfl
      exact Frame.ite (fun _ => Frame.refl _ s) fun _ => (s.setWord_frame _ _).weaken rfl

end Sys2Proof.Machine
end

section
/-!
PROOFS. The monitor: rails, temperature, hold-up and wear (R513, R582 to R584, R593).
-/

namespace Sys2Proof.Machine

/-- Where the registers of the monitor stand. -/
theorem MON.regFields : MON.TEMP.TMAX = ⟨0x150040, 16, 16⟩ ∧ MON.TEMP.TJ = ⟨0x150040, 0, 16⟩ ∧ MON.TWARN.WARN = ⟨0x150044, 0, 16⟩ ∧
    MON.WEAR.DEGR = ⟨0x150048, 0, 16⟩ ∧ MON.HIST.WEAR = ⟨0x15004C, 3, 1⟩ ∧ MON.HIST.TWARN = ⟨0x15004C, 2, 1⟩ ∧ MON.HIST.HOLDUP = ⟨0x15004C, 1, 1⟩ ∧
    MON.HIST.SUPPLY_LOW = ⟨0x15004C, 0, 1⟩ ∧ MON.HIST = 0x15004C ∧ MON.TEMP = 0x150040 ∧ MON.WEAR = 0x150048 := by
  and_intros <;> rfl

theorem MON.railFields (k : Nat) : MON.RAIL.LOW k = ⟨0x150000 + k * 0x4, 31, 1⟩ ∧ MON.RAIL.MV k = ⟨0x150000 + k * 0x4, 0, 16⟩ ∧
    MON.RAIL k = 0x150000 + k * 0x4 := ⟨rfl, rfl, rfl⟩

/-! ## An event marked in a history register and reported -/

/-- The bit `f` of a history register is set and the event reported; `ks` are the words that may have changed, beside those of a report. -/
theorem State.marked_fields (s : State) {f : Fld} {code : Nat} (source data : Nat)
    (h : f.lo < 24 ∧ 0 < f.width ∧ f.width < 2 ∧ 0x23000 ≤ f.key ∧ f.key < 2 ^ 31 ∧ code < 0x1800) :
    let t := (s.sqf f).report code source data
    t.flag f = true ∧ Reported code s t ∧ (∀ j, j ≠ f.key → reportKey j = false → t.word j = s.word j) ∧ Frame [.live, .evt, .out] s t := by
  obtain ⟨hlo, hpos, hone, habove, hbelow, hcode⟩ := h
  intro t
  refine ⟨?_, Reported.report_of_kept _ _ hcode fun j hlow hhigh => State.word_sqf_ne _ (by omega), fun j hj hr => ?_, ?_⟩
  · rw [State.flag_report_clear _ _ _ ⟨⟨.inr habove, by omega⟩, hcode⟩]
    exact State.flag_sqf_self _ ⟨hlo, hpos, hone⟩
  · exact (State.report_word _ _ _ _ hr hcode).trans (State.word_sqf_ne _ hj)
  · exact ((State.sqf_frame ..).weaken rfl).seq (State.report_frame ..) rfl

/-! ## FATAL (R513) -/

theorem State.holdReset_kept (s : State) : s.holdReset.boot = { Boot.reset with hot := s.boot.hot } ∧ s.holdReset.flash = s.flash ∧ s.holdReset.ret = s.ret ∧
    (∀ j, j ≠ EVT.LASTFATAL → s.holdReset.word j = State.reset.word j) :=
  ⟨rfl, rfl, rfl, fun _ hj => State.word_setWord_ne _ _ hj⟩

theorem State.fatal_fields (s : State) {cause unit : Nat} (h : 2 ^ 31 + unit * 2 ^ 8 + cause < 2 ^ 32) :
    (s.fatal cause unit).boot = { Boot.reset with hot := s.boot.hot } ∧ (s.fatal cause unit).num EVT.LASTFATAL = 2 ^ 31 + unit * 2 ^ 8 + cause ∧
    (∀ j, j ≠ EVT.LASTFATAL → (s.fatal cause unit).word j = State.reset.word j) ∧ (s.fatal cause unit).flash = s.flash ∧
    (s.fatal cause unit).ret = s.ret := by
  obtain ⟨hboot, hflash, hret, hword⟩ := s.holdReset_kept
  have hframe : Frame [.live] s.holdReset (s.fatal cause unit) := State.setNum_frame ..
  refine ⟨(hframe.same .boot rfl).trans hboot, ?_, fun j hj => (State.word_setNum_ne _ _ hj).trans (hword j hj), (hframe.same .flash rfl).trans hflash,
    (hframe.same .ret rfl).trans hret⟩
  rw [State.fatal, State.num_setNum_same, Nat.mod_eq_of_lt h]

/-! ## Rails (R582, R583) -/

/-- The rail's measurement is past its trip. -/
def State.railTrips (s : State) (k mv : Nat) : Prop :=
  mv * 100 + 3 * (s.railRange k).2.1 < (s.railRange k).1 * 100 ∨ (s.railRange k).2.2 * 100 + 3 * (s.railRange k).2.1 < mv * 100

/-- The rail's measurement is below its margin. -/
def State.railLow (s : State) (k mv : Nat) : Bool := decide (mv * 100 < (s.railRange k).1 * 100 + 2 * (s.railRange k).2.1)

/-- The rail's registers show the measurement. -/
def State.railShown (s : State) (k mv : Nat) : State := (s.wr (MON.RAIL.MV k) mv).wrFlag (MON.RAIL.LOW k) (s.railLow k mv)

theorem exec_monRailMeasure_trip {s : State} {k mv : Nat} (hk : k < 9) (hheld : s.boot.held = false) (htrip : s.railTrips k mv) :
    exec (.monRailMeasure k mv true) s = .next (s.fatal 6 0x15) :=
  congrArg _ ((if_pos ⟨hk, hheld⟩).trans (if_pos ⟨rfl, htrip⟩))

theorem exec_monRailMeasure {s : State} {k : Nat} (mv : Nat) {long : Bool} (hk : k < 9) (hheld : s.boot.held = false)
    (hfine : long = false ∨ ¬ s.railTrips k mv) : exec (.monRailMeasure k mv long) s =
      .next (if s.railLow k mv && !s.flag (MON.RAIL.LOW k) then ((s.railShown k mv).sqf MON.HIST.SUPPLY_LOW).report 0x1501 k mv else s.railShown k mv) := by
  have hno : ¬(long = true ∧ s.railTrips k mv) := by
    rintro ⟨hlong, htrip⟩
    rcases hfine with h | h
    · exact Bool.false_ne_true (h.symm.trans hlong)
    · exact h htrip
  exact congrArg _ ((if_pos ⟨hk, hheld⟩).trans (if_neg hno))

theorem State.railShown_fields (s : State) (k mv : Nat) : (s.railShown k mv).rd (MON.RAIL.MV k) = mv % 2 ^ 16 ∧
    (s.railShown k mv).flag (MON.RAIL.LOW k) = s.railLow k mv ∧ (∀ j, j ≠ MON.RAIL k → (s.railShown k mv).word j = s.word j) ∧
    Frame [.live] s (s.railShown k mv) := by
  refine ⟨?_, State.flag_wrFlag_self _ _ ⟨by simp [MON.railFields], by simp [MON.railFields], by simp [MON.railFields]⟩,
    fun j hj => (State.word_wrFlag_ne _ _ hj).trans (State.word_wr_ne _ _ hj), (s.wr_frame _ _).trans (State.wrFlag_frame ..)⟩
  rw [State.railShown, State.rd_wrFlag_clear _ _ (by simp only [Fld.clear, MON.railFields]; omega), State.rd_wr_same _ _ _ (by simp [MON.railFields])]
  rfl

/-! ## Temperature (R583) -/

/-- The registers show the temperature and its maximum. -/
def State.tempShown (s : State) (tj : Int) : State :=
  let u := s.wrS MON.TEMP.TJ tj
  if u.rdS MON.TEMP.TMAX < tj then u.wrS MON.TEMP.TMAX tj else u

theorem State.tempShown_fields (s : State) {tj : Int} (hhi : tj ≤ 1150) (hlo : -32768 ≤ tj) : (s.tempShown tj).rdS MON.TEMP.TJ = tj ∧
    (s.tempShown tj).rdS MON.TEMP.TMAX = max (s.rdS MON.TEMP.TMAX) tj ∧ (∀ j, j ≠ MON.TEMP → (s.tempShown tj).word j = s.word j) ∧
    Frame [.live] s (s.tempShown tj) := by
  have hfits : simmOk 16 tj = true := by
    simp only [simmOk, Bool.and_eq_true, decide_eq_true_eq]
    omega
  unfold State.tempShown
  extract_lets u
  have htj : u.rdS MON.TEMP.TJ = tj := s.rdS_wrS_self (by decide) hfits
  have hmax : u.rdS MON.TEMP.TMAX = s.rdS MON.TEMP.TMAX := State.rdS_of_rd (s.rd_wrS_clear _ (by simp only [Fld.clear, MON.regFields]; omega))
  have hword (j : Nat) (hj : j ≠ MON.TEMP) : u.word j = s.word j := State.word_wr_ne _ _ hj
  have hframe : Frame [.live] s u := s.wrS_frame _ _
  clear_value u
  split
  · next h =>
    refine ⟨?_, ?_, fun j hj => (State.word_wr_ne _ _ hj).trans (hword j hj), hframe.trans (u.wrS_frame _ _)⟩
    · rw [State.rdS_of_rd (u.rd_wrS_clear _ (by simp only [Fld.clear, MON.regFields]; omega)), htj]
    · rw [u.rdS_wrS_self (by decide) hfits, max_eq_right (by omega)]
  · next h =>
    exact ⟨htj, by rw [hmax, max_eq_left (by omega)], hword, hframe⟩

theorem exec_monTempMeasure_trip {s : State} {tj : Int} (hheld : s.boot.held = false) (htrip : 1150 < tj) (hcold : s.boot.hot = false) :
    exec (.monTempMeasure tj) s = .next ({ s with boot := { s.boot with hot := true } }.fatal 6 0x15) :=
  congrArg _ ((if_neg (by simp [hheld])).trans (if_pos ⟨htrip, by simp [hcold]⟩))

/-- A measurement that comes up to the warning is marked and reported. -/
def State.tempJudged (s : State) (tj : Int) : State :=
  if s.rdS MON.TEMP.TJ < s.rdS MON.TWARN.WARN ∧ s.rdS MON.TWARN.WARN ≤ tj then ((s.tempShown tj).sqf MON.HIST.TWARN).report 0x1502 0 (wrap32 tj)
  else s.tempShown tj

/-- After a thermal trip, ROM goes on once the junction is cool. -/
def State.tempResumed (s : State) (tj : Int) : State := if s.boot.hot && decide (tj < 1000) && s.stage == 1 && !s.openingLeft then s.romInit else s

theorem State.tempResumed_cold {s : State} (tj : Int) (h : s.boot.hot = false) : s.tempResumed tj = s := if_neg (by simp [h])

theorem exec_monTempMeasure {s : State} {tj : Int} (hheld : s.boot.held = false) (hfine : tj ≤ 1150) (hlo : -32768 ≤ tj) (hcold : s.boot.hot = false) :
    exec (.monTempMeasure tj) s = .next (s.tempJudged tj) := by
  have hshown := (s.tempShown_fields hfine hlo).2.2.2
  have hframe : Frame [.live, .evt, .out] s (s.tempJudged tj) := Frame.ite
    (fun _ => ((hshown.weaken rfl).seq (State.sqf_frame ..) rfl).seq (State.report_frame ..) rfl) fun _ => hshown.weaken rfl
  have hhot : (s.tempJudged tj).boot.hot = false := (congrArg Boot.hot (hframe.same .boot rfl)).trans hcold
  have hexec : exec (.monTempMeasure tj) s = .next ((s.tempJudged tj).tempResumed tj) :=
    congrArg _ ((if_neg (by simp [hheld])).trans (if_neg fun h => absurd h.1 (by omega)))
  rw [hexec, State.tempResumed_cold tj hhot]

/-! ## Hold-up and wear (R584, R593) -/

/-- The state with the monitor's record `m`. -/
def State.withMon (s : State) (m : Mon) : State := { s with mon := m }

theorem State.withMon_frame (s : State) (m : Mon) : Frame [.mon] s (s.withMon m) := Frame.set_mon (Frame.refl _ s) rfl
theorem State.withMon_mon (s : State) (m : Mon) : (s.withMon m).mon = m := rfl
theorem State.word_withMon (s : State) (m : Mon) (k : Nat) : (s.withMon m).word k = s.word k := rfl

theorem exec_monHoldup {s : State} (hheld : s.boot.held = false) (hup : s.mon.holdup = true) : ∃ d, exec .monHoldup s =
    .next (((s.withMon { s.mon with holdup := false }).sqf MON.HIST.HOLDUP).report 0x1504 0 d) :=
  ⟨_, congrArg _ ((if_pos hup).trans (if_neg (by simp [hheld])))⟩

theorem exec_monWear {s : State} (d : Nat) (hheld : s.boot.held = false) : exec (.monWear d) s =
    .next (if 3000 ≤ d % 2 ^ 16 ∧ !(s.wr MON.WEAR.DEGR d).mon.wear then
      (((s.wr MON.WEAR.DEGR d).withMon { (s.wr MON.WEAR.DEGR d).mon with wear := true }).sqf MON.HIST.WEAR).report 0x1503 0 (d % 2 ^ 16)
    else s.wr MON.WEAR.DEGR d) :=
  congrArg _ (if_neg (by simp [hheld]))

/-- Settles O60: the registers show a measurement, and what comes up to a limit is marked and reported; a trip is FATAL. -/
theorem monitorMeasuresWarnsAndTrips : Obligations.MonitorMeasuresWarnsAndTrips := by
  unfold Obligations.MonitorMeasuresWarnsAndTrips
  intro k mv d long tj s r trip low was warn crosses quiet tripped hheld
  have hquiet {t : State} {key hist : Nat} (h : ∀ j, j ≠ key → j ≠ hist → reportKey j = false → t.word j = s.word j) : quiet t [key, hist] :=
    fun j hj hr => by
      simp only [List.mem_cons, List.not_mem_nil, or_false, not_or] at hj
      exact h j hj.1 hj.2 hr
  refine ⟨fun hk hlong htrip => ?railTrip, fun hk hfine => ?rail, fun htrip hcold => ?tempTrip, fun hfine hlo hcold => ?temp, fun hup => ?holdup, ?wear⟩
  case railTrip =>
    subst hlong
    obtain ⟨hboot, hfatal, hword, hflash, hret⟩ := s.fatal_fields (cause := 6) (unit := 0x15) (by decide)
    exact ⟨_, exec_monRailMeasure_trip hk hheld htrip, by rw [hboot]; rfl, hfatal, hword, hflash, hret⟩
  case rail =>
    have hexec := exec_monRailMeasure mv hk hheld hfine
    obtain ⟨hmv, hlow, hword, hframe⟩ := s.railShown_fields k mv
    refine ⟨_, hexec, ?_⟩
    by_cases hfalls : (s.railLow k mv && !s.flag (MON.RAIL.LOW k)) = true
    · rw [if_pos hfalls]
      obtain ⟨hmark, hreported, hothers, hmarked⟩ := (s.railShown k mv).marked_fields (f := MON.HIST.SUPPLY_LOW) (code := 0x1501) k mv (by decide)
      have hrail : MON.RAIL k ≠ MON.HIST.SUPPLY_LOW.key ∧ reportKey (MON.RAIL k) = false := by
        refine ⟨by simp only [MON.railFields, MON.regFields]; omega, reportSpares.not_reportKey ?_⟩
        unfold reportSpares MON.RAIL
        omega
      refine ⟨?_, ?_, (hframe.weaken rfl).trans hmarked, fun _ => ⟨hmark, ?_, hquiet fun j hj hh hr => (hothers j hh hr).trans (hword j hj)⟩,
        fun h => absurd hfalls (ne_true_of_eq_false h)⟩
      · exact (State.rd_congr (hothers _ hrail.1 hrail.2)).trans hmv
      · exact (State.flag_congr (hothers _ hrail.1 hrail.2)).trans hlow
      · refine hreported.after (hword _ ?_) (hword _ ?_)
        · unfold EVT.BLKCNT MON.RAIL; omega
        · unfold EVT.IPEND MON.RAIL; omega
    · rw [if_neg hfalls]
      exact ⟨hmv, hlow, hframe.weaken rfl, fun h => absurd h hfalls, fun _ => ⟨hword, hframe⟩⟩
  case tempTrip =>
    obtain ⟨hboot, hfatal, hword, hflash, hret⟩ := ({ s with boot := { s.boot with hot := true } } : State).fatal_fields (cause := 6) (unit := 0x15)
      (by decide)
    exact ⟨_, exec_monTempMeasure_trip hheld htrip hcold, ⟨by rw [hboot]; rfl, hfatal, hword, hflash, hret⟩, by rw [hboot]⟩
  case temp =>
    have hexec := exec_monTempMeasure hheld hfine hlo hcold
    obtain ⟨htj, hmax, hword, hframe⟩ := s.tempShown_fields hfine hlo
    refine ⟨_, hexec, ?_⟩
    by_cases hcrosses : s.rdS MON.TEMP.TJ < s.rdS MON.TWARN.WARN ∧ s.rdS MON.TWARN.WARN ≤ tj
    · rw [State.tempJudged, if_pos hcrosses]
      obtain ⟨hmark, hreported, hothers, hmarked⟩ := (s.tempShown tj).marked_fields (f := MON.HIST.TWARN) (code := 0x1502) 0 (wrap32 tj) (by decide)
      have htemp := hothers MON.TEMP (by decide) (by decide)
      exact ⟨(State.rdS_of_rd (State.rd_congr htemp)).trans htj, (State.rdS_of_rd (State.rd_congr htemp)).trans hmax, (hframe.weaken rfl).trans hmarked,
        fun _ => ⟨hmark, hreported.after (hword _ (by decide)) (hword _ (by decide)), hquiet fun j hj hh hr => (hothers j hh hr).trans (hword j hj)⟩,
        fun h => absurd hcrosses h⟩
    · rw [State.tempJudged, if_neg hcrosses]
      exact ⟨htj, hmax, hframe.weaken rfl, fun h => absurd h hcrosses, fun _ => ⟨hword, hframe⟩⟩
  case holdup =>
    obtain ⟨data, hexec⟩ := exec_monHoldup hheld hup
    have hframe := s.withMon_frame { s.mon with holdup := false }
    have hword := s.word_withMon { s.mon with holdup := false }
    obtain ⟨hmark, hreported, hothers, hmarked⟩ := (s.withMon { s.mon with holdup := false }).marked_fields (f := MON.HIST.HOLDUP) (code := 0x1504) 0 data
      (by decide)
    exact ⟨_, hexec, (hmarked.same .mon rfl).trans (s.withMon_mon _), hmark, hreported.after (hword _) (hword _),
      fun j hj hr => (hothers j (fun e => hj (List.mem_singleton.mpr e)) hr).trans (hword j), (hframe.weaken rfl).seq hmarked rfl⟩
  case wear =>
    have hexec := exec_monWear d hheld
    have hshown : (s.wr MON.WEAR.DEGR d).rd MON.WEAR.DEGR = d % 2 ^ 16 := State.rd_wr_same _ _ _ (by decide)
    have hword (j : Nat) (hj : j ≠ MON.WEAR) : (s.wr MON.WEAR.DEGR d).word j = s.word j := State.word_wr_ne _ _ hj
    have hframe : Frame [.live] s (s.wr MON.WEAR.DEGR d) := s.wr_frame _ _
    rw [State.wr_mon] at hexec
    refine ⟨_, hexec, ?_⟩
    generalize s.wr MON.WEAR.DEGR d = u at *
    by_cases hfirst : 3000 ≤ d % 2 ^ 16 ∧ (!s.mon.wear) = true
    · rw [if_pos hfirst]
      have hwear : s.mon.wear = false := by simpa using hfirst.2
      obtain ⟨hmark, hreported, hothers, hmarked⟩ := (u.withMon { s.mon with wear := true }).marked_fields (f := MON.HIST.WEAR) (code := 0x1503) 0
        (d % 2 ^ 16) (by decide)
      have hmon := u.word_withMon { s.mon with wear := true }
      refine ⟨(State.rd_congr ((hothers _ (by decide) (by decide)).trans (hmon _))).trans hshown, fun _ _ => ⟨(hmarked.same .mon rfl).trans
        (u.withMon_mon _), hmark, hreported.after ((hmon _).trans (hword _ (by decide))) ((hmon _).trans (hword _ (by decide))),
        hquiet fun j hj hh hr => ((hothers j hh hr).trans (hmon j)).trans (hword j hj),
        ((hframe.weaken rfl).seq (u.withMon_frame _) rfl).seq hmarked rfl⟩, fun h => ?_⟩
      rcases h with h | h
      · exact absurd h (by omega)
      · exact absurd (hwear.symm.trans h) (by decide)
    · rw [if_neg hfirst]
      exact ⟨hshown, fun h hw => absurd ⟨h, by simp [hw]⟩ hfirst, fun _ => ⟨hword, hframe⟩⟩

end Sys2Proof.Machine
end

section
/-!
PROOFS. Debug opening and attestation (R520, R544 to R546).
-/

namespace Sys2Proof.Machine

theorem regMasks_dbgctl : RegMasks SEC.DBGCTL 0 0 := ⟨_, _, rfl, rfl, rfl, rfl, rfl⟩

theorem regMasks_attctl : RegMasks SEC.ATTCTL 0 0 := ⟨_, _, rfl, rfl, rfl, rfl, rfl⟩

/-- The state with the security block's record `x`. -/
def State.withSec (s : State) (x : Sec) : State := { s with sec := x }

theorem State.withSec_sec (s : State) (x : Sec) : (s.withSec x).sec = x := rfl
theorem State.word_withSec (s : State) (x : Sec) (k : Nat) : (s.withSec x).word k = s.word k := rfl
theorem State.withSec_frame (s : State) (x : Sec) : Frame [.sec] s (s.withSec x) := Frame.set_sec (Frame.refl _ s) rfl

/-! ## Strings in consecutive words -/

/-- A string's words, where the keys are distinct. -/
theorem State.putBytes_words (s : State) {key : Nat → Nat} (bs : List Byte) (hkey : ∀ i j, key i = key j → i = j) (n : Nat) :
    (∀ i, i < n → (s.putBytes key bs n).word (key i) = BitVec.ofNat 32 (leWord bs (4 * i))) ∧
    (∀ k, (∀ i, i < n → k ≠ key i) → (s.putBytes key bs n).word k = s.word k) := by
  induction n with
  | zero => exact ⟨fun i hi => absurd hi (Nat.not_lt_zero i), fun _ _ => rfl⟩
  | succ n ih =>
    have heq : s.putBytes key bs (n + 1) = (s.putBytes key bs n).setNum (key n) (leWord bs (4 * n)) := rfl
    rw [heq]
    refine ⟨fun i hi => ?_, fun k hk => ?_⟩
    · by_cases hn : i = n
      · rw [hn]
        exact State.word_setWord_same ..
      · rw [State.word_setNum_ne _ _ fun e => hn (hkey _ _ e)]
        exact ih.1 i (by omega)
    · rw [State.word_setNum_ne _ _ (hk n (by omega))]
      exact ih.2 k fun i hi => hk i (by omega)

/-! ## REQ (R544) -/

/-- A refused opening is marked and reported. -/
theorem State.openFail_fields (s : State) (i reason : Nat) : (s.openFail i reason).flag SEC.HIST.DBGFAIL = true ∧ Reported 0x0302 s (s.openFail i reason) ∧
    (∀ k, k ≠ SEC.HIST → reportKey k = false → (s.openFail i reason).word k = s.word k) ∧ Frame [.live, .evt, .out] s (s.openFail i reason) :=
  s.marked_fields (f := SEC.HIST.DBGFAIL) (code := 0x0302) i reason (by decide)

/-- No write of DBGCTL or ATTCTL is refused by its unit. -/
theorem State.sec_unitRefuses (s : State) (w : Word) (v : Nat) (direct : Bool) :
    s.unitRefuses SEC.DBGCTL w v direct = false ∧ s.unitRefuses SEC.ATTCTL w v direct = false := by
  unfold State.unitRefuses
  exact ⟨rfl, rfl⟩

theorem State.act_dbgctl (s : State) (i v : Nat) (old : Word) : s.act i SEC.DBGCTL v old true = s.dbgWrite i v := by
  unfold State.act
  exact (if_pos rfl).trans (if_pos rfl)

theorem State.act_attctl {s : State} {v : Nat} (hgo : bit v 0 = true) (i : Nat) (old : Word) : s.act i SEC.ATTCTL v old true = s.attestGo := by
  unfold State.act
  exact (if_neg (by decide)).trans (if_pos ⟨rfl, hgo⟩)

theorem State.dbgWrite_request (s : State) (i : Nat) : s.dbgWrite i 1 = s.dbgRequest i := by
  unfold State.dbgWrite
  exact if_neg (by decide)

theorem State.dbgWrite_submit {s : State} {v : Nat} (i : Nat) (hreq : bit v 0 = false) (hsubmit : bit v 1 = true) : s.dbgWrite i v = s.dbgSubmit i := by
  unfold State.dbgWrite
  dsimp only
  rw [if_pos hsubmit, if_neg (by simp [hreq])]

theorem exec_dbgRequest {i : Iface} {s : State} (h : s.hostReaches i SEC.DBGCTL = true) : exec (.dbgRequest i) s = .next (s.dbgRequest (ifaceNumber i)) := by
  refine congrArg _ (State.regCommand_reached ⟨by decide, by decide, by decide⟩ h ?_)
  rw [State.regWrite_command _ _ regMasks_dbgctl (State.sec_unitRefuses ..).1, State.act_dbgctl]
  exact s.dbgWrite_request _

theorem exec_dbgSubmit {i : Iface} {s : State} (h : s.hostReaches i SEC.DBGCTL = true) : exec (.dbgSubmit i) s = .next (s.dbgSubmit (ifaceNumber i)) := by
  refine congrArg _ (State.regCommand_reached ⟨by decide, by decide, by decide⟩ h ?_)
  rw [State.regWrite_command _ _ regMasks_dbgctl (State.sec_unitRefuses ..).1, State.act_dbgctl]
  exact State.dbgWrite_submit _ (by decide) (by decide)

theorem exec_attestGo {i : Iface} {s : State} (h : s.hostReaches i SEC.ATTCTL = true) : exec (.attestGo i) s = .next s.attestGo := by
  refine congrArg _ (State.regCommand_reached ⟨by decide, by decide, by decide⟩ h ?_)
  rw [State.regWrite_command _ _ regMasks_attctl (State.sec_unitRefuses ..).2]
  exact State.act_attctl (by decide) _ _

theorem State.dbgRequest_refused {s : State} (i : Nat) (h : s.openable = false ∨ s.flag SEC.DBGLOCK.LOCK = true) :
    ∃ reason, s.dbgRequest i = s.openFail i reason := by
  unfold State.dbgRequest
  by_cases hopen : s.openable = true
  · have hlock : s.flag SEC.DBGLOCK.LOCK = true := h.resolve_left (by simp [hopen])
    rw [if_neg (by simp [hopen]), if_pos hlock]
    exact ⟨1, rfl⟩
  · rw [if_pos (by simpa using hopen)]
    exact ⟨0, rfl⟩

/-- The nonce that a request brings. -/
def State.challenged (s : State) : State :=
  let u := s.putBytes SEC.CHAL (Config.nonce s.sec.draws) 8
  (u.withSec { u.sec with draws := u.sec.draws + 1, nonceAt := some u.clk.now }).wr SEC.DBGCTL.STATE 1

theorem State.dbgRequest_open {s : State} (i : Nat) (hopen : s.openable = true) (hlock : s.flag SEC.DBGLOCK.LOCK = false) :
    s.dbgRequest i = s.challenged :=
  (if_neg (by simp [hopen])).trans (if_neg (by simp [hlock]))

theorem State.challenged_fields (s : State) : s.challenged.rd SEC.DBGCTL.STATE = 1 ∧
    s.challenged.sec = { s.sec with draws := s.sec.draws + 1, nonceAt := some s.clk.now } ∧
    (∀ k, k ≠ SEC.DBGCTL → (∀ j, j < 8 → k ≠ SEC.CHAL j) → s.challenged.word k = s.word k) ∧ Frame [.live, .sec] s s.challenged := by
  obtain ⟨-, hword⟩ := s.putBytes_words (key := SEC.CHAL) (Config.nonce s.sec.draws) (fun i j h => by unfold SEC.CHAL at h; omega) 8
  have hframe := s.putBytes_frame SEC.CHAL (Config.nonce s.sec.draws) 8
  have hsec := hframe.same .sec rfl
  have hclk := hframe.same .clk rfl
  unfold State.challenged
  dsimp only
  generalize s.putBytes SEC.CHAL (Config.nonce s.sec.draws) 8 = u at *
  refine ⟨State.rd_wr_self _ (by decide), ?_, fun k hk hc => ?_, ((hframe.weaken rfl).seq (u.withSec_frame _) rfl).seq (State.wr_frame ..) rfl⟩
  · rw [State.wr_sec, State.withSec_sec, hsec, hclk]
  · rw [State.word_wr_ne _ _ hk, State.word_withSec]
    exact hword k hc

/-! ## SUBMIT (R545, R546) -/

theorem State.dbgSubmit_refused {s : State} (i : Nat) {r : Nat} (h : s.submitRefusal = some r) :
    s.dbgSubmit i = ((s.withSec { s.sec with nonceAt := none }).wr SEC.DBGCTL.STATE 0).openFail i r := by
  unfold State.dbgSubmit
  rw [h]
  rfl

/-- The nonce is gone, and the opening that it was for is refused. -/
theorem State.nonceSpent_fields (s : State) (i r : Nat) : let t := ((s.withSec { s.sec with nonceAt := none }).wr SEC.DBGCTL.STATE 0).openFail i r
    (t.flag SEC.HIST.DBGFAIL = true ∧ Reported 0x0302 s t ∧ (∀ k, k ≠ SEC.HIST → k ≠ SEC.DBGCTL → reportKey k = false → t.word k = s.word k) ∧
      t.fuse = s.fuse) ∧ t.rd SEC.DBGCTL.STATE = 0 ∧ t.sec = { s.sec with nonceAt := none } ∧ Frame [.live, .evt, .sec, .out] s t := by
  have hword (k : Nat) (hk : k ≠ SEC.DBGCTL) : ((s.withSec { s.sec with nonceAt := none }).wr SEC.DBGCTL.STATE 0).word k = s.word k :=
    (State.word_wr_ne _ _ hk).trans (s.word_withSec _ k)
  have hstate : ((s.withSec { s.sec with nonceAt := none }).wr SEC.DBGCTL.STATE 0).rd SEC.DBGCTL.STATE = 0 := State.rd_wr_self _ (by decide)
  have hsec : ((s.withSec { s.sec with nonceAt := none }).wr SEC.DBGCTL.STATE 0).sec = { s.sec with nonceAt := none } :=
    (State.wr_sec ..).trans (s.withSec_sec _)
  have hframe : Frame [.live, .sec] s ((s.withSec { s.sec with nonceAt := none }).wr SEC.DBGCTL.STATE 0) :=
    ((s.withSec_frame _).weaken rfl).seq (State.wr_frame ..) rfl
  generalize (s.withSec { s.sec with nonceAt := none }).wr SEC.DBGCTL.STATE 0 = u at *
  obtain ⟨hmark, hreported, hothers, hfail⟩ := u.openFail_fields i r
  have hall := (hframe.weaken (ps := [.live, .evt, .sec, .out]) rfl).seq hfail rfl
  exact ⟨⟨hmark, hreported.after (hword _ (by decide)) (hword _ (by decide)), fun k hh hd hr => (hothers k hh hr).trans (hword k hd),
    hall.same .fuse rfl⟩, (State.rd_congr (hothers _ (by decide) (by decide))).trans hstate, (hfail.same .sec rfl).trans hsec, hall⟩

theorem State.finishOpening_fields {s : State} (hburn : s.upd.burn = []) : s.finishOpening.fuse = { s.fuse.zeroize with lc := 3 } ∧
    s.finishOpening.ret = Retention.reset ∧ s.finishOpening.boot.held = true := by
  refine ⟨?_, rfl, rfl⟩
  show (if s.upd.burn.isEmpty then _ else _) = _
  rw [hburn]
  rfl

theorem State.dbgSubmit_opens {s : State} (i : Nat) (h : s.submitRefusal = none) : s.dbgSubmit i = s.opening i := by
  unfold State.dbgSubmit
  rw [h]

theorem State.opening_fields {s : State} (i : Nat) (hburn : s.upd.burn = []) : (s.opening i).fuse = { s.fuse.zeroize with lc := 3 } ∧
    (s.opening i).ret = Retention.reset ∧ (s.opening i).boot.held = true := by
  have hframe : Frame [.live, .evt, .out] s ((s.wr SEC.DBGCTL.STATE 2).report 0x0301 i s.tick) :=
    ((State.wr_frame ..).weaken rfl).seq (State.report_frame ..) rfl
  have hopened := State.finishOpening_fields ((congrArg Upd.burn (hframe.same .upd rfl)).trans hburn)
  rw [hframe.same .fuse rfl] at hopened
  exact hopened

theorem exec_dbgNonceExpire {s : State} {t0 : Nat} (hnonce : s.sec.nonceAt = some t0) (hlate : t0 + 60 * 10 ^ 9 ≤ s.clk.now) :
    exec .dbgNonceExpire s = .next (((s.withSec { s.sec with nonceAt := none }).wr SEC.DBGCTL.STATE 0).openFail 3 2) := by
  have hgood : s.nonceGood = false := by
    unfold State.nonceGood
    rw [hnonce]
    exact decide_eq_false (by omega)
  exact congrArg _ (if_pos (by rw [hnonce, hgood]; rfl))

/-! ## Attestation (R520) -/

theorem State.attestGo_fields (s : State) : s.attestGo.sec = { s.sec with attest := true } ∧ s.attestGo.flag SEC.ATTCTL.DONE = false ∧
    s.attestGo.flag SEC.ATTCTL.ERR = false ∧ (∀ k, k ≠ SEC.ATTCTL → s.attestGo.word k = s.word k) ∧ Frame [.live, .sec] s s.attestGo := by
  have heq : s.attestGo = ((s.withSec { s.sec with attest := true }).wrFlag SEC.ATTCTL.DONE false).wrFlag SEC.ATTCTL.ERR false := rfl
  rw [heq]
  refine ⟨?_, ?_, State.flag_wrFlag_self _ _ (by decide), fun k hk => ?_, ?_⟩
  · rw [State.wrFlag_sec, State.wrFlag_sec, State.withSec_sec]
  · rw [State.flag_wrFlag_clear _ _ ⟨by decide, .inr (by decide)⟩]
    exact State.flag_wrFlag_self _ _ (by decide)
  · rw [State.word_wrFlag_ne _ _ hk, State.word_wrFlag_ne _ _ hk, State.word_withSec]
  · exact (((s.withSec_frame _).weaken rfl).seq (State.wrFlag_frame ..) rfl).seq (State.wrFlag_frame ..) rfl

/-- What the signature covers. -/
def State.attestMessage (s : State) : List Byte :=
  s.wordBytes SEC.ATTNONCE 8 ++ leBytes (s.num GLB.ID) ++ leBytes (s.num SEC.LC) ++ Config.sha384 (Memory.bytes s.flash.active 0 256)

/-- The signature's words, where there is a seed to sign with. -/
def State.attestSigned (s : State) (msg : List Byte) : Option (List Byte) → State
  | some seed => s.putBytes SEC.ATTSIG (Config.attestSign seed (Config.sha384 msg)) 24
  | none => s.wrFlag SEC.ATTCTL.ERR true

/-- The end of a signature. -/
def State.attested (s : State) : State :=
  (((s.withSec { s.sec with attest := false }).attestSigned s.attestMessage s.fuse.seed).wrFlag SEC.ATTCTL.DONE true).sqf SEC.HIST.ATTEST

theorem exec_attestDone {s : State} (h : s.sec.attest = true) : exec .attestDone s = .next s.attested := by
  refine congrArg _ ((if_pos h).trans ?_)
  unfold State.attested State.attestSigned
  dsimp only
  cases s.fuse.seed <;> rfl

theorem State.attestSigned_frame (s : State) (msg : List Byte) (seed : Option (List Byte)) : Frame [.live] s (s.attestSigned msg seed) := by
  unfold State.attestSigned
  split
  · exact State.putBytes_frame ..
  · exact State.wrFlag_frame ..

/-- The end's marks leave the words of the signature. -/
theorem State.attested_word (s : State) {k : Nat} (hctl : k ≠ SEC.ATTCTL) (hhist : k ≠ SEC.HIST) :
    s.attested.word k = ((s.withSec { s.sec with attest := false }).attestSigned s.attestMessage s.fuse.seed).word k := by
  unfold State.attested
  rw [State.word_sqf_ne _ hhist, State.word_wrFlag_ne _ _ hctl]

theorem State.attested_fields (s : State) : s.attested.sec = { s.sec with attest := false } ∧ s.attested.flag SEC.ATTCTL.DONE = true ∧
    s.attested.flag SEC.HIST.ATTEST = true ∧ Frame [.live, .sec] s s.attested := by
  have hframe : Frame [.live, .sec] (s.withSec { s.sec with attest := false }) s.attested :=
    (((State.attestSigned_frame ..).weaken rfl).seq (State.wrFlag_frame ..) rfl).seq (State.sqf_frame ..) rfl
  refine ⟨?_, ?_, State.flag_sqf_self _ (by decide), ((s.withSec_frame _).weaken rfl).trans hframe⟩
  · unfold State.attested
    rw [State.sqf_sec, State.wrFlag_sec, (State.attestSigned_frame ..).same .sec rfl]
    exact s.withSec_sec _
  · unfold State.attested
    rw [State.flag_sqf_clear _ (by decide)]
    exact State.flag_wrFlag_self _ _ (by decide)

theorem State.attested_unsigned {s : State} (h : s.fuse.seed = none) : s.attested.flag SEC.ATTCTL.ERR = true ∧
    ∀ k, k ≠ SEC.ATTCTL → k ≠ SEC.HIST → s.attested.word k = s.word k := by
  refine ⟨?_, fun k hctl hhist => ?_⟩
  · unfold State.attested State.attestSigned
    rw [h, State.flag_sqf_clear _ (by decide), State.flag_wrFlag_clear _ _ ⟨by decide, .inr (by decide)⟩]
    exact State.flag_wrFlag_self _ _ (by decide)
  · rw [s.attested_word hctl hhist, h]
    exact (State.word_wrFlag_ne _ _ hctl).trans (s.word_withSec _ k)

theorem State.attested_signature {s : State} {seed : List Byte} (h : s.fuse.seed = some seed) {j : Nat} (hj : j < 24) :
    s.attested.word (SEC.ATTSIG j) = BitVec.ofNat 32 (leWord (Config.attestSign seed (Config.sha384 s.attestMessage)) (4 * j)) := by
  have hctl : SEC.ATTSIG j ≠ SEC.ATTCTL := by simp only [SEC.ATTSIG, SEC.ATTCTL]; omega
  have hhist : SEC.ATTSIG j ≠ SEC.HIST := by simp only [SEC.ATTSIG, SEC.HIST]; omega
  rw [s.attested_word hctl hhist, h]
  exact (State.putBytes_words _ _ (fun a b e => by unfold SEC.ATTSIG at e; omega) 24).1 j hj

/-- Settles O53: the claims follow what each command does, one lemma per outcome. -/
theorem debugOpeningAndAttestation : Obligations.DebugOpeningAndAttestation := by
  unfold Obligations.DebugOpeningAndAttestation
  intro i s refused late
  refine ⟨fun h => ⟨fun hopen hlock => ?_, fun hrefused => ?_, fun hburn => ⟨_, exec_dbgSubmit h, fun hsome => ?_, fun hnone => ?_⟩⟩,
    fun t0 hnonce hlate => ⟨_, exec_dbgNonceExpire hnonce hlate, s.nonceSpent_fields 3 2⟩,
    fun h => ⟨_, exec_attestGo h, s.attestGo_fields⟩, fun h => ⟨_, exec_attestDone h, ?_⟩⟩
  · refine ⟨_, exec_dbgRequest h, ?_⟩
    rw [State.dbgRequest_open _ hopen hlock]
    exact s.challenged_fields
  · obtain ⟨reason, heq⟩ := s.dbgRequest_refused (ifaceNumber i) hrefused
    obtain ⟨hmark, hreported, hothers, hframe⟩ := s.openFail_fields (ifaceNumber i) reason
    refine ⟨_, exec_dbgRequest h, ?_⟩
    rw [heq]
    exact ⟨⟨hmark, hreported, fun k hh _ hr => hothers k hh hr, hframe.same .fuse rfl⟩, hframe⟩
  · obtain ⟨r, hr⟩ := Option.isSome_iff_exists.mp hsome
    rw [s.dbgSubmit_refused _ hr]
    exact s.nonceSpent_fields _ r
  · rw [s.dbgSubmit_opens _ hnone]
    exact s.opening_fields _ hburn
  · obtain ⟨hsec, hdone, hhist, hframe⟩ := s.attested_fields
    exact ⟨hsec, hdone, hhist, hframe, s.attested_unsigned, fun seed hseed j hj => s.attested_signature hseed hj⟩

end Sys2Proof.Machine
end

section
/-!
PROOFS. The claim on staging: what a refusal, the end of a claim and its start leave in UPD's registers, in the BOOT record and in what has been
received (R524, R527 to R530, R548).
-/

namespace Sys2Proof.Machine

/-! ## UPD's registers and state -/

/-- The state with UPD's record `x`. -/
def State.withUpd (s : State) (x : Upd) : State := { s with upd := x }

theorem State.withUpd_upd (s : State) (x : Upd) : (s.withUpd x).upd = x := rfl
theorem State.word_withUpd (s : State) (x : Upd) (k : Nat) : (s.withUpd x).word k = s.word k := rfl

theorem State.withUpd_frame {s : State} {x : Upd} (h : x.image = s.upd.image) : Frame [.upd] s (s.withUpd x) :=
  Frame.set_upd (Frame.refl _ s) (fun hwf => h ▸ hwf) rfl

/-- The state with the flash `f`. -/
def State.withFlash (s : State) (f : Flash) : State := { s with flash := f }

theorem State.withFlash_flash (s : State) (f : Flash) : (s.withFlash f).flash = f := rfl
theorem State.withFlash_upd (s : State) (f : Flash) : (s.withFlash f).upd = s.upd := rfl
theorem State.word_withFlash (s : State) (f : Flash) (k : Nat) : (s.withFlash f).word k = s.word k := rfl

/-! ## The BOOT record (R524) -/

theorem Flash.write_partitions (f : Flash) (r : BootRec) : (f.write r).active = f.active ∧ (f.write r).staging = f.staging := by
  unfold Flash.write
  dsimp only
  split <;> exact ⟨rfl, rfl⟩

theorem Flash.record_congr {f g : Flash} (h0 : f.boot0 = g.boot0) (h1 : f.boot1 = g.boot1) : f.record = g.record := by
  unfold Flash.record
  rw [h0, h1]

/-- What was written governs. -/
theorem Flash.record_write (f : Flash) (r : BootRec) : (f.write r).record = { r with count := f.record.count + 1, good := true } := by
  unfold Flash.write
  dsimp only
  split
  · next h =>
    have hcount : f.record.count = f.boot0.count := congrArg BootRec.count (if_pos h)
    exact (if_neg (by simp [hcount])).trans (if_pos rfl)
  · next h =>
    have hgoverns : f.boot1.good = true → f.record.count = f.boot1.count := fun hgood =>
      congrArg BootRec.count ((if_neg h).trans (if_pos hgood))
    exact if_pos (by cases hgood : f.boot1.good <;> simp [hgood, hgoverns])

/-! ## A refusal (R527, R528) -/

/-- From `s` to `t` a refusal with `code` was recorded and reported, and nothing else has happened. -/
structure UpdRefused (code : Nat) (s t : State) : Prop where
  code : t.rd UPD.STAT.REFUSAL = code
  mark : t.flag UPD.HIST.REFUSED = true
  reported : Reported 0x0401 s t
  upd : t.upd = s.upd
  frame : Frame [.live, .evt, .out] s t

theorem State.updRefuse_refused (s : State) (src : Nat) {code : Nat} (hcode : code < 256) : UpdRefused code s (s.updRefuse src code) := by
  have hframe := s.updRefuse_frame src code
  have hstat : ((s.wr UPD.STAT.REFUSAL code).sqf UPD.HIST.REFUSED).rd UPD.STAT.REFUSAL = code := by
    rw [State.rd_sqf_clear _ (by decide)]
    exact State.rd_wr_self _ ⟨by decide, hcode⟩
  have hmark : ((s.wr UPD.STAT.REFUSAL code).sqf UPD.HIST.REFUSED).flag UPD.HIST.REFUSED = true := State.flag_sqf_self _ (by decide)
  have hword (j : Nat) (hh : j ≠ UPD.HIST) (hs : j ≠ UPD.STAT) : ((s.wr UPD.STAT.REFUSAL code).sqf UPD.HIST.REFUSED).word j = s.word j :=
    (State.word_sqf_ne _ hh).trans (State.word_wr_ne _ _ hs)
  refine ⟨?_, ?_, ?_, hframe.same .upd rfl, hframe⟩ <;> unfold State.updRefuse
  · exact (State.rd_report_clear _ _ _ ⟨by unfold reportSpares; decide, by decide⟩).trans hstat
  · exact (State.flag_report_clear _ _ _ ⟨by unfold reportSpares; decide, by decide⟩).trans hmark
  · exact (State.report_reported _ _ _ _ (by decide)).after (hword _ (by decide) (by decide)) (hword _ (by decide) (by decide))

/-- A refusal where only words that reports do not write have changed before it. -/
theorem UpdRefused.after {code : Nat} {s u t : State} (h : UpdRefused code u t) (hframe : Frame [.live] s u)
    (hword : ∀ j, reportKey j = true → u.word j = s.word j) : UpdRefused code s t := by
  obtain ⟨hcode, hmark, hreported, hupd, hrefused⟩ := h
  exact ⟨hcode, hmark, hreported.after (hword _ (by decide)) (hword _ (by decide)), hupd.trans (hframe.same .upd rfl), (hframe.weaken rfl).seq hrefused rfl⟩

/-! ## The codes of a judgement (R526, R528) -/

theorem Fuses.headerCheck_lt (f : Fuses) (h : List Byte) (fuses : Bool) : f.headerCheck h fuses < 256 := by
  unfold Fuses.headerCheck
  repeat' split
  all_goals decide

theorem Fuses.verify_lt (f : Fuses) (m : Memory) (fuses : Bool) : f.verify m fuses < 256 := by
  have hcheck := f.headerCheck_lt (Memory.bytes m 0 512) fuses
  unfold Fuses.verify
  dsimp only
  repeat' split
  · exact hcheck
  all_goals decide

theorem State.updJudge_lt (s : State) (src : Nat) (h : List Byte) : s.updJudge src h < 256 := by
  have hcheck := s.fuse.headerCheck_lt h (decide (src < 2) && !s.limitedUpd)
  unfold State.updJudge
  dsimp only
  split
  · exact hcheck
  · repeat' split
    all_goals decide

/-! ## UPD's registers follow the BOOT record (R548) -/

/-- The words of UPD that show the BOOT record. -/
def recordWord (k : Nat) : Prop := k = UPD.STAT ∨ k = UPD.STGVER ∨ k = UPD.CTL ∨ k = UPD.LOCKSEQ

theorem State.showRecord_fields (s : State) : s.showRecord.staging = s.flash.record.stage % 2 ^ 4 ∧
    (∀ f : Fld, f.key = UPD.STAT → f.lo + f.width ≤ 28 → s.showRecord.rd f = s.rd f) ∧
    (∀ k, ¬ recordWord k → s.showRecord.word k = s.word k) := by
  have hword (k : Nat) (hctl : k ≠ UPD.CTL) (hseq : k ≠ UPD.LOCKSEQ) (hver : k ≠ UPD.STGVER) :
      s.showRecord.word k = (s.wr UPD.STAT.STAGE s.flash.record.stage).word k := by
    unfold State.showRecord
    rw [State.word_wr_ne _ _ hseq, State.word_wrFlag_ne _ _ hctl, State.word_wr_ne _ _ hver]
  have hstat := hword UPD.STAT (by decide) (by decide) (by decide)
  refine ⟨?_, fun f hkey hlo => ?_, fun k hk => ?_⟩
  · exact (State.rd_congr hstat).trans (State.rd_wr_same _ _ _ (by decide))
  · exact (State.rd_congr (hkey ▸ hstat)).trans (State.rd_wr_clear _ _ ⟨show 28 + 4 ≤ 32 by decide, .inr (.inl hlo)⟩)
  · simp only [recordWord, not_or] at hk
    obtain ⟨hs, hver, hctl, hseq⟩ := hk
    exact (hword k hctl hseq hver).trans (State.word_wr_ne _ _ hs)

/-! ## A claim ends (R529) -/

/-- What stays of UPD's record when a claim ends. -/
def Upd.ended (u : Upd) : Upd := { Upd.reset with polledAt := u.polledAt, waiting := u.waiting, partner := u.partner }

theorem State.unclaim_eq (s : State) : s.unclaim = ((s.withUpd s.upd.ended).wr UPD.STAT.SRC 0).showRecord := rfl

theorem State.unclaim_fields (s : State) : s.unclaim.claim = 0 ∧ s.unclaim.staging = s.flash.record.stage % 2 ^ 4 ∧ s.unclaim.upd = s.upd.ended ∧
    s.unclaim.rd UPD.STAT.REFUSAL = s.rd UPD.STAT.REFUSAL ∧ (∀ k, ¬ recordWord k → s.unclaim.word k = s.word k) ∧
    Frame [.live, .upd] s s.unclaim := by
  have hflash : ((s.withUpd s.upd.ended).wr UPD.STAT.SRC 0).flash = s.flash := (s.withUpd s.upd.ended).wr_flash ..
  have hclaim : ((s.withUpd s.upd.ended).wr UPD.STAT.SRC 0).rd UPD.STAT.SRC = 0 := State.rd_wr_self _ (by decide)
  have hrefusal : ((s.withUpd s.upd.ended).wr UPD.STAT.SRC 0).rd UPD.STAT.REFUSAL = s.rd UPD.STAT.REFUSAL :=
    (State.rd_wr_clear _ _ (by unfold Fld.clear; decide)).trans (State.rd_congr (s.word_withUpd _ _))
  have hupd : ((s.withUpd s.upd.ended).wr UPD.STAT.SRC 0).upd = s.upd.ended := (State.wr_upd ..).trans (s.withUpd_upd _)
  have hword (k : Nat) (hk : k ≠ UPD.STAT) : ((s.withUpd s.upd.ended).wr UPD.STAT.SRC 0).word k = s.word k :=
    (State.word_wr_ne _ _ hk).trans (s.word_withUpd _ k)
  have hframe := s.unclaim_frame
  rw [State.unclaim_eq] at hframe ⊢
  generalize (s.withUpd s.upd.ended).wr UPD.STAT.SRC 0 = u at *
  obtain ⟨hstage, hstat, hothers⟩ := u.showRecord_fields
  refine ⟨(hstat _ rfl (by decide)).trans hclaim, ?_, (u.showRecord_frame.same .upd rfl).trans hupd, (hstat _ rfl (by decide)).trans hrefusal,
    fun k hk => (hothers k hk).trans (hword k fun h => hk (.inl h)), hframe⟩
  rw [hstage, hflash]

/-- The claim has ended from `s` to `t`, with what was staged INVALID. -/
structure UnclaimedInvalid (s t : State) : Prop where
  claim : t.claim = 0
  staging : t.staging = 4
  upd : t.upd = s.upd.ended
  refusal : t.rd UPD.STAT.REFUSAL = s.rd UPD.STAT.REFUSAL
  words : ∀ k, ¬ recordWord k → t.word k = s.word k
  frame : Frame [.live, .upd] s t

theorem State.unclaimInvalid_fields (s : State) : UnclaimedInvalid s s.unclaimInvalid := by
  obtain ⟨hclaim, -, hupd, hrefusal, hothers, -⟩ := s.unclaim_fields
  exact ⟨(State.rd_wr_clear _ _ (by unfold Fld.clear; decide)).trans hclaim, State.rd_wr_self _ (by decide), (State.wr_upd ..).trans hupd,
    (State.rd_wr_clear _ _ (by unfold Fld.clear; decide)).trans hrefusal,
    fun k hk => (State.word_wr_ne _ _ fun h => hk (.inl h)).trans (hothers k hk), s.unclaimInvalid_frame⟩

theorem State.judgeWaiting_none {s : State} (h : s.upd.waiting = none) : s.judgeWaiting = s := by
  unfold State.judgeWaiting
  rw [h]

/-! ## A claim begins (R529, R542) -/

/-- An image with header `h` stands apart from the flash. -/
def State.standsApart (s : State) (h : List Byte) : Bool := hdrFuse h || s.stage == 4

/-- STAGING is INVALID in the BOOT record, and erased. -/
def Flash.invalidated (f : Flash) : Flash := { f.write { f.record with stage := 4 } with staging := [] }

/-- What a claim for the header `h` finds in the flash. -/
def State.claimFlash (s : State) (h : List Byte) : Flash := if s.standsApart h then s.flash else s.flash.invalidated

/-- UPD's record when a claim begins. -/
def Upd.begun (u : Upd) (fuse host : Bool) : Upd := { Upd.reset with polledAt := u.polledAt, partner := u.partner, fuse := fuse, host := host }

theorem Flash.invalidated_fields (f : Flash) : f.invalidated.record.stage = 4 ∧ f.invalidated.staging = [] ∧ f.invalidated.active = f.active := by
  refine ⟨?_, rfl, (f.write_partitions _).1⟩
  exact (congrArg BootRec.stage (Flash.record_congr (g := f.write { f.record with stage := 4 }) rfl rfl)).trans
    (congrArg BootRec.stage (f.record_write _))

/-- The state before the registers show the claim: the BOOT record and UPD's record tell of it. -/
def State.claimMade (s : State) (h : List Byte) : State :=
  let t := if s.standsApart h then s else (s.withFlash s.flash.invalidated).showRecord
  t.withUpd (t.upd.begun (hdrFuse h) (t.stage == 4 && !hdrFuse h))

theorem State.claimStaging_eq (s : State) (src : Nat) (h : List Byte) :
    s.claimStaging src h = (((s.claimMade h).wr UPD.STAT.SRC (src + 1)).wr UPD.STAT.STAGE 1).wr UPD.STAT.NEXTBLK 0 := rfl

theorem State.claimMade_fields (s : State) (h : List Byte) : (∃ fuse host, (s.claimMade h).upd = s.upd.begun fuse host) ∧
    (s.claimMade h).flash = s.claimFlash h := by
  unfold State.claimMade State.claimFlash
  dsimp only
  split
  · exact ⟨⟨_, _, rfl⟩, rfl⟩
  · have hframe := (s.withFlash s.flash.invalidated).showRecord_frame
    exact ⟨⟨_, _, congrArg (fun u : Upd => u.begun _ _) ((hframe.same .upd rfl).trans (s.withFlash_upd _))⟩,
      (hframe.same .flash rfl).trans (s.withFlash_flash _)⟩

/-- Source `src` has claimed staging for the header `h` from `s` to `t`. -/
structure StagingClaimed (src : Nat) (h : List Byte) (s t : State) : Prop where
  claim : t.claim = src + 1
  staging : t.staging = 1
  next : t.rd UPD.STAT.NEXTBLK = 0
  upd : ∃ fuse host, t.upd = s.upd.begun fuse host
  flash : t.flash = s.claimFlash h
  frame : Frame [.live, .flash, .upd] s t

theorem State.claimStaging_fields (s : State) {src : Nat} (h : List Byte) (hsrc : src < 3) : StagingClaimed src h s (s.claimStaging src h) := by
  obtain ⟨⟨fuse, host, hupd⟩, hflash⟩ := s.claimMade_fields h
  have hframe := s.claimStaging_frame src h
  rw [State.claimStaging_eq] at hframe ⊢
  refine ⟨?_, ?_, State.rd_wr_self _ (by decide), ⟨fuse, host, ?_⟩, ?_, hframe⟩
  · refine (State.rd_wr_clear _ _ (by unfold Fld.clear; decide)).trans ((State.rd_wr_clear _ _ (by unfold Fld.clear; decide)).trans ?_)
    exact State.rd_wr_self _ ⟨by decide, show src + 1 < 4 by omega⟩
  · exact (State.rd_wr_clear _ _ (by unfold Fld.clear; decide)).trans (State.rd_wr_self _ (by decide))
  · rw [State.wr_upd, State.wr_upd, State.wr_upd, hupd]
  · rw [State.wr_flash, State.wr_flash, State.wr_flash, hflash]

end Sys2Proof.Machine
end

section
/-!
PROOFS. The host's image: a header is offered and judged, blocks are taken in order, END starts verification and ABORT ends the claim (R528, R532,
R536).
-/

namespace Sys2Proof.Machine

/-! ## A write of HCMD -/

theorem regMasks_hcmd : RegMasks UPD.HCMD 0x1FFF 0 := ⟨_, _, rfl, rfl, rfl, rfl, rfl⟩

theorem State.hcmd_unitRefuses (s : State) (w : Word) (v : Nat) (direct : Bool) : s.unitRefuses UPD.HCMD w v direct = false := by
  unfold State.unitRefuses
  rfl

theorem State.act_hcmd (s : State) (i v : Nat) (old : Word) : s.act i UPD.HCMD v old true = s.hcmdWrite i v := by
  unfold State.act
  exact (if_neg (by decide)).trans ((if_neg (by decide)).trans (if_pos rfl))

/-- The state in which a command `v` acts: HCMD shows its INDEX. -/
def State.hcmdTaken (s : State) (v : Nat) : State := s.rwWritten UPD.HCMD (BitVec.ofNat 32 v) 0x1FFF

theorem State.hcmdTaken_word (s : State) (v : Nat) {k : Nat} (h : k ≠ UPD.HCMD) : (s.hcmdTaken v).word k = s.word k := s.word_rwWritten_ne _ _ h

theorem State.hcmdTaken_rd (s : State) (v : Nat) {f : Fld} (h : f.key ≠ UPD.HCMD) : (s.hcmdTaken v).rd f = s.rd f :=
  State.rd_congr (s.hcmdTaken_word v h)

theorem State.hcmdTaken_frame (s : State) (v : Nat) : Frame [.live] s (s.hcmdTaken v) := s.rwWritten_frame ..

theorem State.regCommand_hcmd {s : State} {i : Iface} {v : Nat} (hv : v < 2 ^ 32) (h : s.hostReaches i UPD.HCMD = true) :
    s.regCommand i UPD.HCMD v = (s.hcmdTaken v).hcmdWrite (ifaceNumber i) v := by
  refine State.regCommand_reached ⟨by decide, by decide, by decide⟩ h ((State.regWrite_rw _ _ regMasks_hcmd (by decide) (State.hcmd_unitRefuses ..)
    (by decide) fun _ => State.setModes_unwatched _ _ (by decide) (by decide) (by decide) (by decide)).trans ?_)
  rw [State.act_hcmd, BitVec.toNat_ofNat, Nat.mod_eq_of_lt hv, State.hcmdTaken]

section
variable {v : Nat} (s : State) (i : Nat)

theorem State.hcmdWrite_block (hblock : bit v 30 = true) (hend : bit v 29 = false) (habort : bit v 28 = false) :
    s.hcmdWrite i v = s.hcmdBlock i (bits v 12 0) (bit v 31) := by
  unfold State.hcmdWrite
  simp only [hblock, hend, habort, Bool.false_eq_true, if_true, if_false]

theorem State.hcmdWrite_end (hblock : bit v 30 = false) (hend : bit v 29 = true) (habort : bit v 28 = false) : s.hcmdWrite i v = s.hcmdEnd i := by
  unfold State.hcmdWrite
  simp only [hblock, hend, habort, Bool.false_eq_true, if_true, if_false]

theorem State.hcmdWrite_abort (hblock : bit v 30 = false) (hend : bit v 29 = false) (habort : bit v 28 = true) : s.hcmdWrite i v = s.hcmdAbort i := by
  unfold State.hcmdWrite
  simp only [hblock, hend, habort, Bool.false_eq_true, if_true, if_false]

end

section
variable {s : State} {i : Iface} (h : s.hostReaches i UPD.HCMD = true)
include h

theorem exec_hcmdOpen : exec (.hcmdOpen i) s = .next ((s.hcmdTaken (2 ^ 31 + 2 ^ 30)).hostOffer (ifaceNumber i)) := by
  refine congrArg _ ((State.regCommand_hcmd (by decide) h).trans ?_)
  rw [State.hcmdWrite_block _ _ (by decide) (by decide) (by decide)]
  exact if_pos (by decide)

theorem exec_hcmdBlock (n : Nat) : exec (.hcmdBlock i n) s =
    .next ((s.hcmdTaken (2 ^ 30 + n % 2 ^ 13)).hcmdBlock (ifaceNumber i) (n % 2 ^ 13) false) := by
  have hn : n % 2 ^ 13 < 2 ^ 13 := Nat.mod_lt _ (by decide)
  have hbit (b : Nat) (hb : b = 28 ∨ b = 29 ∨ b = 31) : bit (2 ^ 30 + n % 2 ^ 13) b = false := by
    rcases hb with rfl | rfl | rfl <;> simp only [bit, beq_eq_false_iff_ne] <;> omega
  refine congrArg _ ((State.regCommand_hcmd (by omega) h).trans ?_)
  rw [State.hcmdWrite_block _ _ (by simp only [bit, beq_iff_eq]; omega) (hbit 29 (by decide)) (hbit 28 (by decide)), hbit 31 (by decide),
    show bits (2 ^ 30 + n % 2 ^ 13) 12 0 = n % 2 ^ 13 by simp only [bits]; omega]

theorem exec_hcmdEnd : exec (.hcmdEnd i) s = .next ((s.hcmdTaken (2 ^ 29)).hcmdEnd (ifaceNumber i)) :=
  congrArg _ ((State.regCommand_hcmd (by decide) h).trans (State.hcmdWrite_end _ _ (by decide) (by decide) (by decide)))

theorem exec_hcmdAbort : exec (.hcmdAbort i) s = .next ((s.hcmdTaken (2 ^ 28)).hcmdAbort (ifaceNumber i)) :=
  congrArg _ ((State.regCommand_hcmd (by decide) h).trans (State.hcmdWrite_abort _ _ (by decide) (by decide) (by decide)))

end

/-! ## What the judgement looks at is not HCMD -/

section
variable (s : State) (v : Nat)

theorem State.hcmdTaken_claim : (s.hcmdTaken v).claim = s.claim := s.hcmdTaken_rd v (by decide)

theorem State.hcmdTaken_staging : (s.hcmdTaken v).staging = s.staging := s.hcmdTaken_rd v (by decide)

theorem State.hcmdTaken_stage : (s.hcmdTaken v).stage = s.stage := s.hcmdTaken_rd v (by decide)

theorem State.hcmdTaken_upd : (s.hcmdTaken v).upd = s.upd := (s.hcmdTaken_frame v).same .upd rfl

theorem State.hcmdTaken_flash : (s.hcmdTaken v).flash = s.flash := (s.hcmdTaken_frame v).same .flash rfl

theorem State.hcmdTaken_receiving (a : Nat) : (s.hcmdTaken v).receiving a = s.receiving a := by
  rw [State.receiving, s.hcmdTaken_claim, s.hcmdTaken_staging, State.receiving]

theorem State.hcmdTaken_bufHeader : (s.hcmdTaken v).bufHeader = s.bufHeader :=
  congrArg (List.flatMap · (List.range 128)) (funext fun j =>
    congrArg (fun w : Word => leBytes w.toNat) (s.hcmdTaken_word v (show UPD.BUF j ≠ UPD.HCMD by simp only [UPD.BUF, UPD.HCMD]; omega)))

theorem State.hcmdTaken_anyHerd : (s.hcmdTaken v).anyHerd = s.anyHerd :=
  congrArg (anyBelow · 16) (funext fun k =>
    congrArg (· == 2) (s.hcmdTaken_rd v (f := HRD.H_STATE.val k) (by simp only [HRD.H_STATE.val, HRD.H_STATE, UPD.HCMD]; omega)))

theorem State.hcmdTaken_supplyOk : (s.hcmdTaken v).supplyOk = s.supplyOk := by
  have hlow : (fun k => (s.hcmdTaken v).flag (MON.RAIL.LOW k)) = fun k => s.flag (MON.RAIL.LOW k) :=
    funext fun k => State.flag_of_rd (s.hcmdTaken_rd v (by simp only [MON.RAIL.LOW, MON.RAIL, UPD.HCMD]; omega))
  rw [State.supplyOk, hlow, (s.hcmdTaken_frame v).same .mon rfl, State.supplyOk]

theorem State.hcmdTaken_paired : (s.hcmdTaken v).paired = s.paired := by
  have hpartner : (s.hcmdTaken v).partner = s.partner := s.hcmdTaken_rd v (by decide)
  rw [State.paired, hpartner, State.paired]

theorem State.hcmdTaken_updJudge (src : Nat) (h : List Byte) : (s.hcmdTaken v).updJudge src h = s.updJudge src h := by
  have hrole : (s.hcmdTaken v).role = s.role := s.hcmdTaken_rd v (by decide)
  have hlimited : (s.hcmdTaken v).limitedUpd = s.limitedUpd := by rw [State.limitedUpd, s.hcmdTaken_stage, State.limitedUpd]
  have hflag (f : Fld) (hf : f.key ≠ UPD.HCMD) : (s.hcmdTaken v).flag f = s.flag f := State.flag_of_rd (s.hcmdTaken_rd v hf)
  have hfuse : (s.hcmdTaken v).fuse = s.fuse := (s.hcmdTaken_frame v).same .fuse rfl
  unfold State.updJudge
  rw [hfuse, hlimited, hflag UPD.CTL.SHOW (by decide), hflag UPD.CTL.OWNER (by decide), hflag UPD.CTL.LIVE_STAGE (by decide), s.hcmdTaken_anyHerd, hrole,
    s.hcmdTaken_paired, s.hcmdTaken_upd, s.hcmdTaken_supplyOk]

theorem State.hcmdTaken_claimFlash (h : List Byte) : (s.hcmdTaken v).claimFlash h = s.claimFlash h := by
  rw [State.claimFlash, State.standsApart, s.hcmdTaken_stage, s.hcmdTaken_flash, State.claimFlash, State.standsApart]

/-- A refusal of a command. -/
theorem State.hcmdTaken_refused (src : Nat) {code : Nat} (h : code < 256) : UpdRefused code s ((s.hcmdTaken v).updRefuse src code) :=
  ((s.hcmdTaken v).updRefuse_refused src h).after (s.hcmdTaken_frame v) fun j hj => s.hcmdTaken_word v fun he => by
    rw [he] at hj
    exact absurd hj (by decide)

end

/-! ## Offers (R528, R536) -/

section
variable {s : State} {i : Nat}

theorem State.judgeHost_refused {c : Nat} (hc : s.updJudge i s.bufHeader = c) (hne : c ≠ 0) : s.judgeHost i = s.updRefuse i c := by
  unfold State.judgeHost State.judged
  rw [hc]
  exact if_pos hne

/-- The claim's first block is the header's. -/
def State.claimed (s : State) (i : Nat) (h : List Byte) : State :=
  (s.claimStaging i h).withUpd { (s.claimStaging i h).upd with busy := some 0 }

theorem State.judgeHost_claimed (hc : s.updJudge i s.bufHeader = 0) : s.judgeHost i = s.claimed i s.bufHeader := by
  unfold State.judgeHost State.judged
  rw [hc]
  rfl

theorem State.hostOffer_free (h : s.claim = 0) : s.hostOffer i = s.judgeHost i := by
  unfold State.hostOffer
  split
  · rfl
  · omega
  · next hne _ => exact absurd h hne

theorem State.hostOffer_waits (h : s.claim = 3) (hwaiting : s.upd.waiting = none) : s.hostOffer i = s.withUpd { s.upd with waiting := some i } := by
  unfold State.hostOffer
  split
  · omega
  · exact if_neg (by simp [hwaiting])
  · next _ hne => exact absurd h hne

theorem State.hostOffer_refused (h : s.claim = 1 ∨ s.claim = 2 ∨ s.claim = 3 ∧ s.upd.waiting ≠ none) : s.hostOffer i = s.updRefuse i 6 := by
  unfold State.hostOffer
  split
  · omega
  · next hchain =>
    have hwaiting : s.upd.waiting ≠ none := by
      rcases h with h | h | ⟨-, h⟩
      · omega
      · omega
      · exact h
    exact if_pos (Option.isSome_iff_ne_none.mpr hwaiting)
  · rfl

end

theorem State.claimed_fields (s : State) {i : Nat} (h : List Byte) (hi : i < 3) : (s.claimed i h).claim = i + 1 ∧ (s.claimed i h).staging = 1 ∧
    (s.claimed i h).rd UPD.STAT.NEXTBLK = 0 ∧ (s.claimed i h).upd.busy = some 0 ∧ (s.claimed i h).flash = s.claimFlash h ∧
    Frame [.live, .flash, .upd] s (s.claimed i h) := by
  obtain ⟨hclaim, hstaging, hnext, -, hflash, hframe⟩ := s.claimStaging_fields h hi
  have hkept : Frame [.upd] (s.claimStaging i h) (s.claimed i h) := State.withUpd_frame rfl
  have hrd (f : Fld) : (s.claimed i h).rd f = (s.claimStaging i h).rd f := State.rd_congr (State.word_withUpd ..)
  exact ⟨(hrd _).trans hclaim, (hrd _).trans hstaging, (hrd _).trans hnext, congrArg Upd.busy (State.withUpd_upd ..), (hkept.same .flash rfl).trans hflash,
    hframe.seq hkept rfl⟩

/-- What the claim leaves of the flash: STAGING alone is touched, and only where the image does not stand apart. -/
theorem State.claimFlash_fields (s : State) (h : List Byte) : (s.claimFlash h).active = s.flash.active ∧
    (if s.standsApart h then s.claimFlash h = s.flash else (s.claimFlash h).record.stage = 4 ∧ (s.claimFlash h).staging = []) := by
  obtain ⟨hstage, hstaging, hactive⟩ := s.flash.invalidated_fields
  unfold State.claimFlash
  cases s.standsApart h with
  | true => exact ⟨rfl, rfl⟩
  | false => exact ⟨hactive, hstage, hstaging⟩

/-! ## Blocks, END and ABORT (R532) -/

section
variable {s : State} {i n : Nat}

theorem State.hcmdBlock_taken (hopen : (s.receiving i && s.upd.busy.isNone) = true) (hnext : s.rd UPD.STAT.NEXTBLK = n) :
    s.hcmdBlock i n false = s.withUpd { s.upd with busy := some n } :=
  (if_neg (by simp)).trans (if_pos (by rw [hopen, hnext]; simp))

theorem State.hcmdBlock_refused (h : (s.receiving i && s.upd.busy.isNone) = false ∨ s.rd UPD.STAT.NEXTBLK ≠ n) :
    s.hcmdBlock i n false = s.accErr i UPD.HCMD .refused := by
  refine (if_neg (by simp)).trans (if_neg ?_)
  rcases h with hshut | hnext
  · rw [hshut]
    simp
  · simp [hnext]

end

/-- A command refused as an access error: the claim stands. -/
theorem State.hcmd_turned (s : State) (v i : Nat) : let t := (s.hcmdTaken v).accErr i UPD.HCMD .refused
    Reported 0x0101 s t ∧ t.claim = s.claim ∧ t.staging = s.staging ∧ Frame [.live, .evt, .out] s t := by
  obtain ⟨-, -, -, hreported, hothers, hframe⟩ := (s.hcmdTaken v).accErr_recorded i UPD.HCMD .refused
  have hstat := hothers UPD.STAT (by decide) (by decide)
  exact ⟨hreported.after (s.hcmdTaken_word v (by decide)) (s.hcmdTaken_word v (by decide)), (State.rd_congr hstat).trans (s.hcmdTaken_claim v),
    (State.rd_congr hstat).trans (s.hcmdTaken_staging v), ((s.hcmdTaken_frame v).weaken rfl).seq hframe rfl⟩

theorem ifaceNumber_lt (i : Iface) : ifaceNumber i < 3 := by cases i <;> decide

/-- Settles O54: each command acts in the state with INDEX taken, where the judgement looks at the same words; one lemma per outcome. -/
theorem hostImagesAreOfferedAndTransferred : Obligations.HostImagesAreOfferedAndTransferred := by
  unfold Obligations.HostImagesAreOfferedAndTransferred
  intro i n s a h c apart refused turned open_ hreach
  have ha : a = ifaceNumber i := by cases i <;> rfl
  have hrefused {code : Nat} {t : State} (ht : UpdRefused code s t) : refused t code := ⟨ht.code, ht.mark, ht.reported, ht.upd, ht.frame⟩
  clear_value a
  subst ha
  have hjudge (v : Nat) : (s.hcmdTaken v).updJudge (ifaceNumber i) (s.hcmdTaken v).bufHeader = c := by
    rw [s.hcmdTaken_updJudge, s.hcmdTaken_bufHeader]
  have hopen (v : Nat) : ((s.hcmdTaken v).receiving (ifaceNumber i) && (s.hcmdTaken v).upd.busy.isNone) = open_ := by
    rw [s.hcmdTaken_receiving, s.hcmdTaken_upd]
  have hupd (v : Nat) := s.hcmdTaken_upd v
  refine ⟨fun hfree => ⟨_, exec_hcmdOpen hreach, fun hne => ?_, fun hzero => ?_⟩, fun hchain hwaiting => ⟨_, exec_hcmdOpen hreach, ?_⟩,
    fun hheld => ⟨_, exec_hcmdOpen hreach, ?_⟩, fun hshown hnext => ⟨_, exec_hcmdBlock hreach n, ?_⟩, fun hshut => ⟨_, exec_hcmdBlock hreach n, ?_⟩,
    fun hshown => ⟨_, exec_hcmdEnd hreach, ?_⟩, fun hshut => ⟨_, exec_hcmdEnd hreach, ?_⟩,
    fun hnot hclaim hstaging => ⟨_, exec_hcmdAbort hreach, ?_⟩, fun hwaiting => ⟨_, exec_hcmdAbort hreach, ?_⟩⟩
  · rw [State.hostOffer_free ((s.hcmdTaken_claim _).trans hfree), State.judgeHost_refused (hjudge _) hne]
    exact hrefused (s.hcmdTaken_refused _ _ (s.updJudge_lt _ _))
  · rw [State.hostOffer_free ((s.hcmdTaken_claim _).trans hfree), State.judgeHost_claimed ((hjudge _).trans hzero), s.hcmdTaken_bufHeader]
    obtain ⟨hclaim, hstaging, hnext, hbusy, hflash, hframe⟩ := (s.hcmdTaken (2 ^ 31 + 2 ^ 30)).claimed_fields h (ifaceNumber_lt i)
    rw [s.hcmdTaken_claimFlash] at hflash
    obtain ⟨hactive, hleft⟩ := s.claimFlash_fields h
    refine ⟨hclaim, hstaging, hnext, hbusy, (congrArg Flash.active hflash).trans hactive, ?_, ((s.hcmdTaken_frame _).weaken rfl).trans hframe⟩
    rw [hflash]
    exact hleft
  · rw [State.hostOffer_waits ((s.hcmdTaken_claim _).trans hchain) ((congrArg Upd.waiting (hupd _)).trans hwaiting), hupd]
    exact ⟨State.withUpd_upd .., ((s.hcmdTaken_frame _).weaken rfl).seq (State.withUpd_frame (congrArg Upd.image (hupd _)).symm) rfl⟩
  · rw [State.hostOffer_refused (by rw [s.hcmdTaken_claim, hupd]; exact hheld)]
    exact hrefused (s.hcmdTaken_refused _ _ (by decide))
  · rw [State.hcmdBlock_taken ((hopen _).trans hshown) ((s.hcmdTaken_rd _ (by decide)).trans hnext), hupd]
    exact ⟨State.withUpd_upd .., fun k hk => (State.word_withUpd ..).trans (s.hcmdTaken_word _ hk),
      ((s.hcmdTaken_frame _).weaken rfl).seq (State.withUpd_frame (congrArg Upd.image (hupd _)).symm) rfl⟩
  · rw [State.hcmdBlock_refused (by rw [hopen, s.hcmdTaken_rd _ (by decide)]; exact hshut)]
    exact s.hcmd_turned _ _
  · have heq : (s.hcmdTaken (2 ^ 29)).hcmdEnd (ifaceNumber i) = (s.hcmdTaken (2 ^ 29)).wr UPD.STAT.STAGE 2 := if_pos ((hopen _).trans hshown)
    rw [heq]
    exact ⟨State.rd_wr_self _ (by decide), (State.rd_wr_clear _ _ (by unfold Fld.clear; decide)).trans (s.hcmdTaken_claim _),
      fun k hcmd hstat => (State.word_wr_ne _ _ hstat).trans (s.hcmdTaken_word _ hcmd), (s.hcmdTaken_frame _).seq (State.wr_frame ..) rfl⟩
  · have heq : (s.hcmdTaken (2 ^ 29)).hcmdEnd (ifaceNumber i) = (s.hcmdTaken (2 ^ 29)).accErr (ifaceNumber i) UPD.HCMD .refused :=
      if_neg (by rw [hopen]; exact ne_true_of_eq_false hshut)
    rw [heq]
    exact s.hcmd_turned _ _
  · have heq : (s.hcmdTaken (2 ^ 28)).hcmdAbort (ifaceNumber i) = (s.hcmdTaken (2 ^ 28)).unclaimInvalid :=
      (if_neg (by rw [hupd]; exact hnot)).trans (if_pos (by rw [s.hcmdTaken_claim, s.hcmdTaken_staging]; simpa [hclaim] using hstaging))
    obtain ⟨hfree, hinvalid, hended, -, -, hframe⟩ := (s.hcmdTaken (2 ^ 28)).unclaimInvalid_fields
    rw [heq]
    exact ⟨hfree, hinvalid, congrArg Upd.busy hended, ((s.hcmdTaken_frame _).weaken rfl).trans hframe⟩
  · have heq : (s.hcmdTaken (2 ^ 28)).hcmdAbort (ifaceNumber i) = (s.hcmdTaken (2 ^ 28)).withUpd { (s.hcmdTaken (2 ^ 28)).upd with waiting := none } :=
      if_pos (by rw [hupd]; exact hwaiting)
    rw [heq, hupd]
    exact ⟨State.withUpd_upd .., fun k hk => (State.word_withUpd ..).trans (s.hcmdTaken_word _ hk),
      ((s.hcmdTaken_frame _).weaken rfl).seq (State.withUpd_frame (congrArg Upd.image (hupd _)).symm) rfl⟩

end Sys2Proof.Machine
end

section
/-!
PROOFS. Stages of boot, the handover and what a reset keeps (R513, R538, R543, R551, R556, R564), and bytes of a memory after a string is written to it.
-/

namespace Sys2Proof.Machine

/-! ## Bytes of a memory -/

theorem Memory.byte_setBytes_outside (m : Memory) {a x : Nat} (bs : List Byte) (h : x < a ∨ a + bs.length ≤ x) :
    Memory.byte (Memory.setBytes m a bs) x = Memory.byte m x := by
  induction bs generalizing m a with
  | nil => rfl
  | cons b bs ih =>
    rw [List.length_cons] at h
    exact (ih _ (by omega)).trans (Memory.byte_setByte_ne _ _ (by omega))

/-- A string reads back. -/
theorem Memory.bytes_setBytes_same (m : Memory) (a : Nat) (bs : List Byte) : Memory.bytes (Memory.setBytes m a bs) a bs.length = bs := by
  induction bs generalizing m a with
  | nil => rfl
  | cons b bs ih =>
    have hhead : Memory.byte (Memory.setBytes (Memory.setByte m a b) (a + 1) bs) a = b :=
      (Memory.byte_setBytes_outside _ _ (by omega)).trans (Memory.byte_setByte_same ..)
    show Memory.byte (Memory.setBytes (Memory.setByte m a b) (a + 1) bs) a
      :: Memory.bytes (Memory.setBytes (Memory.setByte m a b) (a + 1) bs) (a + 1) bs.length = b :: bs
    rw [hhead, ih]

/-! ## Stages -/

theorem State.enterStage_fields (s : State) {n : Nat} (hn : n < 16) : (s.enterStage n).stage = n ∧
    (∀ k, k ≠ GLB.BOOTSTAT → (s.enterStage n).word k = s.word k) ∧ Frame [.live] s (s.enterStage n) := by
  refine ⟨?_, fun k hk => (State.word_wr_ne _ _ hk).trans (State.word_wr_ne _ _ hk), s.enterStage_frame n⟩
  exact (State.rd_wr_clear _ _ (by unfold Fld.clear; decide)).trans (State.rd_wr_self _ ⟨by decide, hn⟩)

/-- The state with the boot record `x`. -/
def State.withBoot (s : State) (x : Boot) : State := { s with boot := x }

theorem State.withBoot_boot (s : State) (x : Boot) : (s.withBoot x).boot = x := rfl
theorem State.word_withBoot (s : State) (x : Boot) (k : Nat) : (s.withBoot x).word k = s.word k := rfl
theorem State.withBoot_frame (s : State) (x : Boot) : Frame [.boot] s (s.withBoot x) := Frame.set_boot (Frame.refl _ s) rfl

/-- The versions of what is handed over to show. -/
def State.versionsShown (s : State) (version : Nat) : State := (s.freeWord.2.wr UPD.ACTVER.val version).setWord GE.LIBVER s.freeWord.1

theorem State.handOver_eq (s : State) (version : Nat) : s.handOver version =
    ((s.versionsShown version).withBoot { (s.versionsShown version).boot with watch := some (s.versionsShown version).clk.now }).enterStage 6 := rfl

theorem State.handOver_fields (s : State) (version : Nat) : (s.handOver version).stage = 6 ∧ (s.handOver version).boot.watch = some s.clk.now ∧
    (s.handOver version).rd UPD.ACTVER.val = version % 2 ^ 32 ∧ Frame [.live, .free, .boot] s (s.handOver version) := by
  have hver : (s.versionsShown version).rd UPD.ACTVER.val = version % 2 ^ 32 :=
    (State.rd_congr (State.word_setWord_ne _ _ (by decide))).trans (State.rd_wr_same _ _ _ (by decide))
  have hclk : (s.versionsShown version).clk = s.clk :=
    (((s.freeWord_frame.weaken (ps := [.live, .free]) rfl).seq (State.wr_frame ..) rfl).seq (State.setWord_frame ..) rfl).same .clk rfl
  have hframe := s.handOver_frame version
  rw [State.handOver_eq] at hframe ⊢
  generalize s.versionsShown version = u at *
  obtain ⟨hstage, hothers, hentered⟩ := (u.withBoot { u.boot with watch := some u.clk.now }).enterStage_fields (n := 6) (by decide)
  refine ⟨hstage, (congrArg Boot.watch ((hentered.same .boot rfl).trans (u.withBoot_boot _))).trans ?_,
    (State.rd_congr (hothers _ (by decide))).trans ((State.rd_congr (u.word_withBoot _ _)).trans hver), hframe⟩
  show some u.clk.now = some s.clk.now
  rw [hclk]

/-! ## Resets -/

/-- A reset leaves the fuses as they are where no burn was under way. -/
theorem State.holdReset_fuse {s : State} (h : s.upd.burn = []) : s.holdReset.fuse = s.fuse :=
  if_pos (by rw [h]; rfl)

theorem State.holdReset_held (s : State) : s.holdReset.boot.held = true := rfl

end Sys2Proof.Machine
end

section
/-!
PROOFS. Blocks of a staged image, its verification and a burn's end (R529, R530, R542, R543).
-/

namespace Sys2Proof.Machine

/-! ## A claim ends in a refusal (R529, R530) -/

/-- The claim has ended from `s` to `t` in a refusal with `code`. -/
structure ClaimRefused (code : Nat) (s t : State) : Prop where
  code : t.rd UPD.STAT.REFUSAL = code
  mark : t.flag UPD.HIST.REFUSED = true
  reported : Reported 0x0401 s t
  claim : t.claim = 0
  staging : t.staging = 4
  busy : t.upd.busy = none
  frame : Frame [.live, .evt, .upd, .out] s t

theorem ClaimRefused.of_refusal {s u : State} {code : Nat} (h : UpdRefused code s u) (hwaiting : s.upd.waiting = none) :
    ClaimRefused code s u.unclaimInvalid.judgeWaiting := by
  obtain ⟨hshown, hmark, hreported, hupd, hframe⟩ := h
  obtain ⟨hclaim, hstaging, hended, hrefusal, hothers, hfree⟩ := u.unclaimInvalid_fields
  rw [State.judgeWaiting_none ((congrArg Upd.waiting hended).trans ((congrArg Upd.waiting hupd).trans hwaiting))]
  exact ⟨hrefusal.trans hshown, (State.flag_congr (hothers UPD.HIST (by unfold recordWord; decide))).trans hmark,
    hreported.before (hothers _ (by unfold recordWord; decide)) (hothers _ (by unfold recordWord; decide)), hclaim, hstaging,
    congrArg Upd.busy hended, (hframe.weaken rfl).seq hfree rfl⟩

theorem State.refuseClaim_refused {s : State} {code : Nat} (hcode : code < 256) (hwaiting : s.upd.waiting = none) :
    ClaimRefused code s (s.refuseClaim code) := by
  unfold State.refuseClaim
  exact .of_refusal (s.updRefuse_refused (s.claim - 1) hcode) hwaiting

/-! ## Blocks (R529 to R532) -/

theorem leBytes_length (n : Nat) : (leBytes n).length = 4 := by rw [leBytes, List.length_map, List.length_range]

theorem State.wordBytes_length (s : State) (key : Nat → Nat) (n : Nat) : (s.wordBytes key n).length = 4 * n := by
  unfold State.wordBytes
  rw [List.length_flatMap, show (fun i => (leBytes (s.num (key i))).length) = fun _ => 4 from funext fun i => leBytes_length _, List.map_const',
    List.sum_replicate, List.length_range, smul_eq_mul, Nat.mul_comm]

/-- A block touches no byte outside its place. -/
theorem putBlock_outside (m : Memory) {b x : Nat} {bytes : List Byte} (hlen : bytes.length = 4096) (h : x < 4096 * b ∨ 4096 * (b + 1) ≤ x) :
    Memory.byte (putBlock m b bytes) x = Memory.byte m x := by
  have htake (bs : List Byte) (n : Nat) : (bs.take n).length ≤ bs.length := List.length_take_le' n bs
  have hdrop : (bytes.drop 512).length = 3584 := by rw [List.length_drop, hlen]
  have hhead := bytes.length_take_le 512
  unfold putBlock
  split
  · have hbody := htake (bytes.drop 512) (imageLen (Memory.setBytes m 0 (bytes.take 512)) - 512)
    exact (Memory.byte_setBytes_outside _ _ (by omega)).trans (Memory.byte_setBytes_outside _ _ (by omega))
  · have hbody := htake bytes (imageLen m - 4096 * b)
    exact Memory.byte_setBytes_outside _ _ (by omega)

/-- The block is written, and the next one is due. -/
def State.imageBlockTaken (s : State) (b : Nat) (ok : Bool) : State :=
  (s.withUpd { s.upd with busy := none, bad := s.upd.bad || !ok }).wr UPD.STAT.NEXTBLK (b + 1)

theorem State.imageBlockTaken_fields (s : State) (b : Nat) (ok : Bool) : (s.imageBlockTaken b ok).upd = { s.upd with busy := none, bad := s.upd.bad || !ok } ∧
    (s.imageBlockTaken b ok).rd UPD.STAT.NEXTBLK = (b + 1) % 2 ^ 13 ∧ (∀ k, k ≠ UPD.STAT → (s.imageBlockTaken b ok).word k = s.word k) ∧
    Frame [.live, .upd] s (s.imageBlockTaken b ok) := by
  have hframe : Frame [.upd] s (s.withUpd { s.upd with busy := none, bad := s.upd.bad || !ok }) := State.withUpd_frame rfl
  exact ⟨(State.wr_upd ..).trans (s.withUpd_upd _), State.rd_wr_same _ _ _ (by decide), fun k hk => (State.word_wr_ne _ _ hk).trans (s.word_withUpd _ k),
    (hframe.weaken rfl).seq (State.wr_frame ..) rfl⟩

/-- The bytes of the block buffer go to block `b` of the image. -/
def State.blockPut (s : State) (b : Nat) : State :=
  if s.upd.fuse || s.upd.host then s.withUpd { s.upd with image := putBlock s.upd.image b (s.wordBytes UPD.BUF 1024) }
  else s.withFlash { s.flash with staging := putBlock s.flash.staging b (s.wordBytes UPD.BUF 1024) }

theorem State.chainNext_host {s : State} (h : s.claim ≠ 3) : s.chainNext = s := if_neg fun ⟨hclaim, _⟩ => h hclaim

section
variable {s : State} {b : Nat} (ok : Bool) (hbusy : s.upd.busy = some b)
include hbusy

theorem exec_stagingBlock_refused (hapart : (s.upd.fuse || s.upd.host) = false) (hsupply : s.supplyOk = false) :
    exec (.stagingBlockWritten ok) s = .next (s.refuseClaim 3) := by
  obtain ⟨hfuse, hhost⟩ := Bool.or_eq_false_iff.mp hapart
  show execStagingBlockWritten ok s = _
  unfold execStagingBlockWritten
  rw [hbusy]
  exact congrArg _ (if_pos (by rw [hfuse, hhost, hsupply]; rfl))

theorem exec_stagingBlock_put (hgood : (s.upd.fuse || s.upd.host) = true ∨ s.supplyOk = true) (hclaim : s.claim ≠ 3) :
    exec (.stagingBlockWritten ok) s = .next ((s.blockPut b).imageBlockTaken b ok) := by
  have hbad : ¬(!s.upd.fuse && !s.upd.host && !s.supplyOk) = true := by
    rcases hgood with h | h
    · rcases Bool.or_eq_true_iff.mp h with h | h <;> simp [h]
    · simp [h]
  have hput : (s.blockPut b).claim = s.claim := by
    unfold State.blockPut
    split <;> rfl
  have hstill : ((s.blockPut b).imageBlockTaken b ok).claim ≠ 3 := fun h => hclaim (by
    rw [← hput, ← h]
    exact ((State.rd_wr_clear _ _ (by unfold Fld.clear; decide)).trans (State.rd_congr (State.word_withUpd ..))).symm)
  show execStagingBlockWritten ok s = _
  unfold execStagingBlockWritten
  rw [hbusy]
  refine congrArg _ ((if_neg hbad).trans ?_)
  dsimp only
  rw [if_neg hclaim]
  refine Eq.trans ?_ (State.chainNext_host hstill)
  exact if_neg fun ⟨h, _⟩ => hstill h

end

/-! ## Verification (R529, R553) -/

section
variable {s : State} (hstaging : s.staging = 2)
include hstaging

theorem exec_verify_bad (hbad : s.upd.bad = true) : exec .stagingVerifyDone s = .next (s.refuseClaim 0x18) :=
  congrArg _ ((if_neg (not_not.mpr hstaging)).trans (if_pos hbad))

variable (hbad : s.upd.bad = false)
include hbad

theorem exec_verify_refused (hc : s.fuse.verify s.candidate s.upd.fuse ≠ 0) :
    exec .stagingVerifyDone s = .next (s.refuseClaim (s.fuse.verify s.candidate s.upd.fuse)) :=
  congrArg _ ((if_neg (not_not.mpr hstaging)).trans ((if_neg (ne_true_of_eq_false hbad)).trans (if_pos hc)))

variable (hc : s.fuse.verify s.candidate s.upd.fuse = 0) (hfuse : s.upd.fuse = false)
include hc hfuse

theorem exec_verify_staged (hhost : s.upd.host = false) : exec .stagingVerifyDone s = .next s.staged :=
  congrArg _ ((if_neg (not_not.mpr hstaging)).trans ((if_neg (ne_true_of_eq_false hbad)).trans ((if_neg (not_not.mpr hc)).trans
    ((if_neg (ne_true_of_eq_false hfuse)).trans (if_neg (ne_true_of_eq_false hhost))))))

theorem exec_verify_host (hhost : s.upd.host = true) :
    exec .stagingVerifyDone s = .next (s.unclaim.handOver (hdrVersion (Memory.bytes s.upd.image 0 512))) :=
  congrArg _ ((if_neg (not_not.mpr hstaging)).trans ((if_neg (ne_true_of_eq_false hbad)).trans ((if_neg (not_not.mpr hc)).trans
    ((if_neg (ne_true_of_eq_false hfuse)).trans (if_pos hhost)))))

end

/-- The BOOT record and the registers show the image VERIFIED. -/
def State.stagedShown (s : State) : State := (s.withFlash (s.flash.write { s.flash.record with stage := 3 })).unclaim.sqf UPD.HIST.STAGED

/-- A partner is told of the image staged. -/
def State.stagedTold (s t : State) : State :=
  let h := Memory.bytes s.flash.staging 0 512
  if t.paired then t.emit (.pair 4 (hdrVersion h :: (slice h 0x18 48).map BitVec.toNat)) else t

theorem State.staged_eq (s : State) : s.staged =
    (s.stagedTold (s.stagedShown.report 0x0402 (s.claim - 1) (hdrVersion (Memory.bytes s.flash.staging 0 512)))).judgeWaiting := rfl

theorem State.stagedTold_fields (s t : State) : (∀ k, (s.stagedTold t).word k = t.word k) ∧ Frame [.out] t (s.stagedTold t) := by
  unfold State.stagedTold
  dsimp only
  split
  · exact ⟨fun k => State.word_emit .., State.emit_frame ..⟩
  · exact ⟨fun _ => rfl, Frame.refl _ t⟩

/-- Only the registers of a claim's end have changed, and the image is VERIFIED. -/
theorem State.stagedShown_fields (s : State) : s.stagedShown.claim = 0 ∧ s.stagedShown.staging = 3 ∧ s.stagedShown.flag UPD.HIST.STAGED = true ∧
    s.stagedShown.flash = s.flash.write { s.flash.record with stage := 3 } ∧ s.stagedShown.upd = s.upd.ended ∧
    (∀ k, ¬ recordWord k → k ≠ UPD.HIST → s.stagedShown.word k = s.word k) := by
  obtain ⟨hclaim, hstaging, hupd, -, hothers, hframe⟩ := (s.withFlash (s.flash.write { s.flash.record with stage := 3 })).unclaim_fields
  have hflash := hframe.same .flash rfl
  rw [State.withFlash_flash, Flash.record_write] at hstaging
  rw [State.withFlash_upd] at hupd
  refine ⟨(State.rd_sqf_clear _ (by decide)).trans hclaim, (State.rd_sqf_clear _ (by decide)).trans hstaging, State.flag_sqf_self _ (by decide),
    ((State.sqf_frame ..).same .flash rfl).trans (hflash.trans (State.withFlash_flash ..)), (State.sqf_upd ..).trans hupd, fun k hk hh => ?_⟩
  exact (State.word_sqf_ne _ hh).trans ((hothers k hk).trans (s.word_withFlash _ k))

theorem State.staged_fields {s : State} (hwaiting : s.upd.waiting = none) : s.staged.flash.record.stage = 3 ∧ s.staged.staging = 3 ∧ s.staged.claim = 0 ∧
    s.staged.flag UPD.HIST.STAGED = true ∧ s.staged.flash.staging = s.flash.staging ∧ s.staged.flash.active = s.flash.active ∧
    Reported 0x0402 s s.staged ∧ Frame [.live, .evt, .flash, .upd, .out] s s.staged := by
  obtain ⟨hclaim, hstaging, hmark, hflash, hupd, hothers⟩ := s.stagedShown_fields
  obtain ⟨hactive, hstaged⟩ := s.flash.write_partitions { s.flash.record with stage := 3 }
  have hall := s.staged_frame
  have hrecord := congrArg BootRec.stage (s.flash.record_write { s.flash.record with stage := 3 })
  have hreport := s.stagedShown.report_frame 0x0402 (s.claim - 1) (hdrVersion (Memory.bytes s.flash.staging 0 512))
  have hreported : Reported 0x0402 s (s.stagedShown.report 0x0402 (s.claim - 1) (hdrVersion (Memory.bytes s.flash.staging 0 512))) :=
    (State.report_reported _ _ _ _ (by decide)).after (hothers _ (by unfold recordWord; decide) (by decide))
      (hothers _ (by unfold recordWord; decide) (by decide))
  have hword (k : Nat) (hk : reportSpares k) := s.stagedShown.report_word (code := 0x0402) (s.claim - 1)
    (hdrVersion (Memory.bytes s.flash.staging 0 512)) hk.not_reportKey (by decide)
  rw [State.staged_eq] at hall ⊢
  generalize s.stagedShown.report 0x0402 (s.claim - 1) (hdrVersion (Memory.bytes s.flash.staging 0 512)) = u at *
  obtain ⟨htold, hsent⟩ := s.stagedTold_fields u
  have hboth := (hreport.weaken (ps := [.live, .evt, .out]) rfl).seq hsent rfl
  have hshown (k : Nat) (hk : reportSpares k) : (s.stagedTold u).word k = s.stagedShown.word k := (htold k).trans (hword k hk)
  rw [State.judgeWaiting_none (by rw [hboth.same .upd rfl, hupd]; exact hwaiting)] at hall ⊢
  have hmem : (s.stagedTold u).flash = _ := (hboth.same .flash rfl).trans hflash
  rw [hmem]
  exact ⟨hrecord, (State.rd_congr (hshown _ (by unfold reportSpares; decide))).trans hstaging,
    (State.rd_congr (hshown _ (by unfold reportSpares; decide))).trans hclaim,
    (State.flag_congr (hshown UPD.HIST (by unfold reportSpares; decide))).trans hmark,
    hstaged, hactive, hreported.before (htold _) (htold _), hall⟩

/-! ## The end of a burn (R542, R543, R545) -/

/-- The fuses are burnt. -/
def State.burnt (s : State) : State :=
  let t : State := { s with fuse := s.fuse.burnAll s.upd.burn, upd := { s.upd with burn := [] } }
  if t.fuse.lc = 4 then t.withRet Retention.reset else t

theorem State.burnt_fields (s : State) : s.burnt.fuse = s.fuse.burnAll s.upd.burn ∧ s.burnt.upd.burn = [] ∧ s.burnt.flash = s.flash ∧
    s.burnt.ret = if (s.fuse.burnAll s.upd.burn).lc = 4 then Retention.reset else s.ret := by
  unfold State.burnt
  dsimp only
  split
  · exact ⟨rfl, rfl, rfl, rfl⟩
  · exact ⟨rfl, rfl, rfl, rfl⟩

theorem exec_fuseBurnDone {s : State} (h : s.staging = 6) :
    exec .fuseBurnDone s = .next (s.burnt.report 0x0405 (s.claim - 1) s.burnt.fuse.lcWord).holdReset :=
  congrArg _ (if_pos h)

/-- Settles O55: a block, a verification and a burn each end as the lemma of its outcome says. -/
theorem stagedBlocksVerificationAndBurns : Obligations.StagedBlocksVerificationAndBurns := by
  unfold Obligations.StagedBlocksVerificationAndBurns
  intro ok b s apart bytes c refused
  have hrefused {code : Nat} {t : State} (ht : ClaimRefused code s t) : refused t code ∧ Frame [.live, .evt, .upd, .out] s t :=
    ⟨⟨ht.code, ht.mark, ht.reported, ht.claim, ht.staging, ht.busy, ht.frame.same .flash rfl, ht.frame.same .fuse rfl⟩, ht.frame⟩
  refine ⟨fun hbusy hwaiting hclaim => ⟨fun hapart hsupply => ⟨_, exec_stagingBlock_refused ok hbusy hapart hsupply, ?_⟩,
    fun hapart hsupply => ⟨_, exec_stagingBlock_put ok hbusy (.inr hsupply) hclaim, ?_⟩,
    fun hapart => ⟨_, exec_stagingBlock_put ok hbusy (.inl hapart) hclaim, ?_⟩⟩,
    fun hstaging hwaiting => ⟨fun hbad => ⟨_, exec_verify_bad hstaging hbad, hrefused (State.refuseClaim_refused (by decide) hwaiting)⟩,
      fun hbad => ?_⟩,
    fun hstaging => ⟨_, exec_fuseBurnDone hstaging, ?_⟩⟩
  · exact hrefused (State.refuseClaim_refused (by decide) hwaiting)
  · obtain ⟨hupd, hnext, hothers, hframe⟩ := (s.blockPut b).imageBlockTaken_fields b ok
    have hput : s.blockPut b = s.withFlash { s.flash with staging := putBlock s.flash.staging b bytes } := if_neg (ne_true_of_eq_false hapart)
    have hflashed : Frame [.flash] s (s.withFlash { s.flash with staging := putBlock s.flash.staging b bytes }) :=
      Frame.set_flash (Frame.refl _ s) (fun hactive hstaging => ⟨hactive, Memory.wf_putBlock _ _ _ hstaging⟩) rfl
    rw [hput] at hupd hothers hframe hnext ⊢
    have hflash := (hframe.same .flash rfl).trans (s.withFlash_flash _)
    refine ⟨hflash, fun x hx => ?_, hupd, hnext, fun k hk => (hothers k hk).trans (s.word_withFlash _ k), (hflashed.weaken rfl).seq hframe rfl⟩
    rw [hflash]
    exact putBlock_outside _ (s.wordBytes_length ..) hx
  · obtain ⟨hupd, hnext, hothers, hframe⟩ := (s.blockPut b).imageBlockTaken_fields b ok
    have hput : s.blockPut b = s.withUpd { s.upd with image := putBlock s.upd.image b bytes } := if_pos hapart
    have himage : Frame [.upd] s (s.withUpd { s.upd with image := putBlock s.upd.image b bytes }) :=
      Frame.set_upd (Frame.refl _ s) (fun hwf => Memory.wf_putBlock _ _ _ hwf) rfl
    rw [hput] at hupd hothers hframe hnext ⊢
    exact ⟨hupd, hnext, fun k hk => (hothers k hk).trans (s.word_withUpd _ k), (himage.weaken rfl).seq hframe rfl⟩
  · by_cases hc : c = 0
    · cases hfuse : s.upd.fuse with
      | true => exact ⟨_, rfl, fun hne => absurd hc hne, fun _ hapart => by simp [apart, hfuse] at hapart, fun _ hnot => by simp at hnot⟩
      | false =>
        cases hhost : s.upd.host with
        | true =>
          obtain ⟨-, -, -, -, -, hframe⟩ := s.unclaim_fields
          obtain ⟨hstage, hwatch, hver, hover⟩ := s.unclaim.handOver_fields (hdrVersion (Memory.bytes s.upd.image 0 512))
          refine ⟨_, exec_verify_host hstaging hbad hc hfuse hhost, fun hne => absurd hc hne, fun _ hapart => by simp [apart, hhost] at hapart,
            fun _ _ _ => ⟨hstage, hwatch.trans ?_, hver, (hover.same .flash rfl).trans (hframe.same .flash rfl)⟩⟩
          rw [hframe.same .clk rfl]
        | false =>
          exact ⟨_, exec_verify_staged hstaging hbad hc hfuse hhost, fun hne => absurd hc hne, fun _ _ => State.staged_fields hwaiting,
            fun _ _ hnot => by simp at hnot⟩
    · exact ⟨_, exec_verify_refused hstaging hbad hc, fun _ => hrefused (State.refuseClaim_refused (Fuses.verify_lt ..) hwaiting),
        fun hzero => absurd hzero hc, fun hzero => absurd hzero hc⟩
  · obtain ⟨hboot, hflash, hret, hothers⟩ := (s.burnt.report 0x0405 (s.claim - 1) s.burnt.fuse.lcWord).holdReset_kept
    obtain ⟨hfuse, hburn, hkept, hretention⟩ := s.burnt_fields
    have hframe := s.burnt.report_frame 0x0405 (s.claim - 1) s.burnt.fuse.lcWord
    refine ⟨(State.holdReset_fuse ((congrArg Upd.burn (hframe.same .upd rfl)).trans hburn)).trans ((hframe.same .fuse rfl).trans hfuse),
      State.holdReset_held _, hflash.trans ((hframe.same .flash rfl).trans hkept), hret.trans ((hframe.same .ret rfl).trans hretention), hothers⟩

end Sys2Proof.Machine
end

section
/-!
PROOFS. The owner's lock, the rollback count and the partner's report (R528, R540, R549).
-/

namespace Sys2Proof.Machine

/-! ## The owner's lock (R549) -/

/-- OWNER_LOCK and LOCKSEQ were set from `s` to `t`, and nothing else. -/
structure OwnerSet (owner : Bool) (seq : Nat) (s t : State) : Prop where
  shown : t.flag UPD.CTL.OWNER = owner
  owner : t.flash.record.owner = owner
  lockseq : t.flash.record.lockseq = seq
  count : t.rd UPD.LOCKSEQ.val = seq
  active : t.flash.active = s.flash.active
  staging : t.flash.staging = s.flash.staging
  words : ∀ k, k ≠ UPD.CTL → k ≠ UPD.LOCKSEQ → t.word k = s.word k
  frame : Frame [.live, .flash] s t

theorem State.setOwner_set (s : State) (owner : Bool) {seq : Nat} (hseq : seq < 2 ^ 32) : OwnerSet owner seq s (s.setOwner owner seq) := by
  obtain ⟨hactive, hstaging⟩ := s.flash.write_partitions { s.flash.record with owner := owner, lockseq := seq }
  have hrecord := s.flash.record_write { s.flash.record with owner := owner, lockseq := seq }
  have hframe := s.setOwner_frame owner seq
  have heq : s.setOwner owner seq =
      ((s.withFlash (s.flash.write { s.flash.record with owner := owner, lockseq := seq })).wrFlag UPD.CTL.OWNER owner).wr UPD.LOCKSEQ.val seq := rfl
  rw [heq] at hframe ⊢
  have hflash (f : Flash) : (((s.withFlash f).wrFlag UPD.CTL.OWNER owner).wr UPD.LOCKSEQ.val seq).flash = f := by
    rw [State.wr_flash, State.wrFlag_flash, State.withFlash_flash]
  refine ⟨?_, ?_, ?_, State.rd_wr_self _ ⟨by decide, hseq⟩, ?_, ?_, fun k hctl hlock => ?_, hframe⟩
  · exact (State.flag_wr_clear _ _ ⟨by decide, .inl (by decide)⟩).trans (State.flag_wrFlag_self _ _ (by decide))
  · rw [hflash, hrecord]
  · rw [hflash, hrecord]
  · rw [hflash, hactive]
  · rw [hflash, hstaging]
  · exact (State.word_wr_ne _ _ hlock).trans ((State.word_wrFlag_ne _ _ hctl).trans (s.word_withFlash _ k))

theorem regMasks_updCtl : RegMasks UPD.CTL 0xC0000000 0 := ⟨_, _, rfl, rfl, rfl, rfl, rfl⟩

theorem regMasks_updArb : RegMasks UPD.ARB 0 0 := ⟨_, _, rfl, rfl, rfl, rfl, rfl⟩

theorem State.upd_unitRefuses (s : State) (w : Word) (v : Nat) (direct : Bool) :
    s.unitRefuses UPD.CTL w v direct = false ∧ s.unitRefuses UPD.ARB w v direct = false := by
  unfold State.unitRefuses
  exact ⟨rfl, rfl⟩

theorem State.act_updCtl (s : State) (i v : Nat) (old : Word) : s.act i UPD.CTL v old true = s.updCtlWrite i v := by
  unfold State.act
  exact (if_neg (by decide)).trans (if_pos rfl)

theorem State.act_updArb {s : State} {v : Nat} (hadvance : bit v 0 = true) (i : Nat) (old : Word) : s.act i UPD.ARB v old true = s.rollbackAdvance i := by
  unfold State.act
  exact (if_neg (by decide)).trans ((if_neg (by decide)).trans ((if_neg (by decide)).trans
    ((if_neg fun ⟨h, _⟩ => absurd h (by decide)).trans (if_pos ⟨rfl, hadvance⟩))))

/-- The state in which a write of CTL acts: SHOW and LIVE_STAGE are taken. -/
def State.ctlTaken (s : State) (v : Nat) : State := s.rwWritten UPD.CTL (BitVec.ofNat 32 v) 0xC0000000

theorem State.ctlTaken_word (s : State) (v : Nat) {k : Nat} (h : k ≠ UPD.CTL) : (s.ctlTaken v).word k = s.word k := s.word_rwWritten_ne _ _ h

theorem State.ctlTaken_frame (s : State) (v : Nat) : Frame [.live] s (s.ctlTaken v) := s.rwWritten_frame ..

theorem State.regCommand_updCtl {s : State} {i : Iface} {v : Nat} (hv : v < 2 ^ 32) (h : s.hostReaches i UPD.CTL = true) :
    s.regCommand i UPD.CTL v = (s.ctlTaken v).updCtlWrite (ifaceNumber i) v := by
  refine State.regCommand_reached ⟨by decide, by decide, by decide⟩ h ((State.regWrite_rw _ _ regMasks_updCtl (by decide)
    (State.upd_unitRefuses ..).1 (by decide) fun _ => State.setModes_unwatched _ _ (by decide) (by decide) (by decide) (by decide)).trans ?_)
  rw [State.act_updCtl, BitVec.toNat_ofNat, Nat.mod_eq_of_lt hv, State.ctlTaken]

section
variable {s : State} {v : Nat} (i : Nat)

theorem State.updCtlWrite_set (hset : bit v 28 = true) (hunlock : bit v 27 = false) : s.updCtlWrite i v = s.ownerSet := by
  unfold State.updCtlWrite
  simp only [hset, hunlock, Bool.false_eq_true, if_true, if_false]

theorem State.updCtlWrite_unlock (hset : bit v 28 = false) (hunlock : bit v 27 = true) : s.updCtlWrite i v = s.unlock i := by
  unfold State.updCtlWrite
  simp only [hset, hunlock, Bool.false_eq_true, if_true, if_false]

end

theorem exec_ownerset {i : Iface} {s : State} {v : Nat} (hv : v < 2 ^ 32) (h : s.hostReaches i UPD.CTL = true) (hunlock : v.testBit 27 = false) :
    exec (.ownerset i v) s = .next (s.ctlTaken (v ||| 2 ^ 28)).ownerSet := by
  refine congrArg _ ((State.regCommand_updCtl (or_lt_word hv (by decide)) h).trans ?_)
  exact State.updCtlWrite_set _ (bit_or_self ..) ((bit_or_ne _ (by decide)).trans hunlock)

theorem exec_unlock {i : Iface} {s : State} {v : Nat} (hv : v < 2 ^ 32) (h : s.hostReaches i UPD.CTL = true) (hset : v.testBit 28 = false) :
    exec (.unlock i v) s = .next ((s.ctlTaken (v ||| 2 ^ 27)).unlock (ifaceNumber i)) := by
  refine congrArg _ ((State.regCommand_updCtl (or_lt_word hv (by decide)) h).trans ?_)
  exact State.updCtlWrite_unlock _ ((bit_or_ne _ (by decide)).trans hset) (bit_or_self ..)

/-- The token is good: a live slot's key has signed it for this part and this LOCKSEQ. -/
def State.tokenGood (s : State) : Bool :=
  s.slotKey && s.signed (ascii4 0x55 0x4E 0x4C 0x4B ++ leBytes (s.num GLB.ID) ++ leBytes (s.rd UPD.LOCKSEQ.val))

theorem State.unlock_good {s : State} (i : Nat) (h : s.tokenGood = true) : s.unlock i = s.setOwner false ((s.rd UPD.LOCKSEQ.val + 1) % 2 ^ 32) := if_pos h

theorem State.unlock_bad {s : State} (i : Nat) (h : s.tokenGood = false) : s.unlock i = s.updRefuse i 2 := if_neg (ne_true_of_eq_false h)

/-- A string in words other than CTL. -/
theorem State.ctlTaken_wordBytes (s : State) (v : Nat) {key : Nat → Nat} {n : Nat} (h : ∀ j, j < n → key j ≠ UPD.CTL) :
    (s.ctlTaken v).wordBytes key n = s.wordBytes key n :=
  List.flatMap_congr fun j hj => congrArg (fun w : Word => leBytes w.toNat) (s.ctlTaken_word v (h j (List.mem_range.mp hj)))

theorem State.ctlTaken_tokenGood (s : State) (v : Nat) : (s.ctlTaken v).tokenGood = s.tokenGood := by
  have hpub : (s.ctlTaken v).wordBytes SEC.SIGPUB 24 = s.wordBytes SEC.SIGPUB 24 := s.ctlTaken_wordBytes v fun j hj => by
    simp only [SEC.SIGPUB, UPD.CTL]
    omega
  have hsig : (s.ctlTaken v).wordBytes SEC.SIGVAL 24 = s.wordBytes SEC.SIGVAL 24 := s.ctlTaken_wordBytes v fun j hj => by
    simp only [SEC.SIGVAL, UPD.CTL]
    omega
  have hid : (s.ctlTaken v).num GLB.ID = s.num GLB.ID := congrArg BitVec.toNat (s.ctlTaken_word v (by decide))
  have hseq : (s.ctlTaken v).rd UPD.LOCKSEQ.val = s.rd UPD.LOCKSEQ.val := State.rd_congr (s.ctlTaken_word v (by decide))
  unfold State.tokenGood State.slotKey State.signed
  rw [hpub, hsig, hid, hseq, (s.ctlTaken_frame v).same .fuse rfl]

theorem OwnerSet.after {owner : Bool} {seq : Nat} {s u t : State} (h : OwnerSet owner seq u t) (hframe : Frame [.live] s u)
    (hword : ∀ k, k ≠ UPD.CTL → u.word k = s.word k) : OwnerSet owner seq s t := by
  have hflash := hframe.same .flash rfl
  obtain ⟨hshown, howner, hlock, hcount, hactive, hstaging, hothers, hset⟩ := h
  exact ⟨hshown, howner, hlock, hcount, hactive.trans (congrArg Flash.active hflash), hstaging.trans (congrArg Flash.staging hflash),
    fun k hctl hseq => (hothers k hctl hseq).trans (hword k hctl), (hframe.weaken rfl).trans hset⟩

/-! ## The rollback count (R540) -/

theorem exec_rollbackAdvance {i : Iface} {s : State} (h : s.hostReaches i UPD.ARB = true) :
    exec (.rollbackAdvance i) s = .next (s.rollbackAdvance (ifaceNumber i)) := by
  refine congrArg _ (State.regCommand_reached ⟨by decide, by decide, by decide⟩ h ?_)
  rw [State.regWrite_command _ _ regMasks_updArb (State.upd_unitRefuses ..).2]
  exact State.act_updArb (by decide) _ _

/-- The state with the fuses `f`. -/
def State.withFuse (s : State) (f : Fuses) : State := { s with fuse := f }

theorem State.withFuse_fuse (s : State) (f : Fuses) : (s.withFuse f).fuse = f := rfl
theorem State.word_withFuse (s : State) (f : Fuses) (k : Nat) : (s.withFuse f).word k = s.word k := rfl
theorem State.withFuse_frame (s : State) (f : Fuses) : Frame [.fuse] s (s.withFuse f) := Frame.set_fuse (Frame.refl _ s) rfl

/-- The fused count, raised to the ACTIVE image's. -/
def State.rollbackCount (s : State) : Nat := max s.fuse.rollback (min (leWord (Memory.bytes s.flash.active 0 512) 0x10 % 2 ^ 7) 64)

theorem State.rollbackAdvance_good {s : State} (i : Nat) (h : s.supplyOk = true) :
    s.rollbackAdvance i = (s.withFuse { s.fuse with rollback := s.rollbackCount }).setNum SEC.LC { s.fuse with rollback := s.rollbackCount }.lcWord :=
  if_pos h

theorem State.withFuse_setNum (s : State) (f : Fuses) : let t := (s.withFuse f).setNum SEC.LC f.lcWord
    t.fuse = f ∧ t.word SEC.LC = BitVec.ofNat 32 t.fuse.lcWord ∧ (∀ k, k ≠ SEC.LC → t.word k = s.word k) ∧ Frame [.live, .fuse] s t := by
  have hframe := (s.withFuse f).setNum_frame SEC.LC f.lcWord
  have hfuse := (hframe.same .fuse rfl).trans (s.withFuse_fuse f)
  refine ⟨hfuse, ?_, fun k hk => (State.word_setNum_ne _ _ hk).trans (s.word_withFuse f k), ((s.withFuse_frame f).weaken rfl).seq hframe rfl⟩
  rw [hfuse]
  exact State.word_setWord_same ..

theorem exec_partnerStagingReport {s : State} (version : Nat) (hash : List Nat) (h : s.paired = true) :
    exec (.partnerStagingReport version hash) s = .next (s.withUpd { s.upd with partner := some (version, hash.map (BitVec.ofNat 8)) }) :=
  congrArg _ (if_pos h)

/-- Settles O56: CTL's commands act in the state with its RW fields taken, where the token's verdict is the same; one lemma per outcome. -/
theorem ownerLockRollbackAndPartner : Obligations.OwnerLockRollbackAndPartner := by
  unfold Obligations.OwnerLockRollbackAndPartner
  intro i v version hash s good count refused owner
  have howner {b : Bool} {seq : Nat} {t : State} (ht : OwnerSet b seq s t) : owner t b seq :=
    ⟨ht.shown, ht.owner, ht.lockseq, ht.count, ht.active, ht.staging, ht.words, ht.frame⟩
  have hrefused {code : Nat} {t : State} (ht : UpdRefused code s t) : refused t code := ⟨ht.code, ht.mark, ht.reported, ht.frame⟩
  have hseq (w : Nat) : (s.ctlTaken w).rd UPD.LOCKSEQ.val = s.rd UPD.LOCKSEQ.val := State.rd_congr (s.ctlTaken_word w (by decide))
  have hlt : s.rd UPD.LOCKSEQ.val < 2 ^ 32 := s.rd_lt _
  refine ⟨fun hv hreach => ⟨fun hbit => ⟨_, exec_ownerset hv hreach hbit, ?_⟩,
      fun hbit => ⟨_, exec_unlock hv hreach hbit, fun hgood => ?_, fun hbad => ?_⟩⟩,
    fun hreach => ⟨fun hsupply => ⟨_, exec_rollbackAdvance hreach, ?_⟩, fun hsupply => ⟨_, exec_rollbackAdvance hreach, ?_⟩⟩,
    fun hpaired => ⟨_, exec_partnerStagingReport version hash hpaired, State.withUpd_upd .., State.withUpd_frame rfl⟩⟩
  · unfold State.ownerSet
    rw [hseq]
    exact howner ((State.setOwner_set _ _ hlt).after (s.ctlTaken_frame _) fun k hk => s.ctlTaken_word _ hk)
  · rw [State.unlock_good _ ((s.ctlTaken_tokenGood _).trans hgood), hseq]
    exact howner ((State.setOwner_set _ _ (Nat.mod_lt _ (by decide))).after (s.ctlTaken_frame _) fun k hk => s.ctlTaken_word _ hk)
  · rw [State.unlock_bad _ ((s.ctlTaken_tokenGood _).trans hbad)]
    refine hrefused ((State.updRefuse_refused _ _ (by decide)).after (s.ctlTaken_frame _) fun j hj => s.ctlTaken_word _ fun he => ?_)
    rw [he] at hj
    exact absurd hj (by decide)
  · rw [State.rollbackAdvance_good _ hsupply]
    exact s.withFuse_setNum _
  · have heq : s.rollbackAdvance (ifaceNumber i) = s.updRefuse (ifaceNumber i) 3 := if_neg (ne_true_of_eq_false hsupply)
    rw [heq]
    exact hrefused (s.updRefuse_refused _ (by decide))

end Sys2Proof.Machine
end

section
/-!
PROOFS. The update chain: polls, the header's reply, chunks, their timeouts, and what a neighbour is answered (R533 to R536).
-/

namespace Sys2Proof.Machine

/-! ## Polls and requests of a neighbour (R533, R535) -/

theorem exec_chainPoll {s : State} (hrun : s.runtime = true) (hen : s.flag UPD.CHAINCFG.EN = true)
    (hdue : s.upd.polledAt + s.rd UPD.POLL.val * 10 ^ 9 ≤ s.clk.now) :
    exec .chainPoll s = .next ((s.withUpd { s.upd with polledAt := s.clk.now }).emit (.chain s.chainTo (chainBytes 1 0 []))) :=
  congrArg _ (if_pos (by rw [hrun, hen, decide_eq_true hdue]; rfl))

section
variable {s : State} (head : Bool) (k : Nat) (hrun : s.runtime = true)
include hrun

theorem exec_chainRequest_data (hready : s.flash.record.stage = 3 ∨ s.flash.record.stage = 5) : exec (.chainRequest head k) s =
    .next (s.emit (.chain [] (if head then chainReply 3 0 (Memory.bytes s.flash.staging 0 512)
      else chainReply 3 k (Memory.bytes s.flash.staging (1024 * k) (min 1024 (imageLen s.flash.staging - 1024 * k)))))) :=
  congrArg _ ((if_neg (by rw [hrun]; decide)).trans (if_pos hready))

theorem exec_chainRequest_notReady (hnot : ¬(s.flash.record.stage = 3 ∨ s.flash.record.stage = 5)) : exec (.chainRequest head k) s =
    .next (s.emit (.chain [] (chainReply 4 (if head then 0 else k) []))) :=
  congrArg _ ((if_neg (by rw [hrun]; decide)).trans (if_neg hnot))

end

/-! ## Chunks are asked for (R533) -/

/-- What UPD's record holds after chunk `k` is asked for at `now`. -/
def Upd.asking (u : Upd) (k fails now : Nat) : Upd := { u with asked := Store.insert u.asked k (fails, now) }

theorem State.askChunk_eq (s : State) (k fails : Nat) :
    s.askChunk k fails = (s.withUpd (s.upd.asking k fails s.clk.now)).emit (.chain s.chainTo (chainBytes 2 k [])) := rfl

theorem State.askChunk_fields (s : State) (k fails : Nat) : (s.askChunk k fails).upd = s.upd.asking k fails s.clk.now ∧
    (s.askChunk k fails).out = .chain s.chainTo (chainBytes 2 k []) :: s.out ∧ (∀ j, (s.askChunk k fails).word j = s.word j) := by
  rw [State.askChunk_eq]
  exact ⟨(State.emit_upd ..).trans (s.withUpd_upd _), rfl, fun j => (State.word_emit ..).trans (s.word_withUpd _ j)⟩

/-- One more chunk is asked for. -/
def State.askNext (s : State) : State :=
  (s.askChunk s.upd.next 0).withUpd { (s.askChunk s.upd.next 0).upd with next := (s.askChunk s.upd.next 0).upd.next + 1 }

theorem State.askNext_fields (s : State) : s.askNext.upd = { s.upd.asking s.upd.next 0 s.clk.now with next := s.upd.next + 1 } ∧
    s.askNext.clk = s.clk ∧ ∀ j, s.askNext.word j = s.word j := by
  obtain ⟨hupd, -, hword⟩ := s.askChunk_fields s.upd.next 0
  have hframe := s.askChunk_frame s.upd.next 0
  refine ⟨(State.withUpd_upd ..).trans ?_, hframe.same .clk rfl, fun j => (State.word_withUpd ..).trans (hword j)⟩
  rw [hupd]
  rfl

theorem State.askChunks_succ (s : State) (n m : Nat) : s.askChunks n (m + 1) =
    if (s.askChunks n m).upd.asked.length < 8 ∧ (s.askChunks n m).upd.next * 1024 < n then (s.askChunks n m).askNext else s.askChunks n m := rfl

/-- From `s` to `t` chunks from `next` on were asked for, at `s`'s time. -/
structure ChunksAsked (s t : State) : Prop where
  clk : t.clk = s.clk
  words : ∀ j, t.word j = s.word j
  upd : ∃ asked next, t.upd = { s.upd with asked := asked, next := next }
  forward : s.upd.next ≤ t.upd.next
  before : ∀ j, j < s.upd.next ∨ t.upd.next ≤ j → Store.find t.upd.asked j = Store.find s.upd.asked j
  asked : ∀ j, s.upd.next ≤ j → j < t.upd.next → Store.find t.upd.asked j = some (0, s.clk.now)

theorem ChunksAsked.refl (s : State) : ChunksAsked s s := ⟨rfl, fun _ => rfl, ⟨_, _, rfl⟩, Nat.le_refl _, fun _ _ => rfl, fun _ _ _ => by omega⟩

theorem ChunksAsked.askNext {s t : State} (h : ChunksAsked s t) : ChunksAsked s t.askNext := by
  obtain ⟨hclk, hwords, ⟨asked, next, hupd⟩, hforward, hbefore, hasked⟩ := h
  obtain ⟨hnext, hnow, hkept⟩ := t.askNext_fields
  have hnextNum : t.askNext.upd.next = t.upd.next + 1 := congrArg Upd.next hnext
  have hstore : t.askNext.upd.asked = Store.insert t.upd.asked t.upd.next (0, t.clk.now) := congrArg Upd.asked hnext
  refine ⟨hnow.trans hclk, fun j => (hkept j).trans (hwords j), ⟨t.askNext.upd.asked, t.askNext.upd.next, ?_⟩, by omega, fun j hj => ?_,
    fun j hlo hhi => ?_⟩
  · rw [hnext, hupd]
    rfl
  · rw [hstore, Store.find_insert_ne _ _ (by omega)]
    exact hbefore j (by omega)
  · by_cases hj : j = t.upd.next
    · rw [hj, hstore, Store.find_insert_same, hclk]
    · rw [hstore, Store.find_insert_ne _ _ hj]
      exact hasked j hlo (by omega)

theorem State.askChunks_asked (s : State) (n m : Nat) : ChunksAsked s (s.askChunks n m) := by
  induction m with
  | zero => exact .refl s
  | succ m ih =>
    rw [State.askChunks_succ]
    split
    · exact ih.askNext
    · exact ih

/-- A step asks for at most one chunk. -/
theorem State.askChunks_next_le (s : State) (n m : Nat) : (s.askChunks n (m + 1)).upd.next ≤ (s.askChunks n m).upd.next + 1 := by
  rw [State.askChunks_succ]
  split
  · exact le_of_eq (congrArg Upd.next (State.askNext_fields _).1)
  · exact Nat.le_succ _

theorem State.askChunks_next_mono (s : State) (n m : Nat) : (s.askChunks n m).upd.next ≤ (s.askChunks n (m + 1)).upd.next := by
  rw [State.askChunks_succ]
  split
  · exact (Nat.le_succ _).trans (le_of_eq (congrArg Upd.next (State.askNext_fields _).1).symm)
  · exact Nat.le_refl _

/-- With nothing asked for yet, the first chunk is asked for. -/
theorem State.askChunks_first {s : State} {n m : Nat} (hasked : s.upd.asked = []) (hnext : s.upd.next = 0) (hn : 0 < n) (hm : 1 ≤ m) :
    1 ≤ (s.askChunks n m).upd.next := by
  induction m, hm using Nat.le_induction with
  | base =>
    have hdue : (s.askChunks n 0).upd.asked.length < 8 ∧ (s.askChunks n 0).upd.next * 1024 < n := by
      show s.upd.asked.length < 8 ∧ s.upd.next * 1024 < n
      rw [hasked, hnext]
      exact ⟨by decide, by omega⟩
    rw [State.askChunks_succ, if_pos hdue, congrArg Upd.next (State.askNext_fields _).1]
    exact Nat.succ_le_succ (Nat.zero_le _)
  | succ m _ ih => exact ih.trans (s.askChunks_next_mono n m)

/-! ## The header's reply (R533, R536) -/

/-- A newer header has come. -/
structure HeadNewer (s : State) (h : List Byte) : Prop where
  runs : s.runtime = true
  enabled : s.flag UPD.CHAINCFG.EN = true
  active : s.rd UPD.ACTVER.val < hdrVersion h
  staged : s.rd UPD.STGVER.val < hdrVersion h

/-- The chain's fetch begins with the header `h`. -/
def State.fetchBegun (s : State) (h : List Byte) : State :=
  (s.claimStaging 2 h).withUpd { (s.claimStaging 2 h).upd with image := Memory.setBytes [] 0 (h.take 512) }

section
variable {s : State} {header : List Nat} {h : List Byte} (hh : header.map (BitVec.ofNat 8) = h) (hnew : HeadNewer s h)
include hh hnew

theorem exec_chainHeadReply : exec (.chainHeadReply header) s = .next (
    if s.claim ≠ 0 then s.updRefuse 2 6
    else if s.updJudge 2 h ≠ 0 then s.updRefuse 2 (s.updJudge 2 h)
    else (s.fetchBegun h).askChunks (512 + hdrLen h) 8) := by
  obtain ⟨hrun, hen, hactive, hstaged⟩ := hnew
  subst hh
  exact congrArg _ (if_pos (by rw [hrun, hen, decide_eq_true hactive, decide_eq_true hstaged]; rfl))

end

theorem State.fetchBegun_fields (s : State) (h : List Byte) : (s.fetchBegun h).claim = 3 ∧ (s.fetchBegun h).staging = 1 ∧
    (s.fetchBegun h).rd UPD.STAT.NEXTBLK = 0 ∧ (s.fetchBegun h).upd.image = Memory.setBytes [] 0 (h.take 512) ∧ (s.fetchBegun h).upd.asked = [] ∧
    (s.fetchBegun h).upd.next = 0 ∧ (s.fetchBegun h).flash.active = s.flash.active ∧ (s.fetchBegun h).clk = s.clk ∧
    Frame [.live, .flash, .upd] s (s.fetchBegun h) := by
  obtain ⟨hclaim, hstaging, hnext, ⟨fuse, host, hupd⟩, hflash, hframe⟩ := s.claimStaging_fields h (src := 2) (by decide)
  have himage : Frame [.upd] (s.claimStaging 2 h) (s.fetchBegun h) :=
    Frame.set_upd (Frame.refl _ _) (fun _ => Memory.wf_setBytes _ _ _ (Store.wf_nil _)) rfl
  have hall := hframe.seq himage rfl
  have hword (f : Fld) : (s.fetchBegun h).rd f = (s.claimStaging 2 h).rd f := State.rd_congr (State.word_withUpd ..)
  refine ⟨(hword _).trans hclaim, (hword _).trans hstaging, (hword _).trans hnext, congrArg Upd.image (State.withUpd_upd ..),
    (congrArg Upd.asked (State.withUpd_upd ..)).trans (congrArg Upd.asked hupd), (congrArg Upd.next (State.withUpd_upd ..)).trans (congrArg Upd.next hupd),
    (congrArg Flash.active ((himage.same .flash rfl).trans hflash)).trans (s.claimFlash_fields h).1, hall.same .clk rfl, hall⟩

/-- The fetch has begun, and its first chunk is asked for. -/
theorem State.fetch_started (s : State) (h : List Byte) {t : State} (hasks : ChunksAsked (s.fetchBegun h) t) (hone : 1 ≤ t.upd.next)
    (hsent : Frame [.upd, .out] (s.fetchBegun h) t) : t.claim = 3 ∧ t.staging = 1 ∧ t.rd UPD.STAT.NEXTBLK = 0 ∧
      t.upd.image = Memory.setBytes [] 0 (h.take 512) ∧ Store.find t.upd.asked 0 = some (0, s.clk.now) ∧ t.flash.active = s.flash.active ∧
      Frame [.live, .flash, .upd, .out] s t := by
  obtain ⟨hclaim, hstaging, hnext, himage, -, hfirst, hactive, hclk, hframe⟩ := s.fetchBegun_fields h
  obtain ⟨-, hwords, ⟨asked, next, hupd⟩, -, -, hasked⟩ := hasks
  refine ⟨(State.rd_congr (hwords _)).trans hclaim, (State.rd_congr (hwords _)).trans hstaging, (State.rd_congr (hwords _)).trans hnext,
    (congrArg Upd.image hupd).trans himage, (hasked 0 (by omega) (by omega)).trans ?_, (congrArg Flash.active (hsent.same .flash rfl)).trans hactive,
    (hframe.weaken rfl).seq hsent rfl⟩
  rw [hclk]

/-! ## Chunks come (R533, R534) -/

/-- Chunk `k` goes to its place in the image. -/
def State.chunkPut (s : State) (k : Nat) (bytes : List Byte) : State :=
  s.withUpd { s.upd with image := Memory.setBytes s.upd.image (1024 * k) bytes, got := NatSet.add s.upd.got k, asked := Store.erase s.upd.asked k }

theorem exec_chainDataReply {s : State} {k : Nat} {data : List Nat} {bytes : List Byte} (hb : (data.take 1024).map (BitVec.ofNat 8) = bytes)
    (hclaim : s.claim = 3) (hstaging : s.staging = 1) (hasked : (Store.find s.upd.asked k).isSome = true) :
    exec (.chainDataReply k data) s = .next ((s.chunkPut k bytes).askChunks (imageLen s.upd.image) 1).chainNext := by
  subst hb
  exact congrArg _ (if_pos ⟨hclaim, hstaging, hasked⟩)

theorem State.chunkPut_frame (s : State) (k : Nat) (bytes : List Byte) : Frame [.upd] s (s.chunkPut k bytes) :=
  Frame.set_upd (Frame.refl _ s) (fun hwf => Memory.wf_setBytes _ _ _ hwf) rfl

/-- What stays of UPD's record as the next block starts. -/
theorem State.chainNext_upd (s : State) : ∃ busy, s.chainNext.upd = { s.upd with busy := busy } := by
  unfold State.chainNext
  dsimp only
  split
  · split
    · exact ⟨s.upd.busy, (State.wr_upd ..).trans rfl⟩
    · split
      · exact ⟨_, rfl⟩
      · exact ⟨s.upd.busy, rfl⟩
  · exact ⟨s.upd.busy, rfl⟩

theorem NatSet.has_add (u : NatSet) (k : Nat) : NatSet.has (NatSet.add u k) k = true := by
  induction u with
  | nil => simp [NatSet.add, NatSet.has]
  | cons a u ih =>
    unfold NatSet.add
    split
    · next heq => simp [NatSet.has, heq]
    · split
      · simp [NatSet.has]
      · show (a == k || NatSet.has (NatSet.add u k) k) = true
        rw [ih, Bool.or_true]

/-- The chunk is in its place, and at most the next one was asked for. -/
theorem State.chunk_taken (s : State) (k : Nat) (bytes : List Byte) {u : State} (hasks : ChunksAsked (s.chunkPut k bytes) u)
    (hone : u.upd.next ≤ (s.chunkPut k bytes).upd.next + 1) (hsent : Frame [.upd, .out] (s.chunkPut k bytes) u) :
    let t := u.chainNext
    Memory.bytes t.upd.image (1024 * k) bytes.length = bytes ∧ NatSet.has t.upd.got k = true ∧
      (∀ x, x < 1024 * k ∨ 1024 * k + bytes.length ≤ x → Memory.byte t.upd.image x = Memory.byte s.upd.image x) ∧
      (∀ j, j ≠ k → j ≠ s.upd.next → Store.find t.upd.asked j = Store.find s.upd.asked j) ∧ Frame [.live, .upd, .out] s t := by
  obtain ⟨-, -, ⟨asked, next, hupd⟩, hforward, hbefore, -⟩ := hasks
  obtain ⟨busy, hended⟩ := u.chainNext_upd
  have hput : (s.chunkPut k bytes).upd = { s.upd with
    image := Memory.setBytes s.upd.image (1024 * k) bytes, got := NatSet.add s.upd.got k, asked := Store.erase s.upd.asked k } := s.withUpd_upd _
  have himage : u.chainNext.upd.image = Memory.setBytes s.upd.image (1024 * k) bytes :=
    (congrArg Upd.image hended).trans ((congrArg Upd.image hupd).trans (congrArg Upd.image hput))
  have hgot : u.chainNext.upd.got = NatSet.add s.upd.got k :=
    (congrArg Upd.got hended).trans ((congrArg Upd.got hupd).trans (congrArg Upd.got hput))
  have hnext : (s.chunkPut k bytes).upd.next = s.upd.next := by rw [hput]
  have herased : (s.chunkPut k bytes).upd.asked = Store.erase s.upd.asked k := congrArg Upd.asked hput
  refine ⟨?_, ?_, fun x hx => ?_, fun j hk hj => ?_,
    (((s.chunkPut_frame k bytes).weaken rfl).seq hsent rfl).seq u.chainNext_frame rfl⟩
  · rw [himage]
    exact Memory.bytes_setBytes_same ..
  · rw [hgot]
    exact NatSet.has_add ..
  · rw [himage]
    exact Memory.byte_setBytes_outside _ _ hx
  · rw [congrArg Upd.asked hended, hbefore j (by omega), herased]
    exact Store.find_erase_ne _ hk

/-! ## A chunk without reply (R533) -/

/-- The fetch has failed at chunk `k`. -/
def State.fetchFailed (s : State) (k : Nat) : State := (s.sqf UPD.HIST.FETCHFAIL).report 0x0404 2 k

section
variable {s : State} {k fails t0 : Nat} (hasked : Store.find s.upd.asked k = some (fails, t0)) (hlate : t0 + 2 * 10 ^ 7 ≤ s.clk.now)
include hasked hlate

theorem exec_chainChunkTimeout_again (hfails : fails < 7) : exec (.chainChunkTimeout k) s = .next (s.askChunk k (fails + 1)) := by
  show execChainChunkTimeout k s = _
  unfold execChainChunkTimeout
  rw [hasked]
  exact congrArg _ ((if_pos hlate).trans (if_pos (by omega)))

theorem exec_chainChunkTimeout_failed (hfails : 7 ≤ fails) :
    exec (.chainChunkTimeout k) s = .next (s.fetchFailed k).unclaimInvalid.judgeWaiting := by
  show execChainChunkTimeout k s = _
  unfold execChainChunkTimeout
  rw [hasked]
  exact congrArg _ ((if_pos hlate).trans (if_neg (by omega)))

end

/-- The claim ends with the fetch. -/
theorem State.unclaimInvalid_failed {s u : State} (hmark : u.flag UPD.HIST.FETCHFAIL = true) (hreported : Reported 0x0404 s u) (hupd : u.upd = s.upd)
    (hframe : Frame [.live, .evt, .out] s u) (hwaiting : s.upd.waiting = none) : let t := u.unclaimInvalid.judgeWaiting
    t.flag UPD.HIST.FETCHFAIL = true ∧ Reported 0x0404 s t ∧ t.claim = 0 ∧ t.staging = 4 ∧ t.upd.asked = [] ∧
    Frame [.live, .evt, .upd, .out] s t := by
  obtain ⟨hclaim, hstaging, hended, -, hothers, hfree⟩ := u.unclaimInvalid_fields
  rw [State.judgeWaiting_none ((congrArg Upd.waiting hended).trans ((congrArg Upd.waiting hupd).trans hwaiting))]
  exact ⟨(State.flag_congr (hothers UPD.HIST (by unfold recordWord; decide))).trans hmark,
    hreported.before (hothers _ (by unfold recordWord; decide)) (hothers _ (by unfold recordWord; decide)), hclaim, hstaging,
    congrArg Upd.asked hended, (hframe.weaken rfl).seq hfree rfl⟩

/-- Settles O57: one lemma for each message and timeout of the chain. -/
theorem chainFetchesAndServesImages : Obligations.ChainFetchesAndServesImages := by
  unfold Obligations.ChainFetchesAndServesImages
  intro header data head k s h c bytes m here refused
  have hrefused {code : Nat} {t : State} (ht : UpdRefused code s t) : refused t code := ⟨ht.code, ht.mark, ht.reported, ht.upd, ht.frame⟩
  refine ⟨fun hrun hen => ⟨fun hdue => ⟨_, exec_chainPoll hrun hen hdue, ?_⟩, fun hactive hstaged => ⟨fun hheld => ?_, fun hfree => ?_⟩⟩,
    fun hclaim hstaging hasked => ⟨_, exec_chainDataReply rfl hclaim hstaging hasked, ?_⟩,
    fun fails t0 hasked hlate => ⟨fun hfew => ⟨_, exec_chainChunkTimeout_again hasked hlate hfew, ?_⟩,
      fun hmany hwaiting => ⟨_, exec_chainChunkTimeout_failed hasked hlate hmany, ?_⟩⟩,
    fun hrun => ⟨fun hhere => ⟨_, exec_chainRequest_data head k hrun hhere, State.emit_frame .., rfl⟩,
      fun hnot => ⟨_, exec_chainRequest_notReady head k hrun hnot, rfl, State.emit_frame ..⟩⟩⟩
  · have hpolled : Frame [.upd] s (s.withUpd { s.upd with polledAt := s.clk.now }) := State.withUpd_frame rfl
    exact ⟨(State.emit_upd ..).trans (s.withUpd_upd _), rfl, (hpolled.weaken rfl).seq (State.emit_frame ..) rfl⟩
  · refine ⟨_, exec_chainHeadReply rfl ⟨hrun, hen, hactive, hstaged⟩, ?_⟩
    rw [if_pos hheld]
    exact hrefused (s.updRefuse_refused 2 (by decide))
  · refine ⟨_, exec_chainHeadReply rfl ⟨hrun, hen, hactive, hstaged⟩, fun hne => ?_, fun hzero => ?_⟩
    · rw [if_neg (not_not.mpr hfree), if_pos hne]
      exact hrefused (s.updRefuse_refused 2 (s.updJudge_lt 2 h))
    · rw [if_neg (not_not.mpr hfree), if_neg (not_not.mpr hzero)]
      obtain ⟨-, -, -, -, hnone, hfirst, -⟩ := s.fetchBegun_fields h
      exact s.fetch_started h (State.askChunks_asked ..) (State.askChunks_first hnone hfirst (by omega) (by decide)) (State.askChunks_frame ..)
  · exact s.chunk_taken k bytes (State.askChunks_asked ..) (State.askChunks_next_le _ _ 0) (State.askChunks_frame ..)
  · obtain ⟨hupd, hout, -⟩ := s.askChunk_fields k (fails + 1)
    rw [hupd]
    exact ⟨Store.find_insert_same .., fun j hj => Store.find_insert_ne _ _ hj, hout, State.askChunk_frame ..⟩
  · obtain ⟨hmark, hreported, hothers, hframe⟩ := s.marked_fields (f := UPD.HIST.FETCHFAIL) (code := 0x0404) 2 k (by decide)
    exact State.unclaimInvalid_failed hmark hreported (hframe.same .upd rfl) hframe hwaiting

end Sys2Proof.Machine
end

section
/-!
PROOFS. ROM's verifications and copies, BOOTOK, the boot watchdog and the rise of HOLDUP_OK (R537 to R539, R545, R558).
-/

namespace Sys2Proof.Machine

/-! ## The BOOT record is written (R524) -/

/-- From `s` to `t` the BOOT record `r` was written, and UPD's registers show it. -/
structure RecordPut (r : BootRec) (s t : State) : Prop where
  stage : t.flash.record.stage = r.stage
  copying : t.flash.record.copying = r.copying
  active : t.flash.active = s.flash.active
  staging : t.flash.staging = s.flash.staging
  shown : t.staging = r.stage % 2 ^ 4
  boot : t.stage = s.stage
  recovery : t.flag UPD.STAT.RECOVERY = s.flag UPD.STAT.RECOVERY
  frame : Frame [.live, .flash] s t

theorem State.putRecord_eq (s : State) (r : BootRec) : s.putRecord r = (s.withFlash (s.flash.write r)).showRecord := rfl

theorem State.putRecord_put (s : State) (r : BootRec) : RecordPut r s (s.putRecord r) := by
  obtain ⟨hactive, hstaging⟩ := s.flash.write_partitions r
  have hrecord := s.flash.record_write r
  have hframe := s.putRecord_frame r
  rw [State.putRecord_eq] at hframe ⊢
  obtain ⟨hshown, hstat, hothers⟩ := (s.withFlash (s.flash.write r)).showRecord_fields
  have hflash : (s.withFlash (s.flash.write r)).showRecord.flash = s.flash.write r :=
    ((State.showRecord_frame _).same .flash rfl).trans (s.withFlash_flash _)
  rw [State.withFlash_flash, hrecord] at hshown
  refine ⟨?_, ?_, ?_, ?_, hshown, ?_, ?_, hframe⟩
  · rw [hflash, hrecord]
  · rw [hflash, hrecord]
  · rw [hflash, hactive]
  · rw [hflash, hstaging]
  · exact State.rd_congr ((hothers _ (by unfold recordWord; decide)).trans (s.word_withFlash _ _))
  · exact State.flag_of_rd ((hstat _ rfl (by decide)).trans (State.rd_congr (s.word_withFlash _ _)))

/-- The record's facts outlast another stage of boot. -/
theorem RecordPut.enterStage {r : BootRec} {s t : State} (h : RecordPut r s t) {n : Nat} (hn : n < 16) : (t.enterStage n).stage = n ∧
    (t.enterStage n).flash = t.flash ∧ (t.enterStage n).staging = t.staging ∧ Frame [.live, .flash] s (t.enterStage n) := by
  obtain ⟨hstage, hothers, hframe⟩ := t.enterStage_fields hn
  exact ⟨hstage, hframe.same .flash rfl, State.rd_congr (hothers _ (by decide)), h.frame.seq hframe rfl⟩

/-! ## ROM's verifications (R537, R539) -/

section
variable {s : State}

theorem exec_romVerifyDone_first (h : s.stage = 2) : exec .romVerifyDone s = .next (
    if s.copyCalled then
      if s.fuse.verify s.flash.staging false ≠ 0 then s.putRecord { s.flash.record with copying := false, stage := 4 }
      else if s.mon.holdup then s.copyStart
      else s
    else if s.fuse.verify s.flash.active false = 0 then s.handOver (hdrVersion (Memory.bytes s.flash.active 0 512))
    else s.recoveryMode) := by
  show execRomVerifyDone s = _
  unfold execRomVerifyDone
  refine congrArg _ ?_
  split
  · rfl
  · omega
  · omega
  · next hnot _ _ => exact absurd h hnot

theorem exec_romVerifyDone_copied (h : s.stage = 3) (hholdup : s.mon.holdup = true) : exec .romVerifyDone s = .next s.copyDone := by
  show execRomVerifyDone s = _
  unfold execRomVerifyDone
  refine congrArg _ ?_
  split
  · omega
  · exact if_pos hholdup
  · omega
  · next _ hnot _ => exact absurd h hnot

end

theorem State.recoveryMode_fields (s : State) : s.recoveryMode.stage = 5 ∧ s.recoveryMode.flag UPD.STAT.RECOVERY = true ∧
    Frame [.live] s s.recoveryMode := by
  obtain ⟨hstage, hothers, -⟩ := (s.wrFlag UPD.STAT.RECOVERY true).enterStage_fields (n := 5) (by decide)
  exact ⟨hstage, (State.flag_congr (hothers UPD.STAT (by decide))).trans (State.flag_wrFlag_self _ _ (by decide)), s.recoveryMode_frame⟩

/-! ## Copies (R537) -/

/-- ACTIVE holds the staged image, and the BOOT record says so. -/
def State.copied (s : State) : State :=
  (s.withFlash { s.flash with active := s.flash.staging }).putRecord { (s.withFlash { s.flash with active := s.flash.staging }).flash.record with
    copying := false, stage := 5 }

theorem State.copyDone_eq (s : State) : s.copyDone =
    if s.copied.flag UPD.STAT.RECOVERY then (s.copied.withRet { s.copied.ret with fails := 0 }).holdReset else s.copied.enterStage 2 := rfl

theorem State.copied_fields (s : State) : s.copied.flash.active = s.flash.staging ∧ s.copied.flash.staging = s.flash.staging ∧
    s.copied.flash.record.stage = 5 ∧ s.copied.flash.record.copying = false ∧ s.copied.staging = 5 ∧
    s.copied.flag UPD.STAT.RECOVERY = s.flag UPD.STAT.RECOVERY ∧ s.copied.ret = s.ret ∧ Frame [.live, .flash] s s.copied := by
  have hframe : Frame [.flash] s (s.withFlash { s.flash with active := s.flash.staging }) :=
    Frame.set_flash (Frame.refl _ s) (fun _ hstaging => ⟨hstaging, hstaging⟩) rfl
  have hactive := congrArg Flash.active (s.withFlash_flash { s.flash with active := s.flash.staging })
  have hstaging := congrArg Flash.staging (s.withFlash_flash { s.flash with active := s.flash.staging })
  have hrecovery : (s.withFlash { s.flash with active := s.flash.staging }).flag UPD.STAT.RECOVERY = s.flag UPD.STAT.RECOVERY :=
    State.flag_congr (s.word_withFlash _ _)
  unfold State.copied
  generalize s.withFlash { s.flash with active := s.flash.staging } = u at *
  obtain ⟨hstage, hcopying, hputActive, hputStaging, hshown, -, hput, hwritten⟩ := u.putRecord_put { u.flash.record with copying := false, stage := 5 }
  have hall := (hframe.weaken rfl).trans hwritten
  exact ⟨hputActive.trans hactive, hputStaging.trans hstaging, hstage, hcopying, hshown, hput.trans hrecovery, hall.same .ret rfl, hall⟩

/-! ## BOOTOK and the watchdog (R538, R558) -/

/-- The watchdog stands still and no boot counts as failed. -/
def State.bootSettled (s : State) : State :=
  let t : State := { s with boot := { s.boot with watch := none }, ret := { s.ret with fails := 0 } }
  t.wr UPD.BOOT.FAILS 0

theorem State.bootSettled_fields (s : State) : s.bootSettled.boot = { s.boot with watch := none } ∧ s.bootSettled.ret = { s.ret with fails := 0 } ∧
    s.bootSettled.rd UPD.BOOT.FAILS = 0 ∧ (∀ k, k ≠ UPD.BOOT → s.bootSettled.word k = s.word k) :=
  ⟨State.wr_boot .., State.wr_ret .., State.rd_wr_self _ (by decide), fun _ hk => State.word_wr_ne _ _ hk⟩

theorem State.bootOk_eq (s : State) : s.bootOk = if s.bootSettled.stage = 6 then s.bootSettled.enterStage 7 else s.bootSettled := rfl

theorem State.bootOk_fields {s : State} (h : s.stage = 6 ∨ s.stage = 7) : s.bootOk.stage = 7 ∧ s.bootOk.boot = { s.boot with watch := none } ∧
    s.bootOk.ret = { s.ret with fails := 0 } ∧ s.bootOk.rd UPD.BOOT.FAILS = 0 ∧
    (∀ k, k ≠ UPD.BOOT → k ≠ GLB.BOOTSTAT → s.bootOk.word k = s.word k) ∧ Frame [.live, .ret, .boot] s s.bootOk := by
  have hall := s.bootOk_frame
  obtain ⟨hboot, hret, hfails, hothers⟩ := s.bootSettled_fields
  have hsame : s.bootSettled.stage = s.stage := State.rd_congr (hothers _ (by decide))
  rw [State.bootOk_eq] at hall ⊢
  by_cases hsix : s.bootSettled.stage = 6
  · rw [if_pos hsix] at hall ⊢
    obtain ⟨hstage, hentered, hframe⟩ := s.bootSettled.enterStage_fields (n := 7) (by decide)
    exact ⟨hstage, (hframe.same .boot rfl).trans hboot, (hframe.same .ret rfl).trans hret, (State.rd_congr (hentered _ (by decide))).trans hfails,
      fun k hk hb => (hentered k hb).trans (hothers k hk), hall⟩
  · rw [if_neg hsix] at hall ⊢
    exact ⟨hsame.trans (h.resolve_left fun h6 => hsix (hsame.trans h6)), hboot, hret, hfails, fun k hk _ => hothers k hk, hall⟩

theorem exec_bootok {s : State} (h : s.stage = 6 ∨ s.stage = 7) : exec .bootok s = .next s.bootOk := congrArg _ (if_pos h)

theorem exec_bootWatchdogExpire {s : State} {t0 : Nat} (hwatch : s.boot.watch = some t0) (hlate : t0 + 4 * 10 ^ 9 ≤ s.clk.now) :
    exec .bootWatchdogExpire s = .next (s.withRet { s.ret with fails := min (s.ret.fails + 1) 3 }).holdReset := by
  show execBootWatchdogExpire s = _
  unfold execBootWatchdogExpire
  rw [hwatch]
  exact congrArg _ (if_pos hlate)

theorem State.withRet_holdReset (s : State) (r : Retention) : (s.withRet r).holdReset.boot.held = true ∧ (s.withRet r).holdReset.ret = r ∧
    (s.withRet r).holdReset.flash = s.flash ∧ ∀ k, k ≠ EVT.LASTFATAL → (s.withRet r).holdReset.word k = State.reset.word k := by
  obtain ⟨-, hflash, hret, hword⟩ := (s.withRet r).holdReset_kept
  exact ⟨State.holdReset_held _, hret.trans (s.withRet_ret r), hflash.trans ((s.withRet_frame r).same .flash rfl), hword⟩

/-! ## HOLDUP_OK rises (R545, R584) -/

theorem exec_holdupAssert_noted {s : State} (h : s.boot.held = true ∨ s.openingLeft = false) :
    exec .holdupAssert s = .next (s.withMon { s.mon with holdup := true }) := by
  have hstill : ¬(!(s.withMon { s.mon with holdup := true }).boot.held && (s.withMon { s.mon with holdup := true }).openingLeft) = true := by
    have hboot : (s.withMon { s.mon with holdup := true }).boot = s.boot := rfl
    have hleft : (s.withMon { s.mon with holdup := true }).openingLeft = s.openingLeft := rfl
    rw [hboot, hleft]
    rcases h with h | h <;> simp [h]
  exact congrArg _ (if_neg hstill)

theorem exec_holdupAssert_opens {s : State} (hheld : s.boot.held = false) (hleft : s.openingLeft = true) :
    exec .holdupAssert s = .next (s.withMon { s.mon with holdup := true }).finishOpening := by
  have hopens : (!(s.withMon { s.mon with holdup := true }).boot.held && (s.withMon { s.mon with holdup := true }).openingLeft) = true := by
    have hboot : (s.withMon { s.mon with holdup := true }).boot = s.boot := rfl
    have hsame : (s.withMon { s.mon with holdup := true }).openingLeft = s.openingLeft := rfl
    rw [hboot, hsame, hheld, hleft]
    rfl
  exact congrArg _ (if_pos hopens)

/-- Settles O59: ROM's step at each stage, BOOTOK, the watchdog and HOLDUP_OK, one lemma each. -/
theorem romVerifiesCopiesAndHandsOver : Obligations.RomVerifiesCopiesAndHandsOver := by
  unfold Obligations.RomVerifiesCopiesAndHandsOver
  intro t0 s a g
  refine ⟨fun hstage hnot => ⟨_, exec_romVerifyDone_first hstage, ?_⟩, fun hstage hcalled => ⟨_, exec_romVerifyDone_first hstage, ?_⟩,
    fun hstage hholdup hrecovery => ⟨_, exec_romVerifyDone_copied hstage hholdup, ?_⟩,
    fun hstage hholdup hrecovery => ⟨_, exec_romVerifyDone_copied hstage hholdup, ?_⟩,
    fun hstage => ⟨_, exec_bootok hstage, State.bootOk_fields hstage⟩,
    fun hwatch hlate => ⟨_, exec_bootWatchdogExpire hwatch hlate, s.withRet_holdReset _⟩,
    fun hstill => ⟨_, exec_holdupAssert_noted hstill, State.withMon_mon .., State.withMon_frame ..⟩,
    fun hheld hleft hburn => ⟨_, exec_holdupAssert_opens hheld hleft, ?_⟩⟩
  · rw [if_neg (ne_true_of_eq_false hnot)]
    by_cases ha : a = 0
    · rw [if_pos ha]
      obtain ⟨hsix, hwatch, hver, hframe⟩ := s.handOver_fields (hdrVersion (Memory.bytes s.flash.active 0 512))
      exact ⟨hframe.same .flash rfl, fun _ => ⟨hsix, hwatch, hver⟩, fun hne => absurd ha hne⟩
    · rw [if_neg ha]
      obtain ⟨hfive, hrecovery, hframe⟩ := s.recoveryMode_fields
      exact ⟨hframe.same .flash rfl, fun hzero => absurd hzero ha, fun _ => ⟨hfive, hrecovery⟩⟩
  · rw [if_pos hcalled]
    by_cases hg : g = 0
    · rw [if_neg (not_not.mpr hg)]
      cases hholdup : s.mon.holdup with
      | true =>
        rw [if_pos rfl]
        have hput := s.putRecord_put { s.flash.record with copying := true }
        obtain ⟨hthree, hflash, -, hframe⟩ := hput.enterStage (n := 3) (by decide)
        exact ⟨fun hne => absurd hg hne, fun _ _ => ⟨hthree, (congrArg (fun f : Flash => f.record.copying) hflash).trans hput.copying⟩,
          fun _ hnot => by simp at hnot, (congrArg Flash.active hflash).trans hput.active, (congrArg Flash.staging hflash).trans hput.staging, hframe⟩
      | false =>
        rw [if_neg (by decide)]
        exact ⟨fun hne => absurd hg hne, fun _ hnot => by simp at hnot, fun _ _ => rfl, rfl, rfl, Frame.refl _ s⟩
    · rw [if_pos hg]
      have hput := s.putRecord_put { s.flash.record with copying := false, stage := 4 }
      exact ⟨fun _ => ⟨hput.boot.trans hstage, hput.stage, hput.copying⟩, fun hzero => absurd hzero hg, fun hzero => absurd hzero hg, hput.active,
        hput.staging, hput.frame⟩
  · obtain ⟨hactive, hstaging, hfive, hcopying, hshown, hflag, -, hframe⟩ := s.copied_fields
    obtain ⟨htwo, hothers, hentered⟩ := s.copied.enterStage_fields (n := 2) (by decide)
    rw [State.copyDone_eq, if_neg (by rw [hflag, hrecovery]; decide), hentered.same .flash rfl]
    exact ⟨htwo, hactive, hstaging, hfive, hcopying, (State.rd_congr (hothers _ (by decide))).trans hshown, hframe.seq hentered rfl⟩
  · obtain ⟨hactive, -, -, -, -, hflag, hret, -⟩ := s.copied_fields
    obtain ⟨hheld, hkept, hflash, -⟩ := s.copied.withRet_holdReset { s.copied.ret with fails := 0 }
    rw [State.copyDone_eq, if_pos (hflag.trans hrecovery)]
    refine ⟨hheld, (congrArg Flash.active hflash).trans hactive, hkept.trans ?_⟩
    rw [hret]
  · obtain ⟨hfuse, hret, hbooted⟩ := State.finishOpening_fields (s := s.withMon { s.mon with holdup := true }) hburn
    exact ⟨hbooted, hfuse, hret⟩

end Sys2Proof.Machine
end

section
/-!
PROOFS. What the work of a boundary leaves of the three words that say which tick began and when: TICKIDX, BTICK and BNS (R20, R71, R326, R338).
-/

namespace Sys2Proof.Machine

/-- Word `j` says which tick began, or when: TICKIDX, BTICK or BNS. -/
def tickWord (j : Nat) : Bool := j == 0x44 || j == 0x80004 || j == 0x80008

theorem tickWord_iff {j : Nat} : tickWord j = true ↔ j = 0x44 ∨ j = 0x80004 ∨ j = 0x80008 := by
  simp only [tickWord, Bool.or_eq_true, beq_iff_eq, or_assoc]

/-- The registers of an input stand on places of their own modulo 64, so none is a word of the tick. -/
theorem tickWord_of_mod {j : Nat} (h : j % 64 ≠ 4 ∧ j % 64 ≠ 8) : tickWord j = false := by
  rw [← Bool.not_eq_true, tickWord_iff]
  omega

theorem tickWord_inStat (k : Nat) : tickWord (REF.IN_STAT k) = false := tickWord_of_mod (by unfold REF.IN_STAT; omega)
theorem tickWord_inHist (k : Nat) : tickWord (REF.IN_HIST k) = false := tickWord_of_mod (by unfold REF.IN_HIST; omega)
theorem tickWord_inJump (k : Nat) : tickWord (REF.IN_JUMP k) = false := tickWord_of_mod (by unfold REF.IN_JUMP; omega)
theorem tickWord_inD1 (k : Nat) : tickWord (REF.IN_D1 k) = false := tickWord_of_mod (by unfold REF.IN_D1; omega)
theorem tickWord_inD10 (k : Nat) : tickWord (REF.IN_D10 k) = false := tickWord_of_mod (by unfold REF.IN_D10; omega)
theorem tickWord_inD100 (k : Nat) : tickWord (REF.IN_D100 k) = false := tickWord_of_mod (by unfold REF.IN_D100; omega)

theorem not_reportKey_of_tickWord {j : Nat} (h : tickWord j = true) : reportKey j = false := by
  rcases tickWord_iff.mp h with rfl | rfl | rfl <;> decide

/-- From `s` to `t` the words that `p` selects stand. -/
structure WordsKept (p : Nat → Bool) (s t : State) : Prop where
  words : ∀ j, p j = true → t.word j = s.word j

section
variable {p : Nat → Bool}

theorem WordsKept.refl (s : State) : WordsKept p s s := ⟨fun _ _ => rfl⟩

/-- What an operation keeps after others. -/
theorem WordsKept.comp {s t u : State} (k : WordsKept p t u) (h : WordsKept p s t) : WordsKept p s u := ⟨fun j hj => (k.words j hj).trans (h.words j hj)⟩

/-- An operation that writes no word. -/
theorem WordsKept.of_frame {ps : List Part} {s t : State} (h : Frame ps s t) (hps : ps.contains .live = false) : WordsKept p s t :=
  ⟨fun j _ => State.word_congr (h.same .live hps) j⟩

theorem ne_of_selected {j k : Nat} (h : p j = true) (hk : p k = false) : j ≠ k := fun he => by
  rw [he, hk] at h
  exact absurd h (by decide)

variable {s t : State} (h : WordsKept p s t)
include h

theorem WordsKept.set_ref {x : Ref} : WordsKept p s { t with ref := x } := ⟨fun j hj => (State.word_congr rfl j).trans (h.words j hj)⟩

theorem WordsKept.set_syn {x : Syn} : WordsKept p s { t with syn := x } := ⟨fun j hj => (State.word_congr rfl j).trans (h.words j hj)⟩

theorem WordsKept.set_mem {x : Clients} : WordsKept p s { t with mem := x } := ⟨fun j hj => (State.word_congr rfl j).trans (h.words j hj)⟩

theorem WordsKept.setRefIn (k : Nat) (x : RefIn) : WordsKept p s (t.setRefIn k x) := h.set_ref

theorem WordsKept.setNum {k : Nat} (v : Nat) (hk : p k = false) : WordsKept p s (t.setNum k v) :=
  ⟨fun j hj => (t.word_setNum_ne v (ne_of_selected hj hk)).trans (h.words j hj)⟩

theorem WordsKept.wr {f : Fld} (v : Nat) (hf : p f.key = false) : WordsKept p s (t.wr f v) :=
  ⟨fun j hj => (t.word_wr_ne v (ne_of_selected hj hf)).trans (h.words j hj)⟩

theorem WordsKept.wrFlag {f : Fld} (b : Bool) (hf : p f.key = false) : WordsKept p s (t.wrFlag f b) := h.wr _ hf

theorem WordsKept.wrS {f : Fld} (v : Int) (hf : p f.key = false) : WordsKept p s (t.wrS f v) := h.wr _ hf

theorem WordsKept.sqf {f : Fld} (hf : p f.key = false) : WordsKept p s (t.sqf f) :=
  ⟨fun j hj => (t.word_sqf_ne (ne_of_selected hj hf)).trans (h.words j hj)⟩

theorem WordsKept.sq {k : Nat} (i : Nat) (hk : p k = false) : WordsKept p s (t.sq k i) :=
  ⟨fun j hj => (t.word_sq_ne i (ne_of_selected hj hk)).trans (h.words j hj)⟩

theorem WordsKept.ite {c : Prop} [Decidable c] {u : State} (k : WordsKept p s u) : WordsKept p s (if c then t else u) := by
  split
  · exact h
  · exact k

theorem WordsKept.eachBelow {f : State → Nat → State} (n : Nat) (hf : ∀ u k, k < n → WordsKept p u (f u k)) : WordsKept p s (t.eachBelow f n) :=
  .comp (State.eachBelow_rel .refl (fun h k => k.comp h) t hf) h

theorem WordsKept.foldl {α : Type} (l : List α) {f : State → α → State} (hf : ∀ u x, x ∈ l → WordsKept p u (f u x)) :
    WordsKept p s (l.foldl f t) := by
  induction l generalizing t with
  | nil => exact h
  | cons x l ih => exact ih (.comp (hf t x List.mem_cons_self) h) fun u y hy => hf u y (List.mem_cons_of_mem x hy)

end

/-- From `s` to `t` the tick's words stand. -/
abbrev TickKept (s t : State) : Prop := WordsKept tickWord s t

theorem WordsKept.report {s t : State} (h : TickKept s t) {code : Nat} (source data : Nat) (hc : code < 0x1800) : TickKept s (t.report code source data) :=
  ⟨fun j hj => (t.report_word _ source data (not_reportKey_of_tickWord hj) hc).trans (h.words j hj)⟩

/-! ## REF at a boundary -/

theorem State.setRef_tick (s : State) (st sel target : Nat) : TickKept s (s.setRef st sel target) := by
  unfold State.setRef
  refine .report (.sq (.set_ref (.ite ?_ (.wrFlag (.wrFlag ?_ _ rfl) _ rfl))) _ rfl) _ _ (by decide)
  all_goals exact .wrFlag (.wrFlag (.wr (.wr (.wr (.refl s) _ rfl) _ rfl) _ rfl) _ rfl) _ rfl

theorem State.jumpPolicy_tick (s : State) (k : Nat) (diff zero : Int) : TickKept s (s.jumpPolicy k diff zero) := by
  unfold State.jumpPolicy
  split
  · exact .setRefIn (.refl s) ..
  · exact .set_ref (.refl s)
  · exact .wrFlag (.refl s) _ rfl

theorem State.jumpDetected_tick (s : State) (k : Nat) (det : Bool) : TickKept s (s.jumpDetected k det) := by
  unfold State.jumpDetected State.jumpApply
  refine .comp (State.jumpPolicy_tick ..) (.report (.sqf (.sqf (.wrFlag (.wr (.refl s) _ ?_) _ ?_) ?_) rfl) _ _ (by decide))
  · exact tickWord_inJump k
  · exact tickWord_inJump k
  · exact tickWord_inHist k

theorem State.jump_tick (s : State) (k : Nat) : TickKept s (s.jump k) := by
  unfold State.jump
  exact .ite (.ite (s.jumpDetected_tick k true) ⟨fun j hj => s.eimForRef_word k (ne_of_selected hj rfl)⟩) (s.jumpDetected_tick k false)

theorem State.expireHold_tick (s : State) : TickKept s s.expireHold := by
  unfold State.expireHold
  exact .report (s.setRef_tick 5 15 15) _ _ (by decide)

theorem State.enterHold_tick (s : State) : TickKept s s.enterHold := by
  have hhold : TickKept s ((s.setRef 4 15 15).wr REF.HOTIME.val 0) := .wr (s.setRef_tick 4 15 15) _ rfl
  unfold State.enterHold
  exact .ite (.ite (.comp (State.expireHold_tick _) (.set_ref hhold)) (.set_ref hhold)) (s.setRef_tick 0 15 15)

theorem State.restored_tick (s : State) (p : Nat) : TickKept s (s.restored p) := by
  unfold State.restored
  exact .ite (.refl s) (.wrFlag (.ite (.wr (.refl s) _ (tickWord_inStat p)) (.refl s)) _ (tickWord_inStat p))

theorem State.switchTo_tick (s : State) (p k : Nat) : TickKept s (s.switchTo p k) := .set_ref (s.setRef_tick 3 p k)

theorem State.switchDecision_tick (s : State) : TickKept s s.switchDecision := by
  unfold State.switchDecision
  refine .ite (.report (.sqf (.comp (State.setRef_tick ..) (s.restored_tick _)) rfl) _ _ (by decide)) ?_
  split
  · exact s.enterHold_tick
  · exact .ite (.set_ref (s.jump_tick _)) (.wr (.refl s) _ rfl)

theorem State.refMachine_tick (s : State) : TickKept s s.refMachine := by
  unfold State.refMachine
  refine .ite (.ite (.refl s) (s.setRef_tick 0 15 15)) (.ite ?starts (.ite (.ite (.ite (s.setRef_tick 2 _ 15) ?target) s.switchDecision_tick) ?locked))
  case starts =>
    split
    · exact .comp (State.jump_tick ..) (s.setRef_tick 1 _ 15)
    · exact .refl s
  case target =>
    split
    · exact .set_ref (.wr (.refl s) _ rfl)
    · exact s.enterHold_tick
  case locked =>
    split
    · exact s.enterHold_tick
    · exact .ite (s.switchTo_tick ..) (.ite (s.switchTo_tick ..) (.refl s))

theorem State.refTrack_tick (s : State) : TickKept s s.refTrack := by
  have hjump (c : Prop) [Decidable c] (k : Nat) : TickKept s (if c then s.jump k else s) := .ite (s.jump_tick k) (.refl s)
  unfold State.refTrack
  exact .ite (.set_ref (.setRefIn (.ite (.wrFlag (hjump ..) _ rfl) (hjump ..)) ..)) (.refl s)

theorem State.dcoStep_tick (s : State) : TickKept s s.dcoStep := by
  unfold State.dcoStep
  split
  · refine .ite (.eachBelow (.comp (.of_frame (State.emit_frame ..) rfl) (.set_ref (.refl s))) 10 fun u k _ => .setRefIn (.refl u) ..) ?_
    exact .wrFlag (.set_ref (.refl s)) _ rfl
  · exact .refl s

theorem State.inactivate_tick (s : State) (k : Nat) : TickKept s (s.inactivate k) := by
  unfold State.inactivate
  refine .sqf (.ite (.wrFlag ?_ _ rfl) ?_) (tickWord_inHist k)
  all_goals exact .setRefIn (.wr (.wr (.wr (.wr (.wr (.refl s) _ (tickWord_inStat k)) _ (tickWord_inStat k)) _ (tickWord_inD1 k)) _ (tickWord_inD10 k)) _
    (tickWord_inD100 k)) ..

/-- Every input is looked at. -/
theorem State.refInputs_tick (s : State) : TickKept s s.refInputs := by
  unfold State.refInputs
  refine .eachBelow (.eachBelow (.refl s) 10 fun u k _ => .wr (.ite ?enabled (.ite (.refl u) ?disabled)) _ (tickWord_inStat k)) 10 fun u k _ =>
    .wrFlag (.refl u) _ (tickWord_inStat k)
  case enabled =>
    exact .ite (.setRefIn (.sqf (.wr (.refl u) _ (tickWord_inStat k)) (tickWord_inHist k)) ..) (.ite (u.inactivate_tick k) (.refl u))
  case disabled =>
    exact .setRefIn (.wr (.wr (.wr (.wrFlag (.wr (.wr (.refl u) _ (tickWord_inStat k)) _ (tickWord_inStat k)) _ (tickWord_inStat k)) _ (tickWord_inD1 k)) _
      (tickWord_inD10 k)) _ (tickWord_inD100 k)) ..

theorem State.freeze_tick (s : State) : TickKept s s.freeze := ⟨fun _ hj => s.freeze_word (ne_of_selected hj rfl)⟩

theorem State.holdTime_tick (s : State) : TickKept s s.holdTime := ⟨fun _ hj => s.holdTime_word (ne_of_selected hj rfl)⟩

theorem State.wtrLeft_tick (s : State) : TickKept s s.wtrLeft := ⟨fun _ hj => s.wtrLeft_word (ne_of_selected hj rfl)⟩

/-! ## The ramp and the steering at a boundary -/

theorem State.rampAdvance_tick (s : State) : TickKept s s.rampAdvance := by
  unfold State.rampAdvance
  refine .ite (.ite (.wrFlag ?_ _ rfl) ?_) (.refl s)
  all_goals exact .set_syn (.wrS (.refl s) _ rfl)

theorem State.rampBoundary_tick (s : State) (n : Nat) : TickKept s (s.rampBoundary n) := by
  unfold State.rampBoundary
  refine .ite (.set_syn (.wrFlag ?_ _ rfl)) ?_
  all_goals exact .ite (.set_syn (.wrFlag (.refl s) _ rfl)) s.rampAdvance_tick

theorem State.rampAttach_tick (s : State) : TickKept s s.rampAttach.1 := by
  unfold State.rampAttach
  split
  · exact .report (.sqf (.wrFlag (.refl s) _ rfl) rfl) _ _ (by decide)
  · exact .refl s

theorem State.newZero_tick (s : State) : TickKept s s.newZero := by
  unfold State.newZero
  exact .ite (.setRefIn (.refl s) ..) (.refl s)

theorem State.endDetach_tick (s : State) : TickKept s s.endDetach := by
  unfold State.endDetach
  exact .ite (.comp (State.newZero_tick _) s.rampAttach_tick) s.rampAttach_tick

theorem State.dcoShown_tick (s : State) (c y : Int) : TickKept s (s.dcoShown c y) := by
  unfold State.dcoShown
  refine .ite (.sqf ?_ rfl) ?_
  all_goals exact .wrFlag (.wrS (.refl s) _ rfl) _ rfl

theorem State.netClamp_tick (s : State) (y : Int) : TickKept s (s.netClamp y) := by
  unfold State.netClamp
  exact .ite (.report (.sqf (.wrFlag (.refl s) _ rfl) rfl) _ _ (by decide)) (.wrFlag (.refl s) _ rfl)

theorem State.steer_tick (s : State) : TickKept s s.steer := by
  obtain ⟨c, y, heq⟩ := s.steer_eq
  rw [heq]
  exact .set_syn (.comp (State.netClamp_tick ..) (s.dcoShown_tick c y))

/-- REF's work leaves the tick's words. -/
theorem State.refBoundary_tick (s : State) (n : Nat) (phases : List (Nat × Int)) : TickKept s (s.refBoundary n phases) := by
  unfold State.refBoundary
  refine .comp (State.steer_tick _) (.set_ref (.wrS (.comp (.of_frame (State.loopStep_frame _) rfl) (.comp (State.endDetach_tick _)
    (.comp (State.rampBoundary_tick ..) (.wrS ?_ _ rfl)))) _ rfl))
  exact .comp (State.wtrLeft_tick _) (.comp (State.holdTime_tick _) (.comp (State.freeze_tick _) (.comp (State.refTrack_tick _)
    (.comp (State.refMachine_tick _) (.comp (State.refInputs_tick _) (.comp (State.dcoStep_tick _) (.of_frame (State.takePhases_frame ..) rfl)))))))

/-! ## The rest of a boundary -/

theorem State.capReset_tick (s : State) : TickKept s s.capReset := by
  unfold State.capReset
  exact .set_mem (.wrFlag (.wr (.wr (.refl s) _ rfl) _ rfl) _ rfl)

theorem State.memStart_tick (s : State) (n : Nat) : TickKept s (s.memStart n) := by
  have hcap (c : Prop) [Decidable c] (x : Clients) : TickKept s (if c then { s.capReset.wrFlag CUE.CAPSTAT.RUNNING true with mem := x } else s) :=
    .ite (.set_mem (.wrFlag s.capReset_tick _ rfl)) (.refl s)
  unfold State.memStart
  exact .set_mem (.foldl (hcap ..) _ fun u b _ => .eachBelow (.refl u) _ fun v x _ => .of_frame (v.setSxm_frame ..) rfl)

/-- What follows the start of the programs at a boundary. -/
def State.afterStarts (s : State) (n : Nat) (phases : List (Nat × Int)) : State :=
  (((s.memStart n).transmitAes n).gridBoundary.portsResume.refBoundary n phases).ckptCount

theorem State.afterStarts_tick (s : State) (n : Nat) (phases : List (Nat × Int)) : TickKept s (s.afterStarts n phases) := by
  unfold State.afterStarts
  refine .wr (.comp (State.refBoundary_tick ..) (.comp (.of_frame (State.portsResume_frame _) rfl) (.comp (.of_frame (State.gridBoundary_frame _) rfl)
    (.comp (.of_frame (State.transmitAes_frame ..) rfl) (s.memStart_tick n))))) _ rfl

theorem State.afterStarts_frame (s : State) (n : Nat) (phases : List (Nat × Int)) :
    Frame [.live, .evt, .sxm, .sxmPast, .loc, .atx, .syn, .eim, .ref, .net, .mem, .out] s (s.afterStarts n phases) := by
  unfold State.afterStarts
  exact ((((((s.memStart_frame n).weaken rfl).seq (State.transmitAes_frame ..) rfl).seq (State.gridBoundary_frame _) rfl).seq
    (State.portsResume_frame _) rfl).seq (State.refBoundary_frame ..) rfl).seq (State.ckptCount_frame _) rfl

end Sys2Proof.Machine
end

section
/-!
PROOFS. Resets, the release of reset and the first tick (R551 to R557).
-/

namespace Sys2Proof.Machine

/-! ## Units, one after another -/

section
variable {β : Type} {f : State → Nat → State} {obs : State → Nat → β} (hf : ∀ u e j, j ≠ e → obs (f u e) j = obs u j) (s : State)
include hf

theorem State.eachBelow_obs_before {m e : Nat} (h : m ≤ e) : obs (s.eachBelow f m) e = obs s e := by
  induction m with
  | zero => rfl
  | succ m ih => exact (hf _ m e (by omega)).trans (ih (by omega))

/-- Where each step is about one unit, that unit's step decides what is seen of it. -/
theorem State.eachBelow_obs {m e : Nat} (h : e < m) : obs (s.eachBelow f m) e = obs (f (s.eachBelow f e) e) e := by
  induction m with
  | zero => omega
  | succ m ih =>
    by_cases he : e = m
    · rw [he]
      rfl
    · exact (hf _ m e he).trans (ih (by omega))

end

/-- Every engine changes by `g` alone. -/
theorem State.setEngines_engine (s : State) (g : Engine → Engine) {e : Nat} (he : e < 16) :
    (s.eachBelow (fun u e => u.setEngine e (g (u.engine e))) 16).engine e = g (s.engine e) := by
  have hone (u : State) (e j : Nat) (h : j ≠ e) : (u.setEngine e (g (u.engine e))).engine j = u.engine j := State.engine_setEngine_ne _ _ h
  rw [State.eachBelow_obs hone s he, State.engine_setEngine_same, State.eachBelow_obs_before hone s (Nat.le_refl e)]

theorem State.setEngines_frame (s : State) (g : Engine → Engine) : Frame [.ge] s (s.eachBelow (fun u e => u.setEngine e (g (u.engine e))) 16) :=
  Frame.eachBelow 16 (fun _ _ h => h.seq (State.setEngine_frame ..) rfl) (Frame.refl _ s)

/-! ## The programs of a tick start (R71) -/

theorem State.startTick_engine_ne (s : State) {e j : Nat} (n : Nat) (h : j ≠ e) : (s.startTick e n).engine j = s.engine j := by
  unfold State.startTick
  dsimp only
  split
  · exact State.startProgram_engine_ne _ _ _ h
  · rfl

theorem State.startProgram_now (s : State) (e n : Nat) : ((s.startProgram e n false).engine e).st = .run ∧
    ((s.startProgram e n false).engine e).tick = n % 2 ^ 32 ∧ ((s.startProgram e n false).engine e).pc = s.rd (GE.ENTRY.val e) := by
  unfold State.startProgram
  rw [State.engine_setEngine_same]
  exact ⟨rfl, rfl, rfl⟩

/-- Engine `e` may start its program at a boundary. -/
structure StartsProgram (e : Nat) (s : State) : Prop where
  present : s.present e = true
  leads : s.follower e = false
  idle : (s.engine e).st = .idle
  fresh : (s.engine e).done = false
  up : s.engineDown e = false

theorem State.startTick_starts {s : State} {e : Nat} (n : Nat) (h : StartsProgram e s) : s.startTick e n = s.startProgram e n false := by
  obtain ⟨hpresent, hleads, hidle, hfresh, hup⟩ := h
  exact if_pos (by simp [hpresent, hleads, hidle, hfresh, hup])

/-- What decides whether an engine may start. -/
theorem StartsProgram.congr {s t : State} {e : Nat} (h : StartsProgram e s) (hengine : t.engine e = s.engine e)
    (hword : ∀ k, k = GE.PRESENT ∨ k = GE.BRACE → t.word k = s.word k) (hfaults : t.faults = s.faults) : StartsProgram e t := by
  obtain ⟨hpresent, hleads, hidle, hfresh, hup⟩ := h
  have hrdPresent : t.rd GE.PRESENT.val = s.rd GE.PRESENT.val := State.rd_congr (hword _ (.inl rfl))
  have hrdBrace : t.rd GE.BRACE.val = s.rd GE.BRACE.val := State.rd_congr (hword _ (.inr rfl))
  have hbraced : t.braced e = s.braced e := by rw [State.braced, State.bracedPair, hrdBrace, State.braced, State.bracedPair]
  refine ⟨?_, ?_, ?_, ?_, ?_⟩
  · rw [State.present, hrdPresent]
    exact hpresent
  · rw [State.follower, hbraced]
    exact hleads
  · rw [hengine]
    exact hidle
  · rw [hengine]
    exact hfresh
  · rw [State.engineDown, State.recovering, State.unitDown, hfaults, hbraced]
    exact hup

/-- Every engine that may starts. -/
def State.programsStarted (s : State) (n : Nat) : State := s.eachBelow (fun u e => u.startTick e n) 16

theorem State.programsStarted_frame (s : State) (n : Nat) : Frame [.ge, .free] s (s.programsStarted n) :=
  Frame.eachBelow 16 (fun _ _ h => h.seq (State.startTick_frame ..) rfl) (Frame.refl _ s)

theorem State.programsStarted_engine {s : State} {e : Nat} (n : Nat) (he : e < 16) (h : StartsProgram e s) :
    ((s.programsStarted n).engine e).st = .run ∧ ((s.programsStarted n).engine e).tick = n % 2 ^ 32 ∧
      ((s.programsStarted n).engine e).pc = s.rd (GE.ENTRY.val e) := by
  have hone (u : State) (e j : Nat) (hj : j ≠ e) : (u.startTick e n).engine j = u.engine j := u.startTick_engine_ne n hj
  have hbefore : Frame [.ge, .free] s (s.eachBelow (fun u e => u.startTick e n) e) :=
    Frame.eachBelow e (fun _ _ h => h.seq (State.startTick_frame ..) rfl) (Frame.refl _ s)
  have hword (k : Nat) := State.word_congr (hbefore.same .live rfl) k
  have hstart := h.congr (State.eachBelow_obs_before hone s (Nat.le_refl e)) (fun k _ => hword k) (hbefore.same .faults rfl)
  unfold State.programsStarted
  rw [State.eachBelow_obs hone s he, State.startTick_starts n hstart, ← State.rd_congr (hword (GE.ENTRY.val e).key)]
  exact State.startProgram_now ..

/-! ## A tick begins (R20) -/

/-- TICKIDX shows the tick, the slots that fill are cleared and the herds age. -/
def State.tickShown (s : State) (n : Nat) : State := ((s.wr GLB.TICKIDX.val n).clearSlots n).eachBelow (fun u k => u.ageHerd n k) 16

theorem State.tickShown_fields (s : State) (n : Nat) : (s.tickShown n).tick = n % 2 ^ 32 ∧
    (∀ k, k ≠ GLB.TICKIDX → (s.tickShown n).word k = s.word k) ∧ Frame [.live, .valid, .spoiled, .placed, .herd] s (s.tickShown n) := by
  have hframe : Frame [.valid, .spoiled, .placed, .herd] (s.wr GLB.TICKIDX.val n) (s.tickShown n) :=
    Frame.eachBelow 16 (fun _ _ h => h.seq (State.ageHerd_frame ..) rfl) ((State.clearSlots_frame ..).weaken rfl)
  have hword (k : Nat) : (s.tickShown n).word k = (s.wr GLB.TICKIDX.val n).word k := State.word_congr (hframe.same .live rfl) k
  exact ⟨(State.rd_congr (hword _)).trans (State.rd_wr_same _ _ _ (by decide)), fun k hk => (hword k).trans (State.word_wr_ne _ _ hk),
    ((State.wr_frame ..).weaken rfl).seq hframe rfl⟩

/-- The tick's work begins, with its gathers to come. -/
def State.workBegun (s : State) : State := { s with clk := { s.clk with phase := .work, cycle := 0 }, gathered := false }

theorem State.workBegun_fields (s : State) : s.workBegun.clk = { s.clk with phase := .work, cycle := 0 } ∧ s.workBegun.gathered = false ∧
    s.workBegun.ge = s.ge ∧ s.workBegun.faults = s.faults ∧ ∀ k, s.workBegun.word k = s.word k :=
  ⟨rfl, rfl, rfl, rfl, fun k => State.word_congr rfl k⟩

/-- The state in which the programs of tick `n` start. -/
def State.tickReady (s : State) (n : Nat) : State :=
  (s.tickShown n).workBegun.eachBelow (fun u e => u.setEngine e { u.engine e with noAhead := false }) 16

theorem State.beginTick_eq (s : State) (n : Nat) (phases : List (Nat × Int)) :
    s.beginTick n phases = ((s.tickReady n).programsStarted n).afterStarts n phases := by
  unfold State.beginTick State.afterStarts State.programsStarted State.tickReady State.workBegun State.tickShown
  rfl

theorem State.tickReady_fields (s : State) (n : Nat) : (s.tickReady n).tick = n % 2 ^ 32 ∧ (s.tickReady n).clk = { s.clk with phase := .work, cycle := 0 } ∧
    (s.tickReady n).gathered = false ∧ (s.tickReady n).faults = s.faults ∧ (∀ k, k ≠ GLB.TICKIDX → (s.tickReady n).word k = s.word k) ∧
    ∀ e, e < 16 → (s.tickReady n).engine e = { s.engine e with noAhead := false } := by
  obtain ⟨htick, hword, hshown⟩ := s.tickShown_fields n
  obtain ⟨hclk, hgathered, hge, hfaults, hkept⟩ := (s.tickShown n).workBegun_fields
  have hset := (s.tickShown n).workBegun.setEngines_frame fun x => { x with noAhead := false }
  have hall (k : Nat) : (s.tickReady n).word k = (s.tickShown n).word k := (State.word_congr (hset.same .live rfl) k).trans (hkept k)
  refine ⟨(State.rd_congr (hall _)).trans htick, (hset.same .clk rfl).trans (hclk.trans ?_), (hset.same .gathered rfl).trans hgathered,
    (hset.same .faults rfl).trans (hfaults.trans (hshown.same .faults rfl)), fun k hk => (hall k).trans (hword k hk), fun e he => ?_⟩
  · rw [hshown.same .clk rfl]
  · refine (State.setEngines_engine _ (fun x => { x with noAhead := false }) he).trans ?_
    rw [State.engine_congr (hge.trans (hshown.same .ge rfl))]

/-- The tick that begins, its clock and its programs. -/
theorem State.beginTick_fields (s : State) (n : Nat) (phases : List (Nat × Int)) : let t := s.beginTick n phases
    t.tick = n % 2 ^ 32 ∧ t.clk = { s.clk with phase := .work, cycle := 0 } ∧ t.gathered = false ∧
    t.rd TIME.BTICK.val = s.rd TIME.BTICK.val ∧ t.rd TIME.BNS.val = s.rd TIME.BNS.val ∧
    ∀ e, e < 16 → StartsProgram e s → (t.engine e).st = .run ∧ (t.engine e).tick = n % 2 ^ 32 ∧ (t.engine e).pc = s.rd (GE.ENTRY.val e) := by
  obtain ⟨htick, hclk, hgathered, hfaults, hword, hengine⟩ := s.tickReady_fields n
  have hstart := (s.tickReady n).programsStarted_frame n
  have hafter := ((s.tickReady n).programsStarted n).afterStarts_frame n phases
  have hkept := ((s.tickReady n).programsStarted n).afterStarts_tick n phases
  have hlast (k : Nat) (hk : tickWord k = true) : (((s.tickReady n).programsStarted n).afterStarts n phases).word k = (s.tickReady n).word k :=
    (hkept.words k hk).trans (State.word_congr (hstart.same .live rfl) k)
  rw [State.beginTick_eq]
  refine ⟨(State.rd_congr (hlast _ rfl)).trans htick, (hafter.same .clk rfl).trans ((hstart.same .clk rfl).trans hclk),
    (hafter.same .gathered rfl).trans ((hstart.same .gathered rfl).trans hgathered), State.rd_congr ((hlast _ rfl).trans (hword _ (by decide))),
    State.rd_congr ((hlast _ rfl).trans (hword _ (by decide))), fun e he hs => ?_⟩
  have hready : StartsProgram e (s.tickReady n) := by
    obtain ⟨hpresent, hleads, hidle, hfresh, hup⟩ := hs
    have hcleared : StartsProgram e (s.setEngine e { s.engine e with noAhead := false }) := by
      refine ⟨hpresent, hleads, ?_, ?_, hup⟩
      · rw [State.engine_setEngine_same]
        exact hidle
      · rw [State.engine_setEngine_same]
        exact hfresh
    refine hcleared.congr ((hengine e he).trans (State.engine_setEngine_same ..).symm) (fun k hk => hword k ?_) hfaults
    rcases hk with rfl | rfl <;> decide
  have hpc : (s.tickReady n).rd (GE.ENTRY.val e) = s.rd (GE.ENTRY.val e) := State.rd_congr (hword _ (by simp only [GE.ENTRY.val, GE.ENTRY, GLB.TICKIDX]; omega))
  rw [State.engine_congr (hafter.same .ge rfl), ← hpc]
  exact State.programsStarted_engine n he hready

/-! ## The first tick (R557) -/

/-- The boundary's time shows, and no engine has finished. -/
def State.firstShown (s : State) (n : Nat) : State :=
  ((s.wr TIME.BTICK.val n).wr TIME.BNS.val s.ns).eachBelow (fun u e => u.setEngine e { u.engine e with done := false }) 16

/-- The state in which the first tick begins. -/
def State.firstReady (s : State) (n : Nat) : State := ((s.firstShown n).ckptForced.keeperReturn.ncsStart.eimTick).ckptStart n

theorem exec_firstTick {s : State} {n : Nat} (hready : s.boot.ready = true) (hphase : s.clk.phase = .stopped) (h2 : s.apll 2 = 3) (h3 : s.apll 3 = 3)
    (hfirst : s.firstIndex = some n) : exec .firstTick s = .next ((s.firstReady n).beginTick n []) := by
  show execFirstTick s = _
  unfold execFirstTick
  rw [if_pos ⟨hready, hphase, h2, h3⟩, hfirst]
  rfl

/-- A word of TIME or of a later block. -/
def fromTime (j : Nat) : Bool := decide (0x80000 ≤ j)

/-- The keepers' return leaves the words of TIME and of GE. -/
theorem State.keeperReturn_kept (s : State) : WordsKept fromTime s s.keeperReturn := by
  have hcko (j : Nat) (hj : j < 12) : fromTime (SYN.CKO_STAT.KEEPER j).key = false :=
    decide_eq_false (show ¬0x80000 ≤ 0x60208 + j * 0x10 by omega)
  have hN : WordsKept fromTime s (if s.flag SYN.STAT.KEEPN && s.apll 1 == 3 then s.wrFlag SYN.STAT.KEEPN false else s) :=
    .ite (.wrFlag (.refl s) _ rfl) (.refl s)
  unfold State.keeperReturn
  refine .set_syn (.ite (.eachBelow (.wrFlag ?media _ rfl) 12 fun u j hj => .wrFlag (.refl u) _ (hcko j hj)) ?media)
  case media => exact .ite (.ite (.wrFlag (.wrFlag hN _ rfl) _ rfl) (.sqf hN rfl)) hN

theorem State.firstReady_fields (s : State) (n : Nat) : (s.firstReady n).rd TIME.BTICK.val = n % 2 ^ 32 ∧ (s.firstReady n).rd TIME.BNS.val = s.ns ∧
    (∀ k, 0x80000 ≤ k → k < 2 ^ 31 → k ≠ TIME.BTICK → k ≠ TIME.BNS → (s.firstReady n).word k = s.word k) ∧ (s.firstReady n).clk = s.clk ∧
    (s.firstReady n).faults = s.faults ∧ ∀ e, e < 16 → (s.firstReady n).engine e = { s.engine e with done := false } := by
  have hset := ((s.wr TIME.BTICK.val n).wr TIME.BNS.val s.ns).setEngines_frame fun x => { x with done := false }
  have htimes : Frame [.live] s ((s.wr TIME.BTICK.val n).wr TIME.BNS.val s.ns) := (State.wr_frame ..).seq (State.wr_frame ..) rfl
  have hprep : Frame [.live, .ckpt, .syn, .eim, .out] (s.firstShown n) (s.firstReady n) :=
    ((((((State.ckptForced_frame _).weaken rfl).seq (State.keeperReturn_frame _) rfl).seq (State.ncsStart_frame _) rfl).seq (State.eimTick_frame _) rfl).seq
      (State.ckptStart_frame ..) rfl)
  have hword (k : Nat) (hlo : 0x80000 ≤ k) (hhi : k < 2 ^ 31) : (s.firstReady n).word k = ((s.wr TIME.BTICK.val n).wr TIME.BNS.val s.ns).word k := by
    unfold State.firstReady
    rw [State.ckptStart_word_kept _ _ (by omega) hhi, State.word_congr ((State.eimTick_frame _).same .live rfl),
      State.word_congr ((State.ncsStart_frame _).same .live rfl), (State.keeperReturn_kept _).words k (decide_eq_true hlo),
      State.word_congr ((State.ckptForced_frame _).same .live rfl)]
    exact State.word_congr (hset.same .live rfl) k
  have hns : s.ns < 2 ^ 32 := Nat.mod_lt _ (by decide)
  refine ⟨?_, ?_, fun k hlo hhi hb hn => ?_, ?_, ?_, fun e he => ?_⟩
  · refine (State.rd_congr (hword _ (by decide) (by decide))).trans ((State.rd_wr_clear _ _ ⟨by decide, .inl (by decide)⟩).trans ?_)
    exact State.rd_wr_same _ _ _ (by decide)
  · exact (State.rd_congr (hword _ (by decide) (by decide))).trans (State.rd_wr_self _ ⟨by decide, hns⟩)
  · exact (hword k hlo hhi).trans ((State.word_wr_ne _ _ hn).trans (State.word_wr_ne _ _ hb))
  · exact (hprep.same .clk rfl).trans ((hset.same .clk rfl).trans (htimes.same .clk rfl))
  · exact (hprep.same .faults rfl).trans ((hset.same .faults rfl).trans (htimes.same .faults rfl))
  · rw [State.engine_congr (hprep.same .ge rfl)]
    refine (State.setEngines_engine _ (fun x => { x with done := false }) he).trans ?_
    rw [State.engine_congr (htimes.same .ge rfl)]

/-! ## The device held in reset (R551 to R555) -/

/-- From `s` to `t` the device was reset, and all but what R554 keeps is as at a reset. -/
structure ColdReset (s t : State) : Prop where
  held : t.boot.held = true
  words : ∀ k, k ≠ EVT.LASTFATAL → t.word k = State.reset.word k
  shadow : t.shadow = []
  pend : t.pend = []
  commit : t.commit = none
  clk : t.clk = State.reset.clk
  sxm : t.sxm = []
  dmem : t.dmem = []
  dram : t.dram = State.reset.dram
  ge : t.ge = State.reset.ge
  knl : t.knl = State.reset.knl
  flash : t.flash = s.flash
  pending : t.pending = s.pending
  fuse : s.upd.burn = [] → t.fuse = s.fuse

theorem State.holdReset_cold (s : State) : ColdReset s s.holdReset where
  held := rfl
  words _ hk := State.word_setWord_ne _ _ hk
  shadow := rfl
  pend := rfl
  commit := rfl
  clk := rfl
  sxm := rfl
  dmem := rfl
  dram := rfl
  ge := rfl
  knl := rfl
  flash := rfl
  pending := rfl
  fuse := State.holdReset_fuse

/-- A loss of power. -/
def State.powerLost (s : State) : State :=
  { s.holdReset with ret := Retention.reset, mon := Mon.reset, boot := Boot.reset }.setWord EVT.LASTFATAL 0

theorem ColdReset.powerLost (s : State) : ColdReset s s.powerLost where
  held := rfl
  words k hk := (State.word_setWord_ne _ _ hk).trans ((State.word_congr rfl k).trans (s.holdReset_cold.words k hk))
  shadow := rfl
  pend := rfl
  commit := rfl
  clk := rfl
  sxm := rfl
  dmem := rfl
  dram := rfl
  ge := rfl
  knl := rfl
  flash := rfl
  pending := rfl
  fuse := State.holdReset_fuse

/-! ## The release of reset (R553, R556) -/

/-- What the release shows: ID, STRAPS and the voltage of the I/O banks. -/
def releaseWord (j : Nat) : Bool := j == 0x0 || j == 0x10 || (decide (0x150014 ≤ j) && decide (j < 0x150024))

theorem releaseWord_iff {j : Nat} : releaseWord j = true ↔ j = 0x0 ∨ j = 0x10 ∨ (0x150014 ≤ j ∧ j < 0x150024) := by
  simp only [releaseWord, Bool.or_eq_true, beq_iff_eq, Bool.and_eq_true, decide_eq_true_eq, or_assoc]

theorem releaseWord_of_low {j : Nat} (hlo : 0x10 < j) (hhi : j < 0x150000) : releaseWord j = false := by
  rw [← Bool.not_eq_true, releaseWord_iff]
  omega

/-- The serial, the units that there are, and the engines among them. -/
def State.capsShown (s : State) (f : Fuses) : State :=
  let s := (s.setNum GLB.SERIALLO f.serial).setNum GLB.SERIALHI (f.serial / 2 ^ 32)
  let s := s.setNum GLB.UNITCAP f.unitcap
  s.wr GE.PRESENT.val (s.rd GLB.UNITCAP.ENGINES)

/-- The registers that the fuses give beside ID (R517, R520, R521, R560, R564). -/
def State.sensedRest (s : State) (f : Fuses) : State :=
  let s := s.capsShown f
  let s := if s.flag GLB.UNITCAP.PORT25G then s else (s.wr (NET.CFG.RATE 0) 2).wr (NET.CFG.RATE 1) 2
  let s := s.wr DRAM.CFG.SIZE (s.rd GLB.UNITCAP.DRAMMAX)
  let s := s.setNum SEC.LC f.lcWord
  let s := (s.wrFlag SEC.PAIRSTAT.KEY s.ret.key.isSome).wrFlag SEC.PAIRSTAT.WEAK (f.lc == 0 || f.root.isNone)
  let s := match f.seed with
    | some seed => (List.range 24).foldl (fun (s : State) i => s.setNum (SEC.ATTPUB i) (leWord (Config.attestPub seed) (4 * i))) s
    | none => s
  let s := (s.setNum PAIR.VOTESEQLO s.ret.seq).setNum PAIR.VOTESEQHI (s.ret.seq / 2 ^ 32)
  (s.wr UPD.BOOT.FAILS s.ret.fails).showRecord

theorem State.senseFuses_eq (s : State) : s.senseFuses = (s.setNum GLB.ID s.fuse.idWord).sensedRest s.fuse := rfl

theorem State.sensedRest_kept (s : State) (f : Fuses) : WordsKept releaseWord s (s.sensedRest f) := by
  have hshow (u : State) : WordsKept releaseWord u u.showRecord := ⟨fun j hj => u.showRecord_fields.2.2 j fun hr => by
    rcases hr with rfl | rfl | rfl | rfl <;> exact absurd hj (by decide)⟩
  have hpub (i : Nat) (hi : i < 24) : releaseWord (SEC.ATTPUB i) = false := releaseWord_of_low (by unfold SEC.ATTPUB; omega) (by unfold SEC.ATTPUB; omega)
  have hcaps : WordsKept releaseWord s (s.capsShown f) := .wr (.setNum (.setNum (.setNum (.refl s) _ rfl) _ rfl) _ rfl) _ rfl
  unfold State.sensedRest
  refine .comp (hshow _) (.wr (.setNum (.setNum ?_ _ rfl) _ rfl) _ rfl)
  split
  · refine .foldl (.wrFlag (.wrFlag (.setNum (.wr (.ite hcaps ?_) _ rfl) _ rfl) _ rfl) _ rfl) _ fun u i hi =>
      .setNum (.refl u) _ (hpub i (List.mem_range.mp hi))
    exact .wr (.wr hcaps _ rfl) _ rfl
  · refine .wrFlag (.wrFlag (.setNum (.wr (.ite hcaps ?_) _ rfl) _ rfl) _ rfl) _ rfl
    exact .wr (.wr hcaps _ rfl) _ rfl

/-- The banks' voltages show. -/
def State.banksShown (s : State) (banks : Nat) : State := s.eachBelow (fun s k => s.wrFlag (MON.RAIL.BANK33 (5 + k)) (bit banks k)) 4

theorem State.banksShown_flag (s : State) (banks : Nat) {k : Nat} (hk : k < 4) : (s.banksShown banks).flag (MON.RAIL.BANK33 (5 + k)) = banks.testBit k := by
  have hone (u : State) (e j : Nat) (h : j ≠ e) : (u.wrFlag (MON.RAIL.BANK33 (5 + e)) (bit banks e)).flag (MON.RAIL.BANK33 (5 + j)) =
      u.flag (MON.RAIL.BANK33 (5 + j)) :=
    State.flag_congr (State.word_wrFlag_ne _ _ (by simp only [MON.RAIL.BANK33, MON.RAIL]; omega))
  unfold State.banksShown
  rw [State.eachBelow_obs (obs := fun u j => u.flag (MON.RAIL.BANK33 (5 + j))) hone s hk,
    State.flag_wrFlag_self (f := MON.RAIL.BANK33 (5 + k)) _ _ (by show 30 + 1 ≤ 32 ∧ 0 < 1 ∧ 1 < 2; decide), bit_eq_testBit]

/-- Whether the straps name a boot source and a pair that there are. -/
def State.strapsJudged (s : State) : State :=
  s.wrFlag GLB.BOOTSTAT.STRAPERR (s.rd GLB.STRAPS.BOOT_SRC == 3 || (s.flag GLB.STRAPS.PAIR_HINT && !s.flag GLB.UNITCAP.PAIRLINK))

/-- The device out of reset, with its straps. -/
def State.strapped (s : State) (straps : Nat) : State :=
  ({ s with boot := { s.boot with held := false }, clk := { s.clk with now := 0 } } : State).setNum GLB.STRAPS (straps % 2 ^ 8 &&& 0xFB)

/-- ROM's first step is done. -/
def State.romEntered (s : State) (straps banks : Nat) : State :=
  (((s.strapped straps).senseFuses.strapsJudged.banksShown banks).eachBelow (fun s x => s.search x) 4).enterStage 1

/-- What ROM does then. -/
def State.romStarts (s : State) : State :=
  if s.fuse.lc = 4 then (s.enterStage 8).wr GLB.BOOTSTAT.HALTCAUSE 1
  else if s.fuse.torn then (s.enterStage 8).wr GLB.BOOTSTAT.HALTCAUSE 2
  else if s.openingLeft then (if s.mon.holdup then s.finishOpening else s)
  else if s.boot.hot then s
  else s.romInit

theorem exec_resetRelease {s : State} (straps banks : Nat) (h : s.boot.held = true) :
    exec (.resetRelease straps banks) s = .next (s.romEntered straps banks).romStarts := by
  show execResetRelease straps banks s = _
  unfold execResetRelease
  rw [if_pos h]
  rfl

theorem State.strapped_fields (s : State) (straps : Nat) : (s.strapped straps).word GLB.STRAPS = BitVec.ofNat 32 (straps % 2 ^ 8 &&& 0xFB) ∧
    (s.strapped straps).boot = { s.boot with held := false } ∧ (s.strapped straps).fuse = s.fuse ∧ (s.strapped straps).ret = s.ret :=
  ⟨State.word_setWord_same .., rfl, rfl, rfl⟩

theorem State.search_kept (s : State) {x : Nat} (hx : x < 4) : WordsKept releaseWord s (s.search x) :=
  .set_syn (.wr (.refl s) _ (releaseWord_of_low (show 0x10 < 0x60044 + x * 0x10 by omega) (show 0x60044 + x * 0x10 < 0x150000 by omega)))

theorem State.enterStage_kept (s : State) (n : Nat) : WordsKept releaseWord s (s.enterStage n) := .wr (.wr (.refl s) _ rfl) _ rfl

theorem State.romEntered_frame (s : State) (straps banks : Nat) : Frame [.live, .syn] (s.strapped straps) (s.romEntered straps banks) := by
  have hsense : Frame [.live, .syn] (s.strapped straps) ((s.strapped straps).senseFuses.strapsJudged) :=
    ((State.senseFuses_frame _).weaken rfl).seq (State.wrFlag_frame ..) rfl
  have hbanks : Frame [.live, .syn] (s.strapped straps) ((s.strapped straps).senseFuses.strapsJudged.banksShown banks) :=
    Frame.eachBelow 4 (fun _ _ h => h.seq (State.wrFlag_frame ..) rfl) hsense
  exact (Frame.eachBelow 4 (fun _ _ h => h.seq (State.search_frame ..) rfl) hbanks).seq (State.enterStage_frame ..) rfl

theorem State.romEntered_fields (s : State) (straps banks : Nat) : let t := s.romEntered straps banks
    t.word GLB.STRAPS = BitVec.ofNat 32 (straps % 2 ^ 8 &&& 0xFB) ∧ t.word GLB.ID = BitVec.ofNat 32 s.fuse.idWord ∧
    (∀ k, k < 4 → t.flag (MON.RAIL.BANK33 (5 + k)) = banks.testBit k) ∧ t.boot = { s.boot with held := false } ∧ t.fuse = s.fuse ∧ t.ret = s.ret := by
  obtain ⟨hstraps, hboot, hfuse, hret⟩ := s.strapped_fields straps
  have hframe := s.romEntered_frame straps banks
  have hsensed : WordsKept releaseWord ((s.strapped straps).setNum GLB.ID (s.strapped straps).fuse.idWord) (s.strapped straps).senseFuses :=
    (s.strapped straps).senseFuses_eq ▸ State.sensedRest_kept ..
  have hlast (k : Nat) (hk : releaseWord k = true) : (s.romEntered straps banks).word k =
      ((s.strapped straps).senseFuses.strapsJudged.banksShown banks).word k :=
    (WordsKept.comp (State.enterStage_kept _ 1) (.eachBelow (.refl _) 4 fun u x hx => u.search_kept hx)).words k hk
  have hearly (k : Nat) (hk : releaseWord k = true) (hlow : k < 0x150000) :
      (s.romEntered straps banks).word k = ((s.strapped straps).setNum GLB.ID (s.strapped straps).fuse.idWord).word k := by
    have hbanks : WordsKept (fun j => releaseWord j && decide (j < 0x150000)) (s.strapped straps).senseFuses
        ((s.strapped straps).senseFuses.strapsJudged.banksShown banks) :=
      .eachBelow (.wrFlag (.refl _) _ rfl) 4 fun u k _ => .wrFlag (.refl u) _ (by
        rw [Bool.and_eq_false_iff]
        exact .inr (decide_eq_false (show ¬0x150000 + (5 + k) * 0x4 < 0x150000 by omega)))
    exact (hlast k hk).trans ((hbanks.words k (by rw [hk, decide_eq_true hlow]; rfl)).trans (hsensed.words k hk))
  refine ⟨?_, ?_, fun k hk => ?_, (hframe.same .boot rfl).trans hboot, (hframe.same .fuse rfl).trans hfuse, (hframe.same .ret rfl).trans hret⟩
  · exact (hearly _ rfl (by decide)).trans ((State.word_setNum_ne _ _ (by decide)).trans hstraps)
  · exact (hearly _ rfl (by decide)).trans (State.word_setWord_same ..)
  · refine (State.flag_congr (hlast _ (releaseWord_iff.mpr (.inr (.inr ?_))))).trans (State.banksShown_flag _ _ hk)
    exact (show 0x150014 ≤ 0x150000 + (5 + k) * 0x4 ∧ 0x150000 + (5 + k) * 0x4 < 0x150024 by omega)

/-! ## ROM starts, or the device halts (R539, R543, R545, R556) -/

/-- From `s` to `t` ROM has gone on to stage `n`. -/
structure RomAt (n : Nat) (s t : State) : Prop where
  stage : t.stage = n
  words : WordsKept releaseWord s t
  held : t.boot.held = s.boot.held
  fuse : t.fuse = s.fuse
  ret : t.ret = s.ret

theorem RomAt.halted (s : State) {c : Nat} (hc : c < 16) : RomAt 8 s ((s.enterStage 8).wr GLB.BOOTSTAT.HALTCAUSE c) ∧
    ((s.enterStage 8).wr GLB.BOOTSTAT.HALTCAUSE c).rd GLB.BOOTSTAT.HALTCAUSE = c := by
  obtain ⟨hstage, -, hframe⟩ := s.enterStage_fields (n := 8) (by decide)
  have hall : Frame [.live] s ((s.enterStage 8).wr GLB.BOOTSTAT.HALTCAUSE c) := hframe.seq (State.wr_frame ..) rfl
  exact ⟨⟨(State.rd_wr_clear _ _ (by unfold Fld.clear; decide)).trans hstage, .wr (s.enterStage_kept 8) _ rfl,
    congrArg Boot.held (hall.same .boot rfl), hall.same .fuse rfl, hall.same .ret rfl⟩, State.rd_wr_self _ ⟨by decide, hc⟩⟩

theorem RomAt.enterStage (s : State) {n : Nat} (hn : n < 16) : RomAt n s (s.enterStage n) := by
  obtain ⟨hstage, -, hframe⟩ := s.enterStage_fields hn
  exact ⟨hstage, s.enterStage_kept n, congrArg Boot.held (hframe.same .boot rfl), hframe.same .fuse rfl, hframe.same .ret rfl⟩

theorem RomAt.recoveryMode (s : State) : RomAt 5 s s.recoveryMode ∧ s.recoveryMode.flag UPD.STAT.RECOVERY = true := by
  obtain ⟨hstage, hflag, hframe⟩ := s.recoveryMode_fields
  exact ⟨⟨hstage, .comp (State.enterStage_kept _ 5) (.wrFlag (.refl s) _ rfl), congrArg Boot.held (hframe.same .boot rfl), hframe.same .fuse rfl,
    hframe.same .ret rfl⟩, hflag⟩

/-- The stage that BOOT_SRC and the failed boots give (R539, R553). -/
def bootStage (src fails : Nat) : Nat := if src = 1 then 4 else if src = 0 ∧ fails ≠ 3 then 2 else 5

theorem State.romInit_at (s : State) : RomAt (bootStage (s.rd GLB.STRAPS.BOOT_SRC) s.ret.fails) s s.romInit ∧
    (s.romInit.stage = 5 → s.romInit.flag UPD.STAT.RECOVERY = true) := by
  have hbooted {n : Nat} {t : State} (h : RomAt n (s.withBoot { s.boot with ready := true, hot := false }) t) : RomAt n s t :=
    ⟨h.stage, .comp h.words (.of_frame (s.withBoot_frame _) rfl), h.held, h.fuse, h.ret⟩
  have hsrc : (s.withBoot { s.boot with ready := true, hot := false }).rd GLB.STRAPS.BOOT_SRC = s.rd GLB.STRAPS.BOOT_SRC :=
    State.rd_congr (s.word_withBoot _ _)
  have heq : s.romInit = match (s.withBoot { s.boot with ready := true, hot := false }).rd GLB.STRAPS.BOOT_SRC with
    | 0 => if s.ret.fails = 3 then (s.withBoot { s.boot with ready := true, hot := false }).recoveryMode
      else (s.withBoot { s.boot with ready := true, hot := false }).enterStage 2
    | 1 => (s.withBoot { s.boot with ready := true, hot := false }).enterStage 4
    | _ => (s.withBoot { s.boot with ready := true, hot := false }).recoveryMode := rfl
  obtain ⟨hrecovery, hflag⟩ := RomAt.recoveryMode (s.withBoot { s.boot with ready := true, hot := false })
  have htwo := RomAt.enterStage (s.withBoot { s.boot with ready := true, hot := false }) (n := 2) (by decide)
  have hfour := RomAt.enterStage (s.withBoot { s.boot with ready := true, hot := false }) (n := 4) (by decide)
  rw [hsrc] at heq
  rw [heq]
  split
  · next h =>
    by_cases hfails : s.ret.fails = 3
    · rw [if_pos hfails, h, hfails]
      exact ⟨hbooted hrecovery, fun _ => hflag⟩
    · have hstage : bootStage (s.rd GLB.STRAPS.BOOT_SRC) s.ret.fails = 2 := by simp [bootStage, h, hfails]
      rw [if_neg hfails, hstage]
      exact ⟨hbooted htwo, fun hfive => absurd (htwo.stage.symm.trans hfive) (by decide)⟩
  · next h =>
    rw [h]
    exact ⟨hbooted hfour, fun hfive => absurd (hfour.stage.symm.trans hfive) (by decide)⟩
  · next hzero hone =>
    have hstage : bootStage (s.rd GLB.STRAPS.BOOT_SRC) s.ret.fails = 5 := by
      unfold bootStage
      rw [if_neg hone, if_neg fun h => hzero h.1]
    rw [hstage]
    exact ⟨hbooted hrecovery, fun _ => hflag⟩

/-- Where ROM goes from its first step, with no opening and no hot fuse read left. -/
theorem State.romStarts_at {s : State} (hleft : s.openingLeft = false) (hhot : s.boot.hot = false) :
    RomAt (if s.fuse.lc = 4 ∨ s.fuse.torn = true then 8 else bootStage (s.rd GLB.STRAPS.BOOT_SRC) s.ret.fails) s s.romStarts ∧
    (s.fuse.lc = 4 → s.romStarts.rd GLB.BOOTSTAT.HALTCAUSE = 1) ∧
    (s.fuse.lc ≠ 4 → s.fuse.torn = true → s.romStarts.rd GLB.BOOTSTAT.HALTCAUSE = 2) ∧
    (s.romStarts.stage = 5 → s.romStarts.flag UPD.STAT.RECOVERY = true) := by
  unfold State.romStarts
  by_cases hretired : s.fuse.lc = 4
  · obtain ⟨hat, hcause⟩ := RomAt.halted s (c := 1) (by decide)
    rw [if_pos (.inl hretired), if_pos hretired]
    exact ⟨hat, fun _ => hcause, fun hne => absurd hretired hne, fun hfive => absurd (hat.stage.symm.trans hfive) (by decide)⟩
  · by_cases htorn : s.fuse.torn = true
    · obtain ⟨hat, hcause⟩ := RomAt.halted s (c := 2) (by decide)
      rw [if_pos (.inr htorn), if_neg hretired, if_pos htorn]
      exact ⟨hat, fun h => absurd h hretired, fun _ _ => hcause, fun hfive => absurd (hat.stage.symm.trans hfive) (by decide)⟩
    · obtain ⟨hat, hflag⟩ := s.romInit_at
      rw [if_neg (not_or.mpr ⟨hretired, htorn⟩), if_neg hretired, if_neg htorn, if_neg (ne_true_of_eq_false hleft), if_neg (ne_true_of_eq_false hhot)]
      exact ⟨hat, fun h => absurd h hretired, fun _ h => absurd h htorn, hflag⟩

/-! ## The obligation -/

/-- Settles O58: a reset's state, ROM's way from the release of reset, and the first tick are each written out. -/
theorem resetsAndTheFirstTick : Obligations.ResetsAndTheFirstTick := by
  unfold Obligations.ResetsAndTheFirstTick
  intro straps banks n s word src cold
  have hcold {t : State} (h : ColdReset s t) : cold t :=
    ⟨h.held, h.words, h.shadow, h.pend, h.commit, h.clk, h.sxm, h.dmem, h.dram, h.ge, h.knl, h.flash, h.pending, h.fuse⟩
  refine ⟨⟨_, rfl, hcold s.holdReset_cold, State.word_setWord_same .., rfl, rfl⟩,
    ⟨s.powerLost, rfl, hcold (.powerLost s), State.word_setWord_same .., rfl, rfl⟩, fun hheld hleft hhot => ?release,
    fun hready hphase h2 h3 hfirst => ⟨_, exec_firstTick hready hphase h2 h3 hfirst, ?first⟩⟩
  case release =>
    obtain ⟨hstraps, hid, hbanks, hboot, hfuse, hret⟩ := s.romEntered_fields straps banks
    obtain ⟨hat, hretired, htorn, hrecovery⟩ := State.romStarts_at (s := s.romEntered straps banks)
      (by rw [State.openingLeft, hfuse]; exact hleft) (by rw [hboot]; exact hhot)
    have hsrc : (s.romEntered straps banks).rd GLB.STRAPS.BOOT_SRC = src := congrArg GLB.STRAPS.BOOT_SRC.ext hstraps
    have hword (k : Nat) (hk : releaseWord k = true) := hat.words.words k hk
    refine ⟨_, exec_resetRelease straps banks hheld, hat.held.trans (by rw [hboot]), (hword _ rfl).trans hstraps, (hword _ rfl).trans hid,
      hat.fuse.trans hfuse, hat.ret.trans hret, fun k hk => (State.flag_congr (hword _ (releaseWord_iff.mpr (.inr (.inr ?_))))).trans (hbanks k hk),
      hat.stage.trans ?_, fun h => hretired (by rw [hfuse]; exact h), fun hne h => htorn (by rw [hfuse]; exact hne) (by rw [hfuse]; exact h), hrecovery⟩
    · exact (show 0x150014 ≤ 0x150000 + (5 + k) * 0x4 ∧ 0x150000 + (5 + k) * 0x4 < 0x150024 by omega)
    · rw [hfuse, hret, hsrc]
      rfl
  case first =>
    obtain ⟨hbtick, hbns, hwords, hclk, hfaults, hengine⟩ := s.firstReady_fields n
    obtain ⟨htick, hnow, hgathered, hshown, hns, hstarts⟩ := (s.firstReady n).beginTick_fields n []
    refine ⟨htick, hnow.trans (by rw [hclk]), hgathered, hshown.trans hbtick, hns.trans hbns, fun hreplay hrestarts e he hpresent hleads hidle _ => ?_,
      execFirstTick_frame s _ (exec_firstTick hready hphase h2 h3 hfirst)⟩
    have hge (k : Nat) (hlo : 0xE0000 ≤ k) (hhi : k < 0xF0000) : (s.firstReady n).word k = s.word k :=
      hwords k (by omega) (by omega) (by unfold TIME.BTICK; omega) (by unfold TIME.BNS; omega)
    have hpc : (s.firstReady n).rd (GE.ENTRY.val e) = s.rd (GE.ENTRY.val e) :=
      State.rd_congr (hge _ (show 0xE0000 ≤ 0xE0104 + e * 0x40 by omega) (show 0xE0104 + e * 0x40 < 0xF0000 by omega))
    have hready : StartsProgram e (s.setEngine e { s.engine e with done := false }) := by
      refine ⟨hpresent, hleads, ?_, ?_, ?_⟩
      · rw [State.engine_setEngine_same]
        exact hidle
      · rw [State.engine_setEngine_same]
      · show (s.faults.replay == some true || s.faults.restarts.any _) = false
        rw [hreplay, hrestarts]
        rfl
    rw [← hpc]
    refine hstarts e he (hready.congr ((hengine e he).trans (State.engine_setEngine_same ..).symm) (fun k hk => ?_) hfaults)
    rcases hk with rfl | rfl
    · exact hge _ (by decide) (by decide)
    · exact hge _ (by decide) (by decide)

end Sys2Proof.Machine
end
